-- ==== Sys2Proof/Word.lean ====
section
/-!
DEFINITION. Sys2Proof/Word.lean: the word and byte types, the shape of a register field and of a row of the register
table.
-/
namespace Sys2Proof

/-- R483: every bus access is one aligned 32-bit word. -/
abbrev Word := BitVec 32
/-- A byte of a memory, a frame or a message. -/
abbrev Byte := BitVec 8
/-- A sparse map in one canonical form: keys strictly rising, no entry equal to what an unlisted key reads as. -/
abbrev Cells (α : Type) := List (Nat × α)

/-- A field of a register: the register's address, the field's lowest bit and its width in bits. -/
structure Field where
  addr : Nat
  lo : Nat
  width : Nat
deriving DecidableEq, Repr

/-- A row of the register table: the first address, up to two index strides and counts, the reset value, and the masks
of the RW, RWS, W1C and WO bits (Table 0-4). -/
structure RegRow where
  base : Nat
  stride1 : Nat
  count1 : Nat
  stride2 : Nat
  count2 : Nat
  reset : Nat
  rw : Nat
  rws : Nat
  w1c : Nat
  wo : Nat
deriving DecidableEq, Repr

end Sys2Proof
end

