-- ==== Sys2Proof/Syntax.lean ====
section
/-!
DEFINITION. Sys2Proof/Syntax.lean: the commands of the part, one constructor for each row of the spec's table of
operations and events, with the operand types they carry.  A command is a write or a transaction that reaches the part,
a frame on one of its buses, an edge on a pin, or an instant of the part's own that its rule describes (log entry 1).
-/
namespace Sys2Proof

/-- Ordinary 64-bit and 16-bit words of messages. -/
abbrev Dword := BitVec 64

/-- R398: the two external clock sources. -/
inductive ExtSource | reference | crystal
deriving DecidableEq, Repr

/-- R412: the two supplies with power-on detectors. -/
inductive Supply | aon | um
deriving DecidableEq, Repr

/-- R444: the three management paths; LAN A and LAN B count as one. -/
inductive Path | lan | mgmt | spi
deriving DecidableEq, Repr

/-- The envelope of a management request (Table 18-1), with the address it came from.  The body is the command's own
operands, in the layout of its table; `len` and `mac` are what the message claims. -/
structure Req where
  path : Path
  srcIp : Word
  srcPort : BitVec 16
  ver : Byte
  member : Byte
  session : Word
  tseq : Word
  len : BitVec 16
  mac : List Byte
deriving DecidableEq, Repr
/-- A task as the region sections hold it (R62, R64): its header entry (Table 3-2), its operation entries (Table 3-3), the
tasks its successor lists name (Table 3-5), the banks it uses, the reserved areas of its scattered operands (R74) as
element address and length, and whether it is one of Zorfen's test tasks (R264). -/
structure TaskDef where
  header : BitVec 128
  ops : List (BitVec 128)
  succ : List (Fin 4096)
  banks : BitVec 8
  areas : List (Nat × Nat)
  test : Bool
deriving DecidableEq, Repr

/-- Where an invalid codeword or a missing acknowledge is seen (Table 2-2, R228, R241, R242).  Clusters are numbered
q = 16d + 4r + c and regions g = 4d + r. -/
inductive FaultSite
  /-- a unit stage, or a bank port input driven by a unit -/
  | unit (q : Fin 32) (u : Fin 8)
  /-- a bank port input driven by the pip mover, or the pip-store port -/
  | pipMover (q : Fin 32)
  /-- a bank port output -/
  | bankOutput (q : Fin 32) (b : Fin 8)
  /-- a bank port input driven by the region bridge, or an egress input -/
  | regionBridge (g : Fin 8)
  /-- the bridge between an Ochre die and Umber -/
  | umberBridge (d : Fin 2)
  /-- bridge 2, between the Ochre dies -/
  | ochreBridge
deriving DecidableEq, Repr

/-- What the error check of a memory finds on a word of a management read (R48, R49). -/
inductive ReadEcc | clean | corrected | uncorrectable
deriving DecidableEq, Repr

/-- What the error check of a memory finds on a read (R48). -/
inductive EccResult
  | clean
  | corrected
  | badBank (b : Fin 8)
  | badPipOrTable
  | badRegionMemory
deriving DecidableEq, Repr

/-- A port of the one arbiter design (R50): bank b of cluster q, or the egress of region g. -/
inductive ArbPort
  | bank (q : Fin 32) (b : Fin 8)
  | egress (g : Fin 8)
deriving DecidableEq, Repr

/-- One link of a wait chain (R59): the resource waited for (Table 2-19) and the task that waits for it. -/
structure WaitLink where
  resource : BitVec 16
  task : Fin 4096
  /-- The instance of the task, and the place of the request in the order of issue (R58). -/
  number : Nat
  issued : Nat
deriving DecidableEq, Repr

/-- A block of region memory (R238): the region of the tasks whose data it holds, the region of their alternates, its byte offset
and length in either, and whether it is SOLVER (otherwise CARRIED or FRAME). -/
structure MemBlock where
  home : Nat
  alt : Nat
  off : Nat
  len : Nat
  solver : Bool
deriving DecidableEq, Repr

/-- What the region sections hold beyond memory contents (R430): tasks, spare counts, dispatch and arbiter registers as
(address, word) pairs, memory records as (address, word) pairs. -/
structure RegionCfg where
  tasks : List TaskDef
  spares : List Nat            -- by region g, 0 to 4 (R14)
  regs : List (Nat × Word)
  memory : List (Nat × Word)
  blocks : List MemBlock
  /-- The solver instances whose tasks run in each region, as (region g, instance) pairs (R173). -/
  solvers : List (Nat × Nat)
deriving DecidableEq, Repr
/-- The KEYS section (Table 17-4): management keys of members 0, 1, 2 and of a stand-alone part, and the group key. -/
structure KeysCfg where
  mgmt : List (List Byte)
  group : List Byte
deriving DecidableEq, Repr

/-- The RECORDER section (R475, R477). -/
structure RecorderCfg where
  classMask : Word
  timeRecS : Nat
deriving DecidableEq, Repr

/-- A channel that exists from start-up (R460): its type, index, class (0 TIMED, 1 FRAME, 2 PERIOD, 3 UMBER, Table 9-4)
and the task that feeds it. -/
structure ChannelDecl where
  typ : Nat
  index : Nat
  cls : Nat
  task : Option Nat
deriving DecidableEq, Repr

/-- The CHANNELS section (R460): the channels that exist from start-up, and for each type and index whether it is
declared in its function's section, so that CH_CREATE may create it. -/
structure ChannelsCfg where
  live : List ChannelDecl
  declared : List (Nat × Nat)
  maxima : List (Nat × Nat)
deriving DecidableEq, Repr

/-- One step of an adoption as it ends (R440, R441): done, or halted with a HALT_CODE of Table 17-11. -/
inductive AdoptOutcome | done | inUse | loadFail | waitSafe
deriving DecidableEq, Repr
/-- One source of the fusion section, or a target (R82 to R92, R99, R105). -/
structure SrcCfg where
  declared : Bool
  latNs : Nat
  xlimNs : Nat
  ownClock : Bool
  pps : Option Nat
  absolute : Bool
  /-- The square of NOISE_LIM, mm². -/
  noiseVar : Rat
  /-- The declared bound of its position error, m, which gives the format of its comparison (R77, R106). -/
  errBound : Rat
  /-- FROZEN_T (R105). -/
  frozenNs : Nat
  /-- A satellite compass that the section declares as an absolute heading source (R112). -/
  compass : Bool
  /-- The MRU group: an MRU's own, or the one whose roll and pitch correct a position reference's lever arm (R92, log entry 124). -/
  group : Nat
  /-- The lever arm from the vessel reference point, forward, starboard and down, m (R92, R146). -/
  lever : Rat × Rat × Rat
  /-- A priori variance by quality indicator (R89). -/
  variances : List Rat
  /-- Shadow sectors of a wind sensor, 2⁻¹⁶ turn (R99). -/
  shadow : List (Nat × Nat)
deriving DecidableEq, Repr

/-- One calibration state (R110): source slot, row of Table 4-6 (0 lever arm, 1 bias, 2 heading offset, 3 mounting),
element, bounds and initial value, µm or 10⁻⁶°. -/
structure CalCfg where
  slot : Nat
  state : Nat
  elem : Nat
  lo : Int
  hi : Int
  init : Int
  /-- Process noise per second and initial variance, (m or rad)². -/
  noise : Rat
  p0 : Rat
deriving DecidableEq, Repr

/-- The observer's model in the FUSION section (R99 to R102, R156): M and D row by row in SI units about the vessel reference
point, the wave oscillators' peak frequency (rad/s) and damping by axis, T_b in s, the process noise per second and the
initial variances of the fifteen states of Table 4-5, the wind table (relative direction in turns; force in N and moment in
N·m at 1 m/s), EPS_PIV and DELTA_PIV (log entry 125); Bolek's formats for the image, as fraction counts: of the 63 states of a
FUSED block and of the 168 covariances of a COV block (R261). -/
structure ObsCfg where
  mass : List (List Rat)
  damp : List (List Rat)
  waveW : List Rat
  waveZ : List Rat
  tb : Rat
  noise : List Rat
  p0 : List Rat
  wind : List (Rat × Rat × Rat × Rat)
  epsPiv : Rat
  deltaPiv : Rat
  fmt : List Nat
  covFmt : List Nat
deriving DecidableEq, Repr

/-- The FUSION section (Tables 4-4, 4-8, 4-12).  Bands are in the units of Table 13-5. -/
structure FusCfg where
  src : List SrcCfg              -- by slot, 28
  gate : Rat
  gateN : Nat
  medianLimMm : Nat
  wcap : Rat
  refMin : Nat
  refSet : Nat
  bandHdg : Nat
  bandRp : Nat
  bandHeave : Nat
  bandWs : Nat
  bandWd : Nat
  sigPosSet : Nat                -- mm
  sigPsiSet : Nat                -- 0.001°
  sigVelSet : Nat                -- 0.1 mm/s
  envMax : Int × Int × Int
  /-- REJ_HOLD (R108). -/
  rejHoldNs : Nat
  obs : ObsCfg
  cal : List CalCfg
  originRadiusMm : Nat
  /-- The schedule task whose type 0xE channel carries the epoch record. -/
  channel : Nat
deriving DecidableEq, Repr

/-- A waypoint of a track table (R135, Table 18-3): mm, mm/s, rule (0 ALONG, 1 FIXED), 2⁻³² turn. -/
structure Waypoint where
  n : Int
  e : Int
  speed : Nat
  rule : Nat
  psi : Nat
deriving DecidableEq, Repr

/-- A parameter record of a section (R428, Table 17-5): CH, TBL, ROW, KIND, ELEM, VALUE and its blob. -/
structure ParamRec where
  ch : Nat
  tbl : Nat
  row : Nat
  kind : Nat
  elem : Nat
  value : Nat
  blob : List Byte
deriving DecidableEq, Repr

/-- The weights of the MPC (R126, R127): a stiffness from 1 to 10 for each axis, or the expert matrices Q_p, Q_v, R and R_Δ, and
Q_T for the terminal weights of position and velocity where it is given. -/
inductive MpcWeights
  | stiffness (x y n : Nat)
  | expert (qp qv r rd : List (List Rat)) (qt : Option (List (List Rat) × List (List Rat)))
deriving DecidableEq, Repr

/-- The parameters of one solver class (R174, Table 6-6), with what Bolek fixes for the image: the elimination order (R150) and
the scales of variables, rows and cost (R152; an unlisted scale is 1). -/
structure SlvCfg where
  barrier : Bool
  rho : Rat
  sigma : Rat
  alpha : Rat
  muShrink : Rat
  stepFrac : Rat
  wp : Rat
  wd : Rat
  tol : Rat
  maxIter : Nat
  epsPiv : Rat
  deltaPiv : Rat
  groupTimeMs : Nat
  order : List Nat
  xScale : List Rat
  rowScale : List Rat
  costScale : Rat
deriving DecidableEq, Repr

/-- A control parameter of chapter 5 that an overlay sets (R431). -/
inductive CtlParam
  | weights (w : MpcWeights)
  | vMax (v : Rat × Rat × Rat)
  | aMax (a : Rat × Rat × Rat)
  | joyGain (g : Rat × Rat × Rat)
  | windFf (x : Rat)
  | capFrac (x : Rat)
  | pmsFallback (x : Rat)
  | planOldMs (n : Nat)
  | wvTau (x : Rat)
  | wvFmin (n : Nat)
  | spStep (mm psi : Nat)
  | trkCaptureMm (n : Nat)
  | compLeadNs (n : Nat)
  | compExitMs (n : Nat)
  | srcTimeoutMs (n : Nat)
  | srcRampMs (n : Nat)
deriving DecidableEq, Repr

/-- A mode overlay (R32, R432): the register fields it sets, as (address, word) pairs, the loops it changes with their
register values, and whether TRIALS may run with live actuators (R35). -/
structure Overlay where
  mode : Nat
  regs : List (Nat × Word)
  loops : List (Nat × List (Nat × Word))
  liveActuators : Bool
  /-- The control parameters that it sets, and its NUMBER records (R431). -/
  ctl : List CtlParam
  params : List ParamRec
  /-- TRIALS: the mode whose control and allocation it takes (Table 5-6: as the overlay sets), and the sources that simulated or
  injected sensors replace: the declared slot and the slot that stands in for it (R138). -/
  acts : Nat
  replaced : List (Nat × Nat)
deriving DecidableEq, Repr

/-- A mooring line (R145): fairlead in the body frame and anchor in the local frame, mm, its chain and its winch loop. -/
structure LineCfg where
  fx : Int
  fy : Int
  an : Int
  ae : Int
  chain : Nat
  loop : Nat
deriving DecidableEq, Repr

/-- A compensation loop (R146): its servo loop, its point in the body frame (mm forward, starboard, down), the MRU group that it
uses and the point of that MRU, and its park value. -/
structure CompCfg where
  loop : Nat
  x : Int
  y : Int
  z : Int
  group : Nat
  mruX : Int
  mruY : Int
  mruZ : Int
  park : Int
deriving DecidableEq, Repr

/-- The CONTROL section (R123 to R146). -/
structure CtlCfg where
  /-- QHEAD (R77). -/
  qhead : Nat
  /-- The base weights (R126, R127) and those of AUTO_POSITION that a shadow plan uses (R120). -/
  weights : MpcWeights
  slv : SlvCfg
  /-- WEATHERVANE: the pivot point in the body frame, mm (R137). -/
  pivot : Rat × Rat
  capFrac : Rat
  pmsFallback : Rat
  planOldMs : Nat
  windFf : Rat
  /-- The emission time, ns after frame start (R26). -/
  emitNs : Nat
  wvTau : Rat                    -- s
  joyGain : Rat × Rat × Rat
  spStepMm : Nat
  spStepPsi : Nat
  speedMax : Int                 -- µm/s, declared service speed
  vMax : Rat × Rat × Rat         -- reference-model limits: N and E in mm/s, heading in 2⁻³² turn/s
  aMax : Rat × Rat × Rat
  trkCaptureMm : Nat
  target : Option Nat            -- type 0xC channel used
  joystick : Option Nat          -- type 0xD channel used
  lever : Option Nat             -- type 0xD channel used
  targets : List SrcCfg
  wvFmin : Nat                   -- N
  compLeadNs : Nat
  compExitMs : Nat
  srcTimeoutMs : Nat
  srcRampMs : Nat
  lines : List LineCfg
  comps : List CompCfg
  compInput : Option Nat         -- digital input "compensation engaged"
  overlays : List Overlay
  /-- The schedule task whose type 0xE channel carries the plan record, and the control status word. -/
  planChannel : Nat
  statusChannel : Nat
deriving DecidableEq, Repr
/-- The thruster kinds of Table 7-1. -/
inductive ThrKind | tunnel | azimuth | retractable | cycloidal
deriving DecidableEq, Repr

/-- A thruster of the allocation section (R177 to R193).  Angles in degrees, thrust in N, position in mm, power in kW. -/
structure ThrCfg where
  kind : ThrKind
  x : Int
  y : Int
  tMax : Int
  tRev : Int
  tDot : Rat                     -- N/s
  tau : Rat                      -- s, the thrust time constant (R121)
  /-- Expert form: W_T,i and ALC_SMOOTH of this thruster (R189). -/
  wT : Option Rat
  smooth : Option Rat
  drvTimeoutNs : Nat
  pMax : Nat
  section_ : Nat
  omega : Rat                    -- °/s
  wsWidth : Rat
  wsHyst : Rat
  slewT : Rat
  azMinT : Rat
  forbidden : List (Rat × Rat)
  reduced : List (Rat × Rat × Rat)
  etaTable : List (Rat × Rat)    -- |u| in m/s, η
  driveTable : List (Rat × Rat)  -- thrust in N, drive command in 0.01 %
  azLoop : Option Nat
  pitchLoop : Option Nat
  deployed : Option Nat          -- digital input
  safeThrust : Int
  safeAz : Nat
  safeDrive : Int
  window : Rat × Rat             -- window at start-up
deriving DecidableEq, Repr

/-- A failure group (R196): thruster, section, reference and heading masks. -/
structure GroupCfg where
  thr : Word
  sect : Byte
  refs : BitVec 16
  hdg : BitVec 4
deriving DecidableEq, Repr

/-- The ALLOCATION section (R203, Table 7-9), with the solver parameters of classes 1 and 2. -/
structure AlcCfg where
  thr : List ThrCfg
  groups : List GroupCfg
  smooth : Rat
  wS : Rat
  cqStaleNs : Nat
  shared : Bool
  powerMargin : Rat
  shortTol : Rat
  cqScale : Rat
  cqDeg : Rat
  cqFloor : Rat
  channel : Nat
  slvAlloc : SlvCfg
  slvConseq : SlvCfg
deriving DecidableEq, Repr
/-- The ALLOC binding of a loop (R216): a thruster's azimuth, a thruster's drive through a gain and an offset, or a compensation
loop's value. -/
inductive LoopBind
  | azimuth (i : Nat)
  | drive (i : Nat) (gain : Rat) (offset : Int)
  | comp (j : Nat)
deriving DecidableEq, Repr

/-- A declared loop of the servo section beside its registers (R205, R216): its binding and its safe set-point (R138). -/
structure LoopCfg where
  bind : Option LoopBind
  safe : Int
deriving DecidableEq, Repr
/-- The Silhar fields of the NETWORK section (R255, R257): GROUP_SIZE, the group destination MAC address, and the part's own
source address (log entry 45). -/
structure GrpCfg where
  size : Nat
  mac : BitVec 48
  own : BitVec 48
deriving DecidableEq, Repr
/-- R278: the two safety technologies. -/
inductive Tech | slate | cobalt
deriving DecidableEq, Repr

/-- Table 11-1: function types. -/
inductive FnType | eStop | guard | twoHand | lightCurtain | reset
deriving DecidableEq, Repr

/-- A declared safety function (Table 11-2).  T_F, T_D and T_C1 time the commands that carry their expiry. -/
structure FnCfg where
  typ : FnType
  inp : Nat
  /-- RESET: the channel is B. -/
  chB : Bool
  anti : Bool
  cat1 : Bool
  auto : Bool
  resetIn : Option Nat
  tpA : Option Nat
  tpB : Option Nat
  pairs : BitVec 16
  owner : Nat
deriving DecidableEq, Repr

/-- A function table as the Slate or the Cobalt section holds it (R288): functions 0 to 31, each pair's thruster mask and
off-pulse enable, each TP output's owner, and the CRC-32C of the table. -/
structure SafetyCfg where
  fns : List (Option FnCfg)
  thr : List Word
  opt : List Bool
  tpOwner : List Nat
  crc : Word
deriving DecidableEq, Repr
/-- A frame on a CAN bus (R307, Table 12-7). -/
structure CanFrame where
  id : BitVec 29
  ide : Bool
  fdf : Bool
  brs : Bool
  esi : Bool
  remote : Bool
  data : List Byte
deriving DecidableEq, Repr

/-- What the declared format of a source reads from a record, a sentence or an item: values in the units of Table 13-5, the
quality (0 invalid, R89), and the source's own time, if it carries one (R86).  The formats are the sections'. -/
structure Reading where
  vals : List Int
  qual : Nat
  srcTime : Option Int
deriving DecidableEq, Repr

/-- R75, R163: status flags of the operations of an iteration's tasks that the stored vectors do not show: SAT_OWN or ACC_SAT_OWN,
and DOMAIN_OWN (log entry 137). -/
structure OwnFlags where
  sat : Bool := false
  domain : Bool := false
deriving DecidableEq, Repr

/-- How a transmission ends (R313, R325): acknowledged, an ACK error, another error with its ERR code and phase, or lost
arbitration. -/
inductive CanTxEnd
  | acked
  | noAck
  | error (code : Fin 8) (fast : Bool)
  | lostArbitration
deriving DecidableEq, Repr

/-- The CAN section of one controller beside its registers: the mode, DET_NEXT, the candidate timings of DETECT as ARBTIM
words, and whether its pair is DUPLICATED (R312, R317). -/
structure CanCfg where
  mode : Nat
  detNext : Nat
  candidates : List Word
  duplicated : Bool
deriving DecidableEq, Repr
/-- Kinds of received Ethernet frames that the port itself tells apart (R335, R342). -/
inductive EthKind | data | supervision | ptp | pause | badFcs
deriving DecidableEq, Repr

/-- A received Ethernet frame (R337, R338): source, VLAN identifier if tagged, redundancy trailer sequence number if
present, CRC-32 of the LSDU, length in bytes. -/
structure EthRx where
  src : BitVec 48
  vid : Option (BitVec 12)
  trailer : Option (BitVec 16)
  crc : Word
  len : Nat
  kind : EthKind
deriving DecidableEq, Repr

/-- One item of a SENSOR frame (R351). -/
structure SensorItem where
  kind : Byte
  index : Byte
  qual : Byte
  dt : Int
  body : List Byte
deriving DecidableEq, Repr

/-- A channel declared to travel in output frames, with its egress (MGMT or the pair) and destination (R350). -/
structure NetOut where
  typ : Nat
  index : Nat
  mgmt : Bool
  dest : BitVec 48
deriving DecidableEq, Repr

/-- A SENSOR binding (R351): port, SENDER, KIND and INDEX to a channel type and index (type 0 for the power channel). -/
structure SensorBind where
  port : Nat
  sender : Nat
  kind : Nat
  index : Nat
  typ : Nat
  chan : Nat
deriving DecidableEq, Repr

/-- The NETWORK section beside the port registers (R337, R347 to R351). -/
structure NetCfg where
  vids : List (List (BitVec 12))      -- by port
  ethertype : BitVec 16
  outputs : List NetOut
  sensors : List SensorBind
  /-- IEC 61162-450 sources: the s: parameter, and the channel type and index it is bound to. -/
  e450Sources : List (List Byte × Nat × Nat)
  ownSource : List Byte
  talker : List Byte
  e450Dest : BitVec 48
deriving DecidableEq, Repr
/-- The attributes of a PTP master that best-master selection compares (R363): IEEE 1588 order. -/
structure PtpDataset where
  priority1 : Nat
  clockClass : Nat
  accuracy : Nat
  variance : Nat
  priority2 : Nat
  identity : Dword
  steps : Nat
deriving DecidableEq, Repr

/-- A received PTP message (R363, Table 14-3).  Times are ns on the sender's timescale; event messages are stamped at the
port with the present time base (R366). -/
inductive PtpMsg
  | announce (ds : PtpDataset)
  | sync (gm : Dword) (seq : BitVec 16) (twoStep : Bool) (origin : Int)
  | followUp (gm : Dword) (seq : BitVec 16) (origin : Int)
  | delayReq (source : Dword) (seq : BitVec 16)
  | delayResp (gm : Dword) (seq : BitVec 16) (receive : Int)
  /-- management, unicast negotiation and signalling: discarded -/
  | unsupported
deriving DecidableEq, Repr

/-- What a PTP interval timer calls for (PTP_MESSAGE_DUE). -/
inductive PtpDue | sync | announce | delayReq
deriving DecidableEq, Repr

/-- The CLOCK section (Table 17-4). -/
structure ClockCfg where
  refFitted : Bool
  xtalFitted : Bool
  xtalCold : Bool
deriving DecidableEq, Repr

/-- The TIME section: rate, servo and PTP parameters (R354, R359, R360, R363). -/
structure TimeCfg where
  tbInc : Word
  compat : Bool
  tCorrS : Nat                 -- 1 to 64 s
  lockThrNs : Nat              -- 20 ns to 10 µs
  lockN : Nat                  -- 1 to 64
  ptpEnabled : List Bool       -- by port, LAN A, LAN B, MGMT
  oneStep : List Bool
  slaveOnly : Bool
  own : PtpDataset
deriving DecidableEq, Repr
/-- A CHANNEL voltage output (R387, R389): the channel, the field of its data (first byte, bytes, signed), SCALE, OFFSET,
SAFE and HOLD_N.  `chan = none` is a HOST output. -/
structure AoutCfg where
  chan : Option (Nat × Nat)
  byte : Nat
  bytes : Nat
  signed : Bool
  scale : Rat
  offset : Int
  safe : Nat
  holdN : Nat
deriving DecidableEq, Repr

/-- A channel fed by chains and pulse inputs latched at frame start (R83, R143): its type and index, its quality, and for each
value whether it comes from a pulse input, the chain or input, a scale and an offset. -/
structure AnaFeed where
  typ : Nat
  index : Nat
  qual : Nat
  parts : List (Bool × Nat × Rat × Int)
deriving DecidableEq, Repr

/-- The ANALOGUE section beside its registers (R380, R387, R393 to R395). -/
structure AnaCfg where
  chainRun : List Nat
  pinRun : List Nat
  aout : List AoutCfg
  /-- Chains whose taps the expert block gives; the others take the default set of their R_f (R376). -/
  expertTaps : List Nat
  roleGated : List Nat
  /-- The switch outputs that carry ROLE (R275). -/
  roleOut : List Nat
  feeds : List AnaFeed
deriving DecidableEq, Repr

/-- What the sections of one image hold, in the terms the blocks use (Table 17-4, R428, R429; log entry 9). -/
structure ImageCfg where
  clock : ClockCfg
  time : TimeCfg
  region : RegionCfg
  channels : ChannelsCfg
  recorder : RecorderCfg
  keys : KeysCfg
  fus : FusCfg
  ctl : CtlCfg
  alc : AlcCfg
  /-- Serial ports: the channel type and index that each is bound to. -/
  uart : List (Nat × Nat)
  /-- The channel handle's type 0xE task, or CAN object handle, of the power channel (R124). -/
  powerHandle : Word
  can : List CanCfg            -- by controller
  net : NetCfg
  ana : AnaCfg
  grp : GrpCfg
  /-- The SERVO section, by loop; none for a loop it does not declare. -/
  srv : List (Option LoopCfg)
  /-- The SLATE section. -/
  slate : SafetyCfg
  /-- The register fields that Acorn loads from the sections, as (address, word) pairs (R227, R429). -/
  regs : List (Nat × Word)
deriving DecidableEq, Repr

/-- The commands: one constructor for each row of spec/opcode_table.json, grouped as its chapters are. -/
inductive Instr
  -- Clocks, resets and power
  | powerOn
  | supplyBelowDetector (supply : Supply)
  | resetNAssert
  | resetRelease (groupId : Fin 4) (lowMs : Nat)
  | oscStartSatisfied (src : ExtSource)
  | sourceReady (src : ExtSource)
  | sourceRecovered (src : ExtSource)
  | clkNoOsc
  | pllLock
  | sourceTrip (src : ExtSource)
  | pllLockLost
  | clkReturn
  | clkCtrlRefsel (crystal : Bool)
  | clkGateWrite (reg : Fin 2) (value : Word) (inFlight : Word)
  | gateCloseDeferred (reg : Fin 2) (bit : Fin 32)
  | clkGateForced (reg : Fin 2) (bit : Fin 32) (addr : Word)
  | clkCntClr
  | pwrcycAssertEnd
  | pwrcycNotDone
  | ochreSupplyAbsent (die : Fin 2)
  -- Boot
  | imageCheckDone
  | sectionsLoaded (loadFail : Bool) (cfg : ImageCfg)
  | cobaltBootDone (ok : Bool) (table : SafetyCfg) (fwMajor : Byte) (fwMinor : Byte)
  -- Comparators
  | comparatorFire (m : Fin 16)
  | trigPulseEnd (out : Fin 8)
  -- Fabric and faults
  | invalidCodeword (site : FaultSite)
  | handshakeWatchdog (site : FaultSite)
  | bridgeAckTimeout (die : Fin 2)
  | taskDispatch (q : Fin 32) (u : Fin 8)
  | pipCopyValid (q : Fin 32) (u : Fin 8)
  | spareWakeDone (q : Fin 32) (u : Fin 8) (pass : Bool)
  | pipLoadDone (q : Fin 32) (u : Fin 8)
  | operationComplete (q : Fin 32) (u : Fin 8) (ecc : List EccResult) (testWrong : Bool)
  | completionToken (q : Fin 32) (task : Fin 4096)
  | slackToken (task : Fin 4096)
  | slkClr
  | arbRequest (port : ArbPort) (idx : Fin 10)
  | arbOwnerRelease (port : ArbPort)
  | arbBurstLimit (port : ArbPort) (again : Bool)
  | bankarbCtrlWrite (q : Fin 32) (b : Fin 8) (value : Word)
  | egrarbCtrlWrite (g : Fin 8) (value : Word)
  | waitAbort (chain : List WaitLink)
  | channelPortOutput (handle : Word)
  | fltCntClr
  -- The frame
  | frameStart
  | emissionTime
  | fusionDeadline
  | planDeadline
  -- Sensors and fusion
  | uartSentence (port : Fin 16) (startNs : Nat) (ok : Bool) (utc : Option Nat) (reading : Reading)
  | e450Datagram (port : Fin 3) (startNs : Nat) (source : List Byte) (binary : Bool)
      (sentences : List (Bool × Option Nat × Reading))
  | sensorFrame (port : Fin 3) (ver : Byte) (typ : Byte) (synced : Bool) (sender : BitVec 16) (time : Int)
      (items : List SensorItem) (overrun : Bool)
  | captureEdge (m : Fin 16) (rising : Bool) (widthNs : Nat)
  | intakeClose (start : List Rat)
  | outlierReject (slot : Fin 28)
  | innovReject (slot : Fin 16)
  | timeReadmit (slot : Fin 28)
  | sourceReadmit (slot : Fin 28)
  | frozenReject (slot : Fin 20)
  | estimatorSettled
  | holdoverExpired
  | windAgree
  | lateSampleExpired
  | epochPublish (sat reg domain : Bool)
  | fusCalFreeze (freeze : Bool)
  | fusCntClr
  -- Control
  | ctlModecmdWrite (value : Word)
  | mode (r : Req) (code : Byte)
  | setpoint (r : Req) (axes : Byte) (rel : Byte) (n : Int) (e : Int) (psi : Int) (speed : Int)
  | targetOffset (r : Req) (dn : Int) (de : Int) (dpsi : Int)
  | trackWrite (r : Req) (first : Byte) (points : List Waypoint)
  | trackSwap (r : Req)
  | originMove (r : Req) (lat : Int) (lon : Int)
  | calFreeze (r : Req) (freeze : Byte)
  | calWrite (r : Req) (slot : Byte) (state : Byte) (elem : Byte) (value : Int)
  | calRead (r : Req) (slot : Byte) (state : Byte) (elem : Byte)
  | compEngaged (r : Req) (flag : Byte)
  | pmsTimeout
  | targetLost
  | srcLost
  | srcHoldExpired
  | compExitEnd
  -- Solver
  | iterationEnd (cls : Fin 3) (group : Fin 48) (own : OwnFlags)
  | solverRestart (cls : Fin 3) (group : Fin 48)
  | refreshComplete (cls : Fin 3) (group : Fin 48) (pivRepl : Nat) (saturated : Bool)
  | solveStopTime (cls : Fin 3)
  | conseqGroupTime (group : Fin 48)
  | slvRefresh (mask : Fin 16)
  | slvCntClr
  -- Allocation and consequence analysis
  | alcEnableWrite (value : Word)
  | alcCntClr
  | driveFeedback (i : Fin 32)
  | driveTimeout (i : Fin 32)
  | readmitConditionMet (i : Fin 32) (reason : Fin 8)
  | conseqGroupRelease
  | cqShareMiss (group : Fin 48)
  | cqStale (group : Fin 48)
  | cqaRestart
  | cqaCntClr
  -- Servo loops
  | servoBoundary (n : Fin 64)
  | outerBoundary (n : Fin 64)
  | stallFault (n : Fin 64)
  | srvCmdClose (n : Fin 64)
  | srvCmdOpen (n : Fin 64)
  | srvCmdClrFault (n : Fin 64)
  | srvSpsrcWrite (n : Fin 64) (value : Word)
  | srvHostspWrite (n : Fin 64) (value : Word)
  | srvCntClr
  -- The redundancy group
  | heartbeatDue
  | heartbeatRx (payload : List Byte)
  | stateFragmentRx (payload : List Byte)
  | healthRx (payload : List Byte)
  | claimRx (payload : List Byte)
  | offerRx (payload : List Byte)
  | takeoverTimeout
  | rankWaitExpired
  | formWaitExpired
  | groupIsolated
  | slhHandover (target : Fin 4)
  | slhCntClr
  | formingHealthDue
  -- Machine safety
  | safetyChannelRecognised (t : Tech) (i : Fin 32) (chB : Bool) (level : Bool) (held : Nat)
  | c1StopTimer (t : Tech) (f : Fin 32)
  | discrepancyLatch (t : Tech) (f : Fin 32)
  | twoHandSyncTimeout (t : Tech) (f : Fin 32)
  | tpPulseSample (k : Fin 8) (a : Word) (b : Word)
  | offPulseTest (t : Tech) (p : Fin 16)
  | cobaltCycle
  | tickCrossCheck (deviates : Bool)
  | xcheckFault (missing : Bool)
  | outputReadbackFault (t : Tech) (p : Fin 16) (level : Bool)
  | selftestFail (t : Tech)
  | chargePumpDeenergise (t : Tech) (p : Fin 16)
  | safCtrlHold
  | safCtrlRelease
  | safCntClr
  | safeHold (r : Req)
  | safeRelease (r : Req)
  | safetyReload (r : Req) (what : Byte) (bank : Byte)
  | slateReloadDone (table : SafetyCfg)
  | safetyReloadTimeout
  | tpPulseStart (k : Fin 8)
  | offPulseEnd (t : Tech) (p : Fin 16) (off : Bool)
  -- CAN FD controllers
  | canFrameRx (n : Fin 8) (f : CanFrame) (ageNs : Nat) (reading : Option Reading)
  | canTxEnd (n : Fin 8) (how : CanTxEnd) (loopDelay : Nat)
  | canBusIdleDetect (n : Fin 8)
  | busoffRecovered (n : Fin 8)
  | canCtrlMode (n : Fin 8) (mode : Fin 8)
  | canBoRecover (n : Fin 8)
  | canCntClr (n : Fin 8)
  | canTxcancel (n : Fin 8) (obj : Byte)
  | canTtswap (n : Fin 8)
  | canObjenWrite (n : Fin 8) (w : Fin 8) (value : Word)
  | detDwellExpired (n : Fin 8)
  | canNoRate (n : Fin 8)
  | basicCycleStart (n : Fin 8)
  | ttBackupTimeout (n : Fin 8)
  | ttWindowStart (n : Fin 8) (window : Fin 64) (fits : Bool)
  | reasmTimeout (n : Fin 8) (obj : Byte)
  | pairRxTimeout (n : Fin 8) (obj : Byte)
  | canRxError (n : Fin 8) (code : Fin 8) (fast : Bool) (dominant : Bool)
  | canTxStart (n : Fin 8) (fits : Bool)
  -- Ethernet ports and PRP
  | ethFrameRx (port : Fin 3) (f : EthRx)
  | prpHoldExpired (src : BitVec 48) (seq : BitVec 16)
  | prpNodeForget (src : BitVec 48)
  | prpSupervisionTx
  | egressFrameStart (mgmt : Bool)
  | linkChange (port : Fin 3) (up : Bool) (speed : Fin 3)
  | ethCfgEn (port : Fin 3) (en : Bool)
  | ethSwapPair
  | ethSwapMgmt
  | ethCntClr
  | mdioGo (value : Word)
  | mdioDone (data : BitVec 16)
  | e450Tx
  -- Network time, time base registers
  | ptpMessageRx (port : Fin 3) (msg : PtpMsg)
  | tbStep
  | ptpMessageDue (port : Fin 3) (kind : PtpDue)
  | announceTimeout (port : Fin 3)
  | syncLoss (port : Fin 3)
  | tbRearm
  | tbIncWrite (value : Word)
  | tbJumpLimWrite (value : Word)
  | tbCntClr
  | comparatorEnable (value : Word)
  | tbNsRead
  | tbCapValRead (m : Fin 16)
  | tbFault
  -- Analogue chains, outputs and pulse inputs
  | chainOutput (n : Fin 64) (cic : List Int)
  | chainStart (n : Fin 64)
  | chainStop (n : Fin 64)
  | modStuck (n : Fin 64)
  | chainDcbWrite (n : Fin 64) (value : Word)
  | anaCntClr
  | aoutDataWrite (n : Fin 32) (value : Word)
  | pinEdge (i : Fin 32) (a : Bool) (b : Bool)
  | pinGateEnd (i : Fin 32)
  | pinZeroTimeout (i : Fin 32)
  | pinStart (i : Fin 32)
  | pinStop (i : Fin 32)
  | pinLoad (i : Fin 32)
  | swoSet (w : Fin 4) (value : Word)
  | swoClr (w : Fin 4) (value : Word)
  | dinEdge (i : Fin 64) (level : Bool)
  -- Configuration image
  | imgVerify (bank : Fin 2)
  | bankVerifyDone (bank : Fin 2)
  | imgAdopt (bank : Fin 2)
  | imgReloadRegion (g : Fin 8)
  | imgCntClr
  | regionSectionLoaded (ok : Bool) (cfg : RegionCfg)
  | regionCopybackDone
  | adoptStepDone (outcome : AdoptOutcome) (cfg : ImageCfg)
  | imageConflictRepeat
  | nvmRead (r : Req) (bank : Byte) (addr : Word) (len : BitVec 16)
  | nvmWrite (r : Req) (bank : Byte) (addr : Word) (len : BitVec 16) (data : List Byte)
  | nvmErase (r : Req) (bank : Byte) (addr : Word)
  | nvmOpDone (bank : Fin 2) (ok : Bool)
  | keyProgram (r : Req) (key : List Byte)
  -- Management protocol, channels and recovery ladder
  | mgmtRead (r : Req) (addr : Word) (count : BitVec 16) (corrected uncorrectable : List Nat)
  | mgmtWrite (r : Req) (addr : Word) (count : BitVec 16) (data : List Word)
  | registerWrite (addr : Word) (value : Word)
  | subscribe (r : Req) (action : Byte) (sub : Byte) (kind : Byte) (div : Byte) (select : Word) (destIp : Word)
      (destPort : BitVec 16)
  | openSession (r : Req)
  | closeSession (r : Req)
  | sessionFinalTimeout (session : Word)
  | chCreate (r : Req) (typ : Byte) (index : BitVec 16) (body : List Byte)
  | chDestroy (r : Req) (handle : Word)
  | chQuery (r : Req) (typ : Byte) (index : BitVec 16)
  | funcReinit (r : Req) (func : Byte) (arg : Word)
  | funcReinitDone (func : Byte) (arg : Word) (ok : Bool) (code : Byte)
  | funcReinitTimeout (func : Byte) (arg : Word)
  | devResetArm (r : Req)
  | devResetConfirm (r : Req) (token : Word)
  | pwrcycArm (r : Req)
  | pwrcycConfirm (r : Req) (token : Word)
  | armExpired
  | spiReadTransfer (early : Bool)
  | eventMessageSend (sub : Fin 32)
  | sysExpertKey (session : Word) (value : Word)
  | expertUnlockExpired (session : Word)
  -- Event recorder
  | recordProgramDone (bank : Fin 2) (ok : Bool)
  | sectorEraseDone (bank : Fin 2) (ok : Bool)
  | recFreeze (r : Req)
  | recRelease (r : Req)
  -- The last constructors carry no operands: compiled Lean holds no constructor with operands beyond the 244th
  | eventCommit
  | recorderReady
  | freezeDrained
  | freezeTimeout
  | recCtrlFreeze
  | recCtrlRelease
  | recCntClr
  | timeMark
  | devResetEntry
  | sysCntClr
  | mgtCntClr
deriving DecidableEq, Repr

end Sys2Proof
end

