-- ==== Sys2Proof/Config.lean ====
section
/-!
DEFINITION. Sys2Proof/Config.lean: what one part carries from manufacture, and the free values of the model.  Each is an
opaque constant: no proof can see its value, so every claim holds for every value.
-/
namespace Sys2Proof.Config

/-- R491, Table 20-5: the 64-bit unique number of the part. -/
opaque uid : BitVec 64
/-- R2, Table 20-4: 1 on a ZP3264-MS, 0 on a ZP3264-MA; fixed at manufacture. -/
opaque variantMS : Bool
/-- Free words, one for each value of the free-value counter of the state: session numbers, tokens, and every value the
spec leaves open (log entries 3 and 4). -/
opaque freeWord : Nat → BitVec 32
/-- R162: the first value of the barrier parameter μ, which the spec does not give (log entry 136). -/
opaque barrierStart : Rat
/-- R376: tap j of Zorfen's default FIR set for an R_f of 2 or 4, which Acorn's ROM holds (log entry 34). -/
opaque defaultTap : Nat → Nat → BitVec 32
/-- R433: whether an Ed25519 signature (64 bytes) over a 32-byte digest verifies against a 32-byte public key. -/
opaque ed25519Verify : List (BitVec 8) → List (BitVec 8) → List (BitVec 8) → Bool

end Sys2Proof.Config
end

