-- ==== Sys2Proof/Machine/RegMap.lean ====
section
/-!
DEFINITION. Sys2Proof/Machine/RegMap.lean: the absolute address of every register of the part (R485, R486, R494,
Table 20-2 and Table 20-10).  Index letters are the manual's; a region is numbered g = 4d + r and a cluster
q = 16d + 4r + c, as IMG_CMD.REGION and FLT_LAST.PATH number them.
-/
namespace Sys2Proof.Machine.Reg

/-- R486: the register base of region g = 4d + r. -/
abbrev regionBase (g : Nat) : Nat := 0x10000000 * (g / 4 + 1) + 0x02000000 * (g % 4) + 0x01400000
/-- R486: the register base of cluster q = 16d + 4r + c. -/
abbrev clusterBase (q : Nat) : Nat :=
  0x10000000 * (q / 16 + 1) + 0x02000000 * (q / 4 % 4) + 0x00400000 * (q % 4) + 0x00140000

/-! Block SYS. -/
abbrev SYS_PARTID : Nat := 0x0
abbrev SYS_REV : Nat := 0x4
abbrev SYS_UIDL : Nat := 0x8
abbrev SYS_UIDH : Nat := 0xC
abbrev SYS_STRAP : Nat := 0x10
abbrev SYS_STAT : Nat := 0x20
abbrev SYS_FAULTSUM : Nat := 0x24
abbrev SYS_ALERT : Nat := 0x28
abbrev SYS_CTRL : Nat := 0x2C
abbrev SYS_REFADDR : Nat := 0x30
abbrev SYS_REFINFO : Nat := 0x34
abbrev SYS_EXPERT : Nat := 0x40
/-! Block CLK. -/
abbrev CLK_CTRL : Nat := 0x10000
abbrev CLK_STAT : Nat := 0x10004
abbrev CLK_DOMSTAT : Nat := 0x10008
abbrev CLK_GATE0 : Nat := 0x1000C
abbrev CLK_GATE1 : Nat := 0x10010
abbrev CLK_CNT : Nat := 0x10014
abbrev CLK_BERR : Nat := 0x10018
abbrev CLK_BERRINFO : Nat := 0x1001C
/-! Block AON. -/
abbrev AON_RSTCAUSE : Nat := 0x20000
abbrev AON_RSTLEN : Nat := 0x20004
abbrev AON_PWRCYC : Nat := 0x20008
/-! Block TB. -/
abbrev TB_CTRL : Nat := 0x30000
abbrev TB_STAT : Nat := 0x30004
abbrev TB_NS : Nat := 0x30008
abbrev TB_SUBNS : Nat := 0x3000C
abbrev TB_INC : Nat := 0x30010
abbrev TB_JUMP_LIM : Nat := 0x30014
abbrev TB_WRAPS : Nat := 0x30018
abbrev TB_OFS : Nat := 0x3001C
abbrev TB_MPD : Nat := 0x30020
abbrev TB_STEPL : Nat := 0x30024
abbrev TB_STEPH : Nat := 0x30028
abbrev TB_STEPT : Nat := 0x3002C
abbrev TB_GML : Nat := 0x30030
abbrev TB_GMH : Nat := 0x30034
abbrev TB_ALIGN : Nat := 0x30038
abbrev TB_TRIGEN : Nat := 0x3003C
abbrev TB_CNT : Nat := 0x30040
abbrev TB_PTPLATp (p : Nat) : Nat := 0x30050 + 0x4 * p
abbrev TB_PTPSTATp (p : Nat) : Nat := 0x30060 + 0x4 * p
abbrev TB_TRIGm_TIME (m : Nat) : Nat := 0x30100 + 0x10 * m
abbrev TB_TRIGm_PER (m : Nat) : Nat := 0x30104 + 0x10 * m
abbrev TB_TRIGm_CFG (m : Nat) : Nat := 0x30108 + 0x10 * m
abbrev TB_TRIGm_STAT (m : Nat) : Nat := 0x3010C + 0x10 * m
abbrev TB_CAPm_CFG (m : Nat) : Nat := 0x30200 + 0x10 * m
abbrev TB_CAPm_VAL (m : Nat) : Nat := 0x30204 + 0x10 * m
abbrev TB_CAPm_STAT (m : Nat) : Nat := 0x30208 + 0x10 * m
/-! Block SLK. -/
abbrev SLK_CTRL : Nat := 0x40000
abbrev SLK_THR : Nat := 0x40004
abbrev SLK_STAT : Nat := 0x40008
abbrev SLK_MINF : Nat := 0x4000C
abbrev SLK_MINP : Nat := 0x40010
/-! Block FLT. -/
abbrev FLT_CTRL : Nat := 0x50000
abbrev FLT_STAT : Nat := 0x50004
abbrev FLT_SPARE : Nat := 0x50008
abbrev FLT_RERUN : Nat := 0x5000C
abbrev FLT_LAST : Nat := 0x50010
abbrev FLT_LASTT : Nat := 0x50014
abbrev FLT_MARK : Nat := 0x50018
abbrev OCH_SEL : Nat := 0x50100
abbrev OCH_SEQ : Nat := 0x50104
abbrev OCH_CNT : Nat := 0x50108
abbrev OCH_LATE : Nat := 0x5010C
/-! Block IMG. -/
abbrev IMG_CMD : Nat := 0x60000
abbrev IMG_STAT : Nat := 0x60004
abbrev IMG_RUNGEN : Nat := 0x60008
abbrev IMG_CNT : Nat := 0x60060
abbrev IMG_RUNSHAw (w : Nat) : Nat := 0x60010 + 0x4 * w
abbrev IMG_BANKk_GEN (k : Nat) : Nat := 0x60040 + 0x10 * k
abbrev IMG_BANKk_STAT (k : Nat) : Nat := 0x60044 + 0x10 * k
/-! Block MGT. -/
abbrev MGT_CTRL : Nat := 0x70000
abbrev MGT_STAT : Nat := 0x70004
abbrev MGT_CNT0 : Nat := 0x70008
abbrev MGT_CNT1 : Nat := 0x7000C
/-! Block REC. -/
abbrev REC_CTRL : Nat := 0x80000
abbrev REC_STAT : Nat := 0x80004
abbrev REC_RNUM : Nat := 0x80018
abbrev REC_OPTIME : Nat := 0x8001C
abbrev REC_PCYCLE : Nat := 0x80020
abbrev REC_CNT : Nat := 0x80024
abbrev REC_WPTRk (k : Nat) : Nat := 0x80010 + 0x4 * k
/-! Block SLH. -/
abbrev SLH_CMD : Nat := 0x90000
abbrev SLH_STAT : Nat := 0x90004
abbrev SLH_EPOCH : Nat := 0x90008
abbrev SLH_AEPOCH : Nat := 0x9000C
abbrev SLH_STATEF : Nat := 0x90010
abbrev SLH_CNT0 : Nat := 0x90018
abbrev SLH_CNT1 : Nat := 0x9001C
abbrev SLH_MEMm (m : Nat) : Nat := 0x90040 + 0x4 * m
/-! Block SAF. -/
abbrev SAF_CTRL : Nat := 0xA0000
abbrev SAF_STAT : Nat := 0xA0004
abbrev SAF_VER : Nat := 0xA0008
abbrev SAF_SO : Nat := 0xA000C
abbrev SAF_SORB : Nat := 0xA0010
abbrev SAF_SIA : Nat := 0xA0014
abbrev SAF_SIB : Nat := 0xA0018
abbrev SAF_CNT : Nat := 0xA001C
abbrev SAF_LAST : Nat := 0xA0020
abbrev SAF_LASTT : Nat := 0xA0024
abbrev SAF_FNf (f : Nat) : Nat := 0xA0100 + 0x4 * f
/-! Block FUS. -/
abbrev FUS_CTRL : Nat := 0xB0000
abbrev FUS_STAT : Nat := 0xB0004
abbrev FUS_LATE : Nat := 0xB0008
abbrev FUS_TCNT : Nat := 0xB000C
abbrev FUS_EPOCH : Nat := 0xB0010
abbrev FUS_SRCSTATs (s : Nat) : Nat := 0xB0040 + 0x4 * s
abbrev FUS_TRESs (s : Nat) : Nat := 0xB00C0 + 0x4 * s
/-! Block CTL. -/
abbrev CTL_MODECMD : Nat := 0xC0000
abbrev CTL_MODESTAT : Nat := 0xC0004
abbrev CTL_STAT : Nat := 0xC0008
abbrev CTL_ALARM : Nat := 0xC000C
abbrev CTL_PLAN : Nat := 0xC0010
/-! Block SLV. -/
abbrev SLV_CTRL : Nat := 0xD0000
abbrev SLV_STATc (c : Nat) : Nat := 0xD0100 + 0x20 * c
abbrev SLV_MERITc (c : Nat) : Nat := 0xD0104 + 0x20 * c
abbrev SLV_RESc (c : Nat) : Nat := 0xD0108 + 0x20 * c
abbrev SLV_FACTc (c : Nat) : Nat := 0xD010C + 0x20 * c
abbrev SLV_REGc (c : Nat) : Nat := 0xD0110 + 0x20 * c
abbrev SLV_CNTc (c : Nat) : Nat := 0xD0114 + 0x20 * c
abbrev SLV_LASTc (c : Nat) : Nat := 0xD0118 + 0x20 * c
/-! Block ALC. -/
abbrev ALC_CTRL : Nat := 0xE0000
abbrev ALC_ENABLE : Nat := 0xE0004
abbrev ALC_STAT : Nat := 0xE0008
abbrev ALC_REMOVED : Nat := 0xE000C
abbrev ALC_CNT : Nat := 0xE0010
abbrev ALC_THRi (i : Nat) : Nat := 0xE0100 + 0x4 * i
/-! Block CQA. -/
abbrev CQA_CTRL : Nat := 0xF0000
abbrev CQA_STAT : Nat := 0xF0004
abbrev CQA_FLEET : Nat := 0xF0008
abbrev CQA_GRPg (g : Nat) : Nat := 0xF0100 + 0x4 * g
/-! Block SRV. -/
abbrev SRV_CTRL : Nat := 0x100000
abbrev SRV_STAT : Nat := 0x100004
abbrev SRV_CLOSED0 : Nat := 0x100010
abbrev SRV_CLOSED1 : Nat := 0x100014
abbrev SRV_FAULT0 : Nat := 0x100018
abbrev SRV_FAULT1 : Nat := 0x10001C
abbrev SRVn_CFG (n : Nat) : Nat := 0x101000 + 0x80 * n
abbrev SRVn_SAMPLE (n : Nat) : Nat := 0x101004 + 0x80 * n
abbrev SRVn_SPSRC (n : Nat) : Nat := 0x101008 + 0x80 * n
abbrev SRVn_SPOFS (n : Nat) : Nat := 0x10100C + 0x80 * n
abbrev SRVn_BON (n : Nat) : Nat := 0x101010 + 0x80 * n
abbrev SRVn_BOFF (n : Nat) : Nat := 0x101014 + 0x80 * n
abbrev SRVn_DWELL (n : Nat) : Nat := 0x101018 + 0x80 * n
abbrev SRVn_FBSCL (n : Nat) : Nat := 0x10101C + 0x80 * n
abbrev SRVn_FBOFS (n : Nat) : Nat := 0x101020 + 0x80 * n
abbrev SRVn_SPMIN (n : Nat) : Nat := 0x101024 + 0x80 * n
abbrev SRVn_SPMAX (n : Nat) : Nat := 0x101028 + 0x80 * n
abbrev SRVn_SPRATE (n : Nat) : Nat := 0x10102C + 0x80 * n
abbrev SRVn_OBON (n : Nat) : Nat := 0x101030 + 0x80 * n
abbrev SRVn_OBOFF (n : Nat) : Nat := 0x101034 + 0x80 * n
abbrev SRVn_ORAMP (n : Nat) : Nat := 0x101038 + 0x80 * n
abbrev SRVn_OTIMER (n : Nat) : Nat := 0x10103C + 0x80 * n
abbrev SRVn_OFBSCL (n : Nat) : Nat := 0x101040 + 0x80 * n
abbrev SRVn_OFBOFS (n : Nat) : Nat := 0x101044 + 0x80 * n
abbrev SRVn_CMD (n : Nat) : Nat := 0x101048 + 0x80 * n
abbrev SRVn_HOSTSP (n : Nat) : Nat := 0x10104C + 0x80 * n
abbrev SRVn_STAT (n : Nat) : Nat := 0x101050 + 0x80 * n
abbrev SRVn_FB (n : Nat) : Nat := 0x101054 + 0x80 * n
abbrev SRVn_SP (n : Nat) : Nat := 0x101058 + 0x80 * n
abbrev SRVn_OFB (n : Nat) : Nat := 0x10105C + 0x80 * n
abbrev SRVn_OSP (n : Nat) : Nat := 0x101060 + 0x80 * n
abbrev SRVn_CNT (n : Nat) : Nat := 0x101064 + 0x80 * n
/-! Block ANA. -/
abbrev ANA_CTRL : Nat := 0x110000
abbrev CHn_CFG (n : Nat) : Nat := 0x111000 + 0x40 * n
abbrev CHn_CMD (n : Nat) : Nat := 0x111004 + 0x40 * n
abbrev CHn_STAT (n : Nat) : Nat := 0x111008 + 0x40 * n
abbrev CHn_GAIN (n : Nat) : Nat := 0x11100C + 0x40 * n
abbrev CHn_OFS (n : Nat) : Nat := 0x111010 + 0x40 * n
abbrev CHn_DCB (n : Nat) : Nat := 0x111014 + 0x40 * n
abbrev CHn_DCBM (n : Nat) : Nat := 0x111018 + 0x40 * n
abbrev CHn_OUT (n : Nat) : Nat := 0x11101C + 0x40 * n
abbrev CHn_STAMP (n : Nat) : Nat := 0x111020 + 0x40 * n
abbrev CHn_GDLY (n : Nat) : Nat := 0x111024 + 0x40 * n
abbrev AOUTn_CFG (n : Nat) : Nat := 0x118000 + 0x10 * n
abbrev AOUTn_DATA (n : Nat) : Nat := 0x118004 + 0x10 * n
abbrev AOUTn_STAT (n : Nat) : Nat := 0x118008 + 0x10 * n
abbrev PINi_CFG (i : Nat) : Nat := 0x119000 + 0x20 * i
abbrev PINi_GATE (i : Nat) : Nat := 0x119004 + 0x20 * i
abbrev PINi_CMD (i : Nat) : Nat := 0x119008 + 0x20 * i
abbrev PINi_STAT (i : Nat) : Nat := 0x11900C + 0x20 * i
abbrev PINi_COUNT (i : Nat) : Nat := 0x119010 + 0x20 * i
abbrev PINi_FREQ (i : Nat) : Nat := 0x119014 + 0x20 * i
abbrev PINi_PRESET (i : Nat) : Nat := 0x119018 + 0x20 * i
abbrev DIN_RAW0 : Nat := 0x11A000
abbrev DIN_RAW1 : Nat := 0x11A004
abbrev DIN_FLT0 : Nat := 0x11A008
abbrev DIN_FLT1 : Nat := 0x11A00C
abbrev DIN_EVEN0 : Nat := 0x11A010
abbrev DIN_EVEN1 : Nat := 0x11A014
abbrev SWO_STAT : Nat := 0x11A140
abbrev DIN_FTk (k : Nat) : Nat := 0x11A040 + 0x4 * k
abbrev SWO_STATw (w : Nat) : Nat := 0x11A100 + 0x4 * w
abbrev SWO_SETw (w : Nat) : Nat := 0x11A110 + 0x4 * w
abbrev SWO_CLRw (w : Nat) : Nat := 0x11A120 + 0x4 * w
abbrev SWO_OWNw (w : Nat) : Nat := 0x11A130 + 0x4 * w
/-! Block ETH. -/
abbrev ETH_CTRL : Nat := 0x120000
abbrev ETH_SLOTSTAT : Nat := 0x120004
abbrev ETH_PRPSTAT : Nat := 0x120008
abbrev ETH_PRPCNT : Nat := 0x12000C
abbrev ETH_E450CNT : Nat := 0x120010
abbrev ETH_OWNCNT : Nat := 0x120014
abbrev ETH_MDIO : Nat := 0x120018
abbrev ETHp_CFG (p : Nat) : Nat := 0x120100 + 0x40 * p
abbrev ETHp_STAT (p : Nat) : Nat := 0x120104 + 0x40 * p
abbrev ETHp_CNT0 (p : Nat) : Nat := 0x120108 + 0x40 * p
abbrev ETHp_CNT1 (p : Nat) : Nat := 0x12010C + 0x40 * p
/-! Block CAN. -/
abbrev CANn_CTRL (n : Nat) : Nat := 0x140000 + 0x4000 * n
abbrev CANn_STAT (n : Nat) : Nat := 0x140004 + 0x4000 * n
abbrev CANn_ERRCNT (n : Nat) : Nat := 0x140008 + 0x4000 * n
abbrev CANn_ARBTIM (n : Nat) : Nat := 0x14000C + 0x4000 * n
abbrev CANn_FASTTIM (n : Nat) : Nat := 0x140010 + 0x4000 * n
abbrev CANn_SSP (n : Nat) : Nat := 0x140014 + 0x4000 * n
abbrev CANn_EVT (n : Nat) : Nat := 0x140018 + 0x4000 * n
abbrev CANn_EVTEN (n : Nat) : Nat := 0x14001C + 0x4000 * n
abbrev CANn_TXCANCEL (n : Nat) : Nat := 0x140040 + 0x4000 * n
abbrev CANn_CANCSTAT (n : Nat) : Nat := 0x140044 + 0x4000 * n
abbrev CANn_FLTCFG (n : Nat) : Nat := 0x140048 + 0x4000 * n
abbrev CANn_TTCFG (n : Nat) : Nat := 0x140050 + 0x4000 * n
abbrev CANn_TTSTAT (n : Nat) : Nat := 0x140054 + 0x4000 * n
abbrev CANn_TTSWAP (n : Nat) : Nat := 0x140058 + 0x4000 * n
abbrev CANn_CNT0 (n : Nat) : Nat := 0x140060 + 0x4000 * n
abbrev CANn_CNT1 (n : Nat) : Nat := 0x140064 + 0x4000 * n
abbrev CANn_CNT2 (n : Nat) : Nat := 0x140068 + 0x4000 * n
abbrev CANn_OBJSEL (n : Nat) : Nat := 0x140070 + 0x4000 * n
abbrev CANn_OBJSTAT (n : Nat) : Nat := 0x140074 + 0x4000 * n
abbrev CANn_PSLOTk_ID (n : Nat) (k : Nat) : Nat := 0x140020 + 0x4000 * n + 0x8 * k
abbrev CANn_PSLOTk_MASK (n : Nat) (k : Nat) : Nat := 0x140024 + 0x4000 * n + 0x8 * k
abbrev CANn_OBJENw (n : Nat) (w : Nat) : Nat := 0x140080 + 0x4000 * n + 0x4 * w
abbrev CANn_OBJCFG (n : Nat) (o : Nat) : Nat := 0x143000 + 0x4000 * n + 0x10 * o
abbrev CANn_OBJFMT (n : Nat) (o : Nat) : Nat := 0x143004 + 0x4000 * n + 0x10 * o
abbrev CANn_OBJHDL (n : Nat) (o : Nat) : Nat := 0x143008 + 0x4000 * n + 0x10 * o
/-! Block CLU. -/
abbrev CLU_UNITSTAT (q : Nat) : Nat := clusterBase q + 0x0
abbrev CLU_DISP (q : Nat) : Nat := clusterBase q + 0x10
abbrev CLU_SATCNT (q : Nat) : Nat := clusterBase q + 0x14
abbrev CLU_LASTSAT (q : Nat) : Nat := clusterBase q + 0x18
abbrev CLU_RERUN (q : Nat) : Nat := clusterBase q + 0x20
abbrev BANKARB_PRIOA (q : Nat) (b : Nat) : Nat := clusterBase q + 0x100 + 0x10 * b
abbrev BANKARB_PRIOB (q : Nat) (b : Nat) : Nat := clusterBase q + 0x104 + 0x10 * b
abbrev BANKARB_CTRL (q : Nat) (b : Nat) : Nat := clusterBase q + 0x108 + 0x10 * b
abbrev BANKARB_STAT (q : Nat) (b : Nat) : Nat := clusterBase q + 0x10C + 0x10 * b
/-! Block RGN. -/
abbrev EGRARB_PRIO (g : Nat) : Nat := regionBase g + 0x0
abbrev EGRARB_CTRL (g : Nat) : Nat := regionBase g + 0x4
abbrev EGRARB_STAT (g : Nat) : Nat := regionBase g + 0x8
abbrev RGN_WAITABORT (g : Nat) : Nat := regionBase g + 0x10
abbrev RGN_ECCCNT (g : Nat) : Nat := regionBase g + 0x14
abbrev RGN_PLACE (g : Nat) : Nat := regionBase g + 0x20
abbrev RGN_EGRDUP (g : Nat) : Nat := regionBase g + 0x24
abbrev RGN_PMAPt (g : Nat) (t : Nat) : Nat := regionBase g + 0x4000 + 0x4 * t
/-! Block CAN. -/
abbrev CANn_SLOTBUFj (n : Nat) (j : Nat) : Nat := 0x140400 + 0x4000 * n + 0x4 * j
abbrev CANn_OBJRECj (n : Nat) (j : Nat) : Nat := 0x140600 + 0x4000 * n + 0x4 * j
abbrev CANn_STDFLTj (n : Nat) (j : Nat) : Nat := 0x141000 + 0x4000 * n + 0x4 * j
abbrev CANn_EXTFLTj (n : Nat) (j : Nat) : Nat := 0x141800 + 0x4000 * n + 0x4 * j
abbrev CANn_SCHEDj (n : Nat) (j : Nat) : Nat := 0x142800 + 0x4000 * n + 0x4 * j
/-! Block ETH. -/
abbrev ETH_SLOTBANKj (j : Nat) : Nat := 0x121000 + 0x4 * j
/-! Block ANA. -/
abbrev CHn_TAPj (n : Nat) (j : Nat) : Nat := 0x114000 + 0x100 * n + 0x4 * j

end Sys2Proof.Machine.Reg
end

