-- ==== Sys2Proof/Machine/RegFields.lean ====
section
/-!
DEFINITION. Sys2Proof/Machine/RegFields.lean: every field of every register table of the spec, as the register's
address, the field's lowest bit and its width.  The docstring names the table and the rule it stands under, and the
access type of Table 0-4.
-/
namespace Sys2Proof.Machine.Fld
open Sys2Proof.Machine

/-- Table 20-4, R491: RO. -/ abbrev SYS_PARTID_PART : Field := ⟨Reg.SYS_PARTID, 0, 16⟩
/-- Table 20-4, R491: RO. -/ abbrev SYS_PARTID_VARIANT : Field := ⟨Reg.SYS_PARTID, 16, 4⟩
/-- Table 20-4, R491: RO. -/ abbrev SYS_REV_MINOR : Field := ⟨Reg.SYS_REV, 0, 8⟩
/-- Table 20-4, R491: RO. -/ abbrev SYS_REV_MAJOR : Field := ⟨Reg.SYS_REV, 8, 8⟩
/-- Table 20-5, R491: RO. -/ abbrev SYS_UIDL_UID : Field := ⟨Reg.SYS_UIDL, 0, 32⟩
/-- Table 20-5, R491: RO. -/ abbrev SYS_UIDH_UID : Field := ⟨Reg.SYS_UIDH, 0, 32⟩
/-- Table 20-5, R491: RO. -/ abbrev SYS_STRAP_GROUP_ID : Field := ⟨Reg.SYS_STRAP, 0, 2⟩
/-- Table 20-5, R491: RO. -/ abbrev SYS_STRAP_STANDALONE : Field := ⟨Reg.SYS_STRAP, 2, 1⟩
/-- Table 20-6, R492: RO. -/ abbrev SYS_STAT_START : Field := ⟨Reg.SYS_STAT, 0, 4⟩
/-- Table 20-6, R492: RO. -/ abbrev SYS_STAT_ROLE : Field := ⟨Reg.SYS_STAT, 4, 2⟩
/-- Table 20-6, R492: RO. -/ abbrev SYS_STAT_MODE : Field := ⟨Reg.SYS_STAT, 6, 4⟩
/-- Table 20-6, R492: RO. -/ abbrev SYS_STAT_EST : Field := ⟨Reg.SYS_STAT, 10, 2⟩
/-- Table 20-6, R492: RO. -/ abbrev SYS_STAT_CONSEQ : Field := ⟨Reg.SYS_STAT, 12, 2⟩
/-- Table 20-6, R492: RO. -/ abbrev SYS_STAT_SAFE : Field := ⟨Reg.SYS_STAT, 14, 1⟩
/-- Table 20-6, R492: RO. -/ abbrev SYS_STAT_SAF_READY : Field := ⟨Reg.SYS_STAT, 15, 1⟩
/-- Table 20-6, R492: RO. -/ abbrev SYS_STAT_HOLD : Field := ⟨Reg.SYS_STAT, 16, 1⟩
/-- Table 20-6, R492: RO. -/ abbrev SYS_STAT_CONFLICT : Field := ⟨Reg.SYS_STAT, 17, 1⟩
/-- Table 20-6, R492: RO. -/ abbrev SYS_STAT_NO_IMAGE : Field := ⟨Reg.SYS_STAT, 18, 1⟩
/-- Table 20-6, R492: RO. -/ abbrev SYS_STAT_MIXED : Field := ⟨Reg.SYS_STAT, 19, 1⟩
/-- Table 20-6, R492: RO. -/ abbrev SYS_STAT_LIMP : Field := ⟨Reg.SYS_STAT, 20, 1⟩
/-- Table 20-6, R492: RO. -/ abbrev SYS_STAT_TB_STATE : Field := ⟨Reg.SYS_STAT, 21, 3⟩
/-- Table 20-6, R492: RO. -/ abbrev SYS_STAT_PTP_OK : Field := ⟨Reg.SYS_STAT, 24, 1⟩
/-- Table 20-6, R492: RO. -/ abbrev SYS_STAT_ELIGIBLE : Field := ⟨Reg.SYS_STAT, 25, 1⟩
/-- Table 20-6, R492: RO. -/ abbrev SYS_STAT_PART_LOST : Field := ⟨Reg.SYS_STAT, 26, 1⟩
/-- Table 20-6, R492: RO. -/ abbrev SYS_STAT_COVER : Field := ⟨Reg.SYS_STAT, 27, 1⟩
/-- Table 20-7, R492: RO. -/ abbrev SYS_FAULTSUM_FENCED : Field := ⟨Reg.SYS_FAULTSUM, 0, 9⟩
/-- Table 20-7, R492: RO. -/ abbrev SYS_FAULTSUM_SPARES_LEFT : Field := ⟨Reg.SYS_FAULTSUM, 9, 9⟩
/-- Table 20-7, R492: RO. -/ abbrev SYS_FAULTSUM_DIE_LOST : Field := ⟨Reg.SYS_FAULTSUM, 18, 2⟩
/-- Table 20-7, R492: RO. -/ abbrev SYS_FAULTSUM_BRIDGE_REROUTED : Field := ⟨Reg.SYS_FAULTSUM, 20, 1⟩
/-- Table 20-7, R492: RO. -/ abbrev SYS_FAULTSUM_TB_FAULT : Field := ⟨Reg.SYS_FAULTSUM, 21, 1⟩
/-- Table 20-7, R492: RO. -/ abbrev SYS_FAULTSUM_SAFETY_FAULT : Field := ⟨Reg.SYS_FAULTSUM, 22, 1⟩
/-- Table 20-7, R492: RO. -/ abbrev SYS_FAULTSUM_SLATE_RC : Field := ⟨Reg.SYS_FAULTSUM, 23, 1⟩
/-- Table 20-7, R492: RO. -/ abbrev SYS_FAULTSUM_CAN_BUSOFF : Field := ⟨Reg.SYS_FAULTSUM, 24, 1⟩
/-- Table 20-7, R492: RO. -/ abbrev SYS_FAULTSUM_LOOP_FAULT : Field := ⟨Reg.SYS_FAULTSUM, 25, 1⟩
/-- Table 20-7, R492: RO. -/ abbrev SYS_FAULTSUM_AIN_FAULT : Field := ⟨Reg.SYS_FAULTSUM, 26, 1⟩
/-- Table 20-7, R492: RO. -/ abbrev SYS_FAULTSUM_LINK_DOWN : Field := ⟨Reg.SYS_FAULTSUM, 27, 1⟩
/-- Table 20-7, R492: RO. -/ abbrev SYS_FAULTSUM_REC_SINGLE : Field := ⟨Reg.SYS_FAULTSUM, 28, 1⟩
/-- Table 20-7, R492: RO. -/ abbrev SYS_FAULTSUM_MOVED : Field := ⟨Reg.SYS_FAULTSUM, 29, 1⟩
/-- Table 20-8, R493: W1C. -/ abbrev SYS_ALERT_CLASS : Field := ⟨Reg.SYS_ALERT, 0, 14⟩
/-- Table 20-8, R493: WO. -/ abbrev SYS_CTRL_CNT_CLR : Field := ⟨Reg.SYS_CTRL, 0, 1⟩
/-- Table 20-9, R493: RO. -/ abbrev SYS_REFADDR_ADDR : Field := ⟨Reg.SYS_REFADDR, 0, 32⟩
/-- Table 20-9, R493: RO. -/ abbrev SYS_REFINFO_CODE : Field := ⟨Reg.SYS_REFINFO, 0, 8⟩
/-- Table 20-9, R493: RO. -/ abbrev SYS_REFINFO_BLOCK : Field := ⟨Reg.SYS_REFINFO, 8, 5⟩
/-- Table 20-9, R493: RO. -/ abbrev SYS_REFINFO_COUNT : Field := ⟨Reg.SYS_REFINFO, 16, 16⟩
/-- Table 20-9, R493: WO. -/ abbrev SYS_EXPERT_KEY : Field := ⟨Reg.SYS_EXPERT, 0, 16⟩
/-- Table 20-9, R493: RO. -/ abbrev SYS_EXPERT_OPEN : Field := ⟨Reg.SYS_EXPERT, 16, 1⟩
/-- Table 16-6, R421: RW. -/ abbrev CLK_CTRL_REFSEL : Field := ⟨Reg.CLK_CTRL, 0, 1⟩
/-- Table 16-6, R421: WO. -/ abbrev CLK_CTRL_CNT_CLR : Field := ⟨Reg.CLK_CTRL, 1, 1⟩
/-- Table 16-6, R421: RO. -/ abbrev CLK_STAT_RC_RDY : Field := ⟨Reg.CLK_STAT, 0, 1⟩
/-- Table 16-6, R421: RO. -/ abbrev CLK_STAT_REF_RDY : Field := ⟨Reg.CLK_STAT, 1, 1⟩
/-- Table 16-6, R421: RO. -/ abbrev CLK_STAT_XTAL_RDY : Field := ⟨Reg.CLK_STAT, 2, 1⟩
/-- Table 16-6, R421: RO. -/ abbrev CLK_STAT_PLL_LOCK : Field := ⟨Reg.CLK_STAT, 3, 1⟩
/-- Table 16-6, R421: RO. -/ abbrev CLK_STAT_LIMP : Field := ⟨Reg.CLK_STAT, 4, 1⟩
/-- Table 16-6, R421: RO. -/ abbrev CLK_STAT_SLATE_RC : Field := ⟨Reg.CLK_STAT, 5, 1⟩
/-- Table 16-6, R421: RO. -/ abbrev CLK_STAT_NO_OSC : Field := ⟨Reg.CLK_STAT, 6, 1⟩
/-- Table 16-6, R421: RO. -/ abbrev CLK_STAT_XTAL_COLD : Field := ⟨Reg.CLK_STAT, 7, 1⟩
/-- Table 16-6, R421: W1C. -/ abbrev CLK_STAT_REFUSED : Field := ⟨Reg.CLK_STAT, 8, 1⟩
/-- Table 16-6, R421: RO. -/ abbrev CLK_STAT_REF_CODE : Field := ⟨Reg.CLK_STAT, 9, 2⟩
/-- Table 16-7, R421: RO. -/ abbrev CLK_DOMSTAT_SRC_D (d : Nat) : Field := ⟨Reg.CLK_DOMSTAT, 0 + 2 * d, 2⟩
/-- Table 16-8, R421: RW. -/ abbrev CLK_GATE0_CAN : Field := ⟨Reg.CLK_GATE0, 0, 8⟩
/-- Table 16-8, R421: RW. -/ abbrev CLK_GATE0_ETH : Field := ⟨Reg.CLK_GATE0, 8, 3⟩
/-- Table 16-8, R421: RW. -/ abbrev CLK_GATE0_AIN : Field := ⟨Reg.CLK_GATE0, 11, 4⟩
/-- Table 16-8, R421: RW. -/ abbrev CLK_GATE0_AOUT : Field := ⟨Reg.CLK_GATE0, 15, 1⟩
/-- Table 16-8, R421: RW. -/ abbrev CLK_GATE0_PIN : Field := ⟨Reg.CLK_GATE0, 16, 1⟩
/-- Table 16-8, R421: RW. -/ abbrev CLK_GATE0_SRV : Field := ⟨Reg.CLK_GATE0, 17, 1⟩
/-- Table 16-8, R421: RW. -/ abbrev CLK_GATE1_UART : Field := ⟨Reg.CLK_GATE1, 0, 16⟩
/-- Table 16-9, R421: RO. -/ abbrev CLK_CNT_REF_TRIPS : Field := ⟨Reg.CLK_CNT, 0, 8⟩
/-- Table 16-9, R421: RO. -/ abbrev CLK_CNT_XTAL_TRIPS : Field := ⟨Reg.CLK_CNT, 8, 8⟩
/-- Table 16-9, R421: RO. -/ abbrev CLK_CNT_LIMP_ENTRIES : Field := ⟨Reg.CLK_CNT, 16, 8⟩
/-- Table 16-9, R421: RO. -/ abbrev CLK_CNT_REFUSALS : Field := ⟨Reg.CLK_CNT, 24, 8⟩
/-- Table 16-9, R421: RO. -/ abbrev CLK_BERR_ADDR : Field := ⟨Reg.CLK_BERR, 0, 32⟩
/-- Table 16-9, R421: RO. -/ abbrev CLK_BERRINFO_CAUSE : Field := ⟨Reg.CLK_BERRINFO, 0, 2⟩
/-- Table 16-9, R421: RO. -/ abbrev CLK_BERRINFO_COUNT : Field := ⟨Reg.CLK_BERRINFO, 16, 16⟩
/-- Table 16-10, R421: W1C. -/ abbrev AON_RSTCAUSE_POR : Field := ⟨Reg.AON_RSTCAUSE, 0, 1⟩
/-- Table 16-10, R421: W1C. -/ abbrev AON_RSTCAUSE_RESET_N : Field := ⟨Reg.AON_RSTCAUSE, 1, 1⟩
/-- Table 16-10, R421: W1C. -/ abbrev AON_RSTCAUSE_DEV_RESET : Field := ⟨Reg.AON_RSTCAUSE, 2, 1⟩
/-- Table 16-10, R421: W1C. -/ abbrev AON_RSTCAUSE_PWRCYC : Field := ⟨Reg.AON_RSTCAUSE, 3, 1⟩
/-- Table 16-10, R421: W1C. -/ abbrev AON_RSTCAUSE_LONG : Field := ⟨Reg.AON_RSTCAUSE, 4, 1⟩
/-- Table 16-10, R421: RO. -/ abbrev AON_RSTLEN_MS : Field := ⟨Reg.AON_RSTLEN, 0, 32⟩
/-- Table 16-10, R421: RO. -/ abbrev AON_PWRCYC_ACTIVE : Field := ⟨Reg.AON_PWRCYC, 0, 1⟩
/-- Table 16-10, R421: RO. -/ abbrev AON_PWRCYC_REQS : Field := ⟨Reg.AON_PWRCYC, 8, 8⟩
/-- Table 14-5, R373: WO. -/ abbrev TB_CTRL_REARM : Field := ⟨Reg.TB_CTRL, 0, 1⟩
/-- Table 14-5, R373: WO. -/ abbrev TB_CTRL_CNT_CLR : Field := ⟨Reg.TB_CTRL, 1, 1⟩
/-- Table 14-5, R373: RO. -/ abbrev TB_STAT_STATE : Field := ⟨Reg.TB_STAT, 0, 3⟩
/-- Table 14-5, R373: RO. -/ abbrev TB_STAT_STEPPED : Field := ⟨Reg.TB_STAT, 3, 1⟩
/-- Table 14-5, R373: RO. -/ abbrev TB_STAT_COMPAT : Field := ⟨Reg.TB_STAT, 4, 1⟩
/-- Table 14-5, R373: RO. -/ abbrev TB_STAT_PTP_OK : Field := ⟨Reg.TB_STAT, 5, 1⟩
/-- Table 14-5, R373: RO. -/ abbrev TB_STAT_MASTER_REFUSED : Field := ⟨Reg.TB_STAT, 6, 1⟩
/-- Table 14-5, R373: RO. -/ abbrev TB_STAT_RATE_CLAMP : Field := ⟨Reg.TB_STAT, 7, 1⟩
/-- Table 14-5, R373: RO. -/ abbrev TB_STAT_LIMP : Field := ⟨Reg.TB_STAT, 8, 1⟩
/-- Table 14-5, R373: RO. -/ abbrev TB_STAT_FAULT : Field := ⟨Reg.TB_STAT, 9, 1⟩
/-- Table 14-5, R373: RO. -/ abbrev TB_STAT_SRC : Field := ⟨Reg.TB_STAT, 10, 2⟩
/-- Table 14-5, R373: W1C. -/ abbrev TB_STAT_REFUSED : Field := ⟨Reg.TB_STAT, 12, 1⟩
/-- Table 14-5, R373: RO. -/ abbrev TB_STAT_REF_CODE : Field := ⟨Reg.TB_STAT, 13, 3⟩
/-- Table 14-5, R373: RO. -/ abbrev TB_STAT_STEPS : Field := ⟨Reg.TB_STAT, 16, 8⟩
/-- Table 14-6, R373: RO. -/ abbrev TB_NS_NS : Field := ⟨Reg.TB_NS, 0, 32⟩
/-- Table 14-6, R373: RO. -/ abbrev TB_SUBNS_FRAC : Field := ⟨Reg.TB_SUBNS, 0, 24⟩
/-- Table 14-6, R373: RWS. -/ abbrev TB_INC_INC : Field := ⟨Reg.TB_INC, 0, 32⟩
/-- Table 14-6, R373: RW. -/ abbrev TB_JUMP_LIM_LIM : Field := ⟨Reg.TB_JUMP_LIM, 0, 17⟩
/-- Table 14-6, R373: RO. -/ abbrev TB_WRAPS_WRAPS : Field := ⟨Reg.TB_WRAPS, 0, 32⟩
/-- Table 14-6, R373: RO. -/ abbrev TB_OFS_OFS : Field := ⟨Reg.TB_OFS, 0, 32⟩
/-- Table 14-6, R373: RO. -/ abbrev TB_MPD_MPD : Field := ⟨Reg.TB_MPD, 0, 32⟩
/-- Table 14-6, R373: RO. -/ abbrev TB_STEPL_STEP : Field := ⟨Reg.TB_STEPL, 0, 32⟩
/-- Table 14-6, R373: RO. -/ abbrev TB_STEPH_STEP : Field := ⟨Reg.TB_STEPH, 0, 32⟩
/-- Table 14-6, R373: RO. -/ abbrev TB_STEPT_T : Field := ⟨Reg.TB_STEPT, 0, 32⟩
/-- Table 14-6, R373: RO. -/ abbrev TB_GML_GM : Field := ⟨Reg.TB_GML, 0, 32⟩
/-- Table 14-6, R373: RO. -/ abbrev TB_GMH_GM : Field := ⟨Reg.TB_GMH, 0, 32⟩
/-- Table 14-6, R373: RO. -/ abbrev TB_ALIGN_ADJ : Field := ⟨Reg.TB_ALIGN, 0, 32⟩
/-- Table 14-6, R373: RW. -/ abbrev TB_TRIGEN_EN : Field := ⟨Reg.TB_TRIGEN, 0, 16⟩
/-- Table 14-7, R373: RO. -/ abbrev TB_CNT_REFUSALS : Field := ⟨Reg.TB_CNT, 0, 8⟩
/-- Table 14-7, R373: RO. -/ abbrev TB_CNT_GM_CHANGES : Field := ⟨Reg.TB_CNT, 8, 8⟩
/-- Table 14-7, R373: RO. -/ abbrev TB_CNT_SRC_CHANGES : Field := ⟨Reg.TB_CNT, 16, 8⟩
/-- Table 14-7, R373: RO. -/ abbrev TB_CNT_HOLDOVERS : Field := ⟨Reg.TB_CNT, 24, 8⟩
/-- Table 14-8, R373: RWS. -/ abbrev TB_PTPLATp_RXLAT (p : Nat) : Field := ⟨Reg.TB_PTPLATp p, 0, 16⟩
/-- Table 14-8, R373: RWS. -/ abbrev TB_PTPLATp_TXLAT (p : Nat) : Field := ⟨Reg.TB_PTPLATp p, 16, 16⟩
/-- Table 14-8, R373: RO. -/ abbrev TB_PTPSTATp_PORT_STATE (p : Nat) : Field := ⟨Reg.TB_PTPSTATp p, 0, 4⟩
/-- Table 14-8, R373: RO. -/ abbrev TB_PTPSTATp_ONE_STEP (p : Nat) : Field := ⟨Reg.TB_PTPSTATp p, 4, 1⟩
/-- Table 14-8, R373: RO. -/ abbrev TB_PTPSTATp_SYNC_MISS (p : Nat) : Field := ⟨Reg.TB_PTPSTATp p, 8, 8⟩
/-- Table 14-8, R373: RO. -/ abbrev TB_PTPSTATp_SYNC_RX (p : Nat) : Field := ⟨Reg.TB_PTPSTATp p, 16, 16⟩
/-- Table 14-9, R373: RWS. -/ abbrev TB_TRIGm_TIME_TIME (m : Nat) : Field := ⟨Reg.TB_TRIGm_TIME m, 0, 32⟩
/-- Table 14-9, R373: RWS. -/ abbrev TB_TRIGm_PER_PER (m : Nat) : Field := ⟨Reg.TB_TRIGm_PER m, 0, 32⟩
/-- Table 14-9, R373: RWS. -/ abbrev TB_TRIGm_CFG_ABS (m : Nat) : Field := ⟨Reg.TB_TRIGm_CFG m, 0, 1⟩
/-- Table 14-9, R373: RWS. -/ abbrev TB_TRIGm_CFG_TARGET (m : Nat) : Field := ⟨Reg.TB_TRIGm_CFG m, 1, 2⟩
/-- Table 14-9, R373: RWS. -/ abbrev TB_TRIGm_CFG_TOUT (m : Nat) : Field := ⟨Reg.TB_TRIGm_CFG m, 3, 3⟩
/-- Table 14-9, R373: RWS. -/ abbrev TB_TRIGm_CFG_POL (m : Nat) : Field := ⟨Reg.TB_TRIGm_CFG m, 6, 1⟩
/-- Table 14-9, R373: RWS. -/ abbrev TB_TRIGm_CFG_PULSE_W (m : Nat) : Field := ⟨Reg.TB_TRIGm_CFG m, 8, 12⟩
/-- Table 14-9, R373: W1C. -/ abbrev TB_TRIGm_STAT_LATE (m : Nat) : Field := ⟨Reg.TB_TRIGm_STAT m, 0, 1⟩
/-- Table 14-9, R373: W1C. -/ abbrev TB_TRIGm_STAT_SKIPPED (m : Nat) : Field := ⟨Reg.TB_TRIGm_STAT m, 1, 1⟩
/-- Table 14-9, R373: RO. -/ abbrev TB_TRIGm_STAT_FIRES (m : Nat) : Field := ⟨Reg.TB_TRIGm_STAT m, 16, 16⟩
/-- Table 14-10, R373: RW. -/ abbrev TB_CAPm_CFG_SRC (m : Nat) : Field := ⟨Reg.TB_CAPm_CFG m, 0, 6⟩
/-- Table 14-10, R373: RW. -/ abbrev TB_CAPm_CFG_EDGE (m : Nat) : Field := ⟨Reg.TB_CAPm_CFG m, 6, 2⟩
/-- Table 14-10, R373: RW. -/ abbrev TB_CAPm_CFG_MINW (m : Nat) : Field := ⟨Reg.TB_CAPm_CFG m, 8, 8⟩
/-- Table 14-10, R373: RO. -/ abbrev TB_CAPm_VAL_VAL (m : Nat) : Field := ⟨Reg.TB_CAPm_VAL m, 0, 32⟩
/-- Table 14-10, R373: RO. -/ abbrev TB_CAPm_STAT_LEVEL (m : Nat) : Field := ⟨Reg.TB_CAPm_STAT m, 0, 3⟩
/-- Table 14-10, R373: W1C. -/ abbrev TB_CAPm_STAT_OVR (m : Nat) : Field := ⟨Reg.TB_CAPm_STAT m, 3, 1⟩
/-- Table 14-10, R373: RO. -/ abbrev TB_CAPm_STAT_OVR_CNT (m : Nat) : Field := ⟨Reg.TB_CAPm_STAT m, 8, 8⟩
/-- Table 2-5, R47: WO. -/ abbrev SLK_CTRL_CLR : Field := ⟨Reg.SLK_CTRL, 0, 1⟩
/-- Table 2-5, R47: RW. -/ abbrev SLK_CTRL_EN : Field := ⟨Reg.SLK_CTRL, 1, 1⟩
/-- Table 2-6, R47: RW. -/ abbrev SLK_THR_THR_FRAME : Field := ⟨Reg.SLK_THR, 0, 16⟩
/-- Table 2-6, R47: RW. -/ abbrev SLK_THR_THR_PERIOD : Field := ⟨Reg.SLK_THR, 16, 16⟩
/-- Table 2-7, R47: W1C. -/ abbrev SLK_STAT_LOW_F : Field := ⟨Reg.SLK_STAT, 0, 1⟩
/-- Table 2-7, R47: W1C. -/ abbrev SLK_STAT_LOW_P : Field := ⟨Reg.SLK_STAT, 1, 1⟩
/-- Table 2-7, R47: W1C. -/ abbrev SLK_STAT_MISS_F : Field := ⟨Reg.SLK_STAT, 2, 1⟩
/-- Table 2-7, R47: W1C. -/ abbrev SLK_STAT_MISS_P : Field := ⟨Reg.SLK_STAT, 3, 1⟩
/-- Table 2-7, R47: RO. -/ abbrev SLK_STAT_LOW_CNT : Field := ⟨Reg.SLK_STAT, 16, 16⟩
/-- Table 2-8, R47: RO. -/ abbrev SLK_MINF_MIN : Field := ⟨Reg.SLK_MINF, 0, 32⟩
/-- Table 2-8, R47: RO. -/ abbrev SLK_MINP_MIN : Field := ⟨Reg.SLK_MINP, 0, 32⟩
/-- Table 9-7, R254: WO. -/ abbrev FLT_CTRL_CNT_CLR : Field := ⟨Reg.FLT_CTRL, 0, 1⟩
/-- Table 9-8, R254: RO. -/ abbrev FLT_STAT_FENCED : Field := ⟨Reg.FLT_STAT, 0, 9⟩
/-- Table 9-8, R254: RO. -/ abbrev FLT_STAT_CL_FAULTED : Field := ⟨Reg.FLT_STAT, 9, 6⟩
/-- Table 9-8, R254: RO. -/ abbrev FLT_STAT_MOVED : Field := ⟨Reg.FLT_STAT, 15, 8⟩
/-- Table 9-8, R254: RO. -/ abbrev FLT_STAT_DIE_LOST : Field := ⟨Reg.FLT_STAT, 23, 2⟩
/-- Table 9-8, R254: RO. -/ abbrev FLT_STAT_BRIDGE_REROUTED : Field := ⟨Reg.FLT_STAT, 25, 1⟩
/-- Table 9-8, R254: RO. -/ abbrev FLT_STAT_PART_LOST : Field := ⟨Reg.FLT_STAT, 26, 1⟩
/-- Table 9-8, R254: RO. -/ abbrev FLT_STAT_COVER : Field := ⟨Reg.FLT_STAT, 27, 1⟩
/-- Table 9-8, R254: RO. -/ abbrev FLT_STAT_REGION_BOUND : Field := ⟨Reg.FLT_STAT, 28, 1⟩
/-- Table 9-9, R254: RO. -/ abbrev FLT_SPARE_SPARES_LEFT : Field := ⟨Reg.FLT_SPARE, 0, 9⟩
/-- Table 9-9, R254: RO. -/ abbrev FLT_SPARE_WAKE_FAIL : Field := ⟨Reg.FLT_SPARE, 16, 8⟩
/-- Table 9-9, R254: RO. -/ abbrev FLT_SPARE_BANKS_RETIRED : Field := ⟨Reg.FLT_SPARE, 24, 8⟩
/-- Table 9-10, R254: RO. -/ abbrev FLT_RERUN_RERUNS : Field := ⟨Reg.FLT_RERUN, 0, 16⟩
/-- Table 9-10, R254: RO. -/ abbrev FLT_RERUN_ABANDONED : Field := ⟨Reg.FLT_RERUN, 16, 16⟩
/-- Table 9-11, R254: RO. -/ abbrev FLT_LAST_KIND : Field := ⟨Reg.FLT_LAST, 0, 4⟩
/-- Table 9-11, R254: RO. -/ abbrev FLT_LAST_PATH : Field := ⟨Reg.FLT_LAST, 4, 8⟩
/-- Table 9-11, R254: RO. -/ abbrev FLT_LAST_TASK : Field := ⟨Reg.FLT_LAST, 12, 12⟩
/-- Table 9-11, R254: RO. -/ abbrev FLT_LAST_TASK_VALID : Field := ⟨Reg.FLT_LAST, 24, 1⟩
/-- Table 9-11, R254: RO. -/ abbrev FLT_LAST_CAUSE : Field := ⟨Reg.FLT_LAST, 25, 3⟩
/-- Table 9-12, R254: RO. -/ abbrev FLT_LASTT_TIME : Field := ⟨Reg.FLT_LASTT, 0, 32⟩
/-- Table 9-12, R254: RO. -/ abbrev FLT_MARK_MARKERS : Field := ⟨Reg.FLT_MARK, 0, 16⟩
/-- Table 9-12, R254: RO. -/ abbrev FLT_MARK_CONFLICTS : Field := ⟨Reg.FLT_MARK, 16, 16⟩
/-- Table 9-13, R254: RW. -/ abbrev OCH_SEL_HANDLE : Field := ⟨Reg.OCH_SEL, 0, 32⟩
/-- Table 9-14, R254: RO. -/ abbrev OCH_SEQ_NEXT_SEQ : Field := ⟨Reg.OCH_SEQ, 0, 16⟩
/-- Table 9-14, R254: RO. -/ abbrev OCH_SEQ_EPOCH : Field := ⟨Reg.OCH_SEQ, 16, 8⟩
/-- Table 9-14, R254: RO. -/ abbrev OCH_SEQ_BAD_HANDLE : Field := ⟨Reg.OCH_SEQ, 24, 1⟩
/-- Table 9-15, R254: RO. -/ abbrev OCH_CNT_DUP_DROPPED : Field := ⟨Reg.OCH_CNT, 0, 16⟩
/-- Table 9-15, R254: RO. -/ abbrev OCH_CNT_SKIPPED : Field := ⟨Reg.OCH_CNT, 16, 16⟩
/-- Table 9-15, R254: RO. -/ abbrev OCH_LATE_LATE_OUT : Field := ⟨Reg.OCH_LATE, 0, 16⟩
/-- Table 9-15, R254: RO. -/ abbrev OCH_LATE_DUP_DIFFER : Field := ⟨Reg.OCH_LATE, 16, 8⟩
/-- Table 17-10, R443: WO. -/ abbrev IMG_CMD_OP : Field := ⟨Reg.IMG_CMD, 0, 4⟩
/-- Table 17-10, R443: WO. -/ abbrev IMG_CMD_BANK : Field := ⟨Reg.IMG_CMD, 4, 1⟩
/-- Table 17-10, R443: WO. -/ abbrev IMG_CMD_REGION : Field := ⟨Reg.IMG_CMD, 5, 3⟩
/-- Table 17-10, R443: WO. -/ abbrev IMG_CMD_CNT_CLR : Field := ⟨Reg.IMG_CMD, 8, 1⟩
/-- Table 17-11, R443: RO. -/ abbrev IMG_STAT_RUN_BANK : Field := ⟨Reg.IMG_STAT, 0, 1⟩
/-- Table 17-11, R443: RO. -/ abbrev IMG_STAT_CONFLICT : Field := ⟨Reg.IMG_STAT, 1, 1⟩
/-- Table 17-11, R443: RO. -/ abbrev IMG_STAT_ONE_BANK : Field := ⟨Reg.IMG_STAT, 2, 1⟩
/-- Table 17-11, R443: RO. -/ abbrev IMG_STAT_NO_IMAGE : Field := ⟨Reg.IMG_STAT, 3, 1⟩
/-- Table 17-11, R443: RO. -/ abbrev IMG_STAT_ADOPTING : Field := ⟨Reg.IMG_STAT, 4, 1⟩
/-- Table 17-11, R443: RO. -/ abbrev IMG_STAT_MIXED : Field := ⟨Reg.IMG_STAT, 5, 1⟩
/-- Table 17-11, R443: RO. -/ abbrev IMG_STAT_RELOADING : Field := ⟨Reg.IMG_STAT, 6, 1⟩
/-- Table 17-11, R443: RO. -/ abbrev IMG_STAT_RLD_REGION : Field := ⟨Reg.IMG_STAT, 7, 3⟩
/-- Table 17-11, R443: RO. -/ abbrev IMG_STAT_HALTED : Field := ⟨Reg.IMG_STAT, 10, 1⟩
/-- Table 17-11, R443: RO. -/ abbrev IMG_STAT_HALT_CODE : Field := ⟨Reg.IMG_STAT, 11, 2⟩
/-- Table 17-11, R443: RO. -/ abbrev IMG_STAT_ADOPT_STEP : Field := ⟨Reg.IMG_STAT, 13, 3⟩
/-- Table 17-11, R443: RO. -/ abbrev IMG_STAT_KEYSTATE : Field := ⟨Reg.IMG_STAT, 16, 1⟩
/-- Table 17-11, R443: W1C. -/ abbrev IMG_STAT_REFUSED : Field := ⟨Reg.IMG_STAT, 17, 1⟩
/-- Table 17-11, R443: RO. -/ abbrev IMG_STAT_REF_CODE : Field := ⟨Reg.IMG_STAT, 18, 4⟩
/-- Table 17-12, R443: RO. -/ abbrev IMG_RUNGEN_GEN : Field := ⟨Reg.IMG_RUNGEN, 0, 32⟩
/-- Table 17-14, R443: RO. -/ abbrev IMG_CNT_RELOADS : Field := ⟨Reg.IMG_CNT, 0, 8⟩
/-- Table 17-14, R443: RO. -/ abbrev IMG_CNT_RLD_FAILS : Field := ⟨Reg.IMG_CNT, 8, 8⟩
/-- Table 17-14, R443: RO. -/ abbrev IMG_CNT_ADOPTIONS : Field := ⟨Reg.IMG_CNT, 16, 8⟩
/-- Table 17-14, R443: RO. -/ abbrev IMG_CNT_HALTS : Field := ⟨Reg.IMG_CNT, 24, 8⟩
/-- Table 17-12, R443: RO. -/ abbrev IMG_RUNSHAw_SHA (w : Nat) : Field := ⟨Reg.IMG_RUNSHAw w, 0, 32⟩
/-- Table 17-13, R443: RO. -/ abbrev IMG_BANKk_GEN_GEN (k : Nat) : Field := ⟨Reg.IMG_BANKk_GEN k, 0, 32⟩
/-- Table 17-13, R443: RO. -/ abbrev IMG_BANKk_STAT_VALIDITY (k : Nat) : Field := ⟨Reg.IMG_BANKk_STAT k, 0, 4⟩
/-- Table 17-13, R443: RO. -/ abbrev IMG_BANKk_STAT_FIRST_BAD (k : Nat) : Field := ⟨Reg.IMG_BANKk_STAT k, 4, 6⟩
/-- Table 17-13, R443: RO. -/ abbrev IMG_BANKk_STAT_LIVE (k : Nat) : Field := ⟨Reg.IMG_BANKk_STAT k, 10, 1⟩
/-- Table 17-13, R443: RO. -/ abbrev IMG_BANKk_STAT_CONFLICT (k : Nat) : Field := ⟨Reg.IMG_BANKk_STAT k, 11, 1⟩
/-- Table 17-13, R443: RO. -/ abbrev IMG_BANKk_STAT_SIGNED (k : Nat) : Field := ⟨Reg.IMG_BANKk_STAT k, 12, 1⟩
/-- Table 18-9, R469: WO. -/ abbrev MGT_CTRL_CNT_CLR : Field := ⟨Reg.MGT_CTRL, 0, 1⟩
/-- Table 18-9, R469: RO. -/ abbrev MGT_STAT_SESSIONS : Field := ⟨Reg.MGT_STAT, 0, 4⟩
/-- Table 18-9, R469: RO. -/ abbrev MGT_STAT_SUBS : Field := ⟨Reg.MGT_STAT, 4, 6⟩
/-- Table 18-9, R469: RO. -/ abbrev MGT_STAT_ARM : Field := ⟨Reg.MGT_STAT, 10, 2⟩
/-- Table 18-9, R469: RO. -/ abbrev MGT_STAT_NO_AUTH : Field := ⟨Reg.MGT_STAT, 12, 1⟩
/-- Table 18-10, R469: RO. -/ abbrev MGT_CNT0_BAD_MAC : Field := ⟨Reg.MGT_CNT0, 0, 8⟩
/-- Table 18-10, R469: RO. -/ abbrev MGT_CNT0_REPLAY : Field := ⟨Reg.MGT_CNT0, 8, 8⟩
/-- Table 18-10, R469: RO. -/ abbrev MGT_CNT0_NO_SESSION : Field := ⟨Reg.MGT_CNT0, 16, 8⟩
/-- Table 18-10, R469: RO. -/ abbrev MGT_CNT0_RETX : Field := ⟨Reg.MGT_CNT0, 24, 8⟩
/-- Table 18-10, R469: RO. -/ abbrev MGT_CNT1_REQUESTS : Field := ⟨Reg.MGT_CNT1, 0, 16⟩
/-- Table 18-10, R469: RO. -/ abbrev MGT_CNT1_BAD_MEMBER : Field := ⟨Reg.MGT_CNT1, 16, 8⟩
/-- Table 18-10, R469: RO. -/ abbrev MGT_CNT1_BAD_FRAME : Field := ⟨Reg.MGT_CNT1, 24, 8⟩
/-- Table 19-4, R482: WO. -/ abbrev REC_CTRL_FREEZE : Field := ⟨Reg.REC_CTRL, 0, 1⟩
/-- Table 19-4, R482: WO. -/ abbrev REC_CTRL_RELEASE : Field := ⟨Reg.REC_CTRL, 1, 1⟩
/-- Table 19-4, R482: WO. -/ abbrev REC_CTRL_CNT_CLR : Field := ⟨Reg.REC_CTRL, 2, 1⟩
/-- Table 19-4, R482: RO. -/ abbrev REC_STAT_READY : Field := ⟨Reg.REC_STAT, 0, 1⟩
/-- Table 19-4, R482: RO. -/ abbrev REC_STAT_FREEZING : Field := ⟨Reg.REC_STAT, 1, 1⟩
/-- Table 19-4, R482: RO. -/ abbrev REC_STAT_FROZEN : Field := ⟨Reg.REC_STAT, 2, 1⟩
/-- Table 19-4, R482: RO. -/ abbrev REC_STAT_SINGLE_0 : Field := ⟨Reg.REC_STAT, 3, 1⟩
/-- Table 19-4, R482: RO. -/ abbrev REC_STAT_SINGLE_1 : Field := ⟨Reg.REC_STAT, 4, 1⟩
/-- Table 19-4, R482: RO. -/ abbrev REC_STAT_HELD : Field := ⟨Reg.REC_STAT, 5, 9⟩
/-- Table 19-4, R482: W1C. -/ abbrev REC_STAT_REFUSED : Field := ⟨Reg.REC_STAT, 14, 1⟩
/-- Table 19-4, R482: RO. -/ abbrev REC_STAT_REF_CODE : Field := ⟨Reg.REC_STAT, 15, 2⟩
/-- Table 19-5, R482: RO. -/ abbrev REC_RNUM_NEXT : Field := ⟨Reg.REC_RNUM, 0, 32⟩
/-- Table 19-5, R482: RO. -/ abbrev REC_OPTIME_TIME : Field := ⟨Reg.REC_OPTIME, 0, 32⟩
/-- Table 19-5, R482: RO. -/ abbrev REC_PCYCLE_COUNT : Field := ⟨Reg.REC_PCYCLE, 0, 32⟩
/-- Table 19-5, R482: RO. -/ abbrev REC_CNT_HOLD_LOST : Field := ⟨Reg.REC_CNT, 0, 16⟩
/-- Table 19-5, R482: RO. -/ abbrev REC_CNT_LOST_B0 : Field := ⟨Reg.REC_CNT, 16, 8⟩
/-- Table 19-5, R482: RO. -/ abbrev REC_CNT_LOST_B1 : Field := ⟨Reg.REC_CNT, 24, 8⟩
/-- Table 19-5, R482: RO. -/ abbrev REC_WPTRk_POS (k : Nat) : Field := ⟨Reg.REC_WPTRk k, 0, 19⟩
/-- Table 10-12, R277: WO. -/ abbrev SLH_CMD_HANDOVER : Field := ⟨Reg.SLH_CMD, 0, 1⟩
/-- Table 10-12, R277: WO. -/ abbrev SLH_CMD_TARGET : Field := ⟨Reg.SLH_CMD, 1, 2⟩
/-- Table 10-12, R277: WO. -/ abbrev SLH_CMD_CNT_CLR : Field := ⟨Reg.SLH_CMD, 3, 1⟩
/-- Table 10-13, R277: RO. -/ abbrev SLH_STAT_MEMBER : Field := ⟨Reg.SLH_STAT, 0, 2⟩
/-- Table 10-13, R277: RO. -/ abbrev SLH_STAT_ROLE : Field := ⟨Reg.SLH_STAT, 2, 2⟩
/-- Table 10-13, R277: RO. -/ abbrev SLH_STAT_ELIGIBLE : Field := ⟨Reg.SLH_STAT, 4, 1⟩
/-- Table 10-13, R277: RO. -/ abbrev SLH_STAT_ISOLATED : Field := ⟨Reg.SLH_STAT, 5, 1⟩
/-- Table 10-13, R277: RO. -/ abbrev SLH_STAT_STATE_FRESH : Field := ⟨Reg.SLH_STAT, 6, 1⟩
/-- Table 10-13, R277: RO. -/ abbrev SLH_STAT_ALIGNED : Field := ⟨Reg.SLH_STAT, 7, 1⟩
/-- Table 10-13, R277: RO. -/ abbrev SLH_STAT_SYNCED : Field := ⟨Reg.SLH_STAT, 8, 1⟩
/-- Table 10-13, R277: RO. -/ abbrev SLH_STAT_HANDOVER_PEND : Field := ⟨Reg.SLH_STAT, 9, 1⟩
/-- Table 10-13, R277: W1C. -/ abbrev SLH_STAT_HANDOVER_REFUSED : Field := ⟨Reg.SLH_STAT, 10, 1⟩
/-- Table 10-13, R277: RO. -/ abbrev SLH_STAT_GROUP_SIZE : Field := ⟨Reg.SLH_STAT, 11, 2⟩
/-- Table 10-14, R277: RO. -/ abbrev SLH_EPOCH_GEPOCH : Field := ⟨Reg.SLH_EPOCH, 0, 32⟩
/-- Table 10-14, R277: RO. -/ abbrev SLH_AEPOCH_HELD : Field := ⟨Reg.SLH_AEPOCH, 0, 32⟩
/-- Table 10-14, R277: RO. -/ abbrev SLH_STATEF_FRAME : Field := ⟨Reg.SLH_STATEF, 0, 32⟩
/-- Table 10-15, R277: RO. -/ abbrev SLH_CNT0_TAKEOVERS : Field := ⟨Reg.SLH_CNT0, 0, 8⟩
/-- Table 10-15, R277: RO. -/ abbrev SLH_CNT0_DEMOTIONS : Field := ⟨Reg.SLH_CNT0, 8, 8⟩
/-- Table 10-15, R277: RO. -/ abbrev SLH_CNT0_AUTH_FAIL : Field := ⟨Reg.SLH_CNT0, 16, 8⟩
/-- Table 10-15, R277: RO. -/ abbrev SLH_CNT0_STATE_BAD : Field := ⟨Reg.SLH_CNT0, 24, 8⟩
/-- Table 10-15, R277: RO. -/ abbrev SLH_CNT1_HB_LATE : Field := ⟨Reg.SLH_CNT1, 0, 16⟩
/-- Table 10-15, R277: RO. -/ abbrev SLH_CNT1_STALE_RX : Field := ⟨Reg.SLH_CNT1, 16, 8⟩
/-- Table 10-15, R277: RO. -/ abbrev SLH_CNT1_BAD_FRAME : Field := ⟨Reg.SLH_CNT1, 24, 8⟩
/-- Table 10-16, R277: RO. -/ abbrev SLH_MEMm_SEEN (m : Nat) : Field := ⟨Reg.SLH_MEMm m, 0, 1⟩
/-- Table 10-16, R277: RO. -/ abbrev SLH_MEMm_ELIGIBLE (m : Nat) : Field := ⟨Reg.SLH_MEMm m, 1, 1⟩
/-- Table 10-16, R277: RO. -/ abbrev SLH_MEMm_ROLE (m : Nat) : Field := ⟨Reg.SLH_MEMm m, 2, 2⟩
/-- Table 10-16, R277: RO. -/ abbrev SLH_MEMm_AGE (m : Nat) : Field := ⟨Reg.SLH_MEMm m, 4, 12⟩
/-- Table 10-16, R277: RO. -/ abbrev SLH_MEMm_TESTS (m : Nat) : Field := ⟨Reg.SLH_MEMm m, 16, 16⟩
/-- Table 11-12, R306: WO. -/ abbrev SAF_CTRL_HOLD : Field := ⟨Reg.SAF_CTRL, 0, 1⟩
/-- Table 11-12, R306: WO. -/ abbrev SAF_CTRL_RELEASE : Field := ⟨Reg.SAF_CTRL, 1, 1⟩
/-- Table 11-12, R306: WO. -/ abbrev SAF_CTRL_CNT_CLR : Field := ⟨Reg.SAF_CTRL, 2, 1⟩
/-- Table 11-13, R306: RO. -/ abbrev SAF_STAT_READY : Field := ⟨Reg.SAF_STAT, 0, 1⟩
/-- Table 11-13, R306: RO. -/ abbrev SAF_STAT_HOLD : Field := ⟨Reg.SAF_STAT, 1, 1⟩
/-- Table 11-13, R306: RO. -/ abbrev SAF_STAT_SAFE : Field := ⟨Reg.SAF_STAT, 2, 1⟩
/-- Table 11-13, R306: RO. -/ abbrev SAF_STAT_SLATE_OK : Field := ⟨Reg.SAF_STAT, 3, 1⟩
/-- Table 11-13, R306: RO. -/ abbrev SAF_STAT_COBALT_OK : Field := ⟨Reg.SAF_STAT, 4, 1⟩
/-- Table 11-13, R306: RO. -/ abbrev SAF_STAT_CFG_MATCH : Field := ⟨Reg.SAF_STAT, 5, 1⟩
/-- Table 11-13, R306: RO. -/ abbrev SAF_STAT_COBALT_STATE : Field := ⟨Reg.SAF_STAT, 6, 2⟩
/-- Table 11-13, R306: RO. -/ abbrev SAF_STAT_CLK_OK : Field := ⟨Reg.SAF_STAT, 8, 1⟩
/-- Table 11-13, R306: W1C. -/ abbrev SAF_STAT_REFUSED : Field := ⟨Reg.SAF_STAT, 9, 1⟩
/-- Table 11-14, R306: RO. -/ abbrev SAF_VER_FW_MINOR : Field := ⟨Reg.SAF_VER, 0, 8⟩
/-- Table 11-14, R306: RO. -/ abbrev SAF_VER_FW_MAJOR : Field := ⟨Reg.SAF_VER, 8, 8⟩
/-- Table 11-14, R306: RO. -/ abbrev SAF_VER_CFG_CRC : Field := ⟨Reg.SAF_VER, 16, 16⟩
/-- Table 11-15, R306: RO. -/ abbrev SAF_SO_PERMIT_A : Field := ⟨Reg.SAF_SO, 0, 16⟩
/-- Table 11-15, R306: RO. -/ abbrev SAF_SO_PERMIT_B : Field := ⟨Reg.SAF_SO, 16, 16⟩
/-- Table 11-15, R306: RO. -/ abbrev SAF_SORB_RB_A : Field := ⟨Reg.SAF_SORB, 0, 16⟩
/-- Table 11-15, R306: RO. -/ abbrev SAF_SORB_RB_B : Field := ⟨Reg.SAF_SORB, 16, 16⟩
/-- Table 11-16, R306: RO. -/ abbrev SAF_SIA_RAW : Field := ⟨Reg.SAF_SIA, 0, 32⟩
/-- Table 11-16, R306: RO. -/ abbrev SAF_SIB_RAW : Field := ⟨Reg.SAF_SIB, 0, 32⟩
/-- Table 11-17, R306: RO. -/ abbrev SAF_CNT_STOPS : Field := ⟨Reg.SAF_CNT, 0, 16⟩
/-- Table 11-17, R306: RO. -/ abbrev SAF_CNT_FAULTS : Field := ⟨Reg.SAF_CNT, 16, 8⟩
/-- Table 11-17, R306: RO. -/ abbrev SAF_CNT_RESETS : Field := ⟨Reg.SAF_CNT, 24, 8⟩
/-- Table 11-18, R306: RO. -/ abbrev SAF_LAST_FUNC : Field := ⟨Reg.SAF_LAST, 0, 5⟩
/-- Table 11-18, R306: RO. -/ abbrev SAF_LAST_CAUSE : Field := ⟨Reg.SAF_LAST, 5, 4⟩
/-- Table 11-18, R306: RO. -/ abbrev SAF_LASTT_TIME : Field := ⟨Reg.SAF_LASTT, 0, 32⟩
/-- Table 11-19, R306: RO. -/ abbrev SAF_FNf_STATE (f : Nat) : Field := ⟨Reg.SAF_FNf f, 0, 3⟩
/-- Table 11-19, R306: RO. -/ abbrev SAF_FNf_A_CLOSED (f : Nat) : Field := ⟨Reg.SAF_FNf f, 3, 1⟩
/-- Table 11-19, R306: RO. -/ abbrev SAF_FNf_B_CLOSED (f : Nat) : Field := ⟨Reg.SAF_FNf f, 4, 1⟩
/-- Table 11-19, R306: RO. -/ abbrev SAF_FNf_DISC_RUN (f : Nat) : Field := ⟨Reg.SAF_FNf f, 5, 1⟩
/-- Table 11-19, R306: RO. -/ abbrev SAF_FNf_RESET_WAIT (f : Nat) : Field := ⟨Reg.SAF_FNf f, 6, 1⟩
/-- Table 11-19, R306: RO. -/ abbrev SAF_FNf_SLATE_PERMIT (f : Nat) : Field := ⟨Reg.SAF_FNf f, 7, 1⟩
/-- Table 11-19, R306: RO. -/ abbrev SAF_FNf_COBALT_PERMIT (f : Nat) : Field := ⟨Reg.SAF_FNf f, 8, 1⟩
/-- Table 11-19, R306: RO. -/ abbrev SAF_FNf_CAUSE (f : Nat) : Field := ⟨Reg.SAF_FNf f, 9, 4⟩
/-- Table 11-19, R306: RO. -/ abbrev SAF_FNf_OWNED (f : Nat) : Field := ⟨Reg.SAF_FNf f, 13, 1⟩
/-- Table 4-13, R119: RW. -/ abbrev FUS_CTRL_CAL_FREEZE : Field := ⟨Reg.FUS_CTRL, 0, 1⟩
/-- Table 4-13, R119: WO. -/ abbrev FUS_CTRL_CNT_CLR : Field := ⟨Reg.FUS_CTRL, 1, 1⟩
/-- Table 4-14, R119: RO. -/ abbrev FUS_STAT_STATUS : Field := ⟨Reg.FUS_STAT, 0, 32⟩
/-- Table 4-15, R119: RO. -/ abbrev FUS_LATE_LATE_USED : Field := ⟨Reg.FUS_LATE, 0, 16⟩
/-- Table 4-15, R119: RO. -/ abbrev FUS_LATE_LATE_DROPPED : Field := ⟨Reg.FUS_LATE, 16, 16⟩
/-- Table 4-16, R119: RO. -/ abbrev FUS_TCNT_UNALIGNED : Field := ⟨Reg.FUS_TCNT, 0, 8⟩
/-- Table 4-16, R119: RO. -/ abbrev FUS_TCNT_TIME_AHEAD : Field := ⟨Reg.FUS_TCNT, 8, 8⟩
/-- Table 4-16, R119: RO. -/ abbrev FUS_TCNT_DUP_STAMP : Field := ⟨Reg.FUS_TCNT, 16, 8⟩
/-- Table 4-16, R119: RO. -/ abbrev FUS_TCNT_PPS_MISS : Field := ⟨Reg.FUS_TCNT, 24, 8⟩
/-- Table 4-17, R119: RO. -/ abbrev FUS_EPOCH_COUNT : Field := ⟨Reg.FUS_EPOCH, 0, 32⟩
/-- Table 4-18, R119: RO. -/ abbrev FUS_SRCSTATs_STATE (s : Nat) : Field := ⟨Reg.FUS_SRCSTATs s, 0, 3⟩
/-- Table 4-18, R119: RO. -/ abbrev FUS_SRCSTATs_REASON (s : Nat) : Field := ⟨Reg.FUS_SRCSTATs s, 3, 5⟩
/-- Table 4-18, R119: RO. -/ abbrev FUS_SRCSTATs_WEIGHT (s : Nat) : Field := ⟨Reg.FUS_SRCSTATs s, 8, 8⟩
/-- Table 4-18, R119: RO. -/ abbrev FUS_SRCSTATs_CLEAN (s : Nat) : Field := ⟨Reg.FUS_SRCSTATs s, 16, 8⟩
/-- Table 4-19, R119: RO. -/ abbrev FUS_TRESs_RESID (s : Nat) : Field := ⟨Reg.FUS_TRESs s, 0, 16⟩
/-- Table 4-19, R119: RO. -/ abbrev FUS_TRESs_DRIFT (s : Nat) : Field := ⟨Reg.FUS_TRESs s, 16, 16⟩
/-- Table 5-11, R148: WO. -/ abbrev CTL_MODECMD_CODE : Field := ⟨Reg.CTL_MODECMD, 0, 4⟩
/-- Table 5-12, R148: RO. -/ abbrev CTL_MODESTAT_MODE : Field := ⟨Reg.CTL_MODESTAT, 0, 4⟩
/-- Table 5-12, R148: RO. -/ abbrev CTL_MODESTAT_REQ : Field := ⟨Reg.CTL_MODESTAT, 4, 4⟩
/-- Table 5-12, R148: RO. -/ abbrev CTL_MODESTAT_RESULT : Field := ⟨Reg.CTL_MODESTAT, 8, 5⟩
/-- Table 5-12, R148: RO. -/ abbrev CTL_MODESTAT_CHG_CNT : Field := ⟨Reg.CTL_MODESTAT, 16, 16⟩
/-- Table 5-13, R148: RO. -/ abbrev CTL_STAT_STATUS : Field := ⟨Reg.CTL_STAT, 0, 32⟩
/-- Table 5-14, R148: W1C. -/ abbrev CTL_ALARM_PLAN_OLD : Field := ⟨Reg.CTL_ALARM, 0, 1⟩
/-- Table 5-14, R148: W1C. -/ abbrev CTL_ALARM_PLAN_EXPIRED : Field := ⟨Reg.CTL_ALARM, 1, 1⟩
/-- Table 5-14, R148: W1C. -/ abbrev CTL_ALARM_PLAN_MISS : Field := ⟨Reg.CTL_ALARM, 2, 1⟩
/-- Table 5-14, R148: W1C. -/ abbrev CTL_ALARM_PMS_LOST : Field := ⟨Reg.CTL_ALARM, 3, 1⟩
/-- Table 5-14, R148: W1C. -/ abbrev CTL_ALARM_TRACK_END : Field := ⟨Reg.CTL_ALARM, 4, 1⟩
/-- Table 5-14, R148: W1C. -/ abbrev CTL_ALARM_TARGET_LOST : Field := ⟨Reg.CTL_ALARM, 5, 1⟩
/-- Table 5-14, R148: W1C. -/ abbrev CTL_ALARM_SRC_LOST : Field := ⟨Reg.CTL_ALARM, 6, 1⟩
/-- Table 5-14, R148: W1C. -/ abbrev CTL_ALARM_HOLDOVER_DP : Field := ⟨Reg.CTL_ALARM, 7, 1⟩
/-- Table 5-14, R148: W1C. -/ abbrev CTL_ALARM_DP_DROPPED : Field := ⟨Reg.CTL_ALARM, 8, 1⟩
/-- Table 5-14, R148: W1C. -/ abbrev CTL_ALARM_CONSEQ_LOST : Field := ⟨Reg.CTL_ALARM, 9, 1⟩
/-- Table 5-15, R148: RO. -/ abbrev CTL_PLAN_PERIOD : Field := ⟨Reg.CTL_PLAN, 0, 16⟩
/-- Table 5-15, R148: RO. -/ abbrev CTL_PLAN_AGE : Field := ⟨Reg.CTL_PLAN, 16, 16⟩
/-- Table 6-8, R176: WO. -/ abbrev SLV_CTRL_CNT_CLR : Field := ⟨Reg.SLV_CTRL, 0, 1⟩
/-- Table 6-8, R176: WO. -/ abbrev SLV_CTRL_REFRESH : Field := ⟨Reg.SLV_CTRL, 4, 4⟩
/-- Table 6-9, R176: RO. -/ abbrev SLV_STATc_STATUS (c : Nat) : Field := ⟨Reg.SLV_STATc c, 0, 32⟩
/-- Table 6-10, R176: RO. -/ abbrev SLV_MERITc_RESID (c : Nat) : Field := ⟨Reg.SLV_MERITc c, 0, 32⟩
/-- Table 6-11, R176: RO. -/ abbrev SLV_RESc_RP (c : Nat) : Field := ⟨Reg.SLV_RESc c, 0, 16⟩
/-- Table 6-11, R176: RO. -/ abbrev SLV_RESc_RD (c : Nat) : Field := ⟨Reg.SLV_RESc c, 16, 16⟩
/-- Table 6-12, R176: RO. -/ abbrev SLV_FACTc_REFRESHES (c : Nat) : Field := ⟨Reg.SLV_FACTc c, 0, 16⟩
/-- Table 6-12, R176: RO. -/ abbrev SLV_FACTc_ABANDONED (c : Nat) : Field := ⟨Reg.SLV_FACTc c, 16, 8⟩
/-- Table 6-12, R176: RO. -/ abbrev SLV_FACTc_REJECTED (c : Nat) : Field := ⟨Reg.SLV_FACTc c, 24, 8⟩
/-- Table 6-13, R176: RO. -/ abbrev SLV_REGc_PIV_REPL (c : Nat) : Field := ⟨Reg.SLV_REGc c, 0, 16⟩
/-- Table 6-13, R176: RO. -/ abbrev SLV_REGc_REG_SOLVES (c : Nat) : Field := ⟨Reg.SLV_REGc c, 16, 16⟩
/-- Table 6-14, R176: RO. -/ abbrev SLV_CNTc_STALE (c : Nat) : Field := ⟨Reg.SLV_CNTc c, 0, 16⟩
/-- Table 6-14, R176: RO. -/ abbrev SLV_CNTc_INELIGIBLE (c : Nat) : Field := ⟨Reg.SLV_CNTc c, 16, 16⟩
/-- Table 6-15, R176: RO. -/ abbrev SLV_LASTc_GROUP (c : Nat) : Field := ⟨Reg.SLV_LASTc c, 0, 6⟩
/-- Table 6-15, R176: RO. -/ abbrev SLV_LASTc_RESTARTS (c : Nat) : Field := ⟨Reg.SLV_LASTc c, 16, 16⟩
/-- Table 7-10, R204: WO. -/ abbrev ALC_CTRL_CNT_CLR : Field := ⟨Reg.ALC_CTRL, 0, 1⟩
/-- Table 7-11, R204: RW. -/ abbrev ALC_ENABLE_EN : Field := ⟨Reg.ALC_ENABLE, 0, 32⟩
/-- Table 7-12, R204: RO. -/ abbrev ALC_STAT_FLAGS : Field := ⟨Reg.ALC_STAT, 0, 32⟩
/-- Table 7-13, R204: RO. -/ abbrev ALC_REMOVED_MASK : Field := ⟨Reg.ALC_REMOVED, 0, 32⟩
/-- Table 7-14, R204: RO. -/ abbrev ALC_CNT_SHORT : Field := ⟨Reg.ALC_CNT, 0, 16⟩
/-- Table 7-14, R204: RO. -/ abbrev ALC_CNT_WINCHG : Field := ⟨Reg.ALC_CNT, 16, 16⟩
/-- Table 7-15, R204: RO. -/ abbrev ALC_THRi_WIN_LO (i : Nat) : Field := ⟨Reg.ALC_THRi i, 0, 9⟩
/-- Table 7-15, R204: RO. -/ abbrev ALC_THRi_WIN_HI (i : Nat) : Field := ⟨Reg.ALC_THRi i, 9, 9⟩
/-- Table 7-15, R204: RO. -/ abbrev ALC_THRi_REASON (i : Nat) : Field := ⟨Reg.ALC_THRi i, 18, 4⟩
/-- Table 7-15, R204: RO. -/ abbrev ALC_THRi_PRESENT (i : Nat) : Field := ⟨Reg.ALC_THRi i, 22, 1⟩
/-- Table 7-15, R204: RO. -/ abbrev ALC_THRi_IN_FORBIDDEN (i : Nat) : Field := ⟨Reg.ALC_THRi i, 23, 1⟩
/-- Table 7-15, R204: RO. -/ abbrev ALC_THRi_AZ_NOFB (i : Nat) : Field := ⟨Reg.ALC_THRi i, 24, 1⟩
/-- Table 7-15, R204: RO. -/ abbrev ALC_THRi_AZ_HOLD (i : Nat) : Field := ⟨Reg.ALC_THRi i, 25, 1⟩
/-- Table 7-15, R204: RO. -/ abbrev ALC_THRi_CLIPPED (i : Nat) : Field := ⟨Reg.ALC_THRi i, 26, 1⟩
/-- Table 7-16, R204: WO. -/ abbrev CQA_CTRL_RESTART : Field := ⟨Reg.CQA_CTRL, 0, 1⟩
/-- Table 7-16, R204: WO. -/ abbrev CQA_CTRL_CNT_CLR : Field := ⟨Reg.CQA_CTRL, 1, 1⟩
/-- Table 7-17, R204: RO. -/ abbrev CQA_STAT_STATUS : Field := ⟨Reg.CQA_STAT, 0, 2⟩
/-- Table 7-17, R204: RO. -/ abbrev CQA_STAT_WORST : Field := ⟨Reg.CQA_STAT, 2, 6⟩
/-- Table 7-17, R204: RO. -/ abbrev CQA_STAT_INCOMPLETE : Field := ⟨Reg.CQA_STAT, 8, 1⟩
/-- Table 7-17, R204: RO. -/ abbrev CQA_STAT_ROUNDS : Field := ⟨Reg.CQA_STAT, 16, 16⟩
/-- Table 7-18, R204: RO. -/ abbrev CQA_FLEET_GEN : Field := ⟨Reg.CQA_FLEET, 0, 16⟩
/-- Table 7-19, R204: RO. -/ abbrev CQA_GRPg_RATIO (g : Nat) : Field := ⟨Reg.CQA_GRPg g, 0, 12⟩
/-- Table 7-19, R204: RO. -/ abbrev CQA_GRPg_STATUS (g : Nat) : Field := ⟨Reg.CQA_GRPg g, 12, 2⟩
/-- Table 7-19, R204: RO. -/ abbrev CQA_GRPg_STALE (g : Nat) : Field := ⟨Reg.CQA_GRPg g, 14, 1⟩
/-- Table 7-19, R204: RO. -/ abbrev CQA_GRPg_FLEET_OLD (g : Nat) : Field := ⟨Reg.CQA_GRPg g, 15, 1⟩
/-- Table 7-19, R204: RO. -/ abbrev CQA_GRPg_NEVER (g : Nat) : Field := ⟨Reg.CQA_GRPg g, 16, 1⟩
/-- Table 7-19, R204: RO. -/ abbrev CQA_GRPg_REF_LOST (g : Nat) : Field := ⟨Reg.CQA_GRPg g, 17, 1⟩
/-- Table 7-19, R204: RO. -/ abbrev CQA_GRPg_LIMIT_AXIS (g : Nat) : Field := ⟨Reg.CQA_GRPg g, 18, 2⟩
/-- Table 7-19, R204: RO. -/ abbrev CQA_GRPg_AGE (g : Nat) : Field := ⟨Reg.CQA_GRPg g, 20, 12⟩
/-- Table 8-6, R227: WO. -/ abbrev SRV_CTRL_CNT_CLR : Field := ⟨Reg.SRV_CTRL, 0, 1⟩
/-- Table 8-7, R227: RO. -/ abbrev SRV_STAT_LIMP : Field := ⟨Reg.SRV_STAT, 0, 1⟩
/-- Table 8-8, R227: RO. -/ abbrev SRV_CLOSED0_MASK : Field := ⟨Reg.SRV_CLOSED0, 0, 32⟩
/-- Table 8-8, R227: RO. -/ abbrev SRV_CLOSED1_MASK : Field := ⟨Reg.SRV_CLOSED1, 0, 32⟩
/-- Table 8-8, R227: RO. -/ abbrev SRV_FAULT0_MASK : Field := ⟨Reg.SRV_FAULT0, 0, 32⟩
/-- Table 8-8, R227: RO. -/ abbrev SRV_FAULT1_MASK : Field := ⟨Reg.SRV_FAULT1, 0, 32⟩
/-- Table 8-9, R227: RWS. -/ abbrev SRVn_CFG_LAW (n : Nat) : Field := ⟨Reg.SRVn_CFG n, 0, 2⟩
/-- Table 8-9, R227: RWS. -/ abbrev SRVn_CFG_ANGLE (n : Nat) : Field := ⟨Reg.SRVn_CFG n, 2, 1⟩
/-- Table 8-9, R227: RWS. -/ abbrev SRVn_CFG_OUTER (n : Nat) : Field := ⟨Reg.SRVn_CFG n, 3, 1⟩
/-- Table 8-9, R227: RWS. -/ abbrev SRVn_CFG_AUTO_CLOSE (n : Nat) : Field := ⟨Reg.SRVn_CFG n, 4, 1⟩
/-- Table 8-9, R227: RWS. -/ abbrev SRVn_CFG_INV_POS (n : Nat) : Field := ⟨Reg.SRVn_CFG n, 5, 1⟩
/-- Table 8-9, R227: RWS. -/ abbrev SRVn_CFG_INV_NEG (n : Nat) : Field := ⟨Reg.SRVn_CFG n, 6, 1⟩
/-- Table 8-9, R227: RWS. -/ abbrev SRVn_CFG_O_INV (n : Nat) : Field := ⟨Reg.SRVn_CFG n, 7, 1⟩
/-- Table 8-9, R227: RWS. -/ abbrev SRVn_CFG_FB_KIND (n : Nat) : Field := ⟨Reg.SRVn_CFG n, 8, 2⟩
/-- Table 8-9, R227: RWS. -/ abbrev SRVn_CFG_FB_INDEX (n : Nat) : Field := ⟨Reg.SRVn_CFG n, 10, 6⟩
/-- Table 8-9, R227: RWS. -/ abbrev SRVn_CFG_OFB_KIND (n : Nat) : Field := ⟨Reg.SRVn_CFG n, 16, 2⟩
/-- Table 8-9, R227: RWS. -/ abbrev SRVn_CFG_OFB_INDEX (n : Nat) : Field := ⟨Reg.SRVn_CFG n, 18, 6⟩
/-- Table 8-9, R227: RWS. -/ abbrev SRVn_CFG_OUTER_DIV (n : Nat) : Field := ⟨Reg.SRVn_CFG n, 24, 8⟩
/-- Table 8-10, R227: RWS. -/ abbrev SRVn_SAMPLE_PER (n : Nat) : Field := ⟨Reg.SRVn_SAMPLE n, 0, 16⟩
/-- Table 8-10, R227: RWS. -/ abbrev SRVn_SAMPLE_SAFE_PAIR (n : Nat) : Field := ⟨Reg.SRVn_SAMPLE n, 16, 4⟩
/-- Table 8-10, R227: RWS. -/ abbrev SRVn_SAMPLE_SAFE_EN (n : Nat) : Field := ⟨Reg.SRVn_SAMPLE n, 20, 1⟩
/-- Table 8-10, R227: RWS. -/ abbrev SRVn_SAMPLE_FB_AGE (n : Nat) : Field := ⟨Reg.SRVn_SAMPLE n, 24, 8⟩
/-- Table 8-11, R227: RW. -/ abbrev SRVn_SPSRC_SRC (n : Nat) : Field := ⟨Reg.SRVn_SPSRC n, 0, 3⟩
/-- Table 8-11, R227: RW. -/ abbrev SRVn_SPSRC_INDEX (n : Nat) : Field := ⟨Reg.SRVn_SPSRC n, 3, 6⟩
/-- Table 8-11, R227: RW. -/ abbrev SRVn_SPSRC_SP_MUL (n : Nat) : Field := ⟨Reg.SRVn_SPSRC n, 9, 16⟩
/-- Table 8-11, R227: RW. -/ abbrev SRVn_SPSRC_SP_SHR (n : Nat) : Field := ⟨Reg.SRVn_SPSRC n, 25, 6⟩
/-- Table 8-14, R227: RW. -/ abbrev SRVn_SPOFS_SPOFS (n : Nat) : Field := ⟨Reg.SRVn_SPOFS n, 0, 32⟩
/-- Table 8-14, R227: RWS. -/ abbrev SRVn_BON_BON (n : Nat) : Field := ⟨Reg.SRVn_BON n, 0, 32⟩
/-- Table 8-14, R227: RWS. -/ abbrev SRVn_BOFF_BOFF (n : Nat) : Field := ⟨Reg.SRVn_BOFF n, 0, 32⟩
/-- Table 8-13, R227: RWS. -/ abbrev SRVn_DWELL_T_ON (n : Nat) : Field := ⟨Reg.SRVn_DWELL n, 0, 16⟩
/-- Table 8-13, R227: RWS. -/ abbrev SRVn_DWELL_T_OFF (n : Nat) : Field := ⟨Reg.SRVn_DWELL n, 16, 16⟩
/-- Table 8-12, R227: RWS. -/ abbrev SRVn_FBSCL_MUL (n : Nat) : Field := ⟨Reg.SRVn_FBSCL n, 0, 16⟩
/-- Table 8-12, R227: RWS. -/ abbrev SRVn_FBSCL_SHR (n : Nat) : Field := ⟨Reg.SRVn_FBSCL n, 16, 6⟩
/-- Table 8-14, R227: RWS. -/ abbrev SRVn_FBOFS_FBOFS (n : Nat) : Field := ⟨Reg.SRVn_FBOFS n, 0, 32⟩
/-- Table 8-14, R227: RWS. -/ abbrev SRVn_SPMIN_SPMIN (n : Nat) : Field := ⟨Reg.SRVn_SPMIN n, 0, 32⟩
/-- Table 8-14, R227: RWS. -/ abbrev SRVn_SPMAX_SPMAX (n : Nat) : Field := ⟨Reg.SRVn_SPMAX n, 0, 32⟩
/-- Table 8-14, R227: RWS. -/ abbrev SRVn_SPRATE_SPRATE (n : Nat) : Field := ⟨Reg.SRVn_SPRATE n, 0, 32⟩
/-- Table 8-14, R227: RWS. -/ abbrev SRVn_OBON_OBON (n : Nat) : Field := ⟨Reg.SRVn_OBON n, 0, 32⟩
/-- Table 8-14, R227: RWS. -/ abbrev SRVn_OBOFF_OBOFF (n : Nat) : Field := ⟨Reg.SRVn_OBOFF n, 0, 32⟩
/-- Table 8-14, R227: RWS. -/ abbrev SRVn_ORAMP_ORAMP (n : Nat) : Field := ⟨Reg.SRVn_ORAMP n, 0, 32⟩
/-- Table 8-13, R227: RWS. -/ abbrev SRVn_OTIMER_O_TON (n : Nat) : Field := ⟨Reg.SRVn_OTIMER n, 0, 8⟩
/-- Table 8-13, R227: RWS. -/ abbrev SRVn_OTIMER_O_TOFF (n : Nat) : Field := ⟨Reg.SRVn_OTIMER n, 8, 8⟩
/-- Table 8-13, R227: RWS. -/ abbrev SRVn_OTIMER_STALL (n : Nat) : Field := ⟨Reg.SRVn_OTIMER n, 16, 16⟩
/-- Table 8-12, R227: RWS. -/ abbrev SRVn_OFBSCL_MUL (n : Nat) : Field := ⟨Reg.SRVn_OFBSCL n, 0, 16⟩
/-- Table 8-12, R227: RWS. -/ abbrev SRVn_OFBSCL_SHR (n : Nat) : Field := ⟨Reg.SRVn_OFBSCL n, 16, 6⟩
/-- Table 8-14, R227: RWS. -/ abbrev SRVn_OFBOFS_OFBOFS (n : Nat) : Field := ⟨Reg.SRVn_OFBOFS n, 0, 32⟩
/-- Table 8-15, R227: WO. -/ abbrev SRVn_CMD_CLOSE (n : Nat) : Field := ⟨Reg.SRVn_CMD n, 0, 1⟩
/-- Table 8-15, R227: WO. -/ abbrev SRVn_CMD_OPEN (n : Nat) : Field := ⟨Reg.SRVn_CMD n, 1, 1⟩
/-- Table 8-15, R227: WO. -/ abbrev SRVn_CMD_CLR_FAULT (n : Nat) : Field := ⟨Reg.SRVn_CMD n, 2, 1⟩
/-- Table 8-14, R227: RW. -/ abbrev SRVn_HOSTSP_HOSTSP (n : Nat) : Field := ⟨Reg.SRVn_HOSTSP n, 0, 32⟩
/-- Table 8-16, R227: RO. -/ abbrev SRVn_STAT_STATE (n : Nat) : Field := ⟨Reg.SRVn_STAT n, 0, 2⟩
/-- Table 8-16, R227: RO. -/ abbrev SRVn_STAT_OUT (n : Nat) : Field := ⟨Reg.SRVn_STAT n, 2, 2⟩
/-- Table 8-16, R227: RO. -/ abbrev SRVn_STAT_OSTATE (n : Nat) : Field := ⟨Reg.SRVn_STAT n, 4, 2⟩
/-- Table 8-16, R227: RO. -/ abbrev SRVn_STAT_CAUSE (n : Nat) : Field := ⟨Reg.SRVn_STAT n, 6, 4⟩
/-- Table 8-16, R227: RO. -/ abbrev SRVn_STAT_SP_LOST (n : Nat) : Field := ⟨Reg.SRVn_STAT n, 10, 1⟩
/-- Table 8-16, R227: RO. -/ abbrev SRVn_STAT_SP_CLAMPED (n : Nat) : Field := ⟨Reg.SRVn_STAT n, 11, 1⟩
/-- Table 8-16, R227: RO. -/ abbrev SRVn_STAT_CLOSE_PEND (n : Nat) : Field := ⟨Reg.SRVn_STAT n, 12, 1⟩
/-- Table 8-16, R227: W1C. -/ abbrev SRVn_STAT_REFUSED (n : Nat) : Field := ⟨Reg.SRVn_STAT n, 13, 1⟩
/-- Table 8-16, R227: RO. -/ abbrev SRVn_STAT_REF_CODE (n : Nat) : Field := ⟨Reg.SRVn_STAT n, 14, 3⟩
/-- Table 8-14, R227: RO. -/ abbrev SRVn_FB_FB (n : Nat) : Field := ⟨Reg.SRVn_FB n, 0, 32⟩
/-- Table 8-14, R227: RO. -/ abbrev SRVn_SP_SP (n : Nat) : Field := ⟨Reg.SRVn_SP n, 0, 32⟩
/-- Table 8-14, R227: RO. -/ abbrev SRVn_OFB_OFB (n : Nat) : Field := ⟨Reg.SRVn_OFB n, 0, 32⟩
/-- Table 8-14, R227: RO. -/ abbrev SRVn_OSP_OSP (n : Nat) : Field := ⟨Reg.SRVn_OSP n, 0, 32⟩
/-- Table 8-17, R227: RO. -/ abbrev SRVn_CNT_SWITCHES (n : Nat) : Field := ⟨Reg.SRVn_CNT n, 0, 16⟩
/-- Table 8-17, R227: RO. -/ abbrev SRVn_CNT_FAULTS (n : Nat) : Field := ⟨Reg.SRVn_CNT n, 16, 8⟩
/-- Table 8-17, R227: RO. -/ abbrev SRVn_CNT_REFUSALS (n : Nat) : Field := ⟨Reg.SRVn_CNT n, 24, 8⟩
/-- Table 15-6, R396: WO. -/ abbrev ANA_CTRL_CNT_CLR : Field := ⟨Reg.ANA_CTRL, 0, 1⟩
/-- Table 15-7, R396: RWS. -/ abbrev CHn_CFG_DEC (n : Nat) : Field := ⟨Reg.CHn_CFG n, 0, 16⟩
/-- Table 15-7, R396: RWS. -/ abbrev CHn_CFG_NTAP (n : Nat) : Field := ⟨Reg.CHn_CFG n, 16, 7⟩
/-- Table 15-7, R396: RWS. -/ abbrev CHn_CFG_TRIG (n : Nat) : Field := ⟨Reg.CHn_CFG n, 23, 5⟩
/-- Table 15-7, R396: RWS. -/ abbrev CHn_CFG_DCB_EN (n : Nat) : Field := ⟨Reg.CHn_CFG n, 28, 1⟩
/-- Table 15-7, R396: WO. -/ abbrev CHn_CMD_START (n : Nat) : Field := ⟨Reg.CHn_CMD n, 0, 1⟩
/-- Table 15-7, R396: WO. -/ abbrev CHn_CMD_STOP (n : Nat) : Field := ⟨Reg.CHn_CMD n, 1, 1⟩
/-- Table 15-8, R396: RO. -/ abbrev CHn_STAT_STATE (n : Nat) : Field := ⟨Reg.CHn_STAT n, 0, 2⟩
/-- Table 15-8, R396: W1C. -/ abbrev CHn_STAT_SAT (n : Nat) : Field := ⟨Reg.CHn_STAT n, 2, 1⟩
/-- Table 15-8, R396: RO. -/ abbrev CHn_STAT_LIMP (n : Nat) : Field := ⟨Reg.CHn_STAT n, 3, 1⟩
/-- Table 15-8, R396: RO. -/ abbrev CHn_STAT_SETTLING (n : Nat) : Field := ⟨Reg.CHn_STAT n, 4, 1⟩
/-- Table 15-8, R396: RO. -/ abbrev CHn_STAT_MOD_STUCK (n : Nat) : Field := ⟨Reg.CHn_STAT n, 5, 1⟩
/-- Table 15-8, R396: W1C. -/ abbrev CHn_STAT_REFUSED (n : Nat) : Field := ⟨Reg.CHn_STAT n, 6, 1⟩
/-- Table 15-8, R396: RO. -/ abbrev CHn_STAT_REF_CODE (n : Nat) : Field := ⟨Reg.CHn_STAT n, 7, 3⟩
/-- Table 15-8, R396: RO. -/ abbrev CHn_STAT_SAT_CNT (n : Nat) : Field := ⟨Reg.CHn_STAT n, 16, 16⟩
/-- Table 15-9, R396: RW. -/ abbrev CHn_GAIN_GAIN (n : Nat) : Field := ⟨Reg.CHn_GAIN n, 0, 32⟩
/-- Table 15-9, R396: RW. -/ abbrev CHn_OFS_OFS (n : Nat) : Field := ⟨Reg.CHn_OFS n, 0, 32⟩
/-- Table 15-9, R396: RW. -/ abbrev CHn_DCB_FREEZE (n : Nat) : Field := ⟨Reg.CHn_DCB n, 0, 1⟩
/-- Table 15-9, R396: RWS. -/ abbrev CHn_DCB_DCB_K (n : Nat) : Field := ⟨Reg.CHn_DCB n, 1, 5⟩
/-- Table 15-9, R396: RO. -/ abbrev CHn_DCBM_M (n : Nat) : Field := ⟨Reg.CHn_DCBM n, 0, 32⟩
/-- Table 15-9, R396: RO. -/ abbrev CHn_OUT_OUT (n : Nat) : Field := ⟨Reg.CHn_OUT n, 0, 32⟩
/-- Table 15-9, R396: RO. -/ abbrev CHn_STAMP_STAMP (n : Nat) : Field := ⟨Reg.CHn_STAMP n, 0, 32⟩
/-- Table 15-9, R396: RO. -/ abbrev CHn_GDLY_G (n : Nat) : Field := ⟨Reg.CHn_GDLY n, 0, 32⟩
/-- Table 15-10, R396: RO. -/ abbrev AOUTn_CFG_SRC (n : Nat) : Field := ⟨Reg.AOUTn_CFG n, 0, 1⟩
/-- Table 15-10, R396: RW. -/ abbrev AOUTn_CFG_UPD (n : Nat) : Field := ⟨Reg.AOUTn_CFG n, 1, 2⟩
/-- Table 15-10, R396: RW. -/ abbrev AOUTn_CFG_COMP (n : Nat) : Field := ⟨Reg.AOUTn_CFG n, 3, 4⟩
/-- Table 15-10, R396: RW. -/ abbrev AOUTn_DATA_CODE (n : Nat) : Field := ⟨Reg.AOUTn_DATA n, 0, 16⟩
/-- Table 15-10, R396: RO. -/ abbrev AOUTn_STAT_OUT (n : Nat) : Field := ⟨Reg.AOUTn_STAT n, 0, 16⟩
/-- Table 15-10, R396: W1C. -/ abbrev AOUTn_STAT_CLAMPED (n : Nat) : Field := ⟨Reg.AOUTn_STAT n, 16, 1⟩
/-- Table 15-10, R396: RO. -/ abbrev AOUTn_STAT_HELD_SAFE (n : Nat) : Field := ⟨Reg.AOUTn_STAT n, 17, 1⟩
/-- Table 15-10, R396: W1C. -/ abbrev AOUTn_STAT_REFUSED (n : Nat) : Field := ⟨Reg.AOUTn_STAT n, 18, 1⟩
/-- Table 15-10, R396: RO. -/ abbrev AOUTn_STAT_REF_CODE (n : Nat) : Field := ⟨Reg.AOUTn_STAT n, 19, 2⟩
/-- Table 15-11, R396: RWS. -/ abbrev PINi_CFG_MODE (i : Nat) : Field := ⟨Reg.PINi_CFG i, 0, 2⟩
/-- Table 15-11, R396: RWS. -/ abbrev PINi_CFG_AINV (i : Nat) : Field := ⟨Reg.PINi_CFG i, 2, 1⟩
/-- Table 15-11, R396: RWS. -/ abbrev PINi_CFG_BINV (i : Nat) : Field := ⟨Reg.PINi_CFG i, 3, 1⟩
/-- Table 15-11, R396: RWS. -/ abbrev PINi_CFG_MINW (i : Nat) : Field := ⟨Reg.PINi_CFG i, 4, 8⟩
/-- Table 15-11, R396: RWS. -/ abbrev PINi_GATE_GATE (i : Nat) : Field := ⟨Reg.PINi_GATE i, 0, 10⟩
/-- Table 15-11, R396: RWS. -/ abbrev PINi_GATE_ZERO_T (i : Nat) : Field := ⟨Reg.PINi_GATE i, 10, 16⟩
/-- Table 15-11, R396: WO. -/ abbrev PINi_CMD_START (i : Nat) : Field := ⟨Reg.PINi_CMD i, 0, 1⟩
/-- Table 15-11, R396: WO. -/ abbrev PINi_CMD_STOP (i : Nat) : Field := ⟨Reg.PINi_CMD i, 1, 1⟩
/-- Table 15-11, R396: WO. -/ abbrev PINi_CMD_LOAD (i : Nat) : Field := ⟨Reg.PINi_CMD i, 2, 1⟩
/-- Table 15-12, R396: RO. -/ abbrev PINi_STAT_STATE (i : Nat) : Field := ⟨Reg.PINi_STAT i, 0, 2⟩
/-- Table 15-12, R396: RO. -/ abbrev PINi_STAT_ZERO (i : Nat) : Field := ⟨Reg.PINi_STAT i, 2, 1⟩
/-- Table 15-12, R396: W1C. -/ abbrev PINi_STAT_QERR (i : Nat) : Field := ⟨Reg.PINi_STAT i, 3, 1⟩
/-- Table 15-12, R396: W1C. -/ abbrev PINi_STAT_REFUSED (i : Nat) : Field := ⟨Reg.PINi_STAT i, 4, 1⟩
/-- Table 15-12, R396: RO. -/ abbrev PINi_STAT_REF_CODE (i : Nat) : Field := ⟨Reg.PINi_STAT i, 5, 2⟩
/-- Table 15-12, R396: RO. -/ abbrev PINi_STAT_QERR_CNT (i : Nat) : Field := ⟨Reg.PINi_STAT i, 16, 16⟩
/-- Table 15-12, R396: RO. -/ abbrev PINi_COUNT_COUNT (i : Nat) : Field := ⟨Reg.PINi_COUNT i, 0, 32⟩
/-- Table 15-12, R396: RO. -/ abbrev PINi_FREQ_FREQ (i : Nat) : Field := ⟨Reg.PINi_FREQ i, 0, 32⟩
/-- Table 15-12, R396: RW. -/ abbrev PINi_PRESET_PRESET (i : Nat) : Field := ⟨Reg.PINi_PRESET i, 0, 32⟩
/-- Table 15-13, R396: RO. -/ abbrev DIN_RAW0_RAW : Field := ⟨Reg.DIN_RAW0, 0, 32⟩
/-- Table 15-13, R396: RO. -/ abbrev DIN_RAW1_RAW : Field := ⟨Reg.DIN_RAW1, 0, 32⟩
/-- Table 15-13, R396: RO. -/ abbrev DIN_FLT0_LVL : Field := ⟨Reg.DIN_FLT0, 0, 32⟩
/-- Table 15-13, R396: RO. -/ abbrev DIN_FLT1_LVL : Field := ⟨Reg.DIN_FLT1, 0, 32⟩
/-- Table 15-13, R396: RW. -/ abbrev DIN_EVEN0_EN : Field := ⟨Reg.DIN_EVEN0, 0, 32⟩
/-- Table 15-13, R396: RW. -/ abbrev DIN_EVEN1_EN : Field := ⟨Reg.DIN_EVEN1, 0, 32⟩
/-- Table 15-13, R396: W1C. -/ abbrev SWO_STAT_REFUSED : Field := ⟨Reg.SWO_STAT, 0, 1⟩
/-- Table 15-13, R396: RO. -/ abbrev DIN_FTk_FT (k : Nat) : Field := ⟨Reg.DIN_FTk k, 0, 32⟩
/-- Table 15-13, R396: RO. -/ abbrev SWO_STATw_STATE (w : Nat) : Field := ⟨Reg.SWO_STATw w, 0, 32⟩
/-- Table 15-13, R396: WO. -/ abbrev SWO_SETw_SET (w : Nat) : Field := ⟨Reg.SWO_SETw w, 0, 32⟩
/-- Table 15-13, R396: WO. -/ abbrev SWO_CLRw_CLR (w : Nat) : Field := ⟨Reg.SWO_CLRw w, 0, 32⟩
/-- Table 15-13, R396: RO. -/ abbrev SWO_OWNw_OWN (w : Nat) : Field := ⟨Reg.SWO_OWNw w, 0, 32⟩
/-- Table 13-6, R352: WO. -/ abbrev ETH_CTRL_CNT_CLR : Field := ⟨Reg.ETH_CTRL, 0, 1⟩
/-- Table 13-6, R352: WO. -/ abbrev ETH_CTRL_SWAP_PAIR : Field := ⟨Reg.ETH_CTRL, 1, 1⟩
/-- Table 13-6, R352: WO. -/ abbrev ETH_CTRL_SWAP_MGMT : Field := ⟨Reg.ETH_CTRL, 2, 1⟩
/-- Table 13-6, R352: RO. -/ abbrev ETH_SLOTSTAT_BANK_PAIR : Field := ⟨Reg.ETH_SLOTSTAT, 0, 1⟩
/-- Table 13-6, R352: RO. -/ abbrev ETH_SLOTSTAT_PEND_PAIR : Field := ⟨Reg.ETH_SLOTSTAT, 1, 1⟩
/-- Table 13-6, R352: W1C. -/ abbrev ETH_SLOTSTAT_REF_PAIR : Field := ⟨Reg.ETH_SLOTSTAT, 2, 1⟩
/-- Table 13-6, R352: RO. -/ abbrev ETH_SLOTSTAT_BANK_MGMT : Field := ⟨Reg.ETH_SLOTSTAT, 3, 1⟩
/-- Table 13-6, R352: RO. -/ abbrev ETH_SLOTSTAT_PEND_MGMT : Field := ⟨Reg.ETH_SLOTSTAT, 4, 1⟩
/-- Table 13-6, R352: W1C. -/ abbrev ETH_SLOTSTAT_REF_MGMT : Field := ⟨Reg.ETH_SLOTSTAT, 5, 1⟩
/-- Table 13-7, R352: RO. -/ abbrev ETH_PRPSTAT_NODES : Field := ⟨Reg.ETH_PRPSTAT, 0, 8⟩
/-- Table 13-7, R352: RO. -/ abbrev ETH_PRPSTAT_TABLE_FULL : Field := ⟨Reg.ETH_PRPSTAT, 8, 1⟩
/-- Table 13-7, R352: RO. -/ abbrev ETH_PRPCNT_DUP_DISC : Field := ⟨Reg.ETH_PRPCNT, 0, 16⟩
/-- Table 13-7, R352: RO. -/ abbrev ETH_PRPCNT_DUP_MISMATCH : Field := ⟨Reg.ETH_PRPCNT, 16, 8⟩
/-- Table 13-7, R352: RO. -/ abbrev ETH_PRPCNT_NOT_IN_TABLE : Field := ⟨Reg.ETH_PRPCNT, 24, 8⟩
/-- Table 13-8, R352: RO. -/ abbrev ETH_E450CNT_RX_SENT : Field := ⟨Reg.ETH_E450CNT, 0, 16⟩
/-- Table 13-8, R352: RO. -/ abbrev ETH_E450CNT_CKSUM : Field := ⟨Reg.ETH_E450CNT, 16, 8⟩
/-- Table 13-8, R352: RO. -/ abbrev ETH_E450CNT_UNKNOWN : Field := ⟨Reg.ETH_E450CNT, 24, 8⟩
/-- Table 13-8, R352: RO. -/ abbrev ETH_OWNCNT_BAD_FRAME : Field := ⟨Reg.ETH_OWNCNT, 0, 8⟩
/-- Table 13-8, R352: RO. -/ abbrev ETH_OWNCNT_UNKNOWN_ITEM : Field := ⟨Reg.ETH_OWNCNT, 8, 8⟩
/-- Table 13-8, R352: RO. -/ abbrev ETH_OWNCNT_BAD_ITEM : Field := ⟨Reg.ETH_OWNCNT, 16, 8⟩
/-- Table 13-9, R352: RW. -/ abbrev ETH_MDIO_REG : Field := ⟨Reg.ETH_MDIO, 0, 5⟩
/-- Table 13-9, R352: RW. -/ abbrev ETH_MDIO_PHYAD : Field := ⟨Reg.ETH_MDIO, 5, 5⟩
/-- Table 13-9, R352: RW. -/ abbrev ETH_MDIO_READ : Field := ⟨Reg.ETH_MDIO, 10, 1⟩
/-- Table 13-9, R352: WO. -/ abbrev ETH_MDIO_GO : Field := ⟨Reg.ETH_MDIO, 11, 1⟩
/-- Table 13-9, R352: RO. -/ abbrev ETH_MDIO_BUSY : Field := ⟨Reg.ETH_MDIO, 12, 1⟩
/-- Table 13-9, R352: RW. -/ abbrev ETH_MDIO_DATA : Field := ⟨Reg.ETH_MDIO, 16, 16⟩
/-- Table 13-10, R352: RWS. -/ abbrev ETHp_CFG_MODE (p : Nat) : Field := ⟨Reg.ETHp_CFG p, 0, 2⟩
/-- Table 13-10, R352: RWS. -/ abbrev ETHp_CFG_AN (p : Nat) : Field := ⟨Reg.ETHp_CFG p, 2, 1⟩
/-- Table 13-10, R352: RW. -/ abbrev ETHp_CFG_EN (p : Nat) : Field := ⟨Reg.ETHp_CFG p, 3, 1⟩
/-- Table 13-10, R352: RO. -/ abbrev ETHp_STAT_LINK (p : Nat) : Field := ⟨Reg.ETHp_STAT p, 0, 1⟩
/-- Table 13-10, R352: RO. -/ abbrev ETHp_STAT_SPEED (p : Nat) : Field := ⟨Reg.ETHp_STAT p, 1, 2⟩
/-- Table 13-10, R352: RO. -/ abbrev ETHp_STAT_AN_DONE (p : Nat) : Field := ⟨Reg.ETHp_STAT p, 3, 1⟩
/-- Table 13-10, R352: RO. -/ abbrev ETHp_STAT_SLOW (p : Nat) : Field := ⟨Reg.ETHp_STAT p, 4, 1⟩
/-- Table 13-10, R352: W1C. -/ abbrev ETHp_STAT_REFUSED (p : Nat) : Field := ⟨Reg.ETHp_STAT p, 5, 1⟩
/-- Table 13-10, R352: RO. -/ abbrev ETHp_STAT_REF_CODE (p : Nat) : Field := ⟨Reg.ETHp_STAT p, 6, 2⟩
/-- Table 13-11, R352: RO. -/ abbrev ETHp_CNT0_RX_OK (p : Nat) : Field := ⟨Reg.ETHp_CNT0 p, 0, 16⟩
/-- Table 13-11, R352: RO. -/ abbrev ETHp_CNT0_TX_OK (p : Nat) : Field := ⟨Reg.ETHp_CNT0 p, 16, 16⟩
/-- Table 13-11, R352: RO. -/ abbrev ETHp_CNT1_FCS_ERR (p : Nat) : Field := ⟨Reg.ETHp_CNT1 p, 0, 16⟩
/-- Table 13-11, R352: RO. -/ abbrev ETHp_CNT1_RX_DISC (p : Nat) : Field := ⟨Reg.ETHp_CNT1 p, 16, 8⟩
/-- Table 13-11, R352: RO. -/ abbrev ETHp_CNT1_LINK_DOWN (p : Nat) : Field := ⟨Reg.ETHp_CNT1 p, 24, 8⟩
/-- Table 12-12, R334: RW. -/ abbrev CANn_CTRL_MODE (n : Nat) : Field := ⟨Reg.CANn_CTRL n, 0, 3⟩
/-- Table 12-12, R334: RWS. -/ abbrev CANn_CTRL_FD_EN (n : Nat) : Field := ⟨Reg.CANn_CTRL n, 3, 1⟩
/-- Table 12-12, R334: RWS. -/ abbrev CANn_CTRL_BRS_EN (n : Nat) : Field := ⟨Reg.CANn_CTRL n, 4, 1⟩
/-- Table 12-12, R334: RWS. -/ abbrev CANn_CTRL_SSP_EN (n : Nat) : Field := ⟨Reg.CANn_CTRL n, 5, 1⟩
/-- Table 12-12, R334: WO. -/ abbrev CANn_CTRL_BO_RECOVER (n : Nat) : Field := ⟨Reg.CANn_CTRL n, 6, 1⟩
/-- Table 12-12, R334: WO. -/ abbrev CANn_CTRL_CNT_CLR (n : Nat) : Field := ⟨Reg.CANn_CTRL n, 7, 1⟩
/-- Table 12-13, R334: RO. -/ abbrev CANn_STAT_STATE (n : Nat) : Field := ⟨Reg.CANn_STAT n, 0, 2⟩
/-- Table 12-13, R334: RO. -/ abbrev CANn_STAT_NOPART (n : Nat) : Field := ⟨Reg.CANn_STAT n, 2, 1⟩
/-- Table 12-13, R334: RO. -/ abbrev CANn_STAT_RATE_FOUND (n : Nat) : Field := ⟨Reg.CANn_STAT n, 3, 1⟩
/-- Table 12-13, R334: RO. -/ abbrev CANn_STAT_NO_RATE (n : Nat) : Field := ⟨Reg.CANn_STAT n, 4, 1⟩
/-- Table 12-13, R334: RO. -/ abbrev CANn_STAT_TT_MASTER (n : Nat) : Field := ⟨Reg.CANn_STAT n, 5, 1⟩
/-- Table 12-13, R334: RO. -/ abbrev CANn_STAT_TT_SYNC (n : Nat) : Field := ⟨Reg.CANn_STAT n, 6, 1⟩
/-- Table 12-13, R334: RO. -/ abbrev CANn_STAT_LIMP (n : Nat) : Field := ⟨Reg.CANn_STAT n, 7, 1⟩
/-- Table 12-13, R334: RO. -/ abbrev CANn_STAT_ERR_ARB (n : Nat) : Field := ⟨Reg.CANn_STAT n, 8, 3⟩
/-- Table 12-13, R334: RO. -/ abbrev CANn_STAT_ERR_FAST (n : Nat) : Field := ⟨Reg.CANn_STAT n, 11, 3⟩
/-- Table 12-13, R334: RO. -/ abbrev CANn_STAT_PAIR_ACTIVE (n : Nat) : Field := ⟨Reg.CANn_STAT n, 14, 1⟩
/-- Table 12-13, R334: W1C. -/ abbrev CANn_STAT_REFUSED (n : Nat) : Field := ⟨Reg.CANn_STAT n, 15, 1⟩
/-- Table 12-13, R334: RO. -/ abbrev CANn_STAT_REF_CODE (n : Nat) : Field := ⟨Reg.CANn_STAT n, 16, 3⟩
/-- Table 12-13, R334: RO. -/ abbrev CANn_STAT_ACKERR_RUN (n : Nat) : Field := ⟨Reg.CANn_STAT n, 24, 8⟩
/-- Table 12-14, R334: RO. -/ abbrev CANn_ERRCNT_TEC (n : Nat) : Field := ⟨Reg.CANn_ERRCNT n, 0, 8⟩
/-- Table 12-14, R334: RO. -/ abbrev CANn_ERRCNT_REC (n : Nat) : Field := ⟨Reg.CANn_ERRCNT n, 8, 8⟩
/-- Table 12-15, R334: RWS. -/ abbrev CANn_ARBTIM_ARB_PRE (n : Nat) : Field := ⟨Reg.CANn_ARBTIM n, 0, 6⟩
/-- Table 12-15, R334: RWS. -/ abbrev CANn_ARBTIM_ARB_PH1 (n : Nat) : Field := ⟨Reg.CANn_ARBTIM n, 6, 8⟩
/-- Table 12-15, R334: RWS. -/ abbrev CANn_ARBTIM_ARB_PH2 (n : Nat) : Field := ⟨Reg.CANn_ARBTIM n, 14, 6⟩
/-- Table 12-15, R334: RWS. -/ abbrev CANn_ARBTIM_ARB_RJW (n : Nat) : Field := ⟨Reg.CANn_ARBTIM n, 20, 6⟩
/-- Table 12-15, R334: RWS. -/ abbrev CANn_FASTTIM_FAST_PRE (n : Nat) : Field := ⟨Reg.CANn_FASTTIM n, 0, 4⟩
/-- Table 12-15, R334: RWS. -/ abbrev CANn_FASTTIM_FAST_PH1 (n : Nat) : Field := ⟨Reg.CANn_FASTTIM n, 4, 6⟩
/-- Table 12-15, R334: RWS. -/ abbrev CANn_FASTTIM_FAST_PH2 (n : Nat) : Field := ⟨Reg.CANn_FASTTIM n, 10, 5⟩
/-- Table 12-15, R334: RWS. -/ abbrev CANn_FASTTIM_FAST_RJW (n : Nat) : Field := ⟨Reg.CANn_FASTTIM n, 15, 5⟩
/-- Table 12-15, R334: RWS. -/ abbrev CANn_SSP_SSP_OFS (n : Nat) : Field := ⟨Reg.CANn_SSP n, 0, 8⟩
/-- Table 12-15, R334: RWS. -/ abbrev CANn_SSP_SSP_WIN (n : Nat) : Field := ⟨Reg.CANn_SSP n, 8, 8⟩
/-- Table 12-15, R334: RO. -/ abbrev CANn_SSP_SSP_MEAS (n : Nat) : Field := ⟨Reg.CANn_SSP n, 16, 8⟩
/-- Table 12-16, R334: W1C. -/ abbrev CANn_EVT_SLOT (n : Nat) (k : Nat) : Field := ⟨Reg.CANn_EVT n, 0 + 1 * k, 1⟩
/-- Table 12-16, R334: W1C. -/ abbrev CANn_EVT_BUSOFF (n : Nat) : Field := ⟨Reg.CANn_EVT n, 4, 1⟩
/-- Table 12-16, R334: W1C. -/ abbrev CANn_EVT_PASSIVE (n : Nat) : Field := ⟨Reg.CANn_EVT n, 5, 1⟩
/-- Table 12-16, R334: W1C. -/ abbrev CANn_EVT_NOPART (n : Nat) : Field := ⟨Reg.CANn_EVT n, 6, 1⟩
/-- Table 12-16, R334: W1C. -/ abbrev CANn_EVT_RATE (n : Nat) : Field := ⟨Reg.CANn_EVT n, 7, 1⟩
/-- Table 12-16, R334: W1C. -/ abbrev CANn_EVT_TT_REF_MISS (n : Nat) : Field := ⟨Reg.CANn_EVT n, 8, 1⟩
/-- Table 12-16, R334: W1C. -/ abbrev CANn_EVT_TT_MASTER_CHG (n : Nat) : Field := ⟨Reg.CANn_EVT n, 9, 1⟩
/-- Table 12-16, R334: W1C. -/ abbrev CANn_EVT_RX_OVR (n : Nat) : Field := ⟨Reg.CANn_EVT n, 10, 1⟩
/-- Table 12-16, R334: W1C. -/ abbrev CANn_EVT_TX_CANCELLED (n : Nat) : Field := ⟨Reg.CANn_EVT n, 11, 1⟩
/-- Table 12-16, R334: W1C. -/ abbrev CANn_EVT_DUP_MISMATCH (n : Nat) : Field := ⟨Reg.CANn_EVT n, 12, 1⟩
/-- Table 12-16, R334: RW. -/ abbrev CANn_EVTEN_SLOT (n : Nat) (k : Nat) : Field := ⟨Reg.CANn_EVTEN n, 0 + 1 * k, 1⟩
/-- Table 12-16, R334: RW. -/ abbrev CANn_EVTEN_BUSOFF (n : Nat) : Field := ⟨Reg.CANn_EVTEN n, 4, 1⟩
/-- Table 12-16, R334: RW. -/ abbrev CANn_EVTEN_PASSIVE (n : Nat) : Field := ⟨Reg.CANn_EVTEN n, 5, 1⟩
/-- Table 12-16, R334: RW. -/ abbrev CANn_EVTEN_NOPART (n : Nat) : Field := ⟨Reg.CANn_EVTEN n, 6, 1⟩
/-- Table 12-16, R334: RW. -/ abbrev CANn_EVTEN_RATE (n : Nat) : Field := ⟨Reg.CANn_EVTEN n, 7, 1⟩
/-- Table 12-16, R334: RW. -/ abbrev CANn_EVTEN_TT_REF_MISS (n : Nat) : Field := ⟨Reg.CANn_EVTEN n, 8, 1⟩
/-- Table 12-16, R334: RW. -/ abbrev CANn_EVTEN_TT_MASTER_CHG (n : Nat) : Field := ⟨Reg.CANn_EVTEN n, 9, 1⟩
/-- Table 12-16, R334: RW. -/ abbrev CANn_EVTEN_RX_OVR (n : Nat) : Field := ⟨Reg.CANn_EVTEN n, 10, 1⟩
/-- Table 12-16, R334: RW. -/ abbrev CANn_EVTEN_TX_CANCELLED (n : Nat) : Field := ⟨Reg.CANn_EVTEN n, 11, 1⟩
/-- Table 12-16, R334: RW. -/ abbrev CANn_EVTEN_DUP_MISMATCH (n : Nat) : Field := ⟨Reg.CANn_EVTEN n, 12, 1⟩
/-- Table 12-18, R334: WO. -/ abbrev CANn_TXCANCEL_OBJ (n : Nat) : Field := ⟨Reg.CANn_TXCANCEL n, 0, 8⟩
/-- Table 12-18, R334: RO. -/ abbrev CANn_CANCSTAT_OBJ (n : Nat) : Field := ⟨Reg.CANn_CANCSTAT n, 0, 8⟩
/-- Table 12-18, R334: RO. -/ abbrev CANn_CANCSTAT_RESULT (n : Nat) : Field := ⟨Reg.CANn_CANCSTAT n, 8, 3⟩
/-- Table 12-18, R334: RO. -/ abbrev CANn_CANCSTAT_PENDING (n : Nat) : Field := ⟨Reg.CANn_CANCSTAT n, 11, 1⟩
/-- Table 12-19, R334: RWS. -/ abbrev CANn_FLTCFG_NSTD (n : Nat) : Field := ⟨Reg.CANn_FLTCFG n, 0, 10⟩
/-- Table 12-19, R334: RWS. -/ abbrev CANn_FLTCFG_NEXT (n : Nat) : Field := ⟨Reg.CANn_FLTCFG n, 10, 9⟩
/-- Table 12-19, R334: RWS. -/ abbrev CANn_FLTCFG_NONMATCH (n : Nat) : Field := ⟨Reg.CANn_FLTCFG n, 19, 1⟩
/-- Table 12-19, R334: RWS. -/ abbrev CANn_FLTCFG_NM_OBJ (n : Nat) : Field := ⟨Reg.CANn_FLTCFG n, 20, 8⟩
/-- Table 12-20, R334: RWS. -/ abbrev CANn_TTCFG_ROLE (n : Nat) : Field := ⟨Reg.CANn_TTCFG n, 0, 2⟩
/-- Table 12-20, R334: RWS. -/ abbrev CANn_TTCFG_PRIO (n : Nat) : Field := ⟨Reg.CANn_TTCFG n, 2, 3⟩
/-- Table 12-20, R334: RWS. -/ abbrev CANn_TTCFG_BC_DIV (n : Nat) : Field := ⟨Reg.CANn_TTCFG n, 5, 4⟩
/-- Table 12-20, R334: RWS. -/ abbrev CANn_TTCFG_MATRIX (n : Nat) : Field := ⟨Reg.CANn_TTCFG n, 9, 3⟩
/-- Table 12-20, R334: RWS. -/ abbrev CANn_TTCFG_TX_ENABLE (n : Nat) : Field := ⟨Reg.CANn_TTCFG n, 12, 8⟩
/-- Table 12-20, R334: RWS. -/ abbrev CANn_TTCFG_REF_ID (n : Nat) : Field := ⟨Reg.CANn_TTCFG n, 20, 11⟩
/-- Table 12-20, R334: RO. -/ abbrev CANn_TTSTAT_CYCLE (n : Nat) : Field := ⟨Reg.CANn_TTSTAT n, 0, 6⟩
/-- Table 12-20, R334: RO. -/ abbrev CANn_TTSTAT_BANK (n : Nat) : Field := ⟨Reg.CANn_TTSTAT n, 6, 1⟩
/-- Table 12-20, R334: RO. -/ abbrev CANn_TTSTAT_SWAP_PEND (n : Nat) : Field := ⟨Reg.CANn_TTSTAT n, 7, 1⟩
/-- Table 12-20, R334: W1C. -/ abbrev CANn_TTSTAT_SWAP_REFUSED (n : Nat) : Field := ⟨Reg.CANn_TTSTAT n, 8, 1⟩
/-- Table 12-20, R334: RO. -/ abbrev CANn_TTSTAT_MASTER_PRIO (n : Nat) : Field := ⟨Reg.CANn_TTSTAT n, 9, 3⟩
/-- Table 12-20, R334: RO. -/ abbrev CANn_TTSTAT_REF_MISS (n : Nat) : Field := ⟨Reg.CANn_TTSTAT n, 16, 8⟩
/-- Table 12-20, R334: WO. -/ abbrev CANn_TTSWAP_SWAP (n : Nat) : Field := ⟨Reg.CANn_TTSWAP n, 0, 1⟩
/-- Table 12-21, R334: RO. -/ abbrev CANn_CNT0_TX_OK (n : Nat) : Field := ⟨Reg.CANn_CNT0 n, 0, 16⟩
/-- Table 12-21, R334: RO. -/ abbrev CANn_CNT0_RX_OK (n : Nat) : Field := ⟨Reg.CANn_CNT0 n, 16, 16⟩
/-- Table 12-21, R334: RO. -/ abbrev CANn_CNT1_BUSOFFS (n : Nat) : Field := ⟨Reg.CANn_CNT1 n, 0, 8⟩
/-- Table 12-21, R334: RO. -/ abbrev CANn_CNT1_DUP_MISMATCH (n : Nat) : Field := ⟨Reg.CANn_CNT1 n, 8, 8⟩
/-- Table 12-21, R334: RO. -/ abbrev CANn_CNT1_DISCARDED (n : Nat) : Field := ⟨Reg.CANn_CNT1 n, 16, 16⟩
/-- Table 12-21, R334: RO. -/ abbrev CANn_CNT2_NOACK_LOST (n : Nat) : Field := ⟨Reg.CANn_CNT2 n, 0, 8⟩
/-- Table 12-21, R334: RO. -/ abbrev CANn_CNT2_REASM_DROP (n : Nat) : Field := ⟨Reg.CANn_CNT2 n, 8, 8⟩
/-- Table 12-21, R334: RO. -/ abbrev CANn_CNT2_REMOTE_DISC (n : Nat) : Field := ⟨Reg.CANn_CNT2 n, 16, 4⟩
/-- Table 12-21, R334: RO. -/ abbrev CANn_CNT2_BAD_OBJ (n : Nat) : Field := ⟨Reg.CANn_CNT2 n, 20, 4⟩
/-- Table 12-21, R334: RO. -/ abbrev CANn_CNT2_TT_LOST (n : Nat) : Field := ⟨Reg.CANn_CNT2 n, 24, 8⟩
/-- Table 12-22, R334: RW. -/ abbrev CANn_OBJSEL_OBJ (n : Nat) : Field := ⟨Reg.CANn_OBJSEL n, 0, 8⟩
/-- Table 12-22, R334: RO. -/ abbrev CANn_OBJSTAT_QUEUE (n : Nat) : Field := ⟨Reg.CANn_OBJSTAT n, 0, 3⟩
/-- Table 12-22, R334: RO. -/ abbrev CANn_OBJSTAT_MARKER (n : Nat) : Field := ⟨Reg.CANn_OBJSTAT n, 3, 1⟩
/-- Table 12-22, R334: RO. -/ abbrev CANn_OBJSTAT_RELEASED (n : Nat) : Field := ⟨Reg.CANn_OBJSTAT n, 4, 1⟩
/-- Table 12-22, R334: RO. -/ abbrev CANn_OBJSTAT_SINGLE_SHOT (n : Nat) : Field := ⟨Reg.CANn_OBJSTAT n, 5, 1⟩
/-- Table 12-22, R334: W1C. -/ abbrev CANn_OBJSTAT_RX_OVR (n : Nat) : Field := ⟨Reg.CANn_OBJSTAT n, 6, 1⟩
/-- Table 12-22, R334: RO. -/ abbrev CANn_OBJSTAT_RUN (n : Nat) : Field := ⟨Reg.CANn_OBJSTAT n, 16, 16⟩
/-- Table 12-17, R334: RWS. -/ abbrev CANn_PSLOTk_ID_SLOT_ID (n : Nat) (k : Nat) : Field := ⟨Reg.CANn_PSLOTk_ID n k, 0, 29⟩
/-- Table 12-17, R334: RWS. -/ abbrev CANn_PSLOTk_ID_IDE (n : Nat) (k : Nat) : Field := ⟨Reg.CANn_PSLOTk_ID n k, 29, 1⟩
/-- Table 12-17, R334: RWS. -/ abbrev CANn_PSLOTk_ID_PASS (n : Nat) (k : Nat) : Field := ⟨Reg.CANn_PSLOTk_ID n k, 30, 1⟩
/-- Table 12-17, R334: RWS. -/ abbrev CANn_PSLOTk_ID_EN (n : Nat) (k : Nat) : Field := ⟨Reg.CANn_PSLOTk_ID n k, 31, 1⟩
/-- Table 12-17, R334: RWS. -/ abbrev CANn_PSLOTk_MASK_MASK (n : Nat) (k : Nat) : Field := ⟨Reg.CANn_PSLOTk_MASK n k, 0, 29⟩
/-- Table 12-17, R334: W1C. -/ abbrev CANn_PSLOTk_MASK_OVR (n : Nat) (k : Nat) : Field := ⟨Reg.CANn_PSLOTk_MASK n k, 29, 1⟩
/-- Table 12-22, R334: RW. -/ abbrev CANn_OBJENw_EN (n : Nat) (w : Nat) : Field := ⟨Reg.CANn_OBJENw n w, 0, 32⟩
/-- Table 12-23, R334: RWS. -/ abbrev CANn_OBJCFG_ID (n : Nat) (o : Nat) : Field := ⟨Reg.CANn_OBJCFG n o, 0, 29⟩
/-- Table 12-23, R334: RWS. -/ abbrev CANn_OBJCFG_IDE (n : Nat) (o : Nat) : Field := ⟨Reg.CANn_OBJCFG n o, 29, 1⟩
/-- Table 12-23, R334: RWS. -/ abbrev CANn_OBJCFG_DIR (n : Nat) (o : Nat) : Field := ⟨Reg.CANn_OBJCFG n o, 30, 1⟩
/-- Table 12-23, R334: RWS. -/ abbrev CANn_OBJCFG_PAIRED (n : Nat) (o : Nat) : Field := ⟨Reg.CANn_OBJCFG n o, 31, 1⟩
/-- Table 12-23, R334: RWS. -/ abbrev CANn_OBJFMT_DLC (n : Nat) (o : Nat) : Field := ⟨Reg.CANn_OBJFMT n o, 0, 4⟩
/-- Table 12-23, R334: RWS. -/ abbrev CANn_OBJFMT_FDF (n : Nat) (o : Nat) : Field := ⟨Reg.CANn_OBJFMT n o, 4, 1⟩
/-- Table 12-23, R334: RWS. -/ abbrev CANn_OBJFMT_BRS (n : Nat) (o : Nat) : Field := ⟨Reg.CANn_OBJFMT n o, 5, 1⟩
/-- Table 12-23, R334: RWS. -/ abbrev CANn_OBJFMT_NOPART (n : Nat) (o : Nat) : Field := ⟨Reg.CANn_OBJFMT n o, 6, 1⟩
/-- Table 12-23, R334: RWS. -/ abbrev CANn_OBJFMT_PROTO (n : Nat) (o : Nat) : Field := ⟨Reg.CANn_OBJFMT n o, 7, 2⟩
/-- Table 12-23, R334: RWS. -/ abbrev CANn_OBJFMT_RX_TIMEOUT (n : Nat) (o : Nat) : Field := ⟨Reg.CANn_OBJFMT n o, 16, 16⟩
/-- Table 12-23, R334: RWS. -/ abbrev CANn_OBJHDL_HANDLE (n : Nat) (o : Nat) : Field := ⟨Reg.CANn_OBJHDL n o, 0, 32⟩
/-- Table 2-21, R60: RO. -/ abbrev CLU_UNITSTAT_STATE_U (q : Nat) (u : Nat) : Field := ⟨Reg.CLU_UNITSTAT q, 0 + 2 * u, 2⟩
/-- Table 2-21, R60: RO. -/ abbrev CLU_UNITSTAT_SPARES (q : Nat) : Field := ⟨Reg.CLU_UNITSTAT q, 16, 3⟩
/-- Table 2-21, R60: RO. -/ abbrev CLU_UNITSTAT_FAULTED (q : Nat) : Field := ⟨Reg.CLU_UNITSTAT q, 19, 1⟩
/-- Table 2-21, R60: RO. -/ abbrev CLU_UNITSTAT_RETIRED (q : Nat) : Field := ⟨Reg.CLU_UNITSTAT q, 20, 8⟩
/-- Table 3-12, R81: RWS. -/ abbrev CLU_DISP_BG_NTH (q : Nat) : Field := ⟨Reg.CLU_DISP q, 0, 6⟩
/-- Table 3-12, R81: W1C. -/ abbrev CLU_DISP_REFUSED (q : Nat) : Field := ⟨Reg.CLU_DISP q, 8, 1⟩
/-- Table 3-12, R81: RO. -/ abbrev CLU_DISP_BG_SKIP (q : Nat) : Field := ⟨Reg.CLU_DISP q, 16, 16⟩
/-- Table 3-13, R81: RO. -/ abbrev CLU_SATCNT_SAT_TASKS (q : Nat) : Field := ⟨Reg.CLU_SATCNT q, 0, 16⟩
/-- Table 3-13, R81: RO. -/ abbrev CLU_SATCNT_REG_TASKS (q : Nat) : Field := ⟨Reg.CLU_SATCNT q, 16, 8⟩
/-- Table 3-13, R81: RO. -/ abbrev CLU_SATCNT_DOMAIN_TASKS (q : Nat) : Field := ⟨Reg.CLU_SATCNT q, 24, 8⟩
/-- Table 3-14, R81: RO. -/ abbrev CLU_LASTSAT_TASK (q : Nat) : Field := ⟨Reg.CLU_LASTSAT q, 0, 12⟩
/-- Table 3-14, R81: RO. -/ abbrev CLU_LASTSAT_SAT_CNT (q : Nat) : Field := ⟨Reg.CLU_LASTSAT q, 12, 8⟩
/-- Table 9-19, R254: RO. -/ abbrev CLU_RERUN_RERUNS (q : Nat) : Field := ⟨Reg.CLU_RERUN q, 0, 16⟩
/-- Table 9-19, R254: RO. -/ abbrev CLU_RERUN_WAKE_FAIL (q : Nat) : Field := ⟨Reg.CLU_RERUN q, 16, 4⟩
/-- Table 2-12, R56: RW. -/ abbrev BANKARB_PRIOA_PRIO_U (q : Nat) (b : Nat) (u : Nat) : Field := ⟨Reg.BANKARB_PRIOA q b, 0 + 4 * u, 4⟩
/-- Table 2-13, R56: RW. -/ abbrev BANKARB_PRIOB_PRIO_PIP (q : Nat) (b : Nat) : Field := ⟨Reg.BANKARB_PRIOB q b, 0, 4⟩
/-- Table 2-13, R56: RW. -/ abbrev BANKARB_PRIOB_PRIO_BRG (q : Nat) (b : Nat) : Field := ⟨Reg.BANKARB_PRIOB q b, 4, 4⟩
/-- Table 2-14, R56: RWS. -/ abbrev BANKARB_CTRL_NTH (q : Nat) (b : Nat) : Field := ⟨Reg.BANKARB_CTRL q b, 0, 6⟩
/-- Table 2-14, R56: RWS. -/ abbrev BANKARB_CTRL_BURST (q : Nat) (b : Nat) : Field := ⟨Reg.BANKARB_CTRL q b, 8, 8⟩
/-- Table 2-15, R56: RO. -/ abbrev BANKARB_STAT_OWNER (q : Nat) (b : Nat) : Field := ⟨Reg.BANKARB_STAT q b, 0, 4⟩
/-- Table 2-15, R56: RO. -/ abbrev BANKARB_STAT_REQ (q : Nat) (b : Nat) : Field := ⟨Reg.BANKARB_STAT q b, 4, 10⟩
/-- Table 2-15, R56: RO. -/ abbrev BANKARB_STAT_MASKED (q : Nat) (b : Nat) : Field := ⟨Reg.BANKARB_STAT q b, 14, 10⟩
/-- Table 2-15, R56: W1C. -/ abbrev BANKARB_STAT_REFUSED (q : Nat) (b : Nat) : Field := ⟨Reg.BANKARB_STAT q b, 24, 1⟩
/-- Table 2-16, R56: RW. -/ abbrev EGRARB_PRIO_PRIO_C (g : Nat) (c : Nat) : Field := ⟨Reg.EGRARB_PRIO g, 0 + 4 * c, 4⟩
/-- Table 2-16, R56: RW. -/ abbrev EGRARB_PRIO_PRIO_BRG (g : Nat) : Field := ⟨Reg.EGRARB_PRIO g, 16, 4⟩
/-- Table 2-16, R56: RW. -/ abbrev EGRARB_PRIO_PRIO_RPT (g : Nat) : Field := ⟨Reg.EGRARB_PRIO g, 20, 4⟩
/-- Table 2-14, R56: RWS. -/ abbrev EGRARB_CTRL_NTH (g : Nat) : Field := ⟨Reg.EGRARB_CTRL g, 0, 6⟩
/-- Table 2-14, R56: RWS. -/ abbrev EGRARB_CTRL_BURST (g : Nat) : Field := ⟨Reg.EGRARB_CTRL g, 8, 8⟩
/-- Table 2-17, R56: RO. -/ abbrev EGRARB_STAT_OWNER (g : Nat) : Field := ⟨Reg.EGRARB_STAT g, 0, 4⟩
/-- Table 2-17, R56: RO. -/ abbrev EGRARB_STAT_REQ (g : Nat) : Field := ⟨Reg.EGRARB_STAT g, 4, 6⟩
/-- Table 2-17, R56: RO. -/ abbrev EGRARB_STAT_MASKED (g : Nat) : Field := ⟨Reg.EGRARB_STAT g, 10, 6⟩
/-- Table 2-17, R56: W1C. -/ abbrev EGRARB_STAT_REFUSED (g : Nat) : Field := ⟨Reg.EGRARB_STAT g, 16, 1⟩
/-- Table 2-22, R60: RO. -/ abbrev RGN_WAITABORT_COUNT (g : Nat) : Field := ⟨Reg.RGN_WAITABORT g, 0, 16⟩
/-- Table 2-22, R60: RO. -/ abbrev RGN_WAITABORT_LAST_RES (g : Nat) : Field := ⟨Reg.RGN_WAITABORT g, 16, 16⟩
/-- Table 2-23, R60: RO. -/ abbrev RGN_ECCCNT_CORRECTED (g : Nat) : Field := ⟨Reg.RGN_ECCCNT g, 0, 16⟩
/-- Table 2-23, R60: RO. -/ abbrev RGN_ECCCNT_UNCORRECTED (g : Nat) : Field := ⟨Reg.RGN_ECCCNT g, 16, 16⟩
/-- Table 9-16, R254: RO. -/ abbrev RGN_PLACE_ALT_IN (g : Nat) : Field := ⟨Reg.RGN_PLACE g, 0, 4⟩
/-- Table 9-16, R254: RO. -/ abbrev RGN_PLACE_MOVED_OUT (g : Nat) : Field := ⟨Reg.RGN_PLACE g, 4, 1⟩
/-- Table 9-16, R254: RO. -/ abbrev RGN_PLACE_ISOLATED (g : Nat) : Field := ⟨Reg.RGN_PLACE g, 5, 1⟩
/-- Table 9-17, R254: RO. -/ abbrev RGN_EGRDUP_DUP_DROPPED (g : Nat) : Field := ⟨Reg.RGN_EGRDUP g, 0, 16⟩
/-- Table 9-17, R254: RO. -/ abbrev RGN_EGRDUP_PARTIAL_DISC (g : Nat) : Field := ⟨Reg.RGN_EGRDUP g, 16, 16⟩
/-- Table 9-18, R254: RO. -/ abbrev RGN_PMAPt_CUR (g : Nat) (t : Nat) : Field := ⟨Reg.RGN_PMAPt g t, 0, 5⟩
/-- Table 9-18, R254: RO. -/ abbrev RGN_PMAPt_WHERE (g : Nat) (t : Nat) : Field := ⟨Reg.RGN_PMAPt g t, 5, 2⟩
/-- Table 9-18, R254: RO. -/ abbrev RGN_PMAPt_HERE (g : Nat) (t : Nat) : Field := ⟨Reg.RGN_PMAPt g t, 7, 1⟩

end Sys2Proof.Machine.Fld
end

