-- ==== Sys2Proof/Machine/RegTable.lean ====
section
/-!
DEFINITION. Sys2Proof/Machine/RegTable.lean: for every register its reset value and the masks of its RW, RWS, W1C and
WO bits (Table 0-4, R6), from the spec's register tables.  A bit in none of the masks is RO or reserved (R484).
Cluster and region rows give the offset from the register base of R486.
-/
namespace Sys2Proof.Machine

/-- Registers of block SYS. -/
def regRowsSYS : List RegRow := [
  ⟨0x0, 0x0, 1, 0x0, 1, 0x3264, 0x0, 0x0, 0x0, 0x0⟩, /- SYS_PARTID -/
  ⟨0x4, 0x0, 1, 0x0, 1, 0x4201, 0x0, 0x0, 0x0, 0x0⟩, /- SYS_REV -/
  ⟨0x8, 0x0, 1, 0x0, 1, 0x0, 0x0, 0x0, 0x0, 0x0⟩, /- SYS_UIDL -/
  ⟨0xC, 0x0, 1, 0x0, 1, 0x0, 0x0, 0x0, 0x0, 0x0⟩, /- SYS_UIDH -/
  ⟨0x10, 0x0, 1, 0x0, 1, 0x0, 0x0, 0x0, 0x0, 0x0⟩, /- SYS_STRAP -/
  ⟨0x20, 0x0, 1, 0x0, 1, 0x5020, 0x0, 0x0, 0x0, 0x0⟩, /- SYS_STAT -/
  ⟨0x24, 0x0, 1, 0x0, 1, 0x0, 0x0, 0x0, 0x0, 0x0⟩, /- SYS_FAULTSUM -/
  ⟨0x28, 0x0, 1, 0x0, 1, 0x0, 0x0, 0x0, 0x3FFF, 0x0⟩, /- SYS_ALERT -/
  ⟨0x2C, 0x0, 1, 0x0, 1, 0x0, 0x0, 0x0, 0x0, 0x1⟩, /- SYS_CTRL -/
  ⟨0x30, 0x0, 1, 0x0, 1, 0x0, 0x0, 0x0, 0x0, 0x0⟩, /- SYS_REFADDR -/
  ⟨0x34, 0x0, 1, 0x0, 1, 0x0, 0x0, 0x0, 0x0, 0x0⟩, /- SYS_REFINFO -/
  ⟨0x40, 0x0, 1, 0x0, 1, 0x0, 0x0, 0x0, 0x0, 0xFFFF⟩ /- SYS_EXPERT -/]

/-- Registers of block CLK. -/
def regRowsCLK : List RegRow := [
  ⟨0x10000, 0x0, 1, 0x0, 1, 0x0, 0x1, 0x0, 0x0, 0x2⟩, /- CLK_CTRL -/
  ⟨0x10004, 0x0, 1, 0x0, 1, 0x1, 0x0, 0x0, 0x100, 0x0⟩, /- CLK_STAT -/
  ⟨0x10008, 0x0, 1, 0x0, 1, 0x0, 0x0, 0x0, 0x0, 0x0⟩, /- CLK_DOMSTAT -/
  ⟨0x1000C, 0x0, 1, 0x0, 1, 0x0, 0x3FFFF, 0x0, 0x0, 0x0⟩, /- CLK_GATE0 -/
  ⟨0x10010, 0x0, 1, 0x0, 1, 0x0, 0xFFFF, 0x0, 0x0, 0x0⟩, /- CLK_GATE1 -/
  ⟨0x10014, 0x0, 1, 0x0, 1, 0x0, 0x0, 0x0, 0x0, 0x0⟩, /- CLK_CNT -/
  ⟨0x10018, 0x0, 1, 0x0, 1, 0x0, 0x0, 0x0, 0x0, 0x0⟩, /- CLK_BERR -/
  ⟨0x1001C, 0x0, 1, 0x0, 1, 0x0, 0x0, 0x0, 0x0, 0x0⟩ /- CLK_BERRINFO -/]

/-- Registers of block AON. -/
def regRowsAON : List RegRow := [
  ⟨0x20000, 0x0, 1, 0x0, 1, 0x1, 0x0, 0x0, 0x1F, 0x0⟩, /- AON_RSTCAUSE -/
  ⟨0x20004, 0x0, 1, 0x0, 1, 0x0, 0x0, 0x0, 0x0, 0x0⟩, /- AON_RSTLEN -/
  ⟨0x20008, 0x0, 1, 0x0, 1, 0x0, 0x0, 0x0, 0x0, 0x0⟩ /- AON_PWRCYC -/]

/-- Registers of block TB. -/
def regRowsTB : List RegRow := [
  ⟨0x30000, 0x0, 1, 0x0, 1, 0x0, 0x0, 0x0, 0x0, 0x3⟩, /- TB_CTRL -/
  ⟨0x30004, 0x0, 1, 0x0, 1, 0xC00, 0x0, 0x0, 0x1000, 0x0⟩, /- TB_STAT -/
  ⟨0x30008, 0x0, 1, 0x0, 1, 0x0, 0x0, 0x0, 0x0, 0x0⟩, /- TB_NS -/
  ⟨0x3000C, 0x0, 1, 0x0, 1, 0x0, 0x0, 0x0, 0x0, 0x0⟩, /- TB_SUBNS -/
  ⟨0x30010, 0x0, 1, 0x0, 1, 0x2000000, 0x0, 0xFFFFFFFF, 0x0, 0x0⟩, /- TB_INC -/
  ⟨0x30014, 0x0, 1, 0x0, 1, 0x3E8, 0x1FFFF, 0x0, 0x0, 0x0⟩, /- TB_JUMP_LIM -/
  ⟨0x30018, 0x0, 1, 0x0, 1, 0x0, 0x0, 0x0, 0x0, 0x0⟩, /- TB_WRAPS -/
  ⟨0x3001C, 0x0, 1, 0x0, 1, 0x0, 0x0, 0x0, 0x0, 0x0⟩, /- TB_OFS -/
  ⟨0x30020, 0x0, 1, 0x0, 1, 0x0, 0x0, 0x0, 0x0, 0x0⟩, /- TB_MPD -/
  ⟨0x30024, 0x0, 1, 0x0, 1, 0x0, 0x0, 0x0, 0x0, 0x0⟩, /- TB_STEPL -/
  ⟨0x30028, 0x0, 1, 0x0, 1, 0x0, 0x0, 0x0, 0x0, 0x0⟩, /- TB_STEPH -/
  ⟨0x3002C, 0x0, 1, 0x0, 1, 0x0, 0x0, 0x0, 0x0, 0x0⟩, /- TB_STEPT -/
  ⟨0x30030, 0x0, 1, 0x0, 1, 0x0, 0x0, 0x0, 0x0, 0x0⟩, /- TB_GML -/
  ⟨0x30034, 0x0, 1, 0x0, 1, 0x0, 0x0, 0x0, 0x0, 0x0⟩, /- TB_GMH -/
  ⟨0x30038, 0x0, 1, 0x0, 1, 0x0, 0x0, 0x0, 0x0, 0x0⟩, /- TB_ALIGN -/
  ⟨0x3003C, 0x0, 1, 0x0, 1, 0x1, 0xFFFF, 0x0, 0x0, 0x0⟩, /- TB_TRIGEN -/
  ⟨0x30040, 0x0, 1, 0x0, 1, 0x0, 0x0, 0x0, 0x0, 0x0⟩, /- TB_CNT -/
  ⟨0x30050, 0x4, 3, 0x0, 1, 0x0, 0x0, 0xFFFFFFFF, 0x0, 0x0⟩, /- TB_PTPLATp -/
  ⟨0x30060, 0x4, 3, 0x0, 1, 0x3, 0x0, 0x0, 0x0, 0x0⟩, /- TB_PTPSTATp -/
  ⟨0x30100, 0x10, 16, 0x0, 1, 0x0, 0x0, 0xFFFFFFFF, 0x0, 0x0⟩, /- TB_TRIGm_TIME -/
  ⟨0x30104, 0x10, 16, 0x0, 1, 0x0, 0x0, 0xFFFFFFFF, 0x0, 0x0⟩, /- TB_TRIGm_PER -/
  ⟨0x30108, 0x10, 16, 0x0, 1, 0x100, 0x0, 0xFFF7F, 0x0, 0x0⟩, /- TB_TRIGm_CFG -/
  ⟨0x3010C, 0x10, 16, 0x0, 1, 0x0, 0x0, 0x0, 0x3, 0x0⟩, /- TB_TRIGm_STAT -/
  ⟨0x30200, 0x10, 16, 0x0, 1, 0x40, 0xFFFF, 0x0, 0x0, 0x0⟩, /- TB_CAPm_CFG -/
  ⟨0x30204, 0x10, 16, 0x0, 1, 0x0, 0x0, 0x0, 0x0, 0x0⟩, /- TB_CAPm_VAL -/
  ⟨0x30208, 0x10, 16, 0x0, 1, 0x0, 0x0, 0x0, 0x8, 0x0⟩ /- TB_CAPm_STAT -/]

/-- Registers of block SLK. -/
def regRowsSLK : List RegRow := [
  ⟨0x40000, 0x0, 1, 0x0, 1, 0x0, 0x2, 0x0, 0x0, 0x1⟩, /- SLK_CTRL -/
  ⟨0x40004, 0x0, 1, 0x0, 1, 0x1F401F4, 0xFFFFFFFF, 0x0, 0x0, 0x0⟩, /- SLK_THR -/
  ⟨0x40008, 0x0, 1, 0x0, 1, 0x0, 0x0, 0x0, 0xF, 0x0⟩, /- SLK_STAT -/
  ⟨0x4000C, 0x0, 1, 0x0, 1, 0x7FFFFFFF, 0x0, 0x0, 0x0, 0x0⟩, /- SLK_MINF -/
  ⟨0x40010, 0x0, 1, 0x0, 1, 0x7FFFFFFF, 0x0, 0x0, 0x0, 0x0⟩ /- SLK_MINP -/]

/-- Registers of block FLT. -/
def regRowsFLT : List RegRow := [
  ⟨0x50000, 0x0, 1, 0x0, 1, 0x0, 0x0, 0x0, 0x0, 0x1⟩, /- FLT_CTRL -/
  ⟨0x50004, 0x0, 1, 0x0, 1, 0x0, 0x0, 0x0, 0x0, 0x0⟩, /- FLT_STAT -/
  ⟨0x50008, 0x0, 1, 0x0, 1, 0x0, 0x0, 0x0, 0x0, 0x0⟩, /- FLT_SPARE -/
  ⟨0x5000C, 0x0, 1, 0x0, 1, 0x0, 0x0, 0x0, 0x0, 0x0⟩, /- FLT_RERUN -/
  ⟨0x50010, 0x0, 1, 0x0, 1, 0x0, 0x0, 0x0, 0x0, 0x0⟩, /- FLT_LAST -/
  ⟨0x50014, 0x0, 1, 0x0, 1, 0x0, 0x0, 0x0, 0x0, 0x0⟩, /- FLT_LASTT -/
  ⟨0x50018, 0x0, 1, 0x0, 1, 0x0, 0x0, 0x0, 0x0, 0x0⟩, /- FLT_MARK -/
  ⟨0x50100, 0x0, 1, 0x0, 1, 0x0, 0xFFFFFFFF, 0x0, 0x0, 0x0⟩, /- OCH_SEL -/
  ⟨0x50104, 0x0, 1, 0x0, 1, 0x1000000, 0x0, 0x0, 0x0, 0x0⟩, /- OCH_SEQ -/
  ⟨0x50108, 0x0, 1, 0x0, 1, 0x0, 0x0, 0x0, 0x0, 0x0⟩, /- OCH_CNT -/
  ⟨0x5010C, 0x0, 1, 0x0, 1, 0x0, 0x0, 0x0, 0x0, 0x0⟩ /- OCH_LATE -/]

/-- Registers of block IMG. -/
def regRowsIMG : List RegRow := [
  ⟨0x60000, 0x0, 1, 0x0, 1, 0x0, 0x0, 0x0, 0x0, 0x1FF⟩, /- IMG_CMD -/
  ⟨0x60004, 0x0, 1, 0x0, 1, 0x0, 0x0, 0x0, 0x20000, 0x0⟩, /- IMG_STAT -/
  ⟨0x60008, 0x0, 1, 0x0, 1, 0x0, 0x0, 0x0, 0x0, 0x0⟩, /- IMG_RUNGEN -/
  ⟨0x60060, 0x0, 1, 0x0, 1, 0x0, 0x0, 0x0, 0x0, 0x0⟩, /- IMG_CNT -/
  ⟨0x60010, 0x4, 8, 0x0, 1, 0x0, 0x0, 0x0, 0x0, 0x0⟩, /- IMG_RUNSHAw -/
  ⟨0x60040, 0x10, 2, 0x0, 1, 0x0, 0x0, 0x0, 0x0, 0x0⟩, /- IMG_BANKk_GEN -/
  ⟨0x60044, 0x10, 2, 0x0, 1, 0x7, 0x0, 0x0, 0x0, 0x0⟩ /- IMG_BANKk_STAT -/]

/-- Registers of block MGT. -/
def regRowsMGT : List RegRow := [
  ⟨0x70000, 0x0, 1, 0x0, 1, 0x0, 0x0, 0x0, 0x0, 0x1⟩, /- MGT_CTRL -/
  ⟨0x70004, 0x0, 1, 0x0, 1, 0x0, 0x0, 0x0, 0x0, 0x0⟩, /- MGT_STAT -/
  ⟨0x70008, 0x0, 1, 0x0, 1, 0x0, 0x0, 0x0, 0x0, 0x0⟩, /- MGT_CNT0 -/
  ⟨0x7000C, 0x0, 1, 0x0, 1, 0x0, 0x0, 0x0, 0x0, 0x0⟩ /- MGT_CNT1 -/]

/-- Registers of block REC. -/
def regRowsREC : List RegRow := [
  ⟨0x80000, 0x0, 1, 0x0, 1, 0x0, 0x0, 0x0, 0x0, 0x7⟩, /- REC_CTRL -/
  ⟨0x80004, 0x0, 1, 0x0, 1, 0x0, 0x0, 0x0, 0x4000, 0x0⟩, /- REC_STAT -/
  ⟨0x80018, 0x0, 1, 0x0, 1, 0x0, 0x0, 0x0, 0x0, 0x0⟩, /- REC_RNUM -/
  ⟨0x8001C, 0x0, 1, 0x0, 1, 0x0, 0x0, 0x0, 0x0, 0x0⟩, /- REC_OPTIME -/
  ⟨0x80020, 0x0, 1, 0x0, 1, 0x0, 0x0, 0x0, 0x0, 0x0⟩, /- REC_PCYCLE -/
  ⟨0x80024, 0x0, 1, 0x0, 1, 0x0, 0x0, 0x0, 0x0, 0x0⟩, /- REC_CNT -/
  ⟨0x80010, 0x4, 2, 0x0, 1, 0x0, 0x0, 0x0, 0x0, 0x0⟩ /- REC_WPTRk -/]

/-- Registers of block SLH. -/
def regRowsSLH : List RegRow := [
  ⟨0x90000, 0x0, 1, 0x0, 1, 0x0, 0x0, 0x0, 0x0, 0xF⟩, /- SLH_CMD -/
  ⟨0x90004, 0x0, 1, 0x0, 1, 0x8, 0x0, 0x0, 0x400, 0x0⟩, /- SLH_STAT -/
  ⟨0x90008, 0x0, 1, 0x0, 1, 0x0, 0x0, 0x0, 0x0, 0x0⟩, /- SLH_EPOCH -/
  ⟨0x9000C, 0x0, 1, 0x0, 1, 0x0, 0x0, 0x0, 0x0, 0x0⟩, /- SLH_AEPOCH -/
  ⟨0x90010, 0x0, 1, 0x0, 1, 0x0, 0x0, 0x0, 0x0, 0x0⟩, /- SLH_STATEF -/
  ⟨0x90018, 0x0, 1, 0x0, 1, 0x0, 0x0, 0x0, 0x0, 0x0⟩, /- SLH_CNT0 -/
  ⟨0x9001C, 0x0, 1, 0x0, 1, 0x0, 0x0, 0x0, 0x0, 0x0⟩, /- SLH_CNT1 -/
  ⟨0x90040, 0x4, 3, 0x0, 1, 0xFFF8, 0x0, 0x0, 0x0, 0x0⟩ /- SLH_MEMm -/]

/-- Registers of block SAF. -/
def regRowsSAF : List RegRow := [
  ⟨0xA0000, 0x0, 1, 0x0, 1, 0x0, 0x0, 0x0, 0x0, 0x7⟩, /- SAF_CTRL -/
  ⟨0xA0004, 0x0, 1, 0x0, 1, 0x4, 0x0, 0x0, 0x200, 0x0⟩, /- SAF_STAT -/
  ⟨0xA0008, 0x0, 1, 0x0, 1, 0x0, 0x0, 0x0, 0x0, 0x0⟩, /- SAF_VER -/
  ⟨0xA000C, 0x0, 1, 0x0, 1, 0x0, 0x0, 0x0, 0x0, 0x0⟩, /- SAF_SO -/
  ⟨0xA0010, 0x0, 1, 0x0, 1, 0x0, 0x0, 0x0, 0x0, 0x0⟩, /- SAF_SORB -/
  ⟨0xA0014, 0x0, 1, 0x0, 1, 0x0, 0x0, 0x0, 0x0, 0x0⟩, /- SAF_SIA -/
  ⟨0xA0018, 0x0, 1, 0x0, 1, 0x0, 0x0, 0x0, 0x0, 0x0⟩, /- SAF_SIB -/
  ⟨0xA001C, 0x0, 1, 0x0, 1, 0x0, 0x0, 0x0, 0x0, 0x0⟩, /- SAF_CNT -/
  ⟨0xA0020, 0x0, 1, 0x0, 1, 0x0, 0x0, 0x0, 0x0, 0x0⟩, /- SAF_LAST -/
  ⟨0xA0024, 0x0, 1, 0x0, 1, 0x0, 0x0, 0x0, 0x0, 0x0⟩, /- SAF_LASTT -/
  ⟨0xA0100, 0x4, 32, 0x0, 1, 0x0, 0x0, 0x0, 0x0, 0x0⟩ /- SAF_FNf -/]

/-- Registers of block FUS. -/
def regRowsFUS : List RegRow := [
  ⟨0xB0000, 0x0, 1, 0x0, 1, 0x0, 0x1, 0x0, 0x0, 0x2⟩, /- FUS_CTRL -/
  ⟨0xB0004, 0x0, 1, 0x0, 1, 0x0, 0x0, 0x0, 0x0, 0x0⟩, /- FUS_STAT -/
  ⟨0xB0008, 0x0, 1, 0x0, 1, 0x0, 0x0, 0x0, 0x0, 0x0⟩, /- FUS_LATE -/
  ⟨0xB000C, 0x0, 1, 0x0, 1, 0x0, 0x0, 0x0, 0x0, 0x0⟩, /- FUS_TCNT -/
  ⟨0xB0010, 0x0, 1, 0x0, 1, 0x0, 0x0, 0x0, 0x0, 0x0⟩, /- FUS_EPOCH -/
  ⟨0xB0040, 0x4, 28, 0x0, 1, 0x0, 0x0, 0x0, 0x0, 0x0⟩, /- FUS_SRCSTATs -/
  ⟨0xB00C0, 0x4, 28, 0x0, 1, 0x0, 0x0, 0x0, 0x0, 0x0⟩ /- FUS_TRESs -/]

/-- Registers of block CTL. -/
def regRowsCTL : List RegRow := [
  ⟨0xC0000, 0x0, 1, 0x0, 1, 0x0, 0x0, 0x0, 0x0, 0xF⟩, /- CTL_MODECMD -/
  ⟨0xC0004, 0x0, 1, 0x0, 1, 0x0, 0x0, 0x0, 0x0, 0x0⟩, /- CTL_MODESTAT -/
  ⟨0xC0008, 0x0, 1, 0x0, 1, 0x0, 0x0, 0x0, 0x0, 0x0⟩, /- CTL_STAT -/
  ⟨0xC000C, 0x0, 1, 0x0, 1, 0x0, 0x0, 0x0, 0x3FF, 0x0⟩, /- CTL_ALARM -/
  ⟨0xC0010, 0x0, 1, 0x0, 1, 0xFFFF0000, 0x0, 0x0, 0x0, 0x0⟩ /- CTL_PLAN -/]

/-- Registers of block SLV. -/
def regRowsSLV : List RegRow := [
  ⟨0xD0000, 0x0, 1, 0x0, 1, 0x0, 0x0, 0x0, 0x0, 0xF1⟩, /- SLV_CTRL -/
  ⟨0xD0100, 0x20, 4, 0x0, 1, 0x0, 0x0, 0x0, 0x0, 0x0⟩, /- SLV_STATc -/
  ⟨0xD0104, 0x20, 4, 0x0, 1, 0xFFFFFFFF, 0x0, 0x0, 0x0, 0x0⟩, /- SLV_MERITc -/
  ⟨0xD0108, 0x20, 4, 0x0, 1, 0xFFFFFFFF, 0x0, 0x0, 0x0, 0x0⟩, /- SLV_RESc -/
  ⟨0xD010C, 0x20, 4, 0x0, 1, 0x0, 0x0, 0x0, 0x0, 0x0⟩, /- SLV_FACTc -/
  ⟨0xD0110, 0x20, 4, 0x0, 1, 0x0, 0x0, 0x0, 0x0, 0x0⟩, /- SLV_REGc -/
  ⟨0xD0114, 0x20, 4, 0x0, 1, 0x0, 0x0, 0x0, 0x0, 0x0⟩, /- SLV_CNTc -/
  ⟨0xD0118, 0x20, 4, 0x0, 1, 0x0, 0x0, 0x0, 0x0, 0x0⟩ /- SLV_LASTc -/]

/-- Registers of block ALC. -/
def regRowsALC : List RegRow := [
  ⟨0xE0000, 0x0, 1, 0x0, 1, 0x0, 0x0, 0x0, 0x0, 0x1⟩, /- ALC_CTRL -/
  ⟨0xE0004, 0x0, 1, 0x0, 1, 0x0, 0xFFFFFFFF, 0x0, 0x0, 0x0⟩, /- ALC_ENABLE -/
  ⟨0xE0008, 0x0, 1, 0x0, 1, 0x0, 0x0, 0x0, 0x0, 0x0⟩, /- ALC_STAT -/
  ⟨0xE000C, 0x0, 1, 0x0, 1, 0x0, 0x0, 0x0, 0x0, 0x0⟩, /- ALC_REMOVED -/
  ⟨0xE0010, 0x0, 1, 0x0, 1, 0x0, 0x0, 0x0, 0x0, 0x0⟩, /- ALC_CNT -/
  ⟨0xE0100, 0x4, 32, 0x0, 1, 0x0, 0x0, 0x0, 0x0, 0x0⟩ /- ALC_THRi -/]

/-- Registers of block CQA. -/
def regRowsCQA : List RegRow := [
  ⟨0xF0000, 0x0, 1, 0x0, 1, 0x0, 0x0, 0x0, 0x0, 0x3⟩, /- CQA_CTRL -/
  ⟨0xF0004, 0x0, 1, 0x0, 1, 0x101, 0x0, 0x0, 0x0, 0x0⟩, /- CQA_STAT -/
  ⟨0xF0008, 0x0, 1, 0x0, 1, 0x0, 0x0, 0x0, 0x0, 0x0⟩, /- CQA_FLEET -/
  ⟨0xF0100, 0x4, 48, 0x0, 1, 0xFFFD1000, 0x0, 0x0, 0x0, 0x0⟩ /- CQA_GRPg -/]

/-- Registers of block SRV. -/
def regRowsSRV : List RegRow := [
  ⟨0x100000, 0x0, 1, 0x0, 1, 0x0, 0x0, 0x0, 0x0, 0x1⟩, /- SRV_CTRL -/
  ⟨0x100004, 0x0, 1, 0x0, 1, 0x0, 0x0, 0x0, 0x0, 0x0⟩, /- SRV_STAT -/
  ⟨0x100010, 0x0, 1, 0x0, 1, 0x0, 0x0, 0x0, 0x0, 0x0⟩, /- SRV_CLOSED0 -/
  ⟨0x100014, 0x0, 1, 0x0, 1, 0x0, 0x0, 0x0, 0x0, 0x0⟩, /- SRV_CLOSED1 -/
  ⟨0x100018, 0x0, 1, 0x0, 1, 0x0, 0x0, 0x0, 0x0, 0x0⟩, /- SRV_FAULT0 -/
  ⟨0x10001C, 0x0, 1, 0x0, 1, 0x0, 0x0, 0x0, 0x0, 0x0⟩, /- SRV_FAULT1 -/
  ⟨0x101000, 0x80, 64, 0x0, 1, 0x0, 0x0, 0xFFFFFFFF, 0x0, 0x0⟩, /- SRVn_CFG -/
  ⟨0x101004, 0x80, 64, 0x0, 1, 0x0, 0x0, 0xFF1FFFFF, 0x0, 0x0⟩, /- SRVn_SAMPLE -/
  ⟨0x101008, 0x80, 64, 0x0, 1, 0x0, 0x7FFFFFFF, 0x0, 0x0, 0x0⟩, /- SRVn_SPSRC -/
  ⟨0x10100C, 0x80, 64, 0x0, 1, 0x0, 0xFFFFFFFF, 0x0, 0x0, 0x0⟩, /- SRVn_SPOFS -/
  ⟨0x101010, 0x80, 64, 0x0, 1, 0x0, 0x0, 0xFFFFFFFF, 0x0, 0x0⟩, /- SRVn_BON -/
  ⟨0x101014, 0x80, 64, 0x0, 1, 0x0, 0x0, 0xFFFFFFFF, 0x0, 0x0⟩, /- SRVn_BOFF -/
  ⟨0x101018, 0x80, 64, 0x0, 1, 0x0, 0x0, 0xFFFFFFFF, 0x0, 0x0⟩, /- SRVn_DWELL -/
  ⟨0x10101C, 0x80, 64, 0x0, 1, 0x0, 0x0, 0x3FFFFF, 0x0, 0x0⟩, /- SRVn_FBSCL -/
  ⟨0x101020, 0x80, 64, 0x0, 1, 0x0, 0x0, 0xFFFFFFFF, 0x0, 0x0⟩, /- SRVn_FBOFS -/
  ⟨0x101024, 0x80, 64, 0x0, 1, 0x80000000, 0x0, 0xFFFFFFFF, 0x0, 0x0⟩, /- SRVn_SPMIN -/
  ⟨0x101028, 0x80, 64, 0x0, 1, 0x7FFFFFFF, 0x0, 0xFFFFFFFF, 0x0, 0x0⟩, /- SRVn_SPMAX -/
  ⟨0x10102C, 0x80, 64, 0x0, 1, 0x0, 0x0, 0xFFFFFFFF, 0x0, 0x0⟩, /- SRVn_SPRATE -/
  ⟨0x101030, 0x80, 64, 0x0, 1, 0x0, 0x0, 0xFFFFFFFF, 0x0, 0x0⟩, /- SRVn_OBON -/
  ⟨0x101034, 0x80, 64, 0x0, 1, 0x0, 0x0, 0xFFFFFFFF, 0x0, 0x0⟩, /- SRVn_OBOFF -/
  ⟨0x101038, 0x80, 64, 0x0, 1, 0x0, 0x0, 0xFFFFFFFF, 0x0, 0x0⟩, /- SRVn_ORAMP -/
  ⟨0x10103C, 0x80, 64, 0x0, 1, 0x0, 0x0, 0xFFFFFFFF, 0x0, 0x0⟩, /- SRVn_OTIMER -/
  ⟨0x101040, 0x80, 64, 0x0, 1, 0x0, 0x0, 0x3FFFFF, 0x0, 0x0⟩, /- SRVn_OFBSCL -/
  ⟨0x101044, 0x80, 64, 0x0, 1, 0x0, 0x0, 0xFFFFFFFF, 0x0, 0x0⟩, /- SRVn_OFBOFS -/
  ⟨0x101048, 0x80, 64, 0x0, 1, 0x0, 0x0, 0x0, 0x0, 0x7⟩, /- SRVn_CMD -/
  ⟨0x10104C, 0x80, 64, 0x0, 1, 0x0, 0xFFFFFFFF, 0x0, 0x0, 0x0⟩, /- SRVn_HOSTSP -/
  ⟨0x101050, 0x80, 64, 0x0, 1, 0x0, 0x0, 0x0, 0x2000, 0x0⟩, /- SRVn_STAT -/
  ⟨0x101054, 0x80, 64, 0x0, 1, 0x0, 0x0, 0x0, 0x0, 0x0⟩, /- SRVn_FB -/
  ⟨0x101058, 0x80, 64, 0x0, 1, 0x0, 0x0, 0x0, 0x0, 0x0⟩, /- SRVn_SP -/
  ⟨0x10105C, 0x80, 64, 0x0, 1, 0x0, 0x0, 0x0, 0x0, 0x0⟩, /- SRVn_OFB -/
  ⟨0x101060, 0x80, 64, 0x0, 1, 0x0, 0x0, 0x0, 0x0, 0x0⟩, /- SRVn_OSP -/
  ⟨0x101064, 0x80, 64, 0x0, 1, 0x0, 0x0, 0x0, 0x0, 0x0⟩ /- SRVn_CNT -/]

/-- Registers of block ANA. -/
def regRowsANA : List RegRow := [
  ⟨0x110000, 0x0, 1, 0x0, 1, 0x0, 0x0, 0x0, 0x0, 0x1⟩, /- ANA_CTRL -/
  ⟨0x111000, 0x40, 64, 0x0, 1, 0x83F07CF, 0x0, 0x1FFFFFFF, 0x0, 0x0⟩, /- CHn_CFG -/
  ⟨0x111004, 0x40, 64, 0x0, 1, 0x0, 0x0, 0x0, 0x0, 0x3⟩, /- CHn_CMD -/
  ⟨0x111008, 0x40, 64, 0x0, 1, 0x0, 0x0, 0x0, 0x44, 0x0⟩, /- CHn_STAT -/
  ⟨0x11100C, 0x40, 64, 0x0, 1, 0x40000000, 0xFFFFFFFF, 0x0, 0x0, 0x0⟩, /- CHn_GAIN -/
  ⟨0x111010, 0x40, 64, 0x0, 1, 0x0, 0xFFFFFFFF, 0x0, 0x0, 0x0⟩, /- CHn_OFS -/
  ⟨0x111014, 0x40, 64, 0x0, 1, 0x19, 0x1, 0x3E, 0x0, 0x0⟩, /- CHn_DCB -/
  ⟨0x111018, 0x40, 64, 0x0, 1, 0x0, 0x0, 0x0, 0x0, 0x0⟩, /- CHn_DCBM -/
  ⟨0x11101C, 0x40, 64, 0x0, 1, 0x0, 0x0, 0x0, 0x0, 0x0⟩, /- CHn_OUT -/
  ⟨0x111020, 0x40, 64, 0x0, 1, 0x0, 0x0, 0x0, 0x0, 0x0⟩, /- CHn_STAMP -/
  ⟨0x111024, 0x40, 64, 0x0, 1, 0x0, 0x0, 0x0, 0x0, 0x0⟩, /- CHn_GDLY -/
  ⟨0x118000, 0x10, 32, 0x0, 1, 0x0, 0x7E, 0x0, 0x0, 0x0⟩, /- AOUTn_CFG -/
  ⟨0x118004, 0x10, 32, 0x0, 1, 0x0, 0xFFFF, 0x0, 0x0, 0x0⟩, /- AOUTn_DATA -/
  ⟨0x118008, 0x10, 32, 0x0, 1, 0x0, 0x0, 0x0, 0x50000, 0x0⟩, /- AOUTn_STAT -/
  ⟨0x119000, 0x20, 32, 0x0, 1, 0x0, 0x0, 0xFFF, 0x0, 0x0⟩, /- PINi_CFG -/
  ⟨0x119004, 0x20, 32, 0x0, 1, 0x7D00A, 0x0, 0x3FFFFFF, 0x0, 0x0⟩, /- PINi_GATE -/
  ⟨0x119008, 0x20, 32, 0x0, 1, 0x0, 0x0, 0x0, 0x0, 0x7⟩, /- PINi_CMD -/
  ⟨0x11900C, 0x20, 32, 0x0, 1, 0x0, 0x0, 0x0, 0x18, 0x0⟩, /- PINi_STAT -/
  ⟨0x119010, 0x20, 32, 0x0, 1, 0x0, 0x0, 0x0, 0x0, 0x0⟩, /- PINi_COUNT -/
  ⟨0x119014, 0x20, 32, 0x0, 1, 0x0, 0x0, 0x0, 0x0, 0x0⟩, /- PINi_FREQ -/
  ⟨0x119018, 0x20, 32, 0x0, 1, 0x0, 0xFFFFFFFF, 0x0, 0x0, 0x0⟩, /- PINi_PRESET -/
  ⟨0x11A000, 0x0, 1, 0x0, 1, 0x0, 0x0, 0x0, 0x0, 0x0⟩, /- DIN_RAW0 -/
  ⟨0x11A004, 0x0, 1, 0x0, 1, 0x0, 0x0, 0x0, 0x0, 0x0⟩, /- DIN_RAW1 -/
  ⟨0x11A008, 0x0, 1, 0x0, 1, 0x0, 0x0, 0x0, 0x0, 0x0⟩, /- DIN_FLT0 -/
  ⟨0x11A00C, 0x0, 1, 0x0, 1, 0x0, 0x0, 0x0, 0x0, 0x0⟩, /- DIN_FLT1 -/
  ⟨0x11A010, 0x0, 1, 0x0, 1, 0x0, 0xFFFFFFFF, 0x0, 0x0, 0x0⟩, /- DIN_EVEN0 -/
  ⟨0x11A014, 0x0, 1, 0x0, 1, 0x0, 0xFFFFFFFF, 0x0, 0x0, 0x0⟩, /- DIN_EVEN1 -/
  ⟨0x11A140, 0x0, 1, 0x0, 1, 0x0, 0x0, 0x0, 0x1, 0x0⟩, /- SWO_STAT -/
  ⟨0x11A040, 0x4, 16, 0x0, 1, 0x0, 0x0, 0x0, 0x0, 0x0⟩, /- DIN_FTk -/
  ⟨0x11A100, 0x4, 4, 0x0, 1, 0x0, 0x0, 0x0, 0x0, 0x0⟩, /- SWO_STATw -/
  ⟨0x11A110, 0x4, 4, 0x0, 1, 0x0, 0x0, 0x0, 0x0, 0xFFFFFFFF⟩, /- SWO_SETw -/
  ⟨0x11A120, 0x4, 4, 0x0, 1, 0x0, 0x0, 0x0, 0x0, 0xFFFFFFFF⟩, /- SWO_CLRw -/
  ⟨0x11A130, 0x4, 4, 0x0, 1, 0x0, 0x0, 0x0, 0x0, 0x0⟩, /- SWO_OWNw -/
  ⟨0x114000, 0x100, 64, 0x4, 64, 0x0, 0x0, 0xFFFFFFFF, 0x0, 0x0⟩ /- CHn_TAPj -/]

/-- Registers of block ETH. -/
def regRowsETH : List RegRow := [
  ⟨0x120000, 0x0, 1, 0x0, 1, 0x0, 0x0, 0x0, 0x0, 0x7⟩, /- ETH_CTRL -/
  ⟨0x120004, 0x0, 1, 0x0, 1, 0x0, 0x0, 0x0, 0x24, 0x0⟩, /- ETH_SLOTSTAT -/
  ⟨0x120008, 0x0, 1, 0x0, 1, 0x0, 0x0, 0x0, 0x0, 0x0⟩, /- ETH_PRPSTAT -/
  ⟨0x12000C, 0x0, 1, 0x0, 1, 0x0, 0x0, 0x0, 0x0, 0x0⟩, /- ETH_PRPCNT -/
  ⟨0x120010, 0x0, 1, 0x0, 1, 0x0, 0x0, 0x0, 0x0, 0x0⟩, /- ETH_E450CNT -/
  ⟨0x120014, 0x0, 1, 0x0, 1, 0x0, 0x0, 0x0, 0x0, 0x0⟩, /- ETH_OWNCNT -/
  ⟨0x120018, 0x0, 1, 0x0, 1, 0x0, 0xFFFF07FF, 0x0, 0x0, 0x800⟩, /- ETH_MDIO -/
  ⟨0x120100, 0x40, 3, 0x0, 1, 0x4, 0x8, 0x7, 0x0, 0x0⟩, /- ETHp_CFG -/
  ⟨0x120104, 0x40, 3, 0x0, 1, 0x0, 0x0, 0x0, 0x20, 0x0⟩, /- ETHp_STAT -/
  ⟨0x120108, 0x40, 3, 0x0, 1, 0x0, 0x0, 0x0, 0x0, 0x0⟩, /- ETHp_CNT0 -/
  ⟨0x12010C, 0x40, 3, 0x0, 1, 0x0, 0x0, 0x0, 0x0, 0x0⟩, /- ETHp_CNT1 -/
  ⟨0x121000, 0x4, 512, 0x0, 1, 0x0, 0xFFFFFFFF, 0x0, 0x0, 0x0⟩ /- ETH_SLOTBANKj -/]

/-- Registers of block CAN. -/
def regRowsCAN : List RegRow := [
  ⟨0x140000, 0x4000, 8, 0x0, 1, 0x0, 0x7, 0x38, 0x0, 0xC0⟩, /- CANn_CTRL -/
  ⟨0x140004, 0x4000, 8, 0x0, 1, 0x3, 0x0, 0x0, 0x8000, 0x0⟩, /- CANn_STAT -/
  ⟨0x140008, 0x4000, 8, 0x0, 1, 0x0, 0x0, 0x0, 0x0, 0x0⟩, /- CANn_ERRCNT -/
  ⟨0x14000C, 0x4000, 8, 0x0, 1, 0xF3CF81, 0x0, 0x3FFFFFF, 0x0, 0x0⟩, /- CANn_ARBTIM -/
  ⟨0x140010, 0x4000, 8, 0x0, 1, 0x18CA0, 0x0, 0xFFFFF, 0x0, 0x0⟩, /- CANn_FASTTIM -/
  ⟨0x140014, 0x4000, 8, 0x0, 1, 0xC, 0x0, 0xFFFF, 0x0, 0x0⟩, /- CANn_SSP -/
  ⟨0x140018, 0x4000, 8, 0x0, 1, 0x0, 0x0, 0x0, 0x1FFF, 0x0⟩, /- CANn_EVT -/
  ⟨0x14001C, 0x4000, 8, 0x0, 1, 0x0, 0x1FFF, 0x0, 0x0, 0x0⟩, /- CANn_EVTEN -/
  ⟨0x140040, 0x4000, 8, 0x0, 1, 0x0, 0x0, 0x0, 0x0, 0xFF⟩, /- CANn_TXCANCEL -/
  ⟨0x140044, 0x4000, 8, 0x0, 1, 0x0, 0x0, 0x0, 0x0, 0x0⟩, /- CANn_CANCSTAT -/
  ⟨0x140048, 0x4000, 8, 0x0, 1, 0x0, 0x0, 0xFFFFFFF, 0x0, 0x0⟩, /- CANn_FLTCFG -/
  ⟨0x140050, 0x4000, 8, 0x0, 1, 0x10020, 0x0, 0x7FFFFFFF, 0x0, 0x0⟩, /- CANn_TTCFG -/
  ⟨0x140054, 0x4000, 8, 0x0, 1, 0x0, 0x0, 0x0, 0x100, 0x0⟩, /- CANn_TTSTAT -/
  ⟨0x140058, 0x4000, 8, 0x0, 1, 0x0, 0x0, 0x0, 0x0, 0x1⟩, /- CANn_TTSWAP -/
  ⟨0x140060, 0x4000, 8, 0x0, 1, 0x0, 0x0, 0x0, 0x0, 0x0⟩, /- CANn_CNT0 -/
  ⟨0x140064, 0x4000, 8, 0x0, 1, 0x0, 0x0, 0x0, 0x0, 0x0⟩, /- CANn_CNT1 -/
  ⟨0x140068, 0x4000, 8, 0x0, 1, 0x0, 0x0, 0x0, 0x0, 0x0⟩, /- CANn_CNT2 -/
  ⟨0x140070, 0x4000, 8, 0x0, 1, 0x0, 0xFF, 0x0, 0x0, 0x0⟩, /- CANn_OBJSEL -/
  ⟨0x140074, 0x4000, 8, 0x0, 1, 0x0, 0x0, 0x0, 0x40, 0x0⟩, /- CANn_OBJSTAT -/
  ⟨0x140020, 0x4000, 8, 0x8, 4, 0x0, 0x0, 0xFFFFFFFF, 0x0, 0x0⟩, /- CANn_PSLOTk_ID -/
  ⟨0x140024, 0x4000, 8, 0x8, 4, 0x0, 0x0, 0x1FFFFFFF, 0x20000000, 0x0⟩, /- CANn_PSLOTk_MASK -/
  ⟨0x140080, 0x4000, 8, 0x4, 8, 0x0, 0xFFFFFFFF, 0x0, 0x0, 0x0⟩, /- CANn_OBJENw -/
  ⟨0x143000, 0x4000, 8, 0x10, 256, 0x0, 0x0, 0xFFFFFFFF, 0x0, 0x0⟩, /- CANn_OBJCFG -/
  ⟨0x143004, 0x4000, 8, 0x10, 256, 0x0, 0x0, 0xFFFF01FF, 0x0, 0x0⟩, /- CANn_OBJFMT -/
  ⟨0x143008, 0x4000, 8, 0x10, 256, 0x0, 0x0, 0xFFFFFFFF, 0x0, 0x0⟩, /- CANn_OBJHDL -/
  ⟨0x140400, 0x4000, 8, 0x4, 128, 0x0, 0x0, 0x0, 0x0, 0x0⟩, /- CANn_SLOTBUFj -/
  ⟨0x140600, 0x4000, 8, 0x4, 20, 0x0, 0x0, 0x0, 0x0, 0x0⟩, /- CANn_OBJRECj -/
  ⟨0x141000, 0x4000, 8, 0x4, 512, 0x0, 0x0, 0xFFFFFFFF, 0x0, 0x0⟩, /- CANn_STDFLTj -/
  ⟨0x141800, 0x4000, 8, 0x4, 768, 0x0, 0x0, 0xFFFFFFFF, 0x0, 0x0⟩, /- CANn_EXTFLTj -/
  ⟨0x142800, 0x4000, 8, 0x4, 256, 0x0, 0xFFFFFFFF, 0x0, 0x0, 0x0⟩ /- CANn_SCHEDj -/]

/-- Registers of block CLU. -/
def regRowsCLU : List RegRow := [
  ⟨0x0, 0x0, 1, 0x0, 1, 0x0, 0x0, 0x0, 0x0, 0x0⟩, /- CLU_UNITSTAT -/
  ⟨0x10, 0x0, 1, 0x0, 1, 0x7, 0x0, 0x3F, 0x100, 0x0⟩, /- CLU_DISP -/
  ⟨0x14, 0x0, 1, 0x0, 1, 0x0, 0x0, 0x0, 0x0, 0x0⟩, /- CLU_SATCNT -/
  ⟨0x18, 0x0, 1, 0x0, 1, 0x0, 0x0, 0x0, 0x0, 0x0⟩, /- CLU_LASTSAT -/
  ⟨0x20, 0x0, 1, 0x0, 1, 0x0, 0x0, 0x0, 0x0, 0x0⟩, /- CLU_RERUN -/
  ⟨0x100, 0x10, 8, 0x0, 1, 0x88888888, 0xFFFFFFFF, 0x0, 0x0, 0x0⟩, /- BANKARB_PRIOA -/
  ⟨0x104, 0x10, 8, 0x0, 1, 0xAC, 0xFF, 0x0, 0x0, 0x0⟩, /- BANKARB_PRIOB -/
  ⟨0x108, 0x10, 8, 0x0, 1, 0xF07, 0x0, 0xFF3F, 0x0, 0x0⟩, /- BANKARB_CTRL -/
  ⟨0x10C, 0x10, 8, 0x0, 1, 0xF, 0x0, 0x0, 0x1000000, 0x0⟩ /- BANKARB_STAT -/]

/-- Registers of block RGN. -/
def regRowsRGN : List RegRow := [
  ⟨0x0, 0x0, 1, 0x0, 1, 0xC98888, 0xFFFFFF, 0x0, 0x0, 0x0⟩, /- EGRARB_PRIO -/
  ⟨0x4, 0x0, 1, 0x0, 1, 0xF07, 0x0, 0xFF3F, 0x0, 0x0⟩, /- EGRARB_CTRL -/
  ⟨0x8, 0x0, 1, 0x0, 1, 0xF, 0x0, 0x0, 0x10000, 0x0⟩, /- EGRARB_STAT -/
  ⟨0x10, 0x0, 1, 0x0, 1, 0x0, 0x0, 0x0, 0x0, 0x0⟩, /- RGN_WAITABORT -/
  ⟨0x14, 0x0, 1, 0x0, 1, 0x0, 0x0, 0x0, 0x0, 0x0⟩, /- RGN_ECCCNT -/
  ⟨0x20, 0x0, 1, 0x0, 1, 0x0, 0x0, 0x0, 0x0, 0x0⟩, /- RGN_PLACE -/
  ⟨0x24, 0x0, 1, 0x0, 1, 0x0, 0x0, 0x0, 0x0, 0x0⟩, /- RGN_EGRDUP -/
  ⟨0x4000, 0x4, 4096, 0x0, 1, 0x60, 0x0, 0x0, 0x0, 0x0⟩ /- RGN_PMAPt -/]

end Sys2Proof.Machine
end

