-- ==== Sys2Proof/Machine/State.lean ====
section
/-!
DEFINITION. Sys2Proof/Machine/State.lean: the state of the part as plain data, the state right after reset, and the reasons
a step can stop.  Every register of the spec lies in the one register file `regs`, at its absolute address, as its value
XOR its reset value, so that an unlisted address reads as its reset value.  State that the spec gives the part outside
its registers stands in one structure per block.
-/
namespace Sys2Proof.Machine

/-- What the always-on domain keeps beside its registers (R412, R415, R475). -/
structure AonSt where
  /-- VDD_AON has come up since the latest reset release. -/
  powerUp : Bool := true
  /-- A power-on reset has occurred since the latest reset release. -/
  por : Bool := true
  /-- PWRCYC_REQ_N was released and no power-on reset has followed within 1 s yet. -/
  pwrcycWait : Bool := false
deriving DecidableEq, Repr

/-- Reset (R412): whether the part is held in reset, and whether RESET_N was the cause. -/
structure RstSt where
  inReset : Bool := true
  resetN : Bool := true
deriving DecidableEq, Repr

/-- The clock monitor and the peripheral gates (R401 to R411). -/
structure ClkSt where
  refEnabled : Bool := false
  xtalEnabled : Bool := false
  refMet : Bool := false
  xtalMet : Bool := false
  refTripped : Bool := false
  xtalTripped : Bool := false
  /-- The start method read from the image headers: the DELAY time in 0.1 ms units, or COUNT. -/
  oscDelay : Option Nat := none
  /-- Gates whose close is deferred, by gate register. -/
  deferred0 : Word := 0
  deferred1 : Word := 0
deriving DecidableEq, Repr

/-- One PTP instance (R363, R364, R366). -/
structure PtpInst where
  /-- The best foreign master heard, if any. -/
  parent : Option PtpDataset := none
  /-- The grandmaster, origin time and ingress stamp of the latest complete Sync. -/
  sync : Option (Dword × Int × Int) := none
  /-- A two-step Sync that awaits its Follow_Up: master, sequence, ingress stamp. -/
  twoStep : Option (Dword × BitVec 16 × Int) := none
  /-- The latest Delay_Req sent: sequence and egress stamp. -/
  delayReq : Option (BitVec 16 × Int) := none
  /-- The mean path delay, once measured. -/
  mpd : Option Int := none
  seq : BitVec 16 := 0
  /-- A Sync arrived within the latest two Sync intervals. -/
  syncing : Bool := false
deriving DecidableEq, Repr

/-- The time base (R353 to R372). -/
structure TbSt where
  /-- The 24-bit fraction below TB_NS. -/
  frac : Nat := 0
  /-- ns counted towards the next unit of operating time (R475). -/
  optNs : Nat := 0
  /-- A step S that waits for the next frame start (R357). -/
  step : Option Int := none
  /-- That frame start has come: the step is applied within 1 µs. -/
  stepDue : Bool := false
  /-- d, the relative rate against the master (R359). -/
  d : Rat := 0
  /-- The latest accepted offset, and the extended time at which it was measured. -/
  lastO : Option (Int × Nat) := none
  /-- Consecutive measurements within LOCK_THR. -/
  lockRun : Nat := 0
  /-- The grandmaster that the servo last followed. -/
  followed : Option Dword := none
  /-- The grandmaster being refused (R361). -/
  refused : Option Dword := none
  /-- PTP messages that wait for a port: port, kind (0 Sync, 1 Announce, 2 Delay_Req, 3 Delay_Resp), sequence, stamp. -/
  out : List (Nat × Nat × BitVec 16 × Int) := []
  ports : List PtpInst := [{}, {}, {}]
  /-- The FIFO of each capture unit, oldest first (R370), by unit. -/
  fifos : Cells (List Word) := []
  /-- The latest stamp that each capture unit gave its internal consumer, extended. -/
  capLast : Cells Nat := []
  /-- TRIG_OUT outputs at their active level, and those whose active level is low. -/
  trigActive : BitVec 8 := 0
  trigPol : BitVec 8 := 0
deriving DecidableEq, Repr

/-- The request that a PENDING command came from (R453). -/
structure ReqRef where
  path : Path
  ip : Word
  port : BitVec 16
  session : Word
  tseq : Word
  op : Nat
deriving DecidableEq, Repr

/-- A message that the part sends (Table 18-1). -/
structure Msg where
  path : Path
  ip : Word
  port : BitVec 16
  ttype : Nat
  status : Nat
  session : Word
  tseq : Word
  erridx : Nat
  detail : Nat
  body : List Byte
deriving DecidableEq, Repr

/-- One event as its source raised it (R253, Table 19-3). -/
structure Event where
  code : Nat
  source : Word
  data : List Byte
deriving DecidableEq, Repr

/-- One record of the recorder (Table 19-1), and whether its first program has verified (R473). -/
structure Record where
  optime : Word
  pcycle : Word
  code : Nat
  held : Bool
  source : Word
  rnum : Word
  data : List Byte
  tbns : Word
deriving DecidableEq, Repr

/-- The event port and the recorder (R253, R470 to R480). -/
structure RecSt where
  /-- Events that the event port has accepted and not yet committed, oldest first. -/
  port : List Event := []
  hold : List Record := []
  queue0 : List Record := []
  queue1 : List Record := []
  /-- Bytes 0 to 59 of the record at the head of the queue have verified; MARK is next. -/
  body0 : Bool := false
  body1 : Bool := false
  /-- The sector being erased ahead, if any. -/
  erase0 : Option Nat := none
  erase1 : Option Nat := none
  /-- Events dropped from the full holding buffer: their count and the first RNUM. -/
  lost : Option (Nat × Word) := none
  /-- The REC_FREEZE that awaits its RESULT. -/
  freezeReq : Option ReqRef := none
deriving DecidableEq, Repr

/-- A management session (R447). -/
structure Session where
  id : Word
  lastTseq : Option Word := none
  stored : Option Msg := none
  /-- The expert unlock is open for this session (R490). -/
  expert : Bool := false
  /-- TSEQ 0xFFFF_FFFF has been answered; the session ends 1 s later. -/
  final : Bool := false
deriving DecidableEq, Repr

/-- A subscription (R456, R457). -/
structure Subscription where
  id : Nat
  session : Word
  path : Path
  ip : Word
  port : BitVec 16
  /-- CHANNEL subscriptions carry a handle, EVENTS subscriptions a class mask. -/
  events : Bool
  select : Word
  div : Nat
  /-- Outputs seen since the last delivered one. -/
  phase : Nat := 0
  seq : BitVec 16 := 0
  items : List (List Byte) := []
deriving DecidableEq, Repr

/-- The one arm that the part holds (R466, R468). -/
structure Arm where
  /-- 1 DEV_RESET, 2 PWRCYC first token, 3 PWRCYC second token: MGT_STAT.ARM. -/
  kind : Nat
  session : Word
  token : Word
deriving DecidableEq, Repr

/-- A FUNC_REINIT under way (R463). -/
structure Reinit where
  func : Nat
  arg : Word
  req : ReqRef
deriving DecidableEq, Repr

/-- The management block (R444 to R469). -/
structure MgtSt where
  /-- Open sessions, the least recently used first. -/
  sessions : List Session := []
  subs : List Subscription := []
  arm : Option Arm := none
  /-- Messages waiting on each path, oldest first. -/
  outLan : List Msg := []
  outMgmt : List Msg := []
  outSpi : List Msg := []
  /-- The bytes that the latest SPI transfer shifted out. -/
  shifted : List Byte := []
  reinits : List Reinit := []
  /-- DEV_RESET has been confirmed; device reset follows 2 ms after the RESPONSE. -/
  resetDue : Bool := false
deriving DecidableEq, Repr

/-- A program or erase of an NVM bank under way (R423, R453): the bank, the address, and the bytes to program, or none for
the erase of a 64 KiB sector. -/
structure NvmOp where
  bank : Nat
  addr : Nat
  data : Option (List Byte)
  req : ReqRef
deriving DecidableEq, Repr

/-- The image block (R433 to R443). -/
structure ImgSt where
  /-- The banks that a VERIFY is reading. -/
  verifying : List Nat := []
  nvmOps : List NvmOp := []
  /-- The region being reloaded, and the step of Table 17-8 that comes next. -/
  reload : Option (Nat × Nat) := none
  /-- Adoption: the adopting bank, and the orders of Table 17-9 and instances still to adopt, first first. -/
  adopting : Option (Nat × List (Nat × Nat)) := none
  /-- The reload under way is a step of the adoption. -/
  reloadAdopts : Bool := false
deriving DecidableEq, Repr
/-- Table 9-4: the class of a channel, which says when its slots open and close. -/
inductive ChanClass | timed | frame | period | umber
deriving DecidableEq, Repr

/-- CH_QUERY's state of a channel (Table 18-3). -/
inductive ChanState | absent | pending | live | closing
deriving DecidableEq, Repr

/-- One output or marker of a channel slot (R246): the tag, and for a marker its REASON, RERUNS and TASK. -/
structure OutItem where
  handle : Word
  seq : Nat
  epoch : Nat
  frame : Nat
  /-- none: DATA; some (REASON, RERUNS, TASK): FRAME_SKIPPED -/
  marker : Option (Nat × Nat × Nat)
  payload : List Byte
deriving DecidableEq, Repr

/-- A channel and its Umber channel port (R245 to R252, R458 to R462). -/
structure Chan where
  typ : Nat
  index : Nat
  gen : Nat := 1
  state : ChanState := .live
  cls : ChanClass := .umber
  /-- The task whose EMIT feeds the channel, if any. -/
  task : Option Nat := none
  seq : Nat := 0
  epoch : Nat := 0
  /-- The frame of the open slot, if a slot is open. -/
  slot : Option Nat := none
  /-- FRAME and CRC-16 of the last slot filled with an output. -/
  last : Option (Nat × Nat) := none
  dup : Nat := 0
  skipped : Nat := 0
  late : Nat := 0
  differ : Nat := 0
  /-- The cause of Table 9-6 that keeps the open slot empty, with RERUNS; 0 for none. -/
  reason : Nat := 0
  reruns : Nat := 0
  /-- A TIMED output that waits for the emission time. -/
  staged : Option OutItem := none
  /-- The CH_CREATE or CH_DESTROY that awaits its RESULT. -/
  req : Option ReqRef := none
  /-- A destruction has taken effect, and the channel ends once its last marker has left (R252). -/
  ending : Bool := false
  /-- Type 0x9 and 0xB: the body of the create request (R461). -/
  body : List Byte := []
  /-- Created before: the next creation takes the next generation. -/
  used : Bool := true
deriving DecidableEq, Repr

/-- An output on its way from a region egress to its Umber channel port (R247). -/
structure FabOut where
  region : Nat
  handle : Word
  frame : Nat
  task : Nat
  /-- CRC-16 of the output; the RERUN bit of its status word is left out of it (log entry 30). -/
  crc : Nat
  payload : List Byte
deriving DecidableEq, Repr

/-- Where an instance of a task stands between its release and its completion (R65, R66, R233, R234). -/
inductive Phase
  /-- waiting for completion tokens -/
  | waiting
  /-- ready, not yet dispatched -/
  | ready
  /-- to be re-run, waiting for a free unit of its placement -/
  | rerun
  /-- waiting for a called spare to end its wake test -/
  | wake
  /-- dispatched; the pip copies are not yet valid -/
  | copying
  /-- a re-run whose pip is being loaded -/
  | loading
  | running
deriving DecidableEq, Repr

/-- An instance of a task (R65 to R68, R232 to R237). -/
structure TaskInst where
  task : Nat
  /-- The frame count, or the period count of a PERIOD task. -/
  number : Nat
  /-- The frame or period start, extended time base. -/
  start : Nat
  phase : Phase := .waiting
  /-- Completion tokens counted, by cluster (R237). -/
  tokens : Cells Nat := []
  /-- SAT, REG and DOMAIN gathered from tokens (R76). -/
  flags : Nat := 0
  unit : Nat := 0
  /-- The cluster that dispatched the present run. -/
  cluster : Nat := 0
  op : Nat := 0
  /-- The DOT accumulator that a CHAIN carries, with its fraction count (R73). -/
  acc : Option (Int × Nat) := none
  status : Word := 0
  reruns : Nat := 0
  aborts : Nat := 0
  dispT : Word := 0
deriving DecidableEq, Repr

/-- A completion token in transit (R68, R76). -/
structure Token where
  cluster : Nat
  task : Nat
  number : Nat
  flags : Nat
  start : Nat
deriving DecidableEq, Repr

/-- What an arbiter keeps beside its status register (R50 to R53): lost counts by requester index, grants counted. -/
structure ArbSt where
  lost : Cells Nat := []
  grants : Nat := 0
deriving DecidableEq, Repr

/-- The Ochre dies beside their registers and memories. -/
structure FabSt where
  /-- The current placement of each task, as cluster number + 1; 0 while it has none (R236). -/
  place : Cells Nat := []
  insts : List TaskInst := []
  tokens : List Token := []
  outs : List FabOut := []
  /-- FRAME and CRC-16 of the last output that each region egress forwarded, by region and handle (R247). -/
  egress : List (Nat × Word × Nat × Nat) := []
  /-- Deadline-class completion tokens on their way to the slack monitor: task and deadline (R47). -/
  slack : List (Nat × Int) := []
  /-- Slack events already raised in this frame: LOW_F, LOW_P, MISS_F, MISS_P. -/
  slackRaised : BitVec 4 := 0
  /-- Arbiters, by the address of their status register. -/
  arb : Cells ArbSt := []
  /-- Dispatch decisions of each cluster (R67). -/
  decisions : Cells Nat := []
  /-- Tasks whose lack of a placement has been reported (R249). -/
  noPlace : List Nat := []
  /-- Markers of REASON 1 to 6, by the frame of their tag (R249). -/
  conflicts : Cells Nat := []
  /-- Instances of the latest frames and periods that have completed or were abandoned: task and number.  A token for one of
  them is dropped (R235, R237). -/
  closed : List (Nat × Nat) := []
  /-- Wait aborts of each task in the present frame (R60). -/
  aborts : Cells Nat := []
deriving DecidableEq, Repr

/-- The control frame and the MPC period (R26, R28, R368). -/
structure FrameSt where
  /-- Frames have started since reset; the first frame has count 0. -/
  started : Bool := false
  count : Nat := 0
  start : Nat := 0
  period : Nat := 0
  periodStart : Nat := 0
  /-- The emission of the present frame has taken place. -/
  emitted : Bool := false
deriving DecidableEq, Repr
/-- A sample as it arrived (R83 to R86): its arrival stamp, whether that stamp is its own (an analogue chain or a pulse input),
its own time if own-clock, its stamp if it carries one (PTP or PPS), quality and values. -/
structure RawSample where
  arrival : Int
  direct : Bool := false
  own : Option Int
  stamped : Option Int
  qual : Nat
  vals : List Int
deriving DecidableEq, Repr

/-- A stamped sample (R83). -/
structure Sample where
  stamp : Int
  qual : Nat
  vals : List Int
deriving DecidableEq, Repr

/-- A source of fusion, or a target (R86 to R108). -/
structure SrcSt where
  /-- NONE 0, ACCEPTED 1, REJECTED 3, QUARANTINED 4 (Table 4-11). -/
  st : Nat := 0
  reason : Nat := 0
  /-- The reason of the rejection that a quarantine interrupts (R87, R108). -/
  under : Option Nat := none
  /-- The state that the next publication shows, with AGED and OUTLIER. -/
  pub : Nat := 0
  weight : Nat := 0
  clean : Nat := 0
  resid : Int := 0
  drift : Rat := 0
  off : Option Rat := none
  anchor : Int := 0
  reseed : Bool := false
  inbox : List RawSample := []
  prev : Option Sample := none
  applied : Option Int := none
  stamps : List Int := []
  raw : List Int := []
  /-- The arrival stamp of the first of the latest run of equal raw values, and of the last (R105). -/
  sameFrom : Option (Int × Int) := none
  gateRun : Nat := 0
  /-- The latest GATE failure was a saturation (R106). -/
  gateSat : Bool := false
  /-- Innovations of the last 60 s: extended time, N and E, mm (R105, R107). -/
  innov : List (Nat × Rat × Rat) := []
  outRun : Nat := 0
  /-- The conditions of R108 hold, and the extended time since when they have. -/
  ok : Bool := false
  okAt : Nat := 0
  /-- Its present variance (R107), and its value at the latest epoch to which it contributed. -/
  var : Rat := 1
  val : List Rat := []
  /-- The fixed point of a relative reference, once set, mm (R82). -/
  fixed : Option (Rat × Rat) := none
  /-- The bias is at a bound and no new initial bias has been given (R113). -/
  biasHeld : Bool := false
deriving DecidableEq, Repr

/-- A fusion epoch (Table 4-9), with the wind force and voted motion that its consumers use. -/
structure Epoch where
  t : Nat
  n : Int
  e : Int
  psi : Int
  u : Int
  v : Int
  rate : Int
  bn : Int
  be : Int
  bpsi : Int
  sigPos : Nat
  sigPsi : Nat
  sigVel : Nat
  refMask : Nat
  status : Nat
  wfN : Int
  wfE : Int
  originGen : Nat
  wind : Int × Int × Int
  /-- By MRU group: voted roll, pitch (2⁻³² turn), heave (mm) and heave rate (mm/s). -/
  motion : List (Nat × Rat × Rat × Rat × Rat)
deriving DecidableEq, Repr

/-- An entry of the history window (R93): an epoch's instant, the observer's state and covariance then, and the transition from
there to the latest epoch. -/
structure HistEntry where
  t : Nat
  x : List Rat
  cov : List (Cells Rat)
  phi : List (Cells Rat)
  /-- Voted roll and pitch by MRU group, 2⁻³² turn. -/
  rp : List (Nat × Rat × Rat)
deriving DecidableEq, Repr

/-- Fusion (R82 to R119). -/
structure FusSt where
  /-- By slot; slots 28 to 31 are the targets. -/
  src : Cells SrcSt := []
  late : List (Nat × Sample) := []
  /-- ACQUIRE 0, SETTLED 1, HOLDOVER 2. -/
  est : Nat := 0
  settleOk : Bool := false
  origin : Option (Int × Int) := none
  originGen : Nat := 0
  /-- Calibration values, µm or 10⁻⁶°. -/
  cal : List Rat := []
  hostFreeze : Bool := false
  /-- The observer's state (Table 4-5, m, rad, N; the fifteen states, then the calibration states) and covariance; empty
  before the first epoch. -/
  obs : List Rat := []
  cov : List (Cells Rat) := []
  /-- The history window, oldest first. -/
  hist : List HistEntry := []
  hdgDis : Bool := false
  motDis : Bool := false
  windDis : Bool := false
  windAgree : Bool := false
  windScale : Rat := 1
  /-- The epoch formed at intake close, which waits for publication, with REG, SAT and DOMAIN of its tasks (R118); its fusion
  deadline has passed (R95). -/
  next : Option Epoch := none
  nextFlags : Bool × Bool × Bool := (false, false, false)
  nextLate : Bool := false
  /-- The latest published epoch. -/
  epoch : Option Epoch := none
  /-- Sentences of a bad checksum, by serial port (R89). -/
  uartErr : Cells Nat := []
  /-- Epoch k has been published in this frame; the fusion deadline of this frame has passed without it. -/
  published : Bool := false
  deadline : Bool := false
deriving DecidableEq, Repr
/-- A plan record (Table 5-3). -/
structure Plan where
  t : Nat
  period : Nat
  mode : Nat
  flags : Nat
  iter : Nat
  psi0 : Int
  resid : Nat
  windX : Int
  windY : Int
  steps : List (Int × Int × Int)
  /-- The line force assumed (R129), which the record does not carry. -/
  lineX : Int := 0
  lineY : Int := 0
  /-- The mode changes that had been made when its set-points and weights were taken (R131). -/
  stay : Nat := 0
deriving DecidableEq, Repr

/-- What the MPC of a period froze (R171): heading, wind force, line force, SAT and DOMAIN of its epoch. -/
structure MpcData where
  psi0 : Int := 0
  windX : Int := 0
  windY : Int := 0
  lineX : Int := 0
  lineY : Int := 0
  sat : Bool := false
  domain : Bool := false
deriving DecidableEq, Repr

/-- A set-point command that waits for the frame start (R134). -/
structure SpReq where
  axes : Nat
  rel : Bool
  n : Int
  e : Int
  psi : Int
  speed : Int
  req : Option ReqRef
deriving DecidableEq, Repr

/-- A lever command (Table 13-5): thrust 2⁻¹⁵ of T_i, azimuth 2⁻¹⁶ turn, drive 0.01 %. -/
structure Lever where
  thrust : Int
  az : Nat
  drive : Int
deriving DecidableEq, Repr

/-- Position and heading control (R120 to R148). -/
structure CtlSt where
  /-- The mode commands that wait for the frame start, oldest first, and where their RESULTs go. -/
  modeReq : List (Nat × Option ReqRef) := []
  spReq : List SpReq := []
  tgtOffReq : List ((Int × Int × Int) × Option ReqRef) := []
  swapReq : List (Option ReqRef) := []
  originReq : List ((Int × Int) × Option ReqRef) := []
  calReq : List ((Nat × Nat × Nat × Int) × Option ReqRef) := []
  freezeReq : List (Bool × Option ReqRef) := []
  compReq : List (Bool × Option ReqRef) := []
  tgtOff : Int × Int × Int := (0, 0, 0)
  track0 : List Waypoint := []
  track1 : List Waypoint := []
  trackBank : Nat := 0
  trackLeg : Nat := 0
  trackEnd : Bool := false
  /-- AUTO_TRACK: distance along the leg and speed along it, and off the leg and speed toward it, mm and mm/s. -/
  along : Rat × Rat := (0, 0)
  cross : Rat × Rat := (0, 0)
  /-- Set-points N, E (mm), ψ (2⁻³² turn), speed (µm/s), and the axes (bits 0 to 3) that entry is to take from the entry
  epoch. -/
  sp : Int × Int × Int × Int := (0, 0, 0, 0)
  spEntry : Nat := 0
  /-- Axes whose reference starts at the entry epoch: an entry awaits its epoch. -/
  refEntry : Bool := false
  /-- Reference models: position and velocity of N, E, ψ. -/
  refPos : Rat × Rat × Rat := (0, 0, 0)
  refVel : Rat × Rat × Rat := (0, 0, 0)
  /-- The plan in use, the plan published in this period, and the one adopted at the next frame start. -/
  plan : Option Plan := none
  planNew : Option Plan := none
  planDue : Option Plan := none
  /-- The period that runs, its plan not yet past its deadline; its epoch and the set of the mode. -/
  periodOn : Bool := false
  periodT : Nat := 0
  periodMode : Nat := 0
  periodData : MpcData := {}
  /-- Mode changes since reset, and their count when the period's solve, and the shadow or mode plan due, was formed (R131). -/
  stays : Nat := 0
  periodStay : Nat := 0
  planMiss : Bool := false
  /-- The force box of the period (R123): surge and sway in N, yaw in N·m; formed at its start. -/
  box : Rat × Rat × Rat := (0, 0, 0)
  /-- The compensation set-points last formed (R146). -/
  compLast : List Int := []
  shadow : Bool := false
  holdForces : Bool := false
  demand : Int × Int × Int := (0, 0, 0)
  forceLimited : Bool := false
  fusionAge : Bool := false
  pms : Option (List Nat) := none
  pmsLost : Bool := false
  joy : Option (Int × Int × Int) := none
  levers : Cells (Option Lever) := []
  /-- The extended time of the latest joystick and lever samples; the source in use lost; ramping since an extended time. -/
  joyAt : Option Nat := none
  levAt : Option Nat := none
  srcLost : Bool := false
  rampFrom : Option Nat := none
  tgtLost : Bool := false
  compFlag : Bool := false
  compHold : Bool := false
  /-- The compensation set-points ramp to park since an extended time. -/
  compExit : Option Nat := none
  lineLost : Bool := false
  dpDropped : Bool := false
  planExpired : Bool := false
  planOld : Bool := false
deriving DecidableEq, Repr
/-- An iterate kept or published by an instance (R165, R167): its index, merit, RESID, residuals in 2⁻¹⁶ units, projected
variables in solver units, and whether its factor was old. -/
structure Iterate where
  index : Nat
  merit : Rat
  resid : Nat
  rp : Nat
  rd : Nat
  x : List Rat
  reg : Bool
  sat : Bool
  domain : Bool
  factOld : Bool
  /-- The unprojected state (x, z, y) and the multipliers of the barrier method. -/
  raw : List Rat
  z : List Rat
  y : List Rat
deriving DecidableEq, Repr

/-- A factor of LDLᵀ (R155): by elimination step the index, the column of L by index, and the pivot in use; the count of
replaced pivots in its header; and whether a task of it saturated. -/
structure Factor where
  steps : List (Nat × Cells Rat × Rat)
  replaced : Nat
  saturated : Bool
deriving DecidableEq, Repr

/-- A quadratic programme in solver units (R149, R152): minimise ½ xᵀPx + qᵀx with rows l ≤ Ax ≤ u, a bound of none being no
bound, and the identity rows of the bounded variables. -/
structure Qp where
  n : Nat := 0
  p : List (Cells Rat) := []
  q : Cells Rat := []
  rows : List (Cells Rat × Option Rat × Option Rat) := []
  box : List (Nat × Rat × Rat) := []
  /-- The scale of each variable: the physical value of one solver unit. -/
  scale : List Rat := []
deriving DecidableEq, Repr

/-- A solver instance (R155 to R173). -/
structure Inst where
  /-- The two factor slots, and the slot pointer. -/
  slot0 : Option Factor := none
  slot1 : Option Factor := none
  slot : Bool := false
  /-- The matrix that a running refresh factorises. -/
  refresh : Option (List (Cells Rat)) := none
  /-- An accepted factor in the other slot waits for the iteration boundary. -/
  ready : Bool := false
  /-- A trigger came while a refresh was running, and the matrix it asks for. -/
  again : Option (List (Cells Rat)) := none
  /-- A refresh is due at the next solve. -/
  need : Bool := false
  /-- The matrix of the latest refresh that was not rejected or abandoned. -/
  mat : List (Cells Rat) := []
  solving : Bool := false
  start : Nat := 2
  iter : Nat := 0
  /-- The problem of the solve, frozen when it was formed (R171), and the demand. -/
  qp : Qp := {}
  dem : Rat × Rat × Rat := (0, 0, 0)
  /-- SAT and DOMAIN of the problem's data. -/
  dataFlags : Bool × Bool := (false, false)
  /-- The start point of R172; the state (x, z, y) of the latest iteration; the barrier method's multipliers of lower and upper
  bounds, and μ. -/
  x0 : List Rat := []
  x : List Rat := []
  z : List Rat := []
  y : List Rat := []
  lamL : List Rat := []
  lamU : List Rat := []
  mu : Rat := 0
  best : Option Iterate := none
  /-- The two published buffers and their current pointer (R167). -/
  pub0 : Option Iterate := none
  pub1 : Option Iterate := none
  pub : Bool := false
  badRun : Nat := 0
  restarts : Nat := 0
  inelSeen : Bool := false
  abandoned : Bool := false
  rejected : Bool := false
  boxConf : Bool := false
  /-- PRIMAL_WARM or COLD applies to the next start (R172). -/
  cold : Bool := true
  primal : Bool := false
deriving DecidableEq, Repr

/-- A thruster (R182 to R194). -/
structure ThrSt where
  win : Rat × Rat := (0, 0)
  /-- The window's edges that are forbidden-sector edges. -/
  forbLo : Bool := false
  forbHi : Bool := false
  eta : Rat := 1
  theta : Rat := 0
  noFb : Bool := false
  inForb : Bool := false
  winChanged : Bool := false
  /-- Reasons of Table 7-3 that hold, bit r for reason r; those whose own condition has cleared. -/
  reasons : BitVec 8 := 0
  cleared : BitVec 8 := 0
  /-- ALC_ENABLE has been written 1 since the cause arose. -/
  enabled : Bool := false
  /-- In the present frame's problem. -/
  present : Bool := false
  /-- The published delivered force variables. -/
  vars : List Rat := []
  thrust : Int := 0
  az : Nat := 0
  drive : Int := 0
  azHold : Bool := false
  clipped : Bool := false
  domain : Bool := false
  /-- The latest feedback: thrust, azimuth, STATUS; none after a timeout; and the extended time of its arrival. -/
  fb : Option (Int × Nat × Byte) := none
  fbAt : Option Nat := none
deriving DecidableEq, Repr

/-- Allocation and consequence analysis (R177 to R204). -/
structure AlcSt where
  thr : Cells ThrSt := []
  /-- Drive feedback payloads received and not yet used, oldest first (R328, R330). -/
  inbox : List (Nat × List Byte) := []
  /-- Slacks of the latest publication, and its flags and solver words. -/
  slack : Int × Int × Int := (0, 0, 0)
  demand : Int × Int × Int := (0, 0, 0)
  published : Bool := false
  stale : Bool := false
  /-- The allocation record of the latest frame (Tables 7-4 and 7-5). -/
  record : List Byte := []
  fleetMask : Nat := 0
  /-- The next group to be released, and groups whose solve is under way. -/
  nextGroup : Nat := 0
  running : List Nat := []
  tau : Rat × Rat × Rat := (0, 0, 0)
  /-- s_j and P_avail by section, formed at the frame start (R123, R190). -/
  sj : List Rat := []
  pAvail : List Rat := []
  /-- Thrust and azimuth emitted to each thruster in the latest frame with an emission, and in the one before (R101). -/
  sent1 : List (Int × Nat) := []
  sent2 : List (Int × Nat) := []
  /-- When each group's result was published, as extended time + 1 (R204: AGE). -/
  cqAt : Cells Nat := []
deriving DecidableEq, Repr
/-- A servo loop beside its registers (R206 to R225). -/
structure LoopSt where
  /-- AUTO_CLOSE keeps trying; a commanded close is pending; an open command is pending. -/
  auto : Bool := false
  cmdClose : Bool := false
  openReq : Bool := false
  /-- Register values of a mode overlay that waits for the next boundary (R222). -/
  overlay : Option (List (Nat × Word)) := none
  /-- A fault is latched (R223), by its cause; 0 for none. -/
  latched : Nat := 0
  /-- Boundaries since the output last went on, and off; the latter stops at its maximum (R212). -/
  on : Nat := 0
  off : Nat := 65535
  oOn : Nat := 0
  oOff : Nat := 255
  /-- Inner boundaries since the close (R206). -/
  bnd : Nat := 0
  /-- The SPSRC word in use since the latest boundary (R216), and the value of the ALLOC binding. -/
  src : Word := 0
  alloc : Option Int := none
  /-- Outputs of the feedback sources seen, and boundaries since each had a new one (R208). -/
  fbSeen : Nat := 0
  fbAge : Nat := 0
  /-- The extended time of the latest new output of the feedback source (R183). -/
  fbAt : Option Nat := none
  ofbSeen : Nat := 0
  ofbAge : Nat := 0
deriving DecidableEq, Repr
/-- What the part knows of another member (Table 10-16, R260, R268): the time of its latest heartbeat and its role; the time,
TESTS, IMAGE_SHA and IMAGE_GEN of its latest health report. -/
structure MemberSt where
  hbAt : Option Nat := none
  role : Nat := 2
  healthAt : Option Nat := none
  tests : Nat := 0
  sha : List Byte := []
  gen : Nat := 0
deriving DecidableEq, Repr

/-- The latest heartbeat of the commanding part (Table 10-3). -/
structure HbInfo where
  member : Nat
  epoch : Word
  at_ : Nat
  frame : Nat
  frameT : Word
  emitFrame : Nat
  emitState : Nat
  fillFrame : Nat
  planPeriod : Nat
  handover : Bool
deriving DecidableEq, Repr

/-- A forwarded operation (R262). -/
structure GrpOp where
  seq : Nat
  code : Nat
  body : List Byte
  /-- The frame in which it was accepted; it is repeated for 4 frames. -/
  frame : Nat
deriving DecidableEq, Repr

/-- A state frame being received (R261): its frame, fragment count, the fragments by index, and the MAC of the last one. -/
structure StateRx where
  frame : Nat
  cnt : Nat
  parts : List (Nat × List Byte)
  mac : List Byte
deriving DecidableEq, Repr

/-- The redundancy group (R255 to R277). -/
structure GrpSt where
  /-- Silhar has started: start-up reached STANDBY. -/
  started : Bool := false
  members : List MemberSt := [{}, {}, {}]
  hbSeq : Word := 0
  hb : Option HbInfo := none
  frags : Option StateRx := none
  /-- The latest complete state frame: its frame, its joined blocks, and PLAN_PERIOD of the heartbeats at its completion. -/
  kept : Option (Nat × List Byte × Nat) := none
  /-- Operations: the last number issued, those being repeated, a snapshot still to send, the last number applied. -/
  opSeq : Nat := 0
  ops : List GrpOp := []
  snapshot : List GrpOp := []
  applied : Nat := 0
  resync : Bool := false
  /-- The whole snapshot has been applied; a later complete state frame sets SYNCED. -/
  snapApplied : Bool := false
  /-- A loss has been declared: the lost member and its epoch; the part waits for its rank. -/
  lost : Option (Nat × Word) := none
  /-- The offer outstanding: target and handover frame; the handover frame at which this part is to claim. -/
  offer : Option (Nat × Nat) := none
  called : Option Nat := none
  /-- Rounds of the Ochre test schedule completed, the extended time of the latest one, and the units that the present round has
  tested, as 8 q + u (R264). -/
  testRounds : Word := 0
  testAt : Option Nat := none
  tested : List Nat := []
  alignOfs : Int := 0
  /-- The frame in which this part took the role, before its first own frame (R270, R271). -/
  seam : Option Nat := none
deriving DecidableEq, Repr
/-- A safety function in one technology's view (R289 to R295). -/
structure FnView where
  /-- Table 11-3, and the cause of the latest stop or fault (Table 11-11). -/
  st : Nat := 0
  cause : Nat := 0
  /-- Latched faults, by cause code. -/
  faults : BitVec 16 := 0
  /-- Latches of DISC and TEST that the other technology has not been told of (R292). -/
  untold : BitVec 16 := 0
  /-- Condition 4: an input stop or a DISC or TEST fault since it last ran; both channels have been open together since. -/
  needOpen : Bool := false
  opened : Bool := false
  /-- Condition 5: a reset edge is needed. -/
  needEdge : Bool := true
  /-- Conditions 1 to 4 held when the RESET channel closed. -/
  armed : Bool := false
  /-- A reset edge has been made. -/
  edge : Bool := false
  /-- DISC or TEST: both channels have been open together since the latch; channel pulses still to pass (TEST). -/
  faultOpen : Bool := false
  pulseA : Bool := false
  pulseB : Bool := false
  /-- Two-hand: hands 0 and 1 fully released since the stop. -/
  rel0 : Bool := false
  rel1 : Bool := false
deriving DecidableEq, Repr

/-- One safety technology (R278, R279). -/
structure TechSt where
  table : Option SafetyCfg := none
  /-- It evaluates its functions. -/
  active : Bool := false
  /-- Its self-tests pass. -/
  ok : Bool := false
  /-- Recognised at the high level, and recognised from its raw level at all, by input pair. -/
  hiA : Word := 0
  hiB : Word := 0
  seenA : Word := 0
  seenB : Word := 0
  fns : Cells FnView := []
  /-- The latest decisions received from the other technology: pairs permitted, and pairs whose outputs may stay on. -/
  rxOn : BitVec 16 := 0
  rxHold : BitVec 16 := 0
  /-- Pairs whose output it keeps on. -/
  out : BitVec 16 := 0
  /-- Pairs whose output is off for an off-pulse test (R299). -/
  pulse : BitVec 16 := 0
deriving DecidableEq, Repr

/-- The safety block beside its registers (R278 to R306). -/
structure SafSt where
  slate : TechSt := {}
  cobalt : TechSt := {}
  /-- The reported state of each function, and its stops since reset (R305). -/
  reported : Cells Nat := []
  stops : Cells Nat := []
  /-- TP outputs in their test pulse. -/
  tpLow : BitVec 8 := 0
  /-- The SAFETY_RELOAD under way: the section (0 Slate, 1 Cobalt), and its request. -/
  reload : Option (Nat × ReqRef) := none
deriving DecidableEq, Repr
/-- An output or marker that waits in a send object (R322).  `fixed`: its SEQ is set (R324). -/
structure CanTx where
  item : OutItem
  fixed : Bool
deriving DecidableEq, Repr

/-- A message being reassembled (R329): the stamp of its first frame, the key that its frames share, the next frame
number, the total length, and the bytes so far. -/
structure CanAsm where
  stamp : Nat
  key : Nat
  next : Nat
  total : Nat
  data : List Byte
deriving DecidableEq, Repr

/-- A message object beside its registers (R322, R328, R329). -/
structure CanObj where
  queue : List CanTx := []
  asm : Option CanAsm := none
  latest : List Byte := []
  ovr : Bool := false
  /-- Something arrived since the latest RX_TIMEOUT; RX_TIMEOUT has expired with the twin receiving (R319). -/
  heard : Bool := false
  silent : Bool := false
deriving DecidableEq, Repr

/-- What a controller is sending: the head of an object, or a reference message. -/
inductive CanWire | object (o : Nat) | reference
deriving DecidableEq, Repr

/-- A CAN controller beside its registers (R310 to R333). -/
structure CanCtl where
  objs : Cells CanObj := []
  tx : Option CanWire := none
  /-- The frame on the wire was started in a schedule window (R332). -/
  txWindow : Bool := false
  /-- A mode that takes effect at the end of the frame in progress. -/
  modeDue : Option Nat := none
  boRecover : Bool := false
  reinit : Bool := false
  /-- DETECT: the candidate on trial and its consecutive valid frames. -/
  cand : Nat := 0
  valid : Nat := 0
  /-- Time-triggered operation: a reference has been seen or sent; one has been seen in this basic cycle; the part yields at
  the next; the extended time of the reference mark; the window in force. -/
  ttRun : Bool := false
  refSeen : Bool := false
  yieldDue : Bool := false
  mark : Nat := 0
  window : Option Nat := none
  /-- Tagged frames received: identifier, SEQ, extended time, payload (R318). -/
  seen : List (Nat × Nat × Nat × List Byte) := []
deriving DecidableEq, Repr
/-- A frame queued at an egress: PCP, destination, Ethernet bytes from destination address to FCS, and its payload. -/
structure EthFrame where
  pcp : Nat
  dest : BitVec 48
  len : Nat
  payload : List Byte
deriving DecidableEq, Repr

/-- The first copy of a frame, held for its twin (R340): source, sequence number, CRC and the LAN it came on. -/
structure PrpHeld where
  src : BitVec 48
  seq : BitVec 16
  crc : Word
  lan : Nat
deriving DecidableEq, Repr

/-- A node-table entry (R339): sequence numbers and CRCs of the latest 128 frames of a source. -/
structure PrpNode where
  src : BitVec 48
  seen : List (BitVec 16 × Word)
deriving DecidableEq, Repr

/-- The Ethernet block beside its registers (R335 to R352). -/
structure EthSt where
  pairQ : List EthFrame := []
  mgmtQ : List EthFrame := []
  prpSeq : BitVec 16 := 0
  held : List PrpHeld := []
  nodes : List PrpNode := []
  /-- Nodes seen by supervision, with the extended time of the latest frame. -/
  supers : List (BitVec 48 × Nat) := []
  /-- Items released together, not yet in frames: MGMT?, destination, PCP, bytes. -/
  gather : List (Bool × BitVec 48 × Nat × List Byte) := []
  fseq : BitVec 16 := 0
  /-- Count of supervision frames sent (R342). -/
  supSeq : BitVec 16 := 0
  e450Line : Nat := 0
  reinit : List Nat := []
deriving DecidableEq, Repr
/-- An input chain beside its registers (R380 to R386). -/
structure ChainSt where
  /-- Outputs since the start, settling ones included, and whether one has been delivered. -/
  outs : Nat := 0
  delivered : Bool := false
  /-- Delivered outputs, which the servo loops see (R208). -/
  seq : Nat := 0
  /-- A new output was delivered since the latest frame-start latch. -/
  fresh : Bool := false
  /-- m of the DC blocker, 40 bits, in units of 2⁻⁸ of the output word, once set. -/
  m : Option Int := none
  /-- The extended stamp and status of the latest delivered word. -/
  stamp : Nat := 0
  status : Nat := 0
  /-- The frame-start latch that fusion uses: word, stamp, status. -/
  latch : Option (Word × Nat × Nat) := none
deriving DecidableEq, Repr

/-- A pulse input beside its registers (R390 to R393). -/
structure PinSt where
  a : Bool := false
  b : Bool := false
  /-- The count and extended time of the latest counted edge, of the last one before the gate, and of the gate's first. -/
  last : Option (Word × Nat) := none
  ref : Option (Word × Nat) := none
  first : Option (Word × Nat) := none
  gateStart : Nat := 0
  /-- Frequency measurements made (R208, R216). -/
  meas : Nat := 0
  latch : Option (Word × Word × Nat) := none
deriving DecidableEq, Repr

/-- The analogue block beside its registers (R374 to R395). -/
structure AnaSt where
  chains : Cells ChainSt := []
  pins : Cells PinSt := []
  /-- Consecutive markers of each CHANNEL output (R389). -/
  markers : Cells Nat := []
  /-- The written state of ROLE_GATED outputs (R394). -/
  gated : BitVec 128 := 0
deriving DecidableEq, Repr

/-- The whole part.  `pending` is the queue of commands that wait, first in, first out; `freeCtr` counts the free values
drawn (both are the model's own, log entries 2 and 4). -/
structure State where
  /-- Registers, each as its value XOR its reset value. -/
  regs : Cells Word := []
  /-- The two NVM banks; an unlisted byte is erased, 0xFF. -/
  nvm0 : Cells Byte := []
  nvm1 : Cells Byte := []
  /-- The memories of the Ochre dies, by absolute byte address; an unlisted byte is 0. -/
  omem : Cells Byte := []
  /-- R433: the image key store, programmed once and never erased. -/
  keyStore : Option (List Byte) := none
  /-- The sections of the running image, once loaded. -/
  cfg : Option ImageCfg := none
  aon : AonSt := {}
  rst : RstSt := {}
  clk : ClkSt := {}
  tb : TbSt := {}
  img : ImgSt := {}
  recd : RecSt := {}
  mgt : MgtSt := {}
  frame : FrameSt := {}
  chans : List Chan := []
  fab : FabSt := {}
  fus : FusSt := {}
  ctl : CtlSt := {}
  /-- Solver instances: 0 MPC, 1 ALLOC, 2 + g the failure group g. -/
  slv : Cells Inst := []
  alc : AlcSt := {}
  /-- By controller. -/
  can : List CanCtl := [{}, {}, {}, {}, {}, {}, {}, {}]
  eth : EthSt := {}
  ana : AnaSt := {}
  srv : Cells LoopSt := []
  saf : SafSt := {}
  grp : GrpSt := {}
  freeCtr : Nat := 0
  pending : List Instr := []
  /-- The base configuration, which `cfg` is with the overlay of the present mode (R432). -/
  base : Option ImageCfg := none
deriving DecidableEq, Repr

/-- The machine right after reset: VDD_AON has just come up and the part is held in reset, every register at its reset
value, every queue empty. -/
def State.reset : State := {}

/-- Why a step stops with a fault. -/
inductive Fault
  /-- No meaning raises it: every command of the table has a next state.  Kept so that a run's outcome has a fault side
  at all (safe). -/
  | none
deriving DecidableEq, Repr

/-- Why a command is refused by the model. -/
inductive Refusal
  /-- Raised by the dispatch arm of a command that has no meaning yet, under its mnemonic (safe). -/
  | notModelled (mnemonic : String)
deriving DecidableEq, Repr

end Sys2Proof.Machine
end

