-- ==== Sys2Proof/Machine/Ops.lean ====
section
/-!
DEFINITION. Sys2Proof/Machine/Ops.lean: the operations that every block shares: sparse maps, registers and their fields,
counters, memories, free values, events, refusals and messages.
-/
namespace Sys2Proof.Machine

/-! Sparse maps in canonical form. -/

/-- What key `k` reads as: its entry, or `d` where it has none. -/
def cellsGet {α : Type} (d : α) : Cells α → Nat → α
  | [], _ => d
  | (k, v) :: t, a => if a = k then v else cellsGet d t a

/-- An entry placed in key order, in place of an entry of the same key. -/
def cellsInsert {α : Type} (a : Nat) (v : α) : Cells α → Cells α
  | [] => [(a, v)]
  | (k, w) :: t => if a < k then (a, v) :: (k, w) :: t else if a = k then (a, v) :: t else (k, w) :: cellsInsert a v t

/-- A write that keeps the canonical form: the default value removes the entry. -/
def cellsSet {α : Type} [DecidableEq α] (d : α) (m : Cells α) (a : Nat) (v : α) : Cells α :=
  if v = d then m.filter (fun e => decide (e.1 ≠ a)) else cellsInsert a v m

/-- The canonical form: keys strictly rising, no entry equal to the default. -/
abbrev cellsWf {α : Type} [DecidableEq α] (d : α) (m : Cells α) : Prop :=
  m.Pairwise (fun x y => x.1 < y.1) ∧ ∀ e ∈ m, e.2 ≠ d

/-! Registers. -/

/-- Whether row `r` of a register table covers address `a` (both relative to the same base). -/
def rowCovers (r : RegRow) (a : Nat) : Bool :=
  r.base ≤ a &&
  (let off := a - r.base
   let i := if r.stride1 = 0 then 0 else off / r.stride1
   let off1 := if r.stride1 = 0 then off else off % r.stride1
   let j := if r.stride2 = 0 then 0 else off1 / r.stride2
   let off2 := if r.stride2 = 0 then off1 else off1 % r.stride2
   decide (off2 = 0 ∧ i < r.count1 ∧ j < r.count2))

/-- The register rows of an Umber block, by the 64 KiB window (Table 20-2). -/
def umberRows (w : Nat) : List RegRow :=
  if w = 0 then regRowsSYS else if w = 1 then regRowsCLK else if w = 2 then regRowsAON else if w = 3 then regRowsTB
  else if w = 4 then regRowsSLK else if w = 5 then regRowsFLT else if w = 6 then regRowsIMG
  else if w = 7 then regRowsMGT else if w = 8 then regRowsREC else if w = 9 then regRowsSLH
  else if w = 10 then regRowsSAF else if w = 11 then regRowsFUS else if w = 12 then regRowsCTL
  else if w = 13 then regRowsSLV else if w = 14 then regRowsALC else if w = 15 then regRowsCQA
  else if w = 16 then regRowsSRV else if w = 17 then regRowsANA else if w = 18 ∨ w = 19 then regRowsETH
  else if w = 20 ∨ w = 21 then regRowsCAN else []

/-- R486: the offset of an address inside the Ochre die windows from its region, or none outside them. -/
def ochreOffset (a : Nat) : Option Nat :=
  let d := a / 0x10000000
  let o := a % 0x10000000
  if (d = 1 ∨ d = 2) ∧ o < 0x08000000 then some (o % 0x02000000) else none

/-- The register row at an absolute address, with R484: none where no register lies. -/
def regRow (a : Nat) : Option RegRow :=
  if a < 0x01000000 then (umberRows (a / 0x10000)).find? (rowCovers · a)
  else match ochreOffset a with
    | none => none
    | some o =>
      if o < 0x01000000 then
        let c := o % 0x00400000
        if 0x00140000 ≤ c ∧ c < 0x00141000 then regRowsCLU.find? (rowCovers · (c - 0x00140000)) else none
      else if 0x01400000 ≤ o ∧ o < 0x01408000 then regRowsRGN.find? (rowCovers · (o - 0x01400000)) else none

/-- The reset value of the register at an address; 0 where no register lies (R484). -/
def regReset (a : Nat) : Word := match regRow a with
  | some r => BitVec.ofNat 32 r.reset
  | none => 0

/-- The stored value of the register at address `a`. -/
def State.rd (s : State) (a : Nat) : Word := cellsGet 0 s.regs a ^^^ regReset a

/-- The register at address `a` set to `v`. -/
def State.wr (s : State) (a : Nat) (v : Word) : State := { s with regs := cellsSet 0 s.regs a (v ^^^ regReset a) }

/-- The mask of the `n` low bits. -/
def lowMask (n : Nat) : Word := BitVec.ofNat 32 (2 ^ n - 1)

/-- Bits `lo` to `lo + width - 1` of a word, as a number. -/
def bitsGet (w : Word) (lo width : Nat) : Nat := ((w >>> lo) &&& lowMask width).toNat

/-- A word with bits `lo` to `lo + width - 1` replaced by the low bits of `v`. -/
def bitsSet (w : Word) (lo width v : Nat) : Word :=
  (w &&& ~~~(lowMask width <<< lo)) ||| ((BitVec.ofNat 32 v &&& lowMask width) <<< lo)

/-- The value of a register field. -/
def State.get (s : State) (f : Field) : Nat := bitsGet (s.rd f.addr) f.lo f.width

/-- A register field set to a value, the rest of its register unchanged. -/
def State.set (s : State) (f : Field) (v : Nat) : State := s.wr f.addr (bitsSet (s.rd f.addr) f.lo f.width v)

/-- A field that a condition sets to 1 and otherwise to 0. -/
def State.setBit (s : State) (f : Field) (b : Bool) : State := s.set f b.toNat

/-- A counter that stops at its maximum. -/
def State.count (s : State) (f : Field) : State := s.set f (min (s.get f + 1) (2 ^ f.width - 1))

/-- A counter that wraps. -/
def State.countWrap (s : State) (f : Field) : State := s.set f ((s.get f + 1) % 2 ^ f.width)

/-- A counter raised by `n` that stops at its maximum. -/
def State.countBy (s : State) (f : Field) (n : Nat) : State := s.set f (min (s.get f + n) (2 ^ f.width - 1))

/-- An operation applied only under a condition. -/
def State.when (s : State) (c : Bool) (f : State → State) : State := if c then f s else s

/-- An operation for each element of a list, in order. -/
def State.each {α : Type} (s : State) (l : List α) (f : α → State → State) : State := l.foldl (fun s x => f x s) s

/-- A two's-complement field of `n` bits as an integer. -/
def toSigned (n : Nat) (v : Nat) : Int := if v < 2 ^ (n - 1) then v else (v : Int) - 2 ^ n

/-- An integer held between two bounds. -/
def clampInt (lo hi x : Int) : Int := max lo (min hi x)

/-- An integer as a word, modulo 2³². -/
def ofInt32 (x : Int) : Word := BitVec.ofInt 32 x

/-- An integer saturated to a signed 32-bit word. -/
def satInt32 (x : Int) : Word := BitVec.ofInt 32 (clampInt (-2147483648) 2147483647 x)

/-- An exact quotient rounded convergently: to nearest, ties to even (R72). -/
def roundDiv (num : Int) (den : Nat) : Int :=
  let q := num / (den : Int)
  let r := 2 * (num % (den : Int))
  if r < den then q else if r > den then q + 1 else if q % 2 = 0 then q else q + 1

/-! Time. -/

/-- R355: Hazel's 64-bit extension of TB_NS. -/
def State.now (s : State) : Nat := (s.rd Reg.TB_WRAPS).toNat * 2 ^ 32 + (s.rd Reg.TB_NS).toNat

/-- The 64-bit count written back, modulo 2⁶⁴. -/
def State.setNow (s : State) (t : Nat) : State :=
  (s.wr Reg.TB_NS (BitVec.ofNat 32 t)).wr Reg.TB_WRAPS (BitVec.ofNat 32 (t / 2 ^ 32))

/-! Free values (log entry 4). -/

/-- The free word at hand. -/
def State.freeWord (s : State) : Word := Config.freeWord s.freeCtr

/-- The next free value comes into play. -/
def State.fresh (s : State) : State := { s with freeCtr := s.freeCtr + 1 }

/-- The free word at hand, never 0 (R447, R466). -/
def State.freeNonzero (s : State) : Word := if s.freeWord = 0 then 1 else s.freeWord

/-! Memories. -/

/-- A byte of an NVM bank. -/
def State.nvmByte (s : State) (bank a : Nat) : Byte := cellsGet 0xFF (if bank = 0 then s.nvm0 else s.nvm1) a

/-- A byte of an NVM bank set. -/
def State.setNvm (s : State) (bank a : Nat) (v : Byte) : State :=
  if bank = 0 then { s with nvm0 := cellsSet 0xFF s.nvm0 a v } else { s with nvm1 := cellsSet 0xFF s.nvm1 a v }

/-- `n` bytes of an NVM bank from address `a`. -/
def State.nvmBytes (s : State) (bank a n : Nat) : List Byte := (List.range n).map (fun i => s.nvmByte bank (a + i))

/-- A little-endian number of `n` bytes in an NVM bank. -/
def State.nvmNat (s : State) (bank a n : Nat) : Nat := leNat (s.nvmBytes bank a n)

/-- Bytes programmed from address `a` on: programming clears bits and sets none (R422: NOR devices). -/
def State.nvmProgram (s : State) (bank : Nat) : Nat → List Byte → State
  | _, [] => s
  | a, b :: bs => State.nvmProgram (s.setNvm bank a (s.nvmByte bank a &&& b)) bank (a + 1) bs

/-- The bytes of a 64 KiB sector erased. -/
def State.nvmEraseSector (s : State) (bank a : Nat) : State :=
  let keep := fun (e : Nat × Byte) => decide (e.1 / 0x10000 ≠ a / 0x10000)
  if bank = 0 then { s with nvm0 := s.nvm0.filter keep } else { s with nvm1 := s.nvm1.filter keep }

/-- A word of an Ochre memory, by absolute address. -/
def State.memRd (s : State) (a : Nat) : Word :=
  BitVec.ofNat 32 (leNat ((List.range 4).map (fun i => cellsGet 0 s.omem (a + i))))

/-- A word of an Ochre memory set. -/
def State.memWr (s : State) (a : Nat) (v : Word) : State :=
  { s with omem := (List.range 4).foldl (fun m i => cellsSet 0 m (a + i) (BitVec.ofNat 8 (v.toNat / 2 ^ (8 * i)))) s.omem }

/-- Consecutive words of an Ochre memory set. -/
def State.memWrAll (s : State) : Nat → List Word → State
  | _, [] => s
  | a, v :: vs => State.memWrAll (s.memWr a v) (a + 4) vs

/-! Events and refusals. -/

/-- A source raises an event at the event port (R253). -/
def State.raise (s : State) (code : Nat) (source : Word) (data : List Byte) : State :=
  { s with recd := { s.recd with port := s.recd.port ++ [{ code := code, source := source, data := data }] } }

/-- R489: the common refusal status of a refused write or command register. -/
def State.refuse (s : State) (block code : Nat) (addr : Nat) : State :=
  (((s.wr Reg.SYS_REFADDR (BitVec.ofNat 32 addr)).set Fld.SYS_REFINFO_CODE code).set Fld.SYS_REFINFO_BLOCK block).count
    Fld.SYS_REFINFO_COUNT

/-- Table 18-9: MGT_STAT shows the sessions, the subscriptions and the arm in force. -/
def State.mirrorMgt (s : State) : State :=
  ((s.set Fld.MGT_STAT_SESSIONS s.mgt.sessions.length).set Fld.MGT_STAT_SUBS s.mgt.subs.length).set Fld.MGT_STAT_ARM
    (match s.mgt.arm with | some a => a.kind | none => 0)

/-- R282: SAF_STAT.SAFE is 1 while no safety output is commanded on and none reads back on. -/
def State.mirrorSafe (s : State) : State := s.setBit Fld.SAF_STAT_SAFE (decide (s.rd Reg.SAF_SO = 0 ∧ s.rd Reg.SAF_SORB = 0))

/-- Table 17-11: IMG_STAT shows an adoption and a region reload in progress. -/
def State.mirrorImg (s : State) : State :=
  (s.setBit Fld.IMG_STAT_ADOPTING s.img.adopting.isSome).setBit Fld.IMG_STAT_RELOADING s.img.reload.isSome

/-- The status fields that show other state follow it at the end of every command. -/
def State.mirror (s : State) : State := s.mirrorMgt.mirrorSafe.mirrorImg

/-- R412: nothing but power and reset acts while the part is held in reset. -/
def State.running (s : State) (f : State → State) : State := if s.rst.inReset then s else (f s).mirror

/-- R452: the part holds the commanding role. -/
def State.commanding (s : State) : Bool := s.get Fld.SLH_STAT_ROLE = 1

/-- R264, R270: the part commands, and the frame is its own: not the one in which it took the role over. -/
def State.ownFrame (s : State) : Bool := s.commanding && s.grp.seam.isNone

/-- R262, R452: an accepted operation is forwarded in the next state frame. -/
def State.forward (s : State) (code : Nat) (body : List Byte) : State :=
  if s.commanding ∧ s.get Fld.SYS_STRAP_GROUP_ID ≠ 3 then
    let o : GrpOp := { seq := s.grp.opSeq + 1, code := code, body := body, frame := s.frame.count }
    { s with grp := { s.grp with opSeq := s.grp.opSeq + 1, ops := s.grp.ops ++ [o] } }
  else s

/-- R262: an accepted WRITE of one word is forwarded with its transaction body (R449), under OP_CODE 0 (log entry 36). -/
def State.forwardWrite (s : State) (addr : Nat) (v : Word) : State :=
  s.forward 0 (leBytes 4 addr ++ [1, 0, 0, 0] ++ le32 v)

/-- SYS_STAT.START: the latest completed step of Table 16-5 never falls back. -/
def State.startStep (s : State) (n : Nat) : State := s.set Fld.SYS_STAT_START (max (s.get Fld.SYS_STAT_START) n)

end Sys2Proof.Machine
end

