-- ==== Sys2Proof/Machine/FixedPoint.lean ====
section
/-!
DEFINITION. Sys2Proof/Machine/FixedPoint.lean: the results of the operation classes as exact values rounded convergently
(R71 to R74, R515): rationals, square roots, sines and angles.
-/
namespace Sys2Proof.Machine

/-- A rational rounded convergently. -/
def roundRat (x : Rat) : Int := roundDiv x.num x.den

/-- R72: an exact value at `n` fraction bits, rounded to nearest, ties to even. -/
def toQ (n : Nat) (v : Rat) : Int := roundRat (v * 2 ^ n)

/-- R71: an operand word as an exact value in a format of `n` fraction bits. -/
def ofQ (n : Nat) (x : Int) : Rat := (x : Rat) / 2 ^ n

/-- R72 step 4: saturation to 32 bits, and whether it happened. -/
def narrow (x : Int) : Int × Bool := (clampInt (-2147483648) 2147483647 x, decide (x < -2147483648 ∨ 2147483647 < x))

/-- The integer square root, found bit by bit from bit `k` − 1 down. -/
def isqrtFrom (n : Nat) : Nat → Nat → Nat
  | 0, r => r
  | k + 1, r => isqrtFrom n k (if (r + 2 ^ k) * (r + 2 ^ k) ≤ n then r + 2 ^ k else r)

/-- R72: √(a / 2^na) at nd fraction bits, rounded to nearest, ties to even. -/
def sqrtQ (a na nd : Nat) : Int :=
  let m := a * 4 ^ (nd + 1)
  let f := isqrtFrom (m / 2 ^ na) 64 0
  if f % 2 = 0 then f / 2 else if f * f * 2 ^ na = m ∧ f / 2 % 2 = 0 then f / 2 else f / 2 + 1

/-- A root found at one more bit than asked, rounded to nearest, ties to even; `exact` tells that the longer one is the root
itself. -/
def halveRoot (f : Nat) (exact : Bool) : Nat :=
  if f % 2 = 0 then f / 2 else if exact ∧ f / 2 % 2 = 0 then f / 2 else f / 2 + 1

/-- The integer cube root, found bit by bit from bit `k` − 1 down. -/
def icbrtFrom (n : Nat) : Nat → Nat → Nat
  | 0, r => r
  | k + 1, r => icbrtFrom n k (if (r + 2 ^ k) ^ 3 ≤ n then r + 2 ^ k else r)

/-! Values in formats (R71, R72, R77): `n` is the fraction count. -/

/-- R77: the fraction count of a variable bounded by `x`, with headroom `q`: 31 − m for the smallest m with 2^m ≥ x 2^q. -/
def fracBits (q : Nat) (x : Rat) : Nat := 31 - ((List.range 32).find? (fun m => decide (x * 2 ^ q ≤ 2 ^ m))).getD 31

/-- A value as it is held at `n` fraction bits: rounded and saturated (R72, steps 3 and 4). -/
def held (n : Nat) (x : Rat) : Rat := ofQ n (narrow (toQ n x)).1

/-- A value of a format saturates. -/
def overflows (n : Nat) (x : Rat) : Bool := (narrow (toQ n x)).2

/-- R72, SQRT: the square root of a value that is not negative, at `n` fraction bits. -/
def sqrtAt (n : Nat) (x : Rat) : Rat :=
  let a := x.num.toNat * 4 ^ (n + 1)
  let f := isqrtFrom (a / x.den) 128 0
  ofQ n (halveRoot f (decide (f * f * x.den = a)))

/-- R123: the power 2/3 of a value that is not negative, at `n` fraction bits (log entry 32). -/
def pow23 (n : Nat) (x : Rat) : Rat :=
  let y := x * x
  let a := y.num.toNat * 8 ^ (n + 1)
  let f := icbrtFrom (a / y.den) 96 0
  ofQ n (halveRoot f (decide (f ^ 3 * y.den = a)))

/-- 2π at 128 fraction bits. -/
def twoPi128 : Int := 2138057168129933495719360746323741566601

/-- Σ of a power series in θ² with falling factorials: the terms of sine (from θ, k = 2) or cosine (from 1, k = 1), at 128
fraction bits. -/
def taylor (sq : Int) : Nat → Nat → Int → Int
  | 0, _, _ => 0
  | n + 1, k, t => t + taylor sq n (k + 2) (-(t * sq / 2 ^ 128) / ((k * (k + 1) : Nat) : Int))

/-- Sine and cosine of r / 2^b turn, 0 ≤ r ≤ 2^b / 4, at 128 fraction bits. -/
def sinCosQuarter (r b : Nat) : Int × Int :=
  let th := twoPi128 * (r : Int) / 2 ^ b
  let sq := th * th / 2 ^ 128
  (taylor sq 24 2 th, taylor sq 24 1 (2 ^ 128))

/-- R72, SINCOS: sine and cosine of a / 2³¹ turn at nd fraction bits, correctly rounded (log entry 47). -/
def sinCosQ (a : Int) (nd : Nat) : Int × Int :=
  let k := (a % 2 ^ 31).toNat
  let (s, c) := sinCosQuarter (k % 2 ^ 29) 31
  let q := k / 2 ^ 29
  let sc := if q = 0 then (s, c) else if q = 1 then (c, -s) else if q = 2 then (-s, -c) else (-c, s)
  (roundDiv sc.1 (2 ^ (128 - nd)), roundDiv sc.2 (2 ^ (128 - nd)))

/-- R72, SINCOS: the sine of an angle in turns, in a format of `n` fraction bits. -/
def sinAt (n : Nat) (x : Rat) : Rat := ofQ n (narrow (sinCosQ (toQ 31 x) n).1).1

/-- R72, SINCOS: the cosine of an angle in turns, in a format of `n` fraction bits. -/
def cosAt (n : Nat) (x : Rat) : Rat := ofQ n (narrow (sinCosQ (toQ 31 x) n).2).1

/-- ⌊angle of (x, y) in 2⁻³² turn⌋ for x, y ≥ 0, found bit by bit: the angle is at least k / 2³² turn when y cos ≥ x sin. -/
def angleFrom (y x : Int) : Nat → Nat → Nat
  | 0, r => r
  | k + 1, r =>
    let (s, c) := sinCosQuarter (r + 2 ^ k) 32
    angleFrom y x k (if r + 2 ^ k ≤ 2 ^ 30 ∧ s * x ≤ c * y then r + 2 ^ k else r)

/-- R72, ATAN2: the angle of (x, y) ≠ (0, 0) in 2⁻³¹ turn, correctly rounded (log entry 47). -/
def atan2Q (y x : Int) : Int :=
  let f := ((angleFrom y.natAbs x.natAbs 31 0 : Nat) : Int)
  let r := (f + 1) / 2
  let r := if x < 0 then 2 ^ 30 - r else r
  if y < 0 then -r else r

/-- R72, ATAN2: the angle of (x, y) in turns, in [0, 1); 0 for (0, 0) (Table 3-8). -/
def angleAt (x y : Rat) : Rat :=
  if x = 0 ∧ y = 0 then 0
  else ofQ 31 (atan2Q (y.num * x.den) (x.num * y.den) % 2 ^ 31)

/-- 2π. -/
def twoPi : Rat := (twoPi128 : Rat) / 2 ^ 128

/-- R515: the exact value of INTERP at x, from breakpoints and values, and whether x lies outside the breakpoints. -/
def interpQ (x : Rat) (bs vs : List Rat) : Rat × Bool :=
  let last := bs.length - 1
  if x < bs.getD 0 0 then (vs.getD 0 0, true)
  else if bs.getD last 0 < x then (vs.getD last 0, true)
  else
    let j := ((List.range last).filter (fun j => decide (bs.getD j 0 ≤ x))).foldl max 0
    let b0 := bs.getD j 0
    let b1 := bs.getD (j + 1) 0
    let v0 := vs.getD j 0
    let v1 := vs.getD (j + 1) 0
    (if b0 < b1 then v0 + (x - b0) * (v1 - v0) / (b1 - b0) else v1, false)

/-- R73: a sum held in the 72-bit accumulator, and whether it passed a bound. -/
def accHold (x : Int) : Int × Bool := (clampInt (-(2 ^ 71)) (2 ^ 71 - 1) x, decide (x < -(2 ^ 71) ∨ 2 ^ 71 - 1 < x))

/-- R73: products added one by one to the accumulator. -/
def accSum : List Int → Int × Bool → Int × Bool
  | [], a => a
  | p :: ps, (a, f) => let (b, g) := accHold (a + p); accSum ps (b, f || g)

end Sys2Proof.Machine
end

