-- ==== Sys2Proof/Machine/Linear.lean ====
section
/-!
DEFINITION. Sys2Proof/Machine/Linear.lean: sparse vectors and matrices of exact values, and the LDLᵀ factorisation of a
symmetric matrix with its replaced pivots (R150, R155, R156).  A vector lists its elements that are not 0, by rising
index; a matrix lists its rows.
-/
namespace Sys2Proof.Machine

/-- A sparse vector. -/
abbrev Vec := Cells Rat

/-- An element. -/
def Vec.get (v : Vec) (i : Nat) : Rat := cellsGet 0 v i

/-- a + k b, element by element. -/
def vecAdd (k : Rat) : Vec → Vec → Vec
  | [], b => (b.map (fun e => (e.1, k * e.2))).filter (fun e => decide (e.2 ≠ 0))
  | x :: a, b =>
    let lo := ((b.takeWhile (fun e => decide (e.1 < x.1))).map (fun e => (e.1, k * e.2))).filter (fun e => decide (e.2 ≠ 0))
    let rest := b.dropWhile (fun e => decide (e.1 < x.1))
    let v := x.2 + k * cellsGet 0 rest x.1
    lo ++ (if v = 0 then [] else [(x.1, v)]) ++ vecAdd k a (rest.filter (fun e => decide (e.1 ≠ x.1)))

/-- A vector times a number. -/
def vecScale (k : Rat) (v : Vec) : Vec := if k = 0 then [] else v.map (fun e => (e.1, k * e.2))

/-- The inner product. -/
def vecDot (a b : Vec) : Rat := (a.map (fun e => e.2 * cellsGet 0 b e.1)).foldl (· + ·) 0

/-- A sum of vectors. -/
def vecSum (l : List Vec) : Vec := l.foldl (vecAdd 1) []

/-- A list of elements as a vector, from index `i` on. -/
def vecFrom (i : Nat) (l : List Rat) : Vec := (l.zipIdx i).filterMap (fun (x, k) => if x = 0 then none else some (k, x))

/-- The first `n` elements of a vector as a list. -/
def vecList (n : Nat) (v : Vec) : List Rat := (List.range n).map (fun i => cellsGet 0 v i)

/-- A matrix times a vector. -/
def matVec (m : List Vec) (v : Vec) : Vec := vecFrom 0 (m.map (fun r => vecDot r v))

/-- The transpose of a matrix, with `n` rows. -/
def matT (n : Nat) (m : List Vec) : List Vec :=
  (List.range n).map (fun j => vecFrom 0 (m.map (fun r => cellsGet 0 r j)))

/-- A vector times a matrix: Σ vᵢ mᵢ. -/
def vecMat (v : Vec) (m : List Vec) : Vec := v.foldl (fun a e => vecAdd e.2 a (m.getD e.1 [])) []

/-- The product of two matrices. -/
def matMul (a b : List Vec) : List Vec := a.map (fun r => vecMat r b)

/-- a + k b, row by row; the matrices have equally many rows. -/
def matAdd (k : Rat) (a b : List Vec) : List Vec := (a.zip b).map (fun (x, y) => vecAdd k x y)

/-- A matrix times a number. -/
def matScale (k : Rat) (a : List Vec) : List Vec := a.map (vecScale k)

/-- The unit matrix of order `n`. -/
def matOne (n : Nat) : List Vec := (List.range n).map (fun i => [(i, 1)])

/-- A full matrix, given row by row. -/
def matOf (m : List (List Rat)) : List Vec := m.map (vecFrom 0)

/-- The exponential of a matrix by its power series, 32 terms (log entry 126): `t` is the term in hand. -/
def matExpFrom (a : List Vec) : Nat → Nat → List Vec → List Vec → List Vec
  | 0, _, _, s => s
  | n + 1, k, t, s =>
    let t := matScale (1 / ((k : Nat) : Rat)) (matMul t a)
    matExpFrom a n (k + 1) t (matAdd 1 s t)

/-- The exponential of a square matrix. -/
def matExp (a : List Vec) : List Vec := matExpFrom a 32 1 (matOne a.length) (matOne a.length)

/-- R121, R101: ẋ = F x + G w over a time with w held: x' = Φ x + Γ w.  The columns of G count from 0. -/
def discretise (f g : List Vec) (cols : Nat) (h : Rat) : List Vec × List Vec :=
  let n := f.length
  let big := (f.zip g).map (fun (r, q) => r ++ q.map (fun e => (e.1 + n, e.2))) ++ List.replicate cols []
  let e := (matExp (matScale h big)).take n
  (e.map (fun r => r.filter (fun x => decide (x.1 < n))),
   e.map (fun r => (r.filter (fun x => decide (n ≤ x.1))).map (fun x => (x.1 - n, x.2))))

/-! LDLᵀ. -/

/-- R156: a pivot in use: itself, or sign(d) × δ where |d| < ε, and whether it was replaced. -/
def pivot (eps delta d : Rat) : Rat × Bool :=
  if |d| < eps ∨ d = 0 then (if d < 0 then -delta else delta, true) else (d, false)

/-- One elimination step: `fl` and `fd` are the fraction counts of L and of the pivots, none for exact values. -/
def eliminate (fl fd : Option Nat) (eps delta : Rat) (a : List Vec × Factor) (j : Nat) : List Vec × Factor :=
  let (m, f) := a
  let row := m.getD j []
  let hold := fun (q : Option Nat) (x : Rat) => match q with | some n => held n x | none => x
  let ovf := fun (q : Option Nat) (x : Rat) => match q with | some n => overflows n x | none => false
  let raw := row.get j
  let (d, rep) := pivot eps delta (hold fd raw)
  let below := row.filter (fun e => decide (e.1 ≠ j))
  let col := (below.map (fun e => (e.1, hold fl (e.2 / d)))).filter (fun e => decide (e.2 ≠ 0))
  let m := m.zipIdx.map (fun (r, i) =>
    if i = j then [] else (vecAdd (-(cellsGet 0 col i)) r row).filter (fun e => decide (e.1 ≠ j)))
  (m, { steps := f.steps ++ [(j, col, d)], replaced := f.replaced + rep.toNat
        saturated := f.saturated || ovf fd raw || below.any (fun e => ovf fl (e.2 / d)) })

/-- R150: the elimination order: the image's, then the indices that it leaves out. -/
def fullOrder (n : Nat) (order : List Nat) : List Nat :=
  (order.filter (fun i => decide (i < n))).dedup ++ (List.range n).filter (fun i => decide (i ∉ order))

/-- The factorisation of a symmetric matrix. -/
def factorise (fl fd : Option Nat) (eps delta : Rat) (order : List Nat) (m : List Vec) : Factor :=
  ((fullOrder m.length order).foldl (eliminate fl fd eps delta) (m, { steps := [], replaced := 0, saturated := false })).2

/-- The solution of K x = b from the factor of K: forward, diagonal, backward (R161). -/
def Factor.solve (f : Factor) (b : Vec) : Vec :=
  let fwd := f.steps.foldl (fun (a : Vec) s => vecAdd (-(cellsGet 0 a s.1)) a s.2.1) b
  f.steps.reverse.foldl (fun (x : Vec) s =>
    let v := cellsGet 0 fwd s.1 / s.2.2 - vecDot s.2.1 x
    if v = 0 then x else cellsInsert s.1 v x) []

end Sys2Proof.Machine
end

