-- ==== Sys2Proof/Machine/Observer.lean ====
section
/-!
DEFINITION. Sys2Proof/Machine/Observer.lean: the observer of fusion (R99 to R103, R110 to R112): its model, the time update, the
measurement model and the measurement update.  The state is in m, rad, N and N·m, in the order of Table 4-5: N, E, ψ; u, v,
r; two wave states for each axis; b_N, b_E, b_ψ; then the calibration states (log entries 125 and 126).
-/
namespace Sys2Proof.Machine

/-- R110: the calibration states that the part holds: at most 48. -/
def fusCals (c : FusCfg) : List CalCfg := c.cal.take 48

/-- A calibration value, in µm or 10⁻⁶°, as m or rad. -/
def calSi (c : CalCfg) (v : Rat) : Rat := if c.state < 2 then v / 1000000 else v * twoPi / 360000000

/-- A calibration value in m or rad, as µm or 10⁻⁶°. -/
def calUnit (c : CalCfg) (v : Rat) : Rat := if c.state < 2 then v * 1000000 else v * 360000000 / twoPi

/-- The index of a calibration state in the observer's state. -/
def calAt (c : FusCfg) (slot row elem : Nat) : Option Nat :=
  ((fusCals c).findIdx? (fun d => decide (d.slot = slot ∧ d.state = row ∧ d.elem = elem))).map (15 + ·)

/-- The value of a calibration state in m or rad; `d` where it is not declared. -/
def calOf (c : FusCfg) (x : List Rat) (slot row elem : Nat) (d : Rat) : Rat := match calAt c slot row elem with
  | some i => x.getD i d
  | none => d

/-- Sine and cosine of an angle in rad. -/
def sinRad (n : Nat) (x : Rat) : Rat := sinAt n (x / twoPi)
/-- The cosine of an angle in rad. -/
def cosRad (n : Nat) (x : Rat) : Rat := cosAt n (x / twoPi)

/-- A vector turned by an angle in rad: R(ψ) (x, y). -/
def turn (n : Nat) (psi : Rat) (p : Rat × Rat) : Rat × Rat :=
  (p.1 * cosRad n psi - p.2 * sinRad n psi, p.1 * sinRad n psi + p.2 * cosRad n psi)

/-- The inverse of a matrix of order 3. -/
def inv3 (m : List (List Rat)) : List Vec :=
  let f := factorise none none 0 1 [] (matOf m)
  (List.range 3).map (fun j => f.solve [(j, 1)])

/-! The model. -/

/-- ν̇ and η̇ of the model: M ν̇ + D ν = τ + R(ψ)ᵀ b, η̇ = R(ψ) ν; wave oscillators; Markov environment (R102). -/
def obsRate (n : Nat) (o : ObsCfg) (x : List Rat) (tau : Rat × Rat × Rat) : Vec :=
  let g := fun i => x.getD i 0
  let nu := [g 3, g 4, g 5]
  let d := turn n (g 2) (g 3, g 4)
  let b := turn n (-(g 2)) (g 12, g 13)
  let dn := matVec (matOf o.damp) (vecFrom 0 nu)
  let f := vecFrom 0 [tau.1 + b.1 - dn.get 0, tau.2.1 + b.2 - dn.get 1, tau.2.2 + g 14 - dn.get 2]
  let a := matVec (inv3 o.mass) f
  let wave := (List.range 3).map (fun k =>
    let w := o.waveW.getD k 0
    [g (7 + 2 * k), -(w * w * g (6 + 2 * k)) - 2 * o.waveZ.getD k 0 * w * g (7 + 2 * k)])
  vecFrom 0 ([d.1, d.2, g 5, a.get 0, a.get 1, a.get 2] ++ wave.flatten ++ [-(g 12) / o.tb, -(g 13) / o.tb, -(g 14) / o.tb])

/-- The model linearised about a state: ∂ẋ/∂x. -/
def obsJacobian (n : Nat) (o : ObsCfg) (x : List Rat) : List Vec :=
  let g := fun i => x.getD i 0
  let c := cosRad n (g 2)
  let s := sinRad n (g 2)
  let d := turn n (g 2) (g 3, g 4)
  let b := turn n (-(g 2)) (g 12, g 13)
  let pos := [vecFrom 0 [0, 0, -d.2, c, -s], vecFrom 0 [0, 0, d.1, s, c], [(5, 1)]]
  let damp := (matOf o.damp).map (fun r => r.map (fun e => (e.1 + 3, -e.2)))
  let env := [vecFrom 12 [c, s], vecFrom 12 [-s, c], [(14, 1)]]
  let arm := [vecFrom 2 [b.2], vecFrom 2 [-b.1], []]
  let vel := matMul (inv3 o.mass) (matAdd 1 arm (matAdd 1 damp env))
  let wave := (List.range 3).map (fun k =>
    let w := o.waveW.getD k 0
    [[(7 + 2 * k, 1)], vecFrom (6 + 2 * k) [-(w * w), -(2 * o.waveZ.getD k 0 * w)]])
  pos ++ vel ++ wave.flatten ++ (List.range 3).map (fun k => [(12 + k, -1 / o.tb)]) ++
    List.replicate (x.length - 15) []

/-- A diagonal matrix. -/
def matDiag (l : List Rat) : List Vec := l.zipIdx.map (fun (v, i) => if v = 0 then [] else [(i, v)])

/-- R101: a state, covariance and transition carried over a time with the force and moment on the hull held. -/
def obsStep (n : Nat) (o : ObsCfg) (noise : List Rat) (h : Rat) (tau : Rat × Rat × Rat)
    (a : List Rat × List Vec × List Vec) : List Rat × List Vec × List Vec :=
  let (x, p, t) := a
  let k := x.length
  let (phi, gam) := discretise (obsJacobian n o x) (matOne k) k h
  let x' := vecAdd 1 (vecFrom 0 x) (matVec gam (obsRate n o x tau))
  (vecList k x', matAdd 1 (matMul (matMul phi p) (matT k phi)) (matDiag (noise.map (· * h))), matMul phi t)

/-! Measurements (R100). -/

/-- One scalar measurement: its place in the pattern of EST (R150), its row, its innovation and its variance. -/
structure Meas where
  slot : Nat
  row : Vec
  innov : Rat
  var : Rat
deriving DecidableEq, Repr

/-- The horizontal part of a lever arm, forward and starboard, under roll and pitch in turns, and its derivatives by x, y, z,
roll and pitch. -/
def leverArm (n : Nat) (l : Rat × Rat × Rat) (roll pitch : Rat) : (Rat × Rat) × List (Rat × Rat) :=
  let (x, y, z) := l
  let sf := sinAt n roll
  let cf := cosAt n roll
  let st := sinAt n pitch
  let ct := cosAt n pitch
  ((x * ct + (y * sf + z * cf) * st, y * cf - z * sf),
   [(ct, 0), (sf * st, cf), (cf * st, -sf), ((y * cf - z * sf) * st, -(y * sf) - z * cf),
    (-(x * st) + (y * sf + z * cf) * ct, 0)])

/-- The lever arm of a position reference, with its calibration. -/
def leverOf (c : FusCfg) (x : List Rat) (slot : Nat) (d : Rat × Rat × Rat) : Rat × Rat × Rat :=
  (calOf c x slot 0 0 d.1, calOf c x slot 0 1 d.2.1, calOf c x slot 0 2 d.2.2)

/-- An element placed at a calibration state, if it is declared. -/
def putCal (i : Option Nat) (v : Rat) (r : Vec) : Vec := match i with
  | some k => if v = 0 then r else cellsInsert k v r
  | none => r

/-- R100: the rows of a position reference: N and E with its lever arm, the wave displacement, its bias, and the mounting
angles of the MRUs of its group by their shares of the vote. -/
def posRows (n : Nat) (c : FusCfg) (x : List Rat) (slot : Nat) (l : Rat × Rat × Rat) (roll pitch : Rat)
    (mru : List (Nat × Rat)) : Vec × Vec :=
  let psi := x.getD 2 0
  let (a, ds) := leverArm n l roll pitch
  let t := turn n psi a
  let base := (vecFrom 0 [1, 0, -t.2, 0, 0, 0, 1], vecFrom 0 [0, 1, t.1, 0, 0, 0, 0, 0, 1])
  let put := fun (i : Option Nat) (v : Rat × Rat) (r : Vec × Vec) => (putCal i v.1 r.1, putCal i v.2 r.2)
  let lev := (List.range 3).foldl (fun r k => put (calAt c slot 0 k) (turn n psi (ds.getD k (0, 0))) r) base
  let bias := put (calAt c slot 1 1) (0, 1) (put (calAt c slot 1 0) (1, 0) lev)
  mru.foldl (fun r m =>
    let df := turn n psi (ds.getD 3 (0, 0))
    let dt := turn n psi (ds.getD 4 (0, 0))
    put (calAt c m.1 3 1) (-(m.2 * dt.1), -(m.2 * dt.2)) (put (calAt c m.1 3 0) (-(m.2 * df.1), -(m.2 * df.2)) r)) bias

/-- The position that the state predicts for a reference moved to the reference point: with wave displacement and bias. -/
def posPredict (c : FusCfg) (x : List Rat) (slot : Nat) : Rat × Rat :=
  (x.getD 0 0 + x.getD 6 0 + calOf c x slot 1 0 0, x.getD 1 0 + x.getD 8 0 + calOf c x slot 1 1 0)

/-- R103: NIS of a pair of innovations with a common variance: eᵀ S⁻¹ e. -/
def nisOf (p : List Vec) (a b : Vec) (e : Rat × Rat) (var : Rat) : Rat :=
  let pa := matVec p a
  let pb := matVec p b
  let saa := vecDot a pa + var
  let sbb := vecDot b pb + var
  let sab := vecDot a pb
  let det := saa * sbb - sab * sab
  if det = 0 then 0 else (e.1 * e.1 * sbb - 2 * e.1 * e.2 * sab + e.2 * e.2 * saa) / det

/-- The largest order of an EST problem (Table 6-1), which is the order of its pattern. -/
def estOrder : Nat := 40

/-- R150: the matrix S of an epoch: the pattern of every declared measurement, a slot without a measurement having a unit
diagonal and no coupling. -/
def estMatrix (p : List Vec) (ms : List Meas) : List Vec :=
  let ph := ms.map (fun m => (m, matVec p m.row))
  (List.range estOrder).map fun i => match ms.find? (fun m => decide (m.slot = i)) with
    | none => [(i, 1)]
    | some a => ph.foldl (fun (r : Vec) (m, v) =>
        let s := vecDot a.row v + (if m.slot = i then m.var else 0)
        if s = 0 then r else cellsInsert m.slot s r) []

/-- R149, R94 step 9: the measurement update: one factorisation of S and the solutions of S w = b.  States of `fixed` keep
their values and their covariance but take part in S (R111).  The second value counts the replaced pivots (R156). -/
def estUpdate (eps delta : Rat) (fixed : Nat → Bool) (x : List Rat) (p : List Vec) (ms : List Meas) :
    List Rat × List Vec × Nat :=
  let k := x.length
  let f := factorise none none eps delta [] (estMatrix p ms)
  let ph := ms.map (fun m => (m, matVec p m.row))
  let rhs := fun i => ph.foldl (fun (r : Vec) (m, v) => let e := v.get i; if e = 0 then r else cellsInsert m.slot e r) []
  let gain := (List.range k).map (fun i => if fixed i then [] else f.solve (rhs i))
  let innov := ms.foldl (fun (r : Vec) m => if m.innov = 0 then r else cellsInsert m.slot m.innov r) []
  let x' := (x.zip gain).map (fun (v, g) => v + vecDot g innov)
  -- P' = (I − K H) P (I − K H)ᵀ + K R Kᵀ
  let hs := (List.range estOrder).map (fun i => match ms.find? (fun m => decide (m.slot = i)) with
    | some m => m.row
    | none => [])
  let rs := (List.range estOrder).map (fun i => match ms.find? (fun m => decide (m.slot = i)) with
    | some m => m.var
    | none => 0)
  let ikh := matAdd (-1) (matOne k) (matMul gain hs)
  let kr := matMul gain (matDiag rs)
  (x', matAdd 1 (matMul (matMul ikh p) (matT k ikh)) (matMul kr (matT estOrder gain)), f.replaced)

/-- R93: an out-of-sequence update: the innovation of an earlier state, carried to the present through the transition. -/
def lateUpdate (fixed : Nat → Bool) (x : List Rat) (p : List Vec) (h : HistEntry) (ms : List Meas) : List Rat × List Vec :=
  let k := x.length
  let ph := ms.map (fun m => (m, matVec h.cov m.row))
  let s := ms.map (fun a => ph.foldl (fun (r : Vec) (m, v) =>
    let e := vecDot a.row v + (if m.slot = a.slot then m.var else 0)
    if e = 0 then r else cellsInsert m.slot e r) [])
  let f := factorise none none 0 1 [] s
  let ph' := ms.map (fun m => (m.slot, matVec h.phi (matVec h.cov m.row)))
  let rhs := fun i => ph'.foldl (fun (r : Vec) (m, v) => let e := v.get i; if e = 0 then r else cellsInsert m e r) []
  let gain := (List.range k).map (fun i => if fixed i then [] else f.solve (rhs i))
  let innov := ms.foldl (fun (r : Vec) m => if m.innov = 0 then r else cellsInsert m.slot m.innov r) []
  let x' := (x.zip gain).map (fun (v, g) => v + vecDot g innov)
  (x', matAdd (-1) p (matMul (matMul gain s) (matT ms.length gain)))

/-! Geodesy (R82, R116; log entry 127). -/

/-- The radii of curvature of WGS 84 at a latitude in 10⁻⁷°: metres of N and of E for 10⁻⁷°. -/
def geoScale (n : Nat) (lat : Int) : Rat × Rat :=
  let a : Rat := 6378137
  let e2 : Rat := 669437999014 / 100000000000000
  let t : Rat := (lat : Rat) / 3600000000
  let s := sinAt n t
  let w := 1 - e2 * s * s
  let r := sqrtAt n w
  let k := twoPi / 3600000000
  (a * (1 - e2) / (w * r) * k, a / r * cosAt n t * k)

/-- A WGS 84 position in the local frame of an origin, mm. -/
def geoLocal (n : Nat) (org : Int × Int) (lat lon : Rat) : Rat × Rat :=
  let k := geoScale n org.1
  ((lat - org.1) * k.1 * 1000, (lon - org.2) * k.2 * 1000)

/-- R116: a position rounded to 1 m, as an origin in 10⁻⁷°. -/
def geoRound (n : Nat) (lat lon : Rat) : Int × Int :=
  let k := geoScale n (roundRat lat)
  (roundRat ((roundRat (lat * k.1) : Rat) / k.1), if k.2 = 0 then roundRat lon else roundRat ((roundRat (lon * k.2) : Rat) / k.2))

end Sys2Proof.Machine
end

