-- ==== Sys2Proof/Machine/Requests.lean ====
section
/-!
DEFINITION. Sys2Proof/Machine/Requests.lean: management requests and what answers them: authentication, sessions and replay
(R445 to R448, R455), RESPONSE and RESULT messages (R453), handles and their check (R458, R459).
-/
namespace Sys2Proof.Machine

/-- What a request is answered with: STATUS, ERRIDX, DETAIL and the body of the RESPONSE (Table 18-1). -/
structure Resp where
  status : Nat
  erridx : Nat := 0
  detail : Nat := 0
  body : List Byte := []
deriving DecidableEq, Repr

/-- R451: the RESPONSE of a command: RESULT, two zero bytes and the returned data. -/
def cmdResp (status detail result : Nat) (data : List Byte) : Resp :=
  { status := status, detail := detail, body := leBytes 2 result ++ [0, 0] ++ data }

/-- A command done at once. -/
def respOk (data : List Byte) : Resp := cmdResp 0 0 0 data
/-- A command accepted, with a RESULT to follow (R453). -/
def respPending (data : List Byte) : Resp := cmdResp 1 0 0 data
/-- A command that a block refused, with its refusal code (R489). -/
def respRefused (code : Nat) : Resp := cmdResp 5 code 0 []
/-- A command ended with another status of Table 18-2. -/
def respStatus (status detail : Nat) : Resp := cmdResp status detail 0 []

/-- R451: the body of a COMMAND: OP_CODE, two zero bytes, the arguments. -/
def cmdBody (op : Nat) (args : List Byte) : List Byte := leBytes 2 op ++ [0, 0] ++ args

/-- The header of a request as Table 18-1 lays it out; STATUS, ERRIDX and DETAIL are 0 in requests. -/
def reqHeader (r : Req) (ttype : Nat) : List Byte :=
  [r.ver, BitVec.ofNat 8 ttype, 0, r.member] ++ le32 r.session ++ le32 r.tseq ++ leBytes 2 r.len.toNat ++ [0, 0] ++
    [0, 0, 0, 0]

/-- R445: the management key of the part's own GROUP_ID. -/
def State.mgmtKey (s : State) : List Byte := match s.cfg with
  | some c => c.keys.mgmt.getD (s.get Fld.SYS_STRAP_GROUP_ID) []
  | none => []

/-- R445: the MAC that a request must carry. -/
def State.reqMac (s : State) (r : Req) (ttype : Nat) (body : List Byte) : List Byte :=
  (hmac s.mgmtKey (reqHeader r ttype ++ body)).take 16

/-- The header of a message that the part sends. -/
def State.msgHeader (s : State) (m : Msg) : List Byte :=
  [1, BitVec.ofNat 8 m.ttype, BitVec.ofNat 8 m.status, BitVec.ofNat 8 (s.get Fld.SYS_STRAP_GROUP_ID)] ++ le32 m.session ++
    le32 m.tseq ++ leBytes 2 m.body.length ++ leBytes 2 m.erridx ++ leBytes 4 m.detail

/-- R445: the bytes of a message that the part sends, with its MAC. -/
def State.msgBytes (s : State) (m : Msg) : List Byte :=
  let hb := s.msgHeader m ++ m.body
  hb ++ (hmac s.mgmtKey hb).take 16

/-- A message joins the queue of its path. -/
def State.push (s : State) (m : Msg) : State := match m.path with
  | .lan => { s with mgt := { s.mgt with outLan := s.mgt.outLan ++ [m] } }
  | .mgmt => { s with mgt := { s.mgt with outMgmt := s.mgt.outMgmt ++ [m] } }
  | .spi => { s with mgt := { s.mgt with outSpi := s.mgt.outSpi ++ [m] } }

/-- R447: a session ends, with its subscriptions and its expert unlock. -/
def State.endSession (s : State) (id : Word) : State :=
  { s with mgt := { s.mgt with
      sessions := s.mgt.sessions.filter (fun x => decide (x.id ≠ id))
      subs := s.mgt.subs.filter (fun x => decide (x.session ≠ id)) } }

/-- The session of a number, if open. -/
def State.session (s : State) (id : Word) : Option Session := s.mgt.sessions.find? (fun x => decide (x.id = id))

/-- A session changed and made the most recently used. -/
def State.touchSession (s : State) (id : Word) (f : Session → Session) : State :=
  match s.session id with
  | none => s
  | some x => { s with mgt := { s.mgt with
      sessions := s.mgt.sessions.filter (fun y => decide (y.id ≠ id)) ++ [f x] } }

/-- Where the RESULT of a request goes (R453). -/
def reqRef (r : Req) (op : Nat) : ReqRef :=
  { path := r.path, ip := r.srcIp, port := r.srcPort, session := r.session, tseq := r.tseq, op := op }

/-- R453: the one RESULT of a PENDING command; not sent if its session has ended. -/
def State.result (s : State) (q : ReqRef) (code : Nat) (data : List Byte) : State :=
  if q.session = 0 ∨ (s.session q.session).isSome then
    s.push { path := q.path, ip := q.ip, port := q.port, ttype := 0x82, status := 0, session := q.session, tseq := q.tseq,
             erridx := 0, detail := 0, body := leBytes 2 q.op ++ leBytes 2 code ++ padTo 8 data }
  else s

/-- The RESULT of a request that may not be there. -/
def State.resultOpt (s : State) (q : Option ReqRef) (code : Nat) (data : List Byte) : State := match q with
  | some x => s.result x code data
  | none => s

/-- The RESPONSE message of a request. -/
def respMsg (r : Req) (x : Resp) : Msg :=
  { path := r.path, ip := r.srcIp, port := r.srcPort, ttype := 0x81, status := x.status, session := r.session,
    tseq := r.tseq, erridx := x.erridx, detail := x.detail, body := x.body }

/-- R447, R448: a request executed once: its effect, then its RESPONSE, which the session keeps for a retry. -/
def State.execRequest (s : State) (r : Req) (f : State → State × Resp) : State :=
  let (s1, x) := f (s.count Fld.MGT_CNT1_REQUESTS)
  let m := respMsg r x
  (s1.push m).touchSession r.session
    (fun y => { y with lastTseq := some r.tseq, stored := some m, final := y.final || decide (r.tseq = 0xFFFFFFFF) })

/-- R447: the request of an open session against the last TSEQ that the session accepted. -/
def State.sessionRequest (s : State) (r : Req) (f : State → State × Resp) : State :=
  match s.session r.session with
  | none => s.count Fld.MGT_CNT0_NO_SESSION
  | some x =>
    let last := match x.lastTseq with | some t => t.toNat | none => 0
    if last < r.tseq.toNat then s.execRequest r f
    else if x.lastTseq = some r.tseq then
      match x.stored with
      | some m => ((s.push m).touchSession r.session id).count Fld.MGT_CNT0_RETX
      | none => s
    else s.count Fld.MGT_CNT0_REPLAY

/-- R455: the part has no image, or no ready clock source yet (R403), and Acorn's responder answers on the SPI port. -/
def State.noAuth (s : State) : Bool := s.get Fld.IMG_STAT_NO_IMAGE = 1 || (s.cfg.isNone && s.get Fld.CLK_STAT_NO_OSC = 1)

/-- R455: Acorn's responder: no authentication and no replay check, SPI only; what it does not accept ends NO_IMAGE. -/
def State.bareRequest (s : State) (r : Req) (accepted : Bool) (f : State → State × Resp) : State :=
  if r.path = .spi ∧ r.session = 0 then
    let (s1, x) := if accepted then f (s.count Fld.MGT_CNT1_REQUESTS) else (s, respStatus 11 0)
    s1.push (respMsg r x)
  else s

/-- R407: with ETH stopped the part receives nothing on its Ethernet paths. -/
def State.deaf (s : State) (p : Path) : Bool := decide (p ≠ .spi) && s.get (Fld.CLK_DOMSTAT_SRC_D 7) = 3

/-- How a request stands to R455 and to session 0. -/
structure Gate where
  /-- Acorn's responder accepts it (R455). -/
  bare : Bool := false
  /-- Accepted with SESSION = 0 (R447). -/
  zero : Bool := false

/-- R444 to R448: a request of any path, with its TTYPE and body, and what it does once it is accepted. -/
def State.request (s : State) (r : Req) (ttype : Nat) (body : List Byte) (g : Gate) (f : State → State × Resp) : State :=
  if (r.path = .spi ∧ 16 ≤ s.mgt.outSpi.length) ∨ s.deaf r.path then s
  else if s.noAuth then s.bareRequest r g.bare f
  else if s.cfg.isNone then s
  else if r.ver ≠ 1 ∨ r.len.toNat ≠ body.length then s.count Fld.MGT_CNT1_BAD_FRAME
  else if r.mac ≠ s.reqMac r ttype body then s.count Fld.MGT_CNT0_BAD_MAC
  else if r.member.toNat ≠ s.get Fld.SYS_STRAP_GROUP_ID then s.count Fld.MGT_CNT1_BAD_MEMBER
  else if r.session = 0 then
    if g.zero then
      let (s1, x) := f (s.count Fld.MGT_CNT1_REQUESTS)
      s1.push (respMsg r x)
    else s.count Fld.MGT_CNT0_NO_SESSION
  else s.sessionRequest r f

/-- A management command (TTYPE 3) of one OP_CODE. -/
def State.command (s : State) (r : Req) (op : Nat) (args : List Byte) (g : Gate) (f : State → State × Resp) : State :=
  s.running fun s => s.request r 3 (cmdBody op args) g f

/-- R452: a command marked C is refused off the commanding part. -/
def onlyCommanding (f : State → State × Resp) (s : State) : State × Resp :=
  if s.commanding then f s else (s, respStatus 6 0)

/-- R444: the longest message on a path. -/
def State.msgLimit (s : State) (p : Path) : Nat :=
  if p = .lan ∧ s.get Fld.SYS_STRAP_GROUP_ID ≠ 3 then 444 else 1472

/-! Handles. -/

/-- R458: the handle of a type, index and generation. -/
def mkHandle (typ index gen : Nat) : Word :=
  let hi := BitVec.ofNat 32 (typ * 2 ^ 28 + index % 4096 * 2 ^ 16 + gen % 256 * 2 ^ 8)
  hi + BitVec.ofNat 32 (crc8 [BitVec.ofNat 8 (hi.toNat / 2 ^ 24), BitVec.ofNat 8 (hi.toNat / 2 ^ 16), BitVec.ofNat 8 gen]).toNat

/-- The type field of a handle. -/
def handleType (h : Word) : Nat := h.toNat / 2 ^ 28
/-- The index field of a handle. -/
def handleIndex (h : Word) : Nat := h.toNat / 2 ^ 16 % 4096
/-- The generation field of a handle. -/
def handleGen (h : Word) : Nat := h.toNat / 2 ^ 8 % 256

/-- Table 18-6: how many channels of a type there may be. -/
def typeMax (t : Nat) : Nat :=
  if t = 1 then 16 else if t = 2 ∨ t = 3 ∨ t = 4 then 4 else if t = 5 then 32 else if t = 6 ∨ t = 7 then 64
  else if t = 8 then 32 else if t = 9 then 2048 else if t = 10 then 32 else if t = 11 ∨ t = 12 then 4
  else if t = 13 then 8 else if t = 14 then 4096 else 0

/-- R460: the maximum of a type, which the CHANNELS section may lower. -/
def State.chanMax (s : State) (t : Nat) : Nat :=
  match s.cfg with
  | none => typeMax t
  | some c => match c.channels.maxima.find? (fun x => decide (x.1 = t)) with
    | some x => min x.2 (typeMax t)
    | none => typeMax t

/-- The channel of a type and index, if it was ever created. -/
def State.chan (s : State) (t i : Nat) : Option Chan := s.chans.find? (fun c => decide (c.typ = t ∧ c.index = i))

/-- The handle in force of a channel. -/
def Chan.handle (c : Chan) : Word := mkHandle c.typ c.index c.gen

/-- R459: the first failure of a handle: 1 CHECK, 4 RANGE, 3 ABSENT, 2 STALE; 0 for a good handle. -/
def State.checkHandle (s : State) (h : Word) : Nat :=
  if h ≠ mkHandle (handleType h) (handleIndex h) (handleGen h) ∨ handleType h = 0 ∨ handleType h = 15 then 1
  else if s.chanMax (handleType h) ≤ handleIndex h then 4
  else match s.chan (handleType h) (handleIndex h) with
    | none => 3
    | some c => if c.state = .absent then 3 else if c.gen ≠ handleGen h then 2 else 0

/-- The channel of a good handle. -/
def State.chanOf (s : State) (h : Word) : Option Chan :=
  if s.checkHandle h = 0 then s.chan (handleType h) (handleIndex h) else none

/-- A channel changed in place. -/
def State.modChan (s : State) (t i : Nat) (f : Chan → Chan) : State :=
  { s with chans := s.chans.map (fun c => if c.typ = t ∧ c.index = i then f c else c) }

/-- The handle in force of a type and index, or 0. -/
def State.handleOf (s : State) (t i : Nat) : Word := match s.chan t i with
  | some c => if c.state = .absent then 0 else c.handle
  | none => 0

/-- A channel of a type and index exists and is LIVE. -/
def State.chanLive (s : State) (t i : Nat) : Bool := match s.chan t i with
  | some c => c.state = .live
  | none => false

end Sys2Proof.Machine
end

