-- ==== Sys2Proof/Machine/Subscribers.lean ====
section
/-!
DEFINITION. Sys2Proof/Machine/Subscribers.lean: output tags and items (R246, R350) and their delivery to the host's
subscriptions (R456, R457).
-/
namespace Sys2Proof.Machine

/-- Table 9-5: the output tag. -/
def tagBytes (x : OutItem) : List Byte :=
  leBytes 2 x.seq ++ [BitVec.ofNat 8 x.epoch, if x.marker.isSome then 1 else 0] ++ leBytes 4 x.frame

/-- R246: the data of an output, or the REASON, RERUNS and TASK of a marker. -/
def itemData (x : OutItem) : List Byte := match x.marker with
  | some (r, n, t) => [BitVec.ofNat 8 r, BitVec.ofNat 8 n] ++ leBytes 2 t
  | none => x.payload

/-- R350: an OUTPUT item: HANDLE, LEN, two zero bytes, the tag, the data. -/
def outputItem (x : OutItem) : List Byte :=
  let b := tagBytes x ++ itemData x
  le32 x.handle ++ leBytes 2 b.length ++ [0, 0] ++ b

/-- R456: a CHANNEL subscription takes every DIV-th output, and every marker. -/
def subTake (x : OutItem) (u : Subscription) : Subscription :=
  if u.events ∨ u.select ≠ x.handle then u
  else if x.marker.isSome then { u with items := u.items ++ [outputItem x] }
  else if u.phase + 1 < u.div then { u with phase := u.phase + 1 }
  else { u with phase := 0, items := u.items ++ [outputItem x] }

/-- An output or marker of a channel reaches the subscriptions to it. -/
def State.toSubs (s : State) (x : OutItem) : State :=
  { s with mgt := { s.mgt with subs := s.mgt.subs.map (subTake x) } }

/-- R456: the subscriptions to a channel end once its CHANNEL_DESTROYED marker has been delivered: a subscription whose
last gathered item is that marker ends when the item is sent. -/
def destroyedItem (b : List Byte) : Bool := b.length = 20 ∧ b.getD 11 0 = 1 ∧ b.getD 16 0 = 7

/-- Table 18-5: the event item of a committed event. -/
def eventItem (time : Nat) (e : Event) : List Byte :=
  leBytes 8 time ++ leBytes 2 e.code ++ [0, 0] ++ le32 e.source ++ padTo 32 e.data

/-- R481: the class of an event code. -/
def eventClass (code : Nat) : Nat := code / 2 ^ 11

/-- A committed event reaches every EVENTS subscription whose mask holds its class. -/
def State.eventToSubs (s : State) (e : Event) : State :=
  { s with mgt := { s.mgt with subs := s.mgt.subs.map fun u =>
      if u.events ∧ u.select.getLsbD (eventClass e.code) then { u with items := u.items ++ [eventItem s.now e] } else u } }

end Sys2Proof.Machine
end

