-- ==== Sys2Proof/Machine/Ports.lean ====
section
/-!
DEFINITION. Sys2Proof/Machine/Ports.lean: how an output or marker that leaves its channel port joins the queues of the ports
that carry it: CAN send objects (R315, R317, R322), Ethernet output frames (R349, R350) and voltage outputs (R387, R389).
-/
namespace Sys2Proof.Machine

/-! CAN send objects. -/

/-- The CAN section of a controller. -/
def State.canCfg (s : State) (n : Nat) : Option CanCfg := s.cfg.bind (fun c => c.can[n]?)

/-- A controller beside its registers. -/
def State.canCtl (s : State) (n : Nat) : CanCtl := s.can.getD n {}

/-- A controller changed. -/
def State.modCan (s : State) (n : Nat) (f : CanCtl → CanCtl) : State := { s with can := s.can.modify n f }

/-- An object beside its registers. -/
def State.canObj (s : State) (n o : Nat) : CanObj := cellsGet {} (s.canCtl n).objs o

/-- An object changed. -/
def State.modObj (s : State) (n o : Nat) (f : CanObj → CanObj) : State :=
  s.modCan n (fun c => { c with objs := cellsSet {} c.objs o (f (cellsGet {} c.objs o)) })

/-- R320: the object is enabled. -/
def State.objOn (s : State) (n o : Nat) : Bool := (s.rd (Reg.CANn_OBJENw n (o / 32))).getLsbD (o % 32)

/-- The object is an enabled send object. -/
def State.objSends (s : State) (n o : Nat) : Bool := s.objOn n o && s.get (Fld.CANn_OBJCFG_DIR n o) = 1

/-- R315: a controller that is bus-off, STOPPED (R310: or not yet on its bus), LISTEN, DETECT or re-initialising puts no frame
on its bus. -/
def State.canCutOff (s : State) (n : Nat) : Bool :=
  let m := s.get (Fld.CANn_CTRL_MODE n)
  (s.canCtl n).reinit || decide (2 ≤ s.get (Fld.CANn_STAT_STATE n)) || m = 0 || m = 3 || m = 4

/-- The outputs of an object's queue, markers left out. -/
def CanObj.outputs (x : CanObj) : Nat := (x.queue.filter (fun t => t.item.marker.isNone)).length

/-- R249, R322: an output that finds its queue of 4 full is replaced by a QUEUE_FULL marker of its slot. -/
def queueFull (x : OutItem) : OutItem := { x with payload := [], marker := some (8, 0, 0x0FFF) }

/-- R322: an output or marker joins an object's queue. -/
def State.canQueue (s : State) (n o : Nat) (x : OutItem) (fixed : Bool) : State :=
  if s.canCutOff n then s.count (Fld.CANn_CNT1_DISCARDED n)
  else s.modObj n o (fun y =>
    let x := if x.marker.isNone ∧ 4 ≤ y.outputs then queueFull x else x
    { y with queue := y.queue ++ [{ item := x, fixed := fixed }] })

/-- R317, R320: an output joins every enabled send object, of either half of a pair, bound to its channel. -/
def State.toCan (s : State) (x : OutItem) : State :=
  s.each (List.range 8) fun n s => s.each (List.range 256) fun o s =>
    if s.objSends n o ∧ (s.get (Fld.CANn_OBJHDL_HANDLE n o)) / 2 ^ 16 = x.handle.toNat / 2 ^ 16 then
      s.canQueue n o x (decide (handleType x.handle ≠ 9))
    else s

/-- R320, R324: a CAN-object channel whose object is an enabled send object takes its SEQ when a frame is loaded. -/
def State.seqAtLoad (s : State) (typ idx : Nat) : Bool := typ = 9 && s.objSends (idx / 256) (idx % 256)

/-! Ethernet output frames. -/

/-- The NETWORK section. -/
def State.netCfg (s : State) : Option NetCfg := s.cfg.map (·.net)

/-- R335, R341: a port runs and its link is usable. -/
def State.linkUp (s : State) (p : Nat) : Bool := s.get (Fld.ETHp_CFG_EN p) = 1 && s.get (Fld.ETHp_STAT_LINK p) = 1

/-- The part stands in a group (R336). -/
def State.inGroup (s : State) : Bool := s.get Fld.SYS_STRAP_GROUP_ID ≠ 3

/-- R337: the longest frame of an egress: 500 bytes on the pair of a group's part, 1,522 otherwise. -/
def State.frameLimit (s : State) (mgmt : Bool) : Nat := if !mgmt && s.inGroup then 500 else 1522

/-- R338, Table 13-1: the bytes of a frame on the wire: addresses, tag and EtherType, payload, trailer on the pair, FCS; at
least the 68 bytes of a tagged frame of minimum length (R344). -/
def frameLen (mgmt : Bool) (payload : Nat) : Nat := max 68 (18 + payload + (if mgmt then 0 else 6) + 4)

/-- R341: a frame joins its egress; on the pair it is discarded and counted at LAN A while both links are down. -/
def State.ethQueue (s : State) (mgmt : Bool) (f : EthFrame) : State :=
  if mgmt then { s with eth := { s.eth with mgmtQ := s.eth.mgmtQ ++ [f] } }
  else if s.linkUp 0 ∨ s.linkUp 1 then { s with eth := { s.eth with pairQ := s.eth.pairQ ++ [f] } }
  else s.count (Fld.ETHp_CNT1_RX_DISC 0)

/-- Table 13-4: the header and items of an OUTPUT frame. -/
def State.outputFrame (s : State) (items : List (List Byte)) : List Byte :=
  [1, 1, BitVec.ofNat 8 items.length, 0] ++ leBytes 2 (s.get Fld.SYS_STRAP_GROUP_ID) ++ leBytes 2 s.eth.fseq.toNat ++
    leBytes 8 s.now ++ items.flatten

/-- One OUTPUT frame handed over to its egress. -/
def State.sendOutput (s : State) (mgmt : Bool) (dest : BitVec 48) (pcp : Nat) (items : List (List Byte)) : State :=
  let payload := s.outputFrame items
  let s := { s with eth := { s.eth with fseq := s.eth.fseq + 1 } }
  s.ethQueue mgmt { pcp := pcp, dest := dest, len := frameLen mgmt payload.length, payload := payload }

/-- R350: the items of one destination and PCP gathered into frames of at most 32 items within the length limit: the items of
the frame being filled, and those that come after. -/
def State.fillFrames (s : State) (mgmt : Bool) (dest : BitVec 48) (pcp : Nat) : List (List Byte) → List (List Byte) → State
  | cur, [] => if cur = [] then s else s.sendOutput mgmt dest pcp cur
  | cur, x :: xs =>
    if cur ≠ [] ∧ (32 ≤ cur.length ∨ s.frameLimit mgmt < frameLen mgmt (16 + (cur ++ [x]).flatten.length)) then
      State.fillFrames (s.sendOutput mgmt dest pcp cur) mgmt dest pcp [x] xs
    else State.fillFrames s mgmt dest pcp (cur ++ [x]) xs

/-- R350: the items released together leave in frames, one run for each destination and PCP. -/
def State.ethFlush (s : State) : State :=
  let g := s.eth.gather
  let keys := (g.map (fun x => (x.1, x.2.1, x.2.2.1))).eraseDups
  let s := { s with eth := { s.eth with gather := [] } }
  s.each keys fun k s =>
    s.fillFrames k.1 k.2.1 k.2.2 [] ((g.filter (fun x => decide ((x.1, x.2.1, x.2.2.1) = k))).map (·.2.2.2))

/-- R343, R350: an output of a declared channel becomes an item, at PCP 5 for TIMED outputs and 4 for the others. -/
def State.toEth (s : State) (x : OutItem) (timed : Bool) : State := match s.netCfg with
  | none => s
  | some c =>
    let outs := c.outputs.filter (fun d => decide (d.typ = handleType x.handle ∧ d.index = handleIndex x.handle))
    let items := outs.map (fun d => (d.mgmt, d.dest, if timed then 5 else 4, outputItem x))
    { s with eth := { s.eth with gather := s.eth.gather ++ items } }

/-! Voltage outputs. -/

/-- The ANALOGUE section. -/
def State.anaCfg (s : State) : Option AnaCfg := s.cfg.map (·.ana)

/-- A voltage output's section entry. -/
def State.aoutCfg (s : State) (n : Nat) : Option AoutCfg := s.anaCfg.bind (fun c => c.aout[n]?)

/-- A field of an output's data: `n` bytes from byte `b`, little-endian. -/
def fieldOf (data : List Byte) (b n : Nat) (signed : Bool) : Int :=
  let v := leNat ((data.drop b).take n)
  if signed then toSigned (8 * n) v else v

/-- R387: clamp(round(value × SCALE) + OFFSET, 0, 65,535), and whether it was clamped. -/
def aoutCode (a : AoutCfg) (data : List Byte) : Nat × Bool :=
  let x : Rat := (fieldOf data a.byte a.bytes a.signed : Rat) * a.scale
  let c := roundDiv x.num x.den + a.offset
  ((clampInt 0 65535 c).toNat, decide (c ≠ clampInt 0 65535 c))

/-- R387, R389: data of a bound channel is staged; after HOLD_N markers the output goes to SAFE. -/
def State.aoutFeed (s : State) (x : OutItem) (n : Nat) (a : AoutCfg) : State :=
  if x.marker.isSome then
    let k := cellsGet 0 s.ana.markers n + 1
    let s := { s with ana := { s.ana with markers := cellsSet 0 s.ana.markers n k } }
    if a.holdN ≤ k then (s.set (Fld.AOUTn_STAT_OUT n) a.safe).set (Fld.AOUTn_STAT_HELD_SAFE n) 1 else s
  else
    let (c, cl) := aoutCode a x.payload
    let s := { s with ana := { s.ana with markers := cellsSet 0 s.ana.markers n 0 } }
    let s := (s.set (Fld.AOUTn_DATA_CODE n) c).set (Fld.AOUTn_STAT_HELD_SAFE n) 0
    if cl then s.set (Fld.AOUTn_STAT_CLAMPED n) 1 else s

/-- R387: an output reaches every voltage output bound to its channel. -/
def State.toAout (s : State) (x : OutItem) : State :=
  s.each (List.range 32) fun n s => match s.aoutCfg n with
    | none => s
    | some a => if a.chan = some (handleType x.handle, handleIndex x.handle) then s.aoutFeed x n a else s

/-- R388, R389: the staged code of an output reaches its ball; off the commanding role, and while held at SAFE, the ball keeps
SAFE. -/
def State.aoutUpdate (s : State) (n : Nat) : State :=
  if s.get (Fld.AOUTn_STAT_HELD_SAFE n) = 1 then s
  else if s.commanding then s.set (Fld.AOUTn_STAT_OUT n) (s.get (Fld.AOUTn_DATA_CODE n))
  else match s.aoutCfg n with
    | some a => s.set (Fld.AOUTn_STAT_OUT n) a.safe
    | none => s

/-- R389: every output is held at its SAFE code. -/
def State.aoutSafe (s : State) : State := match s.anaCfg with
  | none => s
  | some c => s.each c.aout.zipIdx (fun (a, n) s => s.set (Fld.AOUTn_STAT_OUT n) a.safe)

end Sys2Proof.Machine
end

