-- ==== Sys2Proof/Machine/Channels.lean ====
section
/-!
DEFINITION. Sys2Proof/Machine/Channels.lean: the Umber channel ports: slots, sequence numbers, duplicates, markers and closes
(R245 to R252).
-/
namespace Sys2Proof.Machine

/-- R246: the epoch byte: the low 8 bits of the group epoch. -/
def State.epochByte (s : State) : Nat := (s.rd Reg.SLH_EPOCH).toNat % 256

/-- The class of an output's channel. -/
def State.timedHandle (s : State) (h : Word) : Bool := match s.chan (handleType h) (handleIndex h) with
  | some c => c.cls = .timed
  | none => false

/-- An output or marker leaves its channel port: to the subscriptions, and to the ports that carry the channel, where items
released together are gathered (R350). -/
def State.chanRelease (s : State) (x : OutItem) : State :=
  (((s.toSubs x).toCan x).toEth x (s.timedHandle x.handle)).toAout x

/-- An output or marker that leaves on its own. -/
def State.chanSend (s : State) (x : OutItem) : State := (s.chanRelease x).ethFlush

/-- R247: the events data of DUP_DIFFER and the other fault events that name FLT_LAST and an instance. -/
def State.faultData (s : State) (inst : Nat) : List Byte :=
  le32 (s.rd Reg.FLT_LAST) ++ le32 (s.rd Reg.FLT_LASTT) ++ leBytes 4 inst

/-- The output of a slot, numbered with the channel's SEQ (R246). -/
def State.slotItem (s : State) (c : Chan) (frame : Nat) (payload : List Byte) : OutItem :=
  { handle := c.handle, seq := c.seq, epoch := s.epochByte, frame := frame, marker := none, payload := payload }

/-- R245, R246: an output fills the channel's open slot and takes its SEQ; a TIMED output waits for the emission time. -/
def State.fillSlot (s : State) (c : Chan) (frame crc : Nat) (payload : List Byte) : State :=
  let x := s.slotItem c frame payload
  let s := s.modChan c.typ c.index (fun c => { c with
    seq := (c.seq + 1) % 65536, epoch := x.epoch, slot := none, last := some (frame, crc), reason := 0, reruns := 0,
    staged := if c.cls = .timed then some x else none })
  if c.cls = .timed then s else s.chanSend x

/-- R246, R248, R249: a slot of frame `frame` closes with a frame-skipped marker. -/
def State.sendMarker (s : State) (c : Chan) (frame reason reruns : Nat) : State :=
  let x : OutItem := { handle := c.handle, seq := c.seq, epoch := s.epochByte, frame := frame, payload := [],
                       marker := some (reason, reruns, match c.task with | some t => t | none => 0x0FFF) }
  let s := s.modChan c.typ c.index (fun c => { c with
    seq := if s.seqAtLoad c.typ c.index then c.seq else (c.seq + 1) % 65536
    epoch := x.epoch, slot := none, reason := 0, reruns := 0, skipped := min (c.skipped + 1) 0xFFFF })
  let s := s.count Fld.FLT_MARK_MARKERS
  let s := if 1 ≤ reason ∧ reason ≤ 6 then
      { s with fab := { s.fab with conflicts := cellsSet 0 s.fab.conflicts frame (cellsGet 0 s.fab.conflicts frame + 1) } }
    else s
  if s.seqAtLoad c.typ c.index then s.canQueue (c.index / 256) (c.index % 256) x false else s.chanSend x

/-- R248: an open slot closes with the reason that kept it empty, or NOT_READY. -/
def State.closeSlot (s : State) (c : Chan) : State := match c.slot with
  | none => s
  | some f => s.sendMarker c f (if c.reason = 0 then 10 else c.reason) c.reruns

/-- R245: the next slot of a channel opens for a frame. -/
def State.openSlot (s : State) (frame : Nat) (c : Chan) : State :=
  s.modChan c.typ c.index (fun c => { c with slot := some frame })

/-- The LIVE or CLOSING channels of one class. -/
def State.chansOf (s : State) (cls : ChanClass) : List Chan :=
  s.chans.filter (fun c => decide (c.cls = cls ∧ (c.state = .live ∨ c.state = .closing)))

/-- R248: every open slot of a class closes. -/
def State.closeSlots (s : State) (cls : ChanClass) : State := s.each (s.chansOf cls) (fun c s => s.closeSlot c)

/-- R245: every LIVE channel of a class opens its slot for a frame. -/
def State.openSlots (s : State) (cls : ChanClass) (frame : Nat) : State :=
  s.each ((s.chansOf cls).filter (fun c => decide (c.state = .live))) (fun c s => s.openSlot frame c)

/-- R247, R248: an output of frame `frame` reaches its channel port: it fills the open slot, or is a duplicate of the last
filled slot, or is late.  An output of a CAN-object channel that sends goes to its object, where its slot opens (R324). -/
def State.portOutput (s : State) (c : Chan) (frame crc : Nat) (payload : List Byte) : State :=
  if s.seqAtLoad c.typ c.index then s.canQueue (c.index / 256) (c.index % 256) (s.slotItem c frame payload) false
  else if c.slot = some frame then s.fillSlot c frame crc payload
  else match c.last with
    | some (f, k) =>
      if f = frame then
        let s := s.modChan c.typ c.index (fun c => { c with
          dup := min (c.dup + 1) 0xFFFF, differ := if k = crc then c.differ else min (c.differ + 1) 0xFF })
        if k = crc then s else s.raise 0x280B c.handle (s.faultData frame)
      else s.modChan c.typ c.index (fun c => { c with late := min (c.late + 1) 0xFFFF })
    | none => s.modChan c.typ c.index (fun c => { c with late := min (c.late + 1) 0xFFFF })

/-- R245: an output of an UMBER channel opens and fills a slot of its own. -/
def State.umberOut (s : State) (typ idx : Nat) (payload : List Byte) : State := match s.chan typ idx with
  | none => s
  | some c =>
    if c.state ≠ .live then s
    else if s.seqAtLoad typ idx then s.canQueue (idx / 256) (idx % 256) (s.slotItem c s.frame.count payload) false
    else
      let x := s.slotItem c s.frame.count payload
      (s.modChan typ idx (fun c => { c with seq := (c.seq + 1) % 65536, epoch := x.epoch })).chanSend x

/-- R245, R248: the channels that a task feeds. -/
def State.taskChans (s : State) (task : Nat) : List Chan :=
  s.chans.filter (fun c => decide (c.task = some task ∧ (c.state = .live ∨ c.state = .closing)))

/-- Table 9-6: a cause that will leave the open slots of a task empty. -/
def State.slotReason (s : State) (task reason reruns : Nat) : State :=
  { s with chans := s.chans.map (fun c =>
      if c.task = some task ∧ c.slot.isSome then { c with reason := reason, reruns := reruns } else c) }

/-- R245, R350: the TIMED outputs that wait leave their ports, items of one egress together. -/
def State.releaseTimed (s : State) : State :=
  (s.each (s.chans.filter (fun c => c.staged.isSome)) (fun c s => match c.staged with
    | some x => (s.modChan c.typ c.index (fun c => { c with staged := none })).chanRelease x
    | none => s)).ethFlush

/-- GUARANTEE_CONFLICT (R37, R249, Table 19-3): the rank kept, the rank broken, the markers and the frame concerned. -/
def State.conflictEvent (s : State) (kept broken markers frame : Nat) : State :=
  s.raise 0x280C 0 (leBytes 4 kept ++ leBytes 4 broken ++ leBytes 4 markers ++ leBytes 4 frame)

end Sys2Proof.Machine
end

