-- ==== Sys2Proof/Machine/Thrusters.lean ====
section
/-!
DEFINITION. Sys2Proof/Machine/Thrusters.lean: the thrusters of the allocation: their elements (Table 7-5), removal and
re-admission (R38, R191, R192, R296).
-/
namespace Sys2Proof.Machine

/-- The ALLOCATION section. -/
def State.alcCfg (s : State) : Option AlcCfg := s.cfg.map (·.alc)

/-- A declared thruster. -/
def State.thrCfg (s : State) (i : Nat) : Option ThrCfg := s.alcCfg.bind (fun c => c.thr[i]?)

/-- How many thrusters are declared. -/
def State.thrCount (s : State) : Nat := match s.alcCfg with | some c => c.thr.length | none => 0

/-- A thruster. -/
def State.thr (s : State) (i : Nat) : ThrSt := cellsGet {} s.alc.thr i

/-- A thruster changed. -/
def State.modThr (s : State) (i : Nat) (f : ThrSt → ThrSt) : State :=
  { s with alc := { s.alc with thr := cellsSet {} s.alc.thr i (f (cellsGet {} s.alc.thr i)) } }

/-- A table read by INTERP: linear between its points, and its end value beyond them, which the second value tells. -/
def interpTable : List (Rat × Rat) → Rat → Rat × Bool
  | [], _ => (0, true)
  | [p], x => (p.2, decide (x ≠ p.1))
  | p :: q :: t, x =>
    if x < p.1 then (p.2, true)
    else if x ≤ q.1 then (p.2 + (q.2 - p.2) * (x - p.1) / (q.1 - p.1), false)
    else interpTable (q :: t) x

/-- R193: the drive command of a thrust, 0.01 % of the range, and whether the thrust left the table. -/
def driveOf (c : ThrCfg) (thrust : Rat) : Int × Bool :=
  if c.driveTable = [] then (roundRat (thrust * 10000 / c.tMax), false)
  else
    let (d, out) := interpTable c.driveTable thrust
    (roundRat d, out)

/-- An angle in degrees brought into [0, 360). -/
def normDeg (d : Rat) : Rat := d - 360 * (d / 360).floor

/-- An angle in degrees as 2⁻¹⁶ turn. -/
def degToAz (d : Rat) : Nat := (roundRat (normDeg d * 65536 / 360)).toNat % 65536

/-- The lowest reason that holds (R191); 0 when present. -/
def ThrSt.reason (t : ThrSt) : Nat := ((List.range 8).find? (fun r => t.reasons.getLsbD r)).getD 0

/-- The thruster is removed. -/
def ThrSt.removed (t : ThrSt) : Bool := decide (t.reasons ≠ 0)

/-- Table 7-5: EFLAGS. -/
def ThrSt.eflags (t : ThrSt) (stale : Bool) : Nat :=
  (if t.removed then 1 else 0) + (if t.azHold || t.removed then 2 else 0) + (if t.clipped && !t.removed then 4 else 0) +
    (if t.inForb then 8 else 0) + (if t.noFb then 16 else 0) + (if stale then 32 else 0)

/-- Table 7-5: a thruster's element.  A removed thruster carries zero thrust with its azimuth held (R191). -/
def elementBytes (c : ThrCfg) (t : ThrSt) (stale : Bool) : List Byte :=
  let thrust := if t.removed then 0 else t.thrust
  let drive := if t.removed then (driveOf c 0).1 else t.drive
  let deg := fun (x : Rat) => leBytes 2 ((roundRat (normDeg x * 100)).toNat % 65536)
  le32 (satInt32 thrust) ++ leBytes 2 t.az ++ leBytes 2 (BitVec.ofInt 16 (clampInt (-32768) 32767 drive)).toNat ++
    [BitVec.ofNat 8 (t.eflags stale), BitVec.ofNat 8 t.reason] ++ leBytes 2 (min 65535 (roundRat (t.eta * 65536)).toNat) ++
    (if c.kind = .tunnel then [0, 0, 0, 0] else deg t.win.1 ++ deg t.win.2)

/-- R38, R191: a command that already waits for the emission is replaced by the zero command. -/
def State.zeroStaged (s : State) (i : Nat) : State := match s.thrCfg i with
  | none => s
  | some c =>
    let b := elementBytes c (s.thr i) s.alc.stale
    s.modChan 5 i (fun x => { x with staged := x.staged.map (fun y => if y.marker.isNone then { y with payload := b } else y) })

/-- The host's ALC_ENABLE bit of a thruster. -/
def State.alcEnabled (s : State) (i : Nat) : Bool := (s.rd Reg.ALC_ENABLE).getLsbD i

/-- R191: a thruster is removed for a reason of Table 7-3.  Reasons 1, 2 and 7 then need a new setting of its ALC_ENABLE bit,
except that for the START stop the bit that Acorn loaded counts (R296). -/
def State.thrRemove (s : State) (i reason : Nat) (start : Bool) : State :=
  if s.thrCount ≤ i then s
  else
    let k : BitVec 8 := BitVec.ofNat 8 (2 ^ reason)
    let asks := reason = 1 ∨ reason = 2 ∨ reason = 7
    let en := if asks then start && s.alcEnabled i else (s.thr i).enabled
    (s.modThr i (fun t => { t with reasons := t.reasons ||| k, cleared := t.cleared &&& ~~~k, enabled := en })).zeroStaged i

/-- The cause of a reason has cleared; it takes effect at the next frame start. -/
def State.thrClear (s : State) (i reason : Nat) : State :=
  let k : BitVec 8 := BitVec.ofNat 8 (2 ^ reason)
  if (s.thr i).reasons.getLsbD reason then s.modThr i (fun t => { t with cleared := t.cleared ||| k }) else s

/-- R191: the reasons that hold after a frame start. -/
def ThrSt.afterFrame (t : ThrSt) : BitVec 8 :=
  let host : BitVec 8 := 0x86
  let drop := if t.enabled then t.cleared else t.cleared &&& ~~~host
  t.reasons &&& ~~~drop

/-- R191, R192: re-admission at a frame start; the thruster starts from its reported actual thrust. -/
def State.thrReadmit (s : State) (i : Nat) : State :=
  let t := s.thr i
  if t.reasons = 0 then s
  else
    let r := t.afterFrame
    let s := s.modThr i (fun t => { t with reasons := r, cleared := t.cleared &&& r })
    if r = 0 then s.modThr i (fun t => { t with thrust := match t.fb with | some (x, _, _) => x | none => 0 }) else s

/-- ALC_ENABLE (R191): a set bit counts for every reason that asks for one; the change itself takes effect at the next frame
start (R204). -/
def State.alcEnableSet (s : State) (v : Word) : State :=
  (s.wr Reg.ALC_ENABLE v).each (List.range s.thrCount) fun i s =>
    if v.getLsbD i then s.modThr i (fun t => { t with enabled := true }) else s

/-- R191, R204: the ALC_ENABLE bit of a thruster takes effect at a frame start: HOST_DISABLED, or its end. -/
def State.alcEnableLatch (s : State) (i : Nat) : State :=
  if s.alcEnabled i then s.thrClear i 6
  else if (s.thr i).reasons.getLsbD 6 then s else s.thrRemove i 6 false

/-- The thrusters whose azimuth or pitch loop is `n`. -/
def State.loopThrusters (s : State) (n : Nat) : List Nat :=
  (List.range s.thrCount).filter (fun i => match s.thrCfg i with
    | some c => decide (c.azLoop = some n ∨ c.pitchLoop = some n)
    | none => false)

end Sys2Proof.Machine
end

