-- ==== Sys2Proof/Machine/TimeBase.lean ====
section
/-!
DEFINITION. Sys2Proof/Machine/TimeBase.lean: the time base (R353 to R373): the counter and its step, the PTP servo and master
handling, captures, and the commands that act on nothing else.
-/
namespace Sys2Proof.Machine

/-- Table 19-3: DATA of class 2 events. -/
def State.timeData (s : State) : List Byte :=
  le32 (s.rd Reg.TB_STAT) ++ le32 (s.rd Reg.TB_OFS) ++ le32 (s.rd Reg.TB_STEPL) ++ le32 (s.rd Reg.TB_STEPH) ++
    le32 (s.rd Reg.TB_GML) ++ le32 (s.rd Reg.TB_GMH)

/-- R373: a refused write of a time-base register. -/
def State.tbRefuse (s : State) (code addr : Nat) : State :=
  ((s.set Fld.TB_STAT_REFUSED 1).set Fld.TB_STAT_REF_CODE code).refuse 3 code addr

/-- R360: the state of the time base; PTP_OK is 1 in LOCKED and MASTER only. -/
def State.tbState (s : State) (n : Nat) : State :=
  (s.set Fld.TB_STAT_STATE n).setBit Fld.TB_STAT_PTP_OK (decide (n = 2 ∨ n = 4))

/-- Entry into HOLDOVER, counted in TB_CNT.HOLDOVERS; a run towards LOCKED ends (Table 14-2). -/
def State.tbHoldover (s : State) : State :=
  if s.get Fld.TB_STAT_STATE = 3 then s
  else ({ s with tb := { s.tb with lockRun := 0 } }.tbState 3).count Fld.TB_CNT_HOLDOVERS

/-- R353, R372: one tick: TB_INC, times 10 on the limp clock, is added to the count and its fraction; the operating time of
R475 runs on. -/
def State.tick (s : State) : State :=
  let limp := s.get Fld.TB_STAT_LIMP = 1
  let total := s.now * 2 ^ 24 + s.tb.frac + (s.rd Reg.TB_INC).toNat * (if limp then 10 else 1)
  let opt := s.tb.optNs + (if limp then 20 else 2)
  let s := s.setNow (total / 2 ^ 24 % 2 ^ 64)
  if opt < 62500000 then { s with tb := { s.tb with frac := total % 2 ^ 24, optNs := opt } }
  else { s with tb := { s.tb with frac := total % 2 ^ 24, optNs := opt - 62500000 } }.wr Reg.REC_OPTIME
    (s.rd Reg.REC_OPTIME + 1)

/-- The TIME section in force. -/
def State.timeCfg (s : State) : Option TimeCfg := s.cfg.map (·.time)

/-- R363: PTP runs on a port. -/
def State.ptpOn (s : State) (p : Nat) : Bool := match s.timeCfg with
  | some t => t.ptpEnabled.getD p false
  | none => false

/-- A PTP instance. -/
def State.ptp (s : State) (p : Nat) : PtpInst := s.tb.ports.getD p {}

/-- A PTP instance changed. -/
def State.modPtp (s : State) (p : Nat) (f : PtpInst → PtpInst) : State :=
  { s with tb := { s.tb with ports := s.tb.ports.modify p f } }

/-- R364: an instance whose port state is SLAVE and which has a Sync within two intervals can be selected. -/
def State.ptpUsable (s : State) (p : Nat) : Bool := s.get (Fld.TB_PTPSTATp_PORT_STATE p) = 9 && (s.ptp p).syncing

/-- R364: the selected instance: LAN A, else LAN B, else MGMT, else none (3). -/
def State.ptpSelect (s : State) : Nat :=
  if s.ptpUsable 0 then 0 else if s.ptpUsable 1 then 1 else if s.ptpUsable 2 then 2 else 3

/-- R364: the selection is made again: a change of instance is counted; with none selected a following part enters
HOLDOVER; with no SLAVE instance a MASTER instance makes the part MASTER. -/
def State.reselect (s : State) : State :=
  let old := s.get Fld.TB_STAT_SRC
  let new := s.ptpSelect
  let s := s.set Fld.TB_STAT_SRC new
  let s := if old ≠ new ∧ old ≠ 3 ∧ new ≠ 3 then s.count Fld.TB_CNT_SRC_CHANGES else s
  let st := s.get Fld.TB_STAT_STATE
  let s := if new = 3 ∧ (st = 1 ∨ st = 2 ∨ st = 5) then s.tbHoldover else s
  let is := fun p n => decide (s.get (Fld.TB_PTPSTATp_PORT_STATE p) = n)
  let slave := is 0 9 || is 1 9 || is 2 9
  let master := is 0 6 || is 1 6 || is 2 6
  if !slave && master && s.get Fld.TB_STAT_LIMP = 0 then s.tbState 4
  else if slave && s.get Fld.TB_STAT_STATE = 4 then (if s.get Fld.TB_STAT_STEPPED = 1 then s.tbHoldover else s.tbState 0)
  else s

/-- IEEE 1588 order of two masters: priority1, class, accuracy, variance, priority2, identity (log entry 21). -/
def dsBetter (a b : PtpDataset) : Bool :=
  let ka := [a.priority1, a.clockClass, a.accuracy, a.variance, a.priority2, a.identity.toNat, a.steps]
  let kb := [b.priority1, b.clockClass, b.accuracy, b.variance, b.priority2, b.identity.toNat, b.steps]
  decide (ka < kb)

/-- R364: no instance is MASTER while one is SLAVE: the others that would be are PASSIVE, and MASTER once none is. -/
def State.passiveMasters (s : State) : State :=
  let is := fun p n => decide (s.get (Fld.TB_PTPSTATp_PORT_STATE p) = n)
  if is 0 9 || is 1 9 || is 2 9 then
    s.each [0, 1, 2] (fun p s => if is p 6 then s.set (Fld.TB_PTPSTATp_PORT_STATE p) 7 else s)
  else s.each [0, 1, 2] (fun p s => if is p 7 then s.set (Fld.TB_PTPSTATp_PORT_STATE p) 6 else s)

/-- R363: an Announce: best-master selection on the instance. -/
def State.ptpAnnounce (s : State) (t : TimeCfg) (p : Nat) (ds : PtpDataset) : State :=
  let better := match (s.ptp p).parent with
    | none => true
    | some q => q.identity = ds.identity || dsBetter ds q
  let best := if better then some ds else (s.ptp p).parent
  let s := s.modPtp p (fun x => { x with parent := best })
  let own := match best with | some q => !t.slaveOnly && dsBetter t.own q | none => !t.slaveOnly
  let s := s.set (Fld.TB_PTPSTATp_PORT_STATE p) (if own then 6 else 9)
  s.passiveMasters.reselect

/-- R359: the rate that an offset asks for, 0x0200_0000 × (1 − d − o / T_CORR), rounded convergently. -/
def servoInc (d : Rat) (o : Int) (tCorrS : Nat) : Int :=
  let x : Rat := 33554432 * (1 - d - (o : Rat) / ((tCorrS : Rat) * 1000000000))
  roundDiv x.num x.den

/-- R359: an accepted offset measurement of the followed master updates d and TB_INC, and R360 moves the state. -/
def State.servo (s : State) (t : TimeCfg) (o : Int) : State :=
  let inc := (s.rd Reg.TB_INC).toNat
  let applied : Rat := (inc : Rat) / 33554432 - 1
  let d := match s.tb.lastO with
    | some (o0, t0) =>
      if s.now ≤ t0 then s.tb.d
      else s.tb.d + (((o - o0 : Int) : Rat) / ((s.now - t0 : Nat) : Rat) - applied - s.tb.d) / 8
    | none => s.tb.d
  let want := servoInc d o t.tCorrS
  let got := clampInt 0x01FFBE77 0x02004189 want
  let run := if o.natAbs ≤ t.lockThrNs then s.tb.lockRun + 1 else 0
  let s := { s with tb := { s.tb with d := d, lastO := some (o, s.now), lockRun := run } }
  let s := (s.wr Reg.TB_INC (BitVec.ofInt 32 got)).setBit Fld.TB_STAT_RATE_CLAMP (decide (got ≠ want))
  let st := s.get Fld.TB_STAT_STATE
  if st = 2 then (if 2 * t.lockThrNs < o.natAbs then s.tbState 1 else s)
  else if t.lockN ≤ run then s.tbState 2 else s.tbState 1

/-- R357: the offset asks for a step S = −o at the next frame start; a master adopted after the first is counted (Table 14-7). -/
def State.askStep (s : State) (gm : Dword) (o : Int) : State :=
  if s.tb.step.isSome then s
  else
    let s := if s.tb.followed.isSome ∧ s.tb.followed ≠ some gm then s.count Fld.TB_CNT_GM_CHANGES else s
    { s with tb := { s.tb with step := some (-o), followed := some gm } }

/-- R361: native mode: a new or changed master is compared with TB_JUMP_LIM; an unchanged one is always slewed. -/
def State.nativeMaster (s : State) (t : TimeCfg) (gm : Dword) (o : Int) : State :=
  if s.tb.followed = some gm then
    let s := { s with tb := { s.tb with refused := none } }
    (s.set Fld.TB_STAT_MASTER_REFUSED 0).servo t o
  else if o.natAbs ≤ s.get Fld.TB_JUMP_LIM_LIM then
    let s := { s with tb := { s.tb with refused := none, followed := some gm, lastO := none } }
    ((s.set Fld.TB_STAT_MASTER_REFUSED 0).count Fld.TB_CNT_GM_CHANGES).servo t o
  else if s.tb.refused = some gm then s
  else
    let s := { s with tb := { s.tb with refused := some gm } }
    let s := ((s.set Fld.TB_STAT_MASTER_REFUSED 1).count Fld.TB_CNT_REFUSALS).tbHoldover
    s.raise 0x1002 0 s.timeData

/-- R362: ZP1608-compatible mode. -/
def State.compatMaster (s : State) (t : TimeCfg) (gm : Dword) (o : Int) : State :=
  let st := s.get Fld.TB_STAT_STATE
  if st = 5 then s.askStep gm o
  else if st = 1 ∨ st = 2 then (if s.tb.followed = some gm then s.servo t o else s.tbHoldover)
  else s

/-- R357 to R362: one offset measurement of the selected instance. -/
def State.measure (s : State) (t : TimeCfg) (p : Nat) : State :=
  match (s.ptp p).sync, (s.ptp p).mpd with
  | some (gm, t1, t2), some mpd =>
    if s.get Fld.TB_STAT_SRC ≠ p ∨ s.get Fld.TB_STAT_LIMP = 1 then s
    else
      let o := t2 - t1 - mpd
      let s := (s.wr Reg.TB_OFS (satInt32 o)).wr Reg.TB_MPD (satInt32 mpd)
      let s := (s.wr Reg.TB_GML (BitVec.ofNat 32 gm.toNat)).wr Reg.TB_GMH (BitVec.ofNat 32 (gm.toNat / 2 ^ 32))
      if s.get Fld.TB_STAT_STEPPED = 0 then s.askStep gm o
      else if s.get Fld.TB_STAT_COMPAT = 1 then s.compatMaster t gm o
      else s.nativeMaster t gm o
  | _, _ => s

/-- R363, R364: a complete Sync of the instance's master. -/
def State.ptpSync (s : State) (t : TimeCfg) (p : Nat) (gm : Dword) (t1 t2 : Int) : State :=
  ((s.modPtp p (fun x => { x with sync := some (gm, t1, t2), twoStep := none, syncing := true })).reselect).measure t p

/-- R366: the ingress stamp of a PTP event message: the present time less RXLAT. -/
def State.ptpIngress (s : State) (p : Nat) : Int := (s.now : Int) - s.get (Fld.TB_PTPLATp_RXLAT p)
/-- R366: the egress stamp: the present time plus TXLAT. -/
def State.ptpEgress (s : State) (p : Nat) : Int := (s.now : Int) + s.get (Fld.TB_PTPLATp_TXLAT p)

/-- The instance follows this grandmaster. -/
def State.ptpFollows (s : State) (p : Nat) (gm : Dword) : Bool :=
  s.get (Fld.TB_PTPSTATp_PORT_STATE p) = 9 && (s.ptp p).parent.map (·.identity) = some gm

/-- PTP_MESSAGE_RX (R363): a received message, stamped at the port.  DEDUCED (log entry 156): each complete Sync makes one offset
measurement; a delay measurement makes one only if it is the first of the instance (R357). -/
def State.ptpRx (s : State) (p : Nat) (m : PtpMsg) : State := match s.timeCfg with
  | none => s
  | some t =>
    if !s.ptpOn p then s else match m with
    | .unsupported => s
    | .announce ds => s.ptpAnnounce t p ds
    | .sync gm seq two t1 =>
      if s.ptpFollows p gm then
        let s := s.countWrap (Fld.TB_PTPSTATp_SYNC_RX p)
        if two then s.modPtp p (fun x => { x with twoStep := some (gm, seq, s.ptpIngress p), syncing := true })
        else s.ptpSync t p gm t1 (s.ptpIngress p)
      else s
    | .followUp gm seq t1 => match (s.ptp p).twoStep with
      | some (g, q, t2) => if g = gm ∧ q = seq ∧ s.ptpFollows p gm then s.ptpSync t p gm t1 t2 else s
      | none => s
    | .delayReq _ seq =>
      if s.get (Fld.TB_PTPSTATp_PORT_STATE p) = 6 then
        { s with tb := { s.tb with out := s.tb.out ++ [(p, 3, seq, s.ptpIngress p)] } }
      else s
    | .delayResp gm seq t4 => match (s.ptp p).delayReq, (s.ptp p).sync with
      | some (q, t3), some (_, t1, t2) =>
        if q = seq ∧ s.ptpFollows p gm then
          let mpd := (t2 - t1 + (t4 - t3)) / 2
          let first := (s.ptp p).mpd.isNone
          let s := s.modPtp p (fun x => { x with mpd := some mpd, delayReq := none })
          if first then s.measure t p else if s.get Fld.TB_STAT_SRC = p then s.wr Reg.TB_MPD (satInt32 mpd) else s
        else s
      | _, _ => s

/-- PTP_MESSAGE_DUE (R363): Sync and Announce go out as master, Delay_Req as slave. -/
def State.ptpDue (s : State) (p : Nat) (k : PtpDue) : State :=
  let st := s.get (Fld.TB_PTPSTATp_PORT_STATE p)
  let seq := (s.ptp p).seq
  let send := fun (s : State) (kind : Nat) =>
    { (s.modPtp p (fun x => { x with seq := seq + 1 })) with tb := { (s.modPtp p (fun x => { x with seq := seq + 1 })).tb with
        out := s.tb.out ++ [(p, kind, seq, s.ptpEgress p)] } }
  if !s.ptpOn p then s
  else match k with
    | .sync => if st = 6 then send s 0 else s
    | .announce => if st = 6 then send s 1 else s
    | .delayReq =>
      if st = 9 then (send s 2).modPtp p (fun x => { x with delayReq := some (seq, s.ptpEgress p) }) else s

/-- ANNOUNCE_TIMEOUT (R363, R364): the instance's master is gone; it listens, or is master while no instance is SLAVE. -/
def State.announceTimeout (s : State) (p : Nat) : State := match s.timeCfg with
  | none => s
  | some t =>
    if !s.ptpOn p then s
    else
      let s := s.modPtp p (fun x => { x with parent := none, sync := none, twoStep := none, syncing := false })
      let s := s.set (Fld.TB_PTPSTATp_PORT_STATE p) 4
      let is := fun q => decide (s.get (Fld.TB_PTPSTATp_PORT_STATE q) = 9)
      let s := if t.slaveOnly || is 0 || is 1 || is 2 then s else s.set (Fld.TB_PTPSTATp_PORT_STATE p) 6
      s.passiveMasters.reselect

/-- SYNC_LOSS (R364): the instance has had no Sync for two intervals. -/
def State.syncLoss (s : State) (p : Nat) : State :=
  if s.ptpOn p ∧ (s.ptp p).syncing then
    ((s.modPtp p (fun x => { x with syncing := false })).countBy (Fld.TB_PTPSTATp_SYNC_MISS p) 2).reselect
  else s

/-- R367: the TIME of a comparator has passed. -/
def State.compPassed (s : State) (m : Nat) : Bool :=
  (s.rd Reg.TB_NS - s.rd (Reg.TB_TRIGm_TIME m)).toNat < 2 ^ 31

/-- R367: a comparator is enabled. -/
def State.compOn (s : State) (m : Nat) : Bool := s.get Fld.TB_TRIGEN_EN / 2 ^ m % 2 = 1

/-- R358, R367: after a step an ABS comparator keeps its TIME; a periodic one whose TIME has passed skips to the first
future time, a one-shot one is late. -/
def State.absComparator (m : Nat) (s : State) : State :=
  if s.get (Fld.TB_TRIGm_CFG_ABS m) = 1 ∧ s.compOn m ∧ s.compPassed m then
    let per := (s.rd (Reg.TB_TRIGm_PER m)).toNat
    if per = 0 then s.set (Fld.TB_TRIGm_STAT_LATE m) 1
    else
      let gap := (s.rd Reg.TB_NS - s.rd (Reg.TB_TRIGm_TIME m)).toNat
      (s.wr (Reg.TB_TRIGm_TIME m)
        (s.rd (Reg.TB_TRIGm_TIME m) + BitVec.ofNat 32 ((gap / per + 1) * per))).set (Fld.TB_TRIGm_STAT_SKIPPED m) 1
  else s

/-- R358: a comparator without ABS moves with the counter. -/
def State.shiftComparator (d : Word) (m : Nat) (s : State) : State :=
  if s.get (Fld.TB_TRIGm_CFG_ABS m) = 1 then s
  else s.wr (Reg.TB_TRIGm_TIME m) (s.rd (Reg.TB_TRIGm_TIME m) + d)

/-- A held time moved by S, modulo 2⁶⁴. -/
def shiftTime (S : Int) (t : Nat) : Nat := (((t : Int) + S) % (2 ^ 64 : Int)).toNat

/-- R358: the stamps that the PTP instances hold. -/
def shiftPtp (S : Int) (x : PtpInst) : PtpInst :=
  { x with sync := x.sync.map (fun y => (y.1, y.2.1, y.2.2 + S)), twoStep := x.twoStep.map (fun y => (y.1, y.2.1, y.2.2 + S)),
           delayReq := x.delayReq.map (fun y => (y.1, y.2 + S)) }

/-- R370: the VAL and LEVEL of a capture unit show its FIFO. -/
def State.capSync (s : State) (m : Nat) : State :=
  let q := cellsGet [] s.tb.fifos m
  (s.wr (Reg.TB_CAPm_VAL m) (q.headD 0)).set (Fld.TB_CAPm_STAT_LEVEL m) q.length

/-- R370: a capture: the stamp goes to the unit's consumer and into its 4-entry FIFO; a full FIFO drops its oldest entry,
sets OVR and counts. -/
def State.capture (s : State) (m : Nat) : State :=
  let q := cellsGet [] s.tb.fifos m
  let full := decide (4 ≤ q.length)
  let q := (if full then q.tail else q) ++ [s.rd Reg.TB_NS]
  let s := { s with tb := { s.tb with fifos := cellsSet [] s.tb.fifos m q, capLast := cellsInsert m s.now s.tb.capLast } }
  let s := if full then (s.set (Fld.TB_CAPm_STAT_OVR m) 1).count (Fld.TB_CAPm_STAT_OVR_CNT m) else s
  s.capSync m

/-- R370: an edge qualifies for a capture unit: it has the chosen direction and outlasts MINW. -/
def State.captureTakes (s : State) (m : Nat) (rising : Bool) (widthNs : Nat) : Bool :=
  let e := s.get (Fld.TB_CAPm_CFG_EDGE m)
  (e = 3 || (e = 1 && rising) || (e = 2 && !rising)) && decide (2 * s.get (Fld.TB_CAPm_CFG_MINW m) < widthNs)

/-- TB_CAPm_VAL (R370): a read removes the oldest FIFO entry. -/
def State.capRead (s : State) (m : Nat) : State :=
  ({ s with tb := { s.tb with fifos := cellsSet [] s.tb.fifos m (cellsGet [] s.tb.fifos m).tail } }).capSync m

/-- TB_NS (R355): a read latches the fraction into TB_SUBNS. -/
def State.nsRead (s : State) : State := s.wr Reg.TB_SUBNS (BitVec.ofNat 32 s.tb.frac)

/-- R373: every PTP instance is disabled. -/
def State.ptpAllOff (s : State) : Bool := !s.ptpOn 0 && !s.ptpOn 1 && !s.ptpOn 2

/-- TB_INC (R354, R373): a host write. -/
def State.tbIncWrite (s : State) (v : Word) : State :=
  let st := s.get Fld.TB_STAT_STATE
  if v = s.rd Reg.TB_INC then s
  else if !(((st = 0 || st = 3) && s.get Fld.TB_STAT_MASTER_REFUSED = 0) || s.ptpAllOff) then s.tbRefuse 1 Reg.TB_INC
  else if v.toNat < 0x01FFBE77 ∨ 0x02004189 < v.toNat then s.tbRefuse 2 Reg.TB_INC
  else s.wr Reg.TB_INC v

/-- TB_JUMP_LIM (R361, R373): 100 ns to 100,000 ns. -/
def State.tbJumpLimWrite (s : State) (v : Word) : State :=
  let n := v.toNat % 2 ^ 17
  if n < 100 ∨ 100000 < n then s.tbRefuse 2 Reg.TB_JUMP_LIM else s.set Fld.TB_JUMP_LIM_LIM n

/-- TB_CTRL.REARM (R361, R362). -/
def State.tbRearm (s : State) : State :=
  if s.get Fld.TB_STAT_COMPAT = 0 then s.tbRefuse 3 Reg.TB_CTRL
  else if s.get Fld.TB_STAT_STATE = 3 then s.tbState 5 else s

/-- TB_CTRL.CNT_CLR (R373): TB_CNT and the capture overflow counts. -/
def State.tbCntClr (s : State) : State :=
  (s.wr Reg.TB_CNT 0).each (List.range 16) (fun m s => s.set (Fld.TB_CAPm_STAT_OVR_CNT m) 0)

/-- TB_TRIGEN (R367): comparators 1 to 15 enabled or disabled; one enabled with its TIME already passed is late. -/
def State.compEnable (s : State) (v : Word) : State :=
  let old := s.get Fld.TB_TRIGEN_EN
  let new := v.toNat % 2 ^ 16 / 2 * 2 + 1
  (s.set Fld.TB_TRIGEN_EN new).each (List.range 16) fun m s =>
    if m ≠ 0 ∧ new / 2 ^ m % 2 = 1 ∧ old / 2 ^ m % 2 = 0 ∧ s.compPassed m then s.set (Fld.TB_TRIGm_STAT_LATE m) 1 else s

/-- R367: a due comparator fires: FIRES counts, and TIME advances by PER, or the comparator disables itself. -/
def State.compFire (s : State) (m : Nat) : State :=
  let s := s.countWrap (Fld.TB_TRIGm_STAT_FIRES m)
  let per := s.rd (Reg.TB_TRIGm_PER m)
  if per = 0 then s.set Fld.TB_TRIGEN_EN (s.get Fld.TB_TRIGEN_EN - 2 ^ m)
  else s.wr (Reg.TB_TRIGm_TIME m) (s.rd (Reg.TB_TRIGm_TIME m) + per)

/-- R369: a TRIG_OUT pulse starts, or starts again, at its active level. -/
def State.trigPulse (s : State) (m : Nat) : State :=
  let o := s.get (Fld.TB_TRIGm_CFG_TOUT m)
  let k : BitVec 8 := BitVec.ofNat 8 (2 ^ o)
  let act := s.tb.trigActive ||| k
  let pol := if s.get (Fld.TB_TRIGm_CFG_POL m) = 1 then s.tb.trigPol ||| k else s.tb.trigPol &&& ~~~k
  { s with tb := { s.tb with trigActive := act, trigPol := pol } }

/-- TRIG_PULSE_END (R369): the output returns to its inactive level. -/
def State.trigPulseEnd (s : State) (o : Nat) : State :=
  { s with tb := { s.tb with trigActive := s.tb.trigActive &&& ~~~(BitVec.ofNat 8 (2 ^ o)) } }

/-- R369: the level at TRIG_OUT[o]. -/
def State.trigLevel (s : State) (o : Nat) : Bool := Bool.xor (s.tb.trigActive.getLsbD o) (s.tb.trigPol.getLsbD o)

/-! The commands. -/

/-- TRIG_PULSE_END (R369). -/
def execTrigPulseEnd (o : Fin 8) (s : State) : Host.Outcome State Fault Refusal :=
  .next (s.running (fun s => s.trigPulseEnd o))
/-- CAPTURE_EDGE (R370): an edge of the source chosen in TB_CAPm_CFG. -/
def execCaptureEdge (m : Fin 16) (rising : Bool) (widthNs : Nat) (s : State) : Host.Outcome State Fault Refusal :=
  .next (s.running (fun s => if s.captureTakes m rising widthNs then s.capture m else s))
/-- PTP_MESSAGE_RX (R363). -/
def execPtpMessageRx (p : Fin 3) (m : PtpMsg) (s : State) : Host.Outcome State Fault Refusal :=
  .next (s.running (fun s => s.ptpRx p m))
/-- PTP_MESSAGE_DUE (R363). -/
def execPtpMessageDue (p : Fin 3) (k : PtpDue) (s : State) : Host.Outcome State Fault Refusal :=
  .next (s.running (fun s => s.ptpDue p k))
/-- ANNOUNCE_TIMEOUT (R363). -/
def execAnnounceTimeout (p : Fin 3) (s : State) : Host.Outcome State Fault Refusal :=
  .next (s.running (fun s => s.announceTimeout p))
/-- SYNC_LOSS (R364). -/
def execSyncLoss (p : Fin 3) (s : State) : Host.Outcome State Fault Refusal :=
  .next (s.running (fun s => s.syncLoss p))
/-- TB_REARM (R362). -/
def execTbRearm (s : State) : Host.Outcome State Fault Refusal := .next (s.running State.tbRearm)
/-- TB_INC_WRITE (R354). -/
def execTbIncWrite (v : Word) (s : State) : Host.Outcome State Fault Refusal :=
  .next (s.running (fun s => s.tbIncWrite v))
/-- TB_JUMP_LIM_WRITE (R361). -/
def execTbJumpLimWrite (v : Word) (s : State) : Host.Outcome State Fault Refusal :=
  .next (s.running (fun s => s.tbJumpLimWrite v))
/-- TB_CNT_CLR (R373). -/
def execTbCntClr (s : State) : Host.Outcome State Fault Refusal := .next (s.running State.tbCntClr)
/-- COMPARATOR_ENABLE (R367). -/
def execComparatorEnable (v : Word) (s : State) : Host.Outcome State Fault Refusal :=
  .next (s.running (fun s => s.compEnable v))
/-- TB_NS_READ (R355). -/
def execTbNsRead (s : State) : Host.Outcome State Fault Refusal := .next (s.running State.nsRead)
/-- TB_CAP_VAL_READ (R370). -/
def execTbCapValRead (m : Fin 16) (s : State) : Host.Outcome State Fault Refusal :=
  .next (s.running (fun s => s.capRead m))

end Sys2Proof.Machine
end

