-- ==== Sys2Proof/Machine/Fusion.lean ====
section
/-!
DEFINITION. Sys2Proof/Machine/Fusion.lean: reference fusion (R82 to R119): how samples arrive and are stamped, the work at
intake close, the votes and tests, the observer's updates and the estimator's states.
-/
namespace Sys2Proof.Machine

/-- The FUSION section. -/
def State.fusCfg (s : State) : Option FusCfg := s.cfg.map (·.fus)

/-- The section entry of a slot; slots 28 to 31 are the targets (R136). -/
def State.srcCfg (s : State) (slot : Nat) : Option SrcCfg :=
  s.cfg.bind (fun c => if slot < 28 then c.fus.src[slot]? else c.ctl.targets[slot - 28]?)

/-- A source. -/
def State.src (s : State) (slot : Nat) : SrcSt := cellsGet {} s.fus.src slot

/-- A source changed. -/
def State.modSrc (s : State) (slot : Nat) (f : SrcSt → SrcSt) : State :=
  { s with fus := { s.fus with src := cellsSet {} s.fus.src slot (f (cellsGet {} s.fus.src slot)) } }

/-- Table 4-1: the slot of a channel type and index. -/
def slotOf (typ idx : Nat) : Option Nat :=
  if typ = 1 then some idx else if typ = 2 then some (16 + idx) else if typ = 3 then some (20 + idx)
  else if typ = 4 then some (24 + idx) else if typ = 12 then some (28 + idx) else none

/-- The fraction count of sines and cosines, whose bound is 1 (R77). -/
def State.unitBits (s : State) : Nat := match s.cfg with
  | some c => fracBits c.ctl.qhead 1
  | none => 30

/-- R108: the conditions of re-admission hold or not, and since when. -/
def SrcSt.hold (x : SrcSt) (now : Nat) (ok : Bool) : SrcSt := { x with ok := ok, okAt := if x.ok then x.okAt else now }

/-- R26, R368: the frame length is the period of comparator 0, in ns. -/
def State.frameNs (s : State) : Nat := (s.rd (Reg.TB_TRIGm_PER 0)).toNat

/-! Arrival. -/

/-- R138: in TRIALS the source that a slot's samples stand for: an injected one takes the place of the declared one. -/
def State.injected (s : State) (k : Nat) : Option Nat :=
  let rs := match s.cfg.bind (fun c => c.ctl.overlays.find? (fun o => decide (o.mode = 11))) with
    | some o => if s.get Fld.CTL_MODESTAT_MODE = 11 then o.replaced else []
    | none => []
  match rs.find? (fun x => decide (x.2 = k)) with
  | some x => some x.1
  | none => if rs.any (fun x => decide (x.1 = k)) then none else some k

/-- R83: a sample arrives at a source whose channel is LIVE. -/
def State.arrive (s : State) (typ idx : Nat) (r : RawSample) : State := match (slotOf typ idx).bind s.injected with
  | none => s
  | some k => if s.chanLive typ idx then s.modSrc k (fun x => { x with inbox := x.inbox ++ [r] }) else s

/-- R143: a fresh sample of the source that the mode in use takes (log entry 39) clears SRC_LOST and the ramp. -/
def State.sourceUsed (s : State) (modes : List Nat) : State :=
  if s.get Fld.CTL_MODESTAT_MODE ∈ modes ∨ s.get Fld.CTL_MODESTAT_MODE = 11 then
    { s with ctl := { s.ctl with srcLost := false, rampFrom := none } }
  else s

/-- R143: a joystick sample is used at once. -/
def State.joystick (s : State) (idx : Nat) (v : List Int) : State :=
  if s.chanLive 13 idx ∧ s.cfg.bind (fun c => c.ctl.joystick) = some idx then
    { s with ctl := { s.ctl with joy := some (v.getD 0 0, v.getD 1 0, v.getD 2 0), joyAt := some s.now } }.sourceUsed [2, 3]
  else s

/-- R143: a lever sample for a thruster. -/
def State.lever (s : State) (idx thr : Nat) (v : List Int) : State :=
  if s.chanLive 13 idx ∧ s.cfg.bind (fun c => c.ctl.lever) = some idx then
    let l : Lever := { thrust := v.getD 0 0, az := (v.getD 1 0).toNat, drive := v.getD 2 0 }
    { s with ctl := { s.ctl with levers := cellsInsert thr (some l) s.ctl.levers, levAt := some s.now } }.sourceUsed [1]
  else s

/-- R124: a power message: reported P_avail of sections 0 to 7, kW; it clears PMS_LOST. -/
def State.powerMsg (s : State) (v : List Nat) : State := { s with ctl := { s.ctl with pms := some v, pmsLost := false } }

/-- R330: a drive feedback payload waits for the allocation. -/
def State.driveMsg (s : State) (i : Nat) (b : List Byte) : State :=
  { s with alc := { s.alc with inbox := s.alc.inbox ++ [(i, b)] } }

/-- A reading of a record or sentence reaches the consumer of its channel; only a source declared own-clock is mapped by its own
time (Table 4-2). -/
def State.consume (s : State) (typ idx : Nat) (arrival : Int) (direct : Bool) (stamped : Option Int) (r : Reading) : State :=
  if typ = 13 then
    if s.cfg.bind (fun c => c.ctl.joystick) = some idx then s.joystick idx r.vals
    else s.lever idx (r.vals.getD 3 0).toNat r.vals
  else
    let own := match (slotOf typ idx).bind s.srcCfg with
      | some c => if c.ownClock then r.srcTime else none
      | none => none
    s.arrive typ idx { arrival := arrival, direct := direct, own := own, stamped := stamped, qual := r.qual, vals := r.vals }

/-- R85: the stamp of a sentence by the latest PPS capture: taken at most 1.5 s before the start bit, on the second that the
sentence names, plus the fraction of its time field.  `utc` is that fraction in ns, where the latest capture lies on the UTC second
that the field names; the part holds no UTC (log entry 128). -/
def State.ppsStamp (s : State) (m : Nat) (arrival : Int) (utc : Option Nat) : Option Int :=
  match s.tb.capLast.find? (fun e => decide (e.1 = m)), utc with
  | some (_, t), some frac => if (t : Int) ≤ arrival ∧ arrival ≤ t + 1500000000 then some (t + frac) else none
  | _, _ => none

/-- R83, R85: a sentence from a source: by its PPS input where one is declared, otherwise as a serial source; a miss counts. -/
def State.sentence (s : State) (typ idx : Nat) (arrival : Int) (utc : Option Nat) (r : Reading) : State :=
  match ((slotOf typ idx).bind s.srcCfg).bind (·.pps) with
  | none => s.consume typ idx arrival false none r
  | some m => match s.ppsStamp m arrival utc with
    | some t => s.consume typ idx arrival false (some t) { r with srcTime := none }
    | none => (s.count Fld.FUS_TCNT_PPS_MISS).consume typ idx arrival false none { r with srcTime := none }

/-- UART_SENTENCE (R83, R85, R89): a sentence whose start bit was captured `startNs` ago; a bad checksum counts at its port. -/
def State.uartSentence (s : State) (port startNs : Nat) (ok : Bool) (utc : Option Nat) (r : Reading) : State :=
  match s.cfg.bind (fun c => c.uart[port]?) with
  | none => s
  | some (typ, idx) =>
    if !ok then
      { s with fus := { s.fus with uartErr := cellsSet 0 s.fus.uartErr port (cellsGet 0 s.fus.uartErr port + 1) } }
    else s.sentence typ idx ((s.now : Int) - startNs) utc r

/-- E450_DATAGRAM (R347): sentences of one datagram, each with whether its checksum holds. -/
def State.e450Datagram (s : State) (startNs : Nat) (source : List Byte) (binary : Bool)
    (xs : List (Bool × Option Nat × Reading)) : State :=
  match s.cfg.bind (fun c => c.net.e450Sources.find? (fun x => decide (x.1 = source))) with
  | none => s.count Fld.ETH_E450CNT_UNKNOWN
  | some (_, typ, idx) =>
    if binary then s.count Fld.ETH_E450CNT_UNKNOWN
    else s.each xs fun x s =>
      if x.1 then (s.count Fld.ETH_E450CNT_RX_SENT).sentence typ idx ((s.now : Int) - startNs) x.2.1 x.2.2
      else s.count Fld.ETH_E450CNT_CKSUM

/-- Table 13-5: the body length of each KIND. -/
def bodyLen (kind : Nat) : Nat :=
  if kind = 1 ∨ kind = 4 then 16 else if kind = 2 then 12 else if kind = 3 ∨ kind = 7 ∨ kind = 8 then 8
  else if kind = 5 then 4 else if kind = 6 then 20 else if kind = 9 then 24 else if kind = 10 then 32 else 0

/-- Table 13-5: the values of an item's body. -/
def bodyVals (kind : Nat) (b : List Byte) : List Int :=
  let i32 := fun k => fieldOf b k 4 true
  let u16 := fun k => fieldOf b k 2 false
  let i16 := fun k => fieldOf b k 2 true
  if kind = 1 then [i32 0, i32 4, i32 8, u16 12]
  else if kind = 2 then [i32 0, i32 4, u16 8]
  else if kind = 3 then [fieldOf b 0 4 false, i32 4]
  else if kind = 4 then [i32 0, i32 4, i32 8, i32 12]
  else if kind = 5 then [u16 0, u16 2]
  else if kind = 6 then [i32 0, i32 4, fieldOf b 8 4 false, i32 12, i32 16]
  else if kind = 7 then [i16 0, i16 2, i16 4]
  else if kind = 8 then [i16 0, u16 2, i16 4]
  else (List.range 8).map (fun k => fieldOf b (4 * k) 4 false)

/-- R351: one item of a SENSOR frame. -/
def State.sensorItem (s : State) (port : Nat) (synced : Bool) (sender : Nat) (time : Int) (x : SensorItem) : State :=
  match s.cfg.bind (fun c => c.net.sensors.find? (fun b =>
      decide (b.port = port ∧ b.sender = sender ∧ b.kind = x.kind.toNat ∧ b.index = x.index.toNat))) with
  | none => s.count Fld.ETH_OWNCNT_UNKNOWN_ITEM
  | some b =>
    if x.body.length ≠ bodyLen b.kind then s.count Fld.ETH_OWNCNT_BAD_ITEM
    else
      let v := bodyVals b.kind x.body
      let t := time + x.dt
      if b.kind = 10 then s.powerMsg (v.map (·.toNat))
      else if b.kind = 9 then s.driveMsg b.index x.body
      else if b.kind = 8 then s.lever b.chan b.index v
      else if b.kind = 7 then s.joystick b.chan v
      else s.arrive b.typ b.chan { arrival := s.now, own := if synced then none else some t,
                                   stamped := if synced then some (t + (s.rd Reg.TB_OFS).toInt) else none,
                                   qual := x.qual.toNat, vals := v }

/-- SENSOR_FRAME (R349, R351). -/
def State.sensorFrame (s : State) (port ver typ : Nat) (synced : Bool) (sender : Nat) (time : Int) (items : List SensorItem)
    (overrun : Bool) : State :=
  if ver ≠ 1 ∨ typ ≠ 2 ∨ items = [] ∨ 32 < items.length ∨ overrun then s.count Fld.ETH_OWNCNT_BAD_FRAME
  else s.each items (fun x s => s.sensorItem port synced sender time x)

/-! Placing samples in time. -/

/-- R83, R86: the stamp of a raw sample, its alignment residual if it is tested, and the source with its mapping moved.  The
residual's slope is the residual over the source time since t_anchor, the source time of the first pair (DESIGN CHOICE, log
entry 129). -/
def alignSample (c : SrcCfg) (x : SrcSt) (r : RawSample) : Int × Option Int × SrcSt :=
  let base := r.arrival - c.latNs
  if r.direct then (r.arrival, none, x)
  else match r.stamped, r.own with
  | some t, _ => (t, some (base - t), x)
  | none, none => (base, none, x)
  | none, some t => match x.off with
    | none => (base, some 0, { x with off := some ((base - t : Int) : Rat), anchor := t, reseed := false })
    | some off =>
      let mapped : Rat := (t : Rat) + off + x.drift * ((t - x.anchor : Int) : Rat)
      let res : Rat := (base : Rat) - mapped
      let slope : Rat := if t = x.anchor then 0 else res / ((t - x.anchor : Int) : Rat)
      (roundRat mapped, some (roundRat res),
        { x with off := some (off + if x.reseed then res else res / 16), drift := x.drift + slope / 256, reseed := false })

/-- R87: the quarantine test of a residual. -/
def State.residual (s : State) (k : Nat) (res : Int) : State :=
  let s := s.modSrc k (fun x => { x with resid := res })
  if s.frameNs < res.natAbs then
    let s := if (s.src k).st = 4 then s else s.count Fld.FUS_TCNT_UNALIGNED
    s.modSrc k (fun x => { x with
      under := if x.st = 4 then x.under else if x.st = 3 then some x.reason else none
      st := 4, reason := 8, clean := 0, reseed := true })
  else if 2 * res.natAbs ≤ s.frameNs then s.modSrc k (fun x => { x with clean := min (x.clean + 1) 255 })
  else s.modSrc k (fun x => { x with clean := 0 })

/-- R105: the run of equal raw values: the arrivals of its first and its latest sample. -/
def SrcSt.rawRun (x : SrcSt) (r : RawSample) : SrcSt :=
  { x with
    raw := r.vals
    sameFrom := some (match x.sameFrom with
      | some (a, _) => if x.raw = r.vals then (a, r.arrival) else (r.arrival, r.arrival)
      | none => (r.arrival, r.arrival)) }

/-- R105: raw values bit-identical for FROZEN_T. -/
def SrcSt.frozen (x : SrcSt) (c : SrcCfg) : Bool := match x.sameFrom with
  | some (a, b) => decide (a < b ∧ (c.frozenNs : Int) ≤ b - a)
  | none => false

/-- R86, R87, R89: one raw sample: it is stamped, tested and either kept, with the samples so far, or discarded.  A rejected
source keeps the reason of its rejection (Table 4-18). -/
def State.takeRaw (k : Nat) (c : SrcCfg) (a : State × List Sample) (r : RawSample) : State × List Sample :=
  let s := a.1
  if r.qual = 0 then (s.modSrc k (fun x => { x with reason := if x.st = 1 then 6 else x.reason }), a.2)
  else
    let (stamp, res, x) := alignSample c (s.src k) r
    let s := s.modSrc k (fun _ => x.rawRun r)
    let s := match res with | some e => s.residual k e | none => s
    if r.arrival + 1000000 < stamp then (s.count Fld.FUS_TCNT_TIME_AHEAD, a.2)
    else if stamp ∈ (s.src k).stamps then (s.count Fld.FUS_TCNT_DUP_STAMP, a.2)
    else
      let s := s.modSrc k (fun x => { x with stamps := x.stamps ++ [stamp] })
      if (s.src k).st = 4 then (s, a.2) else (s, a.2 ++ [{ stamp := stamp, qual := r.qual, vals := r.vals }])

/-- The samples of a source's intake. -/
def State.takeInbox (s : State) (k : Nat) : State × List Sample := match s.srcCfg k with
  | none => (s, [])
  | some c =>
    let rs := (s.src k).inbox
    rs.foldl (State.takeRaw k c) (s.modSrc k (fun x => { x with inbox := [] }), [])

/-! The observer's state. -/

/-- The calibration values in force, in µm or 10⁻⁶°; the section's initial values before any epoch. -/
def State.calVals (s : State) (c : FusCfg) : List Rat :=
  if s.fus.cal.length = (fusCals c).length then s.fus.cal else (fusCals c).map (fun d => (d.init : Rat))

/-- The observer's state, with the calibration values in force.  The spec gives no first state: it is `start` (log entry 125). -/
def State.obsState (s : State) (c : FusCfg) (start : List Rat) : List Rat :=
  let base := ((if s.fus.obs = [] then start else s.fus.obs) ++ List.replicate 15 (0 : Rat)).take 15
  base ++ ((fusCals c).zip (s.calVals c)).map (fun x => calSi x.1 x.2)

/-- Its covariance; at first that of the section. -/
def State.obsCov (s : State) (c : FusCfg) : List Vec :=
  if s.fus.cov.length = 15 + (fusCals c).length then s.fus.cov
  else matDiag ((List.range 15).map (fun i => c.obs.p0.getD i 0) ++ (fusCals c).map (·.p0))

/-! Bringing samples to the epoch. -/

/-- A difference on the shorter arc of modulus `m`; plain where `m` is 0. -/
def arcDiff (m : Nat) (d : Rat) : Rat := if m = 0 then d else d - (m : Rat) * ((d + (m : Rat) / 2) / (m : Rat)).floor

/-- Table 13-5: the arc modulus of each value of a source of a slot: headings, wind directions and target headings. -/
def arcOf (k i : Nat) : Nat :=
  if 16 ≤ k ∧ k < 20 ∧ i = 0 then 2 ^ 32 else if 24 ≤ k ∧ k < 28 ∧ i = 1 then 2 ^ 16
  else if 28 ≤ k ∧ i = 2 then 2 ^ 32 else 0

/-- R91: linear interpolation between two samples at the epoch instant. -/
def interpolate (k : Nat) (t : Int) (a b : Sample) : List Rat :=
  let f : Rat := ((t - a.stamp : Int) : Rat) / ((b.stamp - a.stamp : Int) : Rat)
  a.vals.zipIdx.map (fun (v, i) => (v : Rat) + f * arcDiff (arcOf k i) (((b.vals.getD i 0) - v : Int) : Rat))

/-- The attitude at an instant: heading in rad, and roll and pitch in turns of an MRU group: between the epochs of the history
window on the shorter arc, after the latest with its yaw rate (R92). -/
def State.attitudeAt (s : State) (group : Nat) (t : Int) : Rat × Rat × Rat :=
  let rp := fun (h : HistEntry) => match h.rp.find? (fun x => decide (x.1 = group)) with
    | some x => (x.2.1 / 2 ^ 32, x.2.2 / 2 ^ 32)
    | none => (0, 0)
  let before := (s.fus.hist.filter (fun h => decide ((h.t : Int) ≤ t))).getLast?
  let after := s.fus.hist.find? (fun h => decide (t < (h.t : Int)))
  match before, after with
  | some a, some b =>
    let f : Rat := ((t - a.t : Int) : Rat) / ((b.t - a.t : Int) : Rat)
    let d := arcDiff 1 ((b.x.getD 2 0 - a.x.getD 2 0) / twoPi) * twoPi
    (a.x.getD 2 0 + f * d, (rp a).1 + f * ((rp b).1 - (rp a).1), (rp a).2 + f * ((rp b).2 - (rp a).2))
  | some a, none => (a.x.getD 2 0 + a.x.getD 5 0 * (((t - a.t : Int) : Rat) / 1000000000), (rp a).1, (rp a).2)
  | none, some b => (b.x.getD 2 0, (rp b).1, (rp b).2)
  | none, none => (s.fus.obs.getD 2 0, 0, 0)

/-- The estimated velocity of the reference point in the local frame, mm/s. -/
def State.estVel (s : State) : Rat × Rat :=
  let x := s.fus.obs
  let v := turn s.unitBits (x.getD 2 0) (x.getD 3 0, x.getD 4 0)
  (v.1 * 1000, v.2 * 1000)

/-- R82, R100: the point that a position sample measures, in the local frame, mm; none before the origin, or the reference's
fixed point, is set. -/
def State.measured (s : State) (k : Nat) (c : SrcCfg) (v : List Rat) : Option (Rat × Rat) :=
  if c.absolute then s.fus.origin.map (fun o => geoLocal s.unitBits o (v.getD 0 0) (v.getD 1 0))
  else (s.src k).fixed.map (fun f => (f.1 + v.getD 0 0, f.2 + v.getD 1 0))

/-- R92: a measured point moved to the reference point by its lever arm and the attitude at an instant, mm. -/
def State.toReference (s : State) (k : Nat) (c : SrcCfg) (t : Int) (p : Rat × Rat) : Rat × Rat :=
  let n := s.unitBits
  let l := match s.fusCfg with
    | some f => leverOf f (s.obsState f []) k c.lever
    | none => c.lever
  let (psi, roll, pitch) := s.attitudeAt c.group t
  let d := turn n psi (leverArm n l roll pitch).1
  (p.1 - 1000 * d.1, p.2 - 1000 * d.2)

/-- R92: a sample carried to the epoch: a position moved to the reference point at its stamp and carried by the estimated
velocity, a heading by the estimated yaw rate, a target by its own velocity, the others held. -/
def State.carry (s : State) (k : Nat) (c : SrcCfg) (t : Int) (a : Sample) : List Rat :=
  let age : Rat := ((t - a.stamp : Int) : Rat) / 1000000000
  let v := a.vals.map (fun x : Int => (x : Rat))
  if k < 16 then
    match s.measured k c v with
    | some p =>
      let q := s.toReference k c a.stamp p
      let w := s.estVel
      [q.1 + w.1 * age, q.2 + w.2 * age]
    | none => []
  else if k < 20 then
    let rate : Int := match s.fus.epoch with | some e => e.rate | none => 0
    v.set 0 (v.getD 0 0 + (rate : Rat) * age)
  else if 28 ≤ k then (v.set 0 (v.getD 0 0 + v.getD 3 0 * age)).set 1 (v.getD 1 0 + v.getD 4 0 * age)
  else v

/-- R91: two samples that bracket the epoch, interpolated; a position is then moved to the reference point. -/
def State.bracketed (s : State) (k : Nat) (c : SrcCfg) (t : Int) (a b : Sample) : List Rat :=
  let v := interpolate k t a b
  if k < 16 then
    match s.measured k c v with
    | some p => let q := s.toReference k c t p; [q.1, q.2]
    | none => []
  else v

/-- The sample of greatest stamp. -/
def newestOf (xs : List Sample) : Option Sample :=
  xs.foldl (fun b x => match b with | none => some x | some y => if y.stamp ≤ x.stamp then some x else some y) none

/-- The sample of least stamp. -/
def oldestOf (xs : List Sample) : Option Sample :=
  xs.foldl (fun b x => match b with | none => some x | some y => if x.stamp < y.stamp then some x else some y) none

/-- A contribution of a source at an epoch: its slot, its values (those of a position reference are N and E of the reference
point in mm, none while it has no place in the local frame), its quality, and its raw values. -/
structure Contrib where
  slot : Nat
  vals : List Rat
  qual : Nat
  raw : List Rat
deriving DecidableEq, Repr

/-- R91, R92: what a source contributes at the epoch `t`, with the stamp applied. -/
def State.contribution (s : State) (k : Nat) (c : SrcCfg) (t : Int) (xs : List Sample) : Option (Contrib × Int) :=
  let x := s.src k
  let all := match x.prev with | some p => p :: xs | none => xs
  let lo := newestOf (all.filter (fun y => decide (y.stamp ≤ t)))
  let hi := oldestOf (xs.filter (fun y => decide (t < y.stamp)))
  let held := newestOf (xs.filter (fun y => decide (t - y.stamp ≤ c.xlimNs)))
  let rats := fun (y : Sample) => y.vals.map (fun x : Int => (x : Rat))
  let plain := match held with
    | some y => if x.applied = some y.stamp then none else some (⟨k, s.carry k c t y, y.qual, rats y⟩, y.stamp)
    | none => none
  match lo, hi with
  | some a, some b =>
    if b.stamp - a.stamp ≤ c.xlimNs then some (⟨k, s.bracketed k c t a b, b.qual, interpolate k t a b⟩, b.stamp) else plain
  | _, _ => plain

/-- R90 to R93: the samples of one source's intake: its late samples join `late`, the others `fresh`. -/
def State.intakeSlot (t : Int) (a : State × List (Nat × Sample) × List (Nat × List Sample)) (k : Nat) :
    State × List (Nat × Sample) × List (Nat × List Sample) :=
  let (s, late, fresh) := a
  match s.srcCfg k with
  | none => a
  | some c =>
    if (s.src k).st = 0 then a
    else
      let (s, xs) := s.takeInbox k
      let old := xs.filter (fun y => decide ((c.xlimNs : Int) < t - y.stamp))
      (s, late ++ old.map (fun y => (k, y)), fresh ++ [(k, xs)])

/-- R91, R92: one source's samples brought to the epoch. -/
def State.bring (t : Int) (a : State × List Contrib) (x : Nat × List Sample) : State × List Contrib :=
  let (s, cs) := a
  match s.srcCfg x.1 with
  | none => a
  | some c =>
    let got := s.contribution x.1 c t x.2
    let all := match (s.src x.1).prev with | some p => p :: x.2 | none => x.2
    let s := s.modSrc x.1 (fun y => { y with
      prev := newestOf all
      applied := match got with | some (_, st) => some st | none => y.applied
      val := match got with | some (g, _) => g.vals | none => y.val })
    (s, match got with | some (g, _) => cs ++ [g] | none => cs)

/-- Insertion into a list of late samples by stamp. -/
def insertLate (x : Nat × Sample) : List (Nat × Sample) → List (Nat × Sample)
  | [] => [x]
  | y :: ys => if x.2.stamp < y.2.stamp then x :: y :: ys else y :: insertLate x ys

/-- R111: calibration is frozen by the register or by the host. -/
def State.calFrozen (s : State) : Bool := s.get Fld.FUS_CTRL_CAL_FREEZE = 1 || s.fus.hostFreeze

/-- R111: calibration states change in this epoch. -/
def State.calMoves (s : State) : Bool := decide (s.fus.est = 1) && !s.calFrozen

/-- R89: the a priori variance that a quality selects, in the square of the value's unit; beyond the section's table its last
entry, and 1 with no table (DESIGN CHOICE, log entry 130). -/
def State.priorVar (s : State) (k q : Nat) : Rat := match s.srcCfg k with
  | some c => c.variances.getD (q - 1) (c.variances.getLastD 1)
  | none => 1

/-- R93: one late sample applied: the update formed at the epoch before its stamp and carried to the latest one.  A sample of a
position reference or heading that is accepted and passes GATE. -/
def State.lateApply (c : FusCfg) (s : State) (a : Nat × Sample) : State :=
  let (k, y) := a
  match (s.fus.hist.filter (fun h => decide ((h.t : Int) ≤ y.stamp))).getLast?, s.srcCfg k with
  | some h, some d =>
    let n := s.unitBits
    let x := s.obsState c []
    let v := y.vals.map (fun x : Int => (x : Rat))
    let fixed := fun i => decide (15 ≤ i) && !s.calMoves
    let put := fun (r : List Rat × List Vec) => { s with fus := { s.fus with
      obs := r.1.take 15, cov := r.2, cal := ((fusCals c).zip (r.1.drop 15)).map (fun z => calUnit z.1 z.2) } }
    if (s.src k).st ≠ 1 ∨ h.x.length ≠ x.length then s
    else if k < 16 then
      match s.measured k d v with
      | none => s
      | some p =>
        let q := s.toReference k d y.stamp p
        let (_, roll, pitch) := s.attitudeAt d.group y.stamp
        let hp := posPredict c h.x k
        let e := (q.1 / 1000 - hp.1, q.2 / 1000 - hp.2)
        let (rn, re) := posRows n c h.x k (leverOf c h.x k d.lever) roll pitch []
        let var := (s.src k).var / 1000000
        if c.gate < nisOf h.cov rn re e var then s
        else put (lateUpdate fixed x (s.obsCov c) h [⟨0, rn, e.1, var⟩, ⟨1, re, e.2, var⟩])
    else if k < 20 then
      let row : Vec := [(2, 1), (10, 1)]
      let off := calOf c h.x k 2 0 0
      let m := v.getD 0 0 / 2 ^ 32 * twoPi - off
      let e := arcDiff 1 ((m - h.x.getD 2 0 - h.x.getD 10 0) / twoPi) * twoPi
      let w := twoPi / 2 ^ 32
      put (lateUpdate fixed x (s.obsCov c) h [⟨0, row, e, s.priorVar k y.qual * w * w⟩])
    else s
  | _, _ => s

/-- R93: the late samples of an intake: those beyond 1 s, or stamped before the history window (Table 10-10), dropped, at most 8
applied, oldest first, the others queued up to 32; the second value is OOS_OVF. -/
def State.lateSamples (s : State) (c : FusCfg) (t : Int) (xs : List (Nat × Sample)) : State × Bool :=
  let all := s.fus.late ++ xs
  let seen := fun (y : Sample) => s.fus.hist.any (fun h => decide ((h.t : Int) ≤ y.stamp))
  let live := all.filter (fun x => decide (t - x.2.stamp ≤ 1000000000) && seen x.2)
  let used := (live.foldr insertLate []).take 8
  let rest := live.filter (fun x => decide (x ∉ used))
  let s := s.countBy Fld.FUS_LATE_LATE_USED used.length
  let s := s.countBy Fld.FUS_LATE_LATE_DROPPED (all.length - live.length + (rest.length - 32))
  (used.foldl (State.lateApply c) { s with fus := { s.fus with late := rest.take 32 } }, decide (32 < rest.length))

/-! Votes. -/

/-- What a vote of one quantity gives (R96): value, variance, the slots outside the band, whether two disagree, and each
slot's share. -/
structure Vote where
  value : Rat
  variance : Rat
  outliers : List Nat
  disagree : Bool
  shares : List (Nat × Rat)
deriving DecidableEq, Repr

/-- Insertion sort of values. -/
def insertRat (x : Rat) : List Rat → List Rat
  | [] => [x]
  | y :: ys => if x ≤ y then x :: y :: ys else y :: insertRat x ys

/-- R96, R104: the median; of an even number, the mean of the two middle values (log entry 33). -/
def medianRat (xs : List Rat) : Rat :=
  let l := xs.foldr insertRat []
  let n := l.length
  if n % 2 = 1 then l.getD (n / 2) 0 else (l.getD (n / 2 - 1) 0 + l.getD (n / 2) 0) / 2

/-- The inverse-variance blend. -/
def blend (xs : List (Nat × Rat × Rat)) : Vote :=
  let w := xs.foldl (fun a x => a + 1 / x.2.2) 0
  { value := xs.foldl (fun a x => a + x.2.1 / x.2.2) 0 / w
    variance := 1 / w
    outliers := []
    disagree := false
    shares := xs.map (fun x => (x.1, 1 / x.2.2 / w)) }

/-- R96 to R98: the vote of one quantity over (slot, value, variance).  Where the median itself is used, its variance is the
blend's (DESIGN CHOICE, log entry 131). -/
def vote (band : Rat) (xs : List (Nat × Rat × Rat)) : Option Vote :=
  match xs with
  | [] => none
  | [x] => some (blend [x])
  | [x, y] =>
    let d := (x.2.1 - y.2.1).abs
    if d ≤ band then some (blend [x, y])
    else
      let var := max x.2.2 y.2.2 + (d / 2) * (d / 2)
      some { value := (x.2.1 + y.2.1) / 2, variance := var, outliers := [], disagree := true
             shares := [(x.1, 1 / 2), (y.1, 1 / 2)] }
  | _ =>
    let m := medianRat (xs.map (·.2.1))
    let out := (xs.filter (fun x => decide (band < (x.2.1 - m).abs))).map (·.1)
    if out = [] then some (blend xs)
    else some { value := m
                variance := (blend xs).variance
                outliers := out
                disagree := false
                shares := xs.map (fun x => (x.1, if x.2.1 = m then 1 else 0)) }

/-- What is taken off the value of a source before its vote: a heading's offset, an MRU's mounting angle (R110, R112). -/
def State.calShift (s : State) (k i : Nat) : Rat := match s.fusCfg with
  | none => 0
  | some c =>
    let row := if 16 ≤ k ∧ k < 20 ∧ i = 0 then some (2, 0) else if 20 ≤ k ∧ k < 24 ∧ i < 2 then some (3, i) else none
    match row.bind (fun r => calAt c k r.1 r.2) with
    | some j => (s.calVals c).getD (j - 15) 0 / 360000000 * 2 ^ 32
    | none => 0

/-- The contributions of accepted sources of slots `lo` to `hi − 1`, value `i`, corrected and unwrapped around `near` on its
arc. -/
def State.ballot (s : State) (cs : List Contrib) (lo hi i : Nat) (near : Rat) : List (Nat × Rat × Rat) :=
  (cs.filter (fun c => decide (lo ≤ c.slot ∧ c.slot < hi ∧ (s.src c.slot).st = 1))).map
    (fun c => (c.slot, near + arcDiff (arcOf lo i) (c.vals.getD i 0 - s.calShift c.slot i - near), s.priorVar c.slot c.qual))

/-- R99: the wind direction lies in a shadow sector of its sensor. -/
def State.shadowed (s : State) (k : Nat) (dir : Rat) : Bool := match s.srcCfg k with
  | none => false
  | some c =>
    let d := dir.floor.toNat % 65536
    c.shadow.any (fun x => if x.1 ≤ x.2 then decide (x.1 ≤ d ∧ d ≤ x.2) else decide (x.1 ≤ d ∨ d ≤ x.2))

/-- R96: outliers of an epoch are marked and counted; a source inside its band starts its count again.  An epoch without a
contribution leaves the count as it is (DESIGN CHOICE, log entry 132). -/
def State.markOutliers (s : State) (voted : List Nat) (out : List Nat) : State :=
  s.each voted fun k s => s.modSrc k (fun x =>
    if k ∈ out then { x with pub := 5, outRun := x.outRun + 1 } else { x with outRun := 0 })

/-- The value of a contribution lies inside the band of a vote; so with no vote. -/
def inBand (k i : Nat) (band x : Rat) (v : Option Vote) : Bool := match v with
  | some w => decide (|arcDiff (arcOf k i) (x - w.value)| ≤ band)
  | none => true

/-- R108: a rejected source of a vote meets its conditions: it has a sample inside the band of each voted value, and is not
frozen. -/
def State.voteOk (s : State) (cs : List Contrib) (lo hi : Nat) (tests : Contrib → Bool) : State :=
  s.each (cs.filter (fun c => decide (lo ≤ c.slot ∧ c.slot < hi))) fun c s =>
    let frozen := match s.srcCfg c.slot with | some d => (s.src c.slot).frozen d | none => false
    s.modSrc c.slot (fun x => x.hold s.now (!frozen && tests c))

/-! Estimate-level tests. -/

/-- R107: shares of inverse variances with no share above `w`, and the total that they are shares of: `cap` holds the slots
already at the cap. -/
def capShares (w : Rat) (inv : List (Nat × Rat)) : Nat → List Nat → List (Nat × Rat) × Rat
  | 0, _ =>
    let total := inv.foldl (fun a y => a + y.2) 0
    (inv.map (fun x => (x.1, x.2 / total)), total)
  | n + 1, cap =>
    let free := (inv.filter (fun x => decide (x.1 ∉ cap))).foldl (fun a y => a + y.2) 0
    let left : Rat := 1 - (cap.length : Rat) * w
    if left ≤ 0 ∨ free = 0 then capShares w inv 0 []
    else
      let total := free / left
      let above := (inv.filter (fun x => decide (x.1 ∉ cap ∧ w * total < x.2))).map (·.1)
      if above = [] then (inv.map (fun x => (x.1, if x.1 ∈ cap then w else x.2 / total)), total)
      else capShares w inv n (cap ++ above)

/-- A share in units of 1/256, rounded to nearest, ties to even, and stopping at 255 (DESIGN CHOICE, log entry 133). -/
def weightOf (r : Rat) : Nat := min 255 (roundRat (256 * r)).toNat

/-- What the tests see of one position reference (R103 to R106): its position moved to the reference point, mm; its innovation,
m; NIS; and SAT of its comparison. -/
structure RefObs where
  slot : Nat
  qual : Nat
  at_ : Option (Rat × Rat)
  innov : Rat × Rat
  nis : Rat
  sat : Bool
  var : Rat
deriving DecidableEq, Repr

/-- R103, R106: a reference's sample fails GATE. -/
def gateFails (c : FusCfg) (r : RefObs) : Bool := r.sat || decide (c.gate < r.nis)

/-- R104: a reference lies more than MEDIAN_LIM from the median of three or more. -/
def medianFails (c : FusCfg) (all : List (Rat × Rat)) (r : RefObs) : Bool := match r.at_ with
  | none => false
  | some p =>
    if all.length < 3 then false
    else
      let dn := p.1 - medianRat (all.map (·.1))
      let de := p.2 - medianRat (all.map (·.2))
      decide ((c.medianLimMm : Rat) * c.medianLimMm < dn * dn + de * de)

/-- R82: a relative reference is admitted only once the origin is set, where the section declares an absolute one. -/
def State.refAdmissible (s : State) (c : FusCfg) (k : Nat) : Bool :=
  s.fus.origin.isSome || (c.src.take 16).all (fun x => !(x.declared && x.absolute)) ||
    (match s.srcCfg k with | some x => x.absolute | none => false)

/-- R105, R107: the variance of a reference's innovations over the last 60 s, mm², about their mean, the two axes together (log
entry 134). -/
def innovVar (l : List (Nat × Rat × Rat)) : Rat :=
  let n : Rat := (l.length : Nat)
  if l = [] then 0
  else
    let mn := (l.map (·.2.1)).foldl (· + ·) 0 / n
    let me := (l.map (·.2.2)).foldl (· + ·) 0 / n
    (l.map (fun x => (x.2.1 - mn) * (x.2.1 - mn) + (x.2.2 - me) * (x.2.2 - me))).foldl (· + ·) 0 / (2 * n)

/-- R103: a reference against the predicted state.  One that has no place in the local frame yet agrees with it (R82, R116). -/
def State.observe (s : State) (c : FusCfg) (x : List Rat) (p : List Vec) (b : Contrib) : State × RefObs := match s.srcCfg b.slot with
  | none => (s, { slot := b.slot, qual := b.qual, at_ := none, innov := (0, 0), nis := 0, sat := false, var := 1 })
  | some d =>
    let n := s.unitBits
    let hp := posPredict c x b.slot
    let e := if b.vals.length < 2 then (0, 0) else (b.vals.getD 0 0 / 1000 - hp.1, b.vals.getD 1 0 / 1000 - hp.2)
    let s := if b.vals.length < 2 then s else s.modSrc b.slot (fun y => { y with
      innov := y.innov.filter (fun z => decide (s.frame.start ≤ z.1 + 60000000000)) ++ [(s.frame.start, e.1 * 1000, e.2 * 1000)] })
    let var := max (s.priorVar b.slot b.qual) (innovVar (s.src b.slot).innov)
    let (_, roll, pitch) := s.attitudeAt d.group s.frame.start
    let (rn, re) := posRows n c x b.slot (leverOf c x b.slot d.lever) roll pitch []
    let q := match s.cfg with | some c => fracBits c.ctl.qhead d.errBound | none => 0
    (s.modSrc b.slot (fun y => { y with var := var }),
      { slot := b.slot, qual := b.qual, at_ := if b.vals.length < 2 then none else some (b.vals.getD 0 0, b.vals.getD 1 0)
        innov := e, nis := nisOf p rn re e (var / 1000000), sat := overflows q e.1 || overflows q e.2, var := var })

/-- R103 to R108: the tests of one position reference that contributes at this epoch. -/
def State.testRef (c : FusCfg) (acc : List (Rat × Rat)) (s : State) (r : RefObs) : State :=
  let x := s.src r.slot
  let g := gateFails c r
  let m := medianFails c acc r
  let d := s.srcCfg r.slot
  let noisy := match d with | some d => decide (d.noiseVar < innovVar x.innov) | none => false
  let frozen := match d with | some d => x.frozen d | none => false
  if x.st = 1 then
    let s := s.modSrc r.slot (fun y => { y with reason := if r.sat then 5 else y.reason })
    if m then s.modSrc r.slot (fun y => { y with st := 3, reason := 2, ok := false })
    else if noisy then s.modSrc r.slot (fun y => { y with st := 3, reason := 4, ok := false })
    else s.modSrc r.slot (fun y => { y with gateRun := if g then y.gateRun + 1 else 0, gateSat := r.sat })
  else
    let gone := if x.reason = 4 then !noisy else if x.reason = 3 then !frozen else if x.reason = 7 then !x.biasHeld
      else if x.reason = 10 then s.refAdmissible c r.slot else true
    s.modSrc r.slot (fun y => y.hold s.now (gone && !g && !m))

/-! The estimator. -/

/-- R92: the source's newest sample is older than XLIM. -/
def State.aged (s : State) (k : Nat) (t : Int) : Bool := match s.srcCfg k, (s.src k).prev with
  | some c, some p => decide ((c.xlimNs : Int) < t - p.stamp)
  | _, none => true
  | none, _ => false

/-- Table 4-11: the state that a source shows at publication. -/
def State.pubState (s : State) (t : Int) (k : Nat) : State :=
  s.modSrc k (fun x => { x with pub := if x.st = 1 then (if s.aged k t then 2 else if x.pub = 5 then 5 else 1) else x.st })

/-- R113: a reference whose bias is at a bound is rejected. -/
def State.calReject (s : State) (c : CalCfg) (v : Rat) : State :=
  if c.state = 1 ∧ (v = c.lo ∨ v = c.hi) ∧ (s.src c.slot).st = 1 then
    s.modSrc c.slot (fun x => { x with st := 3, reason := 7, biasHeld := true, ok := false })
  else s

/-- R111, R113: the calibration operations that wait for this epoch, with their RESULTs. -/
def State.calRequests (s : State) (c : FusCfg) : State :=
  let fs := s.ctl.freezeReq
  let ws := s.ctl.calReq
  let s := { s with ctl := { s.ctl with freezeReq := [], calReq := [] } }
  let s := s.each fs (fun x s => ({ s with fus := { s.fus with hostFreeze := x.1 } }).resultOpt x.2 0 [])
  s.each ws fun x s =>
    let (k, st, el, v) := x.1
    match (fusCals c).findIdx? (fun d => decide (d.slot = k ∧ d.state = st ∧ d.elem = el)) with
    | none => s.resultOpt x.2 1 [0]
    | some i =>
      let s := { s with fus := { s.fus with cal := (s.calVals c).set i v } }
      (s.modSrc k (fun y => { y with biasHeld := if st = 1 then false else y.biasHeld })).resultOpt x.2 0 []

/-- Table 19-3: DATA of class 9 events. -/
def State.fusData (s : State) (slots : List Nat) : List Byte :=
  le32 (s.rd Reg.FUS_STAT) ++ (slots.map (fun k => le32 (s.rd (Reg.FUS_SRCSTATs k)))).flatten

/-- An event on the rising edge of a disagreement. -/
def State.raiseEdge (s : State) (code : Nat) (old new : Bool) (slots : List Nat) : State :=
  if new && !old then s.raise code 0 (s.fusData slots) else s

/-- R99: the published wind force ramps to zero under a disagreement and back after it, over 10 s. -/
def State.windRamp (s : State) : Rat :=
  let d : Rat := (s.frameNs : Rat) / 10000000000
  if s.fus.windDis then max 0 (s.fus.windScale - d) else min 1 (s.fus.windScale + d)

/-- A force scaled, rounded convergently. -/
def scaleForce (r : Rat) (x : Int) : Int := roundRat (r * x)

/-- The votes of an epoch: heading; roll, pitch, heave and mean heave rate of each MRU group; wind. -/
structure Votes where
  hdg : Option Vote
  motion : List (Nat × Option Vote × Option Vote × Option Vote × Rat)
  windS : Option Vote
  windD : Option Vote
  windShadow : Bool

/-- The MRU group of a slot. -/
def State.groupOf (s : State) (k : Nat) : Nat := match s.srcCfg k with | some c => c.group | none => 0

/-- The MRU groups that the section declares. -/
def mruGroups (c : FusCfg) : List Nat := (((c.src.drop 20).take 4).filter (·.declared)).map (·.group) |>.dedup

/-- R96 to R99: the votes over the contributions of accepted sources. -/
def State.votes (s : State) (c : FusCfg) (cs : List Contrib) : Votes :=
  let near : Rat := match s.fus.epoch with
    | some e => (e.psi : Rat)
    | none => match s.ballot cs 16 20 0 0 with | x :: _ => x.2.1 | [] => 0
  let wind := (cs.filter (fun x => decide (24 ≤ x.slot ∧ x.slot < 28 ∧ (s.src x.slot).st = 1)))
  let lit := wind.filter (fun x => !s.shadowed x.slot (x.vals.getD 1 0))
  let w := if lit = [] then wind else lit
  let dir0 : Rat := match w with | x :: _ => x.vals.getD 1 0 | [] => 0
  { hdg := vote c.bandHdg (s.ballot cs 16 20 0 near)
    motion := (mruGroups c).map (fun g =>
      let mine := cs.filter (fun x => decide (s.groupOf x.slot = g))
      let rates := s.ballot mine 20 24 3 0
      (g, vote c.bandRp (s.ballot mine 20 24 0 0), vote c.bandRp (s.ballot mine 20 24 1 0),
        vote c.bandHeave (s.ballot mine 20 24 2 0), (rates.foldl (fun a x => a + x.2.1) 0) / (max 1 rates.length : Nat)))
    windS := vote c.bandWs (s.ballot w 24 28 0 0)
    windD := vote c.bandWd (s.ballot w 24 28 1 dir0)
    windShadow := decide (wind ≠ [] ∧ lit = []) }

/-- The slots outside their band in a vote. -/
def voteOut (v : Option Vote) : List Nat := match v with | some x => x.outliers | none => []
/-- Two sources of a vote disagree. -/
def voteDis (v : Option Vote) : Bool := match v with | some x => x.disagree | none => false
/-- Two or more sources voted and did not disagree (R97: the flag clears at the first epoch in which they agree). -/
def voteAgree (v : Option Vote) : Bool := match v with | some x => !x.disagree && decide (2 ≤ x.shares.length) | none => false

/-- The shares of a vote become weights. -/
def State.voteWeights (s : State) (v : Option Vote) : State := match v with
  | none => s
  | some x => s.each x.shares (fun y s => s.modSrc y.1 (fun z => { z with weight := weightOf y.2 }))

/-- A disagreement raised by one epoch and cleared by another that agrees. -/
def latchDis (was dis agree : Bool) : Bool := dis || (was && !agree)

/-- R96 to R99: what the votes do to sources and flags. -/
def State.applyVotes (s : State) (c : FusCfg) (cs : List Contrib) (v : Votes) : State :=
  let slots := fun lo hi => (cs.filter (fun x => decide (lo ≤ x.slot ∧ x.slot < hi ∧ (s.src x.slot).st = 1))).map (·.slot)
  let mots := (v.motion.map (fun m => [m.2.1, m.2.2.1, m.2.2.2.1])).flatten
  let motOut := (mots.map voteOut).flatten
  let windOut := voteOut v.windS ++ voteOut v.windD
  let hd := latchDis s.fus.hdgDis (voteDis v.hdg) (voteAgree v.hdg)
  let md := latchDis s.fus.motDis (mots.any voteDis) (mots.any voteAgree)
  let wd := voteDis v.windS || voteDis v.windD
  let s := s.raiseEdge 0x4801 s.fus.hdgDis hd (slots 16 20)
  let s := s.raiseEdge 0x4802 s.fus.motDis md (slots 20 24)
  let s := s.raiseEdge 0x4803 s.fus.windDis wd (slots 24 28)
  let grp := fun (x : Contrib) => v.motion.find? (fun m => decide (m.1 = s.groupOf x.slot))
  let s0 := s
  let val := fun (x : Contrib) (i : Nat) => x.vals.getD i 0 - s0.calShift x.slot i
  let s := s.voteOk cs 16 20 (fun x => inBand 16 0 c.bandHdg (val x 0) v.hdg)
  let s := s.voteOk cs 20 24 (fun x => match grp x with
    | some m => inBand 20 0 c.bandRp (val x 0) m.2.1 && inBand 20 1 c.bandRp (val x 1) m.2.2.1 &&
        inBand 20 2 c.bandHeave (val x 2) m.2.2.2.1
    | none => true)
  let s := s.voteOk cs 24 28 (fun x => inBand 24 0 c.bandWs (val x 0) v.windS && inBand 24 1 c.bandWd (val x 1) v.windD)
  let s := ((s.markOutliers (slots 16 20) (voteOut v.hdg)).markOutliers (slots 20 24) motOut).markOutliers (slots 24 28)
    windOut
  let s := s.each ((List.range 12).map (16 + ·)) (fun k s => s.modSrc k (fun z => { z with weight := 0 }))
  let s := s.voteWeights v.hdg
  let s := s.each v.motion (fun m s => s.voteWeights m.2.1)
  let s := s.voteWeights v.windS
  let s := { s with fus := { s.fus with hdgDis := hd, motDis := md, windDis := s.fus.windDis || wd, windAgree := !wd } }
  { s with fus := { s.fus with windScale := s.windRamp } }

/-- R107: the shares of the accepted position references that are not AGED; a capped reference's variance is inflated to its
share.  Every other reference has no weight. -/
def State.refWeights (s : State) (c : FusCfg) : State :=
  let t : Int := s.frame.start
  let inv := ((List.range 16).filter (fun k => decide ((s.src k).st = 1) && !s.aged k t)).map (fun k => (k, 1 / (s.src k).var))
  let (shares, total) := capShares c.wcap inv 16 []
  let s := s.each (List.range 16) (fun k s => s.modSrc k (fun y => { y with weight := 0 }))
  s.each shares (fun x s => s.modSrc x.1 (fun y => { y with
    weight := weightOf x.2, var := if x.2 = c.wcap ∧ 0 < x.2 * total then max y.var (1 / (x.2 * total)) else y.var }))

/-- R114: SETTLED falls to HOLDOVER with no accepted reference or no usable heading, and returns with both. -/
def State.estimator (s : State) (refAcc : Nat) (heading : Bool) : State :=
  let e := s.fus.est
  let n := if e = 1 ∧ (refAcc = 0 ∨ !heading) then 2 else if e = 2 ∧ refAcc ≠ 0 ∧ heading then 1 else e
  { s with fus := { s.fus with est := n } }

/-- A flag's bit in a status word. -/
def flagBit (b : Bool) (i : Nat) : Nat := if b then 2 ^ i else 0

/-- Table 4-10: the status word formed at intake close, without EPOCH_LATE and the publication task's flags. -/
def State.fusStatus (s : State) (c : FusCfg) (v : Votes) (hdgs refAcc : Nat) (calLimit envLimit far ovf : Bool) : Nat :=
  s.fus.est + flagBit (decide (s.fus.est ≠ 0)) 2 + flagBit s.fus.hdgDis 3 + flagBit (decide (hdgs = 1)) 4 +
    flagBit s.fus.motDis 5 + flagBit s.fus.windDis 6 + flagBit v.windShadow 7 + flagBit (decide (refAcc < c.refMin)) 8 +
    flagBit s.calFrozen 9 + flagBit calLimit 10 + flagBit envLimit 11 + flagBit far 12 + flagBit ovf 14 + refAcc * 2 ^ 18

/-! Steps 7 to 9 of Table 4-3. -/

/-- R101: the force and moment of the thrusters: each drive's reported actual thrust and direction where it reports them, the
command emitted otherwise; of a removed thruster the reported actual, or nothing.  η turns thrust into delivered force. -/
def State.hullForce (s : State) (sent : List (Int × Nat)) : Rat × Rat × Rat :=
  (List.range s.thrCount).foldl (fun (a : Rat × Rat × Rat) i => match s.thrCfg i with
    | none => a
    | some c =>
      let t := s.thr i
      let cmd := if t.present then sent.getD i (0, 0) else (0, (sent.getD i (0, 0)).2)
      let (th, az) := match t.fb with
        | some (x, z, st) => (if st.getLsbD 4 then x else cmd.1, if st.getLsbD 3 then z else cmd.2)
        | none => cmd
      let f : Rat := (th : Rat) * t.eta
      let (fx, fy) := if c.kind = .tunnel then (0, f) else
        (f * cosAt s.unitBits ((az : Rat) / 65536), f * sinAt s.unitBits ((az : Rat) / 65536))
      (a.1 + fx, a.2.1 + fy, a.2.2 + ((c.x : Rat) * fy - (c.y : Rat) * fx) / 1000)) (0, 0, 0)

/-- R99: the wind force and moment of the voted relative wind, by the section's coefficients, and whether the direction left
the table. -/
def windForce (o : ObsCfg) (v : Votes) : (Rat × Rat × Rat) × Bool := match v.windS, v.windD with
  | some w, some d =>
    let dir := arcDiff 1 (d.value / 65536)
    let dir := if dir < 0 then dir + 1 else dir
    let sp := w.value / 100
    let read := fun (f : Rat × Rat × Rat × Rat → Rat) => interpTable (o.wind.map (fun r => (r.1, f r))) dir
    let (x, ox) := read (·.2.1)
    let y := (read (·.2.2.1)).1
    let z := (read (·.2.2.2)).1
    ((x * sp * sp, y * sp * sp, z * sp * sp), ox)
  | _, _ => ((0, 0, 0), false)

/-- Sums of triples. -/
def addTriple (a b : Rat × Rat × Rat) : Rat × Rat × Rat := (a.1 + b.1, a.2.1 + b.2.1, a.2.2 + b.2.2)

/-- Step 7: the time update from epoch k−1 to epoch k: the commands emitted in frame k−2 until the emission of frame k−1, then
those of frame k−1, with the wind force as a known input (R99, R101); calibration states walk only while they move (R110,
R111). -/
def State.timeUpdate (s : State) (c : FusCfg) (wind : Rat × Rat × Rat) (start : List Rat) : List Rat × List Vec × List Vec :=
  let n := s.unitBits
  let x := s.obsState c start
  let cov := s.obsCov c
  let one := matOne x.length
  if s.fus.obs = [] then (x, cov, one)
  else
    let noise := (List.range 15).map (fun i => c.obs.noise.getD i 0) ++
      (fusCals c).map (fun d => if s.calMoves then d.noise else 0)
    let emit : Rat := match s.cfg with | some g => (g.ctl.emitNs : Rat) / 1000000000 | none => 0
    let f : Rat := (s.frameNs : Rat) / 1000000000
    let a := obsStep n c.obs noise emit (addTriple wind (s.hullForce s.alc.sent2)) (x, cov, one)
    obsStep n c.obs noise (f - emit) (addTriple wind (s.hullForce s.alc.sent1)) a

/-- R116: the origin is set from the first accepted absolute reference in ACQUIRE, rounded to 1 m; where none is declared, by
the first relative reference to pass its tests, whose fixed point it is (R82). -/
def State.setOrigin (s : State) (c : FusCfg) (cs : List Contrib) (good : List RefObs) : State :=
  let declared := (c.src.take 16).any (fun x => x.declared && x.absolute)
  if s.fus.origin.isSome ∨ s.fus.est ≠ 0 then s
  else match good.find? (fun r => (match s.srcCfg r.slot with | some d => d.absolute == declared | none => false) &&
      (!declared || decide ((s.src r.slot).st = 1))) with
    | none => s
    | some r =>
      if declared then match cs.find? (fun x => decide (x.slot = r.slot)) with
        | some b => { s with fus := { s.fus with origin := some (geoRound s.unitBits (b.raw.getD 0 0) (b.raw.getD 1 0)) } }
        | none => s
      else
        let s := s.modSrc r.slot (fun y => { y with fixed := some (0, 0) })
        { s with fus := { s.fus with origin := some (0, 0) } }

/-- R82: the fixed point of a relative reference at the first epoch in which it passes its tests with the origin set: it then
agrees with the fused position. -/
def State.fixRefs (s : State) (x : List Rat) (cs : List Contrib) (good : List RefObs) : State :=
  if s.fus.origin.isNone then s
  else s.each good fun r s => match s.srcCfg r.slot, cs.find? (fun b => decide (b.slot = r.slot)) with
    | some d, some b =>
      if d.absolute ∨ (s.src r.slot).fixed.isSome then s
      else
        let p := s.toReference r.slot d s.frame.start (0, 0)
        s.modSrc r.slot (fun y => { y with
          fixed := some (x.getD 0 0 * 1000 - p.1 - b.raw.getD 0 0, x.getD 1 0 * 1000 - p.2 - b.raw.getD 1 0) })
    | _, _ => s

/-- The measurement of the voted heading, and those of the heading offsets (R112): each source against the mean of all, or
against a satellite compass that the section declares. -/
def State.headingMeas (s : State) (c : FusCfg) (x : List Rat) (cs : List Contrib) (v : Votes) : List Meas := match v.hdg with
  | none => []
  | some h =>
    let w := twoPi / 2 ^ 32
    let wrap := fun (r : Rat) => arcDiff 1 (r / twoPi) * twoPi
    let main : Meas := ⟨0, [(2, 1), (10, 1)], wrap (h.value * w - x.getD 2 0 - x.getD 10 0), h.variance * w * w⟩
    let bs := s.ballot cs 16 20 0 h.value
    let n : Rat := (bs.length : Nat)
    let compass := bs.find? (fun b => match s.srcCfg b.1 with | some d => d.compass | none => false)
    let mean := match compass with
      | some b => b.2.1
      | none => (bs.map (·.2.1)).foldl (· + ·) 0 / n
    let row := fun (k : Nat) => match compass with
      | some _ => putCal (calAt c k 2 0) 1 []
      | none => bs.foldl (fun r b => putCal (calAt c b.1 2 0) (if b.1 = k then 1 - 1 / n else -1 / n) r) []
    let diffs := (bs.filter (fun b => (calAt c b.1 2 0).isSome && (match compass with | some z => decide (b.1 ≠ z.1) | none => true))).map
      (fun b => (⟨33 + (b.1 - 16), row b.1, wrap ((b.2.1 - mean) * w), b.2.2 * w * w⟩ : Meas))
    if s.calMoves ∧ 2 ≤ bs.length then main :: diffs else [main]

/-- The measurements of the references that are applied: accepted, not failing GATE, with a place in the local frame; a
disagreement of the MRUs widens them through the lever arm (R98). -/
def State.posMeas (s : State) (c : FusCfg) (x : List Rat) (v : Votes) (good : List RefObs) : List Meas :=
  (good.filter (fun r => r.at_.isSome && decide ((s.src r.slot).st = 1))).flatMap fun r => match s.srcCfg r.slot with
    | none => []
    | some d =>
      let n := s.unitBits
      let (_, roll, pitch) := s.attitudeAt d.group s.frame.start
      let l := leverOf c x r.slot d.lever
      let mot := v.motion.find? (fun m => decide (m.1 = d.group))
      let mru := match mot with | some m => (match m.2.1 with | some z => z.shares | none => []) | none => []
      let (rn, re) := posRows n c x r.slot l roll pitch mru
      let w := twoPi / 2 ^ 32
      let ds := (leverArm n l roll pitch).2
      let var := fun (z : Option Vote) => match z with | some z => z.variance * w * w | none => 0
      let df := turn n (x.getD 2 0) (ds.getD 3 (0, 0))
      let dt := turn n (x.getD 2 0) (ds.getD 4 (0, 0))
      let vf := match mot with | some m => var m.2.1 | none => 0
      let vt := match mot with | some m => var m.2.2.1 | none => 0
      let base := (s.src r.slot).var / 1000000
      [⟨1 + 2 * r.slot, rn, r.innov.1, base + df.1 * df.1 * vf + dt.1 * dt.1 * vt⟩,
       ⟨2 + 2 * r.slot, re, r.innov.2, base + df.2 * df.2 * vf + dt.2 * dt.2 * vt⟩]

/-- R112: heading offsets keep their mean at its declared value, unless a compass is declared. -/
def recentre (c : FusCfg) (cal : List Rat) : List Rat :=
  let ds := fusCals c
  let hs := (ds.zip cal).filter (fun x => decide (x.1.state = 2))
  let n : Rat := (hs.length : Nat)
  if hs = [] ∨ (c.src.take 20).any (·.compass) then cal
  else
    let d := (hs.map (fun x => x.2 - (x.1.init : Rat))).foldl (· + ·) 0 / n
    (ds.zip cal).map (fun x => if x.1.state = 2 then x.2 - d else x.2)

/-- An environmental state held at its bound (R102). -/
def envHeld (b : Int) (x : Rat) : Rat := if x < -b then -b else if (b : Rat) < x then b else x

/-- Step 9: the measurement update.  The environmental states are held at their bounds (R102), calibration states at theirs, with
their mean kept (R111 to R113); the history window takes the new epoch (R93). -/
def State.measureUpdate (s : State) (c : FusCfg) (a : List Rat × List Vec × List Vec) (ms : List Meas)
    (rp : List (Nat × Rat × Rat)) : State × Nat :=
  let fixed := fun i => decide (15 ≤ i) && !s.calMoves
  let (x, p, repl) := estUpdate c.obs.epsPiv c.obs.deltaPiv fixed a.1 a.2.1 ms
  let env := [envHeld c.envMax.1 (x.getD 12 0), envHeld c.envMax.2.1 (x.getD 13 0), envHeld c.envMax.2.2 (x.getD 14 0)]
  let psi := x.getD 2 0
  let base := ((x.take 12).set 2 (psi - twoPi * (psi / twoPi).floor)) ++ env
  let ds := fusCals c
  let cal := if s.calMoves then
      ((ds.zip (recentre c ((ds.zip (x.drop 15)).map (fun z => calUnit z.1 z.2)))).map
        (fun z => if z.2 < z.1.lo then (z.1.lo : Rat) else if (z.1.hi : Rat) < z.2 then (z.1.hi : Rat) else z.2))
    else s.calVals c
  let hist := (s.fus.hist.filter (fun h => decide (s.frame.start ≤ h.t + 1000000000))).map
    (fun h => { h with phi := matMul a.2.2 h.phi })
  let full := base ++ (ds.zip cal).map (fun z => calSi z.1 z.2)
  let e : HistEntry := { t := s.frame.start, x := full, cov := p, phi := matOne full.length, rp := rp }
  ({ s with fus := { s.fus with obs := base, cov := p, cal := cal, hist := hist ++ [e] } }, repl)

/-- The position references that are accepted and not aged. -/
def State.acceptedRefs (s : State) : List Nat := (List.range 16).filter (fun k => decide ((s.src k).pub = 1))

/-- R113: a calibration state stands at a bound. -/
def State.calAtLimit (s : State) (c : FusCfg) : Bool :=
  ((fusCals c).zip s.fus.cal).any (fun x => decide (x.2 = x.1.lo ∨ x.2 = x.1.hi))

/-- R102: an environmental state stands at its bound. -/
def envAtLimit (c : FusCfg) (x : List Rat) : Bool :=
  let at_ := fun (b : Int) (v : Rat) => decide ((b : Rat) ≤ |v|)
  at_ c.envMax.1 (x.getD 12 0) || at_ c.envMax.2.1 (x.getD 13 0) || at_ c.envMax.2.2 (x.getD 14 0)

/-- R116: the position lies beyond 80 % of ORIGIN_RADIUS. -/
def farOrigin (c : FusCfg) (n e : Int) : Bool :=
  decide (16 * (c.originRadiusMm : Int) * c.originRadiusMm < 25 * (n * n + e * e))

/-- The fields of an epoch in fixed units: each value, its bounds, and whether any passed them (R117). -/
def sat32 (x : Rat) : Int × Bool :=
  let r := roundRat x
  (clampInt (-2147483648) 2147483647 r, decide (r < -2147483648 ∨ 2147483647 < r))

/-- R116, R117: a position in mm, which saturates at ORIGIN_RADIUS. -/
def satPos (c : FusCfg) (x : Rat) : Int × Bool :=
  let r := roundRat (x * 1000)
  (clampInt (-(c.originRadiusMm : Int)) c.originRadiusMm r, decide (c.originRadiusMm < r.natAbs))

/-- A 1σ from variances: the root of the larger, in `scale` units, as a uint16. -/
def sigma (scale : Rat) (a b : Rat) : Nat := min 65535 (roundRat (sqrtAt 21 (max 0 (max a b)) * scale)).toNat

/-- R117: the epoch that the observer's state, the votes and the flags make, and whether a field saturated. -/
def State.epochOf (s : State) (c : FusCfg) (v : Votes) (wind : Rat × Rat × Rat) (hdgs : Nat) (ovf : Bool) : Epoch × Bool :=
  let refs := s.acceptedRefs
  let x := fun i => s.fus.obs.getD i 0
  let p := fun i => cellsGet 0 (s.fus.cov.getD i []) i
  let n := satPos c (x 0)
  let e := satPos c (x 1)
  let u := sat32 (x 3 * 1000000)
  let w := sat32 (x 4 * 1000000)
  let r := sat32 (x 5 * 2 ^ 32 / twoPi)
  let b := (List.range 3).map (fun k => sat32 (x (12 + k)))
  let wf := fun (v : Rat) => clampInt (-32768) 32767 (roundRat (v * 1000))
  ({ t := s.frame.start
     n := n.1
     e := e.1
     psi := roundRat (x 2 * 2 ^ 32 / twoPi) % 2 ^ 32
     u := u.1
     v := w.1
     rate := r.1
     bn := (b.getD 0 (0, false)).1
     be := (b.getD 1 (0, false)).1
     bpsi := (b.getD 2 (0, false)).1
     sigPos := sigma 1000 (p 0) (p 1)
     sigPsi := sigma (360000 / twoPi) (p 2) (p 2)
     sigVel := sigma 10000 (p 3) (p 4)
     refMask := refs.foldl (fun a k => a + 2 ^ k) 0
     status := s.fusStatus c v hdgs refs.length (s.calAtLimit c) (envAtLimit c s.fus.obs) (farOrigin c n.1 e.1) ovf
     wfN := wf (x 6)
     wfE := wf (x 8)
     originGen := s.fus.originGen
     wind := (roundRat wind.1, roundRat wind.2.1, roundRat wind.2.2)
     motion := v.motion.filterMap (fun m => match m.2.1, m.2.2.1, m.2.2.2.1 with
       | some a, some b, some h => some (m.1, a.value, b.value, h.value, m.2.2.2.2)
       | _, _, _ => none) },
   n.2 || e.2 || u.2 || w.2 || r.2 || b.any (·.2))

/-- R115: every settling criterion holds. -/
def settled (c : FusCfg) (e : Epoch) (refs hdgs : Nat) : Bool :=
  decide (c.refSet ≤ refs ∧ 1 ≤ hdgs ∧ e.sigPos ≤ c.sigPosSet ∧ e.sigPsi ≤ c.sigPsiSet ∧ e.sigVel ≤ c.sigVelSet)

/-- Steps 8 and 9 of Table 4-3: the position references that contribute are tested against the predicted state, the origin and
the fixed points are set, and the measurements are applied. -/
def State.testRefs (s : State) (c : FusCfg) (a : List Rat × List Vec × List Vec) (cs : List Contrib) (v : Votes)
    (rp : List (Nat × Rat × Rat)) : State × Nat :=
  let bs := cs.filter (fun b => decide (b.slot < 16))
  let (s, obs) := bs.foldl (fun (z : State × List RefObs) b => let (s, r) := z.1.observe c a.1 a.2.1 b; (s, z.2 ++ [r])) (s, [])
  let acc := (obs.filter (fun r => decide ((s.src r.slot).st = 1))).filterMap (·.at_)
  let good := obs.filter (fun r => !gateFails c r && !medianFails c acc r)
  let s := s.each obs (fun r s => s.testRef c acc r)
  let s := (s.setOrigin c cs good).refWeights c
  let (s, repl) := s.measureUpdate c a (s.headingMeas c a.1 cs v ++ s.posMeas c a.1 v good) rp
  let s := s.fixRefs s.fus.obs cs good
  (s.each ((fusCals c).zip s.fus.cal) (fun x s => s.calReject x.1 x.2), repl)

/-- R90 to R116: the work of intake close: late samples, alignment to the epoch, votes, time update, tests, measurement update
and the epoch that waits for publication. -/
def State.formEpoch (s : State) (c : FusCfg) (start : List Rat) (fresh : List (Nat × List Sample)) (ovf : Bool) : State × List Contrib :=
  let s := s.each (List.range 32) (fun k s => s.modSrc k (fun x => { x with pub := if x.pub = 5 then 1 else x.pub }))
  let s := s.calRequests c
  let (s, cs) := fresh.foldl (State.bring s.frame.start) (s, [])
  let v := s.votes c cs
  let hdgs := (s.ballot cs 16 20 0 0).length
  let s := s.applyVotes c cs v
  let (wf, dom) := windForce c.obs v
  let k := s.fus.windScale
  let wind := (k * wf.1, k * wf.2.1, k * wf.2.2)
  let rp := v.motion.filterMap (fun m => match m.2.1, m.2.2.1 with
    | some a, some b => some (m.1, a.value, b.value)
    | _, _ => none)
  let (s, repl) := s.testRefs c (s.timeUpdate c wind start) cs v rp
  let s := s.each (List.range 32) (fun k s => s.pubState s.frame.start k)
  let s := s.estimator s.acceptedRefs.length (decide (1 ≤ hdgs))
  let (e, sat) := s.epochOf c v wind hdgs ovf
  let ok := settled c e s.acceptedRefs.length hdgs
  let s := { s with fus := { s.fus with
    next := some e, nextFlags := (decide (0 < repl), sat, dom), nextLate := s.fus.deadline, settleOk := ok } }
  (s.set (Fld.SLV_REGc_PIV_REPL 3) (min 0xFFFF repl), cs)

/-- R136: a usable target sample clears TARGET_LOST. -/
def State.targetFresh (s : State) (cs : List Contrib) : State :=
  match s.cfg.bind (fun c => c.ctl.target) with
  | none => s
  | some i => if cs.any (fun x => decide (x.slot = 28 + i)) then { s with ctl := { s.ctl with tgtLost := false } } else s

/-- INTAKE_CLOSE (R90, R94); a standby part runs no fusion (R264).  An epoch that still waits for its publication is the prior
for the next, which waits for it (R95).  `start` is the observer's state at its first epoch. -/
def State.intakeClose (s : State) (start : List Rat) : State := match s.fusCfg with
  | none => s
  | some c =>
    if s.fus.published ∨ s.fus.next.isSome ∨ !s.frame.started ∨ !s.ownFrame then s
    else
      let t : Int := s.frame.start
      let (s, late, fresh) := (List.range 32).foldl (State.intakeSlot t) (s, [], [])
      let (s, ovf) := s.lateSamples c t late
      let (s, cs) := s.formEpoch c start fresh ovf
      s.targetFresh cs

/-- R113, R108: a source leaves the accepted state for a reason. -/
def State.rejectSrc (s : State) (k reason : Nat) : State :=
  s.modSrc k (fun x => { x with st := 3, reason := reason, ok := false, gateRun := 0, outRun := 0 })

/-- OUTLIER_REJECT (R96): OUTLIER in 3 consecutive epochs. -/
def State.outlierReject (s : State) (k : Nat) : State :=
  if (s.src k).st = 1 ∧ 3 ≤ (s.src k).outRun then s.rejectSrc k 9 else s

/-- INNOV_REJECT (R103): GATE failed at GATE_N consecutive epochs; the reason is SAT where the latest failure was a saturation
(R106). -/
def State.innovReject (s : State) (k : Nat) : State := match s.fusCfg with
  | none => s
  | some c => if (s.src k).st = 1 ∧ c.gateN ≤ (s.src k).gateRun then
      s.rejectSrc k (if (s.src k).gateSat then 5 else 1) else s

/-- FROZEN_REJECT (R105): raw values bit-identical for FROZEN_T. -/
def State.frozenReject (s : State) (k : Nat) : State := match s.srcCfg k with
  | some c => if (s.src k).st = 1 ∧ (s.src k).frozen c then s.rejectSrc k 3 else s
  | none => s

/-- A source enters the accepted state. -/
def State.acceptSrc (s : State) (k : Nat) : State :=
  s.modSrc k (fun x => { x with st := 1, ok := false, gateRun := 0, outRun := 0, under := none })

/-- TIME_READMIT (R87): 10 consecutive consistent samples; a rejection that the quarantine interrupted still stands (R108). -/
def State.timeReadmit (s : State) (k : Nat) : State :=
  if (s.src k).st = 4 ∧ 10 ≤ (s.src k).clean then match (s.src k).under with
    | some r => s.modSrc k (fun x => { x with st := 3, reason := r, under := none, ok := false })
    | none => s.acceptSrc k
  else s

/-- SOURCE_READMIT (R108): the conditions have held for REJ_HOLD. -/
def State.sourceReadmit (s : State) (k : Nat) : State := match s.fusCfg with
  | none => s
  | some c => if (s.src k).st = 3 ∧ (s.src k).ok ∧ (s.src k).okAt + c.rejHoldNs ≤ s.now then s.acceptSrc k else s

/-- ESTIMATOR_SETTLED (R114, R115). -/
def State.estimatorSettled (s : State) : State :=
  if s.fus.est = 0 ∧ s.fus.settleOk then { s with fus := { s.fus with est := 1 } } else s

/-- HOLDOVER_EXPIRED (R114). -/
def State.holdoverExpired (s : State) : State :=
  if s.fus.est = 2 then { s with fus := { s.fus with est := 0, settleOk := false } } else s

/-- WIND_AGREE (R99). -/
def State.windAgree (s : State) : State :=
  if s.fus.windAgree then { s with fus := { s.fus with windDis := false } } else s

/-- LATE_SAMPLE_EXPIRED (R93): the oldest queued late sample leaves the window. -/
def State.lateExpired (s : State) : State := match s.fus.late.foldr insertLate [] with
  | [] => s
  | x :: _ => ({ s with fus := { s.fus with late := s.fus.late.erase x } }).count Fld.FUS_LATE_LATE_DROPPED

/-- R82, R108: the source of a channel that becomes LIVE: a position reference starts rejected as NEW, the others accepted. -/
def State.srcCreate (s : State) (typ idx : Nat) : State := match slotOf typ idx with
  | none => s
  | some k => s.modSrc k (fun _ => if typ = 1 then { st := 3, reason := 10, pub := 3 } else { st := 1, pub := 1 })

/-- R462: the source of a destroyed channel reads NONE. -/
def State.srcDestroy (s : State) (typ idx : Nat) : State := match slotOf typ idx with
  | none => s
  | some k => s.modSrc k (fun _ => {})

/-- R114, R463: FUNC_REINIT of fusion: ACQUIRE, the section's calibration values, the sources as created. -/
def State.fusionReinit (s : State) : State :=
  let live := (List.range 28).filter (fun k => decide ((s.src k).st ≠ 0))
  let s := { s with fus := { src := s.fus.src.filter (fun e => decide (28 ≤ e.1)), origin := s.fus.origin,
                             originGen := s.fus.originGen, epoch := s.fus.epoch, published := s.fus.published,
                             deadline := s.fus.deadline, uartErr := s.fus.uartErr } }
  s.each live (fun k s => s.modSrc k (fun _ =>
    if k < 16 then { st := 3, reason := 10, pub := 3 } else { st := 1, pub := 1 }))

/-- Table 4-9: the bytes of an epoch record. -/
def Epoch.bytes (e : Epoch) : List Byte :=
  let i := fun x => leBytes 4 (satInt32 x).toNat
  let u := fun x => leBytes 2 (min x 65535)
  leBytes 8 e.t ++ i e.n ++ i e.e ++ leBytes 4 (ofInt32 e.psi).toNat ++ i e.u ++ i e.v ++ i e.rate ++ i e.bn ++ i e.be ++
    i e.bpsi ++ u e.sigPos ++ u e.sigPsi ++ u e.sigVel ++ leBytes 2 e.refMask ++ leBytes 4 e.status ++
    leBytes 2 (BitVec.ofInt 16 (clampInt (-32768) 32767 e.wfN)).toNat ++
    leBytes 2 (BitVec.ofInt 16 (clampInt (-32768) 32767 e.wfE)).toNat ++ leBytes 2 (e.originGen % 65536) ++ [0, 0]

/-- R119: the publication updates FUS_SRCSTAT and FUS_TRES of a slot. -/
def State.publishSrc (s : State) (k : Nat) : State :=
  let x := s.src k
  let r := clampInt (-32768) 32767 (roundDiv x.resid 10000)
  let d := clampInt (-32768) 32767 (roundDiv (x.drift * 10000000).num (x.drift * 10000000).den)
  let s := ((s.set (Fld.FUS_SRCSTATs_STATE k) x.pub).set (Fld.FUS_SRCSTATs_REASON k) x.reason).set
    (Fld.FUS_SRCSTATs_WEIGHT k) x.weight
  ((s.set (Fld.FUS_SRCSTATs_CLEAN k) x.clean).set (Fld.FUS_TRESs_RESID k) (BitVec.ofInt 16 r).toNat).set
    (Fld.FUS_TRESs_DRIFT k) (BitVec.ofInt 16 d).toNat

/-- A record goes out on the type 0xE channel of a publication task (R460). -/
def State.publishOn (s : State) (task frame : Nat) (data : List Byte) : State := match s.chan 14 task with
  | none => s
  | some c => if c.state = .live then s.portOutput c frame (crc16 data) data else s

/-- R117 to R119: the formed epoch is published.  A late epoch of an earlier frame leaves the present frame's epoch to come.  The
flags are those that the model's values show, and `own`: SAT, REG and DOMAIN of operations that they do not show (log entry 137). -/
def State.publishEpoch (s : State) (c : FusCfg) (e : Epoch) (own : Bool × Bool × Bool) : State :=
  let reg := s.fus.nextFlags.1 || own.2.1
  let sat := s.fus.nextFlags.2.1 || own.1
  let domain := s.fus.nextFlags.2.2 || own.2.2
  let st := e.status + flagBit s.fus.nextLate 13 + flagBit sat 15 + flagBit reg 16 + flagBit domain 17
  let e := { e with status := st }
  let s := s.each (List.range 28) (fun k s => s.publishSrc k)
  let s := (s.wr Reg.FUS_STAT (BitVec.ofNat 32 st)).countWrap Fld.FUS_EPOCH_COUNT
  let s := s.wr (Reg.SLV_STATc 3) (BitVec.ofNat 32 (flagBit reg 3 + flagBit sat 4 + flagBit domain 5 + 2 * 2 ^ 12 + 2 ^ 16))
  let s := if reg then s.count (Fld.SLV_REGc_REG_SOLVES 3) else s
  let now := decide (e.t = s.frame.start)
  let s := { s with fus := { s.fus with next := none, nextLate := false, epoch := some e, published := s.fus.published || now } }
  s.publishOn c.channel s.frame.count e.bytes

/-- FUS_CAL_FREEZE (R111, R452): a direct write takes effect on the commanding part. -/
def State.fusCalFreeze (s : State) (freeze : Bool) : State :=
  if s.commanding then s.setBit Fld.FUS_CTRL_CAL_FREEZE freeze else s.refuse 11 1 Reg.FUS_CTRL

/-- FUS_CNT_CLR (R119). -/
def State.fusCntClr (s : State) : State := (s.wr Reg.FUS_LATE 0).wr Reg.FUS_TCNT 0

/-! The commands. -/

/-- UART_SENTENCE (R83). -/
def execUartSentence (port : Fin 16) (startNs : Nat) (ok : Bool) (utc : Option Nat) (reading : Reading) (s : State) :
    Host.Outcome State Fault Refusal :=
  .next (s.running (fun s => s.uartSentence port startNs ok utc reading))
/-- E450_DATAGRAM (R347). -/
def execE450Datagram (_port : Fin 3) (startNs : Nat) (source : List Byte) (binary : Bool)
    (xs : List (Bool × Option Nat × Reading)) (s : State) : Host.Outcome State Fault Refusal :=
  .next (s.running (fun s => s.e450Datagram startNs source binary xs))
/-- SENSOR_FRAME (R351). -/
def execSensorFrame (port : Fin 3) (ver typ : Byte) (synced : Bool) (sender : BitVec 16) (time : Int)
    (items : List SensorItem) (overrun : Bool) (s : State) : Host.Outcome State Fault Refusal :=
  .next (s.running (fun s => s.sensorFrame port ver.toNat typ.toNat synced sender.toNat time items overrun))
/-- INTAKE_CLOSE (R90): `start` is the observer's state at its first epoch, which the spec does not give (log entry 125). -/
def execIntakeClose (start : List Rat) (s : State) : Host.Outcome State Fault Refusal :=
  .next (s.running (fun s => s.intakeClose start))
/-- OUTLIER_REJECT (R96). -/
def execOutlierReject (k : Fin 28) (s : State) : Host.Outcome State Fault Refusal :=
  .next (s.running (fun s => s.outlierReject k))
/-- INNOV_REJECT (R103). -/
def execInnovReject (k : Fin 16) (s : State) : Host.Outcome State Fault Refusal :=
  .next (s.running (fun s => s.innovReject k))
/-- TIME_READMIT (R87). -/
def execTimeReadmit (k : Fin 28) (s : State) : Host.Outcome State Fault Refusal :=
  .next (s.running (fun s => s.timeReadmit k))
/-- SOURCE_READMIT (R108). -/
def execSourceReadmit (k : Fin 28) (s : State) : Host.Outcome State Fault Refusal :=
  .next (s.running (fun s => s.sourceReadmit k))
/-- FROZEN_REJECT (R105). -/
def execFrozenReject (k : Fin 20) (s : State) : Host.Outcome State Fault Refusal :=
  .next (s.running (fun s => s.frozenReject k))
/-- ESTIMATOR_SETTLED (R115). -/
def execEstimatorSettled (s : State) : Host.Outcome State Fault Refusal :=
  .next (s.running (fun s => s.estimatorSettled))
/-- HOLDOVER_EXPIRED (R114). -/
def execHoldoverExpired (s : State) : Host.Outcome State Fault Refusal :=
  .next (s.running (fun s => s.holdoverExpired))
/-- WIND_AGREE (R99). -/
def execWindAgree (s : State) : Host.Outcome State Fault Refusal :=
  .next (s.running (fun s => s.windAgree))
/-- LATE_SAMPLE_EXPIRED (R93). -/
def execLateSampleExpired (s : State) : Host.Outcome State Fault Refusal :=
  .next (s.running (fun s => s.lateExpired))
/-- FUS_CTRL.CAL_FREEZE (R111). -/
def execFusCalFreeze (freeze : Bool) (s : State) : Host.Outcome State Fault Refusal :=
  .next (s.running (fun s => s.fusCalFreeze freeze))
/-- FUS_CTRL.CNT_CLR (R119). -/
def execFusCntClr (s : State) : Host.Outcome State Fault Refusal :=
  .next (s.running (fun s => s.fusCntClr))

end Sys2Proof.Machine
end

