-- ==== Sys2Proof/Machine/Gates.lean ====
section
/-!
DEFINITION. Sys2Proof/Machine/Gates.lean: the peripheral clock gates (R408, R409, R411): which gate a register lies behind, bus
errors, and an access to a register.
-/
namespace Sys2Proof.Machine

/-- Table 16-8: the gate, as register and bit, that an address lies behind. -/
def gateOf (a : Nat) : Option (Nat × Nat) :=
  let w := a / 0x10000
  let o := a % 0x10000
  if w = 16 then some (0, 17)
  else if w = 17 then
    if 0x1000 ≤ o ∧ o < 0x2000 then some (0, 11 + (o - 0x1000) / 0x40 / 16)
    else if 0x4000 ≤ o ∧ o < 0x8000 then some (0, 11 + (o - 0x4000) / 0x100 / 16)
    else if 0x8000 ≤ o ∧ o < 0x9000 then some (0, 15)
    else if 0x9000 ≤ o ∧ o < 0xA000 then some (0, 16) else none
  else if w = 18 ∧ 0x100 ≤ o ∧ o < 0x1C0 then some (0, 8 + (o - 0x100) / 0x40)
  else if w = 20 ∨ w = 21 then some (0, (a - 0x140000) / 0x4000)
  else none

/-- The gate register of an index. -/
def gateReg (r : Nat) : Nat := if r = 0 then Reg.CLK_GATE0 else Reg.CLK_GATE1

/-- R409, R411: what an access meets: 0 an open gate, 1 GATED, 2 DEFERRED. -/
def State.gateCause (s : State) (a : Nat) : Nat := match gateOf a with
  | none => 0
  | some (r, b) =>
    if (if r = 0 then s.clk.deferred0 else s.clk.deferred1).getLsbD b then 2
    else if (s.rd (gateReg r)).getLsbD b then 0 else 1

/-- R409: a bus error. -/
def State.busError (s : State) (a cause : Nat) : State :=
  ((s.wr Reg.CLK_BERR (BitVec.ofNat 32 a)).set Fld.CLK_BERRINFO_CAUSE cause).count Fld.CLK_BERRINFO_COUNT

/-- An access to a register of a running part: its effect, or a bus error. -/
def State.access (s : State) (a : Nat) (f : State → State) : State :=
  s.running fun s => if s.gateCause a = 0 then f s else s.busError a (s.gateCause a)

end Sys2Proof.Machine
end

