-- ==== Sys2Proof/Machine/Can.lean ====
section
/-!
DEFINITION. Sys2Proof/Machine/Can.lean: the CAN FD controllers (R307 to R334): modes and error states, reception, filters and
reassembly, pairs, transmission and cancellation, time-triggered operation.
-/
namespace Sys2Proof.Machine

/-! Events, refusals, modes. -/

/-- Table 19-3: DATA of class 11 events. -/
def State.canData (s : State) (n : Nat) : List Byte :=
  le32 (s.rd (Reg.CANn_STAT n)) ++ le32 (s.rd (Reg.CANn_ERRCNT n)) ++ leBytes 4 n

/-- An event of a controller, which no channel stands for. -/
def State.canEvent (s : State) (n code : Nat) : State := s.raise code 0 (s.canData n)

/-- R334: a refused write: 1 CAN_RUNNING, 2 OBJ_ENABLED, 3 BANK_ACTIVE, 4 BAD_VALUE. -/
def State.canRefuse (s : State) (n code addr : Nat) : State :=
  ((s.set (Fld.CANn_STAT_REFUSED n) 1).set (Fld.CANn_STAT_REF_CODE n) code).refuse 19 code addr

/-- The mode in force. -/
def State.canMode (s : State) (n : Nat) : Nat := s.get (Fld.CANn_CTRL_MODE n)

/-- R310, R314, R315: the controller is on its bus and in a mode that receives. -/
def State.canHears (s : State) (n : Nat) : Bool :=
  s.get (Fld.CANn_STAT_STATE n) < 2 && s.canMode n ≠ 0 && !(s.canCtl n).reinit

/-- R310, R315: the controller may put a frame on its bus. -/
def State.canSends (s : State) (n : Nat) : Bool := s.canHears n && s.canMode n = 1

/-- R317: the controller belongs to a DUPLICATED pair. -/
def State.canDup (s : State) (n : Nat) : Bool := match s.canCfg n with
  | some c => c.duplicated
  | none => false

/-- The even controller of a pair. -/
def evenOf (n : Nat) : Nat := n - n % 2

/-- R319: the odd controller is the active one of a DUPLICATED pair. -/
def State.oddActive (s : State) (n : Nat) : Bool :=
  let e := evenOf n
  !s.canHears e || (s.canCtl e).objs.any (fun x => x.2.silent)

/-- R319: PAIR_ACTIVE follows the condition of the even controller. -/
def State.pairSync (s : State) (n : Nat) : State :=
  if s.canDup (evenOf n) then
    (s.setBit (Fld.CANn_STAT_PAIR_ACTIVE (evenOf n)) (!s.oddActive n)).setBit (Fld.CANn_STAT_PAIR_ACTIVE (evenOf n + 1))
      (s.oddActive n)
  else s

/-- R315: a controller that is cut off discards the outputs it holds. -/
def State.canDiscard (s : State) (n : Nat) : State :=
  let k := ((s.canCtl n).objs.map (fun x => x.2.outputs)).foldl (· + ·) 0
  (s.countBy (Fld.CANn_CNT1_DISCARDED n) k).modCan n (fun c => { c with
    objs := (c.objs.map (fun x => (x.1, { x.2 with queue := [] }))).filter (fun x => decide (x.2 ≠ {})), tx := none })

/-- R313: the error state follows from the counts; error passive is entered above 127. -/
def State.canErrState (s : State) (n : Nat) : State :=
  if 2 ≤ s.get (Fld.CANn_STAT_STATE n) then s
  else
    let passive := decide (127 < s.get (Fld.CANn_ERRCNT_TEC n) ∨ 127 < s.get (Fld.CANn_ERRCNT_REC n))
    let s := if passive ∧ s.get (Fld.CANn_STAT_STATE n) = 0 then s.set (Fld.CANn_EVT_PASSIVE n) 1 else s
    s.setBit (Fld.CANn_STAT_STATE n) passive

/-- R314: bus-off is entered: no frame leaves, and what is queued is discarded. -/
def State.canBusoff (s : State) (n : Nat) : State :=
  let s := (s.set (Fld.CANn_STAT_STATE n) 2).set (Fld.CANn_ERRCNT_TEC n) 255
  let s := (s.count (Fld.CANn_CNT1_BUSOFFS n)).set (Fld.CANn_EVT_BUSOFF n) 1
  ((s.canDiscard n).canEvent n 0x5801).pairSync n

/-- The transmit error count rises by 8; above 255 the controller goes bus-off (R313, R314). -/
def State.canTecUp (s : State) (n : Nat) : State :=
  let t := s.get (Fld.CANn_ERRCNT_TEC n) + 8
  if 255 < t then s.canBusoff n else (s.set (Fld.CANn_ERRCNT_TEC n) t).canErrState n

/-- The receive error count rises, up to 255. -/
def State.canRecUp (s : State) (n k : Nat) : State := (s.countBy (Fld.CANn_ERRCNT_REC n) k).canErrState n

/-- A good reception: the receive error count falls by one, or from above 127 to a value from 119 to 127. -/
def State.canRecDown (s : State) (n : Nat) : State :=
  let r := s.get (Fld.CANn_ERRCNT_REC n)
  if r = 0 then s
  else if r ≤ 127 then (s.set (Fld.CANn_ERRCNT_REC n) (r - 1)).canErrState n
  else ((s.set (Fld.CANn_ERRCNT_REC n) (119 + s.freeWord.toNat % 9)).canErrState n).fresh

/-- R313: ACKERR_RUN returns to 0, and NOPART clears. -/
def State.canAckOk (s : State) (n : Nat) : State := (s.set (Fld.CANn_STAT_ACKERR_RUN n) 0).set (Fld.CANn_STAT_NOPART n) 0

/-- A mode takes effect (Table 12-3).  STOPPED leaves the bus and ends time-triggered operation; LISTEN and DETECT cut the
controller off (R315); DETECT starts at its first candidate (R312). -/
def State.canApplyMode (s : State) (n m : Nat) : State :=
  let s := (s.set (Fld.CANn_CTRL_MODE n) m).modCan n (fun c => { c with modeDue := none })
  let s := if m = 0 ∧ s.get (Fld.CANn_STAT_STATE n) ≠ 2 then s.set (Fld.CANn_STAT_STATE n) 3 else s
  let s := if m = 0 then
      ((s.set (Fld.CANn_STAT_TT_MASTER n) 0).set (Fld.CANn_STAT_TT_SYNC n) 0).modCan n (fun c => { c with
        ttRun := false, refSeen := false, yieldDue := false, window := none })
    else s
  let s := if m = 0 ∨ m = 3 ∨ m = 4 then s.canDiscard n else s
  let s := if m = 4 then
      ((s.set (Fld.CANn_STAT_RATE_FOUND n) 0).set (Fld.CANn_STAT_NO_RATE n) 0).modCan n (fun c => { c with cand := 0, valid := 0 })
    else s
  s.pairSync n

/-- A mode asked for: one that sends no frame takes effect at the end of the frame in progress (R310, R311). -/
def State.canSetMode (s : State) (n m : Nat) : State :=
  if (s.canCtl n).tx.isSome ∧ m ≠ 1 then s.modCan n (fun c => { c with modeDue := some m }) else s.canApplyMode n m

/-- R311: NORMAL on a standby part is RESTRICTED. -/
def State.roleMode (s : State) (m : Nat) : Nat := if m = 1 ∧ ¬ s.commanding then 2 else m

/-- R311: the controllers whose section sets NORMAL follow the role at a claim or a demotion. -/
def State.canRole (s : State) (normal : Bool) : State :=
  s.each (List.range 8) fun n s => match s.canCfg n with
    | none => s
    | some c =>
      if c.mode ≠ 1 then s
      else if normal then (if s.canMode n = 2 ∨ (s.canCtl n).modeDue = some 2 then s.canSetMode n 1 else s)
      else if s.canMode n = 1 then s.canSetMode n 2 else s

/-- A write of CANn_CTRL.MODE (R310, R312): values 5 to 7, and DETECT with FD operation on, are refused. -/
def State.canCtrlMode (s : State) (n m : Nat) : State :=
  if 5 ≤ m ∨ (m = 4 ∧ s.get (Fld.CANn_CTRL_FD_EN n) = 1) then s.canRefuse n 4 (Reg.CANn_CTRL n) else s.canSetMode n m

/-- R310: 11 consecutive recessive bits: a controller that is not STOPPED joins its bus. -/
def State.canBusIdle (s : State) (n : Nat) : State :=
  if s.get (Fld.CANn_STAT_STATE n) = 3 ∧ s.canMode n ≠ 0 ∧ s.get (Fld.CANn_STAT_LIMP n) = 0 ∧ ¬ (s.canCtl n).reinit then
    ((s.set (Fld.CANn_STAT_STATE n) 0).canErrState n).pairSync n
  else s

/-- CANn_CTRL.BO_RECOVER (R314): ignored outside bus-off. -/
def State.canBoRecover (s : State) (n : Nat) : State :=
  if s.get (Fld.CANn_STAT_STATE n) = 2 then s.modCan n (fun c => { c with boRecover := true }) else s

/-- R314: 128 occurrences of 11 recessive bits after BO_RECOVER: error active with both counts at 0. -/
def State.busoffRecovered (s : State) (n : Nat) : State :=
  if (s.canCtl n).boRecover ∧ s.get (Fld.CANn_STAT_STATE n) = 2 then
    let s := ((s.set (Fld.CANn_ERRCNT_TEC n) 0).set (Fld.CANn_ERRCNT_REC n) 0).modCan n (fun c => { c with boRecover := false })
    (s.set (Fld.CANn_STAT_STATE n) (if s.canMode n = 0 then 3 else 0)).pairSync n
  else s

/-- R308: the CAN domain falls back to a limp clock: every controller ends in STOPPED with LIMP set. -/
def State.canLimp (s : State) : State :=
  s.each (List.range 8) fun n s =>
    if (s.canCfg n).isSome then ((s.canApplyMode n 0).set (Fld.CANn_STAT_LIMP n) 1).canEvent n 0x5806 else s

/-! DETECT (R312). -/

/-- The candidates of a controller. -/
def State.canCandidates (s : State) (n : Nat) : List Word := match s.canCfg n with
  | some c => c.candidates
  | none => []

/-- The next candidate of DETECT is tried; the list is cycled. -/
def State.canNextCand (s : State) (n : Nat) : State :=
  let k := (s.canCandidates n).length
  s.modCan n (fun c => { c with cand := if k = 0 then 0 else (c.cand + 1) % k, valid := 0 })

/-- A valid frame in DETECT: the fourth one in a row finds the rate. -/
def State.canDetect (s : State) (n : Nat) : State :=
  let s := s.modCan n (fun c => { c with valid := c.valid + 1 })
  let c := s.canCtl n
  match (s.canCandidates n)[c.cand]?, s.canCfg n with
  | some w, some x =>
    if c.valid < 4 then s
    else
      let s := s.wr (Reg.CANn_ARBTIM n) (w &&& 0x03FFFFFF)
      let s := (s.set (Fld.CANn_STAT_RATE_FOUND n) 1).set (Fld.CANn_EVT_RATE n) 1
      (s.canEvent n 0x5803).canApplyMode n (s.roleMode x.detNext)
  | _, _ => s

/-- DET_DWELL_EXPIRED (R312). -/
def State.detDwell (s : State) (n : Nat) : State := if s.canMode n = 4 then s.canNextCand n else s

/-- CAN_NO_RATE (R312): NO_RATE is set and its event raised once; the list goes on being cycled. -/
def State.canNoRate (s : State) (n : Nat) : State :=
  if s.canMode n = 4 ∧ s.get (Fld.CANn_STAT_NO_RATE n) = 0 then
    ((s.set (Fld.CANn_STAT_NO_RATE n) 1).set (Fld.CANn_EVT_RATE n) 1).canEvent n 0x5804
  else s

/-! Time-triggered operation (R331 to R333). -/

/-- Time-triggered operation is on. -/
def State.ttOn (s : State) (n : Nat) : Bool := s.get (Fld.CANn_TTCFG_ROLE n) ≠ 0

/-- A window entry (Table 12-9). -/
structure TtWindow where
  start : Nat
  len : Nat
  obj : Nat
  typ : Nat
  rep : Nat
  base : Nat
deriving DecidableEq, Repr

/-- Window j of a schedule bank. -/
def State.ttWindow (s : State) (n bank j : Nat) : TtWindow :=
  let a := s.rd (Reg.CANn_SCHEDj n (128 * bank + 2 * j))
  let b := s.rd (Reg.CANn_SCHEDj n (128 * bank + 2 * j + 1))
  { start := bitsGet a 0 16, len := bitsGet a 16 16, obj := bitsGet b 0 8, typ := bitsGet b 8 2, rep := bitsGet b 10 3,
    base := bitsGet b 13 6 }

/-- The enabled windows of a bank, in entry order. -/
def State.ttWindows (s : State) (n bank : Nat) : List TtWindow :=
  ((List.range 64).map (s.ttWindow n bank)).filter (fun w => decide (w.typ ≠ 3))

/-- The window takes place in basic cycle c. -/
def TtWindow.inCycle (w : TtWindow) (c : Nat) : Bool := c % 2 ^ w.rep = w.base % 2 ^ w.rep

/-- R333: two windows overlap in some basic cycle of the matrix. -/
def ttOverlap (cycles : Nat) (v w : TtWindow) : Bool :=
  v.start < w.start + w.len && w.start < v.start + v.len && (List.range cycles).any (fun c => v.inCycle c && w.inCycle c)

/-- Two windows of a list overlap. -/
def ttOverlaps (cycles : Nat) : List TtWindow → Bool
  | [] => false
  | w :: ws => ws.any (ttOverlap cycles w) || ttOverlaps cycles ws

/-- The START values are ascending. -/
def ttAscending : List TtWindow → Bool
  | v :: w :: ws => v.start ≤ w.start && ttAscending (w :: ws)
  | _ => true

/-- A window names an object: always when EXCLUSIVE, otherwise unless OBJ is 0xFF. -/
def TtWindow.names (w : TtWindow) : Bool := w.typ = 0 || w.obj ≠ 0xFF

/-- R333: the shadow bank passes the check of a swap. -/
def State.ttCheck (s : State) (n : Nat) : Bool :=
  let ws := s.ttWindows n (1 - s.get (Fld.CANn_TTSTAT_BANK n))
  let div := max 1 (s.get (Fld.CANn_TTCFG_BC_DIV n))
  ws.all (fun w => decide ((w.start + w.len) * 1000 * div ≤ s.frameNs) && (!w.names || s.objSends n w.obj)) &&
    !ttOverlaps (2 ^ s.get (Fld.CANn_TTCFG_MATRIX n)) ws && ttAscending ws

/-- The banks change places. -/
def State.ttSwapBanks (s : State) (n : Nat) : State :=
  (s.set (Fld.CANn_TTSTAT_BANK n) (1 - s.get (Fld.CANn_TTSTAT_BANK n))).set (Fld.CANn_TTSTAT_SWAP_PEND n) 0

/-- CANn_TTSWAP.SWAP (R333). -/
def State.canTtswap (s : State) (n : Nat) : State :=
  if s.get (Fld.CANn_TTSTAT_SWAP_PEND n) = 1 ∨ ¬ s.ttCheck n then
    (s.set (Fld.CANn_TTSTAT_SWAP_REFUSED n) 1).canRefuse n 4 (Reg.CANn_TTSWAP n)
  else if s.ttOn n then s.set (Fld.CANn_TTSTAT_SWAP_PEND n) 1
  else s.ttSwapBanks n

/-- A reference message is in force from a mark with a cycle count; a pending swap takes effect at count 0. -/
def State.ttMark (s : State) (n mark c : Nat) : State :=
  let s := (s.set (Fld.CANn_TTSTAT_CYCLE n) c).modCan n (fun x => { x with ttRun := true, mark := mark, window := none })
  if c = 0 ∧ s.get (Fld.CANn_TTSTAT_SWAP_PEND n) = 1 then s.ttSwapBanks n else s

/-- R331, R311: the part may send reference messages: it commands, and the controller sends. -/
def State.ttMayLead (s : State) (n : Nat) : Bool := s.ttOn n && s.canSends n && s.commanding

/-- The part's reference message starts, if the bus is free of its own frames. -/
def State.ttSendRef (s : State) (n c : Nat) : State :=
  if (s.canCtl n).tx.isSome then s
  else (s.ttMark n s.now c).modCan n (fun x => { x with tx := some .reference, txWindow := false })

/-- The current time master changes. -/
def State.ttMaster (s : State) (n : Nat) (own : Bool) (prio : Nat) : State :=
  let s := if own ≠ (s.get (Fld.CANn_STAT_TT_MASTER n) = 1) ∨ prio ≠ s.get (Fld.CANn_TTSTAT_MASTER_PRIO n) then
      s.set (Fld.CANn_EVT_TT_MASTER_CHG n) 1 else s
  (s.setBit (Fld.CANn_STAT_TT_MASTER n) own).set (Fld.CANn_TTSTAT_MASTER_PRIO n) prio

/-- BASIC_CYCLE_START (R331, R333): TT_SYNC tells of the cycle that ended; a master that is to yield does, and otherwise sends
its reference message. -/
def State.basicCycle (s : State) (n : Nat) : State :=
  if ¬ s.ttOn n ∨ ¬ s.canHears n then s
  else
    let x := s.canCtl n
    let s := (s.setBit (Fld.CANn_STAT_TT_SYNC n) x.refSeen).modCan n (fun c => { c with refSeen := false, yieldDue := false })
    if s.get (Fld.CANn_STAT_TT_MASTER n) = 0 then s
    else if x.yieldDue ∨ ¬ s.ttMayLead n then s.ttMaster n false (s.get (Fld.CANn_TTSTAT_MASTER_PRIO n))
    else s.ttSendRef n ((s.get (Fld.CANn_TTSTAT_CYCLE n) + 1) % 2 ^ s.get (Fld.CANn_TTCFG_MATRIX n))

/-- TT_BACKUP_TIMEOUT (R331): no reference message came; a potential master sends its own and leads. -/
def State.ttBackup (s : State) (n : Nat) : State :=
  if ¬ s.ttOn n ∨ ¬ s.canHears n ∨ (s.canCtl n).refSeen ∨ s.get (Fld.CANn_STAT_TT_MASTER n) = 1 then s
  else
    let c := if (s.canCtl n).ttRun then (s.get (Fld.CANn_TTSTAT_CYCLE n) + 1) % 2 ^ s.get (Fld.CANn_TTCFG_MATRIX n) else 0
    let s := (s.count (Fld.CANn_TTSTAT_REF_MISS n)).set (Fld.CANn_EVT_TT_REF_MISS n) 1
    if s.ttMayLead n then (s.ttMaster n true (s.get (Fld.CANn_TTCFG_PRIO n))).ttSendRef n c else s

/-- R331: the identifier of a reference message of any priority. -/
def State.isReference (s : State) (n : Nat) (f : CanFrame) : Bool :=
  s.ttOn n && !f.ide && !f.fdf && f.data.length = 1 && f.id.toNat / 8 = s.get (Fld.CANn_TTCFG_REF_ID n) / 8

/-- R331: a reference message arrives.  A master heeds only one of higher priority, and yields at the next basic cycle. -/
def State.ttReference (s : State) (n stamp : Nat) (f : CanFrame) : State :=
  let p := f.id.toNat % 8
  let c := (f.data.getD 0 0).toNat % 64
  let s := s.modCan n (fun x => { x with refSeen := true })
  if s.get (Fld.CANn_STAT_TT_MASTER n) = 0 then (s.ttMaster n false p).ttMark n stamp c
  else if p < s.get (Fld.CANn_TTCFG_PRIO n) then
    (((s.set (Fld.CANn_EVT_TT_MASTER_CHG n) 1).set (Fld.CANn_TTSTAT_MASTER_PRIO n) p).modCan n (fun x => { x with
      yieldDue := true })).ttMark n stamp c
  else s

/-! Transmission (R321 to R325, R332). -/

/-- R323: how a send object ranks in arbitration: the base identifier, then IDE, then the lower identifier bits. -/
def State.canRank (s : State) (n o : Nat) : Nat :=
  let id := s.get (Fld.CANn_OBJCFG_ID n o)
  if s.get (Fld.CANn_OBJCFG_IDE n o) = 1 then id / 2 ^ 18 * 2 ^ 19 + 2 ^ 18 + id % 2 ^ 18 else id % 2 ^ 11 * 2 ^ 19

/-- The enabled send objects with something queued, by index. -/
def State.canQueued (s : State) (n : Nat) : List (Nat × List CanTx) :=
  ((s.canCtl n).objs.map (fun x => (x.1, x.2.queue))).filter (fun x => decide (x.2 ≠ []) && s.objSends n x.1)

/-- R323, R251: the object whose head is offered: the lowest rank among admitted heads whose frame count is not above that of
any queued output or marker. -/
def State.canPick (s : State) (n : Nat) (allow : Nat → Bool) : Option Nat :=
  let q := s.canQueued n
  let frames := (q.map (fun x => x.2.map (fun t => t.item.frame))).flatten
  let heads := q.filter (fun x => allow x.1 && (x.2.take 1).all (fun t => frames.all (fun k => decide (t.item.frame ≤ k))))
  (heads.foldl (fun (b : Option Nat) x => match b with
    | none => some x.1
    | some y => if s.canRank n x.1 < s.canRank n y then some x.1 else some y) none)

/-- An object has an EXCLUSIVE window in the active bank. -/
def State.ttExclusive (s : State) (n o : Nat) : Bool :=
  (s.ttWindows n (s.get (Fld.CANn_TTSTAT_BANK n))).any (fun w => decide (w.typ = 0 ∧ w.obj = o))

/-- R332: which objects the window in force admits. -/
def State.ttAdmits (s : State) (n o : Nat) : Bool := match (s.canCtl n).window with
  | none => false
  | some j =>
    let w := s.ttWindow n (s.get (Fld.CANn_TTSTAT_BANK n)) j
    if s.now < (s.canCtl n).mark + (w.start + w.len) * 1000 then
      (w.typ = 0 && w.obj = o) || (w.typ = 1 && (if w.obj = 0xFF then !s.ttExclusive n o else w.obj = o))
    else false

/-- R324: a CAN-object channel's head takes its SEQ as it is loaded. -/
def State.canLoad (s : State) (n o : Nat) : State := match (s.canObj n o).queue with
  | [] => s
  | t :: ts =>
    if t.fixed then s
    else match s.chan 9 (256 * n + o) with
      | none => s
      | some c =>
        let x := { t.item with seq := c.seq, epoch := s.epochByte }
        (s.modObj n o (fun y => { y with queue := { item := x, fixed := true } :: ts })).modChan 9 (256 * n + o)
          (fun c => { c with seq := (c.seq + 1) % 65536, epoch := x.epoch })

/-- CAN_TX_START (R323, R332): with the bus free of its own frames, the controller begins the frame of the picked head. -/
def State.canTxStart (s : State) (n : Nat) (fits : Bool) : State :=
  if ¬ s.canSends n ∨ (s.canCtl n).tx.isSome then s
  else if s.ttOn n ∧ ¬ fits then s
  else match s.canPick n (fun o => !s.ttOn n || s.ttAdmits n o) with
    | none => s
    | some o => (s.canLoad n o).modCan n (fun c => { c with tx := some (.object o), txWindow := s.ttOn n })

/-- TT_WINDOW_START (R332): a window of the present cycle opens, and an admitted head that fits starts. -/
def State.ttWindowStart (s : State) (n j : Nat) (fits : Bool) : State :=
  let w := s.ttWindow n (s.get (Fld.CANn_TTSTAT_BANK n)) j
  if s.ttOn n ∧ (s.canCtl n).ttRun ∧ w.typ ≠ 3 ∧ w.inCycle (s.get (Fld.CANn_TTSTAT_CYCLE n)) then
    (s.modCan n (fun c => { c with window := some j })).canTxStart n fits
  else s

/-- R321: the payload lengths of the length codes. -/
def dlcLen (d : Nat) : Nat := [0, 1, 2, 3, 4, 5, 6, 7, 8, 12, 16, 20, 24, 32, 48, 64].getD d 64

/-- R321: the bytes of a send object's frame: the tag, then the data padded with 0xCC, or the 4 marker bytes. -/
def State.canFrameBytes (s : State) (n o : Nat) (x : OutItem) : List Byte :=
  let b := tagBytes x ++ itemData x
  let len := if x.marker.isSome then 12 else dlcLen (s.get (Fld.CANn_OBJFMT_DLC n o))
  (b ++ List.replicate (len - b.length) 0xCC).take len

/-- The head of an object leaves its queue. -/
def State.canPop (s : State) (n o : Nat) : State := s.modObj n o (fun y => { y with queue := y.queue.tail })

/-- R456: an output or marker that left a CAN-object channel reaches its subscriptions. -/
def State.canLeft (s : State) (n o : Nat) : State := match (s.canObj n o).queue with
  | [] => s
  | t :: _ => if handleType t.item.handle = 9 then (s.toSubs t.item).canPop n o else s.canPop n o

/-- R324: a head that does not leave returns its SEQ unused. -/
def State.canReturn (s : State) (n o : Nat) : State := match (s.canObj n o).queue with
  | [] => s
  | t :: _ =>
    let s := s.canPop n o
    if t.fixed then s.modChan 9 (256 * n + o) (fun c => { c with seq := (c.seq + 65535) % 65536 }) else s

/-- The outcome of a cancellation is reported (Table 12-4). -/
def State.cancDone (s : State) (n result : Nat) : State :=
  (s.set (Fld.CANn_CANCSTAT_RESULT n) result).set (Fld.CANn_CANCSTAT_PENDING n) 0

/-- A cancel of object o is pending. -/
def State.cancPending (s : State) (n o : Nat) : Bool :=
  s.get (Fld.CANn_CANCSTAT_PENDING n) = 1 && s.get (Fld.CANn_CANCSTAT_OBJ n) = o

/-- A head removed by a cancel. -/
def State.canCancelled (s : State) (n o : Nat) : State :=
  ((s.canReturn n o).cancDone n 1).set (Fld.CANn_EVT_TX_CANCELLED n) 1

/-- CANn_TXCANCEL (R325). -/
def State.canTxcancel (s : State) (n o : Nat) : State :=
  let s := (s.set (Fld.CANn_CANCSTAT_OBJ n) o).set (Fld.CANn_CANCSTAT_PENDING n) 0
  if s.objSends n o ∧ s.get (Fld.CANn_OBJHDL_HANDLE n o) / 2 ^ 28 ≠ 9 then s.cancDone n 3
  else if ¬ s.objSends n o ∨ (s.canObj n o).queue = [] then s.cancDone n 4
  else if (s.canCtl n).tx = some (.object o) then s.set (Fld.CANn_CANCSTAT_PENDING n) 1
  else s.canCancelled n o

/-- A head that was not sent: cancelled, lost in its window (R332), given up under NOPART (R313), or kept for another try. -/
def State.canUnsent (s : State) (n o : Nat) (window noAck : Bool) : State :=
  if s.cancPending n o then s.canCancelled n o
  else if window then (s.canLeft n o).count (Fld.CANn_CNT2_TT_LOST n)
  else if noAck ∧ s.get (Fld.CANn_STAT_NOPART n) = 1 ∧ s.get (Fld.CANn_OBJFMT_NOPART n o) = 0 then
    (s.canLeft n o).count (Fld.CANn_CNT2_NOACK_LOST n)
  else s

/-- R313: a transmission ends in an ACK error.  An error-passive transmitter does not raise its count. -/
def State.canNoAck (s : State) (n : Nat) : State :=
  let s := s.set (Fld.CANn_STAT_ERR_ARB n) 2
  let s := if s.get (Fld.CANn_STAT_STATE n) = 1 then s else s.canTecUp n
  let s := s.count (Fld.CANn_STAT_ACKERR_RUN n)
  if s.get (Fld.CANn_STAT_ACKERR_RUN n) = 128 ∧ s.get (Fld.CANn_STAT_NOPART n) = 0 then
    ((s.set (Fld.CANn_STAT_NOPART n) 1).set (Fld.CANn_EVT_NOPART n) 1).canEvent n 0x5802
  else s

/-- Table 12-13: the latest error of a phase is kept. -/
def State.canErr (s : State) (n code : Nat) (fast : Bool) : State :=
  if fast then s.set (Fld.CANn_STAT_ERR_FAST n) code else s.set (Fld.CANn_STAT_ERR_ARB n) code

/-- R313: an acknowledged transmission. -/
def State.canAcked (s : State) (n : Nat) : State :=
  let s := (s.count (Fld.CANn_CNT0_TX_OK n)).canAckOk n
  (s.set (Fld.CANn_ERRCNT_TEC n) (s.get (Fld.CANn_ERRCNT_TEC n) - 1)).canErrState n

/-- What a controller does at the end of its frame: a mode or a re-initialisation that waited. -/
def State.canFrameEnd (s : State) (n : Nat) : State :=
  let s := if (s.canCtl n).reinit then s.canDiscard n else s
  match (s.canCtl n).modeDue with
  | some m => s.canApplyMode n m
  | none => s

/-- CAN_TX_END (R313, R325): a transmission ends; `loopDelay` is what an FD frame measured with compensation on (R309). -/
def State.canTxEnd (s : State) (n : Nat) (how : CanTxEnd) (loopDelay : Nat) : State := match (s.canCtl n).tx with
  | none => s
  | some w =>
    let window := (s.canCtl n).txWindow
    let s := s.modCan n (fun c => { c with tx := none, txWindow := false })
    let fd : Bool := match w with | .object _ => true | .reference => false
    let s := if fd ∧ s.get (Fld.CANn_CTRL_SSP_EN n) = 1 then s.set (Fld.CANn_SSP_SSP_MEAS n) (min loopDelay 255) else s
    let s := match how with
      | .acked =>
        let s := s.canAcked n
        match w with
        | .object o => (if s.cancPending n o then s.cancDone n 2 else s).canLeft n o
        | .reference => s
      | .noAck =>
        let s := s.canNoAck n
        match w with
        | .object o => s.canUnsent n o window true
        | .reference => s
      | .error code fast =>
        let s := (s.canErr n code.val fast).canTecUp n
        match w with
        | .object o => s.canUnsent n o window false
        | .reference => s
      | .lostArbitration =>
        match w with
        | .object o => s.canUnsent n o window false
        | .reference => s
    s.canFrameEnd n

/-! Reception (R318, R319, R326 to R330). -/

/-- Table 12-7: a receive record. -/
def recordOf (n stamp : Nat) (f : CanFrame) (data : List Byte) : List Byte :=
  leBytes 8 stamp ++
    leBytes 4 (f.id.toNat + 2 ^ 29 * f.ide.toNat + 2 ^ 30 * f.fdf.toNat + 2 ^ 31 * f.brs.toNat) ++
    leBytes 2 data.length ++ [BitVec.ofNat 8 (n + 8 * f.esi.toNat), 0] ++ data

/-- A receive object holds up to 16 records that its consumer has not used yet. -/
def State.undelivered (s : State) (typ idx : Nat) (drive : Bool) : Nat :=
  if drive then (s.alc.inbox.filter (fun x => decide (x.1 = idx))).length
  else match slotOf typ idx with
    | some k => (s.src k).inbox.length
    | none => 0

/-- R328: a record reaches the consumer of the object's channel: drive feedback, the power channel (R124), a subscriber, or
fusion and control. -/
def State.canConsume (s : State) (n o stamp : Nat) (rec_ data : List Byte) (r : Option Reading) : State :=
  let h := s.rd (Reg.CANn_OBJHDL n o)
  let t := handleType h
  let i := handleIndex h
  let drive := s.get (Fld.CANn_OBJFMT_PROTO n o) = 3
  if 16 ≤ s.undelivered t i drive then
    (s.set (Fld.CANn_EVT_RX_OVR n) 1).modObj n o (fun y => { y with ovr := true })
  else if drive then (if data.length = 24 then s.driveMsg i data else s)
  else if s.cfg.any (fun c => decide (c.powerHandle = h)) then
    (match r with | some x => s.powerMsg (x.vals.map Int.toNat) | none => s)
  else if t = 9 then s.umberOut 9 i rec_
  else match r with
    | some x => s.consume t i stamp false none x
    | none => s

/-- A record is delivered. -/
def State.canDeliver (s : State) (n o stamp : Nat) (f : CanFrame) (data : List Byte) (r : Option Reading) : State :=
  let b := recordOf n stamp f data
  (s.modObj n o (fun y => { y with latest := b })).canConsume n o stamp b data r

/-- R329: a message is dropped. -/
def State.reasmDrop (s : State) (n o : Nat) : State :=
  (s.count (Fld.CANn_CNT2_REASM_DROP n)).modObj n o (fun y => { y with asm := none })

/-- A message starts; one that is under way or too long is dropped. -/
def State.reasmStart (s : State) (n o limit : Nat) (a : CanAsm) : State :=
  let s := if (s.canObj n o).asm.isSome then s.reasmDrop n o else s
  if limit < a.total then s.count (Fld.CANn_CNT2_REASM_DROP n) else s.modObj n o (fun y => { y with asm := some a })

/-- A message under way is delivered once all its bytes are there. -/
def State.reasmEnd (s : State) (n o : Nat) (f : CanFrame) (r : Option Reading) : State := match (s.canObj n o).asm with
  | none => s
  | some a =>
    if a.data.length < a.total then s
    else (s.modObj n o (fun y => { y with asm := none })).canDeliver n o a.stamp f (a.data.take a.total) r

/-- The next frame of a message: in order, of the same key, or the message is dropped. -/
def State.reasmNext (s : State) (n o key num : Nat) (data : List Byte) : State := match (s.canObj n o).asm with
  | none => s
  | some a =>
    if a.key = key ∧ a.next = num then
      s.modObj n o (fun y => { y with asm := some { a with next := num + 1, data := a.data ++ data } })
    else s.reasmDrop n o

/-- R329: NMEA 2000 fast packets: frame 0 carries the length and 6 bytes, later frames 7 bytes. -/
def State.n2kFast (s : State) (n o stamp : Nat) (f : CanFrame) (r : Option Reading) : State :=
  let b := (f.data.getD 0 0).toNat
  let key := f.id.toNat * 8 + b / 32
  let s := if b % 32 = 0 then
      s.reasmStart n o 223 { stamp := stamp, key := key, next := 1, total := (f.data.getD 1 0).toNat, data := f.data.drop 2 }
    else s.reasmNext n o key (b % 32) (f.data.drop 1)
  s.reasmEnd n o f r

/-- R329: J1939 broadcast transport: the announce frame of PGN 60416 and the data frames of PGN 60160. -/
def State.j1939Bam (s : State) (n o stamp : Nat) (f : CanFrame) (r : Option Reading) : State :=
  let pf := f.id.toNat / 2 ^ 16 % 256
  let key := f.id.toNat % 256
  if pf = 0xEC then
    if (f.data.getD 0 0).toNat = 32 then
      s.reasmStart n o 255 { stamp := stamp, key := key, next := 1, total := leNat ((f.data.drop 1).take 2), data := [] }
    else s
  else if pf = 0xEB then (s.reasmNext n o key (f.data.getD 0 0).toNat (f.data.drop 1)).reasmEnd n o f r
  else s

/-- REASM_TIMEOUT (R329). -/
def State.reasmTimeout (s : State) (n o : Nat) : State :=
  if (s.canObj n o).asm.isSome then s.reasmDrop n o else s

/-- R318: the frames of the object carry a tag: drive feedback, and the part's own drive frames. -/
def State.canTagged (s : State) (n o : Nat) : Bool :=
  s.get (Fld.CANn_OBJFMT_PROTO n o) = 3 || s.get (Fld.CANn_OBJHDL_HANDLE n o) / 2 ^ 28 = 5

/-- R318: the first copy of a tagged frame is delivered; a second one within 100 ms is discarded, and counted if it differs. -/
def State.canDupFrame (s : State) (n o stamp : Nat) (f : CanFrame) (r : Option Reading) : State :=
  let e := evenOf n
  let seq := leNat (f.data.take 2)
  let seen := (s.canCtl e).seen.filter (fun x => decide (s.now ≤ x.2.2.1 + 100000000))
  match seen.find? (fun x => decide (x.1 = f.id.toNat ∧ x.2.1 = seq)) with
  | some x =>
    let s := s.modCan e (fun c => { c with seen := seen })
    if x.2.2.2 = f.data then s
    else ((s.count (Fld.CANn_CNT1_DUP_MISMATCH n)).set (Fld.CANn_EVT_DUP_MISMATCH n) 1).canEvent n 0x5805
  | none =>
    (s.modCan e (fun c => { c with seen := seen ++ [(f.id.toNat, seq, s.now, f.data)] })).canDeliver n o stamp f f.data r

/-- R319: a receive object has heard a frame; its silence on the even controller ends. -/
def State.canHeard (s : State) (n o : Nat) : State :=
  (s.modObj n o (fun y => { y with heard := true, silent := false })).pairSync n

/-- PAIR_RX_TIMEOUT (R319): the even copy of an object has heard nothing for RX_TIMEOUT while the odd copy has. -/
def State.pairRxTimeout (s : State) (n o : Nat) : State :=
  if s.canDup n ∧ n % 2 = 0 ∧ s.objOn n o ∧ s.get (Fld.CANn_OBJCFG_DIR n o) = 0 ∧
      s.get (Fld.CANn_OBJFMT_RX_TIMEOUT n o) ≠ 0 then
    let silent := !(s.canObj n o).heard && (s.canObj (n + 1) o).heard
    let s := s.modObj n o (fun y => { y with heard := false, silent := y.silent || silent })
    (s.modObj (n + 1) o (fun y => { y with heard := false })).pairSync n
  else s

/-- An accepted frame reaches its object, by its protocol and its pair (R317 to R319, R328, R329). -/
def State.canAccept (s : State) (n o stamp : Nat) (f : CanFrame) (r : Option Reading) : State :=
  if ¬ s.objOn n o ∨ s.get (Fld.CANn_OBJCFG_DIR n o) = 1 then s.count (Fld.CANn_CNT2_BAD_OBJ n)
  else
    let s := s.canHeard n o
    let p := s.get (Fld.CANn_OBJFMT_PROTO n o)
    if s.canDup n ∧ s.canTagged n o then s.canDupFrame n o stamp f r
    else if s.canDup n ∧ s.get (Fld.CANn_STAT_PAIR_ACTIVE n) = 0 then s
    else if p = 1 then s.n2kFast n o stamp f r
    else if p = 2 then s.j1939Bam n o stamp f r
    else s.canDeliver n o stamp f f.data r

/-- Table 12-5: a filter element matches an identifier. -/
def fltMatch (kind id1 id2 id : Nat) : Bool :=
  if kind = 3 then id1 ≤ id && id ≤ id2
  else if kind = 1 then id = id1 || id = id2
  else if kind = 2 then id &&& id2 = id1 &&& id2
  else false

/-- R327: the object that the filter list gives a frame, or none. -/
def State.canFilter (s : State) (n : Nat) (f : CanFrame) : Option Nat :=
  let id := f.id.toNat
  if f.ide then
    ((List.range (min 256 (s.get (Fld.CANn_FLTCFG_NEXT n)))).find? (fun j =>
      let k := s.rd (Reg.CANn_EXTFLTj n (3 * j + 2))
      fltMatch (bitsGet k 8 2) (bitsGet (s.rd (Reg.CANn_EXTFLTj n (3 * j))) 0 29)
        (bitsGet (s.rd (Reg.CANn_EXTFLTj n (3 * j + 1))) 0 29) id)).map
      (fun j => bitsGet (s.rd (Reg.CANn_EXTFLTj n (3 * j + 2))) 0 8)
  else
    ((List.range (min 512 (s.get (Fld.CANn_FLTCFG_NSTD n)))).find? (fun j =>
      let k := s.rd (Reg.CANn_STDFLTj n j)
      fltMatch (bitsGet k 22 2) (bitsGet k 0 11) (bitsGet k 11 11) id)).map
      (fun j => bitsGet (s.rd (Reg.CANn_STDFLTj n j)) 24 8)

/-- R327: the filter list decides. -/
def State.canFiltered (s : State) (n stamp : Nat) (f : CanFrame) (r : Option Reading) : State := match s.canFilter n f with
  | some o => if o = 0xFF then s else s.canAccept n o stamp f r
  | none =>
    if s.get (Fld.CANn_FLTCFG_NONMATCH n) = 1 then s.canAccept n (s.get (Fld.CANn_FLTCFG_NM_OBJ n)) stamp f r else s

/-- R326: the first priority slot that matches. -/
def State.canSlot (s : State) (n : Nat) (f : CanFrame) : Option Nat :=
  (List.range 4).find? (fun k =>
    s.get (Fld.CANn_PSLOTk_ID_EN n k) = 1 && s.get (Fld.CANn_PSLOTk_ID_IDE n k) = f.ide.toNat &&
      f.id.toNat &&& s.get (Fld.CANn_PSLOTk_MASK_MASK n k) =
        s.get (Fld.CANn_PSLOTk_ID_SLOT_ID n k) &&& s.get (Fld.CANn_PSLOTk_MASK_MASK n k))

/-- The words of a byte list, little-endian. -/
def wordsOf : Nat → List Byte → List Word
  | 0, _ => []
  | n + 1, b => BitVec.ofNat 32 (leNat (b.take 4)) :: wordsOf n (b.drop 4)

/-- R326: a slot stores the frame, with OVR where the older one was unread. -/
def State.canSlotStore (s : State) (n k stamp : Nat) (f : CanFrame) : State :=
  let s := if s.get (Fld.CANn_EVT_SLOT n k) = 1 then
      (s.set (Fld.CANn_PSLOTk_MASK_OVR n k) 1).set (Fld.CANn_EVT_RX_OVR n) 1 else s
  let s := s.each (wordsOf 20 (padTo 80 (recordOf n stamp f f.data))).zipIdx
    (fun (w, j) s => s.wr (Reg.CANn_SLOTBUFj n (32 * k + j)) w)
  let s := s.set (Fld.CANn_EVT_SLOT n k) 1
  if s.get (Fld.CANn_EVTEN_SLOT n k) = 1 then s.raise 0x5807 0 (leBytes 4 k) else s

/-- R313: a valid frame from another node. -/
def State.canValid (s : State) (n : Nat) : State :=
  let s := (s.count (Fld.CANn_CNT0_RX_OK n)).canAckOk n
  if s.canMode n = 1 then s.canRecDown n else s

/-- CAN_FRAME_RX (R326): a valid frame whose start-of-frame bit was `ageNs` ago. -/
def State.canFrameRx (s : State) (n : Nat) (f : CanFrame) (ageNs : Nat) (r : Option Reading) : State :=
  if ¬ s.canHears n ∨ (f.fdf ∧ s.get (Fld.CANn_CTRL_FD_EN n) = 0) then s
  else
    let stamp := s.now - ageNs
    let s := s.canValid n
    if s.canMode n = 4 then s.canDetect n
    else if f.remote then s.count (Fld.CANn_CNT2_REMOTE_DISC n)
    else
      let s := if s.isReference n f then s.ttReference n stamp f else s
      match s.canSlot n f with
      | some k =>
        let s := s.canSlotStore n k stamp f
        if s.get (Fld.CANn_PSLOTk_ID_PASS n k) = 1 then s.canFiltered n stamp f r else s
      | none => s.canFiltered n stamp f r

/-- CAN_RX_ERROR (R313, R312): the receive error count rises by 1, and by 8 more where the bit after the error flag was
dominant; only NORMAL counts. -/
def State.canRxError (s : State) (n code : Nat) (fast dominant : Bool) : State :=
  if ¬ s.canHears n then s
  else
    let s := s.canErr n code fast
    let s := if s.canMode n = 1 then s.canRecUp n (if dominant then 9 else 1) else s
    if s.canMode n = 4 then s.canNextCand n else s

/-! Objects and re-initialisation. -/

/-- R320, R321: an object whose bit goes to 1 with a bad send format. -/
def State.badSendFormat (s : State) (n o : Nat) : Bool :=
  s.get (Fld.CANn_OBJCFG_DIR n o) = 1 && (s.get (Fld.CANn_OBJFMT_FDF n o) = 0 || s.get (Fld.CANn_OBJFMT_DLC n o) < 9)

/-- CANn_OBJENw (R320): a write that would enable a bad send format is refused whole. -/
def State.canObjen (s : State) (n w : Nat) (v : Word) : State :=
  let a := Reg.CANn_OBJENw n w
  if (List.range 32).any (fun b => v.getLsbD b && !(s.rd a).getLsbD b && s.badSendFormat n (32 * w + b)) then
    s.canRefuse n 4 a
  else s.wr a v

/-- R316: the controller is being re-initialised: it stops at the end of the frame in progress. -/
def State.canReinitStart (s : State) (n : Nat) : State :=
  let s := s.modCan n (fun c => { c with reinit := true })
  (if (s.canCtl n).tx.isSome then s else s.canDiscard n).pairSync n

/-- The addresses of a controller. -/
def canWindow (n a : Nat) : Bool := a / 0x4000 = 0x50 + n

/-- R316: registers, objects, filters and schedule banks reloaded, and the controller restarted in its section's mode.  LIMP stays until the CAN domain is back on its PLL source (R308). -/
def State.canReinitDone (s : State) (n : Nat) : State :=
  let s := s.canDiscard n
  let s := { s with regs := s.regs.filter (fun (e : Nat × Word) => !canWindow n e.1) }
  let s := match s.cfg with
    | some c => s.each (c.regs.filter (fun (e : Nat × Word) => canWindow n e.1)) (fun (e : Nat × Word) s => s.wr e.1 e.2)
    | none => s
  let s := { s with can := s.can.set n {} }
  let s := s.setBit (Fld.CANn_STAT_LIMP n) (decide (s.get (Fld.CLK_DOMSTAT_SRC_D 3) ≠ 1))
  s.canApplyMode n (s.roleMode (match s.canCfg n with | some c => c.mode | none => 0))

/-- CANn_OBJSTAT of the object in CANn_OBJSEL. -/
def State.canObjStat (s : State) (n : Nat) : Word :=
  let o := s.get (Fld.CANn_OBJSEL_OBJ n)
  let x := s.canObj n o
  let h := s.rd (Reg.CANn_OBJHDL n o)
  let staged := if s.objSends n o then
      ((s.chans.filter (fun c => decide (c.typ = handleType h ∧ c.index = handleIndex h) && c.staged.isSome)).length) else 0
  let marks := (x.queue.filter (fun t => t.item.marker.isSome)).length
  let held := if s.objSends n o then x.outputs + staged
    else min 7 (s.undelivered (handleType h) (handleIndex h) (s.get (Fld.CANn_OBJFMT_PROTO n o) = 3))
  let single := s.get (Fld.CANn_STAT_NOPART n) = 1 ∧ s.objSends n o ∧ s.get (Fld.CANn_OBJFMT_NOPART n o) = 0
  BitVec.ofNat 32 (held % 8 + flagBit (0 < marks) 3 + flagBit (x.queue ≠ []) 4 + flagBit single 5 + flagBit x.ovr 6 +
    2 ^ 16 * min marks 0xFFFF)

/-- Word j of the latest record of the object in CANn_OBJSEL. -/
def State.canObjRec (s : State) (n j : Nat) : Word :=
  (wordsOf 20 (padTo 80 (s.canObj n (s.get (Fld.CANn_OBJSEL_OBJ n))).latest)).getD j 0

/-! The commands. -/

/-- CAN_FRAME_RX (R326). -/
def execCanFrameRx (n : Fin 8) (f : CanFrame) (ageNs : Nat) (reading : Option Reading) (s : State) : Host.Outcome State Fault Refusal :=
  .next (s.running (fun s => s.canFrameRx n f ageNs reading))
/-- CAN_TX_END (R313). -/
def execCanTxEnd (n : Fin 8) (how : CanTxEnd) (loopDelay : Nat) (s : State) : Host.Outcome State Fault Refusal :=
  .next (s.running (fun s => s.canTxEnd n how loopDelay))
/-- CAN_BUS_IDLE_DETECT (R310). -/
def execCanBusIdleDetect (n : Fin 8) (s : State) : Host.Outcome State Fault Refusal :=
  .next (s.running (fun s => s.canBusIdle n))
/-- BUSOFF_RECOVERED (R314). -/
def execBusoffRecovered (n : Fin 8) (s : State) : Host.Outcome State Fault Refusal :=
  .next (s.running (fun s => s.busoffRecovered n))
/-- CAN_CTRL_MODE (R310). -/
def execCanCtrlMode (n mode : Fin 8) (s : State) : Host.Outcome State Fault Refusal :=
  .next (s.access (Reg.CANn_CTRL n) (fun s => s.canCtrlMode n mode))
/-- CAN_BO_RECOVER (R314). -/
def execCanBoRecover (n : Fin 8) (s : State) : Host.Outcome State Fault Refusal :=
  .next (s.access (Reg.CANn_CTRL n) (fun s => s.canBoRecover n))
/-- CANn_CTRL.CNT_CLR (R334). -/
def State.canCntClr (s : State) (n : Nat) : State :=
  ((s.wr (Reg.CANn_CNT0 n) 0).wr (Reg.CANn_CNT1 n) 0).wr (Reg.CANn_CNT2 n) 0
/-- CAN_CNT_CLR (R334). -/
def execCanCntClr (n : Fin 8) (s : State) : Host.Outcome State Fault Refusal :=
  .next (s.access (Reg.CANn_CTRL n) (fun s => s.canCntClr n))
/-- CAN_TXCANCEL (R325). -/
def execCanTxcancel (n : Fin 8) (obj : Byte) (s : State) : Host.Outcome State Fault Refusal :=
  .next (s.access (Reg.CANn_TXCANCEL n) (fun s => s.canTxcancel n obj.toNat))
/-- CAN_TTSWAP (R333). -/
def execCanTtswap (n : Fin 8) (s : State) : Host.Outcome State Fault Refusal :=
  .next (s.access (Reg.CANn_TTSWAP n) (fun s => s.canTtswap n))
/-- CAN_OBJEN_WRITE (R320). -/
def execCanObjenWrite (n w : Fin 8) (value : Word) (s : State) : Host.Outcome State Fault Refusal :=
  .next (s.access (Reg.CANn_OBJENw n w) (fun s => s.canObjen n w value))
/-- DET_DWELL_EXPIRED (R312). -/
def execDetDwellExpired (n : Fin 8) (s : State) : Host.Outcome State Fault Refusal :=
  .next (s.running (fun s => s.detDwell n))
/-- CAN_NO_RATE (R312). -/
def execCanNoRate (n : Fin 8) (s : State) : Host.Outcome State Fault Refusal :=
  .next (s.running (fun s => s.canNoRate n))
/-- BASIC_CYCLE_START (R331). -/
def execBasicCycleStart (n : Fin 8) (s : State) : Host.Outcome State Fault Refusal :=
  .next (s.running (fun s => s.basicCycle n))
/-- TT_BACKUP_TIMEOUT (R331). -/
def execTtBackupTimeout (n : Fin 8) (s : State) : Host.Outcome State Fault Refusal :=
  .next (s.running (fun s => s.ttBackup n))
/-- TT_WINDOW_START (R332). -/
def execTtWindowStart (n : Fin 8) (window : Fin 64) (fits : Bool) (s : State) : Host.Outcome State Fault Refusal :=
  .next (s.running (fun s => s.ttWindowStart n window fits))
/-- REASM_TIMEOUT (R329). -/
def execReasmTimeout (n : Fin 8) (obj : Byte) (s : State) : Host.Outcome State Fault Refusal :=
  .next (s.running (fun s => s.reasmTimeout n obj.toNat))
/-- PAIR_RX_TIMEOUT (R319). -/
def execPairRxTimeout (n : Fin 8) (obj : Byte) (s : State) : Host.Outcome State Fault Refusal :=
  .next (s.running (fun s => s.pairRxTimeout n obj.toNat))
/-- CAN_RX_ERROR (R313). -/
def execCanRxError (n code : Fin 8) (fast dominant : Bool) (s : State) : Host.Outcome State Fault Refusal :=
  .next (s.running (fun s => s.canRxError n code fast dominant))
/-- CAN_TX_START (R323). -/
def execCanTxStart (n : Fin 8) (fits : Bool) (s : State) : Host.Outcome State Fault Refusal :=
  .next (s.running (fun s => s.canTxStart n fits))

end Sys2Proof.Machine
end

