-- ==== Sys2Proof/Machine/Analogue.lean ====
section
/-!
DEFINITION. Sys2Proof/Machine/Analogue.lean: input chains, voltage outputs, pulse inputs, switch outputs and digital inputs
(R374 to R396).
-/
namespace Sys2Proof.Machine

/-! Input chains. -/

/-- A chain beside its registers. -/
def State.chain (s : State) (n : Nat) : ChainSt := cellsGet {} s.ana.chains n

/-- A chain changed. -/
def State.modChain (s : State) (n : Nat) (f : ChainSt → ChainSt) : State :=
  { s with ana := { s.ana with chains := cellsSet {} s.ana.chains n (f (cellsGet {} s.ana.chains n)) } }

/-- R375: R_f of an overall ratio D: the largest of 4, 2 and 1 that divides D and leaves R_c at 2 or more. -/
def firRatio (d : Nat) : Nat := if d % 4 = 0 ∧ 8 ≤ d then 4 else if d % 2 = 0 ∧ 4 ≤ d then 2 else 1

/-- R375: the overall ratio of a chain. -/
def State.chainD (s : State) (n : Nat) : Nat := s.get (Fld.CHn_CFG_DEC n) + 1
/-- R376: its FIR length. -/
def State.chainL (s : State) (n : Nat) : Nat := s.get (Fld.CHn_CFG_NTAP n)

/-- R379: the group delay in modulator clocks. -/
def groupDelay (d l : Nat) : Nat :=
  let rc := d / firRatio d
  6 + 2 * (rc - 1) + rc * (l - 1) / 2

/-- R381: K, the first delivered output. -/
def settleCount (d l : Nat) : Nat := (l + 3 + firRatio d - 1) / firRatio d

/-- A refused write or command of a chain. -/
def State.chainRefuse (s : State) (n code addr : Nat) : State :=
  ((s.set (Fld.CHn_STAT_REFUSED n) 1).set (Fld.CHn_STAT_REF_CODE n) code).refuse 17 code addr

/-- R375, R376, R382: the coefficients admit a start. -/
def State.chainCoefOk (s : State) (n : Nat) : Bool :=
  let d := s.chainD n
  let l := s.chainL n
  let k := s.get (Fld.CHn_DCB_DCB_K n)
  decide (4 ≤ d ∧ l % 2 = 1 ∧ l ≤ 127 ∧ l ≤ 8 * d - 1 ∧ 4 ≤ k ∧ k ≤ 24)

/-- R381, R382: a chain is set up to run, or to wait for its trigger (state 1 ARMED, 2 RUNNING). -/
def State.chainSetup (s : State) (n st : Nat) : State :=
  let d := s.chainD n
  let l := s.chainL n
  let q := (s.chain n).seq
  let s := s.modChain n (fun _ => { seq := q })
  let s := ((s.set (Fld.CHn_STAT_STATE n) st).set (Fld.CHn_STAT_MOD_STUCK n) 0).setBit (Fld.CHn_STAT_SETTLING n)
    (decide (1 < settleCount d l))
  let s := s.wr (Reg.CHn_GDLY n) (BitVec.ofNat 32 (groupDelay d l))
  if s.get (Fld.CHn_CFG_DCB_EN n) = 1 then s.set (Fld.CHn_DCB_FREEZE n) 1 else s

/-- CHAIN_START (R380): refused with BAD_STATE, BAD_TRIG or BAD_COEF, or started by CFG.TRIG. -/
def State.chainStart (s : State) (n : Nat) : State :=
  let st := s.get (Fld.CHn_STAT_STATE n)
  let trig := s.get (Fld.CHn_CFG_TRIG n)
  if st = 1 ∨ st = 2 then s.chainRefuse n 4 (Reg.CHn_CMD n)
  else if 1 ≤ trig ∧ trig ≤ 15 ∧ s.get (Fld.TB_TRIGm_CFG_TARGET trig) ≠ 1 then s.chainRefuse n 3 (Reg.CHn_CMD n)
  else if !s.chainCoefOk n then s.chainRefuse n 2 (Reg.CHn_CMD n)
  else s.chainSetup n (if trig = 16 then 2 else 1)

/-- R380: a chain is STOPPED, and its filter contents are discarded. -/
def State.chainHalt (s : State) (n : Nat) : State :=
  let q := (s.chain n).seq
  ((s.set (Fld.CHn_STAT_STATE n) 0).set (Fld.CHn_STAT_SETTLING n) 0).modChain n (fun _ => { seq := q })

/-- CHAIN_STOP (R380): a chain in FAULT leaves it only by a start or a re-initialisation (R384). -/
def State.chainStop (s : State) (n : Nat) : State := if s.get (Fld.CHn_STAT_STATE n) = 3 then s else s.chainHalt n

/-- R380: a firing of comparator `m` starts the chains ARMED on it. -/
def State.chainFire (s : State) (m : Nat) : State :=
  s.each (List.range 64) fun n s =>
    if s.get (Fld.CHn_STAT_STATE n) = 1 ∧ s.get (Fld.CHn_CFG_TRIG n) = m then s.set (Fld.CHn_STAT_STATE n) 2 else s

/-- R376: tap j of the symmetric filter of length L, signed 24 bits. -/
def State.chainTap (s : State) (n l j : Nat) : Int :=
  toSigned 24 ((s.rd (Reg.CHn_TAPj n (min j (l - 1 - j)))).toNat % 2 ^ 24)

/-- R376, R377: the FIR output over the newest L CIC samples, given newest first, rounded convergently. -/
def State.chainFir (s : State) (n : Nat) (cic : List Int) : Int :=
  let l := s.chainL n
  let sum := (cic.take l).zipIdx.foldl (fun a (x, j) => a + x * s.chainTap n l j) 0
  roundDiv sum (2 ^ 22)

/-- R378: the value before the DC blocker: gain and offset applied exactly. -/
def State.chainValue (s : State) (n : Nat) (fir : Int) : Rat :=
  (fir : Rat) * ((s.rd (Reg.CHn_GAIN n)).toInt : Rat) / 1073741824 + ((s.rd (Reg.CHn_OFS n)).toInt : Rat)

/-- R385: the ADC domain runs from a limp clock. -/
def State.adcLimp (s : State) : Bool := s.get (Fld.CLK_DOMSTAT_SRC_D 4) = 2

/-- R382: m after an output whose value is `x`, in units of 2⁻⁸, rounded convergently within its 40 bits. -/
def dcbNext (m : Int) (x : Rat) (k : Nat) : Int :=
  let y : Rat := (m : Rat) + (x * 256 - (m : Rat)) / ((2 ^ k : Nat) : Rat)
  clampInt (-549755813888) 549755813887 (roundDiv y.num y.den)

/-- R378, R381, R382, R386: a delivered output. -/
def State.chainDeliver (s : State) (n : Nat) (x : Rat) : State :=
  let dcb := s.get (Fld.CHn_CFG_DCB_EN n) = 1
  let frozen := s.get (Fld.CHn_DCB_FREEZE n) = 1
  let m0 : Int := match (s.chain n).m with
    | some m => m
    | none => clampInt (-549755813888) 549755813887 (roundDiv (x * 256).num (x * 256).den)
  let y : Rat := if dcb then x - (m0 : Rat) / 256 else x
  let w := roundDiv y.num y.den
  let v := clampInt (-2147483648) 2147483647 w
  let sat := decide (w ≠ v)
  let m1 := if dcb ∧ !frozen then dcbNext m0 x (s.get (Fld.CHn_DCB_DCB_K n)) else m0
  let stamp := s.now - 50 * (s.rd (Reg.CHn_GDLY n)).toNat
  let status := flagBit sat 0 + flagBit (dcb && !frozen) 1 + flagBit s.adcLimp 2
  let s := s.modChain n (fun c => { c with
    delivered := true, fresh := true, seq := c.seq + 1, m := if dcb then some m1 else none, stamp := stamp, status := status })
  let s := if dcb then s.wr (Reg.CHn_DCBM n) (BitVec.ofInt 32 (m1 / 256)) else s
  let s := if sat then (s.set (Fld.CHn_STAT_SAT n) 1).count (Fld.CHn_STAT_SAT_CNT n) else s
  ((s.wr (Reg.CHn_OUT n) (ofInt32 v)).wr (Reg.CHn_STAMP n) (BitVec.ofNat 32 stamp)).set (Fld.CHn_STAT_SETTLING n) 0

/-- CHAIN_OUTPUT (R381): an output of a RUNNING chain, from the newest L samples of its CIC filter, newest first. -/
def State.chainOutput (s : State) (n : Nat) (cic : List Int) : State :=
  if s.get (Fld.CHn_STAT_STATE n) ≠ 2 then s
  else
    let s := (s.modChain n (fun c => { c with outs := c.outs + 1 })).setBit (Fld.CHn_STAT_LIMP n) s.adcLimp
    if (s.chain n).outs < settleCount (s.chainD n) (s.chainL n) then s
    else s.chainDeliver n (s.chainValue n (s.chainFir n cic))

/-- MOD_STUCK (R384). -/
def State.modStuck (s : State) (n : Nat) : State :=
  if s.get (Fld.CHn_STAT_STATE n) = 2 then
    let s := ((s.set (Fld.CHn_STAT_STATE n) 3).set (Fld.CHn_STAT_MOD_STUCK n) 1).set (Fld.CHn_STAT_SETTLING n) 0
    s.raise 0x6801 (s.handleOf 7 n) (le32 (s.rd (Reg.CHn_STAT n)))
  else s

/-- R383: RWS fields of a chain are writable in STOPPED and FAULT. -/
def State.chainStopped (s : State) (n : Nat) : Bool :=
  let st := s.get (Fld.CHn_STAT_STATE n)
  st = 0 || st = 3

/-- CHAIN_DCB_WRITE (R382, R383): FREEZE at any time; DCB_K from 4 to 24, while stopped. -/
def State.chainDcbWrite (s : State) (n : Nat) (v : Word) : State :=
  let k := bitsGet v 1 5
  let same := decide (k = s.get (Fld.CHn_DCB_DCB_K n))
  if !same && !s.chainStopped n then s.chainRefuse n 1 (Reg.CHn_DCB n)
  else if k < 4 ∨ 24 < k then s.chainRefuse n 2 (Reg.CHn_DCB n)
  else (s.set (Fld.CHn_DCB_FREEZE n) (bitsGet v 0 1)).set (Fld.CHn_DCB_DCB_K n) k

/-- Table 15-3: a chain output record. -/
def chainRecord (stamp : Nat) (v : Word) (status : Nat) : List Byte :=
  leBytes 8 stamp ++ le32 v ++ leBytes 2 status ++ [0, 0]

/-- R386: a frame start latches a RUNNING chain that has delivered, and sends its record. -/
def State.chainLatch (s : State) (n : Nat) : State :=
  let c := s.chain n
  if s.get (Fld.CHn_STAT_STATE n) = 2 ∧ c.delivered then
    let st := c.status + flagBit (!c.fresh) 3
    let v := s.rd (Reg.CHn_OUT n)
    let s := s.modChain n (fun c => { c with fresh := false, latch := some (v, c.stamp, st) })
    s.umberOut 7 n (chainRecord c.stamp v st)
  else s.modChain n (fun c => { c with latch := none })

/-- R384, R463: FUNC_REINIT stops a chain, loads its section values again and restarts it as declared. -/
def State.chainReinit (s : State) (n : Nat) : State :=
  let s := (s.chainHalt n).set (Fld.CHn_STAT_MOD_STUCK n) 0
  match s.cfg with
  | none => s
  | some c =>
    let mine := fun (a : Nat) => decide ((Reg.CHn_CFG n ≤ a ∧ a < Reg.CHn_CFG n + 0x40) ∨
      (Reg.CHn_TAPj n 0 ≤ a ∧ a < Reg.CHn_TAPj n 0 + 0x100))
    let s := s.each (c.regs.filter (fun x => mine x.1)) (fun x s => s.wr x.1 x.2)
    if n ∈ c.ana.chainRun then s.chainStart n else s

/-- R376: Acorn's default taps of a chain whose taps the section does not give. -/
def State.defaultTaps (s : State) (n : Nat) : State :=
  let r := firRatio (s.chainD n)
  if r = 1 then s.wr (Reg.CHn_TAPj n 0) 0x00400000
  else s.each (List.range (if r = 2 then 16 else 32)) (fun j s => s.wr (Reg.CHn_TAPj n j) (Config.defaultTap r j))

/-! Pulse inputs. -/

/-- A pulse input beside its registers. -/
def State.pin (s : State) (i : Nat) : PinSt := cellsGet {} s.ana.pins i

/-- A pulse input changed. -/
def State.modPin (s : State) (i : Nat) (f : PinSt → PinSt) : State :=
  { s with ana := { s.ana with pins := cellsSet {} s.ana.pins i (f (cellsGet {} s.ana.pins i)) } }

/-- The state of a pulse input is RUNNING. -/
def State.pinRuns (s : State) (i : Nat) : Bool := s.get (Fld.PINi_STAT_STATE i) = 1

/-- Table 15-4: what an accepted change of the two inverted levels adds to the count; none for a quadrature error.  A leading B
counts up (log entry 35). -/
def pinStep (mode : Nat) (a0 b0 a1 b1 : Bool) : Option Int :=
  if mode = 0 then
    if a0 ≠ a1 ∧ b0 ≠ b1 then none
    else if a0 ≠ a1 then some (if a1 = b1 then -1 else 1)
    else if b0 ≠ b1 then some (if a1 = b1 then 1 else -1)
    else some 0
  else if !a0 && a1 then some (if mode = 1 && b1 then -1 else 1)
  else some 0

/-- A counted edge of a pulse input (R391, R392). -/
def State.pinCount (s : State) (i : Nat) (d : Int) : State :=
  let w := s.rd (Reg.PINi_COUNT i) + BitVec.ofInt 32 d
  let e : Word × Nat := (w, s.now)
  (s.wr (Reg.PINi_COUNT i) w).modPin i (fun p => { p with
    last := some e, first := match p.first with | none => some e | some f => some f })

/-- PIN_EDGE (R390, R391): accepted levels of PIN_A and PIN_B. -/
def State.pinEdge (s : State) (i : Nat) (a b : Bool) : State :=
  let p := s.pin i
  let ia := decide (s.get (Fld.PINi_CFG_AINV i) = 1)
  let ib := decide (s.get (Fld.PINi_CFG_BINV i) = 1)
  let s := s.modPin i (fun p => { p with a := a, b := b })
  if !s.pinRuns i then s
  else match pinStep (s.get (Fld.PINi_CFG_MODE i)) (Bool.xor p.a ia) (Bool.xor p.b ib) (Bool.xor a ia) (Bool.xor b ib) with
    | none => (s.set (Fld.PINi_STAT_QERR i) 1).count (Fld.PINi_STAT_QERR_CNT i)
    | some d => if d = 0 then s else s.pinCount i d

/-- R392: a count rate in mHz over a time in ns, rounded convergently and saturated. -/
def rateMilliHz (d : Int) (ns : Nat) : Word :=
  if ns = 0 then 0 else satInt32 (roundDiv (d * 1000000000000) ns)

/-- R392: the frequency at a gate end, or none where it is not updated. -/
def State.gateFreq (s : State) (i : Nat) : Option Word :=
  let p := s.pin i
  match p.first, p.last with
  | some f, some l => match p.ref with
    | some r => some (rateMilliHz (l.1 - r.1).toInt (l.2 - r.2))
    | none => if f = l then none else some (rateMilliHz (l.1 - f.1).toInt (l.2 - f.2))
  | _, some l =>
    let prev := (s.rd (Reg.PINi_FREQ i)).toInt
    let lim := (rateMilliHz 1 (s.now - l.2)).toInt
    some (ofInt32 (if prev < 0 then -(min (-prev) lim) else min prev lim))
  | _, none => none

/-- PIN_GATE_END (R392). -/
def State.pinGateEnd (s : State) (i : Nat) : State :=
  if !s.pinRuns i then s
  else
    let counted := (s.pin i).first.isSome
    let s := match s.gateFreq i with
      | some w =>
        let s := s.wr (Reg.PINi_FREQ i) w
        if counted then s.set (Fld.PINi_STAT_ZERO i) 0 else s
      | none => s
    s.modPin i (fun p => { p with ref := p.last, first := none, gateStart := s.now, meas := p.meas + 1 })

/-- PIN_ZERO_TIMEOUT (R392): no edge for ZERO_T. -/
def State.pinZero (s : State) (i : Nat) : State :=
  if s.pinRuns i then (s.wr (Reg.PINi_FREQ i) 0).set (Fld.PINi_STAT_ZERO i) 1 else s

/-- PIN_START (R391): ignored while RUNNING. -/
def State.pinStart (s : State) (i : Nat) : State :=
  if s.pinRuns i then s
  else
    let s := ((s.set (Fld.PINi_STAT_STATE i) 1).wr (Reg.PINi_COUNT i) (s.rd (Reg.PINi_PRESET i))).wr (Reg.PINi_FREQ i) 0
    (s.set (Fld.PINi_STAT_ZERO i) 1).modPin i (fun p => { a := p.a, b := p.b, gateStart := s.now, meas := p.meas })

/-- PIN_STOP (R393). -/
def State.pinStop (s : State) (i : Nat) : State := s.set (Fld.PINi_STAT_STATE i) 0

/-- PIN_LOAD (R391): the count takes PRESET; the edges of the gate keep their distance from it. -/
def State.pinLoad (s : State) (i : Nat) : State :=
  let d := s.rd (Reg.PINi_PRESET i) - s.rd (Reg.PINi_COUNT i)
  let mv := fun (x : Option (Word × Nat)) => x.map (fun y => (y.1 + d, y.2))
  (s.wr (Reg.PINi_COUNT i) (s.rd (Reg.PINi_PRESET i))).modPin i (fun p => { p with
    last := mv p.last, ref := mv p.ref, first := mv p.first })

/-- R393: a frame start latches a RUNNING pulse input and sends its record (Table 15-5). -/
def State.pinLatch (s : State) (i : Nat) : State :=
  if s.pinRuns i then
    let c := s.rd (Reg.PINi_COUNT i)
    let f := s.rd (Reg.PINi_FREQ i)
    let s := s.modPin i (fun p => { p with latch := some (c, f, s.now) })
    s.umberOut 8 i (leBytes 8 s.now ++ le32 c ++ le32 f)
  else s.modPin i (fun p => { p with latch := none })

/-- R393, R463: FUNC_REINIT stops a pulse input, loads its section values again and restarts it. -/
def State.pinReinit (s : State) (i : Nat) : State :=
  let s := s.pinStop i
  match s.cfg with
  | none => s
  | some c =>
    let mine := fun (a : Nat) => decide (Reg.PINi_CFG i ≤ a ∧ a < Reg.PINi_CFG i + 0x20)
    let s := s.each (c.regs.filter (fun x => mine x.1)) (fun x s => s.wr x.1 x.2)
    if i ∈ c.ana.pinRun then s.pinStart i else s.set (Fld.PINi_STAT_STATE i) 2

/-! Frame start. -/

/-- R83: a value of a feed: the latched word of a chain or pulse input, scaled, with its stamp. -/
def State.feedValue (s : State) (x : Bool × Nat × Rat × Int) : Option (Int × Nat) :=
  let scale := fun (w : Word) => roundDiv ((w.toInt : Rat) * x.2.2.1).num ((w.toInt : Rat) * x.2.2.1).den + x.2.2.2
  if x.1 then (s.pin x.2.1).latch.map (fun y => (scale y.2.1, y.2.2))
  else (s.chain x.2.1).latch.map (fun y => (scale y.1, y.2.1))

/-- R83, R143: a declared feed delivers its sample at a frame start while every part of it is latched. -/
def State.feedSample (f : AnaFeed) (s : State) : State :=
  let vs := f.parts.filterMap s.feedValue
  if vs.length = f.parts.length ∧ vs ≠ [] then
    let stamp : Int := match vs with | v :: _ => v.2 | [] => 0
    s.consume f.typ f.index stamp true none { vals := vs.map (·.1), qual := f.qual, srcTime := none }
  else s

/-- R368: chains and pulse inputs latch at a frame start. -/
def State.anaLatch (s : State) : State :=
  let s := (s.each (List.range 64) (fun n s => s.chainLatch n)).each (List.range 32) (fun i s => s.pinLatch i)
  match s.anaCfg with
  | none => s
  | some c => s.each c.feeds State.feedSample

/-! Switch outputs and digital inputs. -/

/-- R394: switch output `b` is owned by a loop or carries ROLE. -/
def State.swoOwned (s : State) (b : Nat) : Bool := (s.rd (Reg.SWO_OWNw (b / 32))).getLsbD (b % 32)

/-- The output marked ROLE_GATED. -/
def State.swoGated (s : State) (b : Nat) : Bool := match s.anaCfg with
  | some c => decide (b ∈ c.roleGated)
  | none => false

/-- A switch output on or off. -/
def State.setSwo (s : State) (b : Nat) (on : Bool) : State := s.setBit ⟨Reg.SWO_STATw (b / 32), b % 32, 1⟩ on

/-- R394: one bit of SWO_SETw or SWO_CLRw. -/
def State.swoBit (s : State) (addr b : Nat) (on : Bool) : State :=
  if s.swoOwned b then (s.set Fld.SWO_STAT_REFUSED 1).refuse 17 1 addr
  else if s.swoGated b then
    let k : BitVec 128 := BitVec.ofNat 128 (2 ^ b)
    let s := { s with ana := { s.ana with gated := if on then s.ana.gated ||| k else s.ana.gated &&& ~~~k } }
    s.setSwo b (on && s.commanding)
  else s.setSwo b on

/-- SWO_SET and SWO_CLR (R394): each bit is its own field. -/
def State.swoWrite (s : State) (w addr : Nat) (v : Word) (on : Bool) : State :=
  s.each ((List.range 32).filter (fun b => v.getLsbD b)) (fun b s => s.swoBit addr (32 * w + b) on)

/-- R275, R394: ROLE outputs and ROLE_GATED outputs follow the role. -/
def State.roleOutputs (s : State) (on : Bool) : State := match s.anaCfg with
  | none => s
  | some c =>
    let s := s.each c.roleOut (fun b s => s.setSwo b on)
    s.each c.roleGated (fun b s => s.setSwo b (on && s.ana.gated.getLsbD b))

/-- R395: the filtered level of a digital input. -/
def State.dinLevel (s : State) (i : Nat) : Bool :=
  (s.rd (if i < 32 then Reg.DIN_FLT0 else Reg.DIN_FLT1)).getLsbD (i % 32)

/-- R395: a filtered edge: the level changes, and DIN_EDGE is raised where it is enabled. -/
def State.dinSet (s : State) (i : Nat) (level : Bool) : State :=
  let s := s.setBit ⟨if i < 32 then Reg.DIN_RAW0 else Reg.DIN_RAW1, i % 32, 1⟩ level
  let s := s.setBit ⟨if i < 32 then Reg.DIN_FLT0 else Reg.DIN_FLT1, i % 32, 1⟩ level
  if (s.rd (if i < 32 then Reg.DIN_EVEN0 else Reg.DIN_EVEN1)).getLsbD (i % 32) then
    s.raise 0x6802 0 [BitVec.ofNat 8 i, BitVec.ofNat 8 level.toNat]
  else s

/-! Voltage outputs. -/

/-- A refused write of a voltage output. -/
def State.aoutRefuse (s : State) (n code addr : Nat) : State :=
  ((s.set (Fld.AOUTn_STAT_REFUSED n) 1).set (Fld.AOUTn_STAT_REF_CODE n) code).refuse 17 code addr

/-- AOUT_DATA_WRITE (R387 to R389): a HOST code is staged; with UPD = WRITE it reaches the ball at once. -/
def State.aoutDataWrite (s : State) (n : Nat) (v : Word) : State :=
  if s.get (Fld.AOUTn_CFG_SRC n) = 1 then s.aoutRefuse n 1 (Reg.AOUTn_DATA n)
  else if !s.commanding then s.aoutRefuse n 2 (Reg.AOUTn_DATA n)
  else
    let s := s.set (Fld.AOUTn_DATA_CODE n) (v.toNat % 65536)
    if s.get (Fld.AOUTn_CFG_UPD n) = 2 then s.aoutUpdate n else s

/-- R388: the outputs whose trigger is the emission time. -/
def State.aoutEmit (s : State) : State :=
  s.each (List.range 32) (fun n s =>
    if s.get (Fld.AOUTn_CFG_SRC n) = 1 ∨ s.get (Fld.AOUTn_CFG_UPD n) = 0 then s.aoutUpdate n else s)

/-- R388: the outputs whose trigger is comparator `m`. -/
def State.aoutFire (s : State) (m : Nat) : State :=
  s.each (List.range 32) (fun n s =>
    if s.get (Fld.AOUTn_CFG_SRC n) = 0 ∧ s.get (Fld.AOUTn_CFG_UPD n) = 1 ∧ s.get (Fld.AOUTn_CFG_COMP n) = m then s.aoutUpdate n
    else s)

/-- R368, R380, R388: what the firing of comparator 0 starts: the chains and the voltage outputs that name it. -/
def State.anaFrame (s : State) : State := (s.chainFire 0).aoutFire 0

/-- ANA_CNT_CLR (R396). -/
def State.anaCntClr (s : State) : State :=
  (s.each (List.range 64) (fun n s => s.set (Fld.CHn_STAT_SAT_CNT n) 0)).each (List.range 32)
    (fun i s => s.set (Fld.PINi_STAT_QERR_CNT i) 0)

/-! The commands. -/

/-- CHAIN_OUTPUT (R381). -/
def execChainOutput (n : Fin 64) (cic : List Int) (s : State) : Host.Outcome State Fault Refusal :=
  .next (s.running (fun s => s.chainOutput n cic))
/-- CHn_CMD.START (R380). -/
def execChainStart (n : Fin 64) (s : State) : Host.Outcome State Fault Refusal :=
  .next (s.access (Reg.CHn_CMD n) (fun s => s.chainStart n))
/-- CHn_CMD.STOP (R380). -/
def execChainStop (n : Fin 64) (s : State) : Host.Outcome State Fault Refusal :=
  .next (s.access (Reg.CHn_CMD n) (fun s => s.chainStop n))
/-- MOD_STUCK (R384). -/
def execModStuck (n : Fin 64) (s : State) : Host.Outcome State Fault Refusal := .next (s.running (fun s => s.modStuck n))
/-- CHn_DCB (R382). -/
def execChainDcbWrite (n : Fin 64) (v : Word) (s : State) : Host.Outcome State Fault Refusal :=
  .next (s.access (Reg.CHn_DCB n) (fun s => s.chainDcbWrite n v))
/-- ANA_CTRL.CNT_CLR (R396). -/
def execAnaCntClr (s : State) : Host.Outcome State Fault Refusal := .next (s.running State.anaCntClr)
/-- AOUTn_DATA (R387). -/
def execAoutDataWrite (n : Fin 32) (v : Word) (s : State) : Host.Outcome State Fault Refusal :=
  .next (s.access (Reg.AOUTn_DATA n) (fun s => s.aoutDataWrite n v))
/-- PIN_EDGE (R391). -/
def execPinEdge (i : Fin 32) (a b : Bool) (s : State) : Host.Outcome State Fault Refusal :=
  .next (s.running (fun s => s.pinEdge i a b))
/-- PIN_GATE_END (R392). -/
def execPinGateEnd (i : Fin 32) (s : State) : Host.Outcome State Fault Refusal := .next (s.running (fun s => s.pinGateEnd i))
/-- PIN_ZERO_TIMEOUT (R392). -/
def execPinZeroTimeout (i : Fin 32) (s : State) : Host.Outcome State Fault Refusal := .next (s.running (fun s => s.pinZero i))
/-- PINi_CMD.START (R391). -/
def execPinStart (i : Fin 32) (s : State) : Host.Outcome State Fault Refusal :=
  .next (s.access (Reg.PINi_CMD i) (fun s => s.pinStart i))
/-- PINi_CMD.STOP (R393). -/
def execPinStop (i : Fin 32) (s : State) : Host.Outcome State Fault Refusal :=
  .next (s.access (Reg.PINi_CMD i) (fun s => s.pinStop i))
/-- PINi_CMD.LOAD (R391). -/
def execPinLoad (i : Fin 32) (s : State) : Host.Outcome State Fault Refusal :=
  .next (s.access (Reg.PINi_CMD i) (fun s => s.pinLoad i))
/-- SWO_SETw (R394). -/
def execSwoSet (w : Fin 4) (v : Word) (s : State) : Host.Outcome State Fault Refusal :=
  .next (s.running (fun s => s.swoWrite w (Reg.SWO_SETw w) v true))
/-- SWO_CLRw (R394). -/
def execSwoClr (w : Fin 4) (v : Word) (s : State) : Host.Outcome State Fault Refusal :=
  .next (s.running (fun s => s.swoWrite w (Reg.SWO_CLRw w) v false))

end Sys2Proof.Machine
end

