-- ==== Sys2Proof/Machine/Servo.lean ====
section
/-!
DEFINITION. Sys2Proof/Machine/Servo.lean: the hysteretic servo loops (R205 to R227).
-/
namespace Sys2Proof.Machine

/-! State of a loop. -/

/-- The section entry of a loop, if it is declared. -/
def State.loopCfg (s : State) (n : Nat) : Option LoopCfg := s.cfg.bind (fun c => c.srv.getD n none)

/-- A loop beside its registers. -/
def State.loop (s : State) (n : Nat) : LoopSt := cellsGet {} s.srv n

/-- A loop changed. -/
def State.modLoop (s : State) (n : Nat) (f : LoopSt → LoopSt) : State :=
  { s with srv := cellsSet {} s.srv n (f (cellsGet {} s.srv n)) }

/-- STAT.STATE: 0 OPEN, 1 CLOSED, 2 FAULT, 3 OVERLAY. -/
def State.loopState (s : State) (n : Nat) : Nat := s.get (Fld.SRVn_STAT_STATE n)

/-- CFG.ANGLE, CFG.OUTER. -/
def State.loopAngle (s : State) (n : Nat) : Bool := s.get (Fld.SRVn_CFG_ANGLE n) = 1
def State.loopOuter (s : State) (n : Nat) : Bool := s.get (Fld.SRVn_CFG_OUTER n) = 1

/-- R205: a loop drives POS, NEG, as its law gives. -/
def drivesPos (law : Nat) : Bool := law ≠ 2
def drivesNeg (law : Nat) : Bool := law ≠ 1

/-- R205: the switch outputs that the declared loops and the ROLE outputs own. -/
def State.ownedOutputs (s : State) : List Nat :=
  let loops := (List.range 64).filter (fun n => (s.loopCfg n).isSome)
  let own := fun n => (if drivesPos (s.get (Fld.SRVn_CFG_LAW n)) then [2 * n] else []) ++
    (if drivesNeg (s.get (Fld.SRVn_CFG_LAW n)) then [2 * n + 1] else [])
  loops.flatMap own ++ (match s.anaCfg with | some c => c.roleOut | none => [])

/-- SWO_OWNw shows the owned outputs.  A general output that a loop comes to own goes off: loops change their law only while
their outputs are off (R205, R221). -/
def State.ownSync (s : State) : State :=
  let o := s.ownedOutputs
  let roles := match s.anaCfg with | some c => c.roleOut | none => []
  let s := s.each (o.filter (fun b => !s.swoOwned b && decide (b ∉ roles))) (fun b s => s.setSwo b false)
  s.each (List.range 4) (fun w s => s.wr (Reg.SWO_OWNw w)
    (BitVec.ofNat 32 ((List.range 32).foldl (fun a b => if 32 * w + b ∈ o then a + 2 ^ b else a) 0)))

/-- R205: the level at the ball of a switch output: its logical state, inverted by INV_POS or INV_NEG of the loop that owns it. -/
def State.swoBall (s : State) (b : Nat) : Bool :=
  let on := (s.rd (Reg.SWO_STATw (b / 32))).getLsbD (b % 32)
  let n := b / 2
  let law := s.get (Fld.SRVn_CFG_LAW n)
  let inv := if b % 2 = 0 then drivesPos law && decide (s.get (Fld.SRVn_CFG_INV_POS n) = 1)
    else drivesNeg law && decide (s.get (Fld.SRVn_CFG_INV_NEG n) = 1)
  on != ((s.loopCfg n).isSome && inv)

/-- R205: the outputs of a declared loop follow its output state: 0 OFF, 1 POS, 2 NEG. -/
def State.loopOut (s : State) (n o : Nat) : State :=
  let s := s.set (Fld.SRVn_STAT_OUT n) o
  if (s.loopCfg n).isNone then s
  else
    let law := s.get (Fld.SRVn_CFG_LAW n)
    let s := if drivesPos law then s.setSwo (2 * n) (decide (o = 1)) else s
    if drivesNeg law then s.setSwo (2 * n + 1) (decide (o = 2)) else s

/-- The outputs go off; the off-counter starts if one was on (R212). -/
def State.loopOff (s : State) (n : Nat) : State :=
  let was := s.get (Fld.SRVn_STAT_OUT n) ≠ 0
  let s := s.loopOut n 0
  if was then s.modLoop n (fun x => { x with off := 0 }) else s

/-- Table 8-8: the bit of a loop in a mask pair. -/
def loopBit (r0 r1 n : Nat) : Field := ⟨if n < 32 then r0 else r1, n % 32, 1⟩

/-- R223, R191: a thruster whose azimuth or pitch loop is not CLOSED is removed with LOOP_FAULT; the cause clears when both are. -/
def State.loopServes (s : State) (n : Nat) : State :=
  s.each (s.loopThrusters n) fun i s => match s.thrCfg i with
    | none => s
    | some c =>
      let closed := fun (l : Option Nat) => match l with | some m => decide (s.loopState m = 1) | none => true
      if closed c.azLoop && closed c.pitchLoop then s.thrClear i 4
      else if (s.thr i).reasons.getLsbD 4 && !(s.thr i).cleared.getLsbD 4 then s else s.thrRemove i 4 false

/-- A loop changes state. -/
def State.loopTo (s : State) (n st : Nat) : State :=
  let s := s.set (Fld.SRVn_STAT_STATE n) st
  let s := s.setBit (loopBit Reg.SRV_CLOSED0 Reg.SRV_CLOSED1 n) (decide (st = 1))
  (s.setBit (loopBit Reg.SRV_FAULT0 Reg.SRV_FAULT1 n) (decide (st = 2))).loopServes n

/-- Table 19-3: DATA of class 10 events. -/
def State.loopData (s : State) (n : Nat) : List Byte :=
  le32 (s.rd (Reg.SRVn_STAT n)) ++ le32 (s.rd (Reg.SRVn_FB n)) ++ le32 (s.rd (Reg.SRVn_SP n))

/-- R223: a fault is latched: the outputs go off, the loop enters FAULT, and LOOP_FAULT is raised. -/
def State.loopFault (s : State) (n cause : Nat) : State :=
  let s := (s.loopOff n).modLoop n (fun x => { x with latched := cause, cmdClose := false, openReq := false, overlay := none })
  let s := ((s.loopTo n 2).set (Fld.SRVn_STAT_CAUSE n) cause).count (Fld.SRVn_CNT_FAULTS n)
  s.raise 0x5001 (s.handleOf 6 n) (s.loopData n)

/-- STAT.CLOSE_PEND. -/
def State.closePend (s : State) (n : Nat) : State :=
  s.setBit (Fld.SRVn_STAT_CLOSE_PEND n) ((s.loop n).cmdClose || (s.loop n).auto)

/-- R219: the loop opens with a cause. -/
def State.loopOpen (s : State) (n cause : Nat) : State :=
  let s := (s.loopOff n).modLoop n (fun x => { x with cmdClose := false, auto := false, openReq := false, overlay := none })
  ((s.loopTo n 0).set (Fld.SRVn_STAT_CAUSE n) cause).closePend n

/-- A refused write or command of a loop (R221, R227). -/
def State.loopRefuse (s : State) (n code addr : Nat) : State :=
  (((s.set (Fld.SRVn_STAT_REFUSED n) 1).set (Fld.SRVn_STAT_REF_CODE n) code).count (Fld.SRVn_CNT_REFUSALS n)).refuse 16 code addr

/-! Safety (R224, R304). -/

/-- A technology's view holds a function that governs pair `p` out of RUN. -/
def TechSt.stops (t : TechSt) (p : Nat) : Bool := match t.table with
  | none => false
  | some c => c.fns.zipIdx.any (fun (f, i) => match f with
    | some x => x.pairs.getLsbD p && decide ((cellsGet {} t.fns i).st ≠ 2)
    | none => false)

/-- R224, R304: a stop that opens pair `p` is in force, recognised by Slate or Cobalt. -/
def State.pairStopped (s : State) (p : Nat) : Bool := s.saf.slate.stops p || s.saf.cobalt.stops p

/-- R224: a linked safety stop of the loop is in force. -/
def State.loopStopped (s : State) (n : Nat) : Bool :=
  s.get (Fld.SRVn_SAMPLE_SAFE_EN n) = 1 && s.pairStopped (s.get (Fld.SRVn_SAMPLE_SAFE_PAIR n))

/-- R224: a recognised stop of pair `p` acts on the loops linked to it. -/
def State.servoStop (s : State) (p : Nat) : State :=
  s.each (List.range 64) fun n s =>
    if s.get (Fld.SRVn_SAMPLE_SAFE_EN n) = 1 ∧ s.get (Fld.SRVn_SAMPLE_SAFE_PAIR n) = p then
      let st := s.loopState n
      if st = 1 ∨ st = 3 ∨ (s.loop n).cmdClose then (s.loopFault n 5).closePend n else s.loopOff n
    else s

/-! Feedback (R207, R208). -/

/-- A signed field of `n` bits of a register. -/
def State.sget (s : State) (f : Field) : Int := toSigned f.width (s.get f)

/-- R207: ((raw × MUL) shifted by SHR) + OFS: a right shift rounds convergently, a left shift is exact. -/
def scaleShift (raw mul shr ofs : Int) : Int :=
  let p := raw * mul
  (if 0 ≤ shr then roundDiv p (2 ^ shr.toNat) else p * 2 ^ (-shr).toNat) + ofs

/-- A feedback or set-point source: whether it runs and delivers, its word, and the number of its latest output.  Kind 0 is a
chain, 1 a pulse count, 2 a pulse frequency. -/
def State.source (s : State) (kind idx : Nat) : Option (Int × Nat) :=
  if kind = 0 then
    if s.get (Fld.CHn_STAT_STATE idx) = 2 ∧ (s.chain idx).delivered then some ((s.rd (Reg.CHn_OUT idx)).toInt, (s.chain idx).seq)
    else none
  else if 32 ≤ idx ∨ !s.pinRuns idx then none
  else if kind = 1 then some ((s.rd (Reg.PINi_COUNT idx)).toInt, 0)
  else if kind = 2 then some ((s.rd (Reg.PINi_FREQ idx)).toInt, (s.pin idx).meas) else none

/-- A value fits in signed 32 bits. -/
def fits32 (x : Int) : Bool := decide (-2147483648 ≤ x ∧ x ≤ 2147483647)

/-- The feedback of a loop, scaled, whether it is in range, and its output number; none while its source is stopped. -/
def State.loopFb (s : State) (n : Nat) : Option (Int × Bool × Nat) :=
  (s.source (s.get (Fld.SRVn_CFG_FB_KIND n)) (s.get (Fld.SRVn_CFG_FB_INDEX n))).map (fun (r, q) =>
    let v := scaleShift r (s.sget (Fld.SRVn_FBSCL_MUL n)) (s.sget (Fld.SRVn_FBSCL_SHR n)) (s.rd (Reg.SRVn_FBOFS n)).toInt
    (v, fits32 v || s.loopAngle n, q))

/-- The outer feedback, likewise. -/
def State.loopOfb (s : State) (n : Nat) : Option (Int × Bool × Nat) :=
  (s.source (s.get (Fld.SRVn_CFG_OFB_KIND n)) (s.get (Fld.SRVn_CFG_OFB_INDEX n))).map (fun (r, q) =>
    let v := scaleShift r (s.sget (Fld.SRVn_OFBSCL_MUL n)) (s.sget (Fld.SRVn_OFBSCL_SHR n)) (s.rd (Reg.SRVn_OFBOFS n)).toInt
    (v, fits32 v, q))

/-- The age, in samples, of a source whose latest output is number `q`; a pulse count is always fresh. -/
def sourceAge (kind seen age q : Nat) : Nat := if kind = 1 ∨ q ≠ seen then 0 else age + 1

/-- The outer feedback is latched (R207, R220). -/
def State.latchOfb (s : State) (n : Nat) : State := match s.loopOfb n with
  | some (v, _, _) => s.wr (Reg.SRVn_OFB n) (ofInt32 v)
  | none => s

/-- Table 8-4, step 1: the inner feedback is latched, at an outer boundary the outer feedback too, and both ages move on. -/
def State.latchFb (s : State) (n : Nat) (outer : Bool) : State :=
  let k := s.get (Fld.SRVn_CFG_FB_KIND n)
  let ok := s.get (Fld.SRVn_CFG_OFB_KIND n)
  let s := match s.loopFb n with
    | some (v, _, q) =>
      (s.wr (Reg.SRVn_FB n) (ofInt32 v)).modLoop n (fun x => { x with
        fbAge := sourceAge k x.fbSeen x.fbAge q, fbSeen := q, fbAt := if k = 1 ∨ q ≠ x.fbSeen then some s.now else x.fbAt })
    | none => s.modLoop n (fun x => { x with fbAge := x.fbAge + 1 })
  let s := if outer then s.latchOfb n else s
  match s.loopOfb n with
  | some (_, _, q) => s.modLoop n (fun x => { x with ofbAge := sourceAge ok x.ofbSeen x.ofbAge q, ofbSeen := q })
  | none => s.modLoop n (fun x => { x with ofbAge := x.ofbAge + 1 })

/-- R207, R208: what is wrong with a feedback: 2 FB_LOST, 3 FB_RANGE, 0 nothing. -/
def State.fbFault (s : State) (n : Nat) (fb : Option (Int × Bool × Nat)) (age : Nat) : Nat := match fb with
  | none => 2
  | some (_, inRange, _) => if s.get (Fld.SRVn_SAMPLE_FB_AGE n) < age then 2 else if inRange then 0 else 3

/-- The fault of the inner feedback, or at an outer boundary of the outer one. -/
def State.feedbackFault (s : State) (n : Nat) (outer : Bool) : Nat :=
  let f := s.fbFault n (s.loopFb n) (s.loop n).fbAge
  if f ≠ 0 ∨ !outer then f else s.fbFault n (s.loopOfb n) (s.loop n).ofbAge

/-! Opening and closing (R219 to R225). -/

/-- Table 8-3, condition 4. -/
def State.loopCoefOk (s : State) (n : Nat) : Bool :=
  let bon := (s.rd (Reg.SRVn_BON n)).toNat
  let outerOk := !s.loopOuter n || (!s.loopAngle n && decide (s.get (Fld.SRVn_CFG_OFB_KIND n) ≠ 3 ∧ s.rd (Reg.SRVn_ORAMP n) ≠ 0 ∧
    (s.rd (Reg.SRVn_OBOFF n)).toNat < (s.rd (Reg.SRVn_OBON n)).toNat))
  (s.loopCfg n).isSome && outerOk &&
    decide (s.get (Fld.SRVn_CFG_LAW n) ≠ 3 ∧ s.get (Fld.SRVn_CFG_FB_KIND n) ≠ 3 ∧ (s.rd (Reg.SRVn_BOFF n)).toNat < bon ∧
      bon < 2 ^ 31 ∧ 5 ≤ s.get (Fld.SRVn_SAMPLE_PER n) ∧ 1 ≤ s.get (Fld.SRVn_SAMPLE_FB_AGE n) ∧
      (s.rd (Reg.SRVn_SPMIN n)).toInt ≤ (s.rd (Reg.SRVn_SPMAX n)).toInt)

/-- Table 8-3: the refusal code of the first condition that fails; 0 when the loop may close. -/
def State.closeCheck (s : State) (n : Nat) : Nat :=
  if !s.commanding then 6
  else if s.loopStopped n then 5
  else if (s.loop n).latched ≠ 0 then 4
  else if !s.loopCoefOk n then 2
  else if s.feedbackFault n (s.loopOuter n) ≠ 0 then 3 else 0

/-- R220: the loop enters CLOSED. -/
def State.loopClose (s : State) (n : Nat) : State :=
  let s := s.latchOfb n
  let s := (s.wr (Reg.SRVn_SP n) (s.rd (Reg.SRVn_FB n))).wr (Reg.SRVn_OSP n) (s.rd (Reg.SRVn_OFB n))
  let s := (s.set (Fld.SRVn_STAT_OSTATE n) 0).modLoop n (fun x => { x with
    auto := false, cmdClose := false, bnd := 0, on := 0, oOn := 0, oOff := 255 })
  (s.loopTo n 1).closePend n

/-- R225: on a pending close that fails: a commanded one is refused; an automatic one shows the condition and keeps trying until
a fault latches. -/
def State.closeFails (s : State) (n code : Nat) : State :=
  let cmd := (s.loop n).cmdClose
  let s := s.modLoop n (fun x => { x with cmdClose := false, auto := x.auto && decide (code ≠ 4) })
  let s := if cmd then s.loopRefuse n code (Reg.SRVn_CMD n) else s.set (Fld.SRVn_STAT_REF_CODE n) code
  s.closePend n

/-- R222: whether a register of a loop holds RWS fields: all but SPSRC, SPOFS and HOSTSP. -/
def loopRws (n a : Nat) : Bool :=
  decide (a ≠ Reg.SRVn_SPSRC n ∧ a ≠ Reg.SRVn_SPOFS n ∧ a ≠ Reg.SRVn_HOSTSP n)

/-- R222: the overlay's values are written. -/
def State.overlayWrite (s : State) (n : Nat) (ws : List (Nat × Word)) : State :=
  ((s.each ws (fun x s => s.wr x.1 x.2)).modLoop n (fun x => { x with overlay := none })).ownSync

/-- R222: the overlay step of a boundary. -/
def State.overlayStep (s : State) (n : Nat) : State := match (s.loop n).overlay with
  | some ws =>
    if s.loopState n = 1 ∧ ws.any (fun x => loopRws n x.1 && decide (s.rd x.1 ≠ x.2)) then
      ((s.loopOff n).overlayWrite n ws).loopTo n 3
    else s.overlayWrite n ws
  | none =>
    if s.loopState n = 3 then
      let code := s.closeCheck n
      if code = 0 then s.loopTo n 1
      else
        let s := (s.loopOpen n 8).set (Fld.SRVn_STAT_REF_CODE n) code
        s.raise 0x5002 (s.handleOf 6 n) (s.loopData n)
    else s

/-- R219: an open command takes effect. -/
def State.openStep (s : State) (n : Nat) : State :=
  if (s.loop n).openReq then
    if s.loopState n = 1 ∨ s.loopState n = 3 then s.loopOpen n 1
    else (s.modLoop n (fun x => { x with openReq := false, cmdClose := false, auto := false })).closePend n
  else s

/-- R220, R225: a pending close is decided; the second value tells a loop that has just closed. -/
def State.closeStep (s : State) (n : Nat) : State × Bool :=
  if (s.loopState n = 0 ∨ s.loopState n = 2) ∧ ((s.loop n).cmdClose ∨ (s.loop n).auto) then
    let code := s.closeCheck n
    if code = 0 then (s.loopClose n, true) else (s.closeFails n code, false)
  else (s, false)

/-- Table 8-4, step 3: fault, open, overlay step, close, source switch, in this order. -/
def State.loopEvents (s : State) (n : Nat) (outer : Bool) : State × Bool :=
  let f := if s.loopState n = 1 then s.feedbackFault n outer else 0
  let s := if f ≠ 0 then s.loopFault n f else s
  let (s, closed) := ((s.openStep n).overlayStep n).closeStep n
  (s.modLoop n (fun x => { x with src := s.rd (Reg.SRVn_SPSRC n) }), closed)

/-! Set-points (R214, R216, R217). -/

/-- A value brought to 32 bits: wrapped as an angle, or saturated; the second value tells a saturation. -/
def loopFit (angle : Bool) (x : Int) : Int × Bool :=
  if angle then ((ofInt32 x).toInt, false)
  else (clampInt (-2147483648) 2147483647 x, !fits32 x)

/-- Table 8-2: the candidate of a loop and whether it was saturated; `none` where the source gives no value. -/
def State.candidate (s : State) (n : Nat) : Option (Int × Bool) :=
  let w := (s.loop n).src
  let src := bitsGet w 0 3
  let scaled := fun (kind : Nat) => (s.source kind (bitsGet w 3 6)).map (fun (r, _) =>
    loopFit (s.loopAngle n) (scaleShift r (toSigned 16 (bitsGet w 9 16)) (toSigned 6 (bitsGet w 25 6))
      (s.rd (Reg.SRVn_SPOFS n)).toInt))
  if src = 1 then (s.loop n).alloc.map (loopFit (s.loopAngle n))
  else if src = 2 then scaled 0 else if src = 3 then scaled 1 else if src = 4 then scaled 2
  else if src = 5 then some ((s.rd (Reg.SRVn_HOSTSP n)).toInt, false) else none

/-- R217: a set-point moved toward its candidate by at most SPRATE. -/
def rateStep (angle : Bool) (rate : Nat) (cur cand : Int) : Int :=
  let d := if angle then (ofInt32 (cand - cur)).toInt else cand - cur
  if rate = 0 then cand
  else (loopFit angle (cur + clampInt (-(rate : Int)) rate d)).1

/-- R217: the set-point in use follows its source; a lost source holds it (R218).  The second value tells a clamp. -/
def State.setpointStep (s : State) (n : Nat) : State × Bool :=
  let outer := s.loopOuter n
  let reg := if outer then Reg.SRVn_OSP n else Reg.SRVn_SP n
  let src := bitsGet (s.loop n).src 0 3
  let (s, next, sat) := match s.candidate n with
    | some (c, k) =>
      (s.set (Fld.SRVn_STAT_SP_LOST n) 0, rateStep (s.loopAngle n) (s.rd (Reg.SRVn_SPRATE n)).toNat (s.rd reg).toInt c, k)
    | none => (s.setBit (Fld.SRVn_STAT_SP_LOST n) (decide (2 ≤ src ∧ src ≤ 4)), (s.rd reg).toInt, false)
  let lim := if outer || s.loopAngle n then next
    else clampInt (s.rd (Reg.SRVn_SPMIN n)).toInt (s.rd (Reg.SRVn_SPMAX n)).toInt next
  (s.wr reg (ofInt32 lim), sat || decide (lim ≠ next))

/-- Table 8-1: the next output state from the present one, the error, the bands, and whether each dwell is met. -/
def hysteresis (pos neg : Bool) (out : Nat) (e : Int) (on off : Nat) (onMet offMet : Bool) : Nat :=
  if out = 1 then (if onMet ∧ e < off then 0 else 1)
  else if out = 2 then (if onMet ∧ -(off : Int) < e then 0 else 2)
  else if offMet ∧ pos ∧ (on : Int) < e then 1
  else if offMet ∧ neg ∧ e < -(on : Int) then 2 else 0

/-- R214: the outer state at an outer boundary. -/
def State.outerStep (s : State) (n : Nat) : State :=
  let st := s.get (Fld.SRVn_STAT_OSTATE n)
  let d := (s.rd (Reg.SRVn_OSP n)).toInt - (s.rd (Reg.SRVn_OFB n)).toInt
  let eo := if s.get (Fld.SRVn_CFG_O_INV n) = 1 then -d else d
  let on := (s.loop n).oOn + (if st = 0 then 0 else 1)
  let off := min 255 ((s.loop n).oOff + (if st = 0 then 1 else 0))
  let st' := hysteresis true true st eo (s.rd (Reg.SRVn_OBON n)).toNat (s.rd (Reg.SRVn_OBOFF n)).toNat
    (decide (s.get (Fld.SRVn_OTIMER_O_TON n) ≤ on)) (decide (s.get (Fld.SRVn_OTIMER_O_TOFF n) ≤ off))
  (s.set (Fld.SRVn_STAT_OSTATE n) st').modLoop n (fun x => { x with
    oOn := if st = 0 ∧ st' ≠ 0 then 0 else on, oOff := if st ≠ 0 ∧ st' = 0 then 0 else off })

/-- R214: r ramps by the outer state and is clamped; the second value tells a clamp. -/
def State.rampStep (s : State) (n : Nat) : State × Bool :=
  let st := s.get (Fld.SRVn_STAT_OSTATE n)
  let k : Int := (s.rd (Reg.SRVn_ORAMP n)).toNat
  let r := (s.rd (Reg.SRVn_SP n)).toInt + (if st = 1 then k else if st = 2 then -k else 0)
  let c := clampInt (s.rd (Reg.SRVn_SPMIN n)).toInt (s.rd (Reg.SRVn_SPMAX n)).toInt r
  (s.wr (Reg.SRVn_SP n) (ofInt32 c), decide (c ≠ r))

/-- Table 8-4, step 4. -/
def State.loopSetpoint (s : State) (n : Nat) (outer : Bool) : State :=
  let (s, a) := s.setpointStep n
  if s.loopOuter n then
    let s := if outer then s.outerStep n else s
    let (s, b) := s.rampStep n
    s.setBit (Fld.SRVn_STAT_SP_CLAMPED n) (a || b)
  else s.setBit (Fld.SRVn_STAT_SP_CLAMPED n) a

/-- R209: the error of the inner law. -/
def State.loopError (s : State) (n : Nat) : Int :=
  let sp := s.rd (Reg.SRVn_SP n)
  let fb := s.rd (Reg.SRVn_FB n)
  if s.loopAngle n then (sp - fb).toInt else sp.toInt - fb.toInt

/-- Table 8-4, steps 5 and 6: the inner law and the outputs. -/
def State.loopLaw (s : State) (n : Nat) : State :=
  let out := s.get (Fld.SRVn_STAT_OUT n)
  let law := s.get (Fld.SRVn_CFG_LAW n)
  let out' := hysteresis (drivesPos law) (drivesNeg law) out (s.loopError n) (s.rd (Reg.SRVn_BON n)).toNat
    (s.rd (Reg.SRVn_BOFF n)).toNat (decide (s.get (Fld.SRVn_DWELL_T_ON n) ≤ (s.loop n).on))
    (decide (s.get (Fld.SRVn_DWELL_T_OFF n) ≤ (s.loop n).off))
  let s := s.modLoop n (fun x => { x with
    on := if out = 0 ∧ out' ≠ 0 then 0 else x.on, off := if out ≠ 0 ∧ out' = 0 then 0 else x.off })
  let s := if out = 0 ∧ out' ≠ 0 then s.count (Fld.SRVn_CNT_SWITCHES n) else s
  s.loopOut n out'

/-- R212, R206: the counters of a boundary. -/
def State.loopCounts (s : State) (n : Nat) : State :=
  let out := s.get (Fld.SRVn_STAT_OUT n)
  s.modLoop n (fun x => { x with
    on := if out = 0 then x.on else x.on + 1, off := if out = 0 then min 65535 (x.off + 1) else x.off
    bnd := if s.loopState n = 1 then x.bnd + 1 else x.bnd })

/-- R206: the present boundary of a CLOSED loop is an outer boundary. -/
def State.atOuter (s : State) (n : Nat) : Bool :=
  s.loopOuter n && decide (s.loopState n = 1 ∧ (s.loop n).bnd % (s.get (Fld.SRVn_CFG_OUTER_DIV n) + 1) = 0)

/-- SERVO_BOUNDARY (R226): one sample of a loop. -/
def State.servoBoundary (s : State) (n : Nat) : State :=
  let s := s.loopCounts n
  let outer := s.atOuter n
  let s := s.latchFb n outer
  let (s, closed) := s.loopEvents n outer
  if s.loopState n = 1 then (s.loopSetpoint n (outer && !closed)).loopLaw n else s

/-- OUTER_BOUNDARY (R214): the boundary at which the outer loop acts; the same sample as SERVO_BOUNDARY. -/
def State.outerBoundary (s : State) (n : Nat) : State :=
  if (s.loopCounts n).atOuter n then s.servoBoundary n else s

/-- STALL_FAULT (R213). -/
def State.stallFault (s : State) (n : Nat) : State :=
  let k := s.get (Fld.SRVn_OTIMER_STALL n)
  if s.loopState n = 1 ∧ k ≠ 0 ∧ s.get (Fld.SRVn_STAT_OUT n) ≠ 0 ∧ 16 * k ≤ (s.loop n).on then s.loopFault n 4 else s

/-! Commands. -/

/-- SRV_CMD_CLOSE (R220): pending until the next boundary. -/
def State.cmdClose (s : State) (n : Nat) : State :=
  if s.loopState n = 1 ∨ s.loopState n = 3 then s
  else (s.modLoop n (fun x => { x with cmdClose := true })).closePend n

/-- SRV_CMD_OPEN (R219). -/
def State.cmdOpen (s : State) (n : Nat) : State := s.modLoop n (fun x => { x with openReq := true })

/-- SRV_CMD_CLR_FAULT (R223): refused while a linked safety stop is in force; the loop stays in FAULT until it closes. -/
def State.cmdClrFault (s : State) (n : Nat) : State :=
  if s.loopStopped n then s.loopRefuse n 5 (Reg.SRVn_CMD n) else s.modLoop n (fun x => { x with latched := 0 })

/-- SRV_SPSRC_WRITE (R216, R452): the source changes at the next boundary. -/
def State.spsrcWrite (s : State) (n : Nat) (v : Word) : State :=
  if !s.commanding then s.loopRefuse n 6 (Reg.SRVn_SPSRC n)
  else if 6 ≤ bitsGet v 0 3 then s.loopRefuse n 7 (Reg.SRVn_SPSRC n)
  else (s.wr (Reg.SRVn_SPSRC n) (v &&& 0x7FFFFFFF)).forwardWrite (Reg.SRVn_SPSRC n) v

/-- SRV_HOSTSP_WRITE (R216, R452). -/
def State.hostspWrite (s : State) (n : Nat) (v : Word) : State :=
  if !s.commanding then s.loopRefuse n 6 (Reg.SRVn_HOSTSP n)
  else (s.wr (Reg.SRVn_HOSTSP n) v).forwardWrite (Reg.SRVn_HOSTSP n) v

/-- SRV_CNT_CLR (R227). -/
def State.srvCntClr (s : State) : State := s.each (List.range 64) (fun n s => s.wr (Reg.SRVn_CNT n) 0)

/-- R225: AUTO_CLOSE starts to try. -/
def State.autoClose (s : State) (n : Nat) : State :=
  if s.get (Fld.SRVn_CFG_AUTO_CLOSE n) = 1 ∧ (s.loopState n = 0 ∨ s.loopState n = 2) then
    (s.modLoop n (fun x => { x with auto := true })).closePend n
  else s

/-- R225: the part takes the commanding role: every AUTO_CLOSE loop tries. -/
def State.autoCloseAll (s : State) : State := s.each (List.range 64) (fun n s => s.autoClose n)

/-- R225: the part loses the role: every loop opens with cause STANDBY; a latched fault stays. -/
def State.standbyLoops (s : State) : State :=
  s.each (List.range 64) (fun n s => if s.loopState n = 2 then
      (s.modLoop n (fun x => { x with auto := false, cmdClose := false })).closePend n else s.loopOpen n 6)

/-- R225, R463: FUNC_REINIT of a loop: it opens, every field is loaded again, faults other than SAFETY_STOP clear, and
AUTO_CLOSE tries. -/
def State.loopReinit (s : State) (n : Nat) : State :=
  let keep := (s.loop n).latched = 5
  let s := if keep then s.loopOff n else s.loopOpen n 7
  let s := s.modLoop n (fun x => { x with latched := if keep then 5 else 0, auto := false, cmdClose := false, openReq := false })
  match s.cfg with
  | none => s
  | some c =>
    let mine := fun (a : Nat) => decide (Reg.SRVn_CFG n ≤ a ∧ a < Reg.SRVn_CFG n + 0x80)
    ((s.each (c.regs.filter (fun x => mine x.1)) (fun x s => s.wr x.1 x.2)).ownSync).autoClose n

/-! The commands of the table. -/

/-- SERVO_BOUNDARY (R226). -/
def execServoBoundary (n : Fin 64) (s : State) : Host.Outcome State Fault Refusal := .next (s.running (fun s => s.servoBoundary n))
/-- OUTER_BOUNDARY (R214). -/
def execOuterBoundary (n : Fin 64) (s : State) : Host.Outcome State Fault Refusal := .next (s.running (fun s => s.outerBoundary n))
/-- STALL_FAULT (R213). -/
def execStallFault (n : Fin 64) (s : State) : Host.Outcome State Fault Refusal := .next (s.running (fun s => s.stallFault n))
/-- SRVn_CMD.CLOSE (R220). -/
def execSrvCmdClose (n : Fin 64) (s : State) : Host.Outcome State Fault Refusal :=
  .next (s.access (Reg.SRVn_CMD n) (fun s => s.cmdClose n))
/-- SRVn_CMD.OPEN (R219). -/
def execSrvCmdOpen (n : Fin 64) (s : State) : Host.Outcome State Fault Refusal :=
  .next (s.access (Reg.SRVn_CMD n) (fun s => s.cmdOpen n))
/-- SRVn_CMD.CLR_FAULT (R223). -/
def execSrvCmdClrFault (n : Fin 64) (s : State) : Host.Outcome State Fault Refusal :=
  .next (s.access (Reg.SRVn_CMD n) (fun s => s.cmdClrFault n))
/-- SRVn_SPSRC (R216). -/
def execSrvSpsrcWrite (n : Fin 64) (v : Word) (s : State) : Host.Outcome State Fault Refusal :=
  .next (s.access (Reg.SRVn_SPSRC n) (fun s => s.spsrcWrite n v))
/-- SRVn_HOSTSP (R216). -/
def execSrvHostspWrite (n : Fin 64) (v : Word) (s : State) : Host.Outcome State Fault Refusal :=
  .next (s.access (Reg.SRVn_HOSTSP n) (fun s => s.hostspWrite n v))
/-- SRV_CTRL.CNT_CLR (R227). -/
def execSrvCntClr (s : State) : Host.Outcome State Fault Refusal := .next (s.access Reg.SRV_CTRL State.srvCntClr)

end Sys2Proof.Machine
end

