-- ==== Sys2Proof/Machine/Solver.lean ====
section
/-!
DEFINITION. Sys2Proof/Machine/Solver.lean: the solver (R149 to R176): problems in solver units, factors and refreshes, the
splitting and the barrier iteration, iterates and the best of them, starts, stops and the solver status word.
-/
namespace Sys2Proof.Machine

/-- An instance: 0 MPC, 1 ALLOC, 2 + g the failure group g. -/
def State.inst (s : State) (k : Nat) : Inst := cellsGet {} s.slv k

/-- An instance changed. -/
def State.modInst (s : State) (k : Nat) (f : Inst → Inst) : State :=
  { s with slv := cellsSet {} s.slv k (f (cellsGet {} s.slv k)) }

/-- The instance of a class and group. -/
def instOf (cls group : Nat) : Nat := if cls = 2 then 2 + group else cls

/-- The class of an instance. -/
def clsOf (k : Nat) : Nat := min k 2

/-- The solver parameters of a class (R174). -/
def State.slvCfg (s : State) (c : Nat) : Option SlvCfg :=
  s.cfg.map (fun g => if c = 0 then g.ctl.slv else if c = 1 then g.alc.slvAlloc else g.alc.slvConseq)

/-- A class iterates by the barrier method (R162). -/
def State.barrier (s : State) (c : Nat) : Bool := match s.slvCfg c with
  | some p => p.barrier
  | none => false

/-! Problems (R149, R152, R153). -/

/-- The fraction counts of Table 6-2: of primal variables, and of dual variables, factors, pivots, residuals and merit. -/
def State.slvBits (s : State) : Nat × Nat := match s.cfg with
  | some c => (fracBits c.ctl.qhead 2, fracBits c.ctl.qhead 64)
  | none => (29, 24)

/-- The identity row of a bounded variable. -/
def boxRow (b : Nat × Rat × Rat) : Vec × Option Rat × Option Rat := ([(b.1, 1)], some b.2.1, some b.2.2)

/-- Every row of A: the constraints, then the identity rows (R149). -/
def Qp.all (q : Qp) : List (Vec × Option Rat × Option Rat) := q.rows ++ q.box.map boxRow

/-- R152: a problem in physical units, scaled for the image: x = scale · x', each row divided by its own scale, the cost times
the cost's scale. -/
def scaleQp (p : SlvCfg) (q : Qp) : Qp :=
  let d := (List.range q.n).map (fun i => p.xScale.getD i 1)
  let by_ := fun (v : Vec) => v.map (fun e => (e.1, e.2 * d.getD e.1 1))
  { n := q.n
    p := q.p.zipIdx.map (fun (r, i) => vecScale (p.costScale * d.getD i 1) (by_ r))
    q := vecScale p.costScale (by_ q.q)
    rows := q.rows.zipIdx.map (fun (r, i) =>
      let k := 1 / p.rowScale.getD i 1
      (vecScale k (by_ r.1), r.2.1.map (k * ·), r.2.2.map (k * ·)))
    box := q.box.map (fun b => (b.1, b.2.1 / d.getD b.1 1, b.2.2 / d.getD b.1 1))
    scale := d }

/-- Physical values in solver units. -/
def Qp.toUnits (q : Qp) (x : List Rat) : List Rat := x.zipIdx.map (fun (v, i) => v / q.scale.getD i 1)

/-- Values of solver units in physical units. -/
def Qp.physical (q : Qp) (x : List Rat) : List Rat := x.zipIdx.map (fun (v, i) => v * q.scale.getD i 1)

/-- A value clipped to its bounds. -/
def clampRat (lo hi x : Rat) : Rat := if x < lo then lo else if hi < x then hi else x

/-- A value clipped to the bounds that a row has: Π of R154. -/
def clipRow (l u : Option Rat) (x : Rat) : Rat :=
  let y := match l with | some a => if x < a then a else x | none => x
  match u with | some b => if b < y then b else y | none => y

/-- R164: the projection onto the actuator box. -/
def Qp.project (q : Qp) (x : List Rat) : List Rat := q.box.foldl (fun x b => x.set b.1 (clampRat b.2.1 b.2.2 (x.getD b.1 0))) x

/-- R161: the matrix K = [P + σI, Aᵀ; A, −(1/ρ)I]. -/
def kktMatrix (p : SlvCfg) (q : Qp) : List Vec :=
  let a := q.all.map (·.1)
  let at_ := matT q.n a
  (List.range q.n).map (fun i =>
    vecAdd 1 (vecAdd p.sigma (q.p.getD i []) [(i, 1)]) ((at_.getD i []).map (fun e => (e.1 + q.n, e.2)))) ++
    a.zipIdx.map (fun (r, i) => r ++ [(q.n + i, -1 / p.rho)])

/-! Factors and refreshes (R155 to R160). -/

/-- The active factor slot's factor. -/
def Inst.factor (x : Inst) : Option Factor := if x.slot then x.slot1 else x.slot0

/-- The factor in the slot that is not in use. -/
def Inst.other (x : Inst) : Option Factor := if x.slot then x.slot0 else x.slot1

/-- R155: a refresh writes the slot that is not in use. -/
def Inst.putOther (x : Inst) (f : Option Factor) : Inst := if x.slot then { x with slot0 := f } else { x with slot1 := f }

/-- R158: a refresh of a matrix starts; while one runs, or its factor waits, a further one follows it (R159). -/
def State.slvTrigger (s : State) (k : Nat) (m : List Vec) : State :=
  if s.barrier (clsOf k) then s
  else s.modInst k (fun x =>
    if x.refresh.isSome ∨ x.ready then { x with again := some m, mat := m } else { x with refresh := some m, mat := m })

/-- R155: an accepted factor becomes active by a write of the slot pointer; a further refresh then starts at once (R159). -/
def State.slvActivate (s : State) (k : Nat) : State :=
  if (s.inst k).ready then
    (s.modInst k (fun x => { x with slot := !x.slot, ready := false
                                    refresh := match x.refresh with | some m => some m | none => x.again
                                    again := match x.refresh with | some _ => x.again | none => none })).count
      (Fld.SLV_FACTc_REFRESHES (clsOf k))
  else s

/-- REFRESH_COMPLETE (R155 to R157): the factor of the matrix that the refresh took is formed; it is accepted, or rejected for
saturation, and a further refresh may start at once.  With no factor in use, or no solve under way, no iteration boundary is
awaited.  `more` further pivots, and `sat`, are what Bolek's order of operations replaces and saturates between stored values
(log entry 137). -/
def State.refreshComplete (s : State) (k more : Nat) (sat : Bool) : State :=
  let x := s.inst k
  match x.refresh, s.slvCfg (clsOf k) with
  | some m, some p =>
    let f := factorise (some s.slvBits.2) (some s.slvBits.2) p.epsPiv p.deltaPiv p.order m
    let f := { f with replaced := f.replaced + more }
    if f.saturated ∨ sat then
      (s.modInst k (fun x => { x with rejected := true, refresh := x.again, again := none, mat := x.again.getD [] })).count
        (Fld.SLV_FACTc_REJECTED (clsOf k))
    else
      let s := s.modInst k (fun x => { x.putOther (some f) with refresh := none, ready := true })
      if x.solving ∧ x.factor.isSome then s else s.slvActivate k
  | _, _ => s

/-- R159: iterates are formed with a factor older than their data: a refresh for them has not become active. -/
def Inst.old (x : Inst) : Bool := x.refresh.isSome || x.ready

/-! Starts (R172). -/

/-- The published buffer in force (R167). -/
def Inst.published (x : Inst) : Option Iterate := if x.pub then x.pub1 else x.pub0

/-- R167: an iterate copied into the buffer that is not current, which then becomes current. -/
def Inst.publish (x : Inst) (i : Iterate) : Inst :=
  if x.pub then { x with pub0 := some i, pub := false } else { x with pub1 := some i, pub := true }

/-- A start point: projected (R164), with the z given, or where none is given z = Π(A x) (log entry 135), and the multipliers
given. -/
def Inst.startAt (x : Inst) (q : Qp) (v z y : List Rat) : Inst :=
  let v := q.project ((v ++ List.replicate q.n 0).take q.n)
  let m := q.all.length
  { x with x := v
           z := if z = [] then q.all.map (fun r => clipRow r.2.1 r.2.2 (vecDot r.1 (vecFrom 0 v))) else z
           y := (y ++ List.replicate m 0).take m }

/-- R162: the barrier method's first point: moved inside the bounds by 2⁻⁸ of their width, with the multipliers of μ, whose
first value the spec does not give (log entry 136). -/
def Inst.inside (x : Inst) (q : Qp) : Inst :=
  let mu := Config.barrierStart
  let v := q.box.foldl (fun v b =>
    let w := (b.2.2 - b.2.1) / 256
    v.set b.1 (clampRat (b.2.1 + w) (b.2.2 - w) (v.getD b.1 0))) x.x
  let z := q.all.map (fun r =>
    let a := vecDot r.1 (vecFrom 0 v)
    match r.2.1, r.2.2 with
    | some l, some u => let w := (u - l) / 256; clampRat (l + w) (u - w) a
    | some l, none => max a (l + 1 / 256)
    | none, some u => min a (u - 1 / 256)
    | none, none => a)
  let gap := fun (d : Rat) => if d = 0 then 0 else mu / d
  { x with
    x := v, z := z, mu := mu
    lamL := (q.all.zip z).map (fun (r, a) => match r.2.1 with | some l => gap (a - l) | none => 0)
    lamU := (q.all.zip z).map (fun (r, a) => match r.2.2 with | some u => gap (u - a) | none => 0) }

/-- A problem as a solve takes it: in physical units, with what sets its start point: the state (x, z, y) that a WARM start
carries on, given the published buffer, and the point of a PRIMAL_WARM or COLD start in physical units. -/
structure Problem where
  qp : Qp
  dem : Rat × Rat × Rat
  conf : Bool
  flags : Bool × Bool
  /-- Costs given in solver units: quadratic and linear terms by variable (R188, R189). -/
  unitP : List (Nat × Rat)
  unitQ : List (Nat × Rat)
  warm : Iterate → List Rat × List Rat × List Rat
  primal : List Rat
  cold : List Rat

/-- A problem scaled, with its costs in solver units. -/
def Problem.scaled (pr : Problem) (p : SlvCfg) : Qp :=
  let q := scaleQp p pr.qp
  { q with
    p := q.p.zipIdx.map (fun (r, i) => match pr.unitP.find? (fun e => decide (e.1 = i)) with
      | some e => vecAdd 1 r [(i, e.2)]
      | none => r)
    q := pr.unitQ.foldl (fun v e => vecAdd 1 v [e]) q.q }

/-- A WARM start of ALLOC and CONSEQ: the previous best x, z and y. -/
def warmPlain (i : Iterate) : List Rat × List Rat × List Rat := (i.raw, i.z, i.y)

/-- Table 6-5: how the next solve starts: 0 WARM, 1 PRIMAL_WARM, 2 COLD. -/
def Inst.startKind (x : Inst) : Nat :=
  if x.primal then 1 else if x.cold ∨ x.published.isNone then 2 else 0

/-- A solve starts: the problem is frozen (R171) and its start point formed; COLD and PRIMAL_WARM, the lack of a factor, and a
request start a refresh (Table 6-3). -/
def State.slvStart (s : State) (k : Nat) (pr : Problem) : State := match s.slvCfg (clsOf k) with
  | none => s
  | some p =>
    let s := s.slvActivate k
    let x := s.inst k
    let q := pr.scaled p
    let kind := x.startKind
    let from_ := match kind, x.published with
      | 0, some i => pr.warm i
      | 1, _ => (q.toUnits pr.primal, [], [])
      | _, _ => (q.toUnits pr.cold, [], [])
    let s := s.modInst k (fun x =>
      let x := { x with
        solving := true, start := kind, iter := 0, best := none, badRun := 0, restarts := 0, inelSeen := false
        abandoned := false, rejected := false, boxConf := pr.conf, cold := false, primal := false, need := false
        qp := q, dem := pr.dem, dataFlags := pr.flags }
      let x := x.startAt q from_.1 from_.2.1 from_.2.2
      let x := { x with x0 := x.x }
      if p.barrier then x.inside q else x)
    let m := kktMatrix p q
    if x.need ∨ m ≠ x.mat ∨ ((kind ≠ 0 ∨ x.factor.isNone) ∧ x.refresh.isNone) then s.slvTrigger k m else s

/-- R172, R173: the next solve starts COLD; what an instance was doing is lost with its region (R173). -/
def State.slvCold (s : State) (k : Nat) : State := s.modInst k (fun _ => {})

/-! Iterations (R161, R162). -/

/-- A residual or merit in fixed units, rounded convergently and saturating. -/
def resUnits (x : Rat) (scale top : Nat) : Nat := min top (roundRat (x * scale)).toNat

/-- The state of an iteration and whether a result of its own saturated. -/
structure Iter where
  x : List Rat
  z : List Rat
  y : List Rat
  lamL : List Rat
  lamU : List Rat
  mu : Rat
  sat : Bool

/-- Values held in a format, and whether any saturated. -/
def heldAll (n : Nat) (l : List Rat) : List Rat × Bool := (l.map (held n), l.any (overflows n))

/-- R161: one splitting iteration; each vector is held in its format of Table 6-2 as it is stored (log entry 137). -/
def splitStep (p : SlvCfg) (bits : Nat × Nat) (q : Qp) (f : Factor) (s : Inst) : Iter :=
  let rows := q.all
  let m := rows.length
  let rhs := vecFrom 0 ((List.range q.n).map (fun i => p.sigma * s.x.getD i 0 - cellsGet 0 q.q i)) ++
    vecFrom q.n ((s.z.zip s.y).map (fun (z, y) => z - y / p.rho))
  let sol := f.solve rhs
  let (xt, s1) := heldAll bits.1 (vecList q.n sol)
  let (nu, s2) := heldAll bits.2 ((List.range m).map (fun i => cellsGet 0 sol (q.n + i)))
  let (zt, s3) := heldAll bits.1 ((s.z.zip (nu.zip s.y)).map (fun (z, n, y) => z + (n - y) / p.rho))
  let (x, s4) := heldAll bits.1 ((xt.zip s.x).map (fun (a, b) => p.alpha * a + (1 - p.alpha) * b))
  let (zr, s5) := heldAll bits.1 ((zt.zip s.z).map (fun (a, b) => p.alpha * a + (1 - p.alpha) * b))
  let (zn, s6) := heldAll bits.1 ((rows.zip (zr.zip s.y)).map (fun (r, z, y) => clipRow r.2.1 r.2.2 (z + y / p.rho)))
  let (y, s7) := heldAll bits.2 ((s.y.zip (zr.zip zn)).map (fun (y, a, b) => y + p.rho * (a - b)))
  { x := x, z := zn, y := y, lamL := s.lamL, lamU := s.lamU, mu := s.mu
    sat := s1 || s2 || s3 || s4 || s5 || s6 || s7 }

/-- R162: Σ of a row: λ over slack, both sides. -/
def rowSigma (r : Vec × Option Rat × Option Rat) (z ll lu : Rat) : Rat :=
  (match r.2.1 with | some l => ll / (z - l) | none => 0) + (match r.2.2 with | some u => lu / (u - z) | none => 0)

/-- R162: μ over slack of a row: upper less lower side. -/
def rowPush (r : Vec × Option Rat × Option Rat) (z mu : Rat) : Rat :=
  (match r.2.2 with | some u => mu / (u - z) | none => 0) - (match r.2.1 with | some l => mu / (z - l) | none => 0)

/-- A row whose bounds are equal: a constraint without slack. -/
def isEquality (r : Vec × Option Rat × Option Rat) : Bool := match r.2.1, r.2.2 with
  | some l, some u => decide (l = u)
  | _, _ => false

/-- R162: the reduced KKT matrix with the barrier terms of the present bounds. -/
def barrierMatrix (q : Qp) (s : Inst) : List Vec :=
  let rows := q.all
  let at_ := matT q.n (rows.map (·.1))
  (List.range q.n).map (fun i => vecAdd 1 (q.p.getD i []) ((at_.getD i []).map (fun e => (e.1 + q.n, e.2)))) ++
    rows.zipIdx.map (fun (r, i) =>
      let g := rowSigma r (s.z.getD i 0) (s.lamL.getD i 0) (s.lamU.getD i 0)
      if isEquality r ∨ g = 0 then r.1 else r.1 ++ [(q.n + i, -1 / g)])

/-- R162, 4: the largest step up to 1 that keeps a value at least 1 − STEP_FRAC of itself. -/
def stepLimit (frac : Rat) (v d : Rat) : Rat := if d < 0 ∧ frac * v < -d then frac * v / (-d) else 1

/-- R162: one barrier iteration: the Newton direction of the factor, the step, and μ (log entry 136). -/
def barrierStep (p : SlvCfg) (bits : Nat × Nat) (q : Qp) (f : Factor) (s : Inst) : Iter :=
  let rows := q.all
  let m := rows.length
  let xv := vecFrom 0 s.x
  let px := matVec q.p xv
  let g := fun (l : List Rat) (i : Nat) => l.getD i 0
  let rhs := vecFrom 0 ((List.range q.n).map (fun i => -(cellsGet 0 px i) - cellsGet 0 q.q i)) ++
    vecFrom q.n (rows.zipIdx.map (fun (r, i) =>
      let z := g s.z i
      let k := rowSigma r z (g s.lamL i) (g s.lamU i)
      let ax := vecDot r.1 xv
      if isEquality r then r.2.1.getD 0 - ax else if k = 0 then z - ax else z - ax - rowPush r z s.mu / k))
  let sol := f.solve rhs
  let dx := vecList q.n sol
  let yn := (List.range m).map (fun i => cellsGet 0 sol (q.n + i))
  let dz := rows.zipIdx.map (fun (r, i) =>
    let k := rowSigma r (g s.z i) (g s.lamL i) (g s.lamU i)
    if isEquality r ∨ k = 0 then 0 else (g yn i - rowPush r (g s.z i) s.mu) / k)
  let side := fun (low : Bool) => rows.zipIdx.map (fun (r, i) =>
    let z := g s.z i
    match (if low then r.2.1 else r.2.2) with
    | none => (0, 0, 0, 0)
    | some b =>
      let v := if low then z - b else b - z
      let d := if low then g dz i else -(g dz i)
      let la := if low then g s.lamL i else g s.lamU i
      if isEquality r ∨ v = 0 then (0, 0, 0, 0) else (v, d, la, s.mu / v - la / v * d - la))
  let sl := side true
  let su := side false
  let t := ((sl ++ su).map (fun (v, d, la, dl) => min (stepLimit p.stepFrac v d) (stepLimit p.stepFrac la dl))).foldl min 1
  let (x, s1) := heldAll bits.1 ((s.x.zip dx).map (fun (a, d) => a + t * d))
  let (z, s2) := heldAll bits.1 (rows.zipIdx.map (fun (r, i) => if isEquality r then r.2.1.getD 0 else g s.z i + t * g dz i))
  let (ll, s3) := heldAll bits.2 (sl.map (fun (_, _, la, dl) => la + t * dl))
  let (lu, s4) := heldAll bits.2 (su.map (fun (_, _, la, dl) => la + t * dl))
  let (y, s5) := heldAll bits.2 (rows.zipIdx.map (fun (r, i) =>
    if isEquality r then g s.y i + t * (g yn i - g s.y i) else g lu i - g ll i))
  { x := x, z := z, y := y, lamL := ll, lamU := lu, mu := s.mu * p.muShrink, sat := s1 || s2 || s3 || s4 || s5 }

/-! Iterates (R154, R163 to R167). -/

/-- R154: the primal residual of a projected iterate: the largest distance of a row from its bounds. -/
def primalRes (q : Qp) (xh : Vec) : Rat :=
  (q.all.map (fun r => let a := vecDot r.1 xh; |a - clipRow r.2.1 r.2.2 a|)).foldl max 0

/-- R154: the dual residual: the largest element of P x̂ + q + Aᵀ y. -/
def dualRes (q : Qp) (xh y : Vec) : Rat :=
  let v := vecAdd 1 (vecAdd 1 (matVec q.p xh) q.q) (vecMat y (q.all.map (·.1)))
  (v.map (fun e => |e.2|)).foldl max 0

/-- R154, R163, R164: an iterate with its projection, residuals, merit and status. -/
def mkIterate (p : SlvCfg) (bits : Nat × Nat) (q : Qp) (index : Nat) (it : Iter) (reg old domain : Bool) : Iterate :=
  let xh := q.project it.x
  let rp := primalRes q (vecFrom 0 xh)
  let rd := dualRes q (vecFrom 0 xh) (vecFrom 0 it.y)
  let m := p.wp * held bits.2 rp + p.wd * held bits.2 rd
  let sat := it.sat || overflows bits.2 rp || overflows bits.2 rd || overflows bits.2 m
  { index := index, merit := held bits.2 m, resid := resUnits (held bits.2 m) (2 ^ 20) 0xFFFFFFFF
    rp := resUnits (held bits.2 rp) (2 ^ 16) 0xFFFF, rd := resUnits (held bits.2 rd) (2 ^ 16) 0xFFFF
    x := xh, reg := reg, sat := sat, domain := domain, factOld := old, raw := it.x, z := it.z, y := it.y }

/-- R163, R165, R167: an eligible iterate becomes the best one on a merit that is not larger. -/
def Inst.take (x : Inst) (i : Iterate) : Inst :=
  let keep := match x.best with
    | none => true
    | some b => decide (i.merit ≤ b.merit)
  let x := { x with badRun := 0 }
  if keep then { x.publish i with best := some i } else x

/-- R168: how a solve stops after an iteration: 0 CONVERGED, 1 MAX_ITER. -/
def stopAfter (p : SlvCfg) (mu : Rat) (i : Iterate) : Option Nat :=
  if !i.sat ∧ i.merit ≤ p.tol ∧ (!p.barrier ∨ mu ≤ p.tol) then some 0 else if p.maxIter ≤ i.index then some 1 else none

/-- R162: the factor of a barrier iteration: rejected, or active at once and counted as a refresh. -/
def State.barrierFactor (s : State) (k : Nat) (p : SlvCfg) : State × Option Factor :=
  let x := s.inst k
  let f := factorise (some s.slvBits.2) (some s.slvBits.2) p.epsPiv p.deltaPiv p.order (barrierMatrix x.qp x)
  if f.saturated then
    ((s.modInst k (fun x => { x with rejected := true })).count (Fld.SLV_FACTc_REJECTED (clsOf k)), none)
  else
    ((s.modInst k (fun x => { x.putOther (some f) with slot := !x.slot })).count (Fld.SLV_FACTc_REFRESHES (clsOf k)), some f)

/-- The end of an iteration: its state carries forward, the iterate is judged with its tasks' own flags, an accepted factor
becomes active; the second value tells whether the solve is to stop. -/
def State.iterEnd (s : State) (k : Nat) (p : SlvCfg) (f : Factor) (own : OwnFlags) (it : Iter) : State × Option Nat :=
  let x := s.inst k
  let i := mkIterate p s.slvBits x.qp (x.iter + 1) { it with sat := it.sat || own.sat } (decide (0 < f.replaced))
    (x.old && !p.barrier) own.domain
  let s := s.modInst k (fun x => { x with
    iter := i.index, x := it.x, z := it.z, y := it.y, lamL := it.lamL, lamU := it.lamU, mu := it.mu })
  let s := if i.sat then
      (s.modInst k (fun x => { x with badRun := x.badRun + 1, inelSeen := true })).count (Fld.SLV_CNTc_INELIGIBLE (clsOf k))
    else s.modInst k (fun x => x.take i)
  (s.slvActivate k, stopAfter p it.mu i)

/-- ITERATION_END (R161 to R168): an iteration of the method in use.  An instance without a factor runs no splitting iteration
(R157); a rejected factor ends a barrier solve with the best iterate so far (R162; STOP reads DEADLINE, log entry 136). -/
def State.iterate (s : State) (k : Nat) (own : OwnFlags) : State × Option Nat :=
  let x := s.inst k
  match s.slvCfg (clsOf k) with
  | none => (s, none)
  | some p =>
    if !x.solving then (s, none)
    else if p.barrier then
      match s.barrierFactor k p with
      | (s, none) => (s, some 2)
      | (s, some f) => s.iterEnd k p f own (barrierStep p s.slvBits x.qp f x)
    else match x.factor with
      | none => (s, none)
      | some f => s.iterEnd k p f own (splitStep p s.slvBits x.qp f x)

/-- SOLVER_RESTART (R166): after 3 consecutive ineligible iterates, at most twice in a solve: from the best eligible iterate, or
from the start point, with y = 0. -/
def State.slvRestart (s : State) (k : Nat) : State :=
  let x := s.inst k
  if x.solving ∧ 3 ≤ x.badRun ∧ x.restarts < 2 then
    let from_ := match x.best with | some i => (i.raw, i.z) | none => (x.x0, [])
    (s.modInst k (fun x =>
      let x := { x.startAt x.qp from_.1 from_.2 [] with badRun := 0, restarts := x.restarts + 1 }
      if s.barrier (clsOf k) then x.inside x.qp else x)).count (Fld.SLV_LASTc_RESTARTS (clsOf k))
  else s

/-- R160, R162: what is incomplete at the stop time is abandoned: a refresh, whose slot is discarded and which starts again at
the next solve, or the barrier iteration in hand. -/
def State.slvAbandon (s : State) (k : Nat) : State :=
  let x := s.inst k
  if x.refresh.isSome ∨ (s.barrier (clsOf k) ∧ x.solving) then
    (s.modInst k (fun x => { x with refresh := none, again := none, need := x.refresh.isSome || x.need, mat := [], abandoned := true })).count
      (Fld.SLV_FACTc_ABANDONED (clsOf k))
  else s

/-! Publication (R168, R175, R176). -/

/-- Table 6-7: the solver status word. -/
def statusWord (x : Inst) (barrier : Bool) (stop : Nat) (stale sat domain : Bool) : Nat :=
  let b := x.best
  let of := fun (f : Iterate → Bool) => match b with | some i => f i | none => false
  stop + flagBit stale 2 + flagBit (of (·.reg)) 3 + flagBit (of (·.sat) || x.dataFlags.1 || sat) 4 +
    flagBit (of (·.domain) || x.dataFlags.2 || domain) 5 +
    flagBit x.inelSeen 6 + flagBit (decide (0 < x.restarts)) 7 + flagBit (of (·.factOld)) 8 + flagBit x.abandoned 9 +
    flagBit x.rejected 10 + flagBit x.boxConf 11 + x.start * 2 ^ 12 + flagBit barrier 14 +
    (if stale then 0 else match b with | some i => i.index % 65536 | none => 0) * 2 ^ 16

/-- The registers of a class at a publication: its status word, and the merit and residuals of what is published, if anything
is. -/
def State.slvPublish (s : State) (k word : Nat) (out : Option (Nat × Nat × Nat)) : State :=
  let c := clsOf k
  let x := s.inst k
  let s := s.wr (Reg.SLV_STATc c) (BitVec.ofNat 32 word)
  let s := match out with
    | some (m, rp, rd) => ((s.wr (Reg.SLV_MERITc c) (BitVec.ofNat 32 m)).set (Fld.SLV_RESc_RP c) rp).set (Fld.SLV_RESc_RD c) rd
    | none => s
  let s := if x.best.isNone then s.count (Fld.SLV_CNTc_STALE c) else s
  let s := s.set (Fld.SLV_REGc_PIV_REPL c) (min 0xFFFF (match x.factor with | some f => f.replaced | none => 0))
  let s := if word / 8 % 2 = 1 then s.count (Fld.SLV_REGc_REG_SOLVES c) else s
  (s.set (Fld.SLV_LASTc_GROUP c) (k - 2)).modInst k (fun x => { x with solving := false })

/-- The published figures of an iterate: RESID and residuals. -/
def Iterate.figures (i : Iterate) : Nat × Nat × Nat := (i.resid, i.rp, i.rd)

/-- Table 6-4: the figures of a previous output under the present data. -/
def staleFigures (p : SlvCfg) (bits : Nat × Nat) (q : Qp) (xh y : List Rat) : Nat × Nat × Nat :=
  let it : Iter := { x := xh, z := [], y := y, lamL := [], lamU := [], mu := 0, sat := false }
  (mkIterate p bits q 0 it false false false).figures

/-- SLV_CTRL.REFRESH (R158, R176): a refresh of every instance of a class at its next solve. -/
def State.slvRefreshClass (s : State) (c : Nat) : State :=
  s.each (if c < 2 then [c] else if c = 2 then (List.range 48).map (· + 2) else []) (fun k s =>
    s.modInst k (fun x => { x with need := true }))

/-- SLV_CTRL.CNT_CLR (R176). -/
def State.slvCntClr (s : State) : State :=
  s.each [0, 1, 2, 3] fun c s =>
    let s := (s.wr (Reg.SLV_FACTc c) 0).set (Fld.SLV_REGc_REG_SOLVES c) 0
    (s.wr (Reg.SLV_CNTc c) 0).set (Fld.SLV_LASTc_RESTARTS c) 0

end Sys2Proof.Machine
end

