-- ==== Sys2Proof/Machine/Alloc.lean ====
section
/-!
DEFINITION. Sys2Proof/Machine/Alloc.lean: thrust allocation and consequence analysis (R123, R124, R177 to R204).
-/
namespace Sys2Proof.Machine

/-! Power and the force box (R123, R124). -/

/-- The CONTROL section. -/
def State.ctlCfg (s : State) : Option CtlCfg := s.cfg.map (·.ctl)

/-- A sum over the declared thrusters that a condition admits. -/
def State.sumThr (s : State) (p : Nat → Bool) (f : Nat → ThrCfg → Rat) : Rat :=
  ((List.range s.thrCount).map (fun i => match s.thrCfg i with
    | some c => if p i then f i c else 0
    | none => 0)).foldl (· + ·) 0

/-- The declared maximum power of a section's thrusters. -/
def State.sectMax (s : State) (p : Nat → Bool) (j : Nat) : Rat := s.sumThr p (fun _ c => if c.section_ = j then c.pMax else 0)

/-- R124: P_avail of a section: reported, or the fallback share of its maximum. -/
def State.pAvail (s : State) (j : Nat) (pmax : Rat) : Rat :=
  let fallback := match s.ctlCfg with | some c => c.pmsFallback * pmax | none => pmax
  match s.ctl.pms with
  | some v => if s.ctl.pmsLost then fallback else (v.getD j 0 : Nat)
  | none => fallback

/-- R123: s_j of every section, from its P_avail. -/
def State.sectionScale (s : State) (p : Nat → Bool) (avail : List Rat) : List Rat :=
  (List.range 8).map fun j =>
    let m := s.sectMax p j
    let a := avail.getD j m
    if m = 0 ∨ m ≤ a then 1 else pow23 s.unitBits (a / m)

/-- The scale of a thruster's section. -/
def scaleOf (sj : List Rat) (c : ThrCfg) : Rat := sj.getD c.section_ 1

/-- R123: the force box of the thrusters that a condition admits, with the section scales given. -/
def State.forceBox (s : State) (p : Nat → Bool) (sj : List Rat) : Rat × Rat × Rat :=
  let cap := match s.ctlCfg with | some c => c.capFrac | none => 1
  let t := fun (c : ThrCfg) => scaleOf sj c * c.tMax
  let x : Rat := s.sumThr p (fun _ c => if c.kind = .tunnel then 0 else t c)
  let y : Rat := s.sumThr p (fun _ c => t c)
  let n : Rat := s.sumThr p (fun _ c => t c * (c.x.natAbs : Nat) / 1000)
  (cap * x, cap * y, cap * n)

/-- R187: the allocation uses the SHARED power model. -/
def State.shared (s : State) : Bool := match s.alcCfg with | some c => c.shared | none => false

/-! Directions and windows (R182, R183). -/

/-- The unit vector of an azimuth in degrees (R72). -/
def unitVec (n : Nat) (deg : Rat) : Rat × Rat := (cosAt n (deg / 360), sinAt n (deg / 360))

/-- The width of a window. -/
def winWidth (w : Rat × Rat) : Rat := normDeg (w.2 - w.1)

/-- An azimuth lies in a window, its edges included. -/
def inWindow (w : Rat × Rat) (th : Rat) : Bool := normDeg (th - w.1) ≤ winWidth w

/-- An azimuth lies inside a sector, its edges excluded. -/
def insideSector (lo hi th : Rat) : Bool := 0 < normDeg (th - lo) && normDeg (th - lo) < normDeg (hi - lo)

/-- R183: an azimuth lies inside a forbidden sector. -/
def forbiddenAt (c : ThrCfg) (th : Rat) : Bool := c.forbidden.any (fun x => insideSector x.1 x.2 th)

/-- R181: the loss factor of the sector that an azimuth lies in. -/
def etaAt (c : ThrCfg) (th : Rat) : Rat := match c.reduced.find? (fun x => insideSector x.1 x.2.1 th) with
  | some x => x.2.2
  | none => 1

/-- An azimuth as an offset from another, in (−180, 180]. -/
def relDeg (th e : Rat) : Rat := if normDeg (e - th) ≤ 180 then normDeg (e - th) else normDeg (e - th) - 360

/-- A window as R182 forms it. -/
structure Window where
  lo : Rat
  hi : Rat
  forbLo : Bool
  forbHi : Bool
deriving DecidableEq, Repr

/-- R182, steps 1 and 2: the window around an azimuth: the grid candidate, cut at every sector edge.  With the azimuth on an
edge, the piece that is not forbidden is taken. -/
def newWindow (c : ThrCfg) (th : Rat) : Window :=
  let h := min c.wsWidth (2 * c.omega * c.slewT) / 2
  let q := (th / h).floor
  let c0 := if th - q * h ≤ h / 2 then q * h else (q + 1) * h
  let forb := ((c.forbidden.map (fun x => [x.1, x.2])).flatten).map (relDeg th)
  let cuts := forb ++ ((c.reduced.map (fun x => [x.1, x.2.1])).flatten).map (relDeg th)
  let lo0 := c0 - h - th
  let hi0 := c0 + h - th
  let up := fun (strict : Bool) => (cuts.filter (fun e => if strict then decide (0 < e) else decide (0 ≤ e))).foldl min hi0
  let dn := fun (strict : Bool) => (cuts.filter (fun e => if strict then decide (e < 0) else decide (e ≤ 0))).foldl max lo0
  let mk := fun (lo hi : Rat) => { lo := th + lo, hi := th + hi, forbLo := forb.contains lo, forbHi := forb.contains hi : Window }
  let right := mk (dn false) (up true)
  if forbiddenAt c ((right.lo + right.hi) / 2) then mk (dn true) (up false) else right

/-- A value that came at an instant is no older than DRV_TIMEOUT. -/
def State.driveFresh (s : State) (c : ThrCfg) (at_ : Option Nat) : Bool := match at_ with
  | some t => decide (s.now ≤ t + c.drvTimeoutNs)
  | none => false

/-- R183: θ_a in degrees: the azimuth loop's feedback, otherwise the drive's, each while it is no older than DRV_TIMEOUT;
otherwise the azimuth last commanded, with AZ_NOFB. -/
def State.thetaOf (s : State) (i : Nat) (c : ThrCfg) : Rat × Bool :=
  let last := ((s.thr i).az : Rat) * 360 / 65536
  let drive := match (s.thr i).fb with
    | some (_, az, st) => if st.getLsbD 3 && s.driveFresh c (s.thr i).fbAt then ((az : Rat) * 360 / 65536, false) else (last, true)
    | none => (last, true)
  match c.azLoop with
  | some n =>
    if s.driveFresh c (s.loop n).fbAt then (((s.rd (Reg.SRVn_FB n)).toNat : Rat) * 360 / 2 ^ 32, false) else drive
  | none => drive

/-- The force of a thruster from its variables (R177, R193). -/
def thrForce (n : Nat) (c : ThrCfg) (win : Rat × Rat) (v : List Rat) : Rat × Rat :=
  if c.kind = .tunnel then (0, v.getD 0 0)
  else
    let e1 := unitVec n win.1
    let e2 := unitVec n win.2
    (v.getD 0 0 * e1.1 + v.getD 1 0 * e2.1, v.getD 0 0 * e1.2 + v.getD 1 0 * e2.2)

/-- R182: a force in the edges of a window, negative components set to 0. -/
def forceVars (n : Nat) (c : ThrCfg) (win : Rat × Rat) (f : Rat × Rat) : List Rat :=
  if c.kind = .tunnel then [f.2]
  else
    let e1 := unitVec n win.1
    let e2 := unitVec n win.2
    let d := e1.1 * e2.2 - e1.2 * e2.1
    [max 0 ((f.1 * e2.2 - f.2 * e2.1) / d), max 0 ((f.2 * e1.1 - f.1 * e1.2) / d)]

/-- The delivered force of a commanded or reported thrust. -/
def State.reportedVars (s : State) (i : Nat) (c : ThrCfg) (thrust : Int) (az : Nat) : List Rat :=
  let t := s.thr i
  let f : Rat := (thrust : Rat) * t.eta
  let e := unitVec s.unitBits ((az : Rat) * 360 / 65536)
  forceVars s.unitBits c t.win (if c.kind = .tunnel then (0, f) else (f * e.1, f * e.2))

/-- Two windows have the same edges. -/
def sameWindow (a b : Rat × Rat) : Bool := decide (normDeg a.1 = normDeg b.1 ∧ normDeg a.2 = normDeg b.2)

/-- R182, R183: a unit's window at a frame start. -/
def State.chooseWindow (s : State) (i : Nat) (c : ThrCfg) : State :=
  if c.kind = .tunnel then s.modThr i (fun t => { t with winChanged := false, inForb := false, noFb := false })
  else
    let (th, noFb) := s.thetaOf i c
    let t := s.thr i
    let s := s.modThr i (fun t => { t with theta := th, noFb := noFb, winChanged := false, inForb := forbiddenAt c th })
    if forbiddenAt c th then s
    else
      let near := fun (e : Rat) (forb : Bool) => !forb && decide (|relDeg th e| ≤ c.wsHyst)
      if t.win.1 ≠ t.win.2 ∧ inWindow t.win th ∧ ¬ near t.win.1 t.forbLo ∧ ¬ near t.win.2 t.forbHi then s
      else
        let w := newWindow c th
        if sameWindow (w.lo, w.hi) t.win then s
        else s.modThr i (fun t => { t with
          win := (w.lo, w.hi), forbLo := w.forbLo, forbHi := w.forbHi, eta := etaAt c ((w.lo + w.hi) / 2), winChanged := true
          vars := forceVars s.unitBits c (w.lo, w.hi) (thrForce s.unitBits c t.win t.vars) })

/-! Bounds (R184 to R188).  A frame's problem is that of the fleet fixed at its start (R190, R192). -/

/-- The frame length in seconds. -/
def State.frameS (s : State) : Rat := (s.frameNs : Rat) / 1000000000

/-- R184: T_i′, the limit on delivered force. -/
def State.thrLimit (s : State) (i : Nat) (c : ThrCfg) : Rat :=
  (if s.shared then 1 else scaleOf s.alc.sj c) * c.tMax * (s.thr i).eta

/-- R184, R186: the box of each variable of a thruster. -/
def State.thrBox (s : State) (i : Nat) (c : ThrCfg) : Rat × Rat :=
  let t := s.thr i
  let k := if s.shared then 1 else scaleOf s.alc.sj c
  if !t.present ∨ t.inForb then (0, 0)
  else if c.kind = .tunnel then (-(t.eta * k * c.tRev), t.eta * k * c.tMax)
  else (0, s.thrLimit i c)

/-- R185: the rate and slew bound's half-width. -/
def State.thrDelta (s : State) (i : Nat) (c : ThrCfg) : Rat :=
  if c.kind = .tunnel then c.tDot * s.frameS
  else
    let w := max 30 (winWidth (s.thr i).win)
    (c.tDot + c.omega * twoPi / 360 * s.thrLimit i c) * s.frameS / sinAt s.unitBits (w / 360)

/-- R170, R186: a rate bound intersected with the box, moved just far enough to meet it; the third value tells a conflict. -/
def meet (lo hi prev d : Rat) : Rat × Rat × Bool :=
  if prev + d < lo then (lo, lo, true)
  else if hi < prev - d then (hi, hi, true)
  else (max lo (prev - d), min hi (prev + d), false)

/-- The bounds of a thruster's force variables, with the rate bound or without (R198). -/
def State.thrBounds (s : State) (rate : Bool) (i : Nat) (c : ThrCfg) : List (Rat × Rat × Bool) :=
  let b := s.thrBox i c
  let t := s.thr i
  let n := if c.kind = .tunnel then 1 else 2
  (List.range n).map fun k =>
    if !rate ∨ !t.present then (b.1, b.2, false)
    else meet b.1 b.2 (t.vars.getD k 0) (s.thrDelta i c)

/-- η_w: the loss factor that enters the matrix; 1 for a tunnel (R179). -/
def etaW (c : ThrCfg) (t : ThrSt) : Rat := if c.kind = .tunnel then 1 else t.eta

/-- R187: k_i, power for delivered force, kW/N. -/
def powerSlope (c : ThrCfg) (t : ThrSt) : Rat := (c.pMax : Rat) / (etaW c t * c.tMax)

/-- R187: the power that a thruster's bounds force, kW. -/
def forcedPower (c : ThrCfg) (t : ThrSt) (b : List (Rat × Rat × Bool)) : Rat :=
  powerSlope c t * (b.map (fun x => max (max 0 x.1) (-x.2.1))).foldl (· + ·) 0

/-- R187: bounds of a section whose power row is exceeded, moved toward zero. -/
def easeBounds (r : Rat) (b : List (Rat × Rat × Bool)) : List (Rat × Rat × Bool) :=
  b.map (fun x => (if 0 < x.1 then x.1 * r else x.1, if x.2.1 < 0 then x.2.1 * r else x.2.1, true))

/-- R187: the limit of a section's power row. -/
def State.powerLimit (s : State) (j : Nat) : Rat :=
  (match s.alcCfg with | some a => 1 - a.powerMargin | none => 1) * s.alc.pAvail.getD j 0

/-- The thrusters of the section, with their numbers and states. -/
def State.fleet (s : State) : List (Nat × ThrCfg × ThrSt) :=
  (List.range s.thrCount).filterMap (fun i => (s.thrCfg i).map (fun c => (i, c, s.thr i)))

/-- R186, R187: the bounds of every thruster's force variables: a group's removed thrusters at zero (R198), a section's rate
bounds eased to its power row. -/
def State.fleetBounds (s : State) (rate : Bool) (gone : Nat → Bool) : List (List (Rat × Rat × Bool)) :=
  let raw := s.fleet.map (fun (i, c, t) =>
    (c, t, if gone i then (s.thrBounds false i c).map (fun _ => (0, 0, false)) else s.thrBounds rate i c))
  let forced := fun (j : Nat) => (raw.map (fun (c, t, b) => if c.section_ = j then forcedPower c t b else 0)).foldl (· + ·) 0
  raw.map (fun (c, _, b) =>
    let f := forced c.section_
    let lim := s.powerLimit c.section_
    if s.shared ∧ rate ∧ lim < f then easeBounds (lim / f) b else b)

/-! The problem (R187 to R189). -/

/-- How many variables a thruster has (R177). -/
def numVars (shared : Bool) (c : ThrCfg) : Nat := (if c.kind = .tunnel then 1 else 2) + shared.toNat

/-- The first variable of each thruster, and of the slacks. -/
def varBases (shared : Bool) : List ThrCfg → Nat → List Nat
  | [], k => [k]
  | c :: cs, k => k :: varBases shared cs (k + numVars shared c)

/-- The directions of a thruster's force variables. -/
def thrDirs (n : Nat) (c : ThrCfg) (t : ThrSt) : List (Rat × Rat) :=
  if c.kind = .tunnel then [(0, 1)] else [unitVec n t.win.1, unitVec n t.win.2]

/-- R188: the demand rows B x + s = τ_d. -/
def demandRows (n : Nat) (fl : List (Nat × ThrCfg × ThrSt)) (bases : List Nat) (slack : Nat) (dem : Rat × Rat × Rat) :
    List (Vec × Option Rat × Option Rat) :=
  let cols := (fl.zip bases).flatMap (fun ((_, c, t), b) => (thrDirs n c t).zipIdx.map (fun (e, k) => (b + k, e, c)))
  let row := fun (f : (Rat × Rat) → ThrCfg → Rat) (k : Nat) =>
    (cols.filterMap (fun (i, e, c) => if f e c = 0 then none else some (i, f e c))) ++ [(slack + k, (1 : Rat))]
  [(row (fun e _ => e.1) 0, some dem.1, some dem.1),
   (row (fun e _ => e.2) 1, some dem.2.1, some dem.2.1),
   (row (fun e c => ((c.x : Rat) * e.2 - (c.y : Rat) * e.1) / 1000) 2, some dem.2.2, some dem.2.2)]

/-- R178, R184: the chord rows of a unit: one for each 20° arc of its window; the rows of the widest window that the present one
does not take stand empty. -/
def chordRows (n : Nat) (c : ThrCfg) (t : ThrSt) (b : Nat) (limit : Rat) : List (Vec × Option Rat × Option Rat) :=
  if c.kind = .tunnel then []
  else
    let w := winWidth t.win
    let arcs := (w / 20).ceil.toNat
    let d := w / arcs
    let e1 := unitVec n t.win.1
    let e2 := unitVec n t.win.2
    (List.range (min c.wsWidth (2 * c.omega * c.slewT) / 20).ceil.toNat).map fun k =>
      if arcs ≤ k then ([], none, none)
      else
        let m := unitVec n (t.win.1 + d * ((k : Rat) + 1 / 2))
        (vecFrom b [m.1 * e1.1 + m.2 * e1.2, m.1 * e2.1 + m.2 * e2.2], none, some (limit * cosAt n (d / 720)))

/-- R187: the magnitude rows of a thruster under SHARED. -/
def magnitudeRows (c : ThrCfg) (b : Nat) : List (Vec × Option Rat × Option Rat) :=
  if c.kind = .tunnel then [(vecFrom b [-1, 1], some 0, none), (vecFrom b [1, 1], some 0, none)]
  else [(vecFrom b [-1, -1, 1], some 0, none)]

/-- R189: the gram matrix of a unit's edges, |F|² = vᵀ G v. -/
def edgeGram (n : Nat) (c : ThrCfg) (t : ThrSt) : List (List Rat) :=
  if c.kind = .tunnel then [[1]] else let k := cosAt n (winWidth t.win / 360); [[1, k], [k, 1]]

/-- R189: W_T,i and W_Δ,i. -/
def costWeights (a : AlcCfg) (c : ThrCfg) (t : ThrSt) : Rat × Rat :=
  let wt := c.wT.getD (1 / (etaW c t * etaW c t * (c.tMax : Rat) * c.tMax))
  (wt, c.smooth.getD a.smooth * wt)

/-- R189: the cost of the force variables: P (twice the weights) and q (from the previous delivered force). -/
def forceCost (n : Nat) (a : AlcCfg) (c : ThrCfg) (t : ThrSt) (b : Nat) : List Vec × Vec :=
  let (wt, wd) := costWeights a c t
  let g := matOf (edgeGram n c t)
  let prev := vecFrom 0 t.vars
  (g.map (fun r => r.map (fun e => (e.1 + b, 2 * (wt + wd) * e.2))),
   (vecScale (-2 * wd) (matVec g prev)).map (fun e => (e.1 + b, e.2)))

/-- R188: a slack lies between 0 and its demand. -/
def slackBounds (d : Rat) : Rat × Rat := (min 0 d, max 0 d)

/-- The sign of a demand. -/
def signOf (d : Rat) : Rat := if 0 < d then 1 else if d < 0 then -1 else 0

/-- R186 to R189: the allocation problem of a demand, with a group's thrusters removed or none. -/
def State.alcQp (s : State) (a : AlcCfg) (rate : Bool) (gone : Nat → Bool) (dem : Rat × Rat × Rat) : Qp × Bool :=
  let n := s.unitBits
  let fl := s.fleet
  let cs := fl.map (·.2.1)
  let bases := varBases s.shared cs 0
  let slack := bases.getLastD 0
  let bs := s.fleetBounds rate gone
  let costs := (fl.zip bases).map (fun ((_, c, t), b) => forceCost n a c t b)
  let pRow := fun (l : List Vec) => l ++ (if s.shared then [[]] else [])
  let power := if s.shared then (List.range 8).map (fun j =>
      ((fl.zip bases).filterMap (fun ((_, c, t), b) =>
        if c.section_ = j then some (b + numVars true c - 1, powerSlope c t) else none), none, some (s.powerLimit j))) else []
  let sl := [slackBounds dem.1, slackBounds dem.2.1, slackBounds dem.2.2]
  ({ n := slack + 3
     p := costs.flatMap (fun x => pRow x.1) ++ [[], [], []]
     q := costs.flatMap (fun x => x.2)
     rows := demandRows n fl bases slack dem ++
       (fl.zip bases).flatMap (fun ((i, c, t), b) => chordRows n c t b (s.thrLimit i c)) ++
       (if s.shared then (fl.zip bases).flatMap (fun ((_, c, _), b) => magnitudeRows c b) else []) ++ power
     box := ((fl.zip bases).zip bs).flatMap (fun (((_, c, _), b), l) =>
         l.zipIdx.map (fun (x, k) => (b + k, x.1, x.2.1)) ++
           (if s.shared then [(b + numVars true c - 1, 0, (c.tMax : Rat))] else [])) ++
       sl.zipIdx.map (fun (x, k) => (slack + k, x.1, x.2)) },
   bs.any (fun l => l.any (·.2.2)))

/-- The values of every variable from the thrusters' force variables: magnitudes at their least, and slacks. -/
def State.joinVars (s : State) (vs : List (List Rat)) (slack : List Rat) : List Rat :=
  (s.fleet.zip vs).flatMap (fun ((_, _, _), v) => v ++ (if s.shared then [(v.map (|·|)).foldl (· + ·) 0] else [])) ++ slack

/-- Table 6-5: the forces of a COLD start: the drives' reported actual thrust and azimuth, the last emitted command where a
drive reports none. -/
def State.reportedAll (s : State) : List (List Rat) := s.fleet.map (fun (i, c, t) => match t.fb with
  | some (th, az, st) => s.reportedVars i c (if st.getLsbD 4 then th else t.thrust) (if st.getLsbD 3 then az else t.az)
  | none => s.reportedVars i c t.thrust t.az)

/-- SAT and DOMAIN of the data of a solve: the epoch's, and those of the plan in use (R76, R175). -/
def State.dataFlags (s : State) (plan : Bool) : Bool × Bool :=
  let e := match s.fus.epoch with | some e => e.status | none => 0
  let p := match s.ctl.plan with | some p => if plan then p.flags else 0 | none => 0
  (decide (e / 2 ^ 15 % 2 = 1 ∨ p / 4 % 2 = 1), decide (e / 2 ^ 17 % 2 = 1 ∨ p / 8 % 2 = 1))

/-- The allocation problem of a demand as its solve takes it; a PRIMAL_WARM or COLD start of a group is the present allocation
with the group's thrusters at zero (Table 6-5). -/
def State.alcProblem (s : State) (a : AlcCfg) (group : Option (Nat → Bool)) (dem : Rat × Rat × Rat) : Problem :=
  let (q, conf) := s.alcQp a group.isNone (group.getD (fun _ => false)) dem
  let now := s.fleet.map (fun (i, _, t) => if (group.getD (fun _ => false)) i then t.vars.map (fun _ => 0) else t.vars)
  let k := q.n - 3
  { qp := q
    dem := dem
    conf := conf
    flags := s.dataFlags group.isNone
    unitP := [(k, a.wS / 128), (k + 1, a.wS / 128), (k + 2, a.wS / 128)]
    unitQ := [(k, a.wS * signOf dem.1), (k + 1, a.wS * signOf dem.2.1), (k + 2, a.wS * signOf dem.2.2)]
    warm := warmPlain
    primal := s.joinVars now [0, 0, 0]
    cold := s.joinVars (if group.isSome then now else s.reportedAll) [0, 0, 0] }

/-! Forming the problem (R190 to R192). -/

/-- R202: marks of every group at a fleet change, and the restart of the round. -/
def State.cqMarkOld (s : State) : State :=
  let n := match s.alcCfg with | some c => c.groups.length | none => 0
  let s := s.each (List.range n) (fun g s => s.set (Fld.CQA_GRPg_FLEET_OLD g) 1)
  { s with alc := { s.alc with nextGroup := 0, running := [] } }

/-- R201: the overall consequence status. -/
def State.cqOverall (s : State) : State :=
  let n := match s.alcCfg with | some c => c.groups.length | none => 0
  let open_ := (List.range n).any (fun g =>
    s.get (Fld.CQA_GRPg_NEVER g) = 1 || s.get (Fld.CQA_GRPg_FLEET_OLD g) = 1 || s.get (Fld.CQA_GRPg_STALE g) = 1)
  let worst := (List.range n).foldl (fun m g => max m (s.get (Fld.CQA_GRPg_STATUS g))) 0
  let first := ((List.range n).find? (fun g => s.get (Fld.CQA_GRPg_STATUS g) = worst)).getD 0
  ((s.set Fld.CQA_STAT_STATUS (max worst open_.toNat)).set Fld.CQA_STAT_WORST first).setBit Fld.CQA_STAT_INCOMPLETE open_

/-- R202: the present thrusters and the accepted references. -/
def State.fleetNow (s : State) : Nat :=
  ((List.range s.thrCount).map (fun i => flagBit (s.thr i).present i)).foldl (· + ·) 0 +
    (s.acceptedRefs.map (fun k => 2 ^ (32 + k))).foldl (· + ·) 0

/-- R191: a loop that a thruster needs and that is not closed removes it, from its start on. -/
def State.loopCheck (s : State) (i : Nat) : State := match s.thrCfg i with
  | none => s
  | some c =>
    let bad : Bool := (List.range 64).any (fun n => decide (c.azLoop = some n ∨ c.pitchLoop = some n) && decide (s.loopState n ≠ 1))
    if bad && !((s.thr i).reasons.getLsbD 4) then s.thrRemove i 4 false else s

/-- R158: a refresh of ALLOC where the weights or the sector rows differ from those of the latest one. -/
def State.alcRefresh (s : State) : State := match s.alcCfg, s.slvCfg 1 with
  | some a, some p =>
    let m := kktMatrix p ((s.alcProblem a none (0, 0, 0)).scaled p)
    if m = (s.inst 1).mat then s else s.slvTrigger 1 m
  | _, _ => s

/-- R190, steps 1 and 2, and R202, at a frame start of the commanding part: the fleet, θ_a, windows, P_avail, s_j and the refresh
are fixed for the frame. -/
def State.alcFrame (s : State) : State :=
  let is := List.range s.thrCount
  let s := s.each is (fun i s => ((s.loopCheck i).alcEnableLatch i).thrReadmit i)
  let s := s.each is fun i s => match s.thrCfg i with
    | none => s
    | some c =>
      let was := (s.thr i).present
      let s := (s.modThr i (fun t => { t with present := !t.removed })).chooseWindow i c
      if !was ∧ (s.thr i).present then s.modThr i (fun t => { t with vars := s.reportedVars i c t.thrust t.az }) else s
  let here := fun i => (s.thr i).present
  let avail := (List.range 8).map (fun j => s.pAvail j (s.sectMax here j))
  let s := { s with alc := { s.alc with pAvail := avail, sj := s.sectionScale here avail } }
  let changed : Bool := is.any (fun i => (s.thr i).winChanged)
  let s : State := if changed then s.count Fld.ALC_CNT_WINCHG else s
  let s := s.alcRefresh
  if changed || s.fleetNow != s.alc.fleetMask then
    let s := { s with alc := { s.alc with fleetMask := s.fleetNow } }
    (s.countWrap Fld.CQA_FLEET_GEN).cqMarkOld.cqOverall
  else s

/-- R180: the hull loss of each tunnel at a surge speed in µm/s. -/
def State.tunnelEta (s : State) (u : Int) : State :=
  s.each (List.range s.thrCount) fun i s => match s.thrCfg i with
    | some c =>
      if c.kind = .tunnel then
        let e := if c.etaTable = [] then 1 else (interpTable c.etaTable ((u.natAbs : Rat) / 1000000)).1
        s.modThr i (fun t => { t with eta := e })
      else s
    | none => s

/-- R190, steps 3 and 4: the problem is formed and frozen, and the ALLOC solve starts. -/
def State.alcStart (s : State) (dem : Rat × Rat × Rat) (u : Int) : State := match s.alcCfg with
  | none => s
  | some a =>
    let s := s.tunnelEta u
    s.slvStart 1 (s.alcProblem a none dem)

/-! From solution to drive (R193 to R195). -/

/-- The force variables of each thruster, its magnitudes under SHARED, and the slacks. -/
def splitVars (shared : Bool) : List ThrCfg → List Rat → List (List Rat) × List Rat × List Rat
  | [], x => ([], [], x)
  | c :: cs, x =>
    let n := if c.kind = .tunnel then 1 else 2
    let (r, m, t) := splitVars shared cs (x.drop (n + shared.toNat))
    (x.take n :: r, x.getD n 0 :: m, t)

/-- R193: the magnitude of a force, in the format of the thruster's thrust in kN. -/
def State.magnitude (s : State) (c : ThrCfg) (f : Rat × Rat) : Rat :=
  let q := match s.cfg with | some g => g.ctl.qhead | none => 1
  1000 * sqrtAt (fracBits q ((c.tMax : Rat) / 1000)) ((f.1 * f.1 + f.2 * f.2) / 1000000)

/-- R193: a thruster's command from its delivered force. -/
def State.convert (s : State) (i : Nat) (c : ThrCfg) (v : List Rat) : State :=
  let t := s.thr i
  let k := if s.shared then 1 else scaleOf s.alc.sj c
  let f := thrForce s.unitBits c t.win v
  let raw := if c.kind = .tunnel then f.2 / t.eta else s.magnitude c f / t.eta
  let lo : Rat := if c.kind = .tunnel then -(k * c.tRev) else 0
  let thrust := clampRat lo (k * c.tMax) raw
  let hold := decide (thrust < c.azMinT * c.tMax) || t.removed || !t.present || t.inForb
  let az := if c.kind = .tunnel then 0
    else if hold then t.az else (roundRat (angleAt f.1 f.2 * 65536)).toNat % 65536
  let (drive, out) := driveOf c thrust
  s.modThr i (fun t => { t with
    vars := v, thrust := roundRat thrust, az := az, drive := drive, domain := out
    azHold := c.kind ≠ .tunnel && hold
    clipped := decide ((c.tMax : Rat) / 65536 < |raw - thrust|) })

/-- R193: every thruster's command. -/
def State.convertAll (s : State) (vs : List (List Rat)) : State :=
  s.each vs.zipIdx fun (v, i) s => match s.thrCfg i with
    | some c => s.convert i c v
    | none => s

/-- R175: a drive command does not fit its field. -/
def State.convertSat (s : State) : Bool := (List.range s.thrCount).any (fun i =>
  decide ((s.thr i).drive < -32768 ∨ 32767 < (s.thr i).drive))

/-- B x: the force and moment that the thrusters' variables deliver. -/
def State.delivered (s : State) (vs : List (List Rat)) : Rat × Rat × Rat :=
  vs.zipIdx.foldl (fun (a : Rat × Rat × Rat) (v, i) => match s.thrCfg i with
    | some c =>
      let f := thrForce s.unitBits c (s.thr i).win v
      (a.1 + f.1, a.2.1 + f.2, a.2.2 + ((c.x : Rat) * f.2 - (c.y : Rat) * f.1) / 1000)
    | none => a) (0, 0, 0)

/-- A triple rounded. -/
def roundTriple (x : Rat × Rat × Rat) : Int × Int × Int := (roundRat x.1, roundRat x.2.1, roundRat x.2.2)

/-- R195: a SHARED power row is active: the magnitudes use its whole limit. -/
def State.powerRowActive (s : State) (mags : List Rat) : Bool :=
  s.shared && (List.range 8).any (fun j =>
    let used := ((s.fleet.zip mags).map (fun ((_, c, t), m) => if c.section_ = j then powerSlope c t * m else 0)).foldl (· + ·) 0
    decide (0 < used ∧ s.powerLimit j ≤ used))

/-- Table 7-6: the allocation flags word. -/
def State.alcFlags (s : State) (slack : Int × Int × Int) (mags : List Rat) : Nat :=
  let tol := match s.alcCfg with | some a => a.shortTol | none => 0
  let short := fun (x : Int) (b : Rat) => decide (tol * b < (x.natAbs : Nat))
  let any := fun (f : ThrSt → Bool) => (List.range s.thrCount).any (fun i => f (s.thr i))
  let removed := ((List.range s.thrCount).filter (fun i => (s.thr i).removed || !(s.thr i).present)).length
  flagBit (short slack.1 s.ctl.box.1) 0 + flagBit (short slack.2.1 s.ctl.box.2.1) 1 + flagBit (short slack.2.2 s.ctl.box.2.2) 2 +
    flagBit (s.alc.sj.any (fun x => decide (x < 1)) || s.powerRowActive mags) 3 + flagBit (any (·.winChanged)) 4 +
    flagBit (decide (0 < removed)) 5 + flagBit (any (·.inForb)) 6 + flagBit (any (·.noFb)) 7 +
    flagBit (any (fun t => t.clipped && !t.removed)) 8 +
    flagBit (s.ctl.pmsLost || s.ctl.pms.isNone) 9 + flagBit (any (·.domain)) 10 + removed * 2 ^ 16

/-- The elements of every thruster, in declaration order (R194). -/
def State.elements (s : State) (stale : Bool) : List (List Byte) :=
  (List.range s.thrCount).map (fun i => match s.thrCfg i with
    | some c => elementBytes c (s.thr i) stale
    | none => [])

/-- R204: ALC_STAT, ALC_REMOVED and ALC_THRi, updated together. -/
def State.alcRegs (s : State) (flags : Nat) : State :=
  let s := s.wr Reg.ALC_STAT (BitVec.ofNat 32 flags)
  let gone := fun i => (s.thr i).removed || !(s.thr i).present
  let s := s.wr Reg.ALC_REMOVED (BitVec.ofNat 32 (((List.range s.thrCount).map (fun i => flagBit (gone i) i)).foldl (· + ·) 0))
  let s := if flags % 8 ≠ 0 then s.count Fld.ALC_CNT_SHORT else s
  s.each (List.range s.thrCount) fun i s =>
    let t := s.thr i
    let deg := fun (x : Rat) => (normDeg x).floor.toNat
    s.wr (Reg.ALC_THRi i) (BitVec.ofNat 32 (deg t.win.1 + deg t.win.2 * 2 ^ 9 + t.reason * 2 ^ 18 + flagBit (!gone i) 22 +
      flagBit t.inForb 23 + flagBit t.noFb 24 + flagBit t.azHold 25 + flagBit t.clipped 26))

/-- Every thruster's element goes to its channel (R194), where it waits for the emission. -/
def State.sendElements (s : State) (stale : Bool) : State :=
  s.each (s.elements stale).zipIdx fun (b, i) s => match s.chan 5 i with
    | some c => if c.state = .live then s.portOutput c s.frame.count (crc16 b) b else s
    | none => s

/-- A 32-bit field of a record. -/
def i32 (x : Int) : List Byte := le32 (satInt32 x)

/-- Tables 7-4 and 7-5: the allocation record. -/
def State.alcBytes (s : State) (word resid flags : Nat) (slack dem : Int × Int × Int) (stale : Bool) : List Byte :=
  leBytes 4 s.frame.count ++ leBytes 4 word ++ leBytes 4 resid ++ leBytes 4 flags ++ i32 slack.1 ++ i32 slack.2.1 ++
    i32 slack.2.2 ++ i32 dem.1 ++ i32 dem.2.1 ++ i32 dem.2.2 ++ (s.elements stale).flatten

/-- R194, Table 7-4: the allocation is published: its record, the elements on the thruster channels, and the registers. -/
def State.alcRecord (s : State) (word resid : Nat) (stale : Bool) (slack dem : Int × Int × Int) (mags : List Rat) : State :=
  let flags := s.alcFlags slack mags
  let s := { s with alc := { s.alc with slack := slack, demand := dem, published := true, stale := stale } }
  let s := s.alcRegs flags
  let rec_ := s.alcBytes word resid flags slack dem stale
  let s := { s with alc := { s.alc with record := rec_ } }
  let s := match s.alcCfg with
    | some a => s.publishOn a.channel s.frame.count rec_
    | none => s
  s.sendElements stale

/-- R169: with no eligible iterate, the previous output; with none, the drives' reported values, or a thruster's safe value. -/
def State.staleVars (s : State) : List (List Rat) := s.fleet.map (fun (i, c, t) =>
  if s.alc.published then t.vars
  else match t.fb with
    | some (th, az, st) => s.reportedVars i c (if st.getLsbD 4 then th else c.safeThrust) (if st.getLsbD 3 then az else c.safeAz)
    | none => s.reportedVars i c c.safeThrust c.safeAz)

/-- The slacks of a published iterate in physical units; zero with none. -/
def Inst.slacks (x : Inst) : List Rat := match x.published with
  | some i => (x.qp.physical i.x).drop (x.qp.n - 3)
  | none => [0, 0, 0]

/-- R125: FORCE_LIMITED is set where the demand exceeds what remains: a slack of the published result. -/
def State.forceShort (s : State) (sl : Rat × Rat × Rat) : State :=
  if sl = (0, 0, 0) then s else { s with ctl := { s.ctl with forceLimited := true } }

/-- One condition of the slack monitor: its bit, its count and its event, the event once per class per frame. -/
def State.slackEvent (s : State) (bit code task : Nat) (slack : Int) : State :=
  let s := s.set ⟨Reg.SLK_STAT, bit, 1⟩ 1
  if s.fab.slackRaised.getLsbD bit then s
  else
    let s : State := { s with fab := { s.fab with slackRaised := s.fab.slackRaised ||| BitVec.ofNat 4 (2 ^ bit) } }
    s.raise code (s.handleOf 14 task) (le32 (s.rd Reg.SLK_STAT) ++ leBytes 4 task ++ le32 (satInt32 slack))

/-- R27, R47: the slack monitor raises its deadline event for a missed deadline of frame-bound work, with the task of the
publication and the slack at that moment (log entry 109). -/
def State.deadlineMiss (s : State) (task deadline : Nat) : State :=
  if s.get Fld.SLK_CTRL_EN = 0 then s else s.slackEvent 2 0x2002 task ((deadline : Int) - s.now)

/-- ALLOC_PUBLISH (R27, R168, R169, R193, R194): the solve of the frame stops and its result is published. -/
def State.alcPublish (s : State) (stop : Nat) : State := match s.alcCfg, s.slvCfg 1 with
  | some a, some p =>
    let x := s.inst 1
    let put := fun (s : State) (v : List Rat) (stop : Nat) (stale : Bool) (fig : Nat × Nat × Nat) =>
      let (vs, mags, sl) := splitVars s.shared a.thr v
      let s := s.convertAll vs
      let dom := (List.range s.thrCount).any (fun k => (s.thr k).domain)
      let w := statusWord x (s.barrier 1) stop stale s.convertSat dom
      let s := s.slvPublish 1 w (some fig)
      let s := s.forceShort (sl.getD 0 0, sl.getD 1 0, sl.getD 2 0)
      s.alcRecord w fig.1 stale (roundTriple (sl.getD 0 0, sl.getD 1 0, sl.getD 2 0)) (roundTriple x.dem) mags
    match x.best with
    | some i => put s (x.qp.physical i.x) stop false i.figures
    | none =>
      let v := x.qp.project (x.qp.toUnits (s.joinVars s.staleVars x.slacks))
      let s := s.deadlineMiss a.channel (s.frame.start + 2 * s.frameNs / 5)
      put s (x.qp.physical v) 3 true (staleFigures p s.slvBits x.qp v (match x.published with | some i => i.y | none => []))
  | _, _ => s

/-! Consequence analysis (R196 to R202). -/

/-- R114: the latest epoch is VALID. -/
def State.epochValid (s : State) : Bool := match s.fus.epoch with
  | some e => e.status / 4 % 2 = 1
  | none => false

/-- A local vector in the body frame at a heading in 2⁻³² turn. -/
def toBody (n : Nat) (psi : Int) (x y : Rat) : Rat × Rat :=
  let a : Rat := (psi : Rat) / 2 ^ 32
  (x * cosAt n a + y * sinAt n a, y * cosAt n a - x * sinAt n a)

/-- A body vector in the local frame. -/
def toLocal (n : Nat) (psi : Int) (x y : Rat) : Rat × Rat :=
  let a : Rat := (psi : Rat) / 2 ^ 32
  (x * cosAt n a - y * sinAt n a, x * sinAt n a + y * cosAt n a)

/-- R145: the tension of a line, N: the outer feedback of its winch loop, or nothing while its chain does not run. -/
def State.lineTension (s : State) (l : LineCfg) : Option Rat :=
  if s.get (Fld.CHn_STAT_STATE l.chain) = 2 then some ((s.rd (Reg.SRVn_OFB l.loop)).toInt : Rat) else none

/-- R145: the line force and moment in the body frame. -/
def State.lineForce (s : State) (e : Epoch) : Rat × Rat × Rat :=
  let ls := match s.ctlCfg with | some c => c.lines | none => []
  ls.foldl (fun (a : Rat × Rat × Rat) l => match s.lineTension l with
    | none => a
    | some t =>
      let d := toBody s.unitBits e.psi ((l.an : Rat) - e.n) ((l.ae : Rat) - e.e)
      let x := d.1 - l.fx
      let y := d.2 - l.fy
      let r := sqrtAt 21 (x * x + y * y)
      let fx := t * x / r
      let fy := t * y / r
      (a.1 + fx, a.2.1 + fy, a.2.2 + ((l.fx : Rat) * fy - (l.fy : Rat) * fx) / 1000)) (0, 0, 0)

/-- R197: τ_c, the force and moment that balance the environment of the latest epoch. -/
def State.tauC (s : State) : Rat × Rat × Rat := match s.fus.epoch with
  | none => (0, 0, 0)
  | some e =>
    let b := toBody s.unitBits e.psi e.bn e.be
    let l := if s.get Fld.CTL_MODESTAT_MODE = 9 then s.lineForce e else (0, 0, 0)
    (-(b.1 + e.wind.1 + l.1), -(b.2 + e.wind.2.1 + l.2.1), -(e.bpsi + e.wind.2.2 + l.2.2))

/-- R196: the thrusters that a group removes. -/
def State.groupGone (s : State) (g : GroupCfg) (i : Nat) : Bool :=
  g.thr.getLsbD i || (match s.thrCfg i with | some c => g.sect.getLsbD c.section_ | none => false)

/-- CONSEQ_GROUP_RELEASE (R202): the next group in index order starts its solve. -/
def State.cqRelease (s : State) : State := match s.alcCfg with
  | none => s
  | some a =>
    if ¬ s.ownFrame ∨ ¬ s.epochValid ∨ a.groups.length = 0 then s
    else
      let g := s.alc.nextGroup % a.groups.length
      if (s.inst (2 + g)).solving then s
      else match a.groups[g]? with
        | none => s
        | some gc =>
          let t := s.tauC
          let dem := (a.cqScale * t.1, a.cqScale * t.2.1, a.cqScale * t.2.2)
          let s := { s with alc := { s.alc with
            nextGroup := (g + 1) % a.groups.length, running := s.alc.running.filter (· ≠ g) ++ [g], tau := t } }
          s.slvStart (2 + g) (s.alcProblem a (some (s.groupGone gc)) dem)

/-- R200: a group that removes sources leaves too few references or no heading source. -/
def State.refLost (s : State) (g : GroupCfg) : Bool :=
  let refMin := match s.fusCfg with | some c => c.refMin | none => 0
  let refs := (s.acceptedRefs.filter (fun k => !g.refs.getLsbD k)).length
  let hdgs := ((List.range 4).filter (fun k => decide ((s.src (16 + k)).pub = 1) && !g.hdg.getLsbD k)).length
  decide ((g.refs ≠ 0 ∨ g.hdg ≠ 0) ∧ (refs < refMin ∨ hdgs = 0))

/-- R197, R199: an axis that is considered, with its achieved fraction. -/
def axisFraction (scale floor bound tau slack : Rat) : Option Rat :=
  if tau ≠ 0 ∧ floor * bound ≤ (if tau < 0 then -tau else tau) then some (1 - slack / (scale * tau)) else none

/-- The smallest fraction and its axis; axis 3 where none is considered. -/
def worstAxis : List (Option Rat) → Nat → Rat × Nat
  | [], _ => (1, 3)
  | x :: xs, k =>
    let r := worstAxis xs (k + 1)
    match x with
    | none => r
    | some v => if r.2 = 3 ∨ v ≤ r.1 then (v, k) else r

/-- CONSEQ_STATUS (R199 to R201, R204): a group's solve stops; its ratio, status and registers. -/
def State.cqPublish (s : State) (g stop : Nat) : State := match s.alcCfg with
  | none => s
  | some a => match a.groups[g]? with
    | none => s
    | some gc =>
      let x := s.inst (2 + g)
      let current := s.alc.running.contains g
      let s := { s with alc := { s.alc with running := s.alc.running.filter (· ≠ g) } }
      let s := if g + 1 = a.groups.length then s.countWrap Fld.CQA_STAT_ROUNDS else s
      match x.best with
      | none =>
        let s := s.slvPublish (2 + g) (statusWord x (s.barrier 2) 3 true false false) (x.published.map (·.figures))
        (s.set (Fld.CQA_GRPg_STALE g) 1).cqOverall
      | some i =>
        let sl := (x.qp.physical i.x).drop (x.qp.n - 3)
        let tau := (x.dem.1 / a.cqScale, x.dem.2.1 / a.cqScale, x.dem.2.2 / a.cqScale)
        let box := s.forceBox (fun _ => true) []
        let (r, axis) := worstAxis [axisFraction a.cqScale a.cqFloor box.1 tau.1 (sl.getD 0 0),
          axisFraction a.cqScale a.cqFloor box.2.1 tau.2.1 (sl.getD 1 0),
          axisFraction a.cqScale a.cqFloor box.2.2 tau.2.2 (sl.getD 2 0)] 0
        let rho := a.cqScale * r
        let lost := s.refLost gc
        let st := if rho < 1 ∨ lost then 2 else if rho < a.cqDeg then 1 else 0
        let s := s.slvPublish (2 + g) (statusWord x (s.barrier 2) stop false false false) (some i.figures)
        let s := s.wr (Reg.CQA_GRPg g) (BitVec.ofNat 32 ((clampInt 0 4095 (roundRat (rho * 1024))).toNat + st * 2 ^ 12 +
          flagBit (!current) 15 + flagBit lost 17 + axis * 2 ^ 18))
        let s := { s with alc := { s.alc with cqAt := cellsSet 0 s.alc.cqAt g (s.now + 1) } }
        s.cqOverall

/-- R204: CQA_GRPg as it reads: AGE follows the time base. -/
def State.cqGroupReg (s : State) (g : Nat) : Word :=
  let at_ := cellsGet 0 s.alc.cqAt g
  let age := if at_ = 0 then 0xFFF else min 0xFFF ((s.now + 1 - at_) / 10000000)
  bitsSet (s.rd (Reg.CQA_GRPg g)) 20 12 age

/-- Table 19-3: DATA of class 8 events. -/
def State.ctlData (s : State) : List Byte :=
  le32 (s.rd Reg.CTL_STAT) ++ le32 (s.rd Reg.CTL_MODESTAT) ++ le32 (s.rd Reg.CQA_STAT)

/-- CQ_SHARE_MISS (R202, R29). -/
def State.cqShareMiss (s : State) : State :=
  if s.commanding ∧ s.epochValid then s.raise 0x400B 0 s.ctlData else s

/-- CQ_STALE (R201): the result of a solved group has grown older than CQ_STALE_T. -/
def State.cqStale (s : State) (g : Nat) : State :=
  let t := match s.alcCfg with | some a => a.cqStaleNs | none => 0
  if s.get (Fld.CQA_GRPg_NEVER g) = 0 ∧ cellsGet 0 s.alc.cqAt g + t ≤ s.now + 1 then (s.set (Fld.CQA_GRPg_STALE g) 1).cqOverall else s

/-- R202: after a takeover or FUNC_REINIT every group starts NEVER. -/
def State.cqReset (s : State) : State :=
  let s := s.each (List.range 48) (fun g s => s.wr (Reg.CQA_GRPg g) (regReset (Reg.CQA_GRPg g)))
  ({ s with alc := { s.alc with nextGroup := 0, running := [], cqAt := [] } }).cqOverall

/-! Drives (R191, R330). -/

/-- DRIVE_FEEDBACK (R330): the oldest feedback of a thruster's drive; FAULT or LOCAL removes it. -/
def State.driveFeedback (s : State) (i : Nat) : State := match s.alc.inbox.find? (fun x => decide (x.1 = i)) with
  | none => s
  | some (_, b) =>
    let s := { s with alc := { s.alc with inbox := dropFirstOf i s.alc.inbox } }
    let st := b.getD 16 0
    let thrust := toSigned 32 (leNat ((b.drop 8).take 4))
    let s := s.modThr i (fun t => { t with
      fb := some (if st.getLsbD 4 then thrust else t.thrust, leNat ((b.drop 12).take 2), st), fbAt := some s.now })
    let again := (s.thr i).reasons.getLsbD 2 && !(s.thr i).cleared.getLsbD 2
    if (st.getLsbD 0 || st.getLsbD 2) && !again then s.thrRemove i 2 false else s
where
  /-- The first entry of a key removed. -/
  dropFirstOf (i : Nat) : List (Nat × List Byte) → List (Nat × List Byte)
    | [] => []
    | x :: xs => if x.1 = i then xs else x :: dropFirstOf i xs

/-- DRIVE_TIMEOUT (R191). -/
def State.driveTimeout (s : State) (i : Nat) : State :=
  if i < s.thrCount then (s.modThr i (fun t => { t with fb := none })).thrRemove i 3 false else s

/-- READMIT_CONDITION_MET (R191): the timed conditions of Table 7-3. -/
def State.readmitMet (s : State) (i reason : Nat) : State :=
  let ok := match reason, (s.thr i).fb, s.thrCfg i with
    | 2, some (_, _, st), _ => !st.getLsbD 0 && !st.getLsbD 2
    | 3, some _, _ => true
    | 5, _, some c => match c.deployed with | some d => s.dinLevel d | none => true
    | _, _, _ => false
  if ok then s.thrClear i reason else s

/-- ALC_ENABLE written on the commanding part (R191, R452), and forwarded. -/
def State.alcEnableWrite (s : State) (v : Word) : State :=
  if s.commanding then (s.alcEnableSet v).forwardWrite Reg.ALC_ENABLE v else s.refuse 14 1 Reg.ALC_ENABLE

/-- R180, R182: a thruster as the section loads it. -/
def State.thrLoad (s : State) (i : Nat) : State := match s.thrCfg i with
  | some c =>
    let edges := (c.forbidden.map (fun x => [normDeg x.1, normDeg x.2])).flatten
    s.modThr i (fun t => { t with
      win := c.window, eta := if c.kind = .tunnel then 1 else etaAt c (c.window.1 + winWidth c.window / 2)
      forbLo := edges.contains (normDeg c.window.1), forbHi := edges.contains (normDeg c.window.2)
      vars := if c.kind = .tunnel then [0] else [0, 0], thrust := 0, az := c.safeAz, drive := (driveOf c 0).1 })
  | none => s

/-- Every declared thruster loaded. -/
def State.thrInit (s : State) : State := s.each (List.range s.thrCount) (fun i s => s.thrLoad i)

/-! The commands. -/

/-- ALC_ENABLE_WRITE (R191). -/
def execAlcEnableWrite (value : Word) (s : State) : Host.Outcome State Fault Refusal :=
  .next (s.running (fun s => s.alcEnableWrite value))
/-- ALC_CNT_CLR (R204). -/
def execAlcCntClr (s : State) : Host.Outcome State Fault Refusal := .next (s.running (fun s => s.wr Reg.ALC_CNT 0))
/-- DRIVE_FEEDBACK (R330). -/
def execDriveFeedback (i : Fin 32) (s : State) : Host.Outcome State Fault Refusal :=
  .next (s.running (fun s => s.driveFeedback i))
/-- DRIVE_TIMEOUT (R191). -/
def execDriveTimeout (i : Fin 32) (s : State) : Host.Outcome State Fault Refusal :=
  .next (s.running (fun s => s.driveTimeout i))
/-- READMIT_CONDITION_MET (R191). -/
def execReadmitConditionMet (i : Fin 32) (reason : Fin 8) (s : State) : Host.Outcome State Fault Refusal :=
  .next (s.running (fun s => s.readmitMet i reason))
/-- CONSEQ_GROUP_RELEASE (R202). -/
def execConseqGroupRelease (s : State) : Host.Outcome State Fault Refusal := .next (s.running State.cqRelease)
/-- CQ_SHARE_MISS (R202). -/
def execCqShareMiss (_group : Fin 48) (s : State) : Host.Outcome State Fault Refusal := .next (s.running State.cqShareMiss)
/-- CQ_STALE (R201). -/
def execCqStale (g : Fin 48) (s : State) : Host.Outcome State Fault Refusal := .next (s.running (fun s => s.cqStale g))
/-- CQA_RESTART (R202). -/
def execCqaRestart (s : State) : Host.Outcome State Fault Refusal := .next (s.running (fun s => s.cqMarkOld.cqOverall))
/-- CQA_CNT_CLR (R204). -/
def execCqaCntClr (s : State) : Host.Outcome State Fault Refusal :=
  .next (s.running (fun s => (s.set Fld.CQA_STAT_ROUNDS 0).set Fld.CQA_FLEET_GEN 0))

end Sys2Proof.Machine
end

