-- ==== Sys2Proof/Machine/Params.lean ====
section
/-!
DEFINITION. Sys2Proof/Machine/Params.lean: the parameter records of the image's sections (R428 to R432): their lists as bytes,
what a NUMBER and a FIELD record set, and the configuration that an overlay makes of the base.  What Table 17-5 leaves open in a
record's ELEM is log entry 138.
-/
namespace Sys2Proof.Machine

/-! Records as bytes (R428). -/

/-- A list rounded up to whole groups of 8. -/
def up8 (n : Nat) : Nat := (n + 7) / 8 * 8

/-- The records of a list of bytes: at most `fuel` of them. -/
def parseRecords : Nat → List Byte → List ParamRec
  | 0, _ => []
  | fuel + 1, b =>
    if b.length < 16 then []
    else
      let at_ := fun (i n : Nat) => leNat ((b.drop i).take n)
      let len := at_ 6 2
      { ch := at_ 0 1, tbl := at_ 1 1, row := at_ 2 1, kind := at_ 3 1, elem := at_ 4 2, value := at_ 8 8
        blob := (b.drop 16).take len } :: parseRecords fuel (b.drop (16 + up8 len))

/-- The records of a list of `n` bytes. -/
def recordsOf (b : List Byte) : List ParamRec := parseRecords (b.length / 16 + 1) b

/-- R429: two records of the same item. -/
def sameItem (x y : ParamRec) : Bool := decide (x.ch = y.ch ∧ x.tbl = y.tbl ∧ x.row = y.row ∧ x.elem = y.elem)

/-- R428, R429: the records that the part loads from a section: the derived block, each record replaced by the expert one of the
same item, and the rest of the expert block. -/
def sectionRecords (b : List Byte) : List ParamRec :=
  let len := fun (i : Nat) => leNat ((b.drop i).take 4)
  let derived := recordsOf ((b.drop (16 + len 4)).take (len 8))
  let expert := recordsOf ((b.drop (16 + len 4 + len 8)).take (len 12))
  derived.filter (fun x => !expert.any (fun y => sameItem x y)) ++ expert

/-- R428: a binary64 value; none for an infinity or a NaN, which gives a parameter no value. -/
def f64 (w : Nat) : Option Rat :=
  let e : Nat := w / 2 ^ 52 % 2048
  let f : Nat := w % 2 ^ 52
  let m : Rat := if e = 0 then (f : Rat) / 2 ^ 1074 else ((2 ^ 52 + f : Nat) : Rat) * 2 ^ e / 2 ^ 1075
  if e = 2047 then none else some (if w / 2 ^ 63 % 2 = 1 then -m else m)

/-! NUMBER records. -/

/-- A whole number of units, not negative. -/
def natOf (v : Rat) : Nat := (roundRat v).toNat

/-- Table 4-4, in the units of Table 13-5. -/
def setBand (f : FusCfg) (row : Nat) (v : Rat) : FusCfg :=
  if row = 1 then { f with bandHdg := natOf (v * 2 ^ 32 / 360) }
  else if row = 2 then { f with bandRp := natOf (v * 2 ^ 32 / 360) }
  else if row = 3 then { f with bandHeave := natOf (v * 1000) }
  else if row = 4 then { f with bandWs := natOf (v * 100) }
  else if row = 5 then { f with bandWd := natOf (v * 65536 / 360) } else f

/-- Table 4-8. -/
def setSettle (f : FusCfg) (row : Nat) (v : Rat) : FusCfg :=
  if row = 1 then { f with refSet := natOf v }
  else if row = 3 then { f with sigPosSet := natOf (v * 1000) }
  else if row = 4 then { f with sigPsiSet := natOf (v * 1000) }
  else if row = 5 then { f with sigVelSet := natOf (v * 10000) } else f

/-- The source parameters of Table 4-12. -/
def setSrc (c : SrcCfg) (row : Nat) (v : Rat) : SrcCfg :=
  if row = 1 then { c with latNs := natOf (v * 1000000) }
  else if row = 2 then { c with xlimNs := natOf (v * 1000000) }
  else if row = 6 then { c with frozenNs := natOf (v * 1000000000) }
  else if row = 7 then { c with noiseVar := v * v * 1000000 } else c

/-- The part's parameters of Table 4-12. -/
def setTest (f : FusCfg) (row : Nat) (v : Rat) : FusCfg :=
  if row = 3 then { f with gate := v }
  else if row = 4 then { f with gateN := natOf v }
  else if row = 5 then { f with medianLimMm := natOf (v * 1000) }
  else if row = 8 then { f with wcap := v }
  else if row = 9 then { f with rejHoldNs := natOf (v * 1000000000) }
  else if row = 10 then { f with refMin := natOf v } else f

/-- Table 5-5: V_MAX for element 0, A_MAX for element 1, in mm/s and 2⁻³² turn/s. -/
def setLimit (c : CtlCfg) (row elem : Nat) (v : Rat) : CtlCfg :=
  let put := fun (x : Rat × Rat × Rat) =>
    if row = 1 then (v * 1000, v * 1000, x.2.2) else if row = 2 then (x.1, x.2.1, v * 2 ^ 32 / 360) else x
  if elem = 0 then { c with vMax := put c.vMax } else if elem = 1 then { c with aMax := put c.aMax } else c

/-- Table 6-6; METHOD is 0 for SPLIT and 1 for BARRIER. -/
def setSolver (p : SlvCfg) (row : Nat) (v : Rat) : SlvCfg :=
  if row = 1 then { p with barrier := decide (v = 1) }
  else if row = 2 then { p with rho := v }
  else if row = 3 then { p with sigma := v }
  else if row = 4 then { p with alpha := v }
  else if row = 5 then { p with muShrink := v }
  else if row = 6 then { p with stepFrac := v }
  else if row = 7 then { p with tol := v }
  else if row = 8 then { p with maxIter := natOf v }
  else if row = 9 then { p with wp := v }
  else if row = 10 then { p with wd := v }
  else if row = 11 then { p with epsPiv := v }
  else if row = 12 then { p with deltaPiv := v }
  else if row = 13 then { p with groupTimeMs := natOf v } else p

/-- Table 6-6 for EST. -/
def setEst (o : ObsCfg) (row : Nat) (v : Rat) : ObsCfg :=
  if row = 11 then { o with epsPiv := v } else if row = 12 then { o with deltaPiv := v } else o

/-- The thruster parameters of Table 7-9. -/
def setThr (c : ThrCfg) (row : Nat) (v : Rat) : ThrCfg :=
  if row = 1 then { c with wsWidth := v }
  else if row = 2 then { c with wsHyst := v }
  else if row = 3 then { c with slewT := v }
  else if row = 4 then { c with azMinT := v / 100 }
  else if row = 5 then { c with drvTimeoutNs := natOf (v * 1000000) }
  else if row = 6 then { c with smooth := some v } else c

/-- The part's parameters of Table 7-9; POWER_MODEL is 0 for BOX and 1 for SHARED. -/
def setAlc (a : AlcCfg) (row : Nat) (v : Rat) : AlcCfg :=
  if row = 6 then { a with smooth := v }
  else if row = 7 then { a with wS := v }
  else if row = 8 then { a with shortTol := v / 100 }
  else if row = 9 then { a with shared := decide (v = 1) }
  else if row = 10 then { a with powerMargin := v / 100 }
  else if row = 11 then { a with cqScale := v }
  else if row = 12 then { a with cqDeg := v }
  else if row = 13 then { a with cqFloor := v / 100 }
  else if row = 14 then { a with cqStaleNs := natOf (v * 1000000000) } else a

/-- An element of a list changed, if the list has it. -/
def listMod {α : Type} (l : List α) (i : Nat) (f : α → α) : List α := l.modify i f

/-- A NUMBER record of a section of type `typ`: the parameter takes its value. -/
def setNumber (c : ImageCfg) (typ : Nat) (r : ParamRec) (v : Rat) : ImageCfg :=
  if r.ch = 4 ∧ r.tbl = 4 then { c with fus := setBand c.fus r.row v }
  else if r.ch = 4 ∧ r.tbl = 8 then { c with fus := setSettle c.fus r.row v }
  else if r.ch = 4 ∧ r.tbl = 12 then
    if r.elem = 0xFFFF then { c with fus := setTest c.fus r.row v }
    else if r.elem < 28 then { c with fus := { c.fus with src := listMod c.fus.src r.elem (fun x => setSrc x r.row v) } }
    else { c with ctl := { c.ctl with targets := listMod c.ctl.targets (r.elem - 28) (fun x => setSrc x r.row v) } }
  else if r.ch = 5 ∧ r.tbl = 5 then { c with ctl := setLimit c.ctl r.row r.elem v }
  else if r.ch = 6 ∧ r.tbl = 6 then
    if typ = 10 ∨ r.elem = 3 then { c with fus := { c.fus with obs := setEst c.fus.obs r.row v } }
    else if typ = 11 ∨ r.elem = 0 then { c with ctl := { c.ctl with slv := setSolver c.ctl.slv r.row v } }
    else if r.elem = 1 then { c with alc := { c.alc with slvAlloc := setSolver c.alc.slvAlloc r.row v } }
    else if r.elem = 2 then { c with alc := { c.alc with slvConseq := setSolver c.alc.slvConseq r.row v } } else c
  else if r.ch = 7 ∧ r.tbl = 9 then
    if r.elem = 0xFFFF then { c with alc := setAlc c.alc r.row v }
    else { c with alc := { c.alc with thr := listMod c.alc.thr r.elem (fun x => setThr x r.row v) } }
  else c

/-! FIELD records. -/

/-- A field row of a register table: chapter, table, row, and the field by section INDEX and ELEM. -/
structure FieldRow where
  ch : Nat
  tbl : Nat
  row : Nat
  field : Nat → Nat → Field

/-- Register fields that TIME (Tables 14-8 to 14-10) loads. -/
def fieldRowsTime : List FieldRow := [
  ⟨14, 8, 1, fun _ e => Fld.TB_PTPLATp_RXLAT e⟩,
  ⟨14, 8, 2, fun _ e => Fld.TB_PTPLATp_TXLAT e⟩,
  ⟨14, 9, 1, fun _ e => Fld.TB_TRIGm_TIME_TIME e⟩,
  ⟨14, 9, 2, fun _ e => Fld.TB_TRIGm_PER_PER e⟩,
  ⟨14, 9, 3, fun _ e => Fld.TB_TRIGm_CFG_ABS e⟩,
  ⟨14, 9, 4, fun _ e => Fld.TB_TRIGm_CFG_TARGET e⟩,
  ⟨14, 9, 5, fun _ e => Fld.TB_TRIGm_CFG_TOUT e⟩,
  ⟨14, 9, 6, fun _ e => Fld.TB_TRIGm_CFG_POL e⟩,
  ⟨14, 9, 8, fun _ e => Fld.TB_TRIGm_CFG_PULSE_W e⟩,
  ⟨14, 10, 1, fun _ e => Fld.TB_CAPm_CFG_SRC e⟩,
  ⟨14, 10, 2, fun _ e => Fld.TB_CAPm_CFG_EDGE e⟩,
  ⟨14, 10, 3, fun _ e => Fld.TB_CAPm_CFG_MINW e⟩]

/-- Register fields that REGION (Tables 2-12 to 2-16, 3-12) loads. -/
def fieldRowsRegion : List FieldRow := [
  ⟨3, 12, 1, fun i e => Fld.CLU_DISP_BG_NTH (4 * i + e)⟩,
  ⟨2, 12, 1, fun i e => Fld.BANKARB_PRIOA_PRIO_U (4 * i + e / 64) (e / 8 % 8) (e % 8)⟩,
  ⟨2, 13, 1, fun i e => Fld.BANKARB_PRIOB_PRIO_PIP (4 * i + e / 8) (e % 8)⟩,
  ⟨2, 13, 2, fun i e => Fld.BANKARB_PRIOB_PRIO_BRG (4 * i + e / 8) (e % 8)⟩,
  ⟨2, 14, 1, fun i e => if e < 32 then Fld.BANKARB_CTRL_NTH (4 * i + e / 8) (e % 8) else Fld.EGRARB_CTRL_NTH i⟩,
  ⟨2, 14, 3, fun i e => if e < 32 then Fld.BANKARB_CTRL_BURST (4 * i + e / 8) (e % 8) else Fld.EGRARB_CTRL_BURST i⟩,
  ⟨2, 16, 1, fun i e => Fld.EGRARB_PRIO_PRIO_C i e⟩,
  ⟨2, 16, 2, fun i _ => Fld.EGRARB_PRIO_PRIO_BRG i⟩,
  ⟨2, 16, 3, fun i _ => Fld.EGRARB_PRIO_PRIO_RPT i⟩]

/-- Register fields that CAN (Tables 12-12 to 12-23) loads. -/
def fieldRowsCan : List FieldRow := [
  ⟨12, 12, 1, fun i _ => Fld.CANn_CTRL_MODE i⟩,
  ⟨12, 12, 2, fun i _ => Fld.CANn_CTRL_FD_EN i⟩,
  ⟨12, 12, 3, fun i _ => Fld.CANn_CTRL_BRS_EN i⟩,
  ⟨12, 12, 4, fun i _ => Fld.CANn_CTRL_SSP_EN i⟩,
  ⟨12, 15, 1, fun i _ => Fld.CANn_ARBTIM_ARB_PRE i⟩,
  ⟨12, 15, 2, fun i _ => Fld.CANn_ARBTIM_ARB_PH1 i⟩,
  ⟨12, 15, 3, fun i _ => Fld.CANn_ARBTIM_ARB_PH2 i⟩,
  ⟨12, 15, 4, fun i _ => Fld.CANn_ARBTIM_ARB_RJW i⟩,
  ⟨12, 15, 6, fun i _ => Fld.CANn_FASTTIM_FAST_PRE i⟩,
  ⟨12, 15, 7, fun i _ => Fld.CANn_FASTTIM_FAST_PH1 i⟩,
  ⟨12, 15, 8, fun i _ => Fld.CANn_FASTTIM_FAST_PH2 i⟩,
  ⟨12, 15, 9, fun i _ => Fld.CANn_FASTTIM_FAST_RJW i⟩,
  ⟨12, 15, 11, fun i _ => Fld.CANn_SSP_SSP_OFS i⟩,
  ⟨12, 15, 12, fun i _ => Fld.CANn_SSP_SSP_WIN i⟩,
  ⟨12, 16, 1, fun i e => Fld.CANn_EVTEN_SLOT i e⟩,
  ⟨12, 16, 2, fun i _ => Fld.CANn_EVTEN_BUSOFF i⟩,
  ⟨12, 16, 3, fun i _ => Fld.CANn_EVTEN_PASSIVE i⟩,
  ⟨12, 16, 4, fun i _ => Fld.CANn_EVTEN_NOPART i⟩,
  ⟨12, 16, 5, fun i _ => Fld.CANn_EVTEN_RATE i⟩,
  ⟨12, 16, 6, fun i _ => Fld.CANn_EVTEN_TT_REF_MISS i⟩,
  ⟨12, 16, 7, fun i _ => Fld.CANn_EVTEN_TT_MASTER_CHG i⟩,
  ⟨12, 16, 8, fun i _ => Fld.CANn_EVTEN_RX_OVR i⟩,
  ⟨12, 16, 9, fun i _ => Fld.CANn_EVTEN_TX_CANCELLED i⟩,
  ⟨12, 16, 10, fun i _ => Fld.CANn_EVTEN_DUP_MISMATCH i⟩,
  ⟨12, 19, 1, fun i _ => Fld.CANn_FLTCFG_NSTD i⟩,
  ⟨12, 19, 2, fun i _ => Fld.CANn_FLTCFG_NEXT i⟩,
  ⟨12, 19, 3, fun i _ => Fld.CANn_FLTCFG_NONMATCH i⟩,
  ⟨12, 19, 4, fun i _ => Fld.CANn_FLTCFG_NM_OBJ i⟩,
  ⟨12, 20, 1, fun i _ => Fld.CANn_TTCFG_ROLE i⟩,
  ⟨12, 20, 2, fun i _ => Fld.CANn_TTCFG_PRIO i⟩,
  ⟨12, 20, 3, fun i _ => Fld.CANn_TTCFG_BC_DIV i⟩,
  ⟨12, 20, 4, fun i _ => Fld.CANn_TTCFG_MATRIX i⟩,
  ⟨12, 20, 5, fun i _ => Fld.CANn_TTCFG_TX_ENABLE i⟩,
  ⟨12, 20, 6, fun i _ => Fld.CANn_TTCFG_REF_ID i⟩,
  ⟨12, 17, 1, fun i e => Fld.CANn_PSLOTk_ID_SLOT_ID i e⟩,
  ⟨12, 17, 2, fun i e => Fld.CANn_PSLOTk_ID_IDE i e⟩,
  ⟨12, 17, 3, fun i e => Fld.CANn_PSLOTk_ID_PASS i e⟩,
  ⟨12, 17, 4, fun i e => Fld.CANn_PSLOTk_ID_EN i e⟩,
  ⟨12, 17, 5, fun i e => Fld.CANn_PSLOTk_MASK_MASK i e⟩,
  ⟨12, 22, 10, fun i e => Fld.CANn_OBJENw_EN i e⟩,
  ⟨12, 23, 1, fun i e => Fld.CANn_OBJCFG_ID i e⟩,
  ⟨12, 23, 2, fun i e => Fld.CANn_OBJCFG_IDE i e⟩,
  ⟨12, 23, 3, fun i e => Fld.CANn_OBJCFG_DIR i e⟩,
  ⟨12, 23, 4, fun i e => Fld.CANn_OBJCFG_PAIRED i e⟩,
  ⟨12, 23, 5, fun i e => Fld.CANn_OBJFMT_DLC i e⟩,
  ⟨12, 23, 6, fun i e => Fld.CANn_OBJFMT_FDF i e⟩,
  ⟨12, 23, 7, fun i e => Fld.CANn_OBJFMT_BRS i e⟩,
  ⟨12, 23, 8, fun i e => Fld.CANn_OBJFMT_NOPART i e⟩,
  ⟨12, 23, 9, fun i e => Fld.CANn_OBJFMT_PROTO i e⟩,
  ⟨12, 23, 11, fun i e => Fld.CANn_OBJFMT_RX_TIMEOUT i e⟩,
  ⟨12, 23, 12, fun i e => Fld.CANn_OBJHDL_HANDLE i e⟩]

/-- Register fields that NETWORK (Table 13-10) loads. -/
def fieldRowsNet : List FieldRow := [
  ⟨13, 10, 1, fun _ e => Fld.ETHp_CFG_MODE e⟩,
  ⟨13, 10, 2, fun _ e => Fld.ETHp_CFG_AN e⟩,
  ⟨13, 10, 3, fun _ e => Fld.ETHp_CFG_EN e⟩]

/-- Register fields that ANALOGUE (Tables 15-7 to 15-13) loads. -/
def fieldRowsAna : List FieldRow := [
  ⟨15, 7, 1, fun _ e => Fld.CHn_CFG_DEC e⟩,
  ⟨15, 7, 2, fun _ e => Fld.CHn_CFG_NTAP e⟩,
  ⟨15, 7, 3, fun _ e => Fld.CHn_CFG_TRIG e⟩,
  ⟨15, 7, 4, fun _ e => Fld.CHn_CFG_DCB_EN e⟩,
  ⟨15, 9, 1, fun _ e => Fld.CHn_GAIN_GAIN e⟩,
  ⟨15, 9, 2, fun _ e => Fld.CHn_OFS_OFS e⟩,
  ⟨15, 9, 3, fun _ e => Fld.CHn_DCB_FREEZE e⟩,
  ⟨15, 9, 4, fun _ e => Fld.CHn_DCB_DCB_K e⟩,
  ⟨15, 10, 2, fun _ e => Fld.AOUTn_CFG_UPD e⟩,
  ⟨15, 10, 3, fun _ e => Fld.AOUTn_CFG_COMP e⟩,
  ⟨15, 10, 5, fun _ e => Fld.AOUTn_DATA_CODE e⟩,
  ⟨15, 11, 1, fun _ e => Fld.PINi_CFG_MODE e⟩,
  ⟨15, 11, 2, fun _ e => Fld.PINi_CFG_AINV e⟩,
  ⟨15, 11, 3, fun _ e => Fld.PINi_CFG_BINV e⟩,
  ⟨15, 11, 4, fun _ e => Fld.PINi_CFG_MINW e⟩,
  ⟨15, 11, 6, fun _ e => Fld.PINi_GATE_GATE e⟩,
  ⟨15, 11, 7, fun _ e => Fld.PINi_GATE_ZERO_T e⟩,
  ⟨15, 12, 10, fun _ e => Fld.PINi_PRESET_PRESET e⟩,
  ⟨15, 13, 3, fun _ e => if e = 0 then Fld.DIN_EVEN0_EN else Fld.DIN_EVEN1_EN⟩]

/-- Register fields that SERVO (Tables 8-9 to 8-14) loads. -/
def fieldRowsServo : List FieldRow := [
  ⟨8, 9, 1, fun _ e => Fld.SRVn_CFG_LAW e⟩,
  ⟨8, 9, 2, fun _ e => Fld.SRVn_CFG_ANGLE e⟩,
  ⟨8, 9, 3, fun _ e => Fld.SRVn_CFG_OUTER e⟩,
  ⟨8, 9, 4, fun _ e => Fld.SRVn_CFG_AUTO_CLOSE e⟩,
  ⟨8, 9, 5, fun _ e => Fld.SRVn_CFG_INV_POS e⟩,
  ⟨8, 9, 6, fun _ e => Fld.SRVn_CFG_INV_NEG e⟩,
  ⟨8, 9, 7, fun _ e => Fld.SRVn_CFG_O_INV e⟩,
  ⟨8, 9, 8, fun _ e => Fld.SRVn_CFG_FB_KIND e⟩,
  ⟨8, 9, 9, fun _ e => Fld.SRVn_CFG_FB_INDEX e⟩,
  ⟨8, 9, 10, fun _ e => Fld.SRVn_CFG_OFB_KIND e⟩,
  ⟨8, 9, 11, fun _ e => Fld.SRVn_CFG_OFB_INDEX e⟩,
  ⟨8, 9, 12, fun _ e => Fld.SRVn_CFG_OUTER_DIV e⟩,
  ⟨8, 10, 1, fun _ e => Fld.SRVn_SAMPLE_PER e⟩,
  ⟨8, 10, 2, fun _ e => Fld.SRVn_SAMPLE_SAFE_PAIR e⟩,
  ⟨8, 10, 3, fun _ e => Fld.SRVn_SAMPLE_SAFE_EN e⟩,
  ⟨8, 10, 5, fun _ e => Fld.SRVn_SAMPLE_FB_AGE e⟩,
  ⟨8, 11, 1, fun _ e => Fld.SRVn_SPSRC_SRC e⟩,
  ⟨8, 11, 2, fun _ e => Fld.SRVn_SPSRC_INDEX e⟩,
  ⟨8, 11, 3, fun _ e => Fld.SRVn_SPSRC_SP_MUL e⟩,
  ⟨8, 11, 4, fun _ e => Fld.SRVn_SPSRC_SP_SHR e⟩,
  ⟨8, 14, 1, fun _ e => Fld.SRVn_SPOFS_SPOFS e⟩,
  ⟨8, 14, 2, fun _ e => Fld.SRVn_BON_BON e⟩,
  ⟨8, 14, 3, fun _ e => Fld.SRVn_BOFF_BOFF e⟩,
  ⟨8, 13, 1, fun _ e => Fld.SRVn_DWELL_T_ON e⟩,
  ⟨8, 13, 2, fun _ e => Fld.SRVn_DWELL_T_OFF e⟩,
  ⟨8, 12, 1, fun _ e => if e < 64 then Fld.SRVn_FBSCL_MUL e else Fld.SRVn_OFBSCL_MUL (e - 64)⟩,
  ⟨8, 12, 2, fun _ e => if e < 64 then Fld.SRVn_FBSCL_SHR e else Fld.SRVn_OFBSCL_SHR (e - 64)⟩,
  ⟨8, 14, 4, fun _ e => Fld.SRVn_FBOFS_FBOFS e⟩,
  ⟨8, 14, 5, fun _ e => Fld.SRVn_SPMIN_SPMIN e⟩,
  ⟨8, 14, 6, fun _ e => Fld.SRVn_SPMAX_SPMAX e⟩,
  ⟨8, 14, 7, fun _ e => Fld.SRVn_SPRATE_SPRATE e⟩,
  ⟨8, 14, 8, fun _ e => Fld.SRVn_OBON_OBON e⟩,
  ⟨8, 14, 9, fun _ e => Fld.SRVn_OBOFF_OBOFF e⟩,
  ⟨8, 14, 10, fun _ e => Fld.SRVn_ORAMP_ORAMP e⟩,
  ⟨8, 13, 3, fun _ e => Fld.SRVn_OTIMER_O_TON e⟩,
  ⟨8, 13, 4, fun _ e => Fld.SRVn_OTIMER_O_TOFF e⟩,
  ⟨8, 13, 5, fun _ e => Fld.SRVn_OTIMER_STALL e⟩,
  ⟨8, 14, 11, fun _ e => Fld.SRVn_OFBOFS_OFBOFS e⟩,
  ⟨8, 14, 12, fun _ e => Fld.SRVn_HOSTSP_HOSTSP e⟩]

/-- The loadable fields of a section type. -/
def fieldRows (typ : Nat) : List FieldRow :=
  if typ = 2 then fieldRowsTime else if typ = 3 then fieldRowsRegion else if typ = 6 then fieldRowsCan
  else if typ = 7 then fieldRowsNet else if typ = 8 then fieldRowsAna else if typ = 9 ∨ typ = 13 then fieldRowsServo else []

/-- The register field that a FIELD record names. -/
def paramField (typ idx : Nat) (r : ParamRec) : Option Field :=
  ((fieldRows typ).find? (fun x => decide (x.ch = r.ch ∧ x.tbl = r.tbl ∧ x.row = r.row))).map (fun x => x.field idx r.elem)

/-- A register's value in a list of (address, word) pairs, the last of which stands. -/
def wordIn (reset : Nat → Word) (l : List (Nat × Word)) (a : Nat) : Word :=
  match l.reverse.find? (fun x => decide (x.1 = a)) with
  | some x => x.2
  | none => reset a

/-- A field set in such a list. -/
def putField (reset : Nat → Word) (l : List (Nat × Word)) (f : Field) (v : Nat) : List (Nat × Word) :=
  l.filter (fun x => decide (x.1 ≠ f.addr)) ++ [(f.addr, bitsSet (wordIn reset l f.addr) f.lo f.width v)]

/-- A FIELD record: the field takes its value where the section's registers are loaded from, or, in a mode's overlay, in the
values of the loop.  Table 2-21, row 2, is the spare count of the region (R14). -/
def setField (reset : Nat → Word) (c : ImageCfg) (typ idx : Nat) (r : ParamRec) : ImageCfg :=
  if typ = 3 ∧ r.ch = 2 ∧ r.tbl = 21 ∧ r.row = 2 then
    { c with region := { c.region with spares := (c.region.spares ++ List.replicate 8 0).take 8 |>.set idx r.value } }
  else match paramField typ idx r with
    | none => c
    | some f =>
      if typ = 3 then { c with region := { c.region with regs := putField reset c.region.regs f r.value } }
      else if typ = 13 then
        { c with ctl := { c.ctl with overlays := c.ctl.overlays.map (fun o =>
          if o.mode = idx then
            let old := ((o.loops.filter (fun x => decide (x.1 = r.elem))).map (·.2)).flatten
            { o with loops := o.loops.filter (fun x => decide (x.1 ≠ r.elem)) ++
                [(r.elem, putField (fun a => wordIn reset c.regs a) old f r.value)] }
          else o) } }
      else { c with regs := putField reset c.regs f r.value }

/-- One record of a section applied to what the sections hold.  An overlay keeps its NUMBER records until its mode is entered. -/
def setRecord (reset : Nat → Word) (typ idx : Nat) (c : ImageCfg) (r : ParamRec) : ImageCfg :=
  if r.kind = 0 then
    if typ = 13 then { c with ctl := { c.ctl with overlays := c.ctl.overlays.map (fun o =>
      if o.mode = idx then { o with params := o.params.filter (fun x => !sameItem x r) ++ [r] } else o) } }
    else match f64 r.value with | some v => setNumber c typ r v | none => c
  else if r.kind = 1 then setField reset c typ idx r else c

/-- R428: MEMORY records: the window offset and the bytes. -/
def memoryRecords (l : List ParamRec) : List (Nat × List Byte) :=
  (l.filter (fun r => decide (r.kind = 3))).map (fun r => (r.value, r.blob))

/-! Overlays (R431, R432). -/

/-- A control parameter that an overlay sets. -/
def setCtl (c : CtlCfg) : CtlParam → CtlCfg
  | .weights w => { c with weights := w }
  | .vMax v => { c with vMax := v }
  | .aMax a => { c with aMax := a }
  | .joyGain g => { c with joyGain := g }
  | .windFf x => { c with windFf := x }
  | .capFrac x => { c with capFrac := x }
  | .pmsFallback x => { c with pmsFallback := x }
  | .planOldMs n => { c with planOldMs := n }
  | .wvTau x => { c with wvTau := x }
  | .wvFmin n => { c with wvFmin := n }
  | .spStep mm psi => { c with spStepMm := mm, spStepPsi := psi }
  | .trkCaptureMm n => { c with trkCaptureMm := n }
  | .compLeadNs n => { c with compLeadNs := n }
  | .compExitMs n => { c with compExitMs := n }
  | .srcTimeoutMs n => { c with srcTimeoutMs := n }
  | .srcRampMs n => { c with srcRampMs := n }

/-- R432: the base configuration plus an overlay. -/
def withOverlay (c : ImageCfg) (o : Option Overlay) : ImageCfg := match o with
  | none => c
  | some o =>
    let c := o.params.foldl (fun c r => match f64 r.value with | some v => setNumber c 13 r v | none => c) c
    { c with ctl := o.ctl.foldl setCtl c.ctl }

end Sys2Proof.Machine
end

