-- ==== Sys2Proof/Machine/Modes.lean ====
section
/-!
DEFINITION. Sys2Proof/Machine/Modes.lean: operating modes and what the operator commands of control: mode commands and their
checks (R31 to R35, R139 to R144), set-points, targets, tracks and the origin (R132 to R136, R116).
-/
namespace Sys2Proof.Machine

/-- The present mode. -/
def State.mode (s : State) : Nat := s.get Fld.CTL_MODESTAT_MODE

/-- Control state changed. -/
def State.modCtl (s : State) (f : CtlSt → CtlSt) : State := { s with ctl := f s.ctl }

/-- R34: the DP modes. -/
def dpMode (m : Nat) : Bool := decide (3 ≤ m ∧ m ≤ 10)

/-- R32: the overlay of a mode. -/
def State.overlay (s : State) (m : Nat) : Option Overlay := s.ctlCfg.bind (fun c => c.overlays.find? (fun o => decide (o.mode = m)))

/-- Table 5-6: the mode whose control runs: the present one, or in TRIALS the one that its overlay sets. -/
def State.actMode (s : State) : Nat :=
  if s.mode = 11 then (match s.overlay 11 with | some o => o.acts | none => 0) else s.mode

/-! Mode commands (R139 to R141). -/

/-- Table 5-7: the modes that each mode may be left for. -/
def transitions : Nat → List Nat
  | 0 => [1, 2, 3, 4, 5, 6, 7, 8, 9, 11]
  | 1 => [0, 2, 3, 4, 8]
  | 2 => [0, 1, 3, 4, 5, 6, 7, 8, 9]
  | 3 => [0, 1, 2, 4, 5, 6, 7, 8, 9]
  | 4 => [0, 1, 2, 3, 5, 6, 7, 8, 9, 10]
  | 5 => [0, 1, 2, 3, 4, 8]
  | 6 => [0, 1, 2, 3, 4]
  | 7 => [0, 1, 2, 3, 4]
  | 8 => [0, 1, 2, 3, 4, 5]
  | 9 => [0, 1, 2, 3, 4]
  | 10 => [0, 1, 2, 3, 4]
  | 11 => [0]
  | _ => []

/-- R144: compensation is engaged: the digital input or the host flag. -/
def State.engaged (s : State) : Bool :=
  s.ctl.compFlag || (match s.ctlCfg.bind (·.compInput) with | some i => s.dinLevel i | none => false)

/-- R143: a source has delivered a sample within SRC_TIMEOUT. -/
def State.within (s : State) (at_ : Option Nat) : Bool := match at_, s.ctlCfg with
  | some t, some c => decide (s.now ≤ t + c.srcTimeoutMs * 1000000)
  | _, _ => false

/-- R140, 8: the lever or joystick source that a mode uses is fresh. -/
def State.sourceFresh (s : State) (m : Nat) : Bool :=
  if m = 1 then s.within s.ctl.levAt else if m = 2 ∨ m = 3 then s.within s.ctl.joyAt else true

/-- A bit of the fusion status word of the latest published epoch; set while there is none. -/
def State.epochBit (s : State) (b : Nat) : Bool := match s.fus.epoch with
  | some e => decide (e.status / 2 ^ b % 2 = 1)
  | none => true

/-- R140: the estimator state of the latest published epoch. -/
def State.epochState (s : State) : Nat := match s.fus.epoch with
  | some e => e.status % 4
  | none => 0

/-- The track table in force (R135). -/
def State.track (s : State) : List Waypoint := if s.ctl.trackBank = 0 then s.ctl.track0 else s.ctl.track1

/-- R135: a waypoint within the table's ranges. -/
def Waypoint.ok (w : Waypoint) : Bool := decide (50 ≤ w.speed ∧ w.speed ≤ 2000 ∧ w.rule ≤ 1)

/-- R135: a table with a leg, every waypoint within range. -/
def trackValid (t : List Waypoint) : Bool := decide (2 ≤ t.length) && t.all Waypoint.ok

/-- A leg as its start, direction and length. -/
structure Leg where
  n : Rat
  e : Rat
  dn : Rat
  de : Rat
  len : Rat
deriving DecidableEq, Repr

/-- The leg from one waypoint to the next. -/
def legOf (a b : Waypoint) : Leg :=
  let dn : Rat := (b.n : Rat) - a.n
  let de : Rat := (b.e : Rat) - a.e
  let l := sqrtAt 21 (dn * dn + de * de)
  { n := a.n, e := a.e, dn := if l = 0 then 1 else dn / l, de := if l = 0 then 0 else de / l, len := l }

/-- The legs of a track. -/
def legsOf (t : List Waypoint) : List Leg := (t.zip (t.drop 1)).map (fun (a, b) => legOf a b)

/-- A position along a leg and off it, to starboard. -/
def Leg.project (l : Leg) (n e : Rat) : Rat × Rat :=
  ((n - l.n) * l.dn + (e - l.e) * l.de, (e - l.e) * l.dn - (n - l.n) * l.de)

/-- The square of the distance from a position to a leg. -/
def Leg.dist2 (l : Leg) (n e : Rat) : Rat :=
  let p := l.project n e
  let d := p.1 - clampRat 0 l.len p.1
  d * d + p.2 * p.2

/-- The nearest leg of a track, with the square of its distance. -/
def nearestLeg (ls : List Leg) (n e : Rat) : Option (Nat × Rat) :=
  ls.zipIdx.foldl (fun (b : Option (Nat × Rat)) (l, i) => match b with
    | some (j, d) => if l.dist2 n e < d then some (i, l.dist2 n e) else some (j, d)
    | none => some (i, l.dist2 n e)) none

/-- R140, 10: the cross-track distance to the nearest leg is within TRK_CAPTURE. -/
def State.onTrack (s : State) : Bool := match s.fus.epoch, s.ctlCfg with
  | some e, some c => match nearestLeg (legsOf s.track) e.n e.e with
    | some (_, d) => decide (d ≤ (c.trkCaptureMm : Rat) * c.trkCaptureMm)
    | none => false
  | _, _ => false

/-- R140, 11: the target channel exists and is not lost. -/
def State.targetOk (s : State) : Bool := match s.ctlCfg.bind (·.target) with
  | some i => s.chanLive 12 i && !s.ctl.tgtLost
  | none => false

/-- R140, 12: every declared line has its tension chain running and its winch loop closed. -/
def State.linesOk (s : State) : Bool := match s.ctlCfg with
  | some c => c.lines.all (fun l => decide (s.get (Fld.CHn_STAT_STATE l.chain) = 2 ∧ s.loopState l.loop = 1))
  | none => true

/-- R140, 13: an MRU contributes, and every compensation loop takes its set-point from the allocator. -/
def State.compOk (s : State) : Bool :=
  (List.range 4).any (fun k => decide ((s.src (20 + k)).pub = 1)) &&
    (match s.ctlCfg with
    | some c => c.comps.all (fun l => decide (s.get (Fld.SRVn_SPSRC_SRC l.loop) = 1))
    | none => true)

/-- R35: a real actuator channel is enabled: a LIVE thruster channel whose ALC_ENABLE bit is 1 (log entry 40). -/
def State.actuatorsLive (s : State) : Bool := (List.range 32).any (fun i => s.chanLive 5 i && s.alcEnabled i)

/-- Table 5-8: the conditions in order: the modes each applies to, whether it holds, and the result where it fails. -/
def State.entryChecks (s : State) (m : Nat) : List (List Nat × Bool × Nat) :=
  let permits := match s.overlay 11 with | some o => o.liveActuators | none => false
  [([0, 1, 2, 3, 4, 5, 6, 7, 8, 9, 10, 11], s.commanding, 18),
   ([1, 2, 3, 4, 5, 6, 7, 8, 9, 10, 11], s.get Fld.IMG_STAT_CONFLICT = 0, 16),
   ([3, 4, 5, 6, 7, 8, 9, 10], s.epochState = 1, 5),
   ([4, 5, 6, 9, 10], !s.epochBit 3, 6),
   ([10], !s.epochBit 5, 7),
   ([4, 5, 6, 7, 9, 10], !s.epochBit 8, 8),
   ([11], permits || !s.actuatorsLive, 9),
   ([1, 2, 3], s.sourceFresh m, 10),
   ([5], trackValid s.track, 11),
   ([5], s.onTrack, 12),
   ([6], s.targetOk, 13),
   ([9], s.linesOk, 14),
   ([10], s.compOk, 10)]

/-- R139, R140, R144: the result of a mode command at a frame start. -/
def State.modeResult (s : State) (m : Nat) : Nat :=
  if m = s.mode then 1
  else if m ∉ transitions s.mode ∨ (m = 11 ∧ (s.overlay 11).isNone) then 4
  else if s.mode = 10 ∧ s.engaged ∧ m ≠ 0 ∧ m ≠ 1 then 15
  else match (s.entryChecks m).find? (fun x => decide (m ∈ x.1) && !x.2.1) with
    | some x => x.2.2
    | none => 0

/-! Mode changes (R32, R131, R132, R142, R144). -/

/-- R432: the configuration without any overlay. -/
def State.cfgBase (s : State) : Option ImageCfg := match s.base with
  | some c => some c
  | none => s.cfg

/-- The value that a register has without any overlay: the image's, or its reset value. -/
def State.baseValue (s : State) (a : Nat) : Word := match s.cfgBase with
  | some c => wordIn regReset c.regs a
  | none => regReset a

/-- The register values of a loop in a mode's overlay. -/
def overlayLoop (o : Option Overlay) (n : Nat) : List (Nat × Word) := match o with
  | some o => ((o.loops.filter (fun x => decide (x.1 = n))).map (·.2)).flatten
  | none => []

/-- R32, R222, R432: one overlay gives way to the base configuration, and another takes effect: its parameters, its registers;
the loops take theirs at their next boundaries. -/
def State.overlayMove (s : State) (o w : Option Overlay) : State :=
  let b := s.cfgBase
  let s : State := { s with base := b, cfg := b.map (fun c => withOverlay c w) }
  let s := match o with | some o => s.each o.regs (fun x s => s.wr x.1 (s.baseValue x.1)) | none => s
  let s := match w with | some w => s.each w.regs (fun x s => s.wr x.1 x.2) | none => s
  s.each (List.range 64) fun n s =>
    let back := (overlayLoop o n).map (fun x => (x.1, s.baseValue x.1))
    let ws := back ++ overlayLoop w n
    if ws = [] then s else s.modLoop n (fun x => { x with overlay := some ws })

/-- R32: the overlay of the old mode gives way to that of the new one. -/
def State.swapOverlay (s : State) (old new : Nat) : State := s.overlayMove (s.overlay old) (s.overlay new)

/-- R131: the thrusters' forces as reported or last emitted stand for the epoch's actuator forces (log entry 41). -/
def State.actuatorForces (s : State) : Int × Int × Int :=
  roundTriple (s.delivered s.reportedAll)

/-- R131: a plan of constant forces from an epoch on. -/
def State.holdPlan (s : State) (e : Epoch) (m : Nat) : Plan :=
  let l := s.lineForce e
  { t := e.t, period := s.frame.period, mode := m, flags := 1, iter := 0, psi0 := e.psi, resid := 0, windX := e.wind.1
    windY := e.wind.2.1, steps := List.replicate 64 s.actuatorForces, lineX := roundRat l.1, lineY := roundRat l.2.1, stay := s.ctl.stays }

/-- A plan is a shadow plan. -/
def Plan.shadow (p : Plan) : Bool := p.flags % 2 = 1

/-- R131: the plan at entry into a DP mode. -/
def State.entryPlan (s : State) (m : Nat) : State :=
  let young := match s.ctl.plan, s.ctlCfg with
    | some p, some c => p.shadow && !s.ctl.holdForces && decide (s.now ≤ p.t + c.planOldMs * 1000000)
    | _, _ => false
  let s := s.modCtl (fun c => { c with
    shadow := true, planDue := c.planDue.filter Plan.shadow, planNew := c.planNew.filter Plan.shadow })
  if young then s
  else s.modCtl (fun c => { c with plan := s.fus.epoch.map (fun e => s.holdPlan e m), holdForces := true })

/-- Table 5-6: the axes that a mode holds: bit 0 north, 1 east, 2 heading, 3 speed. -/
def heldAxes (m : Nat) : Nat :=
  if m = 3 then 4 else if m = 8 then 12 else if dpMode m then 7 else 0

/-- R144: the compensation set-points ramp to their park values. -/
def State.compRamp (s : State) : State := s.modCtl (fun c => { c with compExit := some s.now })

/-- R32: the mode changes. -/
def State.changeMode (s : State) (m : Nat) (drop : Bool) : State :=
  let old := s.mode
  let s := ((s.set Fld.CTL_MODESTAT_MODE m).countWrap Fld.CTL_MODESTAT_CHG_CNT).modCtl (fun c => { c with stays := c.stays + 1 })
  let s := s.swapOverlay old m
  let s := if old = 10 ∧ drop ∧ s.engaged then s.modCtl (fun c => { c with compHold := true })
    else if old = 10 then s.compRamp
    else if m = 10 then s.modCtl (fun c => { c with compHold := false, compExit := none })
    else s
  let fresh := s.sourceFresh s.actMode
  let s := s.modCtl (fun c => { c with
    srcLost := !fresh, rampFrom := none, joy := if drop && !fresh then none else c.joy
    trackEnd := false, lineLost := false })
  if dpMode s.actMode then (s.entryPlan s.actMode).modCtl (fun c => { c with spEntry := heldAxes s.actMode, refEntry := true })
  else s.modCtl (fun c => { c with shadow := false, spEntry := 0, refEntry := false })

/-- CTL_MODESTAT: the latest command and its result (R141). -/
def State.modeStat (s : State) (code result : Nat) : State := (s.set Fld.CTL_MODESTAT_REQ code).set Fld.CTL_MODESTAT_RESULT result

/-- R31, R33, R141: a mode command: BAD_CODE at once, or PENDING until the next frame start. -/
def State.modeCmd (s : State) (code : Nat) (q : Option ReqRef) : State :=
  if 11 < code then s.modeStat code 3
  else (s.modCtl (fun c => { c with modeReq := c.modeReq ++ [(code, q)] })).modeStat code 17

/-- R33, R140: the mode commands of the frame are decided: the last one applies, the others were superseded. -/
def State.modeDecide (s : State) : State := match s.ctl.modeReq.reverse with
  | [] => s
  | (m, q) :: earlier =>
    let s := s.modCtl (fun c => { c with modeReq := [] })
    let s := s.each earlier.reverse (fun x s => s.resultOpt x.2 2 [])
    let r := s.modeResult m
    let s := if r = 0 then s.changeMode m false else s
    (s.modeStat m r).resultOpt q r []

/-- R142: a DP mode on an estimator in ACQUIRE drops to JOYSTICK. -/
def State.modeDrop (s : State) : State :=
  let s := s.modCtl (fun c => { c with dpDropped := false })
  if dpMode s.mode ∧ s.epochState = 0 then
    ((s.changeMode 2 true).modeStat 2 0).modCtl (fun c => { c with dpDropped := true })
  else s

/-- CTL_MODECMD (R148, R452): a mode command without a RESULT. -/
def State.modecmdWrite (s : State) (v : Word) : State :=
  if s.commanding then s.modeCmd (v.toNat % 16) none else s.refuse 12 1 Reg.CTL_MODECMD

/-- MODE (R141). -/
def modeBody (code : Byte) : List Byte := [code, 0, 0, 0]

/-! Set-points (R134). -/

/-- R134: the axes of a set-point command whose set-points the operator gives in a mode (Table 5-6). -/
def operatorAxes (m : Nat) : Nat :=
  if m = 3 then 4 else if m = 4 ∨ m = 9 ∨ m = 10 then 7 else if m = 7 then 3 else if m = 8 then 12 else 0

/-- The set-point that a command leaves, in N, E, ψ and speed (R134).  A relative move is turned by a heading. -/
def SpReq.target (n : Nat) (r : SpReq) (sp : Int × Int × Int × Int) (psi : Int) : Int × Int × Int × Int :=
  let on := fun k => decide (r.axes / 2 ^ k % 2 = 1)
  if r.rel then
    let x : Rat := if on 0 then r.n else 0
    let y : Rat := if on 1 then r.e else 0
    let d := toLocal n psi x y
    (sp.1 + roundRat d.1, sp.2.1 + roundRat d.2,
      if on 2 then (sp.2.2.1 + r.psi) % 2 ^ 32 else sp.2.2.1, if on 3 then r.speed else sp.2.2.2)
  else (if on 0 then r.n else sp.1, if on 1 then r.e else sp.2.1, if on 2 then r.psi % 2 ^ 32 else sp.2.2.1,
    if on 3 then r.speed else sp.2.2.2)

/-- R134: a set-point lies within the limits: SP_STEP_MAX for a move, which is relative (Table 5-4), on the axes that it names; 80 %
of ORIGIN_RADIUS for an absolute position; and the range of a speed. -/
def State.spFits (s : State) (r : SpReq) (old new : Int × Int × Int × Int) : Bool := match s.ctlCfg, s.fusCfg with
  | some c, some f =>
    let on := fun k => decide (r.axes / 2 ^ k % 2 = 1)
    let dn := new.1 - old.1
    let de := new.2.1 - old.2.1
    let move : Bool := !r.rel || (decide (dn * dn + de * de ≤ (c.spStepMm : Int) * c.spStepMm) &&
      (!on 2 || decide (r.psi.natAbs ≤ c.spStepPsi)))
    let far : Bool := !r.rel && (on 0 || on 1) && farOrigin f new.1 new.2.1
    let speed : Bool := !on 3 || decide (-2000000 ≤ new.2.2.2 ∧ new.2.2.2 ≤ c.speedMax)
    move && !far && speed
  | _, _ => false

/-- R137: the position that a mode holds, mm: the reference point's, or in WEATHERVANE that of the pivot point. -/
def State.heldPoint (s : State) (e : Epoch) : Int × Int := match s.ctlCfg with
  | some c =>
    if s.actMode = 7 then
      let d := toLocal s.unitBits e.psi c.pivot.1 c.pivot.2
      (e.n + roundRat d.1, e.e + roundRat d.2)
    else (e.n, e.e)
  | none => (e.n, e.e)

/-- R134: the outcome of a set-point command at a frame start.  A relative move of surge and sway is turned into N and E by the
heading of the latest epoch, the vessel's own; the spec does not say which heading (log entry 139). -/
def State.setpointApply (s : State) (r : SpReq) : State :=
  let held := operatorAxes s.actMode
  let base := match s.fus.epoch with
    | some e =>
      let m := s.ctl.spEntry
      let p := s.heldPoint e
      (if m % 2 = 1 then p.1 else s.ctl.sp.1, if m / 2 % 2 = 1 then p.2 else s.ctl.sp.2.1,
        if m / 4 % 2 = 1 then e.psi else s.ctl.sp.2.2.1, if m / 8 % 2 = 1 then e.u else s.ctl.sp.2.2.2)
    | none => s.ctl.sp
  let new := r.target s.unitBits base (match s.fus.epoch with | some e => e.psi | none => 0)
  if (List.range 4).any (fun k => decide (r.axes / 2 ^ k % 2 = 1 ∧ held / 2 ^ k % 2 = 0)) then s.resultOpt r.req 2 []
  else if !s.spFits r base new then s.resultOpt r.req 3 []
  else
    let moved := fun k => r.axes / 2 ^ k % 2 = 1 || (r.rel && decide (k < 2) && decide (r.axes % 4 ≠ 0))
    let pick := fun (k : Nat) (a b : Int) => if moved k then a else b
    let keep := (List.range 4).foldl (fun m k => m + (if s.ctl.spEntry / 2 ^ k % 2 = 1 ∧ ¬ moved k then 2 ^ k else 0)) 0
    (s.modCtl (fun c => { c with
      sp := (pick 0 new.1 c.sp.1, pick 1 new.2.1 c.sp.2.1, pick 2 new.2.2.1 c.sp.2.2.1, pick 3 new.2.2.2 c.sp.2.2.2)
      spEntry := keep })).resultOpt r.req 0 []

/-- R134: the set-point commands of a frame: the last one wins. -/
def State.setpointDecide (s : State) : State := match s.ctl.spReq.reverse with
  | [] => s
  | r :: earlier =>
    let s := s.modCtl (fun c => { c with spReq := [] })
    let s := s.each earlier.reverse (fun x s => s.resultOpt x.req 1 [])
    s.setpointApply r

/-! Target offsets, tracks, the origin, compensation (R135, R136, R116, R144). -/

/-- R135: AUTO_TRACK starts, or starts again, at the leg nearest to the vessel, with the reference given. -/
def State.trackStart (s : State) (at_ : Rat × Rat) (n e : Rat) (vn ve : Rat) : State :=
  let ls := legsOf s.track
  match nearestLeg ls at_.1 at_.2 with
  | none => s
  | some (i, _) => match ls[i]? with
    | none => s
    | some l =>
      let p := l.project n e
      let v := (vn * l.dn + ve * l.de, ve * l.dn - vn * l.de)
      s.modCtl (fun c => { c with trackLeg := i, trackEnd := false, along := (p.1, v.1), cross := (p.2, v.2) })

/-- R135: the swap commands of a frame take effect. -/
def State.swapDecide (s : State) : State :=
  let qs := s.ctl.swapReq
  let s := s.modCtl (fun c => { c with swapReq := [], trackBank := (c.trackBank + qs.length) % 2 })
  let s := s.each qs (fun q s => s.resultOpt q 0 [])
  if qs = [] ∨ s.actMode ≠ 5 then s
  else
    let here := match s.fus.epoch with | some e => ((e.n : Rat), (e.e : Rat)) | none => (s.ctl.refPos.1, s.ctl.refPos.2.1)
    s.trackStart here s.ctl.refPos.1 s.ctl.refPos.2.1 s.ctl.refVel.1 s.ctl.refVel.2.1

/-- R136: the offset commands of a frame, in the order received. -/
def State.offsetDecide (s : State) : State :=
  let qs := s.ctl.tgtOffReq
  let s := s.modCtl (fun c => { c with tgtOffReq := [] })
  s.each qs (fun x s => (s.modCtl (fun c => { c with tgtOff := x.1 })).resultOpt x.2 0 [])

/-- R116: the origin moves by a vector in mm: positions of the estimate, its history and the fixed points keep their place. -/
def State.shiftOrigin (s : State) (d : Rat × Rat) : State :=
  let put := fun (x : List Rat) => match x with
    | n :: e :: r => (n + d.1 / 1000) :: (e + d.2 / 1000) :: r
    | x => x
  let s : State := { s with fus := { s.fus with obs := put s.fus.obs, hist := s.fus.hist.map (fun h => { h with x := put h.x }) } }
  s.each (List.range 16) (fun k s => s.modSrc k (fun x => { x with fixed := x.fixed.map (fun f => (f.1 + d.1, f.2 + d.2)) }))

/-- R116: the origin moves take effect. -/
def State.originDecide (s : State) : State :=
  let qs := s.ctl.originReq
  let s := s.modCtl (fun c => { c with originReq := [] })
  s.each qs fun x s =>
    let s := match s.fus.origin with
      | some o => s.shiftOrigin (geoLocal s.unitBits x.1 o.1 o.2)
      | none => s
    let gen := if s.fus.origin.isSome then (s.fus.originGen + 1) % 65536 else s.fus.originGen
    let s : State := { s with fus := { s.fus with origin := some x.1, originGen := gen } }
    s.resultOpt x.2 0 []

/-- R144: the host flag of a frame takes effect; an engagement that ends starts the ramp of R142. -/
def State.compDecide (s : State) : State :=
  let qs := s.ctl.compReq
  let was := s.engaged
  let s := s.modCtl (fun c => { c with compReq := [] })
  let s := s.each qs (fun x s => (s.modCtl (fun c => { c with compFlag := x.1 })).resultOpt x.2 0 [])
  if was ∧ ¬ s.engaged ∧ s.ctl.compHold ∧ s.ctl.compExit.isNone then s.compRamp else s

/-- DIN_EDGE (R395): with what follows for compensation (R142) and for retractable thrusters (Table 7-3). -/
def State.dinEdge (s : State) (i : Nat) (level : Bool) : State :=
  let was := s.engaged
  let s := s.dinSet i level
  let s := if was ∧ ¬ s.engaged ∧ s.ctl.compHold ∧ s.ctl.compExit.isNone then s.compRamp else s
  s.each (List.range s.thrCount) fun k s => match s.thrCfg k with
    | some c => if c.kind = .retractable ∧ c.deployed = some i ∧ !level then s.thrRemove k 5 false else s
    | none => s

/-- COMP_EXIT_END (R142, R144): the set-points have reached their park values. -/
def State.compExitEnd (s : State) : State :=
  if s.ctl.compExit.isSome then s.modCtl (fun c => { c with compExit := none, compHold := false }) else s

/-- The commands of control that wait for a frame start, in their order: the host flag, the mode, the drop of R142, then
set-points, offsets, tracks and the origin. -/
def State.ctlFrame (s : State) : State :=
  s.compDecide.modeDecide.modeDrop.setpointDecide.offsetDecide.swapDecide.originDecide

/-! Management commands (Table 18-3). -/

/-- Operands of a command as its body. -/
def setpointBody (axes rel : Byte) (n e psi speed : Int) : List Byte :=
  [axes, rel, 0, 0] ++ le32 (ofInt32 n) ++ le32 (ofInt32 e) ++ le32 (ofInt32 psi) ++ le32 (ofInt32 speed)

/-- A waypoint in 16 bytes. -/
def Waypoint.bytes (w : Waypoint) : List Byte :=
  le32 (ofInt32 w.n) ++ le32 (ofInt32 w.e) ++ leBytes 2 w.speed ++ [BitVec.ofNat 8 w.rule, 0] ++ leBytes 4 w.psi

/-- TRACK_WRITE (R135): waypoints into the shadow bank; they may not leave its 32 places. -/
def State.trackWrite (s : State) (first : Nat) (pts : List Waypoint) : State :=
  let put := fun (t : List Waypoint) =>
    (List.range (max t.length (first + pts.length))).map (fun i =>
      if first ≤ i ∧ i < first + pts.length then pts.getD (i - first) ⟨0, 0, 0, 0, 0⟩ else t.getD i ⟨0, 0, 0, 0, 0⟩)
  if s.ctl.trackBank = 0 then s.modCtl (fun c => { c with track1 := put c.track1 })
  else s.modCtl (fun c => { c with track0 := put c.track0 })

/-- The calibration state of a slot, row and element (R110). -/
def State.calIndex (s : State) (slot state elem : Nat) : Option Nat :=
  s.fusCfg.bind (fun c => c.cal.findIdx? (fun d => decide (d.slot = slot ∧ d.state = state ∧ d.elem = elem)))

/-- CTL_MODECMD_WRITE (R148). -/
def execCtlModecmdWrite (value : Word) (s : State) : Host.Outcome State Fault Refusal :=
  .next (s.running (fun s => s.modecmdWrite value))
/-- MODE (R31, R141): a code above 11 is answered at once. -/
def execMode (r : Req) (code : Byte) (s : State) : Host.Outcome State Fault Refusal :=
  .next (s.command r 0x10 (modeBody code) {} (onlyCommanding fun s =>
    if 11 < code.toNat then (s.modeCmd code.toNat none, cmdResp 0 0 3 [])
    else (s.modeCmd code.toNat (some (reqRef r 0x10)), respPending [])))
/-- SETPOINT (R134). -/
def execSetpoint (r : Req) (axes rel : Byte) (n e psi speed : Int) (s : State) : Host.Outcome State Fault Refusal :=
  let b := setpointBody axes rel n e psi speed
  .next (s.command r 0x11 b {} (onlyCommanding fun s =>
    if 15 < axes.toNat ∨ 1 < rel.toNat then (s, respStatus 3 0) else
    let q : SpReq := { axes := axes.toNat % 16, rel := rel = 1, n := (ofInt32 n).toInt, e := (ofInt32 e).toInt
                       psi := (ofInt32 psi).toInt, speed := (ofInt32 speed).toInt, req := some (reqRef r 0x11) }
    ((s.modCtl (fun c => { c with spReq := c.spReq ++ [q] })).forward 0x11 (cmdBody 0x11 b), respPending [])))
/-- TARGET_OFFSET (R136). -/
def execTargetOffset (r : Req) (dn de dpsi : Int) (s : State) : Host.Outcome State Fault Refusal :=
  let b := le32 (ofInt32 dn) ++ le32 (ofInt32 de) ++ le32 (ofInt32 dpsi)
  .next (s.command r 0x12 b {} (onlyCommanding fun s =>
    let x := ((ofInt32 dn).toInt, (ofInt32 de).toInt, (ofInt32 dpsi).toInt)
    ((s.modCtl (fun c => { c with tgtOffReq := c.tgtOffReq ++ [(x, some (reqRef r 0x12))] })).forward 0x12 (cmdBody 0x12 b),
      respPending [])))
/-- TRACK_WRITE (R135). -/
def execTrackWrite (r : Req) (first : Byte) (points : List Waypoint) (s : State) : Host.Outcome State Fault Refusal :=
  let b := [first, BitVec.ofNat 8 points.length, 0, 0] ++ (points.map Waypoint.bytes).flatten
  .next (s.command r 0x13 b {} (onlyCommanding fun s =>
    if points.length = 0 ∨ 8 < points.length ∨ 32 < first.toNat + points.length ∨ ¬ points.all Waypoint.ok then (s, respStatus 3 0)
    else ((s.trackWrite first.toNat points).forward 0x13 (cmdBody 0x13 b), respOk [])))
/-- TRACK_SWAP (R135). -/
def execTrackSwap (r : Req) (s : State) : Host.Outcome State Fault Refusal :=
  .next (s.command r 0x14 [] {} (onlyCommanding fun s =>
    ((s.modCtl (fun c => { c with swapReq := c.swapReq ++ [some (reqRef r 0x14)] })).forward 0x14 (cmdBody 0x14 []), respPending [])))
/-- ORIGIN_MOVE (R116): in any mode while no origin is set, otherwise in STANDBY, LEVER and JOYSTICK alone. -/
def execOriginMove (r : Req) (lat lon : Int) (s : State) : Host.Outcome State Fault Refusal :=
  let b := le32 (ofInt32 lat) ++ le32 (ofInt32 lon)
  .next (s.command r 0x15 b {} (onlyCommanding fun s =>
    if s.fus.origin.isSome ∧ 2 < s.mode then (s, respRefused 0)
    else
      let x := ((ofInt32 lat).toInt, (ofInt32 lon).toInt)
      ((s.modCtl (fun c => { c with originReq := c.originReq ++ [(x, some (reqRef r 0x15))] })).forward 0x15 (cmdBody 0x15 b),
        respPending [])))
/-- CAL_FREEZE (R111). -/
def execCalFreeze (r : Req) (freeze : Byte) (s : State) : Host.Outcome State Fault Refusal :=
  .next (s.command r 0x16 [freeze, 0, 0, 0] {} (onlyCommanding fun s =>
    ((s.modCtl (fun c => { c with freezeReq := c.freezeReq ++ [(decide (freeze ≠ 0), some (reqRef r 0x16))] })).forward 0x16
      (cmdBody 0x16 [freeze, 0, 0, 0]), respPending [])))
/-- CAL_WRITE (R113). -/
def execCalWrite (r : Req) (slot state elem : Byte) (value : Int) (s : State) : Host.Outcome State Fault Refusal :=
  let b := [slot, state, elem, 0] ++ le32 (ofInt32 value)
  .next (s.command r 0x17 b {} (onlyCommanding fun s =>
    let x := (slot.toNat, state.toNat, elem.toNat, (ofInt32 value).toInt)
    if (s.calIndex x.1 x.2.1 x.2.2.1).isNone then (s, respStatus 3 0) else
    ((s.modCtl (fun c => { c with calReq := c.calReq ++ [(x, some (reqRef r 0x17))] })).forward 0x17 (cmdBody 0x17 b),
      respPending [])))
/-- CAL_READ (R113): the value in force. -/
def execCalRead (r : Req) (slot state elem : Byte) (s : State) : Host.Outcome State Fault Refusal :=
  .next (s.command r 0x18 [slot, state, elem, 0] {} (fun s => match s.fusCfg, s.calIndex slot.toNat state.toNat elem.toNat with
    | some c, some i => (s, respOk (le32 (satInt32 (roundRat ((s.calVals c).getD i 0)))))
    | _, _ => (s, respStatus 3 0)))
/-- COMP_ENGAGED (R144). -/
def execCompEngaged (r : Req) (flag : Byte) (s : State) : Host.Outcome State Fault Refusal :=
  .next (s.command r 0x19 [flag, 0, 0, 0] {} (onlyCommanding fun s =>
    ((s.modCtl (fun c => { c with compReq := c.compReq ++ [(decide (flag ≠ 0), some (reqRef r 0x19))] })).forward 0x19
      (cmdBody 0x19 [flag, 0, 0, 0]), respPending [])))
/-- COMP_EXIT_END (R144). -/
def execCompExitEnd (s : State) : Host.Outcome State Fault Refusal := .next (s.running State.compExitEnd)
/-- DIN_EDGE (R395). -/
def execDinEdge (i : Fin 64) (level : Bool) (s : State) : Host.Outcome State Fault Refusal :=
  .next (s.running (fun s => s.dinEdge i level))

end Sys2Proof.Machine
end

