-- ==== Sys2Proof/Machine/Mpc.lean ====
section
/-!
DEFINITION. Sys2Proof/Machine/Mpc.lean: reference models (R133, R135) and the MPC problem (R120 to R127): the model, its limits,
weights and start points.
-/
namespace Sys2Proof.Machine

/-! The time-optimal profile (R133). -/

/-- R133: one axis of a reference for a time `dt`: the distance `d` still to go and the velocity `v`, with limits `vm` and `am`, on
the time-optimal trapezoid; the distance left and the velocity then.  It ends exactly at the set-point. -/
def profileStep (d v vm am dt : Rat) : Rat × Rat :=
  let ds := v * |v| / (2 * am)
  let sg : Rat := if ds < d ∨ (d = ds ∧ 0 < v) then 1 else -1
  let dist := sg * d
  let v0 := sg * v
  let top := sqrtAt 21 (max 0 (am * dist + v0 * v0 / 2))
  let vp := if vm < top then vm else top
  let t1 := |vp - v0| / am
  let x1 := (v0 + vp) / 2 * t1
  let t3 := vp / am
  let t2 := if 0 < vp then max 0 ((dist - x1 - vp * t3 / 2) / vp) else 0
  let left := t1 + t2 + t3 - dt
  if am ≤ 0 ∨ vm ≤ 0 then (d, 0)
  else if left ≤ 0 then (0, 0)
  else if dt ≤ t1 then
    let a := if v0 < vp then am else -am
    (sg * (dist - v0 * dt - a * dt * dt / 2), sg * (v0 + a * dt))
  else if dt ≤ t1 + t2 then (sg * (dist - x1 - vp * (dt - t1)), sg * vp)
  else (sg * (am * left * left / 2), sg * (am * left))

/-! References (R132, R133, R135). -/

/-- R133: the reference-model limits of the present mode. -/
def State.refLimits (s : State) : (Rat × Rat × Rat) × (Rat × Rat × Rat) := match s.ctlCfg with
  | none => ((0, 0, 0), (0, 0, 0))
  | some c => (c.vMax, c.aMax)

/-- An angle's difference in 2⁻³² turn, on the shorter arc. -/
def arc32 (d : Rat) : Rat := arcDiff (2 ^ 32) d

/-- R133: the surge and sway references move toward the set-point for a time `dt`, at a heading in 2⁻³² turn. -/
def State.planeStep (s : State) (psi : Int) (dt : Rat) : State :=
  let (vm, am) := s.refLimits
  let d := toBody s.unitBits psi ((s.ctl.sp.1 : Rat) - s.ctl.refPos.1) ((s.ctl.sp.2.1 : Rat) - s.ctl.refPos.2.1)
  let v := toBody s.unitBits psi s.ctl.refVel.1 s.ctl.refVel.2.1
  let x := profileStep d.1 v.1 vm.1 am.1 dt
  let y := profileStep d.2 v.2 vm.2.1 am.2.1 dt
  let left := toLocal s.unitBits psi x.1 y.1
  let vel := toLocal s.unitBits psi x.2 y.2
  s.modCtl (fun c => { c with
    refPos := ((c.sp.1 : Rat) - left.1, (c.sp.2.1 : Rat) - left.2, c.refPos.2.2), refVel := (vel.1, vel.2, c.refVel.2.2) })

/-- R133: the heading reference moves for a time `dt`, on the shorter arc. -/
def State.headStep (s : State) (dt : Rat) : State :=
  let (vm, am) := s.refLimits
  let x := profileStep (arc32 ((s.ctl.sp.2.2.1 : Rat) - s.ctl.refPos.2.2)) s.ctl.refVel.2.2 vm.2.2 am.2.2 dt
  s.modCtl (fun c => { c with
    refPos := (c.refPos.1, c.refPos.2.1, (c.sp.2.2.1 : Rat) - x.1), refVel := (c.refVel.1, c.refVel.2.1, x.2) })

/-- R133: in TRANSIT_PILOT the speed reference moves toward the speed set-point within A_MAX. -/
def State.speedStep (s : State) (dt : Rat) : State :=
  let d := s.refLimits.2.1 * dt
  let aim : Rat := (s.ctl.sp.2.2.2 : Rat) / 1000
  let v := s.ctl.refVel.1
  s.modCtl (fun c => { c with refVel := (clampRat (v - d) (v + d) aim, c.refVel.2) })

/-- R135: the reference advances along the track for a time `dt`. -/
def State.trackStep (s : State) (dt : Rat) : State :=
  let t := s.track
  let ls := legsOf t
  let i := s.ctl.trackLeg
  match ls[i]?, t[i]? with
  | some l, some w =>
    let (vm, am) := s.refLimits
    let left := ((ls.drop i).map (·.len)).foldl (· + ·) 0
    let a := profileStep (left - s.ctl.along.1) s.ctl.along.2 (min w.speed vm.1) am.1 dt
    let at_ := left - a.1
    let x := profileStep (-s.ctl.cross.1) s.ctl.cross.2 vm.2.1 am.2.1 dt
    let off := -x.1
    let next : Bool := decide (l.len ≤ at_ ∧ i + 1 < ls.length)
    let done : Bool := decide (i + 1 = ls.length ∧ l.len ≤ at_ ∧ a.2 = 0)
    let psi : Int := if w.rule = 1 then w.psi else roundRat (angleAt l.dn l.de * 2 ^ 32) % 2 ^ 32
    let last := t.getD (t.length - 1) ⟨0, 0, 0, 0, 0⟩
    s.modCtl (fun c => { c with
      refPos := (l.n + at_ * l.dn - off * l.de, l.e + at_ * l.de + off * l.dn, c.refPos.2.2)
      refVel := (a.2 * l.dn - x.2 * l.de, a.2 * l.de + x.2 * l.dn, c.refVel.2.2)
      along := if next then (at_ - l.len, a.2) else (at_, a.2), cross := (off, x.2)
      trackLeg := if next then i + 1 else i, trackEnd := c.trackEnd || done
      sp := (last.n, last.e, psi, c.sp.2.2.2) })
  | _, _ => s

/-- R133, R135: the references of the held axes move for a time `dt`. -/
def State.refMove (s : State) (psi : Int) (dt : Rat) : State :=
  let m := s.actMode
  if m = 5 then (s.trackStep dt).headStep dt
  else
    let h := heldAxes m
    let s := if h % 2 = 1 then s.planeStep psi dt else s
    let s := if h / 8 % 2 = 1 then s.speedStep dt else s
    if h / 4 % 2 = 1 then s.headStep dt else s

/-- The references over the horizon: position and velocity now and at each of `k` later steps of 0.5 s. -/
def refsAhead (psi : Int) : Nat → State → List ((Rat × Rat × Rat) × (Rat × Rat × Rat))
  | 0, s => [(s.ctl.refPos, s.ctl.refVel)]
  | k + 1, s => (s.ctl.refPos, s.ctl.refVel) :: refsAhead psi k (s.refMove psi (1 / 2))

/-! The model (R121).  SI units; three positions, three velocities and three actuator forces in the body frame at ψ0. -/

/-- R121: T_act of the axes: the largest thrust time constant among the thrusters that act on each. -/
def State.actTau (s : State) : Rat × Rat × Rat :=
  let most := fun (p : ThrCfg → Bool) => ((s.fleet.map (·.2.1)).filter p).foldl (fun (a : Rat) c => max a c.tau) 0
  (most (fun c => decide (c.kind ≠ .tunnel)), most (fun _ => true), most (fun _ => true))

/-- An entry of a 3 × 3 matrix. -/
def ent (m : List (List Rat)) (i j : Nat) : Rat := (m.getD i []).getD j 0

/-- R121: C(ν)ν linearised about ν₀: its derivative; its constant part is −C(ν₀)ν₀. -/
def coriolis (m : List (List Rat)) (u v r : Rat) : List (List Rat) × List Rat :=
  let a1 := ent m 0 0 * u + ent m 0 1 * v + ent m 0 2 * r
  let a2 := ent m 1 0 * u + ent m 1 1 * v + ent m 1 2 * r
  let d := fun (i j : Nat) => if i = j then (1 : Rat) else 0
  ((List.range 3).map (fun i => (List.range 3).map (fun k =>
      if i = 0 then -(ent m 1 k * r) - a2 * d k 2
      else if i = 1 then ent m 0 k * r + a1 * d k 2
      else ent m 1 k * u + a2 * d k 0 - ent m 0 k * v - a1 * d k 1)),
   [-(a2 * r), a1 * r, a2 * u - a1 * v])

/-- R121, R137: the discrete model of an epoch: Φ over nine states, Γ over three commands, and the constant drive.  `px`, `py` is
the point whose position is held, m. -/
def mpcModel (o : ObsCfg) (tau : Rat × Rat × Rat) (nu : Rat × Rat × Rat) (dist : Rat × Rat × Rat) (px py : Rat) :
    List Vec × List Vec × Vec :=
  let inv := inv3 o.mass
  let (cj, c0) := coriolis o.mass nu.1 nu.2.1 nu.2.2
  let dj := matAdd 1 (matOf o.damp) (matOf cj)
  let pos := [vecFrom 3 [1, 0, -py], vecFrom 3 [0, 1, px], vecFrom 3 [0, 0, 1]]
  let vel := matMul inv (matAdd 1 ((matScale (-1) dj).map (fun r => r.map (fun e => (e.1 + 3, e.2)))) [[(6, 1)], [(7, 1)], [(8, 1)]])
  let lag := [1 / tau.1, 1 / tau.2.1, 1 / tau.2.2]
  let act := lag.zipIdx.map (fun (k, i) => vecFrom (6 + i) [-k])
  let push := matMul inv [vecFrom 3 [dist.1 + c0.getD 0 0], vecFrom 3 [dist.2.1 + c0.getD 1 0], vecFrom 3 [dist.2.2 + c0.getD 2 0]]
  let g := [[], [], []] ++ push ++ lag.zipIdx.map (fun (k, i) => vecFrom i [k])
  let (phi, gam) := discretise (pos ++ vel ++ act) g 4 (1 / 2)
  (phi, gam.map (fun r => r.filter (fun e => decide (e.1 < 3))), vecFrom 0 (gam.map (fun r => r.get 3)))

/-! Weights (R126, R127, R138). -/

/-- Table 5-2: the natural period of a stiffness. -/
def naturalPeriod (k : Nat) : Rat := ([160, 140, 120, 105, 90, 80, 70, 60, 50, 40] : List Rat).getD (k - 1) 160

/-- The weights of a solve: Q_p, Q_v, R, R_Δ, and those of step 63. -/
structure Weights where
  qp : List (List Rat)
  qv : List (List Rat)
  r : List (List Rat)
  rd : List (List Rat)
  tp : List (List Rat)
  tv : List (List Rat)

/-- A diagonal 3 × 3 matrix. -/
def diag3 (a b c : Rat) : List (List Rat) := [[a, 0, 0], [0, b, 0], [0, 0, c]]

/-- A full matrix times a number. -/
def fullScale (k : Rat) (m : List (List Rat)) : List (List Rat) := m.map (fun r => r.map (k * ·))

/-- R126, R127: the weights in basic or expert form. -/
def weightsOf (m : List (List Rat)) (tau : Rat × Rat × Rat) : MpcWeights → Weights
  | .stiffness x y n =>
    let w2 := fun (k : Nat) => let w := twoPi / naturalPeriod k; w * w
    let p := fun (i k : Nat) => let a := ent m i i * w2 k; a * a
    let v := fun (i k : Nat) => 56 / 100 * ent m i i * ent m i i * w2 k
    let qp := diag3 (p 0 x) (p 1 y) (p 2 n)
    let qv := diag3 (v 0 x) (v 1 y) (v 2 n)
    { qp := qp, qv := qv, r := diag3 1 1 1, rd := diag3 (tau.1 * tau.1) (tau.2.1 * tau.2.1) (tau.2.2 * tau.2.2)
      tp := fullScale 10 qp, tv := fullScale 10 qv }
  | .expert qp qv r rd qt =>
    let t := qt.getD (fullScale 10 qp, fullScale 10 qv)
    { qp := qp, qv := qv, r := r, rd := rd, tp := t.1, tv := t.2 }

/-- A matrix with the rows and columns of some axes 0. -/
def freeAxes (free : List Nat) (m : List (List Rat)) : List (List Rat) :=
  m.zipIdx.map (fun (r, i) => r.zipIdx.map (fun (x, j) => if i ∈ free ∨ j ∈ free then 0 else x))

/-- R138, Table 5-6: the weights as a mode applies them: those of a Free axis are 0.  In TRANSIT_PILOT the position of sway is free,
and its other weights are the overlay's (log entry 140). -/
def modeWeights (m : Nat) (w : Weights) : Weights :=
  if m = 3 then
    let f := freeAxes [0, 1]
    { qp := f w.qp, qv := f w.qv, r := f w.r, rd := f w.rd, tp := f w.tp, tv := f w.tv }
  else if m = 8 then { w with qp := freeAxes [1] w.qp, tp := freeAxes [1] w.tp }
  else w

/-! The problem (R121 to R127): for each step the nine states after it, then its three commands. -/

/-- The block of a cost eᵀ Q e on three of a step's variables, given by their rows. -/
def costBlock (rows : List Vec) (q : List (List Rat)) : List Vec := matMul (matT 9 rows) (matMul (matOf q) rows)

/-- What the MPC of a period takes from its epoch, in SI units and the body frame at ψ0. -/
structure MpcInput where
  phi : List Vec
  gam : List Vec
  push : Vec
  x0 : List Rat
  f0 : Rat × Rat × Rat
  /-- References over the horizon: position from the epoch's, velocity; the surge speed in TRANSIT_PILOT. -/
  refs : List (Rat × Rat × Rat)
  vels : List (Rat × Rat × Rat)
  weights : Weights
  transit : Bool
  box : Rat × Rat × Rat
  rate : Rat × Rat × Rat

/-- A triple as a list. -/
def list3 {α : Type} (x : α × α × α) : List α := [x.1, x.2.1, x.2.2]

/-- The quadratic cost: its matrix and its linear term, from weights on the errors, the commands and their changes. -/
def mpcCost (p : MpcInput) : List Vec × Vec :=
  let posRows : List Vec := [if p.transit then [(3, 1)] else [(0, 1)], [(1, 1)], [(2, 1)]]
  let velRows : List Vec := [[(3, 1)], [(4, 1)], [(5, 1)]]
  let w := p.weights
  let rd2 := fun (k : Rat) => matScale k (matOf w.rd)
  let at_ := fun (k : Nat) (m : List Vec) => m.map (fun r => r.map (fun e => (e.1 + k, e.2)))
  let steps := List.range 64
  let blk := fun (last : Bool) => matAdd 1 (costBlock posRows (if last then w.tp else w.qp)) (costBlock velRows (if last then w.tv else w.qv))
  let body := matScale 2 (blk false)
  let tail := matScale 2 (blk true)
  let mat := steps.flatMap (fun j =>
    at_ (12 * j) (if j = 63 then tail else body) ++
      (List.range 3).map (fun c =>
        let own := (matAdd 1 (matScale 2 (matOf w.r)) (rd2 (if j = 63 then 2 else 4))).getD c []
        let side := (rd2 (-2)).getD c []
        vecSum [own.map (fun e => (e.1 + 12 * j + 9, e.2)),
          if j = 63 then [] else side.map (fun e => (e.1 + 12 * j + 21, e.2)),
          if j = 0 then [] else side.map (fun e => (e.1 + 12 * j - 3, e.2))]))
  let lin := steps.flatMap (fun j =>
    let v := p.vels.getD (j + 1) (0, 0, 0)
    let qp := if j = 63 then w.tp else w.qp
    let qv := if j = 63 then w.tv else w.qv
    let aim := vecFrom 0 [if p.transit then v.1 else 0, 0, 0]
    let t := vecAdd 1 (vecMat (matVec (matOf qp) aim) posRows) (vecMat (matVec (matOf qv) (vecFrom 0 (list3 v))) velRows)
    (vecList 9 t).map (-2 * ·) ++
      (if j = 0 then (vecList 3 (matVec (matOf w.rd) (vecFrom 0 (list3 p.f0)))).map (-2 * ·) else [0, 0, 0]))
  (mat, vecFrom 0 lin)

/-- The dynamics rows: xⱼ₊₁ − Φ xⱼ − Γ uⱼ = the constant drive and the reference's own motion. -/
def mpcDynamics (p : MpcInput) : List (Vec × Option Rat × Option Rat) :=
  let x0 := vecFrom 0 p.x0
  (List.range 64).flatMap (fun j =>
    let r := list3 (p.refs.getD j (0, 0, 0))
    let r' := list3 (p.refs.getD (j + 1) (0, 0, 0))
    (List.range 9).map (fun i =>
      let f := p.phi.getD i []
      let row := vecSum [if j = 0 then [] else f.map (fun e => (e.1 + 12 * (j - 1), -e.2)), [(12 * j + i, 1)],
        (p.gam.getD i []).map (fun e => (e.1 + 12 * j + 9, -e.2))]
      let c := p.push.get i + (if i < 3 then r.getD i 0 - r'.getD i 0 else 0) + (if j = 0 then vecDot f x0 else 0)
      (row, some c, some c)))

/-- R122, R170: the force-rate rows; that of step 0 is moved just far enough to meet the force box.  The second value tells a
conflict. -/
def mpcRates (p : MpcInput) : List (Vec × Option Rat × Option Rat) × Bool :=
  let b := list3 p.box
  let d := list3 p.rate
  let f := list3 p.f0
  let first := (List.range 3).map (fun i => meet (-(b.getD i 0)) (b.getD i 0) (f.getD i 0) (d.getD i 0))
  let lo := fun (i : Nat) => min (f.getD i 0 - d.getD i 0) (b.getD i 0)
  let hi := fun (i : Nat) => max (f.getD i 0 + d.getD i 0) (-(b.getD i 0))
  ((List.range 64).flatMap (fun j => (List.range 3).map (fun i =>
      if j = 0 then ([(9 + i, 1)], some (lo i), some (hi i))
      else ([(12 * j - 3 + i, -1), (12 * j + 9 + i, 1)], some (-(d.getD i 0)), some (d.getD i 0)))),
   first.any (·.2.2))

/-- The states that a command sequence leads to, step by step, each with its commands. -/
def simulate (p : MpcInput) : List (Rat × Rat × Rat) → Nat → Vec → List Rat
  | [], _, _ => []
  | u :: us, j, x =>
    let r := list3 (p.refs.getD j (0, 0, 0))
    let r' := list3 (p.refs.getD (j + 1) (0, 0, 0))
    let move := vecFrom 0 ((r.zip r').map (fun (a, b) => a - b))
    let y := vecSum [matVec p.phi x, matVec p.gam (vecFrom 0 (list3 u)), p.push, move]
    vecList 9 y ++ list3 u ++ simulate p us (j + 1) y

/-- Table 6-5: a sequence of blocks of `k` values shifted by one fifth of a step, the last block held. -/
def shiftBlocks (k : Nat) (l : List Rat) : List Rat :=
  (List.range 64).flatMap (fun j => (List.range k).map (fun i =>
    let a := l.getD (k * j + i) 0
    if j = 63 then a else 4 / 5 * a + 1 / 5 * l.getD (k * (j + 1) + i) 0))

/-- Table 6-5: the WARM start of the MPC: the previous best x, z and y, shifted by one period. -/
def mpcWarm (i : Iterate) : List Rat × List Rat × List Rat :=
  let rows := fun (l : List Rat) => shiftBlocks 9 l ++ shiftBlocks 3 (l.drop 576) ++ shiftBlocks 3 (l.drop 768)
  (shiftBlocks 12 i.raw, rows i.z, rows i.y)

/-- The commands that a plan carries. -/
def planCommands (p : Option Plan) : List (Rat × Rat × Rat) := match p with
  | some p => p.steps.map (fun x => ((x.1 : Rat), (x.2.1 : Rat), (x.2.2 : Rat)))
  | none => []

/-- R121, R122: the problem of a period. -/
def mpcProblem (p : MpcInput) (flags : Bool × Bool) (plan : Option Plan) : Problem :=
  let (mat, lin) := mpcCost p
  let (rates, conf) := mpcRates p
  let b := list3 p.box
  let held := List.replicate 64 p.f0
  let given := planCommands plan
  { qp := { n := 768, p := mat, q := lin, rows := mpcDynamics p ++ rates
            box := (List.range 64).flatMap (fun j => (List.range 3).map (fun i => (12 * j + 9 + i, -(b.getD i 0), b.getD i 0))) }
    dem := (0, 0, 0), conf := conf, flags := flags, unitP := [], unitQ := [], warm := mpcWarm
    primal := simulate p (if given.length = 64 then given else held) 0 (vecFrom 0 p.x0)
    cold := simulate p held 0 (vecFrom 0 p.x0) }

/-! What the problem takes from the state. -/

/-- R122: each axis's sum of thruster rate limits times CAP_FRAC, for a step of 0.5 s. -/
def State.rateBox (s : State) : Rat × Rat × Rat :=
  let k : Rat := (match s.ctlCfg with | some c => c.capFrac | none => 1) / 2
  let here := fun i => (s.thr i).present
  (k * s.sumThr here (fun _ c => if c.kind = .tunnel then 0 else c.tDot), k * s.sumThr here (fun _ c => c.tDot),
    k * s.sumThr here (fun _ c => c.tDot * (c.x.natAbs : Nat) / 1000))

/-- An epoch's velocities, m/s and rad/s. -/
def epochVel (e : Epoch) : Rat × Rat × Rat := ((e.u : Rat) / 1000000, (e.v : Rat) / 1000000, (e.rate : Rat) * twoPi / 2 ^ 32)

/-- R120: the weights of a solve: the mode's, or for a shadow plan those of the base configuration. -/
def State.weightCfg (s : State) (c : CtlCfg) : MpcWeights :=
  if dpMode s.actMode then c.weights
  else match s.cfgBase with | some b => b.ctl.weights | none => c.weights

/-- R120 to R127, R137, R145: what the MPC takes from the epoch of its period. -/
def State.mpcInput (s : State) (c : CtlCfg) (o : ObsCfg) (e : Epoch) : MpcInput :=
  let n := s.unitBits
  let m := s.actMode
  let dp := dpMode m
  let pv := if m = 7 then (c.pivot.1 / 1000, c.pivot.2 / 1000) else (0, 0)
  let nu := epochVel e
  let tau := s.actTau
  let b := toBody n e.psi e.bn e.be
  let l := if m = 9 then s.lineForce e else (0, 0, 0)
  let dist := (b.1 + e.wind.1 + l.1, b.2 + e.wind.2.1 + l.2.1, (e.bpsi : Rat) + e.wind.2.2 + l.2.2)
  let (phi, gam, push) := mpcModel o tau nu dist pv.1 pv.2
  let f := s.actuatorForces
  let f0 : Rat × Rat × Rat := (f.1, f.2.1, f.2.2)
  let here := toLocal n e.psi (1000 * pv.1) (1000 * pv.2)
  let ahead := if dp then refsAhead e.psi 64 s else []
  let rp := fun (x : Rat × Rat × Rat) =>
    let d := toBody n e.psi (x.1 - e.n - here.1) (x.2.1 - e.e - here.2)
    (d.1 / 1000, d.2 / 1000, arc32 (x.2.2 - e.psi) * twoPi / 2 ^ 32)
  let rv := fun (x : Rat × Rat × Rat) =>
    let d := if m = 8 then (x.1, x.2.1) else toBody n e.psi x.1 x.2.1
    (d.1 / 1000, d.2 / 1000, x.2.2 * twoPi / 2 ^ 32)
  let refs := if dp then ahead.map (fun x => rp x.1) else []
  let r0 := refs.getD 0 (0, 0, 0)
  { phi := phi, gam := gam, push := push
    x0 := [-r0.1, -r0.2.1, -r0.2.2, nu.1, nu.2.1, nu.2.2, f0.1, f0.2.1, f0.2.2], f0 := f0
    refs := refs, vels := if dp then ahead.map (fun x => rv x.2) else List.replicate 65 nu
    weights := modeWeights (if dp then m else 4) (weightsOf o.mass tau (s.weightCfg c))
    transit := decide (m = 8), box := s.ctl.box, rate := s.rateBox }

end Sys2Proof.Machine
end

