-- ==== Sys2Proof/Machine/Control.lean ====
section
/-!
DEFINITION. Sys2Proof/Machine/Control.lean: the MPC period and its plan, references, the demand of a frame, and the emission of
control (R27, R28, R120 to R147).
-/
namespace Sys2Proof.Machine

/-! References (R132 to R137). -/

/-- An epoch's velocity in the local frame, mm/s. -/
def Epoch.localVel (n : Nat) (e : Epoch) : Rat × Rat := toLocal n e.psi ((e.u : Rat) / 1000) ((e.v : Rat) / 1000)

/-- R27: an epoch predicted to an instant. -/
def Epoch.predict (n : Nat) (e : Epoch) (t : Nat) : Epoch :=
  let dt : Rat := ((t : Int) - e.t : Int) / (1000000000 : Rat)
  let v := e.localVel n
  { e with t := t, n := e.n + roundRat (v.1 * dt), e := e.e + roundRat (v.2 * dt),
           psi := (e.psi + roundRat ((e.rate : Rat) * dt)) % 2 ^ 32 }

/-- R132: the entry of a mode takes the set-points it holds, and the references, from the entry frame's epoch.  In WEATHERVANE
the position is that of the pivot point (R137); in TRANSIT_PILOT the first velocity is the surge speed. -/
def State.refEnter (s : State) (e : Epoch) : State :=
  let m := s.ctl.spEntry
  let p := s.heldPoint e
  let v := e.localVel s.unitBits
  let pick := fun (k : Nat) (a b : Int) => if m / 2 ^ k % 2 = 1 then a else b
  let s := s.modCtl (fun c => { c with
    sp := (pick 0 p.1 c.sp.1, pick 1 p.2 c.sp.2.1, pick 2 e.psi c.sp.2.2.1, pick 3 e.u c.sp.2.2.2), spEntry := 0 })
  if s.ctl.refEntry then
    let s := s.modCtl (fun c => { c with
      refPos := (p.1, p.2, e.psi), refVel := if s.actMode = 8 then ((e.u : Rat) / 1000, 0, e.rate) else (v.1, v.2, e.rate)
      refEntry := false })
    if s.actMode = 5 then s.trackStart (p.1, p.2) p.1 p.2 v.1 v.2 else s
  else s

/-- R136: the set-point of FOLLOW_TARGET: the target and its offset; frozen while the target is lost. -/
def State.targetSp (s : State) : State := match s.ctlCfg.bind (·.target) with
  | none => s
  | some i =>
    let v := (s.src (28 + i)).val
    if s.ctl.tgtLost ∨ v.length < 3 then s
    else
      let psi := v.getD 2 0
      let off := s.ctl.tgtOff
      let c := cosAt s.unitBits (psi / 2 ^ 32)
      let d := sinAt s.unitBits (psi / 2 ^ 32)
      let n := v.getD 0 0 + off.1 * c - off.2.1 * d
      let e := v.getD 1 0 + off.1 * d + off.2.1 * c
      s.modCtl (fun c => { c with sp := (roundRat n, roundRat e, roundRat (psi + off.2.2) % 2 ^ 32, c.sp.2.2.2) })

/-- R137: the heading set-point of WEATHERVANE, filtered with T_WV and frozen below WV_FMIN. -/
def State.weatherSp (s : State) (e : Epoch) : State := match s.ctlCfg with
  | none => s
  | some c =>
    let w := toLocal s.unitBits e.psi e.wind.1 e.wind.2.1
    let fn : Rat := (e.bn : Rat) + w.1
    let fe : Rat := (e.be : Rat) + w.2
    if fn * fn + fe * fe < (c.wvFmin : Rat) * c.wvFmin then s
    else
      let aim := angleAt (-fn) (-fe) * 2 ^ 32
      let dt := s.frameS
      s.modCtl (fun x => { x with
        sp := (x.sp.1, x.sp.2.1, roundRat ((x.sp.2.2.1 : Rat) + arc32 (aim - x.sp.2.2.1) * dt / (c.wvTau + dt)) % 2 ^ 32, x.sp.2.2.2) })

/-- R132 to R137: the set-points and references of a frame in a DP mode. -/
def State.refStep (s : State) (e : Epoch) : State :=
  let s := s.refEnter e
  let s := if s.actMode = 6 then s.targetSp else if s.actMode = 7 then s.weatherSp e else s
  s.refMove e.psi s.frameS

/-- R133: a reference differs from its set-point. -/
def State.spMoving (s : State) : Bool :=
  let h := heldAxes s.actMode
  let c := s.ctl
  dpMode s.actMode && (decide (h % 2 = 1 ∧ (c.refPos.1 ≠ c.sp.1 ∨ c.refPos.2.1 ≠ c.sp.2.1)) ||
    decide (h / 4 % 2 = 1 ∧ arc32 ((c.sp.2.2.1 : Rat) - c.refPos.2.2) ≠ 0) ||
    decide (h / 8 % 2 = 1 ∧ c.refVel.1 * 1000 ≠ c.sp.2.2.2))

/-! The MPC period (R28, R120 to R123, R128). -/

/-- R26: frames in one MPC period of 100 ms. -/
def State.framesPerPeriod (s : State) : Nat := max 1 (100000000 / s.frameNs)

/-- A period starts with the present frame. -/
def State.periodFrame (s : State) : Bool := s.frame.count % s.framesPerPeriod = 0

/-- R245: the frame that the period's slot belongs to: the last one that starts before the plan deadline. -/
def State.periodSlot (s : State) : Nat :=
  s.frame.period * s.framesPerPeriod + (60000000 + s.frameNs - 1) / s.frameNs - 1

/-- R123: the force box of the period's present thrusters; also formed where a part has none yet. -/
def State.formBox (s : State) : State :=
  if s.periodFrame ∨ s.ctl.box = (0, 0, 0) then
    s.modCtl (fun c => { c with box := s.forceBox (fun i => (s.thr i).present) s.alc.sj })
  else s

/-- R171: what the period's plan record takes from its epoch. -/
def State.periodDataOf (s : State) (e : Epoch) : MpcData :=
  let l := if s.actMode = 9 then s.lineForce e else (0, 0, 0)
  { psi0 := e.psi, windX := e.wind.1, windY := e.wind.2.1, lineX := roundRat l.1, lineY := roundRat l.2.1
    sat := e.status / 2 ^ 15 % 2 = 1, domain := e.status / 2 ^ 17 % 2 = 1 }

/-- R120, R121, R171: the MPC of a period starts from the epoch of its first frame, once that is VALID.  Its discrete model and
weights are new in every period, so its matrix is refactorised (R158). -/
def State.mpcStart (s : State) (e : Epoch) : State := match s.ctlCfg, s.fusCfg with
  | some c, some f =>
    if e.t = s.frame.periodStart ∧ s.ownFrame ∧ e.status / 4 % 2 = 1 then
      let d := s.periodDataOf e
      let s := s.modCtl (fun c => { c with
        periodOn := true, periodT := e.t, planNew := none, periodMode := if dpMode s.actMode then s.actMode else 0
        periodData := d, periodStay := c.stays })
      (s.modInst 0 (fun x => { x with need := true })).slvStart 0 (mpcProblem (s.mpcInput c f.obs e) (d.sat, d.domain) s.ctl.plan)
    else s
  | _, _ => s

/-- Table 5-3: the plan record. -/
def Plan.bytes (p : Plan) : List Byte :=
  leBytes 8 p.t ++ leBytes 4 p.period ++ [BitVec.ofNat 8 p.mode, BitVec.ofNat 8 p.flags] ++ leBytes 2 p.iter ++
    le32 (ofInt32 p.psi0) ++ leBytes 4 p.resid ++ i32 p.windX ++ i32 p.windY ++
    (p.steps.map (fun x => i32 x.1 ++ i32 x.2.1 ++ i32 x.2.2)).flatten

/-- The steps of a plan from the variables of an MPC iterate, in physical units. -/
def planSteps (x : List Rat) : List (Int × Int × Int) :=
  (List.range 64).map (fun j =>
    (roundRat (x.getD (12 * j + 9) 0), roundRat (x.getD (12 * j + 10) 0), roundRat (x.getD (12 * j + 11) 0)))

/-- PLAN_PUBLISH (R128): the MPC solve stops; an eligible iterate becomes the plan of its period.  With none there is no plan, and
nothing is projected (Table 6-4). -/
def State.mpcPublish (s : State) (stop : Nat) : State :=
  let x := s.inst 0
  match x.best with
  | none => s.slvPublish 0 (statusWord x (s.barrier 0) 3 false false false) none
  | some i =>
    let w := statusWord x (s.barrier 0) stop false false false
    let s := s.slvPublish 0 w (some i.figures)
    if !s.ctl.periodOn then s
    else match s.ctlCfg with
      | some c =>
        let m := s.ctl.periodMode
        let d := s.ctl.periodData
        let p : Plan := {
          t := s.ctl.periodT, period := s.frame.period, mode := if m = 0 then 4 else m
          flags := flagBit (m = 0) 0 + flagBit (w / 8 % 2 = 1) 1 + flagBit (w / 16 % 2 = 1) 2 + flagBit (w / 32 % 2 = 1) 3
          iter := i.index % 65536, psi0 := d.psi0, resid := i.resid, windX := d.windX, windY := d.windY
          steps := planSteps (x.qp.physical i.x), lineX := d.lineX, lineY := d.lineY, stay := s.ctl.periodStay }
        let s := s.modCtl (fun c => { c with planNew := some p, periodOn := false })
        s.publishOn c.planChannel s.periodSlot p.bytes
      | none => s

/-- PLAN_DEADLINE (R28): a plan not published by now is discarded; a published one waits for its frame start.  PERIOD slots
close (R248). -/
def State.planDeadline (s : State) : State :=
  let s := if s.ctl.periodOn then s.modCtl (fun c => { c with periodOn := false, planMiss := true, planNew := none })
    else match s.ctl.planNew with
      | some p => s.modCtl (fun c => { c with planDue := some p, planNew := none, planMiss := false })
      | none => s
  s.closeSlots .period

/-- R28, R131: the plan past its deadline is adopted at the first frame start strictly after it: a plan of a mode while that stay
in the mode lasts, a shadow plan outside the DP modes and until the first plan of the mode. -/
def State.planAdopt (s : State) : State := match s.ctl.planDue with
  | none => s
  | some p =>
    if s.frame.start ≤ p.t + 60000000 then s
    else
      let s := s.modCtl (fun c => { c with planDue := none })
      let dp := dpMode s.actMode
      if dp ∧ ¬ p.shadow ∧ p.stay = s.ctl.stays then s.modCtl (fun c => { c with plan := some p, shadow := false, holdForces := false })
      else if p.shadow ∧ (¬ dp ∨ s.ctl.shadow) then s.modCtl (fun c => { c with plan := some p, holdForces := false })
      else s

/-! The demand (R27, R129, R138, R143). -/

/-- R26: the emission time of the present frame. -/
def State.tEmit (s : State) : Nat := s.frame.start + (match s.ctlCfg with | some c => c.emitNs | none => 0)

/-- R129: the step of a plan at the emission time, before it is held at 63. -/
def State.planStep (s : State) (p : Plan) : Nat := (s.tEmit - p.t) / 500000000

/-- R129: a vector of the frame at ψ0 in the frame at ψ. -/
def turnInto (n : Nat) (psi0 psi : Int) (x y : Rat) : Rat × Rat := toLocal n (psi0 - psi) x y

/-- R129: the demand of the plan in force in the frame of an epoch. -/
def State.planDemand (s : State) (e : Epoch) : Rat × Rat × Rat := match s.ctl.plan, s.ctlCfg with
  | some p, some c =>
    let st := p.steps.getD (min 63 (s.planStep p)) (0, 0, 0)
    let f := turnInto s.unitBits p.psi0 e.psi st.1 st.2.1
    let w := turnInto s.unitBits p.psi0 e.psi p.windX p.windY
    let l := if s.actMode = 9 then
        let a := s.lineForce e
        let b := turnInto s.unitBits p.psi0 e.psi p.lineX p.lineY
        (a.1 - b.1, a.2.1 - b.2)
      else (0, 0)
    (f.1 - c.windFf * ((e.wind.1 : Rat) - w.1 + l.1), f.2 - c.windFf * ((e.wind.2.1 : Rat) - w.2 + l.2), (st.2.2 : Rat))
  | _, _ => (0, 0, 0)

/-- R143: how much of a lost source's last command is left. -/
def State.rampLeft (s : State) : Rat := match s.ctl.rampFrom, s.ctlCfg with
  | some t, some c => if c.srcRampMs = 0 then 0 else max 0 (1 - ((s.now - t : Nat) : Rat) / (c.srcRampMs * 1000000 : Nat))
  | _, _ => 1

/-- R138: a joystick axis: 2⁻¹⁵, zero within the deadband of 0.02. -/
def joyAxis (v : Int) : Rat := if v.natAbs * 100 ≤ 2 * 32768 then 0 else (v : Rat) / 32768

/-- Table 5-6: the demand of the joystick. -/
def State.joyDemand (s : State) : Rat × Rat × Rat := match s.ctl.joy, s.ctlCfg with
  | some j, some c =>
    let k := s.rampLeft
    (joyAxis j.1 * c.joyGain.1 * s.ctl.box.1 * k, joyAxis j.2.1 * c.joyGain.2.1 * s.ctl.box.2.1 * k,
      joyAxis j.2.2 * c.joyGain.2.2 * s.ctl.box.2.2 * k)
  | _, _ => (0, 0, 0)

/-- R129: a demand clipped to the force box, and whether any axis was. -/
def clipDemand (b d : Rat × Rat × Rat) : (Rat × Rat × Rat) × Bool :=
  let c := (clampRat (-b.1) b.1 d.1, clampRat (-b.2.1) b.2.1 d.2.1, clampRat (-b.2.2) b.2.2 d.2.2)
  (c, decide (c ≠ d))

/-- The demand of a frame in the mode in use. -/
def State.demandOf (s : State) (e : Epoch) : Rat × Rat × Rat :=
  let m := s.actMode
  if m = 2 then s.joyDemand
  else if m = 3 then (s.joyDemand.1, s.joyDemand.2.1, (s.planDemand e).2.2)
  else s.planDemand e

/-- An epoch of zeros, for a mode that needs none (JOYSTICK before the first epoch). -/
def noEpoch (t : Nat) : Epoch :=
  { t := t, n := 0, e := 0, psi := 0, u := 0, v := 0, rate := 0, bn := 0, be := 0, bpsi := 0, sigPos := 0, sigPsi := 0
    sigVel := 0, refMask := 0, status := 0, wfN := 0, wfE := 0, originGen := 0, wind := (0, 0, 0), motion := [] }

/-- R145: a line whose chain is stopped sets SRC_LOST. -/
def State.lineCheck (s : State) : State :=
  let lost := match s.ctlCfg with
    | some c => s.actMode = 9 && c.lines.any (fun l => (s.lineTension l).isNone)
    | none => false
  s.modCtl (fun c => { c with lineLost := lost })

/-- DEMAND_FORM (R129, R138, R190): the demand of the frame is formed and the allocation starts, in the modes that run it. -/
def State.demandForm (s : State) (e : Epoch) : State :=
  if !s.ownFrame ∨ s.actMode < 2 then s
  else
    let s := s.lineCheck
    let s := if dpMode s.actMode then s.refStep e else s
    let (d, cut) := clipDemand s.ctl.box (s.demandOf e)
    let s := s.modCtl (fun c => { c with demand := roundTriple d, forceLimited := cut })
    s.alcStart d e.u

/-- EPOCH_PUBLISH (R117, R95, R120): the formed epoch is published; on time it feeds the frame's demand, and that of a period's
first frame its MPC. -/
def State.epochPublish (s : State) (own : Bool × Bool × Bool) : State := match s.fus.next, s.fusCfg with
  | some e, some c =>
    let late := s.fus.deadline || decide (e.t ≠ s.frame.start)
    let s := s.publishEpoch c e own
    let e := s.fus.epoch.getD e
    (if late then s else s.demandForm e).mpcStart e
  | _, _ => s

/-- FUSION_DEADLINE (R27): without epoch k the frame uses epoch k−1 predicted to frame start, and the slack monitor raises its
deadline event. -/
def State.fusionDeadline (s : State) : State :=
  if s.fus.published ∨ s.fus.deadline ∨ !s.frame.started then s
  else
    let s : State := { s with fus := { s.fus with deadline := true, nextLate := s.fus.nextLate || s.fus.next.isSome } }
    let s := s.modCtl (fun c => { c with fusionAge := true })
    let s := match s.fusCfg with
      | some c => if s.ownFrame then s.deadlineMiss c.channel (s.frame.start + s.frameNs / 4) else s
      | none => s
    s.demandForm (match s.fus.epoch with | some e => e.predict s.unitBits s.frame.start | none => noEpoch s.frame.start)

/-! Sources, targets and power (R124, R136, R143). -/

/-- PMS_TIMEOUT (R124). -/
def State.pmsTimeout (s : State) : State := s.modCtl (fun c => { c with pmsLost := true })
/-- TARGET_LOST (R136). -/
def State.targetLost (s : State) : State := s.modCtl (fun c => { c with tgtLost := true })
/-- SRC_LOST (R143), in the modes that use a lever or joystick. -/
def State.srcTimeout (s : State) : State :=
  let m := s.actMode
  if m = 1 ∨ m = 2 ∨ m = 3 then
    s.modCtl (fun c => { c with srcLost := true, levAt := if m = 1 then none else c.levAt, joyAt := if m = 1 then c.joyAt else none })
  else s
/-- SRC_HOLD_EXPIRED (R143): the ramp starts. -/
def State.srcHoldExpired (s : State) : State :=
  if s.ctl.srcLost ∧ s.ctl.rampFrom.isNone then s.modCtl (fun c => { c with rampFrom := some s.now }) else s

/-! Thruster commands without an allocation (Table 5-6, modes 0 and 1). -/

/-- STANDBY: a thruster's declared safe values; a removed thruster stays at zero with its azimuth held (R191). -/
def State.safeThr (s : State) (i : Nat) (c : ThrCfg) : State :=
  let off : Bool := (s.thr i).removed
  let s := s.modThr i (fun t => { t with
    thrust := if off then 0 else c.safeThrust, az := if off then t.az else c.safeAz, drive := if off then (driveOf c 0).1 else c.safeDrive
    azHold := false, clipped := false, domain := false })
  s.modThr i (fun t => { t with vars := s.reportedVars i c t.thrust t.az })

/-- R143, Table 5-6: LEVER: a thruster's lever command, or the safe values, clipped to its box and its rate limits; a
removed thruster stays at zero with its azimuth held (R191). -/
def State.leverThr (s : State) (i : Nat) (c : ThrCfg) : State := match cellsGet none s.ctl.levers i with
  | none => s.safeThr i c
  | some l =>
    let k := s.rampLeft
    let mix := fun (a b : Rat) => b + (a - b) * k
    let t := s.thr i
    let sc := if s.shared then 1 else scaleOf s.alc.sj c
    let d := c.tDot * s.frameS
    let off : Bool := t.removed || t.inForb
    let lo : Rat := if off then 0 else if c.kind = .tunnel then -(sc * c.tRev) else 0
    let hi : Rat := if off then 0 else sc * c.tMax
    let b := meet lo hi t.thrust d
    let want := mix ((l.thrust : Rat) / 32768 * c.tMax) c.safeThrust
    let th := clampRat b.1 b.2.1 want
    let azWant := mix ((t.az : Rat) + arcDiff 65536 ((l.az : Rat) - t.az)) ((t.az : Rat) + arcDiff 65536 ((c.safeAz : Rat) - t.az))
    let turn := c.omega * s.frameS * 65536 / 360
    let az := (roundRat (clampRat ((t.az : Rat) - turn) ((t.az : Rat) + turn) azWant) % 65536).toNat
    let dr := clampRat (driveOf c b.1).1 (driveOf c b.2.1).1 (mix l.drive c.safeDrive)
    let s := s.modThr i (fun t => { t with thrust := roundRat th, az := if c.kind = .tunnel then 0 else if t.removed then t.az else az, drive := roundRat dr
                                           azHold := false, clipped := decide (th ≠ want), domain := false })
    s.modThr i (fun t => { t with vars := s.reportedVars i c (roundRat th) t.az })

/-- The elements of a frame without an allocation, at its emission. -/
def State.directElements (s : State) : State :=
  let m := s.actMode
  if 1 < m then s
  else
    let s := s.each (List.range s.thrCount) fun i s => match s.thrCfg i with
      | some c => if m = 0 then s.safeThr i c else s.leverThr i c
      | none => s
    let s := s.modCtl (fun c => { c with demand := (0, 0, 0), forceLimited := false })
    let r := s.alcBytes 0 0 (s.alcFlags (0, 0, 0) []) (0, 0, 0) (0, 0, 0) false
    let s : State := { s with alc := { s.alc with record := r, stale := false } }
    s.sendElements false

/-! Compensation and the loops' set-points (R30, R138, R144, R146). -/

/-- R146: the vertical displacement of a point, upward, at an offset (x, y, z) in mm from the MRU, extrapolated by a lead in ns
with the heave rate, mm (log entry 42). -/
def compDisplacement (n : Nat) (m : Rat × Rat × Rat × Rat) (x y z : Rat) (lead : Int) : Rat :=
  let r := m.1 / 2 ^ 32
  let p := m.2.1 / 2 ^ 32
  m.2.2.1 + x * sinAt n p - y * sinAt n r * cosAt n p - z * (cosAt n r * cosAt n p - 1) + m.2.2.2 * lead / 1000000000

/-- R142, R146: compensation runs: in MOTION_COMP, and after a drop while the engagement lasts. -/
def State.compRuns (s : State) : Bool := s.actMode = 10 || (s.ctl.compHold && s.ctl.compExit.isNone)

/-- R144, R146: the set-point of a compensation loop at the emission: formed, on its way to the park value, or parked. -/
def State.compValue (s : State) (j : Nat) (c : CtlCfg) (l : CompCfg) : Int :=
  let last := s.ctl.compLast.getD j l.park
  if s.compRuns then
    match s.fus.epoch with
    | some e => match e.motion.find? (fun m => decide (m.1 = l.group)) with
      | some m => roundRat (-(compDisplacement s.unitBits m.2 (l.x - l.mruX) (l.y - l.mruY) (l.z - l.mruZ)
          ((s.tEmit : Int) - e.t + c.compLeadNs)))
      | none => last
    | none => last
  else match s.ctl.compExit with
    | some t =>
      let f : Rat := if c.compExitMs = 0 then 1 else min 1 (((s.now - t : Nat) : Rat) / (c.compExitMs * 1000000 : Nat))
      roundRat ((last : Rat) + ((l.park : Rat) - last) * f)
    | none => l.park

/-- R146: the compensation set-points of the frame; those formed are kept for the ramp. -/
def State.compForm (s : State) : State × List Int := match s.ctlCfg with
  | none => (s, [])
  | some c =>
    let vs := c.comps.zipIdx.map (fun (l, j) => s.compValue j c l)
    (if s.compRuns then s.modCtl (fun x => { x with compLast := vs }) else s, vs)

/-- R216: the value of a loop's ALLOC binding at the emission; a removed thruster's pitch loop takes its zero drive (R38,
R194). -/
def State.bindValue (s : State) (comps : List Int) (b : LoopBind) (safe : Int) : Int := match b with
  | .comp j =>
    if s.actMode = 0 ∧ !s.ctl.compHold ∧ s.ctl.compExit.isNone then safe else comps.getD j safe
  | .azimuth i => if s.actMode = 0 then safe else (ofInt32 ((s.thr i).az * 65536 : Nat)).toInt
  | .drive i g o =>
    let t := s.thr i
    if t.removed then (match s.thrCfg i with | some c => roundRat ((driveOf c 0).1 * g) + o | none => safe)
    else if s.actMode = 0 then safe else roundRat (t.drive * g) + o

/-- R101: the thrust and azimuth of every thruster's emitted command; the observer also uses those emitted before. -/
def State.sentShift (s : State) : State :=
  let now := (List.range s.thrCount).map (fun i => let t := s.thr i; (if t.removed then 0 else t.thrust, t.az))
  { s with alc := { s.alc with sent2 := s.alc.sent1, sent1 := now } }

/-- R30: the set-points from the allocator change at the emission. -/
def State.loopEmit (s : State) : State :=
  let (s, comps) := s.compForm
  s.each (List.range 64) fun n s => match s.loopCfg n with
    | some c => match c.bind with
      | some b => s.modLoop n (fun x => { x with alloc := some (s.bindValue comps b c.safe) })
      | none => s
    | none => s

/-! The control status word (R147). -/

/-- R130: the age of the plan in use at the emission, ns; none for no plan and for held forces. -/
def State.planAge (s : State) : Option Nat := match s.ctl.plan with
  | some p => if s.ctl.holdForces then none else some (s.tEmit - p.t)
  | none => none

/-- R130: PLAN_OLD and PLAN_EXPIRED, in the modes whose demand uses a plan. -/
def State.planOld (s : State) : Bool := match s.planAge, s.ctlCfg with
  | some a, some c => dpMode s.actMode && decide (c.planOldMs * 1000000 < a)
  | _, _ => false
/-- R130: the plan has run out. -/
def State.planExpired (s : State) : Bool := match s.planAge with
  | some a => dpMode s.actMode && decide (64 ≤ a / 500000000)
  | none => false

/-- A flag bit of the plan in use. -/
def State.planFlag (s : State) (b : Nat) : Bool := match s.ctl.plan with
  | some p => dpMode s.actMode && !s.ctl.holdForces && decide (p.flags / 2 ^ b % 2 = 1)
  | none => false

/-- Table 5-10. -/
def State.ctlStatus (s : State) : Nat :=
  let m := s.actMode
  s.mode + flagBit (dpMode m && s.ctl.shadow) 4 + flagBit s.planOld 5 + flagBit s.planExpired 6 + flagBit s.ctl.planMiss 7 +
    flagBit (s.planFlag 1) 8 + flagBit (s.planFlag 2 || s.planFlag 3) 9 + flagBit s.ctl.forceLimited 10 +
    flagBit (s.alc.sj.any (fun x => decide (x < 1))) 11 + flagBit s.ctl.pmsLost 12 + flagBit s.spMoving 13 +
    flagBit (m = 5 && s.ctl.trackEnd) 14 + flagBit s.ctl.tgtLost 15 +
    flagBit ((decide (m = 1 ∨ m = 2 ∨ m = 3) && s.ctl.srcLost) || (m = 9 && s.ctl.lineLost)) 16 +
    flagBit (dpMode s.mode && s.epochState = 2) 17 + flagBit s.ctl.dpDropped 18 +
    flagBit ((List.range s.thrCount).any (fun i => (s.thr i).removed)) 19 + s.get Fld.CQA_STAT_STATUS * 2 ^ 20 +
    flagBit s.ctl.fusionAge 22 + flagBit s.ctl.compHold 23

/-- Table 5-14: the alarms that a control status word shows, in the order of CTL_ALARM. -/
def alarmsOf (w : Nat) : List Bool :=
  ([5, 6, 7, 12, 14, 15, 16, 17, 18].map (fun b => decide (w / 2 ^ b % 2 = 1))) ++ [decide (w / 2 ^ 20 % 4 = 2)]

/-- The status word and the demand on the status channel that the image declares. -/
def State.ctlTell (s : State) (w : Nat) : State := match s.ctlCfg with
  | some c => s.publishOn c.statusChannel s.frame.count (leBytes 4 w ++ i32 s.ctl.demand.1 ++ i32 s.ctl.demand.2.1 ++ i32 s.ctl.demand.2.2)
  | none => s

/-- R147: the control status word is formed, published with the demand, and raises its alarms. -/
def State.ctlEmit (s : State) : State :=
  let old := alarmsOf (s.rd Reg.CTL_STAT).toNat
  let w := s.ctlStatus
  let s := s.wr Reg.CTL_STAT (BitVec.ofNat 32 w)
  let s := match s.ctl.plan with
    | some p => s.set Fld.CTL_PLAN_PERIOD (p.period % 65536)
    | none => s
  let s := s.set Fld.CTL_PLAN_AGE (match s.planAge with | some a => min 0xFFFF (a / 1000000) | none => 0xFFFF)
  let s := s.each ((alarmsOf w).zip old).zipIdx (fun ((now, was), k) s =>
    if now then
      let s := s.set ⟨Reg.CTL_ALARM, k, 1⟩ 1
      if was then s else s.raise (0x4001 + k) 0 s.ctlData
    else s)
  s.ctlTell w

/-! Solver events. -/

/-- The publication of an instance whose solve stops. -/
def State.solveStop (s : State) (k stop : Nat) : State :=
  if !(s.inst k).solving then s
  else if k = 0 then s.mpcPublish stop else if k = 1 then s.alcPublish stop else s.cqPublish (k - 2) stop

/-- ITERATION_END (R161 to R168). -/
def State.iterationEnd (s : State) (k : Nat) (own : OwnFlags) : State := match s.iterate k own with
  | (s, some stop) => s.solveStop k stop
  | (s, none) => s

/-- The stop time of a solve (R160, R168): what is incomplete is abandoned, and a solve under way ends DEADLINE. -/
def State.stopTime (s : State) (k : Nat) : State := (s.slvAbandon k).solveStop k 2

/-! The commands. -/

/-- FUSION_DEADLINE (R27). -/
def execFusionDeadline (s : State) : Host.Outcome State Fault Refusal := .next (s.running State.fusionDeadline)
/-- PLAN_DEADLINE (R28). -/
def execPlanDeadline (s : State) : Host.Outcome State Fault Refusal := .next (s.running State.planDeadline)
/-- EPOCH_PUBLISH (R117), with SAT, REG and DOMAIN that the publication task inherits and the model's values do not show (log entry
137). -/
def execEpochPublish (sat reg domain : Bool) (s : State) : Host.Outcome State Fault Refusal :=
  .next (s.running (fun s => s.epochPublish (sat, reg, domain)))
/-- PMS_TIMEOUT (R124). -/
def execPmsTimeout (s : State) : Host.Outcome State Fault Refusal := .next (s.running State.pmsTimeout)
/-- TARGET_LOST (R136). -/
def execTargetLost (s : State) : Host.Outcome State Fault Refusal := .next (s.running State.targetLost)
/-- SRC_LOST (R143). -/
def execSrcLost (s : State) : Host.Outcome State Fault Refusal := .next (s.running State.srcTimeout)
/-- SRC_HOLD_EXPIRED (R143). -/
def execSrcHoldExpired (s : State) : Host.Outcome State Fault Refusal := .next (s.running State.srcHoldExpired)
/-- ITERATION_END (R161). -/
def execIterationEnd (cls : Fin 3) (g : Fin 48) (own : OwnFlags) (s : State) : Host.Outcome State Fault Refusal :=
  .next (s.running (fun s => s.iterationEnd (instOf cls g) own))
/-- SOLVER_RESTART (R166). -/
def execSolverRestart (cls : Fin 3) (g : Fin 48) (s : State) : Host.Outcome State Fault Refusal :=
  .next (s.running (fun s => s.slvRestart (instOf cls g)))
/-- REFRESH_COMPLETE (R155). -/
def execRefreshComplete (cls : Fin 3) (g : Fin 48) (pivRepl : Nat) (saturated : Bool) (s : State) : Host.Outcome State Fault Refusal :=
  .next (s.running (fun s => s.refreshComplete (instOf cls g) pivRepl saturated))
/-- SOLVE_STOP_TIME (R168): every solve of the class. -/
def execSolveStopTime (cls : Fin 3) (s : State) : Host.Outcome State Fault Refusal :=
  .next (s.running (fun s => s.each (if cls.val = 2 then (List.range 48).map (· + 2) else [cls.val]) (fun k s => s.stopTime k)))
/-- CONSEQ_GROUP_TIME (R168). -/
def execConseqGroupTime (g : Fin 48) (s : State) : Host.Outcome State Fault Refusal := .next (s.running (fun s => s.stopTime (2 + g)))
/-- SLV_REFRESH (R158, R176). -/
def execSlvRefresh (mask : Fin 16) (s : State) : Host.Outcome State Fault Refusal :=
  .next (s.running (fun s => s.each ((List.range 4).filter (fun c => mask.val.testBit c)) (fun c s => s.slvRefreshClass c)))
/-- SLV_CNT_CLR (R176). -/
def execSlvCntClr (s : State) : Host.Outcome State Fault Refusal := .next (s.running State.slvCntClr)

end Sys2Proof.Machine
end

