-- ==== Sys2Proof/Machine/Eth.lean ====
section
/-!
DEFINITION. Sys2Proof/Machine/Eth.lean: the Ethernet ports (R335 to R352): links, PRP reception, egress priority and windows,
IEC 61162-450 transmission, MDIO.
-/
namespace Sys2Proof.Machine

/-- R352: a refused write of a port: 1 PORT_RUNNING, 2 BAD_VALUE. -/
def State.ethRefuse (s : State) (p code addr : Nat) : State :=
  ((s.set (Fld.ETHp_STAT_REFUSED p) 1).set (Fld.ETHp_STAT_REF_CODE p) code).refuse 18 code addr

/-! Links. -/

/-- R341: a port is not being re-initialised. -/
def State.ethFree (s : State) (p : Nat) : Bool := decide (p ∉ s.eth.reinit)

/-- R335, R336: the port's link goes down. -/
def State.linkDown (s : State) (p : Nat) : State :=
  let s := if s.get (Fld.ETHp_STAT_LINK p) = 1 then s.count (Fld.ETHp_CNT1_LINK_DOWN p) else s
  (s.set (Fld.ETHp_STAT_LINK p) 0).set (Fld.ETHp_STAT_AN_DONE p) 0

/-- LINK_CHANGE (R335, R336): 10 Mbit/s is down, and on a group's LAN anything below 1000 Mbit/s is SLOW and down. -/
def State.linkChange (s : State) (p : Nat) (up : Bool) (speed : Nat) : State :=
  if s.get (Fld.ETHp_CFG_EN p) = 0 then s
  else if !up then (s.linkDown p).set (Fld.ETHp_STAT_SLOW p) 0
  else
    let slow := s.inGroup && p < 2 && speed ≠ 0
    let s := (s.set (Fld.ETHp_STAT_SPEED p) speed).setBit (Fld.ETHp_STAT_SLOW p) slow
    let s := if slow ∨ speed = 2 then s.linkDown p else s.set (Fld.ETHp_STAT_LINK p) 1
    s.set (Fld.ETHp_STAT_AN_DONE p) (s.get (Fld.ETHp_CFG_AN p))

/-- ETHp_CFG.EN (R352): the port runs or stops. -/
def State.ethCfgEn (s : State) (p : Nat) (en : Bool) : State :=
  let s := s.setBit (Fld.ETHp_CFG_EN p) en
  if en then s
  else ((s.set (Fld.ETHp_STAT_LINK p) 0).set (Fld.ETHp_STAT_AN_DONE p) 0).set (Fld.ETHp_STAT_SLOW p) 0

/-- R405: the ETH domain stops in limp, and every link with it. -/
def State.ethStop (s : State) : State := s.each [0, 1, 2] (fun p s => s.linkDown p)

/-! Reception (R337 to R342). -/

/-- The bytes of a MAC address. -/
def macBytes (m : BitVec 48) : List Byte := beBytes 6 m.toNat

/-- Table 19-3: DUP_MISMATCH, with ETH_PRPCNT and the source. -/
def State.prpMismatch (s : State) (src : BitVec 48) : State :=
  let s := s.count Fld.ETH_PRPCNT_DUP_MISMATCH
  s.raise 0x6001 0 (le32 (s.rd Reg.ETH_PRPCNT) ++ macBytes src)

/-- R342: nodes seen by supervision within 60 s. -/
def State.prpNodes (s : State) : State :=
  let l := s.eth.supers.filter (fun x => decide (s.now ≤ x.2 + 60000000000))
  let s := { s with eth := { s.eth with supers := l } }
  s.set Fld.ETH_PRPSTAT_NODES (min 255 l.length)

/-- A supervision frame is received. -/
def State.prpSupervision (s : State) (src : BitVec 48) : State :=
  let l := s.eth.supers.filter (fun x => decide (x.1 ≠ src)) ++ [(src, s.now)]
  let s := { s with eth := { s.eth with supers := l } }
  s.prpNodes

/-- R339: a sequence number and its CRC join the entry of their source, which holds the last 128. -/
def State.prpNote (s : State) (src : BitVec 48) (seq : BitVec 16) (crc : Word) : State :=
  { s with eth := { s.eth with
      nodes := s.eth.nodes.map (fun x => if x.src = src then { x with seen := (x.seen ++ [(seq, crc)]).drop (x.seen.length - 127) }
        else x)
      } }

/-- R340: a first copy is held for its twin. -/
def State.prpHold (s : State) (lan : Nat) (src : BitVec 48) (seq : BitVec 16) (crc : Word) : State :=
  let s := s.prpNote src seq crc
  { s with eth := { s.eth with held := s.eth.held ++ [{ src := src, seq := seq, crc := crc, lan := lan }] } }

/-- A held copy is held no longer. -/
def State.prpUnhold (s : State) (src : BitVec 48) (seq : BitVec 16) : State :=
  { s with eth := { s.eth with held := s.eth.held.filter (fun x => decide (¬ (x.src = src ∧ x.seq = seq))) } }

/-- R339, R340: a frame with a trailer against the held copies and the node table. -/
def State.prpFrame (s : State) (lan : Nat) (src : BitVec 48) (seq : BitVec 16) (crc : Word) : State :=
  match s.eth.held.find? (fun x => decide (x.src = src ∧ x.seq = seq)) with
  | some h =>
    let s := s.prpUnhold src seq
    if h.crc = crc then s.count Fld.ETH_PRPCNT_DUP_DISC else s.prpMismatch src
  | none => match s.eth.nodes.find? (fun x => decide (x.src = src)) with
    | some x => match x.seen.find? (fun y => decide (y.1 = seq)) with
      | some y => if y.2 = crc then s.count Fld.ETH_PRPCNT_DUP_DISC else s.prpMismatch src
      | none => s.prpHold lan src seq crc
    | none =>
      if s.eth.nodes.length < 128 then
        let s : State := { s with eth := { s.eth with nodes := s.eth.nodes ++ [({ src := src, seen := [] } : PrpNode)] } }
        s.prpHold lan src seq crc
      else (s.set Fld.ETH_PRPSTAT_TABLE_FULL 1).count Fld.ETH_PRPCNT_NOT_IN_TABLE

/-- R337: the VLAN check: untagged, or a VID that the port declares. -/
def State.vidOk (s : State) (p : Nat) (vid : Option (BitVec 12)) : Bool := match vid, s.netCfg with
  | none, _ => true
  | some v, some c => (c.vids.getD p []).contains v
  | some _, none => false

/-- ETH_FRAME_RX (R335, R337, R339, R342; PTP frames are exempt from duplicate discard, R365): what the frame carries acts by its own row at its release (R340). -/
def State.ethFrameRx (s : State) (p : Nat) (f : EthRx) : State :=
  if ¬ s.linkUp p ∨ ¬ s.ethFree p then s
  else if f.kind = .badFcs then s.count (Fld.ETHp_CNT1_FCS_ERR p)
  else if f.kind = .pause ∨ 1522 < f.len ∨ ¬ s.vidOk p f.vid then s.count (Fld.ETHp_CNT1_RX_DISC p)
  else
    let s := s.count (Fld.ETHp_CNT0_RX_OK p)
    if p = 2 ∨ f.kind = .ptp then s
    else if f.kind = .supervision then s.prpSupervision f.src
    else match f.trailer with
      | none => s
      | some q => s.prpFrame p f.src q f.crc

/-- PRP_HOLD_EXPIRED (R340): the first copy is released. -/
def State.prpHoldExpired (s : State) (src : BitVec 48) (seq : BitVec 16) : State := s.prpUnhold src seq

/-- PRP_NODE_FORGET (R339). -/
def State.prpForget (s : State) (src : BitVec 48) : State :=
  let s := { s with eth := { s.eth with nodes := s.eth.nodes.filter (fun x => decide (x.src ≠ src)) } }
  if s.eth.nodes.length < 128 then s.set Fld.ETH_PRPSTAT_TABLE_FULL 0 else s

/-- The part's own source MAC address. -/
def State.ownMac (s : State) : BitVec 48 := match s.cfg with
  | some c => c.grp.own
  | none => 0

/-- PRP_SUPERVISION_TX (R342): a frame of the IEC 62439-3 form for a node with duplicate discard (log entry 37). -/
def State.prpSupervisionTx (s : State) : State :=
  if s.cfg.isNone then s
  else
    let b := [0x00, 0x01] ++ beBytes 2 s.eth.supSeq.toNat ++ [20, 6] ++ macBytes s.ownMac ++ [0, 0]
    let s := { s with eth := { s.eth with supSeq := s.eth.supSeq + 1 } }
    s.prpNodes.ethQueue false { pcp := 6, dest := 0x01154E000100, len := frameLen false b.length, payload := b }

/-! Egress (R343 to R346). -/

/-- One frame that waits at an egress. -/
inductive EgressItem
  | frame (f : EthFrame)
  | ptp (port kind : Nat) (seq : BitVec 16) (stamp : Int)
  | mgmt (m : Msg)
deriving DecidableEq, Repr

/-- Table 13-2. -/
def EgressItem.pcp : EgressItem → Nat
  | .frame f => f.pcp
  | .ptp _ _ _ _ => 6
  | .mgmt _ => 2

/-- R344: a heartbeat, the Silhar frame of type 1. -/
def EgressItem.beat : EgressItem → Bool
  | .frame f => decide (f.pcp = 7 ∧ f.payload.getD 1 0 = 1)
  | .ptp _ _ _ _ | .mgmt _ => false

/-- R343, R344: the PCP; a heartbeat leaves at its due time, before everything else. -/
def EgressItem.rank (x : EgressItem) : Nat := if x.beat then 8 else x.pcp

/-- The bytes of a frame from destination address to FCS: a PTP message, or a datagram with a management message. -/
def EgressItem.len (mgmt : Bool) : EgressItem → Nat
  | .frame f => f.len
  | .ptp _ kind _ _ => frameLen mgmt (if kind = 1 then 64 else if kind = 3 then 54 else 44)
  | .mgmt m => frameLen mgmt (64 + m.body.length)

/-- What waits at an egress, within each PCP oldest first. -/
def State.egressItems (s : State) (mgmt : Bool) : List EgressItem :=
  (if mgmt then s.eth.mgmtQ else s.eth.pairQ).map .frame ++
    ((s.tb.out.filter (fun x => decide ((x.1 = 2) = mgmt) && s.linkUp x.1)).map (fun x => .ptp x.1 x.2.1 x.2.2.1 x.2.2.2)) ++
    (if mgmt then s.mgt.outMgmt else s.mgt.outLan).map .mgmt

/-- R344: the wire time of a frame, ns, with 20 bytes of preamble and gap; ten times as long at 100 Mbit/s. -/
def State.wireNs (s : State) (mgmt : Bool) (len : Nat) : Nat :=
  let slow := fun p => s.linkUp p && s.get (Fld.ETHp_STAT_SPEED p) = 1
  (len + 20) * (if (if mgmt then slow 2 else slow 0 || slow 1) then 80 else 8)

/-- R344, Table 10-2: ns until the next heartbeat due time, counted from the frame start. -/
def State.untilHeartbeat (s : State) : Nat :=
  let p := if s.commanding then 5000 else 100000
  p - (s.now - s.frame.start) % p

/-- An egress window (Table 13-3). -/
structure EgWindow where
  start : Nat
  len : Nat
  mask : Nat
  en : Bool
deriving DecidableEq, Repr

/-- Window j of a bank of an egress slot table. -/
def State.egWindow (s : State) (mgmt : Bool) (bank j : Nat) : EgWindow :=
  let k := 256 * mgmt.toNat + 128 * bank + 2 * j
  let a := s.rd (Reg.ETH_SLOTBANKj k)
  let b := s.rd (Reg.ETH_SLOTBANKj (k + 1))
  { start := bitsGet a 0 16, len := bitsGet a 16 16, mask := bitsGet b 0 8, en := b.getLsbD 8 }

/-- The active bank of an egress slot table. -/
def State.egBank (s : State) (mgmt : Bool) : Nat :=
  s.get (if mgmt then Fld.ETH_SLOTSTAT_BANK_MGMT else Fld.ETH_SLOTSTAT_BANK_PAIR)

/-- The enabled windows of a bank. -/
def State.egWindows (s : State) (mgmt : Bool) (bank : Nat) : List EgWindow :=
  ((List.range 64).map (s.egWindow mgmt bank)).filter (·.en)

/-- R344, R345: a frame may start now; a heartbeat may in every case. -/
def State.mayStart (s : State) (mgmt : Bool) (x : EgressItem) : Bool :=
  let t := s.now - s.frame.start
  let w := s.wireNs mgmt (x.len mgmt)
  x.beat || (mgmt || !s.inGroup || w ≤ s.untilHeartbeat) &&
    ((s.egWindows mgmt (s.egBank mgmt)).all (fun v =>
      !(v.start * 1000 ≤ t && t < (v.start + v.len) * 1000) ||
        (v.mask / 2 ^ x.pcp % 2 = 1 && t + w ≤ (v.start + v.len) * 1000)))

/-- The first of the highest rank. -/
def egressBest : List EgressItem → Option EgressItem
  | [] => none
  | x :: xs => match egressBest xs with
    | none => some x
    | some y => if x.rank < y.rank then some y else some x

/-- The first occurrence of an element removed. -/
def dropFirst {α : Type} [DecidableEq α] (x : α) : List α → List α
  | [] => []
  | y :: ys => if y = x then ys else y :: dropFirst x ys

/-- TX_OK of every usable link of an egress. -/
def State.egressSent (s : State) (mgmt : Bool) : State :=
  if mgmt then s.count (Fld.ETHp_CNT0_TX_OK 2)
  else
    let s := { s with eth := { s.eth with prpSeq := s.eth.prpSeq + 1 } }
    s.each [0, 1] (fun p s => if s.linkUp p then s.count (Fld.ETHp_CNT0_TX_OK p) else s)

/-- A frame leaves its queue. -/
def State.egressTake (s : State) (mgmt : Bool) : EgressItem → State
  | .frame f =>
    (if mgmt then { s with eth := { s.eth with mgmtQ := dropFirst f s.eth.mgmtQ } }
     else { s with eth := { s.eth with pairQ := dropFirst f s.eth.pairQ } }).egressSent mgmt
  | .ptp p k q t =>
    let s := { s with tb := { s.tb with out := dropFirst (p, k, q, t) s.tb.out }
                      eth := { s.eth with prpSeq := if mgmt then s.eth.prpSeq else s.eth.prpSeq + 1 } }
    s.count (Fld.ETHp_CNT0_TX_OK p)
  | .mgmt m =>
    (if mgmt then { s with mgt := { s.mgt with outMgmt := dropFirst m s.mgt.outMgmt } }
     else { s with mgt := { s.mgt with outLan := dropFirst m s.mgt.outLan } }).egressSent mgmt

/-- EGRESS_FRAME_START (R343): a heartbeat, else the highest PCP that may start, the oldest within it. -/
def State.egressStart (s : State) (mgmt : Bool) : State :=
  if (if mgmt then s.linkUp 2 else s.linkUp 0 || s.linkUp 1) then
    match egressBest ((s.egressItems mgmt).filter (s.mayStart mgmt)) with
    | none => s
    | some x => s.egressTake mgmt x
  else s

/-- Windows ascend by START and do not overlap. -/
def egOrdered : List EgWindow → Bool
  | v :: w :: ws => v.start < w.start && v.start + v.len ≤ w.start && egOrdered (w :: ws)
  | _ => true

/-- ETH_CTRL.SWAP_PAIR and SWAP_MGMT (R346). -/
def State.ethSwap (s : State) (mgmt : Bool) : State :=
  let pend := if mgmt then Fld.ETH_SLOTSTAT_PEND_MGMT else Fld.ETH_SLOTSTAT_PEND_PAIR
  let ref := if mgmt then Fld.ETH_SLOTSTAT_REF_MGMT else Fld.ETH_SLOTSTAT_REF_PAIR
  let ws := s.egWindows mgmt (1 - s.egBank mgmt)
  if s.get pend = 1 ∨ ¬ egOrdered ws ∨ ws.any (fun w => w.len < 5 || s.frameNs < (w.start + w.len) * 1000) then
    (s.set ref 1).refuse 18 1 Reg.ETH_CTRL
  else s.set pend 1

/-- R346: a pending swap takes effect at a frame start. -/
def State.ethSwapApply (s : State) : State :=
  let one := fun (pend bank : Field) (s : State) => if s.get pend = 1 then (s.set pend 0).set bank (1 - s.get bank) else s
  one Fld.ETH_SLOTSTAT_PEND_MGMT Fld.ETH_SLOTSTAT_BANK_MGMT (one Fld.ETH_SLOTSTAT_PEND_PAIR Fld.ETH_SLOTSTAT_BANK_PAIR s)

/-- ETH_CTRL.CNT_CLR (R352). -/
def State.ethCntClr (s : State) : State :=
  let s := ((s.wr Reg.ETH_PRPCNT 0).wr Reg.ETH_E450CNT 0).wr Reg.ETH_OWNCNT 0
  s.each [0, 1, 2] (fun p s => (s.wr (Reg.ETHp_CNT0 p) 0).wr (Reg.ETHp_CNT1 p) 0)

/-! MDIO. -/

/-- ETH_MDIO (R335): the fields are written; GO starts the access unless one is in progress. -/
def State.mdioWrite (s : State) (v : Word) : State :=
  let s := s.wr Reg.ETH_MDIO ((v &&& 0xFFFF07FF) ||| (s.rd Reg.ETH_MDIO &&& 0x00001000))
  if v.getLsbD 11 then s.set Fld.ETH_MDIO_BUSY 1 else s

/-- MDIO_DONE (R335). -/
def State.mdioDone (s : State) (data : BitVec 16) : State :=
  if s.get Fld.ETH_MDIO_BUSY = 0 then s
  else
    let s := s.set Fld.ETH_MDIO_BUSY 0
    if s.get Fld.ETH_MDIO_READ = 1 then s.set Fld.ETH_MDIO_DATA data.toNat else s

/-! IEC 61162-450 transmission (R348). -/

/-- The ASCII bytes of a text. -/
def ascii (t : String) : List Byte := t.toList.map (fun c => BitVec.ofNat 8 c.toNat)

/-- A hexadecimal digit. -/
def hexDigit (n : Nat) : Byte := BitVec.ofNat 8 (if n < 10 then 48 + n else 55 + n)

/-- The checksum of a sentence or tag block: XOR of its characters, as `*hh`. -/
def nmeaSum (b : List Byte) : List Byte :=
  let x := (b.foldl (· ^^^ ·) 0).toNat
  [0x2A, hexDigit (x / 16), hexDigit (x % 16)]

/-- A decimal number of tenths. -/
def tenths (x : Int) : List Byte :=
  (if x < 0 then [0x2D] else []) ++ ascii (toString (x.natAbs / 10)) ++ [0x2E] ++ ascii (toString (x.natAbs % 10))

/-- A sentence with its start, checksum and end. -/
def nmeaSentence (b : List Byte) : List Byte := [0x24] ++ b ++ nmeaSum b ++ [13, 10]

/-- R348: the UDP payload of an HDT and ROT transmission (log entry 38). -/
def e450Payload (src talker : List Byte) (line : Nat) (psi rate : Int) : List Byte :=
  let tag := ascii "s:" ++ src ++ ascii ",n:" ++ ascii (toString line)
  let block := [0x5C] ++ tag ++ nmeaSum tag ++ [0x5C]
  let hdt := talker ++ ascii "HDT," ++ tenths (roundDiv (psi * 3600) (2 ^ 32) % 3600) ++ ascii ",T"
  let rot := talker ++ ascii "ROT," ++ tenths (roundDiv (rate * 216000) (2 ^ 32)) ++ ascii ",A"
  ascii "UdPbC" ++ [0] ++ block ++ nmeaSentence hdt ++ block ++ nmeaSentence rot

/-- E450_TX (R348): the commanding part sends while the epoch is VALID. -/
def State.e450Tx (s : State) : State := match s.netCfg, s.fus.epoch with
  | some c, some e =>
    if s.commanding ∧ e.status / 4 % 2 = 1 then
      let line := s.eth.e450Line % 999 + 1
      let b := e450Payload c.ownSource c.talker line e.psi e.rate
      let s := { s with eth := { s.eth with e450Line := line } }
      s.ethQueue false { pcp := 3, dest := c.e450Dest, len := frameLen false (28 + b.length), payload := b }
    else s
  | _, _ => s

/-! Re-initialisation (R341). -/

/-- FUNC_REINIT of a port: it stops, and its link goes down. -/
def State.ethReinitStart (s : State) (p : Nat) : State :=
  let s := { s with eth := { s.eth with reinit := s.eth.reinit ++ [p] } }
  (s.set (Fld.ETHp_STAT_LINK p) 0).set (Fld.ETHp_STAT_AN_DONE p) 0

/-- The addresses of a port. -/
def ethWindow (p a : Nat) : Bool := Reg.ETHp_CFG p ≤ a && a < Reg.ETHp_CFG p + 0x40

/-- The port's registers are reloaded and its link is renegotiated; the node table and the sequence counter stay. -/
def State.ethReinitDone (s : State) (p : Nat) : State :=
  let s := { s with regs := s.regs.filter (fun (e : Nat × Word) => !ethWindow p e.1) }
  let s := { s with eth := { s.eth with reinit := s.eth.reinit.filter (· ≠ p) } }
  match s.cfg with
  | some c => s.each (c.regs.filter (fun (e : Nat × Word) => ethWindow p e.1)) (fun (e : Nat × Word) s => s.wr e.1 e.2)
  | none => s

/-! The commands. -/

/-- ETH_FRAME_RX (R337). -/
def execEthFrameRx (p : Fin 3) (f : EthRx) (s : State) : Host.Outcome State Fault Refusal :=
  .next (s.running (fun s => s.ethFrameRx p f))
/-- PRP_HOLD_EXPIRED (R340). -/
def execPrpHoldExpired (src : BitVec 48) (seq : BitVec 16) (s : State) : Host.Outcome State Fault Refusal :=
  .next (s.running (fun s => s.prpHoldExpired src seq))
/-- PRP_NODE_FORGET (R339). -/
def execPrpNodeForget (src : BitVec 48) (s : State) : Host.Outcome State Fault Refusal :=
  .next (s.running (fun s => s.prpForget src))
/-- PRP_SUPERVISION_TX (R342). -/
def execPrpSupervisionTx (s : State) : Host.Outcome State Fault Refusal := .next (s.running State.prpSupervisionTx)
/-- EGRESS_FRAME_START (R343). -/
def execEgressFrameStart (mgmt : Bool) (s : State) : Host.Outcome State Fault Refusal :=
  .next (s.running (fun s => s.egressStart mgmt))
/-- LINK_CHANGE (R335). -/
def execLinkChange (p : Fin 3) (up : Bool) (speed : Fin 3) (s : State) : Host.Outcome State Fault Refusal :=
  .next (s.running (fun s => s.linkChange p up speed))
/-- ETH_CFG_EN (R352). -/
def execEthCfgEn (p : Fin 3) (en : Bool) (s : State) : Host.Outcome State Fault Refusal :=
  .next (s.access (Reg.ETHp_CFG p) (fun s => s.ethCfgEn p en))
/-- ETH_SWAP_PAIR (R346). -/
def execEthSwapPair (s : State) : Host.Outcome State Fault Refusal :=
  .next (s.access Reg.ETH_CTRL (fun s => s.ethSwap false))
/-- ETH_SWAP_MGMT (R346). -/
def execEthSwapMgmt (s : State) : Host.Outcome State Fault Refusal :=
  .next (s.access Reg.ETH_CTRL (fun s => s.ethSwap true))
/-- ETH_CNT_CLR (R352). -/
def execEthCntClr (s : State) : Host.Outcome State Fault Refusal :=
  .next (s.access Reg.ETH_CTRL (fun s => s.ethCntClr))
/-- MDIO_GO (R335): a write of ETH_MDIO with GO = 1. -/
def execMdioGo (value : Word) (s : State) : Host.Outcome State Fault Refusal :=
  .next (s.access Reg.ETH_MDIO (fun s => s.mdioWrite (value ||| 0x800)))
/-- MDIO_DONE (R335). -/
def execMdioDone (data : BitVec 16) (s : State) : Host.Outcome State Fault Refusal :=
  .next (s.running (fun s => s.mdioDone data))
/-- E450_TX (R348). -/
def execE450Tx (s : State) : Host.Outcome State Fault Refusal := .next (s.running State.e450Tx)

end Sys2Proof.Machine
end

