-- ==== Sys2Proof/Machine/Recorder.lean ====
section
/-!
DEFINITION. Sys2Proof/Machine/Recorder.lean: the event port and the event recorder (R253, R470 to R482, R493): what the
commands of the recorder block do.
-/
namespace Sys2Proof.Machine

/-- Table 19-1: bytes 0 to 55 of a record. -/
def recordHead (x : Record) : List Byte :=
  le32 x.optime ++ le32 x.pcycle ++ leBytes 2 x.code ++ leBytes 2 x.held.toNat ++ le32 x.source ++ le32 x.rnum ++
    padTo 32 x.data ++ le32 x.tbns

/-- R473: bytes 0 to 59, which the first program writes. -/
def recordBody (x : Record) : List Byte := recordHead x ++ leBytes 2 (crc16 (recordHead x)) ++ [0, 0]

/-- R470: the device address of a record position. -/
def recordAddr (i : Nat) : Nat := 0x1000000 + 64 * i

/-- R473: a position is valid when MARK is 0x5AC3_3CA5 and CRC matches. -/
def State.recordValid (s : State) (bank i : Nat) : Bool :=
  s.nvmNat bank (recordAddr i + 60) 4 = 0x5AC33CA5 ∧
    s.nvmNat bank (recordAddr i + 56) 2 = crc16 (s.nvmBytes bank (recordAddr i) 56)

/-- The positions of a bank of which any byte is written. -/
def State.writtenPositions (s : State) (bank : Nat) : List Nat :=
  (((if bank = 0 then s.nvm0 else s.nvm1).filter
    (fun e => decide (0x1000000 ≤ e.1 ∧ e.1 < 0x3000000))).map (fun e => (e.1 - 0x1000000) / 64)).eraseDups

/-- The RNUM of a position. -/
def State.recordRnum (s : State) (bank i : Nat) : Nat := s.nvmNat bank (recordAddr i + 16) 4

/-- R474: RNUM order, modulo 2³² with a window of 2³¹. -/
def rnumNewer (a b : Nat) : Bool := (a + 2 ^ 32 - b) % 2 ^ 32 < 2 ^ 31 && a ≠ b

/-- The newer of two positions, by RNUM. -/
def State.newerPos (s : State) (bank : Nat) (best : Option Nat) (i : Nat) : Option Nat := match best with
  | none => some i
  | some j => if rnumNewer (s.recordRnum bank i) (s.recordRnum bank j) then some i else some j

/-- R476: the newest valid record of a bank. -/
def State.newestRecord (s : State) (bank : Nat) : Option Nat :=
  ((s.writtenPositions bank).filter (s.recordValid bank)).foldl (s.newerPos bank) none

/-- R475: OPTIME, PCYCLE and RNUM of the valid record with the highest RNUM in either bank. -/
def State.recordSeed (s : State) : Option (Nat × Nat × Nat) :=
  let get := fun k i => (s.nvmNat k (recordAddr i) 4, s.nvmNat k (recordAddr i + 4) 4, s.recordRnum k i)
  match s.newestRecord 0, s.newestRecord 1 with
  | none, none => none
  | some i, none => some (get 0 i)
  | none, some j => some (get 1 j)
  | some i, some j => if rnumNewer (s.recordRnum 1 j) (s.recordRnum 0 i) then some (get 1 j) else some (get 0 i)

/-- R475: the seeds of OPTIME, PCYCLE and RNUM, and the RNUM skip that POWER_UP reports. -/
def State.seeds (s : State) : Nat × Nat × Nat × Nat := match s.recordSeed with
  | some (o, p, r) => (o, if s.aon.por then p + 1 else p, r + 2 ^ 20, 2 ^ 20)
  | none => (0, 1, 1, 0)

/-- R475: Acorn seeds OPTIME and PCYCLE, and at a VDD_AON power-up the next RNUM; the second value is the RNUM skip. -/
def State.seedRecorder (s : State) : State × Nat :=
  let v := s.seeds
  let t := (s.wr Reg.REC_OPTIME (BitVec.ofNat 32 v.1)).wr Reg.REC_PCYCLE (BitVec.ofNat 32 v.2.1)
  if s.aon.powerUp then (t.wr Reg.REC_RNUM (BitVec.ofNat 32 v.2.2.1), v.2.2.2) else (t, 0)

/-- Table 19-3: DATA of class 0 events. -/
def State.resetData (s : State) : List Byte :=
  le32 (s.rd Reg.AON_RSTCAUSE) ++ le32 (s.rd Reg.AON_RSTLEN) ++ le32 (s.rd Reg.AON_PWRCYC)

/-- R476, R478: committed events go to the holding buffer before READY and during a freeze. -/
def State.holding (s : State) : Bool :=
  s.get Fld.REC_STAT_READY = 0 || s.get Fld.REC_STAT_FREEZING = 1 || s.get Fld.REC_STAT_FROZEN = 1

/-- R471: a record joins a bank's write queue of 2,048, or is left out of that bank and counted. -/
def State.queueRecord (s : State) (bank : Nat) (x : Record) : State :=
  if bank = 0 then
    if s.get Fld.REC_STAT_SINGLE_0 = 1 then s
    else if s.recd.queue0.length < 2048 then { s with recd := { s.recd with queue0 := s.recd.queue0 ++ [x] } }
    else s.count Fld.REC_CNT_LOST_B0
  else
    if s.get Fld.REC_STAT_SINGLE_1 = 1 then s
    else if s.recd.queue1.length < 2048 then { s with recd := { s.recd with queue1 := s.recd.queue1 ++ [x] } }
    else s.count Fld.REC_CNT_LOST_B1

/-- A record joins both banks' queues. -/
def State.queueBoth (s : State) (x : Record) : State := (s.queueRecord 0 x).queueRecord 1 x

/-- R479: a record joins the holding buffer of 256, or is dropped and counted; the first lost RNUM is kept. -/
def State.holdRecord (s : State) (x : Record) : State :=
  if s.recd.hold.length < 256 then
    let s := { s with recd := { s.recd with hold := s.recd.hold ++ [x] } }
    s.set Fld.REC_STAT_HELD s.recd.hold.length
  else
    let s := s.count Fld.REC_CNT_HOLD_LOST
    { s with recd := { s.recd with lost := match s.recd.lost with
        | some (n, r) => some (n + 1, r)
        | none => some (1, x.rnum) } }

/-- R476, R477: the class mask of the recorder section; its default is all ones, in force without an image and under
IMAGE_CONFLICT. -/
def State.classMask (s : State) : Word := match s.cfg with
  | some c => if s.get Fld.IMG_STAT_CONFLICT = 1 then 0xFFFFFFFF else c.recorder.classMask
  | none => 0xFFFFFFFF

/-- R461: recorder streams take the events within their code range and source. -/
def State.eventToStreams (s : State) (e : Event) : State :=
  s.each (s.chans.filter (fun c => decide (c.typ = 11 ∧ c.state = .live))) fun c s =>
    let lo := leNat (c.body.take 2)
    let hi := leNat ((c.body.drop 2).take 2)
    let src := leNat ((c.body.drop 4).take 4)
    if lo ≤ e.code ∧ e.code ≤ hi ∧ (src = 0 ∨ src = e.source.toNat) then
      s.umberOut 11 c.index (eventItem s.now e)
    else s

/-- R253, R474, R477, R493: one event is committed: it takes the next RNUM, sets its SYS_ALERT bit, is recorded or held,
and reaches its subscribers.  CAN_SLOT reaches subscribers only and takes no RNUM. -/
def State.commit (s : State) (e : Event) : State :=
  let s := (s.eventToSubs e).eventToStreams e
  if e.code = 0x5807 then s
  else
    let rn := s.rd Reg.REC_RNUM
    let s := s.wr Reg.REC_RNUM (rn + 1)
    let s := s.wr Reg.SYS_ALERT (s.rd Reg.SYS_ALERT ||| BitVec.ofNat 32 (2 ^ eventClass e.code))
    if (s.classMask).getLsbD (eventClass e.code) then
      let x : Record := { optime := s.rd Reg.REC_OPTIME, pcycle := s.rd Reg.REC_PCYCLE, code := e.code, held := s.holding,
                          source := e.source, rnum := rn, data := padTo 32 e.data, tbns := s.rd Reg.TB_NS }
      if s.holding then s.holdRecord x else s.queueBoth x
    else s

/-- EVENT_COMMIT (R253): the event port commits the event it accepted first. -/
def State.eventCommit (s : State) : State := match s.recd.port with
  | [] => s
  | e :: es => ({ s with recd := { s.recd with port := es } }).commit e

/-- R480: the held records are written in order, each with HELD set, and a HOLD_OVERFLOW follows if any was dropped. -/
def State.writeHeld (s : State) : State :=
  let held := s.recd.hold
  let lost := s.recd.lost
  let s := { s with recd := { s.recd with hold := [], lost := none } }
  let s := s.set Fld.REC_STAT_HELD 0
  let s := s.each held (fun x s => s.queueBoth { x with held := true })
  match lost with
  | some (n, r) => s.commit { code := 0x0007, source := 0, data := leBytes 4 n ++ le32 r }
  | none => s

/-- Held records are still being written (R478). -/
def State.heldWriting (s : State) : Bool := s.recd.queue0.any (·.held) || s.recd.queue1.any (·.held)

/-- R478: a freeze may start: READY, no freeze in force, no held record still being written. -/
def State.freezeAllowed (s : State) : Bool := !s.holding && !s.heldWriting

/-- R482: a refused recorder command sets REFUSED and REF_CODE BUSY. -/
def State.recRefuse (s : State) : State :=
  ((s.set Fld.REC_STAT_REFUSED 1).set Fld.REC_STAT_REF_CODE 1).refuse 8 1 Reg.REC_CTRL

/-- R478: the start of a freeze, for the host request that awaits its RESULT, if any. -/
def State.startFreeze (s : State) (req : Option ReqRef) : State :=
  let s := s.set Fld.REC_STAT_FREEZING 1
  { s with recd := { s.recd with freezeReq := req } }

/-- R480: the end of a freeze: 1 released, 2 recorder re-initialised, 3 the 60 s limit. -/
def State.endFreeze (s : State) (code : Nat) : State :=
  if s.get Fld.REC_STAT_FREEZING = 1 ∨ s.get Fld.REC_STAT_FROZEN = 1 then
    let q := s.recd.freezeReq
    let s := (s.set Fld.REC_STAT_FREEZING 0).set Fld.REC_STAT_FROZEN 0
    let s := { s with recd := { s.recd with freezeReq := none } }
    (s.resultOpt q 1 [BitVec.ofNat 8 code]).writeHeld
  else s

/-- FREEZE_DRAINED (R478): both write queues are empty; FROZEN is set and REC_FREEZE ends DONE. -/
def State.freezeDrained (s : State) : State :=
  if s.get Fld.REC_STAT_FREEZING = 1 ∧ s.recd.queue0 = [] ∧ s.recd.queue1 = [] then
    let q := s.recd.freezeReq
    let s := (s.set Fld.REC_STAT_FREEZING 0).set Fld.REC_STAT_FROZEN 1
    ({ s with recd := { s.recd with freezeReq := none } }).resultOpt q 0 []
  else s

/-- REC_CTRL.FREEZE (R478). -/
def State.recCtrlFreeze (s : State) : State := if s.freezeAllowed then s.startFreeze none else s.recRefuse

/-- R471: a bank whose device fails a program or erase verify is taken out of recording, and BANK_SINGLE is recorded in
the other bank. -/
def State.bankSingle (s : State) (bank : Nat) : State :=
  let s := if bank = 0 then s.set Fld.REC_STAT_SINGLE_0 1 else s.set Fld.REC_STAT_SINGLE_1 1
  let s := if bank = 0 then { s with recd := { s.recd with queue0 := [], body0 := false, erase0 := none } }
    else { s with recd := { s.recd with queue1 := [], body1 := false, erase1 := none } }
  s.raise 0x0008 0 (leBytes 4 bank ++ le32 (s.rd Reg.REC_CNT))

/-- The first position from `i` on whose bytes are all erased; a torn position is skipped (R473). -/
def State.freePosition (s : State) (bank : Nat) (written : List Nat) : Nat → Nat → Nat
  | 0, i => i
  | n + 1, i => if i ∈ written then State.freePosition s bank written n ((i + 1) % 524288) else i

/-- The next write position of a bank (R470, R476). -/
def State.writePosition (s : State) (bank : Nat) : Nat := match s.newestRecord bank with
  | none => 0
  | some i =>
    let w := s.writtenPositions bank
    s.freePosition bank w w.length ((i + 1) % 524288)

/-- R470, R476: the sector ahead of a position, if any of it is written. -/
def State.sectorAhead (s : State) (bank pos : Nat) : Option Nat :=
  let n := (pos / 1024 + 1) % 512
  if (s.writtenPositions bank).any (fun i => decide (i / 1024 = n)) then some n else none

/-- R476: the write positions of both banks are found, and each sector ahead that is not empty is erased. -/
def State.findPositions (s : State) : State :=
  let s := (s.set (Fld.REC_WPTRk_POS 0) (s.writePosition 0)).set (Fld.REC_WPTRk_POS 1) (s.writePosition 1)
  { s with recd := { s.recd with erase0 := s.sectorAhead 0 (s.get (Fld.REC_WPTRk_POS 0))
                                 erase1 := s.sectorAhead 1 (s.get (Fld.REC_WPTRk_POS 1)) } }

/-- RECORDER_READY (R476): READY is set and the held events are written. -/
def State.recorderReady (s : State) : State :=
  if s.get Fld.REC_STAT_READY = 0 then (s.findPositions.set Fld.REC_STAT_READY 1).writeHeld else s

/-- A record has been programmed whole: the queue and the write position move on, and at the first position of a sector
the next sector is to be erased (R470). -/
def State.recordWritten (s : State) (bank : Nat) : State :=
  let pos := (s.get (Fld.REC_WPTRk_POS bank) + 1) % 524288
  let s := s.set (Fld.REC_WPTRk_POS bank) pos
  let ahead := if pos % 1024 = 0 then some ((pos / 1024 + 1) % 512) else none
  if bank = 0 then { s with recd := { s.recd with queue0 := s.recd.queue0.tail, body0 := false, erase0 := ahead } }
  else { s with recd := { s.recd with queue1 := s.recd.queue1.tail, body1 := false, erase1 := ahead } }

/-- RECORD_PROGRAM_DONE (R473): bytes 0 to 59 and then MARK of the oldest queued record verify, or the bank is taken out
of recording.  No program starts while a sector is being erased, before READY, or once FROZEN (R470, R476, R478). -/
def State.recordProgramDone (s : State) (bank : Nat) (ok : Bool) : State :=
  let q := if bank = 0 then s.recd.queue0 else s.recd.queue1
  let body := if bank = 0 then s.recd.body0 else s.recd.body1
  let erasing := if bank = 0 then s.recd.erase0 else s.recd.erase1
  match q with
  | [] => s
  | x :: _ =>
    if erasing.isSome ∨ s.get Fld.REC_STAT_READY = 0 ∨ s.get Fld.REC_STAT_FROZEN = 1 then s
    else if !ok then s.bankSingle bank
    else
      let a := recordAddr (s.get (Fld.REC_WPTRk_POS bank))
      if body then (s.nvmProgram bank (a + 60) (leBytes 4 0x5AC33CA5)).recordWritten bank
      else
        let s := s.nvmProgram bank a (recordBody x)
        if bank = 0 then { s with recd := { s.recd with body0 := true } }
        else { s with recd := { s.recd with body1 := true } }

/-- SECTOR_ERASE_DONE (R470): the sector ahead is erased, or the bank is taken out of recording (R471). -/
def State.sectorEraseDone (s : State) (bank : Nat) (ok : Bool) : State :=
  match (if bank = 0 then s.recd.erase0 else s.recd.erase1) with
  | none => s
  | some n =>
    if !ok then s.bankSingle bank
    else
      let s := s.nvmEraseSector bank (0x1000000 + 0x10000 * n)
      if bank = 0 then { s with recd := { s.recd with erase0 := none } }
      else { s with recd := { s.recd with erase1 := none } }

/-- R477: FUNC_REINIT of the recorder, or adoption step 7: the freeze ends, the section is loaded again, the write
positions are found again, and both banks return to recording. -/
def State.recorderReinit (s : State) : State :=
  let s := s.endFreeze 2
  let s := (s.set Fld.REC_STAT_SINGLE_0 0).set Fld.REC_STAT_SINGLE_1 0
  let s := { s with recd := { s.recd with body0 := false, body1 := false } }
  s.findPositions

/-! The commands. -/

/-- EVENT_COMMIT (R253). -/
def execEventCommit (s : State) : Host.Outcome State Fault Refusal := .next (s.running State.eventCommit)
/-- RECORD_PROGRAM_DONE (R473). -/
def execRecordProgramDone (bank : Fin 2) (ok : Bool) (s : State) : Host.Outcome State Fault Refusal :=
  .next (s.running (fun s => s.recordProgramDone bank ok))
/-- SECTOR_ERASE_DONE (R470). -/
def execSectorEraseDone (bank : Fin 2) (ok : Bool) (s : State) : Host.Outcome State Fault Refusal :=
  .next (s.running (fun s => s.sectorEraseDone bank ok))
/-- RECORDER_READY (R476). -/
def execRecorderReady (s : State) : Host.Outcome State Fault Refusal := .next (s.running State.recorderReady)
/-- FREEZE_DRAINED (R478). -/
def execFreezeDrained (s : State) : Host.Outcome State Fault Refusal := .next (s.running State.freezeDrained)
/-- FREEZE_TIMEOUT (R480). -/
def execFreezeTimeout (s : State) : Host.Outcome State Fault Refusal := .next (s.running (fun s => s.endFreeze 3))
/-- REC_CTRL.FREEZE (R478). -/
def execRecCtrlFreeze (s : State) : Host.Outcome State Fault Refusal := .next (s.running State.recCtrlFreeze)
/-- REC_CTRL.RELEASE (R480). -/
def execRecCtrlRelease (s : State) : Host.Outcome State Fault Refusal := .next (s.running (fun s => s.endFreeze 1))
/-- REC_CTRL.CNT_CLR (R482). -/
def execRecCntClr (s : State) : Host.Outcome State Fault Refusal := .next (s.running (fun s => s.wr Reg.REC_CNT 0))
/-- REC_FREEZE (R478): PENDING, or refused with BUSY. -/
def execRecFreeze (r : Req) (s : State) : Host.Outcome State Fault Refusal :=
  .next (s.command r 0x0070 [] {} fun s =>
    if s.freezeAllowed then (s.startFreeze (some (reqRef r 0x0070)), respPending []) else (s.recRefuse, respRefused 1))
/-- REC_RELEASE (R480): answered OK whether or not a freeze is in force. -/
def execRecRelease (r : Req) (s : State) : Host.Outcome State Fault Refusal :=
  .next (s.command r 0x0071 [] {} fun s => (s.endFreeze 1, respOk []))
/-- TIME_MARK (R475). -/
def execTimeMark (s : State) : Host.Outcome State Fault Refusal :=
  .next (s.running (fun s => s.raise 0x0006 0 s.resetData))

end Sys2Proof.Machine
end

