-- ==== Sys2Proof/Machine/SafetyFns.lean ====
section
/-!
DEFINITION. Sys2Proof/Machine/SafetyFns.lean: the machine-safety functions (R278 to R306): recognition, stops, faults, restart,
pairs and outputs, and what the functions report.
-/
namespace Sys2Proof.Machine

/-! Views. -/

/-- A technology. -/
def State.tech (s : State) (t : Tech) : TechSt := match t with | .slate => s.saf.slate | .cobalt => s.saf.cobalt

/-- A technology changed. -/
def State.modTech (s : State) (t : Tech) (f : TechSt → TechSt) : State := match t with
  | .slate => { s with saf := { s.saf with slate := f s.saf.slate } }
  | .cobalt => { s with saf := { s.saf with cobalt := f s.saf.cobalt } }

/-- The other technology. -/
def otherTech (t : Tech) : Tech := match t with | .slate => .cobalt | .cobalt => .slate

/-- A function of a technology's table, RESET functions included. -/
def TechSt.fnCfg (t : TechSt) (f : Nat) : Option FnCfg := t.table.bind (fun c => c.fns.getD f none)

/-- A function's view. -/
def TechSt.view (t : TechSt) (f : Nat) : FnView := cellsGet {} t.fns f

/-- A function's view changed. -/
def TechSt.modView (t : TechSt) (f : Nat) (g : FnView → FnView) : TechSt :=
  { t with fns := cellsSet {} t.fns f (g (cellsGet {} t.fns f)) }

/-- A view changed in the state. -/
def State.modView (s : State) (t : Tech) (f : Nat) (g : FnView → FnView) : State := s.modTech t (fun x => x.modView f g)

/-- The functions of a table that govern pairs: every declared one but the RESET functions. -/
def TechSt.governing (t : TechSt) : List Nat :=
  (List.range 32).filter (fun f => match t.fnCfg f with | some c => decide (c.typ ≠ .reset) | none => false)

/-- R283, R284: channel A or B of input pair `i` is recognised closed; not yet recognised, it is open. -/
def TechSt.closed (t : TechSt) (anti : Bool) (i : Nat) (chB : Bool) : Bool :=
  if chB then t.seenB.getLsbD i && (Bool.xor anti (t.hiB.getLsbD i)) else t.seenA.getLsbD i && t.hiA.getLsbD i

/-- The channel's level has been recognised from its raw level. -/
def TechSt.seen (t : TechSt) (i : Nat) : Bool := t.seenA.getLsbD i && t.seenB.getLsbD i

/-- The input pairs of a function. -/
def fnInputs (c : FnCfg) : List Nat := if c.typ = .twoHand then [c.inp, c.inp + 1] else [c.inp]

/-- Both channels of a pair closed, or both open. -/
def TechSt.bothClosed (t : TechSt) (c : FnCfg) (i : Nat) : Bool := t.closed c.anti i false && t.closed c.anti i true
def TechSt.bothOpen (t : TechSt) (c : FnCfg) (i : Nat) : Bool := !t.closed c.anti i false && !t.closed c.anti i true

/-- R295: a hand is fully released. -/
def TechSt.released (t : TechSt) (c : FnCfg) (i : Nat) : Bool := t.bothOpen c i && t.seen i

/-- Every pair closed; every pair open; a disagreement in some pair. -/
def TechSt.allClosed (t : TechSt) (c : FnCfg) : Bool := (fnInputs c).all (t.bothClosed c)
def TechSt.allOpen (t : TechSt) (c : FnCfg) : Bool := (fnInputs c).all (t.bothOpen c)
def TechSt.disagrees (t : TechSt) (c : FnCfg) : Bool := (fnInputs c).any (fun i => !t.bothClosed c i && !t.bothOpen c i)

/-! Permits and outputs (R279, R289, R304). -/

/-- R304: an owner code names this part. -/
def State.ownsCode (s : State) (owner : Nat) : Bool :=
  let g := s.get Fld.SYS_STRAP_GROUP_ID
  decide (owner = 3 ∨ g = 3 ∨ owner = g)

/-- The functions mapped to a pair. -/
def TechSt.mapped (t : TechSt) (p : Nat) : List Nat :=
  t.governing.filter (fun f => match t.fnCfg f with | some c => c.pairs.getLsbD p | none => false)

/-- R289: a technology permits a pair only while every function mapped to it is RUN; a pair without functions is never permitted. -/
def TechSt.permits (t : TechSt) (p : Nat) : Bool :=
  t.active && t.ok && decide (t.mapped p ≠ []) && (t.mapped p).all (fun f => decide ((t.view f).st = 2))

/-- R291: an output that is on stays on through a controlled stop. -/
def TechSt.holds (t : TechSt) (p : Nat) : Bool :=
  t.active && t.ok && decide (t.mapped p ≠ []) && (t.mapped p).all (fun f => decide ((t.view f).st = 2 ∨ (t.view f).st = 3))

/-- The pairs for which a test holds. -/
def pairMask (f : Nat → Bool) : BitVec 16 :=
  BitVec.ofNat 16 ((List.range 16).foldl (fun a p => if f p then a + 2 ^ p else a) 0)

/-- R304: this part owns the pair. -/
def State.ownsPair (s : State) (t : TechSt) (p : Nat) : Bool :=
  (t.mapped p).all (fun f => match t.fnCfg f with | some c => s.ownsCode c.owner | none => true)

/-- R279: the outputs that a technology keeps on. -/
def State.techOut (s : State) (t : TechSt) : BitVec 16 :=
  pairMask (fun p => s.ownsPair t p &&
    if t.out.getLsbD p then t.holds p && t.rxHold.getLsbD p else t.permits p && t.rxOn.getLsbD p)

/-- R279, R281: both technologies drive their outputs; an output switched on reads back on. -/
def State.safOutputs (s : State) : State :=
  let a := s.techOut s.saf.slate
  let b := s.techOut s.saf.cobalt
  let s := (s.modTech .slate (fun t => { t with out := a, pulse := t.pulse &&& a })).modTech .cobalt
    (fun t => { t with out := b, pulse := t.pulse &&& b })
  let oa := a &&& ~~~s.saf.slate.pulse
  let ob := b &&& ~~~s.saf.cobalt.pulse
  let w : Word := oa.setWidth 32 ||| (ob.setWidth 32 <<< 16)
  let s := (s.wr Reg.SAF_SO w).wr Reg.SAF_SORB (s.rd Reg.SAF_SORB ||| w)
  s.mirrorSafe

/-! Stops and faults. -/

/-- R290, R302: a function stops.  An input stop asks for both channels open together (R293). -/
def TechSt.stop (t : TechSt) (f cause : Nat) (cat0 : Bool) : TechSt := match t.fnCfg f with
  | none => t
  | some c =>
    let input := decide (cause = 1 ∨ cause = 2 ∨ cause = 3)
    t.modView f (fun v => if v.st = 2 ∨ (v.st = 3 ∧ cat0) then { v with
        st := if c.cat1 ∧ !cat0 then 3 else 1, cause := if v.st = 2 then cause else v.cause
        needOpen := v.needOpen || input, opened := t.allOpen c, edge := false, armed := false
        rel0 := t.released c c.inp, rel1 := t.released c (c.inp + 1) }
      else v)

/-- R291: a category 0 stop ends the controlled-stop time of the functions that govern the same pair. -/
def TechSt.endC1 (t : TechSt) (pairs : BitVec 16) : TechSt :=
  t.governing.foldl (fun t g => match t.fnCfg g with
    | some c => if (t.view g).st = 3 ∧ c.pairs &&& pairs ≠ 0 then t.modView g (fun v => { v with st := 1 }) else t
    | none => t) t

/-- A RUN function stops on an input (R290). -/
def TechSt.inputStop (t : TechSt) (f : Nat) (c : FnCfg) (cause : Nat) : TechSt :=
  if (t.view f).st ≠ 2 then t
  else
    let t := t.stop f cause false
    if c.cat1 then t else t.endC1 c.pairs

/-- R298: a fault latches. -/
def TechSt.fault (t : TechSt) (f cause : Nat) : TechSt :=
  let k : BitVec 16 := BitVec.ofNat 16 (2 ^ cause)
  let again := decide (cause = 5 ∨ cause = 6)
  t.modView f (fun v => if v.st = 0 then v else { v with
    st := 4, cause := cause, faults := v.faults ||| k, untold := if again then v.untold ||| k else v.untold
    faultOpen := if again then false else v.faultOpen, pulseA := false, pulseB := false
    needOpen := v.needOpen || again, opened := if again then false else v.opened, edge := false, armed := false })

/-- A latched fault clears; with none left the function is STOPPED. -/
def FnView.clearFault (v : FnView) (cause : Nat) : FnView :=
  let r := v.faults &&& ~~~(BitVec.ofNat 16 (2 ^ cause))
  if v.faults = r then v else { v with faults := r, st := if r = 0 then 1 else v.st }

/-- Every governing function of a technology takes a fault. -/
def TechSt.faultAll (t : TechSt) (cause : Nat) : TechSt := t.governing.foldl (fun t f => t.fault f cause) t

/-- A fault of every function, in both technologies. -/
def State.faultBoth (s : State) (cause : Nat) : State :=
  (s.modTech .slate (fun t => t.faultAll cause)).modTech .cobalt (fun t => t.faultAll cause)

/-! Restart (R294, R295). -/

/-- Table 11-5, conditions 3 and 4 in one technology's view; for a TWO_HAND function both hands have been released. -/
def TechSt.ready (t : TechSt) (f : Nat) : Bool := match t.fnCfg f with
  | none => false
  | some c =>
    let v := t.view f
    decide (v.faults = 0 ∧ v.st ≠ 0) && t.allClosed c && (!v.needOpen || v.opened) &&
      (decide (c.typ ≠ .twoHand) || (v.rel0 && v.rel1))

/-- Table 11-5: conditions 1 to 4 hold in both technologies. -/
def State.restartOk (s : State) (f : Nat) : Bool :=
  s.saf.slate.ok && s.saf.cobalt.ok && decide (s.get Fld.SAF_STAT_CFG_MATCH = 1 ∧ s.get Fld.SAF_STAT_HOLD = 0) &&
    s.saf.slate.ready f && s.saf.cobalt.ready f

/-- A reset edge is needed: MANUAL, or condition 5; never for a TWO_HAND function. -/
def FnView.asksEdge (v : FnView) (c : FnCfg) : Bool := decide (c.typ ≠ .twoHand) && (!c.auto || v.needEdge)

/-- A STOPPED function whose restart holds returns to RUN in one technology. -/
def State.fnRun (s : State) (t : Tech) (f : Nat) : State := match (s.tech t).fnCfg f with
  | none => s
  | some c =>
    let v := (s.tech t).view f
    if v.st = 1 ∧ s.restartOk f ∧ (!v.asksEdge c ∨ v.edge) then
      s.modView t f (fun v => { v with st := 2, cause := 0, needOpen := false, opened := false, needEdge := false, edge := false,
                                       armed := false })
    else s

/-- Every function that may return to RUN does. -/
def State.safSettle (s : State) : State :=
  s.each s.saf.slate.governing (fun f s => (s.fnRun .slate f).fnRun .cobalt f)

/-! Reports (R305). -/

/-- How restrictive a state is: FAULT, STOPPED, STOPPING, RUN; a function not declared here counts as stopped. -/
def fnRank (st : Nat) : Nat := if st = 4 then 3 else if st = 3 then 1 else if st = 2 then 0 else 2

/-- R305: the reported state of a function. -/
def State.fnReported (s : State) (f : Nat) : Nat :=
  let a := (s.saf.slate.view f).st
  let b := (s.saf.cobalt.view f).st
  if a = 0 ∧ b = 0 then 0
  else
    let r := max (fnRank a) (fnRank b)
    if r = 3 then 4 else if r = 2 then 1 else if r = 1 then 3 else 2

/-- R305: the cause of a record: that of the technology whose change set the reported state, Slate's where both did; SELFTEST where
either holds it. -/
def State.fnCause (old s : State) (f : Nat) : Nat :=
  let a := s.saf.slate.view f
  let b := s.saf.cobalt.view f
  let r := fnRank (s.fnReported f)
  if a.cause = 10 ∨ b.cause = 10 then 10
  else if fnRank a.st = r ∧ a ≠ old.saf.slate.view f then a.cause
  else if fnRank b.st = r ∧ b ≠ old.saf.cobalt.view f then b.cause
  else if fnRank a.st = r then a.cause else b.cause

/-- Table 11-9: LEVELS. -/
def State.fnLevels (s : State) (f : Nat) : Nat :=
  let t := s.saf.slate
  let (a, b, own) := match t.fnCfg f with
    | some c => (t.closed c.anti c.inp false, t.closed c.anti c.inp true, s.ownsCode c.owner)
    | none => (false, false, false)
  flagBit a 0 + flagBit b 1 + flagBit (decide ((t.view f).st = 2)) 2 + flagBit (decide ((s.saf.cobalt.view f).st = 2)) 3 +
    flagBit own 4

/-- Table 11-9: the record of a function. -/
def State.fnRecord (s : State) (f st cause : Nat) : List Byte :=
  le32 (s.rd Reg.TB_NS) ++ [BitVec.ofNat 8 f, BitVec.ofNat 8 st, BitVec.ofNat 8 cause, BitVec.ofNat 8 (s.fnLevels f)] ++
    leBytes 2 (cellsGet 0 s.saf.stops f) ++ [0, 0, 0, 0, 0, 0]

/-- Table 11-18: the latest safety event. -/
def State.safLast (s : State) (f cause : Nat) : State :=
  ((s.set Fld.SAF_LAST_FUNC f).set Fld.SAF_LAST_CAUSE cause).wr Reg.SAF_LASTT (s.rd Reg.TB_NS)

/-- R305: the record and events of a change of a function's reported state. -/
def State.fnReport (old s : State) (f : Nat) : State :=
  let o := cellsGet 0 s.saf.reported f
  let n := s.fnReported f
  if o = n then s
  else
    let cause := State.fnCause old s f
    let s := { s with saf := { s.saf with reported := cellsSet 0 s.saf.reported f n } }
    let stop := decide (o = 2)
    let s := if stop then { s with saf := { s.saf with stops := cellsSet 0 s.saf.stops f ((cellsGet 0 s.saf.stops f + 1) % 65536) } }
      else s
    let rec_ := s.fnRecord f n cause
    let h := s.handleOf 10 f
    let s := (s.umberOut 10 f rec_).safLast f cause
    let s := if stop then (s.raise 0x3801 h rec_).count Fld.SAF_CNT_STOPS else s
    let s := if n = 2 then (s.raise 0x3802 h rec_).count Fld.SAF_CNT_RESETS else s
    let s := if n = 4 then (s.raise 0x3803 h rec_).count Fld.SAF_CNT_FAULTS else s
    if o = 4 then s.raise 0x3804 h rec_ else s

/-- Table 11-19: SAF_FNf shows Slate's view. -/
def State.fnSync (s : State) (f : Nat) : State := match s.saf.slate.fnCfg f with
  | none => s
  | some c =>
    let t := s.saf.slate
    let v := t.view f
    let wait := decide (v.st = 1) && s.restartOk f && v.asksEdge c
    s.wr (Reg.SAF_FNf f) (BitVec.ofNat 32 (v.st + flagBit (t.closed c.anti c.inp false) 3 + flagBit (t.closed c.anti c.inp true) 4 +
      flagBit (t.disagrees c && decide (v.faults.getLsbD 5 = false)) 5 + flagBit wait 6 + flagBit (decide (v.st = 2)) 7 +
      flagBit (decide ((s.saf.cobalt.view f).st = 2)) 8 + v.cause * 2 ^ 9 + flagBit (s.ownsCode c.owner) 13))

/-! Actions (R224, R296). -/

/-- The pairs whose stop is in force. -/
def State.stoppedPairs (s : State) : BitVec 16 := pairMask s.pairStopped

/-- The thruster mask of a pair. -/
def State.pairThr (s : State) (p : Nat) : Word := match s.saf.slate.table with | some c => c.thr.getD p 0 | none => 0

/-- The thrusters that a pair covers. -/
def State.pairThrusters (s : State) (p : Nat) : List Nat := (List.range 32).filter (fun i => (s.pairThr p).getLsbD i)

/-- R296: a pair's stop acts on its thrusters and loops. -/
def State.pairStop (s : State) (p : Nat) (start : Bool) : State :=
  (s.each (s.pairThrusters p) (fun i s => s.thrRemove i 1 start)).servoStop p

/-- R296: a thruster that every covering pair permits again may be re-admitted. -/
def State.pairFree (s : State) (p : Nat) : State :=
  s.each (s.pairThrusters p) fun i s =>
    if (List.range 16).any (fun q => (s.pairThr q).getLsbD i && s.pairStopped q) then s else s.thrClear i 1

/-- R37: a stop that takes a thruster out of the frame's allocation keeps rank 1 at the cost of rank 3, and the event names both
(log entry 96). -/
def State.safetyCost (s : State) (is : List Nat) : State :=
  if s.commanding ∧ s.frame.started ∧ is.any (fun i => decide (i < s.thrCount ∧ (s.thr i).reasons = 0)) then
    s.conflictEvent 1 3 0 s.frame.count
  else s

/-- Stops newly in force act, and stops that ended free their thrusters.  `again` marks pairs whose stop is a new one though one was
already in force. -/
def State.safAct (s : State) (before again : BitVec 16) : State :=
  let after := s.stoppedPairs
  let new := fun (p : Nat) => after.getLsbD p && (!before.getLsbD p || again.getLsbD p)
  let s := s.safetyCost (((List.range 16).filter new).flatMap s.pairThrusters)
  s.each (List.range 16) fun p s =>
    if new p then s.pairStop p false
    else if !after.getLsbD p ∧ before.getLsbD p then s.pairFree p else s

/-- One step of the safety block: what it does, then restarts, outputs, reports and actions. -/
def State.safOp (s : State) (again : BitVec 16) (f : State → State) : State :=
  let s1 := ((f s).safSettle).safOutputs
  let s2 := s1.each (List.range 32) (fun i x => (State.fnReport s x i).fnSync i)
  s2.safAct s.stoppedPairs again

/-! Recognition (R284 to R286, R290 to R294). -/

/-- A recognised level in one technology. -/
def TechSt.recognise (t : TechSt) (i : Nat) (chB level : Bool) : TechSt :=
  let k : Word := BitVec.ofNat 32 (2 ^ i)
  let set := fun (w : Word) => if level then w ||| k else w &&& ~~~k
  if chB then { t with hiB := set t.hiB, seenB := t.seenB ||| k } else { t with hiA := set t.hiA, seenA := t.seenA ||| k }

/-- R293, R298: a fault of DISC, or of TEST once every channel's pulse has passed, clears when the channels have been open together
and then closed together. -/
def TechSt.clearInput (t : TechSt) (f : Nat) (c : FnCfg) : TechSt :=
  let v := t.view f
  if v.faultOpen && t.allClosed c then
    let t := if v.faults.getLsbD 5 then t.modView f (fun v => v.clearFault 5) else t
    if v.faults.getLsbD 6 ∧ v.pulseA ∧ v.pulseB then t.modView f (fun v => v.clearFault 6) else t
  else t

/-- What a recognised channel does to a function that it feeds. -/
def TechSt.channelFn (was : TechSt) (i : Nat) (chB : Bool) (t : TechSt) (f : Nat) : TechSt := match t.fnCfg f with
  | none => t
  | some c =>
    if i ∉ (fnInputs c) then t
    else
      let opens := was.closed c.anti i chB && !t.closed c.anti i chB
      let t := if opens then t.inputStop f c (if chB then 2 else 1) else t
      let t := t.modView f (fun v => { v with
        opened := v.opened || t.allOpen c, faultOpen := v.faultOpen || t.allOpen c
        rel0 := v.rel0 || t.released c c.inp, rel1 := v.rel1 || t.released c (c.inp + 1) })
      t.clearInput f c

/-- R294: the functions that a RESET channel resets. -/
def TechSt.resetUsers (t : TechSt) (i : Nat) (chB : Bool) : List Nat :=
  t.governing.filter (fun f => match t.fnCfg f with
    | some c => match c.resetIn.bind t.fnCfg with
      | some r => decide (r.typ = .reset ∧ r.inp = i ∧ r.chB = chB)
      | none => false
    | none => false)

/-- R294: a RESET channel closes, or is released after `held` tenths of a millisecond. -/
def State.resetChannel (s : State) (t : Tech) (f held : Nat) (closing : Bool) : State :=
  let ok := s.restartOk f
  if closing then s.modView t f (fun v => { v with armed := ok, edge := false })
  else s.modView t f (fun v => { v with armed := false, edge := v.armed && ok && decide (1000 ≤ held ∧ held ≤ 50000) })

/-- SAFETY_CHANNEL_RECOGNISED (R284): a channel is recognised at a level that it has held for T_F; its previous recognised level had
held for `held`. -/
def State.channelRecognised (s : State) (t : Tech) (i : Nat) (chB level : Bool) (held : Nat) : State :=
  if !(s.tech t).active then s
  else s.safOp 0 fun s =>
    let was := s.tech t
    let now := was.recognise i chB level
    let next := now.governing.foldl (fun x f => TechSt.channelFn was i chB x f) now
    let s := s.modTech t (fun _ => next)
    let raw : Field := ⟨if chB then Reg.SAF_SIB else Reg.SAF_SIA, i, 1⟩
    let s := if t = .slate then s.setBit raw level else s
    let c0 := was.closed false i chB
    let c1 := next.closed false i chB
    if c0 = c1 then s
    else s.each (next.resetUsers i chB) (fun f s => s.resetChannel t f held c1)

/-! The timers and tests. -/

/-- C1_STOP_TIMER (R291). -/
def State.c1Timer (s : State) (t : Tech) (f : Nat) : State :=
  s.safOp 0 fun s => s.modView t f (fun v => if v.st = 3 then { v with st := 1 } else v)

/-- DISCREPANCY_LATCH (R292). -/
def State.discLatch (s : State) (t : Tech) (f : Nat) : State := match (s.tech t).fnCfg f with
  | none => s
  | some c =>
    if c.typ ≠ .reset ∧ (s.tech t).active ∧ (s.tech t).disagrees c then s.safOp 0 (fun s => s.modTech t (fun x => x.fault f 5)) else s

/-- TWO_HAND_SYNC_TIMEOUT (R295): one hand alone, for 0.5 s. -/
def State.syncTimeout (s : State) (t : Tech) (f : Nat) : State := match (s.tech t).fnCfg f with
  | none => s
  | some c =>
    let x := s.tech t
    let v := x.view f
    let one := Bool.xor (x.bothClosed c c.inp) (x.bothClosed c (c.inp + 1))
    if c.typ = .twoHand ∧ v.st = 1 ∧ one ∧ v.rel0 ∧ v.rel1 then
      let first := decide (((s.tech (otherTech t)).view f).cause ≠ 7)
      let s := s.safOp 0 fun s => s.modView t f (fun v => { v with cause := 7, rel0 := false, rel1 := false })
      if first then (s.raise 0x3805 (s.handleOf 10 f) (s.fnRecord f (s.fnReported f) 7)).safLast f 7 else s
    else s

/-- R285: a TP output of this part. -/
def State.ownsTp (s : State) (k : Nat) : Bool := match s.saf.slate.table with
  | some c => s.ownsCode (c.tpOwner.getD k 3)
  | none => false

/-- TP_PULSE_START (R285, R304). -/
def State.tpStart (s : State) (k : Nat) : State :=
  if s.ownsTp k then { s with saf := { s.saf with tpLow := s.saf.tpLow ||| BitVec.ofNat 8 (2 ^ k) } } else s

/-- R285: whether a channel passes a pulse of TP `k`: an open one does; an assigned closed one must read low, and another closed one
whose run level is high must read high. -/
def tpPasses (closed level runHigh : Bool) (tp : Option Nat) (k : Nat) : Bool :=
  !closed || (if tp = some k then !level else level || !runHigh)

/-- R285, R298: the sampler's reading of a function's channels in one technology. -/
def TechSt.tpTest (t : TechSt) (k : Nat) (a b : Word) (f : Nat) : TechSt := match t.fnCfg f with
  | none => t
  | some c =>
    let okA := (fnInputs c).all (fun i => tpPasses (t.closed c.anti i false) (a.getLsbD i) true c.tpA k)
    let okB := (fnInputs c).all (fun i => tpPasses (t.closed c.anti i true) (b.getLsbD i) (!c.anti) c.tpB k)
    if !(okA && okB) then t.fault f 6
    else
      let mine := fun (tp : Option Nat) => decide (tp = none ∨ tp = some k)
      let t := t.modView f (fun v => if v.faultOpen && t.allClosed c then { v with
        pulseA := v.pulseA || mine c.tpA, pulseB := v.pulseB || mine c.tpB } else v)
      t.clearInput f c

/-- TP_PULSE_SAMPLE (R285): the levels at SI_A and SI_B in the last 20 µs of the pulse of TP `k`; the functions that another member
owns are not tested (R304). -/
def State.tpSample (s : State) (k : Nat) (a b : Word) : State :=
  if !s.saf.tpLow.getLsbD k then s
  else
    let s := { s with saf := { s.saf with tpLow := s.saf.tpLow &&& ~~~(BitVec.ofNat 8 (2 ^ k)) } }
    s.safOp 0 fun s =>
      let own := fun (t : TechSt) => t.governing.filter (fun f => match t.fnCfg f with
        | some c => s.ownsCode c.owner
        | none => false)
      let test := fun (t : TechSt) => (own t).foldl (fun x f => x.tpTest k a b f) t
      (s.modTech .slate test).modTech .cobalt test

/-- R298: OUTPUT: every function that governs the pair faults, in both technologies. -/
def State.outputFault (s : State) (p : Nat) : State :=
  let hit := fun (t : TechSt) => (t.mapped p).foldl (fun x f => x.fault f 8) t
  (s.modTech .slate hit).modTech .cobalt hit

/-- OFF_PULSE_TEST (R299): an output that is on, with OPT set, is switched off for 0.3 ms. -/
def State.offPulse (s : State) (t : Tech) (p : Nat) : State :=
  let opt := match (s.tech t).table with | some c => c.opt.getD p true | none => false
  if opt && (s.tech t).out.getLsbD p then
    s.safOp 0 fun s => s.modTech t (fun x => { x with pulse := x.pulse ||| BitVec.ofNat 16 (2 ^ p) })
  else s

/-- OFF_PULSE_END (R299): the output is switched on again; a read-back that did not show off is an OUTPUT fault. -/
def State.offPulseEnd (s : State) (t : Tech) (p : Nat) (off : Bool) : State :=
  if (s.tech t).pulse.getLsbD p then
    s.safOp 0 fun s =>
      let s := s.modTech t (fun x => { x with pulse := x.pulse &&& ~~~(BitVec.ofNat 16 (2 ^ p)) })
      if off then s else s.outputFault p
  else s

/-- R292: the other technology takes the DISC and TEST latches that it has not been told of. -/
def State.exchangeFaults (s : State) (t : Tech) : State :=
  s.each (s.tech t).governing fun f s =>
    let w := ((s.tech t).view f).untold
    let s := s.modTech (otherTech t) (fun x =>
      let x := if w.getLsbD 5 ∧ !(x.view f).faults.getLsbD 5 then x.fault f 5 else x
      if w.getLsbD 6 ∧ !(x.view f).faults.getLsbD 6 then x.fault f 6 else x)
    s.modView t f (fun v => { v with untold := 0 })

/-- COBALT_CYCLE (R279): the decisions are exchanged. -/
def State.cobaltCycle (s : State) : State :=
  if !(s.saf.slate.active && s.saf.cobalt.active) then s
  else s.safOp 0 fun s =>
    let s := (s.exchangeFaults .slate).exchangeFaults .cobalt
    let clear := fun (x : TechSt) => (List.range 32).foldl (fun x f => x.modView f (fun v => { v with untold := 0 })) x
    let s := (s.modTech .slate clear).modTech .cobalt clear
    let a := s.saf.slate
    let b := s.saf.cobalt
    (s.modTech .slate (fun x => { x with rxOn := pairMask b.permits, rxHold := pairMask b.holds })).modTech .cobalt
      (fun x => { x with rxOn := pairMask a.permits, rxHold := pairMask a.holds })

/-- R278, R298: a CLOCK fault. -/
def State.safClockFault (s : State) : State :=
  if s.saf.slate.active then s.safOp 0 (fun s => (s.faultBoth 12).set Fld.SAF_STAT_CLK_OK 0) else s.set Fld.SAF_STAT_CLK_OK 0

/-- TICK_CROSS_CHECK (R278). -/
def State.tickCheck (s : State) (deviates : Bool) : State := if deviates then s.safClockFault else s

/-- XCHECK_FAULT (R298). -/
def State.xcheck (s : State) (missing : Bool) : State :=
  let differ := decide (pairMask s.saf.slate.permits ≠ pairMask s.saf.cobalt.permits)
  if s.saf.slate.active && s.saf.cobalt.active && (missing || differ) then s.safOp 0 (fun s => s.faultBoth 9) else s

/-- The read-back field of a technology's output. -/
def readBack (t : Tech) (p : Nat) : Field := ⟨Reg.SAF_SORB, (match t with | .slate => p | .cobalt => 16 + p), 1⟩

/-- OUTPUT_READBACK_FAULT (R298): the read-back has differed from the command for more than 5 ms. -/
def State.readbackFault (s : State) (t : Tech) (p : Nat) (level : Bool) : State :=
  let cmd := (s.tech t).out.getLsbD p && !(s.tech t).pulse.getLsbD p
  if level = cmd ∨ !(s.tech t).active then s
  else ((s.safOp 0 (fun s => s.outputFault p)).setBit (readBack t p) level).mirrorSafe

/-- SELFTEST_FAIL (R300): the failing technology takes SELFTEST, the other XCHECK; all outputs stay off until device reset. -/
def State.selftestFail (s : State) (t : Tech) : State :=
  if !(s.tech t).active then s
  else s.safOp 0 fun s =>
    let s := (s.modTech t (fun x => { x.faultAll 10 with ok := false })).modTech (otherTech t) (fun x => x.faultAll 9)
    match t with
    | .slate => s.set Fld.SAF_STAT_SLATE_OK 0
    | .cobalt => (s.set Fld.SAF_STAT_COBALT_OK 0).set Fld.SAF_STAT_COBALT_STATE 2

/-- CHARGE_PUMP_DEENERGISE (R281): an output that is not driven reads back off. -/
def State.chargePump (s : State) (t : Tech) (p : Nat) : State :=
  let cmd := (s.tech t).out.getLsbD p && !(s.tech t).pulse.getLsbD p
  if cmd then s else (s.setBit (readBack t p) false).mirrorSafe

/-! HOLD (R302). -/

/-- A SAFE_HOLD event: the record of Table 11-9 for the part, cause HOLD. -/
def State.holdEvent (s : State) : State :=
  (s.raise 0x3806 0 (le32 (s.rd Reg.TB_NS) ++ [0, 0, 4, 0])).safLast 0 4

/-- R302: every function of a technology stops with cause HOLD. -/
def TechSt.holdAll (t : TechSt) : TechSt := t.governing.foldl (fun t f => match t.fnCfg f with
  | none => t
  | some c => (t.stop f 4 true).modView f (fun v => { v with
      needEdge := true, edge := false, armed := false, rel0 := t.released c c.inp, rel1 := t.released c (c.inp + 1) })) t

/-- SAF_CTRL_HOLD (R302). -/
def State.holdStart (s : State) : State :=
  if s.get Fld.SAF_STAT_HOLD = 1 then s
  else
    let s := s.safOp 0xFFFF fun s =>
      ((s.modTech .slate TechSt.holdAll).modTech .cobalt TechSt.holdAll).set Fld.SAF_STAT_HOLD 1
    s.holdEvent

/-- R295, R302: condition 5 and the release of both hands are asked for anew after HOLD. -/
def TechSt.holdEnded (t : TechSt) : TechSt := t.governing.foldl (fun t f => match t.fnCfg f with
  | none => t
  | some c => t.modView f (fun v => { v with
      needEdge := true, edge := false, armed := false, rel0 := t.released c c.inp, rel1 := t.released c (c.inp + 1) })) t

/-- SAF_CTRL_RELEASE (R302): ignored if no HOLD is in force. -/
def State.holdEnd (s : State) : State :=
  if s.get Fld.SAF_STAT_HOLD = 0 then s
  else
    let s := s.safOp 0 fun s =>
      ((s.modTech .slate TechSt.holdEnded).modTech .cobalt TechSt.holdEnded).set Fld.SAF_STAT_HOLD 0
    s.holdEvent

/-! Start-up and reload (R301, R303). -/

/-- Table 11-7: the faults of the part that only a device reset clears: XCHECK, SELFTEST and CLOCK. -/
def TechSt.lasting (t : TechSt) : BitVec 16 := t.fns.foldl (fun a x => a ||| (x.2.faults &&& 0x1600)) 0

/-- The cause that a function shows for the faults that it keeps. -/
def lastingCause (k : BitVec 16) : Nat := if k.getLsbD 10 then 10 else if k.getLsbD 9 then 9 else if k.getLsbD 12 then 12 else 8

/-- A technology with a function table: every declared function starts STOPPED with cause START, but for what only a device reset
clears: a latched OUTPUT fault of the function and the faults of the part (Table 11-7), and a failed self-test (R300). -/
def TechSt.load (t : TechSt) (c : SafetyCfg) : TechSt :=
  let old := t
  let t := { t with table := some c, active := true, ok := t.table.isNone || t.ok, fns := [], out := 0, pulse := 0, rxOn := 0, rxHold := 0 }
  t.governing.foldl (fun t f =>
    let keep := ((old.view f).faults &&& 0x0100) ||| old.lasting
    t.modView f (fun _ => if keep = 0 then { st := 1, cause := 13 } else { st := 4, cause := lastingCause keep, faults := keep })) t

/-- The reported states follow silently where functions start (R301). -/
def State.reportedSync (s : State) : State :=
  s.each (List.range 32) fun f s =>
    ({ s with saf := { s.saf with reported := cellsSet 0 s.saf.reported f (s.fnReported f) } }).fnSync f

/-- R301: Acorn loads the Slate section, and the START stop covers the thrusters of every pair (R296). -/
def State.slateLoad (s : State) (c : SafetyCfg) : State :=
  let s := (s.modTech .slate (fun t => t.load c)).set Fld.SAF_STAT_SLATE_OK 1
  let s := s.reportedSync
  s.each (List.range 16) fun p s => if s.pairStopped p then s.pairStop p true else s

/-- CFG_MATCH, READY and the CONFIG fault follow the comparison of the two function tables. -/
def State.tableCheck (s : State) : State :=
  let same := s.saf.slate.table.map (·.crc) = s.saf.cobalt.table.map (·.crc)
  let s := (s.setBit Fld.SAF_STAT_CFG_MATCH (decide same)).setBit Fld.SAF_STAT_READY (decide same)
  s.safOp 0 fun s =>
    if same then
      let clr := fun (t : TechSt) => t.governing.foldl (fun t f => t.modView f (fun v => v.clearFault 11)) t
      (s.modTech .slate clr).modTech .cobalt clr
    else s.faultBoth 11

/-- R303: the RESULT of a SAFETY_RELOAD. -/
def State.reloadResult (s : State) (code : Nat) (data : List Byte) : State := match s.saf.reload with
  | none => s
  | some (_, q) => ({ s with saf := { s.saf with reload := none } }).result q code data

/-- COBALT_BOOT_DONE (R301, R303): Cobalt has booted, its signature check has passed or failed, and its table is compared. -/
def State.cobaltBoot (s : State) (ok : Bool) (c : SafetyCfg) (maj min_ : Nat) : State :=
  if s.get Fld.SAF_STAT_COBALT_STATE ≠ 0 ∨ s.saf.slate.table.isNone then s
  else if !ok then s
  else
    let s := s.modTech .cobalt (fun t => t.load c)
    let s := (s.set Fld.SAF_STAT_COBALT_STATE (if s.saf.cobalt.ok then 1 else 2)).setBit Fld.SAF_STAT_COBALT_OK s.saf.cobalt.ok
    let s := s.setBit Fld.SAF_STAT_CLK_OK (decide (s.get Fld.CLK_STAT_SLATE_RC = 0))
    let s := ((s.set Fld.SAF_VER_FW_MAJOR maj).set Fld.SAF_VER_FW_MINOR min_).set Fld.SAF_VER_CFG_CRC (c.crc.toNat % 65536)
    let s := s.reportedSync.tableCheck
    if s.get Fld.SAF_STAT_CFG_MATCH = 1 then (s.startStep 10).reloadResult 0 [] else s.reloadResult 1 [11]

/-- R437: a section load names the running bank, or during an adoption the adopting bank. -/
def State.bankOk (s : State) (bank : Nat) : Bool := match s.img.adopting with
  | some (b, _) => decide (bank = b)
  | none => decide (bank = s.get Fld.IMG_STAT_RUN_BANK)

/-- A refused command of the image block. -/
def State.imgRefuse (s : State) (code addr : Nat) : State :=
  ((s.set Fld.IMG_STAT_REFUSED 1).set Fld.IMG_STAT_REF_CODE code).refuse 6 code addr

/-- SAFETY_RELOAD (R303, R437). -/
def State.safetyReload (s : State) (r : Req) (what bank : Nat) : State × Resp :=
  if what = 0 ∨ 3 < what then (s, respStatus 3 0)
  else if !s.bankOk bank then (s.imgRefuse 3 Reg.IMG_CMD, respRefused 3)
  else if s.get Fld.SAF_STAT_HOLD = 0 ∨ s.get Fld.SAF_STAT_SAFE = 0 then
    ((s.set Fld.SAF_STAT_REFUSED 1).refuse 10 1 Reg.SAF_CTRL, respRefused 1)
  else
    let s := s.modTech .cobalt (fun t => { t with active := false })
    let s := ((s.set Fld.SAF_STAT_COBALT_STATE 0).set Fld.SAF_STAT_READY 0).set Fld.SAF_STAT_CFG_MATCH 0
    ({ s with saf := { s.saf with reload := some (what, reqRef r 0x0052) } }, respPending [])

/-- R296: the thrusters and loops follow the pairs of a new table: each thruster that a stopped pair covers is removed, the others are
free of the reason; `before`: the pairs whose stop was in force. -/
def State.coverSync (s : State) (before : BitVec 16) : State :=
  let hit := fun (i : Nat) => (List.range 16).any (fun p => s.pairStopped p && (s.pairThr p).getLsbD i)
  let s := s.each (List.range 32) fun i s =>
    if hit i then (if (s.thr i).reasons.getLsbD 1 then s else s.thrRemove i 1 true) else s.thrClear i 1
  s.each (List.range 16) (fun p s => if s.pairStopped p && !before.getLsbD p then s.servoStop p else s)

/-- SLATE_RELOAD_DONE (R303). -/
def State.slateReloaded (s : State) (c : SafetyCfg) : State := match s.saf.reload with
  | some (1, _) => ((s.modTech .slate (fun t => t.load c)).reportedSync).coverSync s.stoppedPairs |>.mirrorSafe
  | _ => s

/-- SAFETY_RELOAD_TIMEOUT (R303). -/
def State.reloadTimeout (s : State) : State :=
  if s.get Fld.SAF_STAT_READY = 1 then s else s.reloadResult 2 []

/-! The commands. -/

/-- SAFETY_CHANNEL_RECOGNISED (R284). -/
def execSafetyChannelRecognised (t : Tech) (i : Fin 32) (chB level : Bool) (held : Nat) (s : State) :
    Host.Outcome State Fault Refusal := .next (s.running (fun s => s.channelRecognised t i chB level held))
/-- C1_STOP_TIMER (R291). -/
def execC1StopTimer (t : Tech) (f : Fin 32) (s : State) : Host.Outcome State Fault Refusal :=
  .next (s.running (fun s => s.c1Timer t f))
/-- DISCREPANCY_LATCH (R292). -/
def execDiscrepancyLatch (t : Tech) (f : Fin 32) (s : State) : Host.Outcome State Fault Refusal :=
  .next (s.running (fun s => s.discLatch t f))
/-- TWO_HAND_SYNC_TIMEOUT (R295). -/
def execTwoHandSyncTimeout (t : Tech) (f : Fin 32) (s : State) : Host.Outcome State Fault Refusal :=
  .next (s.running (fun s => s.syncTimeout t f))
/-- TP_PULSE_SAMPLE (R285). -/
def execTpPulseSample (k : Fin 8) (a b : Word) (s : State) : Host.Outcome State Fault Refusal :=
  .next (s.running (fun s => s.tpSample k a b))
/-- OFF_PULSE_TEST (R299). -/
def execOffPulseTest (t : Tech) (p : Fin 16) (s : State) : Host.Outcome State Fault Refusal :=
  .next (s.running (fun s => s.offPulse t p))
/-- COBALT_CYCLE (R279). -/
def execCobaltCycle (s : State) : Host.Outcome State Fault Refusal := .next (s.running State.cobaltCycle)
/-- TICK_CROSS_CHECK (R278). -/
def execTickCrossCheck (deviates : Bool) (s : State) : Host.Outcome State Fault Refusal :=
  .next (s.running (fun s => s.tickCheck deviates))
/-- XCHECK_FAULT (R298). -/
def execXcheckFault (missing : Bool) (s : State) : Host.Outcome State Fault Refusal :=
  .next (s.running (fun s => s.xcheck missing))
/-- OUTPUT_READBACK_FAULT (R298). -/
def execOutputReadbackFault (t : Tech) (p : Fin 16) (level : Bool) (s : State) : Host.Outcome State Fault Refusal :=
  .next (s.running (fun s => s.readbackFault t p level))
/-- SELFTEST_FAIL (R300). -/
def execSelftestFail (t : Tech) (s : State) : Host.Outcome State Fault Refusal := .next (s.running (fun s => s.selftestFail t))
/-- CHARGE_PUMP_DEENERGISE (R281). -/
def execChargePumpDeenergise (t : Tech) (p : Fin 16) (s : State) : Host.Outcome State Fault Refusal :=
  .next (s.running (fun s => s.chargePump t p))
/-- SAF_CTRL.HOLD (R302). -/
def execSafCtrlHold (s : State) : Host.Outcome State Fault Refusal := .next (s.running State.holdStart)
/-- SAF_CTRL.RELEASE (R302). -/
def execSafCtrlRelease (s : State) : Host.Outcome State Fault Refusal := .next (s.running State.holdEnd)
/-- SAF_CTRL.CNT_CLR (R306). -/
def execSafCntClr (s : State) : Host.Outcome State Fault Refusal := .next (s.running (fun s => s.wr Reg.SAF_CNT 0))
/-- SAFE_HOLD (R302). -/
def execSafeHold (r : Req) (s : State) : Host.Outcome State Fault Refusal :=
  .next (s.command r 0x0050 [] {} (fun s => (s.holdStart, respOk [])))
/-- SAFE_RELEASE (R302). -/
def execSafeRelease (r : Req) (s : State) : Host.Outcome State Fault Refusal :=
  .next (s.command r 0x0051 [] {} (fun s => (s.holdEnd, respOk [])))
/-- SAFETY_RELOAD (R303). -/
def execSafetyReload (r : Req) (what bank : Byte) (s : State) : Host.Outcome State Fault Refusal :=
  .next (s.command r 0x0052 [what, bank, 0, 0] {} (fun s => s.safetyReload r what.toNat bank.toNat))
/-- SLATE_RELOAD_DONE (R303). -/
def execSlateReloadDone (c : SafetyCfg) (s : State) : Host.Outcome State Fault Refusal :=
  .next (s.running (fun s => s.slateReloaded c))
/-- SAFETY_RELOAD_TIMEOUT (R303). -/
def execSafetyReloadTimeout (s : State) : Host.Outcome State Fault Refusal := .next (s.running State.reloadTimeout)
/-- TP_PULSE_START (R285). -/
def execTpPulseStart (k : Fin 8) (s : State) : Host.Outcome State Fault Refusal := .next (s.running (fun s => s.tpStart k))
/-- OFF_PULSE_END (R299). -/
def execOffPulseEnd (t : Tech) (p : Fin 16) (off : Bool) (s : State) : Host.Outcome State Fault Refusal :=
  .next (s.running (fun s => s.offPulseEnd t p off))
/-- COBALT_BOOT_DONE (R301). -/
def execCobaltBootDone (ok : Bool) (c : SafetyCfg) (maj min_ : Byte) (s : State) : Host.Outcome State Fault Refusal :=
  .next (s.running (fun s => s.cobaltBoot ok c maj.toNat min_.toNat))

end Sys2Proof.Machine
end

