-- ==== Sys2Proof/Machine/HostChans.lean ====
section
/-!
DEFINITION. Sys2Proof/Machine/HostChans.lean: the life of a channel (R458 to R462, R252) and the re-initialisation of functions
(R463).
-/
namespace Sys2Proof.Machine

/-- R458: the next generation, from 255 to 1. -/
def nextGen (g : Nat) : Nat := g % 255 + 1

/-- R458, R463: the generations of the channels that a function owns rise, and their subscriptions follow (R456).  On a part
that does not command they stay. -/
def State.raiseGens (s : State) (own : Chan → Bool) : State :=
  let moved := s.chans.filter (fun c => own c && decide (c.state ≠ .absent))
  let follow := fun (u : Subscription) => match moved.find? (fun c => decide (!u.events ∧ u.select = c.handle)) with
    | some c => { u with select := mkHandle c.typ c.index (nextGen c.gen) }
    | none => u
  { s with
    chans := s.chans.map (fun c => if own c && decide (c.state ≠ .absent) then { c with gen := nextGen c.gen } else c)
    mgt := { s.mgt with subs := s.mgt.subs.map follow } }

/-! Creation (R460, R461). -/

/-- R460: the index is declared in the section that its type needs. -/
def State.chanDeclared (s : State) (t i : Nat) : Bool :=
  t = 9 || t = 11 || (match s.cfg with | some c => c.channels.declared.contains (t, i) | none => false)

/-- R461: how long the body of a create request is. -/
def createLen (t : Nat) : Nat := if t = 9 ∨ t = 11 then 8 else 0

/-- R460, R461: the status of a create request; 0 where it is accepted.  A CAN object must be free (R320). -/
def State.createStatus (s : State) (t i : Nat) (body : List Byte) : Nat :=
  if t = 0 ∨ 14 < t then 3
  else if t = 10 ∨ t = 14 then 13
  else if body.length ≠ createLen t then 2
  else if s.chanMax t ≤ i then 8
  else match s.chan t i with
    | some c =>
      if c.state = .pending ∨ c.state = .closing then 9 else if c.state = .live then 14
      else if s.chanDeclared t i then 0 else 12
    | none =>
      if !s.chanDeclared t i then 12
      else if t = 9 ∧ s.objOn (i / 256) (i % 256) then 14 else 0

/-- The class of a channel that the host creates. -/
def hostClass (t : Nat) : ChanClass := if t = 5 then .timed else .umber

/-- A channel of a type and index in a state, with its next generation. -/
def State.chanNew (s : State) (t i : Nat) (st : ChanState) (body : List Byte) (q : Option ReqRef) : State :=
  match s.chan t i with
  | some c => s.modChan t i (fun _ => { typ := t, index := i, gen := nextGen c.gen, state := st, cls := hostClass t
                                        req := q, body := body })
  | none => { s with chans := s.chans ++ [{ typ := t, index := i, state := st, cls := hostClass t, req := q, body := body }] }

/-- R462: the function behind a channel starts as its section declares. -/
def State.fnStart (s : State) (c : Chan) : State :=
  if c.typ = 5 then s.thrClear c.index 7
  else if c.typ = 6 then s.loopReinit c.index
  else if c.typ = 7 then s.chainReinit c.index
  else if c.typ = 8 then s.pinReinit c.index
  else if c.typ = 9 then
    let n := c.index / 256
    let o := c.index % 256
    let s := ((s.wr (Reg.CANn_OBJCFG n o) (BitVec.ofNat 32 (leNat (c.body.take 4)))).wr (Reg.CANn_OBJFMT n o)
      (BitVec.ofNat 32 (leNat (c.body.drop 4)))).wr (Reg.CANn_OBJHDL n o) c.handle
    let s := s.modObj n o (fun _ => {})
    s.setBit ⟨Reg.CANn_OBJENw n (o / 32), o % 32, 1⟩ true
  else s.srcCreate c.typ c.index

/-- R461: a created channel becomes LIVE, with SEQ 0. -/
def State.chanLiveNow (s : State) (c : Chan) : State :=
  let s := s.modChan c.typ c.index (fun c => { c with state := .live, seq := 0, req := none })
  (s.fnStart c).resultOpt c.req 0 []

/-! Destruction (R252, R462). -/

/-- R462: the function behind a channel stops. -/
def State.fnStop (s : State) (t i : Nat) : State :=
  if t = 5 then s.thrRemove i 7 false
  else if t = 6 then s.loopOpen i 9
  else if t = 7 then s.chainStop i
  else if t = 8 then s.pinStop i
  else if t = 13 then
    s.modCtl (fun c => { c with joy := if s.ctlCfg.bind (·.joystick) = some i then none else c.joy
                                joyAt := if s.ctlCfg.bind (·.joystick) = some i then none else c.joyAt
                                levers := if s.ctlCfg.bind (·.lever) = some i then [] else c.levers
                                levAt := if s.ctlCfg.bind (·.lever) = some i then none else c.levAt })
  else s.srcDestroy t i

/-- A send object with something still to leave. -/
def State.chanQueued (s : State) (c : Chan) : Bool :=
  c.typ = 9 && !(s.canObj (c.index / 256) (c.index % 256)).queue.isEmpty

/-- R252: the channel ends: its object is disabled, and its RESULT is sent. -/
def State.chanGone (s : State) (c : Chan) : State :=
  let s := if c.typ = 9 then s.setBit ⟨Reg.CANn_OBJENw (c.index / 256) (c.index % 256 / 32), c.index % 32, 1⟩ false else s
  let s := s.modChan c.typ c.index (fun c => { c with state := .absent, ending := false, req := none, slot := none, staged := none })
  s.resultOpt c.req 0 []

/-- R252: the slots of a channel that ends close with CHANNEL_DESTROYED markers; one without an open slot receives one for it.
Off the commanding role a group-wide channel sends none. -/
def State.destroyMarkers (s : State) (c : Chan) : State :=
  if c.cls ≠ .umber ∧ ¬ s.commanding then s
  else s.sendMarker c (match c.slot with | some f => f | none => s.frame.count) 7 0

/-- CHANNEL_CLOSE (R462) at a frame start: the destruction takes effect; a CAN object's queue leaves first, in at most one
frame more. -/
def State.chanClose (s : State) (c : Chan) : State :=
  if c.ending then s.chanGone c
  else
    let s := (s.fnStop c.typ c.index).destroyMarkers c
    if s.chanQueued c then s.modChan c.typ c.index (fun c => { c with ending := true }) else s.chanGone c

/-- R461, R462: creations and destructions take effect at a frame start. -/
def State.chanFrame (s : State) : State :=
  let closing := s.chans.filter (fun c => decide (c.state = .closing))
  let pending := s.chans.filter (fun c => decide (c.state = .pending))
  (s.each closing (fun c s => s.chanClose c)).each pending (fun c s => s.chanLiveNow c)

/-- Whether an OP on a channel of a type needs the commanding role (Table 18-3). -/
def State.chanRole (s : State) (t : Nat) : Bool := t = 11 || s.commanding

/-- R262, R458: a create operation is forwarded with the full handle. -/
def State.forwardCreate (s : State) (args : List Byte) (t i : Nat) : State :=
  if t = 11 then s else s.forward 0x20 (cmdBody 0x20 args ++ le32 (s.handleOf t i))

/-- CH_CREATE (R461). -/
def State.chCreate (s : State) (r : Req) (t i : Nat) (body args : List Byte) : State × Resp :=
  if !s.chanRole t then (s, respStatus 6 0)
  else
    let k := s.createStatus t i body
    if k ≠ 0 then (s, respStatus k 0)
    else
      let s := s.chanNew t i .pending body (some (reqRef r 0x20))
      (s.forwardCreate args t i, respPending (le32 (s.handleOf t i)))

/-- CH_DESTROY (R462). -/
def State.chDestroy (s : State) (r : Req) (h : Word) : State × Resp :=
  let t := handleType h
  let k := s.checkHandle h
  if !s.chanRole t then (s, respStatus 6 0)
  else if k ≠ 0 then (s, respStatus 7 k)
  else if t = 10 ∨ t = 14 then (s, respStatus 13 0)
  else match s.chan t (handleIndex h) with
    | none => (s, respStatus 7 3)
    | some c =>
      if c.state ≠ .live then (s, respStatus 9 0)
      else
        let s := s.modChan t c.index (fun c => { c with state := .closing, req := some (reqRef r 0x21) })
        (if t = 11 then s else s.forward 0x21 (cmdBody 0x21 (le32 h)), respPending [])

/-- The number of a channel's state (Table 18-3). -/
def ChanState.code : ChanState → Nat
  | .absent => 0
  | .pending => 1
  | .live => 2
  | .closing => 3

/-- CH_QUERY (R459). -/
def State.chQuery (s : State) (t i : Nat) : State × Resp :=
  if t = 0 ∨ 14 < t then (s, respStatus 3 0)
  else if s.chanMax t ≤ i then (s, respStatus 7 4)
  else
    let st := match s.chan t i with | some c => c.state.code | none => 0
    (s, respOk (le32 (s.handleOf t i) ++ [BitVec.ofNat 8 st, 0, 0, 0]))

/-! FUNC_REINIT (R463). -/

/-- The channels whose handles a function owns. -/
def State.fnOwns (s : State) (func arg : Nat) (c : Chan) : Bool :=
  let task := fun (t : Option Nat) => decide (c.typ = 14 ∧ t = some c.index)
  if func = 1 then c.typ = arg / 2 ^ 28 && c.index = arg / 2 ^ 16 % 4096
  else if func = 2 then decide (1 ≤ c.typ ∧ c.typ ≤ 4) || task (s.fusCfg.map (·.channel))
  else if func = 3 then decide (c.typ = 12 ∨ c.typ = 13) || task (s.ctlCfg.map (·.planChannel)) || task (s.ctlCfg.map (·.statusChannel))
  else if func = 4 then c.typ = 5 || task (s.alcCfg.map (·.channel))
  else if func = 5 then c.typ = 9 && c.index / 256 = arg
  else if func = 8 then c.typ = 11
  else false

/-- The overlay of the present mode is applied again (R432). -/
def State.overlayAgain (s : State) : State := s.overlayMove none (s.overlay s.mode)

/-- R463: control from its section: set-points and references from the next epoch, no plan, no track, no offset. -/
def State.controlReinit (s : State) : State :=
  let c := s.ctl
  let s : State := { s with ctl := {
    modeReq := c.modeReq, spReq := c.spReq, tgtOffReq := c.tgtOffReq, swapReq := c.swapReq, originReq := c.originReq
    calReq := c.calReq, freezeReq := c.freezeReq, compReq := c.compReq, box := c.box, pms := c.pms, pmsLost := c.pmsLost
    joy := c.joy, joyAt := c.joyAt, levers := c.levers, levAt := c.levAt, srcLost := c.srcLost, compFlag := c.compFlag
    compHold := c.compHold, compExit := c.compExit, compLast := c.compLast, stays := c.stays + 1, shadow := dpMode s.actMode, tgtLost := c.tgtLost } }
  let s := if dpMode s.actMode then (s.entryPlan s.actMode).modCtl (fun c => { c with spEntry := heldAxes s.actMode, refEntry := true })
    else s
  s.slvCold 0

/-- R463: allocation and consequence analysis from their section. -/
def State.alcReinit (s : State) : State :=
  let s := s.thrInit
  let s := s.each ((List.range 49).map (· + 1)) (fun k s => s.slvCold k)
  s.cqReset

/-- R463: the function behind a channel from its section. -/
def State.chanReinit (s : State) (c : Chan) : State :=
  if c.typ = 5 then (s.thrRemove c.index 7 false).thrLoad c.index
  else if c.typ = 13 then s.fnStop 13 c.index
  else if c.typ = 9 then
    let n := c.index / 256
    let o := c.index % 256
    if c.body = [] then
      let mine := fun (a : Nat) => decide (Reg.CANn_OBJCFG n o ≤ a ∧ a < Reg.CANn_OBJCFG n o + 12)
      let rs := match s.cfg with | some g => g.regs.filter (fun x => mine x.1) | none => []
      (s.each rs (fun x s => s.wr x.1 x.2)).modObj n o (fun _ => {})
    else s.fnStart c
  else if c.typ = 10 ∨ c.typ = 11 ∨ c.typ = 14 then s
  else s.fnStart c

/-- R463: what the re-initialisation of a function does once it completes. -/
def State.reinitFn (s : State) (func arg : Nat) : State :=
  let s := if func = 1 then (match s.chanOf (BitVec.ofNat 32 arg) with | some c => s.chanReinit c | none => s)
    else if func = 2 then s.fusionReinit
    else if func = 3 then s.controlReinit
    else if func = 4 then s.alcReinit
    else if func = 5 then s.canReinitDone arg
    else if func = 6 then s.ethReinitDone arg
    else if func = 8 then s.recorderReinit
    else s
  let s := s.overlayAgain
  let s := if s.commanding then s.raiseGens (s.fnOwns func arg) else s
  if func = 1 ∧ arg / 2 ^ 28 = 5 then s.thrClear (arg / 2 ^ 16 % 4096) 7 else s

/-- The status of a FUNC_REINIT request and its DETAIL. -/
def State.reinitStatus (s : State) (func : Nat) (arg : Word) : Nat × Nat :=
  let a := arg.toNat
  if func = 0 ∨ 8 < func ∨ (func = 5 ∧ 7 < a) ∨ (func = 6 ∧ 2 < a) ∨ (func = 7 ∧ 15 < a) ∨
      ((func = 2 ∨ func = 3 ∨ func = 4 ∨ func = 8) ∧ a ≠ 0) then (3, 0)
  else if func = 1 ∧ s.checkHandle arg ≠ 0 then (7, s.checkHandle arg)
  else if s.mgt.reinits.any (fun x => decide (x.func = func ∧ x.arg = arg)) then (9, 0)
  else (0, 0)

/-- FUNC_REINIT (R463): accepted, started and, on the commanding part, forwarded. -/
def State.funcReinit (s : State) (r : Req) (func : Nat) (arg : Word) (args : List Byte) : State × Resp :=
  let k := s.reinitStatus func arg
  if k.1 ≠ 0 then (s, respStatus k.1 k.2)
  else
    let s : State := { s with mgt := { s.mgt with reinits := s.mgt.reinits ++ [{ func := func, arg := arg, req := reqRef r 0x30 }] } }
    let s := if func = 5 then s.canReinitStart arg.toNat else if func = 6 then s.ethReinitStart arg.toNat else s
    (s.forward 0x30 (cmdBody 0x30 args), respPending [])

/-- The re-initialisation of a function ends with a result. -/
def State.reinitEnd (s : State) (func : Nat) (arg : Word) (code : Nat) (data : List Byte) : State :=
  match s.mgt.reinits.find? (fun x => decide (x.func = func ∧ x.arg = arg)) with
  | none => s
  | some x =>
    let s : State := { s with mgt := { s.mgt with reinits := s.mgt.reinits.filter (fun y => decide (y ≠ x)) } }
    let s := if code = 0 then s.reinitFn func arg.toNat else s
    s.result x.req code data

/-! The commands. -/

/-- The arguments of CH_CREATE. -/
def createArgs (t : Byte) (i : BitVec 16) (body : List Byte) : List Byte := [t, 0] ++ leBytes 2 i.toNat ++ body
/-- CH_CREATE (R461). -/
def execChCreate (r : Req) (typ : Byte) (index : BitVec 16) (body : List Byte) (s : State) : Host.Outcome State Fault Refusal :=
  let a := createArgs typ index body
  .next (s.command r 0x20 a {} (fun s => s.chCreate r typ.toNat index.toNat body a))
/-- CH_DESTROY (R462). -/
def execChDestroy (r : Req) (handle : Word) (s : State) : Host.Outcome State Fault Refusal :=
  .next (s.command r 0x21 (le32 handle) {} (fun s => s.chDestroy r handle))
/-- CH_QUERY (R459). -/
def execChQuery (r : Req) (typ : Byte) (index : BitVec 16) (s : State) : Host.Outcome State Fault Refusal :=
  .next (s.command r 0x22 ([typ, 0] ++ leBytes 2 index.toNat) {} (fun s => s.chQuery typ.toNat index.toNat))
/-- FUNC_REINIT (R463). -/
def execFuncReinit (r : Req) (func : Byte) (arg : Word) (s : State) : Host.Outcome State Fault Refusal :=
  let a := [func, 0, 0, 0] ++ le32 arg
  .next (s.command r 0x30 a {} (fun s => s.funcReinit r func.toNat arg a))
/-- The completion of a FUNC_REINIT (R463): DONE, or FAILED with the block's code. -/
def execFuncReinitDone (func : Byte) (arg : Word) (ok : Bool) (code : Byte) (s : State) : Host.Outcome State Fault Refusal :=
  .next (s.running (fun s => s.reinitEnd func.toNat arg (if ok then 0 else 1) (if ok then [] else [code])))
/-- FUNC_REINIT_TIMEOUT (R463). -/
def execFuncReinitTimeout (func : Byte) (arg : Word) (s : State) : Host.Outcome State Fault Refusal :=
  .next (s.running (fun s => s.reinitEnd func.toNat arg 2 []))

end Sys2Proof.Machine
end

