-- ==== Sys2Proof/Machine/StateFrame.lean ====
section
/-!
DEFINITION. Sys2Proof/Machine/StateFrame.lean: what a state frame carries (R261), the operations that it forwards and their
effect on a standby part (R262, R263), and the adoption of a state frame (R270 to R272).
-/
namespace Sys2Proof.Machine

/-- A little-endian field of a byte list. -/
def fld (b : List Byte) (at_ n : Nat) : Nat := leNat ((b.drop at_).take n)
/-- A signed little-endian field. -/
def sfld (b : List Byte) (at_ n : Nat) : Int := toSigned (8 * n) (fld b at_ n)

/-! Blocks. -/

/-- R261: a block. -/
def block (typ : Nat) (data : List Byte) : List Byte := [BitVec.ofNat 8 typ, 0] ++ leBytes 2 data.length ++ data

/-- The blocks of joined data, at most `n` of them. -/
def blocksOf : Nat → List Byte → List (Nat × List Byte)
  | 0, _ => []
  | n + 1, b =>
    if b.length < 4 then []
    else
      let len := fld b 2 2
      (fld b 0 1, (b.drop 4).take len) :: blocksOf n (b.drop (4 + len))

/-- The data of a block type. -/
def blockData (bs : List (Nat × List Byte)) (typ : Nat) : Option (List Byte) := (bs.find? (fun x => decide (x.1 = typ))).map (·.2)

/-- Numbers as int32 words in the formats of an image (R77). -/
def formatWords (fmt : List Nat) (l : List Rat) : List Byte :=
  (l.zipIdx.map (fun (x, i) => le32 (BitVec.ofInt 32 (narrow (toQ (fmt.getD i 0) x)).1))).flatten

/-- R261: the observer's state vector of 63 numbers: 15 core states, then calibration states, in m, rad and N. -/
def State.obsVector (s : State) (c : FusCfg) : List Rat :=
  let cal := ((fusCals c).zip s.fus.cal).map (fun x => calSi x.1 x.2)
  (List.range 15).map (fun i => s.fus.obs.getD i 0) ++ (List.range 48).map (fun i => cal.getD i 0)

/-- R261: the places of a COV block's numbers: the upper triangle of the core states row by row, then the variances of the
calibration states. -/
def covPlaces : List (Nat × Nat) :=
  (List.range 15).flatMap (fun i => (List.range (15 - i)).map (fun k => (i, i + k))) ++ (List.range 48).map (fun k => (15 + k, 15 + k))

/-- Table 10-7, FUSED: the epoch record, the observer's state vector, and the source slots. -/
def State.fusedBlock (s : State) : List Byte :=
  let e := match s.fus.epoch with | some e => e.bytes | none => List.replicate 64 0
  let obs := match s.fusCfg with | some c => formatWords c.obs.fmt (s.obsVector c) | none => List.replicate 252 0
  let src := (List.range 28).map (fun k =>
    let x := s.src k
    le32 (s.rd (Reg.FUS_SRCSTATs k)) ++ leBytes 4 (if x.ok then (s.now - x.okAt) / 1000000 else 0))
  e ++ obs ++ src.flatten

/-- Table 10-7, COV. -/
def State.covBlock (s : State) : List Byte := match s.fusCfg with
  | some c => formatWords c.obs.covFmt (covPlaces.map (fun x => cellsGet 0 (s.fus.cov.getD x.1 []) x.2))
  | none => List.replicate 672 0

/-- A rational in a signed word. -/
def r32 (x : Rat) : List Byte := i32 (roundRat x)

/-- Table 10-7, CTRL. -/
def State.ctrlBlock (s : State) : List Byte :=
  let c := s.ctl
  let o := s.fus.origin.getD (0, 0)
  [BitVec.ofNat 8 s.mode, 0] ++ leBytes 2 c.trackLeg ++ i32 c.sp.1 ++ i32 c.sp.2.1 ++ le32 (ofInt32 c.sp.2.2.1) ++ i32 c.sp.2.2.2 ++
    r32 c.refPos.1 ++ r32 c.refPos.2.1 ++ le32 (ofInt32 (roundRat c.refPos.2.2)) ++ r32 c.refVel.1 ++ r32 c.refVel.2.1 ++
    r32 c.refVel.2.2 ++ le32 (ofInt32 c.sp.2.2.1) ++ leBytes 2 s.fus.originGen ++ [0, 0] ++ i32 o.1 ++ i32 o.2 ++ [0, 0, 0, 0]

/-- The class of a channel as a number. -/
def ChanClass.code : ChanClass → Nat
  | .timed => 0
  | .frame => 1
  | .period => 2
  | .umber => 3

/-- The channels of the group: TIMED, FRAME and PERIOD. -/
def State.groupChans (s : State) : List Chan := s.chans.filter (fun c => decide (c.cls ≠ .umber ∧ c.state = .live))

/-- Table 10-7, SEQ: the next SEQ of each group-wide channel. -/
def State.seqBlock (s : State) : List Byte :=
  let cs := s.groupChans
  leBytes 2 cs.length ++ [0, 0] ++ (cs.map (fun c =>
    let next := if c.cls = .frame ∧ c.slot.isSome then c.seq + 1 else c.seq
    le32 c.handle ++ leBytes 2 (next % 65536) ++ [BitVec.ofNat 8 c.cls.code, 0])).flatten

/-- Table 10-7, LOOPS. -/
def State.loopsBlock (s : State) : List Byte :=
  le32 (s.rd Reg.SRV_CLOSED0) ++ le32 (s.rd Reg.SRV_CLOSED1) ++
    ((List.range 64).map (fun n => le32 (s.rd (Reg.SRVn_HOSTSP n)) ++ le32 (s.rd (Reg.SRVn_SPSRC n)))).flatten

/-- R262: an operation record. -/
def GrpOp.bytes (o : GrpOp) : List Byte := leBytes 4 o.seq ++ leBytes 2 o.code ++ leBytes 2 o.body.length ++ o.body

/-- The data of the present frame's state frame (Table 10-7). -/
def State.stateData (s : State) : List Byte :=
  let plan := match s.ctl.plan with | some p => p.bytes | none => []
  let ops := (s.grp.ops.map GrpOp.bytes).flatten
  block 1 s.fusedBlock ++ block 2 s.covBlock ++ block 3 plan ++
    block 4 (s.alc.record ++ le32 (s.rd Reg.ALC_ENABLE)) ++ block 5 s.ctrlBlock ++ block 6 s.seqBlock ++ block 7 s.loopsBlock ++
    (if ops = [] then [] else block 8 ops)

/-! The snapshot (R263). -/

/-- The waypoints of a table in operations of at most 8. -/
def trackOps : Nat → List Waypoint → Nat → List (Nat × List Byte)
  | 0, _, _ => []
  | n + 1, t, first =>
    if t = [] then []
    else
      let a := t.take 8
      (0x13, cmdBody 0x13 ([BitVec.ofNat 8 first, BitVec.ofNat 8 a.length, 0, 0] ++ (a.map Waypoint.bytes).flatten)) ::
        trackOps n (t.drop 8) (first + 8)

/-- R263: the operations that rebuild the run-time state: one creation for each live channel that operations may create, both
banks of the track table, and every HOSTSP and SPSRC. -/
def State.snapshotOps (s : State) : List (Nat × List Byte) :=
  let chans := (s.chans.filter (fun c => decide (c.state = .live ∧ c.typ ≠ 10 ∧ c.typ ≠ 11 ∧ c.typ ≠ 14))).map (fun c =>
    (0x20, cmdBody 0x20 ([BitVec.ofNat 8 c.typ, 0] ++ leBytes 2 c.index ++ c.body) ++ le32 c.handle))
  let active := s.track
  let shadow := if s.ctl.trackBank = 0 then s.ctl.track1 else s.ctl.track0
  let write := fun (a : Nat) => (0, leBytes 4 a ++ [1, 0, 0, 0] ++ le32 (s.rd a))
  chans ++ trackOps 4 active 0 ++ [(0x14, cmdBody 0x14 [])] ++ trackOps 4 shadow 0 ++
    ((List.range 64).map (fun n => [write (Reg.SRVn_HOSTSP n), write (Reg.SRVn_SPSRC n)])).flatten

/-- A snapshot is asked for: it starts unless one is being sent. -/
def State.snapshotStart (s : State) : State :=
  if s.grp.snapshot ≠ [] then s
  else { s with grp := { s.grp with snapshot := s.snapshotOps.map (fun x => { seq := 0, code := x.1, body := x.2, frame := 0 }) } }

/-- R263: how many operations fit in 8 KiB. -/
def fitOps : List GrpOp → Nat → Nat
  | [], _ => 0
  | o :: os, left => if 8 + o.body.length ≤ left then fitOps os (left - (8 + o.body.length)) + 1 else 0

/-- R262, R263: the operations of the next state frame: those of the last 4 frames, and what fits of the snapshot. -/
def State.opsFrame (s : State) : State :=
  let k := s.frame.count
  let n := fitOps s.grp.snapshot 8192
  let new := (s.grp.snapshot.take n).zipIdx.map (fun (o, i) => { o with seq := s.grp.opSeq + 1 + i, frame := k })
  let keep := s.grp.ops.filter (fun o => decide (k < o.frame + 4))
  { s with grp := { s.grp with ops := keep ++ new, snapshot := s.grp.snapshot.drop n, opSeq := s.grp.opSeq + new.length } }

/-! Operations on a standby part (R262). -/

/-- A creation under a given handle: the channel is live at once, and its function starts. -/
def State.opCreate (s : State) (b : List Byte) : State :=
  let t := fld b 4 1
  let i := fld b 6 2
  let n := createLen t
  let h := BitVec.ofNat 32 (fld b (8 + n) 4)
  if b.length < 12 + n then s
  else match s.chan t i with
    | some c =>
      if c.state = .live ∧ c.handle = h then s
      else
        let s := s.chanNew t i .live ((b.drop 8).take n) none
        let s := s.modChan t i (fun c => { c with gen := handleGen h })
        match s.chan t i with | some c => s.fnStart c | none => s
    | none =>
      let s := s.chanNew t i .live ((b.drop 8).take n) none
      let s := s.modChan t i (fun c => { c with gen := handleGen h })
      match s.chan t i with | some c => s.fnStart c | none => s

/-- A destruction. -/
def State.opDestroy (s : State) (h : Word) : State := match s.chanOf h with
  | some c => s.chanClose { c with req := none }
  | none => s

/-- A forwarded WRITE of one word: ALC_ENABLE, HOSTSP or SPSRC. -/
def State.opWrite (s : State) (a : Nat) (v : Word) : State := if a = Reg.ALC_ENABLE then s.alcEnableSet v else s.wr a v

/-- One waypoint of 16 bytes. -/
def waypointOf (b : List Byte) : Waypoint :=
  { n := sfld b 0 4, e := sfld b 4 4, speed := fld b 8 2, rule := fld b 10 1, psi := fld b 12 4 }

/-- Consecutive waypoints. -/
def waypointsOf : Nat → List Byte → List Waypoint
  | 0, _ => []
  | n + 1, b => waypointOf b :: waypointsOf n (b.drop 16)

/-- R262: the effect of one forwarded operation on a standby part.  The set-points themselves are in the CTRL block. -/
def State.opApply (s : State) (code : Nat) (b : List Byte) : State :=
  let a := b.drop 4
  if code = 0 then s.opWrite (fld b 0 4) (BitVec.ofNat 32 (fld b 8 4))
  else if code = 0x12 then s.modCtl (fun c => { c with tgtOff := (sfld a 0 4, sfld a 4 4, sfld a 8 4) })
  else if code = 0x13 then s.trackWrite (fld a 0 1) (waypointsOf (fld a 1 1) (a.drop 4))
  else if code = 0x14 then s.modCtl (fun c => { c with trackBank := (c.trackBank + 1) % 2 })
  else if code = 0x15 then { s with fus := { s.fus with origin := some (sfld a 0 4, sfld a 4 4) } }
  else if code = 0x16 then { s with fus := { s.fus with hostFreeze := fld a 0 1 ≠ 0 } }
  else if code = 0x17 then
    match s.fusCfg, s.calIndex (fld a 0 1) (fld a 1 1) (fld a 2 1) with
    | some c, some i => { s with fus := { s.fus with cal := (s.calVals c).set i (sfld a 4 4 : Int) } }
    | _, _ => s
  else if code = 0x19 then s.modCtl (fun c => { c with compFlag := fld a 0 1 ≠ 0 })
  else if code = 0x20 then s.opCreate b
  else if code = 0x21 then s.opDestroy (BitVec.ofNat 32 (fld a 0 4))
  else if code = 0x30 then s.raiseGens (s.fnOwns (fld a 0 1) (fld a 4 4))
  else s

/-- The operation records of an OPS block, at most `n`. -/
def opsOf : Nat → List Byte → List GrpOp
  | 0, _ => []
  | n + 1, b =>
    if b.length < 8 then []
    else
      let len := fld b 6 2
      { seq := fld b 0 4, code := fld b 4 2, body := (b.drop 8).take len, frame := 0 } :: opsOf n (b.drop (8 + len))

/-- R262, R263: one operation of a block: those already applied are left out; a gap asks for a snapshot, and a part that waits
for one takes what comes. -/
def State.opTake (s : State) (o : GrpOp) : State :=
  if o.seq ≤ s.grp.applied then s
  else if s.grp.applied + 1 < o.seq ∧ ¬ s.grp.resync ∧ s.grp.applied ≠ 0 then
    { s with grp := { s.grp with resync := true, snapApplied := false } }
  else
    let s := s.opApply o.code o.body
    { s with grp := { s.grp with applied := o.seq } }

/-- R262, R263: the OPS block of a complete state frame.  The snapshot has been applied whole when a frame brings nothing new
after one that did (log entry 44); the part is SYNCED from then on. -/
def State.opsApply (s : State) (b : List Byte) : State :=
  let was := s.grp.applied
  let s := s.each (opsOf 1024 b) (fun o s => s.opTake o)
  if !s.grp.resync then s
  else if was < s.grp.applied then { s with grp := { s.grp with snapApplied := true } }
  else if s.grp.snapApplied then { s with grp := { s.grp with resync := false, snapApplied := false } }
  else s

/-! Adoption (R270, R272). -/

/-- Table 4-9 read back. -/
def epochOfBytes (b : List Byte) : Epoch :=
  { t := fld b 0 8, n := sfld b 8 4, e := sfld b 12 4, psi := fld b 16 4, u := sfld b 20 4, v := sfld b 24 4, rate := sfld b 28 4
    bn := sfld b 32 4, be := sfld b 36 4, bpsi := sfld b 40 4, sigPos := fld b 44 2, sigPsi := fld b 46 2, sigVel := fld b 48 2
    refMask := fld b 50 2, status := fld b 52 4, wfN := sfld b 56 2, wfE := sfld b 58 2, originGen := fld b 60 2
    wind := (0, 0, 0), motion := [] }

/-- Consecutive signed words. -/
def signedWords : Nat → List Byte → List Int
  | 0, _ => []
  | n + 1, b => sfld b 0 4 :: signedWords n (b.drop 4)

/-- Triples of consecutive signed words. -/
def triplesOf : Nat → List Byte → List (Int × Int × Int)
  | 0, _ => []
  | n + 1, b => (sfld b 0 4, sfld b 4 4, sfld b 8 4) :: triplesOf n (b.drop 12)

/-- Table 5-3 read back. -/
def planOfBytes (b : List Byte) : Plan :=
  { t := fld b 0 8, period := fld b 8 4, mode := fld b 12 1, flags := fld b 13 1, iter := fld b 14 2, psi0 := fld b 16 4
    resid := fld b 20 4, windX := sfld b 24 4, windY := sfld b 28 4, steps := triplesOf 64 (b.drop 32) }

/-- The numbers that words in the formats of an image hold. -/
def formatNumbers (fmt : List Nat) (l : List Int) : List Rat := l.zipIdx.map (fun (x, i) => ofQ (fmt.getD i 0) x)

/-- R272: the covariance from COV; it is symmetric. -/
def State.adoptCov (s : State) (b : List Byte) : State := match s.fusCfg with
  | some c =>
    let n := 15 + (fusCals c).length
    let es := (covPlaces.zip (formatNumbers c.obs.covFmt (signedWords 168 b))).filter (fun e => decide (e.1.2 < n))
    { s with fus := { s.fus with
      cov := (List.range n).map (fun i => es.foldl (fun (r : Cells Rat) e =>
        if e.1.1 = i then cellsSet 0 r e.1.2 e.2 else if e.1.2 = i then cellsSet 0 r e.1.1 e.2 else r) []) } }
  | none => s

/-- R272: the estimator, calibration and sources from FUSED; the history window starts empty, and relative references find
their fixed points anew. -/
def State.adoptFused (s : State) (b : List Byte) : State :=
  let e := epochOfBytes b
  let x := match s.fusCfg with | some c => formatNumbers c.obs.fmt (signedWords 63 (b.drop 64)) | none => []
  let cal := match s.fusCfg with | some c => ((fusCals c).zip (x.drop 15)).map (fun z => calUnit z.1 z.2) | none => []
  let s : State := { s with fus := { s.fus with
    epoch := some e, est := e.status % 4, obs := x.take 15, cal := cal, hist := [], late := [], next := none } }
  s.each (List.range 28) fun k s =>
    let w := BitVec.ofNat 32 (fld b (64 + 252 + 8 * k) 4)
    let ms := fld b (64 + 252 + 8 * k + 4) 4
    let st := bitsGet w (Fld.FUS_SRCSTATs_STATE k).lo (Fld.FUS_SRCSTATs_STATE k).width
    let s := s.wr (Reg.FUS_SRCSTATs k) w
    s.modSrc k (fun x => { x with
      st := if st = 2 ∨ st = 5 then 1 else st, pub := st
      reason := bitsGet w (Fld.FUS_SRCSTATs_REASON k).lo (Fld.FUS_SRCSTATs_REASON k).width
      weight := bitsGet w (Fld.FUS_SRCSTATs_WEIGHT k).lo (Fld.FUS_SRCSTATs_WEIGHT k).width
      clean := bitsGet w (Fld.FUS_SRCSTATs_CLEAN k).lo (Fld.FUS_SRCSTATs_CLEAN k).width
      ok := decide (0 < ms), okAt := s.now - ms * 1000000, fixed := none })

/-- R272: the plan in force. -/
def State.adoptPlan (s : State) (b : List Byte) : State :=
  let p := planOfBytes b
  s.modCtl (fun c => { c with plan := some { p with stay := c.stays }, planNew := none, planDue := none, periodOn := false, holdForces := false
                              shadow := dpMode s.actMode && p.shadow })

/-- R270, R271: the held commands of the allocation record, and ALC_ENABLE. -/
def State.adoptAlloc (s : State) (b : List Byte) : State :=
  let n := b.length - 4
  let s := s.wr Reg.ALC_ENABLE (BitVec.ofNat 32 (fld b n 4))
  let sent := (List.range s.thrCount).map (fun i => (sfld (b.drop (40 + 16 * i)) 0 4, fld (b.drop (40 + 16 * i)) 4 2))
  let s : State := { s with alc := { s.alc with record := b.take n, published := true, stale := true, sent1 := sent, sent2 := sent } }
  s.each (List.range s.thrCount) fun i s => match s.thrCfg i with
    | none => s
    | some c =>
      let x := b.drop (40 + 16 * i)
      let th := sfld x 0 4
      let az := fld x 4 2
      let s := s.modThr i (fun t => { t with thrust := th, az := az, drive := sfld x 6 2, enabled := s.alcEnabled i
                                             eta := (fld x 10 2 : Rat) / 65536
                                             win := if c.kind = .tunnel then t.win else ((fld x 12 2 : Rat) / 100, (fld x 14 2 : Rat) / 100) })
      s.modThr i (fun t => { t with vars := s.reportedVars i c th az })

/-- R272: set-points, references, track and origin from CTRL. -/
def State.adoptCtrl (s : State) (b : List Byte) : State :=
  let leg := fld b 2 2
  let pos := (sfld b 20 4, sfld b 24 4, fld b 28 4)
  let vel := (sfld b 32 4, sfld b 36 4, sfld b 40 4)
  let s := s.modCtl (fun c => { c with
    trackLeg := leg, sp := (sfld b 4 4, sfld b 8 4, fld b 12 4, sfld b 16 4), spEntry := 0, refEntry := false
    refPos := (pos.1, pos.2.1, (pos.2.2 : Nat)), refVel := (vel.1, vel.2.1, vel.2.2) })
  let s := match (legsOf s.track)[leg]? with
    | some l =>
      let p := l.project pos.1 pos.2.1
      let v : Rat × Rat := ((vel.1 : Rat) * l.dn + vel.2.1 * l.de, (vel.2.1 : Rat) * l.dn - vel.1 * l.de)
      s.modCtl (fun c => { c with along := (p.1, v.1), cross := (p.2, v.2) })
    | none => s
  let gen := fld b 48 2
  let o := (sfld b 52 4, sfld b 56 4)
  { s with fus := { s.fus with originGen := gen, origin := if o = (0, 0) ∧ gen = 0 then s.fus.origin else some o } }

/-- R272: HOSTSP and SPSRC of every loop. -/
def State.adoptLoops (s : State) (b : List Byte) : State :=
  s.each (List.range 64) fun n s =>
    (s.wr (Reg.SRVn_HOSTSP n) (BitVec.ofNat 32 (fld b (8 + 8 * n) 4))).wr (Reg.SRVn_SPSRC n) (BitVec.ofNat 32 (fld b (12 + 8 * n) 4))

/-- A block, where the state frame holds it, adopted. -/
def State.adoptBlock (s : State) (bs : List (Nat × List Byte)) (typ : Nat) (f : State → List Byte → State) : State :=
  match blockData bs typ with
  | some d => if d = [] then s else f s d
  | none => s

/-- R270: the latest complete state frame is adopted. -/
def State.adoptState (s : State) (data : List Byte) : State :=
  let bs := blocksOf 16 data
  (((((s.adoptBlock bs 1 State.adoptFused).adoptBlock bs 2 State.adoptCov).adoptBlock bs 5 State.adoptCtrl).adoptBlock bs 3
    State.adoptPlan).adoptBlock bs 4 State.adoptAlloc).adoptBlock bs 7 State.adoptLoops

/-- R264: the mode of a state frame. -/
def stateMode (data : List Byte) : Option Nat := (blockData (blocksOf 16 data) 5).map (fun b => fld b 0 1)

/-! The seam (R271). -/

/-- The entries of a SEQ block: handle, NEXT_SEQ, class. -/
def seqEntries : Nat → List Byte → List (Word × Nat × Nat)
  | 0, _ => []
  | n + 1, b => (BitVec.ofNat 32 (fld b 0 4), fld b 4 2, fld b 6 1) :: seqEntries n (b.drop 8)

/-- R271: a seam slot's SEQ: NEXT_SEQ and the slots since the one it names. -/
def seamSeq (next from_ seam : Nat) : Nat := ((next : Int) + ((seam : Int) - from_)) % 65536 |>.toNat

/-- R271: the held element of a thruster: the one carried, with STALE set; for a thruster that this part knows as removed, zero
thrust with its reason. -/
def State.heldElement (s : State) (i : Nat) : List Byte := match s.thrCfg i with
  | some c =>
    let x := (s.alc.record.drop (40 + 16 * i)).take 16
    if (s.thr i).removed ∨ x.length < 16 then elementBytes c (s.thr i) true
    else x.set 8 (x.getD 8 0 ||| 0x20)
  | none => []

/-- R271: the held allocation record: the header carried, with STALE set in its status word, and the held elements. -/
def State.heldRecord (s : State) : List Byte :=
  let h := s.alc.record.take 40
  (h.set 4 (h.getD 4 0 ||| 4)) ++ ((List.range s.thrCount).map s.heldElement).flatten

/-- A slot of a frame before the first own one carries an output that is sent at once, or waits for the emission. -/
def State.seamOutput (s : State) (t i frame : Nat) (payload : List Byte) (wait : Bool) : State := match s.chan t i with
  | none => s
  | some c =>
    let x := s.slotItem c frame payload
    let s := s.modChan t i (fun c => { c with
      seq := (c.seq + 1) % 65536, epoch := x.epoch, slot := none, last := some (frame, crc16 payload)
      staged := if wait then some x else none })
    if wait then s else s.chanSend x

/-- A slot of a frame before the first own one closes with a marker of REASON 9. -/
def State.seamMarker (s : State) (t i frame : Nat) : State := match s.chan t i with
  | none => s
  | some c => s.sendMarker c frame 9 0

/-- A slot that will close with REASON 9. -/
def State.seamOpen (s : State) (t i frame : Nat) : State := s.modChan t i (fun c => { c with slot := some frame, reason := 9 })

/-- The numbers from `a` to `b`, both included, at most 65,536. -/
def span (a b : Nat) : List Nat := if b < a then [] else (List.range (min 65536 (b + 1 - a))).map (· + a)

/-- R271: the seam slots of a TIMED channel, from its seam frame to the present frame. -/
def State.seamTimed (s : State) (t i seam k : Nat) : State :=
  s.each (span seam k) fun f s =>
    let wait : Bool := f = k && !s.frame.emitted
    if t = 5 then s.seamOutput t i f (s.heldElement i) wait
    else if wait then s.seamOpen t i f else s.seamMarker t i f

/-- R271: the seam slots of a FRAME channel. -/
def State.seamFrame (s : State) (t i seam k : Nat) : State :=
  let alloc := t = 14 && decide (s.alcCfg.map (·.channel) = some i)
  s.each (span seam k) fun f s =>
    if alloc then s.seamOutput t i f s.heldRecord false
    else if f = k then s.seamOpen t i f else s.seamMarker t i f

/-- R271: the seam slots of a PERIOD channel, of periods that started before the claim. -/
def State.seamPeriod (s : State) (t i seam p : Nat) : State :=
  s.each (span seam p) fun q s =>
    let slot := q * s.framesPerPeriod + (60000000 + s.frameNs - 1) / s.frameNs - 1
    if q = p ∧ s.now < s.frame.periodStart + 60000000 then s.seamOpen t i slot else s.seamMarker t i slot

/-- GROUP_SEAM (R271): the seam slots of every channel of the SEQ block. -/
def State.seamFill (s : State) (h : HbInfo) (f kp : Nat) (data : List Byte) : State :=
  let timed := if h.emitState = 2 then h.emitFrame + 1 else h.emitFrame
  let frame := h.fillFrame + 1
  let period := h.planPeriod + 1
  let k := s.frame.count
  let p := k / s.framesPerPeriod
  let es := match blockData (blocksOf 16 data) 6 with
    | some b => seqEntries (fld b 0 2) (b.drop 4)
    | none => []
  let s := s.each es fun e s =>
    let t := handleType e.1
    let i := handleIndex e.1
    let seq := if e.2.2 = 2 then seamSeq e.2.1 (kp + 1) period else seamSeq e.2.1 (f + 1) (if e.2.2 = 0 then timed else frame)
    let s := s.modChan t i (fun c => { c with seq := seq })
    if e.2.2 = 0 then s.seamTimed t i timed k else if e.2.2 = 1 then s.seamFrame t i frame k else s.seamPeriod t i period p
  s.raise 0x3004 0 (leBytes 4 timed ++ leBytes 4 frame ++ leBytes 4 period)

/-- R274: in a handover no seam arises: each channel goes on at the SEQ that the state frame names. -/
def State.seqAdopt (s : State) (data : List Byte) : State :=
  let es := match blockData (blocksOf 16 data) 6 with
    | some b => seqEntries (fld b 0 2) (b.drop 4)
    | none => []
  s.each es (fun e s => s.modChan (handleType e.1) (handleIndex e.1) (fun c => { c with seq := e.2.1 }))

end Sys2Proof.Machine
end

