-- ==== Sys2Proof/Machine/Fabric.lean ====
section
/-!
DEFINITION. Sys2Proof/Machine/Fabric.lean: the Ochre dies at rest: the fields of schedule entries (Tables 3-2 to 3-5), memory
addresses (Table 2-20), units, placements (R64, R236), pips (R232), and the task instances that run.
-/
namespace Sys2Proof.Machine

/-! Entries. -/

/-- A field of a 128-bit schedule entry. -/
def entryBits (e : BitVec 128) (lo n : Nat) : Nat := e.toNat / 2 ^ lo % 2 ^ n

/-- Table 3-2: DCLASS: 0 background, 1 FRAME, 2 PERIOD. -/
def tdClass (d : TaskDef) : Nat := entryBits d.header 124 2
/-- Table 3-2: PRIO. -/
def tdPrio (d : TaskDef) : Nat := entryBits d.header 120 4
/-- Table 3-2: TASK, the schedule index. -/
def tdTask (d : TaskDef) : Nat := entryBits d.header 108 12
/-- Table 3-2: ORDER. -/
def tdOrder (d : TaskDef) : Nat := entryBits d.header 92 16
/-- Table 3-2: NDEP. -/
def tdNdep (d : TaskDef) : Nat := entryBits d.header 86 6
/-- Table 3-2: HOME, as a cluster number. -/
def tdHome (d : TaskDef) : Nat := entryBits d.header 68 5
/-- Table 3-2: ALT, as a cluster number. -/
def tdAlt (d : TaskDef) : Nat := entryBits d.header 63 5
/-- Table 3-2: DEADLINE, in ns. -/
def tdDeadline (d : TaskDef) : Nat := 1000 * entryBits d.header 35 16
/-- Table 3-2: NOPS. -/
def tdNops (d : TaskDef) : Nat := entryBits d.header 27 8
/-- Table 3-2: PIP, the slot. -/
def tdPip (d : TaskDef) : Nat := entryBits d.header 17 10
/-- Table 3-2: INHERIT. -/
def tdInherit (d : TaskDef) : Bool := entryBits d.header 16 1 = 1
/-- Table 3-2: SIB, the sibling cluster, if the header names one. -/
def tdSib (d : TaskDef) : Option Nat :=
  if entryBits d.header 14 2 = tdHome d % 4 then none else some (tdHome d / 4 * 4 + entryBits d.header 14 2)

/-- The clusters that hold a task's entries: home, sibling, alternate (R64, R237). -/
def tdHolders (d : TaskDef) : List Nat := tdHome d :: ((tdSib d).toList ++ [tdAlt d])

/-- What the region sections hold. -/
def State.tasks (s : State) : List TaskDef := match s.cfg with
  | some c => c.region.tasks
  | none => []

/-- The task of a schedule index. -/
def State.taskDef (s : State) (t : Nat) : Option TaskDef := s.tasks.find? (fun d => decide (tdTask d = t))

/-- The fabric's state changed. -/
def State.modFab (s : State) (f : FabSt → FabSt) : State := { s with fab := f s.fab }

/-! Memory (Tables 2-20, 3-4). -/

/-- The first byte of a cluster's window. -/
def clusterMem (q : Nat) : Nat := Reg.clusterBase q - 0x00140000
/-- The first byte of a region's memory. -/
def regionMem (g : Nat) : Nat := Reg.regionBase g - 0x00400000

/-- Table 3-4: the byte address of element `i` of an operand, in the space of the cluster that runs the task (R64). -/
def elemAddr (q a i : Nat) : Nat :=
  if a / 2 ^ 20 % 2 = 1 then regionMem (q / 4) + 4 * ((a + i) % 2 ^ 20) else clusterMem q + 4 * ((a + i) % 2 ^ 18)

/-- Bytes written from an address on. -/
def State.memPut (s : State) : Nat → List Byte → State
  | _, [] => s
  | a, b :: bs => State.memPut { s with omem := cellsSet 0 s.omem a b } (a + 1) bs

/-- `n` bytes from an address on. -/
def State.memBytes (s : State) (a n : Nat) : List Byte := (List.range n).map (fun i => cellsGet 0 s.omem (a + i))

/-! Units and clusters (Table 2-21). -/

/-- The state of a unit: 0 idle, 1 running, 2 cold spare, 3 fenced. -/
def State.unitState (s : State) (q u : Nat) : Nat := s.get (Fld.CLU_UNITSTAT_STATE_U q u)

/-- A unit's state set. -/
def State.setUnit (s : State) (q u v : Nat) : State := s.set (Fld.CLU_UNITSTAT_STATE_U q u) v

/-- R239: a region has a region fault. -/
def State.isolated (s : State) (g : Nat) : Bool := s.get (Fld.RGN_PLACE_ISOLATED g) = 1

/-- R56, R439: a region is stopped: from step 2 of its reload until its tasks move home at step 6, through a load that fails.  One
that a region fault has moved out is not, but while it is being reloaded. -/
def State.stopped (s : State) (g : Nat) : Bool := (match s.img.reload with
  | some (r, k) => decide (r = g ∧ 3 ≤ k ∧ k ≤ 6)
  | none => false) || (s.get (Fld.RGN_PLACE_MOVED_OUT g) = 1 && !s.isolated g)

/-- R236: a cluster can run a task; its region is neither isolated nor moved out. -/
def State.canRun (s : State) (q : Nat) (d : TaskDef) : Bool :=
  s.get (Fld.CLU_UNITSTAT_FAULTED q) = 0 && (List.range 8).any (fun u => decide (s.unitState q u ≠ 3)) &&
    decide (BitVec.ofNat 8 (s.get (Fld.CLU_UNITSTAT_RETIRED q)) &&& d.banks = 0) && !s.isolated (q / 4) &&
    s.get (Fld.RGN_PLACE_MOVED_OUT (q / 4)) = 0

/-- The free active unit of a cluster, the lowest first (R13). -/
def State.freeUnit (s : State) (q : Nat) : Option Nat := (List.range 8).find? (fun u => decide (s.unitState q u = 0))

/-! Placement (R64, R236, Table 9-18). -/

/-- The current placement of a task. -/
def State.placeOf (s : State) (t : Nat) : Option Nat := match cellsGet 0 s.fab.place t with
  | 0 => none
  | n + 1 => some n

/-- Table 9-18: RGN_PMAPt of a task in region g; CUR keeps its value while the task has no placement. -/
def pmapWord (d : TaskDef) (p : Option Nat) (old : Word) (g : Nat) : Word :=
  let here := match p with | some q => decide (q / 4 = g) | none => false
  let role := match p with
    | some q => if q / 4 ≠ g then none else if q = tdHome d then some 0 else if tdSib d = some q then some 1 else some 2
    | none => none
  let cur := match p with | some q => q | none => old.toNat % 32
  BitVec.ofNat 32 (cur + 32 * (role.getD (if g = tdHome d / 4 then 0 else 2)) + (if here then 128 else 0))

/-- A task's placement set, in the map of each region that holds it; an isolated region's window keeps its values (R487). -/
def State.setPlace (s : State) (d : TaskDef) (p : Option Nat) : State :=
  let s := s.modFab (fun f => { f with place := cellsSet 0 f.place (tdTask d) (match p with | some q => q + 1 | none => 0) })
  s.each [tdHome d / 4, tdAlt d / 4] fun g s =>
    if s.isolated g then s else s.wr (Reg.RGN_PMAPt g (tdTask d)) (pmapWord d p (s.rd (Reg.RGN_PMAPt g (tdTask d))) g)

/-- R236: where a task goes whose cluster can no longer run it: the sibling, else the alternate, else nowhere. -/
def State.nextPlace (s : State) (d : TaskDef) : Option Nat :=
  ((tdSib d).toList ++ [tdAlt d]).find? (fun q => s.canRun q d)

/-! Instances. -/

/-- The instance that holds a unit: dispatched, or waiting for the unit's wake test. -/
def holdsUnit (x : TaskInst) (q u : Nat) : Bool := match x.phase with
  | .wake | .copying | .loading | .running => decide (x.cluster = q ∧ x.unit = u)
  | .waiting | .ready | .rerun => false

/-- The instance on a unit. -/
def State.instOn (s : State) (q u : Nat) : Option TaskInst := s.fab.insts.find? (holdsUnit · q u)

/-- An instance of a task. -/
def State.instOf (s : State) (t n : Nat) : Option TaskInst := s.fab.insts.find? (fun x => decide (x.task = t ∧ x.number = n))

/-- An instance changed in place. -/
def State.modTask (s : State) (t n : Nat) (f : TaskInst → TaskInst) : State :=
  s.modFab (fun g => { g with insts := g.insts.map (fun x => if x.task = t ∧ x.number = n then f x else x) })

/-- An instance ended. -/
def State.endInst (s : State) (t n : Nat) : State :=
  s.modFab (fun g => { g with insts := g.insts.filter (fun x => !decide (x.task = t ∧ x.number = n)),
                              closed := (t, n) :: g.closed })

/-- The unit of an instance is free again; an isolated region's window keeps its values (R487). -/
def State.freeOf (s : State) (x : TaskInst) : State := match x.phase with
  | .copying | .loading | .running =>
    if s.unitState x.cluster x.unit = 1 ∧ !s.isolated (x.cluster / 4) then s.setUnit x.cluster x.unit 0 else s
  | .waiting | .ready | .rerun | .wake => s

/-- Every instance and token dropped, every running unit idle: the part runs no tasks of the kind named. -/
def State.dropTasks (s : State) : State :=
  let s := s.each s.fab.insts (fun x s => s.freeOf x)
  s.modFab (fun f => { f with insts := [], tokens := [], slack := [], closed := [] })

/-! Pips (R232, Table 9-2). -/

/-- The first byte of a task's pip slot in a cluster. -/
def pipAddr (q : Nat) (d : TaskDef) : Nat := clusterMem q + 0x00100000 + 128 * tdPip d

/-- Table 9-2: bytes 0 to 15 of a pip. -/
def pipHead (x : TaskInst) : List Byte :=
  leBytes 2 x.task ++ [BitVec.ofNat 8 x.reruns, BitVec.ofNat 8 x.aborts] ++ leBytes 4 x.number ++ le32 x.dispT ++
    [BitVec.ofNat 8 x.flags, BitVec.ofNat 8 (cellsGet 0 x.tokens x.cluster)] ++ leBytes 2 (x.cluster * 8 + x.unit)

/-- The VALID word of a pip. -/
def pipValid : Word := 0x21504950

/-- R232: the dispatch words: frame or period start, epoch instant, and scalars that the spec does not list: free values. -/
def State.dispWords (s : State) (x : TaskInst) : List Word :=
  let t := match s.fus.epoch with | some e => e.t | none => 0
  [BitVec.ofNat 32 x.start, BitVec.ofNat 32 t] ++ (List.range 14).map (fun i => Config.freeWord (s.freeCtr + i))

/-- R232: the dispatch area of a unit: bank 7, words 4,080 + 2n and 4,081 + 2n. -/
def dispArea (q u : Nat) : Nat := clusterMem q + 7 * 0x20000 + 32 * (4080 + 2 * u)

/-- R232: the pip is written into its slot, the VALID word last, and the dispatch words into the unit's dispatch area. -/
def State.writePip (s : State) (d : TaskDef) (x : TaskInst) : State :=
  let w := (s.dispWords x).flatMap le32
  let s : State := { s with freeCtr := s.freeCtr + 14 }
  let s := s.memPut (pipAddr x.cluster d) (pipHead x ++ w ++ List.replicate 44 0 ++ le32 pipValid)
  s.memPut (dispArea x.cluster x.unit) w

/-- R233: the pip is copied into the stores of the sibling and the alternate. -/
def State.copyPip (s : State) (d : TaskDef) (x : TaskInst) : State :=
  let b := s.memBytes (pipAddr x.cluster d) 128
  s.each ((tdSib d).toList ++ [tdAlt d]) (fun q s => if q = x.cluster ∨ s.isolated (q / 4) then s else s.memPut (pipAddr q d) b)

/-- R232: the pip of a finished instance is marked invalid, in every store that holds it. -/
def State.endPip (s : State) (d : TaskDef) (q : Nat) : State :=
  s.each (q :: tdHolders d) (fun q s => if s.isolated (q / 4) then s else s.memPut (pipAddr q d + 124) [0, 0, 0, 0])

/-- R234: the dispatch words of the pip go into the unit's dispatch area; the pip shows the latest run. -/
def State.loadPip (s : State) (d : TaskDef) (x : TaskInst) : State :=
  let w := s.memBytes (pipAddr x.cluster d + 16) 64
  let s := s.memPut (pipAddr x.cluster d) (pipHead x)
  s.memPut (dispArea x.cluster x.unit) w

/-! Faults' common record (R228, Table 9-11). -/

/-- FLT_LAST and FLT_LASTT take a fault: its KIND, path, task in flight and cause. -/
def State.faultRecord (s : State) (kind path : Nat) (task : Option Nat) (cause : Nat) : State :=
  let w := kind + 16 * (path % 256) + 2 ^ 12 * (task.getD 0) + (if task.isSome then 2 ^ 24 else 0) + 2 ^ 25 * cause
  (s.wr Reg.FLT_LAST (BitVec.ofNat 32 w)).wr Reg.FLT_LASTT (s.rd Reg.TB_NS)

end Sys2Proof.Machine
end

