-- ==== Sys2Proof/Machine/Arbiter.lean ====
section
/-!
DEFINITION. Sys2Proof/Machine/Arbiter.lean: the one arbiter design of cluster bank ports and region egress ports (R50 to R56): requests,
grant decisions, forced grants, masks, and writes of CTRL.
-/
namespace Sys2Proof.Machine

/-- Table 2-10: how many requester indices a port has that are not permanently masked. -/
def portIdx : ArbPort → Nat
  | .bank _ _ => 10
  | .egress _ => 6

/-- The address of a port's status register. -/
def portStat : ArbPort → Nat
  | .bank q b => Reg.BANKARB_STAT q b
  | .egress g => Reg.EGRARB_STAT g

/-- The OWNER field of a port. -/
def portOwner (p : ArbPort) : Field := ⟨portStat p, 0, 4⟩
/-- The REQ bit of a requester. -/
def portReq (p : ArbPort) (i : Nat) : Field := ⟨portStat p, 4 + i, 1⟩
/-- The MASKED bit of a requester. -/
def portMask (p : ArbPort) (i : Nat) : Field := ⟨portStat p, 4 + portIdx p + i, 1⟩

/-- Tables 2-12, 2-13, 2-16: the priority register value of a requester. -/
def State.portPrio (s : State) (p : ArbPort) (i : Nat) : Nat := match p with
  | .bank q b => if i < 8 then s.get (Fld.BANKARB_PRIOA_PRIO_U q b i) else if i = 8 then s.get (Fld.BANKARB_PRIOB_PRIO_PIP q b)
                 else s.get (Fld.BANKARB_PRIOB_PRIO_BRG q b)
  | .egress g => if i < 4 then s.get (Fld.EGRARB_PRIO_PRIO_C g i) else if i = 4 then s.get (Fld.EGRARB_PRIO_PRIO_BRG g)
                 else s.get (Fld.EGRARB_PRIO_PRIO_RPT g)

/-- R52: N of a port. -/
def State.portN (s : State) (p : ArbPort) : Nat := match p with
  | .bank q b => s.get (Fld.BANKARB_CTRL_NTH q b) + 1
  | .egress g => s.get (Fld.EGRARB_CTRL_NTH g) + 1

/-- The arbiter of a port beside its registers. -/
def State.arbSt (s : State) (p : ArbPort) : ArbSt := cellsGet {} s.fab.arb (portStat p)

/-- The arbiter of a port changed. -/
def State.modArb (s : State) (p : ArbPort) (f : ArbSt → ArbSt) : State :=
  s.modFab (fun g => { g with arb := cellsSet {} g.arb (portStat p) (f (s.arbSt p)) })

/-- The lost count of a requester. -/
def State.lostOf (s : State) (p : ArbPort) (i : Nat) : Nat := cellsGet 0 (s.arbSt p).lost i

/-- A requester's lost count set. -/
def State.setLost (s : State) (p : ArbPort) (i n : Nat) : State := s.modArb p (fun a => { a with lost := cellsSet 0 a.lost i n })

/-- The effective priority: the smaller of 15 and the register value plus the lost count. -/
def State.effPrio (s : State) (p : ArbPort) (i : Nat) : Nat := min 15 (s.portPrio p i + s.lostOf p i)

/-- The unmasked requesters that request. -/
def State.arbWaiting (s : State) (p : ArbPort) : List Nat :=
  (List.range (portIdx p)).filter (fun i => decide (s.get (portReq p i) = 1 ∧ s.get (portMask p i) = 0))

/-- The lexicographic order of pairs. -/
def lexLt (a b : Nat × Nat) : Bool := decide (a.1 < b.1 ∨ (a.1 = b.1 ∧ a.2 < b.2))

/-- The element of a list with the largest key, the first of them in a tie. -/
def firstMax (key : Nat → Nat × Nat) : List Nat → Option Nat
  | [] => none
  | i :: is => match firstMax key is with
    | none => some i
    | some j => if lexLt (key i) (key j) then some j else some i

/-- R50: the order of a decision: lost count, then effective priority when forced, else the other way round; the lower index in
a tie. -/
def State.arbKey (s : State) (p : ArbPort) (forced : Bool) (i : Nat) : Nat × Nat :=
  if forced then (s.lostOf p i, s.effPrio p i) else (s.effPrio p i, s.lostOf p i)

/-- ARB_GRANT (R50, R52): a grant decision, made only while the port has no owner and a requester waits. -/
def State.arbDecide (s : State) (p : ArbPort) : State :=
  if s.get (portOwner p) ≠ 15 then s
  else
    let waiting := s.arbWaiting p
    let grants := (s.arbSt p).grants + 1
    match firstMax (s.arbKey p (decide (grants % s.portN p = 0))) waiting with
    | none => s
    | some w =>
      let s := s.each waiting (fun i s => s.setLost p i (if i = w then 0 else s.lostOf p i + 1))
      (s.modArb p (fun a => { a with grants := grants })).set (portOwner p) w

/-- R53: the grant in progress ends, and the next decision is made; `again`: the owner raises a new request at once. -/
def State.arbEnd (s : State) (p : ArbPort) (again : Bool) : State :=
  let o := s.get (portOwner p)
  if o = 15 then s
  else (((s.set (portReq p o) (if again then 1 else 0)).setLost p o 0).set (portOwner p) 15).arbDecide p

/-- R50: a requester raises a request.  DESIGN CHOICE (log entry 142): a masked requester's REQ bit stays 0. -/
def State.arbRequest (s : State) (p : ArbPort) (i : Nat) : State :=
  if portIdx p ≤ i ∨ s.get (portReq p i) = 1 ∨ s.get (portMask p i) = 1 then s
  else ((s.set (portReq p i) 1).setLost p i 0).arbDecide p

/-- A requester's request is withdrawn; a grant that it owns ends. -/
def State.arbDrop (s : State) (p : ArbPort) (i : Nat) : State :=
  if s.get (portOwner p) = i then s.arbEnd p false else (s.set (portReq p i) 0).setLost p i 0

/-- R54: a requester is masked: it takes no part in decisions, and its lost count is held at 0.  DESIGN CHOICE (log entry 142): its
request is withdrawn, so its REQ bit is 0. -/
def State.arbMask (s : State) (p : ArbPort) (i : Nat) : State := (s.set (portMask p i) 1).arbDrop p i

/-- R54: a requester is unmasked. -/
def State.arbUnmask (s : State) (p : ArbPort) (i : Nat) : State := s.set (portMask p i) 0

/-- The bank ports of a cluster. -/
def bankPorts (q : Nat) : List ArbPort := (List.range 8).map (fun b => .bank (Fin.ofNat 32 q) (Fin.ofNat 8 b))

/-- R54: a requester masked at every bank port of a cluster. -/
def State.maskBanks (s : State) (q i : Nat) : State := s.each (bankPorts q) (fun p s => s.arbMask p i)

/-- R10, R54: a unit masked, or unmasked, at every bank port of its cluster. -/
def State.unmaskBanks (s : State) (q i : Nat) : State := s.each (bankPorts q) (fun p s => s.arbUnmask p i)

/-- R56, R487: a write of CTRL: while the region is stopped it takes NTH and BURST and the grant count returns to 0; at any
other time a write that would change them is refused, and one that would not returns the grant count to 0 (R7, R52); NTH 0 is
refused; an isolated region's windows take no write. -/
def State.arbCtrl (s : State) (p : ArbPort) (g block addr : Nat) (v : Word) : State :=
  let w := v &&& 0xFF3F
  let refuse := fun (s : State) => (s.set ⟨portStat p, 4 + 2 * portIdx p, 1⟩ 1).refuse block 1 addr
  if s.isolated g then s
  else if (if s.stopped g then decide (bitsGet w 0 6 = 0) else decide (w ≠ s.rd addr)) then refuse s
  else (s.wr addr w).modArb p (fun a => { a with grants := 0 })

/-- R49: the region bridge reads a word of a bank: it requests the bank's port, and the grant, if it comes at once, ends with the
word; else its request stays until it is granted (log entry 147). -/
def State.bridgeRead (s : State) (p : ArbPort) : State :=
  let t := s.arbRequest p 9
  if s.get (portOwner p) ≠ 9 ∧ t.get (portOwner p) = 9 then t.arbEnd p false else t

def execArbRequest (port : ArbPort) (idx : Fin 10) (s : State) : Host.Outcome State Fault Refusal :=
  .next (s.running (fun s => s.arbRequest port idx))
def execArbOwnerRelease (port : ArbPort) (s : State) : Host.Outcome State Fault Refusal := .next (s.running (fun s => s.arbEnd port false))
def execArbBurstLimit (port : ArbPort) (again : Bool) (s : State) : Host.Outcome State Fault Refusal :=
  .next (s.running (fun s => s.arbEnd port again))
def execBankarbCtrlWrite (q : Fin 32) (b : Fin 8) (value : Word) (s : State) : Host.Outcome State Fault Refusal :=
  .next (s.access (Reg.BANKARB_CTRL q b) (fun s => s.arbCtrl (.bank q b) (q / 4) 20 (Reg.BANKARB_CTRL q b) value))
def execEgrarbCtrlWrite (g : Fin 8) (value : Word) (s : State) : Host.Outcome State Fault Refusal :=
  .next (s.access (Reg.EGRARB_CTRL g) (fun s => s.arbCtrl (.egress g) g 21 (Reg.EGRARB_CTRL g) value))

end Sys2Proof.Machine
end

