-- ==== Sys2Proof/Machine/FabricOps.lean ====
section
/-!
DEFINITION. Sys2Proof/Machine/FabricOps.lean: what each operation class of Table 3-6 does to the memories, the accumulator and
the status word of its task (R62, R69 to R76, R238, R515).  EMIT leaves the memories alone; its output is the egress's.
-/
namespace Sys2Proof.Machine

/-! Operation entries (Table 3-3). -/

/-- Table 3-3: OPC. -/
def opCode (e : BitVec 128) : Nat := entryBits e 120 6
/-- Table 3-3: the element count. -/
def opLen (e : BitVec 128) : Nat := entryBits e 112 8 + 1
/-- Table 3-3: ADDR_A. -/
def opA (e : BitVec 128) : Nat := entryBits e 91 21
/-- Table 3-3: ADDR_B. -/
def opB (e : BitVec 128) : Nat := entryBits e 70 21
/-- Table 3-3: ADDR_D. -/
def opD (e : BitVec 128) : Nat := entryBits e 49 21
/-- Table 3-3: QA. -/
def opQA (e : BitVec 128) : Nat := entryBits e 44 5
/-- Table 3-3: QB. -/
def opQB (e : BitVec 128) : Nat := entryBits e 39 5
/-- Table 3-3: QD. -/
def opQD (e : BitVec 128) : Nat := entryBits e 34 5
/-- Table 3-3: IMM. -/
def opImm (e : BitVec 128) : Word := BitVec.ofNat 32 (entryBits e 2 32)
/-- Table 3-3: CHAIN. -/
def opChain (e : BitVec 128) : Bool := entryBits e 1 1 = 1

/-- What an operation leaves beside its committed words: elements saturated, flags of its own, the accumulator carried. -/
structure OpFlags where
  sat : Nat := 0
  accSat : Bool := false
  reg : Bool := false
  dom : Bool := false
  acc : Option (Int × Nat) := none
deriving DecidableEq, Repr

/-- An element of an operand as a signed word. -/
def State.elem (s : State) (q a i : Nat) : Int := toSigned 32 (s.memRd (elemAddr q a i)).toNat

/-- Results committed from a destination on, narrowed by step 4 of R72; how many saturated. -/
def State.putElems (s : State) (q a : Nat) (xs : List Int) : State × Nat :=
  (s.each xs.zipIdx (fun (x, i) s => s.memWr (elemAddr q a i) (ofInt32 (narrow x).1)),
   (xs.filter (fun x => (narrow x).2)).length)

/-- A result at every index of an operation, committed.  DESIGN CHOICE (log entry 145): every element is read before any result is
committed. -/
def State.opMap (s : State) (q : Nat) (e : BitVec 128) (f : Nat → Rat) : State × OpFlags :=
  let (s, n) := s.putElems q (opD e) ((List.range (opLen e)).map (fun i => toQ (opQD e) (f i)))
  (s, { sat := n })

/-- A single result of an operation, committed. -/
def State.opOne (s : State) (q : Nat) (e : BitVec 128) (v : Rat) : State × OpFlags :=
  let (s, n) := s.putElems q (opD e) [toQ (opQD e) v]
  (s, { sat := n })

/-- R74: the length of the reserved area that starts at an operand; the rest of its space where Bolek names none. -/
def areaLen (d : TaskDef) (a : Nat) : Nat := match d.areas.find? (fun x => decide (x.1 = a)) with
  | some x => x.2
  | none => if a / 2 ^ 20 % 2 = 1 then 2 ^ 20 - a % 2 ^ 20 else 2 ^ 18 - a % 2 ^ 18

/-- R73: DOT: the carried accumulator and the products at one fraction count, summed, then carried on or narrowed. -/
def State.opDot (s : State) (q : Nat) (e : BitVec 128) (acc : Option (Int × Nat)) : State × OpFlags :=
  let own := opQA e + opQB e
  let (a0, n0) := acc.getD (0, own)
  let n := max own n0
  let (a1, f1) := accHold (a0 * 2 ^ (n - n0))
  let ps := (List.range (opLen e)).map (fun i => s.elem q (opA e) i * s.elem q (opB e) i * 2 ^ (n - own))
  let (a2, f2) := accSum ps (a1, f1)
  if opChain e then (s, { accSat := f2, acc := some (a2, n) })
  else
    let (s, fl) := s.opOne q e (ofQ n a2)
    (s, { fl with accSat := f2 })

/-- GEMV: D = M × x, M row by row. -/
def State.opGemv (s : State) (q : Nat) (e : BitVec 128) : State × OpFlags :=
  let c := (opImm e).toNat % 256 + 1
  s.opMap q e fun r =>
    ((List.range c).map (fun j => ofQ (opQA e) (s.elem q (opA e) (r * c + j)) * ofQ (opQB e) (s.elem q (opB e) j))).foldl (· + ·) 0

/-- R72, R74: GATHER: an offset beyond the reserved area reads element 0. -/
def State.opGather (s : State) (q : Nat) (d : TaskDef) (e : BitVec 128) : State × OpFlags :=
  let lim := areaLen d (opA e)
  let off := fun i => (s.memRd (elemAddr q (opB e) i)).toNat
  let bad := (List.range (opLen e)).any (fun i => decide (lim ≤ off i))
  let (t, fl) := s.opMap q e (fun i => ofQ (opQA e) (s.elem q (opA e) (if lim ≤ off i then 0 else off i)))
  (t, { fl with dom := bad })

/-- R72, R74: SCATTER_ADD, element by element; an offset beyond the reserved area writes nothing. -/
def State.opScatter (s : State) (q : Nat) (d : TaskDef) (e : BitVec 128) : State × OpFlags :=
  let lim := areaLen d (opD e)
  (List.range (opLen e)).foldl (fun (a : State × OpFlags) i =>
    let off := (a.1.memRd (elemAddr q (opB e) i)).toNat
    if lim ≤ off then (a.1, { a.2 with dom := true })
    else
      let v := ofQ (opQA e) (a.1.elem q (opA e) i) + ofQ (opQD e) (a.1.elem q (opD e) off)
      let (t, n) := a.1.putElems q (opD e + off) [toQ (opQD e) v]
      (t, { a.2 with sat := a.2.sat + n })) (s, {})

/-- R74: PIVINV, with ε and δ the upper 16 bits of values in format QA. -/
def State.opPivinv (s : State) (q : Nat) (e : BitVec 128) : State × OpFlags :=
  let eps := toSigned 32 ((opImm e).toNat / 65536 * 65536)
  let delta := toSigned 32 ((opImm e).toNat % 65536 * 65536)
  let low := fun (a : Int) => decide (((a.natAbs : Nat) : Int) < eps ∨ a = 0)
  let a := fun i => s.elem q (opA e) i
  let (t, fl) := s.opMap q e fun i =>
    if low (a i) then (if a i < 0 then -1 else 1) / ofQ (opQA e) delta else 1 / ofQ (opQA e) (a i)
  (t, { fl with reg := (List.range (opLen e)).any (fun i => low (a i)) })

/-- R74: SQRT; a negative operand gives 0. -/
def State.opSqrt (s : State) (q : Nat) (e : BitVec 128) : State × OpFlags :=
  let a := fun i => s.elem q (opA e) i
  let (t, n) := s.putElems q (opD e) ((List.range (opLen e)).map (fun i => sqrtQ (a i).toNat (opQA e) (opQD e)))
  (t, { sat := n, dom := (List.range (opLen e)).any (fun i => decide (a i < 0)) })

/-- SINCOS: the sines, then the cosines. -/
def State.opSinCos (s : State) (q : Nat) (e : BitVec 128) : State × OpFlags :=
  let xs := (List.range (opLen e)).map (fun i => sinCosQ (s.elem q (opA e) i) (opQD e))
  let (t, n) := s.putElems q (opD e) (xs.map (·.1) ++ xs.map (·.2))
  (t, { sat := n })

/-- R74: ATAN2; the angle of (0, 0) is 0. -/
def State.opAtan2 (s : State) (q : Nat) (e : BitVec 128) : State × OpFlags :=
  let m := max (opQA e) (opQB e)
  let y := fun i => s.elem q (opA e) i * 2 ^ (m - opQA e)
  let x := fun i => s.elem q (opB e) i * 2 ^ (m - opQB e)
  let zero := fun i => decide (y i = 0 ∧ x i = 0)
  let (t, n) := s.putElems q (opD e) ((List.range (opLen e)).map (fun i => if zero i then 0 else atan2Q (y i) (x i)))
  (t, { sat := n, dom := (List.range (opLen e)).any zero })

/-- R515: INTERP: K breakpoints in QA and K values in QB. -/
def State.opInterp (s : State) (q : Nat) (e : BitVec 128) : State × OpFlags :=
  let k := (opImm e).toNat % 64 + 1
  let bs := (List.range k).map (fun j => ofQ (opQA e) (s.elem q (opB e) j))
  let vs := (List.range k).map (fun j => ofQ (opQB e) (s.elem q (opB e) (k + j)))
  let at_ := fun i => interpQ (ofQ (opQA e) (s.elem q (opA e) i)) bs vs
  let (t, fl) := s.opMap q e (fun i => (at_ i).1)
  (t, { fl with dom := (List.range (opLen e)).any (fun i => (at_ i).2) })

/-- R438: write-through into a region is suspended from step 2 to step 4 of its reload, and while it is moved out. -/
def State.throughInto (s : State) (g : Nat) : Bool :=
  s.get (Fld.RGN_PLACE_MOVED_OUT g) = 0 || (match s.img.reload with | some (r, k) => decide (r = g ∧ 4 ≤ k) | none => false)

/-- What the region sections hold, or nothing before they are loaded. -/
def State.blocks (s : State) : List MemBlock := match s.cfg with | some c => c.region.blocks | none => []

/-- R238: the region that a word stored to region memory of region g is written through to: the other region of its CARRIED or
FRAME block. -/
def State.throughTo (s : State) (g off : Nat) : Option Nat :=
  match s.blocks.find? (fun b => decide (b.off ≤ off ∧ off < b.off + b.len ∧ (b.home = g ∨ b.alt = g)) && !b.solver) with
  | some b => some (if b.home = g then b.alt else b.home)
  | none => none

/-- R238: STREG: the words are copied into region memory, and written through to the alternate region. -/
def State.opStreg (s : State) (q : Nat) (e : BitVec 128) : State :=
  s.each (List.range (opLen e)) fun i s =>
    let v := s.memRd (elemAddr q (opA e) i)
    let a := elemAddr q (opD e) i
    let off := a - regionMem (q / 4)
    let s := s.memWr a v
    match s.throughTo (q / 4) off with
    | some h => if s.throughInto h then s.memWr (regionMem h + off) v else s
    | none => s

/-- Table 3-6: one operation of a task on a unit of cluster q, with the accumulator carried in and the status word so far. -/
def State.opRun (s : State) (q : Nat) (d : TaskDef) (e : BitVec 128) (acc : Option (Int × Nat)) (status : Word) : State × OpFlags :=
  let a := fun i => ofQ (opQA e) (s.elem q (opA e) i)
  let b := fun i => ofQ (opQB e) (s.elem q (opB e) i)
  match opCode e with
  | 0x01 => s.opMap q e a
  | 0x02 => s.opMap q e (fun i => a i + b i)
  | 0x03 => s.opMap q e (fun i => a i - b i)
  | 0x04 => s.opMap q e (fun i => a i * b i)
  | 0x05 => s.opDot q e acc
  | 0x06 => s.opMap q e (fun i => ofQ (opQB e) (toSigned 32 (opImm e).toNat) * a i)
  | 0x07 => s.opGemv q e
  | 0x08 => s.opGather q d e
  | 0x09 => s.opScatter q d e
  | 0x0A => s.opMap q e (fun i => min (max (a i) (b (2 * i))) (b (2 * i + 1)))
  | 0x0B => s.opMap q e (fun i => min (a i) (b i))
  | 0x0C => s.opMap q e (fun i => max (a i) (b i))
  | 0x0D => s.opOne q e (((List.range (opLen e)).map (fun i => max (a i) (-(a i)))).foldl max 0)
  | 0x0E => s.opOne q e (((List.range (opLen e)).map (fun i => a i * a i)).foldl (· + ·) 0)
  | 0x0F => s.opPivinv q e
  | 0x10 => s.opSqrt q e
  | 0x11 => s.opSinCos q e
  | 0x12 => s.opAtan2 q e
  | 0x13 => s.opInterp q e
  | 0x14 => (s.each (List.range (opLen e)) (fun i s => s.memWr (elemAddr q (opD e) i) (s.memRd (elemAddr q (opA e) i))), {})
  | 0x15 => (s.opStreg q e, {})
  | 0x17 => (s.memWr (elemAddr q (opD e) 0) status, {})
  | _ => (s, {})

/-- R75: the status word after an operation: its sticky flags, and SAT_CNT, which stops at 255. -/
def statusAfter (w : Word) (f : OpFlags) : Word :=
  let bits := flagBit (0 < f.sat) 0 + flagBit f.accSat 1 + flagBit f.reg 2 + flagBit f.dom 3
  bitsSet (w ||| BitVec.ofNat 32 bits) 8 8 (min 255 (bitsGet w 8 8 + f.sat))

/-- R76: SAT, REG and DOMAIN as a completion token carries them. -/
def tokenFlags (w : Word) : Nat :=
  flagBit (w.getLsbD 0 || w.getLsbD 1 || w.getLsbD 4) 0 + flagBit (w.getLsbD 2 || w.getLsbD 5) 1 +
    flagBit (w.getLsbD 3 || w.getLsbD 6) 2

/-- R75: the status word at the start of a run: the task index; on a re-run RERUN, and TOKFLAGS in the _IN bits (R234). -/
def statusStart (x : TaskInst) (rerun : Bool) : Word :=
  BitVec.ofNat 32 (x.task * 65536 + x.flags % 8 * 16 + (if rerun then 128 else 0))

end Sys2Proof.Machine
end

