-- ==== Sys2Proof/Machine/Tasks.lean ====
section
/-!
DEFINITION. Sys2Proof/Machine/Tasks.lean: tasks from release to completion (R65 to R68, R232 to R237, R264), re-dispatch and abandonment
(R13, R235, R236), completion tokens, the slack monitor (R47) and the region egress (R247).
-/
namespace Sys2Proof.Machine

/-- The instance number that a task has now: the period count for PERIOD tasks, else the frame count (Table 9-2). -/
def State.numNow (s : State) (d : TaskDef) : Nat := if tdClass d = 2 then s.frame.period else s.frame.count
/-- The start of the present frame or period. -/
def State.startNow (s : State) (d : TaskDef) : Nat := if tdClass d = 2 then s.frame.periodStart else s.frame.start

/-- R65: the instance of a successor that waits for an instance: of the same frame or period where both are of one kind, else
of the present one. -/
def State.succNum (s : State) (d e : TaskDef) (n start : Nat) : Nat × Nat :=
  if decide (tdClass d = 2) = decide (tdClass e = 2) then (n, start) else (s.numNow e, s.startNow e)

/-! Placement changes. -/

/-- R237: an instance that waits becomes ready once the cluster of its placement has counted NDEP tokens. -/
def State.wakeWaiting (s : State) (d : TaskDef) : State := match s.placeOf (tdTask d) with
  | none => s
  | some q => s.modFab (fun f => { f with insts := f.insts.map (fun x =>
      if x.task = tdTask d ∧ x.phase = .waiting ∧ tdNdep d ≤ cellsGet 0 x.tokens q then { x with phase := .ready } else x) })

/-- A task moves to another cluster (R236). -/
def State.moveTask (s : State) (d : TaskDef) (q : Nat) : State := (s.setPlace d (some q)).wakeWaiting d

/-- An instance ends without completing: its unit is free, its pip is never loaded. -/
def State.dropInst (s : State) (x : TaskInst) : State :=
  let s := (s.freeOf x).endInst x.task x.number
  match s.taskDef x.task with
  | some d => s.endPip d x.cluster
  | none => s

/-- NO_PLACEMENT (R236, R249): no cluster can run the task: its instances end, its slots will close with the marker, and the
event is raised once. -/
def State.noPlacement (s : State) (d : TaskDef) : State :=
  let t := tdTask d
  let s := s.setPlace d none
  let xs := s.fab.insts.filter (fun x => decide (x.task = t))
  let n := match xs with | x :: _ => x.number | [] => s.numNow d
  let s := if t ∈ s.fab.noPlace then s
    else (s.modFab (fun f => { f with noPlace := t :: f.noPlace })).raise 0x280A 0 (s.faultData n)
  (s.each xs (fun x s => s.dropInst x)).slotReason t 5 0

/-- R236: a task whose cluster can no longer run it goes to its sibling, else to its alternate, else nowhere. -/
def State.relocate (s : State) (d : TaskDef) : State := match s.nextPlace d with
  | some q => s.moveTask d q
  | none => s.noPlacement d

/-! Re-dispatch (R13, R236). -/

/-- A cold spare of a cluster that no instance has called yet, the lowest first. -/
def State.spareUnit (s : State) (q : Nat) : Option Nat :=
  (List.range 8).find? (fun u => decide (s.unitState q u = 2) && (s.instOn q u).isNone)

/-- R234: a re-run starts on a free unit: its pip is loaded. -/
def State.startRerun (s : State) (d : TaskDef) (x : TaskInst) (q u : Nat) : State :=
  let s := if s.placeOf x.task = some q then s else s.moveTask d q
  let s := s.modTask x.task x.number (fun x => { x with phase := .loading, cluster := q, unit := u, op := 0, acc := none })
  (s.setUnit q u 1).count (Fld.CLU_RERUN_RERUNS q)

/-- R230: a cold spare is called on for a re-run. -/
def State.callSpare (s : State) (d : TaskDef) (x : TaskInst) (q u : Nat) : State :=
  let s := if s.placeOf x.task = some q then s else s.moveTask d q
  let s := s.modTask x.task x.number (fun x => { x with phase := .wake, cluster := q, unit := u, op := 0, acc := none })
  s.set Fld.FLT_SPARE_SPARES_LEFT (s.get Fld.FLT_SPARE_SPARES_LEFT - 1)

/-- R13, R236: a failed instance takes the first option that has a free active unit or a cold spare; else it waits. -/
def State.redispatch (s : State) (d : TaskDef) (x : TaskInst) : State :=
  let cur := s.placeOf x.task
  let all := (cur.toList ++ (tdSib d).toList ++ [tdAlt d]).filter (fun q => s.canRun q d)
  match all.find? (fun q => (s.freeUnit q).isSome || (s.spareUnit q).isSome) with
  | some q => match s.freeUnit q, s.spareUnit q with
    | some u, _ => s.startRerun d x q u
    | none, some u => s.callSpare d x q u
    | none, none => s
  | none =>
    let s := s.modTask x.task x.number (fun x => { x with phase := .rerun, op := 0, acc := none })
    match cur with
    | some q => if s.canRun q d then s else s.relocate d
    | none => s.noPlacement d

/-- R235: an instance is abandoned, and every successor instance that waits for it in turn. -/
def State.abandon : Nat → State → TaskDef → Nat → Nat → Nat → Nat → State
  | 0, s, _, _, _, _, _ => s
  | fuel + 1, s, d, n, start, reason, reruns =>
    if (tdTask d, n) ∈ s.fab.closed then s
    else
      let s := match s.instOf (tdTask d) n with
        | some x => s.dropInst x
        | none => s.endInst (tdTask d) n
      let s := s.slotReason (tdTask d) reason reruns
      let s := if reason = 3 then s else s.count Fld.FLT_RERUN_ABANDONED
      s.each d.succ fun (t : Fin 4096) s => match s.taskDef t with
        | some e =>
          let k := s.succNum d e n start
          State.abandon fuel s e k.1 k.2 6 0
        | none => s

/-- R235: an instance is abandoned for a reason of Table 9-6. -/
def State.abandonInst (s : State) (d : TaskDef) (x : TaskInst) (reason : Nat) : State :=
  s.abandon 4096 d x.number x.start reason x.reruns

/-! Dispatch (R66, R67). -/

/-- The element of a list of instances that comes first in a strict order. -/
def firstInst (before : TaskInst → TaskInst → Bool) : List TaskInst → Option TaskInst
  | [] => none
  | x :: xs => match firstInst before xs with
    | none => some x
    | some y => if before y x then some y else some x

/-- R58: dispatch order: the earlier frame or period start, then the lower ORDER. -/
def older (ord : TaskInst → Nat) (x y : TaskInst) : Bool := lexLt (x.start, ord x) (y.start, ord y)

/-- The PRIO of an instance's task. -/
def State.prioOf (s : State) (x : TaskInst) : Nat := match s.taskDef x.task with | some d => tdPrio d | none => 0
/-- The ORDER of an instance's task. -/
def State.orderOf (s : State) (x : TaskInst) : Nat := match s.taskDef x.task with | some d => tdOrder d | none => 0

/-- R66: the higher PRIO, then the older. -/
def State.before (s : State) (x y : TaskInst) : Bool :=
  decide (s.prioOf y < s.prioOf x) || (decide (s.prioOf x = s.prioOf y) && older s.orderOf x y)

/-- R64, R236: instances of a phase whose current placement is cluster q, which can run them. -/
def State.atCluster (s : State) (q : Nat) (ph : Phase) : List TaskInst :=
  s.fab.insts.filter fun x => decide (x.phase = ph ∧ s.placeOf x.task = some q) &&
    (match s.taskDef x.task with | some d => s.canRun q d | none => false)

/-- R66, R67: the choice of a dispatch decision: at every Kth decision the oldest ready PRIO 0 instance, if there is one. -/
def State.dispatchChoice (s : State) (q k : Nat) : Option TaskInst :=
  let ready := s.atCluster q .ready
  let low := ready.filter (fun x => decide (s.prioOf x = 0))
  if k % (s.get (Fld.CLU_DISP_BG_NTH q) + 1) = 0 ∧ low ≠ [] then firstInst (older s.orderOf) low else firstInst s.before ready

/-- R75, R232: an instance is dispatched: its status word is cleared and its pip written. -/
def State.startRun (s : State) (d : TaskDef) (x : TaskInst) (q u : Nat) : State :=
  let y := { x with phase := Phase.copying, cluster := q, unit := u, op := 0, acc := none, status := statusStart x false,
                    dispT := s.rd Reg.TB_NS }
  let s := s.modTask x.task x.number (fun _ => y)
  (s.setUnit q u 1).writePip d y

/-- R264: a test task of Zorfen's test schedule that cluster q holds and that is not under way. -/
def State.testTask (s : State) (q : Nat) : Option TaskDef :=
  s.tasks.find? (fun d => d.test && decide (tdHome d = q) && s.canRun q d && !(s.fab.insts.any (fun x => decide (x.task = tdTask d))))

/-- TASK_DISPATCH (R66, R67, R236, R264): an idle unit takes a re-run that waits, or the decision's choice; on a part that does
not command, a test task.  DESIGN CHOICE (log entry 144): every decision of R66 counts, that of a test task too, and BG_NTH may
change while the count goes on. -/
def State.taskDispatch (s : State) (q u : Nat) : State :=
  if s.unitState q u ≠ 0 then s
  else match firstInst (older s.orderOf) (s.atCluster q .rerun) with
    | some x => match s.taskDef x.task with
      | some d => s.startRerun d x q u
      | none => s
    | none =>
      let k := cellsGet 0 s.fab.decisions q + 1
      let counted := s.modFab (fun f => { f with decisions := cellsSet 0 f.decisions q k })
      match s.dispatchChoice q k with
      | some x => match s.taskDef x.task with
        | some d => counted.startRun d x q u
        | none => s
      | none =>
        if s.commanding then s
        else match s.testTask q with
          | some d =>
            let x : TaskInst := { task := tdTask d, number := s.frame.count, start := s.frame.start }
            (counted.modFab (fun f => { f with insts := f.insts ++ [x] })).startRun d x q u
          | none => s

/-- PIP_COPY_VALID (R233): every copy carries its valid mark, and the first operation starts. -/
def State.pipCopyValid (s : State) (q u : Nat) : State := match s.instOn q u with
  | some x => match s.taskDef x.task with
    | some d => if x.phase = .copying then (s.copyPip d x).modTask x.task x.number (fun x => { x with phase := .running }) else s
    | none => s
  | none => s

/-- PIP_LOAD_DONE (R234): the dispatch words and TOKFLAGS are restored, RERUN is set, and the task runs from its start. -/
def State.pipLoadDone (s : State) (q u : Nat) : State := match s.instOn q u with
  | some x => match s.taskDef x.task with
    | some d =>
      if x.phase = .loading then
        (s.loadPip d x).modTask x.task x.number
          (fun x => { x with phase := .running, op := 0, acc := none, status := statusStart x true })
      else s
    | none => s
  | none => s

/-! Release (R65). -/

/-- BG_RELEASE, R65: a root task is released with a new instance; a background root whose previous instance has not completed
is skipped and counted. -/
def State.releaseRoot (s : State) (d : TaskDef) : State := match s.placeOf (tdTask d) with
  | none => s
  | some q =>
    if tdClass d = 0 ∧ s.fab.insts.any (fun x => decide (x.task = tdTask d)) then s.count (Fld.CLU_DISP_BG_SKIP q)
    else
      let x : TaskInst := { task := tdTask d, number := s.numNow d, start := s.startNow d, phase := .ready }
      s.modFab (fun f => { f with insts := f.insts ++ [x] })

/-- R65: the root tasks of a frame start, and of a period start, are released; records of earlier instances are kept for two
frames or periods. -/
def State.releaseRoots (s : State) (period : Bool) : State :=
  let s := s.modFab (fun f => { f with closed := f.closed.filter (fun x =>
    match s.taskDef x.1 with | some d => decide (s.numNow d ≤ x.2 + 2) | none => false) })
  s.each (s.tasks.filter (fun d => decide (tdNdep d = 0 ∧ d.test = false ∧ (tdClass d ≠ 2 ∨ period)))) (fun d s => s.releaseRoot d)

/-- PLACEMENT_RETRY (R236): a task without a placement is tried again on its sibling and then its alternate. -/
def State.placementRetry (s : State) : State :=
  s.each (s.tasks.filter (fun d => (s.placeOf (tdTask d)).isNone)) fun d s => match s.nextPlace d with
    | some q => (s.moveTask d q).modFab (fun f => { f with noPlace := f.noPlace.filter (fun t => decide (t ≠ tdTask d)) })
    | none => s.slotReason (tdTask d) 5 0

/-! Completion (R68, R76, R232). -/

/-- R65, R76, R237: a completion token is counted where it arrives; the instance becomes ready when its placement has NDEP. -/
def State.completionToken (s : State) (q t : Nat) : State :=
  match s.fab.tokens.find? (fun k => decide (k.cluster = q ∧ k.task = t)), s.taskDef t with
  | some k, some d =>
    let s := s.modFab (fun f => { f with tokens := f.tokens.erase k })
    if (t, k.number) ∈ s.fab.closed then s
    else
      let s := if (s.instOf t k.number).isSome then s
        else s.modFab (fun f => { f with insts := f.insts ++ [{ task := t, number := k.number, start := k.start }] })
      let s := s.modTask t k.number (fun x => { x with
        tokens := cellsSet 0 x.tokens q (cellsGet 0 x.tokens q + 1)
        flags := if tdInherit d then x.flags ||| k.flags else x.flags })
      s.wakeWaiting d
  | _, _ => s

/-- Tables 3-13, 3-14: a completed run's own flags counted. -/
def State.countSat (s : State) (x : TaskInst) : State :=
  let w := x.status
  let q := x.cluster
  let s := if w.getLsbD 0 || w.getLsbD 1 then
      ((s.count (Fld.CLU_SATCNT_SAT_TASKS q)).set (Fld.CLU_LASTSAT_TASK q) x.task).set (Fld.CLU_LASTSAT_SAT_CNT q) (bitsGet w 8 8)
    else s
  let s := if w.getLsbD 2 then s.count (Fld.CLU_SATCNT_REG_TASKS q) else s
  if w.getLsbD 3 then s.count (Fld.CLU_SATCNT_DOMAIN_TASKS q) else s

/-- R264: a round of the test schedule ends once every active unit of the part has run a test task. -/
def State.testDone (s : State) (q u : Nat) : State :=
  let done := if 8 * q + u ∈ s.grp.tested then s.grp.tested else (8 * q + u) :: s.grp.tested
  let all := (List.range 256).all (fun k => decide (2 ≤ s.unitState (k / 8) (k % 8)) || done.contains k)
  { s with grp := if all then { s.grp with tested := [], testRounds := s.grp.testRounds + 1, testAt := some s.now }
                  else { s.grp with tested := done } }

/-- TASK_COMPLETE (R68, R76, R47): the pip is invalidated, the unit is free, and a token goes to every cluster that holds a
successor, and to the slack monitor for a deadline class. -/
def State.taskComplete (s : State) (d : TaskDef) (x : TaskInst) : State :=
  let s := (((s.freeOf x).endInst x.task x.number).endPip d x.cluster).countSat x
  if d.test then s.testDone x.cluster x.unit
  else
    let toks := d.succ.flatMap (fun (t : Fin 4096) => match s.taskDef t with
      | some e =>
        let k := s.succNum d e x.number x.start
        (tdHolders e).map (fun q => { cluster := q, task := t, number := k.1, flags := tokenFlags x.status, start := k.2 : Token })
      | none => [])
    s.modFab (fun f => { f with
      tokens := f.tokens ++ toks
      slack := if tdClass d = 0 then f.slack else f.slack ++ [(x.task, ((x.start + tdDeadline d : Nat) : Int))] })

/-! The region egress (R246, R247). -/

/-- The frame of the slot that an instance's output is for (R245). -/
def State.slotFrame (s : State) (d : TaskDef) (n : Nat) : Nat :=
  if tdClass d = 2 then s.periodSlot - (s.frame.period - n) * s.framesPerPeriod else n

/-- EGRESS_ACCEPT (R247): the egress accepts an output whole and forwards it, or drops a duplicate of the same FRAME. -/
def State.egressAccept (s : State) (d : TaskDef) (x : TaskInst) (e : BitVec 128) : State :=
  let g := x.cluster / 4
  let h := opImm e
  let body := (List.range (opLen e)).flatMap (fun i => le32 (s.memRd (elemAddr x.cluster (opA e) i)))
  let crc := crc16 (body ++ le32 (x.status &&& ~~~(0x80 : Word)))
  let frame := s.slotFrame d x.number
  match s.fab.egress.find? (fun y => decide (y.1 = g ∧ y.2.1 = h ∧ y.2.2.1 = frame)) with
  | some y =>
    let s := s.count (Fld.RGN_EGRDUP_DUP_DROPPED g)
    if y.2.2.2 = crc then s
    else (s.modChan (handleType h) (handleIndex h) (fun c => { c with differ := min (c.differ + 1) 0xFF })).raise 0x280B h (s.faultData frame)
  | none =>
    let o : FabOut := { region := g, handle := h, frame := frame, task := x.task, crc := crc, payload := body ++ le32 x.status }
    s.modFab (fun f => { f with egress := (g, h, frame, crc) :: f.egress.filter (fun y => !decide (y.1 = g ∧ y.2.1 = h)),
                                outs := f.outs ++ [o] })

/-- CHANNEL_PORT_OUTPUT (R247, R248): the oldest output on its way to a channel port reaches it. -/
def State.channelPortOutput (s : State) (h : Word) : State := match s.fab.outs.find? (fun o => decide (o.handle = h)) with
  | none => s
  | some o =>
    let s := s.modFab (fun f => { f with outs := f.outs.erase o })
    match s.chanOf h with
    | some c => if s.commanding then s.portOutput c o.frame o.crc o.payload else s
    | none => s

/-! The slack monitor (R47). -/

/-- SLACK_TOKEN (R47): a deadline-class token is stamped on arrival, and its slack held against the class's threshold. -/
def State.slackToken (s : State) (t : Nat) : State := match s.fab.slack.find? (fun x => decide (x.1 = t)), s.taskDef t with
  | some x, some d =>
    let s := s.modFab (fun f => { f with slack := f.slack.erase x })
    if s.get Fld.SLK_CTRL_EN = 0 then s
    else
      let p := if tdClass d = 2 then 1 else 0
      let slack := x.2 - (s.now : Int)
      let thr := if p = 1 then 10000 * s.get Fld.SLK_THR_THR_PERIOD else 1000 * s.get Fld.SLK_THR_THR_FRAME
      let min_ := if p = 1 then Reg.SLK_MINP else Reg.SLK_MINF
      let s := if slack < toSigned 32 (s.rd min_).toNat then s.wr min_ (satInt32 slack) else s
      let s := if slack < (thr : Int) then (s.count Fld.SLK_STAT_LOW_CNT).slackEvent p 0x2001 t slack else s
      if slack < 0 then s.slackEvent (2 + p) 0x2002 t slack else s
  | _, _ => s

def execTaskDispatch (q : Fin 32) (u : Fin 8) (s : State) : Host.Outcome State Fault Refusal := .next (s.running (fun s => s.taskDispatch q u))
def execPipCopyValid (q : Fin 32) (u : Fin 8) (s : State) : Host.Outcome State Fault Refusal := .next (s.running (fun s => s.pipCopyValid q u))
def execPipLoadDone (q : Fin 32) (u : Fin 8) (s : State) : Host.Outcome State Fault Refusal := .next (s.running (fun s => s.pipLoadDone q u))
def execCompletionToken (q : Fin 32) (task : Fin 4096) (s : State) : Host.Outcome State Fault Refusal :=
  .next (s.running (fun s => s.completionToken q task))
def execSlackToken (task : Fin 4096) (s : State) : Host.Outcome State Fault Refusal := .next (s.running (fun s => s.slackToken task))
def execSlkClr (s : State) : Host.Outcome State Fault Refusal :=
  .next (s.running (fun s => (s.wr Reg.SLK_MINF 0x7FFFFFFF).wr Reg.SLK_MINP 0x7FFFFFFF))
def execChannelPortOutput (handle : Word) (s : State) : Host.Outcome State Fault Refusal :=
  .next (s.running (fun s => s.channelPortOutput handle))

end Sys2Proof.Machine
end

