-- ==== Sys2Proof/Machine/Group.lean ====
section
/-!
DEFINITION. Sys2Proof/Machine/Group.lean: the redundancy group (R255 to R277): Silhar frames, roles and the group epoch,
demotion, claims, takeover and handover.
-/
namespace Sys2Proof.Machine

/-- The Silhar fields of the running image. -/
def State.grpCfg (s : State) : Option GrpCfg := s.cfg.map (·.grp)

/-- The member number: GROUP_ID. -/
def State.member (s : State) : Nat := s.get Fld.SYS_STRAP_GROUP_ID

/-- The role: 0 STANDBY, 1 COMMANDING, 2 FORMING. -/
def State.role (s : State) : Nat := s.get Fld.SLH_STAT_ROLE

/-- R255: GROUP_SIZE. -/
def State.groupSize (s : State) : Nat := match s.grpCfg with | some c => c.size | none => 0

/-- R261, Table 10-8: the group key. -/
def State.groupKey (s : State) : List Byte := match s.cfg with | some c => c.keys.group | none => []

/-- Silhar runs: the part is in a group and has reached STANDBY. -/
def State.silhar (s : State) : Bool := s.inGroup && s.grp.started

/-- Silhar state changed. -/
def State.modGrp (s : State) (f : GrpSt → GrpSt) : State := { s with grp := f s.grp }

/-! Frames (R257, Tables 10-1 to 10-4, 10-6, 10-8). -/

/-- Table 10-1: the common header, for a frame count. -/
def State.slhHeader (s : State) (typ frame : Nat) : List Byte :=
  [1, BitVec.ofNat 8 typ, BitVec.ofNat 8 s.member, BitVec.ofNat 8 s.role] ++ le32 (s.rd Reg.SLH_EPOCH) ++ leBytes 4 frame ++
    le32 (s.rd Reg.TB_NS)

/-- R257: a Silhar payload leaves on the PRP pair at priority 7. -/
def State.slhSend (s : State) (payload : List Byte) : State := match s.grpCfg with
  | some c => s.ethQueue false { pcp := 7, dest := c.mac, len := frameLen false payload.length, payload := payload }
  | none => s

/-- A CLAIM or OFFER carries its HMAC over bytes 0 to 27 (Table 10-8). -/
def State.slhSigned (s : State) (b : List Byte) : List Byte := b ++ (hmac s.groupKey b).take 16

/-- The latest frame whose emission has taken place. -/
def State.emitFrame (s : State) : Nat := if s.frame.emitted then s.frame.count else (s.frame.count + 2 ^ 32 - 1) % 2 ^ 32

/-- Whether every slot of a class is filled. -/
def State.filled (s : State) (cls : ChanClass) : Bool := (s.chansOf cls).all (fun c => c.slot.isNone)

/-- Table 10-3: FILL_FRAME. -/
def State.fillFrame (s : State) : Nat := if s.filled .frame then s.frame.count else (s.frame.count + 2 ^ 32 - 1) % 2 ^ 32

/-- Table 10-3: PLAN_PERIOD. -/
def State.planPeriod (s : State) : Nat := if s.filled .period then s.frame.period else (s.frame.period + 2 ^ 32 - 1) % 2 ^ 32

/-- HEARTBEAT_DUE (R258, Table 10-3): each member sends its heartbeat. -/
def State.heartbeatDue (s : State) : State :=
  if !s.silhar then s
  else
    let flags := s.get Fld.SLH_STAT_ISOLATED + 2 * s.get Fld.SLH_STAT_HANDOVER_PEND
    let tail := if s.commanding then
        leBytes 4 s.emitFrame ++ [2, BitVec.ofNat 8 flags, 0, 0] ++ leBytes 4 s.fillFrame ++ leBytes 4 s.planPeriod
      else List.replicate 16 0
    let s := s.slhSend (s.slhHeader 1 s.frame.count ++ le32 s.grp.hbSeq ++ leBytes 4 (s.frame.start % 2 ^ 32) ++ tail)
    s.modGrp (fun g => { g with hbSeq := g.hbSeq + 1 })

/-! Eligibility and health (R260). -/

/-- The SHA-256 of the running image. -/
def State.runSha (s : State) : List Byte := ((List.range 8).map (fun w => le32 (s.rd (Reg.IMG_RUNSHAw w)))).flatten

/-- Table 10-5: STATE_FRESH: the latest complete state frame is of frame k−1 or k−2. -/
def State.stateFresh (s : State) : Bool := match s.grp.kept with
  | some (f, _) => decide ((f + 1) % 2 ^ 32 = s.frame.count ∨ (f + 2) % 2 ^ 32 = s.frame.count)
  | none => false

/-- R264: |ALIGN_OFS| ≤ 1 µs. -/
def State.aligned (s : State) : Bool := decide (s.grp.alignOfs.natAbs ≤ 1000)

/-- R264: an Ochre test round has completed in the last 2 s. -/
def State.ochreOk (s : State) : Bool := match s.grp.testAt with
  | some t => decide (s.now ≤ t + 2000000000)
  | none => false

/-- R23: the running image is that of the commanding part's latest health report. -/
def State.imageMatch (s : State) : Bool := match s.grp.hb with
  | some h => match s.grp.members[h.member]? with
    | some m => h.member = s.member || decide (m.sha = s.runSha ∧ m.gen = s.get Fld.IMG_RUNGEN_GEN)
    | none => false
  | none => true

/-- Table 10-5 without STATE_FRESH, SYNCED and ALIGNED: what a formation claim needs (R266). -/
def State.formEligible (s : State) : Bool :=
  s.imageMatch && s.get Fld.IMG_STAT_CONFLICT = 0 && s.saf.cobalt.ok && s.saf.slate.ok && s.get Fld.TB_STAT_FAULT = 0 && s.ochreOk &&
    s.get Fld.FLT_STAT_PART_LOST = 0 && s.get Fld.TB_STAT_PTP_OK = 1

/-- R260: ELIGIBLE. -/
def State.eligible (s : State) : Bool := s.formEligible && s.aligned && s.stateFresh && !s.grp.resync

/-- SLH_STAT shows the part's eligibility. -/
def State.slhSync (s : State) : State :=
  (((s.setBit Fld.SLH_STAT_ELIGIBLE s.eligible).setBit Fld.SLH_STAT_STATE_FRESH s.stateFresh).setBit Fld.SLH_STAT_ALIGNED
    s.aligned).setBit Fld.SLH_STAT_SYNCED (!s.grp.resync)

/-- Table 10-4: TESTS. -/
def State.testsWord (s : State) : Nat :=
  flagBit s.saf.cobalt.ok 0 + flagBit s.saf.slate.ok 1 + flagBit (s.get Fld.TB_STAT_FAULT = 0) 2 + flagBit true 3 + flagBit s.ochreOk 4 +
    flagBit (s.get Fld.TB_STAT_PTP_OK = 1) 5 + flagBit s.aligned 6 + flagBit s.stateFresh 7 + flagBit (!s.grp.resync) 8 +
    flagBit s.eligible 9 + flagBit (s.get Fld.IMG_STAT_CONFLICT = 1) 10 + flagBit (s.get Fld.FLT_STAT_PART_LOST = 1) 11 +
    flagBit s.grp.resync 12

/-- HEALTH_TX (R260, Table 10-4). -/
def State.healthTx (s : State) : State :=
  if !s.silhar then s
  else
    let s := s.slhSync
    let cover := flagBit (s.get Fld.FLT_STAT_COVER = 1) 0 + flagBit (s.get Fld.FLT_STAT_REGION_BOUND = 1) 1
    s.slhSend (s.slhHeader 3 s.frame.count ++ s.runSha ++ le32 (s.rd Reg.IMG_RUNGEN) ++ leBytes 2 s.testsWord ++
      leBytes 2 (s.get Fld.FLT_SPARE_SPARES_LEFT) ++ leBytes 2 (s.get Fld.FLT_STAT_FENCED) ++ [BitVec.ofNat 8 cover, 0] ++
      i32 s.grp.alignOfs ++ leBytes 4 (match s.grp.kept with | some (f, _) => f | none => 0) ++ le32 s.grp.testRounds)

/-- A member as this part knows it. -/
def State.memberSt (s : State) (m : Nat) : MemberSt := s.grp.members.getD m {}

/-- What is known of a member changed. -/
def State.modMember (s : State) (m : Nat) (f : MemberSt → MemberSt) : State :=
  s.modGrp (fun g => { g with members := g.members.modify m f })

/-- R260: a member's latest health report is no older than two frames and shows ELIGIBLE. -/
def State.memberEligible (s : State) (m : Nat) : Bool :=
  let x := s.memberSt m
  match x.healthAt with
  | some t => decide (s.now ≤ t + 2 * s.frameNs) && decide (x.tests / 2 ^ 9 % 2 = 1)
  | none => false

/-- R274: a member's latest health report shows ELIGIBLE. -/
def State.showsEligible (s : State) (m : Nat) : Bool :=
  let x := s.memberSt m
  x.healthAt.isSome && decide (x.tests / 2 ^ 9 % 2 = 1)

/-- Table 10-16: SLH_MEMm as it reads: SEEN and AGE follow the time base. -/
def State.slhMemReg (s : State) (m : Nat) : Word :=
  let x := s.memberSt m
  let seen := match x.hbAt with | some t => decide (s.now ≤ t + 400000) | none => false
  let age := match x.healthAt with | some t => min 0xFFF ((s.now - t) / 1000000) | none => 0xFFF
  BitVec.ofNat 32 (flagBit seen 0 + flagBit (decide (x.tests / 2 ^ 9 % 2 = 1)) 1 + x.role * 4 + age * 16 + x.tests * 2 ^ 16)

/-! Demotion (R267). -/

/-- Table 19-3: DATA of group events. -/
def State.grpData (s : State) (old new : Word) : List Byte := le32 (s.rd Reg.SLH_STAT) ++ le32 old ++ le32 new

/-- R453: commands that wait end when the part no longer commands. -/
def State.ctlFlush (s : State) : State :=
  let c := s.ctl
  let s := s.each c.modeReq (fun x s => (s.modeStat x.1 18).resultOpt x.2 18 [])
  let s := s.each c.spReq (fun x s => s.resultOpt x.req 2 [])
  let fail := fun (q : Option ReqRef) (s : State) => s.resultOpt q 1 [6]
  let s := s.each (c.tgtOffReq.map (·.2) ++ c.swapReq ++ c.originReq.map (·.2) ++ c.calReq.map (·.2) ++ c.freezeReq.map (·.2) ++
    c.compReq.map (·.2)) fail
  s.modCtl (fun c => { c with modeReq := [], spReq := [], tgtOffReq := [], swapReq := [], originReq := [], calReq := []
                              freezeReq := [], compReq := [], periodOn := false, planNew := none, planDue := none })

/-- R267: the part demotes itself: group-wide channels stop with no markers, ROLE outputs go off, loops open, voltage outputs
go to their safe values, and it becomes STANDBY.  After a handover its own last state is complete (R274). -/
def State.demote (s : State) (new : Word) (resync : Bool) : State :=
  let old := s.rd Reg.SLH_EPOCH
  let s : State := { s with chans := s.chans.map (fun c => if c.cls = .umber then c else { c with slot := none, staged := none }) }
  let s := ((s.roleOutputs false).standbyLoops.aoutSafe).canRole false
  let s := (s.set Fld.SLH_STAT_ROLE 0).set Fld.SLH_STAT_ISOLATED 0
  let s := (s.set Fld.SLH_STAT_HANDOVER_PEND 0).count Fld.SLH_CNT0_DEMOTIONS
  let s := s.ctlFlush.dropTasks
  let s : State := { s with slv := s.slv.map (fun x => (x.1, { x.2 with solving := false })) }
  let s := s.modGrp (fun g => { g with resync := resync || g.resync, offer := none, lost := none, seam := none, ops := [], snapshot := [] })
  (s.raise 0x3002 0 (s.grpData old new)).slhSync

/-- R265: H is raised to an epoch seen. -/
def State.raiseH (s : State) (g : Word) : State :=
  if (s.rd Reg.SLH_AEPOCH).toNat < g.toNat then s.wr Reg.SLH_AEPOCH g else s

/-- R265, R269: a frame shows a group epoch: H is raised to it, and a loss being waited out ends at a higher one. -/
def State.noteEpoch (s : State) (g : Word) : State :=
  let s := match s.grp.lost with
    | some (_, e) => if e.toNat < g.toNat then s.modGrp (fun x => { x with lost := none }) else s
    | none => s
  s.raiseH g

/-- R267: a heartbeat, CLAIM or STATE frame with a higher epoch: a commanding part demotes; every part raises H. -/
def State.seeEpoch (s : State) (g : Word) : State :=
  let s := if s.commanding ∧ (s.rd Reg.SLH_EPOCH).toNat < g.toNat then s.demote g true else s
  s.noteEpoch g

/-! Claims (R265, R266, R270). -/

/-- R265: the epoch of a claim. -/
def State.claimEpoch (s : State) : Word :=
  BitVec.ofNat 32 (((s.rd Reg.SLH_AEPOCH).toNat / 4 + 1) * 4 + s.member)

/-- Table 10-8: a CLAIM. -/
def State.claimSend (s : State) (prev : Word) (cause frame : Nat) : State :=
  if s.inGroup then
    s.slhSend (s.slhSigned (s.slhHeader 4 s.frame.count ++ le32 prev ++ [BitVec.ofNat 8 cause, 0, 0, 0] ++ leBytes 4 frame))
  else s

/-- R172, Table 10-10: every solver instance starts PRIMAL_WARM, and none runs before its first refresh. -/
def State.slvPrimal (s : State) : State :=
  s.each (List.range 50) (fun k s => s.modInst k (fun _ => { primal := true, cold := false, need := true }))

/-- The claim itself: the epoch, the role and what follows the role. -/
def State.claim (s : State) (cause : Nat) : State :=
  let prev := s.rd Reg.SLH_EPOCH
  let new := s.claimEpoch
  let kept := match s.grp.kept with | some (f, _) => f | none => 0
  let s := ((s.wr Reg.SLH_AEPOCH new).wr Reg.SLH_EPOCH new).set Fld.SLH_STAT_ROLE 1
  let s := s.modGrp (fun g => { g with opSeq := 0, ops := [], snapshot := [], resync := false, snapApplied := false, lost := none
                                       called := none, offer := none, frags := none })
  let s := s.claimSend prev cause (if cause = 0 then 0 else kept)
  let s := if cause = 1 then s.count Fld.SLH_CNT0_TAKEOVERS else s
  let s := (s.roleOutputs true).canRole true
  (s.cqReset.autoCloseAll).dropTasks.slhSync

/-- R266: every function starts as after reset: fusion, control in STANDBY, allocation, and every solver instance COLD; the
inputs that a standby part keeps running (R264) keep what they hold. -/
def State.functionsFresh (s : State) : State :=
  let s := s.fusionReinit
  let s : State := { s with fus := { s.fus with origin := none, originGen := 0, epoch := none } }
  let s := (s.set Fld.CTL_MODESTAT_MODE 0).swapOverlay s.mode 0
  let c := s.ctl
  let s : State := { s with ctl := {
    pms := c.pms, pmsLost := c.pmsLost, joy := c.joy, joyAt := c.joyAt, levers := c.levers, levAt := c.levAt, tgtLost := c.tgtLost
    compFlag := c.compFlag } }
  let s := (s.each (List.range 50) (fun k s => s.slvCold k)).thrInit
  { s with alc := { s.alc with published := false, stale := false, record := [], sent1 := [], sent2 := [] } }

/-- R266: a formation claim carries no state. -/
def State.claimForm (s : State) : State := (s.functionsFresh.claim 0).modGrp (fun g => { g with seam := some s.frame.count })

/-- R270, Table 10-9: a standby takes over: the claim, the state frame, the seam; after the frame's emission time the loops' set-points
follow the held commands at once (R271). -/
def State.takeOver (s : State) : State := match s.grp.hb with
  | none => s
  | some h =>
    let s := s.claim 1
    let s := match s.grp.kept with
      | some (f, d, kp) => ((s.adoptState d).slvPrimal).seamFill h f kp d
      | none => s
    let s := if s.frame.emitted then s.loopEmit else s
    s.modGrp (fun g => { g with seam := some s.frame.count })

/-- R274: at the handover frame the target claims, from the state frame of the frame before; no seam arises. -/
def State.handoverClaim (s : State) : State :=
  let s := s.claim 2
  match s.grp.kept with
  | some (_, d, _) => ((s.adoptState d).slvPrimal).seqAdopt d
  | none => s

/-- R255, R256, R266: Silhar starts when start-up reaches STANDBY; a stand-alone part takes the role itself. -/
def State.groupStart (s : State) : State :=
  let s := s.modGrp (fun g => { g with started := true })
  if !s.inGroup then (if s.get Fld.FLT_STAT_PART_LOST = 1 then s.set Fld.SLH_STAT_ROLE 0 else s.claimForm)
  else if s.groupSize ≤ s.member then s.raise 0x3005 0 (s.grpData 0 0)
  else s

/-- R266: a lower-numbered member that has been heard, does not command, and satisfies the conditions of a formation claim. -/
def State.lowerForming (s : State) : Bool :=
  (List.range s.member).any fun m =>
    let x := s.memberSt m
    x.hbAt.isSome && x.healthAt.isSome && x.role ≠ 1 && x.tests % 64 = 63 && x.tests / 2 ^ 10 % 4 = 0

/-- FORM_WAIT_EXPIRED (R266). -/
def State.formWaitExpired (s : State) : State :=
  if s.silhar ∧ ¬ s.commanding ∧ s.member < s.groupSize ∧ s.formEligible ∧ ¬ s.lowerForming then s.claimForm else s

/-! Takeover (R269). -/

/-- R269: the part's rank among the eligible members other than the lost one. -/
def State.rank (s : State) (lost : Nat) : Nat :=
  ((List.range s.member).filter (fun m => decide (m ≠ lost) && s.memberEligible m)).length

/-- TAKEOVER_TIMEOUT (R269): the loss is declared; rank 0 claims at once, rank 1 waits. -/
def State.takeoverTimeout (s : State) : State := match s.grp.hb with
  | none => s
  | some h =>
    if !s.silhar ∨ s.role ≠ 0 ∨ s.grp.lost.isSome ∨ h.epoch ≠ s.rd Reg.SLH_EPOCH then s
    else
      let s := s.raise 0x3001 0 (s.grpData h.epoch s.claimEpoch)
      let s := s.modGrp (fun g => { g with lost := some (h.member, h.epoch) })
      if s.eligible ∧ s.rank h.member = 0 then s.takeOver else s

/-- RANK_WAIT_EXPIRED (R269): rank 1 claims if no frame of a higher epoch has come. -/
def State.rankWaitExpired (s : State) : State := match s.grp.lost with
  | none => s
  | some (m, _) => if s.role = 0 ∧ s.eligible ∧ s.rank m = 1 then s.takeOver else s

/-- GROUP_ISOLATED (R268). -/
def State.groupIsolated (s : State) : State :=
  if s.silhar ∧ s.commanding ∧ 2 ≤ s.groupSize ∧ s.get Fld.SLH_STAT_ISOLATED = 0 then
    let s := s.set Fld.SLH_STAT_ISOLATED 1
    s.raise 0x3003 0 (s.grpData (s.rd Reg.SLH_EPOCH) (s.rd Reg.SLH_EPOCH))
  else s

/-! Received frames. -/

/-- R257: a Silhar payload of a type and least length, from another member; a bad one is counted. -/
def State.slhRx (s : State) (typ len : Nat) (b : List Byte) (f : State → State) : State :=
  if !s.silhar then s
  else if b.length < len ∨ fld b 0 1 ≠ 1 ∨ fld b 1 1 ≠ typ ∨ s.groupSize ≤ fld b 2 1 ∨ 3 ≤ fld b 2 1 ∨ fld b 2 1 = s.member ∨ 2 < fld b 3 1 then
    s.count Fld.SLH_CNT1_BAD_FRAME
  else f s

/-- R264: the difference of two frame starts in low words, on the shorter arc of a frame. -/
def alignDiff (own : Nat) (frameT : Word) (frame : Nat) : Int :=
  let d := (BitVec.ofNat 32 own - frameT).toInt
  if frame = 0 then d else (arcDiff frame d).num

/-- R264, R269: a heartbeat of the commanding part of the present epoch: the frame count is adopted and the alignment measured. -/
def State.followBeat (s : State) (b : List Byte) (m : Nat) (g : Word) : State :=
  let late := match s.grp.hb with
    | some h => decide (h.epoch = g ∧ h.at_ + 10000 < s.now)
    | none => false
  let s := if late then s.count Fld.SLH_CNT1_HB_LATE else s
  let fresh := decide (s.rd Reg.SLH_EPOCH ≠ g)
  let s := s.wr Reg.SLH_EPOCH g
  let ofs := alignDiff s.frame.start (BitVec.ofNat 32 (fld b 20 4)) s.frameNs
  let h : HbInfo := { member := m, epoch := g, at_ := s.now, frame := fld b 8 4, frameT := BitVec.ofNat 32 (fld b 20 4)
                      emitFrame := fld b 24 4, emitState := fld b 28 1, fillFrame := fld b 32 4, planPeriod := fld b 36 4
                      handover := fld b 29 1 / 2 % 2 = 1 }
  let s := s.modGrp (fun x => { x with hb := some h, lost := none, alignOfs := ofs, applied := if fresh then 0 else x.applied })
  let s : State := { s with frame := { s.frame with count := h.frame } }
  (if s.aligned then s else s.wr Reg.TB_ALIGN (ofInt32 (-ofs))).slhSync

/-- HEARTBEAT_RX (R266 to R269). -/
def State.heartbeatRx (s : State) (b : List Byte) : State :=
  s.slhRx 1 40 b fun s =>
    let m := fld b 2 1
    let r := fld b 3 1
    let g := BitVec.ofNat 32 (fld b 4 4)
    let s := s.modMember m (fun x => { x with hbAt := some s.now, role := r })
    let s := s.set Fld.SLH_STAT_ISOLATED 0
    let s := s.seeEpoch g
    if r ≠ 1 then s
    else if s.commanding then
      if g.toNat < (s.rd Reg.SLH_EPOCH).toNat then
        (s.count Fld.SLH_CNT1_STALE_RX).claimSend (s.rd Reg.SLH_EPOCH) 3 (s.frame.count)
      else s
    else
      let s := if s.role = 2 then (s.set Fld.SLH_STAT_ROLE 0).modGrp (fun x => { x with resync := true, snapApplied := false }) else s
      if g.toNat < (s.rd Reg.SLH_EPOCH).toNat then s else s.followBeat b m g

/-- HEALTH_RX (R260); a commanding part answers RESYNC_REQ with a snapshot (R263). -/
def State.healthRx (s : State) (b : List Byte) : State :=
  s.slhRx 3 72 b fun s =>
    let m := fld b 2 1
    let t := fld b 52 2
    let s := s.noteEpoch (BitVec.ofNat 32 (fld b 4 4))
    let s := s.modMember m (fun x => { x with healthAt := some s.now, tests := t, sha := (b.drop 16).take 32, gen := fld b 48 4 })
    let s := if s.commanding ∧ t / 2 ^ 12 % 2 = 1 then s.snapshotStart else s
    s.slhSync

/-- Whether a CLAIM or OFFER carries the right HMAC. -/
def State.slhAuth (s : State) (b : List Byte) : Bool := (b.drop 28).take 16 = (hmac s.groupKey (b.take 28)).take 16

/-- CLAIM_RX (R267, R269). -/
def State.claimRx (s : State) (b : List Byte) : State :=
  s.slhRx 4 44 b fun s =>
    if !s.slhAuth b then s.count Fld.SLH_CNT0_AUTH_FAIL
    else
      let g := BitVec.ofNat 32 (fld b 4 4)
      let s := s.seeEpoch g
      if ¬ s.commanding ∧ (s.rd Reg.SLH_EPOCH).toNat < g.toNat then (s.wr Reg.SLH_EPOCH g).modGrp (fun x => { x with applied := 0 }) else s

/-- OFFER_RX (R274): the target claims at the handover frame. -/
def State.offerRx (s : State) (b : List Byte) : State :=
  s.slhRx 5 44 b fun s =>
    if !s.slhAuth b then s.count Fld.SLH_CNT0_AUTH_FAIL
    else if s.role = 0 ∧ fld b 16 1 = s.member ∧ BitVec.ofNat 32 (fld b 4 4) = s.rd Reg.SLH_EPOCH then
      s.modGrp (fun x => { x with called := some (fld b 24 4) })
    else s

/-- R261: the fragments of a frame joined, or none while one is missing. -/
def joinParts (parts : List (Nat × List Byte)) : Nat → Option (List Byte)
  | 0 => some []
  | n + 1 => match joinParts parts n, parts.find? (fun x => decide (x.1 = n)) with
    | some a, some x => some (a ++ x.2)
    | _, _ => none

/-- R261: the state frame is complete: kept and its operations applied, or discarded. -/
def State.stateComplete (s : State) (r : StateRx) (d : List Byte) : State :=
  let s := s.modGrp (fun x => { x with frags := none })
  if r.mac = (hmac s.groupKey d).take 16 then
    let kp := match s.grp.hb with | some h => h.planPeriod | none => 0
    let s := (s.modGrp (fun x => { x with kept := some (r.frame, d, kp) })).wr Reg.SLH_STATEF (BitVec.ofNat 32 r.frame)
    (s.opsApply ((blockData (blocksOf 16 d) 8).getD [])).slhSync
  else s.count Fld.SLH_CNT0_STATE_BAD

/-- STATE_FRAGMENT_RX (R261): a fragment of the commanding part of the present epoch. -/
def State.fragmentRx (s : State) (b : List Byte) : State :=
  let idx := fld b 16 1
  let cnt := fld b 17 1
  let len := fld b 18 2
  let last := decide (idx + 1 = cnt)
  s.slhRx 2 (24 + len + (if last then 16 else 0)) b fun s =>
    if cnt = 0 ∨ 64 < cnt ∨ cnt ≤ idx ∨ len = 0 ∨ 448 < len then s.count Fld.SLH_CNT1_BAD_FRAME
    else
      let g := BitVec.ofNat 32 (fld b 4 4)
      let s := s.seeEpoch g
      if s.role ≠ 0 ∨ g ≠ s.rd Reg.SLH_EPOCH then s
      else
        let f := fld b 8 4
        let (s, r) := match s.grp.frags with
          | some r => if r.frame = f ∧ r.cnt = cnt then (s, r) else (s.count Fld.SLH_CNT0_STATE_BAD, { frame := f, cnt := cnt, parts := [], mac := [] })
          | none => (s, { frame := f, cnt := cnt, parts := [], mac := [] })
        let parts := r.parts.filter (fun x => decide (x.1 ≠ idx)) ++ [(idx, (b.drop 24).take len)]
        let r : StateRx := { r with parts := parts, mac := if last then (b.drop (24 + len)).take 16 else r.mac }
        match joinParts r.parts cnt with
        | some d => s.stateComplete r d
        | none => s.modGrp (fun x => { x with frags := some r })

/-! The commanding part's state frame (R261). -/

/-- R261, R344: data cut into fragments of at most 448 bytes, the last of at most 432. -/
def fragmentsOf : Nat → List Byte → List (List Byte)
  | 0, _ => []
  | n + 1, b =>
    let k := if b.length ≤ 448 then 432 else 448
    if b.length ≤ 432 then [b] else b.take k :: fragmentsOf n (b.drop k)

/-- STATE_FRAME_TX (R261): after the emission the commanding part sends the frame's state. -/
def State.stateTx (s : State) : State :=
  if !s.silhar ∨ !s.commanding then s
  else
    let s := s.opsFrame
    let d := s.stateData
    let fs := fragmentsOf 64 d
    let mac := (hmac s.groupKey d).take 16
    let s := s.each fs.zipIdx (fun (x, i) s =>
      s.slhSend (s.slhHeader 2 s.frame.count ++ [BitVec.ofNat 8 i, BitVec.ofNat 8 fs.length] ++ leBytes 2 x.length ++ [0, 0, 0, 0] ++ x ++
        (if i + 1 = fs.length then mac else [])))
    s.modGrp (fun g => { g with kept := some (s.frame.count, d, s.planPeriod) })

/-! Handover (R274). -/

/-- R274: the handover frame: the first period start at least three frames after the present frame. -/
def State.handoverFrame (s : State) : Nat :=
  let n := s.framesPerPeriod
  (s.frame.count + 3 + n - 1) / n * n

/-- SLH_HANDOVER (R274). -/
def State.handover (s : State) (target : Nat) : State :=
  if ¬ s.commanding ∨ ¬ s.silhar ∨ s.grp.offer.isSome ∨ target = s.member ∨ ¬ s.showsEligible target then
    (s.set Fld.SLH_STAT_HANDOVER_REFUSED 1).refuse 9 1 Reg.SLH_CMD
  else
    let h := s.handoverFrame
    let s := (s.modGrp (fun g => { g with offer := some (target, h) })).set Fld.SLH_STAT_HANDOVER_PEND 1
    s.slhSend (s.slhSigned (s.slhHeader 5 s.frame.count ++ [BitVec.ofNat 8 target, 0, 0, 0] ++ [0, 0, 0, 0] ++ leBytes 4 h))

/-- HANDOVER_START (R274) at a frame start: the offering part demotes and restarts its timer; the target claims, unless its image
differs from the commanding part's (R23). -/
def State.handoverStart (s : State) : State :=
  let s := match s.grp.offer with
    | some (t, h) =>
      if s.frame.count = h then
        let e := s.rd Reg.SLH_EPOCH
        let s := s.demote e false
        s.modGrp (fun g => { g with hb := some { member := t, epoch := e, at_ := s.now, frame := h, frameT := 0, emitFrame := (h + 2 ^ 32 - 1) % 2 ^ 32
                                                 emitState := 2, fillFrame := (h + 2 ^ 32 - 1) % 2 ^ 32, planPeriod := (h / s.framesPerPeriod + 2 ^ 32 - 1) % 2 ^ 32
                                                 handover := false } })
      else s
    | none => s
  match s.grp.called with
  | some h => if s.frame.count = h ∧ s.role = 0 ∧ s.imageMatch then s.handoverClaim else s
  | none => s

/-- STANDBY_OVERLAY_APPLY (R264): at a frame start a standby applies the overlay of the mode in the latest state frame. -/
def State.standbyMode (s : State) : State :=
  if s.role ≠ 0 then s
  else match s.grp.kept with
    | some (_, d, _) => match stateMode d with
      | some m =>
        if m = s.mode ∨ 11 < m then s
        else ((s.set Fld.CTL_MODESTAT_MODE m).countWrap Fld.CTL_MODESTAT_CHG_CNT).swapOverlay (s.mode) m
      | none => s
    | none => s

/-- FRAME_TRIGGER_ALIGN (R264, R368): on a standby the pending correction moves the frame trigger. -/
def State.triggerAlign (s : State) : State :=
  if s.role = 0 ∧ s.rd Reg.TB_ALIGN ≠ 0 then
    let t := (s.rd (Reg.TB_TRIGm_TIME 0)) + s.rd Reg.TB_ALIGN
    (s.wr (Reg.TB_TRIGm_TIME 0) t).wr Reg.TB_ALIGN 0
  else s

/-! The commands. -/

/-- HEARTBEAT_DUE (R258). -/
def execHeartbeatDue (s : State) : Host.Outcome State Fault Refusal := .next (s.running State.heartbeatDue)
/-- HEARTBEAT_RX (R269). -/
def execHeartbeatRx (payload : List Byte) (s : State) : Host.Outcome State Fault Refusal :=
  .next (s.running (fun s => s.heartbeatRx payload))
/-- STATE_FRAGMENT_RX (R261). -/
def execStateFragmentRx (payload : List Byte) (s : State) : Host.Outcome State Fault Refusal :=
  .next (s.running (fun s => s.fragmentRx payload))
/-- HEALTH_RX (R260). -/
def execHealthRx (payload : List Byte) (s : State) : Host.Outcome State Fault Refusal := .next (s.running (fun s => s.healthRx payload))
/-- CLAIM_RX (R267). -/
def execClaimRx (payload : List Byte) (s : State) : Host.Outcome State Fault Refusal := .next (s.running (fun s => s.claimRx payload))
/-- OFFER_RX (R274). -/
def execOfferRx (payload : List Byte) (s : State) : Host.Outcome State Fault Refusal := .next (s.running (fun s => s.offerRx payload))
/-- TAKEOVER_TIMEOUT (R269, R270). -/
def execTakeoverTimeout (s : State) : Host.Outcome State Fault Refusal := .next (s.running State.takeoverTimeout)
/-- RANK_WAIT_EXPIRED (R269). -/
def execRankWaitExpired (s : State) : Host.Outcome State Fault Refusal := .next (s.running State.rankWaitExpired)
/-- FORM_WAIT_EXPIRED (R266). -/
def execFormWaitExpired (s : State) : Host.Outcome State Fault Refusal := .next (s.running State.formWaitExpired)
/-- GROUP_ISOLATED (R268). -/
def execGroupIsolated (s : State) : Host.Outcome State Fault Refusal := .next (s.running State.groupIsolated)
/-- SLH_CMD.HANDOVER (R274). -/
def execSlhHandover (target : Fin 4) (s : State) : Host.Outcome State Fault Refusal := .next (s.running (fun s => s.handover target))
/-- SLH_CMD.CNT_CLR (R277). -/
def execSlhCntClr (s : State) : Host.Outcome State Fault Refusal :=
  .next (s.running (fun s => (s.wr Reg.SLH_CNT0 0).wr Reg.SLH_CNT1 0))
/-- FORMING_HEALTH_DUE (R260): while FORMING. -/
def execFormingHealthDue (s : State) : Host.Outcome State Fault Refusal :=
  .next (s.running (fun s => if s.role = 2 then s.healthTx else s))

end Sys2Proof.Machine
end

