-- ==== Sys2Proof/Machine/Faults.lean ====
section
/-!
DEFINITION. Sys2Proof/Machine/Faults.lean: the faults of Table 9-1 and what absorbs them (R9 to R21, R42 to R48, R228 to R242), spares
and their wake test (R230), wait aborts (R59, R60), and the completion of an operation (R62).
-/
namespace Sys2Proof.Machine

/-! Moves. -/

/-- An instance in flight on a unit. -/
def inFlight (x : TaskInst) : Bool := match x.phase with
  | .copying | .loading | .running => true
  | .waiting | .ready | .rerun | .wake => false

/-- The first task in flight that a fault strikes, and its instance number. -/
def State.struck (s : State) (p : TaskInst → Bool) : Option Nat × Nat := match s.fab.insts.find? (fun x => inFlight x && p x) with
  | some x => (some x.task, x.number)
  | none => (none, 0)

/-- R12, R236: every task whose placement can no longer run it moves, and the instances in flight there re-run; their open slots
take a reason of Table 9-6. -/
def State.evict (s : State) (reason : Nat) : State :=
  let stuck := fun (s : State) (q t : Nat) => match s.taskDef t with | some d => !s.canRun q d | none => false
  let lost := s.fab.insts.filter (fun x =>
    (inFlight x || decide (x.phase = .wake) || decide (x.phase = .rerun)) && stuck s x.cluster x.task)
  let s := s.each lost fun x s =>
    ((s.freeOf x).modTask x.task x.number (fun x => { x with phase := .rerun })).slotReason x.task reason x.reruns
  let s := s.each (s.tasks.filter (fun d => match s.placeOf (tdTask d) with | some q => !s.canRun q d | none => false))
    (fun d s => s.relocate d)
  s.each lost fun x s => match s.taskDef x.task, s.instOf x.task x.number with
    | some d, some y => if y.phase = .rerun then s.redispatch d y else s
    | _, _ => s

/-- An instance runs an EMIT. -/
def State.emits (s : State) (x : TaskInst) : Bool := match (s.taskDef x.task).bind (fun d => d.ops[x.op]?) with
  | some e => decide (x.phase = .running ∧ opCode e = 0x16)
  | none => false

/-- R229: an EMIT in progress whose output the egress had not accepted whole is discarded and counted. -/
def State.discardPartial (s : State) (x : TaskInst) : State :=
  if s.emits x then s.count (Fld.RGN_EGRDUP_PARTIAL_DISC (x.cluster / 4)) else s

/-! Units and spares. -/

/-- R10: a unit is fenced: power-gated, masked at every arbiter, and never used again until a device reset. -/
def State.fence (s : State) (q u : Nat) : State :=
  ((s.setUnit q u 3).set Fld.FLT_STAT_FENCED (s.get Fld.FLT_STAT_FENCED + 1)).maskBanks q u

/-- R229, R235: the instance in flight on a fenced unit re-runs, or is abandoned at its third unit fault; a test task's run is
over (R264). -/
def State.lostRun (s : State) (x : TaskInst) : State := match s.taskDef x.task with
  | none => s
  | some d =>
    if d.test then s.dropInst x
    else if 2 ≤ x.reruns then (s.raise 0x2809 0 (s.faultData x.number)).abandonInst d x 2
    else
      let y := { x with reruns := x.reruns + 1 }
      let s := ((s.modTask x.task x.number (fun _ => y)).count Fld.FLT_RERUN_RERUNS).slotReason x.task 1 y.reruns
      s.redispatch d y

/-- UNIT_FENCED (R9, R229): a unit fault. -/
def State.unitFault (s : State) (q u cause : Nat) : State :=
  if s.isolated (q / 4) ∨ 2 ≤ s.unitState q u then s
  else
    let x := (s.instOn q u).filter inFlight
    let s := (s.fence q u).faultRecord 1 (q * 8 + u) (x.map (·.task)) cause
    let s := s.raise 0x2801 0 (s.faultData (match x with | some x => x.number | none => 0))
    let s : State := match x with | some x => (s.discardPartial x).lostRun x | none => s
    if (List.range 8).all (fun u => decide (s.unitState q u = 3)) then s.evict 1 else s

/-- SPARE_WAKE_DONE (R230, R231): a called spare becomes an active unit and takes the pip, or is fenced and the next option of
R13 is taken. -/
def State.spareWakeDone (s : State) (q u : Nat) (pass : Bool) : State :=
  match (s.instOn q u).filter (fun x => decide (x.phase = .wake)) with
  | none => s
  | some x =>
    if s.isolated (q / 4) ∨ s.unitState q u ≠ 2 then s
    else if pass then
      let s := s.unmaskBanks q u
      match s.taskDef x.task with
      | some d => s.startRerun d x q u
      | none => s.setUnit q u 0
    else
      let s := ((s.fence q u).count Fld.FLT_SPARE_WAKE_FAIL).count (Fld.CLU_RERUN_WAKE_FAIL q)
      let s := s.faultRecord 2 (q * 8 + u) (some x.task) 2
      let s := s.raise 0x2802 0 (s.faultData x.number)
      let s : State := match s.taskDef x.task with | some d => s.redispatch d x | none => s
      if (List.range 8).all (fun u => decide (s.unitState q u = 3)) then s.evict 1 else s

/-! Banks and clusters. -/

/-- BANK_RETIRED (R48): a bank is retired until device reset, and the tasks that use it move. -/
def State.retireBank (s : State) (q b cause : Nat) : State :=
  let w := s.get (Fld.CLU_UNITSTAT_RETIRED q)
  if s.isolated (q / 4) ∨ w.testBit b then s
  else
    let uses := fun (x : TaskInst) => decide (x.cluster = q) &&
      (match s.taskDef x.task with | some d => d.banks.getLsbD b | none => false)
    let x := s.struck uses
    let s := ((s.set (Fld.CLU_UNITSTAT_RETIRED q) (w + 2 ^ b)).count Fld.FLT_SPARE_BANKS_RETIRED).faultRecord 3 (q * 8) x.1 cause
    (s.raise 0x2803 0 (s.faultData x.2)).evict 1

/-! Regions and dies. -/

/-- R54, R239: a region is isolated: its bridge is masked, its partial outputs are discarded, its windows answer with the
values that stood (R487). -/
def State.isolate (s : State) (g : Nat) : State :=
  let s := s.each (List.range 4) (fun c s => s.maskBanks (4 * g + c) 9)
  let s := s.arbMask (.egress (Fin.ofNat 8 g)) 4
  let s := s.each (s.fab.insts.filter (fun x => decide (x.cluster / 4 = g))) (fun x s => s.discardPartial x)
  (s.set (Fld.RGN_PLACE_ISOLATED g) 1).set (Fld.RGN_PLACE_MOVED_OUT g) 1

/-- R239: FLT_STAT shows the region moved, and each region that holds alternate placements for it has its ALT_IN bit. -/
def State.altIn (s : State) (g v : Nat) : State :=
  let s := s.set ⟨Reg.FLT_STAT, 15 + g, 1⟩ v
  s.each ((s.tasks.filter (fun d => decide (tdHome d / 4 = g))).map (fun d => tdAlt d / 4)) fun h s =>
    if s.isolated h then s else s.set ⟨Reg.RGN_PLACE h, g % 4, 1⟩ v

/-- R173, R239: an isolated region's tasks run at their alternates, and its solver instances start COLD. -/
def State.moveRegion (s : State) (g : Nat) : State :=
  let s := (s.altIn g 1).evict 4
  s.each (match s.cfg with | some c => c.region.solvers.filter (fun x => decide (x.1 = g)) | none => []) (fun x s => s.slvCold x.2)

/-- R241: a thruster channel takes its safe value at once: a staged command is replaced, an open slot filled; where the
frame's slot has already left, the safe value takes a slot of its own. -/
def State.safeOut (s : State) (i : Nat) (b : List Byte) : State := match s.chan 5 i with
  | none => s
  | some c =>
    if c.state ≠ .live then s
    else match c.staged with
      | some x => s.modChan 5 i (fun c => { c with staged := some { x with payload := b } })
      | none => s.fillSlot { c with slot := some s.frame.count } s.frame.count (crc16 b) b

/-- R241: the part gives up the commanding role without a claim; its loops stay as they are, on the safe set-points. -/
def State.giveUpRole (s : State) : State :=
  let s := s.each (s.chans.filter (fun c => decide (c.cls ≠ .umber)))
    (fun c s => match c.slot with | some f => s.sendMarker c f 9 0 | none => s)
  let s := (((s.roleOutputs false).aoutSafe).canRole false).set Fld.SLH_STAT_ROLE 0
  let s := s.ctlFlush.dropTasks
  (s.modGrp (fun g => { g with offer := none, lost := none, seam := none, ops := [], snapshot := [] })).slhSync

/-- PART_LOST (R241): with NOT_COVERED the part goes to its safe values, gives up the role and stops its task-fed channels. -/
def State.partLost (s : State) : State :=
  let s := s.set Fld.FLT_STAT_PART_LOST 1
  let s := s.raise 0x2808 0 (s.faultData 0)
  if !s.commanding then s.dropTasks
  else
    let s := s.each (List.range s.thrCount) (fun i s => match s.thrCfg i with | some c => s.safeThr i c | none => s)
    let s := s.each (s.elements false).zipIdx (fun (b, i) s => s.safeOut i b)
    let s := s.each (List.range 64) (fun n s => match s.loopCfg n with
      | some c => if (s.loop n).src.toNat % 8 = 1 then s.modLoop n (fun x => { x with alloc := some c.safe }) else s
      | none => s)
    s.releaseTimed.giveUpRole

/-- DIE_LOST (R241): an Ochre die is lost: with COVERED each of its regions moves at once; else the part is lost. -/
def State.dieLoss (s : State) (d cause : Nat) : State :=
  if s.get ⟨Reg.FLT_STAT, 23 + d, 1⟩ = 1 then s
  else
    let x := s.struck (fun x => decide (x.cluster / 16 = d))
    let s := (s.set ⟨Reg.FLT_STAT, 23 + d, 1⟩ 1).faultRecord 7 (d * 128) x.1 cause
    let gs := ((List.range 4).map (fun r => 4 * d + r)).filter (fun g => !s.isolated g)
    if s.get Fld.FLT_STAT_COVER = 1 then
      let s := s.raise 0x2807 0 (s.faultData x.2)
      let s := s.each gs (fun g s => s.isolate g)
      s.each gs (fun g s => s.moveRegion g)
    else (s.each gs (fun g s => s.isolate g)).partLost

/-- REGION_FAULT (R18, R239): the fault manager isolates the region and moves its tasks; a die whose four regions are faulted
is lost (R241). -/
def State.regionFault (s : State) (g cause : Nat) : State :=
  if s.isolated g then s
  else
    let x := s.struck (fun x => decide (x.cluster / 4 = g))
    let s := s.faultRecord 5 (g * 32) x.1 cause
    let s := (s.raise 0x2805 0 (s.faultData x.2)).isolate g
    let s := s.moveRegion g
    if (List.range 4).all (fun r => s.isolated (g / 4 * 4 + r)) then s.dieLoss (g / 4) cause else s

/-- R13, R18: a task of the region that runs in cluster q has no cluster of the region that can run it now. -/
def State.unabsorbed (s : State) (q : Nat) : Bool :=
  s.tasks.any fun d => decide (s.placeOf (tdTask d) = some q ∧ tdHome d / 4 = q / 4) &&
    !(tdHome d :: (tdSib d).toList).any (fun p => s.canRun p d)

/-- CLUSTER_FAULT (Table 2-2, R18, R48, R54): the cluster takes no further tasks; its pip mover is masked at every bank port.  Where
a task of the region has no sibling to go to, the fault is a region fault too (log entry 74). -/
def State.clusterFault (s : State) (q cause : Nat) : State :=
  if s.isolated (q / 4) ∨ s.get (Fld.CLU_UNITSTAT_FAULTED q) = 1 then s
  else
    let x := s.struck (fun x => decide (x.cluster = q))
    let s := ((s.maskBanks q 8).set (Fld.CLU_UNITSTAT_FAULTED q) 1).set Fld.FLT_STAT_CL_FAULTED (s.get Fld.FLT_STAT_CL_FAULTED + 1)
    let s := s.faultRecord 4 (q * 8) x.1 cause
    let s := s.raise 0x2804 0 (s.faultData x.2)
    if s.unabsorbed q then s.regionFault (q / 4) cause else s.evict 1

/-- BRIDGE_REROUTED (R242): traffic between the Ochre dies goes through Umber. -/
def State.bridgeFault (s : State) : State :=
  if s.get Fld.FLT_STAT_BRIDGE_REROUTED = 1 then s
  else
    let s := (s.set Fld.FLT_STAT_BRIDGE_REROUTED 1).faultRecord 6 0 none 4
    s.raise 0x2806 0 (s.faultData 0)

/-- Table 2-2: an invalid codeword or a missing acknowledge attributed to its agent. -/
def State.siteFault (s : State) (site : FaultSite) (cause : Nat) : State := match site with
  | .unit q u => s.unitFault q u cause
  | .pipMover q => s.clusterFault q cause
  | .bankOutput q b => s.retireBank q b cause
  | .regionBridge g => s.regionFault g cause
  | .umberBridge d => s.dieLoss d 4
  | .ochreBridge => s.bridgeFault

/-! Operations. -/

/-- R62: an operation of a task has committed; the next one may start, or the task completes. -/
def State.opNext (s : State) (d : TaskDef) (x : TaskInst) (f : OpFlags) (testWrong : Bool) : State :=
  let y := { x with op := x.op + 1, acc := f.acc, status := statusAfter x.status f }
  let s := s.modTask x.task x.number (fun _ => y)
  if y.op < tdNops d then s
  else if d.test ∧ testWrong then s.unitFault x.cluster x.unit 5
  else s.taskComplete d y

/-- R48: a word that the check of a memory has found clean or has corrected. -/
def EccResult.good : EccResult → Bool
  | .clean | .corrected => true
  | .badBank _ | .badPipOrTable | .badRegionMemory => false

/-- R48: each error of a memory of cluster q or of its region is counted, and an uncorrectable one is a fault. -/
def State.eccAct (s : State) (q : Nat) (e : EccResult) : State := match e with
  | .clean => s
  | .corrected => s.count (Fld.RGN_ECCCNT_CORRECTED (q / 4))
  | .badBank b => (s.count (Fld.RGN_ECCCNT_UNCORRECTED (q / 4))).retireBank q b 3
  | .badPipOrTable => (s.count (Fld.RGN_ECCCNT_UNCORRECTED (q / 4))).clusterFault q 3
  | .badRegionMemory => (s.count (Fld.RGN_ECCCNT_UNCORRECTED (q / 4))).regionFault (q / 4) 3

/-- R62: the operation under way commits its results, and the next one may start.  DESIGN CHOICE (log entry 141): until then it
has committed no word, so an operation that a fence or an abort cuts short leaves its destination as it was. -/
def State.opCommit (s : State) (q : Nat) (d : TaskDef) (x : TaskInst) (testWrong : Bool) : State := match d.ops[x.op]? with
  | none => s.opNext d x {} testWrong
  | some e =>
    if opCode e = 0x16 then (s.egressAccept d x e).opNext d x {} testWrong
    else let (s, f) := s.opRun q d e x.acc x.status; s.opNext d x f testWrong

/-- OPERATION_COMPLETE (R48, R62, R264): what the memories' checks found, then, if every word is good, the operation's effect. -/
def State.operationComplete (s : State) (q u : Nat) (ecc : List EccResult) (testWrong : Bool) : State :=
  match (s.instOn q u).filter (fun x => decide (x.phase = .running)) with
  | none => s
  | some x => match s.taskDef x.task with
    | none => s
    | some d =>
      let s := s.each ecc (fun e s => s.eccAct q e)
      if ecc.all EccResult.good then s.opCommit q d x testWrong else s

/-! Wait aborts (R58 to R60). -/

/-- Table 2-19: the port whose resource identity this is: a bank port or an egress port. -/
def resPort (r : BitVec 16) : Option ArbPort :=
  let n := r.toNat
  if n / 2 ^ 13 = 0 then some (.bank (Fin.ofNat 32 (n / 256)) (Fin.ofNat 8 n))
  else if n / 2 ^ 13 = 3 then some (.egress (Fin.ofNat 8 (n / 1024))) else none

/-- Table 2-19: the resource identity of a port. -/
def portRes : ArbPort → BitVec 16
  | .bank q b => BitVec.ofNat 16 (256 * q + b)
  | .egress g => BitVec.ofNat 16 (3 * 2 ^ 13 + 1024 * g)

/-- The requester that an instance is at a port: its unit at a bank port, its cluster at the egress port while it runs an EMIT. -/
def State.requesterOf (s : State) (x : TaskInst) : ArbPort → Option Nat
  | .bank q _ => if x.cluster = q then some x.unit else none
  | .egress g => if x.cluster / 4 = g ∧ s.emits x then some (x.cluster % 4) else none

/-- R59: an instance has a request outstanding at a port. -/
def State.waitsAt (s : State) (x : TaskInst) (p : ArbPort) : Bool := match s.requesterOf x p with
  | some i => decide (s.get (portReq p i) = 1 ∧ s.get (portOwner p) ≠ i)
  | none => false

/-- R59: the task instance that owns a port. -/
def State.ownerAt (s : State) (p : ArbPort) : Option TaskInst :=
  s.fab.insts.find? (fun x => inFlight x && decide (s.requesterOf x p = some (s.get (portOwner p))))

/-- The instance whose request a link is. -/
def State.linkInst (s : State) (l : WaitLink) : Option TaskInst := (s.instOf l.task l.number).filter inFlight

/-- R59: the outstanding request of an instance: at a port, as its arbiter shows it, else as the links give it. -/
def State.requestOf (s : State) (given : List WaitLink) (y : TaskInst) : Option WaitLink :=
  let mine := given.filter (fun l => decide (l.task.val = y.task ∧ l.number = y.number))
  match (bankPorts y.cluster ++ [ArbPort.egress (Fin.ofNat 8 (y.cluster / 4))]).find? (s.waitsAt y) with
  | some p => some ((mine.find? (fun (l : WaitLink) => decide (l.resource = portRes p))).getD
      { resource := portRes p, task := Fin.ofNat 4096 y.task, number := y.number, issued := 0 })
  | none => mine.find? (fun l => (resPort l.resource).isNone)

/-- R59: the wait chain from a request on: to the owner of its resource, to that owner's outstanding request, and so on, until it
comes back to a request that it has passed.  The owner of a resource that has no arbiter is the task of the next link given. -/
def State.follow (s : State) (given : List WaitLink) : Nat → List WaitLink → WaitLink → List WaitLink
  | 0, path, l => path ++ [l]
  | fuel + 1, path, l =>
    let owner := match resPort l.resource with
      | some p => s.ownerAt p
      | none => ((given.dropWhile (· ≠ l)).tail.head?).bind s.linkInst
    match owner.bind (s.requestOf given) with
    | none => path ++ [l]
    | some k => if k ∈ path ++ [l] then path ++ [l, k] else State.follow s given fuel (path ++ [l]) k

/-- R59: the chain of the request whose timer expires, the first link given; none if that request is not outstanding. -/
def State.waitChain (s : State) (given : List WaitLink) : List WaitLink := match given with
  | [] => []
  | l :: _ =>
    let out := match s.linkInst l, resPort l.resource with
      | some x, some p => s.waitsAt x p
      | some _, none => true
      | none, _ => false
    if out then s.follow given 64 [] l else []

/-- R58: the order of two requests: the frame or period start of their tasks, then ORDER, then the order of issue. -/
def State.earlier (s : State) (a b : WaitLink × TaskInst) : Bool :=
  older s.orderOf a.2 b.2 || (!older s.orderOf b.2 a.2 && decide (a.1.issued < b.1.issued))

/-- R58: the youngest request of a wait chain. -/
def State.youngest (s : State) : List WaitLink → Option (WaitLink × TaskInst)
  | [] => none
  | l :: ls => match (s.linkInst l).map (fun x => (l, x)), s.youngest ls with
    | some a, some b => if s.earlier a b then some b else some a
    | some a, none => some a
    | none, r => r

/-- R59: CIRCLE when the chain returns to its start. -/
def isCircle (chain : List WaitLink) : Bool := decide (2 ≤ chain.length ∧ chain.head? = chain.getLast?)

/-- R59: an aborted task releases all its grants and requests. -/
def State.releaseAll (s : State) (x : TaskInst) : State :=
  let s := s.each (bankPorts x.cluster) (fun p s => s.arbDrop p x.unit)
  if s.emits x then s.arbDrop (.egress (Fin.ofNat 8 (x.cluster / 4))) (x.cluster % 4) else s

/-- WAIT_ABORT (R59, R60): the task with the youngest request of the chain is aborted and re-runs from its pip on the same unit;
its third abort in a frame ends its re-runs.  DESIGN CHOICE (log entry 143): the resource that is named is that of the aborted
request. -/
def State.waitAbort (s : State) (given : List WaitLink) : State :=
  let chain := s.waitChain given
  match s.youngest chain with
  | none => s
  | some (l, x) => match s.taskDef x.task with
    | none => s
    | some d =>
      let g := x.cluster / 4
      let s := (s.discardPartial x).releaseAll x
      let s := (s.count (Fld.RGN_WAITABORT_COUNT g)).set (Fld.RGN_WAITABORT_LAST_RES g) l.resource.toNat
      let s := s.faultRecord 9 (x.cluster * 8 + x.unit) (some x.task) 0
      let s := s.raise 0x2003 (s.handleOf 14 x.task)
        (leBytes 4 l.resource.toNat ++ leBytes 4 x.task ++ leBytes 4 (if isCircle chain then 0 else 1))
      let n := cellsGet 0 s.fab.aborts x.task + 1
      let y := { x with aborts := x.aborts + 1, phase := .loading, op := 0, acc := none }
      let s := (s.modTask x.task x.number (fun _ => y)).modFab (fun f => { f with aborts := cellsSet 0 f.aborts x.task n })
      if 3 ≤ n then s.abandonInst d y 3
      else (s.count (Fld.CLU_RERUN_RERUNS x.cluster)).slotReason x.task 1 x.reruns

/-- FLT_CNT_CLR (R254): every counter of the block, of the channel ports, of every RGN_EGRDUP and of every CLU_RERUN. -/
def State.fltCntClr (s : State) : State :=
  let s := (((s.set Fld.FLT_SPARE_WAKE_FAIL 0).set Fld.FLT_SPARE_BANKS_RETIRED 0).wr Reg.FLT_RERUN 0).wr Reg.FLT_MARK 0
  let s : State := { s with chans := s.chans.map (fun c => { c with dup := 0, skipped := 0, late := 0, differ := 0 }) }
  let s := s.each (List.range 8) (fun g s => if s.isolated g then s else s.wr (Reg.RGN_EGRDUP g) 0)
  s.each (List.range 32) (fun q s => if s.isolated (q / 4) then s else s.wr (Reg.CLU_RERUN q) 0)

def execInvalidCodeword (site : FaultSite) (s : State) : Host.Outcome State Fault Refusal :=
  .next (s.running (fun s => s.siteFault site 0))
def execHandshakeWatchdog (site : FaultSite) (s : State) : Host.Outcome State Fault Refusal :=
  .next (s.running (fun s => s.siteFault site 1))
def execBridgeAckTimeout (die : Fin 2) (s : State) : Host.Outcome State Fault Refusal := .next (s.running (fun s => s.dieLoss die 4))
def execSpareWakeDone (q : Fin 32) (u : Fin 8) (pass : Bool) (s : State) : Host.Outcome State Fault Refusal :=
  .next (s.running (fun s => s.spareWakeDone q u pass))
def execOperationComplete (q : Fin 32) (u : Fin 8) (ecc : List EccResult) (testWrong : Bool) (s : State) :
    Host.Outcome State Fault Refusal := .next (s.running (fun s => s.operationComplete q u ecc testWrong))
def execWaitAbort (chain : List WaitLink) (s : State) : Host.Outcome State Fault Refusal := .next (s.running (fun s => s.waitAbort chain))
def execFltCntClr (s : State) : Host.Outcome State Fault Refusal := .next (s.running State.fltCntClr)

end Sys2Proof.Machine
end

