-- ==== Sys2Proof/Machine/Clocks.lean ====
section
/-!
DEFINITION. Sys2Proof/Machine/Clocks.lean: power, reset and its release (R412 to R420), external sources, the PLL and the clock
monitor (R397 to R407), and the peripheral gates (R408 to R411).
-/
namespace Sys2Proof.Machine

/-! Power and reset. -/

/-- R412, R475: registers that no reset but VDD_AON power-up clears: the AON block, SLH_AEPOCH and REC_RNUM. -/
def aonAddr (a : Nat) : Bool := a / 0x10000 = 2 || decide (a = Reg.SLH_AEPOCH) || decide (a = Reg.REC_RNUM)

/-- R412, R413: reset: everything returns to its reset state but the always-on domain, the NOR devices and the key store;
`resetN`: RESET_N is the cause. -/
def State.enterReset (s : State) (resetN : Bool) : State :=
  { regs := s.regs.filter (fun (e : Nat × Word) => aonAddr e.1), nvm0 := s.nvm0, nvm1 := s.nvm1, keyStore := s.keyStore, aon := s.aon,
    rst := { inReset := true, resetN := resetN || (s.rst.inReset && s.rst.resetN) }, freeCtr := s.freeCtr, pending := s.pending }

/-- R412, R415: VDD_AON comes up: the always-on domain is reset too. -/
def State.powerOn (s : State) : State :=
  { nvm0 := s.nvm0, nvm1 := s.nvm1, keyStore := s.keyStore, freeCtr := s.freeCtr, pending := s.pending }

/-- R412, R415: a supply falls below its detector: a power-on reset; after a PWRCYC_REQ_N assertion PWRCYC says so. -/
def State.supplyBelow (s : State) (x : Supply) : State := match x with
  | .aon => s.enterReset false
  | .um =>
    let cyc := s.aon.pwrcycWait || s.get Fld.AON_PWRCYC_ACTIVE = 1
    let s := (s.enterReset false).set Fld.AON_RSTCAUSE_POR 1
    let s := if cyc then s.set Fld.AON_RSTCAUSE_PWRCYC 1 else s
    { s with aon := { s.aon with por := true, pwrcycWait := false } }

/-- R467: device reset. -/
def State.deviceReset (s : State) : State := (s.enterReset false).set Fld.AON_RSTCAUSE_DEV_RESET 1

/-- R433: the header of a bank passes MAGIC, FMT_VER and HDR_CRC (Table 17-2). -/
def State.headerOk (s : State) (k : Nat) : Bool :=
  decide (s.nvmNat k 0 4 = 0x4D49505A ∧ s.nvmNat k 4 2 = 1 ∧ s.nvmNat k 124 4 = (crc32c (s.nvmBytes k 0 124)).toNat)

/-- R433: the bank whose header gives the start method. -/
def State.methodBank (s : State) : Option Nat :=
  let gen := fun k => s.nvmNat k 8 4
  match s.headerOk 0, s.headerOk 1 with
  | true, true => some (if gen 0 < gen 1 then 1 else 0)
  | true, false => some 0
  | false, true => some 1
  | false, false => none

/-- R414: how long RESET_N was low. -/
def State.resetLength (s : State) (lowMs : Nat) : State :=
  if s.rst.resetN then
    let s := (s.set Fld.AON_RSTCAUSE_RESET_N 1).wr Reg.AON_RSTLEN (BitVec.ofNat 32 (min lowMs 0xFFFFFFFF))
    if 5000 < lowMs then s.set Fld.AON_RSTCAUSE_LONG 1 else s
  else s

/-- R24: GROUP_ID is read as reset is released. -/
def State.readStraps (s : State) (gid : Nat) : State :=
  let s : State := { s with rst := { inReset := false, resetN := false } }
  (s.set Fld.SYS_STRAP_GROUP_ID gid).setBit Fld.SYS_STRAP_STANDALONE (decide (gid = 3))

/-- R414, R475, R476: the recorder's counters are seeded; POWER_UP is raised, and LONG_RESET after more than 5 s of RESET_N. -/
def State.logReset (s : State) (long : Bool) : State :=
  let x := s.seedRecorder
  let s := x.1
  let s : State := { s with aon := { s.aon with powerUp := false, por := false } }
  let s := s.raise 0x0001 0 (s.resetData ++ leBytes 4 x.2)
  if long then s.raise 0x0003 0 s.resetData else s

/-- R401, R420, R433: both sources are enabled under the start method of the header; step 2 of the start is done. -/
def State.startSources (s : State) : State :=
  let delay := match s.methodBank with
    | some k => if s.nvmNat k 17 1 = 1 then some (s.nvmNat k 18 2) else none
    | none => none
  let s : State := { s with clk := { s.clk with refEnabled := true, xtalEnabled := true, oscDelay := delay } }
  (s.setBit Fld.IMG_STAT_KEYSTATE s.keyStore.isSome).startStep 2

/-- RESET_RELEASE (R24, R401, R414, R420, R433, R475, R476). -/
def State.resetRelease (s : State) (gid lowMs : Nat) : State :=
  if s.rst.inReset then
    (((s.resetLength lowMs).readStraps gid).logReset (s.rst.resetN && decide (5000 < lowMs))).startSources
  else s

/-- PWRCYC_ASSERT_END (R415): PWRCYC_REQ_N is released; the always-on domain does it in reset too. -/
def State.pwrcycEnd (s : State) : State :=
  if s.get Fld.AON_PWRCYC_ACTIVE = 0 then s
  else { s.set Fld.AON_PWRCYC_ACTIVE 0 with aon := { s.aon with pwrcycWait := true } }

/-- PWRCYC_NOT_DONE (R415). -/
def State.pwrcycNotDone (s : State) : State :=
  if !s.aon.pwrcycWait then s
  else
    let s : State := { s with aon := { s.aon with pwrcycWait := false } }
    s.running (fun s => s.raise 0x0005 0 s.resetData)

/-! Sources and the PLL. -/

/-- CLK_CTRL.REFSEL's code of a source. -/
def srcCode : ExtSource → Nat
  | .reference => 0
  | .crystal => 1

/-- The other source. -/
def otherSource : ExtSource → ExtSource
  | .reference => .crystal
  | .crystal => .reference

/-- A source's ready flag. -/
def srcRdy (x : ExtSource) : Field := ⟨Reg.CLK_STAT, 1 + srcCode x, 1⟩

/-- The source is ready (R402). -/
def State.srcReady (s : State) (x : ExtSource) : Bool := s.get (srcRdy x) = 1
/-- The source feeds the PLL. -/
def State.srcSelected (s : State) (x : ExtSource) : Bool := s.get Fld.CLK_CTRL_REFSEL = srcCode x
/-- The domains are on the PLL. -/
def State.onPll (s : State) : Bool := s.get (Fld.CLK_DOMSTAT_SRC_D 0) = 1

/-- Table 19-3: DATA of clock events. -/
def State.clkData (s : State) (cause : Nat) : List Byte :=
  le32 (s.rd Reg.CLK_STAT) ++ le32 (s.rd Reg.CLK_DOMSTAT) ++ [BitVec.ofNat 8 cause]

/-- What the monitor keeps of a source. -/
def ClkSt.started (c : ClkSt) : ExtSource → Bool
  | .reference => c.refEnabled && c.refMet && !c.refTripped
  | .crystal => c.xtalEnabled && c.xtalMet && !c.xtalTripped

/-- A source enabled. -/
def ClkSt.enabled (c : ClkSt) : ExtSource → Bool
  | .reference => c.refEnabled
  | .crystal => c.xtalEnabled

/-- A source's start method satisfied. -/
def ClkSt.meet (c : ClkSt) : ExtSource → ClkSt
  | .reference => { c with refMet := true }
  | .crystal => { c with xtalMet := true }

/-- A source tripped, or no longer. -/
def ClkSt.trip (c : ClkSt) (t : Bool) : ExtSource → ClkSt
  | .reference => { c with refTripped := t }
  | .crystal => { c with xtalTripped := t }

/-- A source tripped. -/
def ClkSt.tripped (c : ClkSt) : ExtSource → Bool
  | .reference => c.refTripped
  | .crystal => c.xtalTripped

/-- R400, R405, R406: a source becomes ready: it feeds the PLL and Slate where the selected one is not ready; the PLL and Slate
return to the reference. -/
def State.becomeReady (s : State) (x : ExtSource) : State :=
  let s := ((s.set (srcRdy x) 1).set Fld.CLK_STAT_NO_OSC 0).set Fld.CLK_STAT_SLATE_RC 0
  let s := if x = .reference ∨ !s.srcReady (otherSource x) then s.set Fld.CLK_CTRL_REFSEL (srcCode x) else s
  if s.srcReady .reference ∧ s.srcReady .crystal then s.startStep 3 else s

/-- SOURCE_READY (R402): a started source is in range over a full window. -/
def State.sourceReady (s : State) (x : ExtSource) : State := if s.clk.started x ∧ !s.srcReady x then s.becomeReady x else s

/-- SOURCE_RECOVERED (R404): a tripped source has stayed in range for 1 s. -/
def State.sourceRecovered (s : State) (x : ExtSource) : State :=
  if s.clk.tripped x then
    let s : State := { s with clk := (s.clk.trip false x).meet x }
    s.becomeReady x
  else s

/-- CLK_NO_OSC (R403). -/
def State.noOsc (s : State) : State :=
  if s.srcReady .reference ∨ s.srcReady .crystal ∨ s.get Fld.CLK_STAT_NO_OSC = 1 then s
  else
    let s := s.set Fld.CLK_STAT_NO_OSC 1
    s.raise 0x0804 0 (s.clkData 0)

/-- Every domain set to a source: 1 PLL, 2 limp, for ETH 3 in place of limp. -/
def State.domains (s : State) (src : Nat) : State :=
  s.wr Reg.CLK_DOMSTAT (if src = 1 then 0x5555 else 0xEAAA)

/-- PLL_LOCK (R399, R402): the PLL locks on its ready source; at start-up every domain moves to it. -/
def State.pllLock (s : State) : State :=
  let x : ExtSource := if s.get Fld.CLK_CTRL_REFSEL = 0 then .reference else .crystal
  if !s.srcReady x then s
  else
    let s := s.set Fld.CLK_STAT_PLL_LOCK 1
    if s.rd Reg.CLK_DOMSTAT = 0 then (s.domains 1).startStep 4 else s

/-- CLK_LIMP (R206, R308, R372, R385, R405, R407): every domain with a limp source moves to it, and ETH stops. -/
def State.limpEntry (s : State) (cause : Nat) : State :=
  if s.get Fld.CLK_STAT_LIMP = 1 ∨ s.rd Reg.CLK_DOMSTAT = 0 then s
  else
    let s := ((s.domains 2).set Fld.CLK_STAT_LIMP 1).count Fld.CLK_CNT_LIMP_ENTRIES
    let s := s.raise 0x0802 0 (s.clkData cause)
    let s := (s.set Fld.TB_STAT_LIMP 1).tbHoldover
    let s := (s.raise 0x1003 0 s.timeData).set Fld.SRV_STAT_LIMP 1
    let s := s.each (List.range 64) (fun n s =>
      if s.get (Fld.CHn_STAT_STATE n) = 0 then s else s.set (Fld.CHn_STAT_LIMP n) 1)
    s.canLimp.ethStop

/-- SOURCE_TRIP (R404, R405, Table 16-2): the monitor's action. -/
def State.sourceTrip (s : State) (x : ExtSource) : State :=
  if !s.clk.enabled x then s
  else
    let s := s.count (if x = .reference then Fld.CLK_CNT_REF_TRIPS else Fld.CLK_CNT_XTAL_TRIPS)
    let s : State := { s with clk := s.clk.trip true x }
    let s := s.set (srcRdy x) 0
    if !s.srcSelected x then s
    else if s.srcReady (otherSource x) then
      let s := s.set Fld.CLK_CTRL_REFSEL (srcCode (otherSource x))
      if x = .reference then s.raise 0x0801 0 (s.clkData 0) else s
    else
      let s := (s.set Fld.CLK_STAT_PLL_LOCK 0).count Fld.CLK_CNT_REFUSALS
      let s : State := { s with clk := { s.clk with xtalEnabled := s.clk.xtalEnabled ||
        (decide (x = .reference) && (match s.cfg with | some c => c.clock.xtalFitted | none => true)) } }
      let s := s.set Fld.CLK_STAT_SLATE_RC 1
      s.safClockFault.limpEntry 1

/-- PLL_LOCK_LOST (R404, R405). -/
def State.pllLockLost (s : State) : State :=
  if s.get Fld.CLK_STAT_PLL_LOCK = 0 then s else (s.set Fld.CLK_STAT_PLL_LOCK 0).limpEntry 2

/-- CLK_RETURN (R372, R406): lock has held for 10 ms, and every limp domain returns to the PLL in one operation. -/
def State.clkReturn (s : State) : State :=
  if s.get Fld.CLK_STAT_LIMP = 0 ∨ s.get Fld.CLK_STAT_PLL_LOCK = 0 then s
  else
    let s := (((s.domains 1).set Fld.CLK_STAT_LIMP 0).set Fld.TB_STAT_LIMP 0).set Fld.SRV_STAT_LIMP 0
    s.raise 0x0803 0 (s.clkData 0)

/-- A refusal of the clock block (R421). -/
def State.clkRefuse (s : State) (code addr : Nat) : State :=
  ((s.set Fld.CLK_STAT_REFUSED 1).set Fld.CLK_STAT_REF_CODE code).refuse 1 code addr

/-- CLK_CTRL_REFSEL (R402): a host switch of the PLL's source, refused with NOT_READY. -/
def State.refsel (s : State) (crystal : Bool) : State :=
  let x : ExtSource := if crystal then .crystal else .reference
  if s.srcReady x then s.set Fld.CLK_CTRL_REFSEL (srcCode x)
  else (s.clkRefuse 1 Reg.CLK_CTRL).count Fld.CLK_CNT_REFUSALS

/-- CLK_CNT_CLR (R421). -/
def State.clkCntClr (s : State) : State := (s.wr Reg.CLK_CNT 0).set Fld.CLK_BERRINFO_COUNT 0

/-! Peripheral gates. -/

/-- R410: the function behind a gate runs. -/
def State.gateRuns (s : State) (reg bit : Nat) : Bool :=
  if reg = 1 then bit < 16 && (match s.cfg with | some c => (c.uart.getD bit (0, 0)).1 ≠ 0 | none => false)
  else if bit < 8 then s.get (Fld.CANn_CTRL_MODE bit) ≠ 0
  else if bit < 11 then s.get (Fld.ETHp_CFG_EN (bit - 8)) = 1
  else if bit < 15 then
    (List.range 16).any (fun i => let st := s.get (Fld.CHn_STAT_STATE (16 * (bit - 11) + i)); decide (st = 1 ∨ st = 2))
  else if bit = 15 then (List.range 32).any (fun n => decide (s.get (Fld.AOUTn_CFG_SRC n) = 1))
  else if bit = 16 then (List.range 32).any (fun i => decide (s.get (Fld.PINi_STAT_STATE i) = 1))
  else if bit = 17 then (List.range 64).any (fun n => decide (s.loopState n ≠ 0))
  else false

/-- A gate's close that waits for a handshake, or no longer (R411). -/
def State.setDeferred (s : State) (reg : Nat) (w : Word) : State :=
  if reg = 0 then { s with clk := { s.clk with deferred0 := w } } else { s with clk := { s.clk with deferred1 := w } }

/-- The deferred closes of a gate register. -/
def State.deferred (s : State) (reg : Nat) : Word := if reg = 0 then s.clk.deferred0 else s.clk.deferred1

/-- CLK_GATE_WRITE (R410, R411): refused with GATE_BUSY if it would close a running function's gate; a close with an access in
flight is deferred; an opened gate cancels its deferred close. -/
def State.gateWrite (s : State) (reg : Nat) (v inFlight : Word) : State :=
  let mask : Word := if reg = 0 then 0x3FFFF else 0xFFFF
  let new := v &&& mask
  let closing := s.rd (gateReg reg) &&& ~~~new
  if (List.range 32).any (fun b => closing.getLsbD b && s.gateRuns reg b) then s.clkRefuse 2 (gateReg reg)
  else (s.wr (gateReg reg) new).setDeferred reg ((s.deferred reg ||| (closing &&& inFlight)) &&& ~~~new)

/-- GATE_CLOSE_DEFERRED (R411): the handshake ends, and the gate closes. -/
def State.gateClose (s : State) (reg bit : Nat) : State :=
  s.setDeferred reg (s.deferred reg &&& ~~~(BitVec.ofNat 32 (2 ^ bit)))

/-- CLK_GATE_FORCED (R411): the gate closes with the access still in flight, which ends with a bus error of cause FORCED. -/
def State.gateForced (s : State) (reg bit : Nat) (addr : Word) : State :=
  if (s.deferred reg).getLsbD bit then
    let s := (s.gateClose reg bit).busError addr.toNat 3
    s.raise 0x0805 0 (le32 (s.rd Reg.CLK_BERR))
  else s

def execPowerOn (s : State) : Host.Outcome State Fault Refusal := .next s.powerOn
def execSupplyBelowDetector (supply : Supply) (s : State) : Host.Outcome State Fault Refusal := .next (s.supplyBelow supply)
def execResetNAssert (s : State) : Host.Outcome State Fault Refusal := .next (s.enterReset true)
def execResetRelease (groupId : Fin 4) (lowMs : Nat) (s : State) : Host.Outcome State Fault Refusal :=
  .next (s.resetRelease groupId lowMs)
def execOscStartSatisfied (src : ExtSource) (s : State) : Host.Outcome State Fault Refusal :=
  .next (s.running (fun s => if s.clk.enabled src then { s with clk := s.clk.meet src } else s))
def execSourceReady (src : ExtSource) (s : State) : Host.Outcome State Fault Refusal := .next (s.running (fun s => s.sourceReady src))
def execSourceRecovered (src : ExtSource) (s : State) : Host.Outcome State Fault Refusal :=
  .next (s.running (fun s => s.sourceRecovered src))
def execClkNoOsc (s : State) : Host.Outcome State Fault Refusal := .next (s.running State.noOsc)
def execPllLock (s : State) : Host.Outcome State Fault Refusal := .next (s.running State.pllLock)
def execSourceTrip (src : ExtSource) (s : State) : Host.Outcome State Fault Refusal := .next (s.running (fun s => s.sourceTrip src))
def execPllLockLost (s : State) : Host.Outcome State Fault Refusal := .next (s.running State.pllLockLost)
def execClkReturn (s : State) : Host.Outcome State Fault Refusal := .next (s.running State.clkReturn)
def execClkCtrlRefsel (crystal : Bool) (s : State) : Host.Outcome State Fault Refusal :=
  .next (s.running (fun s => s.refsel crystal))
def execClkGateWrite (reg : Fin 2) (value inFlight : Word) (s : State) : Host.Outcome State Fault Refusal :=
  .next (s.running (fun s => s.gateWrite reg value inFlight))
def execGateCloseDeferred (reg : Fin 2) (bit : Fin 32) (s : State) : Host.Outcome State Fault Refusal :=
  .next (s.running (fun s => s.gateClose reg bit))
def execClkGateForced (reg : Fin 2) (bit : Fin 32) (addr : Word) (s : State) : Host.Outcome State Fault Refusal :=
  .next (s.running (fun s => s.gateForced reg bit addr))
def execClkCntClr (s : State) : Host.Outcome State Fault Refusal := .next (s.running State.clkCntClr)
def execPwrcycAssertEnd (s : State) : Host.Outcome State Fault Refusal := .next s.pwrcycEnd
def execPwrcycNotDone (s : State) : Host.Outcome State Fault Refusal := .next s.pwrcycNotDone
def execOchreSupplyAbsent (die : Fin 2) (s : State) : Host.Outcome State Fault Refusal := .next (s.running (fun s => s.dieLoss die 4))
def execDevResetEntry (s : State) : Host.Outcome State Fault Refusal := .next (s.running (fun s => if s.mgt.resetDue then s.deviceReset else s))

end Sys2Proof.Machine
end

