-- ==== Sys2Proof/Machine/Schedule.lean ====
section
/-!
DEFINITION. Sys2Proof/Machine/Schedule.lean: the schedule tables as they lie in the clusters (R61 to R64, R430): entry kinds, the load
checks of R63, and the tasks that a table's headers, operations and successor lists make.
-/
namespace Sys2Proof.Machine

/-! Entries (Tables 3-1, 3-5). -/

/-- Table 3-1: KIND: 0 empty, 1 task header, 2 operation, 3 successor list. -/
def entryKind (e : BitVec 128) : Nat := entryBits e 126 2

/-- A pointer to a successor list: none for 0x1FFF. -/
def listPtr (n : Nat) : Option Nat := if n = 0x1FFF then none else some n

/-- Table 3-2: SUCC_PTR. -/
def headSucc (e : BitVec 128) : Option Nat := listPtr (entryBits e 73 13)
/-- Table 3-5: NEXT. -/
def listNext (e : BitVec 128) : Option Nat := listPtr (entryBits e 11 13)
/-- Table 3-5: the successors that a list names. -/
def listTasks (e : BitVec 128) : List (Fin 4096) :=
  (List.range (entryBits e 123 3 + 1)).map (fun i => Fin.ofNat 4096 (entryBits e (108 - 12 * i) 12))

/-- A schedule table: its entry at every index from 0 to 8,191, empty where nothing is written. -/
abbrev Table := List (Nat × BitVec 128)

/-- The entry at an index. -/
def Table.entry (t : Table) (i : Nat) : BitVec 128 := match t.find? (fun x => decide (x.1 = i)) with
  | some x => x.2
  | none => 0

/-- The kind of the entry at an index. -/
def Table.kind (t : Table) (i : Nat) : Nat := entryKind (t.entry i)

/-! The load checks (R63). -/

/-- R63: a pointer names a successor list. -/
def Table.ptrOk (t : Table) (p : Option Nat) : Bool := match p with
  | none => true
  | some i => t.kind i = 3

/-- Table 3-4: an operand address that a class may have: region space only for LDREG and STREG; the bits above a cluster's
memory 0. -/
def addrOk (opc a : Nat) : Bool :=
  if a / 2 ^ 20 = 1 then decide (opc = 0x14 ∨ opc = 0x15) else decide (a / 2 ^ 18 = 0)

/-- R62, R63: a task header's fields, its operations, and the list that it points to. -/
def Table.headOk (t : Table) (i : Nat) (e : BitVec 128) : Bool :=
  let n := entryBits e 27 8
  decide (entryBits e 124 2 ≠ 3 ∧ entryBits e 0 14 = 0 ∧ n ≠ 0 ∧ i + n ≤ 8191 ∧ entryBits e 72 1 ≠ entryBits e 67 1) &&
    (List.range n).all (fun j => decide (t.kind (i + 1 + j) = 2)) && t.ptrOk (headSucc e)

/-- R63: an operation with CHAIN is a DOT, and the next operation of its task is a DOT. -/
def Table.chainOk (t : Table) (i : Nat) (e : BitVec 128) : Bool :=
  !opChain e || (decide (opCode e = 0x05 ∧ t.kind (i + 1) = 2 ∧ opCode (t.entry (i + 1)) = 0x05) &&
    t.any (fun h => decide (entryKind h.2 = 1 ∧ h.1 < i ∧ i + 1 ≤ h.1 + entryBits h.2 27 8)))

/-- R63: an operation's fields. -/
def Table.opOk (t : Table) (i : Nat) (e : BitVec 128) : Bool :=
  let c := opCode e
  let imm := (opImm e).toNat
  decide (c ≤ 0x17 ∧ entryBits e 0 1 = 0) && [opA e, opB e, opD e].all (addrOk c) && t.chainOk i e &&
    decide ((c = 0x0F → imm % 2 ^ 16 ≠ 0) ∧ (c = 0x11 → opQA e = 31 ∧ opQD e = 30) ∧ (c = 0x12 → opQD e = 31) ∧
      (c = 0x13 → imm % 64 ≠ 0))

/-- R63: an entry that the load accepts. -/
def Table.entryOk (t : Table) (i : Nat) (e : BitVec 128) : Bool := match entryKind e with
  | 0 => e = 0
  | 1 => t.headOk i e
  | 2 => t.opOk i e
  | _ => decide (entryBits e 120 3 = 0 ∧ entryBits e 0 11 = 0) && t.ptrOk (listNext e)

/-- R63: every entry of a table passes the load checks. -/
def Table.ok (t : Table) : Bool := t.all (fun x => t.entryOk x.1 x.2)

/-! Tasks (R62, R64). -/

/-- The successors from a list on, through its NEXT pointers. -/
def Table.succ (t : Table) : Nat → Option Nat → List (Fin 4096)
  | 0, _ => []
  | _ + 1, none => []
  | fuel + 1, some i => listTasks (t.entry i) ++ Table.succ t fuel (listNext (t.entry i))

/-- The elements that an operation touches, as first element address and count, at A, B and D in turn (Tables 3-6, 3-8); of the
scattered operand of GATHER and SCATTER_ADD, element 0. -/
def opSpans (e : BitVec 128) : List (Nat × Nat) :=
  let n := opLen e
  let abd := fun (a b d : Nat) => [(opA e, a), (opB e, b), (opD e, d)]
  match opCode e with
  | 0x01 | 0x06 | 0x0F | 0x10 | 0x14 | 0x15 => abd n 0 n
  | 0x02 | 0x03 | 0x04 | 0x0B | 0x0C | 0x12 => abd n n n
  | 0x05 => abd n n (if opChain e then 0 else 1)
  | 0x07 =>
    let c := (opImm e).toNat % 256 + 1
    abd (n * c) c n
  | 0x08 => abd 1 n n
  | 0x09 => abd n n 1
  | 0x0A => abd n (2 * n) n
  | 0x0D | 0x0E => abd n 0 1
  | 0x11 => abd n 0 (2 * n)
  | 0x13 => abd n (2 * ((opImm e).toNat % 64 + 1)) n
  | 0x16 => abd n 0 0
  | 0x17 => abd 0 0 1
  | _ => []

/-- The banks that an operation's operands lie in. -/
def opBanks (e : BitVec 128) : BitVec 8 :=
  let spans := (opSpans e).filter (fun x => decide (x.2 ≠ 0 ∧ x.1 / 2 ^ 20 = 0))
  BitVec.ofNat 8 ((List.range 8).foldl (fun w b =>
    if spans.any (fun x => decide (x.1 / 2 ^ 15 ≤ b ∧ b ≤ (x.1 + x.2 - 1) / 2 ^ 15)) then w + 2 ^ b else w) 0)

/-- R62: the task of a header, with what the section says of it beside its entries: its banks and areas, and whether it is a test
task (log entry 148). -/
def Table.task (t : Table) (given : List TaskDef) (i : Nat) (e : BitVec 128) : TaskDef :=
  let ops := (List.range (entryBits e 27 8)).map (fun j => t.entry (i + 1 + j))
  let d : TaskDef := { header := e, ops := ops, succ := t.succ 8192 (headSucc e), areas := [], test := false
                       banks := ops.foldl (fun w o => w ||| opBanks o) 0 }
  match given.find? (fun x => decide (tdTask x = tdTask d)) with
  | some x => { d with banks := x.banks, areas := x.areas, test := x.test }
  | none => d

/-! The tables in memory (Table 2-20). -/

/-- The first byte of a cluster's schedule table. -/
def tableMem (q : Nat) : Nat := clusterMem q + 0x00120000

/-- The table of a cluster, as its bytes stand, the least significant byte of an entry first: the entries that are not empty. -/
def State.table (s : State) (q : Nat) : Table :=
  let mine := s.omem.filter (fun c => decide (tableMem q ≤ c.1 ∧ c.1 < tableMem q + 0x20000))
  let idx := (mine.map (fun c => (c.1 - tableMem q) / 16)).foldr (fun i l => if l.head? = some i then l else i :: l) []
  idx.map (fun i => (i, BitVec.ofNat 128 (leNat (s.memBytes (tableMem q + 16 * i) 16))))

/-- R63: the tables of a list of clusters pass the load checks. -/
def State.tablesOk (s : State) (qs : List Nat) : Bool := qs.all (fun q => (s.table q).ok)

/-- R62, R64: the tasks at home in a cluster, as its table holds them. -/
def State.tableTasks (s : State) (given : List TaskDef) (q : Nat) : List TaskDef :=
  let t := s.table q
  ((t.filter (fun x => decide (entryKind x.2 = 1))).map (fun x => t.task given x.1 x.2)).filter (fun d => decide (tdHome d = q))

/-- R62, R430: the tasks of the image: those that the tables hold, and the given ones that no table holds (log entry 148). -/
def State.tablesTasks (s : State) (given : List TaskDef) : List TaskDef :=
  let held := (List.range 32).flatMap (s.tableTasks given)
  held ++ given.filter (fun d => !held.any (fun x => decide (tdTask x = tdTask d)))

end Sys2Proof.Machine
end

