-- ==== Sys2Proof/Machine/Image.lean ====
section
/-!
DEFINITION. Sys2Proof/Machine/Image.lean: the image banks: their checks, the choice at start, VERIFY (R422 to R428, R433 to R435),
the load of the sections at start (R420, R426 to R430), and the NVM transactions and the key store (R423, R427, R433).
-/
namespace Sys2Proof.Machine

/-! Image format. -/

/-- Table 17-3: a directory entry as it lies in a bank: TYPE, INDEX, OFFSET, SLEN, CRC. -/
structure DirEntry where
  typ : Nat
  index : Nat
  off : Nat
  len : Nat
  crc : Nat
deriving DecidableEq, Repr

/-- Directory entry `i` of a bank. -/
def State.dirEntry (s : State) (k i : Nat) : DirEntry :=
  let a := 128 + 16 * i
  { typ := s.nvmNat k a 1, index := s.nvmNat k (a + 1) 1, off := s.nvmNat k (a + 4) 4, len := s.nvmNat k (a + 8) 4
    crc := s.nvmNat k (a + 12) 4 }

/-- LENGTH of a bank's image. -/
def State.imgLength (s : State) (k : Nat) : Nat := s.nvmNat k 12 4

/-- The directory of a bank. -/
def State.directory (s : State) (k : Nat) : List DirEntry := (List.range (s.nvmNat k 20 2)).map (s.dirEntry k)

/-- The first 64 entries of the directory: as many as a valid one may have (R424). -/
def State.sections (s : State) (k : Nat) : List DirEntry := (List.range (min (s.nvmNat k 20 2) 64)).map (s.dirEntry k)

/-- The SHA-256 that a bank holds at LENGTH. -/
def State.imgSha (s : State) (k : Nat) : List Byte := s.nvmBytes k (s.imgLength k) 32

/-- R424, Table 17-6, check 2: the header is valid. -/
def State.headerValid (s : State) (k : Nat) : Bool :=
  s.headerOk k && decide (s.nvmNat k 6 2 = 128 ∧ 1 ≤ s.nvmNat k 8 4 ∧ s.nvmNat k 8 4 ≤ 0xFFFFFFFE ∧
    s.imgLength k ≤ 16 * 2 ^ 20 - 96)

/-- Table 17-4: the required sections. -/
def requiredSections : List (Nat × Nat) :=
  [(1, 0), (2, 0), (3, 0), (3, 1), (3, 2), (3, 3), (3, 4), (3, 5), (3, 6), (3, 7), (4, 0), (5, 0), (7, 0), (10, 0), (11, 0),
   (12, 0), (14, 0), (15, 0), (16, 0)]

/-- R424, R425, Table 17-6, check 3: the directory and the sections lie within LENGTH, entries are ordered and unique, sections
are aligned and do not overlap, every required section is present. -/
def State.directoryValid (s : State) (k : Nat) : Bool :=
  let d := s.directory k
  let key := fun (e : DirEntry) => 256 * e.typ + e.index
  decide (1 ≤ d.length ∧ d.length ≤ 64 ∧ 128 + 16 * d.length ≤ s.imgLength k) &&
    d.all (fun e => decide (e.off % 256 = 0 ∧ 128 + 16 * d.length ≤ e.off ∧ e.off + e.len ≤ s.imgLength k)) &&
    decide (d.Pairwise (fun x y => key x < key y)) &&
    decide (d.Pairwise (fun x y => x.off + x.len ≤ y.off ∨ y.off + y.len ≤ x.off)) &&
    requiredSections.all (fun r => d.any (fun e => decide (e.typ = r.1 ∧ e.index = r.2)))

/-- Table 17-6, check 4: the first directory entry whose section fails its CRC. -/
def State.firstBad (s : State) (k : Nat) : Option Nat :=
  (s.directory k).findIdx? (fun e => decide ((crc32c (s.nvmBytes k e.off e.len)).toNat ≠ e.crc))

/-- SIG_FLAGS.SIGNED. -/
def State.imgSigned (s : State) (k : Nat) : Bool := (s.nvmByte k 16).getLsbD 0

/-- Table 17-6: a bank's validity, and FIRST_BAD. -/
def State.bankCheck (s : State) (k : Nat) : Nat × Nat :=
  if (s.nvmBytes k 0 128).all (· = 0xFF) then (1, 0)
  else if !s.headerValid k then (2, 0)
  else if !s.directoryValid k then (3, 0)
  else match s.firstBad k with
    | some i => (4, i)
    | none =>
      if sha256 (s.nvmBytes k 0 (s.imgLength k)) ≠ s.imgSha k then (5, 0)
      else match s.keyStore with
        | some key =>
          if s.imgSigned k && Config.ed25519Verify key (s.imgSha k) (s.nvmBytes k (s.imgLength k + 32) 64) then (0, 0) else (6, 0)
        | none => (0, 0)

/-! Registers of the banks. -/

/-- A bank's validity. -/
def State.validity (s : State) (k : Nat) : Nat := s.get (Fld.IMG_BANKk_STAT_VALIDITY k)

/-- Table 17-13: LIVE and CONFLICT of a bank against the running image. -/
def State.bankRelation (s : State) (k : Nat) : State :=
  let v := s.validity k
  let head := decide (v ≠ 1 ∧ v ≠ 2 ∧ s.get Fld.IMG_STAT_NO_IMAGE = 0)
  let s := s.setBit (Fld.IMG_BANKk_STAT_LIVE k)
    (head && decide (s.nvmNat k 22 1 = 1 ∧ s.nvmBytes k 32 32 = s.runSha))
  s.setBit (Fld.IMG_BANKk_STAT_CONFLICT k)
    (head && decide (v = 0 ∧ s.rd (Reg.IMG_BANKk_GEN k) = s.rd Reg.IMG_RUNGEN ∧ s.imgSha k ≠ s.runSha))

/-- A bank's registers after its check. -/
def State.bankChecked (s : State) (k : Nat) : State :=
  let x := s.bankCheck k
  let head := decide (x.1 ≠ 1 ∧ x.1 ≠ 2)
  let s := (s.set (Fld.IMG_BANKk_STAT_VALIDITY k) x.1).set (Fld.IMG_BANKk_STAT_FIRST_BAD k) x.2
  let s := s.setBit (Fld.IMG_BANKk_STAT_SIGNED k) (head && s.imgSigned k)
  s.wr (Reg.IMG_BANKk_GEN k) (BitVec.ofNat 32 (if head then s.nvmNat k 8 4 else 0))

/-- A bank becomes UNCHECKED (R423); a VERIFY that reads it is void. -/
def State.bankUnchecked (s : State) (k : Nat) : State :=
  let s : State := { s with img := { s.img with verifying := s.img.verifying.filter (fun b => decide (b ≠ k)) } }
  s.set (Fld.IMG_BANKk_STAT_VALIDITY k) 7

/-- Table 19-3: DATA of image events. -/
def State.imgData (s : State) : List Byte :=
  le32 (s.rd Reg.IMG_STAT) ++ le32 (s.rd (Reg.IMG_BANKk_STAT 0)) ++ le32 (s.rd (Reg.IMG_BANKk_STAT 1)) ++ le32 (s.rd Reg.IMG_RUNGEN)

/-- An image event. -/
def State.imgEvent (s : State) (code : Nat) : State := s.raise code 0 s.imgData

/-- A bank's image is the running image: its identity and its cover (R424, R443). -/
def State.runBank (s : State) (k : Nat) : State :=
  let sha := s.imgSha k
  let s := (s.set Fld.IMG_STAT_RUN_BANK k).wr Reg.IMG_RUNGEN (BitVec.ofNat 32 (s.nvmNat k 8 4))
  let s := s.each (List.range 8) (fun w s => s.wr (Reg.IMG_RUNSHAw w) (BitVec.ofNat 32 (leNat ((sha.drop (4 * w)).take 4))))
  let s := s.setBit Fld.FLT_STAT_COVER ((s.nvmByte k 23).getLsbD 0)
  let s := s.setBit Fld.FLT_STAT_REGION_BOUND (decide (s.nvmByte k 24 = 0xFF))
  (s.bankRelation 0).bankRelation 1

/-- Table 17-7: the bank that runs; none for NO_IMAGE. -/
def State.bankChoice (s : State) : Option Nat :=
  let gen := fun k => (s.rd (Reg.IMG_BANKk_GEN k)).toNat
  match decide (s.validity 0 = 0), decide (s.validity 1 = 0) with
  | true, true => some (if gen 0 < gen 1 then 1 else 0)
  | true, false => some 0
  | false, true => some 1
  | false, false => none

/-- R434, R435: the choice of Table 17-7 made and recorded. -/
def State.chooseBank (s : State) : State := match s.bankChoice with
  | none =>
    let s := (((s.set Fld.IMG_STAT_NO_IMAGE 1).set Fld.IMG_STAT_ONE_BANK 0).bankRelation 0).bankRelation 1
    s.imgEvent 0x1803
  | some k =>
    let s := (s.set Fld.IMG_STAT_NO_IMAGE 0).runBank k
    let one := decide (s.validity (1 - k) ≠ 0)
    let s := s.setBit Fld.IMG_STAT_ONE_BANK one
    let conflict := decide (s.get (Fld.IMG_BANKk_STAT_CONFLICT (1 - k)) = 1)
    let s := s.setBit Fld.IMG_STAT_CONFLICT conflict
    let s := if conflict then s.imgEvent 0x1801 else s
    if one then s.imgEvent 0x1802 else s

/-- IMAGE_CHECK_DONE (R420, R433, R434): both images are checked and the bank is chosen. -/
def State.imageCheckDone (s : State) : State :=
  if s.get Fld.SYS_STAT_START ≠ 4 then s else (((s.bankChecked 0).bankChecked 1).chooseBank).startStep 5

/-- IMG_CMD.OP = VERIFY (R433, R443): the bank is read and checked. -/
def State.imgVerify (s : State) (k : Nat) : State :=
  if k ∈ s.img.verifying then s else { s with img := { s.img with verifying := s.img.verifying ++ [k] } }

/-- BANK_VERIFY_DONE (R433, R435): the check ends; a conflict that is no more clears. -/
def State.bankVerifyDone (s : State) (k : Nat) : State :=
  if k ∉ s.img.verifying then s
  else
    let s : State := { s with img := { s.img with verifying := s.img.verifying.filter (fun b => decide (b ≠ k)) } }
    let s := (s.bankChecked k).bankRelation k
    if k = 1 ∧ s.get (Fld.IMG_BANKk_STAT_CONFLICT 1) = 0 then (s.set Fld.IMG_STAT_CONFLICT 0).slhSync else s

/-- IMAGE_CONFLICT_REPEAT (R435). -/
def State.conflictRepeat (s : State) : State := if s.get Fld.IMG_STAT_CONFLICT = 1 then s.imgEvent 0x1801 else s

/-! The load of the sections at start (R420, R426 to R430). -/

/-- R408: a gate whose block the image declares: it gives a register behind it, or binds the serial port. -/
def gateDeclared (c : ImageCfg) (reg bit : Nat) : Bool :=
  c.regs.any (fun x => decide (gateOf x.1 = some (reg, bit))) || (reg = 1 && bit < 16 && (c.uart.getD bit (0, 0)).1 ≠ 0)

/-- R408: Acorn opens the gates of the declared blocks. -/
def State.openGates (s : State) (c : ImageCfg) : State :=
  let word := fun (reg : Nat) => BitVec.ofNat 32 ((List.range 32).foldl (fun a b => if gateDeclared c reg b then a + 2 ^ b else a) 0)
  (s.wr Reg.CLK_GATE0 (word 0)).wr Reg.CLK_GATE1 (word 1)

/-- The CLOCK section: fitted sources and the crystal's mode; under COLD the crystal stops until the reference trips. -/
def State.loadClock (s : State) (c : ClockCfg) : State :=
  let s := s.setBit Fld.CLK_STAT_XTAL_COLD c.xtalCold
  let stop := !c.xtalFitted || (c.xtalCold && !s.srcSelected .crystal)
  let s : State := if stop then { (s.set Fld.CLK_STAT_XTAL_RDY 0) with clk := { s.clk with xtalEnabled := false, xtalMet := false } }
    else s
  if c.refFitted then s else { (s.set Fld.CLK_STAT_REF_RDY 0) with clk := { s.clk with refEnabled := false, refMet := false } }

/-- R428, R429: the records that the part loads from a bank's sections, each with its section's TYPE and INDEX; none from a bank
that is not VALID (log entry 9). -/
def State.bankRecords (s : State) (k : Nat) : List (Nat × Nat × ParamRec) :=
  if s.validity k ≠ 0 then []
  else (s.sections k).flatMap fun e =>
    (sectionRecords (s.nvmBytes k e.off e.len)).map (fun r => (e.typ, e.index, r))

/-- R429: what the sections hold, with the values that a bank's records give. -/
def State.bankCfg (s : State) (k : Nat) (c : ImageCfg) : ImageCfg :=
  (s.bankRecords k).foldl (fun c x => setRecord regReset x.1 x.2.1 c x.2.2) c

/-- R14: the spares of a cluster are power-gated, the highest units first.  A unit that is fenced is none, and a unit that an
earlier load of the section chose is one already, or was called on and stays active (R231, log entry 155). -/
def State.loadSpares (s : State) (q n : Nat) : State :=
  let was := s.get (Fld.CLU_UNITSTAT_SPARES q)
  let s := s.set (Fld.CLU_UNITSTAT_SPARES q) n
  s.each ((List.range n).drop was) fun j s =>
    let u := 7 - j
    if s.unitState q u = 3 then s
    else ((s.setUnit q u 2).maskBanks q u).set Fld.FLT_SPARE_SPARES_LEFT (s.get Fld.FLT_SPARE_SPARES_LEFT + 1)

/-- The addresses of a region (Table 2-20). -/
def inRegion (g a : Nat) : Bool := a / 0x02000000 = 8 * (g / 4 + 1) + g % 4

/-- The regions of the part. -/
def allRegions : List Nat := List.range 8

/-- R428, R430: the memory contents that the sections of a list of regions give: the words that they hold, then the MEMORY records
of a bank, each within its own region. -/
def State.loadMemory (s : State) (k : Nat) (gs : List Nat) (c : RegionCfg) : State :=
  let s := s.each (c.memory.filter (fun x => gs.any (inRegion · x.1))) (fun x s => s.memWr x.1 x.2)
  let recs := (s.bankRecords k).filter (fun x => decide (x.1 = 3 ∧ x.2.1 ∈ gs ∧ x.2.2.kind = 3))
  s.each recs fun x s =>
    let a := 0x10000000 * (x.2.1 / 4 + 1) + x.2.2.value
    if inRegion x.2.1 a then s.memPut a x.2.2.blob else s

/-- R81, R430: a register of a region takes the fields that its section may load; its counters and status bits stay. -/
def State.loadReg (s : State) (a : Nat) (v : Word) : State := match regRow a with
  | none => s
  | some r =>
    let m : Word := BitVec.ofNat 32 (r.rw ||| r.rws)
    s.wr a ((s.rd a &&& ~~~m) ||| (v &&& m))

/-- The address of a port's CTRL register. -/
def portCtrl : ArbPort → Nat
  | .bank q b => Reg.BANKARB_CTRL q b
  | .egress g => Reg.EGRARB_CTRL g

/-- The ports of a region. -/
def regionPorts (g : Nat) : List ArbPort := (List.range 4).flatMap (fun c => bankPorts (4 * g + c)) ++ [ArbPort.egress (Fin.ofNat 8 g)]

/-- R14, R52, R430: the registers and spares of a region's section; a port whose CTRL is written counts its grants from 0. -/
def State.loadRegion (s : State) (g : Nat) (c : RegionCfg) : State :=
  let mine := c.regs.filter (fun x => inRegion g x.1)
  let s := s.each mine (fun x s => s.loadReg x.1 x.2)
  let s := s.each ((regionPorts g).filter (fun p => mine.any (fun x => decide (x.1 = portCtrl p))))
    (fun p s => s.modArb p (fun a => { a with grants := 0 }))
  s.each (List.range 4) (fun i s => s.loadSpares (4 * g + i) (min 4 (c.spares.getD g 0)))

/-- The REGION sections: registers, spares, and every task at home (R430). -/
def State.loadRegions (s : State) (c : RegionCfg) : State :=
  let s := s.each allRegions (fun g s => s.loadRegion g c)
  s.each s.tasks (fun d s => if s.canRun (tdHome d) d then s.setPlace d (some (tdHome d)) else s.relocate d)

/-- R460: the channels that exist from start-up. -/
def State.loadChannels (s : State) (c : ChannelsCfg) : State :=
  let cls := fun (n : Nat) => if n = 0 then ChanClass.timed else if n = 1 then .frame else if n = 2 then .period else .umber
  let s : State := { s with chans := c.live.map (fun d => { typ := d.typ, index := d.index, cls := cls d.cls, task := d.task }) }
  s.each c.live (fun d s => s.srcCreate d.typ d.index)

/-- R380, R387, R393: chains and pulse inputs start as declared, outputs go to their SAFE codes. -/
def State.loadAnalogue (s : State) (c : ImageCfg) : State :=
  let given := fun (n : Nat) => c.regs.any (fun x => decide (x.1 = Reg.CHn_CFG n))
  let s := s.each ((List.range 64).filter (fun n => given n && decide (n ∉ c.ana.expertTaps))) (fun n s => s.defaultTaps n)
  ((s.each c.ana.chainRun (fun n s => s.chainStart n)).each c.ana.pinRun (fun i s => s.pinStart i)).aoutSafe

/-- R312: every controller takes its section's mode. -/
def State.loadCan (s : State) (c : ImageCfg) : State :=
  s.each c.can.zipIdx (fun (x, n) s => s.canApplyMode n (s.roleMode x.mode))

/-- R354, R368: the rate and the mode of the time base; the first firing of comparator 0 is open. -/
def State.loadTime (s : State) (c : TimeCfg) : State :=
  let s := ((s.wr Reg.TB_INC c.tbInc).setBit Fld.TB_STAT_COMPAT c.compat)
  (s.wr (Reg.TB_TRIGm_TIME 0) s.freeWord).fresh

/-- SECTIONS_LOADED (R14, R255, R408, R420, R426, R429, R430): every section is in force, and the part starts in STANDBY. -/
def State.loadSections (s : State) (c : ImageCfg) : State :=
  let s : State := { s with base := some c, cfg := some c }
  let s := s.each c.regs (fun x s => s.wr x.1 x.2)
  let s := ((s.openGates c).loadClock c.clock).loadTime c.time
  let s := s.loadRegions c.region
  let s := (s.set Fld.SLH_STAT_MEMBER s.member).set Fld.SLH_STAT_GROUP_SIZE c.grp.size
  let s := (s.loadChannels c.channels).ownSync
  let s := (s.loadAnalogue c).loadCan c
  let s := s.thrInit.slateLoad c.slate
  (s.overlayAgain.startStep 9).groupStart

/-- R62, R429: what the running bank's sections hold, its tasks as the loaded tables hold them. -/
def State.loadedCfg (s : State) (c : ImageCfg) : ImageCfg :=
  let k := s.get Fld.IMG_STAT_RUN_BANK
  let c := s.bankCfg k c
  { c with region := { c.region with tasks := (s.loadMemory k allRegions c.region).tablesTasks c.region.tasks } }

/-- R63: the schedule tables of the running bank's sections pass the load checks. -/
def State.loadOk (s : State) (c : ImageCfg) : Bool :=
  let k := s.get Fld.IMG_STAT_RUN_BANK
  (s.loadMemory k allRegions (s.bankCfg k c).region).tablesOk (List.range 32)

/-- SECTIONS_LOADED: a section that fails its load checks makes its bank LOAD_FAIL, and the choice is made once more (R434). -/
def State.sectionsLoaded (s : State) (loadFail : Bool) (c : ImageCfg) : State :=
  let k := s.get Fld.IMG_STAT_RUN_BANK
  if s.get Fld.SYS_STAT_START ≠ 5 ∨ s.get Fld.IMG_STAT_NO_IMAGE = 1 ∨ s.cfg.isSome then s
  else if loadFail ∨ !s.loadOk c then (s.set (Fld.IMG_BANKk_STAT_VALIDITY k) 8).chooseBank
  else (s.loadMemory k allRegions (s.bankCfg k c).region).loadSections (s.loadedCfg c)

/-! NVM transactions (R423, R427). -/

/-- R427: an address of a bank lies in its KEYS section. -/
def State.inKeys (s : State) (k a : Nat) : Bool :=
  (s.sections k).any (fun e => decide (e.typ = 16 ∧ e.off ≤ a ∧ a < e.off + e.len))

/-- NVM_READ (R427, Table 18-3). -/
def State.nvmRead (s : State) (k a n : Nat) : State × Resp :=
  if 1 < k ∨ n = 0 ∨ 256 < n ∨ 0x3000000 < a + n then (s, respStatus 3 0)
  else (s, respOk ((List.range n).map (fun i => if s.inKeys k (a + i) then 0 else s.nvmByte k (a + i))))

/-- R423: whether a bank's image slot may change; the refusal code. -/
def State.slotBusy (s : State) (k : Nat) : Nat :=
  if s.get Fld.IMG_STAT_NO_IMAGE = 0 ∧ k = s.get Fld.IMG_STAT_RUN_BANK then 1
  else match s.img.adopting with
    | some (b, _) => if b = k then 2 else 0
    | none => 0

/-- A program or erase of an image slot, accepted or refused (R423). -/
def State.nvmStart (s : State) (k a op : Nat) (data : Option (List Byte)) (r : Req) : State × Resp :=
  let code := s.slotBusy k
  if code ≠ 0 then (s.imgRefuse code Reg.IMG_CMD, respRefused code)
  else
    let x : NvmOp := { bank := k, addr := a, data := data, req := reqRef r op }
    let s : State := { s with img := { s.img with nvmOps := s.img.nvmOps ++ [x] } }
    (s.bankUnchecked k, respPending [])

/-- NVM_WRITE (R423, Table 18-3): within one 256-byte page of an image slot. -/
def State.nvmWrite (s : State) (r : Req) (k a n : Nat) (data : List Byte) : State × Resp :=
  if data.length ≠ n then (s, respStatus 2 0)
  else if 1 < k ∨ n = 0 ∨ 256 < n ∨ 0x1000000 ≤ a ∨ a / 256 ≠ (a + n - 1) / 256 then (s, respStatus 3 0)
  else s.nvmStart k a 0x61 (some data) r

/-- NVM_ERASE (R423, Table 18-3): a 64 KiB sector of an image slot. -/
def State.nvmErase (s : State) (r : Req) (k a : Nat) : State × Resp :=
  if 1 < k ∨ 0x1000000 ≤ a ∨ a % 0x10000 ≠ 0 then (s, respStatus 3 0) else s.nvmStart k a 0x62 none r

/-- `n` bytes from `a` on left open by a failed operation. -/
def State.nvmOpen (s : State) (k a n : Nat) : State :=
  let c := s.freeCtr
  let s := s.each (List.range n) (fun i s => s.setNvm k (a + i) ((Config.freeWord (c + i)).setWidth 8))
  { s with freeCtr := c + n }

/-- NVM_OP_DONE (R453): the oldest program or erase of a bank ends. -/
def State.nvmOpDone (s : State) (k : Nat) (ok : Bool) : State := match s.img.nvmOps.find? (fun x => decide (x.bank = k)) with
  | none => s
  | some x =>
    let s : State := { s with img := { s.img with nvmOps := s.img.nvmOps.erase x } }
    let s := match x.data, ok with
      | some d, true => s.nvmProgram k x.addr d
      | none, true => s.nvmEraseSector k x.addr
      | some d, false => s.nvmOpen k x.addr d.length
      | none, false => s.nvmOpen k x.addr 0x10000
    s.result x.req (if ok then 0 else 1) []

/-- KEY_PROGRAM (R433): the key store is programmed once. -/
def State.keyProgram (s : State) (key : List Byte) : State × Resp :=
  if key.length ≠ 32 then (s, respStatus 2 0)
  else if s.keyStore.isSome then ((s.imgRefuse (s.freeWord.toNat % 16) Reg.IMG_CMD).fresh, respRefused (s.freeWord.toNat % 16))
  else (({ s with keyStore := some key }).set Fld.IMG_STAT_KEYSTATE 1, respOk [])

/-! The commands. -/

def execImageCheckDone (s : State) : Host.Outcome State Fault Refusal := .next (s.running State.imageCheckDone)
def execSectionsLoaded (loadFail : Bool) (cfg : ImageCfg) (s : State) : Host.Outcome State Fault Refusal :=
  .next (s.running (fun s => s.sectionsLoaded loadFail cfg))
def execImgVerify (bank : Fin 2) (s : State) : Host.Outcome State Fault Refusal := .next (s.running (fun s => s.imgVerify bank))
def execBankVerifyDone (bank : Fin 2) (s : State) : Host.Outcome State Fault Refusal := .next (s.running (fun s => s.bankVerifyDone bank))
def execImgCntClr (s : State) : Host.Outcome State Fault Refusal := .next (s.running (fun s => s.wr Reg.IMG_CNT 0))
def execImageConflictRepeat (s : State) : Host.Outcome State Fault Refusal := .next (s.running State.conflictRepeat)
/-- Table 18-3: the arguments of NVM_READ, which NVM_WRITE extends by its data. -/
def nvmArgs (bank : Byte) (addr : Word) (len : BitVec 16) : List Byte := [bank, 0, 0, 0] ++ le32 addr ++ leBytes 2 len.toNat ++ [0, 0]
def execNvmRead (r : Req) (bank : Byte) (addr : Word) (len : BitVec 16) (s : State) : Host.Outcome State Fault Refusal :=
  .next (s.command r 0x60 (nvmArgs bank addr len) { bare := true } (fun s => s.nvmRead bank.toNat addr.toNat len.toNat))
def execNvmWrite (r : Req) (bank : Byte) (addr : Word) (len : BitVec 16) (data : List Byte) (s : State) :
    Host.Outcome State Fault Refusal :=
  .next (s.command r 0x61 (nvmArgs bank addr len ++ data) { bare := true }
    (fun s => s.nvmWrite r bank.toNat addr.toNat len.toNat data))
def execNvmErase (r : Req) (bank : Byte) (addr : Word) (s : State) : Host.Outcome State Fault Refusal :=
  .next (s.command r 0x62 ([bank, 0, 0, 0] ++ le32 addr) { bare := true } (fun s => s.nvmErase r bank.toNat addr.toNat))
def execNvmOpDone (bank : Fin 2) (ok : Bool) (s : State) : Host.Outcome State Fault Refusal :=
  .next (s.running (fun s => s.nvmOpDone bank ok))
def execKeyProgram (r : Req) (key : List Byte) (s : State) : Host.Outcome State Fault Refusal :=
  .next (s.command r 0x63 key {} (fun s => s.keyProgram key))

end Sys2Proof.Machine
end

