-- ==== Sys2Proof/Machine/Reload.lean ====
section
/-!
DEFINITION. Sys2Proof/Machine/Reload.lean: region reload (R438, R439) and the adoption of a new image (R436, R440 to R442).
-/
namespace Sys2Proof.Machine

/-! Region reload. -/

/-- The regions that hold alternate placements of a region's tasks. -/
def State.altRegions (s : State) (g : Nat) : List Nat :=
  ((s.tasks.filter (fun d => decide (tdHome d / 4 = g))).map (fun d => tdAlt d / 4)).eraseDups

/-- R438: a region is moved or isolated. -/
def State.movedOrIsolated (s : State) (g : Nat) : Bool :=
  s.isolated g || s.get (Fld.RGN_PLACE_MOVED_OUT g) = 1 || s.get ⟨Reg.FLT_STAT, 15 + g, 1⟩ = 1

/-- R438: a reload of region g cannot run: no alternate is there for it. -/
def State.noAlternate (s : State) (g : Nat) : Bool := s.cfg.isNone || (s.altRegions g).any (fun h => s.movedOrIsolated h)

/-- A reload begins (Table 17-8); a part that runs no tasks begins with the load (R442). -/
def State.reloadBegin (s : State) (g : Nat) (adopts : Bool) : State :=
  let s : State := { s with img := { s.img with reload := some (g, if s.commanding then 1 else 3), reloadAdopts := adopts } }
  (s.set Fld.IMG_STAT_RELOADING 1).set Fld.IMG_STAT_RLD_REGION g

/-- IMG_CMD.OP = RELOAD_REGION (R438). -/
def State.imgReload (s : State) (g : Nat) : State :=
  if s.img.reload.isSome ∨ (s.img.adopting.isSome ∧ s.get Fld.IMG_STAT_HALTED = 0) then s.imgRefuse 4 Reg.IMG_CMD
  else if s.noAlternate g then s.imgRefuse 5 Reg.IMG_CMD
  else s.reloadBegin g false

/-- The step of Table 17-8 that comes next. -/
def State.reloadStep (s : State) (g k : Nat) : State := { s with img := { s.img with reload := some (g, k) } }

/-- The reload is over. -/
def State.reloadOver (s : State) : State :=
  { s with img := { s.img with reload := none, reloadAdopts := false } }.set Fld.IMG_STAT_RELOADING 0

/-- R173, R438: blocks of region g's tasks are copied to the alternates, or back from them. -/
def State.copyBlocks (s : State) (g : Nat) (solver back : Bool) : State :=
  s.each (s.blocks.filter (fun b => decide (b.home = g ∧ b.solver = solver))) fun b s =>
    let home := regionMem g + b.off
    let alt := regionMem b.alt + b.off
    if s.isolated b.alt ∨ (!back ∧ s.isolated g) then s
    else if back then s.memPut home (s.memBytes alt b.len) else s.memPut alt (s.memBytes home b.len)

/-- ALT_IN of a region as the moved regions are. -/
def State.altInSync (s : State) (g : Nat) : State :=
  s.each (List.range 8) fun h s =>
    if h % 4 ≠ g % 4 ∨ h = g ∨ g ∉ s.altRegions h then s
    else s.setBit ⟨Reg.RGN_PLACE g, h % 4, 1⟩ (decide (s.get ⟨Reg.FLT_STAT, 15 + h, 1⟩ = 1))

/-- R438, step 6: the region takes its tasks again; its maps and its units are as they now stand. -/
def State.regionBack (s : State) (g : Nat) : State :=
  let s := (s.set (Fld.RGN_PLACE_ISOLATED g) 0).set (Fld.RGN_PLACE_MOVED_OUT g) 0
  let s := (s.altIn g 0).altInSync g
  let s := s.each (List.range 4) fun c s => s.each (List.range 8) fun u s =>
    let q := 4 * g + c
    if s.unitState q u = 1 ∧ (s.instOn q u).isNone then s.setUnit q u 0 else s
  let s := s.each s.tasks fun d s =>
    if tdHome d / 4 = g then (if s.canRun (tdHome d) d then s.moveTask d (tdHome d) else s.relocate d)
    else if tdAlt d / 4 = g then s.setPlace d (s.placeOf (tdTask d)) else s
  s.modFab (fun f => { f with noPlace := f.noPlace.filter (fun t => cellsGet 0 f.place t = 0) })

/-- RELOAD_DONE (R438). -/
def State.reloadDone (s : State) (g : Nat) : State :=
  let s := ((s.regionBack g).reloadOver).count Fld.IMG_CNT_RELOADS
  s.imgEvent 0x1804

/-- REGION_RELOAD_STEP (R438): the frame-start step that is due. -/
def State.reloadFrame (s : State) : State := match s.img.reload with
  | some (g, 1) => (s.copyBlocks g true false).reloadStep g 2
  | some (g, 2) =>
    let s := (s.set (Fld.RGN_PLACE_MOVED_OUT g) 1).reloadStep g 3
    (s.altIn g 1).evict 4
  | some (g, 5) => (s.copyBlocks g true true).reloadStep g 6
  | some (g, 6) => s.reloadDone g
  | _ => s

/-- An adoption halts (R441). -/
def State.adoptHalt (s : State) (code : Nat) : State :=
  ((s.set Fld.IMG_STAT_HALTED 1).set Fld.IMG_STAT_HALT_CODE code).count Fld.IMG_CNT_HALTS

/-- RELOAD_FAILED (R439): the region stays moved; an adoption halts. -/
def State.reloadFailed (s : State) : State :=
  let adopts := s.img.reloadAdopts
  let s := (s.reloadOver.count Fld.IMG_CNT_RLD_FAILS).imgEvent 0x1805
  if adopts then s.adoptHalt 2 else s

/-- R437: the bank that a section load reads from: the adopting bank in an adoption, else the running bank. -/
def State.loadBank (s : State) : Nat := match s.img.adopting with
  | some (k, _) => if s.img.reloadAdopts then k else s.get Fld.IMG_STAT_RUN_BANK
  | none => s.get Fld.IMG_STAT_RUN_BANK

/-- R429, R438: what region g's section holds, with the values that the bank's records give it. -/
def State.regionRecords (s : State) (g : Nat) (c : RegionCfg) : RegionCfg := match s.cfgBase with
  | none => c
  | some b => ((((s.bankRecords s.loadBank).filter (fun x => decide (x.1 = 3 ∧ x.2.1 = g))).foldl
      (fun c x => setRecord regReset 3 g c x.2.2) { b with region := c })).region

/-- R63: the section's schedule tables pass the load checks. -/
def State.regionOk (s : State) (g : Nat) (c : RegionCfg) : Bool :=
  (s.loadMemory s.loadBank [g] (s.regionRecords g c)).tablesOk ((List.range 4).map (4 * g + ·))

/-- R62: what the section holds, with the tasks as the loaded tables hold them. -/
def State.regionCfg (s : State) (g : Nat) (c : RegionCfg) : RegionCfg :=
  let c := s.regionRecords g c
  { c with tasks := (s.loadMemory s.loadBank [g] c).tablesTasks c.tasks }

/-- R438, step 3: the section's records are written into the region, and its values take their place. -/
def State.regionLoad (s : State) (g : Nat) (c : RegionCfg) : State :=
  let r := s.regionCfg g c
  let s := s.loadMemory s.loadBank [g] r
  let put := fun (x : ImageCfg) => { x with region := r }
  { s with cfg := s.cfg.map put, base := s.base.map put }.loadRegion g r

/-- REGION_SECTION_LOADED (R63, R438, R439, R442). -/
def State.regionSectionLoaded (s : State) (ok : Bool) (c : RegionCfg) : State := match s.img.reload with
  | some (g, 3) =>
    if !ok ∨ !s.regionOk g c then s.reloadFailed
    else
      let s := s.regionLoad g c
      if s.commanding then s.reloadStep g 4 else s.reloadDone g
  | _ => s

/-- REGION_COPYBACK_DONE (R438): every CARRIED and FRAME block is back. -/
def State.regionCopyback (s : State) : State := match s.img.reload with
  | some (g, 4) => (s.copyBlocks g false true).reloadStep g 5
  | _ => s

/-! Adoption (R440 to R442). -/

/-- The order of Table 17-9 and the instances of a section. -/
def adoptOrder (typ index : Nat) : List (Nat × Nat) :=
  if typ = 3 then [(1, index)] else if typ = 6 then [(2, index)] else if typ = 7 then [(3, 0), (3, 1), (3, 2)]
  else if typ = 8 then [(4, 0)] else if typ = 9 then [(5, 0)] else if 10 ≤ typ ∧ typ ≤ 13 then [(6, 0)]
  else if typ = 15 then [(7, 0)] else if typ = 4 ∨ typ = 5 then [(8, 0)] else []

/-- Every step of Table 17-9, in order. -/
def adoptAll : List (Nat × Nat) :=
  [(1, 0), (1, 1), (1, 2), (1, 3), (1, 4), (1, 5), (1, 6), (1, 7), (2, 0), (2, 1), (2, 2), (2, 3), (2, 4), (2, 5), (2, 6), (2, 7),
   (3, 0), (3, 1), (3, 2), (4, 0), (5, 0), (6, 0), (7, 0), (8, 0)]

/-- R440: the steps that adopting bank k takes: a section whose CRC differs from the running image's. -/
def State.adoptSteps (s : State) (k : Nat) : List (Nat × Nat) :=
  let new := s.directory k
  let old := s.directory (1 - k)
  let missing := fun (l : List DirEntry) (e : DirEntry) =>
    !l.any (fun x => decide (x.typ = e.typ ∧ x.index = e.index ∧ x.crc = e.crc))
  let changed := new.filter (missing old) ++ old.filter (missing new)
  let steps := changed.flatMap (fun e => adoptOrder e.typ e.index)
  adoptAll.filter (fun x => decide (x ∈ steps))

/-- What an adoption has still to do. -/
def State.adoptSet (s : State) (x : Option (Nat × List (Nat × Nat))) : State := { s with img := { s.img with adopting := x } }

/-- IMAGE_ADOPTED (R442): the adopting bank becomes the running bank. -/
def State.imageAdopted (s : State) (k : Nat) : State :=
  let s := (s.adoptSet none).runBank k
  let s := ((s.set Fld.IMG_STAT_MIXED 0).set Fld.IMG_STAT_ADOPTING 0).count Fld.IMG_CNT_ADOPTIONS
  (s.imgEvent 0x1806).slhSync

/-- The next step of the adoption begins, or the adoption is complete. -/
def State.adoptNext (s : State) : State := match s.img.adopting with
  | none => s
  | some (k, []) => s.imageAdopted k
  | some (_, (o, i) :: _) =>
    let s := s.set Fld.IMG_STAT_ADOPT_STEP (o - 1)
    if o = 1 then (if s.noAlternate i then s.adoptHalt 2 else s.reloadBegin i true)
    else if o = 2 then s.canReinitStart i
    else if o = 3 then s.ethReinitStart i
    else s

/-- R440: why bank k may not be adopted: 0 if it may. -/
def State.adoptCode (s : State) (k : Nat) : Nat :=
  if s.validity k ≠ 0 ∨ s.get Fld.IMG_STAT_CONFLICT = 1 then 6
  else if (s.rd (Reg.IMG_BANKk_GEN k)).toNat ≤ (s.rd Reg.IMG_RUNGEN).toNat then 8
  else if s.get (Fld.IMG_BANKk_STAT_LIVE k) = 0 ∨ s.cfg.isNone then 7
  else 0

/-- IMG_CMD.OP = ADOPT (R440, R441): an adoption starts, or a halted one resumes at its step. -/
def State.imgAdopt (s : State) (k : Nat) : State :=
  if s.get Fld.IMG_STAT_NO_IMAGE = 0 ∧ k = s.get Fld.IMG_STAT_RUN_BANK then s.imgRefuse 3 Reg.IMG_CMD
  else if s.img.reload.isSome then s.imgRefuse 4 Reg.IMG_CMD
  else match s.img.adopting with
    | some _ =>
      if s.get Fld.IMG_STAT_HALTED = 0 then s.imgRefuse 4 Reg.IMG_CMD
      else ((s.set Fld.IMG_STAT_HALTED 0).set Fld.IMG_STAT_HALT_CODE 0).adoptNext
    | none =>
      let code := s.adoptCode k
      if code ≠ 0 then s.imgRefuse code Reg.IMG_CMD
      else ((s.adoptSet (some (k, s.adoptSteps k))).set Fld.IMG_STAT_ADOPTING 1).adoptNext

/-- The registers that a step of Table 17-9 loads. -/
def adoptOwns (o i a : Nat) : Bool :=
  let w := a / 0x10000
  if o = 2 then canWindow i a
  else if o = 3 then
    if i < 2 then ethWindow i a else decide ((w = 18 ∨ w = 9) ∧ ¬ ethWindow 0 a ∧ ¬ ethWindow 1 a)
  else if o = 4 then w = 17 else if o = 5 then w = 16 else if o = 6 then decide (11 ≤ w ∧ w ≤ 15)
  else if o = 7 then w = 8 else if o = 8 then w = 10 else false

/-- The configuration with the sections of one step taken from the new image. -/
def adoptCfg (o i : Nat) (old new : ImageCfg) : ImageCfg :=
  let c := { old with regs := old.regs.filter (fun x => !adoptOwns o i x.1) ++ new.regs.filter (fun x => adoptOwns o i x.1) }
  if o = 2 then { c with can := c.can.zipIdx.map (fun (x, n) => if n = i then new.can.getD i x else x) }
  else if o = 3 then { c with net := new.net, grp := new.grp }
  else if o = 4 then { c with ana := new.ana }
  else if o = 5 then { c with srv := new.srv }
  else if o = 6 then { c with fus := new.fus, ctl := new.ctl, alc := new.alc, uart := new.uart, powerHandle := new.powerHandle }
  else if o = 7 then { c with recorder := new.recorder }
  else if o = 8 then { c with slate := new.slate }
  else c

/-- The registers among `p` whose section values differ. -/
def regsDiffer (old new : ImageCfg) (p : Nat → Bool) : Bool :=
  decide (old.regs.filter (fun x => p x.1) ≠ new.regs.filter (fun x => p x.1))

/-- Order 4: each changed chain, pulse input and voltage output is re-initialised. -/
def State.adoptAnalogue (s : State) (old new : ImageCfg) : State :=
  let chain := fun (n a : Nat) => decide ((Reg.CHn_CFG n ≤ a ∧ a < Reg.CHn_CFG n + 0x40) ∨
    (Reg.CHn_TAPj n 0 ≤ a ∧ a < Reg.CHn_TAPj n 0 + 0x100))
  let pin := fun (i a : Nat) => decide (Reg.PINi_CFG i ≤ a ∧ a < Reg.PINi_CFG i + 0x20)
  let aout := fun (n a : Nat) => decide (Reg.AOUTn_CFG n ≤ a ∧ a < Reg.AOUTn_CFG n + 0x10)
  let chains := (List.range 64).filter (fun n => regsDiffer old new (chain n) ||
    decide ((n ∈ old.ana.chainRun) ≠ (n ∈ new.ana.chainRun)) || decide ((n ∈ old.ana.expertTaps) ≠ (n ∈ new.ana.expertTaps)))
  let pins := (List.range 32).filter (fun i => regsDiffer old new (pin i) || decide ((i ∈ old.ana.pinRun) ≠ (i ∈ new.ana.pinRun)))
  let outs := (List.range 32).filter (fun n => regsDiffer old new (aout n) || decide (old.ana.aout[n]? ≠ new.ana.aout[n]?))
  let rest := new.regs.filter (fun x => adoptOwns 4 0 x.1 && !(List.range 64).any (fun n => chain n x.1) &&
    !(List.range 32).any (fun i => pin i x.1) && !(List.range 32).any (fun n => aout n x.1))
  let s := s.each chains (fun n s =>
    let s := s.chainReinit n
    if n ∈ new.ana.expertTaps then s else s.defaultTaps n)
  let s := s.each pins (fun i s => s.pinReinit i)
  let s := s.each outs fun n s =>
    let s := s.each (new.regs.filter (fun x => aout n x.1)) (fun x s => s.wr x.1 x.2)
    match new.ana.aout[n]? with
    | some a => s.set (Fld.AOUTn_STAT_OUT n) a.safe
    | none => s
  (s.each rest (fun x s => s.wr x.1 x.2)).ownSync

/-- Order 5: the new values of each changed loop wait for its next boundary, as an overlay's do (R222). -/
def State.adoptServo (s : State) (old new : ImageCfg) : State :=
  let mine := fun (n a : Nat) => decide (Reg.SRVn_CFG n ≤ a ∧ a < Reg.SRVn_CFG n + 0x80)
  (s.each ((List.range 64).filter (fun n => regsDiffer old new (mine n))) (fun n s =>
    let ws := new.regs.filter (fun x => mine n x.1) ++ overlayLoop (s.overlay s.mode) n
    s.modLoop n (fun x => { x with overlay := some ws }))).ownSync

/-- R440: one step of Table 17-9 ends: its sections are in force. -/
def State.adoptApply (s : State) (o i : Nat) (new : ImageCfg) : State := match s.cfgBase with
  | none => s
  | some old =>
    let was := s.overlay s.mode
    let c := adoptCfg o i old new
    let s : State := { s with base := some c, cfg := some (withOverlay c (c.ctl.overlays.find? (fun x => decide (x.mode = s.mode)))) }
    let write := fun (s : State) => s.each (c.regs.filter (fun x => adoptOwns o i x.1)) (fun x s => s.wr x.1 x.2)
    if o = 2 then s.canReinitDone i
    else if o = 3 then (if i = 2 then ((write s).set Fld.SLH_STAT_GROUP_SIZE c.grp.size).ethReinitDone 2 else s.ethReinitDone i)
    else if o = 4 then s.adoptAnalogue old c
    else if o = 5 then s.adoptServo old c
    else if o = 6 then (write s).overlayMove was (s.overlay s.mode)
    else if o = 7 then (write s).recorderReinit
    else s

/-- R303, R441: the safety sections of the new image run already. -/
def State.safetyAdopted (s : State) (new : ImageCfg) : Bool :=
  decide (s.saf.slate.table.map (·.crc) = some new.slate.crc ∧ s.saf.cobalt.table.map (·.crc) = some new.slate.crc)

/-- ADOPT_STEP_DONE (R440, R441, R442): a step ends; a region step ends only after its reload. -/
def State.adoptStepDone (s : State) (out : AdoptOutcome) (given : ImageCfg) : State := match s.img.adopting with
  | some (k, (o, i) :: rest) =>
    let new := s.bankCfg k given
    if s.get Fld.IMG_STAT_HALTED = 1 ∨ (o = 1 ∧ s.img.reload.isSome) then s
    else match out with
      | .inUse => s.adoptHalt 1
      | .loadFail => s.adoptHalt 2
      | .waitSafe => s.adoptHalt 3
      | .done =>
        if o = 8 ∧ !s.safetyAdopted new then s.adoptHalt 3
        else (((s.adoptApply o i new).set Fld.IMG_STAT_MIXED 1).adoptSet (some (k, rest))).adoptNext
  | _ => s

/-! The commands. -/

def execImgAdopt (bank : Fin 2) (s : State) : Host.Outcome State Fault Refusal := .next (s.running (fun s => s.imgAdopt bank))
def execImgReloadRegion (g : Fin 8) (s : State) : Host.Outcome State Fault Refusal := .next (s.running (fun s => s.imgReload g))
def execRegionSectionLoaded (ok : Bool) (cfg : RegionCfg) (s : State) : Host.Outcome State Fault Refusal :=
  .next (s.running (fun s => s.regionSectionLoaded ok cfg))
def execRegionCopybackDone (s : State) : Host.Outcome State Fault Refusal := .next (s.running State.regionCopyback)
def execAdoptStepDone (outcome : AdoptOutcome) (cfg : ImageCfg) (s : State) : Host.Outcome State Fault Refusal :=
  .next (s.running (fun s => s.adoptStepDone outcome cfg))

end Sys2Proof.Machine
end

