-- ==== Sys2Proof/Machine/Frame.lean ====
section
/-!
DEFINITION. Sys2Proof/Machine/Frame.lean: the frame start and the emission time (R26 to R28, R248, R249, R368), the firing of
comparators 1 to 15 (R367, R369), and the step of the time base (R357, R358, R371).
-/
namespace Sys2Proof.Machine

/-! The frame start. -/

/-- R26, R28: the frame count and, at its first frame, the period; the first frame has count 0. -/
def State.nextFrame (s : State) : State :=
  let k := if s.frame.started then (s.frame.count + 1) % 2 ^ 32 else 0
  let s : State := { s with frame := { s.frame with started := true, count := k, start := s.now, emitted := false } }
  if s.periodFrame then { s with frame := { s.frame with period := k / s.framesPerPeriod, periodStart := s.now } } else s

/-- GUARANTEE_CONFLICT (R249): the markers of REASON 1 to 6 of frame k, at the start of frame k + 1. -/
def State.guaranteeConflict (s : State) (k : Nat) : State :=
  let n := cellsGet 0 s.fab.conflicts k
  let s := s.modFab (fun f => { f with conflicts := f.conflicts.filter (fun e => decide (k < e.1)) })
  if n = 0 then s
  else (s.count Fld.FLT_MARK_CONFLICTS).conflictEvent 2 3 n k

/-- What belongs to one frame only is cleared.  An epoch that is still to be published is late (R95). -/
def State.frameClear (s : State) : State :=
  let s := s.modGrp (fun g => { g with seam := none })
  let s : State := { s with fus := { s.fus with
    nextLate := s.fus.nextLate || s.fus.next.isSome, published := false, deadline := false } }
  (s.modCtl (fun c => { c with fusionAge := false })).modFab (fun f => { f with slackRaised := 0, aborts := [] })

/-- The frame-start work of the commanding part, before its slots open: mode and control decisions, the adopted plan, the
allocation problem and the force box. -/
def State.frameControl (s : State) : State := if s.commanding then (((s.ctlFrame).planAdopt).alcFrame).formBox else s

/-- R245, R65, R236: on the commanding part the slots of the frame open, tasks without a placement are tried again, and the root
tasks are released. -/
def State.frameWork (s : State) : State :=
  if s.commanding then
    let k := s.frame.count
    let s := (s.openSlots .timed k).openSlots .frame k
    let s := if s.periodFrame then s.openSlots .period s.periodSlot else s
    s.placementRetry.releaseRoots s.periodFrame
  else s

/-- FRAME_START (R368): comparator 0 fires. -/
def State.frameStart (s : State) : State :=
  if s.cfg.isNone ∨ s.get Fld.SYS_STAT_START < 9 then s
  else
    let s := (s.compFire 0).anaFrame
    let s : State := { s with tb := { s.tb with stepDue := s.tb.stepDue || s.tb.step.isSome } }
    let s := s.closeSlots .frame
    let s := if s.frame.started then s.guaranteeConflict s.frame.count else s
    let s := (s.nextFrame.anaLatch).frameClear
    let was := s.mode
    let s := ((s.handoverStart.standbyMode).triggerAlign).chanFrame
    let s := s.ethSwapApply.frameControl
    let s := if s.mode = was then s.reloadFrame else s
    let s := s.frameWork
    if s.get Fld.SLH_STAT_ROLE = 2 then s else s.healthTx

/-! The emission time. -/

/-- EMISSION_TIME (R26, R30, R101, R147, R248, R261, R388). -/
def State.emissionTime (s : State) : State :=
  if !s.frame.started ∨ s.frame.emitted then s
  else
    let own := s.ownFrame
    let s := if own then s.directElements.ctlEmit else s
    let s := s.releaseTimed.closeSlots .timed
    let s := if s.commanding then s.loopEmit.aoutEmit else s
    let s := if own then s.sentShift else s
    let s : State := { s with frame := { s.frame with emitted := true } }
    if own then s.stateTx else s

/-! Comparators 1 to 15. -/

/-- COMPARATOR_FIRE (R367, R369, R388): an enabled comparator whose TIME has come fires its target. -/
def State.comparatorFire (s : State) (m : Nat) : State :=
  if m = 0 ∨ !s.compOn m ∨ !s.compPassed m then s
  else
    let s := s.compFire m
    let t := s.get (Fld.TB_TRIGm_CFG_TARGET m)
    let s := if t = 1 then s.chainFire m else if t = 2 then s.trigPulse m else s
    s.aoutFire m

/-! The step of the time base (R357, R358). -/

/-- R358: the sample stamps of fusion. -/
def shiftRaw (S : Int) (x : RawSample) : RawSample := { x with arrival := x.arrival + S, stamped := x.stamped.map (· + S) }

/-- R358: a stamped sample. -/
def shiftSample (S : Int) (x : Sample) : Sample := { x with stamp := x.stamp + S }

/-- R358: a source's times; the map of its own clock onto the time base moves with them. -/
def shiftSrc (S : Int) (x : SrcSt) : SrcSt :=
  { x with
    off := x.off.map (· + S), inbox := x.inbox.map (shiftRaw S), prev := x.prev.map (shiftSample S)
    applied := x.applied.map (· + S), stamps := x.stamps.map (· + S), okAt := shiftTime S x.okAt
    sameFrom := x.sameFrom.map (fun y => (y.1 + S, y.2 + S)), innov := x.innov.map (fun y => (shiftTime S y.1, y.2)) }

/-- R358: the epochs that fusion holds. -/
def shiftEpoch (S : Int) (e : Epoch) : Epoch := { e with t := shiftTime S e.t }

/-- R358: the times of fusion. -/
def shiftFus (S : Int) (f : FusSt) : FusSt :=
  { f with
    src := f.src.map (fun x => (x.1, shiftSrc S x.2)), late := f.late.map (fun x => (x.1, shiftSample S x.2))
    next := f.next.map (shiftEpoch S), epoch := f.epoch.map (shiftEpoch S)
    hist := f.hist.map (fun h => { h with t := shiftTime S h.t }) }

/-- R358: a plan's start. -/
def shiftPlan (S : Int) (p : Plan) : Plan := { p with t := shiftTime S p.t }

/-- R358: the times of control. -/
def shiftCtl (S : Int) (c : CtlSt) : CtlSt :=
  { c with
    plan := c.plan.map (shiftPlan S), planNew := c.planNew.map (shiftPlan S), planDue := c.planDue.map (shiftPlan S)
    periodT := shiftTime S c.periodT, joyAt := c.joyAt.map (shiftTime S), levAt := c.levAt.map (shiftTime S)
    rampFrom := c.rampFrom.map (shiftTime S), compExit := c.compExit.map (shiftTime S) }

/-- R358: the times of the fabric: frame and period starts, slack deadlines. -/
def shiftFab (S : Int) (f : FabSt) : FabSt :=
  { f with
    insts := f.insts.map (fun x => { x with start := shiftTime S x.start })
    tokens := f.tokens.map (fun x => { x with start := shiftTime S x.start })
    slack := f.slack.map (fun x => (x.1, x.2 + S)) }

/-- R358: the times of the group. -/
def shiftGrp (S : Int) (g : GrpSt) : GrpSt :=
  { g with
    members := g.members.map (fun m => { m with hbAt := m.hbAt.map (shiftTime S), healthAt := m.healthAt.map (shiftTime S) })
    hb := g.hb.map (fun h => { h with at_ := shiftTime S h.at_ }), testAt := g.testAt.map (shiftTime S) }

/-- R358: the times of a CAN controller. -/
def shiftCan (S : Int) (c : CanCtl) : CanCtl :=
  { c with
    objs := c.objs.map (fun o => (o.1, { o.2 with asm := o.2.asm.map (fun a => { a with stamp := shiftTime S a.stamp }) }))
    mark := shiftTime S c.mark, seen := c.seen.map (fun x => (x.1, x.2.1, shiftTime S x.2.2.1, x.2.2.2)) }

/-- R358: the stamps of chains and pulse inputs. -/
def shiftAna (S : Int) (a : AnaSt) : AnaSt :=
  let edge := fun (x : Option (Word × Nat)) => x.map (fun y => (y.1, shiftTime S y.2))
  let latch := fun (x : Option (Word × Nat × Nat)) => x.map (fun y => (y.1, shiftTime S y.2.1, y.2.2))
  { a with
    chains := a.chains.map (fun x => (x.1, { x.2 with stamp := shiftTime S x.2.stamp, latch := latch x.2.latch }))
    pins := a.pins.map (fun x => (x.1, { x.2 with
      last := edge x.2.last, ref := edge x.2.ref, first := edge x.2.first, gateStart := shiftTime S x.2.gateStart
      latch := x.2.latch.map (fun y => (y.1, y.2.1, shiftTime S y.2.2)) })) }

/-- R358: every time held on Umber moves by S in one operation. -/
def State.shiftHeld (s : State) (S : Int) : State :=
  let d := ofInt32 S
  let s : State := { s with
    tb := { s.tb with
      fifos := s.tb.fifos.map (fun q => (q.1, q.2.map (· + d)))
      capLast := s.tb.capLast.map (fun x => (x.1, shiftTime S x.2))
      ports := s.tb.ports.map (shiftPtp S) }
    fus := shiftFus S s.fus, ctl := shiftCtl S s.ctl, fab := shiftFab S s.fab, grp := shiftGrp S s.grp
    can := s.can.map (shiftCan S), ana := shiftAna S s.ana
    alc := { s.alc with
      cqAt := s.alc.cqAt.map (fun x => (x.1, shiftTime S (x.2 - 1) + 1))
      thr := s.alc.thr.map (fun x => (x.1, { x.2 with fbAt := x.2.fbAt.map (shiftTime S) })) }
    srv := s.srv.map (fun x => (x.1, { x.2 with fbAt := x.2.fbAt.map (shiftTime S) }))
    eth := { s.eth with supers := s.eth.supers.map (fun x => (x.1, shiftTime S x.2)) }
    frame := { s.frame with start := shiftTime S s.frame.start, periodStart := shiftTime S s.frame.periodStart } }
  s.each (List.range 16) (fun m s => (s.shiftComparator d m).capSync m)

/-- TB_STEP (R357, R358, R362): after the frame start the counter and every held time move by S. -/
def State.tbStep (s : State) : State := match s.tb.step, s.tb.stepDue with
  | some S, true =>
    let s : State := { s with tb := { s.tb with step := none, stepDue := false, lastO := none } }
    let s := (s.setNow (shiftTime S s.now)).shiftHeld S
    let s := s.each (List.range 16) (fun m s => s.absComparator m)
    let w := BitVec.ofInt 64 S
    let s := ((s.wr Reg.TB_STEPL (w.setWidth 32)).wr Reg.TB_STEPH ((w >>> 32).setWidth 32)).wr Reg.TB_STEPT (s.rd Reg.TB_NS)
    let s := ((s.set Fld.TB_STAT_STEPPED 1).countWrap Fld.TB_STAT_STEPS).tbState 1
    s.raise 0x1001 0 s.timeData
  | _, _ => s

/-- TB_FAULT (R371): a self-test of the time base fails. -/
def State.tbFault (s : State) : State :=
  if s.get Fld.TB_STAT_FAULT = 1 then s
  else
    let s := s.set Fld.TB_STAT_FAULT 1
    (s.raise 0x1004 0 s.timeData).slhSync

/-! The commands. -/

def execFrameStart (s : State) : Host.Outcome State Fault Refusal := .next (s.running State.frameStart)
def execEmissionTime (s : State) : Host.Outcome State Fault Refusal := .next (s.running State.emissionTime)
def execComparatorFire (m : Fin 16) (s : State) : Host.Outcome State Fault Refusal :=
  .next (s.running (fun s => s.comparatorFire m))
def execTbStep (s : State) : Host.Outcome State Fault Refusal := .next (s.running State.tbStep)
def execTbFault (s : State) : Host.Outcome State Fault Refusal := .next (s.running State.tbFault)

end Sys2Proof.Machine
end

