-- ==== Sys2Proof/Machine/Registers.lean ====
section
/-!
DEFINITION. Sys2Proof/Machine/Registers.lean: the common register behaviour (R6, R7, R483 to R493): what a read of one word
returns and does, and what a write of one word does in the block that owns it.
-/
namespace Sys2Proof.Machine

/-! Ochre windows (R486, R487). -/

/-- The region of an address inside the Ochre windows. -/
def ochreRegion (a : Nat) : Nat := (a / 0x10000000 - 1) * 4 + a % 0x10000000 / 0x02000000

/-- The cluster of an address inside the cluster windows of Ochre. -/
def ochreCluster (a : Nat) : Nat := ochreRegion a * 4 + a % 0x02000000 / 0x00400000

/-- Table 2-20: the address lies in a data memory, pip store, schedule table or region memory. -/
def ochreMem (a : Nat) : Bool := match ochreOffset a with
  | none => false
  | some o => if o < 0x01000000 then decide (o % 0x00400000 < 0x00140000) else decide (o < 0x01400000)

/-- R487: the address lies in a window of an isolated region; the regions of a lost die are isolated. -/
def State.deadWindow (s : State) (a : Nat) : Bool := (ochreOffset a).isSome && s.isolated (ochreRegion a)

/-! What a read returns. -/

/-- R492, Table 20-6: SYS_STAT mirrors fields of other blocks. -/
def State.sysStat (s : State) : Word := BitVec.ofNat 32 (
  s.get Fld.SYS_STAT_START + 2 ^ 4 * s.get Fld.SLH_STAT_ROLE + 2 ^ 6 * s.get Fld.CTL_MODESTAT_MODE +
  2 ^ 10 * (s.get Fld.FUS_STAT_STATUS % 4) + 2 ^ 12 * s.get Fld.CQA_STAT_STATUS + 2 ^ 14 * s.get Fld.SAF_STAT_SAFE +
  2 ^ 15 * s.get Fld.SAF_STAT_READY + 2 ^ 16 * s.get Fld.SAF_STAT_HOLD + 2 ^ 17 * s.get Fld.IMG_STAT_CONFLICT +
  2 ^ 18 * s.get Fld.IMG_STAT_NO_IMAGE + 2 ^ 19 * s.get Fld.IMG_STAT_MIXED + 2 ^ 20 * s.get Fld.CLK_STAT_LIMP +
  2 ^ 21 * s.get Fld.TB_STAT_STATE + 2 ^ 24 * s.get Fld.TB_STAT_PTP_OK + 2 ^ 25 * s.get Fld.SLH_STAT_ELIGIBLE +
  2 ^ 26 * s.get Fld.FLT_STAT_PART_LOST + 2 ^ 27 * s.get Fld.FLT_STAT_COVER)

/-- R492, Table 20-7: SYS_FAULTSUM mirrors fields of other blocks. -/
def State.sysFaultsum (s : State) : Word :=
  let anyOf := fun (n : Nat) (p : Nat → Bool) => flagBit ((List.range n).any p)
  BitVec.ofNat 32 (
  s.get Fld.FLT_STAT_FENCED + 2 ^ 9 * s.get Fld.FLT_SPARE_SPARES_LEFT + 2 ^ 18 * s.get Fld.FLT_STAT_DIE_LOST +
  2 ^ 20 * s.get Fld.FLT_STAT_BRIDGE_REROUTED + 2 ^ 21 * s.get Fld.TB_STAT_FAULT +
  anyOf 32 (fun f => decide (s.get (Fld.SAF_FNf_STATE f) = 4)) 22 + 2 ^ 23 * s.get Fld.CLK_STAT_SLATE_RC +
  anyOf 8 (fun n => decide (s.get (Fld.CANn_STAT_STATE n) = 2)) 24 +
  flagBit (s.rd Reg.SRV_FAULT0 ≠ 0 ∨ s.rd Reg.SRV_FAULT1 ≠ 0) 25 +
  anyOf 64 (fun n => decide (s.get (Fld.CHn_STAT_STATE n) = 3)) 26 +
  anyOf 3 (fun p => decide (s.get (Fld.ETHp_CFG_EN p) = 1 ∧ s.get (Fld.ETHp_STAT_LINK p) = 0)) 27 +
  flagBit (s.get Fld.REC_STAT_SINGLE_0 = 1 ∨ s.get Fld.REC_STAT_SINGLE_1 = 1) 28 +
  flagBit (s.get Fld.FLT_STAT_MOVED ≠ 0) 29)

/-- R254: the channel shown in OCH_SEQ, OCH_CNT and OCH_LATE. -/
def State.ochChan (s : State) : Option Chan := s.chanOf (s.rd Reg.OCH_SEL)

/-- Tables 9-14 and 9-15. -/
def State.ochReg (s : State) (a : Nat) : Word := match s.ochChan with
  | none => if a = Reg.OCH_SEQ then 0x01000000 else 0
  | some c =>
    if a = Reg.OCH_SEQ then BitVec.ofNat 32 (c.seq % 2 ^ 16 + 2 ^ 16 * (c.epoch % 256))
    else if a = Reg.OCH_CNT then BitVec.ofNat 32 (min c.dup 0xFFFF + 2 ^ 16 * min c.skipped 0xFFFF)
    else BitVec.ofNat 32 (min c.late 0xFFFF + 2 ^ 16 * min c.differ 0xFF)

/-- R396: a tap register holds a signed 24-bit value, sign-extended. -/
def tapWord (v : Word) : Word := (v.setWidth 24).signExtend 32

/-- An address is a tap register. -/
def isTap (a : Nat) : Bool := decide (0x114000 ≤ a ∧ a < 0x118000)

/-- The value of the SYS and Umber registers that are formed at the read; none for a stored register. -/
def State.formed (s : State) (session : Word) (a : Nat) : Option Word :=
  if a = Reg.SYS_PARTID then some (0x3264 ||| if Config.variantMS then 0x10000 else 0)
  else if a = Reg.SYS_UIDL then some (Config.uid.setWidth 32)
  else if a = Reg.SYS_UIDH then some ((Config.uid >>> 32).setWidth 32)
  else if a = Reg.SYS_STAT then some s.sysStat
  else if a = Reg.SYS_FAULTSUM then some s.sysFaultsum
  else if a = Reg.SYS_EXPERT then
    some (BitVec.ofNat 32 (flagBit ((match s.session session with | some x => x.expert | none => false)) 16))
  else if a = Reg.OCH_SEQ ∨ a = Reg.OCH_CNT ∨ a = Reg.OCH_LATE then some (s.ochReg a)
  else if a = Reg.MGT_STAT then some (bitsSet (s.rd a) 12 1 s.noAuth.toNat)
  else if Reg.SLH_MEMm 0 ≤ a ∧ a < Reg.SLH_MEMm 3 then some (s.slhMemReg ((a - Reg.SLH_MEMm 0) / 4))
  else if Reg.CQA_GRPg 0 ≤ a ∧ a < Reg.CQA_GRPg 48 then some (s.cqGroupReg ((a - Reg.CQA_GRPg 0) / 4))
  else if isTap a then some (tapWord (s.rd a))
  else if 0x140000 ≤ a ∧ a < 0x160000 then
    let n := (a - 0x140000) / 0x4000
    let o := (a - 0x140000) % 0x4000
    if o = 0x74 then some (s.canObjStat n)
    else if 0x600 ≤ o ∧ o < 0x650 then some (s.canObjRec n ((o - 0x600) / 4)) else none
  else none

/-- R6, R484, R487: what a read of one word returns.  WO fields read 0, an address with no register reads 0, and so do the
memories of an isolated region. -/
def State.readValue (s : State) (session : Word) (a : Nat) : Word :=
  if ochreMem a then (if s.deadWindow a then 0 else s.memRd a)
  else match regRow a with
    | none => 0
    | some r => match s.formed session a with
      | some v => v
      | none => s.rd a &&& ~~~(BitVec.ofNat 32 r.wo)

/-- What a read does: TB_NS latches TB_SUBNS (R355), and TB_CAPm_VAL takes the oldest entry (R370). -/
def State.readActs (s : State) (a : Nat) : State :=
  if a = Reg.TB_NS then s.nsRead
  else if Reg.TB_CAPm_VAL 0 ≤ a ∧ a ≤ Reg.TB_CAPm_VAL 15 ∧ (a - Reg.TB_CAPm_VAL 0) % 0x10 = 0 then
    s.capRead ((a - Reg.TB_CAPm_VAL 0) / 0x10)
  else s

/-- R409, R449: a read of one word: a word that meets a bus error reads 0. -/
def State.busRead (s : State) (session : Word) (a : Nat) : State × Word × Bool :=
  if s.gateCause a = 0 then (s.readActs a, s.readValue session a, false) else (s.busError a (s.gateCause a), 0, true)

/-! What a write does. -/

/-- R6: the word that a register holds after an accepted write: RW and RWS bits take the written value, W1C bits written 1
clear, and every other bit stays. -/
def rowMerge (r : RegRow) (old v : Word) : Word :=
  let set := BitVec.ofNat 32 (r.rw ||| r.rws)
  let w1c := BitVec.ofNat 32 r.w1c
  (old &&& ~~~set &&& ~~~(w1c &&& v)) ||| (v &&& set)

/-- R7: the write would change an RWS field. -/
def rowChanges (r : RegRow) (old v : Word) : Bool := decide ((old ^^^ v) &&& BitVec.ofNat 32 r.rws ≠ 0)

/-- A write by access type alone. -/
def State.put (s : State) (a : Nat) (r : RegRow) (v : Word) : State := s.wr a (rowMerge r (s.rd a) v)

/-- A write refused under a code, or taken by access type where the code is 0. -/
def State.putUnless (s : State) (a : Nat) (r : RegRow) (v : Word) (code : Nat) (refuse : State → Nat → State) : State :=
  if code = 0 then s.put a r v else refuse s code

/-- R7, R489: an operation, and whether it was refused. -/
def State.refusedBy (s : State) (f : State → State) : State × Bool :=
  let n := s.get Fld.SYS_REFINFO_COUNT
  let t := f (s.set Fld.SYS_REFINFO_COUNT 0)
  let k := t.get Fld.SYS_REFINFO_COUNT
  (t.set Fld.SYS_REFINFO_COUNT (min (n + k) 0xFFFF), decide (k ≠ 0))

/-- R7: a part of a write that may be refused, and the rest, which acts only if it is not. -/
def State.unlessRefused (s : State) (f g : State → State) : State :=
  let (t, no) := s.refusedBy f
  if no then t else g t

/-- A bit of a written word. -/
abbrev wbit (v : Word) (i : Nat) : Bool := v.getLsbD i

/-- SYS_EXPERT.KEY (R490): the key opens the unlock for the writing session, any other value closes it. -/
def State.expertKey (s : State) (session : Word) (v : Word) : State :=
  { s with mgt := { s.mgt with sessions := s.mgt.sessions.map fun x =>
      if x.id = session then { x with expert := decide (bitsGet v 0 16 = 0xE5A1) } else x } }

/-- SYS_CTRL.CNT_CLR (R489). -/
def State.sysCntClr (s : State) : State := s.set Fld.SYS_REFINFO_COUNT 0
/-- MGT_CTRL.CNT_CLR (R469). -/
def State.mgtCntClr (s : State) : State := (s.wr Reg.MGT_CNT0 0).wr Reg.MGT_CNT1 0

/-- Block SYS. -/
def State.writeSys (s : State) (session : Word) (a : Nat) (r : RegRow) (v : Word) : State :=
  if a = Reg.SYS_CTRL then s.when (wbit v 0) State.sysCntClr
  else if a = Reg.SYS_EXPERT then s.expertKey session v
  else s.put a r v

/-- Block CLK (R402, R410). -/
def State.writeClk (s : State) (a : Nat) (r : RegRow) (v : Word) : State :=
  if a = Reg.CLK_CTRL then
    s.unlessRefused (fun s => if (wbit v 0).toNat = s.get Fld.CLK_CTRL_REFSEL then s else s.refsel (wbit v 0))
      (fun s => s.when (wbit v 1) State.clkCntClr)
  else if a = Reg.CLK_GATE0 then s.gateWrite 0 v 0
  else if a = Reg.CLK_GATE1 then s.gateWrite 1 v 0
  else s.put a r v

/-- Block TB (R373): the latencies of a port are writable only while it is disabled; their refusal has no code of the
block's, which is a free value.  DESIGN CHOICE (log entry 146): a write that would change TB_TRIG0_TIME or TB_TRIG0_PER, read-only fields
of a comparator that is always enabled, is refused with COMP_RUNNING like any other comparator's. -/
def State.writeTb (s : State) (a : Nat) (r : RegRow) (v : Word) : State :=
  if a = Reg.TB_CTRL then
    s.unlessRefused (fun s => s.when (wbit v 0) State.tbRearm) (fun s => s.when (wbit v 1) State.tbCntClr)
  else if a = Reg.TB_INC then s.tbIncWrite v
  else if a = Reg.TB_JUMP_LIM then s.tbJumpLimWrite v
  else if a = Reg.TB_TRIGEN then s.compEnable v
  else if Reg.TB_PTPLATp 0 ≤ a ∧ a ≤ Reg.TB_PTPLATp 2 then
    if rowChanges r (s.rd a) v ∧ s.get (Fld.ETHp_CFG_EN ((a - Reg.TB_PTPLATp 0) / 4)) = 1 then
      (s.tbRefuse (s.freeWord.toNat % 8) a).fresh
    else s.put a r v
  else if Reg.TB_TRIGm_TIME 0 ≤ a ∧ a < Reg.TB_TRIGm_TIME 16 then
    let m := (a - Reg.TB_TRIGm_TIME 0) / 0x10
    s.putUnless a r v (if rowChanges r (s.rd a) v ∧ s.get Fld.TB_TRIGEN_EN / 2 ^ m % 2 = 1 then 4 else 0) (fun s c => s.tbRefuse c a)
  else if Reg.TB_CAPm_CFG 0 ≤ a ∧ (a - Reg.TB_CAPm_CFG 0) % 0x10 = 0 then
    s.putUnless a r v (if 35 < bitsGet v 0 6 then 2 else 0) (fun s c => s.tbRefuse c a)
  else s.put a r v

/-- IMG_CMD (R436, R438, R440, R443): an OP of 0 commands nothing where CNT_CLR is set. -/
def State.imgCmd (s : State) (v : Word) : State :=
  let op := bitsGet v 0 4
  let bank := bitsGet v 4 1
  let clr := wbit v 8
  s.unlessRefused (fun s =>
      if op = 0 ∧ clr then s
      else if op = 1 then s.imgVerify bank
      else if op = 2 then s.imgAdopt bank
      else if op = 3 then s.imgReload (bitsGet v 5 3)
      else s.imgRefuse 9 Reg.IMG_CMD)
    (fun s => s.when clr (fun s => s.wr Reg.IMG_CNT 0))

/-- Blocks SLK to CQA. -/
def State.writeCore (s : State) (a : Nat) (r : RegRow) (v : Word) : State :=
  if a = Reg.SLK_CTRL then
    (s.put a r v).when (wbit v 0) (fun s => (s.wr Reg.SLK_MINF 0x7FFFFFFF).wr Reg.SLK_MINP 0x7FFFFFFF)
  else if a = Reg.FLT_CTRL then s.when (wbit v 0) State.fltCntClr
  else if a = Reg.IMG_CMD then s.imgCmd v
  else if a = Reg.MGT_CTRL then s.when (wbit v 0) State.mgtCntClr
  else if a = Reg.REC_CTRL then
    s.unlessRefused (fun s => s.when (wbit v 0) State.recCtrlFreeze) (fun s =>
      (s.when (wbit v 1) (fun s => s.endFreeze 1)).when (wbit v 2) (fun s => s.wr Reg.REC_CNT 0))
  else if a = Reg.SLH_CMD then
    s.unlessRefused (fun s => s.when (wbit v 0) (fun s => s.handover (bitsGet v 1 2))) (fun s =>
      s.when (wbit v 3) (fun s => (s.wr Reg.SLH_CNT0 0).wr Reg.SLH_CNT1 0))
  else if a = Reg.SAF_CTRL then
    let s := if wbit v 0 then s.holdStart else s.when (wbit v 1) State.holdEnd
    s.when (wbit v 2) (fun s => s.wr Reg.SAF_CNT 0)
  else if a = Reg.FUS_CTRL then
    s.unlessRefused (fun s => s.fusCalFreeze (wbit v 0)) (fun s => s.when (wbit v 1) State.fusCntClr)
  else if a = Reg.CTL_MODECMD then s.modecmdWrite v
  else if a = Reg.SLV_CTRL then
    (s.each ((List.range 4).filter (fun c => v.getLsbD (4 + c))) (fun c s => s.slvRefreshClass c)).when (wbit v 0) State.slvCntClr
  else if a = Reg.ALC_CTRL then s.when (wbit v 0) (fun s => s.wr Reg.ALC_CNT 0)
  else if a = Reg.ALC_ENABLE then s.alcEnableWrite v
  else if a = Reg.CQA_CTRL then
    (s.when (wbit v 0) (fun s => s.cqMarkOld.cqOverall)).when (wbit v 1)
      (fun s => (s.set Fld.CQA_STAT_ROUNDS 0).set Fld.CQA_FLEET_GEN 0)
  else s.put a r v

/-- Block SRV (R221): RWS fields only in OPEN or FAULT with no close pending.  In one write of CMD, OPEN wins over CLOSE. -/
def State.writeSrv (s : State) (a : Nat) (r : RegRow) (v : Word) : State :=
  if a = Reg.SRV_CTRL then s.when (wbit v 0) State.srvCntClr
  else if a < Reg.SRVn_CFG 0 then s.put a r v
  else
    let n := (a - Reg.SRVn_CFG 0) / 0x80
    if a = Reg.SRVn_CMD n then
      s.unlessRefused (fun s => s.when (wbit v 2) (fun s => s.cmdClrFault n)) (fun s =>
        if wbit v 1 then s.cmdOpen n else s.when (wbit v 0) (fun s => s.cmdClose n))
    else if a = Reg.SRVn_SPSRC n then s.spsrcWrite n v
    else if a = Reg.SRVn_HOSTSP n then s.hostspWrite n v
    else
      let free : Bool := (s.loopState n = 0 || s.loopState n = 2) && s.get (Fld.SRVn_STAT_CLOSE_PEND n) = 0
      (s.putUnless a r v (if rowChanges r (s.rd a) v ∧ ¬ free then 1 else 0) (fun s c => s.loopRefuse n c a)).when
        (decide (a = Reg.SRVn_CFG n)) State.ownSync

/-- The registers of an input chain (R380, R383, Tables 15-7 and 15-9). -/
def State.writeChain (s : State) (a : Nat) (r : RegRow) (v : Word) : State :=
  let n := (a - Reg.CHn_CFG 0) / 0x40
  if a = Reg.CHn_CFG n then
    s.putUnless a r v (if rowChanges r (s.rd a) v ∧ ¬ s.chainStopped n then 1 else if bitsGet v 0 16 < 3 then 2
      else if 17 ≤ bitsGet v 23 5 then 3 else 0) (fun s c => s.chainRefuse n c a)
  else if a = Reg.CHn_CMD n then
    if wbit v 1 then s.chainStop n else s.when (wbit v 0) (fun s => s.chainStart n)
  else if a = Reg.CHn_DCB n then s.chainDcbWrite n v
  else s.put a r v

/-- The registers of a pulse input (R392, R393, Table 15-11): STOP wins over START. -/
def State.writePin (s : State) (a : Nat) (r : RegRow) (v : Word) : State :=
  let i := (a - Reg.PINi_CFG 0) / 0x20
  let refuse := fun (s : State) (c : Nat) =>
    ((s.set (Fld.PINi_STAT_REFUSED i) 1).set (Fld.PINi_STAT_REF_CODE i) c).refuse 17 c a
  if a = Reg.PINi_CMD i then
    let s := if wbit v 1 then s.pinStop i else s.when (wbit v 0) (fun s => s.pinStart i)
    s.when (wbit v 2) (fun s => s.pinLoad i)
  else if a = Reg.PINi_CFG i ∨ a = Reg.PINi_GATE i then
    s.putUnless a r v (if rowChanges r (s.rd a) v ∧ s.pinRuns i then 1
      else if a = Reg.PINi_GATE i ∧ (bitsGet v 0 10 = 0 ∨ 1000 < bitsGet v 0 10 ∨ bitsGet v 10 16 = 0) then 2 else 0) refuse
  else s.put a r v

/-- Block ANA. -/
def State.writeAna (s : State) (a : Nat) (r : RegRow) (v : Word) : State :=
  if a = Reg.ANA_CTRL then s.when (wbit v 0) State.anaCntClr
  else if a < 0x114000 then s.writeChain a r v
  else if isTap a then
    let n := (a - 0x114000) / 0x100
    if rowChanges r (tapWord (s.rd a)) (tapWord v) ∧ ¬ s.chainStopped n then s.chainRefuse n 1 a else s.wr a (tapWord v)
  else if a < 0x119000 then
    let n := (a - Reg.AOUTn_CFG 0) / 0x10
    if a = Reg.AOUTn_CFG n then
      s.putUnless a r v (if s.get (Fld.AOUTn_CFG_SRC n) = 1 ∧ bitsGet v 1 2 ≠ 0 then 1 else if bitsGet v 1 2 = 3 then 3 else 0)
        (fun s c => s.aoutRefuse n c a)
    else if a = Reg.AOUTn_DATA n then s.aoutDataWrite n v
    else s.put a r v
  else if a < 0x11A000 then s.writePin a r v
  else if Reg.SWO_SETw 0 ≤ a ∧ a ≤ Reg.SWO_SETw 3 then s.swoWrite ((a - Reg.SWO_SETw 0) / 4) a v true
  else if Reg.SWO_CLRw 0 ≤ a ∧ a ≤ Reg.SWO_CLRw 3 then s.swoWrite ((a - Reg.SWO_CLRw 0) / 4) a v false
  else s.put a r v

/-- ETH_CTRL (R346, R352): a write with a refused swap does nothing else. -/
def State.ethCtrl (s : State) (v : Word) : State :=
  let no := fun (m : Bool) => (s.refusedBy (fun s => s.ethSwap m)).2
  let p := wbit v 1
  let m := wbit v 2
  if (p && no false) || (m && no true) then
    (s.when (p && no false) (fun s => s.ethSwap false)).when (m && no true) (fun s => s.ethSwap true)
  else ((s.when p (fun s => s.ethSwap false)).when m (fun s => s.ethSwap true)).when (wbit v 0) State.ethCntClr

/-- Block ETH (R346, R352). -/
def State.writeEth (s : State) (a : Nat) (r : RegRow) (v : Word) : State :=
  if a = Reg.ETH_CTRL then s.ethCtrl v
  else if a = Reg.ETH_MDIO then s.mdioWrite v
  else if 0x121000 ≤ a then
    let j := (a - 0x121000) / 4
    let mgmt := decide (256 ≤ j)
    if j / 128 % 2 = s.egBank mgmt then
      (s.set (if mgmt then Fld.ETH_SLOTSTAT_REF_MGMT else Fld.ETH_SLOTSTAT_REF_PAIR) 1).refuse 18 1 a
    else s.put a r v
  else if 0x120100 ≤ a ∧ (a - 0x120100) % 0x40 = 0 then
    let p := (a - 0x120100) / 0x40
    if rowChanges r (s.rd a) v ∧ s.get (Fld.ETHp_CFG_EN p) = 1 then s.ethRefuse p 1 a
    else if 1 < bitsGet v 0 2 then s.ethRefuse p 2 a
    else (s.wr a (bitsSet (s.rd a) 0 3 (bitsGet v 0 3))).ethCfgEn p (wbit v 3)
  else s.put a r v

/-- CANn_CTRL (R310, R314, R334): RW and RWS fields first, then the WO fields (R488). -/
def State.canCtrl (s : State) (n : Nat) (a : Nat) (r : RegRow) (v : Word) : State :=
  let m := bitsGet v 0 3
  if rowChanges r (s.rd a) v ∧ s.canMode n ≠ 0 then s.canRefuse n 1 a
  else if 5 ≤ m ∨ (m = 4 ∧ wbit v 3) then s.canRefuse n 4 a
  else
    let s := s.wr a (bitsSet (s.rd a) 3 3 (bitsGet v 3 3))
    let s := if m = s.canMode n ∧ (s.canCtl n).modeDue.isNone then s else s.canSetMode n m
    (s.when (wbit v 6) (fun s => s.canBoRecover n)).when (wbit v 7) (fun s => s.canCntClr n)

/-- Table 12-15 and Table 12-20: the values that are refused with BAD_VALUE. -/
def canBadValue (o : Nat) (v : Word) : Bool :=
  if o = 0x0C then decide (191 < bitsGet v 6 8 ∨ bitsGet v 14 6 = 0)
  else if o = 0x10 then decide (47 < bitsGet v 4 6 ∨ 23 < bitsGet v 10 5)
  else if o = 0x50 then decide (bitsGet v 0 2 = 3) else false

/-- Block CAN (R320, R333, R334). -/
def State.writeCan (s : State) (a : Nat) (r : RegRow) (v : Word) : State :=
  let n := (a - 0x140000) / 0x4000
  let o := (a - 0x140000) % 0x4000
  if o = 0 then s.canCtrl n a r v
  else if o = 0x40 then s.canTxcancel n (bitsGet v 0 8)
  else if o = 0x58 then s.when (wbit v 0) (fun s => s.canTtswap n)
  else if 0x80 ≤ o ∧ o < 0xA0 then s.canObjen n ((o - 0x80) / 4) v
  else if o = 0x74 then
    s.when (wbit v 6) (fun s => s.modObj n (s.get (Fld.CANn_OBJSEL_OBJ n)) (fun x => { x with ovr := false }))
  else if 0x3000 ≤ o then
    s.putUnless a r v (if rowChanges r (s.rd a) v ∧ s.objOn n ((o - 0x3000) / 0x10) then 2 else 0) (fun s c => s.canRefuse n c a)
  else if 0x2800 ≤ o then
    s.putUnless a r v (if (o - 0x2800) / 0x200 = s.get (Fld.CANn_TTSTAT_BANK n) then 3 else 0) (fun s c => s.canRefuse n c a)
  else s.putUnless a r v (if rowChanges r (s.rd a) v ∧ s.canMode n ≠ 0 then 1 else if canBadValue o v then 4 else 0)
    (fun s c => s.canRefuse n c a)

/-- R490: an arbiter priority register takes a write only while the unlock is open for the writing session. -/
def State.expertWrite (s : State) (session : Word) (block a : Nat) (r : RegRow) (v : Word) : State :=
  match s.session session with
  | some x => if x.expert then s.put a r v else s.refuse block 0xF1 a
  | none => s.refuse block 0xF1 a

/-- The registers of clusters and regions (R56, R81, R490). -/
def State.writeOchre (s : State) (session : Word) (a : Nat) (r : RegRow) (v : Word) : State :=
  let g := ochreRegion a
  if a % 0x02000000 < 0x01000000 then
    let q := ochreCluster a
    let o := a - Reg.clusterBase q
    if o = 0x10 then
      if (rowChanges r (s.rd a) v ∧ ¬ s.stopped g) ∨ bitsGet v 0 6 = 0 then (s.set (Fld.CLU_DISP_REFUSED q) 1).refuse 20 1 a
      else s.put a r v
    else if 0x100 ≤ o ∧ o % 0x10 < 8 then s.expertWrite session 20 a r v
    else if 0x100 ≤ o ∧ o % 0x10 = 8 then s.arbCtrl (.bank (Fin.ofNat 32 q) (Fin.ofNat 8 ((o - 0x100) / 0x10))) g 20 a v
    else s.put a r v
  else
    let o := a - Reg.regionBase g
    if o = 0 then s.expertWrite session 21 a r v
    else if o = 4 then s.arbCtrl (.egress (Fin.ofNat 8 g)) g 21 a v
    else s.put a r v

/-- R49, R486, R487, R489: a write of a word of an Ochre memory: refused while its region runs.  While the region is stopped it is
not refused, and has no effect: only a region reload changes the contents (log entry 147). -/
def State.memWrite (s : State) (a : Nat) : State :=
  if s.stopped (ochreRegion a) then s else s.refuse (if a % 0x02000000 < 0x01000000 then 20 else 21) 0xF0 a

/-- R6, R7, R484: a write of one word through an open gate.  A write to an address with no register has no effect. -/
def State.regWrite (s : State) (session : Word) (a : Nat) (v : Word) : State :=
  if s.deadWindow a ∨ a % 4 ≠ 0 then s
  else if ochreMem a then s.memWrite a
  else match regRow a with
    | none => s
    | some r =>
      let w := a / 0x10000
      if w = 0 then s.writeSys session a r v
      else if w = 1 then s.writeClk a r v
      else if w = 3 then s.writeTb a r v
      else if w < 16 then s.writeCore a r v
      else if w = 16 then s.writeSrv a r v
      else if w = 17 then s.writeAna a r v
      else if w < 20 then s.writeEth a r v
      else if w < 22 then s.writeCan a r v
      else s.writeOchre session a r v

/-- REGISTER_WRITE (R6, R7): a bus write of a running part that no session made. -/
def execRegisterWrite (addr value : Word) (s : State) : Host.Outcome State Fault Refusal :=
  .next (s.access addr.toNat (fun s => s.regWrite 0 addr.toNat value))
/-- SYS_EXPERT_KEY (R490). -/
def execSysExpertKey (session value : Word) (s : State) : Host.Outcome State Fault Refusal :=
  .next (s.running (fun s => s.expertKey session value))
/-- EXPERT_UNLOCK_EXPIRED (R490): 10 s after the key. -/
def execExpertUnlockExpired (session : Word) (s : State) : Host.Outcome State Fault Refusal :=
  .next (s.running (fun s => s.expertKey session 0))
/-- SYS_CTRL.CNT_CLR (R489). -/
def execSysCntClr (s : State) : Host.Outcome State Fault Refusal := .next (s.running State.sysCntClr)
/-- MGT_CTRL.CNT_CLR (R469). -/
def execMgtCntClr (s : State) : Host.Outcome State Fault Refusal := .next (s.running State.mgtCntClr)

end Sys2Proof.Machine
end

