-- ==== Sys2Proof/Machine/Management.lean ====
section
/-!
DEFINITION. Sys2Proof/Machine/Management.lean: READ and WRITE transactions (R449, R450), sessions (R447), subscriptions (R456,
R457), the arms of the recovery ladder (R466 to R468) and the SPI target port (R454).
-/
namespace Sys2Proof.Machine

/-! READ and WRITE. -/

/-- The body of a READ, and the start of the body of a WRITE (R449, R450). -/
def spanBody (addr : Word) (count : BitVec 16) : List Byte := le32 addr ++ leBytes 2 count.toNat ++ [0, 0]

/-- R449, R483: the span of a READ or WRITE: 0 for good arguments, else BAD_TYPE or BAD_LEN; `size` is the length of the
longer message that the span makes. -/
def State.spanCode (s : State) (p : Path) (addr : Word) (count : BitVec 16) (size : Nat) : Nat :=
  let n := count.toNat
  if n = 0 ∨ 256 < n ∨ addr.toNat % 4 ≠ 0 ∨ 2 ^ 32 < addr.toNat + 4 * n then 3 else if s.msgLimit p < size then 2 else 0

/-- R491: the registers that a part without an image lets its host read. -/
def bareReadable (a : Nat) : Bool :=
  decide (a < 0x40 ∨ a = Reg.CLK_STAT ∨ (Reg.AON_RSTCAUSE ≤ a ∧ a ≤ Reg.AON_PWRCYC) ∨ a = Reg.IMG_STAT ∨
    a = Reg.IMG_BANKk_GEN 0 ∨ a = Reg.IMG_BANKk_GEN 1 ∨ a = Reg.IMG_BANKk_STAT 0 ∨ a = Reg.IMG_BANKk_STAT 1)

/-- R48, R49: an uncorrectable error found by a management read of an Ochre memory. -/
def State.readEcc (s : State) (a : Nat) : State :=
  let g := ochreRegion a
  let o := a % 0x02000000
  let c := o % 0x00400000
  let s := s.count (Fld.RGN_ECCCNT_UNCORRECTED g)
  if 0x01000000 ≤ o then s.regionFault g 3
  else if c < 0x00100000 then s.retireBank (ochreCluster a) (c / 0x00020000) 3
  else s.clusterFault (ochreCluster a) 3

/-- R49: the region bridge fetches a word of an Ochre memory: of a data-memory bank, through the bank's port. -/
def State.fetchWord (s : State) (a : Nat) : State :=
  let c := a % 0x00400000
  if a % 0x02000000 < 0x01000000 ∧ c < 0x00100000 then
    s.bridgeRead (.bank (Fin.ofNat 32 (ochreCluster a)) (Fin.ofNat 8 (c / 0x00020000)))
  else s

/-- R48, R49, R449: one word of a READ, with what the error check finds on it if it is an Ochre memory word.  The spec gives no
value to an uncorrectable word: it is free. -/
def State.readWord (s : State) (session : Word) (a : Nat) (ecc : ReadEcc) : State × Word × Bool :=
  if ochreMem a ∧ ¬ s.deadWindow a then
    let s := s.fetchWord a
    match ecc with
    | .clean => s.busRead session a
    | .corrected => (s.count (Fld.RGN_ECCCNT_CORRECTED (ochreRegion a)), s.memRd a, false)
    | .uncorrectable => ((s.readEcc a).fresh, s.freeWord, false)
  else s.busRead session a

/-- R449: the words of a READ in address order, and the index of the first that met a bus error. -/
def State.readWords (s : State) (session : Word) (ecc : Nat → ReadEcc) : List (Nat × Nat) → State × List Word × Option Nat
  | [] => (s, [], none)
  | (i, a) :: rest =>
    let (s1, v, bad) := s.readWord session a (ecc i)
    let (s2, vs, e) := State.readWords s1 session ecc rest
    (s2, v :: vs, if bad then some i else e)

/-- The indices and addresses of a span. -/
def spanAddrs (addr : Word) (count : BitVec 16) : List (Nat × Nat) := (List.range count.toNat).map (fun i => (i, addr.toNat + 4 * i))

/-- MGMT_READ (R449). -/
def State.mgmtRead (s : State) (r : Req) (addr : Word) (count : BitVec 16) (ecc : Nat → ReadEcc) : State × Resp :=
  let code := s.spanCode r.path addr count (36 + 4 * count.toNat)
  if code ≠ 0 then (s, { status := code })
  else
    let (s, vs, e) := s.readWords r.session ecc (spanAddrs addr count)
    let body := (vs.map le32).flatten
    match e with
    | some i => (s, { status := 4, erridx := i, body := body })
    | none => (s, { status := 0, body := body })

/-- R452: the registers whose WRITE a part that does not command refuses. -/
def commandingOnly (a : Nat) : Bool :=
  decide (a = Reg.CTL_MODECMD ∨ a = Reg.ALC_ENABLE ∨ a = Reg.FUS_CTRL) ||
  (decide (Reg.SRVn_CFG 0 ≤ a ∧ a < Reg.SRVn_CFG 64) &&
    decide ((a - Reg.SRVn_CFG 0) % 0x80 = 0x08 ∨ (a - Reg.SRVn_CFG 0) % 0x80 = 0x4C))

/-- R450: one word of a WRITE: STATUS and DETAIL, 0 for an accepted word. -/
def State.writeWord (s : State) (session : Word) (a : Nat) (v : Word) : State × Nat × Nat :=
  if commandingOnly a ∧ ¬ s.commanding then (s.when (s.gateCause a = 0) (fun s => s.regWrite session a v), 6, 0)
  else if s.gateCause a ≠ 0 then (s.busError a (s.gateCause a), 4, 0)
  else if a = Reg.SYS_CTRL then (s.regWrite session a v, 0, 0)
  else
    let (t, no) := s.refusedBy (fun s => s.regWrite session a v)
    if no then (t, 5, t.get Fld.SYS_REFINFO_CODE) else (t, 0, 0)

/-- R450: the words of a WRITE in address order, up to the first that is not taken. -/
def State.writeWords (s : State) (session : Word) (i a : Nat) : List Word → State × Resp
  | [] => (s, { status := 0 })
  | v :: vs =>
    let (t, st, d) := s.writeWord session a v
    if st = 0 then State.writeWords t session (i + 1) (a + 4) vs else (t, { status := st, erridx := i, detail := d })

/-- MGMT_WRITE (R450). -/
def State.mgmtWrite (s : State) (r : Req) (addr : Word) (count : BitVec 16) (data : List Word) : State × Resp :=
  let code := s.spanCode r.path addr count (44 + 4 * count.toNat)
  if data.length ≠ count.toNat then (s, { status := 2 })
  else if code ≠ 0 then (s, { status := code })
  else s.writeWords r.session 0 addr.toNat data

/-! Sessions (R447). -/

/-- R447: a session number drawn from the random source: nonzero and of no open session. -/
def State.newSession (s : State) : Word :=
  (((List.range 10).map (fun i => s.freeWord + BitVec.ofNat 32 i)).find? (fun w => decide (w ≠ 0) && (s.session w).isNone)).getD 0

/-- OPEN_SESSION (R447): a ninth session evicts the one least recently used. -/
def State.openSession (s : State) : State × Resp :=
  let s := match s.mgt.sessions with
    | x :: _ => if 8 ≤ s.mgt.sessions.length then s.endSession x.id else s
    | [] => s
  let id := s.newSession
  let t : State := { s with mgt := { s.mgt with sessions := s.mgt.sessions ++ [{ id := id }] } }
  (t.fresh, respOk (le32 id))

/-- SESSION_FINAL_TIMEOUT (R447). -/
def State.finalTimeout (s : State) (id : Word) : State := match s.session id with
  | some x => if x.final then s.endSession id else s
  | none => s

/-! Subscriptions (R456, R457). -/

/-- Table 18-4: the body of a SUBSCRIBE. -/
def subscribeBody (action sub kind div : Byte) (select destIp : Word) (destPort : BitVec 16) : List Byte :=
  [action, sub, kind, div] ++ le32 select ++ le32 destIp ++ leBytes 2 destPort.toNat ++ [0, 0]

/-- ADD: a channel's handle is checked (R459), DIV is 1 to 255, and the part holds 32 subscriptions. -/
def State.subAdd (s : State) (r : Req) (kind div : Nat) (select destIp : Word) (destPort : BitVec 16) : State × Resp :=
  let bad := s.checkHandle select
  if kind ≠ 1 ∧ kind ≠ 2 then (s, { status := 3 })
  else if kind = 1 ∧ bad ≠ 0 then (s, { status := 7, detail := bad })
  else if kind = 1 ∧ div = 0 then (s, { status := 3 })
  else match (List.range 32).find? (fun i => decide (∀ u ∈ s.mgt.subs, u.id ≠ i)) with
    | none => (s, { status := 8 })
    | some i =>
      let u : Subscription := { id := i, session := r.session, path := r.path, ip := if destIp = 0 then r.srcIp else destIp,
                                port := if destPort = 0 then r.srcPort else destPort, events := decide (kind = 2),
                                select := select, div := if kind = 1 then div else 1 }
      let t : State := { s with mgt := { s.mgt with subs := s.mgt.subs ++ [u] } }
      (t, { status := 0, body := [BitVec.ofNat 8 i, 0, 0, 0] })

/-- The subscriptions that a condition keeps. -/
def State.subKeep (s : State) (p : Subscription → Bool) : State :=
  { s with mgt := { s.mgt with subs := s.mgt.subs.filter p } }

/-- SUBSCRIBE (R456): REMOVE names a subscription of the session. -/
def State.subscribe (s : State) (r : Req) (action sub kind div : Nat) (select destIp : Word) (destPort : BitVec 16) : State × Resp :=
  if action = 1 then s.subAdd r kind div select destIp destPort
  else if action = 2 then
    if s.mgt.subs.any (fun u => decide (u.id = sub ∧ u.session = r.session)) then
      (s.subKeep (fun u => decide (u.id ≠ sub)), { status := 0 })
    else (s, { status := 3 })
  else if action = 3 then (s.subKeep (fun u => decide (u.session ≠ r.session)), { status := 0 })
  else (s, { status := 3 })

/-- R457: how many of the gathered items one message of `room` bytes takes; at least one, at most 255. -/
def itemsFit (room : Nat) : List (List Byte) → Nat → Nat
  | [], n => n
  | x :: xs, n => if n = 0 ∨ (x.length ≤ room ∧ n < 255) then itemsFit (room - x.length) xs (n + 1) else n

/-- R457: the tag of an EVENT message on a subscription's stream. -/
def State.subTag (s : State) (u : Subscription) (marker : Option (Nat × Nat × Nat)) : OutItem :=
  { handle := 0, seq := u.seq.toNat, epoch := s.epochByte, frame := s.frame.count, marker := marker, payload := [] }

/-- An EVENT message to the destination of a subscription. -/
def State.subPush (s : State) (u : Subscription) (body : List Byte) : State :=
  s.push { path := u.path, ip := u.ip, port := u.port, ttype := 0x83, status := 0, session := u.session, tseq := 0, erridx := 0,
           detail := 0, body := body }

/-- A subscription changed in place. -/
def State.modSub (s : State) (i : Nat) (f : Subscription → Subscription) : State :=
  { s with mgt := { s.mgt with subs := s.mgt.subs.map (fun u => if u.id = i then f u else u) } }

/-- EVENT_MESSAGE_SEND (R457, R454): one message of the gathered items; an event that finds the SPI queue full is replaced by a
QUEUE_FULL marker.  A channel's subscription ends once its CHANNEL_DESTROYED marker has been sent (R456). -/
def State.eventSend (s : State) (i : Nat) : State := match s.mgt.subs.find? (fun u => decide (u.id = i)) with
  | none => s
  | some u =>
    if u.items = [] then s
    else
      let n := itemsFit (s.msgLimit u.path - 48) u.items 0
      let sent := u.items.take n
      let full := decide (u.path = .spi ∧ 16 ≤ s.mgt.outSpi.length)
      let mark := s.subTag u (some (8, 0, 0x0FFF))
      let body := if full then tagBytes mark ++ itemData mark
        else tagBytes (s.subTag u none) ++ [BitVec.ofNat 8 i, BitVec.ofNat 8 n, 0, 0] ++ sent.flatten
      let s := (s.subPush u body).modSub i (fun u => { u with seq := u.seq + 1, items := u.items.drop n })
      if !u.events ∧ sent.any destroyedItem then s.subKeep (fun u => decide (u.id ≠ i)) else s

/-! Arms (R466 to R468). -/

/-- An arm set or cleared. -/
def State.setArm (s : State) (a : Option Arm) : State := { s with mgt := { s.mgt with arm := a } }

/-- R466: a new arm replaces the previous one; its token is random and never 0. -/
def State.newArm (s : State) (session : Word) (kind : Nat) : State × Resp :=
  let t := s.freeNonzero
  ((s.setArm (some { kind := kind, session := session, token := t })).fresh, respOk (le32 t))

/-- R466: the confirmation matches the arm: the arming session and the latest token. -/
def State.armMatches (s : State) (session token : Word) (kind : Nat) : Bool := match s.mgt.arm with
  | some a => decide (a.kind = kind ∧ a.session = session ∧ a.token = token)
  | none => false

/-- DEV_RESET_CONFIRM (R467): device reset follows 2 ms after the RESPONSE. -/
def State.devResetConfirm (s : State) (session token : Word) : State × Resp :=
  if s.armMatches session token 1 then
    let s := (s.setArm none).raise 0x0002 0 s.resetData
    ({ s with mgt := { s.mgt with resetDue := true } }, respOk [])
  else (s.setArm none, respStatus 10 0)

/-- PWRCYC_ARM (R468): BUSY while the line is driven. -/
def State.pwrcycArm (s : State) (session : Word) : State × Resp :=
  if s.get Fld.AON_PWRCYC_ACTIVE = 1 then (s, respStatus 9 0) else s.newArm session 2

/-- PWRCYC_CONFIRM (R415, R468): the first token gives the second; the second drives PWRCYC_REQ_N low. -/
def State.pwrcycConfirm (s : State) (session token : Word) : State × Resp :=
  if s.armMatches session token 2 then s.newArm session 3
  else if s.armMatches session token 3 then
    let s := ((s.setArm none).set Fld.AON_PWRCYC_ACTIVE 1).count Fld.AON_PWRCYC_REQS
    (s.raise 0x0004 0 s.resetData, respOk [])
  else (s.setArm none, respStatus 10 0)

/-! The SPI target port (R454). -/

/-- SPIT_IRQ_N: low while a message waits. -/
def State.spitIrqN (s : State) : Bool := s.mgt.outSpi.isEmpty

/-- SPI_READ_TRANSFER (R454): LEN and the oldest waiting message are shifted out; a transfer that ends early counts as a bad
frame, and the message keeps waiting. -/
def State.spiRead (s : State) (early : Bool) : State :=
  if early then s.count Fld.MGT_CNT1_BAD_FRAME
  else match s.mgt.outSpi with
    | [] => { s with mgt := { s.mgt with shifted := [0, 0] } }
    | m :: ms =>
      let b := s.msgBytes m
      { s with mgt := { s.mgt with outSpi := ms, shifted := leBytes 2 b.length ++ b } }

/-! The commands. -/

/-- R48: what the error check finds on word `i` of a span, from the words that it corrects and those that it cannot. -/
def eccAt (corrected uncorrectable : List Nat) (i : Nat) : ReadEcc :=
  if i ∈ uncorrectable then .uncorrectable else if i ∈ corrected then .corrected else .clean

/-- MGMT_READ (R449): the words of the span that the error check of an Ochre memory corrects, and those that it cannot (R48). -/
def execMgmtRead (r : Req) (addr : Word) (count : BitVec 16) (corrected uncorrectable : List Nat) (s : State) :
    Host.Outcome State Fault Refusal :=
  let span := spanAddrs addr count
  .next (s.running fun s => s.request r 1 (spanBody addr count)
    { bare := span.all (fun x => bareReadable x.2), zero := decide (count ≠ 0) && span.all (fun x => decide (x.2 < 0x20)) }
    (fun s => s.mgmtRead r addr count (eccAt corrected uncorrectable)))
/-- MGMT_WRITE (R450). -/
def execMgmtWrite (r : Req) (addr : Word) (count : BitVec 16) (data : List Word) (s : State) : Host.Outcome State Fault Refusal :=
  .next (s.running fun s => s.request r 2 (spanBody addr count ++ (data.map le32).flatten)
    { bare := decide (addr.toNat = Reg.IMG_CMD ∧ data.length = 1) && decide (bitsGet (data.headD 0) 0 4 = 1) }
    (fun s => s.mgmtWrite r addr count data))
/-- SUBSCRIBE (R456). -/
def execSubscribe (r : Req) (action sub kind div : Byte) (select destIp : Word) (destPort : BitVec 16) (s : State) :
    Host.Outcome State Fault Refusal :=
  .next (s.running fun s => s.request r 4 (subscribeBody action sub kind div select destIp destPort) {}
    (fun s => s.subscribe r action.toNat sub.toNat kind.toNat div.toNat select destIp destPort))
/-- OPEN_SESSION (R447). -/
def execOpenSession (r : Req) (s : State) : Host.Outcome State Fault Refusal :=
  .next (s.command r 0x0001 [] { zero := true } State.openSession)
/-- CLOSE_SESSION (R447). -/
def execCloseSession (r : Req) (s : State) : Host.Outcome State Fault Refusal :=
  .next (s.command r 0x0002 [] {} (fun s => (s.endSession r.session, respOk [])))
/-- SESSION_FINAL_TIMEOUT (R447). -/
def execSessionFinalTimeout (session : Word) (s : State) : Host.Outcome State Fault Refusal :=
  .next (s.running (fun s => s.finalTimeout session))
/-- DEV_RESET_ARM (R466, R467). -/
def execDevResetArm (r : Req) (s : State) : Host.Outcome State Fault Refusal :=
  .next (s.command r 0x0040 [] { bare := true } (fun s => s.newArm r.session 1))
/-- DEV_RESET_CONFIRM (R467). -/
def execDevResetConfirm (r : Req) (token : Word) (s : State) : Host.Outcome State Fault Refusal :=
  .next (s.command r 0x0041 (le32 token) { bare := true } (fun s => s.devResetConfirm r.session token))
/-- PWRCYC_ARM (R468). -/
def execPwrcycArm (r : Req) (s : State) : Host.Outcome State Fault Refusal :=
  .next (s.command r 0x0042 [] {} (fun s => s.pwrcycArm r.session))
/-- PWRCYC_CONFIRM (R468). -/
def execPwrcycConfirm (r : Req) (token : Word) (s : State) : Host.Outcome State Fault Refusal :=
  .next (s.command r 0x0043 (le32 token) {} (fun s => s.pwrcycConfirm r.session token))
/-- ARM_EXPIRED (R466). -/
def execArmExpired (s : State) : Host.Outcome State Fault Refusal := .next (s.running (fun s => s.setArm none))
/-- SPI_READ_TRANSFER (R454). -/
def execSpiReadTransfer (early : Bool) (s : State) : Host.Outcome State Fault Refusal := .next (s.running (fun s => s.spiRead early))
/-- EVENT_MESSAGE_SEND (R457). -/
def execEventMessageSend (sub : Fin 32) (s : State) : Host.Outcome State Fault Refusal := .next (s.running (fun s => s.eventSend sub))

end Sys2Proof.Machine
end

