-- ==== Sys2Proof/Machine/Dispatch.lean ====
section
/-!
DEFINITION. Sys2Proof/Machine/Dispatch.lean: which meaning each command has, one arm per constructor of Instr.
-/
namespace Sys2Proof.Machine

def exec (i : Instr) (s : State) : Host.Outcome State Fault Refusal :=
  match i with
  | .powerOn => Sys2Proof.Machine.execPowerOn s
  | .supplyBelowDetector supply => Sys2Proof.Machine.execSupplyBelowDetector supply s
  | .resetNAssert => Sys2Proof.Machine.execResetNAssert s
  | .resetRelease groupId lowMs => Sys2Proof.Machine.execResetRelease groupId lowMs s
  | .oscStartSatisfied src => Sys2Proof.Machine.execOscStartSatisfied src s
  | .sourceReady src => Sys2Proof.Machine.execSourceReady src s
  | .sourceRecovered src => Sys2Proof.Machine.execSourceRecovered src s
  | .clkNoOsc => Sys2Proof.Machine.execClkNoOsc s
  | .pllLock => Sys2Proof.Machine.execPllLock s
  | .sourceTrip src => Sys2Proof.Machine.execSourceTrip src s
  | .pllLockLost => Sys2Proof.Machine.execPllLockLost s
  | .clkReturn => Sys2Proof.Machine.execClkReturn s
  | .clkCtrlRefsel crystal => Sys2Proof.Machine.execClkCtrlRefsel crystal s
  | .clkGateWrite reg value inFlight => Sys2Proof.Machine.execClkGateWrite reg value inFlight s
  | .gateCloseDeferred reg bit => Sys2Proof.Machine.execGateCloseDeferred reg bit s
  | .clkGateForced reg bit addr => Sys2Proof.Machine.execClkGateForced reg bit addr s
  | .clkCntClr => Sys2Proof.Machine.execClkCntClr s
  | .pwrcycAssertEnd => Sys2Proof.Machine.execPwrcycAssertEnd s
  | .pwrcycNotDone => Sys2Proof.Machine.execPwrcycNotDone s
  | .ochreSupplyAbsent die => Sys2Proof.Machine.execOchreSupplyAbsent die s
  | .imageCheckDone => Sys2Proof.Machine.execImageCheckDone s
  | .sectionsLoaded loadFail cfg => Sys2Proof.Machine.execSectionsLoaded loadFail cfg s
  | .cobaltBootDone ok table fwMajor fwMinor => Sys2Proof.Machine.execCobaltBootDone ok table fwMajor fwMinor s
  | .comparatorFire m => Sys2Proof.Machine.execComparatorFire m s
  | .trigPulseEnd out => Sys2Proof.Machine.execTrigPulseEnd out s
  | .invalidCodeword site => Sys2Proof.Machine.execInvalidCodeword site s
  | .handshakeWatchdog site => Sys2Proof.Machine.execHandshakeWatchdog site s
  | .bridgeAckTimeout die => Sys2Proof.Machine.execBridgeAckTimeout die s
  | .taskDispatch q u => Sys2Proof.Machine.execTaskDispatch q u s
  | .pipCopyValid q u => Sys2Proof.Machine.execPipCopyValid q u s
  | .spareWakeDone q u pass => Sys2Proof.Machine.execSpareWakeDone q u pass s
  | .pipLoadDone q u => Sys2Proof.Machine.execPipLoadDone q u s
  | .operationComplete q u ecc testWrong => Sys2Proof.Machine.execOperationComplete q u ecc testWrong s
  | .completionToken q task => Sys2Proof.Machine.execCompletionToken q task s
  | .slackToken task => Sys2Proof.Machine.execSlackToken task s
  | .slkClr => Sys2Proof.Machine.execSlkClr s
  | .arbRequest port idx => Sys2Proof.Machine.execArbRequest port idx s
  | .arbOwnerRelease port => Sys2Proof.Machine.execArbOwnerRelease port s
  | .arbBurstLimit port again => Sys2Proof.Machine.execArbBurstLimit port again s
  | .bankarbCtrlWrite q b value => Sys2Proof.Machine.execBankarbCtrlWrite q b value s
  | .egrarbCtrlWrite g value => Sys2Proof.Machine.execEgrarbCtrlWrite g value s
  | .waitAbort chain => Sys2Proof.Machine.execWaitAbort chain s
  | .channelPortOutput handle => Sys2Proof.Machine.execChannelPortOutput handle s
  | .fltCntClr => Sys2Proof.Machine.execFltCntClr s
  | .frameStart => Sys2Proof.Machine.execFrameStart s
  | .emissionTime => Sys2Proof.Machine.execEmissionTime s
  | .fusionDeadline => Sys2Proof.Machine.execFusionDeadline s
  | .planDeadline => Sys2Proof.Machine.execPlanDeadline s
  | .uartSentence port startNs ok utc reading => Sys2Proof.Machine.execUartSentence port startNs ok utc reading s
  | .e450Datagram port startNs source binary sentences => Sys2Proof.Machine.execE450Datagram port startNs source binary sentences s
  | .sensorFrame port ver typ synced sender time items overrun => Sys2Proof.Machine.execSensorFrame port ver typ synced sender time items overrun s
  | .captureEdge m rising widthNs => Sys2Proof.Machine.execCaptureEdge m rising widthNs s
  | .intakeClose start => Sys2Proof.Machine.execIntakeClose start s
  | .outlierReject slot => Sys2Proof.Machine.execOutlierReject slot s
  | .innovReject slot => Sys2Proof.Machine.execInnovReject slot s
  | .timeReadmit slot => Sys2Proof.Machine.execTimeReadmit slot s
  | .sourceReadmit slot => Sys2Proof.Machine.execSourceReadmit slot s
  | .frozenReject slot => Sys2Proof.Machine.execFrozenReject slot s
  | .estimatorSettled => Sys2Proof.Machine.execEstimatorSettled s
  | .holdoverExpired => Sys2Proof.Machine.execHoldoverExpired s
  | .windAgree => Sys2Proof.Machine.execWindAgree s
  | .lateSampleExpired => Sys2Proof.Machine.execLateSampleExpired s
  | .epochPublish sat reg domain => Sys2Proof.Machine.execEpochPublish sat reg domain s
  | .fusCalFreeze freeze => Sys2Proof.Machine.execFusCalFreeze freeze s
  | .fusCntClr => Sys2Proof.Machine.execFusCntClr s
  | .ctlModecmdWrite value => Sys2Proof.Machine.execCtlModecmdWrite value s
  | .mode r code => Sys2Proof.Machine.execMode r code s
  | .setpoint r axes rel n e psi speed => Sys2Proof.Machine.execSetpoint r axes rel n e psi speed s
  | .targetOffset r dn de dpsi => Sys2Proof.Machine.execTargetOffset r dn de dpsi s
  | .trackWrite r first points => Sys2Proof.Machine.execTrackWrite r first points s
  | .trackSwap r => Sys2Proof.Machine.execTrackSwap r s
  | .originMove r lat lon => Sys2Proof.Machine.execOriginMove r lat lon s
  | .calFreeze r freeze => Sys2Proof.Machine.execCalFreeze r freeze s
  | .calWrite r slot state elem value => Sys2Proof.Machine.execCalWrite r slot state elem value s
  | .calRead r slot state elem => Sys2Proof.Machine.execCalRead r slot state elem s
  | .compEngaged r flag => Sys2Proof.Machine.execCompEngaged r flag s
  | .pmsTimeout => Sys2Proof.Machine.execPmsTimeout s
  | .targetLost => Sys2Proof.Machine.execTargetLost s
  | .srcLost => Sys2Proof.Machine.execSrcLost s
  | .srcHoldExpired => Sys2Proof.Machine.execSrcHoldExpired s
  | .compExitEnd => Sys2Proof.Machine.execCompExitEnd s
  | .iterationEnd cls group own => Sys2Proof.Machine.execIterationEnd cls group own s
  | .solverRestart cls group => Sys2Proof.Machine.execSolverRestart cls group s
  | .refreshComplete cls group pivRepl saturated => Sys2Proof.Machine.execRefreshComplete cls group pivRepl saturated s
  | .solveStopTime cls => Sys2Proof.Machine.execSolveStopTime cls s
  | .conseqGroupTime group => Sys2Proof.Machine.execConseqGroupTime group s
  | .slvRefresh mask => Sys2Proof.Machine.execSlvRefresh mask s
  | .slvCntClr => Sys2Proof.Machine.execSlvCntClr s
  | .alcEnableWrite value => Sys2Proof.Machine.execAlcEnableWrite value s
  | .alcCntClr => Sys2Proof.Machine.execAlcCntClr s
  | .driveFeedback idx => Sys2Proof.Machine.execDriveFeedback idx s
  | .driveTimeout idx => Sys2Proof.Machine.execDriveTimeout idx s
  | .readmitConditionMet idx reason => Sys2Proof.Machine.execReadmitConditionMet idx reason s
  | .conseqGroupRelease => Sys2Proof.Machine.execConseqGroupRelease s
  | .cqShareMiss group => Sys2Proof.Machine.execCqShareMiss group s
  | .cqStale group => Sys2Proof.Machine.execCqStale group s
  | .cqaRestart => Sys2Proof.Machine.execCqaRestart s
  | .cqaCntClr => Sys2Proof.Machine.execCqaCntClr s
  | .servoBoundary n => Sys2Proof.Machine.execServoBoundary n s
  | .outerBoundary n => Sys2Proof.Machine.execOuterBoundary n s
  | .stallFault n => Sys2Proof.Machine.execStallFault n s
  | .srvCmdClose n => Sys2Proof.Machine.execSrvCmdClose n s
  | .srvCmdOpen n => Sys2Proof.Machine.execSrvCmdOpen n s
  | .srvCmdClrFault n => Sys2Proof.Machine.execSrvCmdClrFault n s
  | .srvSpsrcWrite n value => Sys2Proof.Machine.execSrvSpsrcWrite n value s
  | .srvHostspWrite n value => Sys2Proof.Machine.execSrvHostspWrite n value s
  | .srvCntClr => Sys2Proof.Machine.execSrvCntClr s
  | .heartbeatDue => Sys2Proof.Machine.execHeartbeatDue s
  | .heartbeatRx payload => Sys2Proof.Machine.execHeartbeatRx payload s
  | .stateFragmentRx payload => Sys2Proof.Machine.execStateFragmentRx payload s
  | .healthRx payload => Sys2Proof.Machine.execHealthRx payload s
  | .claimRx payload => Sys2Proof.Machine.execClaimRx payload s
  | .offerRx payload => Sys2Proof.Machine.execOfferRx payload s
  | .takeoverTimeout => Sys2Proof.Machine.execTakeoverTimeout s
  | .rankWaitExpired => Sys2Proof.Machine.execRankWaitExpired s
  | .formWaitExpired => Sys2Proof.Machine.execFormWaitExpired s
  | .groupIsolated => Sys2Proof.Machine.execGroupIsolated s
  | .slhHandover target => Sys2Proof.Machine.execSlhHandover target s
  | .slhCntClr => Sys2Proof.Machine.execSlhCntClr s
  | .formingHealthDue => Sys2Proof.Machine.execFormingHealthDue s
  | .safetyChannelRecognised t idx chB level held => Sys2Proof.Machine.execSafetyChannelRecognised t idx chB level held s
  | .c1StopTimer t f => Sys2Proof.Machine.execC1StopTimer t f s
  | .discrepancyLatch t f => Sys2Proof.Machine.execDiscrepancyLatch t f s
  | .twoHandSyncTimeout t f => Sys2Proof.Machine.execTwoHandSyncTimeout t f s
  | .tpPulseSample k a b => Sys2Proof.Machine.execTpPulseSample k a b s
  | .offPulseTest t p => Sys2Proof.Machine.execOffPulseTest t p s
  | .cobaltCycle => Sys2Proof.Machine.execCobaltCycle s
  | .tickCrossCheck deviates => Sys2Proof.Machine.execTickCrossCheck deviates s
  | .xcheckFault missing => Sys2Proof.Machine.execXcheckFault missing s
  | .outputReadbackFault t p level => Sys2Proof.Machine.execOutputReadbackFault t p level s
  | .selftestFail t => Sys2Proof.Machine.execSelftestFail t s
  | .chargePumpDeenergise t p => Sys2Proof.Machine.execChargePumpDeenergise t p s
  | .safCtrlHold => Sys2Proof.Machine.execSafCtrlHold s
  | .safCtrlRelease => Sys2Proof.Machine.execSafCtrlRelease s
  | .safCntClr => Sys2Proof.Machine.execSafCntClr s
  | .safeHold r => Sys2Proof.Machine.execSafeHold r s
  | .safeRelease r => Sys2Proof.Machine.execSafeRelease r s
  | .safetyReload r what bank => Sys2Proof.Machine.execSafetyReload r what bank s
  | .slateReloadDone table => Sys2Proof.Machine.execSlateReloadDone table s
  | .safetyReloadTimeout => Sys2Proof.Machine.execSafetyReloadTimeout s
  | .tpPulseStart k => Sys2Proof.Machine.execTpPulseStart k s
  | .offPulseEnd t p off => Sys2Proof.Machine.execOffPulseEnd t p off s
  | .canFrameRx n f ageNs reading => Sys2Proof.Machine.execCanFrameRx n f ageNs reading s
  | .canTxEnd n how loopDelay => Sys2Proof.Machine.execCanTxEnd n how loopDelay s
  | .canBusIdleDetect n => Sys2Proof.Machine.execCanBusIdleDetect n s
  | .busoffRecovered n => Sys2Proof.Machine.execBusoffRecovered n s
  | .canCtrlMode n mode => Sys2Proof.Machine.execCanCtrlMode n mode s
  | .canBoRecover n => Sys2Proof.Machine.execCanBoRecover n s
  | .canCntClr n => Sys2Proof.Machine.execCanCntClr n s
  | .canTxcancel n obj => Sys2Proof.Machine.execCanTxcancel n obj s
  | .canTtswap n => Sys2Proof.Machine.execCanTtswap n s
  | .canObjenWrite n w value => Sys2Proof.Machine.execCanObjenWrite n w value s
  | .detDwellExpired n => Sys2Proof.Machine.execDetDwellExpired n s
  | .canNoRate n => Sys2Proof.Machine.execCanNoRate n s
  | .basicCycleStart n => Sys2Proof.Machine.execBasicCycleStart n s
  | .ttBackupTimeout n => Sys2Proof.Machine.execTtBackupTimeout n s
  | .ttWindowStart n window fits => Sys2Proof.Machine.execTtWindowStart n window fits s
  | .reasmTimeout n obj => Sys2Proof.Machine.execReasmTimeout n obj s
  | .pairRxTimeout n obj => Sys2Proof.Machine.execPairRxTimeout n obj s
  | .canRxError n code fast dominant => Sys2Proof.Machine.execCanRxError n code fast dominant s
  | .canTxStart n fits => Sys2Proof.Machine.execCanTxStart n fits s
  | .ethFrameRx port f => Sys2Proof.Machine.execEthFrameRx port f s
  | .prpHoldExpired src seq => Sys2Proof.Machine.execPrpHoldExpired src seq s
  | .prpNodeForget src => Sys2Proof.Machine.execPrpNodeForget src s
  | .prpSupervisionTx => Sys2Proof.Machine.execPrpSupervisionTx s
  | .egressFrameStart mgmt => Sys2Proof.Machine.execEgressFrameStart mgmt s
  | .linkChange port up speed => Sys2Proof.Machine.execLinkChange port up speed s
  | .ethCfgEn port en => Sys2Proof.Machine.execEthCfgEn port en s
  | .ethSwapPair => Sys2Proof.Machine.execEthSwapPair s
  | .ethSwapMgmt => Sys2Proof.Machine.execEthSwapMgmt s
  | .ethCntClr => Sys2Proof.Machine.execEthCntClr s
  | .mdioGo value => Sys2Proof.Machine.execMdioGo value s
  | .mdioDone data => Sys2Proof.Machine.execMdioDone data s
  | .e450Tx => Sys2Proof.Machine.execE450Tx s
  | .ptpMessageRx port msg => Sys2Proof.Machine.execPtpMessageRx port msg s
  | .tbStep => Sys2Proof.Machine.execTbStep s
  | .ptpMessageDue port kind => Sys2Proof.Machine.execPtpMessageDue port kind s
  | .announceTimeout port => Sys2Proof.Machine.execAnnounceTimeout port s
  | .syncLoss port => Sys2Proof.Machine.execSyncLoss port s
  | .tbRearm => Sys2Proof.Machine.execTbRearm s
  | .tbIncWrite value => Sys2Proof.Machine.execTbIncWrite value s
  | .tbJumpLimWrite value => Sys2Proof.Machine.execTbJumpLimWrite value s
  | .tbCntClr => Sys2Proof.Machine.execTbCntClr s
  | .comparatorEnable value => Sys2Proof.Machine.execComparatorEnable value s
  | .tbNsRead => Sys2Proof.Machine.execTbNsRead s
  | .tbCapValRead m => Sys2Proof.Machine.execTbCapValRead m s
  | .tbFault => Sys2Proof.Machine.execTbFault s
  | .chainOutput n cic => Sys2Proof.Machine.execChainOutput n cic s
  | .chainStart n => Sys2Proof.Machine.execChainStart n s
  | .chainStop n => Sys2Proof.Machine.execChainStop n s
  | .modStuck n => Sys2Proof.Machine.execModStuck n s
  | .chainDcbWrite n value => Sys2Proof.Machine.execChainDcbWrite n value s
  | .anaCntClr => Sys2Proof.Machine.execAnaCntClr s
  | .aoutDataWrite n value => Sys2Proof.Machine.execAoutDataWrite n value s
  | .pinEdge idx a b => Sys2Proof.Machine.execPinEdge idx a b s
  | .pinGateEnd idx => Sys2Proof.Machine.execPinGateEnd idx s
  | .pinZeroTimeout idx => Sys2Proof.Machine.execPinZeroTimeout idx s
  | .pinStart idx => Sys2Proof.Machine.execPinStart idx s
  | .pinStop idx => Sys2Proof.Machine.execPinStop idx s
  | .pinLoad idx => Sys2Proof.Machine.execPinLoad idx s
  | .swoSet w value => Sys2Proof.Machine.execSwoSet w value s
  | .swoClr w value => Sys2Proof.Machine.execSwoClr w value s
  | .dinEdge idx level => Sys2Proof.Machine.execDinEdge idx level s
  | .imgVerify bank => Sys2Proof.Machine.execImgVerify bank s
  | .bankVerifyDone bank => Sys2Proof.Machine.execBankVerifyDone bank s
  | .imgAdopt bank => Sys2Proof.Machine.execImgAdopt bank s
  | .imgReloadRegion g => Sys2Proof.Machine.execImgReloadRegion g s
  | .imgCntClr => Sys2Proof.Machine.execImgCntClr s
  | .regionSectionLoaded ok cfg => Sys2Proof.Machine.execRegionSectionLoaded ok cfg s
  | .regionCopybackDone => Sys2Proof.Machine.execRegionCopybackDone s
  | .adoptStepDone outcome cfg => Sys2Proof.Machine.execAdoptStepDone outcome cfg s
  | .imageConflictRepeat => Sys2Proof.Machine.execImageConflictRepeat s
  | .nvmRead r bank addr len => Sys2Proof.Machine.execNvmRead r bank addr len s
  | .nvmWrite r bank addr len data => Sys2Proof.Machine.execNvmWrite r bank addr len data s
  | .nvmErase r bank addr => Sys2Proof.Machine.execNvmErase r bank addr s
  | .nvmOpDone bank ok => Sys2Proof.Machine.execNvmOpDone bank ok s
  | .keyProgram r key => Sys2Proof.Machine.execKeyProgram r key s
  | .mgmtRead r addr count corrected uncorrectable => Sys2Proof.Machine.execMgmtRead r addr count corrected uncorrectable s
  | .mgmtWrite r addr count data => Sys2Proof.Machine.execMgmtWrite r addr count data s
  | .registerWrite addr value => Sys2Proof.Machine.execRegisterWrite addr value s
  | .subscribe r action sub kind div select destIp destPort => Sys2Proof.Machine.execSubscribe r action sub kind div select destIp destPort s
  | .openSession r => Sys2Proof.Machine.execOpenSession r s
  | .closeSession r => Sys2Proof.Machine.execCloseSession r s
  | .sessionFinalTimeout session => Sys2Proof.Machine.execSessionFinalTimeout session s
  | .chCreate r typ index body => Sys2Proof.Machine.execChCreate r typ index body s
  | .chDestroy r handle => Sys2Proof.Machine.execChDestroy r handle s
  | .chQuery r typ index => Sys2Proof.Machine.execChQuery r typ index s
  | .funcReinit r func arg => Sys2Proof.Machine.execFuncReinit r func arg s
  | .funcReinitDone func arg ok code => Sys2Proof.Machine.execFuncReinitDone func arg ok code s
  | .funcReinitTimeout func arg => Sys2Proof.Machine.execFuncReinitTimeout func arg s
  | .devResetArm r => Sys2Proof.Machine.execDevResetArm r s
  | .devResetConfirm r token => Sys2Proof.Machine.execDevResetConfirm r token s
  | .devResetEntry => Sys2Proof.Machine.execDevResetEntry s
  | .pwrcycArm r => Sys2Proof.Machine.execPwrcycArm r s
  | .pwrcycConfirm r token => Sys2Proof.Machine.execPwrcycConfirm r token s
  | .armExpired => Sys2Proof.Machine.execArmExpired s
  | .spiReadTransfer early => Sys2Proof.Machine.execSpiReadTransfer early s
  | .eventMessageSend sub => Sys2Proof.Machine.execEventMessageSend sub s
  | .sysExpertKey session value => Sys2Proof.Machine.execSysExpertKey session value s
  | .expertUnlockExpired session => Sys2Proof.Machine.execExpertUnlockExpired session s
  | .sysCntClr => Sys2Proof.Machine.execSysCntClr s
  | .mgtCntClr => Sys2Proof.Machine.execMgtCntClr s
  | .eventCommit => Sys2Proof.Machine.execEventCommit s
  | .recordProgramDone bank ok => Sys2Proof.Machine.execRecordProgramDone bank ok s
  | .sectorEraseDone bank ok => Sys2Proof.Machine.execSectorEraseDone bank ok s
  | .recorderReady => Sys2Proof.Machine.execRecorderReady s
  | .freezeDrained => Sys2Proof.Machine.execFreezeDrained s
  | .freezeTimeout => Sys2Proof.Machine.execFreezeTimeout s
  | .recCtrlFreeze => Sys2Proof.Machine.execRecCtrlFreeze s
  | .recCtrlRelease => Sys2Proof.Machine.execRecCtrlRelease s
  | .recCntClr => Sys2Proof.Machine.execRecCntClr s
  | .recFreeze r => Sys2Proof.Machine.execRecFreeze r s
  | .recRelease r => Sys2Proof.Machine.execRecRelease r s
  | .timeMark => Sys2Proof.Machine.execTimeMark s

end Sys2Proof.Machine
end

