-- ==== Sys2Proof/Safety.lean ====
section
/-!
DEFINITION. Sys2Proof/Safety.lean: what a safe state is, in the terms that statements use: the invariant that every step
keeps, a part that is released from reset, and what a command leaves as it was.
-/
namespace Sys2Proof.Machine

/-- The sparse memories of the part keep their one canonical form. -/
abbrev Memory.wf (s : State) : Prop :=
  cellsWf 0 s.regs ∧ cellsWf 0xFF s.nvm0 ∧ cellsWf 0xFF s.nvm1 ∧ cellsWf 0 s.omem

/-- The kind of the arm in force, as MGT_STAT.ARM shows it; 0 for none (R466, R468). -/
def State.armKind (s : State) : Nat := match s.mgt.arm with | some a => a.kind | none => 0

/-- The status fields that mirror other state show it: open sessions, subscriptions and the arm (Table 18-9), no safety output
on (R282), an adoption and a region reload in progress (Table 17-11). -/
structure State.Inv (s : State) : Prop where
  sessions : s.get Fld.MGT_STAT_SESSIONS = s.mgt.sessions.length % 16
  subs : s.get Fld.MGT_STAT_SUBS = s.mgt.subs.length % 64
  arm : s.get Fld.MGT_STAT_ARM = s.armKind % 4
  safe : s.get Fld.SAF_STAT_SAFE = (decide (s.rd Reg.SAF_SO = 0 ∧ s.rd Reg.SAF_SORB = 0)).toNat
  adopting : s.get Fld.IMG_STAT_ADOPTING = s.img.adopting.isSome.toNat
  reloading : s.get Fld.IMG_STAT_RELOADING = s.img.reload.isSome.toNat

/-- A part that is released from reset and in which the invariant holds. -/
structure State.Live (s : State) : Prop where
  released : s.rst.inReset = false
  inv : s.Inv

/-- Everything the state holds but the registers. -/
def State.rest (s : State) : State := { s with regs := [] }

/-- Every register outside a list of addresses reads in `t` as it read in `s`. -/
def State.keeps (s t : State) (l : List Nat) : Prop := ∀ a, a ∉ l → t.rd a = s.rd a

/-- The messages that wait on a path. -/
def State.out (s : State) : Path → List Msg
  | .lan => s.mgt.outLan
  | .mgmt => s.mgt.outMgmt
  | .spi => s.mgt.outSpi

/-- A request that reaches the part's management (R444 to R446, R455): the part runs an image, there is room for the answer, and
the frame, its MAC and its member are good. -/
structure State.Heard (s : State) (r : Req) (ttype : Nat) (body : List Byte) : Prop where
  room : r.path = .spi → s.mgt.outSpi.length < 16
  hears : s.deaf r.path = false
  auth : s.noAuth = false
  image : s.cfg.isSome = true
  frame : r.ver = 1 ∧ r.len.toNat = body.length
  mac : r.mac = s.reqMac r ttype body
  member : r.member.toNat = s.get Fld.SYS_STRAP_GROUP_ID

/-- The last TSEQ that a session accepted, 0 for none (R447). -/
def Session.last (x : Session) : Nat := match x.lastTseq with | some t => t.toNat | none => 0

/-- A request that the part accepts and executes (R447): it is heard, its session is open, and TSEQ is above the last. -/
structure State.Accepts (s : State) (r : Req) (ttype : Nat) (body : List Byte) : Prop extends s.Heard r ttype body where
  number : r.session ≠ 0
  session : ∃ x, s.session r.session = some x ∧ x.last < r.tseq.toNat

/-- The RESPONSE to a request, with this answer, is the last message that waits on its path. -/
def State.Answered (s t : State) (r : Req) (x : Resp) : Prop := ∃ l, t.out r.path = s.out r.path ++ l ++ [respMsg r x]

/-- The request that a management command brings: its header, its TTYPE and its body; none for the other commands. -/
def requestOf : Instr → Option (Req × Nat × List Byte)
  | .mgmtRead r addr count _ _ => some (r, 1, spanBody addr count)
  | .mgmtWrite r addr count data => some (r, 2, spanBody addr count ++ (data.map le32).flatten)
  | .subscribe r a sub kind div select ip port => some (r, 4, subscribeBody a sub kind div select ip port)
  | .openSession r => some (r, 3, cmdBody 0x01 [])
  | .closeSession r => some (r, 3, cmdBody 0x02 [])
  | .mode r code => some (r, 3, cmdBody 0x10 (modeBody code))
  | .setpoint r axes rel n e psi speed => some (r, 3, cmdBody 0x11 (setpointBody axes rel n e psi speed))
  | .targetOffset r dn de dpsi => some (r, 3, cmdBody 0x12 (le32 (ofInt32 dn) ++ le32 (ofInt32 de) ++ le32 (ofInt32 dpsi)))
  | .trackWrite r first points =>
    some (r, 3, cmdBody 0x13 ([first, BitVec.ofNat 8 points.length, 0, 0] ++ (points.map Waypoint.bytes).flatten))
  | .trackSwap r => some (r, 3, cmdBody 0x14 [])
  | .originMove r lat lon => some (r, 3, cmdBody 0x15 (le32 (ofInt32 lat) ++ le32 (ofInt32 lon)))
  | .calFreeze r freeze => some (r, 3, cmdBody 0x16 [freeze, 0, 0, 0])
  | .calWrite r slot st elem v => some (r, 3, cmdBody 0x17 ([slot, st, elem, 0] ++ le32 (ofInt32 v)))
  | .calRead r slot st elem => some (r, 3, cmdBody 0x18 [slot, st, elem, 0])
  | .compEngaged r flag => some (r, 3, cmdBody 0x19 [flag, 0, 0, 0])
  | .chCreate r typ index body => some (r, 3, cmdBody 0x20 (createArgs typ index body))
  | .chDestroy r h => some (r, 3, cmdBody 0x21 (le32 h))
  | .chQuery r typ index => some (r, 3, cmdBody 0x22 ([typ, 0] ++ leBytes 2 index.toNat))
  | .funcReinit r func arg => some (r, 3, cmdBody 0x30 ([func, 0, 0, 0] ++ le32 arg))
  | .devResetArm r => some (r, 3, cmdBody 0x40 [])
  | .devResetConfirm r token => some (r, 3, cmdBody 0x41 (le32 token))
  | .pwrcycArm r => some (r, 3, cmdBody 0x42 [])
  | .pwrcycConfirm r token => some (r, 3, cmdBody 0x43 (le32 token))
  | .safeHold r => some (r, 3, cmdBody 0x50 [])
  | .safeRelease r => some (r, 3, cmdBody 0x51 [])
  | .safetyReload r what bank => some (r, 3, cmdBody 0x52 [what, bank, 0, 0])
  | .nvmRead r bank addr len => some (r, 3, cmdBody 0x60 (nvmArgs bank addr len))
  | .nvmWrite r bank addr len data => some (r, 3, cmdBody 0x61 (nvmArgs bank addr len ++ data))
  | .nvmErase r bank addr => some (r, 3, cmdBody 0x62 ([bank, 0, 0, 0] ++ le32 addr))
  | .keyProgram r key => some (r, 3, cmdBody 0x63 key)
  | .recFreeze r => some (r, 3, cmdBody 0x70 [])
  | .recRelease r => some (r, 3, cmdBody 0x71 [])
  | _ => none

/-- The parts of the state beside the registers.  `port`: the events at the event port, which may only be added to; `recd`: the
rest of the recorder. -/
inductive Part
  | nvm0 | nvm1 | omem | keyStore | cfg | aon | rst | clk | tb | img | mgt | frame | chans | fab | fus | ctl | slv | alc | can | eth | ana | srv | saf | grp | freeCtr | pending
  | recd | port
deriving DecidableEq, Repr

/-- A part is the same in two states; the event port has only been added to. -/
def Part.same (p : Part) (s t : State) : Prop := match p with
  | .nvm0 => t.nvm0 = s.nvm0
  | .nvm1 => t.nvm1 = s.nvm1
  | .omem => t.omem = s.omem
  | .keyStore => t.keyStore = s.keyStore
  | .cfg => t.cfg = s.cfg ∧ t.base = s.base
  | .aon => t.aon = s.aon
  | .rst => t.rst = s.rst
  | .clk => t.clk = s.clk
  | .tb => t.tb = s.tb
  | .img => t.img = s.img
  | .mgt => t.mgt = s.mgt
  | .frame => t.frame = s.frame
  | .chans => t.chans = s.chans
  | .fab => t.fab = s.fab
  | .fus => t.fus = s.fus
  | .ctl => t.ctl = s.ctl
  | .slv => t.slv = s.slv
  | .alc => t.alc = s.alc
  | .can => t.can = s.can
  | .eth => t.eth = s.eth
  | .ana => t.ana = s.ana
  | .srv => t.srv = s.srv
  | .saf => t.saf = s.saf
  | .grp => t.grp = s.grp
  | .freeCtr => t.freeCtr = s.freeCtr
  | .pending => t.pending = s.pending
  | .recd => { t.recd with port := [] } = { s.recd with port := [] }
  | .port => s.recd.port <+: t.recd.port

/-- From `s` to `t` only the listed parts have changed. -/
def State.Touch (l : List Part) (s t : State) : Prop := ∀ p, p ∉ l → p.same s t

end Sys2Proof.Machine
end

