-- ==== Sys2Proof/Certificates/Slice0/Obligations.lean ====
section
/-!
DEFINITION. Sys2Proof/Certificates/Slice0/Obligations.lean: the statements for the provers.  A command that completes is said
to answer a next state `t`; `s.keeps t l` is its register frame (every register outside `l` reads as before), `t.rest` the
frame of everything else.  `s.Live`: the part is released from reset and `State.Inv` holds.
-/
open Sys2Proof Sys2Proof.Machine
/-- A step takes the command at the front of the queue and runs it with the queue's rest; with nothing queued it does nothing in reset,
and else it is one tick (log entry 2): the time base advances by TB_INC, by ten times TB_INC on its limp clock, and nothing changes but
the time, TB_NS, TB_WRAPS and REC_OPTIME. Rests on choices and readings of the model's own: log entries 2, 15. -/
def Obligations.StepRunsTheFrontCommand : Prop :=
  (∀ c q s, s.pending = c :: q → Machine.step s = exec c { s with pending := q }) ∧
  (∀ s, s.pending = [] → s.rst.inReset = true → Machine.step s = .next s) ∧
  (∀ s, s.Live → s.pending = [] → ∃ t, Machine.step s = .next t ∧
    t.now * 2 ^ 24 + t.tb.frac = ((s.now * 2 ^ 24 + s.tb.frac +
      (s.rd Reg.TB_INC).toNat * (if s.get Fld.TB_STAT_LIMP = 1 then 10 else 1)) % 2 ^ 88) ∧
    s.keeps t [Reg.TB_NS, Reg.TB_WRAPS, Reg.REC_OPTIME] ∧ State.Touch [.tb] s t)
/-- Every command of the table has a next state, whatever the state and the operands. R412: while the part is held in reset nothing acts
but power, reset and its release, and the always-on domain. Rests on choices and readings of the model's own: log entry 1. -/
def Obligations.EveryCommandCompletesAndResetHoldsThePart : Prop :=
  (∀ c s, ∃ t, exec c s = .next t) ∧
  (∀ c s, s.rst.inReset = true →
    c ∉ [.powerOn, .supplyBelowDetector .aon, .supplyBelowDetector .um, .resetNAssert, .pwrcycAssertEnd, .pwrcycNotDone] →
    (∀ g ms, c ≠ .resetRelease g ms) → exec c s = .next s)
/-- After reset the status fields that show other state (State.Inv) are right, and the sparse memories are canonical. Rests on choices
and readings of the model's own: log entries 7, 119. -/
def Obligations.ResetKeepsTheInvariant : Prop := State.reset.Inv ∧ Memory.wf State.reset
/-- Whatever the state and whatever waits, a step leaves the status fields that show other state right (State.Inv): R282, Table 17-11,
Table 18-9. Rests on choices and readings of the model's own: log entry 119. -/
def Obligations.EveryStepKeepsTheInvariant : Prop := ∀ s t, s.Inv → Machine.step s = .next t → t.Inv
/-- R433: the image key, once programmed, is never changed or erased: by no command, and by no reset. -/
def Obligations.TheImageKeyIsNeverErased : Prop :=
  ∀ c s t k, s.keyStore = some k → exec c s = .next t → t.keyStore = some k
/-- R253: the event port gives its events up to EVENT_COMMIT in their order of acceptance: any other command of a running part but a
reset only adds events behind those that wait, and EVENT_COMMIT takes the first of them. -/
def Obligations.EventsWaitInOrder : Prop :=
  (∀ c s t, exec c s = .next t → c ≠ .eventCommit → t.rst.inReset = false → s.recd.port <+: t.recd.port) ∧
  (∀ s e es, s.Live → s.recd.port = e :: es → ∃ t, exec .eventCommit s = .next t ∧ es <+: t.recd.port)
/-- R422, R423, R470, R473: the two NOR devices change at their program and erase completions only, and keep their canonical form under
every command. Rests on choices and readings of the model's own: log entry 6. -/
def Obligations.NvmChangesOnlyAtItsCompletions : Prop :=
  (∀ c s t, exec c s = .next t → (∀ b ok, c ≠ .recordProgramDone b ok ∧ c ≠ .sectorEraseDone b ok ∧ c ≠ .nvmOpDone b ok) →
    t.nvm0 = s.nvm0 ∧ t.nvm1 = s.nvm1) ∧
  (∀ c s t, exec c s = .next t → cellsWf 0xFF s.nvm0 ∧ cellsWf 0xFF s.nvm1 → cellsWf 0xFF t.nvm0 ∧ cellsWf 0xFF t.nvm1)
/-- No command puts a command in the queue or takes one out, and the frame moves on by FRAME_START, EMISSION_TIME, a step of the time
base, a heartbeat of the group, or a reset only. Rests on choices and readings of the model's own: log entry 2. -/
def Obligations.QueueAndFrameAreTheirOwn : Prop :=
  ∀ c s t, exec c s = .next t → t.pending = s.pending ∧
    (c ≠ .frameStart → c ≠ .emissionTime → c ≠ .tbStep → (∀ h, c ≠ .heartbeatRx h) → t.rst.inReset = false → t.frame = s.frame)
/-- R401, R402, R404, R405: a source whose start method is satisfied is marked so; a started source that is found in range becomes
ready, and the flag NO_OSC ends; a trip clears the ready flag and counts, and where the tripped source fed the PLL and the other is
ready, the other feeds it, CLK_REF_LOST being raised for the reference; a tripped source that has recovered is ready again; a source
that becomes ready feeds the PLL if it is the reference or if the other is not ready. Rests on choices and readings of the model's own:
log entries 16, 81. -/
def Obligations.ExternalSourcesStartTripAndRecover : Prop :=
  let tripCnt := fun (x : ExtSource) => match x with | .reference => Fld.CLK_CNT_REF_TRIPS | .crystal => Fld.CLK_CNT_XTAL_TRIPS
  (∀ s x, s.Live → s.clk.enabled x = true → ∃ t, exec (.oscStartSatisfied x) s = .next t ∧ s.keeps t [] ∧
    t.rest = { s.rest with clk := s.clk.meet x }) ∧
  (∀ s x, s.Live → s.clk.started x = true → s.srcReady x = false → ∃ t, exec (.sourceReady x) s = .next t ∧
    t.srcReady x = true ∧ t.srcReady (otherSource x) = s.srcReady (otherSource x) ∧ t.get Fld.CLK_STAT_NO_OSC = 0 ∧
    t.get Fld.CLK_CTRL_REFSEL = (if x = .reference ∨ s.srcReady (otherSource x) = false then srcCode x else s.get Fld.CLK_CTRL_REFSEL) ∧
    t.get Fld.SYS_STAT_START = (if s.srcReady (otherSource x) then max (s.get Fld.SYS_STAT_START) 3 else s.get Fld.SYS_STAT_START) ∧
    s.keeps t [Reg.CLK_STAT, Reg.CLK_CTRL, Reg.SYS_STAT] ∧ t.rest = s.rest) ∧
  (∀ s x, s.Live → s.clk.enabled x = true → s.srcSelected x = false → ∃ t, exec (.sourceTrip x) s = .next t ∧
    t.srcReady x = false ∧ t.get Fld.CLK_CTRL_REFSEL = s.get Fld.CLK_CTRL_REFSEL ∧
    t.get (tripCnt x) = min (s.get (tripCnt x) + 1) 0xFF ∧
    s.keeps t [Reg.CLK_STAT, Reg.CLK_CNT] ∧ t.rest = { s.rest with clk := s.clk.trip true x }) ∧
  (∀ s x, s.Live → s.clk.enabled x = true → s.srcSelected x = true → s.srcReady (otherSource x) = true →
    ∃ t, exec (.sourceTrip x) s = .next t ∧ t.srcReady x = false ∧ t.srcSelected (otherSource x) = true ∧
    t.get Fld.CLK_STAT_PLL_LOCK = s.get Fld.CLK_STAT_PLL_LOCK ∧ t.clk = s.clk.trip true x ∧
    t.get (tripCnt x) = min (s.get (tripCnt x) + 1) 0xFF ∧ (x = .reference → ∃ e ∈ t.recd.port, e.code = 0x0801) ∧
    s.keeps t [Reg.CLK_STAT, Reg.CLK_CNT, Reg.CLK_CTRL] ∧ State.Touch [.clk, .port] s t) ∧
  (∀ s x, s.Live → s.clk.tripped x = true → ∃ t, exec (.sourceRecovered x) s = .next t ∧ t.srcReady x = true ∧
    t.clk = (s.clk.trip false x).meet x ∧ t.get Fld.CLK_STAT_NO_OSC = 0 ∧
    t.get Fld.CLK_CTRL_REFSEL = (if x = .reference ∨ s.srcReady (otherSource x) = false then srcCode x else s.get Fld.CLK_CTRL_REFSEL) ∧
    s.keeps t [Reg.CLK_STAT, Reg.CLK_CTRL, Reg.SYS_STAT] ∧ State.Touch [.clk] s t)
/-- R399, R402, R403, R406: no ready source sets NO_OSC and logs it; the PLL locks on its ready source, and at start-up every domain
moves to it; lock that has held returns every limp domain to the PLL and raises CLK_RETURN; the host switches the PLL's source, or is
refused with NOT_READY. R404, R405: with no other source ready, a trip of the PLL's source, or a lost lock, moves every domain to its
limp clock, the ETH domain stops, and CLK_STAT, TB_STAT and SRV_STAT show LIMP: CLK_LIMP and TB_LIMP are raised and every link is down;
after a trip Slate runs from the RC oscillator, and after a trip of the reference a fitted crystal is started. Rests on choices and
readings of the model's own: log entries 16, 81. -/
def Obligations.PllAndLimpClocks : Prop :=
  (∀ s, s.Live → s.srcReady .reference = false → s.srcReady .crystal = false → s.get Fld.CLK_STAT_NO_OSC = 0 →
    ∃ t, exec .clkNoOsc s = .next t ∧ t.get Fld.CLK_STAT_NO_OSC = 1 ∧ (∃ e, t.recd.port = s.recd.port ++ [e] ∧ e.code = 0x0804) ∧
    s.keeps t [Reg.CLK_STAT] ∧ State.Touch [.port] s t) ∧
  (∀ s x, s.Live → s.srcSelected x = true → s.srcReady x = true → ∃ t, exec .pllLock s = .next t ∧
    t.get Fld.CLK_STAT_PLL_LOCK = 1 ∧ t.rd Reg.CLK_DOMSTAT = (if s.rd Reg.CLK_DOMSTAT = 0 then 0x5555 else s.rd Reg.CLK_DOMSTAT) ∧
    (s.rd Reg.CLK_DOMSTAT = 0 → t.get Fld.SYS_STAT_START = max (s.get Fld.SYS_STAT_START) 4) ∧
    s.keeps t [Reg.CLK_STAT, Reg.CLK_DOMSTAT, Reg.SYS_STAT] ∧ t.rest = s.rest) ∧
  (∀ s, s.Live → s.get Fld.CLK_STAT_LIMP = 1 → s.get Fld.CLK_STAT_PLL_LOCK = 1 → ∃ t, exec .clkReturn s = .next t ∧
    t.rd Reg.CLK_DOMSTAT = 0x5555 ∧ t.get Fld.CLK_STAT_LIMP = 0 ∧ t.get Fld.TB_STAT_LIMP = 0 ∧ t.get Fld.SRV_STAT_LIMP = 0 ∧
    (∃ e, t.recd.port = s.recd.port ++ [e] ∧ e.code = 0x0803) ∧
    s.keeps t [Reg.CLK_STAT, Reg.CLK_DOMSTAT, Reg.TB_STAT, Reg.SRV_STAT] ∧ State.Touch [.port] s t) ∧
  (∀ s c, s.Live → ∃ t, exec (.clkCtrlRefsel c) s = .next t ∧
    (if s.srcReady (if c then .crystal else .reference) then
      t.srcSelected (if c then .crystal else .reference) = true ∧ s.keeps t [Reg.CLK_CTRL]
    else t.get Fld.CLK_STAT_REFUSED = 1 ∧ t.get Fld.CLK_STAT_REF_CODE = 1 ∧ t.rd Reg.SYS_REFADDR = BitVec.ofNat 32 Reg.CLK_CTRL ∧
      t.get Fld.SYS_REFINFO_CODE = 1 ∧ t.get Fld.SYS_REFINFO_BLOCK = 1 ∧
      t.get Fld.CLK_CNT_REFUSALS = min (s.get Fld.CLK_CNT_REFUSALS + 1) 0xFF ∧
      s.keeps t [Reg.CLK_STAT, Reg.CLK_CNT, Reg.SYS_REFADDR, Reg.SYS_REFINFO]) ∧ t.rest = s.rest) ∧
  (∀ s x, s.Live → s.clk.enabled x = true → s.srcSelected x = true → s.srcReady (otherSource x) = false →
    s.get Fld.CLK_STAT_LIMP = 0 → s.rd Reg.CLK_DOMSTAT ≠ 0 → ∃ t, exec (.sourceTrip x) s = .next t ∧
    t.rd Reg.CLK_DOMSTAT = 0xEAAA ∧ t.get Fld.CLK_STAT_LIMP = 1 ∧ t.get Fld.TB_STAT_LIMP = 1 ∧ t.get Fld.SRV_STAT_LIMP = 1 ∧
    t.get Fld.CLK_STAT_SLATE_RC = 1 ∧ t.srcReady x = false ∧ t.get Fld.CLK_STAT_PLL_LOCK = 0 ∧
    (∃ e ∈ t.recd.port, e.code = 0x0802) ∧ (∃ e ∈ t.recd.port, e.code = 0x1003) ∧ t.clk.tripped x = true ∧
    (x = .reference → (∀ c, s.cfg = some c → c.clock.xtalFitted = true) → t.clk.enabled .crystal = true) ∧ (∀ p < 3, t.get (Fld.ETHp_STAT_LINK p) = 0) ∧
    State.Touch [.clk, .mgt, .chans, .alc, .can, .eth, .ana, .srv, .saf, .port] s t) ∧
  (∀ s, s.Live → s.get Fld.CLK_STAT_PLL_LOCK = 1 → s.get Fld.CLK_STAT_LIMP = 0 → s.rd Reg.CLK_DOMSTAT ≠ 0 → ∃ t,
    exec .pllLockLost s = .next t ∧ t.get Fld.CLK_STAT_PLL_LOCK = 0 ∧ t.rd Reg.CLK_DOMSTAT = 0xEAAA ∧
    t.get Fld.CLK_STAT_LIMP = 1 ∧ t.get Fld.TB_STAT_LIMP = 1 ∧ t.get Fld.SRV_STAT_LIMP = 1 ∧ (∃ e ∈ t.recd.port, e.code = 0x0802) ∧ (∃ e ∈ t.recd.port, e.code = 0x1003) ∧
    (∀ p < 3, t.get (Fld.ETHp_STAT_LINK p) = 0) ∧ State.Touch [.can, .port] s t)
/-- R412, R415: while VDD_AON comes up, every register takes its reset value and everything but the NOR devices and the key store is as
after reset. R412, R413, R415, R467: every register but these takes its reset value: a reset by RESET_N, by a supply below its detector
or by command keeps the AON registers, SLH_AEPOCH and the recorder's next RNUM beside the NOR devices and the key store; AON_RSTCAUSE
says which it was. Rests on choices and readings of the model's own: log entries 7, 82. -/
def Obligations.ResetsKeepTheStoresAndTheAlwaysOnDomain : Prop :=
  (∀ s, ∃ t, exec .powerOn s = .next t ∧ (∀ a, t.rd a = regReset a) ∧
    t.rest = { State.reset with nvm0 := s.nvm0, nvm1 := s.nvm1, keyStore := s.keyStore, freeCtr := s.freeCtr, pending := s.pending }) ∧
  (∀ s, ∃ t, exec .resetNAssert s = .next t ∧ (∀ a, t.rd a = if aonAddr a then s.rd a else regReset a) ∧
    t.rest = { State.reset with
      nvm0 := s.nvm0, nvm1 := s.nvm1, keyStore := s.keyStore, aon := s.aon, freeCtr := s.freeCtr, pending := s.pending,
      rst := { inReset := true, resetN := true } }) ∧
  (∀ s, ∃ t, exec (.supplyBelowDetector .um) s = .next t ∧ t.rst.inReset = true ∧ t.aon.por = true ∧
    t.get Fld.AON_RSTCAUSE_POR = 1 ∧
    (s.aon.pwrcycWait = true → t.get Fld.AON_RSTCAUSE_PWRCYC = 1 ∧ t.aon.pwrcycWait = false) ∧
    t.keyStore = s.keyStore ∧ t.nvm0 = s.nvm0 ∧ t.nvm1 = s.nvm1 ∧
    (∀ a, a ≠ Reg.AON_RSTCAUSE → t.rd a = if aonAddr a then s.rd a else regReset a)) ∧
  (∀ s, ∃ t, exec (.supplyBelowDetector .aon) s = .next t ∧ t.rst.inReset = true ∧ t.keyStore = s.keyStore ∧
    t.nvm0 = s.nvm0 ∧ t.nvm1 = s.nvm1 ∧ (∀ a, t.rd a = if aonAddr a then s.rd a else regReset a)) ∧
  (∀ s, s.Live → s.mgt.resetDue = true → ∃ t, exec .devResetEntry s = .next t ∧ t.rst.inReset = true ∧
    t.get Fld.AON_RSTCAUSE_DEV_RESET = 1 ∧ t.mgt.arm = none ∧ t.mgt.sessions = [] ∧ t.nvm0 = s.nvm0 ∧ t.nvm1 = s.nvm1 ∧
    t.keyStore = s.keyStore ∧ t.aon = s.aon ∧ (∀ a, a ∉ [Reg.AON_RSTCAUSE, Reg.MGT_STAT, Reg.SAF_STAT, Reg.IMG_STAT] → t.rd a = if aonAddr a then s.rd a else regReset a))
/-- R24, R401, R414, R420: the release of reset reads GROUP_ID, enables both sources, says how long RESET_N was low and raises POWER_UP;
step 2 of the start is done. R415: at the end of its 200 ms PWRCYC_REQ_N is released, in reset too; where no power-on reset follows
within 1 s the part logs PWRCYC_NOT_DONE and runs on. Rests on choices and readings of the model's own: log entry 82. -/
def Obligations.ReleaseAndPowerCycleEnd : Prop :=
  (∀ s (g : Fin 4) (ms : Nat), s.rst.inReset = true → ∃ t, exec (.resetRelease g ms) s = .next t ∧
    t.rst.inReset = false ∧ t.get Fld.SYS_STRAP_GROUP_ID = g.val ∧ (t.get Fld.SYS_STRAP_STANDALONE = 1 ↔ g = 3) ∧
    t.clk.enabled .reference = true ∧ t.clk.enabled .crystal = true ∧ 2 ≤ t.get Fld.SYS_STAT_START ∧
    (∃ e ∈ t.recd.port, e.code = 0x0001) ∧
    (s.rst.resetN = true → t.rd Reg.AON_RSTLEN = BitVec.ofNat 32 (min ms 0xFFFFFFFF) ∧ t.get Fld.AON_RSTCAUSE_RESET_N = 1 ∧
      (5000 < ms → t.get Fld.AON_RSTCAUSE_LONG = 1 ∧ ∃ e ∈ t.recd.port, e.code = 0x0003)) ∧
    s.keeps t [Reg.AON_RSTCAUSE, Reg.AON_RSTLEN, Reg.SYS_STRAP, Reg.SYS_STAT, Reg.REC_OPTIME, Reg.REC_PCYCLE, Reg.REC_RNUM,
      Reg.IMG_STAT] ∧
    t.mgt = s.mgt ∧ t.cfg = s.cfg ∧ t.nvm0 = s.nvm0 ∧ t.nvm1 = s.nvm1 ∧ t.keyStore = s.keyStore) ∧
  (∀ s, s.get Fld.AON_PWRCYC_ACTIVE = 1 → ∃ t, exec .pwrcycAssertEnd s = .next t ∧ t.get Fld.AON_PWRCYC_ACTIVE = 0 ∧
    t.get Fld.AON_PWRCYC_REQS = s.get Fld.AON_PWRCYC_REQS ∧ s.keeps t [Reg.AON_PWRCYC] ∧
    t.rest = { s.rest with aon := { s.aon with pwrcycWait := true } }) ∧
  (∀ s, s.Live → s.aon.pwrcycWait = true → ∃ t, exec .pwrcycNotDone s = .next t ∧ t.aon.pwrcycWait = false ∧
    (∃ e, t.recd.port = s.recd.port ++ [e] ∧ e.code = 0x0005 ∧ e.data = s.resetData) ∧ s.keeps t [])
/-- R408, R410, R411: a gate write opens and closes gates, or is refused with GATE_BUSY where it would close the gate of a block that
runs; a close with an access in flight is deferred, and cancelled where the gate is opened again; it ends with the handshake, or is
forced: a bus error of cause FORCED, and CLK_GATE_FORCED; CNT_CLR clears the counts. -/
def Obligations.PeripheralGates : Prop :=
  (∀ s (r : Fin 2) (v inFlight : Word), s.Live →
    (∀ b < 32, (s.rd (gateReg r) &&& ~~~v).getLsbD b = true → s.gateRuns r b = false) → ∃ t,
    exec (.clkGateWrite r v inFlight) s = .next t ∧ t.rd (gateReg r) = v &&& (if r = 0 then 0x3FFFF else 0xFFFF) ∧
    (∀ b < 32, (t.deferred r).getLsbD b = (((s.deferred r).getLsbD b || ((s.rd (gateReg r)).getLsbD b && inFlight.getLsbD b)) &&
      !(t.rd (gateReg r)).getLsbD b)) ∧ s.keeps t [gateReg r] ∧
    t.rest = { s.rest with clk := t.clk }) ∧
  (∀ s (r : Fin 2) (v inFlight : Word) (b : Nat), s.Live → b < (if r = 0 then 18 else 16) →
    (s.rd (gateReg r)).getLsbD b = true → v.getLsbD b = false → s.gateRuns r b = true → ∃ t,
    exec (.clkGateWrite r v inFlight) s = .next t ∧ t.get Fld.CLK_STAT_REFUSED = 1 ∧ t.get Fld.CLK_STAT_REF_CODE = 2 ∧
    t.rd Reg.SYS_REFADDR = BitVec.ofNat 32 (gateReg r) ∧ s.keeps t [Reg.CLK_STAT, Reg.SYS_REFADDR, Reg.SYS_REFINFO] ∧
    t.rest = s.rest) ∧
  (∀ s (r : Fin 2) (b : Fin 32), s.Live → ∃ t, exec (.gateCloseDeferred r b) s = .next t ∧ (t.deferred r).getLsbD b = false ∧
    (∀ c : Fin 32, c ≠ b → (t.deferred r).getLsbD c = (s.deferred r).getLsbD c) ∧ s.keeps t [] ∧
    t.rest = { s.rest with clk := t.clk }) ∧
  (∀ s (r : Fin 2) (b : Fin 32) (a : Word), s.Live → (s.deferred r).getLsbD b = true → ∃ t,
    exec (.clkGateForced r b a) s = .next t ∧ (t.deferred r).getLsbD b = false ∧ t.rd Reg.CLK_BERR = a ∧
    t.get Fld.CLK_BERRINFO_CAUSE = 3 ∧ t.get Fld.CLK_BERRINFO_COUNT = min (s.get Fld.CLK_BERRINFO_COUNT + 1) 0xFFFF ∧
    (∃ e, t.recd.port = s.recd.port ++ [e] ∧ e.code = 0x0805) ∧ s.keeps t [Reg.CLK_BERR, Reg.CLK_BERRINFO] ∧
    t.rest = { s.rest with clk := t.clk, recd := t.recd }) ∧
  (∀ s, s.Live → ∃ t, exec .clkCntClr s = .next t ∧ t.rd Reg.CLK_CNT = 0 ∧ t.get Fld.CLK_BERRINFO_COUNT = 0 ∧
    t.get Fld.CLK_BERRINFO_CAUSE = s.get Fld.CLK_BERRINFO_CAUSE ∧ s.keeps t [Reg.CLK_CNT, Reg.CLK_BERRINFO] ∧ t.rest = s.rest)
/-- R253, R474, R477, R479: the event port commits the event it accepted first: it takes the next RNUM, sets its class's bit in
SYS_ALERT, and where its class is recorded it joins the queues of the banks, or before READY and during a freeze the holding buffer; one
that finds that buffer full is dropped and counted, and one of a class that is not recorded is not written. Every subscription to its
class takes it. CAN_SLOT reaches subscribers only: it takes no RNUM and sets no bit. -/
def Obligations.EventsAreCommittedInOrder : Prop :=
  (∀ s (e : Event) (es : List Event), s.Live → s.recd.port = e :: es → e.code ≠ 0x5807 → ∃ t,
    exec .eventCommit s = .next t ∧ es <+: t.recd.port ∧ t.rd Reg.REC_RNUM = s.rd Reg.REC_RNUM + 1 ∧
    t.rd Reg.SYS_ALERT = s.rd Reg.SYS_ALERT ||| BitVec.ofNat 32 (2 ^ eventClass e.code) ∧
    (s.classMask.getLsbD (eventClass e.code) = true → s.holding = false → s.get Fld.REC_STAT_SINGLE_0 = 0 →
      s.recd.queue0.length < 2048 → ∃ x, t.recd.queue0 = s.recd.queue0 ++ [x] ∧ x.code = e.code ∧ x.source = e.source ∧
      x.rnum = s.rd Reg.REC_RNUM ∧ x.data = padTo 32 e.data ∧ x.tbns = s.rd Reg.TB_NS ∧ x.held = false ∧
      (s.get Fld.REC_STAT_SINGLE_1 = 0 → s.recd.queue1.length < 2048 → t.recd.queue1 = s.recd.queue1 ++ [x])) ∧
    (s.classMask.getLsbD (eventClass e.code) = false →
      t.recd.queue0 = s.recd.queue0 ∧ t.recd.queue1 = s.recd.queue1 ∧ t.recd.hold = s.recd.hold) ∧
    (s.classMask.getLsbD (eventClass e.code) = true → s.holding = true → s.recd.hold.length < 256 →
      ∃ x, t.recd.hold = s.recd.hold ++ [x] ∧ x.code = e.code ∧ x.rnum = s.rd Reg.REC_RNUM ∧ x.held = true) ∧
    (s.classMask.getLsbD (eventClass e.code) = true → s.holding = true → 256 ≤ s.recd.hold.length → t.recd.hold = s.recd.hold ∧
      t.recd.queue0 = s.recd.queue0 ∧ t.recd.queue1 = s.recd.queue1 ∧
      t.get Fld.REC_CNT_HOLD_LOST = min (s.get Fld.REC_CNT_HOLD_LOST + 1) 65535) ∧
    (∀ u ∈ s.mgt.subs, u.events = true → u.select.getLsbD (eventClass e.code) = true →
      ∃ v ∈ t.mgt.subs, v.id = u.id ∧ v.items = u.items ++ [eventItem s.now e]) ∧
    t.nvm0 = s.nvm0 ∧ t.nvm1 = s.nvm1 ∧ t.frame = s.frame ∧ t.saf = s.saf ∧ t.cfg = s.cfg) ∧
  (∀ s (e : Event) (es : List Event), s.Live → s.recd.port = e :: es → e.code = 0x5807 → ∃ t,
    exec .eventCommit s = .next t ∧ es <+: t.recd.port ∧ t.rd Reg.REC_RNUM = s.rd Reg.REC_RNUM ∧
    t.rd Reg.SYS_ALERT = s.rd Reg.SYS_ALERT ∧ t.recd.queue0 = s.recd.queue0 ∧ t.recd.queue1 = s.recd.queue1 ∧
    t.recd.hold = s.recd.hold ∧ t.nvm0 = s.nvm0 ∧ t.nvm1 = s.nvm1)
/-- R470, R471, R473: a record is programmed in two steps, bytes 0 to 59 and then MARK; with MARK the write position moves on. A sector
erase leaves every byte of the sector 0xFF. Each changes those bytes alone. A bank whose device fails a program or an erase is taken out
of recording, and BANK_SINGLE is raised. Rests on choices and readings of the model's own: log entry 18. -/
def Obligations.RecordsAreProgrammedInTwoSteps : Prop :=
  (∀ s (x : Record) (xs : List Record), s.Live → s.recd.queue0 = x :: xs → s.recd.erase0 = none → s.get Fld.REC_STAT_READY = 1 →
    s.get Fld.REC_STAT_FROZEN = 0 → s.recd.body0 = false → ∃ t, exec (.recordProgramDone 0 true) s = .next t ∧
    t.recd = { s.recd with body0 := true } ∧ t.nvm1 = s.nvm1 ∧ s.keeps t [] ∧
    (∀ i < 60, s.nvmByte 0 (recordAddr (s.get (Fld.REC_WPTRk_POS 0)) + i) = 0xFF →
      t.nvmByte 0 (recordAddr (s.get (Fld.REC_WPTRk_POS 0)) + i) = (recordBody x).getD i 0) ∧
    (∀ a, (∀ i < 60, a ≠ recordAddr (s.get (Fld.REC_WPTRk_POS 0)) + i) → t.nvmByte 0 a = s.nvmByte 0 a)) ∧
  (∀ s (x : Record) (xs : List Record), s.Live → s.recd.queue1 = x :: xs → s.recd.erase1 = none → s.get Fld.REC_STAT_READY = 1 →
    s.get Fld.REC_STAT_FROZEN = 0 → s.recd.body1 = true → ∃ t, exec (.recordProgramDone 1 true) s = .next t ∧
    t.recd.queue1 = xs ∧ t.recd.body1 = false ∧ t.recd.queue0 = s.recd.queue0 ∧ t.nvm0 = s.nvm0 ∧
    t.get (Fld.REC_WPTRk_POS 1) = (s.get (Fld.REC_WPTRk_POS 1) + 1) % 524288 ∧ s.keeps t [Reg.REC_WPTRk 1] ∧
    (∀ i < 4, s.nvmByte 1 (recordAddr (s.get (Fld.REC_WPTRk_POS 1)) + 60 + i) = 0xFF →
      t.nvmByte 1 (recordAddr (s.get (Fld.REC_WPTRk_POS 1)) + 60 + i) = (leBytes 4 0x5AC33CA5).getD i 0) ∧
    (∀ a, (∀ i < 4, a ≠ recordAddr (s.get (Fld.REC_WPTRk_POS 1)) + 60 + i) → t.nvmByte 1 a = s.nvmByte 1 a)) ∧
  (∀ s (x : Record) (xs : List Record), s.Live → s.recd.queue0 = x :: xs → s.recd.erase0 = none → s.get Fld.REC_STAT_READY = 1 →
    s.get Fld.REC_STAT_FROZEN = 0 → ∃ t, exec (.recordProgramDone 0 false) s = .next t ∧ t.get Fld.REC_STAT_SINGLE_0 = 1 ∧
    t.recd.queue0 = [] ∧ t.recd.queue1 = s.recd.queue1 ∧ (∃ e, t.recd.port = s.recd.port ++ [e] ∧ e.code = 0x0008) ∧
    t.nvm0 = s.nvm0 ∧ t.nvm1 = s.nvm1 ∧ s.keeps t [Reg.REC_STAT]) ∧
  (∀ s n, s.Live → s.recd.erase0 = some n → ∃ t, exec (.sectorEraseDone 0 true) s = .next t ∧
    (∀ a, t.nvmByte 0 a = if a / 0x10000 = (0x1000000 + 0x10000 * n) / 0x10000 then 0xFF else s.nvmByte 0 a) ∧
    t.recd = { s.recd with erase0 := none } ∧ t.nvm1 = s.nvm1 ∧ s.keeps t []) ∧
  (∀ s n, s.Live → s.recd.erase1 = some n → ∃ t, exec (.sectorEraseDone 1 false) s = .next t ∧
    t.get Fld.REC_STAT_SINGLE_1 = 1 ∧ t.recd.queue1 = [] ∧ (∃ e, t.recd.port = s.recd.port ++ [e] ∧ e.code = 0x0008) ∧
    t.nvm0 = s.nvm0 ∧ t.nvm1 = s.nvm1 ∧ s.keeps t [Reg.REC_STAT])
/-- R475, R476, R478, R480, R482: TIME_MARK raises its event; a freeze starts only in a ready recorder at rest, by register or by
command, else it is refused with BUSY; it is FROZEN once the write queues are empty; it ends by release, by register or by command, or
at its limit: the held records join the write queues; so they do when the recorder becomes READY; CNT_CLR clears the counts. Rests on
choices and readings of the model's own: log entries 103, 114. -/
def Obligations.RecorderFreezes : Prop :=
  (∀ s, s.Live → ∃ t, exec .timeMark s = .next t ∧ (∃ e, t.recd.port = s.recd.port ++ [e] ∧ e.code = 0x0006 ∧
    e.data = s.resetData) ∧ s.keeps t [] ∧ State.Touch [.port] s t) ∧
  (∀ s, s.Live → ∃ t, exec .recCtrlFreeze s = .next t ∧
    (if s.freezeAllowed = true then t.get Fld.REC_STAT_FREEZING = 1 ∧ s.keeps t [Reg.REC_STAT] ∧ State.Touch [.recd] s t else
      t.get Fld.REC_STAT_REFUSED = 1 ∧ t.get Fld.REC_STAT_REF_CODE = 1 ∧ t.rest = s.rest ∧
      s.keeps t [Reg.REC_STAT, Reg.SYS_REFADDR, Reg.SYS_REFINFO])) ∧
  (∀ s (r : Req), s.Live → s.Accepts r 3 (cmdBody 0x0070 []) → s.freezeAllowed = true → ∃ t,
    exec (.recFreeze r) s = .next t ∧ t.get Fld.REC_STAT_FREEZING = 1 ∧ t.recd.freezeReq = some (reqRef r 0x0070) ∧
    s.Answered t r (respPending []) ∧ s.keeps t [Reg.REC_STAT, Reg.MGT_CNT1] ∧ State.Touch [.mgt, .recd] s t) ∧
  (∀ s (r : Req), s.Live → s.Accepts r 3 (cmdBody 0x0070 []) → s.freezeAllowed = false → ∃ t,
    exec (.recFreeze r) s = .next t ∧ t.get Fld.REC_STAT_REFUSED = 1 ∧ t.get Fld.REC_STAT_REF_CODE = 1 ∧ t.recd = s.recd ∧
    s.Answered t r (respRefused 1)) ∧
  (∀ s, s.Live → s.get Fld.REC_STAT_FREEZING = 1 → s.recd.queue0 = [] → s.recd.queue1 = [] → ∃ t,
    exec .freezeDrained s = .next t ∧ t.get Fld.REC_STAT_FROZEN = 1 ∧ t.get Fld.REC_STAT_FREEZING = 0 ∧
    t.recd.freezeReq = none ∧ s.keeps t [Reg.REC_STAT] ∧ State.Touch [.mgt, .recd] s t) ∧
  (∀ s c, (c = .freezeTimeout ∨ c = .recCtrlRelease) → s.Live → s.get Fld.REC_STAT_FROZEN = 1 → s.recd.lost = none → ∃ t,
    exec c s = .next t ∧ t.get Fld.REC_STAT_FROZEN = 0 ∧ t.get Fld.REC_STAT_FREEZING = 0 ∧ t.get Fld.REC_STAT_HELD = 0 ∧
    t.recd.hold = [] ∧ t.recd.freezeReq = none ∧ s.keeps t [Reg.REC_STAT, Reg.REC_CNT] ∧ State.Touch [.mgt, .recd] s t ∧
    (s.get Fld.REC_STAT_SINGLE_0 = 0 → s.recd.queue0.length + s.recd.hold.length ≤ 2048 →
      t.recd.queue0 = s.recd.queue0 ++ s.recd.hold.map (fun x => { x with held := true })) ∧
    (s.get Fld.REC_STAT_SINGLE_1 = 0 → s.recd.queue1.length + s.recd.hold.length ≤ 2048 →
      t.recd.queue1 = s.recd.queue1 ++ s.recd.hold.map (fun x => { x with held := true }))) ∧
  (∀ s (r : Req), s.Live → s.Accepts r 3 (cmdBody 0x0071 []) → s.get Fld.REC_STAT_FROZEN = 1 → s.recd.lost = none → ∃ t,
    exec (.recRelease r) s = .next t ∧ t.get Fld.REC_STAT_FROZEN = 0 ∧ t.recd.hold = [] ∧ s.Answered t r (respOk []) ∧
    s.keeps t [Reg.REC_STAT, Reg.REC_CNT, Reg.MGT_CNT1] ∧ State.Touch [.mgt, .recd] s t) ∧
  (∀ s, s.Live → s.get Fld.REC_STAT_READY = 0 → s.recd.lost = none → ∃ t, exec .recorderReady s = .next t ∧
    t.get Fld.REC_STAT_READY = 1 ∧ t.recd.hold = [] ∧ State.Touch [.recd] s t ∧
    (s.get Fld.REC_STAT_SINGLE_0 = 0 → s.recd.queue0.length + s.recd.hold.length ≤ 2048 →
      t.recd.queue0 = s.recd.queue0 ++ s.recd.hold.map (fun x => { x with held := true })) ∧
    s.keeps t [Reg.REC_STAT, Reg.REC_CNT, Reg.REC_WPTRk 0, Reg.REC_WPTRk 1]) ∧
  (∀ s, s.Live → ∃ t, exec .recCntClr s = .next t ∧ t.rd Reg.REC_CNT = 0 ∧ s.keeps t [Reg.REC_CNT] ∧ t.rest = s.rest)
/-- R363, R364, R366: a PTP instance that is MASTER sends Sync and Announce and answers Delay_Req, one that is SLAVE sends Delay_Req;
each message that it sends of itself takes the instance's sequence number and the stamp of its moment with the port's latency; a
two-step Sync of the followed master is counted, and its stamp kept for the Follow_Up. R363, R364: without Announce an instance forgets
its master and listens, or is MASTER where it may be and no instance is SLAVE; without Sync for two intervals it no longer counts as
synchronised, and two missed messages are counted. Rests on choices and readings of the model's own: log entries 13, 14, 156. -/
def Obligations.PtpMessagesAndLostMasters : Prop :=
  (∀ s (p : Fin 3) k, s.Live → s.ptpOn p = true →
    s.get (Fld.TB_PTPSTATp_PORT_STATE p) = (if k = .delayReq then 9 else 6) → p.val < s.tb.ports.length → ∃ t,
    exec (.ptpMessageDue p k) s = .next t ∧
    t.tb.out = s.tb.out ++ [(p.val, (match k with | .sync => 0 | .announce => 1 | .delayReq => 2), (s.ptp p).seq, s.ptpEgress p)] ∧
    (t.ptp p).seq = (s.ptp p).seq + 1 ∧ (k = .delayReq → (t.ptp p).delayReq = some ((s.ptp p).seq, s.ptpEgress p)) ∧
    s.keeps t [] ∧ State.Touch [.tb] s t) ∧
  (∀ s (p : Fin 3) src seq, s.Live → s.ptpOn p = true → s.get (Fld.TB_PTPSTATp_PORT_STATE p) = 6 → ∃ t,
    exec (.ptpMessageRx p (.delayReq src seq)) s = .next t ∧ t.tb = { s.tb with out := s.tb.out ++ [(p.val, 3, seq, s.ptpIngress p)] } ∧
    s.keeps t [] ∧ State.Touch [.tb] s t) ∧
  (∀ s (p : Fin 3) gm seq t1, s.Live → s.ptpOn p = true → s.ptpFollows p gm = true → p.val < s.tb.ports.length → ∃ t,
    exec (.ptpMessageRx p (.sync gm seq true t1)) s = .next t ∧ (t.ptp p).twoStep = some (gm, seq, s.ptpIngress p) ∧
    t.get (Fld.TB_PTPSTATp_SYNC_RX p) = (s.get (Fld.TB_PTPSTATp_SYNC_RX p) + 1) % 65536 ∧ s.keeps t [Reg.TB_PTPSTATp p] ∧
    State.Touch [.tb] s t) ∧
  (∀ s (p : Fin 3), s.Live → s.ptpOn p = true → p.val < s.tb.ports.length → ∃ t, exec (.announceTimeout p) s = .next t ∧
    (t.ptp p).parent = none ∧ (t.ptp p).syncing = false ∧
    (∀ c, s.timeCfg = some c → t.get (Fld.TB_PTPSTATp_PORT_STATE p) =
      (if c.slaveOnly || [0, 1, 2].any (fun q => decide (q ≠ p.val ∧ s.get (Fld.TB_PTPSTATp_PORT_STATE q) = 9)) then 4 else 6)) ∧
    s.keeps t [Reg.TB_PTPSTATp 0, Reg.TB_PTPSTATp 1, Reg.TB_PTPSTATp 2, Reg.TB_STAT, Reg.TB_CNT] ∧ State.Touch [.tb] s t) ∧
  (∀ s (p : Fin 3), s.Live → s.ptpOn p = true → (s.ptp p).syncing = true → p.val < s.tb.ports.length → ∃ t,
    exec (.syncLoss p) s = .next t ∧ (t.ptp p).syncing = false ∧
    t.get (Fld.TB_PTPSTATp_SYNC_MISS p) = min (s.get (Fld.TB_PTPSTATp_SYNC_MISS p) + 2) 255 ∧
    s.keeps t [Reg.TB_PTPSTATp p, Reg.TB_STAT, Reg.TB_CNT] ∧ State.Touch [.tb] s t)
/-- R359: whatever a PTP message brings, TB_INC stays within the servo's limits, and the time base is all that changes beside registers
and events. -/
def Obligations.TheServoKeepsItsRateLimits : Prop :=
  ∀ s (p : Fin 3) m, s.Live → 0x01FFBE77 ≤ (s.rd Reg.TB_INC).toNat → (s.rd Reg.TB_INC).toNat ≤ 0x02004189 → ∃ t,
    exec (.ptpMessageRx p m) s = .next t ∧ 0x01FFBE77 ≤ (t.rd Reg.TB_INC).toNat ∧ (t.rd Reg.TB_INC).toNat ≤ 0x02004189 ∧
    t.now = s.now ∧ State.Touch [.tb, .port] s t
/-- R354, R355, R361, R362, R373: the host's accesses to the time base: TB_INC is written only while no master is followed and within
its limits, TB_JUMP_LIM within its own, or the write is refused; REARM leaves HOLDOVER in the ZP1608-compatible mode, and is refused in
the native one; a read of TB_NS latches the fraction; CNT_CLR clears the counts. Rests on choices and readings of the model's own: log
entries 103, 146. -/
def Obligations.TimeBaseRegistersAreGuarded : Prop :=
  (∀ s (v : Word), s.Live → s.get Fld.TB_STAT_STATE = 0 → s.get Fld.TB_STAT_MASTER_REFUSED = 0 → ∃ t,
    exec (.tbIncWrite v) s = .next t ∧ t.rest = s.rest ∧
    (if 0x01FFBE77 ≤ v.toNat ∧ v.toNat ≤ 0x02004189 ∨ v = s.rd Reg.TB_INC then t.rd Reg.TB_INC = v ∧ s.keeps t [Reg.TB_INC]
    else t.get Fld.TB_STAT_REFUSED = 1 ∧ t.get Fld.TB_STAT_REF_CODE = 2 ∧ t.rd Reg.SYS_REFADDR = BitVec.ofNat 32 Reg.TB_INC ∧
      s.keeps t [Reg.TB_STAT, Reg.SYS_REFADDR, Reg.SYS_REFINFO])) ∧
  (∀ s (v : Word), s.Live → s.get Fld.TB_STAT_STATE = 2 → s.ptpAllOff = false → v ≠ s.rd Reg.TB_INC → ∃ t,
    exec (.tbIncWrite v) s = .next t ∧ t.get Fld.TB_STAT_REFUSED = 1 ∧ t.get Fld.TB_STAT_REF_CODE = 1 ∧ t.rest = s.rest ∧
      s.keeps t [Reg.TB_STAT, Reg.SYS_REFADDR, Reg.SYS_REFINFO]) ∧
  (∀ s (v : Word), s.Live → ∃ t, exec (.tbJumpLimWrite v) s = .next t ∧ t.rest = s.rest ∧
    (if 100 ≤ v.toNat % 2 ^ 17 ∧ v.toNat % 2 ^ 17 ≤ 100000 then
      t.get Fld.TB_JUMP_LIM_LIM = v.toNat % 2 ^ 17 ∧ s.keeps t [Reg.TB_JUMP_LIM]
    else t.get Fld.TB_STAT_REFUSED = 1 ∧ t.get Fld.TB_STAT_REF_CODE = 2 ∧
      s.keeps t [Reg.TB_STAT, Reg.SYS_REFADDR, Reg.SYS_REFINFO])) ∧
  (∀ s, s.Live → s.get Fld.TB_STAT_COMPAT = 1 → s.get Fld.TB_STAT_STATE = 3 → ∃ t, exec .tbRearm s = .next t ∧
    t.get Fld.TB_STAT_STATE = 5 ∧ t.get Fld.TB_STAT_PTP_OK = 0 ∧ s.keeps t [Reg.TB_STAT] ∧ t.rest = s.rest) ∧
  (∀ s, s.Live → s.get Fld.TB_STAT_COMPAT = 0 → ∃ t, exec .tbRearm s = .next t ∧ t.get Fld.TB_STAT_REFUSED = 1 ∧
    t.get Fld.TB_STAT_REF_CODE = 3 ∧ s.keeps t [Reg.TB_STAT, Reg.SYS_REFADDR, Reg.SYS_REFINFO] ∧ t.rest = s.rest) ∧
  (∀ s, s.Live → ∃ t, exec .tbNsRead s = .next t ∧ t.rd Reg.TB_SUBNS = BitVec.ofNat 32 s.tb.frac ∧ s.keeps t [Reg.TB_SUBNS] ∧
    t.rest = s.rest) ∧
  (∀ s, s.Live → ∃ t, exec .tbCntClr s = .next t ∧ t.rd Reg.TB_CNT = 0 ∧
    (∀ m < 16, t.get (Fld.TB_CAPm_STAT_OVR_CNT m) = 0 ∧ t.get (Fld.TB_CAPm_STAT_LEVEL m) = s.get (Fld.TB_CAPm_STAT_LEVEL m)) ∧
    s.keeps t (Reg.TB_CNT :: (List.range 16).map Reg.TB_CAPm_STAT) ∧ t.rest = s.rest)
/-- R367, R369, R370: captures stamp the edges that qualify and hold the last four, a read takes the oldest; comparators are enabled by
TB_TRIGEN, late where their time has passed; a due comparator fires: FIRES counts, and TIME moves on by PER, or where PER is 0 the
comparator is disabled; a TRIG_OUT pulse ends. -/
def Obligations.CapturesComparatorsAndPulses : Prop :=
  (∀ s (m : Fin 16) r w, s.Live → s.captureTakes m r w = true → ∃ t, exec (.captureEdge m r w) s = .next t ∧
    cellsGet [] t.tb.fifos m = (if 4 ≤ (cellsGet [] s.tb.fifos m).length then (cellsGet [] s.tb.fifos m).tail
      else cellsGet [] s.tb.fifos m) ++ [s.rd Reg.TB_NS] ∧
    (4 ≤ (cellsGet [] s.tb.fifos m).length → t.get (Fld.TB_CAPm_STAT_OVR m) = 1 ∧
      t.get (Fld.TB_CAPm_STAT_OVR_CNT m) = min (s.get (Fld.TB_CAPm_STAT_OVR_CNT m) + 1) 255) ∧
    t.rd (Reg.TB_CAPm_VAL m) = (cellsGet [] t.tb.fifos m).headD 0 ∧ s.keeps t [Reg.TB_CAPm_VAL m, Reg.TB_CAPm_STAT m] ∧
    State.Touch [.tb] s t) ∧
  (∀ s (m : Fin 16), s.Live → ∃ t, exec (.tbCapValRead m) s = .next t ∧
    cellsGet [] t.tb.fifos m = (cellsGet [] s.tb.fifos m).tail ∧
    t.rd (Reg.TB_CAPm_VAL m) = (cellsGet [] s.tb.fifos m).tail.headD 0 ∧
    (∀ n, n ≠ m.val → cellsGet [] t.tb.fifos n = cellsGet [] s.tb.fifos n) ∧
    s.keeps t [Reg.TB_CAPm_VAL m, Reg.TB_CAPm_STAT m] ∧ State.Touch [.tb] s t) ∧
  (∀ s (v : Word), s.Live → ∃ t, exec (.comparatorEnable v) s = .next t ∧
    (∀ m < 16, t.compOn m = (m == 0 || v.getLsbD m)) ∧
    (∀ m < 16, m ≠ 0 → s.compOn m = false → v.getLsbD m = true → s.compPassed m = true → t.get (Fld.TB_TRIGm_STAT_LATE m) = 1) ∧
    s.keeps t (Reg.TB_TRIGEN :: (List.range 16).map Reg.TB_TRIGm_STAT) ∧ t.rest = s.rest) ∧
  (∀ s (o : Fin 8), s.Live → ∃ t, exec (.trigPulseEnd o) s = .next t ∧ t.tb.trigActive.getLsbD o = false ∧
    (∀ q : Fin 8, q ≠ o → t.trigLevel q = s.trigLevel q) ∧ t.tb.trigPol = s.tb.trigPol ∧ s.keeps t [] ∧ State.Touch [.tb] s t) ∧
  (∀ s (m : Fin 16), s.Live → m ≠ 0 → s.compOn m = true → s.compPassed m = true → ∃ t, exec (.comparatorFire m) s = .next t ∧
    t.get (Fld.TB_TRIGm_STAT_FIRES m) = (s.get (Fld.TB_TRIGm_STAT_FIRES m) + 1) % 2 ^ (Fld.TB_TRIGm_STAT_FIRES m).width ∧
    (if s.rd (Reg.TB_TRIGm_PER m) = 0 then t.compOn m = false
     else t.rd (Reg.TB_TRIGm_TIME m) = s.rd (Reg.TB_TRIGm_TIME m) + s.rd (Reg.TB_TRIGm_PER m)) ∧
    State.Touch [.tb] s t)
/-- R26 to R30, R357, R358, R368, R371: the frame starts and its count goes on; its emission time comes once; after a step of the time
base the count and the frame start move by S; a fault of the time base is shown and raised. Rests on choices and readings of the model's
own: log entries 95, 97, 98. -/
def Obligations.FramesAndTheStep : Prop :=
  (∀ s, s.Live → s.cfg.isSome = true → 9 ≤ s.get Fld.SYS_STAT_START → ∃ t, exec .frameStart s = .next t ∧
    t.frame.started = true ∧ t.frame.count = (if s.frame.started then (s.frame.count + 1) % 2 ^ 32 else 0) ∧
    t.frame.start = s.now ∧ t.frame.emitted = false ∧ t.cfg = s.cfg ∧ t.nvm0 = s.nvm0 ∧ t.nvm1 = s.nvm1 ∧
    t.keyStore = s.keyStore ∧ t.aon = s.aon ∧ t.rst = s.rst ∧ t.pending = s.pending ∧ s.recd.port <+: t.recd.port) ∧
  (∀ s, s.Live → s.frame.started = true → s.frame.emitted = false → ∃ t, exec .emissionTime s = .next t ∧
    t.frame = { s.frame with emitted := true } ∧ t.cfg = s.cfg ∧ t.nvm0 = s.nvm0 ∧ t.nvm1 = s.nvm1 ∧
    s.recd.port <+: t.recd.port) ∧
  (∀ s S, s.Live → s.tb.step = some S → s.tb.stepDue = true → ∃ t, exec .tbStep s = .next t ∧
    t.now = shiftTime S s.now ∧ t.frame.start = shiftTime S s.frame.start ∧ t.tb.step = none ∧ t.get Fld.TB_STAT_STEPPED = 1 ∧
    t.get Fld.TB_STAT_STATE = 1 ∧ (∃ e, t.recd.port = s.recd.port ++ [e] ∧ e.code = 0x1001) ∧ t.frame.count = s.frame.count ∧
    t.chans = s.chans ∧ t.mgt = s.mgt ∧ t.saf = s.saf) ∧
  (∀ s, s.Live → s.get Fld.TB_STAT_FAULT = 0 → ∃ t, exec .tbFault s = .next t ∧ t.get Fld.TB_STAT_FAULT = 1 ∧
    (∃ e ∈ t.recd.port, e.code = 0x1004) ∧ t.frame = s.frame ∧ t.tb = s.tb)
/-- R447: whatever the management command, a request that repeats the last TSEQ its session accepted is not executed again: the stored
RESPONSE is sent once more and counted in RETX; no other message is sent, and beside the count and the session's place in the order of
use nothing changes. Rests on choices and readings of the model's own: log entry 10. -/
def Obligations.RetriedRequestsAreNotExecutedAgain : Prop :=
  ∀ c s r ttype body x m, s.Live → requestOf c = some (r, ttype, body) → s.Heard r ttype body → r.session ≠ 0 →
    s.session r.session = some x → x.lastTseq = some r.tseq → x.stored = some m → ∃ t, exec c s = .next t ∧
    t.out m.path = s.out m.path ++ [m] ∧ (∀ p, p ≠ m.path → t.out p = s.out p) ∧ t.session r.session = some x ∧
    t.get Fld.MGT_CNT0_RETX = min (s.get Fld.MGT_CNT0_RETX + 1) (2 ^ Fld.MGT_CNT0_RETX.width - 1) ∧
    s.keeps t [Reg.MGT_CNT0, Reg.MGT_STAT] ∧ State.Touch [.mgt] s t
/-- R445, R447: whatever the management command, a request whose MAC is wrong, or whose TSEQ its session has already passed, does
nothing but count: BAD_MAC, or REPLAY; it is not answered. Rests on choices and readings of the model's own: log entry 10. -/
def Obligations.ForgedAndReplayedRequestsDoNothing : Prop :=
  (∀ c s r ttype body, s.Live → requestOf c = some (r, ttype, body) → s.noAuth = false → s.cfg.isSome = true → r.ver = 1 →
    r.len.toNat = body.length → r.mac ≠ s.reqMac r ttype body → (r.path = .spi → s.mgt.outSpi.length < 16) →
    s.deaf r.path = false → ∃ t, exec c s = .next t ∧ t.get Fld.MGT_CNT0_BAD_MAC = min (s.get Fld.MGT_CNT0_BAD_MAC + 1) (2 ^ Fld.MGT_CNT0_BAD_MAC.width - 1) ∧
    s.keeps t [Reg.MGT_CNT0] ∧ t.rest = s.rest) ∧
  (∀ c s r ttype body x, s.Live → requestOf c = some (r, ttype, body) → s.Heard r ttype body → r.session ≠ 0 →
    s.session r.session = some x → r.tseq.toNat < x.last → ∃ t, exec c s = .next t ∧
    t.get Fld.MGT_CNT0_REPLAY = min (s.get Fld.MGT_CNT0_REPLAY + 1) (2 ^ Fld.MGT_CNT0_REPLAY.width - 1) ∧
    s.keeps t [Reg.MGT_CNT0] ∧ t.rest = s.rest)
/-- R447: a session is opened under a number that is not 0 and that no open session has, a ninth in place of the least recently used; it
is closed by its owner, or once its numbers have run out, with its subscriptions. Rests on choices and readings of the model's own: log
entries 3, 4, 108. -/
def Obligations.SessionsOpenAndClose : Prop :=
  (∀ s (r : Req), s.Live → s.Heard r 3 (cmdBody 0x01 []) → r.session = 0 → s.mgt.sessions.length < 8 → ∃ t id,
    exec (.openSession r) s = .next t ∧ id ≠ 0 ∧ s.session id = none ∧ t.mgt.sessions = s.mgt.sessions ++ [{ id := id }] ∧
    s.Answered t r (respOk (le32 id)) ∧ s.keeps t [Reg.MGT_CNT1, Reg.MGT_STAT] ∧ State.Touch [.mgt, .freeCtr] s t) ∧
  (∀ s (r : Req) x xs, s.Live → s.Heard r 3 (cmdBody 0x01 []) → r.session = 0 → s.mgt.sessions = x :: xs → xs.length = 7 → ∃ t id,
    exec (.openSession r) s = .next t ∧ id ≠ 0 ∧ t.session id = some { id := id } ∧
    (id ≠ x.id → t.session x.id = none) ∧ s.Answered t r (respOk (le32 id))) ∧
  (∀ s (r : Req), s.Live → s.Accepts r 3 (cmdBody 0x02 []) → ∃ t, exec (.closeSession r) s = .next t ∧ t.session r.session = none ∧
    (∀ u ∈ t.mgt.subs, u.session ≠ r.session) ∧ (∀ id, id ≠ r.session → t.session id = s.session id) ∧
    s.Answered t r (respOk []) ∧ s.keeps t [Reg.MGT_CNT1, Reg.MGT_STAT] ∧ State.Touch [.mgt] s t) ∧
  (∀ s id x, s.Live → s.session id = some x → x.final = true → ∃ t, exec (.sessionFinalTimeout id) s = .next t ∧
    t.session id = none ∧ (∀ u ∈ t.mgt.subs, u.session ≠ id) ∧ s.keeps t [Reg.MGT_STAT] ∧ State.Touch [.mgt] s t)
/-- R456, R457: a subscription to events is added under the first free number, up to 32, and is removed by its session; gathered items
leave in one message of the subscription's destination, whose sequence goes on. R454: a whole SPI read transfer shifts out LEN and the
oldest waiting message, or LEN 0; one that ends early counts as a bad frame and takes nothing. Rests on choices and readings of the
model's own: log entries 105, 107. -/
def Obligations.MessagesGatherAndAreSent : Prop :=
  (∀ s (r : Req) (select : Word), s.Live → s.Accepts r 4 (subscribeBody 1 0 2 0 select 0 0) →
    (∃ i < 32, ∀ u ∈ s.mgt.subs, u.id ≠ i) → ∃ t u, exec (.subscribe r 1 0 2 0 select 0 0) s = .next t ∧
    t.mgt.subs = s.mgt.subs ++ [u] ∧ u.id < 32 ∧ (∀ v ∈ s.mgt.subs, v.id ≠ u.id) ∧ u.session = r.session ∧ u.events = true ∧
    u.select = select ∧ u.path = r.path ∧ s.Answered t r { status := 0, body := [BitVec.ofNat 8 u.id, 0, 0, 0] } ∧
    s.keeps t [Reg.MGT_CNT1, Reg.MGT_STAT] ∧ State.Touch [.mgt] s t) ∧
  (∀ s (r : Req), s.Live → s.Accepts r 4 (subscribeBody 3 0 0 0 0 0 0) → ∃ t, exec (.subscribe r 3 0 0 0 0 0 0) s = .next t ∧
    (∀ u ∈ t.mgt.subs, u.session ≠ r.session) ∧ s.Answered t r { status := 0 } ∧ State.Touch [.mgt] s t) ∧
  (∀ s (i : Fin 32) u, s.Live → s.mgt.subs.find? (fun v => decide (v.id = i.val)) = some u → u.items ≠ [] → u.events = true → ∃ t m,
    exec (.eventMessageSend i) s = .next t ∧ t.out u.path = s.out u.path ++ [m] ∧ m.ttype = 0x83 ∧ m.session = u.session ∧
    m.ip = u.ip ∧ m.port = u.port ∧ (∀ p, p ≠ u.path → t.out p = s.out p) ∧
    (∃ v ∈ t.mgt.subs, v.id = i.val ∧ v.seq = u.seq + 1 ∧ v.items.length < u.items.length) ∧ s.keeps t [] ∧ State.Touch [.mgt] s t) ∧
  (∀ s m ms, s.Live → s.mgt.outSpi = m :: ms → ∃ t, exec (.spiReadTransfer false) s = .next t ∧
    t.rest = { s.rest with mgt := { s.mgt with
      outSpi := ms, shifted := leBytes 2 (s.msgBytes m).length ++ s.msgBytes m } } ∧ s.keeps t []) ∧
  (∀ s, s.Live → s.mgt.outSpi = [] → ∃ t, exec (.spiReadTransfer false) s = .next t ∧
    t.rest = { s.rest with mgt := { s.mgt with shifted := [0, 0] } } ∧ s.keeps t []) ∧
  (∀ s, s.Live → ∃ t, exec (.spiReadTransfer true) s = .next t ∧ t.rest = s.rest ∧ s.keeps t [Reg.MGT_CNT1] ∧
    t.get Fld.MGT_CNT1_BAD_FRAME = min (s.get Fld.MGT_CNT1_BAD_FRAME + 1) (2 ^ Fld.MGT_CNT1_BAD_FRAME.width - 1))
/-- R466, R467, R468: an arm gives a token, replaces any other arm and expires; device reset and the power cycle need the arm of their
session and its latest token, the power cycle two; what does not match disarms, with NOT_ARMED. Rests on choices and readings of the
model's own: log entries 3, 4. -/
def Obligations.RecoveryNeedsItsToken : Prop :=
  (∀ s (r : Req), s.Live → s.Accepts r 3 (cmdBody 0x40 []) → ∃ t k, exec (.devResetArm r) s = .next t ∧ k ≠ 0 ∧
    t.mgt.arm = some { kind := 1, session := r.session, token := k } ∧ s.Answered t r (respOk (le32 k)) ∧
    s.keeps t [Reg.MGT_CNT1, Reg.MGT_STAT] ∧ State.Touch [.mgt, .freeCtr] s t) ∧
  (∀ s (r : Req) k, s.Live → s.Accepts r 3 (cmdBody 0x41 (le32 k)) → ∃ t, exec (.devResetConfirm r k) s = .next t ∧
    t.mgt.arm = none ∧ s.keeps t [Reg.MGT_CNT1, Reg.MGT_STAT] ∧ State.Touch [.mgt, .port] s t ∧
    (if s.armMatches r.session k 1 = true then t.mgt.resetDue = true ∧ (∃ e ∈ t.recd.port, e.code = 0x0002) ∧
      s.Answered t r (respOk [])
    else t.mgt.resetDue = s.mgt.resetDue ∧ t.recd = s.recd ∧ s.Answered t r (respStatus 10 0))) ∧
  (∀ s (r : Req), s.Live → s.Accepts r 3 (cmdBody 0x42 []) → ∃ t, exec (.pwrcycArm r) s = .next t ∧
    s.keeps t [Reg.MGT_CNT1, Reg.MGT_STAT] ∧ State.Touch [.mgt, .freeCtr] s t ∧
    (if s.get Fld.AON_PWRCYC_ACTIVE = 1 then t.mgt.arm = s.mgt.arm ∧ s.Answered t r (respStatus 9 0)
    else ∃ k, k ≠ 0 ∧ t.mgt.arm = some { kind := 2, session := r.session, token := k } ∧ s.Answered t r (respOk (le32 k)))) ∧
  (∀ s (r : Req) k, s.Live → s.Accepts r 3 (cmdBody 0x43 (le32 k)) → ∃ t, exec (.pwrcycConfirm r k) s = .next t ∧
    s.keeps t [Reg.MGT_CNT1, Reg.MGT_STAT, Reg.AON_PWRCYC] ∧ State.Touch [.mgt, .freeCtr, .port] s t ∧
    (if s.armMatches r.session k 2 = true then ∃ l, l ≠ 0 ∧ t.mgt.arm = some { kind := 3, session := r.session, token := l } ∧
      t.rd Reg.AON_PWRCYC = s.rd Reg.AON_PWRCYC ∧ s.Answered t r (respOk (le32 l))
    else if s.armMatches r.session k 3 = true then t.mgt.arm = none ∧ t.get Fld.AON_PWRCYC_ACTIVE = 1 ∧
      t.get Fld.AON_PWRCYC_REQS = min (s.get Fld.AON_PWRCYC_REQS + 1) 255 ∧ (∃ e ∈ t.recd.port, e.code = 0x0004) ∧
      s.Answered t r (respOk [])
    else t.mgt.arm = none ∧ t.rd Reg.AON_PWRCYC = s.rd Reg.AON_PWRCYC ∧ s.Answered t r (respStatus 10 0))) ∧
  (∀ s, s.Live → ∃ t, exec .armExpired s = .next t ∧ t.rest = { s.rest with mgt := { s.mgt with arm := none } } ∧
    t.get Fld.MGT_STAT_ARM = 0 ∧ s.keeps t [Reg.MGT_STAT])
/-- R48, R449, R450: a READ of a good span answers every word: of one word, the register's value, BUS_ERROR and 0 behind a closed gate,
or an Ochre memory's word in which the error check finds nothing; a WRITE of one word that any part may write leaves every register as
the write of that register leaves it and answers OK or, where the block refuses it, REFUSED with its code; bad arguments are answered
BAD_TYPE or BAD_LEN and do nothing. Rests on choices and readings of the model's own: log entries 49, 99, 100, 147. -/
def Obligations.ReadsAndWritesAreAnswered : Prop :=
  (∀ s (r : Req) (a : Word), s.Live → s.Accepts r 1 (spanBody a 1) → s.spanCode r.path a 1 40 = 0 →
    ochreMem a.toNat = false → ∃ t, exec (.mgmtRead r a 1 [] []) s = .next t ∧
    (if s.gateCause a.toNat = 0 then
      s.Answered t r { status := 0, body := le32 ((s.count Fld.MGT_CNT1_REQUESTS).readValue r.session a.toNat) }
    else s.Answered t r { status := 4, body := le32 0 } ∧ t.rd Reg.CLK_BERR = a)) ∧
  (∀ s (r : Req) (a : Word), s.Live → s.Accepts r 1 (spanBody a 1) → s.spanCode r.path a 1 40 = 0 → ochreMem a.toNat = true →
    ∃ t, exec (.mgmtRead r a 1 [] []) s = .next t ∧ t.omem = s.omem ∧
    s.Answered t r { status := 0, body := le32 (if s.deadWindow a.toNat then 0 else s.memRd a.toNat) }) ∧
  (∀ s (r : Req) a n l m, s.Live → s.Accepts r 1 (spanBody a n) → s.spanCode r.path a n (36 + 4 * n.toNat) = 0 → ∃ t x,
    exec (.mgmtRead r a n l m) s = .next t ∧ s.Answered t r x ∧ (x.status = 0 ∨ x.status = 4) ∧ x.body.length = 4 * n.toNat) ∧
  (∀ s (r : Req) (a v : Word), s.Live → s.Accepts r 2 (spanBody a 1 ++ le32 v) → s.spanCode r.path a 1 48 = 0 →
    s.gateCause a.toNat = 0 → commandingOnly a.toNat = false → a.toNat ≠ Reg.SYS_CTRL → a.toNat / 0x10000 = 2 → ∃ t,
    exec (.mgmtWrite r a 1 [v]) s = .next t ∧ s.Answered t r { status := 0 } ∧
    t.rd a.toNat = (match regRow a.toNat with | some q => rowMerge q (s.rd a.toNat) v | none => s.rd a.toNat) ∧
    s.keeps t [a.toNat, Reg.MGT_CNT1, Reg.MGT_STAT] ∧ State.Touch [.mgt] s t) ∧
  (∀ s (r : Req) (a v : Word) u no, s.Live → s.Accepts r 2 (spanBody a 1 ++ le32 v) → s.spanCode r.path a 1 48 = 0 →
    s.gateCause a.toNat = 0 → commandingOnly a.toNat = false → a.toNat ≠ Reg.SYS_CTRL →
    (s.count Fld.MGT_CNT1_REQUESTS).refusedBy (fun x => x.regWrite r.session a.toNat v) = (u, no) → ∃ t,
    exec (.mgmtWrite r a 1 [v]) s = .next t ∧
    s.Answered t r (if no then { status := 5, detail := u.get Fld.SYS_REFINFO_CODE } else { status := 0 }) ∧
    (∀ b, b ∉ [Reg.MGT_STAT, Reg.SAF_STAT, Reg.IMG_STAT] → t.rd b = u.rd b)) ∧
  (∀ s (r : Req) a n data, s.Live → s.Accepts r 2 (spanBody a n ++ (data.map le32).flatten) → data.length = n.toNat →
    s.spanCode r.path a n (44 + 4 * n.toNat) ≠ 0 → ∃ t, exec (.mgmtWrite r a n data) s = .next t ∧
    s.Answered t r { status := s.spanCode r.path a n (44 + 4 * n.toNat) } ∧ s.keeps t [Reg.MGT_CNT1, Reg.MGT_STAT] ∧
    State.Touch [.mgt] s t)
/-- R6, R409, R469, R484, R486, R489, R490: a write of SYS_ALERT, CLK_STAT, AON_RSTCAUSE, TB_STAT, REC_STAT or OCH_SEL takes RW bits,
clears the W1C bits written 1 and leaves the rest; a write behind a closed gate is a bus error; where no register lies it does nothing;
a write to an Ochre memory changes nothing, and is refused with FAB_RUNNING while the region runs (log entry 147); the key opens and
closes the expert unlock of its session, which expires; CNT_CLR of SYS and MGT clears their counts. Rests on choices and readings of the
model's own: log entries 77, 101, 104, 147. -/
def Obligations.RegisterWritesByAccessType : Prop :=
  (∀ s (a v : Word) q, s.Live → a.toNat ∈ [Reg.SYS_ALERT, Reg.CLK_STAT, Reg.AON_RSTCAUSE, Reg.TB_STAT, Reg.REC_STAT, Reg.OCH_SEL] →
    regRow a.toNat = some q → ∃ t, exec (.registerWrite a v) s = .next t ∧ t.rd a.toNat = rowMerge q (s.rd a.toNat) v ∧
    s.keeps t [a.toNat] ∧ t.rest = s.rest) ∧
  (∀ s (a v : Word), s.Live → s.gateCause a.toNat ≠ 0 → ∃ t, exec (.registerWrite a v) s = .next t ∧ t.rd Reg.CLK_BERR = a ∧
    t.get Fld.CLK_BERRINFO_CAUSE = s.gateCause a.toNat ∧
    t.get Fld.CLK_BERRINFO_COUNT = min (s.get Fld.CLK_BERRINFO_COUNT + 1) 0xFFFF ∧
    s.keeps t [Reg.CLK_BERR, Reg.CLK_BERRINFO] ∧ t.rest = s.rest) ∧
  (∀ s (a v : Word), s.Live → s.gateCause a.toNat = 0 → ochreMem a.toNat = false → regRow a.toNat = none → ∃ t,
    exec (.registerWrite a v) s = .next t ∧ s.keeps t [] ∧ t.rest = s.rest) ∧
  (∀ s (a v : Word), s.Live → ochreMem a.toNat = true → a.toNat % 4 = 0 → s.deadWindow a.toNat = false → ∃ t,
    exec (.registerWrite a v) s = .next t ∧
    (if s.stopped (ochreRegion a.toNat) = true then s.keeps t [] ∧ t.rest = s.rest
    else t.rd Reg.SYS_REFADDR = a ∧ t.get Fld.SYS_REFINFO_CODE = 0xF0 ∧ s.keeps t [Reg.SYS_REFADDR, Reg.SYS_REFINFO] ∧
      t.rest = s.rest)) ∧
  (∀ s id (v : Word), s.Live → ∃ t, exec (.sysExpertKey id v) s = .next t ∧
    (∀ x, s.session id = some x → t.session id = some { x with expert := decide (bitsGet v 0 16 = 0xE5A1) }) ∧
    (∀ i, i ≠ id → t.session i = s.session i) ∧ s.keeps t [] ∧ State.Touch [.mgt] s t) ∧
  (∀ s id, s.Live → ∃ t, exec (.expertUnlockExpired id) s = .next t ∧
    (∀ x, s.session id = some x → t.session id = some { x with expert := false }) ∧
    (∀ i, i ≠ id → t.session i = s.session i) ∧ s.keeps t [] ∧ State.Touch [.mgt] s t) ∧
  (∀ s, s.Live → ∃ t, exec .sysCntClr s = .next t ∧ t.get Fld.SYS_REFINFO_COUNT = 0 ∧
    t.get Fld.SYS_REFINFO_CODE = s.get Fld.SYS_REFINFO_CODE ∧ s.keeps t [Reg.SYS_REFINFO] ∧ t.rest = s.rest) ∧
  (∀ s, s.Live → ∃ t, exec .mgtCntClr s = .next t ∧ t.rd Reg.MGT_CNT0 = 0 ∧ t.rd Reg.MGT_CNT1 = 0 ∧
    s.keeps t [Reg.MGT_CNT0, Reg.MGT_CNT1] ∧ t.rest = s.rest)
/-- R420, R433, R434, R435, Table 17-7: at start both banks are checked, the validity of each is shown, and the bank that runs is
chosen: the valid one, of two the one with the higher generation, bank 0 on a tie; with one valid bank IMAGE_ONE_BANK says so, with no
valid bank NO_IMAGE, and with two of one generation and different SHA-256 IMAGE_CONFLICT. R426, R433, R434, R435: a VERIFY reads a bank
and ends with its validity; the sections of the chosen bank come into force, or where they fail their load checks mark the bank
LOAD_FAIL; a conflict that stays is raised again; CNT_CLR clears the counters. Rests on choices and readings of the model's own: log
entries 9, 83, 138, 148. -/
def Obligations.BanksAreCheckedChosenAndLoaded : Prop :=
  (∀ s, s.Live → s.get Fld.SYS_STAT_START = 4 → ∃ t, exec .imageCheckDone s = .next t ∧ t.get Fld.SYS_STAT_START = 5 ∧
    t.validity 0 = (s.bankCheck 0).1 ∧ t.validity 1 = (s.bankCheck 1).1 ∧
    ((s.bankCheck 0).1 ≠ 0 → (s.bankCheck 1).1 ≠ 0 → t.get Fld.IMG_STAT_NO_IMAGE = 1 ∧ ∃ e ∈ t.recd.port, e.code = 0x1803) ∧
    ((s.bankCheck 0).1 = 0 → (s.bankCheck 1).1 ≠ 0 → t.get Fld.IMG_STAT_NO_IMAGE = 0 ∧ t.get Fld.IMG_STAT_RUN_BANK = 0 ∧
      t.get Fld.IMG_STAT_ONE_BANK = 1 ∧ ∃ e ∈ t.recd.port, e.code = 0x1802) ∧
    ((s.bankCheck 0).1 ≠ 0 → (s.bankCheck 1).1 = 0 → t.get Fld.IMG_STAT_NO_IMAGE = 0 ∧ t.get Fld.IMG_STAT_RUN_BANK = 1 ∧
      t.get Fld.IMG_STAT_ONE_BANK = 1 ∧ ∃ e ∈ t.recd.port, e.code = 0x1802) ∧
    ((s.bankCheck 0).1 = 0 → (s.bankCheck 1).1 = 0 → t.get Fld.IMG_STAT_NO_IMAGE = 0 ∧ t.get Fld.IMG_STAT_ONE_BANK = 0 ∧
      t.get Fld.IMG_STAT_RUN_BANK = (if s.nvmNat 0 8 4 < s.nvmNat 1 8 4 then 1 else 0) ∧
      (s.nvmNat 0 8 4 = s.nvmNat 1 8 4 → s.imgSha 0 ≠ s.imgSha 1 →
        t.get Fld.IMG_STAT_CONFLICT = 1 ∧ ∃ e ∈ t.recd.port, e.code = 0x1801)) ∧
    State.Touch [.port] s t) ∧
  (∀ s (k : Fin 2), s.Live → k.val ∉ s.img.verifying → ∃ t, exec (.imgVerify k) s = .next t ∧
    t.rest = { s.rest with img := { s.img with verifying := s.img.verifying ++ [k.val] } } ∧ s.keeps t []) ∧
  (∀ s (k : Fin 2), s.Live → k.val ∈ s.img.verifying → ∃ t, exec (.bankVerifyDone k) s = .next t ∧ k.val ∉ t.img.verifying ∧
    t.validity k = (s.bankCheck k).1 ∧ State.Touch [.img] s t) ∧
  (∀ s c, s.Live → s.get Fld.SYS_STAT_START = 5 → s.get Fld.IMG_STAT_NO_IMAGE = 0 → s.cfg = none → s.loadOk c = true → ∃ t,
    exec (.sectionsLoaded false c) s = .next t ∧ t.base = some (s.loadedCfg c) ∧ t.cfg.isSome = true ∧ 9 ≤ t.get Fld.SYS_STAT_START ∧
    t.nvm0 = s.nvm0 ∧ t.nvm1 = s.nvm1 ∧ t.keyStore = s.keyStore ∧ t.img = s.img ∧ t.mgt = s.mgt) ∧
  (∀ s c f, s.Live → s.get Fld.SYS_STAT_START = 5 → s.get Fld.IMG_STAT_NO_IMAGE = 0 → s.cfg = none → f = true ∨ s.loadOk c = false →
    ∃ t, exec (.sectionsLoaded f c) s = .next t ∧ t.cfg = none ∧ t.validity (s.get Fld.IMG_STAT_RUN_BANK) = 8 ∧
    State.Touch [.port] s t) ∧
  (∀ s, s.Live → s.get Fld.IMG_STAT_CONFLICT = 1 → ∃ t, exec .imageConflictRepeat s = .next t ∧
    (∃ e, t.recd.port = s.recd.port ++ [e] ∧ e.code = 0x1801 ∧ e.data = s.imgData) ∧ s.keeps t [] ∧ State.Touch [.port] s t) ∧
  (∀ s, s.Live → ∃ t, exec .imgCntClr s = .next t ∧ t.rd Reg.IMG_CNT = 0 ∧ s.keeps t [Reg.IMG_CNT] ∧ t.rest = s.rest)
/-- R423, R427, R453: NVM_READ answers the bytes of a bank, with 0 in place of its KEYS section; NVM_WRITE and NVM_ERASE of a slot that
may change are taken, leave the bank UNCHECKED and are answered PENDING, or are refused with the slot's code. R422, R423, R453: at its
completion a program has cleared bits and set none, an erase has set its 64 KiB sector, and the request gets its RESULT; one that failed
leaves open what its own bytes hold (free values, log entry 4) and no others. Rests on choices and readings of the model's own: log
entries 4, 84, 85. -/
def Obligations.NvmTransactionsAndTheirEnds : Prop :=
  (∀ s (r : Req) (k : Byte) (a : Word) (n : BitVec 16), s.Live → s.Accepts r 3 (cmdBody 0x60 (nvmArgs k a n)) → k.toNat ≤ 1 →
    1 ≤ n.toNat → n.toNat ≤ 256 → a.toNat + n.toNat ≤ 0x3000000 → ∃ t d, exec (.nvmRead r k a n) s = .next t ∧
    s.Answered t r (respOk d) ∧ d.length = n.toNat ∧
    (∀ i < n.toNat, d.getD i 0 = if s.inKeys k.toNat (a.toNat + i) then 0 else s.nvmByte k.toNat (a.toNat + i)) ∧
    s.keeps t [Reg.MGT_CNT1, Reg.MGT_STAT] ∧ State.Touch [.mgt] s t) ∧
  (∀ s (r : Req) (k : Byte) (a : Word) (n : BitVec 16) d, s.Live → s.Accepts r 3 (cmdBody 0x61 (nvmArgs k a n ++ d)) →
    k.toNat ≤ 1 → d.length = n.toNat → 1 ≤ n.toNat → n.toNat ≤ 256 → a.toNat < 0x1000000 →
    a.toNat / 256 = (a.toNat + n.toNat - 1) / 256 → ∃ t, exec (.nvmWrite r k a n d) s = .next t ∧
    (if s.slotBusy k.toNat = 0 then s.Answered t r (respPending []) ∧ t.validity k.toNat = 7 ∧
      t.img.nvmOps = s.img.nvmOps ++ [{ bank := k.toNat, addr := a.toNat, data := some d, req := reqRef r 0x61 }] ∧
      s.keeps t [Reg.IMG_BANKk_STAT k.toNat, Reg.MGT_CNT1, Reg.MGT_STAT] ∧ State.Touch [.mgt, .img] s t
    else s.Answered t r (respRefused (s.slotBusy k.toNat)) ∧ t.get Fld.IMG_STAT_REF_CODE = s.slotBusy k.toNat ∧
      t.img = s.img ∧ State.Touch [.mgt] s t)) ∧
  (∀ s (r : Req) (k : Byte) (a : Word), s.Live → s.Accepts r 3 (cmdBody 0x62 ([k, 0, 0, 0] ++ le32 a)) → k.toNat ≤ 1 →
    a.toNat < 0x1000000 → a.toNat % 0x10000 = 0 → ∃ t, exec (.nvmErase r k a) s = .next t ∧
    (if s.slotBusy k.toNat = 0 then s.Answered t r (respPending []) ∧ t.validity k.toNat = 7 ∧
      t.img.nvmOps = s.img.nvmOps ++ [{ bank := k.toNat, addr := a.toNat, data := none, req := reqRef r 0x62 }] ∧
      s.keeps t [Reg.IMG_BANKk_STAT k.toNat, Reg.MGT_CNT1, Reg.MGT_STAT] ∧ State.Touch [.mgt, .img] s t
    else s.Answered t r (respRefused (s.slotBusy k.toNat)) ∧ t.get Fld.IMG_STAT_REF_CODE = s.slotBusy k.toNat ∧
      t.img = s.img ∧ State.Touch [.mgt] s t)) ∧
  (∀ s (k : Fin 2) x d, s.Live → s.img.nvmOps.find? (fun y => decide (y.bank = k.val)) = some x → x.data = some d → ∃ t,
    exec (.nvmOpDone k true) s = .next t ∧ t.img.nvmOps = s.img.nvmOps.erase x ∧
    (∀ a, t.nvmByte k a = if x.addr ≤ a ∧ a < x.addr + d.length then s.nvmByte k a &&& d.getD (a - x.addr) 0 else s.nvmByte k a) ∧
    (∀ a, t.nvmByte (1 - k.val) a = s.nvmByte (1 - k.val) a) ∧ s.keeps t [] ∧ State.Touch [.nvm0, .nvm1, .img, .mgt] s t) ∧
  (∀ s (k : Fin 2) x, s.Live → s.img.nvmOps.find? (fun y => decide (y.bank = k.val)) = some x → x.data = none →
    (s.session x.req.session).isSome = true → ∃ t m, exec (.nvmOpDone k true) s = .next t ∧
    (∀ a, t.nvmByte k a = if a / 0x10000 = x.addr / 0x10000 then 0xFF else s.nvmByte k a) ∧
    t.out x.req.path = s.out x.req.path ++ [m] ∧ m.ttype = 0x82 ∧ m.session = x.req.session ∧ m.tseq = x.req.tseq ∧
    s.keeps t [] ∧ State.Touch [.nvm0, .nvm1, .img, .mgt] s t) ∧
  (∀ s (k : Fin 2) x, s.Live → s.img.nvmOps.find? (fun y => decide (y.bank = k.val)) = some x → ∃ t,
    exec (.nvmOpDone k false) s = .next t ∧ t.img.nvmOps = s.img.nvmOps.erase x ∧
    (∀ a, a < x.addr ∨ x.addr + (match x.data with | some d => d.length | none => 0x10000) ≤ a →
      t.nvmByte k a = s.nvmByte k a) ∧ s.keeps t [] ∧ State.Touch [.nvm0, .nvm1, .img, .mgt, .freeCtr] s t)
/-- R433: KEY_PROGRAM programs an empty key store and shows it; a second is refused, and a key of another length is BAD_LEN. Rests on
choices and readings of the model's own: log entry 86. -/
def Obligations.TheKeyIsProgrammedOnce : Prop :=
  (∀ s (r : Req) key, s.Live → s.Accepts r 3 (cmdBody 0x63 key) → key.length = 32 → s.keyStore = none → ∃ t,
    exec (.keyProgram r key) s = .next t ∧ t.keyStore = some key ∧ t.get Fld.IMG_STAT_KEYSTATE = 1 ∧ s.Answered t r (respOk []) ∧
    s.keeps t [Reg.IMG_STAT, Reg.MGT_CNT1, Reg.MGT_STAT] ∧ State.Touch [.keyStore, .mgt] s t) ∧
  (∀ s (r : Req) key, s.Live → s.Accepts r 3 (cmdBody 0x63 key) → key.length = 32 → s.keyStore.isSome = true → ∃ t c,
    exec (.keyProgram r key) s = .next t ∧ t.keyStore = s.keyStore ∧ s.Answered t r (respRefused c) ∧
    t.get Fld.IMG_STAT_REFUSED = 1 ∧ s.keeps t [Reg.IMG_STAT, Reg.SYS_REFADDR, Reg.SYS_REFINFO, Reg.MGT_CNT1, Reg.MGT_STAT] ∧
    State.Touch [.mgt, .freeCtr] s t) ∧
  (∀ s (r : Req) key, s.Live → s.Accepts r 3 (cmdBody 0x63 key) → key.length ≠ 32 → ∃ t, exec (.keyProgram r key) s = .next t ∧
    s.Answered t r (respStatus 2 0) ∧ s.keeps t [Reg.MGT_CNT1, Reg.MGT_STAT] ∧ State.Touch [.mgt] s t)
/-- R438, R439: a region reload begins where an alternate is there for its tasks, is refused with NO_ALTERNATE where none is and with
RELOAD_BUSY while another runs; it goes on when the section has been read and its blocks are back, and ends RELOAD_FAILED when the
section does not load or fails its load checks. Rests on choices and readings of the model's own: log entries 91, 148, 155. -/
def Obligations.RegionReloadRuns : Prop :=
  (∀ s (g : Fin 8), s.Live → s.img.reload = none → s.img.adopting = none → ∃ t, exec (.imgReloadRegion g) s = .next t ∧
    (if s.noAlternate g = true then t.get Fld.IMG_STAT_REF_CODE = 5 ∧ t.img = s.img ∧
      s.keeps t [Reg.IMG_STAT, Reg.SYS_REFADDR, Reg.SYS_REFINFO]
    else t.img.reload = some (g.val, if s.commanding then 1 else 3) ∧ t.get Fld.IMG_STAT_RELOADING = 1 ∧
      t.get Fld.IMG_STAT_RLD_REGION = g.val ∧ s.keeps t [Reg.IMG_STAT]) ∧ State.Touch [.img] s t) ∧
  (∀ s (g : Fin 8), s.Live → s.img.reload.isSome = true → ∃ t, exec (.imgReloadRegion g) s = .next t ∧
    t.get Fld.IMG_STAT_REF_CODE = 4 ∧ t.rest = s.rest ∧ s.keeps t [Reg.IMG_STAT, Reg.SYS_REFADDR, Reg.SYS_REFINFO]) ∧
  (∀ s g c d, s.Live → s.img.reload = some (g, 3) → s.commanding = true → s.cfg = some d → s.regionOk g c = true → ∃ t,
    exec (.regionSectionLoaded true c) s = .next t ∧ t.img.reload = some (g, 4) ∧
    t.cfg = some { d with region := s.regionCfg g c } ∧ State.Touch [.omem, .cfg, .img, .fab] s t) ∧
  (∀ s g c ok, s.Live → s.img.reload = some (g, 3) → ok = false ∨ s.regionOk g c = false → ∃ t,
    exec (.regionSectionLoaded ok c) s = .next t ∧ t.img.reload = none ∧
    t.get Fld.IMG_STAT_RELOADING = 0 ∧ t.get Fld.IMG_CNT_RLD_FAILS = min (s.get Fld.IMG_CNT_RLD_FAILS + 1) 255 ∧
    (∃ e ∈ t.recd.port, e.code = 0x1805) ∧ (s.img.reloadAdopts = true → t.get Fld.IMG_STAT_HALTED = 1 ∧
      t.get Fld.IMG_STAT_HALT_CODE = 2) ∧ s.keeps t [Reg.IMG_STAT, Reg.IMG_CNT] ∧ State.Touch [.img, .port] s t) ∧
  (∀ s g, s.Live → s.img.reload = some (g, 4) → ∃ t, exec .regionCopybackDone s = .next t ∧
    t.img = { s.img with reload := some (g, 5) } ∧ s.keeps t [] ∧ State.Touch [.omem, .img] s t)
/-- R436, R440, R441, R442: an adoption starts for a valid, newer, LIVE bank that is not the running one, or is refused with its code; a
step that is done brings its sections into force, and the next in the order of Table 17-9 follows; a step whose function is in use halts
it; with the last step the bank becomes the running bank and IMAGE_ADOPTED is raised. Rests on choices and readings of the model's own:
log entries 92, 93. -/
def Obligations.ImagesAreAdopted : Prop :=
  (∀ s (k : Fin 2), s.Live → s.get Fld.IMG_STAT_RUN_BANK ≠ k.val → s.img.reload = none → s.img.adopting = none →
    s.adoptCode k = 0 → s.adoptSteps k ≠ [] → ∃ t, exec (.imgAdopt k) s = .next t ∧ t.img.adopting = some (k.val, s.adoptSteps k) ∧
    t.get Fld.IMG_STAT_ADOPTING = 1 ∧ t.cfg = s.cfg ∧ State.Touch [.img, .can, .eth, .port] s t) ∧
  (∀ s (k : Fin 2), s.Live → s.get Fld.IMG_STAT_RUN_BANK ≠ k.val → s.img.reload = none → s.img.adopting = none →
    s.adoptCode k ≠ 0 → ∃ t, exec (.imgAdopt k) s = .next t ∧ t.get Fld.IMG_STAT_REFUSED = 1 ∧
    t.get Fld.IMG_STAT_REF_CODE = s.adoptCode k ∧ t.rest = s.rest ∧ s.keeps t [Reg.IMG_STAT, Reg.SYS_REFADDR, Reg.SYS_REFINFO]) ∧
  (∀ s c k o i rest, s.Live → s.img.adopting = some (k, (o, i) :: rest) → s.get Fld.IMG_STAT_HALTED = 0 → s.img.reload = none →
    ∃ t, exec (.adoptStepDone .inUse c) s = .next t ∧ t.get Fld.IMG_STAT_HALTED = 1 ∧ t.get Fld.IMG_STAT_HALT_CODE = 1 ∧
    t.get Fld.IMG_CNT_HALTS = min (s.get Fld.IMG_CNT_HALTS + 1) 255 ∧ t.rest = s.rest ∧ s.keeps t [Reg.IMG_STAT, Reg.IMG_CNT]) ∧
  (∀ s c k o i x rest d, s.Live → s.img.adopting = some (k, (o, i) :: x :: rest) → s.get Fld.IMG_STAT_HALTED = 0 →
    s.img.reload = none → o ≠ 8 → s.cfgBase = some d → ∃ t, exec (.adoptStepDone .done c) s = .next t ∧
    t.img.adopting = some (k, x :: rest) ∧ t.get Fld.IMG_STAT_MIXED = 1 ∧ t.base = some (adoptCfg o i d (s.bankCfg k c))) ∧
  (∀ s c k i, s.Live → s.img.adopting = some (k, [(7, i)]) → s.get Fld.IMG_STAT_HALTED = 0 → s.img.reload = none → ∃ t,
    exec (.adoptStepDone .done c) s = .next t ∧ t.img.adopting = none ∧ t.get Fld.IMG_STAT_ADOPTING = 0 ∧
    t.get Fld.IMG_STAT_MIXED = 0 ∧ (k < 2 → t.get Fld.IMG_STAT_RUN_BANK = k) ∧ (∃ e ∈ t.recd.port, e.code = 0x1806))
/-- R50, R53, R56: a request to a port that no requester holds or waits for is granted at once; to a held port it waits; a release with
nobody waiting leaves the port free. A write that changes CTRL needs a stopped region, and NTH may not be 0, or it is refused; one that
is taken returns the grant count to 0 (R52). Rests on choices and readings of the model's own: log entries 78, 142. -/
def Obligations.PortsGrantReleaseAndAreControlled : Prop :=
  (∀ s (p : ArbPort) (i : Fin 10), s.Live → i.val < portIdx p → s.get (portOwner p) = 15 → s.arbWaiting p = [] →
    s.get (portReq p i) = 0 → s.get (portMask p i) = 0 → ∃ t, exec (.arbRequest p i) s = .next t ∧ t.get (portOwner p) = i ∧
    t.get (portReq p i) = 1 ∧ t.lostOf p i = 0 ∧ (t.arbSt p).grants = (s.arbSt p).grants + 1 ∧ s.keeps t [portStat p] ∧
    t.fab = { s.fab with arb := t.fab.arb } ∧ State.Touch [.fab] s t) ∧
  (∀ s (p : ArbPort) (i : Fin 10), s.Live → i.val < portIdx p → s.get (portOwner p) < portIdx p → s.get (portReq p i) = 0 →
    s.get (portMask p i) = 0 → ∃ t, exec (.arbRequest p i) s = .next t ∧ t.get (portOwner p) = s.get (portOwner p) ∧
    t.get (portReq p i) = 1 ∧ t.lostOf p i = 0 ∧ s.keeps t [portStat p] ∧ State.Touch [.fab] s t) ∧
  (∀ s (p : ArbPort) o, s.Live → s.get (portOwner p) = o → o < portIdx p →
    (∀ i < portIdx p, i ≠ o → s.get (portReq p i) = 0 ∨ s.get (portMask p i) = 1) → ∃ t, exec (.arbOwnerRelease p) s = .next t ∧
    t.get (portOwner p) = 15 ∧ t.get (portReq p o) = 0 ∧ t.lostOf p o = 0 ∧ s.keeps t [portStat p] ∧ State.Touch [.fab] s t) ∧
  (∀ s (q : Fin 32) (b : Fin 8) (v : Word), s.Live → s.gateCause (Reg.BANKARB_CTRL q b) = 0 → s.isolated (q / 4) = false → ∃ t,
    exec (.bankarbCtrlWrite q b v) s = .next t ∧
    (if s.stopped (q / 4) = true ∧ v.toNat % 64 ≠ 0 then t.rd (Reg.BANKARB_CTRL q b) = v &&& 0xFF3F ∧
      (t.arbSt (.bank q b)).grants = 0 ∧ s.keeps t [Reg.BANKARB_CTRL q b] ∧ State.Touch [.fab] s t
    else if s.stopped (q / 4) = false ∧ v &&& 0xFF3F = s.rd (Reg.BANKARB_CTRL q b) then (t.arbSt (.bank q b)).grants = 0 ∧ s.keeps t [] ∧
      State.Touch [.fab] s t
    else t.get (Fld.BANKARB_STAT_REFUSED q b) = 1 ∧ t.rd Reg.SYS_REFADDR = BitVec.ofNat 32 (Reg.BANKARB_CTRL q b) ∧
      t.get Fld.SYS_REFINFO_BLOCK = 20 ∧ t.get Fld.SYS_REFINFO_CODE = 1 ∧ t.rest = s.rest ∧
      s.keeps t [Reg.BANKARB_STAT q b, Reg.SYS_REFADDR, Reg.SYS_REFINFO])) ∧
  (∀ s (g : Fin 8) (v : Word), s.Live → s.gateCause (Reg.EGRARB_CTRL g) = 0 → s.isolated g = false → ∃ t,
    exec (.egrarbCtrlWrite g v) s = .next t ∧
    (if s.stopped g = true ∧ v.toNat % 64 ≠ 0 then t.rd (Reg.EGRARB_CTRL g) = v &&& 0xFF3F ∧
      (t.arbSt (.egress g)).grants = 0 ∧ s.keeps t [Reg.EGRARB_CTRL g] ∧ State.Touch [.fab] s t
    else if s.stopped g = false ∧ v &&& 0xFF3F = s.rd (Reg.EGRARB_CTRL g) then (t.arbSt (.egress g)).grants = 0 ∧ s.keeps t [] ∧
      State.Touch [.fab] s t
    else t.get (Fld.EGRARB_STAT_REFUSED g) = 1 ∧ t.rd Reg.SYS_REFADDR = BitVec.ofNat 32 (Reg.EGRARB_CTRL g) ∧
      t.get Fld.SYS_REFINFO_BLOCK = 21 ∧ t.get Fld.SYS_REFINFO_CODE = 1 ∧ t.rest = s.rest ∧
      s.keeps t [Reg.EGRARB_STAT g, Reg.SYS_REFADDR, Reg.SYS_REFINFO]))
/-- R50: a port with an owner decides nothing, and none is decided where no unmasked requester requests; when a grant ends, the waiting
requester of the highest effective priority is granted, or, when the grant is forced (R52: each Nth), the one that has lost most often;
ties go to the other key and then to the lower index. The granted requester's lost count is 0, and the losers' counts rise by 1. -/
def Obligations.TheHighestRequesterIsGranted : Prop :=
  let ends := fun (p : ArbPort) => [(Instr.arbBurstLimit p true, true), (.arbBurstLimit p false, false), (.arbOwnerRelease p, false)]
  let waits := fun (s : State) (p : ArbPort) (again : Bool) (i : Nat) => i < portIdx p ∧ s.get (portMask p i) = 0 ∧
    (if i = s.get (portOwner p) then again = true else s.get (portReq p i) = 1)
  (∀ s (p : ArbPort) c (again : Bool) (w : Nat), (c, again) ∈ ends p → s.Live → s.get (portOwner p) < portIdx p →
    waits s p again w →
    let o := s.get (portOwner p)
    let lost := fun i => if i = o then 0 else s.lostOf p i
    let prio := fun i => min 15 (s.portPrio p i + lost i)
    let above := fun i j => if ((s.arbSt p).grants + 1) % s.portN p = 0 then lost j < lost i ∨ (lost i = lost j ∧ prio j < prio i)
      else prio j < prio i ∨ (prio i = prio j ∧ lost j < lost i)
    (∀ i, waits s p again i → i ≠ w → above w i ∨ (¬ above i w ∧ w < i)) → ∃ t, exec c s = .next t ∧
    t.get (portOwner p) = w ∧ t.lostOf p w = 0 ∧ (∀ i, waits s p again i → i ≠ w → t.lostOf p i = lost i + 1) ∧
    (∀ i, ¬ waits s p again i → t.lostOf p i = lost i) ∧ (t.arbSt p).grants = (s.arbSt p).grants + 1 ∧
    s.keeps t [portStat p] ∧ State.Touch [.fab] s t) ∧
  (∀ s (p : ArbPort) c (again : Bool), (c, again) ∈ ends p → s.Live → s.get (portOwner p) < portIdx p →
    (∀ i, ¬ waits s p again i) → ∃ t, exec c s = .next t ∧ t.get (portOwner p) = 15 ∧
    (t.arbSt p).grants = (s.arbSt p).grants ∧ s.keeps t [portStat p] ∧ State.Touch [.fab] s t) ∧
  (∀ s (p : ArbPort) (i : Fin 10), s.Live → s.get (portOwner p) ≠ 15 → ∃ t, exec (.arbRequest p i) s = .next t ∧
    t.get (portOwner p) = s.get (portOwner p) ∧ (t.arbSt p).grants = (s.arbSt p).grants ∧ s.keeps t [portStat p] ∧
    State.Touch [.fab] s t)
/-- R9, R10, R228 to R231, R235: a faulty unit is fenced, masked at every bank port, and recorded; its task runs again on a free unit,
or is abandoned after its third fault. A spare that is called becomes active if it passes its test. Rests on choices and readings of the
model's own: log entries 71, 89. -/
def Obligations.FaultyUnitsAreFenced : Prop :=
  (∀ s (q : Fin 32) (u : Fin 8) c k, ((c = .invalidCodeword (.unit q u) ∧ k = 0) ∨ (c = .handshakeWatchdog (.unit q u) ∧ k = 1)) →
    s.Live → s.isolated (q / 4) = false → s.unitState q u < 2 → (s.instOn q u).filter inFlight = none →
    (∃ v < 8, v ≠ u.val ∧ s.unitState q v ≠ 3) → ∃ t, exec c s = .next t ∧ t.unitState q u = 3 ∧
    t.get Fld.FLT_STAT_FENCED = (s.get Fld.FLT_STAT_FENCED + 1) % 512 ∧ (∀ b : Fin 8, t.get (portMask (.bank q b) u) = 1) ∧
    t.rd Reg.FLT_LAST = BitVec.ofNat 32 (1 + 16 * (q * 8 + u) + 2 ^ 25 * k) ∧ t.rd Reg.FLT_LASTT = s.rd Reg.TB_NS ∧
    (∃ e, t.recd.port = s.recd.port ++ [e] ∧ e.code = 0x2801) ∧ State.Touch [.fab, .port] s t ∧
    s.keeps t ([Reg.FLT_STAT, Reg.FLT_LAST, Reg.FLT_LASTT, Reg.CLU_UNITSTAT q] ++ (List.range 8).map (Reg.BANKARB_STAT q))) ∧
  (∀ s (q : Fin 32) (u v : Fin 8) x d, s.Live → s.isolated (q / 4) = false → s.unitState q u = 1 → s.instOn q u = some x →
    inFlight x = true → x.reruns < 2 → s.taskDef x.task = some d → d.test = false → s.placeOf x.task = some q.val →
    s.canRun q d = true → s.freeUnit q = some v.val → ∃ t, exec (.invalidCodeword (.unit q u)) s = .next t ∧
    t.unitState q u = 3 ∧ t.unitState q v = 1 ∧ (∃ y ∈ t.fab.insts, y.task = x.task ∧ y.number = x.number ∧ y.phase = .loading ∧
      y.cluster = q ∧ y.unit = v ∧ y.reruns = x.reruns + 1) ∧
    t.get Fld.FLT_RERUN_RERUNS = min (s.get Fld.FLT_RERUN_RERUNS + 1) 65535 ∧ State.Touch [.chans, .fab, .port] s t) ∧
  (∀ s (q : Fin 32) (u : Fin 8) x d, s.Live → s.isolated (q / 4) = false → s.unitState q u = 1 → s.instOn q u = some x →
    inFlight x = true → 2 ≤ x.reruns → s.taskDef x.task = some d → d.test = false → (x.task, x.number) ∉ s.fab.closed →
    (∃ v < 8, v ≠ u.val ∧ s.unitState q v ≠ 3) → ∃ t, exec (.handshakeWatchdog (.unit q u)) s = .next t ∧ t.unitState q u = 3 ∧
    (x.task, x.number) ∈ t.fab.closed ∧ t.instOf x.task x.number = none ∧
    (∃ e ∈ t.recd.port, e.code = 0x2809) ∧ State.Touch [.omem, .chans, .fab, .port] s t) ∧
  (∀ s (q : Fin 32) (u : Fin 8) x d, s.Live → s.isolated (q / 4) = false → s.unitState q u = 2 → s.instOn q u = some x →
    x.phase = .wake → s.taskDef x.task = some d → ∃ t, exec (.spareWakeDone q u true) s = .next t ∧ t.unitState q u = 1 ∧
    (∀ b : Fin 8, t.get (portMask (.bank q b) u) = 0) ∧ (∃ y ∈ t.fab.insts, y.task = x.task ∧ y.number = x.number ∧
      y.phase = .loading ∧ y.cluster = q ∧ y.unit = u) ∧ State.Touch [.fab] s t) ∧
  (∀ s (q : Fin 32) (u v : Fin 8) x d, s.Live → s.isolated (q / 4) = false → s.unitState q u = 2 → s.instOn q u = some x →
    x.phase = .wake → s.taskDef x.task = some d → s.placeOf x.task = some q.val → s.canRun q d = true →
    s.freeUnit q = some v.val → ∃ t, exec (.spareWakeDone q u false) s = .next t ∧ t.unitState q u = 3 ∧ t.unitState q v = 1 ∧
    t.get Fld.FLT_SPARE_WAKE_FAIL = min (s.get Fld.FLT_SPARE_WAKE_FAIL + 1) 255 ∧ t.get ⟨Reg.FLT_LAST, 0, 4⟩ = 2 ∧
    (∃ e ∈ t.recd.port, e.code = 0x2802) ∧ State.Touch [.fab, .port] s t)
/-- R18, R48, R236, R239, R241, R242: a retired bank, a faulty cluster, an isolated region and a lost die are recorded, and no task
stays where it can no longer run; a cluster fault whose tasks have no sibling is a region fault too; a die lost without cover is the
loss of the part; a fault of the bridge between the dies sets BRIDGE_REROUTED. FLT_CNT_CLR clears the counts. Rests on choices and
readings of the model's own: log entry 74. -/
def Obligations.FaultsMoveTasksAway : Prop :=
  (∀ s (q : Fin 32) (b : Fin 8), s.Live → s.isolated (q / 4) = false → (s.get (Fld.CLU_UNITSTAT_RETIRED q)).testBit b = false → ∃ t,
    exec (.invalidCodeword (.bankOutput q b)) s = .next t ∧ (t.get (Fld.CLU_UNITSTAT_RETIRED q)).testBit b = true ∧
    t.get Fld.FLT_SPARE_BANKS_RETIRED = min (s.get Fld.FLT_SPARE_BANKS_RETIRED + 1) 255 ∧ t.get ⟨Reg.FLT_LAST, 0, 4⟩ = 3 ∧
    (∃ e ∈ t.recd.port, e.code = 0x2803) ∧
    (∀ d ∈ s.tasks, s.taskDef (tdTask d) = some d → d.banks.getLsbD b = true → t.placeOf (tdTask d) ≠ some q.val) ∧ State.Touch [.omem, .chans, .fab, .port] s t) ∧
  (∀ s (q : Fin 32), s.Live → s.isolated (q / 4) = false → s.get (Fld.CLU_UNITSTAT_FAULTED q) = 0 →
    (∃ h < 8, h / 4 = q.val / 16 ∧ h ≠ q.val / 4 ∧ s.isolated h = false) → ∃ t,
    exec (.handshakeWatchdog (.pipMover q)) s = .next t ∧ t.get (Fld.CLU_UNITSTAT_FAULTED q) = 1 ∧
    t.get Fld.FLT_STAT_CL_FAULTED = (s.get Fld.FLT_STAT_CL_FAULTED + 1) % 64 ∧ (∃ e ∈ t.recd.port, e.code = 0x2804) ∧
    (∀ d ∈ s.tasks, t.placeOf (tdTask d) ≠ some q.val) ∧
    ((∃ d ∈ s.tasks, s.placeOf (tdTask d) = some q.val ∧ tdHome d = q.val ∧ tdSib d = none) →
      t.isolated (q / 4) = true ∧ ∃ e ∈ t.recd.port, e.code = 0x2805) ∧ State.Touch [.omem, .chans, .fab, .slv, .port] s t) ∧
  (∀ s (g : Fin 8), s.Live → s.isolated g = false → (∃ h < 8, h / 4 = g.val / 4 ∧ h ≠ g.val ∧ s.isolated h = false) → ∃ t,
    exec (.invalidCodeword (.regionBridge g)) s = .next t ∧ t.isolated g = true ∧ t.get (Fld.RGN_PLACE_MOVED_OUT g) = 1 ∧
    t.get ⟨Reg.FLT_STAT, 15 + g, 1⟩ = 1 ∧ (∃ e ∈ t.recd.port, e.code = 0x2805) ∧
    (∀ d ∈ s.tasks, ∀ q, t.placeOf (tdTask d) = some q → q / 4 ≠ g.val) ∧ State.Touch [.omem, .chans, .fab, .slv, .port] s t) ∧
  (∀ s (d : Fin 2) c, (c = .bridgeAckTimeout d ∨ c = .ochreSupplyAbsent d ∨ c = .invalidCodeword (.umberBridge d)) → s.Live →
    s.get ⟨Reg.FLT_STAT, 23 + d, 1⟩ = 0 → s.get Fld.FLT_STAT_COVER = 1 → (∃ r < 4, s.isolated (4 * d + r) = false) → ∃ t, exec c s = .next t ∧
    t.get ⟨Reg.FLT_STAT, 23 + d, 1⟩ = 1 ∧ (∀ r < 4, t.isolated (4 * d + r) = true) ∧ (∃ e ∈ t.recd.port, e.code = 0x2807) ∧
    (∀ x ∈ s.tasks, ∀ q, t.placeOf (tdTask x) = some q → q / 16 ≠ d.val) ∧
    State.Touch [.omem, .chans, .fab, .slv, .port] s t) ∧
  (∀ s (d : Fin 2) c, (c = .bridgeAckTimeout d ∨ c = .ochreSupplyAbsent d) → s.Live → s.get ⟨Reg.FLT_STAT, 23 + d, 1⟩ = 0 →
    s.get Fld.FLT_STAT_COVER = 0 → ∃ t, exec c s = .next t ∧ t.get ⟨Reg.FLT_STAT, 23 + d, 1⟩ = 1 ∧
    t.get Fld.FLT_STAT_PART_LOST = 1 ∧ t.commanding = false ∧ t.fab.insts = [] ∧ (∃ e ∈ t.recd.port, e.code = 0x2808)) ∧
  (∀ s, s.Live → s.get Fld.FLT_STAT_BRIDGE_REROUTED = 0 → ∃ t, exec (.handshakeWatchdog .ochreBridge) s = .next t ∧
    t.get Fld.FLT_STAT_BRIDGE_REROUTED = 1 ∧ t.rd Reg.FLT_LAST = BitVec.ofNat 32 (6 + 2 ^ 25 * 4) ∧
    (∃ e, t.recd.port = s.recd.port ++ [e] ∧ e.code = 0x2806) ∧ s.keeps t [Reg.FLT_STAT, Reg.FLT_LAST, Reg.FLT_LASTT] ∧
    State.Touch [.port] s t) ∧
  (∀ s, s.Live → ∃ t, exec .fltCntClr s = .next t ∧ t.get Fld.FLT_SPARE_WAKE_FAIL = 0 ∧ t.get Fld.FLT_SPARE_BANKS_RETIRED = 0 ∧
    t.get Fld.FLT_SPARE_SPARES_LEFT = s.get Fld.FLT_SPARE_SPARES_LEFT ∧ t.rd Reg.FLT_RERUN = 0 ∧ t.rd Reg.FLT_MARK = 0 ∧
    (∀ c ∈ t.chans, c.dup = 0 ∧ c.skipped = 0 ∧ c.late = 0 ∧ c.differ = 0) ∧
    (∀ q < 32, s.isolated (q / 4) = false → t.rd (Reg.CLU_RERUN q) = 0) ∧ State.Touch [.chans] s t ∧
    s.keeps t ([Reg.FLT_SPARE, Reg.FLT_RERUN, Reg.FLT_MARK] ++ (List.range 8).map Reg.RGN_EGRDUP ++ (List.range 32).map Reg.CLU_RERUN))
/-- R66, R67, R232 to R234: an idle unit takes a re-run that waits, else the ready task of the highest PRIO, the oldest first; its pip
is written, copied to the other placements, and loaded again for a re-run. Rests on choices and readings of the model's own: log entries
69, 71, 144. -/
def Obligations.TasksAreDispatchedByPriority : Prop :=
  (∀ s (q : Fin 32) (u : Fin 8) x d, s.Live → s.unitState q u = 0 → s.atCluster q .rerun = [] →
    (cellsGet 0 s.fab.decisions q + 1) % (s.get (Fld.CLU_DISP_BG_NTH q) + 1) ≠ 0 → x ∈ s.atCluster q .ready →
    (∀ y ∈ s.atCluster q .ready, y ≠ x → s.prioOf y < s.prioOf x ∨ (s.prioOf y = s.prioOf x ∧ (x.start < y.start ∨
      (x.start = y.start ∧ s.orderOf x < s.orderOf y)))) → s.taskDef x.task = some d → ∃ t,
    exec (.taskDispatch q u) s = .next t ∧ t.unitState q u = 1 ∧ (∃ y ∈ t.fab.insts, y.task = x.task ∧ y.number = x.number ∧
      y.phase = .copying ∧ y.cluster = q ∧ y.unit = u ∧ y.op = 0 ∧ y.status.toNat = x.task % 65536 * 65536 + x.flags % 8 * 16) ∧
    t.memRd (pipAddr q d + 124) = 0x21504950 ∧ t.memRd (pipAddr q d + 4) = BitVec.ofNat 32 x.number ∧
    (∀ a, cellsGet 0 t.omem a ≠ cellsGet 0 s.omem a → (pipAddr q d ≤ a ∧ a < pipAddr q d + 128) ∨
      (dispArea q u ≤ a ∧ a < dispArea q u + 64)) ∧ s.keeps t [Reg.CLU_UNITSTAT q] ∧ State.Touch [.omem, .fab, .freeCtr] s t) ∧
  (∀ s (q : Fin 32) (u : Fin 8) x d, s.Live → s.unitState q u = 0 → s.atCluster q .rerun = [x] → s.taskDef x.task = some d → ∃ t,
    exec (.taskDispatch q u) s = .next t ∧ t.unitState q u = 1 ∧ (∃ y ∈ t.fab.insts, y.task = x.task ∧ y.number = x.number ∧
      y.phase = .loading ∧ y.cluster = q ∧ y.unit = u ∧ y.op = 0) ∧ s.keeps t [Reg.CLU_UNITSTAT q, Reg.CLU_RERUN q] ∧
    State.Touch [.fab] s t) ∧
  (∀ s (q : Fin 32) (u : Fin 8) x d, s.Live → s.instOn q u = some x → x.phase = .copying → s.taskDef x.task = some d → ∃ t,
    exec (.pipCopyValid q u) s = .next t ∧ (∃ y ∈ t.fab.insts, y = { x with phase := .running }) ∧
    (∀ h ∈ (tdSib d).toList ++ [tdAlt d], h ≠ q.val → s.isolated (h / 4) = false →
      ∀ i < 128, cellsGet 0 t.omem (pipAddr h d + i) = cellsGet 0 s.omem (pipAddr q d + i)) ∧
    s.keeps t [] ∧ State.Touch [.omem, .fab] s t) ∧
  (∀ s (q : Fin 32) (u : Fin 8) x d, s.Live → s.instOn q u = some x → x.phase = .loading → s.taskDef x.task = some d → ∃ t,
    exec (.pipLoadDone q u) s = .next t ∧ (∃ y ∈ t.fab.insts, y.task = x.task ∧ y.number = x.number ∧ y.phase = .running ∧ y.op = 0 ∧
      y.status.getLsbD 7 = true) ∧
    (∀ i < 64, cellsGet 0 t.omem (dispArea q u + i) = cellsGet 0 s.omem (pipAddr q d + 16 + i)) ∧
    s.keeps t [] ∧ State.Touch [.omem, .fab] s t)
/-- R48, R62, R69 to R76, R247: an elementwise operation (ADD, SUB, MUL, MIN, MAX) whose words are good, or corrected, writes each
result, saturated and in format QD, to its destination and nothing else; EMIT sends its output to the egress; the last operation
completes the task, frees its unit and sends its tokens. Rests on choices and readings of the model's own: log entries 79, 141, 145. -/
def Obligations.OperationsWriteTheirResults : Prop :=
  (∀ s (q : Fin 32) (u : Fin 8) x d (e : BitVec 128) c w, c.all EccResult.good = true → s.Live → s.instOn q u = some x →
    x.phase = .running → s.taskDef x.task = some d → d.ops[x.op]? = some e → x.op + 1 < tdNops d →
    opCode e ∈ [0x02, 0x03, 0x04, 0x0B, 0x0C] → ∃ t, exec (.operationComplete q u c w) s = .next t ∧
    (∀ i < opLen e,
      let a := ofQ (opQA e) (s.elem q (opA e) i)
      let b := ofQ (opQB e) (s.elem q (opB e) i)
      let r := if opCode e = 0x02 then a + b else if opCode e = 0x03 then a - b else if opCode e = 0x04 then a * b else
        if opCode e = 0x0B then min a b else max a b
      t.memRd (elemAddr q (opD e) i) = ofInt32 (narrow (toQ (opQD e) r)).1) ∧
    (∀ a, (∀ i < opLen e, a / 4 ≠ elemAddr q (opD e) i / 4) → cellsGet 0 t.omem a = cellsGet 0 s.omem a) ∧
    (∃ y ∈ t.fab.insts, y.task = x.task ∧ y.number = x.number ∧ y.op = x.op + 1 ∧ y.phase = .running ∧ y.acc = none) ∧
    t.get (Fld.RGN_ECCCNT_CORRECTED (q / 4)) =
      min (s.get (Fld.RGN_ECCCNT_CORRECTED (q / 4)) + (c.filter (fun y => decide (y = .corrected))).length) 65535 ∧
    s.keeps t [Reg.RGN_ECCCNT (q / 4)] ∧ State.Touch [.omem, .fab] s t) ∧
  (∀ s (q : Fin 32) (u : Fin 8) x d (e : BitVec 128) w, s.Live → s.instOn q u = some x → x.phase = .running →
    s.taskDef x.task = some d → d.ops[x.op]? = some e → x.op + 1 < tdNops d → opCode e = 0x16 →
    (∀ y ∈ s.fab.egress, ¬ (y.1 = q.val / 4 ∧ y.2.1 = opImm e ∧ y.2.2.1 = s.slotFrame d x.number)) → ∃ t,
    exec (.operationComplete q u [] w) s = .next t ∧ (∃ o, t.fab.outs = s.fab.outs ++ [o] ∧ o.handle = opImm e ∧
      o.task = x.task ∧ o.frame = s.slotFrame d x.number ∧ o.payload.length = 4 * opLen e + 4) ∧ s.keeps t [] ∧
    State.Touch [.fab] s t) ∧
  (∀ s (q : Fin 32) (u : Fin 8) x d w, s.Live → s.instOn q u = some x → x.phase = .running → s.taskDef x.task = some d →
    d.test = false → tdNops d ≤ x.op + 1 → s.isolated (q / 4) = false → s.unitState q u = 1 → ∃ t,
    exec (.operationComplete q u [] w) s = .next t ∧ t.unitState q u = 0 ∧ t.instOf x.task x.number = none ∧
    (x.task, x.number) ∈ t.fab.closed ∧
    (∀ k ∈ d.succ, ∀ f, s.taskDef k.val = some f → ∀ h ∈ tdHolders f, ∃ y ∈ t.fab.tokens, y.cluster = h ∧ y.task = k.val) ∧
    (tdClass d ≠ 0 → (x.task, ((x.start + tdDeadline d : Nat) : Int)) ∈ t.fab.slack) ∧
    State.Touch [.omem, .chans, .fab, .port] s t)
/-- R47, R58, R59, R60, R65, R76, R237, R247: a completion token makes a task ready once NDEP have come; a token of the FRAME class
whose slack is low is counted, its slack is the least so far, and SLACK_LOW is raised once; CLR clears the least slacks; an output fills
its channel's open slot; of the tasks of a wait chain that with the youngest request is aborted, and runs again from its pip. Rests on
choices and readings of the model's own: log entries 73, 80, 109, 143. -/
def Obligations.TokensSlackAndOutputs : Prop :=
  (∀ s (q : Fin 32) (k : Fin 4096) d x y, s.Live → s.taskDef k = some d →
    s.fab.tokens.find? (fun z => decide (z.cluster = q ∧ z.task = k)) = some y → (k.val, y.number) ∉ s.fab.closed →
    s.instOf k y.number = some x → x.phase = .waiting → s.placeOf k = some q.val → tdTask d = k →
    cellsGet 0 x.tokens q + 1 = tdNdep d → ∃ t, exec (.completionToken q k) s = .next t ∧ t.fab.tokens = s.fab.tokens.erase y ∧
    (∃ z ∈ t.fab.insts, z.task = x.task ∧ z.number = x.number ∧ z.phase = .ready ∧ cellsGet 0 z.tokens q = tdNdep d ∧
      z.flags = if tdInherit d = true then x.flags ||| y.flags else x.flags) ∧ s.keeps t [] ∧ State.Touch [.fab] s t) ∧
  (∀ s (k : Fin 4096) d (x : Nat × Int), s.Live → s.taskDef k = some d → s.fab.slack.find? (fun z => decide (z.1 = k)) = some x →
    s.get Fld.SLK_CTRL_EN = 1 → tdClass d = 1 → (s.now : Int) ≤ x.2 → x.2 < (s.now : Int) + 1000 * (s.get Fld.SLK_THR_THR_FRAME : Nat) → ∃ t,
    exec (.slackToken k) s = .next t ∧ t.get Fld.SLK_STAT_LOW_F = 1 ∧
    t.get Fld.SLK_STAT_LOW_CNT = min (s.get Fld.SLK_STAT_LOW_CNT + 1) 65535 ∧ t.fab.slack = s.fab.slack.erase x ∧
    (t.rd Reg.SLK_MINF).toInt = min (s.rd Reg.SLK_MINF).toInt (x.2 - s.now) ∧
    (s.fab.slackRaised.getLsbD 0 = false → ∃ e, t.recd.port = s.recd.port ++ [e] ∧ e.code = 0x2001) ∧
    s.keeps t [Reg.SLK_STAT, Reg.SLK_MINF] ∧ State.Touch [.fab, .port] s t) ∧
  (∀ s, s.Live → ∃ t, exec .slkClr s = .next t ∧ t.rd Reg.SLK_MINF = 0x7FFFFFFF ∧ t.rd Reg.SLK_MINP = 0x7FFFFFFF ∧
    s.keeps t [Reg.SLK_MINF, Reg.SLK_MINP] ∧ t.rest = s.rest) ∧
  (∀ s (h : Word) o c, s.Live → s.fab.outs.find? (fun o => decide (o.handle = h)) = some o → s.chanOf h = some c →
    s.commanding = true → s.seqAtLoad c.typ c.index = false → c.slot = some o.frame → ∃ t,
    exec (.channelPortOutput h) s = .next t ∧ t.fab.outs = s.fab.outs.erase o ∧
    (∃ y ∈ t.chans, y.typ = c.typ ∧ y.index = c.index ∧ y.slot = none ∧ y.seq = (c.seq + 1) % 65536 ∧ y.last = some (o.frame, o.crc) ∧
      (c.cls = .timed → ∃ z, y.staged = some z ∧ z.payload = o.payload ∧ z.seq = c.seq ∧ z.handle = c.handle)) ∧
    State.Touch [.mgt, .chans, .fab, .can, .eth, .ana, .port] s t) ∧
  (∀ s chain l x d, s.Live → s.youngest (s.waitChain chain) = some (l, x) → s.taskDef x.task = some d → x.cluster < 32 →
    cellsGet 0 s.fab.aborts x.task < 2 → ∃ t,
    exec (.waitAbort chain) s = .next t ∧ (∃ y ∈ t.fab.insts, y.task = x.task ∧ y.number = x.number ∧ y.phase = .loading ∧ y.op = 0 ∧
      y.aborts = x.aborts + 1) ∧ cellsGet 0 t.fab.aborts x.task = cellsGet 0 s.fab.aborts x.task + 1 ∧
    t.get (Fld.RGN_WAITABORT_COUNT (x.cluster / 4)) = min (s.get (Fld.RGN_WAITABORT_COUNT (x.cluster / 4)) + 1) 65535 ∧
    t.get (Fld.RGN_WAITABORT_LAST_RES (x.cluster / 4)) = l.resource.toNat ∧
    (∃ e, t.recd.port = s.recd.port ++ [e] ∧ e.code = 0x2003) ∧ State.Touch [.chans, .fab, .port] s t)
/-- R458 to R462: on the commanding part a declared channel of types 1 to 8, 12 and 13, or a CAN object that is free, is created: it
stands PENDING with the next generation of its handle, and the request is answered PENDING with that handle. A LIVE channel that is
destroyed stands CLOSING until the next frame start, its request answered PENDING; a handle that the part does not hold is turned away
with 7 and its reason; a query tells handle and state. A creation off the commanding part is turned away with 6, one of a type that is
not created (10, 14) with 13. Rests on choices and readings of the model's own: log entry 67. -/
def Obligations.ChannelsAreCreatedAndDestroyed : Prop :=
  (∀ s (r : Req) (ty : Byte) (ix : BitVec 16) body g, s.Live → s.Accepts r 3 (cmdBody 0x20 (createArgs ty ix body)) →
    s.commanding = true → ty.toNat ∈ [1, 2, 3, 4, 5, 6, 7, 8, 12, 13] → body = [] → ix.toNat < s.chanMax ty.toNat → s.cfg = some g →
    (ty.toNat, ix.toNat) ∈ g.channels.declared → (∀ c, s.chan ty.toNat ix.toNat = some c → c.state = .absent) → ∃ t y,
    exec (.chCreate r ty ix body) s = .next t ∧ t.chan ty.toNat ix.toNat = some y ∧ y.state = .pending ∧
    y.gen = (match s.chan ty.toNat ix.toNat with | some c => c.gen % 255 + 1 | none => 1) ∧ y.req = some (reqRef r 0x20) ∧
    (∀ a b, (a, b) ≠ (ty.toNat, ix.toNat) → t.chan a b = s.chan a b) ∧
    s.Answered t r (respPending (le32 (mkHandle ty.toNat ix.toNat y.gen))) ∧ s.keeps t [Reg.MGT_CNT1, Reg.MGT_STAT] ∧
    State.Touch [.mgt, .chans, .grp] s t) ∧
  (∀ s (r : Req) (ix : BitVec 16) body, s.Live → s.Accepts r 3 (cmdBody 0x20 (createArgs 9 ix body)) → s.commanding = true →
    body.length = 8 → ix.toNat < s.chanMax 9 → s.chan 9 ix.toNat = none → s.objOn (ix.toNat / 256) (ix.toNat % 256) = false → ∃ t y,
    exec (.chCreate r 9 ix body) s = .next t ∧ t.chan 9 ix.toNat = some y ∧ y.state = .pending ∧ y.body = body ∧
    s.Answered t r (respPending (le32 (mkHandle 9 ix.toNat 1))) ∧ State.Touch [.mgt, .chans, .grp] s t) ∧
  (∀ s (r : Req) (ty : Byte) (ix : BitVec 16) body, s.Live → s.Accepts r 3 (cmdBody 0x20 (createArgs ty ix body)) →
    ty ≠ 11 → s.commanding = false ∨ ty = 10 ∨ ty = 14 → ∃ t, exec (.chCreate r ty ix body) s = .next t ∧
    s.Answered t r (respStatus (if s.commanding = true then 13 else 6) 0) ∧ s.keeps t [Reg.MGT_CNT1, Reg.MGT_STAT] ∧
    State.Touch [.mgt] s t) ∧
  (∀ s (r : Req) (h : Word) c, s.Live → s.Accepts r 3 (cmdBody 0x21 (le32 h)) → s.commanding = true → s.checkHandle h = 0 →
    handleType h ≠ 10 → handleType h ≠ 14 → s.chan (handleType h) (handleIndex h) = some c → c.state = .live → ∃ t,
    exec (.chDestroy r h) s = .next t ∧
    t.chan (handleType h) (handleIndex h) = some { c with state := .closing, req := some (reqRef r 0x21) } ∧
    (∀ a b, (a, b) ≠ (handleType h, handleIndex h) → t.chan a b = s.chan a b) ∧ s.Answered t r (respPending []) ∧
    s.keeps t [Reg.MGT_CNT1, Reg.MGT_STAT] ∧ State.Touch [.mgt, .chans, .grp] s t) ∧
  (∀ s (r : Req) (h : Word), s.Live → s.Accepts r 3 (cmdBody 0x21 (le32 h)) → s.commanding = true → s.checkHandle h ≠ 0 → ∃ t,
    exec (.chDestroy r h) s = .next t ∧ s.Answered t r (respStatus 7 (s.checkHandle h)) ∧
    s.keeps t [Reg.MGT_CNT1, Reg.MGT_STAT] ∧ State.Touch [.mgt] s t) ∧
  (∀ s (r : Req) (ty : Byte) (ix : BitVec 16), s.Live → s.Accepts r 3 (cmdBody 0x22 ([ty, 0] ++ leBytes 2 ix.toNat)) → ty ≠ 0 →
    ty.toNat ≤ 14 → ix.toNat < s.chanMax ty.toNat → ∃ t, exec (.chQuery r ty ix) s = .next t ∧
    s.Answered t r (respOk (le32 (s.handleOf ty.toNat ix.toNat) ++
      [(match s.chan ty.toNat ix.toNat with | some c => BitVec.ofNat 8 c.state.code | none => 0), 0, 0, 0])) ∧
    s.keeps t [Reg.MGT_CNT1, Reg.MGT_STAT] ∧ State.Touch [.mgt] s t)
/-- R463: a re-initialisation of a function that has none under way is accepted and answered PENDING. Its end sends the RESULT and ends
it: DONE, where reference fusion (2) on the commanding part raises the generations of the source channels; FAILED with the block's code;
or TIMEOUT. Rests on choices and readings of the model's own: log entry 67. -/
def Obligations.FunctionsAreReinitialised : Prop :=
  (∀ s (r : Req) (f : Byte) (a : Word), s.Live → s.Accepts r 3 (cmdBody 0x30 ([f, 0, 0, 0] ++ le32 a)) →
    (f = 1 ∧ s.checkHandle a = 0) ∨ (f.toNat ∈ [2, 3, 4, 8] ∧ a = 0) ∨ (f = 5 ∧ a.toNat ≤ 7) ∨ (f = 6 ∧ a.toNat ≤ 2) ∨ (f = 7 ∧ a.toNat ≤ 15) →
    (∀ x ∈ s.mgt.reinits, ¬ (x.func = f.toNat ∧ x.arg = a)) → ∃ t, exec (.funcReinit r f a) s = .next t ∧
    t.mgt.reinits = s.mgt.reinits ++ [{ func := f.toNat, arg := a, req := reqRef r 0x30 }] ∧ s.Answered t r (respPending []) ∧
    (f = 6 → t.get (Fld.ETHp_STAT_LINK a.toNat) = 0 ∧ a.toNat ∈ t.eth.reinit) ∧ State.Touch [.mgt, .can, .eth, .grp] s t) ∧
  (∀ s (f : Byte) (a : Word) x, s.Live → s.mgt.reinits.find? (fun x => decide (x.func = f.toNat ∧ x.arg = a)) = some x →
    (x.req.session = 0 ∨ (s.session x.req.session).isSome = true) → ∃ t m, exec (.funcReinitDone f a true 0) s = .next t ∧
    x ∉ t.mgt.reinits ∧ (∃ l, t.out x.req.path = s.out x.req.path ++ l ++ [m]) ∧ m.ttype = 0x82 ∧ m.session = x.req.session ∧
    m.tseq = x.req.tseq ∧ m.body = leBytes 2 x.req.op ++ leBytes 2 0 ++ padTo 8 [] ∧
    (s.commanding = true → f = 2 → ∀ c ∈ s.chans, 1 ≤ c.typ → c.typ ≤ 4 → c.state ≠ .absent →
      ∃ y ∈ t.chans, y.typ = c.typ ∧ y.index = c.index ∧ y.gen = c.gen % 255 + 1) ∧
    State.Touch [.mgt, .chans, .fus, .ctl, .slv, .alc, .can, .eth, .ana, .srv, .recd] s t) ∧
  (∀ s (f : Byte) (a : Word) x c (k : Byte) n, ((c = .funcReinitDone f a false k ∧ n = [k]) ∨ (c = .funcReinitTimeout f a ∧ n = [])) →
    s.Live → s.mgt.reinits.find? (fun x => decide (x.func = f.toNat ∧ x.arg = a)) = some x →
    (x.req.session = 0 ∨ (s.session x.req.session).isSome = true) → ∃ t m, exec c s = .next t ∧ x ∉ t.mgt.reinits ∧
    t.out x.req.path = s.out x.req.path ++ [m] ∧ m.ttype = 0x82 ∧ m.session = x.req.session ∧ m.tseq = x.req.tseq ∧
    m.body = leBytes 2 x.req.op ++ leBytes 2 (if n = [] then 2 else 1) ++ padTo 8 n ∧ s.keeps t [] ∧ State.Touch [.mgt] s t)
/-- R257, R258, R260, R261, R264, R267, R274, R277: a heartbeat, and while FORMING a health report, leave on the pair at PCP 7. A
received frame that is too short is counted and changes nothing else; so is a claim or an offer with a wrong MAC. A good frame is taken
as its payload says: the sender's health; a claim's epoch; an offer to this part; the first fragment of a state frame, and one that is
the whole frame; the commanding part's heartbeat on a standby. SLH_CMD.CNT_CLR clears the counters. Rests on choices and readings of the
model's own: log entries 44, 64. -/
def Obligations.SilharFramesAreSentAndHeard : Prop :=
  let good := fun (s : State) (typ len : Nat) (b : List Byte) => s.silhar = true ∧ len ≤ b.length ∧ fld b 0 1 = 1 ∧ fld b 1 1 = typ ∧
    fld b 2 1 < s.groupSize ∧ fld b 2 1 < 3 ∧ fld b 2 1 ≠ s.member ∧ fld b 3 1 ≤ 2
  (∀ s g, s.Live → s.silhar = true → s.grpCfg = some g → s.linkUp 0 = true ∨ s.linkUp 1 = true → ∃ t f,
    exec .heartbeatDue s = .next t ∧ t.eth.pairQ = s.eth.pairQ ++ [f] ∧ f.pcp = 7 ∧ f.dest = g.mac ∧ f.payload.length = 40 ∧
    f.payload.take 8 = [1, 1, BitVec.ofNat 8 s.member, BitVec.ofNat 8 s.role] ++ le32 (s.rd Reg.SLH_EPOCH) ∧
    (f.payload.drop 16).take 4 = le32 s.grp.hbSeq ∧ t.grp = { s.grp with hbSeq := s.grp.hbSeq + 1 } ∧ s.keeps t [] ∧
    State.Touch [.eth, .grp] s t) ∧
  (∀ s g, s.Live → s.role = 2 → s.silhar = true → s.grpCfg = some g → s.linkUp 0 = true ∨ s.linkUp 1 = true → ∃ t f,
    exec .formingHealthDue s = .next t ∧ t.eth.pairQ = s.eth.pairQ ++ [f] ∧ f.pcp = 7 ∧ f.dest = g.mac ∧ f.payload.length = 72 ∧
    f.payload.take 4 = [1, 3, BitVec.ofNat 8 s.member, 2] ∧ s.keeps t [Reg.SLH_STAT] ∧ State.Touch [.eth] s t) ∧
  (∀ s c n b, ((c = .heartbeatRx b ∧ n = 40) ∨ (c = .healthRx b ∧ n = 72) ∨ (c = .claimRx b ∧ n = 44) ∨ (c = .offerRx b ∧ n = 44)) →
    s.Live → s.silhar = true → b.length < n → ∃ t, exec c s = .next t ∧
    t.get Fld.SLH_CNT1_BAD_FRAME = min (s.get Fld.SLH_CNT1_BAD_FRAME + 1) (2 ^ Fld.SLH_CNT1_BAD_FRAME.width - 1) ∧
    s.keeps t [Reg.SLH_CNT1] ∧ t.rest = s.rest) ∧
  (∀ s b, s.Live → good s 3 72 b → s.grp.members.length = 3 → ∃ t, exec (.healthRx b) s = .next t ∧
    (t.memberSt (fld b 2 1)).healthAt = some s.now ∧ (t.memberSt (fld b 2 1)).tests = fld b 52 2 ∧
    (t.memberSt (fld b 2 1)).sha = (b.drop 16).take 32 ∧ (t.memberSt (fld b 2 1)).gen = fld b 48 4 ∧
    (∀ m, m ≠ fld b 2 1 → t.memberSt m = s.memberSt m) ∧
    (t.rd Reg.SLH_AEPOCH).toNat = max (s.rd Reg.SLH_AEPOCH).toNat (fld b 4 4) ∧ s.keeps t [Reg.SLH_AEPOCH, Reg.SLH_STAT] ∧
    State.Touch [.grp] s t) ∧
  (∀ s b, s.Live → good s 4 44 b → s.commanding = false → (b.drop 28).take 16 = (hmac s.groupKey (b.take 28)).take 16 → ∃ t,
    exec (.claimRx b) s = .next t ∧ (t.rd Reg.SLH_EPOCH).toNat = max (s.rd Reg.SLH_EPOCH).toNat (fld b 4 4) ∧
    (t.rd Reg.SLH_AEPOCH).toNat = max (s.rd Reg.SLH_AEPOCH).toNat (fld b 4 4) ∧ s.keeps t [Reg.SLH_AEPOCH, Reg.SLH_EPOCH] ∧
    State.Touch [.grp] s t) ∧
  (∀ s c b, ((c = .claimRx b ∧ good s 4 44 b) ∨ (c = .offerRx b ∧ good s 5 44 b)) → s.Live →
    (b.drop 28).take 16 ≠ (hmac s.groupKey (b.take 28)).take 16 → ∃ t, exec c s = .next t ∧
    t.get Fld.SLH_CNT0_AUTH_FAIL = min (s.get Fld.SLH_CNT0_AUTH_FAIL + 1) (2 ^ Fld.SLH_CNT0_AUTH_FAIL.width - 1) ∧
    s.keeps t [Reg.SLH_CNT0] ∧ t.rest = s.rest) ∧
  (∀ s b, s.Live → good s 5 44 b → (b.drop 28).take 16 = (hmac s.groupKey (b.take 28)).take 16 → s.role = 0 →
    fld b 16 1 = s.member → fld b 4 4 = (s.rd Reg.SLH_EPOCH).toNat → ∃ t, exec (.offerRx b) s = .next t ∧
    t.grp = { s.grp with called := some (fld b 24 4) } ∧ s.keeps t [] ∧ State.Touch [.grp] s t) ∧
  (∀ s b, s.Live → good s 2 (24 + fld b 18 2) b → s.role = 0 → fld b 4 4 = (s.rd Reg.SLH_EPOCH).toNat → s.grp.frags = none →
    fld b 16 1 = 0 → fld b 17 1 = 2 → 0 < fld b 18 2 → fld b 18 2 ≤ 448 → ∃ t, exec (.stateFragmentRx b) s = .next t ∧
    t.grp.frags = some { frame := fld b 8 4, cnt := 2, parts := [(0, (b.drop 24).take (fld b 18 2))], mac := [] } ∧
    t.grp.kept = s.grp.kept ∧ s.keeps t [Reg.SLH_AEPOCH] ∧ State.Touch [.grp] s t) ∧
  (∀ s b, s.Live → good s 2 (40 + fld b 18 2) b → s.role = 0 → fld b 4 4 = (s.rd Reg.SLH_EPOCH).toNat → s.grp.frags = none →
    fld b 16 1 = 0 → fld b 17 1 = 1 → 0 < fld b 18 2 → fld b 18 2 ≤ 448 →
    let d := (b.drop 24).take (fld b 18 2)
    (b.drop (24 + fld b 18 2)).take 16 = (hmac s.groupKey d).take 16 → ∃ t p, exec (.stateFragmentRx b) s = .next t ∧
    t.grp.frags = none ∧ t.grp.kept = some (fld b 8 4, d, p) ∧ ((blockData (blocksOf 16 d) 8).getD [] = [] → t.rd Reg.SLH_STATEF = BitVec.ofNat 32 (fld b 8 4)) ∧
    State.Touch [.mgt, .chans, .fab, .fus, .ctl, .slv, .alc, .can, .eth, .ana, .srv, .grp, .port] s t) ∧
  (∀ s b, s.Live → good s 1 40 b → fld b 3 1 = 1 → s.role = 0 → (s.rd Reg.SLH_EPOCH).toNat ≤ fld b 4 4 →
    s.grp.members.length = 3 → ∃ t h, exec (.heartbeatRx b) s = .next t ∧ t.grp.hb = some h ∧ h.member = fld b 2 1 ∧
    h.epoch = BitVec.ofNat 32 (fld b 4 4) ∧ h.at_ = s.now ∧ h.frame = fld b 8 4 ∧ h.fillFrame = fld b 32 4 ∧
    t.frame = { s.frame with count := fld b 8 4 } ∧ (t.rd Reg.SLH_EPOCH).toNat = fld b 4 4 ∧ t.grp.lost = none ∧
    (t.memberSt (fld b 2 1)).hbAt = some s.now ∧
    s.keeps t [Reg.SLH_STAT, Reg.SLH_CNT1, Reg.SLH_AEPOCH, Reg.SLH_EPOCH, Reg.TB_ALIGN] ∧ State.Touch [.grp, .frame] s t) ∧
  (∀ s, s.Live → ∃ t, exec .slhCntClr s = .next t ∧ t.rd Reg.SLH_CNT0 = 0 ∧ t.rd Reg.SLH_CNT1 = 0 ∧
    s.keeps t [Reg.SLH_CNT0, Reg.SLH_CNT1] ∧ t.rest = s.rest)
/-- R265 to R270, R274: a part claims at formation, or takes over when the commanding part is lost (rank 0 at once, rank 1 after its
wait), under the next epoch of its own number; one that is not eligible or ranks lower only notes the loss. A commanding part that sees
a higher epoch demotes itself; isolation is reported; a handover is offered to a member whose report shows ELIGIBLE, and refused
otherwise. Rests on choices and readings of the model's own: log entries 65, 68, 153. -/
def Obligations.TheRoleIsClaimedAndGivenUp : Prop :=
  let next := fun (s : State) => BitVec.ofNat 32 (((s.rd Reg.SLH_AEPOCH).toNat / 4 + 1) * 4 + s.member)
  (∀ s, s.Live → s.silhar = true → s.commanding = false → s.member < s.groupSize → s.formEligible = true → s.lowerForming = false → ∃ t,
    exec .formWaitExpired s = .next t ∧ t.commanding = true ∧ t.rd Reg.SLH_EPOCH = next s ∧ t.rd Reg.SLH_AEPOCH = next s ∧
    t.grp.seam = some s.frame.count ∧ t.grp.resync = false ∧ t.fab.insts = [] ∧
    State.Touch [.cfg, .fus, .ctl, .slv, .fab, .alc, .can, .eth, .srv, .grp] s t) ∧
  (∀ s h, s.Live → s.silhar = true → s.role = 0 → s.grp.hb = some h → s.grp.lost = none → h.epoch = s.rd Reg.SLH_EPOCH →
    s.eligible = true → s.rank h.member = 0 → ∃ t, exec .takeoverTimeout s = .next t ∧ t.commanding = true ∧
    t.rd Reg.SLH_EPOCH = next s ∧ t.rd Reg.SLH_AEPOCH = next s ∧ t.grp.seam = some s.frame.count ∧
    t.get Fld.SLH_CNT0_TAKEOVERS = min (s.get Fld.SLH_CNT0_TAKEOVERS + 1) (2 ^ Fld.SLH_CNT0_TAKEOVERS.width - 1) ∧
    (∃ e ∈ t.recd.port, e.code = 0x3001) ∧
    State.Touch [.mgt, .chans, .fab, .fus, .ctl, .slv, .alc, .can, .eth, .ana, .srv, .grp, .port] s t) ∧
  (∀ s h, s.Live → s.silhar = true → s.role = 0 → s.grp.hb = some h → s.grp.lost = none → h.epoch = s.rd Reg.SLH_EPOCH →
    s.eligible = false ∨ s.rank h.member ≠ 0 → ∃ t, exec .takeoverTimeout s = .next t ∧
    t.grp = { s.grp with lost := some (h.member, h.epoch) } ∧ (∃ e, t.recd.port = s.recd.port ++ [e] ∧ e.code = 0x3001) ∧
    s.keeps t [] ∧ State.Touch [.grp, .port] s t) ∧
  (∀ s m e, s.Live → s.role = 0 → s.grp.hb.isSome = true → s.grp.lost = some (m, e) → s.eligible = true → s.rank m = 1 → ∃ t,
    exec .rankWaitExpired s = .next t ∧ t.commanding = true ∧ t.rd Reg.SLH_EPOCH = next s ∧ t.rd Reg.SLH_AEPOCH = next s ∧
    State.Touch [.mgt, .chans, .fab, .fus, .ctl, .slv, .alc, .can, .eth, .ana, .srv, .grp, .port] s t) ∧
  (∀ s b, s.Live → s.silhar = true → s.commanding = true → 40 ≤ b.length → fld b 0 1 = 1 → fld b 1 1 = 1 → fld b 2 1 < s.groupSize →
    fld b 2 1 < 3 → fld b 2 1 ≠ s.member → fld b 3 1 ≤ 2 → (s.rd Reg.SLH_EPOCH).toNat < fld b 4 4 → ∃ t,
    exec (.heartbeatRx b) s = .next t ∧ t.commanding = false ∧
    t.get Fld.SLH_CNT0_DEMOTIONS = min (s.get Fld.SLH_CNT0_DEMOTIONS + 1) (2 ^ Fld.SLH_CNT0_DEMOTIONS.width - 1) ∧
    (t.rd Reg.SLH_AEPOCH).toNat = max (s.rd Reg.SLH_AEPOCH).toNat (fld b 4 4) ∧ t.grp.resync = true ∧ t.grp.offer = none ∧
    t.fab.insts = [] ∧ (∃ e ∈ t.recd.port, e.code = 0x3002) ∧
    State.Touch [.mgt, .frame, .chans, .fab, .ctl, .slv, .alc, .can, .eth, .srv, .grp, .port] s t) ∧
  (∀ s, s.Live → s.silhar = true → s.commanding = true → 2 ≤ s.groupSize → s.get Fld.SLH_STAT_ISOLATED = 0 → ∃ t,
    exec .groupIsolated s = .next t ∧ t.get Fld.SLH_STAT_ISOLATED = 1 ∧ (∃ e, t.recd.port = s.recd.port ++ [e] ∧ e.code = 0x3003) ∧
    s.keeps t [Reg.SLH_STAT] ∧ State.Touch [.port] s t) ∧
  (∀ s (m : Fin 4), s.Live → s.commanding = true → s.silhar = true → s.grp.offer = none → m.val ≠ s.member →
    s.showsEligible m = true → ∃ t, exec (.slhHandover m) s = .next t ∧ t.get Fld.SLH_STAT_HANDOVER_PEND = 1 ∧
    t.grp = { s.grp with offer := some (m.val, s.handoverFrame) } ∧ s.frame.count + 3 ≤ s.handoverFrame ∧
    s.keeps t [Reg.SLH_STAT, Reg.ETHp_CNT1 0] ∧ State.Touch [.eth, .grp] s t) ∧
  (∀ s (m : Fin 4), s.Live → s.commanding = false ∨ s.silhar = false ∨ s.grp.offer.isSome = true ∨ m.val = s.member ∨
    s.showsEligible m = false → ∃ t, exec (.slhHandover m) s = .next t ∧ t.get Fld.SLH_STAT_HANDOVER_REFUSED = 1 ∧
    t.get Fld.SYS_REFINFO_BLOCK = 9 ∧ s.keeps t [Reg.SLH_STAT, Reg.SYS_REFADDR, Reg.SYS_REFINFO] ∧ t.rest = s.rest)
/-- R31, R33, R111, R113, R116, R134 to R136, R141, R144, R452: on the commanding part a mode command, a set-point, an offset, a track
swap, an origin move, a freeze, a calibration value and the compensation flag are queued for the next frame start and answered PENDING;
a bad mode code is answered at once, an origin move while one is set in modes above 2 refused, a track written to the bank not in use,
and a calibration value read at once. Off the commanding part the requests are turned away with status 6, and CTL_MODECMD is refused.
Rests on choices and readings of the model's own: log entries 17, 48, 54, 139. -/
def Obligations.OperatorCommandsAwaitTheFrame : Prop :=
  let regs := [Reg.MGT_CNT1, Reg.MGT_STAT]
  (∀ s (r : Req) (k : Byte), s.Live → s.Accepts r 3 (cmdBody 0x10 (modeBody k)) → s.commanding = true → ∃ t,
    exec (.mode r k) s = .next t ∧ t.get Fld.CTL_MODESTAT_REQ = k.toNat % 16 ∧ t.get Fld.CTL_MODESTAT_MODE = s.get Fld.CTL_MODESTAT_MODE ∧
    s.keeps t (Reg.CTL_MODESTAT :: regs) ∧ State.Touch [.mgt, .ctl] s t ∧
    (if k.toNat ≤ 11 then t.ctl = { s.ctl with modeReq := s.ctl.modeReq ++ [(k.toNat, some (reqRef r 0x10))] } ∧
      t.get Fld.CTL_MODESTAT_RESULT = 17 ∧ s.Answered t r (respPending [])
    else t.ctl = s.ctl ∧ t.get Fld.CTL_MODESTAT_RESULT = 3 ∧ s.Answered t r (cmdResp 0 0 3 []))) ∧
  (∀ s (v : Word), s.Live → s.commanding = true → v.toNat % 16 ≤ 11 → ∃ t, exec (.ctlModecmdWrite v) s = .next t ∧
    t.ctl = { s.ctl with modeReq := s.ctl.modeReq ++ [(v.toNat % 16, none)] } ∧ t.get Fld.CTL_MODESTAT_RESULT = 17 ∧
    s.keeps t [Reg.CTL_MODESTAT] ∧ State.Touch [.ctl] s t) ∧
  (∀ s (v : Word), s.Live → s.commanding = false → ∃ t, exec (.ctlModecmdWrite v) s = .next t ∧ t.get Fld.SYS_REFINFO_BLOCK = 12 ∧
    t.rd Reg.SYS_REFADDR = BitVec.ofNat 32 Reg.CTL_MODECMD ∧ s.keeps t [Reg.SYS_REFADDR, Reg.SYS_REFINFO] ∧ t.rest = s.rest) ∧
  (∀ s (r : Req) (ax rel : Byte) n e psi v, s.Live → s.Accepts r 3 (cmdBody 0x11 (setpointBody ax rel n e psi v)) → s.commanding = true →
    ax.toNat ≤ 15 → rel.toNat ≤ 1 → ∃ t q, exec (.setpoint r ax rel n e psi v) s = .next t ∧
    t.ctl = { s.ctl with spReq := s.ctl.spReq ++ [q] } ∧ q.axes = ax.toNat ∧ q.rel = decide (rel = 1) ∧ q.n = (ofInt32 n).toInt ∧
    q.e = (ofInt32 e).toInt ∧ q.psi = (ofInt32 psi).toInt ∧ q.speed = (ofInt32 v).toInt ∧ q.req = some (reqRef r 0x11) ∧
    s.Answered t r (respPending []) ∧ s.keeps t regs ∧ State.Touch [.mgt, .ctl, .grp] s t) ∧
  (∀ s (r : Req) a b c, s.Live → s.Accepts r 3 (cmdBody 0x12 (le32 (ofInt32 a) ++ le32 (ofInt32 b) ++ le32 (ofInt32 c))) →
    s.commanding = true → ∃ t, exec (.targetOffset r a b c) s = .next t ∧ t.ctl = { s.ctl with tgtOffReq := s.ctl.tgtOffReq ++
      [(((ofInt32 a).toInt, (ofInt32 b).toInt, (ofInt32 c).toInt), some (reqRef r 0x12))] } ∧
    s.Answered t r (respPending []) ∧ s.keeps t regs ∧ State.Touch [.mgt, .ctl, .grp] s t) ∧
  (∀ s (r : Req) (k : Byte) ps, s.Live → s.Accepts r 3 (cmdBody 0x13 ([k, BitVec.ofNat 8 ps.length, 0, 0] ++
      (ps.map Waypoint.bytes).flatten)) → s.commanding = true → 1 ≤ ps.length → ps.length ≤ 8 → k.toNat + ps.length ≤ 32 →
    ps.all Waypoint.ok = true → ∃ t, exec (.trackWrite r k ps) s = .next t ∧ t.track = s.track ∧
    (∀ i < ps.length, (if s.ctl.trackBank = 0 then t.ctl.track1 else t.ctl.track0)[k.toNat + i]? = ps[i]?) ∧
    s.Answered t r (respOk []) ∧ s.keeps t regs ∧ State.Touch [.mgt, .ctl, .grp] s t) ∧
  (∀ s (r : Req), s.Live → s.Accepts r 3 (cmdBody 0x14 []) → s.commanding = true → ∃ t, exec (.trackSwap r) s = .next t ∧
    t.ctl = { s.ctl with swapReq := s.ctl.swapReq ++ [some (reqRef r 0x14)] } ∧ s.Answered t r (respPending []) ∧ s.keeps t regs ∧
    State.Touch [.mgt, .ctl, .grp] s t) ∧
  (∀ s (r : Req) a b, s.Live → s.Accepts r 3 (cmdBody 0x15 (le32 (ofInt32 a) ++ le32 (ofInt32 b))) → s.commanding = true → ∃ t,
    exec (.originMove r a b) s = .next t ∧ t.fus = s.fus ∧ s.keeps t regs ∧ State.Touch [.mgt, .ctl, .grp] s t ∧
    (if s.fus.origin.isSome = true ∧ 2 < s.mode then t.ctl = s.ctl ∧ s.Answered t r (respRefused 0)
    else t.ctl = { s.ctl with originReq := s.ctl.originReq ++ [(((ofInt32 a).toInt, (ofInt32 b).toInt), some (reqRef r 0x15))] } ∧
      s.Answered t r (respPending []))) ∧
  (∀ s (r : Req) (f : Byte), s.Live → s.Accepts r 3 (cmdBody 0x16 [f, 0, 0, 0]) → s.commanding = true → ∃ t,
    exec (.calFreeze r f) s = .next t ∧
    t.ctl = { s.ctl with freezeReq := s.ctl.freezeReq ++ [(decide (f ≠ 0), some (reqRef r 0x16))] } ∧
    s.Answered t r (respPending []) ∧ s.keeps t regs ∧ State.Touch [.mgt, .ctl, .grp] s t) ∧
  (∀ s (r : Req) (a b c : Byte) v, s.Live → s.Accepts r 3 (cmdBody 0x17 ([a, b, c, 0] ++ le32 (ofInt32 v))) → s.commanding = true →
    (s.calIndex a.toNat b.toNat c.toNat).isSome = true → ∃ t, exec (.calWrite r a b c v) s = .next t ∧ t.ctl = { s.ctl with
      calReq := s.ctl.calReq ++ [((a.toNat, b.toNat, c.toNat, (ofInt32 v).toInt), some (reqRef r 0x17))] } ∧
    s.Answered t r (respPending []) ∧ s.keeps t regs ∧ State.Touch [.mgt, .ctl, .grp] s t) ∧
  (∀ s (r : Req) (a b c : Byte) g i, s.Live → s.Accepts r 3 (cmdBody 0x18 [a, b, c, 0]) → s.fusCfg = some g →
    s.calIndex a.toNat b.toNat c.toNat = some i → ∃ t, exec (.calRead r a b c) s = .next t ∧
    s.Answered t r (respOk (le32 (satInt32 (roundRat ((s.calVals g).getD i 0))))) ∧ s.keeps t regs ∧ State.Touch [.mgt] s t) ∧
  (∀ s (r : Req) (f : Byte), s.Live → s.Accepts r 3 (cmdBody 0x19 [f, 0, 0, 0]) → s.commanding = true → ∃ t,
    exec (.compEngaged r f) s = .next t ∧
    t.ctl = { s.ctl with compReq := s.ctl.compReq ++ [(decide (f ≠ 0), some (reqRef r 0x19))] } ∧
    s.Answered t r (respPending []) ∧ s.keeps t regs ∧ State.Touch [.mgt, .ctl, .grp] s t) ∧
  (∀ c s r body, s.Live → requestOf c = some (r, 3, body) → s.Accepts r 3 body → 0x10 ≤ leNat (body.take 2) → leNat (body.take 2) ≤ 0x19 →
    leNat (body.take 2) ≠ 0x18 → s.commanding = false → ∃ t, exec c s = .next t ∧ s.Answered t r (respStatus 6 0) ∧ s.keeps t regs ∧
    State.Touch [.mgt] s t)
/-- R27, R28, R117, R124, R136, R142 to R144, R395: at the fusion deadline without the epoch, the commanding part shows FUSION_AGE and
the slack monitor's deadline bit; at the plan deadline the period's slots close, and a plan that has not come is missed; the loss of the
power management, of a target and of a lever or joystick is noted. A published epoch is the latest one, with its flags; the hold of a
lost source and the exit of the compensation end; a digital input shows its level and raises its event. Rests on choices and readings of
the model's own: log entries 39, 62, 94, 137. -/
def Obligations.ControlNotesWhatIsLateOrLost : Prop :=
  (∀ s, s.Live → s.fus.published = false → s.fus.deadline = false → s.frame.started = true → ∃ t,
    exec .fusionDeadline s = .next t ∧
    t.fus = { s.fus with deadline := true, nextLate := s.fus.nextLate || s.fus.next.isSome } ∧ t.ctl.fusionAge = true ∧
    (s.ownFrame = true → s.fusCfg.isSome = true → s.get Fld.SLK_CTRL_EN = 1 → (t.rd Reg.SLK_STAT).getLsbD 2 = true ∧
      (s.fab.slackRaised.getLsbD 2 = false → ∃ e ∈ t.recd.port, e.code = 0x2002)) ∧
    (s.ownFrame = false → t.ctl = { s.ctl with fusionAge := true } ∧ t.slv = s.slv ∧ t.alc = s.alc ∧ t.fab = s.fab ∧ s.keeps t []) ∧
    State.Touch [.fab, .fus, .ctl, .slv, .alc, .port] s t) ∧
  (∀ s e g a b d, s.Live → s.fus.next = some e → s.fusCfg = some g → ∃ t, exec (.epochPublish a b d) s = .next t ∧
    t.fus.next = none ∧ t.fus.published = (s.fus.published || decide (e.t = s.frame.start)) ∧
    (let x := s.fus.nextFlags
     let w := e.status + flagBit s.fus.nextLate 13 + flagBit (x.2.1 || a) 15 + flagBit (x.1 || b) 16 +
       flagBit (x.2.2 || d) 17
     t.fus.epoch = some { e with status := w } ∧ t.rd Reg.FUS_STAT = BitVec.ofNat 32 w) ∧
    t.get Fld.FUS_EPOCH_COUNT = (s.get Fld.FUS_EPOCH_COUNT + 1) % 2 ^ Fld.FUS_EPOCH_COUNT.width ∧
    State.Touch [.mgt, .chans, .fus, .ctl, .slv, .alc, .can, .eth, .ana, .port] s t) ∧
  (∀ s, s.Live → ∃ t, exec .planDeadline s = .next t ∧
    (∀ c ∈ t.chans, c.cls = .period → c.state = .live ∨ c.state = .closing → c.slot = none) ∧
    (s.ctl.periodOn = true → t.ctl = { s.ctl with periodOn := false, planMiss := true, planNew := none }) ∧
    (∀ p, s.ctl.periodOn = false → s.ctl.planNew = some p →
      t.ctl = { s.ctl with planDue := some p, planNew := none, planMiss := false }) ∧
    State.Touch [.mgt, .chans, .fab, .ctl, .can, .eth, .ana] s t) ∧
  (∀ s, s.Live → ∃ t, exec .pmsTimeout s = .next t ∧ t.ctl = { s.ctl with pmsLost := true } ∧ s.keeps t [] ∧ State.Touch [.ctl] s t) ∧
  (∀ s, s.Live → ∃ t, exec .targetLost s = .next t ∧ t.ctl = { s.ctl with tgtLost := true } ∧ s.keeps t [] ∧ State.Touch [.ctl] s t) ∧
  (∀ s, s.Live → s.actMode ∈ [1, 2, 3] → ∃ t, exec .srcLost s = .next t ∧ t.ctl = (if s.actMode = 1 then
      { s.ctl with srcLost := true, levAt := none } else { s.ctl with srcLost := true, joyAt := none }) ∧ s.keeps t [] ∧
    State.Touch [.ctl] s t) ∧
  (∀ s, s.Live → s.ctl.srcLost = true → s.ctl.rampFrom = none → ∃ t, exec .srcHoldExpired s = .next t ∧
    t.ctl = { s.ctl with rampFrom := some s.now } ∧ s.keeps t [] ∧ State.Touch [.ctl] s t) ∧
  (∀ s, s.Live → s.ctl.compExit.isSome = true → ∃ t, exec .compExitEnd s = .next t ∧
    t.ctl = { s.ctl with compExit := none, compHold := false } ∧ s.keeps t [] ∧ State.Touch [.ctl] s t) ∧
  (∀ s (i : Fin 64) (v : Bool), s.Live → ∃ t, exec (.dinEdge i v) s = .next t ∧
    (t.rd (if i < 32 then Reg.DIN_RAW0 else Reg.DIN_RAW1)).getLsbD (i % 32) = v ∧ t.dinLevel i = v ∧
    (∀ j < 64, j ≠ i.val → t.dinLevel j = s.dinLevel j) ∧
    t.recd.port = s.recd.port ++ (if (s.rd (if i < 32 then Reg.DIN_EVEN0 else Reg.DIN_EVEN1)).getLsbD (i % 32) = true then
      [{ code := 0x6802, source := 0, data := [BitVec.ofNat 8 i, BitVec.ofNat 8 v.toNat] }] else []) ∧
    (∀ k c, s.thrCfg k = some c → c.kind = .retractable → c.deployed = some i.val → v = false → (t.thr k).reasons.getLsbD 5 = true) ∧
    s.keeps t [Reg.DIN_RAW0, Reg.DIN_RAW1, Reg.DIN_FLT0, Reg.DIN_FLT1] ∧ State.Touch [.chans, .ctl, .alc, .port] s t)
/-- R154, R155, R157, R160 to R168, R175, R176: an iteration, of either method, carries its state on; an iterate that is no worse than
the best one takes its place, and a saturated one is ineligible; after three in a row a solve restarts with y = 0. A factor that does
not saturate waits for the iteration boundary of a solve under way and is in use at once otherwise; one that saturates is rejected. At
its stop time a refresh is abandoned and a solve ends: MPC's best iterate becomes the plan, and without one there is none; a group
without one is marked STALE. Rests on choices and readings of the model's own: log entries 31, 53, 136, 137. -/
def Obligations.SolvesIterateRestartAndStop : Prop :=
  (∀ s (c : Fin 3) (g : Fin 48) o p f,
    let k := instOf c g
    let x := s.inst k
    let it := splitStep p s.slvBits x.qp f x
    let i := mkIterate p s.slvBits x.qp (x.iter + 1) { it with sat := it.sat || o.sat } (decide (0 < f.replaced)) x.refresh.isSome
      o.domain
    s.Live → x.solving = true → s.slvCfg (clsOf k) = some p → p.barrier = false → x.factor = some f → x.ready = false →
    i.sat = false → p.tol < i.merit → x.iter + 1 < p.maxIter → ∃ t, exec (.iterationEnd c g o) s = .next t ∧
    (t.inst k).iter = x.iter + 1 ∧ (t.inst k).x = it.x ∧ (t.inst k).z = it.z ∧ (t.inst k).y = it.y ∧ (t.inst k).badRun = 0 ∧
    (t.inst k).solving = true ∧ (x.best = none ∨ (∃ b, x.best = some b ∧ i.merit ≤ b.merit) →
      (t.inst k).best = some i ∧ (t.inst k).published = some i) ∧
    (∀ b, x.best = some b → b.merit < i.merit → (t.inst k).best = some b ∧ (t.inst k).published = x.published) ∧
    (∀ j, j ≠ k → t.inst j = s.inst j) ∧ s.keeps t [] ∧ State.Touch [.slv] s t) ∧
  (∀ s (c : Fin 3) (g : Fin 48) o p f,
    let k := instOf c g
    let x := s.inst k
    let it := splitStep p s.slvBits x.qp f x
    let i := mkIterate p s.slvBits x.qp (x.iter + 1) { it with sat := it.sat || o.sat } (decide (0 < f.replaced)) x.refresh.isSome
      o.domain
    s.Live → x.solving = true → s.slvCfg (clsOf k) = some p → p.barrier = false → x.factor = some f → x.ready = false →
    i.sat = true → x.iter + 1 < p.maxIter → ∃ t,
    exec (.iterationEnd c g o) s = .next t ∧
    t.inst k = { x with iter := x.iter + 1, x := it.x, z := it.z, y := it.y, badRun := x.badRun + 1, inelSeen := true } ∧
    (∀ j, j ≠ k → t.inst j = s.inst j) ∧
    t.get (Fld.SLV_CNTc_INELIGIBLE (clsOf k)) = min (s.get (Fld.SLV_CNTc_INELIGIBLE (clsOf k)) + 1) 65535 ∧
    s.keeps t [Reg.SLV_CNTc (clsOf k)] ∧ State.Touch [.slv] s t) ∧
  (∀ s (c : Fin 3) (g : Fin 48) o p,
    let k := instOf c g
    let x := s.inst k
    let f := factorise (some s.slvBits.2) (some s.slvBits.2) p.epsPiv p.deltaPiv p.order (barrierMatrix x.qp x)
    let it := barrierStep p s.slvBits x.qp f x
    let i := mkIterate p s.slvBits x.qp (x.iter + 1) { it with sat := it.sat || o.sat } (decide (0 < f.replaced)) false o.domain
    s.Live → x.solving = true → s.slvCfg (clsOf k) = some p → p.barrier = true → f.saturated = false → x.ready = false →
    i.sat = false → p.tol < i.merit → x.iter + 1 < p.maxIter → x.best = none → ∃ t, exec (.iterationEnd c g o) s = .next t ∧
    (t.inst k).iter = x.iter + 1 ∧ (t.inst k).x = it.x ∧ (t.inst k).mu = it.mu ∧ (t.inst k).factor = some f ∧
    (t.inst k).best = some i ∧ (t.inst k).solving = true ∧ (∀ j, j ≠ k → t.inst j = s.inst j) ∧
    t.get (Fld.SLV_FACTc_REFRESHES (clsOf k)) = min (s.get (Fld.SLV_FACTc_REFRESHES (clsOf k)) + 1) 65535 ∧
    s.keeps t [Reg.SLV_FACTc (clsOf k)] ∧ State.Touch [.slv] s t) ∧
  (∀ s (c : Fin 3) (g : Fin 48),
    let k := instOf c g
    let x := s.inst k
    let r := { (match x.best with | some i => x.startAt x.qp i.raw i.z [] | none => x.startAt x.qp x.x0 [] []) with
      badRun := 0, restarts := x.restarts + 1 }
    s.Live → x.solving = true → 3 ≤ x.badRun → x.restarts < 2 → ∃ t, exec (.solverRestart c g) s = .next t ∧
    t.inst k = (if s.barrier (clsOf k) = true then r.inside x.qp else r) ∧ r.y = List.replicate x.qp.all.length 0 ∧
    (∀ j, j ≠ k → t.inst j = s.inst j) ∧
    t.get (Fld.SLV_LASTc_RESTARTS (clsOf k)) = min (s.get (Fld.SLV_LASTc_RESTARTS (clsOf k)) + 1) 65535 ∧
    s.keeps t [Reg.SLV_LASTc (clsOf k)] ∧ State.Touch [.slv] s t) ∧
  (∀ s (c : Fin 3) (g : Fin 48) n m p,
    let k := instOf c g
    let x := s.inst k
    let y := factorise (some s.slvBits.2) (some s.slvBits.2) p.epsPiv p.deltaPiv p.order m
    let f := { y with replaced := y.replaced + n }
    s.Live → x.refresh = some m → s.slvCfg (clsOf k) = some p → f.saturated = false → ∃ t,
    exec (.refreshComplete c g n false) s = .next t ∧
    (if x.solving = true ∧ x.factor.isSome = true then
      t.inst k = { x.putOther (some f) with refresh := none, ready := true } ∧ s.keeps t []
    else (t.inst k).ready = false ∧ (t.inst k).factor = some f ∧ (t.inst k).slot = !x.slot ∧ (t.inst k).refresh = x.again ∧
      s.keeps t [Reg.SLV_FACTc (clsOf k)] ∧
      t.get (Fld.SLV_FACTc_REFRESHES (clsOf k)) = min (s.get (Fld.SLV_FACTc_REFRESHES (clsOf k)) + 1) 65535) ∧
    (∀ j, j ≠ k → t.inst j = s.inst j) ∧ State.Touch [.slv] s t) ∧
  (∀ s (c : Fin 3) (g : Fin 48) n z m p,
    let k := instOf c g
    let x := s.inst k
    s.Live → x.refresh = some m → s.slvCfg (clsOf k) = some p →
    (factorise (some s.slvBits.2) (some s.slvBits.2) p.epsPiv p.deltaPiv p.order m).saturated = true ∨ z = true → ∃ t,
    exec (.refreshComplete c g n z) s = .next t ∧
    t.inst k = { x with rejected := true, refresh := x.again, again := none, mat := x.again.getD [] } ∧
    (∀ j, j ≠ k → t.inst j = s.inst j) ∧
    t.get (Fld.SLV_FACTc_REJECTED (clsOf k)) = min (s.get (Fld.SLV_FACTc_REJECTED (clsOf k)) + 1) 255 ∧
    s.keeps t [Reg.SLV_FACTc (clsOf k)] ∧ State.Touch [.slv] s t) ∧
  (∀ s (c : Fin 3),
    let x := s.inst c
    s.Live → c ≠ 2 → x.refresh.isSome = true → x.solving = false → ∃ t, exec (.solveStopTime c) s = .next t ∧
    t.inst c = { x with refresh := none, again := none, need := true, mat := [], abandoned := true } ∧
    (∀ j, j ≠ c.val → t.inst j = s.inst j) ∧
    t.get (Fld.SLV_FACTc_ABANDONED c) = min (s.get (Fld.SLV_FACTc_ABANDONED c) + 1) (2 ^ (Fld.SLV_FACTc_ABANDONED c).width - 1) ∧
    s.keeps t [Reg.SLV_FACTc c] ∧ State.Touch [.slv] s t) ∧
  (∀ s, s.Live → (s.inst 0).solving = true → (s.inst 0).refresh = none → s.barrier 0 = false → (s.inst 0).best = none → ∃ t,
    exec (.solveStopTime 0) s = .next t ∧ t.inst 0 = { s.inst 0 with solving := false } ∧ t.get ⟨Reg.SLV_STATc 0, 0, 3⟩ = 3 ∧
    t.get (Fld.SLV_CNTc_STALE 0) = min (s.get (Fld.SLV_CNTc_STALE 0) + 1) 65535 ∧
    s.keeps t [Reg.SLV_STATc 0, Reg.SLV_CNTc 0, Reg.SLV_REGc 0, Reg.SLV_LASTc 0] ∧ State.Touch [.slv] s t) ∧
  (∀ s i g, s.Live → (s.inst 0).solving = true → (s.inst 0).refresh = none → s.barrier 0 = false → (s.inst 0).best = some i →
    s.ctl.periodOn = true → s.ctlCfg = some g → ∃ t p, exec (.solveStopTime 0) s = .next t ∧
    (t.inst 0).solving = false ∧ t.ctl = { s.ctl with planNew := some p, periodOn := false } ∧ p.t = s.ctl.periodT ∧
    p.period = s.frame.period ∧ p.resid = i.resid ∧ p.psi0 = s.ctl.periodData.psi0 ∧
    p.steps = planSteps ((s.inst 0).qp.physical i.x) ∧ p.steps.length = 64 ∧ t.get ⟨Reg.SLV_STATc 0, 0, 3⟩ = 2 ∧
    t.rd (Reg.SLV_MERITc 0) = BitVec.ofNat 32 i.resid ∧ State.Touch [.mgt, .chans, .ctl, .slv, .can, .eth, .ana, .port] s t) ∧
  (∀ s (g : Fin 48) a gc, s.Live → s.alcCfg = some a → a.groups[g.val]? = some gc → a.groups.length ≤ 48 →
    (s.inst (2 + g)).solving = true → (s.inst (2 + g)).refresh = none → s.barrier 2 = false → (s.inst (2 + g)).best = none → ∃ t,
    exec (.conseqGroupTime g) s = .next t ∧ t.inst (2 + g) = { s.inst (2 + g) with solving := false } ∧
    t.get (Fld.CQA_GRPg_STALE g) = 1 ∧ g.val ∉ t.alc.running ∧ t.get Fld.CQA_STAT_INCOMPLETE = 1 ∧
    s.keeps t [Reg.SLV_STATc 2, Reg.SLV_CNTc 2, Reg.SLV_REGc 2, Reg.SLV_LASTc 2, Reg.SLV_MERITc 2, Reg.SLV_RESc 2, Reg.CQA_STAT,
      Reg.CQA_GRPg g] ∧
    State.Touch [.slv, .alc] s t) ∧
  (∀ s (m : Fin 16), s.Live → ∃ t, exec (.slvRefresh m) s = .next t ∧
    (∀ k < 50, t.inst k = { s.inst k with need := (s.inst k).need || m.val.testBit (clsOf k) }) ∧ s.keeps t [] ∧
    State.Touch [.slv] s t) ∧
  (∀ s, s.Live → ∃ t, exec .slvCntClr s = .next t ∧ (∀ c < 4, t.rd (Reg.SLV_FACTc c) = 0 ∧ t.rd (Reg.SLV_CNTc c) = 0 ∧
    t.get (Fld.SLV_REGc_REG_SOLVES c) = 0 ∧ t.get (Fld.SLV_LASTc_RESTARTS c) = 0 ∧
    t.get (Fld.SLV_REGc_PIV_REPL c) = s.get (Fld.SLV_REGc_PIV_REPL c) ∧ t.get (Fld.SLV_LASTc_GROUP c) = s.get (Fld.SLV_LASTc_GROUP c)) ∧
    s.keeps t ((List.range 4).flatMap (fun c => [Reg.SLV_FACTc c, Reg.SLV_CNTc c, Reg.SLV_REGc c, Reg.SLV_LASTc c])) ∧ t.rest = s.rest)
/-- R191, R201, R202, R204, R330, R452: a drive that reports a fault, or falls silent, has its thruster removed; a cause that has gone
is noted as cleared. ALC_ENABLE is written on the commanding part and refused off it. The next failure group starts its solve; a missed
share raises its event, an old result is STALE and the status incomplete; a restart marks every group FLEET_OLD; the counters are
cleared. Rests on choices and readings of the model's own: log entries 49, 50, 51. -/
def Obligations.ThrustersAndConsequences : Prop :=
  (∀ s (i : Fin 32) x, s.Live → i.val < s.thrCount → s.alc.inbox.find? (fun x => decide (x.1 = i.val)) = some x → ∃ t,
    exec (.driveFeedback i) s = .next t ∧ t.alc.inbox.length + 1 = s.alc.inbox.length ∧
    (t.thr i).fb = some (if (x.2.getD 16 0).getLsbD 4 then toSigned 32 (leNat ((x.2.drop 8).take 4)) else (s.thr i).thrust,
      leNat ((x.2.drop 12).take 2), x.2.getD 16 0) ∧
    ((x.2.getD 16 0).getLsbD 0 = true ∨ (x.2.getD 16 0).getLsbD 2 = true → (t.thr i).reasons.getLsbD 2 = true) ∧
    ((x.2.getD 16 0).getLsbD 0 = false → (x.2.getD 16 0).getLsbD 2 = false → (t.thr i).reasons = (s.thr i).reasons) ∧
    (∀ j, j ≠ i.val → t.thr j = s.thr j) ∧ s.keeps t [] ∧ State.Touch [.chans, .alc] s t) ∧
  (∀ s (i : Fin 32), s.Live → i.val < s.thrCount → ∃ t, exec (.driveTimeout i) s = .next t ∧ (t.thr i).fb = none ∧
    (t.thr i).reasons = (s.thr i).reasons ||| 8 ∧ (∀ j, j ≠ i.val → t.thr j = s.thr j) ∧ s.keeps t [] ∧
    State.Touch [.chans, .alc] s t) ∧
  (∀ s (i : Fin 32) (k : Fin 8), s.Live → (s.thr i).reasons.getLsbD k = true →
    (k = 2 ∧ ∃ x y z, (s.thr i).fb = some (x, y, z) ∧ z.getLsbD 0 = false ∧ z.getLsbD 2 = false) ∨ (k = 3 ∧ (s.thr i).fb.isSome = true) ∨
      (k = 5 ∧ ∃ c, s.thrCfg i = some c ∧ ∀ d, c.deployed = some d → s.dinLevel d = true) → ∃ t,
    exec (.readmitConditionMet i k) s = .next t ∧ t.thr i = { s.thr i with cleared := (s.thr i).cleared ||| BitVec.ofNat 8 (2 ^ k.val) } ∧
    (∀ j, j ≠ i.val → t.thr j = s.thr j) ∧ s.keeps t [] ∧ State.Touch [.alc] s t) ∧
  (∀ s (v : Word), s.Live → s.commanding = true → ∃ t, exec (.alcEnableWrite v) s = .next t ∧ t.rd Reg.ALC_ENABLE = v ∧
    (∀ i < s.thrCount, (t.thr i).enabled = ((s.thr i).enabled || v.getLsbD i)) ∧ s.keeps t [Reg.ALC_ENABLE] ∧
    State.Touch [.alc, .grp] s t) ∧
  (∀ s (v : Word), s.Live → s.commanding = false → ∃ t, exec (.alcEnableWrite v) s = .next t ∧ t.get Fld.SYS_REFINFO_BLOCK = 14 ∧
    t.get Fld.SYS_REFINFO_CODE = 1 ∧ s.keeps t [Reg.SYS_REFADDR, Reg.SYS_REFINFO] ∧ t.rest = s.rest) ∧
  (∀ s a, s.Live → s.alcCfg = some a → s.ownFrame = true → s.epochValid = true → 0 < a.groups.length →
    let g := s.alc.nextGroup % a.groups.length
    (s.inst (2 + g)).solving = false → ∃ t, exec .conseqGroupRelease s = .next t ∧ (t.inst (2 + g)).solving = true ∧
    (t.inst (2 + g)).iter = 0 ∧ (t.inst (2 + g)).best = none ∧ t.alc.nextGroup = (g + 1) % a.groups.length ∧ g ∈ t.alc.running ∧
    t.alc.tau = s.tauC ∧ (∀ j, j ≠ 2 + g → t.inst j = s.inst j) ∧ s.keeps t [Reg.SLV_FACTc 2] ∧ State.Touch [.slv, .alc] s t) ∧
  (∀ s (g : Fin 48), s.Live → s.commanding = true → s.epochValid = true → ∃ t, exec (.cqShareMiss g) s = .next t ∧
    (∃ e, t.recd.port = s.recd.port ++ [e] ∧ e.code = 0x400B) ∧ s.keeps t [] ∧ State.Touch [.port] s t) ∧
  (∀ s (g : Fin 48) a, s.Live → s.alcCfg = some a → g.val < a.groups.length → a.groups.length ≤ 48 → s.get (Fld.CQA_GRPg_NEVER g) = 0 →
    cellsGet 0 s.alc.cqAt g + a.cqStaleNs ≤ s.now + 1 → ∃ t,
    exec (.cqStale g) s = .next t ∧ t.get (Fld.CQA_GRPg_STALE g) = 1 ∧ t.get Fld.CQA_STAT_INCOMPLETE = 1 ∧
    1 ≤ t.get Fld.CQA_STAT_STATUS ∧ s.keeps t [Reg.CQA_GRPg g, Reg.CQA_STAT] ∧ t.rest = s.rest) ∧
  (∀ s a, s.Live → s.alcCfg = some a → a.groups.length ≤ 48 → ∃ t, exec .cqaRestart s = .next t ∧
    (∀ g < a.groups.length, t.get (Fld.CQA_GRPg_FLEET_OLD g) = 1) ∧ t.alc = { s.alc with nextGroup := 0, running := [] } ∧
    s.keeps t (Reg.CQA_STAT :: (List.range 48).map Reg.CQA_GRPg) ∧ State.Touch [.alc] s t) ∧
  (∀ s, s.Live → ∃ t, exec .alcCntClr s = .next t ∧ t.rd Reg.ALC_CNT = 0 ∧ s.keeps t [Reg.ALC_CNT] ∧ t.rest = s.rest) ∧
  (∀ s, s.Live → ∃ t, exec .cqaCntClr s = .next t ∧ t.get Fld.CQA_STAT_ROUNDS = 0 ∧ t.get Fld.CQA_FLEET_GEN = 0 ∧
    t.get Fld.CQA_STAT_STATUS = s.get Fld.CQA_STAT_STATUS ∧ s.keeps t [Reg.CQA_STAT, Reg.CQA_FLEET] ∧ t.rest = s.rest)
/-- R83 to R87, R89, R96, R103, R105, R106, R108, R124, R330, R347, R351: a reading reaches the source of its channel with its arrival,
and a declared own clock's or PPS second's time; sentences of a bad checksum, unknown sources, bad frames and bad items are counted and
dropped; a power message and a drive's feedback reach their consumers. A source is rejected as OUTLIER, by GATE or as FROZEN, and is
accepted again once its conditions have held. Rests on choices and readings of the model's own: log entries 19, 20, 46, 128. -/
def Obligations.SamplesArriveAndSourcesAreJudged : Prop :=
  let raw := fun (a : Int) (own st : Option Int) (q : Nat) (v : List Int) =>
    ({ arrival := a, own := own, stamped := st, qual := q, vals := v } : RawSample)
  let got := fun (s t : State) (k : Nat) (r : RawSample) => match s.injected k with
    | some j => t.src j = { s.src j with inbox := (s.src j).inbox ++ [r] } ∧ (∀ i, i ≠ j → t.src i = s.src i)
    | none => t.fus = s.fus
  let ownOf := fun (c : SrcCfg) (r : Reading) => if c.ownClock = true then r.srcTime else none
  (∀ s (p : Fin 16) n u r ty ix k c g, s.Live → s.cfg = some g → g.uart[p.val]? = some (ty, ix) → slotOf ty ix = some k →
    s.srcCfg k = some c → c.pps = none → s.chanLive ty ix = true → ∃ t, exec (.uartSentence p n true u r) s = .next t ∧
    got s t k (raw ((s.now : Int) - n) (ownOf c r) none r.qual r.vals) ∧ s.keeps t [] ∧ State.Touch [.fus] s t) ∧
  (∀ s (p : Fin 16) n u r ty ix k c m g, s.Live → s.cfg = some g → g.uart[p.val]? = some (ty, ix) → slotOf ty ix = some k →
    s.srcCfg k = some c → c.pps = some m → s.chanLive ty ix = true → ∃ t, exec (.uartSentence p n true u r) s = .next t ∧
    got s t k (raw ((s.now : Int) - n) none (s.ppsStamp m ((s.now : Int) - n) u) r.qual r.vals) ∧
    (if (s.ppsStamp m ((s.now : Int) - n) u).isSome = true then s.keeps t []
    else t.get Fld.FUS_TCNT_PPS_MISS = min (s.get Fld.FUS_TCNT_PPS_MISS + 1) (2 ^ Fld.FUS_TCNT_PPS_MISS.width - 1) ∧
      s.keeps t [Reg.FUS_TCNT]) ∧ State.Touch [.fus] s t) ∧
  (∀ s (p : Fin 16) n u r ix g, s.Live → s.cfg = some g → g.uart[p.val]? = some (13, ix) → g.ctl.joystick = some ix →
    s.chanLive 13 ix = true → ∃ t, exec (.uartSentence p n true u r) s = .next t ∧
    t.ctl.joy = some (r.vals.getD 0 0, r.vals.getD 1 0, r.vals.getD 2 0) ∧ t.ctl.joyAt = some s.now ∧ s.keeps t [] ∧
    State.Touch [.ctl] s t) ∧
  (∀ s (p : Fin 16) n u r g x, s.Live → s.cfg = some g → g.uart[p.val]? = some x → ∃ t, exec (.uartSentence p n false u r) s = .next t ∧
    t.fus = { s.fus with uartErr := cellsSet 0 s.fus.uartErr p (cellsGet 0 s.fus.uartErr p + 1) } ∧ s.keeps t [] ∧
    State.Touch [.fus] s t) ∧
  (∀ s (p : Fin 3) n src b xs g, s.Live → s.cfg = some g → (∀ x ∈ g.net.e450Sources, x.1 ≠ src) → ∃ t,
    exec (.e450Datagram p n src b xs) s = .next t ∧
    t.get Fld.ETH_E450CNT_UNKNOWN = min (s.get Fld.ETH_E450CNT_UNKNOWN + 1) (2 ^ Fld.ETH_E450CNT_UNKNOWN.width - 1) ∧
    s.keeps t [Reg.ETH_E450CNT] ∧ t.rest = s.rest) ∧
  (∀ s (p : Fin 3) n src g ty ix k c u r u' r', s.Live → s.cfg = some g →
    g.net.e450Sources.find? (fun x => decide (x.1 = src)) = some (src, ty, ix) → slotOf ty ix = some k → s.srcCfg k = some c →
    c.pps = none → s.chanLive ty ix = true → ∃ t, exec (.e450Datagram p n src false [(true, u, r), (false, u', r')]) s = .next t ∧
    got s t k (raw ((s.now : Int) - n) (ownOf c r) none r.qual r.vals) ∧
    t.get Fld.ETH_E450CNT_RX_SENT = min (s.get Fld.ETH_E450CNT_RX_SENT + 1) (2 ^ Fld.ETH_E450CNT_RX_SENT.width - 1) ∧
    t.get Fld.ETH_E450CNT_CKSUM = min (s.get Fld.ETH_E450CNT_CKSUM + 1) (2 ^ Fld.ETH_E450CNT_CKSUM.width - 1) ∧
    s.keeps t [Reg.ETH_E450CNT] ∧ State.Touch [.fus] s t) ∧
  (∀ s (p : Fin 3) (v ty : Byte) sy (sd : BitVec 16) tm xs ov, s.Live → v ≠ 1 ∨ ty ≠ 2 ∨ xs = [] ∨ 32 < xs.length ∨ ov = true → ∃ t,
    exec (.sensorFrame p v ty sy sd tm xs ov) s = .next t ∧
    t.get Fld.ETH_OWNCNT_BAD_FRAME = min (s.get Fld.ETH_OWNCNT_BAD_FRAME + 1) (2 ^ Fld.ETH_OWNCNT_BAD_FRAME.width - 1) ∧
    s.keeps t [Reg.ETH_OWNCNT] ∧ t.rest = s.rest) ∧
  (∀ s (p : Fin 3) sy (sd : BitVec 16) tm x g b, s.Live → s.cfg = some g → g.net.sensors.find? (fun b =>
      decide (b.port = p.val ∧ b.sender = sd.toNat ∧ b.kind = x.kind.toNat ∧ b.index = x.index.toNat)) = some b → ∃ t,
    exec (.sensorFrame p 1 2 sy sd tm [x] false) s = .next t ∧
    (x.body.length ≠ bodyLen b.kind →
      t.get Fld.ETH_OWNCNT_BAD_ITEM = min (s.get Fld.ETH_OWNCNT_BAD_ITEM + 1) (2 ^ Fld.ETH_OWNCNT_BAD_ITEM.width - 1) ∧
      s.keeps t [Reg.ETH_OWNCNT] ∧ t.rest = s.rest) ∧
    (x.body.length = bodyLen b.kind → s.keeps t [] ∧
      (∀ k, b.kind < 7 → slotOf b.typ b.chan = some k → s.chanLive b.typ b.chan = true → State.Touch [.fus] s t ∧
        got s t k (raw s.now (if sy then none else some (tm + x.dt)) (if sy then some (tm + x.dt + (s.rd Reg.TB_OFS).toInt) else none)
          x.qual.toNat (bodyVals b.kind x.body))) ∧
      (b.kind = 9 → t.alc = { s.alc with inbox := s.alc.inbox ++ [(b.index, x.body)] } ∧ State.Touch [.alc] s t) ∧
      (b.kind = 10 → t.ctl = { s.ctl with
        pms := some ((List.range 8).map (fun k => leNat ((x.body.drop (4 * k)).take 4))), pmsLost := false } ∧ State.Touch [.ctl] s t))) ∧
  (∀ s c k why g, s.Live → s.fusCfg = some g → (s.src k).st = 1 →
    ((∃ i : Fin 28, c = .outlierReject i ∧ k = i.val ∧ why = 9 ∧ 3 ≤ (s.src k).outRun) ∨
      (∃ i : Fin 16, c = .innovReject i ∧ k = i.val ∧ why = (if (s.src k).gateSat = true then 5 else 1) ∧
        g.gateN ≤ (s.src k).gateRun) ∨
      (∃ (i : Fin 20) (d : SrcCfg), c = .frozenReject i ∧ k = i.val ∧ why = 3 ∧ s.srcCfg k = some d ∧
        (s.src k).frozen d = true)) → ∃ t, exec c s = .next t ∧
    t.src k = { s.src k with st := 3, reason := why, ok := false, gateRun := 0, outRun := 0 } ∧ (∀ j, j ≠ k → t.src j = s.src j) ∧
    s.keeps t [] ∧ State.Touch [.fus] s t) ∧
  (∀ s c k g, s.Live → s.fusCfg = some g →
    ((∃ i : Fin 28, c = .timeReadmit i ∧ k = i.val ∧ (s.src k).st = 4 ∧ 10 ≤ (s.src k).clean ∧ (s.src k).under = none) ∨
      (∃ i : Fin 28, c = .sourceReadmit i ∧ k = i.val ∧ (s.src k).st = 3 ∧ (s.src k).ok = true ∧
        (s.src k).okAt + g.rejHoldNs ≤ s.now)) → ∃ t, exec c s = .next t ∧
    t.src k = { s.src k with st := 1, ok := false, gateRun := 0, outRun := 0, under := none } ∧ (∀ j, j ≠ k → t.src j = s.src j) ∧
    s.keeps t [] ∧ State.Touch [.fus] s t) ∧
  (∀ s (i : Fin 28) why, s.Live → (s.src i).st = 4 → 10 ≤ (s.src i).clean → (s.src i).under = some why → ∃ t,
    exec (.timeReadmit i) s = .next t ∧ t.src i = { s.src i with st := 3, reason := why, under := none, ok := false } ∧
    (∀ j, j ≠ i.val → t.src j = s.src j) ∧ s.keeps t [] ∧ State.Touch [.fus] s t)
/-- R90, R93, R94, R99, R102, R111, R114 to R117, R119, R452: at intake close the commanding part takes every sample and forms one
epoch, at the frame start, from the observer's state, whose environmental states lie within their bounds. The estimator settles and
leaves holdover; a wind disagreement ends; the oldest late sample expires; the freeze is written on the commanding part and refused off
it; the counters are cleared. Rests on choices and readings of the model's own: log entries 31, 46, 94, 125, 126. -/
def Obligations.TheEpochIsFormedAtIntakeClose : Prop :=
  (∀ s g l, s.Live → s.fusCfg = some g → s.fus.published = false → s.fus.next = none → s.frame.started = true → s.ownFrame = true → ∃ t e,
    exec (.intakeClose l) s = .next t ∧ t.fus.next = some e ∧ e.t = s.frame.start ∧
    (let x := fun i => t.fus.obs.getD i 0
     e.n = (satPos g (x 0)).1 ∧ e.e = (satPos g (x 1)).1 ∧ e.psi = roundRat (x 2 * 2 ^ 32 / twoPi) % 2 ^ 32 ∧
     e.u = (sat32 (x 3 * 1000000)).1 ∧ e.v = (sat32 (x 4 * 1000000)).1 ∧ e.rate = (sat32 (x 5 * 2 ^ 32 / twoPi)).1 ∧
     e.bn = (sat32 (x 12)).1 ∧ e.be = (sat32 (x 13)).1 ∧ e.bpsi = (sat32 (x 14)).1 ∧
     (0 ≤ g.envMax.1 → |x 12| ≤ g.envMax.1) ∧ (0 ≤ g.envMax.2.1 → |x 13| ≤ g.envMax.2.1) ∧
     (0 ≤ g.envMax.2.2 → |x 14| ≤ g.envMax.2.2)) ∧
    t.fus.epoch = s.fus.epoch ∧ t.fus.published = false ∧ t.fus.late.length ≤ 32 ∧
    (∀ k < 32, (s.srcCfg k).isSome = true → (s.src k).st ≠ 0 → (t.src k).inbox = []) ∧
    s.keeps t [Reg.FUS_TCNT, Reg.FUS_LATE, Reg.SLV_REGc 3] ∧ State.Touch [.mgt, .fus, .ctl, .port] s t) ∧
  (∀ s, s.Live → s.fus.est = 0 → s.fus.settleOk = true → ∃ t, exec .estimatorSettled s = .next t ∧
    t.fus = { s.fus with est := 1 } ∧ s.keeps t [] ∧ State.Touch [.fus] s t) ∧
  (∀ s, s.Live → s.fus.est = 2 → ∃ t, exec .holdoverExpired s = .next t ∧ t.fus = { s.fus with est := 0, settleOk := false } ∧
    s.keeps t [] ∧ State.Touch [.fus] s t) ∧
  (∀ s, s.Live → s.fus.windAgree = true → ∃ t, exec .windAgree s = .next t ∧ t.fus = { s.fus with windDis := false } ∧
    s.keeps t [] ∧ State.Touch [.fus] s t) ∧
  (∀ s, s.Live → s.fus.late ≠ [] → ∃ t x, exec .lateSampleExpired s = .next t ∧ x ∈ s.fus.late ∧
    (∀ y ∈ s.fus.late, x.2.stamp ≤ y.2.stamp) ∧ t.fus = { s.fus with late := s.fus.late.erase x } ∧
    t.get Fld.FUS_LATE_LATE_DROPPED = min (s.get Fld.FUS_LATE_LATE_DROPPED + 1) (2 ^ Fld.FUS_LATE_LATE_DROPPED.width - 1) ∧
    s.keeps t [Reg.FUS_LATE] ∧ State.Touch [.fus] s t) ∧
  (∀ s (f : Bool), s.Live → ∃ t, exec (.fusCalFreeze f) s = .next t ∧ t.rest = s.rest ∧
    (if s.commanding = true then t.get Fld.FUS_CTRL_CAL_FREEZE = f.toNat ∧ s.keeps t [Reg.FUS_CTRL]
    else t.get Fld.SYS_REFINFO_BLOCK = 11 ∧ t.get Fld.SYS_REFINFO_CODE = 1 ∧ s.keeps t [Reg.SYS_REFADDR, Reg.SYS_REFINFO])) ∧
  (∀ s, s.Live → ∃ t, exec .fusCntClr s = .next t ∧ t.rd Reg.FUS_LATE = 0 ∧ t.rd Reg.FUS_TCNT = 0 ∧
    s.keeps t [Reg.FUS_LATE, Reg.FUS_TCNT] ∧ t.rest = s.rest)
/-- R310 to R315, R334: a CAN controller joins its bus after 11 recessive bits; a transmission that ends in an error, without an
acknowledgement or in lost arbitration leaves its frame queued and counts; above 255 the controller goes bus-off, where it discards what
it holds, and it recovers on request. A reception error counts in NORMAL. A mode is refused, applied at rest, or held until the frame in
progress ends; DETECT goes on to its next candidate and notes NO_RATE; the counters are cleared. Rests on choices and readings of the
model's own: log entries 24, 26. -/
def Obligations.CanControllersFollowTheirErrorStates : Prop :=
  let st := fun (n : Fin 8) => [Reg.CANn_STAT (evenOf n), Reg.CANn_STAT (evenOf n + 1)]
  (∀ s (n : Fin 8), s.Live → s.get (Fld.CANn_STAT_STATE n) = 3 → s.canMode n ≠ 0 → s.get (Fld.CANn_STAT_LIMP n) = 0 →
    (s.canCtl n).reinit = false → ∃ t, exec (.canBusIdleDetect n) s = .next t ∧ t.get (Fld.CANn_STAT_STATE n) =
      (if 127 < s.get (Fld.CANn_ERRCNT_TEC n) ∨ 127 < s.get (Fld.CANn_ERRCNT_REC n) then 1 else 0) ∧
    s.keeps t (Reg.CANn_EVT n :: st n) ∧ t.rest = s.rest) ∧
  (∀ s (n : Fin 8), s.Live → s.can.length = 8 → (s.canCtl n).boRecover = true → s.get (Fld.CANn_STAT_STATE n) = 2 → ∃ t,
    exec (.busoffRecovered n) s = .next t ∧ t.get (Fld.CANn_ERRCNT_TEC n) = 0 ∧ t.get (Fld.CANn_ERRCNT_REC n) = 0 ∧
    t.get (Fld.CANn_STAT_STATE n) = (if s.canMode n = 0 then 3 else 0) ∧ t.canCtl n = { s.canCtl n with boRecover := false } ∧
    s.keeps t (Reg.CANn_ERRCNT n :: st n) ∧ State.Touch [.can] s t) ∧
  (∀ s (n : Fin 8), s.Live → s.can.length = 8 → s.gateCause (Reg.CANn_CTRL n) = 0 → ∃ t, exec (.canBoRecover n) s = .next t ∧
    (t.canCtl n).boRecover = ((s.canCtl n).boRecover || decide (s.get (Fld.CANn_STAT_STATE n) = 2)) ∧ s.keeps t [] ∧
    State.Touch [.can] s t) ∧
  (∀ s (n k : Fin 8) (f : Bool) d w, s.Live → s.can.length = 8 → (s.canCtl n).tx = some w → 247 < s.get (Fld.CANn_ERRCNT_TEC n) → ∃ t,
    exec (.canTxEnd n (.error k f) d) s = .next t ∧ t.get (Fld.CANn_STAT_STATE n) = 2 ∧ t.get (Fld.CANn_ERRCNT_TEC n) = 255 ∧
    t.get (Fld.CANn_CNT1_BUSOFFS n) = min (s.get (Fld.CANn_CNT1_BUSOFFS n) + 1) 255 ∧ t.get (Fld.CANn_EVT_BUSOFF n) = 1 ∧
    (t.canCtl n).tx = none ∧ (∀ o, (t.canObj n o).queue = []) ∧ (∃ e ∈ t.recd.port, e.code = 0x5801) ∧
    State.Touch [.mgt, .chans, .can, .port] s t) ∧
  (∀ s (n k : Fin 8) (f : Bool) d o, s.Live → s.can.length = 8 → (s.canCtl n).tx = some (.object o) → (s.canCtl n).txWindow = false →
    s.cancPending n o = false → (s.canCtl n).modeDue = none → (s.canCtl n).reinit = false → s.get (Fld.CANn_STAT_STATE n) < 2 →
    s.get (Fld.CANn_ERRCNT_TEC n) ≤ 247 → ∃ t, exec (.canTxEnd n (.error k f) d) s = .next t ∧
    t.canCtl n = { s.canCtl n with tx := none } ∧ t.get (Fld.CANn_ERRCNT_TEC n) = s.get (Fld.CANn_ERRCNT_TEC n) + 8 ∧
    t.get (Fld.CANn_STAT_STATE n) =
      (if 119 < s.get (Fld.CANn_ERRCNT_TEC n) ∨ 127 < s.get (Fld.CANn_ERRCNT_REC n) then 1 else 0) ∧
    t.get (if f then Fld.CANn_STAT_ERR_FAST n else Fld.CANn_STAT_ERR_ARB n) = k ∧
    s.keeps t [Reg.CANn_STAT n, Reg.CANn_ERRCNT n, Reg.CANn_EVT n, Reg.CANn_SSP n] ∧ State.Touch [.can] s t) ∧
  (∀ s (n : Fin 8) d o, s.Live → s.can.length = 8 → (s.canCtl n).tx = some (.object o) → (s.canCtl n).txWindow = false →
    s.cancPending n o = false → (s.canCtl n).modeDue = none → (s.canCtl n).reinit = false → s.get (Fld.CANn_STAT_STATE n) < 2 →
    s.get (Fld.CANn_ERRCNT_TEC n) ≤ 247 → s.get (Fld.CANn_STAT_NOPART n) = 0 → ∃ t, exec (.canTxEnd n .noAck d) s = .next t ∧
    (t.canCtl n).tx = none ∧ t.get (Fld.CANn_STAT_ACKERR_RUN n) = min (s.get (Fld.CANn_STAT_ACKERR_RUN n) + 1) 255 ∧
    t.get (Fld.CANn_ERRCNT_TEC n) = s.get (Fld.CANn_ERRCNT_TEC n) + (if s.get (Fld.CANn_STAT_STATE n) = 1 then 0 else 8) ∧
    t.get (Fld.CANn_STAT_ERR_ARB n) = 2 ∧
    (s.get (Fld.CANn_STAT_ACKERR_RUN n) ≠ 127 → t.get (Fld.CANn_STAT_NOPART n) = 0 ∧ t.canObj n o = s.canObj n o ∧
      State.Touch [.can] s t) ∧
    (s.get (Fld.CANn_STAT_ACKERR_RUN n) = 127 → t.get (Fld.CANn_STAT_NOPART n) = 1 ∧
      (∃ e, t.recd.port = s.recd.port ++ [e] ∧ e.code = 0x5802)) ∧
    s.keeps t [Reg.CANn_STAT n, Reg.CANn_ERRCNT n, Reg.CANn_EVT n, Reg.CANn_SSP n, Reg.CANn_CNT2 n] ∧
    State.Touch [.mgt, .chans, .can, .port] s t) ∧
  (∀ s (n : Fin 8) d o, s.Live → s.can.length = 8 → (s.canCtl n).tx = some (.object o) → (s.canCtl n).txWindow = false →
    s.cancPending n o = false → (s.canCtl n).modeDue = none → (s.canCtl n).reinit = false → ∃ t,
    exec (.canTxEnd n .lostArbitration d) s = .next t ∧ t.canCtl n = { s.canCtl n with tx := none } ∧ s.keeps t [Reg.CANn_SSP n] ∧
    State.Touch [.can] s t) ∧
  (∀ s (n k : Fin 8) (f d : Bool), s.Live → s.can.length = 8 → s.canHears n = true → ∃ t, exec (.canRxError n k f d) s = .next t ∧
    t.get (Fld.CANn_ERRCNT_REC n) = (if s.canMode n = 1 then min (s.get (Fld.CANn_ERRCNT_REC n) + (if d then 9 else 1)) 255
      else s.get (Fld.CANn_ERRCNT_REC n)) ∧
    t.get (if f then Fld.CANn_STAT_ERR_FAST n else Fld.CANn_STAT_ERR_ARB n) = k ∧
    (if s.canMode n = 4 then (t.canCtl n).valid = 0 else t.rest = s.rest) ∧
    s.keeps t [Reg.CANn_STAT n, Reg.CANn_ERRCNT n, Reg.CANn_EVT n] ∧ State.Touch [.can] s t) ∧
  (∀ s (n m : Fin 8), s.Live → s.can.length = 8 → s.gateCause (Reg.CANn_CTRL n) = 0 → ∃ t, exec (.canCtrlMode n m) s = .next t ∧
    (if 5 ≤ m.val ∨ (m = 4 ∧ s.get (Fld.CANn_CTRL_FD_EN n) = 1) then t.get (Fld.CANn_STAT_REFUSED n) = 1 ∧
      t.get (Fld.CANn_STAT_REF_CODE n) = 4 ∧ s.keeps t [Reg.CANn_STAT n, Reg.SYS_REFADDR, Reg.SYS_REFINFO] ∧ t.rest = s.rest
    else if (s.canCtl n).tx.isSome = true ∧ m ≠ 1 then t.canCtl n = { s.canCtl n with modeDue := some m.val } ∧ s.keeps t []
    else t.canMode n = m ∧ (t.canCtl n).modeDue = none ∧
      (m = 0 → s.get (Fld.CANn_STAT_STATE n) ≠ 2 → t.get (Fld.CANn_STAT_STATE n) = 3) ∧
      (m ≠ 0 → t.get (Fld.CANn_STAT_STATE n) = s.get (Fld.CANn_STAT_STATE n)) ∧
      s.keeps t ([Reg.CANn_CTRL n, Reg.CANn_CNT1 n] ++ st n)) ∧ State.Touch [.can] s t) ∧
  (∀ s (n : Fin 8), s.Live → s.canMode n = 4 → s.get (Fld.CANn_STAT_NO_RATE n) = 0 → ∃ t, exec (.canNoRate n) s = .next t ∧
    t.get (Fld.CANn_STAT_NO_RATE n) = 1 ∧ t.get (Fld.CANn_EVT_RATE n) = 1 ∧ (∃ e, t.recd.port = s.recd.port ++ [e] ∧ e.code = 0x5804) ∧
    s.keeps t [Reg.CANn_STAT n, Reg.CANn_EVT n] ∧ State.Touch [.port] s t) ∧
  (∀ s (n : Fin 8), s.Live → s.can.length = 8 → s.canMode n = 4 → ∃ t, exec (.detDwellExpired n) s = .next t ∧
    t.canCtl n = { s.canCtl n with
      cand := if (s.canCandidates n).length = 0 then 0 else ((s.canCtl n).cand + 1) % (s.canCandidates n).length, valid := 0 } ∧ s.keeps t [] ∧
    State.Touch [.can] s t) ∧
  (∀ s (n : Fin 8), s.Live → s.gateCause (Reg.CANn_CTRL n) = 0 → ∃ t, exec (.canCntClr n) s = .next t ∧ t.rd (Reg.CANn_CNT0 n) = 0 ∧
    t.rd (Reg.CANn_CNT1 n) = 0 ∧ t.rd (Reg.CANn_CNT2 n) = 0 ∧ s.keeps t [Reg.CANn_CNT0 n, Reg.CANn_CNT1 n, Reg.CANn_CNT2 n] ∧
    t.rest = s.rest)
/-- R319, R320, R323, R325 to R329, R331 to R333: without time triggering the head of the oldest frame count and lowest rank is sent,
and it leaves its queue once acknowledged; a remote frame is counted and dropped; a frame of a raw object that the filters give reaches
its source. A cancel removes a waiting head, waits for one on the bus, or finds none; a bad send format is refused; an assembly ends at
its timeout; a pair's even copy is silent where only the odd one has heard. Schedule banks are checked and swapped; a basic cycle
starts, a master leads or yields, a missing reference message is counted, and a window of the cycle opens. Rests on choices and readings
of the model's own: log entries 22, 23, 24, 25, 27. -/
def Obligations.CanFramesAreSentReceivedAndScheduled : Prop :=
  let st := fun (n : Fin 8) => [Reg.CANn_STAT (evenOf n), Reg.CANn_STAT (evenOf n + 1)]
  (∀ s (n : Fin 8) o x xs (f : Bool), s.Live → s.can.length = 8 → s.canSends n = true → (s.canCtl n).tx = none → s.ttOn n = false →
    (o, x :: xs) ∈ s.canQueued n → (∀ p ∈ s.canQueued n, ∀ y ∈ p.2, x.item.frame ≤ y.item.frame) →
    (∀ p ∈ s.canQueued n, p.1 ≠ o → s.canRank n o < s.canRank n p.1 ∨ ∃ y, p.2.head? = some y ∧ x.item.frame < y.item.frame) → ∃ t,
    exec (.canTxStart n f) s = .next t ∧ (t.canCtl n).tx = some (.object o) ∧ (t.canCtl n).txWindow = false ∧ s.keeps t [] ∧
    State.Touch [.chans, .can] s t) ∧
  (∀ s (n : Fin 8) o x xs d, s.Live → s.can.length = 8 → (s.canCtl n).tx = some (.object o) → (s.canObj n o).queue = x :: xs →
    s.cancPending n o = false → (s.canCtl n).modeDue = none → (s.canCtl n).reinit = false → ∃ t,
    exec (.canTxEnd n .acked d) s = .next t ∧ (t.canCtl n).tx = none ∧ (t.canObj n o).queue = xs ∧
    t.get (Fld.CANn_CNT0_TX_OK n) = min (s.get (Fld.CANn_CNT0_TX_OK n) + 1) 65535 ∧ t.get (Fld.CANn_STAT_ACKERR_RUN n) = 0 ∧
    t.get (Fld.CANn_STAT_NOPART n) = 0 ∧ t.get (Fld.CANn_ERRCNT_TEC n) = s.get (Fld.CANn_ERRCNT_TEC n) - 1 ∧
    s.keeps t [Reg.CANn_STAT n, Reg.CANn_CNT0 n, Reg.CANn_ERRCNT n, Reg.CANn_EVT n, Reg.CANn_SSP n] ∧ State.Touch [.mgt, .can] s t) ∧
  (∀ s (n : Fin 8) f a r, s.Live → s.canHears n = true → f.fdf = false → f.remote = true → s.canMode n ≠ 4 → ∃ t,
    exec (.canFrameRx n f a r) s = .next t ∧ t.get (Fld.CANn_CNT0_RX_OK n) = min (s.get (Fld.CANn_CNT0_RX_OK n) + 1) 65535 ∧
    t.get (Fld.CANn_CNT2_REMOTE_DISC n) = min (s.get (Fld.CANn_CNT2_REMOTE_DISC n) + 1) 15 ∧ t.can = s.can ∧
    s.keeps t [Reg.CANn_STAT n, Reg.CANn_CNT0 n, Reg.CANn_CNT2 n, Reg.CANn_ERRCNT n, Reg.CANn_EVT n] ∧ State.Touch [.freeCtr] s t) ∧
  (∀ s (n : Fin 8) f a x o k j c,
    let h := s.rd (Reg.CANn_OBJHDL n o)
    s.Live → s.can.length = 8 → s.canHears n = true → (f.fdf = true → s.get (Fld.CANn_CTRL_FD_EN n) = 1) → f.remote = false →
    s.canMode n ≠ 4 → s.ttOn n = false → s.canSlot n f = none → s.canFilter n f = some o → o < 255 → s.objOn n o = true →
    s.get (Fld.CANn_OBJCFG_DIR n o) = 0 → s.get (Fld.CANn_OBJFMT_PROTO n o) = 0 → s.canDup n = false →
    (∀ g, s.cfg = some g → g.powerHandle ≠ h) → slotOf (handleType h) (handleIndex h) = some k → s.srcCfg k = some c →
    s.injected k = some j →
    s.chanLive (handleType h) (handleIndex h) = true → (s.src k).inbox.length < 16 → ∃ t y, exec (.canFrameRx n f a (some x)) s = .next t ∧
    t.src j = { s.src j with inbox := (s.src j).inbox ++ [y] } ∧ y.arrival = ((s.now - a : Nat) : Int) ∧
    y.own = (if c.ownClock = true then x.srcTime else none) ∧ y.stamped = none ∧ y.qual = x.qual ∧ y.vals = x.vals ∧ (t.canObj n o).latest = recordOf n (s.now - a) f f.data ∧
    t.get (Fld.CANn_CNT0_RX_OK n) = min (s.get (Fld.CANn_CNT0_RX_OK n) + 1) 65535 ∧
    s.keeps t ([Reg.CANn_CNT0 n, Reg.CANn_ERRCNT n, Reg.CANn_EVT n] ++ st n) ∧ State.Touch [.fus, .can, .freeCtr] s t) ∧
  (∀ s (n : Fin 8) (o : Byte), s.Live → s.can.length = 8 → s.gateCause (Reg.CANn_TXCANCEL n) = 0 → s.objSends n o.toNat = true →
    s.get (Fld.CANn_OBJHDL_HANDLE n o.toNat) / 2 ^ 28 = 9 → ∃ t, exec (.canTxcancel n o) s = .next t ∧
    t.get (Fld.CANn_CANCSTAT_OBJ n) = o.toNat ∧
    (if (s.canObj n o.toNat).queue = [] then t.get (Fld.CANn_CANCSTAT_RESULT n) = 4 ∧ t.rest = s.rest ∧ s.keeps t [Reg.CANn_CANCSTAT n]
    else if (s.canCtl n).tx = some (.object o.toNat) then t.get (Fld.CANn_CANCSTAT_PENDING n) = 1 ∧ t.rest = s.rest ∧
      s.keeps t [Reg.CANn_CANCSTAT n]
    else t.get (Fld.CANn_CANCSTAT_RESULT n) = 1 ∧ t.get (Fld.CANn_EVT_TX_CANCELLED n) = 1 ∧
      (t.canObj n o.toNat).queue = (s.canObj n o.toNat).queue.tail ∧ s.keeps t [Reg.CANn_CANCSTAT n, Reg.CANn_EVT n] ∧
      State.Touch [.chans, .can] s t)) ∧
  (∀ s (n w : Fin 8) (v : Word), s.Live → s.gateCause (Reg.CANn_OBJENw n w) = 0 → ∃ t, exec (.canObjenWrite n w v) s = .next t ∧
    t.rest = s.rest ∧
    (if (List.range 32).any (fun b => v.getLsbD b && !(s.rd (Reg.CANn_OBJENw n w)).getLsbD b &&
        s.badSendFormat n (32 * w.val + b)) = true then
      t.get (Fld.CANn_STAT_REFUSED n) = 1 ∧ t.get (Fld.CANn_STAT_REF_CODE n) = 4 ∧
      s.keeps t [Reg.CANn_STAT n, Reg.SYS_REFADDR, Reg.SYS_REFINFO]
    else t.rd (Reg.CANn_OBJENw n w) = v ∧ s.keeps t [Reg.CANn_OBJENw n w])) ∧
  (∀ s (n : Fin 8) (o : Byte), s.Live → s.can.length = 8 → (s.canObj n o.toNat).asm.isSome = true → ∃ t,
    exec (.reasmTimeout n o) s = .next t ∧ t.canObj n o.toNat = { s.canObj n o.toNat with asm := none } ∧
    t.get (Fld.CANn_CNT2_REASM_DROP n) = min (s.get (Fld.CANn_CNT2_REASM_DROP n) + 1) 255 ∧ s.keeps t [Reg.CANn_CNT2 n] ∧
    State.Touch [.can] s t) ∧
  (∀ s (n : Fin 8) (o : Byte), s.Live → s.can.length = 8 → s.canDup n = true → n.val % 2 = 0 → s.objOn n o.toNat = true →
    s.get (Fld.CANn_OBJCFG_DIR n o.toNat) = 0 → s.get (Fld.CANn_OBJFMT_RX_TIMEOUT n o.toNat) ≠ 0 → ∃ t,
    exec (.pairRxTimeout n o) s = .next t ∧ (t.canObj n o.toNat).heard = false ∧ (t.canObj (n + 1) o.toNat).heard = false ∧
    (t.canObj n o.toNat).silent = ((s.canObj n o.toNat).silent ||
      (!(s.canObj n o.toNat).heard && (s.canObj (n + 1) o.toNat).heard)) ∧
    ((t.canObj n o.toNat).silent = true → t.get (Fld.CANn_STAT_PAIR_ACTIVE (n + 1)) = 1 ∧ t.get (Fld.CANn_STAT_PAIR_ACTIVE n) = 0) ∧
    s.keeps t (st n) ∧ State.Touch [.can] s t) ∧
  (∀ s (n : Fin 8), s.Live → s.gateCause (Reg.CANn_TTSWAP n) = 0 → ∃ t, exec (.canTtswap n) s = .next t ∧ t.rest = s.rest ∧
    (if s.get (Fld.CANn_TTSTAT_SWAP_PEND n) = 1 ∨ s.ttCheck n = false then t.get (Fld.CANn_TTSTAT_SWAP_REFUSED n) = 1 ∧
      t.get (Fld.CANn_STAT_REF_CODE n) = 4 ∧ s.keeps t [Reg.CANn_TTSTAT n, Reg.CANn_STAT n, Reg.SYS_REFADDR, Reg.SYS_REFINFO]
    else s.keeps t [Reg.CANn_TTSTAT n] ∧ (if s.ttOn n = true then t.get (Fld.CANn_TTSTAT_SWAP_PEND n) = 1 ∧
        t.get (Fld.CANn_TTSTAT_BANK n) = s.get (Fld.CANn_TTSTAT_BANK n)
      else t.get (Fld.CANn_TTSTAT_BANK n) = 1 - s.get (Fld.CANn_TTSTAT_BANK n)))) ∧
  (∀ s (n : Fin 8), s.Live → s.can.length = 8 → s.ttOn n = true → s.canHears n = true → ∃ t, exec (.basicCycleStart n) s = .next t ∧
    t.get (Fld.CANn_STAT_TT_SYNC n) = (s.canCtl n).refSeen.toNat ∧ (t.canCtl n).refSeen = false ∧
    (s.get (Fld.CANn_STAT_TT_MASTER n) = 1 → (s.canCtl n).yieldDue = true ∨ s.ttMayLead n = false → t.get (Fld.CANn_STAT_TT_MASTER n) = 0) ∧
    (s.get (Fld.CANn_STAT_TT_MASTER n) = 1 → (s.canCtl n).yieldDue = false → s.ttMayLead n = true → (s.canCtl n).tx = none →
      (t.canCtl n).tx = some .reference ∧ (t.canCtl n).mark = s.now ∧ t.get (Fld.CANn_TTSTAT_CYCLE n) =
        (s.get (Fld.CANn_TTSTAT_CYCLE n) + 1) % 2 ^ s.get (Fld.CANn_TTCFG_MATRIX n) % 64) ∧
    s.keeps t [Reg.CANn_STAT n, Reg.CANn_TTSTAT n, Reg.CANn_EVT n] ∧ State.Touch [.can] s t) ∧
  (∀ s (n : Fin 8), s.Live → s.can.length = 8 → s.ttOn n = true → s.canHears n = true → (s.canCtl n).refSeen = false →
    s.get (Fld.CANn_STAT_TT_MASTER n) = 0 → ∃ t, exec (.ttBackupTimeout n) s = .next t ∧
    t.get (Fld.CANn_TTSTAT_REF_MISS n) = min (s.get (Fld.CANn_TTSTAT_REF_MISS n) + 1) 255 ∧ t.get (Fld.CANn_EVT_TT_REF_MISS n) = 1 ∧
    t.get (Fld.CANn_STAT_TT_MASTER n) = (s.ttMayLead n).toNat ∧
    s.keeps t [Reg.CANn_STAT n, Reg.CANn_TTSTAT n, Reg.CANn_EVT n] ∧ State.Touch [.can] s t) ∧
  (∀ s (n : Fin 8) (j : Fin 64) (f : Bool),
    let w := s.ttWindow n (s.get (Fld.CANn_TTSTAT_BANK n)) j
    s.Live → s.can.length = 8 → s.ttOn n = true → (s.canCtl n).ttRun = true → w.typ ≠ 3 →
    s.get (Fld.CANn_TTSTAT_CYCLE n) % 2 ^ w.rep = w.base % 2 ^ w.rep → ∃ t, exec (.ttWindowStart n j f) s = .next t ∧
    (t.canCtl n).window = some j.val ∧ (f = false → (t.canCtl n).tx = (s.canCtl n).tx) ∧ s.keeps t [] ∧
    State.Touch [.chans, .can] s t)
/-- R335, R337, R339, R340, R342, R352: a link is up only at a speed the port may use; a port that ETHp_CFG.EN stops has no link. A
received frame is counted as bad, discarded or good; the first of two copies joins its source's entry and is held, the second is
discarded, and counted apart where it differs; a full node table is noted. A held copy, and a node, are forgotten; a supervision frame
is sent and the nodes silent for 60 s dropped; the counters are cleared, and an MDIO access starts and ends. Rests on choices and
readings of the model's own: log entries 27, 37. -/
def Obligations.LinksAndDuplicateDiscard : Prop :=
  (∀ s (p : Fin 3) (up : Bool) (v : Fin 3), s.Live → s.get (Fld.ETHp_CFG_EN p) = 1 → ∃ t, exec (.linkChange p up v) s = .next t ∧
    (if up = true then t.get (Fld.ETHp_STAT_SPEED p) = v ∧
      (t.get (Fld.ETHp_STAT_SLOW p) = 1 ↔ s.inGroup = true ∧ p.val < 2 ∧ v ≠ 0) ∧
      (t.get (Fld.ETHp_STAT_LINK p) = 1 ↔ v ≠ 2 ∧ ¬ (s.inGroup = true ∧ p.val < 2 ∧ v ≠ 0)) ∧
      t.get (Fld.ETHp_STAT_AN_DONE p) = s.get (Fld.ETHp_CFG_AN p)
    else t.get (Fld.ETHp_STAT_LINK p) = 0 ∧ t.get (Fld.ETHp_STAT_SLOW p) = 0 ∧
      t.get (Fld.ETHp_CNT1_LINK_DOWN p) = min (s.get (Fld.ETHp_CNT1_LINK_DOWN p) + s.get (Fld.ETHp_STAT_LINK p)) 255) ∧
    s.keeps t [Reg.ETHp_STAT p, Reg.ETHp_CNT1 p] ∧ t.rest = s.rest) ∧
  (∀ s (p : Fin 3) (e : Bool), s.Live → s.gateCause (Reg.ETHp_CFG p) = 0 → ∃ t, exec (.ethCfgEn p e) s = .next t ∧
    t.get (Fld.ETHp_CFG_EN p) = e.toNat ∧ (e = false → t.linkUp p = false ∧ t.get (Fld.ETHp_STAT_LINK p) = 0) ∧
    (e = true → t.rd (Reg.ETHp_STAT p) = s.rd (Reg.ETHp_STAT p)) ∧ s.keeps t [Reg.ETHp_CFG p, Reg.ETHp_STAT p] ∧ t.rest = s.rest) ∧
  (∀ s (p : Fin 3) f, s.Live → s.linkUp p = true → s.ethFree p = true → ∃ t, exec (.ethFrameRx p f) s = .next t ∧
    (if f.kind = .badFcs then t.get (Fld.ETHp_CNT1_FCS_ERR p) = min (s.get (Fld.ETHp_CNT1_FCS_ERR p) + 1) 65535 ∧
      s.keeps t [Reg.ETHp_CNT1 p] ∧ t.rest = s.rest
    else if f.kind = .pause ∨ 1522 < f.len ∨ s.vidOk p f.vid = false then
      t.get (Fld.ETHp_CNT1_RX_DISC p) = min (s.get (Fld.ETHp_CNT1_RX_DISC p) + 1) 255 ∧ s.keeps t [Reg.ETHp_CNT1 p] ∧ t.rest = s.rest
    else t.get (Fld.ETHp_CNT0_RX_OK p) = min (s.get (Fld.ETHp_CNT0_RX_OK p) + 1) 65535 ∧
      s.keeps t [Reg.ETHp_CNT0 p, Reg.ETH_PRPCNT, Reg.ETH_PRPSTAT] ∧ State.Touch [.eth, .port] s t)) ∧
  (∀ s (p : Fin 3) f q, s.Live → s.linkUp p = true → s.ethFree p = true → f.kind ∉ [.badFcs, .pause, .ptp, .supervision] →
    f.len ≤ 1522 → s.vidOk p f.vid = true → p ≠ 2 → f.trailer = some q → ∃ t, exec (.ethFrameRx p f) s = .next t ∧
    (∀ x, s.eth.nodes.find? (fun x => decide (x.src = f.src)) = some x → (∀ h ∈ s.eth.held, h.src ≠ f.src ∨ h.seq ≠ q) →
      (∀ y ∈ x.seen, y.1 ≠ q) → t.eth.held = s.eth.held ++ [{ src := f.src, seq := q, crc := f.crc, lan := p }] ∧
      ∃ z ∈ t.eth.nodes, z.src = f.src ∧ (q, f.crc) ∈ z.seen ∧ z.seen.length ≤ max 128 x.seen.length) ∧
    (∀ h, s.eth.held.find? (fun x => decide (x.src = f.src ∧ x.seq = q)) = some h →
      (∀ x ∈ t.eth.held, x ∈ s.eth.held ∧ ¬ (x.src = f.src ∧ x.seq = q)) ∧
      (if h.crc = f.crc then t.get Fld.ETH_PRPCNT_DUP_DISC = min (s.get Fld.ETH_PRPCNT_DUP_DISC + 1) 65535 ∧ t.recd = s.recd
      else t.get Fld.ETH_PRPCNT_DUP_MISMATCH = min (s.get Fld.ETH_PRPCNT_DUP_MISMATCH + 1) 255 ∧
        ∃ e ∈ t.recd.port, e.code = 0x6001)) ∧
    ((∀ h ∈ s.eth.held, h.src ≠ f.src ∨ h.seq ≠ q) → (∀ x ∈ s.eth.nodes, x.src ≠ f.src) →
      (if 128 ≤ s.eth.nodes.length then t.get Fld.ETH_PRPSTAT_TABLE_FULL = 1 ∧ t.eth = s.eth ∧
        t.get Fld.ETH_PRPCNT_NOT_IN_TABLE = min (s.get Fld.ETH_PRPCNT_NOT_IN_TABLE + 1) 255
      else t.eth.nodes = s.eth.nodes ++ [{ src := f.src, seen := [(q, f.crc)] }] ∧
        t.eth.held = s.eth.held ++ [{ src := f.src, seq := q, crc := f.crc, lan := p }]))) ∧
  (∀ s (m : BitVec 48) (q : BitVec 16), s.Live → ∃ t, exec (.prpHoldExpired m q) s = .next t ∧
    t.eth = { s.eth with held := s.eth.held.filter (fun x => decide (¬ (x.src = m ∧ x.seq = q))) } ∧ s.keeps t [] ∧
    State.Touch [.eth] s t) ∧
  (∀ s (m : BitVec 48), s.Live → ∃ t, exec (.prpNodeForget m) s = .next t ∧
    t.eth = { s.eth with nodes := s.eth.nodes.filter (fun x => decide (x.src ≠ m)) } ∧
    t.get Fld.ETH_PRPSTAT_TABLE_FULL = (if t.eth.nodes.length < 128 then 0 else s.get Fld.ETH_PRPSTAT_TABLE_FULL) ∧
    s.keeps t [Reg.ETH_PRPSTAT] ∧ State.Touch [.eth] s t) ∧
  (∀ s g, s.Live → s.cfg = some g → s.linkUp 0 = true ∨ s.linkUp 1 = true → ∃ t f, exec .prpSupervisionTx s = .next t ∧
    t.eth.pairQ = s.eth.pairQ ++ [f] ∧ f.pcp = 6 ∧ f.dest = 0x01154E000100 ∧ t.eth.supSeq = s.eth.supSeq + 1 ∧
    t.get Fld.ETH_PRPSTAT_NODES = min 255 t.eth.supers.length ∧
    (∀ x, x ∈ t.eth.supers ↔ x ∈ s.eth.supers ∧ s.now ≤ x.2 + 60000000000) ∧ s.keeps t [Reg.ETH_PRPSTAT] ∧
    State.Touch [.eth] s t) ∧
  (∀ s, s.Live → s.gateCause Reg.ETH_CTRL = 0 → ∃ t, exec .ethCntClr s = .next t ∧ t.rd Reg.ETH_PRPCNT = 0 ∧
    t.rd Reg.ETH_E450CNT = 0 ∧ t.rd Reg.ETH_OWNCNT = 0 ∧ (∀ p < 3, t.rd (Reg.ETHp_CNT0 p) = 0 ∧ t.rd (Reg.ETHp_CNT1 p) = 0) ∧
    s.keeps t ([Reg.ETH_PRPCNT, Reg.ETH_E450CNT, Reg.ETH_OWNCNT] ++ [0, 1, 2].map Reg.ETHp_CNT0 ++ [0, 1, 2].map Reg.ETHp_CNT1) ∧
    t.rest = s.rest) ∧
  (∀ s (v : Word), s.Live → s.gateCause Reg.ETH_MDIO = 0 → ∃ t, exec (.mdioGo v) s = .next t ∧
    t.rd Reg.ETH_MDIO = (v &&& 0xFFFF07FF) ||| 0x00001000 ∧ s.keeps t [Reg.ETH_MDIO] ∧ t.rest = s.rest) ∧
  (∀ s (d : BitVec 16), s.Live → s.get Fld.ETH_MDIO_BUSY = 1 → ∃ t, exec (.mdioDone d) s = .next t ∧ t.get Fld.ETH_MDIO_BUSY = 0 ∧
    t.get Fld.ETH_MDIO_DATA = (if s.get Fld.ETH_MDIO_READ = 1 then d.toNat else s.get Fld.ETH_MDIO_DATA) ∧
    t.get Fld.ETH_MDIO_REG = s.get Fld.ETH_MDIO_REG ∧ s.keeps t [Reg.ETH_MDIO] ∧ t.rest = s.rest)
/-- R343 to R346, R348: an egress sends, of what may start now, the oldest of the highest rank: a frame, a PTP message or a management
message; and nothing where nothing may start. A swap of its slot banks becomes pending after a check, and is refused otherwise; the
commanding part sends its heading while the epoch is valid. Rests on choices and readings of the model's own: log entries 28, 38. -/
def Obligations.EgressSendsByPriority : Prop :=
  (∀ s x a b, s.Live → s.linkUp 2 = true → (s.egressItems true).filter (s.mayStart true) = a ++ .frame x :: b →
    (∀ y ∈ a, y.rank < (EgressItem.frame x).rank) → (∀ y ∈ b, y.rank ≤ (EgressItem.frame x).rank) → ∃ t c d,
    exec (.egressFrameStart true) s = .next t ∧
    s.eth.mgmtQ = c ++ x :: d ∧ x ∉ c ∧ t.eth = { s.eth with mgmtQ := c ++ d } ∧
    t.get (Fld.ETHp_CNT0_TX_OK 2) = min (s.get (Fld.ETHp_CNT0_TX_OK 2) + 1) 65535 ∧ s.keeps t [Reg.ETHp_CNT0 2] ∧
    State.Touch [.eth] s t) ∧
  (∀ s x a b, s.Live → s.linkUp 0 = true ∨ s.linkUp 1 = true → (s.egressItems false).filter (s.mayStart false) = a ++ .frame x :: b →
    (∀ y ∈ a, y.rank < (EgressItem.frame x).rank) → (∀ y ∈ b, y.rank ≤ (EgressItem.frame x).rank) → ∃ t c d,
    exec (.egressFrameStart false) s = .next t ∧
    s.eth.pairQ = c ++ x :: d ∧ x ∉ c ∧ t.eth = { s.eth with pairQ := c ++ d, prpSeq := s.eth.prpSeq + 1 } ∧
    (∀ p < 2, t.get (Fld.ETHp_CNT0_TX_OK p) = min (s.get (Fld.ETHp_CNT0_TX_OK p) + (s.linkUp p).toNat) 65535) ∧
    s.keeps t [Reg.ETHp_CNT0 0, Reg.ETHp_CNT0 1] ∧ State.Touch [.eth] s t) ∧
  (∀ s x a b, s.Live → s.linkUp 2 = true → (s.egressItems true).filter (s.mayStart true) = a ++ .mgmt x :: b →
    (∀ y ∈ a, y.rank < 2) → (∀ y ∈ b, y.rank ≤ 2) → ∃ t c d, exec (.egressFrameStart true) s = .next t ∧
    s.mgt.outMgmt = c ++ x :: d ∧ x ∉ c ∧ t.mgt = { s.mgt with outMgmt := c ++ d } ∧ s.keeps t [Reg.ETHp_CNT0 2] ∧
    State.Touch [.mgt] s t) ∧
  (∀ s x a b, s.Live → s.linkUp 0 = true ∨ s.linkUp 1 = true → (s.egressItems false).filter (s.mayStart false) = a ++ .mgmt x :: b →
    (∀ y ∈ a, y.rank < 2) → (∀ y ∈ b, y.rank ≤ 2) → ∃ t c d, exec (.egressFrameStart false) s = .next t ∧
    s.mgt.outLan = c ++ x :: d ∧ x ∉ c ∧ t.mgt = { s.mgt with outLan := c ++ d } ∧
    t.eth = { s.eth with prpSeq := s.eth.prpSeq + 1 } ∧ s.keeps t [Reg.ETHp_CNT0 0, Reg.ETHp_CNT0 1] ∧ State.Touch [.mgt, .eth] s t) ∧
  (∀ s (m : Bool) p k q u a b, s.Live → (if m then s.linkUp 2 = true else s.linkUp 0 = true ∨ s.linkUp 1 = true) →
    (s.egressItems m).filter (s.mayStart m) = a ++ .ptp p k q u :: b → (∀ y ∈ a, y.rank < 6) → (∀ y ∈ b, y.rank ≤ 6) → ∃ t c d,
    exec (.egressFrameStart m) s = .next t ∧ s.tb.out = c ++ (p, k, q, u) :: d ∧ (p, k, q, u) ∉ c ∧
    t.tb = { s.tb with out := c ++ d } ∧ t.get (Fld.ETHp_CNT0_TX_OK p) = min (s.get (Fld.ETHp_CNT0_TX_OK p) + 1) 65535 ∧
    s.keeps t [Reg.ETHp_CNT0 p] ∧ State.Touch [.tb, .eth] s t) ∧
  (∀ s (m : Bool), s.Live → (∀ x ∈ s.egressItems m, s.mayStart m x = false) → ∃ t, exec (.egressFrameStart m) s = .next t ∧
    t.rest = s.rest ∧ s.keeps t []) ∧
  (∀ s c m pend ref, (c, m, pend, ref) ∈ [(Instr.ethSwapPair, false, Fld.ETH_SLOTSTAT_PEND_PAIR, Fld.ETH_SLOTSTAT_REF_PAIR),
      (Instr.ethSwapMgmt, true, Fld.ETH_SLOTSTAT_PEND_MGMT, Fld.ETH_SLOTSTAT_REF_MGMT)] →
    s.Live → s.gateCause Reg.ETH_CTRL = 0 →
    let w := s.egWindows m (1 - s.egBank m)
    ∃ t, exec c s = .next t ∧ t.rest = s.rest ∧ t.egBank m = s.egBank m ∧
    (if s.get pend = 0 ∧ egOrdered w = true ∧ (∀ x ∈ w, 5 ≤ x.len ∧ (x.start + x.len) * 1000 ≤ s.frameNs) then
      t.get pend = 1 ∧ s.keeps t [Reg.ETH_SLOTSTAT]
    else t.get ref = 1 ∧ t.get pend = s.get pend ∧ s.keeps t [Reg.ETH_SLOTSTAT, Reg.SYS_REFADDR, Reg.SYS_REFINFO])) ∧
  (∀ s g e, s.Live → s.cfg = some g → s.fus.epoch = some e → s.commanding = true → e.status / 4 % 2 = 1 →
    s.linkUp 0 = true ∨ s.linkUp 1 = true → ∃ t f, exec .e450Tx s = .next t ∧
    t.eth = { s.eth with e450Line := s.eth.e450Line % 999 + 1, pairQ := s.eth.pairQ ++ [f] } ∧ f.pcp = 3 ∧
    f.dest = g.net.e450Dest ∧ f.payload = e450Payload g.net.ownSource g.net.talker t.eth.e450Line e.psi e.rate ∧ s.keeps t [] ∧
    State.Touch [.eth] s t)
/-- R206 to R214, R217, R220, R226: at its boundary a CLOSED loop latches its feedback, takes a host set-point that no rate limits
within its limits, and switches its outputs by its error, its bands and its dwells; a feedback that has stopped is a fault; a pending
close that nothing forbids closes the loop. At its own boundaries the outer loop switches likewise and ramps the set-point. Rests on
choices and readings of the model's own: log entries 56, 57. -/
def Obligations.LoopsSwitchAtTheirBoundaries : Prop :=
  let out := fun (t : State) (k : Nat) => t.get ⟨Reg.SWO_STATw (k / 32), k % 32, 1⟩
  (∀ s (n : Fin 64) v q, s.Live → s.loopState n = 1 → s.loopOuter n = false → s.loopFb n = some (v, true, q) →
    sourceAge (s.get (Fld.SRVn_CFG_FB_KIND n)) (s.loop n).fbSeen (s.loop n).fbAge q ≤ s.get (Fld.SRVn_SAMPLE_FB_AGE n) →
    (s.loop n).openReq = false → (s.loop n).overlay = none →
    let o := s.get (Fld.SRVn_STAT_OUT n)
    let law := s.get (Fld.SRVn_CFG_LAW n)
    ∃ t, exec (.servoBoundary n) s = .next t ∧ t.rd (Reg.SRVn_FB n) = ofInt32 v ∧ t.loopState n = 1 ∧
    t.get (Fld.SRVn_STAT_OUT n) = hysteresis (drivesPos law) (drivesNeg law) o (t.loopError n) (s.rd (Reg.SRVn_BON n)).toNat
      (s.rd (Reg.SRVn_BOFF n)).toNat (decide (s.get (Fld.SRVn_DWELL_T_ON n) ≤ (s.loop n).on + (if o = 0 then 0 else 1)))
      (decide (s.get (Fld.SRVn_DWELL_T_OFF n) ≤ (if o = 0 then min 65535 ((s.loop n).off + 1) else (s.loop n).off))) ∧
    (bitsGet (s.rd (Reg.SRVn_SPSRC n)) 0 3 = 5 → s.rd (Reg.SRVn_SPRATE n) = 0 → s.loopAngle n = false → t.rd (Reg.SRVn_SP n) =
      ofInt32 (clampInt (s.rd (Reg.SRVn_SPMIN n)).toInt (s.rd (Reg.SRVn_SPMAX n)).toInt (s.rd (Reg.SRVn_HOSTSP n)).toInt)) ∧
    ((s.loopCfg n).isSome = true → (drivesPos law = true → out t (2 * n) = (decide (t.get (Fld.SRVn_STAT_OUT n) = 1)).toNat) ∧
      (drivesNeg law = true → out t (2 * n + 1) = (decide (t.get (Fld.SRVn_STAT_OUT n) = 2)).toNat)) ∧
    t.get (Fld.SRVn_CNT_SWITCHES n) = min (s.get (Fld.SRVn_CNT_SWITCHES n) +
      (if o = 0 ∧ t.get (Fld.SRVn_STAT_OUT n) ≠ 0 then 1 else 0)) (2 ^ (Fld.SRVn_CNT_SWITCHES n).width - 1) ∧
    s.keeps t [Reg.SRVn_FB n, Reg.SRVn_SP n, Reg.SRVn_STAT n, Reg.SRVn_CNT n, Reg.SWO_STATw (2 * n / 32)] ∧ State.Touch [.srv] s t) ∧
  (∀ s (n : Fin 64), s.Live → s.loopState n = 1 → s.loopFb n = none → (s.loop n).auto = false → ∃ t,
    exec (.servoBoundary n) s = .next t ∧ t.loopState n = 2 ∧ t.get (Fld.SRVn_STAT_CAUSE n) = 2 ∧ t.get (Fld.SRVn_STAT_OUT n) = 0 ∧
    (t.loop n).latched = 2 ∧ (∃ e ∈ t.recd.port, e.code = 0x5001) ∧ State.Touch [.chans, .alc, .srv, .port] s t) ∧
  (∀ s (n : Fin 64), s.Live → s.loopState n = 0 ∨ s.loopState n = 2 → (s.loop n).cmdClose = true → (s.loop n).openReq = false →
    (s.loop n).overlay = none → ((s.loopCounts n).latchFb n false).closeCheck n = 0 → ∃ t, exec (.servoBoundary n) s = .next t ∧
    t.loopState n = 1 ∧ (t.loop n).cmdClose = false ∧ t.get (Fld.SRVn_STAT_CLOSE_PEND n) = 0 ∧
    t.get (loopBit Reg.SRV_CLOSED0 Reg.SRV_CLOSED1 n) = 1 ∧ State.Touch [.chans, .alc, .srv] s t) ∧
  (∀ s (n : Fin 64) v q w p, s.Live → s.loopState n = 1 → s.loopOuter n = true →
    ((s.loop n).bnd + 1) % (s.get (Fld.SRVn_CFG_OUTER_DIV n) + 1) = 0 → s.loopFb n = some (v, true, q) →
    s.loopOfb n = some (w, true, p) →
    sourceAge (s.get (Fld.SRVn_CFG_FB_KIND n)) (s.loop n).fbSeen (s.loop n).fbAge q ≤ s.get (Fld.SRVn_SAMPLE_FB_AGE n) →
    sourceAge (s.get (Fld.SRVn_CFG_OFB_KIND n)) (s.loop n).ofbSeen (s.loop n).ofbAge p ≤ s.get (Fld.SRVn_SAMPLE_FB_AGE n) →
    (s.loop n).openReq = false → (s.loop n).overlay = none →
    let st := s.get (Fld.SRVn_STAT_OSTATE n)
    ∃ t, exec (.outerBoundary n) s = .next t ∧ exec (.servoBoundary n) s = .next t ∧
    t.rd (Reg.SRVn_FB n) = ofInt32 v ∧ t.rd (Reg.SRVn_OFB n) = ofInt32 w ∧
    (let d := (t.rd (Reg.SRVn_OSP n)).toInt - (t.rd (Reg.SRVn_OFB n)).toInt
     let st' := t.get (Fld.SRVn_STAT_OSTATE n)
     st' = hysteresis true true st (if s.get (Fld.SRVn_CFG_O_INV n) = 1 then -d else d) (s.rd (Reg.SRVn_OBON n)).toNat
       (s.rd (Reg.SRVn_OBOFF n)).toNat (decide (s.get (Fld.SRVn_OTIMER_O_TON n) ≤ (s.loop n).oOn + (if st = 0 then 0 else 1)))
       (decide (s.get (Fld.SRVn_OTIMER_O_TOFF n) ≤ min 255 ((s.loop n).oOff + (if st = 0 then 1 else 0)))) ∧
     t.rd (Reg.SRVn_SP n) = ofInt32 (clampInt (s.rd (Reg.SRVn_SPMIN n)).toInt (s.rd (Reg.SRVn_SPMAX n)).toInt
       ((s.rd (Reg.SRVn_SP n)).toInt + (if st' = 1 then ((s.rd (Reg.SRVn_ORAMP n)).toNat : Int)
         else if st' = 2 then -((s.rd (Reg.SRVn_ORAMP n)).toNat : Int) else 0)))) ∧
    s.keeps t [Reg.SRVn_FB n, Reg.SRVn_OFB n, Reg.SRVn_SP n, Reg.SRVn_OSP n, Reg.SRVn_STAT n, Reg.SRVn_CNT n,
      Reg.SWO_STATw (2 * n / 32)] ∧ State.Touch [.srv] s t) ∧
  (∀ s (n : Fin 64), s.Live → s.loopOuter n = false ∨ s.loopState n ≠ 1 → ∃ t, exec (.outerBoundary n) s = .next t ∧
    t.rest = s.rest ∧ s.keeps t [])
/-- R213, R216, R219, R220, R223, R227: a stalled loop faults; CLOSE, of a loop that may close, and OPEN wait for the next boundary;
CLR_FAULT is refused while a linked safety stop is in force; a set-point source and a host set-point are refused off the commanding
part, and a reserved source in any case; the counters are cleared. Rests on choices and readings of the model's own: log entries 57,
113. -/
def Obligations.LoopCommandsAndStall : Prop :=
  let refused := fun (s t : State) (n : Fin 64) (k : Nat) => t.get (Fld.SRVn_STAT_REFUSED n) = 1 ∧
    t.get (Fld.SRVn_STAT_REF_CODE n) = k ∧ t.get (Fld.SRVn_CNT_REFUSALS n) = min (s.get (Fld.SRVn_CNT_REFUSALS n) + 1)
      (2 ^ (Fld.SRVn_CNT_REFUSALS n).width - 1) ∧ t.rest = s.rest ∧
    s.keeps t [Reg.SRVn_STAT n, Reg.SRVn_CNT n, Reg.SYS_REFADDR, Reg.SYS_REFINFO]
  (∀ s (n : Fin 64), s.Live → s.loopState n = 1 → s.get (Fld.SRVn_OTIMER_STALL n) ≠ 0 → s.get (Fld.SRVn_STAT_OUT n) ≠ 0 →
    16 * s.get (Fld.SRVn_OTIMER_STALL n) ≤ (s.loop n).on → ∃ t, exec (.stallFault n) s = .next t ∧ t.loopState n = 2 ∧
    t.get (Fld.SRVn_STAT_CAUSE n) = 4 ∧ t.get (Fld.SRVn_STAT_OUT n) = 0 ∧ (t.loop n).latched = 4 ∧ (t.loop n).off = 0 ∧
    t.get (Fld.SRVn_CNT_FAULTS n) = min (s.get (Fld.SRVn_CNT_FAULTS n) + 1) (2 ^ (Fld.SRVn_CNT_FAULTS n).width - 1) ∧
    (∃ e ∈ t.recd.port, e.code = 0x5001) ∧
    s.keeps t [Reg.SRVn_STAT n, Reg.SRVn_CNT n, Reg.SRV_CLOSED0, Reg.SRV_CLOSED1, Reg.SRV_FAULT0, Reg.SRV_FAULT1,
      Reg.SWO_STATw (2 * n / 32)] ∧ State.Touch [.chans, .alc, .srv, .port] s t) ∧
  (∀ s (n : Fin 64), s.Live → s.gateCause (Reg.SRVn_CMD n) = 0 → ∃ t, exec (.srvCmdClose n) s = .next t ∧
    (if s.loopState n = 1 ∨ s.loopState n = 3 then s.keeps t [] ∧ t.rest = s.rest
    else t.loop n = { s.loop n with cmdClose := true } ∧ t.get (Fld.SRVn_STAT_CLOSE_PEND n) = 1 ∧
      t.loopState n = s.loopState n ∧ s.keeps t [Reg.SRVn_STAT n] ∧ State.Touch [.srv] s t)) ∧
  (∀ s (n : Fin 64), s.Live → s.gateCause (Reg.SRVn_CMD n) = 0 → ∃ t, exec (.srvCmdOpen n) s = .next t ∧
    t.loop n = { s.loop n with openReq := true } ∧ s.keeps t [] ∧ State.Touch [.srv] s t) ∧
  (∀ s (n : Fin 64), s.Live → s.gateCause (Reg.SRVn_CMD n) = 0 → ∃ t, exec (.srvCmdClrFault n) s = .next t ∧
    (if s.loopStopped n = true then refused s t n 5
    else t.loop n = { s.loop n with latched := 0 } ∧ t.loopState n = s.loopState n ∧ s.keeps t [] ∧ State.Touch [.srv] s t)) ∧
  (∀ s (n : Fin 64) (v : Word), s.Live → s.gateCause (Reg.SRVn_SPSRC n) = 0 → ∃ t, exec (.srvSpsrcWrite n v) s = .next t ∧
    (if s.commanding = false then refused s t n 6
    else if 6 ≤ bitsGet v 0 3 then refused s t n 7
    else t.rd (Reg.SRVn_SPSRC n) = v &&& 0x7FFFFFFF ∧ (s.get Fld.SYS_STRAP_GROUP_ID ≠ 3 → ∃ o, t.grp.ops = s.grp.ops ++ [o]) ∧
      s.keeps t [Reg.SRVn_SPSRC n] ∧ State.Touch [.grp] s t)) ∧
  (∀ s (n : Fin 64) (v : Word), s.Live → s.gateCause (Reg.SRVn_HOSTSP n) = 0 → ∃ t, exec (.srvHostspWrite n v) s = .next t ∧
    (if s.commanding = false then refused s t n 6
    else t.rd (Reg.SRVn_HOSTSP n) = v ∧ (s.get Fld.SYS_STRAP_GROUP_ID ≠ 3 → ∃ o, t.grp.ops = s.grp.ops ++ [o]) ∧
      s.keeps t [Reg.SRVn_HOSTSP n] ∧ State.Touch [.grp] s t)) ∧
  (∀ s, s.Live → s.gateCause Reg.SRV_CTRL = 0 → ∃ t, exec .srvCntClr s = .next t ∧ (∀ n < 64, t.rd (Reg.SRVn_CNT n) = 0) ∧
    s.keeps t ((List.range 64).map Reg.SRVn_CNT) ∧ t.rest = s.rest)
/-- R375 to R384, R396: a RUNNING chain that has settled delivers each output of its filter with gain and offset, and less the DC
blocker's mean where that is on; one that is settling delivers none. A chain starts where its state, trigger and coefficients admit it,
and stops by command or by its modulator; its DC blocker is written where its state and the value admit it; the counters are cleared.
Rests on choices and readings of the model's own: log entries 29, 34. -/
def Obligations.ChainsDeliverTheirOutputs : Prop :=
  let refused := fun (s t : State) (n : Fin 64) (k : Nat) => t.get (Fld.CHn_STAT_REFUSED n) = 1 ∧ t.get (Fld.CHn_STAT_REF_CODE n) = k ∧
    t.rest = s.rest ∧ s.keeps t [Reg.CHn_STAT n, Reg.SYS_REFADDR, Reg.SYS_REFINFO]
  (∀ s (n : Fin 64) cic, s.Live → s.get (Fld.CHn_STAT_STATE n) = 2 → s.get (Fld.CHn_CFG_DCB_EN n) = 0 →
    settleCount (s.chainD n) (s.chainL n) ≤ (s.chain n).outs + 1 →
    let x := s.chainValue n (s.chainFir n cic)
    let w := roundDiv x.num x.den
    ∃ t, exec (.chainOutput n cic) s = .next t ∧ t.rd (Reg.CHn_OUT n) = ofInt32 (clampInt (-2147483648) 2147483647 w) ∧
    t.rd (Reg.CHn_STAMP n) = BitVec.ofNat 32 (s.now - 50 * (s.rd (Reg.CHn_GDLY n)).toNat) ∧ (t.chain n).delivered = true ∧
    (t.chain n).fresh = true ∧ (t.chain n).seq = (s.chain n).seq + 1 ∧ (t.chain n).m = none ∧ t.get (Fld.CHn_STAT_SETTLING n) = 0 ∧
    (-2147483648 ≤ w ∧ w ≤ 2147483647 → t.get (Fld.CHn_STAT_SAT n) = s.get (Fld.CHn_STAT_SAT n)) ∧
    (w < -2147483648 ∨ 2147483647 < w → t.get (Fld.CHn_STAT_SAT n) = 1 ∧ t.get (Fld.CHn_STAT_SAT_CNT n) =
      min (s.get (Fld.CHn_STAT_SAT_CNT n) + 1) (2 ^ (Fld.CHn_STAT_SAT_CNT n).width - 1)) ∧
    s.keeps t [Reg.CHn_STAT n, Reg.CHn_OUT n, Reg.CHn_STAMP n] ∧ State.Touch [.ana] s t) ∧
  (∀ s (n : Fin 64) cic, s.Live → s.get (Fld.CHn_STAT_STATE n) = 2 → s.get (Fld.CHn_CFG_DCB_EN n) = 1 →
    settleCount (s.chainD n) (s.chainL n) ≤ (s.chain n).outs + 1 →
    let x := s.chainValue n (s.chainFir n cic)
    let m : Int := (s.chain n).m.getD (clampInt (-549755813888) 549755813887 (roundDiv (x * 256).num (x * 256).den))
    let y : Rat := x - (m : Rat) / 256
    let m' : Int := if s.get (Fld.CHn_DCB_FREEZE n) = 1 then m else dcbNext m x (s.get (Fld.CHn_DCB_DCB_K n))
    ∃ t, exec (.chainOutput n cic) s = .next t ∧
    t.rd (Reg.CHn_OUT n) = ofInt32 (clampInt (-2147483648) 2147483647 (roundDiv y.num y.den)) ∧ (t.chain n).m = some m' ∧
    t.rd (Reg.CHn_DCBM n) = BitVec.ofInt 32 (m' / 256) ∧
    s.keeps t [Reg.CHn_STAT n, Reg.CHn_OUT n, Reg.CHn_STAMP n, Reg.CHn_DCBM n] ∧ State.Touch [.ana] s t) ∧
  (∀ s (n : Fin 64) cic, s.Live → s.get (Fld.CHn_STAT_STATE n) = 2 →
    (s.chain n).outs + 1 < settleCount (s.chainD n) (s.chainL n) → ∃ t, exec (.chainOutput n cic) s = .next t ∧
    t.chain n = { s.chain n with outs := (s.chain n).outs + 1 } ∧ s.keeps t [Reg.CHn_STAT n] ∧ State.Touch [.ana] s t) ∧
  (∀ s (n : Fin 64), s.Live → s.gateCause (Reg.CHn_CMD n) = 0 →
    let g := s.get (Fld.CHn_CFG_TRIG n)
    ∃ t, exec (.chainStart n) s = .next t ∧
    (if s.get (Fld.CHn_STAT_STATE n) = 1 ∨ s.get (Fld.CHn_STAT_STATE n) = 2 then refused s t n 4
    else if 1 ≤ g ∧ g ≤ 15 ∧ s.get (Fld.TB_TRIGm_CFG_TARGET g) ≠ 1 then refused s t n 3
    else if s.chainCoefOk n = false then refused s t n 2
    else t.get (Fld.CHn_STAT_STATE n) = (if g = 16 then 2 else 1) ∧ t.get (Fld.CHn_STAT_MOD_STUCK n) = 0 ∧
      t.rd (Reg.CHn_GDLY n) = BitVec.ofNat 32 (groupDelay (s.chainD n) (s.chainL n)) ∧ t.chain n = { seq := (s.chain n).seq } ∧
      (s.get (Fld.CHn_CFG_DCB_EN n) = 1 → t.get (Fld.CHn_DCB_FREEZE n) = 1) ∧
      s.keeps t [Reg.CHn_STAT n, Reg.CHn_GDLY n, Reg.CHn_DCB n] ∧ State.Touch [.ana] s t)) ∧
  (∀ s (n : Fin 64), s.Live → s.gateCause (Reg.CHn_CMD n) = 0 → ∃ t, exec (.chainStop n) s = .next t ∧
    (if s.get (Fld.CHn_STAT_STATE n) = 3 then s.keeps t [] ∧ t.rest = s.rest
    else t.get (Fld.CHn_STAT_STATE n) = 0 ∧ t.get (Fld.CHn_STAT_SETTLING n) = 0 ∧ t.chain n = { seq := (s.chain n).seq } ∧
      s.keeps t [Reg.CHn_STAT n] ∧ State.Touch [.ana] s t)) ∧
  (∀ s (n : Fin 64), s.Live → s.get (Fld.CHn_STAT_STATE n) = 2 → ∃ t e, exec (.modStuck n) s = .next t ∧
    t.get (Fld.CHn_STAT_STATE n) = 3 ∧ t.get (Fld.CHn_STAT_MOD_STUCK n) = 1 ∧ t.recd.port = s.recd.port ++ [e] ∧
    e.code = 0x6801 ∧ s.keeps t [Reg.CHn_STAT n] ∧ State.Touch [.port] s t) ∧
  (∀ s (n : Fin 64) (v : Word), s.Live → s.gateCause (Reg.CHn_DCB n) = 0 →
    let k := bitsGet v 1 5
    ∃ t, exec (.chainDcbWrite n v) s = .next t ∧
    (if k ≠ s.get (Fld.CHn_DCB_DCB_K n) ∧ s.get (Fld.CHn_STAT_STATE n) ∉ [0, 3] then refused s t n 1
    else if k < 4 ∨ 24 < k then refused s t n 2
    else t.get (Fld.CHn_DCB_FREEZE n) = v.toNat % 2 ∧ t.get (Fld.CHn_DCB_DCB_K n) = k ∧ s.keeps t [Reg.CHn_DCB n] ∧
      t.rest = s.rest)) ∧
  (∀ s, s.Live → ∃ t, exec .anaCntClr s = .next t ∧ (∀ n < 64, t.get (Fld.CHn_STAT_SAT_CNT n) = 0) ∧
    (∀ i < 32, t.get (Fld.PINi_STAT_QERR_CNT i) = 0) ∧ (∀ n < 64, t.get (Fld.CHn_STAT_STATE n) = s.get (Fld.CHn_STAT_STATE n)) ∧
    s.keeps t ((List.range 64).map Reg.CHn_STAT ++ (List.range 32).map Reg.PINi_STAT) ∧ t.rest = s.rest)
/-- R387 to R394: a pulse input starts, loads and stops, counts the edges of its mode, notes a quadrature error, and measures the
frequency of its edges; a voltage output takes the host's code where its source and the role admit it; a switch output is set and
cleared bit by bit unless a loop or the role owns it. Rests on choices and readings of the model's own: log entries 35, 57. -/
def Obligations.PulseInputsAndOutputs : Prop :=
  (∀ s (i : Fin 32) (a b : Bool) d, s.Live → s.pinRuns i = true →
    pinStep (s.get (Fld.PINi_CFG_MODE i)) (Bool.xor (s.pin i).a (decide (s.get (Fld.PINi_CFG_AINV i) = 1)))
      (Bool.xor (s.pin i).b (decide (s.get (Fld.PINi_CFG_BINV i) = 1))) (Bool.xor a (decide (s.get (Fld.PINi_CFG_AINV i) = 1)))
      (Bool.xor b (decide (s.get (Fld.PINi_CFG_BINV i) = 1))) = some d → ∃ t, exec (.pinEdge i a b) s = .next t ∧
    (t.pin i).a = a ∧ (t.pin i).b = b ∧ t.rd (Reg.PINi_COUNT i) = s.rd (Reg.PINi_COUNT i) + BitVec.ofInt 32 d ∧
    (t.pin i).last = (if d = 0 then (s.pin i).last else some (t.rd (Reg.PINi_COUNT i), s.now)) ∧
    s.keeps t [Reg.PINi_COUNT i] ∧ State.Touch [.ana] s t) ∧
  (∀ s (i : Fin 32) (a b : Bool), s.Live → s.pinRuns i = true → s.get (Fld.PINi_CFG_MODE i) = 0 → a ≠ (s.pin i).a → b ≠ (s.pin i).b →
    ∃ t, exec (.pinEdge i a b) s = .next t ∧ t.get (Fld.PINi_STAT_QERR i) = 1 ∧ t.get (Fld.PINi_STAT_QERR_CNT i) =
      min (s.get (Fld.PINi_STAT_QERR_CNT i) + 1) (2 ^ (Fld.PINi_STAT_QERR_CNT i).width - 1) ∧
    t.rd (Reg.PINi_COUNT i) = s.rd (Reg.PINi_COUNT i) ∧ s.keeps t [Reg.PINi_STAT i] ∧ State.Touch [.ana] s t) ∧
  (∀ s (i : Fin 32) f l r, s.Live → s.pinRuns i = true → (s.pin i).first = some f → (s.pin i).last = some l →
    (s.pin i).ref = some r → ∃ t, exec (.pinGateEnd i) s = .next t ∧
    t.rd (Reg.PINi_FREQ i) = (if l.2 - r.2 = 0 then 0 else satInt32 (roundDiv ((l.1 - r.1).toInt * 1000000000000) (l.2 - r.2))) ∧
    t.get (Fld.PINi_STAT_ZERO i) = 0 ∧
    t.pin i = { s.pin i with ref := some l, first := none, gateStart := s.now, meas := (s.pin i).meas + 1 } ∧
    s.keeps t [Reg.PINi_FREQ i, Reg.PINi_STAT i] ∧ State.Touch [.ana] s t) ∧
  (∀ s (i : Fin 32) l, s.Live → s.pinRuns i = true → (s.pin i).first = none → (s.pin i).last = some l →
    let prev := (s.rd (Reg.PINi_FREQ i)).toInt
    let lim := (rateMilliHz 1 (s.now - l.2)).toInt
    ∃ t, exec (.pinGateEnd i) s = .next t ∧
    t.rd (Reg.PINi_FREQ i) = ofInt32 (if prev < 0 then -(min (-prev) lim) else min prev lim) ∧
    t.pin i = { s.pin i with ref := some l, gateStart := s.now, meas := (s.pin i).meas + 1 } ∧
    s.keeps t [Reg.PINi_FREQ i] ∧ State.Touch [.ana] s t) ∧
  (∀ s (i : Fin 32), s.Live → s.pinRuns i = true → ∃ t, exec (.pinZeroTimeout i) s = .next t ∧ t.rd (Reg.PINi_FREQ i) = 0 ∧
    t.get (Fld.PINi_STAT_ZERO i) = 1 ∧ s.keeps t [Reg.PINi_FREQ i, Reg.PINi_STAT i] ∧ t.rest = s.rest) ∧
  (∀ s (i : Fin 32), s.Live → s.gateCause (Reg.PINi_CMD i) = 0 → s.pinRuns i = false → ∃ t, exec (.pinStart i) s = .next t ∧
    t.pinRuns i = true ∧ t.rd (Reg.PINi_COUNT i) = s.rd (Reg.PINi_PRESET i) ∧ t.rd (Reg.PINi_FREQ i) = 0 ∧
    t.get (Fld.PINi_STAT_ZERO i) = 1 ∧ (t.pin i).first = none ∧ (t.pin i).ref = none ∧ (t.pin i).gateStart = s.now ∧
    s.keeps t [Reg.PINi_STAT i, Reg.PINi_COUNT i, Reg.PINi_FREQ i] ∧ State.Touch [.ana] s t) ∧
  (∀ s (i : Fin 32), s.Live → s.gateCause (Reg.PINi_CMD i) = 0 → ∃ t, exec (.pinStop i) s = .next t ∧
    t.get (Fld.PINi_STAT_STATE i) = 0 ∧ s.keeps t [Reg.PINi_STAT i] ∧ t.rest = s.rest) ∧
  (∀ s (i : Fin 32), s.Live → s.gateCause (Reg.PINi_CMD i) = 0 → ∃ t, exec (.pinLoad i) s = .next t ∧
    t.rd (Reg.PINi_COUNT i) = s.rd (Reg.PINi_PRESET i) ∧ (∀ l r, (s.pin i).last = some l → (s.pin i).ref = some r → ∃ l' r',
      (t.pin i).last = some l' ∧ (t.pin i).ref = some r' ∧ l'.1 - r'.1 = l.1 - r.1 ∧ l'.2 = l.2 ∧ r'.2 = r.2) ∧
    s.keeps t [Reg.PINi_COUNT i] ∧ State.Touch [.ana] s t) ∧
  (∀ s (n : Fin 32) (v : Word), s.Live → s.gateCause (Reg.AOUTn_DATA n) = 0 → ∃ t, exec (.aoutDataWrite n v) s = .next t ∧
    t.rest = s.rest ∧
    (if s.get (Fld.AOUTn_CFG_SRC n) = 1 ∨ s.commanding = false then t.get (Fld.AOUTn_STAT_REFUSED n) = 1 ∧
      t.get (Fld.AOUTn_STAT_REF_CODE n) = (if s.get (Fld.AOUTn_CFG_SRC n) = 1 then 1 else 2) ∧
      s.keeps t [Reg.AOUTn_STAT n, Reg.SYS_REFADDR, Reg.SYS_REFINFO]
    else t.get (Fld.AOUTn_DATA_CODE n) = v.toNat % 65536 ∧ t.get (Fld.AOUTn_STAT_OUT n) =
      (if s.get (Fld.AOUTn_CFG_UPD n) = 2 ∧ s.get (Fld.AOUTn_STAT_HELD_SAFE n) = 0 then v.toNat % 65536
       else s.get (Fld.AOUTn_STAT_OUT n)) ∧ s.keeps t [Reg.AOUTn_DATA n, Reg.AOUTn_STAT n])) ∧
  (∀ s c (w : Fin 4) (v : Word) (on : Bool), (c, on) ∈ [(Instr.swoSet w v, true), (Instr.swoClr w v, false)] → s.Live → ∃ t,
    exec c s = .next t ∧
    (∀ b < 32, t.get ⟨Reg.SWO_STATw w, b, 1⟩ = if v.getLsbD b = false ∨ s.swoOwned (32 * w + b) = true then
      s.get ⟨Reg.SWO_STATw w, b, 1⟩ else (on && (!s.swoGated (32 * w + b) || s.commanding)).toNat) ∧
    (∀ b < 32, v.getLsbD b = true → s.swoOwned (32 * w + b) = true → t.get Fld.SWO_STAT_REFUSED = 1) ∧
    s.keeps t [Reg.SWO_STATw w, Reg.SWO_STAT, Reg.SYS_REFADDR, Reg.SYS_REFINFO] ∧ State.Touch [.ana] s t)
/-- R279, R281, R284, R285, R290 to R292, R295, R298, R299, R305: an opened channel stops its RUN function, and at once, unless the stop
is a controlled one, its pairs go off; the end of a controlled stop switches them off; a disagreement, a failed test pulse, off-pulse or
read-back faults the function; a TWO_HAND function that one hand alone operates must be released; test pulses and off-pulses start and
end; a de-energised output reads back off; a cycle exchanges the permits and the latched disagreements of the two technologies. Rests on
choices and readings of the model's own: log entry 55. -/
def Obligations.SafetyFunctionsStopAndFault : Prop :=
  let parts : List Part := [.mgt, .chans, .alc, .can, .eth, .ana, .srv, .saf, .port]
  let bit := fun (x : Tech) (p : Nat) => match x with | .slate => p | .cobalt => 16 + p
  (∀ s x (i f : Fin 32) (b l : Bool) h c, s.Live → (s.tech x).active = true → (s.tech x).fnCfg f = some c → c.typ ≠ .reset →
    i.val ∈ fnInputs c → ((s.tech x).view f).st = 2 → (s.tech x).closed c.anti i b = true →
    l = (b && c.anti) → ∃ t, exec (.safetyChannelRecognised x i b l h) s = .next t ∧
    (((t.tech x).view f).st = 1 ∨ (c.cat1 = true ∧ ((t.tech x).view f).st = 3)) ∧
    ((t.tech x).view f).cause = (if b then 2 else 1) ∧ ((t.tech x).view f).needOpen = true ∧ (t.tech x).closed c.anti i b = false ∧
    (c.cat1 = false → ∀ p < 16, c.pairs.getLsbD p = true → (t.tech x).out.getLsbD p = false ∧
      (t.rd Reg.SAF_SO).getLsbD (bit x p) = false) ∧ (x = .slate → (t.rd (if b then Reg.SAF_SIB else Reg.SAF_SIA)).getLsbD i = l) ∧ State.Touch parts s t) ∧
  (∀ s x (f : Fin 32), s.Live → ((s.tech x).view f).st = 3 → ∃ t, exec (.c1StopTimer x f) s = .next t ∧
    (((t.tech x).view f).st = 1 ∨ (s.restartOk f = true ∧ ((t.tech x).view f).st = 2)) ∧
    (∀ c p, ((t.tech x).view f).st = 1 → (s.tech x).fnCfg f = some c → c.typ ≠ .reset → p < 16 → c.pairs.getLsbD p = true →
      (t.tech x).out.getLsbD p = false) ∧ State.Touch parts s t) ∧
  (∀ s x (f : Fin 32) c, s.Live → (s.tech x).fnCfg f = some c → c.typ ≠ .reset → (s.tech x).active = true →
    (s.tech x).disagrees c = true → ((s.tech x).view f).st ≠ 0 → ∃ t, exec (.discrepancyLatch x f) s = .next t ∧
    ((t.tech x).view f).st = 4 ∧ ((t.tech x).view f).cause = 5 ∧ ((t.tech x).view f).faults.getLsbD 5 = true ∧
    cellsGet 0 t.saf.reported f = 4 ∧ (cellsGet 0 s.saf.reported f ≠ 4 → ∃ e ∈ t.recd.port, e.code = 0x3803) ∧
    State.Touch parts s t) ∧
  (∀ s x (f : Fin 32) c, s.Live → (s.tech x).fnCfg f = some c → c.typ = .twoHand → ((s.tech x).view f).st = 1 →
    Bool.xor ((s.tech x).bothClosed c c.inp) ((s.tech x).bothClosed c (c.inp + 1)) = true →
    ((s.tech x).view f).rel0 = true → ((s.tech x).view f).rel1 = true → ∃ t, exec (.twoHandSyncTimeout x f) s = .next t ∧
    (t.tech x).view f = { (s.tech x).view f with cause := 7, rel0 := false, rel1 := false } ∧
    (((s.tech (otherTech x)).view f).cause ≠ 7 → (∃ e ∈ t.recd.port, e.code = 0x3805) ∧ t.get Fld.SAF_LAST_FUNC = f ∧
      t.get Fld.SAF_LAST_CAUSE = 7) ∧ State.Touch parts s t) ∧
  (∀ s (k : Fin 8), s.Live → s.ownsTp k = true → ∃ t, exec (.tpPulseStart k) s = .next t ∧
    t.saf = { s.saf with tpLow := s.saf.tpLow ||| BitVec.ofNat 8 (2 ^ k.val) } ∧ s.keeps t [] ∧ State.Touch [.saf] s t) ∧
  (∀ s (k : Fin 8), s.Live → s.ownsTp k = false → ∃ t, exec (.tpPulseStart k) s = .next t ∧ t.rest = s.rest ∧ s.keeps t []) ∧
  (∀ s x (k : Fin 8) a b (f : Fin 32) c, s.Live → s.saf.tpLow.getLsbD k = true → (s.tech x).fnCfg f = some c → c.typ ≠ .reset →
    s.ownsCode c.owner = true → ((s.tech x).view f).st ≠ 0 → (s.tech x).closed c.anti c.inp false = true → c.tpA = some k.val →
    a.getLsbD c.inp = true → ∃ t, exec (.tpPulseSample k a b) s = .next t ∧ t.saf.tpLow.getLsbD k = false ∧
    ((t.tech x).view f).st = 4 ∧ ((t.tech x).view f).cause = 6 ∧ ((t.tech x).view f).faults.getLsbD 6 = true ∧
    State.Touch parts s t) ∧
  (∀ s x (p : Fin 16) c, s.Live → (s.tech x).table = some c → c.opt.getD p true = true → (s.tech x).out.getLsbD p = true → ∃ t,
    exec (.offPulseTest x p) s = .next t ∧ (t.tech x).pulse.getLsbD p = (t.tech x).out.getLsbD p ∧
    (t.rd Reg.SAF_SO).getLsbD (bit x p) = false ∧ State.Touch parts s t) ∧
  (∀ s x (p : Fin 16) (off : Bool), s.Live → (s.tech x).pulse.getLsbD p = true → ∃ t, exec (.offPulseEnd x p off) s = .next t ∧
    (t.tech x).pulse.getLsbD p = false ∧ (off = true → (t.rd Reg.SAF_SO).getLsbD (bit x p) = (t.tech x).out.getLsbD p) ∧
    (off = false → ∀ y, ∀ f ∈ (s.tech y).mapped p, ((s.tech y).view f).st ≠ 0 → ((t.tech y).view f).st = 4 ∧
      ((t.tech y).view f).faults.getLsbD 8 = true) ∧ State.Touch parts s t) ∧
  (∀ s x (p : Fin 16) (l : Bool), s.Live → (s.tech x).active = true →
    l ≠ ((s.tech x).out.getLsbD p && !(s.tech x).pulse.getLsbD p) → ∃ t, exec (.outputReadbackFault x p l) s = .next t ∧
    t.get (readBack x p) = l.toNat ∧ (∀ y, ∀ f ∈ (s.tech y).mapped p, ((s.tech y).view f).st ≠ 0 →
      ((t.tech y).view f).st = 4 ∧ ((t.tech y).view f).faults.getLsbD 8 = true) ∧ State.Touch parts s t) ∧
  (∀ s x (p : Fin 16), s.Live → (s.tech x).out.getLsbD p = false ∨ (s.tech x).pulse.getLsbD p = true → ∃ t,
    exec (.chargePumpDeenergise x p) s = .next t ∧ t.get (readBack x p) = 0 ∧ s.keeps t [Reg.SAF_SORB, Reg.SAF_STAT] ∧
    t.rest = s.rest) ∧
  (∀ s, s.Live → s.saf.slate.active = true → s.saf.cobalt.active = true →
    (∀ y f, ((s.tech y).view f).untold = 0) → ∃ t, exec .cobaltCycle s = .next t ∧
    t.saf.slate.rxOn = pairMask s.saf.cobalt.permits ∧ t.saf.slate.rxHold = pairMask s.saf.cobalt.holds ∧
    t.saf.cobalt.rxOn = pairMask s.saf.slate.permits ∧ t.saf.cobalt.rxHold = pairMask s.saf.slate.holds ∧
    State.Touch parts s t) ∧
  (∀ s x (f : Fin 32), s.Live → s.saf.slate.active = true → s.saf.cobalt.active = true → f.val ∈ (s.tech x).governing →
    ((s.tech x).view f).untold.getLsbD 5 = true → ((s.tech (otherTech x)).view f).faults.getLsbD 5 = false →
    ((s.tech (otherTech x)).view f).st ≠ 0 → ∃ t, exec .cobaltCycle s = .next t ∧ ((t.tech (otherTech x)).view f).st = 4 ∧
    ((t.tech (otherTech x)).view f).faults.getLsbD 5 = true ∧ ((t.tech x).view f).untold = 0)
/-- R278, R298, R300 to R303, R306: a clock, cross-check or self-test fault takes every declared function that governs a pair; HOLD, by
register or command, stops every such function that runs or is stopping, and its release alone restarts none; SAFETY_RELOAD is accepted
with HOLD in force and the part safe, and takes Cobalt out of use; Slate's new table starts its functions STOPPED, unless a lasting
fault is kept, and Cobalt's too, once its boot has compared the two tables; a reload that is not ready in time ends. Rests on choices
and readings of the model's own: log entry 55. -/
def Obligations.SafetyHoldsAndReloads : Prop :=
  let parts : List Part := [.mgt, .chans, .alc, .can, .eth, .ana, .srv, .saf, .port]
  let faulted := fun (s t : State) (y : Tech) (k : Nat) => ∀ f ∈ (s.tech y).governing, ((s.tech y).view f).st ≠ 0 →
    ((t.tech y).view f).st = 4 ∧ ((t.tech y).view f).faults.getLsbD k = true
  let held := fun (s t : State) => t.get Fld.SAF_STAT_HOLD = 1 ∧ t.rd Reg.SAF_SO = 0 ∧ t.saf.slate.out = 0 ∧ t.saf.cobalt.out = 0 ∧
    (∃ e ∈ t.recd.port, e.code = 0x3806) ∧ ∀ y, ∀ f ∈ (s.tech y).governing,
      ((s.tech y).view f).st = 2 ∨ ((s.tech y).view f).st = 3 → ((t.tech y).view f).st = 1 ∧ ((t.tech y).view f).needEdge = true ∧
      (((s.tech y).view f).st = 2 → ((t.tech y).view f).cause = 4)
  let ended := fun (s t : State) => t.get Fld.SAF_STAT_HOLD = 0 ∧ (∃ e ∈ t.recd.port, e.code = 0x3806) ∧
    ∀ y, ∀ f ∈ (s.tech y).governing, ((t.tech y).view f).st = ((s.tech y).view f).st ∧ ((t.tech y).view f).needEdge = true
  (∀ s, s.Live → s.saf.slate.active = true → ∃ t, exec (.tickCrossCheck true) s = .next t ∧ t.get Fld.SAF_STAT_CLK_OK = 0 ∧
    (∀ y, faulted s t y 12) ∧ State.Touch parts s t) ∧
  (∀ s, s.Live → ∃ t, exec (.tickCrossCheck false) s = .next t ∧ t.rest = s.rest ∧ s.keeps t []) ∧
  (∀ s, s.Live → s.saf.slate.active = true → s.saf.cobalt.active = true → ∃ t, exec (.xcheckFault true) s = .next t ∧
    (∀ y, faulted s t y 9) ∧ State.Touch parts s t) ∧
  (∀ s x, s.Live → (s.tech x).active = true → ∃ t, exec (.selftestFail x) s = .next t ∧ (t.tech x).ok = false ∧
    (t.tech x).out = 0 ∧ t.get (match x with | .slate => Fld.SAF_STAT_SLATE_OK | .cobalt => Fld.SAF_STAT_COBALT_OK) = 0 ∧
    (x = .cobalt → t.get Fld.SAF_STAT_COBALT_STATE = 2) ∧ faulted s t x 10 ∧ faulted s t (otherTech x) 9 ∧ State.Touch parts s t) ∧
  (∀ s, s.Live → s.get Fld.SAF_STAT_HOLD = 0 → ∃ t, exec .safCtrlHold s = .next t ∧ held s t ∧ State.Touch parts s t) ∧
  (∀ s, s.Live → s.get Fld.SAF_STAT_HOLD = 1 → ∃ t, exec .safCtrlRelease s = .next t ∧ ended s t ∧ State.Touch parts s t) ∧
  (∀ s (r : Req), s.Live → s.Accepts r 3 (cmdBody 0x50 []) → s.get Fld.SAF_STAT_HOLD = 0 → ∃ t, exec (.safeHold r) s = .next t ∧
    s.Answered t r (respOk []) ∧ held s t ∧ State.Touch parts s t) ∧
  (∀ s (r : Req), s.Live → s.Accepts r 3 (cmdBody 0x51 []) → s.get Fld.SAF_STAT_HOLD = 1 → ∃ t,
    exec (.safeRelease r) s = .next t ∧ s.Answered t r (respOk []) ∧ ended s t ∧ State.Touch parts s t) ∧
  (∀ s (r : Req), s.Live → s.Accepts r 3 (cmdBody 0x51 []) → s.get Fld.SAF_STAT_HOLD = 0 → ∃ t,
    exec (.safeRelease r) s = .next t ∧ s.Answered t r (respOk []) ∧ s.keeps t [Reg.MGT_CNT1, Reg.MGT_STAT] ∧
    State.Touch [.mgt] s t) ∧
  (∀ s, s.Live → ∃ t, exec .safCntClr s = .next t ∧ t.rd Reg.SAF_CNT = 0 ∧ s.keeps t [Reg.SAF_CNT] ∧ t.rest = s.rest) ∧
  (∀ s (r : Req) (w b : Byte), s.Live → s.Accepts r 3 (cmdBody 0x52 [w, b, 0, 0]) → w ≠ 0 → w.toNat ≤ 3 → s.bankOk b.toNat = true → ∃ t,
    exec (.safetyReload r w b) s = .next t ∧
    (if s.get Fld.SAF_STAT_HOLD = 1 ∧ s.get Fld.SAF_STAT_SAFE = 1 then s.Answered t r (respPending []) ∧
      t.saf = { s.saf with cobalt := { s.saf.cobalt with active := false }, reload := some (w.toNat, reqRef r 0x0052) } ∧
      t.get Fld.SAF_STAT_COBALT_STATE = 0 ∧ t.get Fld.SAF_STAT_READY = 0 ∧ t.get Fld.SAF_STAT_CFG_MATCH = 0 ∧
      s.keeps t [Reg.SAF_STAT, Reg.MGT_CNT1, Reg.MGT_STAT]
    else s.Answered t r (respRefused 1) ∧ t.saf = s.saf ∧ t.get Fld.SAF_STAT_REFUSED = 1 ∧
      s.keeps t [Reg.SAF_STAT, Reg.SYS_REFADDR, Reg.SYS_REFINFO, Reg.MGT_CNT1, Reg.MGT_STAT]) ∧ State.Touch [.saf, .mgt] s t) ∧
  (∀ s (r : Req) (w b : Byte), s.Live → s.Accepts r 3 (cmdBody 0x52 [w, b, 0, 0]) → w = 0 ∨ 3 < w.toNat ∨ s.bankOk b.toNat = false →
    ∃ t, exec (.safetyReload r w b) s = .next t ∧ t.saf = s.saf ∧
    (if w = 0 ∨ 3 < w.toNat then s.Answered t r (respStatus 3 0) ∧ s.keeps t [Reg.MGT_CNT1, Reg.MGT_STAT]
    else s.Answered t r (respRefused 3) ∧ t.get Fld.IMG_STAT_REFUSED = 1 ∧ t.get Fld.IMG_STAT_REF_CODE = 3 ∧
      s.keeps t [Reg.IMG_STAT, Reg.SYS_REFADDR, Reg.SYS_REFINFO, Reg.MGT_CNT1, Reg.MGT_STAT]) ∧ State.Touch [.mgt] s t) ∧
  (∀ s c q, s.Live → s.saf.reload = some (1, q) → ∃ t, exec (.slateReloadDone c) s = .next t ∧ t.saf.slate.table = some c ∧
    t.saf.slate.out = 0 ∧ t.saf.slate.active = true ∧ (∀ f < 32, ∀ y, c.fns.getD f none = some y → y.typ ≠ .reset →
      if (s.saf.slate.view f).faults &&& 0x0100 = 0 ∧ s.saf.slate.lasting = 0 then t.saf.slate.view f = { st := 1, cause := 13 }
      else (t.saf.slate.view f).st = 4) ∧ t.saf.cobalt = s.saf.cobalt ∧
    State.Touch [.saf, .alc, .chans, .srv, .port] s t) ∧
  (∀ s w q, s.Live → s.saf.reload = some (w, q) → s.get Fld.SAF_STAT_READY = 0 → ∃ t, exec .safetyReloadTimeout s = .next t ∧
    t.saf = { s.saf with reload := none } ∧ s.keeps t [Reg.MGT_CNT1, Reg.MGT_STAT] ∧ State.Touch [.saf, .mgt] s t) ∧
  (∀ s c d (a b : Byte), s.Live → s.get Fld.SAF_STAT_COBALT_STATE = 0 → s.saf.slate.table = some d → ∃ t,
    exec (.cobaltBootDone true c a b) s = .next t ∧ (s.saf.cobalt.table = none ∨ s.saf.cobalt.ok = true →
      t.get Fld.SAF_STAT_COBALT_STATE = 1 ∧ t.get Fld.SAF_STAT_COBALT_OK = 1) ∧
    (s.saf.cobalt.table ≠ none → s.saf.cobalt.ok = false → t.get Fld.SAF_STAT_COBALT_STATE = 2 ∧ t.get Fld.SAF_STAT_COBALT_OK = 0) ∧
    t.get Fld.SAF_VER_FW_MAJOR = a.toNat ∧ t.get Fld.SAF_VER_FW_MINOR = b.toNat ∧ t.saf.cobalt.table = some c ∧
    t.saf.cobalt.active = true ∧ t.saf.cobalt.out = 0 ∧
    (if d.crc = c.crc then t.get Fld.SAF_STAT_CFG_MATCH = 1 ∧ t.get Fld.SAF_STAT_READY = 1 ∧ 10 ≤ t.get Fld.SYS_STAT_START ∧
      ∀ f < 32, ∀ y, c.fns.getD f none = some y → y.typ ≠ .reset → (s.saf.cobalt.view f).faults &&& 0x0100 = 0 →
        s.saf.cobalt.lasting = 0 → (t.saf.cobalt.view f).st = 1 ∨ ((t.saf.cobalt.view f).st = 2 ∧ s.get Fld.SAF_STAT_HOLD = 0)
    else t.get Fld.SAF_STAT_CFG_MATCH = 0 ∧ t.get Fld.SAF_STAT_READY = 0 ∧
      (∀ f < 32, ∀ y, c.fns.getD f none = some y → y.typ ≠ .reset → (t.saf.cobalt.view f).st = 4 ∧
        (t.saf.cobalt.view f).faults.getLsbD 11 = true)) ∧ State.Touch parts s t) ∧
  (∀ s c (a b : Byte), s.Live → ∃ t, exec (.cobaltBootDone false c a b) s = .next t ∧ t.rest = s.rest ∧ s.keeps t [])
end

