-- ==== Sys2Proof/Laws/Cells.lean ====
section
/-!
SUPPORT. Sys2Proof/Laws/Cells.lean: the laws of sparse maps: a read after a write, and that writes keep the canonical form.
-/
namespace Sys2Proof.Machine
variable {α : Type}

@[simp] theorem cellsGet_nil (d : α) (k : Nat) : cellsGet d [] k = d := rfl

@[simp] theorem cellsGet_insert_self (d v : α) (m : Cells α) (a : Nat) : cellsGet d (cellsInsert a v m) a = v := by
  induction m with
  | nil => simp [cellsInsert, cellsGet]
  | cons e t ih =>
    obtain ⟨k, w⟩ := e
    unfold cellsInsert
    split
    · simp [cellsGet]
    · split
      · simp [cellsGet]
      · next h => simp [cellsGet, h, ih]

theorem cellsGet_insert_ne (d v : α) (m : Cells α) {a b : Nat} (h : b ≠ a) :
    cellsGet d (cellsInsert a v m) b = cellsGet d m b := by
  induction m with
  | nil => simp [cellsInsert, cellsGet, h]
  | cons e t ih =>
    obtain ⟨k, w⟩ := e
    unfold cellsInsert
    split
    · simp [cellsGet, h]
    · split
      · next h2 => subst h2; simp [cellsGet, h]
      · simp [cellsGet, ih]

@[simp] theorem cellsGet_filter_self (d : α) (m : Cells α) (a : Nat) :
    cellsGet d (m.filter (fun e => decide (e.1 ≠ a))) a = d := by
  induction m with
  | nil => rfl
  | cons e t ih =>
    obtain ⟨k, w⟩ := e
    by_cases h : k = a
    · simpa [List.filter_cons, h] using ih
    · have h' : ¬ a = k := fun x => h x.symm
      simpa [List.filter_cons, h, h', cellsGet] using ih

theorem cellsGet_filter_ne (d : α) (m : Cells α) {a b : Nat} (h : b ≠ a) :
    cellsGet d (m.filter (fun e => decide (e.1 ≠ a))) b = cellsGet d m b := by
  induction m with
  | nil => rfl
  | cons e t ih =>
    obtain ⟨k, w⟩ := e
    by_cases hk : k = a
    · subst hk; simpa [List.filter_cons, cellsGet, h] using ih
    · have e1 : (((k, w) : Nat × α) :: t).filter (fun e => decide (e.1 ≠ a)) = (k, w) :: t.filter (fun e => decide (e.1 ≠ a)) := by
        simp [hk]
      rw [e1]
      simp only [cellsGet, ih]

theorem cellsInsert_mem (a : Nat) (v : α) (m : Cells α) (e : Nat × α) (h : e ∈ cellsInsert a v m) : e = (a, v) ∨ e ∈ m := by
  induction m with
  | nil => simpa [cellsInsert] using h
  | cons x t ih =>
    obtain ⟨k, w⟩ := x
    unfold cellsInsert at h
    split at h
    · simpa using h
    · split at h
      · rcases List.mem_cons.mp h with h | h
        · exact .inl h
        · exact .inr (List.mem_cons_of_mem _ h)
      · rcases List.mem_cons.mp h with h | h
        · exact .inr (by simp [h])
        · rcases ih h with h | h
          · exact .inl h
          · exact .inr (List.mem_cons_of_mem _ h)

theorem cellsInsert_rising (a : Nat) (v : α) (m : Cells α) (h : m.Pairwise (fun x y => x.1 < y.1)) :
    (cellsInsert a v m).Pairwise (fun x y => x.1 < y.1) := by
  induction m with
  | nil => simp [cellsInsert]
  | cons x t ih =>
    obtain ⟨k, w⟩ := x
    obtain ⟨hk, ht⟩ := List.pairwise_cons.mp h
    unfold cellsInsert
    split
    · next hlt =>
      refine List.pairwise_cons.mpr ⟨fun e he => ?_, h⟩
      rcases List.mem_cons.mp he with he | he
      · simpa [he] using hlt
      · exact Nat.lt_trans hlt (hk e he)
    · next hlt =>
      split
      · next heq => subst heq; exact List.pairwise_cons.mpr ⟨fun e he => hk e he, ht⟩
      · next hne =>
        refine List.pairwise_cons.mpr ⟨fun e he => ?_, ih ht⟩
        rcases cellsInsert_mem a v t e he with he | he
        · subst he; show k < a; omega
        · exact hk e he

variable [DecidableEq α]

/-- A read after a write to the same key gives the value written. -/
@[simp] theorem cellsGet_set_self (d v : α) (m : Cells α) (a : Nat) : cellsGet d (cellsSet d m a v) a = v := by
  unfold cellsSet; split
  · next h => rw [cellsGet_filter_self]; exact h.symm
  · exact cellsGet_insert_self d v m a

/-- A write leaves every other key alone. -/
theorem cellsGet_set_ne (d v : α) (m : Cells α) {a b : Nat} (h : b ≠ a) :
    cellsGet d (cellsSet d m a v) b = cellsGet d m b := by
  unfold cellsSet; split
  · exact cellsGet_filter_ne d m h
  · exact cellsGet_insert_ne d v m h

/-- A write keeps the canonical form. -/
theorem cellsSet_wf (d : α) (m : Cells α) (a : Nat) (v : α) (h : cellsWf d m) : cellsWf d (cellsSet d m a v) := by
  obtain ⟨h1, h2⟩ := h
  unfold cellsSet; split
  · exact ⟨h1.filter _, fun e he => h2 e (List.mem_filter.mp he).1⟩
  · next hv =>
    refine ⟨cellsInsert_rising a v m h1, fun e he => ?_⟩
    rcases cellsInsert_mem a v m e he with he | he
    · subst he; exact hv
    · exact h2 e he

omit [DecidableEq α] in
/-- What reads out of a map of which only the keys of a set are left. -/
theorem cellsGet_filterKeys (d : α) (m : Cells α) (p : Nat → Bool) (a : Nat) :
    cellsGet d (m.filter (fun e => p e.1)) a = if p a then cellsGet d m a else d := by
  induction m with
  | nil => simp [cellsGet]
  | cons e t ih =>
    obtain ⟨k, w⟩ := e
    by_cases hk : p k = true
    · simp only [List.filter_cons, hk, if_true, cellsGet]
      by_cases h : a = k
      · subst h; simp [hk]
      · simp [h, ih]
    · simp only [List.filter_cons, hk, cellsGet]
      by_cases h : a = k
      · subst h; simp [hk, ih]
      · simp [h, ih]

/-- Dropping entries keeps the canonical form. -/
theorem cellsFilter_wf (d : α) (m : Cells α) (p : Nat × α → Bool) (h : cellsWf d m) : cellsWf d (m.filter p) :=
  ⟨h.1.filter _, fun e he => h.2 e (List.mem_filter.mp he).1⟩

end Sys2Proof.Machine
end

