-- ==== Sys2Proof/Laws/Regs.lean ====
section
/-!
SUPPORT. Sys2Proof/Laws/Regs.lean: the laws of the register file: a register and a field after a write, and after the shared
counters.
-/
namespace Sys2Proof.Machine

/-! Words and their fields. -/

theorem lowMask_getLsbD (n i : Nat) (h : n ≤ 32) : (lowMask n).getLsbD i = decide (i < n) := by
  unfold lowMask
  rw [BitVec.getLsbD_ofNat, Nat.testBit_two_pow_sub_one]
  by_cases hi : i < n
  · have : i < 32 := by omega
    simp [hi, this]
  · simp [hi]

theorem bitsGet_testBit (w : Word) (lo n i : Nat) (h : n ≤ 32) :
    (bitsGet w lo n).testBit i = (w.getLsbD (lo + i) && decide (i < n)) := by
  unfold bitsGet
  rw [BitVec.testBit_toNat, BitVec.getLsbD_and, lowMask_getLsbD n i h, BitVec.getLsbD_ushiftRight]

theorem bitsSet_getLsbD (w : Word) (lo n v i : Nat) (h : lo + n ≤ 32) :
    (bitsSet w lo n v).getLsbD i = if lo ≤ i ∧ i < lo + n then v.testBit (i - lo) else w.getLsbD i := by
  unfold bitsSet
  simp only [BitVec.getLsbD_or, BitVec.getLsbD_and, BitVec.getLsbD_not, BitVec.getLsbD_shiftLeft,
    lowMask_getLsbD n _ (by omega), BitVec.getLsbD_ofNat]
  by_cases h32 : i < 32
  · by_cases h1 : i < lo
    · have : ¬ lo ≤ i := by omega
      simp [h1, this, h32]
    · by_cases h2 : i < lo + n
      · have a1 : lo ≤ i := by omega
        have a2 : i - lo < n := by omega
        have a3 : i - lo < 32 := by omega
        simp [h1, h2, a1, a2, a3, h32]
      · have a2 : ¬ i - lo < n := by omega
        simp [h1, h2, a2, h32]
  · have : ¬ i < lo + n := by omega
    have hw : w.getLsbD i = false := BitVec.getLsbD_of_ge _ _ (by omega)
    simp [h32, this, hw]

/-- A field after it has been set. -/
theorem bitsGet_bitsSet_self (w : Word) (lo n v : Nat) (h : lo + n ≤ 32) : bitsGet (bitsSet w lo n v) lo n = v % 2 ^ n := by
  apply Nat.eq_of_testBit_eq; intro i
  rw [bitsGet_testBit _ _ _ _ (by omega), bitsSet_getLsbD _ _ _ _ _ h, Nat.testBit_mod_two_pow]
  by_cases hi : i < n
  · have : lo ≤ lo + i ∧ lo + i < lo + n := by omega
    simp [hi]
  · simp [hi]

/-- A field after another field of its register has been set. -/
theorem bitsGet_bitsSet_disjoint (w : Word) (lo n lo' n' v : Nat) (h : lo + n ≤ 32) (h' : n' ≤ 32)
    (hd : lo + n ≤ lo' ∨ lo' + n' ≤ lo) : bitsGet (bitsSet w lo n v) lo' n' = bitsGet w lo' n' := by
  apply Nat.eq_of_testBit_eq; intro i
  rw [bitsGet_testBit _ _ _ _ h', bitsGet_testBit _ _ _ _ h', bitsSet_getLsbD _ _ _ _ _ h]
  by_cases hi : i < n'
  · have : ¬ (lo ≤ lo' + i ∧ lo' + i < lo + n) := by omega
    simp [this]
  · simp [hi]

theorem bitsGet_lt (w : Word) (lo n : Nat) : bitsGet w lo n < 2 ^ n := by
  unfold bitsGet
  rw [BitVec.toNat_and]
  refine Nat.lt_of_le_of_lt Nat.and_le_right ?_
  unfold lowMask
  have : 0 < 2 ^ n := Nat.two_pow_pos n
  rw [BitVec.toNat_ofNat]
  exact Nat.lt_of_le_of_lt (Nat.mod_le _ _) (by omega)

/-- Setting a field to the value it has changes nothing. -/
theorem bitsSet_bitsGet (w : Word) (lo n : Nat) (h : lo + n ≤ 32) : bitsSet w lo n (bitsGet w lo n) = w := by
  apply BitVec.eq_of_getLsbD_eq; intro i hi
  rw [bitsSet_getLsbD _ _ _ _ _ h]
  split
  · next hc =>
    rw [bitsGet_testBit _ _ _ _ (by omega)]
    have h1 : lo + (i - lo) = i := by omega
    have h2 : i - lo < n := by omega
    simp [h1, h2]
  · rfl

theorem bitsSet_mod (w : Word) (lo n v : Nat) (h : lo + n ≤ 32) : bitsSet w lo n (v % 2 ^ n) = bitsSet w lo n v := by
  apply BitVec.eq_of_getLsbD_eq; intro i hi
  rw [bitsSet_getLsbD _ _ _ _ _ h, bitsSet_getLsbD _ _ _ _ _ h]
  split
  · rw [Nat.testBit_mod_two_pow]
    have : i - lo < n := by omega
    simp [this]
  · rfl

/-! Registers. -/

/-- A register reads as it was written. -/
@[simp] theorem State.rd_wr_self (s : State) (a : Nat) (v : Word) : (s.wr a v).rd a = v := by
  unfold State.rd State.wr
  rw [cellsGet_set_self, BitVec.xor_assoc, BitVec.xor_self, BitVec.xor_zero]

/-- A register write leaves every other register alone. -/
theorem State.rd_wr_ne (s : State) {a b : Nat} (v : Word) (h : b ≠ a) : (s.wr a v).rd b = s.rd b := by
  unfold State.rd State.wr
  rw [cellsGet_set_ne _ _ _ h]

/-- Two states with one register file read alike. -/
theorem State.rd_of_regs {s t : State} (h : t.regs = s.regs) (a : Nat) : t.rd a = s.rd a := by
  unfold State.rd; rw [h]

theorem State.get_of_regs {s t : State} (h : t.regs = s.regs) (f : Field) : t.get f = s.get f := by
  unfold State.get; rw [State.rd_of_regs h]

theorem State.get_of_rd {s t : State} (f : Field) (h : t.rd f.addr = s.rd f.addr) : t.get f = s.get f := by
  unfold State.get; rw [h]

theorem State.get_lt (s : State) (f : Field) : s.get f < 2 ^ f.width := bitsGet_lt _ _ _

theorem State.rd_set_ne (s : State) (f : Field) (v : Nat) {a : Nat} (h : a ≠ f.addr) : (s.set f v).rd a = s.rd a :=
  State.rd_wr_ne s _ h

theorem State.rd_set_self (s : State) (f : Field) (v : Nat) :
    (s.set f v).rd f.addr = bitsSet (s.rd f.addr) f.lo f.width v := State.rd_wr_self s _ _

/-- A field reads as it was set, modulo its width. -/
theorem State.get_set_self (s : State) (f : Field) (v : Nat) (h : f.lo + f.width ≤ 32) :
    (s.set f v).get f = v % 2 ^ f.width := by
  unfold State.get; rw [State.rd_set_self, bitsGet_bitsSet_self _ _ _ _ h]

/-- Setting a field leaves the fields of other registers alone. -/
theorem State.get_set_ne (s : State) (f g : Field) (v : Nat) (h : g.addr ≠ f.addr) : (s.set f v).get g = s.get g := by
  unfold State.get; rw [State.rd_set_ne s f v h]

/-- Setting a field leaves the other fields of its register alone. -/
theorem State.get_set_disjoint (s : State) (f g : Field) (v : Nat) (h : f.lo + f.width ≤ 32) (hg : g.width ≤ 32)
    (hd : f.lo + f.width ≤ g.lo ∨ g.lo + g.width ≤ f.lo) : (s.set f v).get g = s.get g := by
  by_cases ha : g.addr = f.addr
  · unfold State.get; rw [ha, State.rd_set_self, bitsGet_bitsSet_disjoint _ _ _ _ _ _ h hg hd]
  · exact State.get_set_ne s f g v ha

theorem State.get_wr_ne (s : State) (f : Field) {a : Nat} (v : Word) (h : f.addr ≠ a) : (s.wr a v).get f = s.get f := by
  unfold State.get; rw [State.rd_wr_ne s v h]

theorem State.get_wr_self (s : State) (f : Field) (v : Word) : (s.wr f.addr v).get f = bitsGet v f.lo f.width := by
  unfold State.get; rw [State.rd_wr_self]

theorem State.get_setBit_self (s : State) (f : Field) (b : Bool) (h : f.lo + f.width ≤ 32) (h1 : f.width = 1) :
    (s.setBit f b).get f = b.toNat := by
  unfold State.setBit; rw [State.get_set_self _ _ _ h, h1]; cases b <;> rfl

/-- A saturating counter after one count. -/
theorem State.get_count_self (s : State) (f : Field) (h : f.lo + f.width ≤ 32) :
    (s.count f).get f = min (s.get f + 1) (2 ^ f.width - 1) := by
  unfold State.count; rw [State.get_set_self _ _ _ h]
  have : 0 < 2 ^ f.width := Nat.two_pow_pos _
  exact Nat.mod_eq_of_lt (by omega)

theorem State.rd_count_ne (s : State) (f : Field) {a : Nat} (h : a ≠ f.addr) : (s.count f).rd a = s.rd a :=
  State.rd_set_ne s f _ h

/-! The fields that mirror other state. -/

theorem State.rd_mirror (s : State) {a : Nat} (h1 : a ≠ Reg.MGT_STAT) (h2 : a ≠ Reg.SAF_STAT) (h3 : a ≠ Reg.IMG_STAT) :
    s.mirror.rd a = s.rd a := by
  unfold State.mirror State.mirrorMgt State.mirrorSafe State.mirrorImg State.setBit
  rw [State.rd_set_ne _ _ _ h3, State.rd_set_ne _ _ _ h3, State.rd_set_ne _ _ _ h2, State.rd_set_ne _ _ _ h1,
    State.rd_set_ne _ _ _ h1, State.rd_set_ne _ _ _ h1]

end Sys2Proof.Machine
end

