-- ==== Sys2Proof/Laws/State.lean ====
section
/-!
SUPPORT. Sys2Proof/Laws/State.lean: which fields of the state the shared updates leave alone, one lemma for each field and
update, and the fields that they change.
-/
namespace Sys2Proof.Machine

/-! wr. -/

@[simp] theorem State.wr_nvm0 (s : State) (a : Nat) (v : Word) : (s.wr a v).nvm0 = s.nvm0 := rfl
@[simp] theorem State.wr_nvm1 (s : State) (a : Nat) (v : Word) : (s.wr a v).nvm1 = s.nvm1 := rfl
@[simp] theorem State.wr_omem (s : State) (a : Nat) (v : Word) : (s.wr a v).omem = s.omem := rfl
@[simp] theorem State.wr_keyStore (s : State) (a : Nat) (v : Word) : (s.wr a v).keyStore = s.keyStore := rfl
@[simp] theorem State.wr_cfg (s : State) (a : Nat) (v : Word) : (s.wr a v).cfg = s.cfg := rfl
@[simp] theorem State.wr_aon (s : State) (a : Nat) (v : Word) : (s.wr a v).aon = s.aon := rfl
@[simp] theorem State.wr_rst (s : State) (a : Nat) (v : Word) : (s.wr a v).rst = s.rst := rfl
@[simp] theorem State.wr_clk (s : State) (a : Nat) (v : Word) : (s.wr a v).clk = s.clk := rfl
@[simp] theorem State.wr_tb (s : State) (a : Nat) (v : Word) : (s.wr a v).tb = s.tb := rfl
@[simp] theorem State.wr_img (s : State) (a : Nat) (v : Word) : (s.wr a v).img = s.img := rfl
@[simp] theorem State.wr_recd (s : State) (a : Nat) (v : Word) : (s.wr a v).recd = s.recd := rfl
@[simp] theorem State.wr_mgt (s : State) (a : Nat) (v : Word) : (s.wr a v).mgt = s.mgt := rfl
@[simp] theorem State.wr_frame (s : State) (a : Nat) (v : Word) : (s.wr a v).frame = s.frame := rfl
@[simp] theorem State.wr_chans (s : State) (a : Nat) (v : Word) : (s.wr a v).chans = s.chans := rfl
@[simp] theorem State.wr_fab (s : State) (a : Nat) (v : Word) : (s.wr a v).fab = s.fab := rfl
@[simp] theorem State.wr_fus (s : State) (a : Nat) (v : Word) : (s.wr a v).fus = s.fus := rfl
@[simp] theorem State.wr_ctl (s : State) (a : Nat) (v : Word) : (s.wr a v).ctl = s.ctl := rfl
@[simp] theorem State.wr_slv (s : State) (a : Nat) (v : Word) : (s.wr a v).slv = s.slv := rfl
@[simp] theorem State.wr_alc (s : State) (a : Nat) (v : Word) : (s.wr a v).alc = s.alc := rfl
@[simp] theorem State.wr_can (s : State) (a : Nat) (v : Word) : (s.wr a v).can = s.can := rfl
@[simp] theorem State.wr_eth (s : State) (a : Nat) (v : Word) : (s.wr a v).eth = s.eth := rfl
@[simp] theorem State.wr_ana (s : State) (a : Nat) (v : Word) : (s.wr a v).ana = s.ana := rfl
@[simp] theorem State.wr_srv (s : State) (a : Nat) (v : Word) : (s.wr a v).srv = s.srv := rfl
@[simp] theorem State.wr_saf (s : State) (a : Nat) (v : Word) : (s.wr a v).saf = s.saf := rfl
@[simp] theorem State.wr_grp (s : State) (a : Nat) (v : Word) : (s.wr a v).grp = s.grp := rfl
@[simp] theorem State.wr_freeCtr (s : State) (a : Nat) (v : Word) : (s.wr a v).freeCtr = s.freeCtr := rfl
@[simp] theorem State.wr_pending (s : State) (a : Nat) (v : Word) : (s.wr a v).pending = s.pending := rfl
@[simp] theorem State.wr_base (s : State) (a : Nat) (v : Word) : (s.wr a v).base = s.base := rfl

/-! set. -/

@[simp] theorem State.set_nvm0 (s : State) (f : Field) (v : Nat) : (s.set f v).nvm0 = s.nvm0 := rfl
@[simp] theorem State.set_nvm1 (s : State) (f : Field) (v : Nat) : (s.set f v).nvm1 = s.nvm1 := rfl
@[simp] theorem State.set_omem (s : State) (f : Field) (v : Nat) : (s.set f v).omem = s.omem := rfl
@[simp] theorem State.set_keyStore (s : State) (f : Field) (v : Nat) : (s.set f v).keyStore = s.keyStore := rfl
@[simp] theorem State.set_cfg (s : State) (f : Field) (v : Nat) : (s.set f v).cfg = s.cfg := rfl
@[simp] theorem State.set_aon (s : State) (f : Field) (v : Nat) : (s.set f v).aon = s.aon := rfl
@[simp] theorem State.set_rst (s : State) (f : Field) (v : Nat) : (s.set f v).rst = s.rst := rfl
@[simp] theorem State.set_clk (s : State) (f : Field) (v : Nat) : (s.set f v).clk = s.clk := rfl
@[simp] theorem State.set_tb (s : State) (f : Field) (v : Nat) : (s.set f v).tb = s.tb := rfl
@[simp] theorem State.set_img (s : State) (f : Field) (v : Nat) : (s.set f v).img = s.img := rfl
@[simp] theorem State.set_recd (s : State) (f : Field) (v : Nat) : (s.set f v).recd = s.recd := rfl
@[simp] theorem State.set_mgt (s : State) (f : Field) (v : Nat) : (s.set f v).mgt = s.mgt := rfl
@[simp] theorem State.set_frame (s : State) (f : Field) (v : Nat) : (s.set f v).frame = s.frame := rfl
@[simp] theorem State.set_chans (s : State) (f : Field) (v : Nat) : (s.set f v).chans = s.chans := rfl
@[simp] theorem State.set_fab (s : State) (f : Field) (v : Nat) : (s.set f v).fab = s.fab := rfl
@[simp] theorem State.set_fus (s : State) (f : Field) (v : Nat) : (s.set f v).fus = s.fus := rfl
@[simp] theorem State.set_ctl (s : State) (f : Field) (v : Nat) : (s.set f v).ctl = s.ctl := rfl
@[simp] theorem State.set_slv (s : State) (f : Field) (v : Nat) : (s.set f v).slv = s.slv := rfl
@[simp] theorem State.set_alc (s : State) (f : Field) (v : Nat) : (s.set f v).alc = s.alc := rfl
@[simp] theorem State.set_can (s : State) (f : Field) (v : Nat) : (s.set f v).can = s.can := rfl
@[simp] theorem State.set_eth (s : State) (f : Field) (v : Nat) : (s.set f v).eth = s.eth := rfl
@[simp] theorem State.set_ana (s : State) (f : Field) (v : Nat) : (s.set f v).ana = s.ana := rfl
@[simp] theorem State.set_srv (s : State) (f : Field) (v : Nat) : (s.set f v).srv = s.srv := rfl
@[simp] theorem State.set_saf (s : State) (f : Field) (v : Nat) : (s.set f v).saf = s.saf := rfl
@[simp] theorem State.set_grp (s : State) (f : Field) (v : Nat) : (s.set f v).grp = s.grp := rfl
@[simp] theorem State.set_freeCtr (s : State) (f : Field) (v : Nat) : (s.set f v).freeCtr = s.freeCtr := rfl
@[simp] theorem State.set_pending (s : State) (f : Field) (v : Nat) : (s.set f v).pending = s.pending := rfl
@[simp] theorem State.set_base (s : State) (f : Field) (v : Nat) : (s.set f v).base = s.base := rfl

/-! setBit. -/

@[simp] theorem State.setBit_nvm0 (s : State) (f : Field) (b : Bool) : (s.setBit f b).nvm0 = s.nvm0 := rfl
@[simp] theorem State.setBit_nvm1 (s : State) (f : Field) (b : Bool) : (s.setBit f b).nvm1 = s.nvm1 := rfl
@[simp] theorem State.setBit_omem (s : State) (f : Field) (b : Bool) : (s.setBit f b).omem = s.omem := rfl
@[simp] theorem State.setBit_keyStore (s : State) (f : Field) (b : Bool) : (s.setBit f b).keyStore = s.keyStore := rfl
@[simp] theorem State.setBit_cfg (s : State) (f : Field) (b : Bool) : (s.setBit f b).cfg = s.cfg := rfl
@[simp] theorem State.setBit_aon (s : State) (f : Field) (b : Bool) : (s.setBit f b).aon = s.aon := rfl
@[simp] theorem State.setBit_rst (s : State) (f : Field) (b : Bool) : (s.setBit f b).rst = s.rst := rfl
@[simp] theorem State.setBit_clk (s : State) (f : Field) (b : Bool) : (s.setBit f b).clk = s.clk := rfl
@[simp] theorem State.setBit_tb (s : State) (f : Field) (b : Bool) : (s.setBit f b).tb = s.tb := rfl
@[simp] theorem State.setBit_img (s : State) (f : Field) (b : Bool) : (s.setBit f b).img = s.img := rfl
@[simp] theorem State.setBit_recd (s : State) (f : Field) (b : Bool) : (s.setBit f b).recd = s.recd := rfl
@[simp] theorem State.setBit_mgt (s : State) (f : Field) (b : Bool) : (s.setBit f b).mgt = s.mgt := rfl
@[simp] theorem State.setBit_frame (s : State) (f : Field) (b : Bool) : (s.setBit f b).frame = s.frame := rfl
@[simp] theorem State.setBit_chans (s : State) (f : Field) (b : Bool) : (s.setBit f b).chans = s.chans := rfl
@[simp] theorem State.setBit_fab (s : State) (f : Field) (b : Bool) : (s.setBit f b).fab = s.fab := rfl
@[simp] theorem State.setBit_fus (s : State) (f : Field) (b : Bool) : (s.setBit f b).fus = s.fus := rfl
@[simp] theorem State.setBit_ctl (s : State) (f : Field) (b : Bool) : (s.setBit f b).ctl = s.ctl := rfl
@[simp] theorem State.setBit_slv (s : State) (f : Field) (b : Bool) : (s.setBit f b).slv = s.slv := rfl
@[simp] theorem State.setBit_alc (s : State) (f : Field) (b : Bool) : (s.setBit f b).alc = s.alc := rfl
@[simp] theorem State.setBit_can (s : State) (f : Field) (b : Bool) : (s.setBit f b).can = s.can := rfl
@[simp] theorem State.setBit_eth (s : State) (f : Field) (b : Bool) : (s.setBit f b).eth = s.eth := rfl
@[simp] theorem State.setBit_ana (s : State) (f : Field) (b : Bool) : (s.setBit f b).ana = s.ana := rfl
@[simp] theorem State.setBit_srv (s : State) (f : Field) (b : Bool) : (s.setBit f b).srv = s.srv := rfl
@[simp] theorem State.setBit_saf (s : State) (f : Field) (b : Bool) : (s.setBit f b).saf = s.saf := rfl
@[simp] theorem State.setBit_grp (s : State) (f : Field) (b : Bool) : (s.setBit f b).grp = s.grp := rfl
@[simp] theorem State.setBit_freeCtr (s : State) (f : Field) (b : Bool) : (s.setBit f b).freeCtr = s.freeCtr := rfl
@[simp] theorem State.setBit_pending (s : State) (f : Field) (b : Bool) : (s.setBit f b).pending = s.pending := rfl
@[simp] theorem State.setBit_base (s : State) (f : Field) (b : Bool) : (s.setBit f b).base = s.base := rfl

/-! count. -/

@[simp] theorem State.count_nvm0 (s : State) (f : Field) : (s.count f).nvm0 = s.nvm0 := rfl
@[simp] theorem State.count_nvm1 (s : State) (f : Field) : (s.count f).nvm1 = s.nvm1 := rfl
@[simp] theorem State.count_omem (s : State) (f : Field) : (s.count f).omem = s.omem := rfl
@[simp] theorem State.count_keyStore (s : State) (f : Field) : (s.count f).keyStore = s.keyStore := rfl
@[simp] theorem State.count_cfg (s : State) (f : Field) : (s.count f).cfg = s.cfg := rfl
@[simp] theorem State.count_aon (s : State) (f : Field) : (s.count f).aon = s.aon := rfl
@[simp] theorem State.count_rst (s : State) (f : Field) : (s.count f).rst = s.rst := rfl
@[simp] theorem State.count_clk (s : State) (f : Field) : (s.count f).clk = s.clk := rfl
@[simp] theorem State.count_tb (s : State) (f : Field) : (s.count f).tb = s.tb := rfl
@[simp] theorem State.count_img (s : State) (f : Field) : (s.count f).img = s.img := rfl
@[simp] theorem State.count_recd (s : State) (f : Field) : (s.count f).recd = s.recd := rfl
@[simp] theorem State.count_mgt (s : State) (f : Field) : (s.count f).mgt = s.mgt := rfl
@[simp] theorem State.count_frame (s : State) (f : Field) : (s.count f).frame = s.frame := rfl
@[simp] theorem State.count_chans (s : State) (f : Field) : (s.count f).chans = s.chans := rfl
@[simp] theorem State.count_fab (s : State) (f : Field) : (s.count f).fab = s.fab := rfl
@[simp] theorem State.count_fus (s : State) (f : Field) : (s.count f).fus = s.fus := rfl
@[simp] theorem State.count_ctl (s : State) (f : Field) : (s.count f).ctl = s.ctl := rfl
@[simp] theorem State.count_slv (s : State) (f : Field) : (s.count f).slv = s.slv := rfl
@[simp] theorem State.count_alc (s : State) (f : Field) : (s.count f).alc = s.alc := rfl
@[simp] theorem State.count_can (s : State) (f : Field) : (s.count f).can = s.can := rfl
@[simp] theorem State.count_eth (s : State) (f : Field) : (s.count f).eth = s.eth := rfl
@[simp] theorem State.count_ana (s : State) (f : Field) : (s.count f).ana = s.ana := rfl
@[simp] theorem State.count_srv (s : State) (f : Field) : (s.count f).srv = s.srv := rfl
@[simp] theorem State.count_saf (s : State) (f : Field) : (s.count f).saf = s.saf := rfl
@[simp] theorem State.count_grp (s : State) (f : Field) : (s.count f).grp = s.grp := rfl
@[simp] theorem State.count_freeCtr (s : State) (f : Field) : (s.count f).freeCtr = s.freeCtr := rfl
@[simp] theorem State.count_pending (s : State) (f : Field) : (s.count f).pending = s.pending := rfl
@[simp] theorem State.count_base (s : State) (f : Field) : (s.count f).base = s.base := rfl

/-! countWrap. -/

@[simp] theorem State.countWrap_nvm0 (s : State) (f : Field) : (s.countWrap f).nvm0 = s.nvm0 := rfl
@[simp] theorem State.countWrap_nvm1 (s : State) (f : Field) : (s.countWrap f).nvm1 = s.nvm1 := rfl
@[simp] theorem State.countWrap_omem (s : State) (f : Field) : (s.countWrap f).omem = s.omem := rfl
@[simp] theorem State.countWrap_keyStore (s : State) (f : Field) : (s.countWrap f).keyStore = s.keyStore := rfl
@[simp] theorem State.countWrap_cfg (s : State) (f : Field) : (s.countWrap f).cfg = s.cfg := rfl
@[simp] theorem State.countWrap_aon (s : State) (f : Field) : (s.countWrap f).aon = s.aon := rfl
@[simp] theorem State.countWrap_rst (s : State) (f : Field) : (s.countWrap f).rst = s.rst := rfl
@[simp] theorem State.countWrap_clk (s : State) (f : Field) : (s.countWrap f).clk = s.clk := rfl
@[simp] theorem State.countWrap_tb (s : State) (f : Field) : (s.countWrap f).tb = s.tb := rfl
@[simp] theorem State.countWrap_img (s : State) (f : Field) : (s.countWrap f).img = s.img := rfl
@[simp] theorem State.countWrap_recd (s : State) (f : Field) : (s.countWrap f).recd = s.recd := rfl
@[simp] theorem State.countWrap_mgt (s : State) (f : Field) : (s.countWrap f).mgt = s.mgt := rfl
@[simp] theorem State.countWrap_frame (s : State) (f : Field) : (s.countWrap f).frame = s.frame := rfl
@[simp] theorem State.countWrap_chans (s : State) (f : Field) : (s.countWrap f).chans = s.chans := rfl
@[simp] theorem State.countWrap_fab (s : State) (f : Field) : (s.countWrap f).fab = s.fab := rfl
@[simp] theorem State.countWrap_fus (s : State) (f : Field) : (s.countWrap f).fus = s.fus := rfl
@[simp] theorem State.countWrap_ctl (s : State) (f : Field) : (s.countWrap f).ctl = s.ctl := rfl
@[simp] theorem State.countWrap_slv (s : State) (f : Field) : (s.countWrap f).slv = s.slv := rfl
@[simp] theorem State.countWrap_alc (s : State) (f : Field) : (s.countWrap f).alc = s.alc := rfl
@[simp] theorem State.countWrap_can (s : State) (f : Field) : (s.countWrap f).can = s.can := rfl
@[simp] theorem State.countWrap_eth (s : State) (f : Field) : (s.countWrap f).eth = s.eth := rfl
@[simp] theorem State.countWrap_ana (s : State) (f : Field) : (s.countWrap f).ana = s.ana := rfl
@[simp] theorem State.countWrap_srv (s : State) (f : Field) : (s.countWrap f).srv = s.srv := rfl
@[simp] theorem State.countWrap_saf (s : State) (f : Field) : (s.countWrap f).saf = s.saf := rfl
@[simp] theorem State.countWrap_grp (s : State) (f : Field) : (s.countWrap f).grp = s.grp := rfl
@[simp] theorem State.countWrap_freeCtr (s : State) (f : Field) : (s.countWrap f).freeCtr = s.freeCtr := rfl
@[simp] theorem State.countWrap_pending (s : State) (f : Field) : (s.countWrap f).pending = s.pending := rfl
@[simp] theorem State.countWrap_base (s : State) (f : Field) : (s.countWrap f).base = s.base := rfl

/-! countBy. -/

@[simp] theorem State.countBy_nvm0 (s : State) (f : Field) (n : Nat) : (s.countBy f n).nvm0 = s.nvm0 := rfl
@[simp] theorem State.countBy_nvm1 (s : State) (f : Field) (n : Nat) : (s.countBy f n).nvm1 = s.nvm1 := rfl
@[simp] theorem State.countBy_omem (s : State) (f : Field) (n : Nat) : (s.countBy f n).omem = s.omem := rfl
@[simp] theorem State.countBy_keyStore (s : State) (f : Field) (n : Nat) : (s.countBy f n).keyStore = s.keyStore := rfl
@[simp] theorem State.countBy_cfg (s : State) (f : Field) (n : Nat) : (s.countBy f n).cfg = s.cfg := rfl
@[simp] theorem State.countBy_aon (s : State) (f : Field) (n : Nat) : (s.countBy f n).aon = s.aon := rfl
@[simp] theorem State.countBy_rst (s : State) (f : Field) (n : Nat) : (s.countBy f n).rst = s.rst := rfl
@[simp] theorem State.countBy_clk (s : State) (f : Field) (n : Nat) : (s.countBy f n).clk = s.clk := rfl
@[simp] theorem State.countBy_tb (s : State) (f : Field) (n : Nat) : (s.countBy f n).tb = s.tb := rfl
@[simp] theorem State.countBy_img (s : State) (f : Field) (n : Nat) : (s.countBy f n).img = s.img := rfl
@[simp] theorem State.countBy_recd (s : State) (f : Field) (n : Nat) : (s.countBy f n).recd = s.recd := rfl
@[simp] theorem State.countBy_mgt (s : State) (f : Field) (n : Nat) : (s.countBy f n).mgt = s.mgt := rfl
@[simp] theorem State.countBy_frame (s : State) (f : Field) (n : Nat) : (s.countBy f n).frame = s.frame := rfl
@[simp] theorem State.countBy_chans (s : State) (f : Field) (n : Nat) : (s.countBy f n).chans = s.chans := rfl
@[simp] theorem State.countBy_fab (s : State) (f : Field) (n : Nat) : (s.countBy f n).fab = s.fab := rfl
@[simp] theorem State.countBy_fus (s : State) (f : Field) (n : Nat) : (s.countBy f n).fus = s.fus := rfl
@[simp] theorem State.countBy_ctl (s : State) (f : Field) (n : Nat) : (s.countBy f n).ctl = s.ctl := rfl
@[simp] theorem State.countBy_slv (s : State) (f : Field) (n : Nat) : (s.countBy f n).slv = s.slv := rfl
@[simp] theorem State.countBy_alc (s : State) (f : Field) (n : Nat) : (s.countBy f n).alc = s.alc := rfl
@[simp] theorem State.countBy_can (s : State) (f : Field) (n : Nat) : (s.countBy f n).can = s.can := rfl
@[simp] theorem State.countBy_eth (s : State) (f : Field) (n : Nat) : (s.countBy f n).eth = s.eth := rfl
@[simp] theorem State.countBy_ana (s : State) (f : Field) (n : Nat) : (s.countBy f n).ana = s.ana := rfl
@[simp] theorem State.countBy_srv (s : State) (f : Field) (n : Nat) : (s.countBy f n).srv = s.srv := rfl
@[simp] theorem State.countBy_saf (s : State) (f : Field) (n : Nat) : (s.countBy f n).saf = s.saf := rfl
@[simp] theorem State.countBy_grp (s : State) (f : Field) (n : Nat) : (s.countBy f n).grp = s.grp := rfl
@[simp] theorem State.countBy_freeCtr (s : State) (f : Field) (n : Nat) : (s.countBy f n).freeCtr = s.freeCtr := rfl
@[simp] theorem State.countBy_pending (s : State) (f : Field) (n : Nat) : (s.countBy f n).pending = s.pending := rfl
@[simp] theorem State.countBy_base (s : State) (f : Field) (n : Nat) : (s.countBy f n).base = s.base := rfl

/-! setNow. -/

@[simp] theorem State.setNow_nvm0 (s : State) (t : Nat) : (s.setNow t).nvm0 = s.nvm0 := rfl
@[simp] theorem State.setNow_nvm1 (s : State) (t : Nat) : (s.setNow t).nvm1 = s.nvm1 := rfl
@[simp] theorem State.setNow_omem (s : State) (t : Nat) : (s.setNow t).omem = s.omem := rfl
@[simp] theorem State.setNow_keyStore (s : State) (t : Nat) : (s.setNow t).keyStore = s.keyStore := rfl
@[simp] theorem State.setNow_cfg (s : State) (t : Nat) : (s.setNow t).cfg = s.cfg := rfl
@[simp] theorem State.setNow_aon (s : State) (t : Nat) : (s.setNow t).aon = s.aon := rfl
@[simp] theorem State.setNow_rst (s : State) (t : Nat) : (s.setNow t).rst = s.rst := rfl
@[simp] theorem State.setNow_clk (s : State) (t : Nat) : (s.setNow t).clk = s.clk := rfl
@[simp] theorem State.setNow_tb (s : State) (t : Nat) : (s.setNow t).tb = s.tb := rfl
@[simp] theorem State.setNow_img (s : State) (t : Nat) : (s.setNow t).img = s.img := rfl
@[simp] theorem State.setNow_recd (s : State) (t : Nat) : (s.setNow t).recd = s.recd := rfl
@[simp] theorem State.setNow_mgt (s : State) (t : Nat) : (s.setNow t).mgt = s.mgt := rfl
@[simp] theorem State.setNow_frame (s : State) (t : Nat) : (s.setNow t).frame = s.frame := rfl
@[simp] theorem State.setNow_chans (s : State) (t : Nat) : (s.setNow t).chans = s.chans := rfl
@[simp] theorem State.setNow_fab (s : State) (t : Nat) : (s.setNow t).fab = s.fab := rfl
@[simp] theorem State.setNow_fus (s : State) (t : Nat) : (s.setNow t).fus = s.fus := rfl
@[simp] theorem State.setNow_ctl (s : State) (t : Nat) : (s.setNow t).ctl = s.ctl := rfl
@[simp] theorem State.setNow_slv (s : State) (t : Nat) : (s.setNow t).slv = s.slv := rfl
@[simp] theorem State.setNow_alc (s : State) (t : Nat) : (s.setNow t).alc = s.alc := rfl
@[simp] theorem State.setNow_can (s : State) (t : Nat) : (s.setNow t).can = s.can := rfl
@[simp] theorem State.setNow_eth (s : State) (t : Nat) : (s.setNow t).eth = s.eth := rfl
@[simp] theorem State.setNow_ana (s : State) (t : Nat) : (s.setNow t).ana = s.ana := rfl
@[simp] theorem State.setNow_srv (s : State) (t : Nat) : (s.setNow t).srv = s.srv := rfl
@[simp] theorem State.setNow_saf (s : State) (t : Nat) : (s.setNow t).saf = s.saf := rfl
@[simp] theorem State.setNow_grp (s : State) (t : Nat) : (s.setNow t).grp = s.grp := rfl
@[simp] theorem State.setNow_freeCtr (s : State) (t : Nat) : (s.setNow t).freeCtr = s.freeCtr := rfl
@[simp] theorem State.setNow_pending (s : State) (t : Nat) : (s.setNow t).pending = s.pending := rfl
@[simp] theorem State.setNow_base (s : State) (t : Nat) : (s.setNow t).base = s.base := rfl

/-! refuse. -/

@[simp] theorem State.refuse_nvm0 (s : State) (b c a : Nat) : (s.refuse b c a).nvm0 = s.nvm0 := rfl
@[simp] theorem State.refuse_nvm1 (s : State) (b c a : Nat) : (s.refuse b c a).nvm1 = s.nvm1 := rfl
@[simp] theorem State.refuse_omem (s : State) (b c a : Nat) : (s.refuse b c a).omem = s.omem := rfl
@[simp] theorem State.refuse_keyStore (s : State) (b c a : Nat) : (s.refuse b c a).keyStore = s.keyStore := rfl
@[simp] theorem State.refuse_cfg (s : State) (b c a : Nat) : (s.refuse b c a).cfg = s.cfg := rfl
@[simp] theorem State.refuse_aon (s : State) (b c a : Nat) : (s.refuse b c a).aon = s.aon := rfl
@[simp] theorem State.refuse_rst (s : State) (b c a : Nat) : (s.refuse b c a).rst = s.rst := rfl
@[simp] theorem State.refuse_clk (s : State) (b c a : Nat) : (s.refuse b c a).clk = s.clk := rfl
@[simp] theorem State.refuse_tb (s : State) (b c a : Nat) : (s.refuse b c a).tb = s.tb := rfl
@[simp] theorem State.refuse_img (s : State) (b c a : Nat) : (s.refuse b c a).img = s.img := rfl
@[simp] theorem State.refuse_recd (s : State) (b c a : Nat) : (s.refuse b c a).recd = s.recd := rfl
@[simp] theorem State.refuse_mgt (s : State) (b c a : Nat) : (s.refuse b c a).mgt = s.mgt := rfl
@[simp] theorem State.refuse_frame (s : State) (b c a : Nat) : (s.refuse b c a).frame = s.frame := rfl
@[simp] theorem State.refuse_chans (s : State) (b c a : Nat) : (s.refuse b c a).chans = s.chans := rfl
@[simp] theorem State.refuse_fab (s : State) (b c a : Nat) : (s.refuse b c a).fab = s.fab := rfl
@[simp] theorem State.refuse_fus (s : State) (b c a : Nat) : (s.refuse b c a).fus = s.fus := rfl
@[simp] theorem State.refuse_ctl (s : State) (b c a : Nat) : (s.refuse b c a).ctl = s.ctl := rfl
@[simp] theorem State.refuse_slv (s : State) (b c a : Nat) : (s.refuse b c a).slv = s.slv := rfl
@[simp] theorem State.refuse_alc (s : State) (b c a : Nat) : (s.refuse b c a).alc = s.alc := rfl
@[simp] theorem State.refuse_can (s : State) (b c a : Nat) : (s.refuse b c a).can = s.can := rfl
@[simp] theorem State.refuse_eth (s : State) (b c a : Nat) : (s.refuse b c a).eth = s.eth := rfl
@[simp] theorem State.refuse_ana (s : State) (b c a : Nat) : (s.refuse b c a).ana = s.ana := rfl
@[simp] theorem State.refuse_srv (s : State) (b c a : Nat) : (s.refuse b c a).srv = s.srv := rfl
@[simp] theorem State.refuse_saf (s : State) (b c a : Nat) : (s.refuse b c a).saf = s.saf := rfl
@[simp] theorem State.refuse_grp (s : State) (b c a : Nat) : (s.refuse b c a).grp = s.grp := rfl
@[simp] theorem State.refuse_freeCtr (s : State) (b c a : Nat) : (s.refuse b c a).freeCtr = s.freeCtr := rfl
@[simp] theorem State.refuse_pending (s : State) (b c a : Nat) : (s.refuse b c a).pending = s.pending := rfl
@[simp] theorem State.refuse_base (s : State) (b c a : Nat) : (s.refuse b c a).base = s.base := rfl

/-! startStep. -/

@[simp] theorem State.startStep_nvm0 (s : State) (n : Nat) : (s.startStep n).nvm0 = s.nvm0 := rfl
@[simp] theorem State.startStep_nvm1 (s : State) (n : Nat) : (s.startStep n).nvm1 = s.nvm1 := rfl
@[simp] theorem State.startStep_omem (s : State) (n : Nat) : (s.startStep n).omem = s.omem := rfl
@[simp] theorem State.startStep_keyStore (s : State) (n : Nat) : (s.startStep n).keyStore = s.keyStore := rfl
@[simp] theorem State.startStep_cfg (s : State) (n : Nat) : (s.startStep n).cfg = s.cfg := rfl
@[simp] theorem State.startStep_aon (s : State) (n : Nat) : (s.startStep n).aon = s.aon := rfl
@[simp] theorem State.startStep_rst (s : State) (n : Nat) : (s.startStep n).rst = s.rst := rfl
@[simp] theorem State.startStep_clk (s : State) (n : Nat) : (s.startStep n).clk = s.clk := rfl
@[simp] theorem State.startStep_tb (s : State) (n : Nat) : (s.startStep n).tb = s.tb := rfl
@[simp] theorem State.startStep_img (s : State) (n : Nat) : (s.startStep n).img = s.img := rfl
@[simp] theorem State.startStep_recd (s : State) (n : Nat) : (s.startStep n).recd = s.recd := rfl
@[simp] theorem State.startStep_mgt (s : State) (n : Nat) : (s.startStep n).mgt = s.mgt := rfl
@[simp] theorem State.startStep_frame (s : State) (n : Nat) : (s.startStep n).frame = s.frame := rfl
@[simp] theorem State.startStep_chans (s : State) (n : Nat) : (s.startStep n).chans = s.chans := rfl
@[simp] theorem State.startStep_fab (s : State) (n : Nat) : (s.startStep n).fab = s.fab := rfl
@[simp] theorem State.startStep_fus (s : State) (n : Nat) : (s.startStep n).fus = s.fus := rfl
@[simp] theorem State.startStep_ctl (s : State) (n : Nat) : (s.startStep n).ctl = s.ctl := rfl
@[simp] theorem State.startStep_slv (s : State) (n : Nat) : (s.startStep n).slv = s.slv := rfl
@[simp] theorem State.startStep_alc (s : State) (n : Nat) : (s.startStep n).alc = s.alc := rfl
@[simp] theorem State.startStep_can (s : State) (n : Nat) : (s.startStep n).can = s.can := rfl
@[simp] theorem State.startStep_eth (s : State) (n : Nat) : (s.startStep n).eth = s.eth := rfl
@[simp] theorem State.startStep_ana (s : State) (n : Nat) : (s.startStep n).ana = s.ana := rfl
@[simp] theorem State.startStep_srv (s : State) (n : Nat) : (s.startStep n).srv = s.srv := rfl
@[simp] theorem State.startStep_saf (s : State) (n : Nat) : (s.startStep n).saf = s.saf := rfl
@[simp] theorem State.startStep_grp (s : State) (n : Nat) : (s.startStep n).grp = s.grp := rfl
@[simp] theorem State.startStep_freeCtr (s : State) (n : Nat) : (s.startStep n).freeCtr = s.freeCtr := rfl
@[simp] theorem State.startStep_pending (s : State) (n : Nat) : (s.startStep n).pending = s.pending := rfl
@[simp] theorem State.startStep_base (s : State) (n : Nat) : (s.startStep n).base = s.base := rfl

/-! mirror. -/

@[simp] theorem State.mirror_nvm0 (s : State)  : (s.mirror).nvm0 = s.nvm0 := rfl
@[simp] theorem State.mirror_nvm1 (s : State)  : (s.mirror).nvm1 = s.nvm1 := rfl
@[simp] theorem State.mirror_omem (s : State)  : (s.mirror).omem = s.omem := rfl
@[simp] theorem State.mirror_keyStore (s : State)  : (s.mirror).keyStore = s.keyStore := rfl
@[simp] theorem State.mirror_cfg (s : State)  : (s.mirror).cfg = s.cfg := rfl
@[simp] theorem State.mirror_aon (s : State)  : (s.mirror).aon = s.aon := rfl
@[simp] theorem State.mirror_rst (s : State)  : (s.mirror).rst = s.rst := rfl
@[simp] theorem State.mirror_clk (s : State)  : (s.mirror).clk = s.clk := rfl
@[simp] theorem State.mirror_tb (s : State)  : (s.mirror).tb = s.tb := rfl
@[simp] theorem State.mirror_img (s : State)  : (s.mirror).img = s.img := rfl
@[simp] theorem State.mirror_recd (s : State)  : (s.mirror).recd = s.recd := rfl
@[simp] theorem State.mirror_mgt (s : State)  : (s.mirror).mgt = s.mgt := rfl
@[simp] theorem State.mirror_frame (s : State)  : (s.mirror).frame = s.frame := rfl
@[simp] theorem State.mirror_chans (s : State)  : (s.mirror).chans = s.chans := rfl
@[simp] theorem State.mirror_fab (s : State)  : (s.mirror).fab = s.fab := rfl
@[simp] theorem State.mirror_fus (s : State)  : (s.mirror).fus = s.fus := rfl
@[simp] theorem State.mirror_ctl (s : State)  : (s.mirror).ctl = s.ctl := rfl
@[simp] theorem State.mirror_slv (s : State)  : (s.mirror).slv = s.slv := rfl
@[simp] theorem State.mirror_alc (s : State)  : (s.mirror).alc = s.alc := rfl
@[simp] theorem State.mirror_can (s : State)  : (s.mirror).can = s.can := rfl
@[simp] theorem State.mirror_eth (s : State)  : (s.mirror).eth = s.eth := rfl
@[simp] theorem State.mirror_ana (s : State)  : (s.mirror).ana = s.ana := rfl
@[simp] theorem State.mirror_srv (s : State)  : (s.mirror).srv = s.srv := rfl
@[simp] theorem State.mirror_saf (s : State)  : (s.mirror).saf = s.saf := rfl
@[simp] theorem State.mirror_grp (s : State)  : (s.mirror).grp = s.grp := rfl
@[simp] theorem State.mirror_freeCtr (s : State)  : (s.mirror).freeCtr = s.freeCtr := rfl
@[simp] theorem State.mirror_pending (s : State)  : (s.mirror).pending = s.pending := rfl
@[simp] theorem State.mirror_base (s : State)  : (s.mirror).base = s.base := rfl

/-! fresh. -/

@[simp] theorem State.fresh_regs (s : State)  : (s.fresh).regs = s.regs := rfl
@[simp] theorem State.fresh_nvm0 (s : State)  : (s.fresh).nvm0 = s.nvm0 := rfl
@[simp] theorem State.fresh_nvm1 (s : State)  : (s.fresh).nvm1 = s.nvm1 := rfl
@[simp] theorem State.fresh_omem (s : State)  : (s.fresh).omem = s.omem := rfl
@[simp] theorem State.fresh_keyStore (s : State)  : (s.fresh).keyStore = s.keyStore := rfl
@[simp] theorem State.fresh_cfg (s : State)  : (s.fresh).cfg = s.cfg := rfl
@[simp] theorem State.fresh_aon (s : State)  : (s.fresh).aon = s.aon := rfl
@[simp] theorem State.fresh_rst (s : State)  : (s.fresh).rst = s.rst := rfl
@[simp] theorem State.fresh_clk (s : State)  : (s.fresh).clk = s.clk := rfl
@[simp] theorem State.fresh_tb (s : State)  : (s.fresh).tb = s.tb := rfl
@[simp] theorem State.fresh_img (s : State)  : (s.fresh).img = s.img := rfl
@[simp] theorem State.fresh_recd (s : State)  : (s.fresh).recd = s.recd := rfl
@[simp] theorem State.fresh_mgt (s : State)  : (s.fresh).mgt = s.mgt := rfl
@[simp] theorem State.fresh_frame (s : State)  : (s.fresh).frame = s.frame := rfl
@[simp] theorem State.fresh_chans (s : State)  : (s.fresh).chans = s.chans := rfl
@[simp] theorem State.fresh_fab (s : State)  : (s.fresh).fab = s.fab := rfl
@[simp] theorem State.fresh_fus (s : State)  : (s.fresh).fus = s.fus := rfl
@[simp] theorem State.fresh_ctl (s : State)  : (s.fresh).ctl = s.ctl := rfl
@[simp] theorem State.fresh_slv (s : State)  : (s.fresh).slv = s.slv := rfl
@[simp] theorem State.fresh_alc (s : State)  : (s.fresh).alc = s.alc := rfl
@[simp] theorem State.fresh_can (s : State)  : (s.fresh).can = s.can := rfl
@[simp] theorem State.fresh_eth (s : State)  : (s.fresh).eth = s.eth := rfl
@[simp] theorem State.fresh_ana (s : State)  : (s.fresh).ana = s.ana := rfl
@[simp] theorem State.fresh_srv (s : State)  : (s.fresh).srv = s.srv := rfl
@[simp] theorem State.fresh_saf (s : State)  : (s.fresh).saf = s.saf := rfl
@[simp] theorem State.fresh_grp (s : State)  : (s.fresh).grp = s.grp := rfl
@[simp] theorem State.fresh_pending (s : State)  : (s.fresh).pending = s.pending := rfl
@[simp] theorem State.fresh_base (s : State)  : (s.fresh).base = s.base := rfl

/-! raise. -/

@[simp] theorem State.raise_regs (s : State) (c : Nat) (src : Word) (d : List Byte) : (s.raise c src d).regs = s.regs := rfl
@[simp] theorem State.raise_nvm0 (s : State) (c : Nat) (src : Word) (d : List Byte) : (s.raise c src d).nvm0 = s.nvm0 := rfl
@[simp] theorem State.raise_nvm1 (s : State) (c : Nat) (src : Word) (d : List Byte) : (s.raise c src d).nvm1 = s.nvm1 := rfl
@[simp] theorem State.raise_omem (s : State) (c : Nat) (src : Word) (d : List Byte) : (s.raise c src d).omem = s.omem := rfl
@[simp] theorem State.raise_keyStore (s : State) (c : Nat) (src : Word) (d : List Byte) : (s.raise c src d).keyStore = s.keyStore := rfl
@[simp] theorem State.raise_cfg (s : State) (c : Nat) (src : Word) (d : List Byte) : (s.raise c src d).cfg = s.cfg := rfl
@[simp] theorem State.raise_aon (s : State) (c : Nat) (src : Word) (d : List Byte) : (s.raise c src d).aon = s.aon := rfl
@[simp] theorem State.raise_rst (s : State) (c : Nat) (src : Word) (d : List Byte) : (s.raise c src d).rst = s.rst := rfl
@[simp] theorem State.raise_clk (s : State) (c : Nat) (src : Word) (d : List Byte) : (s.raise c src d).clk = s.clk := rfl
@[simp] theorem State.raise_tb (s : State) (c : Nat) (src : Word) (d : List Byte) : (s.raise c src d).tb = s.tb := rfl
@[simp] theorem State.raise_img (s : State) (c : Nat) (src : Word) (d : List Byte) : (s.raise c src d).img = s.img := rfl
@[simp] theorem State.raise_mgt (s : State) (c : Nat) (src : Word) (d : List Byte) : (s.raise c src d).mgt = s.mgt := rfl
@[simp] theorem State.raise_frame (s : State) (c : Nat) (src : Word) (d : List Byte) : (s.raise c src d).frame = s.frame := rfl
@[simp] theorem State.raise_chans (s : State) (c : Nat) (src : Word) (d : List Byte) : (s.raise c src d).chans = s.chans := rfl
@[simp] theorem State.raise_fab (s : State) (c : Nat) (src : Word) (d : List Byte) : (s.raise c src d).fab = s.fab := rfl
@[simp] theorem State.raise_fus (s : State) (c : Nat) (src : Word) (d : List Byte) : (s.raise c src d).fus = s.fus := rfl
@[simp] theorem State.raise_ctl (s : State) (c : Nat) (src : Word) (d : List Byte) : (s.raise c src d).ctl = s.ctl := rfl
@[simp] theorem State.raise_slv (s : State) (c : Nat) (src : Word) (d : List Byte) : (s.raise c src d).slv = s.slv := rfl
@[simp] theorem State.raise_alc (s : State) (c : Nat) (src : Word) (d : List Byte) : (s.raise c src d).alc = s.alc := rfl
@[simp] theorem State.raise_can (s : State) (c : Nat) (src : Word) (d : List Byte) : (s.raise c src d).can = s.can := rfl
@[simp] theorem State.raise_eth (s : State) (c : Nat) (src : Word) (d : List Byte) : (s.raise c src d).eth = s.eth := rfl
@[simp] theorem State.raise_ana (s : State) (c : Nat) (src : Word) (d : List Byte) : (s.raise c src d).ana = s.ana := rfl
@[simp] theorem State.raise_srv (s : State) (c : Nat) (src : Word) (d : List Byte) : (s.raise c src d).srv = s.srv := rfl
@[simp] theorem State.raise_saf (s : State) (c : Nat) (src : Word) (d : List Byte) : (s.raise c src d).saf = s.saf := rfl
@[simp] theorem State.raise_grp (s : State) (c : Nat) (src : Word) (d : List Byte) : (s.raise c src d).grp = s.grp := rfl
@[simp] theorem State.raise_freeCtr (s : State) (c : Nat) (src : Word) (d : List Byte) : (s.raise c src d).freeCtr = s.freeCtr := rfl
@[simp] theorem State.raise_pending (s : State) (c : Nat) (src : Word) (d : List Byte) : (s.raise c src d).pending = s.pending := rfl
@[simp] theorem State.raise_base (s : State) (c : Nat) (src : Word) (d : List Byte) : (s.raise c src d).base = s.base := rfl

@[simp] theorem State.fresh_freeCtr (s : State) : s.fresh.freeCtr = s.freeCtr + 1 := rfl
@[simp] theorem State.raise_port (s : State) (c : Nat) (src : Word) (d : List Byte) :
    (s.raise c src d).recd = { s.recd with port := s.recd.port ++ [{ code := c, source := src, data := d }] } := rfl

/-! push. -/

@[simp] theorem State.push_regs (s : State) (m : Msg) : (s.push m).regs = s.regs := by
  unfold State.push; cases m.path <;> rfl
@[simp] theorem State.push_nvm0 (s : State) (m : Msg) : (s.push m).nvm0 = s.nvm0 := by
  unfold State.push; cases m.path <;> rfl
@[simp] theorem State.push_nvm1 (s : State) (m : Msg) : (s.push m).nvm1 = s.nvm1 := by
  unfold State.push; cases m.path <;> rfl
@[simp] theorem State.push_omem (s : State) (m : Msg) : (s.push m).omem = s.omem := by
  unfold State.push; cases m.path <;> rfl
@[simp] theorem State.push_keyStore (s : State) (m : Msg) : (s.push m).keyStore = s.keyStore := by
  unfold State.push; cases m.path <;> rfl
@[simp] theorem State.push_cfg (s : State) (m : Msg) : (s.push m).cfg = s.cfg := by
  unfold State.push; cases m.path <;> rfl
@[simp] theorem State.push_aon (s : State) (m : Msg) : (s.push m).aon = s.aon := by
  unfold State.push; cases m.path <;> rfl
@[simp] theorem State.push_rst (s : State) (m : Msg) : (s.push m).rst = s.rst := by
  unfold State.push; cases m.path <;> rfl
@[simp] theorem State.push_clk (s : State) (m : Msg) : (s.push m).clk = s.clk := by
  unfold State.push; cases m.path <;> rfl
@[simp] theorem State.push_tb (s : State) (m : Msg) : (s.push m).tb = s.tb := by
  unfold State.push; cases m.path <;> rfl
@[simp] theorem State.push_img (s : State) (m : Msg) : (s.push m).img = s.img := by
  unfold State.push; cases m.path <;> rfl
@[simp] theorem State.push_recd (s : State) (m : Msg) : (s.push m).recd = s.recd := by
  unfold State.push; cases m.path <;> rfl
@[simp] theorem State.push_frame (s : State) (m : Msg) : (s.push m).frame = s.frame := by
  unfold State.push; cases m.path <;> rfl
@[simp] theorem State.push_chans (s : State) (m : Msg) : (s.push m).chans = s.chans := by
  unfold State.push; cases m.path <;> rfl
@[simp] theorem State.push_fab (s : State) (m : Msg) : (s.push m).fab = s.fab := by
  unfold State.push; cases m.path <;> rfl
@[simp] theorem State.push_fus (s : State) (m : Msg) : (s.push m).fus = s.fus := by
  unfold State.push; cases m.path <;> rfl
@[simp] theorem State.push_ctl (s : State) (m : Msg) : (s.push m).ctl = s.ctl := by
  unfold State.push; cases m.path <;> rfl
@[simp] theorem State.push_slv (s : State) (m : Msg) : (s.push m).slv = s.slv := by
  unfold State.push; cases m.path <;> rfl
@[simp] theorem State.push_alc (s : State) (m : Msg) : (s.push m).alc = s.alc := by
  unfold State.push; cases m.path <;> rfl
@[simp] theorem State.push_can (s : State) (m : Msg) : (s.push m).can = s.can := by
  unfold State.push; cases m.path <;> rfl
@[simp] theorem State.push_eth (s : State) (m : Msg) : (s.push m).eth = s.eth := by
  unfold State.push; cases m.path <;> rfl
@[simp] theorem State.push_ana (s : State) (m : Msg) : (s.push m).ana = s.ana := by
  unfold State.push; cases m.path <;> rfl
@[simp] theorem State.push_srv (s : State) (m : Msg) : (s.push m).srv = s.srv := by
  unfold State.push; cases m.path <;> rfl
@[simp] theorem State.push_saf (s : State) (m : Msg) : (s.push m).saf = s.saf := by
  unfold State.push; cases m.path <;> rfl
@[simp] theorem State.push_grp (s : State) (m : Msg) : (s.push m).grp = s.grp := by
  unfold State.push; cases m.path <;> rfl
@[simp] theorem State.push_freeCtr (s : State) (m : Msg) : (s.push m).freeCtr = s.freeCtr := by
  unfold State.push; cases m.path <;> rfl
@[simp] theorem State.push_pending (s : State) (m : Msg) : (s.push m).pending = s.pending := by
  unfold State.push; cases m.path <;> rfl
@[simp] theorem State.push_base (s : State) (m : Msg) : (s.push m).base = s.base := by
  unfold State.push; cases m.path <;> rfl

/-! Everything but the registers, and updates of it. -/

@[simp] theorem State.wr_rest (s : State) (a : Nat) (v : Word) : (s.wr a v).rest = s.rest := rfl
@[simp] theorem State.set_rest (s : State) (f : Field) (v : Nat) : (s.set f v).rest = s.rest := rfl
@[simp] theorem State.setBit_rest (s : State) (f : Field) (b : Bool) : (s.setBit f b).rest = s.rest := rfl
@[simp] theorem State.count_rest (s : State) (f : Field) : (s.count f).rest = s.rest := rfl
@[simp] theorem State.countWrap_rest (s : State) (f : Field) : (s.countWrap f).rest = s.rest := rfl
@[simp] theorem State.countBy_rest (s : State) (f : Field) (n : Nat) : (s.countBy f n).rest = s.rest := rfl
@[simp] theorem State.setNow_rest (s : State) (t : Nat) : (s.setNow t).rest = s.rest := rfl
@[simp] theorem State.refuse_rest (s : State) (b c a : Nat) : (s.refuse b c a).rest = s.rest := rfl
@[simp] theorem State.startStep_rest (s : State) (n : Nat) : (s.startStep n).rest = s.rest := rfl
@[simp] theorem State.mirror_rest (s : State)  : (s.mirror).rest = s.rest := rfl
@[simp] theorem State.raise_rest (s : State) (c : Nat) (src : Word) (d : List Byte) :
    (s.raise c src d).rest = { s.rest with recd := (s.raise c src d).recd } := rfl

/-! A state whose register file is that of another reads as that one does. -/

theorem State.rd_mk (u : State) (x1 : Cells Byte) (x2 : Cells Byte) (x3 : Cells Byte) (x4 : Option (List Byte)) (x5 :
    Option ImageCfg) (x6 : AonSt) (x7 : RstSt) (x8 : ClkSt) (x9 : TbSt) (x10 : ImgSt) (x11 : RecSt) (x12 : MgtSt) (x13
    : FrameSt) (x14 : List Chan) (x15 : FabSt) (x16 : FusSt) (x17 : CtlSt) (x18 : Cells Inst) (x19 : AlcSt) (x20 :
    List CanCtl) (x21 : EthSt) (x22 : AnaSt) (x23 : Cells LoopSt) (x24 : SafSt) (x25 : GrpSt) (x26 : Nat) (x27 : List
    Instr) (x28 : Option ImageCfg) (a : Nat) : (State.mk u.regs x1 x2 x3 x4 x5 x6 x7 x8 x9 x10 x11 x12 x13 x14 x15 x16 x17 x18 x19 x20 x21 x22
    x23 x24 x25 x26 x27 x28).rd a = u.rd a := rfl
theorem State.get_mk (u : State) (x1 : Cells Byte) (x2 : Cells Byte) (x3 : Cells Byte) (x4 : Option (List Byte)) (x5 :
    Option ImageCfg) (x6 : AonSt) (x7 : RstSt) (x8 : ClkSt) (x9 : TbSt) (x10 : ImgSt) (x11 : RecSt) (x12 : MgtSt) (x13
    : FrameSt) (x14 : List Chan) (x15 : FabSt) (x16 : FusSt) (x17 : CtlSt) (x18 : Cells Inst) (x19 : AlcSt) (x20 :
    List CanCtl) (x21 : EthSt) (x22 : AnaSt) (x23 : Cells LoopSt) (x24 : SafSt) (x25 : GrpSt) (x26 : Nat) (x27 : List
    Instr) (x28 : Option ImageCfg) (f : Field) : (State.mk u.regs x1 x2 x3 x4 x5 x6 x7 x8 x9 x10 x11 x12 x13 x14 x15 x16 x17 x18 x19 x20 x21
    x22 x23 x24 x25 x26 x27 x28).get f = u.get f := rfl
theorem State.keeps.mk {s u : State} {l : List Nat} (h : s.keeps u l) (x1 : Cells Byte) (x2 : Cells Byte) (x3 : Cells
    Byte) (x4 : Option (List Byte)) (x5 : Option ImageCfg) (x6 : AonSt) (x7 : RstSt) (x8 : ClkSt) (x9 : TbSt) (x10 :
    ImgSt) (x11 : RecSt) (x12 : MgtSt) (x13 : FrameSt) (x14 : List Chan) (x15 : FabSt) (x16 : FusSt) (x17 : CtlSt)
    (x18 : Cells Inst) (x19 : AlcSt) (x20 : List CanCtl) (x21 : EthSt) (x22 : AnaSt) (x23 : Cells LoopSt) (x24 :
    SafSt) (x25 : GrpSt) (x26 : Nat) (x27 : List Instr) (x28 : Option ImageCfg) : s.keeps (State.mk u.regs x1 x2 x3 x4 x5 x6 x7 x8 x9 x10 x11
    x12 x13 x14 x15 x16 x17 x18 x19 x20 x21 x22 x23 x24 x25 x26 x27 x28) l := h

end Sys2Proof.Machine
end

