-- ==== Sys2Proof/Laws/Mirror.lean ====
section
/-!
SUPPORT. Sys2Proof/Laws/Mirror.lean: what the fields that mirror other state show at the end of a command, and that they hold
still where nothing they mirror has changed.
-/
namespace Sys2Proof.Machine

theorem State.mirrorMgt_val (s : State) : s.mirrorMgt =
    ((s.set Fld.MGT_STAT_SESSIONS s.mgt.sessions.length).set Fld.MGT_STAT_SUBS s.mgt.subs.length).set Fld.MGT_STAT_ARM
      s.armKind := rfl

/-- After a command the mirrored fields show what they mirror. -/
theorem State.mirror_inv (s : State) : s.mirror.Inv where
  sessions := by
    show s.mirror.get _ = s.mgt.sessions.length % 16
    unfold State.mirror State.mirrorImg State.mirrorSafe State.setBit
    rw [State.get_set_ne _ _ _ _ (by decide), State.get_set_ne _ _ _ _ (by decide), State.get_set_ne _ _ _ _ (by decide),
      State.mirrorMgt_val, State.get_set_disjoint _ _ _ _ (by decide) (by decide) (by decide),
      State.get_set_disjoint _ _ _ _ (by decide) (by decide) (by decide), State.get_set_self _ _ _ (by decide)]
    rfl
  subs := by
    show s.mirror.get _ = s.mgt.subs.length % 64
    unfold State.mirror State.mirrorImg State.mirrorSafe State.setBit
    rw [State.get_set_ne _ _ _ _ (by decide), State.get_set_ne _ _ _ _ (by decide), State.get_set_ne _ _ _ _ (by decide),
      State.mirrorMgt_val, State.get_set_disjoint _ _ _ _ (by decide) (by decide) (by decide),
      State.get_set_self _ _ _ (by decide)]
    rfl
  arm := by
    show s.mirror.get _ = s.armKind % 4
    unfold State.mirror State.mirrorImg State.mirrorSafe State.setBit
    rw [State.get_set_ne _ _ _ _ (by decide), State.get_set_ne _ _ _ _ (by decide), State.get_set_ne _ _ _ _ (by decide),
      State.mirrorMgt_val, State.get_set_self _ _ _ (by decide)]
    rfl
  safe := by
    have hso : s.mirror.rd Reg.SAF_SO = s.mirrorMgt.rd Reg.SAF_SO := by
      unfold State.mirror State.mirrorImg State.mirrorSafe State.setBit
      rw [State.rd_set_ne _ _ _ (by decide), State.rd_set_ne _ _ _ (by decide), State.rd_set_ne _ _ _ (by decide)]
    have hsorb : s.mirror.rd Reg.SAF_SORB = s.mirrorMgt.rd Reg.SAF_SORB := by
      unfold State.mirror State.mirrorImg State.mirrorSafe State.setBit
      rw [State.rd_set_ne _ _ _ (by decide), State.rd_set_ne _ _ _ (by decide), State.rd_set_ne _ _ _ (by decide)]
    rw [hso, hsorb]
    unfold State.mirror State.mirrorImg State.setBit
    rw [State.get_set_ne _ _ _ _ (by decide), State.get_set_ne _ _ _ _ (by decide)]
    exact State.get_setBit_self _ _ _ (by decide) rfl
  adopting := by
    show s.mirror.get _ = s.img.adopting.isSome.toNat
    unfold State.mirror State.mirrorImg
    unfold State.setBit
    rw [State.get_set_disjoint _ _ _ _ (by decide) (by decide) (by decide)]
    exact State.get_setBit_self _ _ _ (by decide) rfl
  reloading := by
    show s.mirror.get _ = s.img.reload.isSome.toNat
    unfold State.mirror State.mirrorImg
    exact State.get_setBit_self _ _ _ (by decide) rfl

theorem State.set_same_rd (s : State) (f : Field) (v : Nat) (h : f.lo + f.width ≤ 32) (hv : s.get f = v % 2 ^ f.width) (a : Nat) :
    (s.set f v).rd a = s.rd a := by
  by_cases ha : a = f.addr
  · subst ha
    rw [State.rd_set_self, ← bitsSet_mod _ _ _ _ h, ← hv]
    exact bitsSet_bitsGet _ _ _ h
  · exact State.rd_set_ne _ _ _ ha

/-- Where the invariant holds already, the mirrored fields hold still. -/
theorem State.Inv.rd_mirror {s : State} (h : s.Inv) (a : Nat) : s.mirror.rd a = s.rd a := by
  have e1 : ∀ a, s.mirrorMgt.rd a = s.rd a := by
    intro a
    rw [State.mirrorMgt_val, State.set_same_rd _ _ _ (by decide), State.set_same_rd _ _ _ (by decide),
      State.set_same_rd _ _ _ (by decide) h.sessions]
    · rw [State.get_set_disjoint _ _ _ _ (by decide) (by decide) (by decide)]; exact h.subs
    · rw [State.get_set_disjoint _ _ _ _ (by decide) (by decide) (by decide),
        State.get_set_disjoint _ _ _ _ (by decide) (by decide) (by decide)]; exact h.arm
  have e2 : ∀ a, s.mirrorMgt.mirrorSafe.rd a = s.rd a := by
    intro a
    unfold State.mirrorSafe State.setBit
    rw [State.set_same_rd _ _ _ (by decide), e1]
    rw [State.get_of_rd _ (e1 _), h.safe, e1, e1]
    cases decide (s.rd Reg.SAF_SO = 0 ∧ s.rd Reg.SAF_SORB = 0) <;> rfl
  unfold State.mirror State.mirrorImg State.setBit
  have g1 : s.mirrorMgt.mirrorSafe.img = s.img := rfl
  rw [State.set_same_rd _ _ _ (by decide), State.set_same_rd _ _ _ (by decide), e2]
  · rw [State.get_of_rd _ (e2 _), h.adopting, g1]
    cases s.img.adopting.isSome <;> rfl
  · rw [State.get_set_disjoint _ _ _ _ (by decide) (by decide) (by decide), State.get_of_rd _ (e2 _), h.reloading]
    rw [g1]
    cases s.img.reload.isSome <;> rfl

/-- The invariant passes to a state in which nothing that it speaks of has changed. -/
theorem State.Inv.of_same {s t : State} (h : s.Inv) (hm : t.mgt = s.mgt) (hi : t.img = s.img)
    (h1 : t.rd Reg.MGT_STAT = s.rd Reg.MGT_STAT) (h2 : t.rd Reg.SAF_STAT = s.rd Reg.SAF_STAT)
    (h3 : t.rd Reg.IMG_STAT = s.rd Reg.IMG_STAT) (h4 : t.rd Reg.SAF_SO = s.rd Reg.SAF_SO)
    (h5 : t.rd Reg.SAF_SORB = s.rd Reg.SAF_SORB) : t.Inv where
  sessions := by rw [State.get_of_rd _ h1, hm]; exact h.sessions
  subs := by rw [State.get_of_rd _ h1, hm]; exact h.subs
  arm := by
    rw [State.get_of_rd _ h1]
    show s.get Fld.MGT_STAT_ARM = _
    unfold State.armKind; rw [hm]; exact h.arm
  safe := by rw [State.get_of_rd _ h2, h4, h5]; exact h.safe
  adopting := by rw [State.get_of_rd _ h3, hi]; exact h.adopting
  reloading := by rw [State.get_of_rd _ h3, hi]; exact h.reloading

/-- What a running part does, once it is released from reset. -/
theorem State.running_released {s : State} (h : s.rst.inReset = false) (f : State → State) : s.running f = (f s).mirror := by
  unfold State.running; rw [h]; rfl

/-- Nothing acts while the part is held in reset. -/
theorem State.running_reset {s : State} (h : s.rst.inReset = true) (f : State → State) : s.running f = s := by
  unfold State.running; rw [h]; rfl

end Sys2Proof.Machine
end

