-- ==== Sys2Proof/Laws/Frames.lean ====
section
/-!
SUPPORT. Sys2Proof/Laws/Frames.lean: register frames: what the shared updates keep, and what a running part keeps.
-/
namespace Sys2Proof.Machine

theorem State.keeps_refl (s : State) (l : List Nat) : s.keeps s l := fun _ _ => rfl

theorem State.keeps.trans {s t u : State} {l : List Nat} (h : s.keeps t l) (h' : t.keeps u l) : s.keeps u l :=
  fun a ha => (h' a ha).trans (h a ha)

theorem State.keeps.mono {s t : State} {l l' : List Nat} (h : s.keeps t l) (hs : ∀ a ∈ l, a ∈ l') : s.keeps t l' :=
  fun a ha => h a (fun x => ha (hs a x))

theorem State.keeps_of_regs {s t : State} (l : List Nat) (h : t.regs = s.regs) : s.keeps t l :=
  fun a _ => State.rd_of_regs h a

theorem State.keeps.of_regs {s t u : State} {l : List Nat} (h : s.keeps t l) (hu : u.regs = t.regs) : s.keeps u l :=
  h.trans (State.keeps_of_regs l hu)

theorem State.keeps.wr {s t : State} {l : List Nat} (h : s.keeps t l) (a : Nat) (v : Word) (ha : a ∈ l) : s.keeps (t.wr a v) l :=
  h.trans fun _ hb => State.rd_wr_ne _ _ (fun e => hb (e ▸ ha))

theorem State.keeps.set {s t : State} {l : List Nat} (h : s.keeps t l) (f : Field) (v : Nat) (ha : f.addr ∈ l) :
    s.keeps (t.set f v) l := h.wr _ _ ha

theorem State.keeps.setBit {s t : State} {l : List Nat} (h : s.keeps t l) (f : Field) (b : Bool) (ha : f.addr ∈ l) :
    s.keeps (t.setBit f b) l := h.wr _ _ ha

theorem State.keeps.count {s t : State} {l : List Nat} (h : s.keeps t l) (f : Field) (ha : f.addr ∈ l) :
    s.keeps (t.count f) l := h.wr _ _ ha

theorem State.keeps.countWrap {s t : State} {l : List Nat} (h : s.keeps t l) (f : Field) (ha : f.addr ∈ l) :
    s.keeps (t.countWrap f) l := h.wr _ _ ha

theorem State.keeps.countBy {s t : State} {l : List Nat} (h : s.keeps t l) (f : Field) (n : Nat) (ha : f.addr ∈ l) :
    s.keeps (t.countBy f n) l := h.wr _ _ ha

theorem State.keeps.startStep {s t : State} {l : List Nat} (h : s.keeps t l) (n : Nat) (ha : Reg.SYS_STAT ∈ l) :
    s.keeps (t.startStep n) l := h.wr _ _ ha

theorem State.keeps.refuse {s t : State} {l : List Nat} (h : s.keeps t l) (b c a : Nat) (h1 : Reg.SYS_REFADDR ∈ l)
    (h2 : Reg.SYS_REFINFO ∈ l) : s.keeps (t.refuse b c a) l :=
  (((h.wr _ _ h1).set Fld.SYS_REFINFO_CODE c h2).set Fld.SYS_REFINFO_BLOCK b h2).count Fld.SYS_REFINFO_COUNT h2

theorem State.keeps.raise {s t : State} {l : List Nat} (h : s.keeps t l) (c : Nat) (src : Word) (d : List Byte) :
    s.keeps (t.raise c src d) l := h.of_regs rfl

theorem State.keeps.push {s t : State} {l : List Nat} (h : s.keeps t l) (m : Msg) : s.keeps (t.push m) l :=
  h.of_regs (State.push_regs t m)

theorem State.keeps.when {s t : State} {l : List Nat} (h : s.keeps t l) (c : Bool) (f : State → State)
    (hf : s.keeps t l → s.keeps (f t) l) : s.keeps (t.when c f) l := by
  unfold State.when; split
  · exact hf h
  · exact h

theorem State.keeps.each {α : Type} {s t : State} {l : List Nat} (h : s.keeps t l) (xs : List α) (f : α → State → State)
    (hf : ∀ x u, s.keeps u l → s.keeps (f x u) l) : s.keeps (t.each xs f) l := by
  unfold State.each
  induction xs generalizing t with
  | nil => exact h
  | cons x xs ih => exact ih (hf x t h)

/-- What a command of a running part keeps, where it leaves what the mirrored fields speak of alone. -/
theorem State.keeps.mirror {s t : State} {l : List Nat} (h : s.keeps t l) (hi : s.Inv) (hm : t.mgt = s.mgt) (hg : t.img = s.img)
    (hl : ∀ a ∈ [Reg.MGT_STAT, Reg.SAF_STAT, Reg.IMG_STAT, Reg.SAF_SO, Reg.SAF_SORB], a ∉ l) : s.keeps t.mirror l := by
  intro a ha
  have e : ∀ b ∈ [Reg.MGT_STAT, Reg.SAF_STAT, Reg.IMG_STAT, Reg.SAF_SO, Reg.SAF_SORB], t.rd b = s.rd b := fun b hb => h b (hl b hb)
  rw [(State.Inv.of_same hi hm hg (e _ (by simp)) (e _ (by simp)) (e _ (by simp)) (e _ (by simp)) (e _ (by simp))).rd_mirror a]
  exact h a ha

/-- The mirrored registers apart, a running part keeps what the command keeps. -/
theorem State.keeps.mirror_any {s t : State} {l : List Nat} (h : s.keeps t l) (h1 : Reg.MGT_STAT ∈ l) (h2 : Reg.SAF_STAT ∈ l)
    (h3 : Reg.IMG_STAT ∈ l) : s.keeps t.mirror l := by
  intro a ha
  rw [State.rd_mirror t (fun e => ha (by rw [e]; exact h1)) (fun e => ha (by rw [e]; exact h2)) (fun e => ha (by rw [e]; exact h3))]
  exact h a ha

theorem State.get_mirror (s : State) (f : Field) (h1 : f.addr ≠ Reg.MGT_STAT) (h2 : f.addr ≠ Reg.SAF_STAT)
    (h3 : f.addr ≠ Reg.IMG_STAT) : s.mirror.get f = s.get f := State.get_of_rd f (State.rd_mirror s h1 h2 h3)

theorem State.get_raise (s : State) (f : Field) (c : Nat) (src : Word) (d : List Byte) : (s.raise c src d).get f = s.get f :=
  State.get_of_regs rfl f

theorem State.rd_raise (s : State) (a : Nat) (c : Nat) (src : Word) (d : List Byte) : (s.raise c src d).rd a = s.rd a :=
  State.rd_of_regs rfl a

theorem State.get_count_ne (s : State) (f g : Field) (h : g.addr ≠ f.addr) : (s.count f).get g = s.get g :=
  State.get_set_ne s f g _ h

theorem State.get_count_disjoint (s : State) (f g : Field) (h : f.lo + f.width ≤ 32) (hg : g.width ≤ 32)
    (hd : f.lo + f.width ≤ g.lo ∨ g.lo + g.width ≤ f.lo) : (s.count f).get g = s.get g :=
  State.get_set_disjoint s f g _ h hg hd

theorem State.get_startStep_self (s : State) (n : Nat) (h : n < 16) :
    (s.startStep n).get Fld.SYS_STAT_START = max (s.get Fld.SYS_STAT_START) n := by
  unfold State.startStep
  rw [State.get_set_self _ _ _ (by decide)]
  have := State.get_lt s Fld.SYS_STAT_START
  exact Nat.mod_eq_of_lt (by simp only [Nat.max_def]; split <;> omega)

theorem State.get_startStep_ne (s : State) (n : Nat) (f : Field) (h : f.addr ≠ Reg.SYS_STAT) : (s.startStep n).get f = s.get f :=
  State.get_set_ne s _ f _ h

theorem State.rd_startStep_ne (s : State) (n : Nat) {a : Nat} (h : a ≠ Reg.SYS_STAT) : (s.startStep n).rd a = s.rd a :=
  State.rd_set_ne s _ _ h

/-- R489: what a refused write leaves in SYS_REFADDR and SYS_REFINFO. -/
theorem State.refuse_status (s : State) (b c a : Nat) : (s.refuse b c a).rd Reg.SYS_REFADDR = BitVec.ofNat 32 a ∧
    (s.refuse b c a).get Fld.SYS_REFINFO_CODE = c % 2 ^ Fld.SYS_REFINFO_CODE.width ∧
    (s.refuse b c a).get Fld.SYS_REFINFO_BLOCK = b % 2 ^ Fld.SYS_REFINFO_BLOCK.width ∧
    (s.refuse b c a).get Fld.SYS_REFINFO_COUNT = min (s.get Fld.SYS_REFINFO_COUNT + 1) (2 ^ Fld.SYS_REFINFO_COUNT.width - 1) := by
  unfold State.refuse
  refine ⟨?_, ?_, ?_, ?_⟩
  · rw [State.rd_count_ne _ _ (by decide), State.rd_set_ne _ _ _ (by decide), State.rd_set_ne _ _ _ (by decide), State.rd_wr_self]
  · rw [State.get_count_disjoint _ _ _ (by decide) (by decide) (by decide),
      State.get_set_disjoint _ _ _ _ (by decide) (by decide) (by decide), State.get_set_self _ _ _ (by decide)]
  · rw [State.get_count_disjoint _ _ _ (by decide) (by decide) (by decide), State.get_set_self _ _ _ (by decide)]
  · rw [State.get_count_self _ _ (by decide), State.get_set_disjoint _ _ _ _ (by decide) (by decide) (by decide),
      State.get_set_disjoint _ _ _ _ (by decide) (by decide) (by decide), State.get_wr_ne _ _ _ (by decide)]

theorem State.rd_refuse_ne (s : State) (b c a : Nat) {x : Nat} (h1 : x ≠ Reg.SYS_REFADDR) (h2 : x ≠ Reg.SYS_REFINFO) :
    (s.refuse b c a).rd x = s.rd x := by
  unfold State.refuse
  rw [State.rd_count_ne _ _ h2, State.rd_set_ne _ _ _ h2, State.rd_set_ne _ _ _ h2, State.rd_wr_ne _ _ h1]

theorem State.get_refuse_ne (s : State) (b c a : Nat) (f : Field) (h1 : f.addr ≠ Reg.SYS_REFADDR) (h2 : f.addr ≠ Reg.SYS_REFINFO) :
    (s.refuse b c a).get f = s.get f := State.get_of_rd f (State.rd_refuse_ne s b c a h1 h2)

theorem State.rd_refuse_addr (s : State) (b c a : Nat) : (s.refuse b c a).rd Reg.SYS_REFADDR = BitVec.ofNat 32 a :=
  (State.refuse_status s b c a).1

theorem State.get_refuse_code (s : State) (b c a : Nat) :
    (s.refuse b c a).get Fld.SYS_REFINFO_CODE = c % 2 ^ Fld.SYS_REFINFO_CODE.width := (State.refuse_status s b c a).2.1

theorem State.get_refuse_block (s : State) (b c a : Nat) :
    (s.refuse b c a).get Fld.SYS_REFINFO_BLOCK = b % 2 ^ Fld.SYS_REFINFO_BLOCK.width := (State.refuse_status s b c a).2.2.1

theorem State.get_refuse_count (s : State) (b c a : Nat) :
    (s.refuse b c a).get Fld.SYS_REFINFO_COUNT = min (s.get Fld.SYS_REFINFO_COUNT + 1) (2 ^ Fld.SYS_REFINFO_COUNT.width - 1) :=
  (State.refuse_status s b c a).2.2.2

theorem State.get_setBit_ne (s : State) (f g : Field) (b : Bool) (h : g.addr ≠ f.addr) : (s.setBit f b).get g = s.get g :=
  State.get_set_ne s f g _ h

theorem State.get_setBit_disjoint (s : State) (f g : Field) (b : Bool) (h : f.lo + f.width ≤ 32) (hg : g.width ≤ 32)
    (hd : f.lo + f.width ≤ g.lo ∨ g.lo + g.width ≤ f.lo) : (s.setBit f b).get g = s.get g :=
  State.get_set_disjoint s f g _ h hg hd

theorem State.rd_setBit_ne (s : State) (f : Field) (b : Bool) {a : Nat} (h : a ≠ f.addr) : (s.setBit f b).rd a = s.rd a :=
  State.rd_set_ne s f _ h

theorem State.get_countWrap_self (s : State) (f : Field) (h : f.lo + f.width ≤ 32) :
    (s.countWrap f).get f = (s.get f + 1) % 2 ^ f.width := by
  unfold State.countWrap; rw [State.get_set_self _ _ _ h, Nat.mod_mod]

theorem State.get_countWrap_ne (s : State) (f g : Field) (h : g.addr ≠ f.addr) : (s.countWrap f).get g = s.get g :=
  State.get_set_ne s f g _ h

theorem State.rd_countWrap_ne (s : State) (f : Field) {a : Nat} (h : a ≠ f.addr) : (s.countWrap f).rd a = s.rd a :=
  State.rd_set_ne s f _ h

theorem State.get_countBy_self (s : State) (f : Field) (n : Nat) (h : f.lo + f.width ≤ 32) :
    (s.countBy f n).get f = min (s.get f + n) (2 ^ f.width - 1) := by
  unfold State.countBy; rw [State.get_set_self _ _ _ h]
  have : 0 < 2 ^ f.width := Nat.two_pow_pos _
  exact Nat.mod_eq_of_lt (by omega)

theorem State.get_countBy_ne (s : State) (f g : Field) (n : Nat) (h : g.addr ≠ f.addr) : (s.countBy f n).get g = s.get g :=
  State.get_set_ne s f g _ h

theorem State.rd_push (s : State) (m : Msg) (a : Nat) : (s.push m).rd a = s.rd a := State.rd_of_regs (State.push_regs s m) a

theorem State.get_push (s : State) (m : Msg) (f : Field) : (s.push m).get f = s.get f := State.get_of_regs (State.push_regs s m) f

theorem State.get_fresh (s : State) (f : Field) : s.fresh.get f = s.get f := rfl

theorem State.rd_fresh (s : State) (a : Nat) : s.fresh.rd a = s.rd a := rfl

theorem State.when_true (s : State) (f : State → State) : s.when true f = f s := rfl

theorem State.when_false (s : State) (f : State → State) : s.when false f = s := rfl

theorem State.each_nil {α : Type} (s : State) (f : α → State → State) : s.each [] f = s := rfl

theorem State.each_cons {α : Type} (s : State) (x : α) (l : List α) (f : α → State → State) :
    s.each (x :: l) f = (f x s).each l f := rfl

end Sys2Proof.Machine
end

