-- ==== Sys2Proof/Laws/Memory.lean ====
section
/-!
SUPPORT. Sys2Proof/Laws/Memory.lean: every operation on registers and memories keeps the canonical form.
-/
namespace Sys2Proof.Machine

theorem Memory.reset_wf : Memory.wf State.reset := by decide

theorem State.wr_wf {s : State} (h : Memory.wf s) (a : Nat) (v : Word) : Memory.wf (s.wr a v) :=
  ⟨cellsSet_wf _ _ _ _ h.1, h.2⟩

theorem State.set_wf {s : State} (h : Memory.wf s) (f : Field) (v : Nat) : Memory.wf (s.set f v) := State.wr_wf h _ _

theorem State.setNvm_wf {s : State} (h : Memory.wf s) (bank a : Nat) (v : Byte) : Memory.wf (s.setNvm bank a v) := by
  unfold State.setNvm; split
  · exact ⟨h.1, cellsSet_wf _ _ _ _ h.2.1, h.2.2⟩
  · exact ⟨h.1, h.2.1, cellsSet_wf _ _ _ _ h.2.2.1, h.2.2.2⟩

theorem State.nvmProgram_wf {s : State} (h : Memory.wf s) (bank a : Nat) (l : List Byte) : Memory.wf (s.nvmProgram bank a l) := by
  induction l generalizing s a with
  | nil => exact h
  | cons b bs ih => exact ih (State.setNvm_wf h bank a _) (a + 1)

theorem State.nvmEraseSector_wf {s : State} (h : Memory.wf s) (bank a : Nat) : Memory.wf (s.nvmEraseSector bank a) := by
  unfold State.nvmEraseSector; dsimp only; split
  · exact ⟨h.1, cellsFilter_wf _ _ _ h.2.1, h.2.2⟩
  · exact ⟨h.1, h.2.1, cellsFilter_wf _ _ _ h.2.2.1, h.2.2.2⟩

theorem cellsFold_wf {α β : Type} [DecidableEq α] (d : α) (key : β → Nat) (val : β → α) (l : List β) (m : Cells α) (h : cellsWf d m) :
    cellsWf d (l.foldl (fun m i => cellsSet d m (key i) (val i)) m) := by
  induction l generalizing m with
  | nil => exact h
  | cons b bs ih => exact ih _ (cellsSet_wf _ _ _ _ h)

theorem State.memWr_wf {s : State} (h : Memory.wf s) (a : Nat) (v : Word) : Memory.wf (s.memWr a v) :=
  ⟨h.1, h.2.1, h.2.2.1, cellsFold_wf 0 (fun i => a + i) (fun i => BitVec.ofNat 8 (v.toNat / 2 ^ (8 * i))) _ _ h.2.2.2⟩

theorem State.memWrAll_wf {s : State} (h : Memory.wf s) (a : Nat) (l : List Word) : Memory.wf (s.memWrAll a l) := by
  induction l generalizing s a with
  | nil => exact h
  | cons v vs ih => exact ih (State.memWr_wf h a v) (a + 4)

end Sys2Proof.Machine
end

