-- ==== Sys2Proof/Laws/Requests.lean ====
section
/-!
SUPPORT. Sys2Proof/Laws/Requests.lean: what becomes of a request that the part accepts.
-/
namespace Sys2Proof.Machine

/-- An accepted request is executed once. -/
theorem State.Accepts.request {s : State} {r : Req} {ttype : Nat} {body : List Byte} (h : s.Accepts r ttype body) (g : Gate)
    (f : State → State × Resp) : s.request r ttype body g f = s.execRequest r f := by
  obtain ⟨⟨h1, hd, h2, h3, ⟨h4, h5⟩, h6, h7⟩, h8, ⟨x, hx, ht⟩⟩ := h
  unfold State.request
  rw [if_neg (fun e => e.elim (fun e => absurd (h1 e.1) (by omega)) (fun e => by simp [hd] at e)), if_neg (by simp [h2]),
    if_neg (by cases hc : s.cfg <;> simp_all), if_neg (by simp [h4, h5]), if_neg (by simp [h6]), if_neg (by simp [h7]), if_neg h8]
  unfold State.sessionRequest
  rw [hx]
  exact if_pos ht

/-- A request that is heard without a session is executed where the command takes SESSION = 0. -/
theorem State.Heard.request {s : State} {r : Req} {ttype : Nat} {body : List Byte} (h : s.Heard r ttype body) (hs : r.session = 0)
    (g : Gate) (hg : g.zero = true) (f : State → State × Resp) :
    s.request r ttype body g f = (f (s.count Fld.MGT_CNT1_REQUESTS)).1.push (respMsg r (f (s.count Fld.MGT_CNT1_REQUESTS)).2) := by
  obtain ⟨h1, hd, h2, h3, ⟨h4, h5⟩, h6, h7⟩ := h
  unfold State.request
  rw [if_neg (fun e => e.elim (fun e => absurd (h1 e.1) (by omega)) (fun e => by simp [hd] at e)), if_neg (by simp [h2]),
    if_neg (by cases hc : s.cfg <;> simp_all), if_neg (by simp [h4, h5]), if_neg (by simp [h6]), if_neg (by simp [h7]), if_pos hs,
    if_pos hg]

theorem State.Accepts.command {s : State} {r : Req} {op : Nat} {args : List Byte} (h : s.Accepts r 3 (cmdBody op args)) (g : Gate)
    (f : State → State × Resp) (hr : s.rst.inReset = false) : s.command r op args g f = (s.execRequest r f).mirror := by
  unfold State.command
  rw [State.running_released hr, h.request]

theorem State.push_out (s : State) (m : Msg) : (s.push m).out m.path = s.out m.path ++ [m] := by
  unfold State.push; split <;> rename_i h <;> rw [h] <;> rfl

theorem State.push_out_ne (s : State) (m : Msg) {p : Path} (h : p ≠ m.path) : (s.push m).out p = s.out p := by
  unfold State.push; split <;> rename_i e <;> rw [e] at h <;> cases p <;> first | rfl | exact absurd rfl h

theorem State.touchSession_out (s : State) (id : Word) (f : Session → Session) (p : Path) : (s.touchSession id f).out p = s.out p := by
  unfold State.touchSession; split
  · rfl
  · cases p <;> rfl

theorem State.touchSession_regs (s : State) (id : Word) (f : Session → Session) : (s.touchSession id f).regs = s.regs := by
  unfold State.touchSession; split <;> rfl

theorem State.mirror_out (s : State) (p : Path) : s.mirror.out p = s.out p := by cases p <;> rfl

theorem State.result_regs (s : State) (q : ReqRef) (c : Nat) (d : List Byte) : (s.result q c d).regs = s.regs := by
  unfold State.result; split
  · exact State.push_regs _ _
  · rfl

theorem State.resultOpt_regs (s : State) (q : Option ReqRef) (c : Nat) (d : List Byte) : (s.resultOpt q c d).regs = s.regs := by
  unfold State.resultOpt; split
  · exact State.result_regs _ _ _ _
  · rfl

/-- What an executed request answers, and the registers that it leaves. -/
theorem State.execRequest_out (s : State) (r : Req) (f : State → State × Resp) :
    (s.execRequest r f).out r.path = (f (s.count Fld.MGT_CNT1_REQUESTS)).1.out r.path ++
      [respMsg r (f (s.count Fld.MGT_CNT1_REQUESTS)).2] := by
  unfold State.execRequest
  dsimp only
  rw [State.touchSession_out]
  exact State.push_out _ _

theorem State.execRequest_regs (s : State) (r : Req) (f : State → State × Resp) :
    (s.execRequest r f).regs = (f (s.count Fld.MGT_CNT1_REQUESTS)).1.regs := by
  unfold State.execRequest
  dsimp only
  rw [State.touchSession_regs, State.push_regs]

end Sys2Proof.Machine
end

