-- ==== Sys2Proof/Laws/Touch.lean ====
section
/-!
SUPPORT. Sys2Proof/Laws/Touch.lean: which parts of the state an operation may change, as a list of parts; everything outside the
list is as it was.  The registers are no part here (State.keeps speaks of them).
-/
namespace Sys2Proof.Machine

theorem State.Touch.refl (l : List Part) (s : State) : State.Touch l s s := by
  intro p _; cases p <;> first | rfl | exact ⟨rfl, rfl⟩ | exact List.prefix_rfl

theorem Part.same_trans {p : Part} {s t u : State} (h : p.same s t) (h' : p.same t u) : p.same s u := by
  cases p <;> first
    | exact Eq.trans h' h
    | exact ⟨h'.1.trans h.1, h'.2.trans h.2⟩
    | exact List.IsPrefix.trans h h'

theorem State.Touch.trans {l : List Part} {s t u : State} (h : State.Touch l s t) (h' : State.Touch l t u) : State.Touch l s u :=
  fun p hp => Part.same_trans (h p hp) (h' p hp)

theorem State.Touch.mono {l l' : List Part} {s t : State} (h : State.Touch l s t) (hs : ∀ p ∈ l, p ∈ l') : State.Touch l' s t :=
  fun p hp => h p (fun x => hp (hs p x))

/-- An operation that touches no more than the list, after others that do not either. -/
theorem State.Touch.call {l l' : List Part} {s t u : State} (h : State.Touch l s t) (h' : State.Touch l' t u)
    (hs : ∀ p ∈ l', p ∈ l) : State.Touch l s u := h.trans (h'.mono hs)

theorem State.Touch.each {α : Type} {l : List Part} {s t : State} (h : State.Touch l s t) (xs : List α) (f : α → State → State)
    (hf : ∀ x u, State.Touch l s u → State.Touch l s (f x u)) : State.Touch l s (t.each xs f) := by
  unfold State.each
  induction xs generalizing t with
  | nil => exact h
  | cons x xs ih => exact ih (hf x t h)

theorem State.Touch.foldl {α : Type} {l : List Part} {s t : State} (h : State.Touch l s t) (xs : List α) (f : State → α → State)
    (hf : ∀ x u, State.Touch l s u → State.Touch l s (f u x)) : State.Touch l s (xs.foldl f t) := by
  induction xs generalizing t with
  | nil => exact h
  | cons x xs ih => exact ih (hf x t h)

theorem State.Touch.when {l : List Part} {s t : State} (h : State.Touch l s t) (c : Bool) (f : State → State)
    (hf : ∀ u, State.Touch l s u → State.Touch l s (f u)) : State.Touch l s (t.when c f) := by
  unfold State.when; split
  · exact hf t h
  · exact h

theorem State.Touch.ite {l : List Part} {s t u : State} {c : Prop} [Decidable c] (h : State.Touch l s t) (h' : State.Touch l s u) :
    State.Touch l s (if c then t else u) := by split <;> assumption

/-- The state half of a result that has been taken apart. -/
theorem State.Touch.fst {α : Type} {l l' : List Part} {s t u : State} {p : State × α} {x : α} (e : p = (u, x)) (h : State.Touch l s t)
    (h' : State.Touch l' t p.1) (hs : ∀ p ∈ l', p ∈ l) : State.Touch l s u := by
  subst e; exact h.call h' hs

/-- A change of the registers touches no part. -/
theorem State.Touch.regs {l : List Part} {s t : State} (h : State.Touch l s t) (r : Cells Word) :
    State.Touch l s { t with regs := r } := h.trans (fun p _ => by cases p <;> first | rfl | exact ⟨rfl, rfl⟩ | exact List.prefix_rfl)

theorem State.Touch.wr {l : List Part} {s t : State} (h : State.Touch l s t) (a : Nat) (v : Word) : State.Touch l s (t.wr a v) :=
  h.regs _
theorem State.Touch.set {l : List Part} {s t : State} (h : State.Touch l s t) (f : Field) (v : Nat) :
    State.Touch l s (t.set f v) := h.regs _
theorem State.Touch.setBit {l : List Part} {s t : State} (h : State.Touch l s t) (f : Field) (b : Bool) :
    State.Touch l s (t.setBit f b) := h.regs _
theorem State.Touch.count {l : List Part} {s t : State} (h : State.Touch l s t) (f : Field) : State.Touch l s (t.count f) := h.regs _
theorem State.Touch.countWrap {l : List Part} {s t : State} (h : State.Touch l s t) (f : Field) :
    State.Touch l s (t.countWrap f) := h.regs _
theorem State.Touch.countBy {l : List Part} {s t : State} (h : State.Touch l s t) (f : Field) (n : Nat) :
    State.Touch l s (t.countBy f n) := h.regs _

theorem State.Touch.raise {l : List Part} {s t : State} (h : State.Touch l s t) (c : Nat) (src : Word) (d : List Byte) :
    State.Touch l s (t.raise c src d) := h.trans (fun p _ => by cases p <;> first | rfl | exact ⟨rfl, rfl⟩ | exact List.prefix_append _ _)

/-! One part updated. -/

theorem State.Touch.upd_nvm0 {l : List Part} {s t : State} (h : State.Touch l s t) (x : Cells Byte) (hl : Part.nvm0 ∈ l) :
    State.Touch l s { t with nvm0 := x } :=
  h.trans (fun p hn => by cases p <;> first | rfl | exact ⟨rfl, rfl⟩ | exact List.prefix_rfl | exact absurd hl hn)
theorem State.Touch.upd_nvm1 {l : List Part} {s t : State} (h : State.Touch l s t) (x : Cells Byte) (hl : Part.nvm1 ∈ l) :
    State.Touch l s { t with nvm1 := x } :=
  h.trans (fun p hn => by cases p <;> first | rfl | exact ⟨rfl, rfl⟩ | exact List.prefix_rfl | exact absurd hl hn)
theorem State.Touch.upd_omem {l : List Part} {s t : State} (h : State.Touch l s t) (x : Cells Byte) (hl : Part.omem ∈ l) :
    State.Touch l s { t with omem := x } :=
  h.trans (fun p hn => by cases p <;> first | rfl | exact ⟨rfl, rfl⟩ | exact List.prefix_rfl | exact absurd hl hn)
theorem State.Touch.upd_keyStore {l : List Part} {s t : State} (h : State.Touch l s t) (x : Option (List Byte)) (hl : Part.keyStore ∈ l) :
    State.Touch l s { t with keyStore := x } :=
  h.trans (fun p hn => by cases p <;> first | rfl | exact ⟨rfl, rfl⟩ | exact List.prefix_rfl | exact absurd hl hn)
theorem State.Touch.upd_cfg {l : List Part} {s t : State} (h : State.Touch l s t) (x y : Option ImageCfg) (hl : Part.cfg ∈ l) :
    State.Touch l s { t with cfg := x, base := y } :=
  h.trans (fun p hn => by cases p <;> first | rfl | exact ⟨rfl, rfl⟩ | exact List.prefix_rfl | exact absurd hl hn)
theorem State.Touch.upd_aon {l : List Part} {s t : State} (h : State.Touch l s t) (x : AonSt) (hl : Part.aon ∈ l) :
    State.Touch l s { t with aon := x } :=
  h.trans (fun p hn => by cases p <;> first | rfl | exact ⟨rfl, rfl⟩ | exact List.prefix_rfl | exact absurd hl hn)
theorem State.Touch.upd_rst {l : List Part} {s t : State} (h : State.Touch l s t) (x : RstSt) (hl : Part.rst ∈ l) :
    State.Touch l s { t with rst := x } :=
  h.trans (fun p hn => by cases p <;> first | rfl | exact ⟨rfl, rfl⟩ | exact List.prefix_rfl | exact absurd hl hn)
theorem State.Touch.upd_clk {l : List Part} {s t : State} (h : State.Touch l s t) (x : ClkSt) (hl : Part.clk ∈ l) :
    State.Touch l s { t with clk := x } :=
  h.trans (fun p hn => by cases p <;> first | rfl | exact ⟨rfl, rfl⟩ | exact List.prefix_rfl | exact absurd hl hn)
theorem State.Touch.upd_tb {l : List Part} {s t : State} (h : State.Touch l s t) (x : TbSt) (hl : Part.tb ∈ l) :
    State.Touch l s { t with tb := x } :=
  h.trans (fun p hn => by cases p <;> first | rfl | exact ⟨rfl, rfl⟩ | exact List.prefix_rfl | exact absurd hl hn)
theorem State.Touch.upd_img {l : List Part} {s t : State} (h : State.Touch l s t) (x : ImgSt) (hl : Part.img ∈ l) :
    State.Touch l s { t with img := x } :=
  h.trans (fun p hn => by cases p <;> first | rfl | exact ⟨rfl, rfl⟩ | exact List.prefix_rfl | exact absurd hl hn)
theorem State.Touch.upd_recd {l : List Part} {s t : State} (h : State.Touch l s t) (x : RecSt) (hl : Part.recd ∈ l)
    (hp : x.port = t.recd.port) : State.Touch l s { t with recd := x } :=
  h.trans (fun p hn => by
    cases p <;> first
      | rfl
      | exact ⟨rfl, rfl⟩
      | exact absurd hl hn
      | (show t.recd.port <+: x.port; rw [hp]))
theorem State.Touch.upd_mgt {l : List Part} {s t : State} (h : State.Touch l s t) (x : MgtSt) (hl : Part.mgt ∈ l) :
    State.Touch l s { t with mgt := x } :=
  h.trans (fun p hn => by cases p <;> first | rfl | exact ⟨rfl, rfl⟩ | exact List.prefix_rfl | exact absurd hl hn)
theorem State.Touch.upd_frame {l : List Part} {s t : State} (h : State.Touch l s t) (x : FrameSt) (hl : Part.frame ∈ l) :
    State.Touch l s { t with frame := x } :=
  h.trans (fun p hn => by cases p <;> first | rfl | exact ⟨rfl, rfl⟩ | exact List.prefix_rfl | exact absurd hl hn)
theorem State.Touch.upd_chans {l : List Part} {s t : State} (h : State.Touch l s t) (x : List Chan) (hl : Part.chans ∈ l) :
    State.Touch l s { t with chans := x } :=
  h.trans (fun p hn => by cases p <;> first | rfl | exact ⟨rfl, rfl⟩ | exact List.prefix_rfl | exact absurd hl hn)
theorem State.Touch.upd_fab {l : List Part} {s t : State} (h : State.Touch l s t) (x : FabSt) (hl : Part.fab ∈ l) :
    State.Touch l s { t with fab := x } :=
  h.trans (fun p hn => by cases p <;> first | rfl | exact ⟨rfl, rfl⟩ | exact List.prefix_rfl | exact absurd hl hn)
theorem State.Touch.upd_fus {l : List Part} {s t : State} (h : State.Touch l s t) (x : FusSt) (hl : Part.fus ∈ l) :
    State.Touch l s { t with fus := x } :=
  h.trans (fun p hn => by cases p <;> first | rfl | exact ⟨rfl, rfl⟩ | exact List.prefix_rfl | exact absurd hl hn)
theorem State.Touch.upd_ctl {l : List Part} {s t : State} (h : State.Touch l s t) (x : CtlSt) (hl : Part.ctl ∈ l) :
    State.Touch l s { t with ctl := x } :=
  h.trans (fun p hn => by cases p <;> first | rfl | exact ⟨rfl, rfl⟩ | exact List.prefix_rfl | exact absurd hl hn)
theorem State.Touch.upd_slv {l : List Part} {s t : State} (h : State.Touch l s t) (x : Cells Inst) (hl : Part.slv ∈ l) :
    State.Touch l s { t with slv := x } :=
  h.trans (fun p hn => by cases p <;> first | rfl | exact ⟨rfl, rfl⟩ | exact List.prefix_rfl | exact absurd hl hn)
theorem State.Touch.upd_alc {l : List Part} {s t : State} (h : State.Touch l s t) (x : AlcSt) (hl : Part.alc ∈ l) :
    State.Touch l s { t with alc := x } :=
  h.trans (fun p hn => by cases p <;> first | rfl | exact ⟨rfl, rfl⟩ | exact List.prefix_rfl | exact absurd hl hn)
theorem State.Touch.upd_can {l : List Part} {s t : State} (h : State.Touch l s t) (x : List CanCtl) (hl : Part.can ∈ l) :
    State.Touch l s { t with can := x } :=
  h.trans (fun p hn => by cases p <;> first | rfl | exact ⟨rfl, rfl⟩ | exact List.prefix_rfl | exact absurd hl hn)
theorem State.Touch.upd_eth {l : List Part} {s t : State} (h : State.Touch l s t) (x : EthSt) (hl : Part.eth ∈ l) :
    State.Touch l s { t with eth := x } :=
  h.trans (fun p hn => by cases p <;> first | rfl | exact ⟨rfl, rfl⟩ | exact List.prefix_rfl | exact absurd hl hn)
theorem State.Touch.upd_ana {l : List Part} {s t : State} (h : State.Touch l s t) (x : AnaSt) (hl : Part.ana ∈ l) :
    State.Touch l s { t with ana := x } :=
  h.trans (fun p hn => by cases p <;> first | rfl | exact ⟨rfl, rfl⟩ | exact List.prefix_rfl | exact absurd hl hn)
theorem State.Touch.upd_srv {l : List Part} {s t : State} (h : State.Touch l s t) (x : Cells LoopSt) (hl : Part.srv ∈ l) :
    State.Touch l s { t with srv := x } :=
  h.trans (fun p hn => by cases p <;> first | rfl | exact ⟨rfl, rfl⟩ | exact List.prefix_rfl | exact absurd hl hn)
theorem State.Touch.upd_saf {l : List Part} {s t : State} (h : State.Touch l s t) (x : SafSt) (hl : Part.saf ∈ l) :
    State.Touch l s { t with saf := x } :=
  h.trans (fun p hn => by cases p <;> first | rfl | exact ⟨rfl, rfl⟩ | exact List.prefix_rfl | exact absurd hl hn)
theorem State.Touch.upd_grp {l : List Part} {s t : State} (h : State.Touch l s t) (x : GrpSt) (hl : Part.grp ∈ l) :
    State.Touch l s { t with grp := x } :=
  h.trans (fun p hn => by cases p <;> first | rfl | exact ⟨rfl, rfl⟩ | exact List.prefix_rfl | exact absurd hl hn)
theorem State.Touch.upd_freeCtr {l : List Part} {s t : State} (h : State.Touch l s t) (x : Nat) (hl : Part.freeCtr ∈ l) :
    State.Touch l s { t with freeCtr := x } :=
  h.trans (fun p hn => by cases p <;> first | rfl | exact ⟨rfl, rfl⟩ | exact List.prefix_rfl | exact absurd hl hn)
theorem State.Touch.upd_pending {l : List Part} {s t : State} (h : State.Touch l s t) (x : List Instr) (hl : Part.pending ∈ l) :
    State.Touch l s { t with pending := x } :=
  h.trans (fun p hn => by cases p <;> first | rfl | exact ⟨rfl, rfl⟩ | exact List.prefix_rfl | exact absurd hl hn)
theorem State.Touch.upd_recd_port {l : List Part} {s t : State} (h : State.Touch l s t) (x : RecSt) (hl : Part.recd ∈ l)
    (hp : Part.port ∈ l) : State.Touch l s { t with recd := x } :=
  h.trans (fun p hn => by cases p <;> first | rfl | exact ⟨rfl, rfl⟩ | exact absurd hl hn | exact absurd hp hn)

theorem State.Touch.foldlFst {α β : Type} {l : List Part} {s : State} (xs : List α) (f : State × β → α → State × β) (a : State × β)
    (h : State.Touch l s a.1) (hf : ∀ x a, State.Touch l s a.1 → State.Touch l s (f a x).1) : State.Touch l s (xs.foldl f a).1 := by
  induction xs generalizing a with
  | nil => exact h
  | cons x xs ih => exact ih _ (hf x a h)

end Sys2Proof.Machine
end

