-- ==== Sys2Proof/Laws/Touch/Ops.lean ====
section
/-!
SUPPORT. Sys2Proof/Laws/Touch/Ops.lean: which parts of the state each operation of Machine/Ops.lean may change.
-/
set_option linter.all false
set_option maxRecDepth 4000
namespace Sys2Proof.Machine

theorem State.Touch.setNow {l : List Part} {s0 s : State} (hT : State.Touch l s0 s)  (t : Nat)
    (hl : ∀ p ∈ ([] : List Part), p ∈ l) : State.Touch l s0 (State.setNow s t) := by
  have k : State.Touch [] s (State.setNow s t) := by
    unfold State.setNow
    try dsimp only
    iterate 60 all_goals try first
      | with_reducible assumption
      | with_reducible exact State.Touch.refl _ _
      | with_reducible refine State.Touch.wr ?_ _ _
      | with_reducible refine State.Touch.ite ?_ ?_
      | split
  exact hT.call k hl

theorem State.Touch.fresh {l : List Part} {s0 s : State} (hT : State.Touch l s0 s) 
    (hl : ∀ p ∈ ([.freeCtr] : List Part), p ∈ l) : State.Touch l s0 (State.fresh s) := by
  have k : State.Touch [.freeCtr] s (State.fresh s) := by
    unfold State.fresh
    try dsimp only
    iterate 60 all_goals try first
      | with_reducible assumption
      | with_reducible exact State.Touch.refl _ _
      | with_reducible refine State.Touch.ite ?_ ?_
      | split
      | with_reducible refine State.Touch.upd_freeCtr ?_ _ (by decide)
  exact hT.call k hl

theorem State.Touch.setNvm {l : List Part} {s0 s : State} (hT : State.Touch l s0 s)  (bank a : Nat) (v : Byte)
    (hl : ∀ p ∈ ([.nvm0, .nvm1] : List Part), p ∈ l) : State.Touch l s0 (State.setNvm s bank a v) := by
  have k : State.Touch [.nvm0, .nvm1] s (State.setNvm s bank a v) := by
    unfold State.setNvm
    try dsimp only
    iterate 60 all_goals try first
      | with_reducible assumption
      | with_reducible exact State.Touch.refl _ _
      | with_reducible refine State.Touch.ite ?_ ?_
      | split
      | with_reducible refine State.Touch.upd_nvm0 ?_ _ (by decide)
      | with_reducible refine State.Touch.upd_nvm1 ?_ _ (by decide)
  exact hT.call k hl

theorem State.Touch.nvmProgram {l : List Part} {s0 s : State} (h : State.Touch l s0 s) (bank a : Nat) (xs : List Byte)
    (hl : ∀ p ∈ ([.nvm0, .nvm1] : List Part), p ∈ l) : State.Touch l s0 (s.nvmProgram bank a xs) := by
  induction xs generalizing s a with
  | nil => exact h
  | cons b bs ih => exact ih (h.setNvm bank a _ hl) (a + 1)

theorem State.Touch.nvmEraseSector {l : List Part} {s0 s : State} (hT : State.Touch l s0 s)  (bank a : Nat)
    (hl : ∀ p ∈ ([.nvm0, .nvm1] : List Part), p ∈ l) : State.Touch l s0 (State.nvmEraseSector s bank a) := by
  have k : State.Touch [.nvm0, .nvm1] s (State.nvmEraseSector s bank a) := by
    unfold State.nvmEraseSector
    try dsimp only
    iterate 60 all_goals try first
      | with_reducible assumption
      | with_reducible exact State.Touch.refl _ _
      | with_reducible refine State.Touch.ite ?_ ?_
      | split
      | with_reducible refine State.Touch.upd_nvm0 ?_ _ (by decide)
      | with_reducible refine State.Touch.upd_nvm1 ?_ _ (by decide)
  exact hT.call k hl

theorem State.Touch.memWr {l : List Part} {s0 s : State} (hT : State.Touch l s0 s)  (a : Nat) (v : Word)
    (hl : ∀ p ∈ ([.omem] : List Part), p ∈ l) : State.Touch l s0 (State.memWr s a v) := by
  have k : State.Touch [.omem] s (State.memWr s a v) := by
    unfold State.memWr
    try dsimp only
    iterate 60 all_goals try first
      | with_reducible assumption
      | with_reducible exact State.Touch.refl _ _
      | with_reducible refine State.Touch.foldl ?_ _ _ (fun x u hu => ?_)
      | with_reducible refine State.Touch.ite ?_ ?_
      | split
      | with_reducible refine State.Touch.upd_omem ?_ _ (by decide)
  exact hT.call k hl

theorem State.Touch.memWrAll {l : List Part} {s0 s : State} (h : State.Touch l s0 s) (a : Nat) (xs : List Word)
    (hl : ∀ p ∈ ([.omem] : List Part), p ∈ l) : State.Touch l s0 (s.memWrAll a xs) := by
  induction xs generalizing s a with
  | nil => exact h
  | cons b bs ih => exact ih (h.memWr a b hl) (a + 4)

theorem State.Touch.refuse {l : List Part} {s0 s : State} (hT : State.Touch l s0 s)  (block code : Nat) (addr : Nat)
    (hl : ∀ p ∈ ([] : List Part), p ∈ l) : State.Touch l s0 (State.refuse s block code addr) := by
  have k : State.Touch [] s (State.refuse s block code addr) := by
    unfold State.refuse
    try dsimp only
    iterate 60 all_goals try first
      | with_reducible assumption
      | with_reducible exact State.Touch.refl _ _
      | with_reducible refine State.Touch.wr ?_ _ _
      | with_reducible refine State.Touch.set ?_ _ _
      | with_reducible refine State.Touch.count ?_ _
      | with_reducible refine State.Touch.ite ?_ ?_
      | split
  exact hT.call k hl

theorem State.Touch.mirrorMgt {l : List Part} {s0 s : State} (hT : State.Touch l s0 s) 
    (hl : ∀ p ∈ ([] : List Part), p ∈ l) : State.Touch l s0 (State.mirrorMgt s) := by
  have k : State.Touch [] s (State.mirrorMgt s) := by
    unfold State.mirrorMgt
    try dsimp only
    iterate 60 all_goals try first
      | with_reducible assumption
      | with_reducible exact State.Touch.refl _ _
      | with_reducible refine State.Touch.set ?_ _ _
      | with_reducible refine State.Touch.ite ?_ ?_
      | split
  exact hT.call k hl

theorem State.Touch.mirrorSafe {l : List Part} {s0 s : State} (hT : State.Touch l s0 s) 
    (hl : ∀ p ∈ ([] : List Part), p ∈ l) : State.Touch l s0 (State.mirrorSafe s) := by
  have k : State.Touch [] s (State.mirrorSafe s) := by
    unfold State.mirrorSafe
    try dsimp only
    iterate 60 all_goals try first
      | with_reducible assumption
      | with_reducible exact State.Touch.refl _ _
      | with_reducible refine State.Touch.setBit ?_ _ _
      | with_reducible refine State.Touch.ite ?_ ?_
      | split
  exact hT.call k hl

theorem State.Touch.mirrorImg {l : List Part} {s0 s : State} (hT : State.Touch l s0 s) 
    (hl : ∀ p ∈ ([] : List Part), p ∈ l) : State.Touch l s0 (State.mirrorImg s) := by
  have k : State.Touch [] s (State.mirrorImg s) := by
    unfold State.mirrorImg
    try dsimp only
    iterate 60 all_goals try first
      | with_reducible assumption
      | with_reducible exact State.Touch.refl _ _
      | with_reducible refine State.Touch.setBit ?_ _ _
      | with_reducible refine State.Touch.ite ?_ ?_
      | split
  exact hT.call k hl

theorem State.Touch.mirror {l : List Part} {s0 s : State} (hT : State.Touch l s0 s) 
    (hl : ∀ p ∈ ([] : List Part), p ∈ l) : State.Touch l s0 (State.mirror s) := by
  have k : State.Touch [] s (State.mirror s) := by
    unfold State.mirror
    try dsimp only
    iterate 60 all_goals try first
      | with_reducible assumption
      | with_reducible exact State.Touch.refl _ _
      | with_reducible refine State.Touch.mirrorImg ?_ (by decide)
      | with_reducible refine State.Touch.mirrorMgt ?_ (by decide)
      | with_reducible refine State.Touch.mirrorSafe ?_ (by decide)
      | with_reducible refine State.Touch.ite ?_ ?_
      | split
  exact hT.call k hl

theorem State.Touch.running {l : List Part} {s0 s : State} (h : State.Touch l s0 s) (f : State → State)
    (hf : ∀ u, State.Touch l s0 u → State.Touch l s0 (f u)) : State.Touch l s0 (s.running f) := by
  unfold State.running; split
  · exact h
  · exact (hf s h).mirror (by simp)

theorem State.Touch.forward {l : List Part} {s0 s : State} (hT : State.Touch l s0 s)  (code : Nat) (body : List Byte)
    (hl : ∀ p ∈ ([.grp] : List Part), p ∈ l) : State.Touch l s0 (State.forward s code body) := by
  have k : State.Touch [.grp] s (State.forward s code body) := by
    unfold State.forward
    try dsimp only
    iterate 60 all_goals try first
      | with_reducible assumption
      | with_reducible exact State.Touch.refl _ _
      | with_reducible refine State.Touch.count ?_ _
      | with_reducible refine State.Touch.ite ?_ ?_
      | split
      | with_reducible refine State.Touch.upd_grp ?_ _ (by decide)
  exact hT.call k hl

theorem State.Touch.forwardWrite {l : List Part} {s0 s : State} (hT : State.Touch l s0 s)  (addr : Nat) (v : Word)
    (hl : ∀ p ∈ ([.grp] : List Part), p ∈ l) : State.Touch l s0 (State.forwardWrite s addr v) := by
  have k : State.Touch [.grp] s (State.forwardWrite s addr v) := by
    unfold State.forwardWrite
    try dsimp only
    iterate 60 all_goals try first
      | with_reducible assumption
      | with_reducible exact State.Touch.refl _ _
      | with_reducible refine State.Touch.forward ?_ _ _ (by decide)
      | with_reducible refine State.Touch.ite ?_ ?_
      | split
  exact hT.call k hl

theorem State.Touch.startStep {l : List Part} {s0 s : State} (hT : State.Touch l s0 s)  (n : Nat)
    (hl : ∀ p ∈ ([] : List Part), p ∈ l) : State.Touch l s0 (State.startStep s n) := by
  have k : State.Touch [] s (State.startStep s n) := by
    unfold State.startStep
    try dsimp only
    iterate 60 all_goals try first
      | with_reducible assumption
      | with_reducible exact State.Touch.refl _ _
      | with_reducible refine State.Touch.set ?_ _ _
      | with_reducible refine State.Touch.ite ?_ ?_
      | split
  exact hT.call k hl

end Sys2Proof.Machine
end

