-- ==== Sys2Proof/Laws/Touch/Requests.lean ====
section
/-!
SUPPORT. Sys2Proof/Laws/Touch/Requests.lean: which parts of the state each operation of Machine/Requests.lean may change.
-/
set_option linter.all false
set_option maxRecDepth 4000
namespace Sys2Proof.Machine

theorem State.Touch.push {l : List Part} {s0 s : State} (hT : State.Touch l s0 s)  (m : Msg)
    (hl : ∀ p ∈ ([.mgt] : List Part), p ∈ l) : State.Touch l s0 (State.push s m) := by
  have k : State.Touch [.mgt] s (State.push s m) := by
    unfold State.push
    try dsimp only
    iterate 60 all_goals try first
      | with_reducible assumption
      | with_reducible exact State.Touch.refl _ _
      | with_reducible refine State.Touch.ite ?_ ?_
      | split
      | with_reducible refine State.Touch.upd_mgt ?_ _ (by decide)
  exact hT.call k hl

theorem State.Touch.endSession {l : List Part} {s0 s : State} (hT : State.Touch l s0 s)  (id : Word)
    (hl : ∀ p ∈ ([.mgt] : List Part), p ∈ l) : State.Touch l s0 (State.endSession s id) := by
  have k : State.Touch [.mgt] s (State.endSession s id) := by
    unfold State.endSession
    try dsimp only
    iterate 60 all_goals try first
      | with_reducible assumption
      | with_reducible exact State.Touch.refl _ _
      | with_reducible refine State.Touch.ite ?_ ?_
      | split
      | with_reducible refine State.Touch.upd_mgt ?_ _ (by decide)
  exact hT.call k hl

theorem State.Touch.touchSession {l : List Part} {s0 s : State} (hT : State.Touch l s0 s)  (id : Word) (f : Session → Session)
    (hl : ∀ p ∈ ([.mgt] : List Part), p ∈ l) : State.Touch l s0 (State.touchSession s id f) := by
  have k : State.Touch [.mgt] s (State.touchSession s id f) := by
    unfold State.touchSession
    try dsimp only
    iterate 60 all_goals try first
      | with_reducible assumption
      | with_reducible exact State.Touch.refl _ _
      | with_reducible refine State.Touch.ite ?_ ?_
      | split
      | with_reducible refine State.Touch.upd_mgt ?_ _ (by decide)
  exact hT.call k hl

theorem State.Touch.result {l : List Part} {s0 s : State} (hT : State.Touch l s0 s)  (q : ReqRef) (code : Nat) (data : List Byte)
    (hl : ∀ p ∈ ([.mgt] : List Part), p ∈ l) : State.Touch l s0 (State.result s q code data) := by
  have k : State.Touch [.mgt] s (State.result s q code data) := by
    unfold State.result
    try dsimp only
    iterate 60 all_goals try first
      | with_reducible assumption
      | with_reducible exact State.Touch.refl _ _
      | with_reducible refine State.Touch.push ?_ _ (by decide)
      | with_reducible refine State.Touch.ite ?_ ?_
      | split
  exact hT.call k hl

theorem State.Touch.resultOpt {l : List Part} {s0 s : State} (hT : State.Touch l s0 s)  (q : Option ReqRef) (code : Nat) (data : List Byte)
    (hl : ∀ p ∈ ([.mgt] : List Part), p ∈ l) : State.Touch l s0 (State.resultOpt s q code data) := by
  have k : State.Touch [.mgt] s (State.resultOpt s q code data) := by
    unfold State.resultOpt
    try dsimp only
    iterate 60 all_goals try first
      | with_reducible assumption
      | with_reducible exact State.Touch.refl _ _
      | with_reducible refine State.Touch.result ?_ _ _ _ (by decide)
      | with_reducible refine State.Touch.ite ?_ ?_
      | split
  exact hT.call k hl

theorem State.Touch.execRequest {l : List Part} {s0 s : State} (h : State.Touch l s0 s) (r : Req) (f : State → State × Resp)
    (hf : ∀ u, State.Touch l s0 u → State.Touch l s0 (f u).1) (hl : ∀ p ∈ ([.mgt] : List Part), p ∈ l) :
    State.Touch l s0 (s.execRequest r f) :=
  ((hf _ (h.count _)).push _ hl).touchSession _ _ hl

theorem State.Touch.sessionRequest {l : List Part} {s0 s : State} (h : State.Touch l s0 s) (r : Req) (f : State → State × Resp)
    (hf : ∀ u, State.Touch l s0 u → State.Touch l s0 (f u).1) (hl : ∀ p ∈ ([.mgt] : List Part), p ∈ l) :
    State.Touch l s0 (s.sessionRequest r f) := by
  unfold State.sessionRequest
  split
  · exact h.count _
  · dsimp only
    split_ifs
    · exact h.execRequest r f hf hl
    · split
      · exact ((h.push _ hl).touchSession _ _ hl).count _
      · exact h
    · exact h.count _

theorem State.Touch.bareRequest {l : List Part} {s0 s : State} (h : State.Touch l s0 s) (r : Req) (b : Bool) (f : State → State × Resp)
    (hf : ∀ u, State.Touch l s0 u → State.Touch l s0 (f u).1) (hl : ∀ p ∈ ([.mgt] : List Part), p ∈ l) :
    State.Touch l s0 (s.bareRequest r b f) := by
  unfold State.bareRequest
  split
  · refine State.Touch.push ?_ _ hl
    cases b
    · exact h
    · exact hf _ (h.count _)
  · exact h

theorem State.Touch.request {l : List Part} {s0 s : State} (h : State.Touch l s0 s) (r : Req) (ttype : Nat) (body : List Byte) (g : Gate)
    (f : State → State × Resp) (hf : ∀ u, State.Touch l s0 u → State.Touch l s0 (f u).1)
    (hl : ∀ p ∈ ([.mgt] : List Part), p ∈ l) : State.Touch l s0 (s.request r ttype body g f) := by
  unfold State.request
  split_ifs
  · exact h
  · exact h.bareRequest r _ f hf hl
  · exact h
  · exact h.count _
  · exact h.count _
  · exact h.count _
  · exact (hf _ (h.count _)).push _ hl
  · exact h.count _
  · exact h.sessionRequest r f hf hl

theorem State.Touch.command {l : List Part} {s0 s : State} (h : State.Touch l s0 s) (r : Req) (op : Nat) (args : List Byte) (g : Gate)
    (f : State → State × Resp) (hf : ∀ u, State.Touch l s0 u → State.Touch l s0 (f u).1)
    (hl : ∀ p ∈ ([.mgt] : List Part), p ∈ l) : State.Touch l s0 (s.command r op args g f) :=
  h.running _ (fun u hu => hu.request r 3 _ g f hf hl)

theorem State.Touch.modChan {l : List Part} {s0 s : State} (hT : State.Touch l s0 s)  (t i : Nat) (f : Chan → Chan)
    (hl : ∀ p ∈ ([.chans] : List Part), p ∈ l) : State.Touch l s0 (State.modChan s t i f) := by
  have k : State.Touch [.chans] s (State.modChan s t i f) := by
    unfold State.modChan
    try dsimp only
    iterate 60 all_goals try first
      | with_reducible assumption
      | with_reducible exact State.Touch.refl _ _
      | with_reducible refine State.Touch.ite ?_ ?_
      | split
      | with_reducible refine State.Touch.upd_chans ?_ _ (by decide)
  exact hT.call k hl

end Sys2Proof.Machine
end

