-- ==== Sys2Proof/Laws/Touch/Subscribers.lean ====
section
/-!
SUPPORT. Sys2Proof/Laws/Touch/Subscribers.lean: which parts of the state each operation of Machine/Subscribers.lean may change.
-/
set_option linter.all false
set_option maxRecDepth 4000
namespace Sys2Proof.Machine

theorem State.Touch.toSubs {l : List Part} {s0 s : State} (hT : State.Touch l s0 s)  (x : OutItem)
    (hl : ∀ p ∈ ([.mgt] : List Part), p ∈ l) : State.Touch l s0 (State.toSubs s x) := by
  have k : State.Touch [.mgt] s (State.toSubs s x) := by
    unfold State.toSubs
    try dsimp only
    iterate 60 all_goals try first
      | with_reducible assumption
      | with_reducible exact State.Touch.refl _ _
      | with_reducible refine State.Touch.ite ?_ ?_
      | split
      | with_reducible refine State.Touch.upd_mgt ?_ _ (by decide)
  exact hT.call k hl

theorem State.Touch.eventToSubs {l : List Part} {s0 s : State} (hT : State.Touch l s0 s)  (e : Event)
    (hl : ∀ p ∈ ([.mgt] : List Part), p ∈ l) : State.Touch l s0 (State.eventToSubs s e) := by
  have k : State.Touch [.mgt] s (State.eventToSubs s e) := by
    unfold State.eventToSubs
    try dsimp only
    iterate 60 all_goals try first
      | with_reducible assumption
      | with_reducible exact State.Touch.refl _ _
      | with_reducible refine State.Touch.ite ?_ ?_
      | split
      | with_reducible refine State.Touch.upd_mgt ?_ _ (by decide)
  exact hT.call k hl

end Sys2Proof.Machine
end

