-- ==== Sys2Proof/Laws/Touch/Ports.lean ====
section
/-!
SUPPORT. Sys2Proof/Laws/Touch/Ports.lean: which parts of the state each operation of Machine/Ports.lean may change.
-/
set_option linter.all false
set_option maxRecDepth 4000
namespace Sys2Proof.Machine

theorem State.Touch.modCan {l : List Part} {s0 s : State} (hT : State.Touch l s0 s)  (n : Nat) (f : CanCtl → CanCtl)
    (hl : ∀ p ∈ ([.can] : List Part), p ∈ l) : State.Touch l s0 (State.modCan s n f) := by
  have k : State.Touch [.can] s (State.modCan s n f) := by
    unfold State.modCan
    try dsimp only
    iterate 60 all_goals try first
      | with_reducible assumption
      | with_reducible exact State.Touch.refl _ _
      | with_reducible refine State.Touch.ite ?_ ?_
      | split
      | with_reducible refine State.Touch.upd_can ?_ _ (by decide)
  exact hT.call k hl

theorem State.Touch.modObj {l : List Part} {s0 s : State} (hT : State.Touch l s0 s)  (n o : Nat) (f : CanObj → CanObj)
    (hl : ∀ p ∈ ([.can] : List Part), p ∈ l) : State.Touch l s0 (State.modObj s n o f) := by
  have k : State.Touch [.can] s (State.modObj s n o f) := by
    unfold State.modObj
    try dsimp only
    iterate 60 all_goals try first
      | with_reducible assumption
      | with_reducible exact State.Touch.refl _ _
      | with_reducible refine State.Touch.modCan ?_ _ _ (by decide)
      | with_reducible refine State.Touch.ite ?_ ?_
      | split
  exact hT.call k hl

theorem State.Touch.canQueue {l : List Part} {s0 s : State} (hT : State.Touch l s0 s)  (n o : Nat) (x : OutItem) (fixed : Bool)
    (hl : ∀ p ∈ ([.can] : List Part), p ∈ l) : State.Touch l s0 (State.canQueue s n o x fixed) := by
  have k : State.Touch [.can] s (State.canQueue s n o x fixed) := by
    unfold State.canQueue
    try dsimp only
    iterate 60 all_goals try first
      | with_reducible assumption
      | with_reducible exact State.Touch.refl _ _
      | with_reducible refine State.Touch.count ?_ _
      | with_reducible refine State.Touch.modObj ?_ _ _ _ (by decide)
      | with_reducible refine State.Touch.ite ?_ ?_
      | split
  exact hT.call k hl

theorem State.Touch.toCan {l : List Part} {s0 s : State} (hT : State.Touch l s0 s)  (x : OutItem)
    (hl : ∀ p ∈ ([.can] : List Part), p ∈ l) : State.Touch l s0 (State.toCan s x) := by
  have k : State.Touch [.can] s (State.toCan s x) := by
    unfold State.toCan
    try dsimp only
    iterate 60 all_goals try first
      | with_reducible assumption
      | with_reducible exact State.Touch.refl _ _
      | with_reducible refine State.Touch.each ?_ _ _ (fun x u hu => ?_)
      | with_reducible refine State.Touch.canQueue ?_ _ _ _ _ (by decide)
      | with_reducible refine State.Touch.ite ?_ ?_
      | split
  exact hT.call k hl

theorem State.Touch.ethQueue {l : List Part} {s0 s : State} (hT : State.Touch l s0 s)  (mgmt : Bool) (f : EthFrame)
    (hl : ∀ p ∈ ([.eth] : List Part), p ∈ l) : State.Touch l s0 (State.ethQueue s mgmt f) := by
  have k : State.Touch [.eth] s (State.ethQueue s mgmt f) := by
    unfold State.ethQueue
    try dsimp only
    iterate 60 all_goals try first
      | with_reducible assumption
      | with_reducible exact State.Touch.refl _ _
      | with_reducible refine State.Touch.count ?_ _
      | with_reducible refine State.Touch.ite ?_ ?_
      | split
      | with_reducible refine State.Touch.upd_eth ?_ _ (by decide)
  exact hT.call k hl

theorem State.Touch.sendOutput {l : List Part} {s0 s : State} (hT : State.Touch l s0 s)  (mgmt : Bool) (dest : BitVec 48) (pcp : Nat) (items : List (List Byte))
    (hl : ∀ p ∈ ([.eth] : List Part), p ∈ l) : State.Touch l s0 (State.sendOutput s mgmt dest pcp items) := by
  have k : State.Touch [.eth] s (State.sendOutput s mgmt dest pcp items) := by
    unfold State.sendOutput
    try dsimp only
    iterate 60 all_goals try first
      | with_reducible assumption
      | with_reducible exact State.Touch.refl _ _
      | with_reducible refine State.Touch.ethQueue ?_ _ _ (by decide)
      | with_reducible refine State.Touch.ite ?_ ?_
      | split
      | with_reducible refine State.Touch.upd_eth ?_ _ (by decide)
  exact hT.call k hl

theorem State.Touch.fillFrames {l : List Part} {s0 s : State} (h : State.Touch l s0 s) (mgmt : Bool) (dest : BitVec 48) (pcp : Nat)
    (cur xs : List (List Byte)) (hl : ∀ p ∈ ([.eth] : List Part), p ∈ l) :
    State.Touch l s0 (s.fillFrames mgmt dest pcp cur xs) := by
  induction xs generalizing s cur with
  | nil =>
    unfold State.fillFrames; split
    · exact h
    · exact h.sendOutput _ _ _ _ hl
  | cons x xs ih =>
    unfold State.fillFrames; split
    · exact ih (h.sendOutput _ _ _ _ hl) _
    · exact ih h _

theorem State.Touch.ethFlush {l : List Part} {s0 s : State} (hT : State.Touch l s0 s) 
    (hl : ∀ p ∈ ([.eth] : List Part), p ∈ l) : State.Touch l s0 (State.ethFlush s) := by
  have k : State.Touch [.eth] s (State.ethFlush s) := by
    unfold State.ethFlush
    try dsimp only
    iterate 60 all_goals try first
      | with_reducible assumption
      | with_reducible exact State.Touch.refl _ _
      | with_reducible refine State.Touch.each ?_ _ _ (fun x u hu => ?_)
      | with_reducible refine State.Touch.fillFrames ?_ _ _ _ _ _ (by decide)
      | with_reducible refine State.Touch.ite ?_ ?_
      | split
      | with_reducible refine State.Touch.upd_eth ?_ _ (by decide)
  exact hT.call k hl

theorem State.Touch.toEth {l : List Part} {s0 s : State} (hT : State.Touch l s0 s)  (x : OutItem) (timed : Bool)
    (hl : ∀ p ∈ ([.eth] : List Part), p ∈ l) : State.Touch l s0 (State.toEth s x timed) := by
  have k : State.Touch [.eth] s (State.toEth s x timed) := by
    unfold State.toEth
    try dsimp only
    iterate 60 all_goals try first
      | with_reducible assumption
      | with_reducible exact State.Touch.refl _ _
      | with_reducible refine State.Touch.ite ?_ ?_
      | split
      | with_reducible refine State.Touch.upd_eth ?_ _ (by decide)
  exact hT.call k hl

theorem State.Touch.aoutFeed {l : List Part} {s0 s : State} (hT : State.Touch l s0 s)  (x : OutItem) (n : Nat) (a : AoutCfg)
    (hl : ∀ p ∈ ([.ana] : List Part), p ∈ l) : State.Touch l s0 (State.aoutFeed s x n a) := by
  have k : State.Touch [.ana] s (State.aoutFeed s x n a) := by
    unfold State.aoutFeed
    try dsimp only
    iterate 60 all_goals try first
      | with_reducible assumption
      | with_reducible exact State.Touch.refl _ _
      | with_reducible refine State.Touch.set ?_ _ _
      | with_reducible refine State.Touch.ite ?_ ?_
      | split
      | with_reducible refine State.Touch.upd_ana ?_ _ (by decide)
  exact hT.call k hl

theorem State.Touch.toAout {l : List Part} {s0 s : State} (hT : State.Touch l s0 s)  (x : OutItem)
    (hl : ∀ p ∈ ([.ana] : List Part), p ∈ l) : State.Touch l s0 (State.toAout s x) := by
  have k : State.Touch [.ana] s (State.toAout s x) := by
    unfold State.toAout
    try dsimp only
    iterate 60 all_goals try first
      | with_reducible assumption
      | with_reducible exact State.Touch.refl _ _
      | with_reducible refine State.Touch.each ?_ _ _ (fun x u hu => ?_)
      | with_reducible refine State.Touch.aoutFeed ?_ _ _ _ (by decide)
      | with_reducible refine State.Touch.ite ?_ ?_
      | split
  exact hT.call k hl

theorem State.Touch.aoutUpdate {l : List Part} {s0 s : State} (hT : State.Touch l s0 s)  (n : Nat)
    (hl : ∀ p ∈ ([] : List Part), p ∈ l) : State.Touch l s0 (State.aoutUpdate s n) := by
  have k : State.Touch [] s (State.aoutUpdate s n) := by
    unfold State.aoutUpdate
    try dsimp only
    iterate 60 all_goals try first
      | with_reducible assumption
      | with_reducible exact State.Touch.refl _ _
      | with_reducible refine State.Touch.set ?_ _ _
      | with_reducible refine State.Touch.ite ?_ ?_
      | split
  exact hT.call k hl

theorem State.Touch.aoutSafe {l : List Part} {s0 s : State} (hT : State.Touch l s0 s) 
    (hl : ∀ p ∈ ([] : List Part), p ∈ l) : State.Touch l s0 (State.aoutSafe s) := by
  have k : State.Touch [] s (State.aoutSafe s) := by
    unfold State.aoutSafe
    try dsimp only
    iterate 60 all_goals try first
      | with_reducible assumption
      | with_reducible exact State.Touch.refl _ _
      | with_reducible refine State.Touch.set ?_ _ _
      | with_reducible refine State.Touch.each ?_ _ _ (fun x u hu => ?_)
      | with_reducible refine State.Touch.ite ?_ ?_
      | split
  exact hT.call k hl

end Sys2Proof.Machine
end

