-- ==== Sys2Proof/Laws/Touch/Channels.lean ====
section
/-!
SUPPORT. Sys2Proof/Laws/Touch/Channels.lean: which parts of the state each operation of Machine/Channels.lean may change.
-/
set_option linter.all false
set_option maxRecDepth 4000
namespace Sys2Proof.Machine

theorem State.Touch.chanRelease {l : List Part} {s0 s : State} (hT : State.Touch l s0 s)  (x : OutItem)
    (hl : ∀ p ∈ ([.mgt, .can, .eth, .ana] : List Part), p ∈ l) : State.Touch l s0 (State.chanRelease s x) := by
  have k : State.Touch [.mgt, .can, .eth, .ana] s (State.chanRelease s x) := by
    unfold State.chanRelease
    try dsimp only
    iterate 60 all_goals try first
      | with_reducible assumption
      | with_reducible exact State.Touch.refl _ _
      | with_reducible refine State.Touch.toAout ?_ _ (by decide)
      | with_reducible refine State.Touch.toCan ?_ _ (by decide)
      | with_reducible refine State.Touch.toEth ?_ _ _ (by decide)
      | with_reducible refine State.Touch.toSubs ?_ _ (by decide)
      | with_reducible refine State.Touch.ite ?_ ?_
      | split
  exact hT.call k hl

theorem State.Touch.chanSend {l : List Part} {s0 s : State} (hT : State.Touch l s0 s)  (x : OutItem)
    (hl : ∀ p ∈ ([.mgt, .can, .eth, .ana] : List Part), p ∈ l) : State.Touch l s0 (State.chanSend s x) := by
  have k : State.Touch [.mgt, .can, .eth, .ana] s (State.chanSend s x) := by
    unfold State.chanSend
    try dsimp only
    iterate 60 all_goals try first
      | with_reducible assumption
      | with_reducible exact State.Touch.refl _ _
      | with_reducible refine State.Touch.chanRelease ?_ _ (by decide)
      | with_reducible refine State.Touch.ethFlush ?_ (by decide)
      | with_reducible refine State.Touch.ite ?_ ?_
      | split
  exact hT.call k hl

theorem State.Touch.fillSlot {l : List Part} {s0 s : State} (hT : State.Touch l s0 s)  (c : Chan) (frame crc : Nat) (payload : List Byte)
    (hl : ∀ p ∈ ([.mgt, .chans, .can, .eth, .ana] : List Part), p ∈ l) : State.Touch l s0 (State.fillSlot s c frame crc payload) := by
  have k : State.Touch [.mgt, .chans, .can, .eth, .ana] s (State.fillSlot s c frame crc payload) := by
    unfold State.fillSlot
    try dsimp only
    iterate 60 all_goals try first
      | with_reducible assumption
      | with_reducible exact State.Touch.refl _ _
      | with_reducible refine State.Touch.chanSend ?_ _ (by decide)
      | with_reducible refine State.Touch.modChan ?_ _ _ _ (by decide)
      | with_reducible refine State.Touch.ite ?_ ?_
      | split
  exact hT.call k hl

theorem State.Touch.sendMarker {l : List Part} {s0 s : State} (hT : State.Touch l s0 s)  (c : Chan) (frame reason reruns : Nat)
    (hl : ∀ p ∈ ([.mgt, .chans, .fab, .can, .eth, .ana] : List Part), p ∈ l) : State.Touch l s0 (State.sendMarker s c frame reason reruns) := by
  have k : State.Touch [.mgt, .chans, .fab, .can, .eth, .ana] s (State.sendMarker s c frame reason reruns) := by
    unfold State.sendMarker
    try dsimp only
    iterate 60 all_goals try first
      | with_reducible assumption
      | with_reducible exact State.Touch.refl _ _
      | with_reducible refine State.Touch.count ?_ _
      | with_reducible refine State.Touch.canQueue ?_ _ _ _ _ (by decide)
      | with_reducible refine State.Touch.chanSend ?_ _ (by decide)
      | with_reducible refine State.Touch.modChan ?_ _ _ _ (by decide)
      | with_reducible refine State.Touch.ite ?_ ?_
      | split
      | with_reducible refine State.Touch.upd_fab ?_ _ (by decide)
  exact hT.call k hl

theorem State.Touch.closeSlot {l : List Part} {s0 s : State} (hT : State.Touch l s0 s)  (c : Chan)
    (hl : ∀ p ∈ ([.mgt, .chans, .fab, .can, .eth, .ana] : List Part), p ∈ l) : State.Touch l s0 (State.closeSlot s c) := by
  have k : State.Touch [.mgt, .chans, .fab, .can, .eth, .ana] s (State.closeSlot s c) := by
    unfold State.closeSlot
    try dsimp only
    iterate 60 all_goals try first
      | with_reducible assumption
      | with_reducible exact State.Touch.refl _ _
      | with_reducible refine State.Touch.sendMarker ?_ _ _ _ _ (by decide)
      | with_reducible refine State.Touch.ite ?_ ?_
      | split
  exact hT.call k hl

theorem State.Touch.openSlot {l : List Part} {s0 s : State} (hT : State.Touch l s0 s)  (frame : Nat) (c : Chan)
    (hl : ∀ p ∈ ([.chans] : List Part), p ∈ l) : State.Touch l s0 (State.openSlot s frame c) := by
  have k : State.Touch [.chans] s (State.openSlot s frame c) := by
    unfold State.openSlot
    try dsimp only
    iterate 60 all_goals try first
      | with_reducible assumption
      | with_reducible exact State.Touch.refl _ _
      | with_reducible refine State.Touch.modChan ?_ _ _ _ (by decide)
      | with_reducible refine State.Touch.ite ?_ ?_
      | split
  exact hT.call k hl

theorem State.Touch.closeSlots {l : List Part} {s0 s : State} (hT : State.Touch l s0 s)  (cls : ChanClass)
    (hl : ∀ p ∈ ([.mgt, .chans, .fab, .can, .eth, .ana] : List Part), p ∈ l) : State.Touch l s0 (State.closeSlots s cls) := by
  have k : State.Touch [.mgt, .chans, .fab, .can, .eth, .ana] s (State.closeSlots s cls) := by
    unfold State.closeSlots
    try dsimp only
    iterate 60 all_goals try first
      | with_reducible assumption
      | with_reducible exact State.Touch.refl _ _
      | with_reducible refine State.Touch.each ?_ _ _ (fun x u hu => ?_)
      | with_reducible refine State.Touch.closeSlot ?_ _ (by decide)
      | with_reducible refine State.Touch.ite ?_ ?_
      | split
  exact hT.call k hl

theorem State.Touch.openSlots {l : List Part} {s0 s : State} (hT : State.Touch l s0 s)  (cls : ChanClass) (frame : Nat)
    (hl : ∀ p ∈ ([.chans] : List Part), p ∈ l) : State.Touch l s0 (State.openSlots s cls frame) := by
  have k : State.Touch [.chans] s (State.openSlots s cls frame) := by
    unfold State.openSlots
    try dsimp only
    iterate 60 all_goals try first
      | with_reducible assumption
      | with_reducible exact State.Touch.refl _ _
      | with_reducible refine State.Touch.each ?_ _ _ (fun x u hu => ?_)
      | with_reducible refine State.Touch.openSlot ?_ _ _ (by decide)
      | with_reducible refine State.Touch.ite ?_ ?_
      | split
  exact hT.call k hl

theorem State.Touch.portOutput {l : List Part} {s0 s : State} (hT : State.Touch l s0 s)  (c : Chan) (frame crc : Nat) (payload : List Byte)
    (hl : ∀ p ∈ ([.mgt, .chans, .can, .eth, .ana, .port] : List Part), p ∈ l) : State.Touch l s0 (State.portOutput s c frame crc payload) := by
  have k : State.Touch [.mgt, .chans, .can, .eth, .ana, .port] s (State.portOutput s c frame crc payload) := by
    unfold State.portOutput
    try dsimp only
    iterate 60 all_goals try first
      | with_reducible assumption
      | with_reducible exact State.Touch.refl _ _
      | with_reducible refine State.Touch.raise ?_ _ _ _
      | with_reducible refine State.Touch.canQueue ?_ _ _ _ _ (by decide)
      | with_reducible refine State.Touch.fillSlot ?_ _ _ _ _ (by decide)
      | with_reducible refine State.Touch.modChan ?_ _ _ _ (by decide)
      | with_reducible refine State.Touch.ite ?_ ?_
      | split
  exact hT.call k hl

theorem State.Touch.umberOut {l : List Part} {s0 s : State} (hT : State.Touch l s0 s)  (typ idx : Nat) (payload : List Byte)
    (hl : ∀ p ∈ ([.mgt, .chans, .can, .eth, .ana] : List Part), p ∈ l) : State.Touch l s0 (State.umberOut s typ idx payload) := by
  have k : State.Touch [.mgt, .chans, .can, .eth, .ana] s (State.umberOut s typ idx payload) := by
    unfold State.umberOut
    try dsimp only
    iterate 60 all_goals try first
      | with_reducible assumption
      | with_reducible exact State.Touch.refl _ _
      | with_reducible refine State.Touch.count ?_ _
      | with_reducible refine State.Touch.canQueue ?_ _ _ _ _ (by decide)
      | with_reducible refine State.Touch.chanSend ?_ _ (by decide)
      | with_reducible refine State.Touch.modChan ?_ _ _ _ (by decide)
      | with_reducible refine State.Touch.ite ?_ ?_
      | split
  exact hT.call k hl

theorem State.Touch.slotReason {l : List Part} {s0 s : State} (hT : State.Touch l s0 s)  (task reason reruns : Nat)
    (hl : ∀ p ∈ ([.chans] : List Part), p ∈ l) : State.Touch l s0 (State.slotReason s task reason reruns) := by
  have k : State.Touch [.chans] s (State.slotReason s task reason reruns) := by
    unfold State.slotReason
    try dsimp only
    iterate 60 all_goals try first
      | with_reducible assumption
      | with_reducible exact State.Touch.refl _ _
      | with_reducible refine State.Touch.ite ?_ ?_
      | split
      | with_reducible refine State.Touch.upd_chans ?_ _ (by decide)
  exact hT.call k hl

theorem State.Touch.releaseTimed {l : List Part} {s0 s : State} (hT : State.Touch l s0 s) 
    (hl : ∀ p ∈ ([.mgt, .chans, .can, .eth, .ana] : List Part), p ∈ l) : State.Touch l s0 (State.releaseTimed s) := by
  have k : State.Touch [.mgt, .chans, .can, .eth, .ana] s (State.releaseTimed s) := by
    unfold State.releaseTimed
    try dsimp only
    iterate 60 all_goals try first
      | with_reducible assumption
      | with_reducible exact State.Touch.refl _ _
      | with_reducible refine State.Touch.each ?_ _ _ (fun x u hu => ?_)
      | with_reducible refine State.Touch.chanRelease ?_ _ (by decide)
      | with_reducible refine State.Touch.ethFlush ?_ (by decide)
      | with_reducible refine State.Touch.modChan ?_ _ _ _ (by decide)
      | with_reducible refine State.Touch.ite ?_ ?_
      | split
  exact hT.call k hl

theorem State.Touch.conflictEvent {l : List Part} {s0 s : State} (hT : State.Touch l s0 s)  (kept broken markers frame : Nat)
    (hl : ∀ p ∈ ([.port] : List Part), p ∈ l) : State.Touch l s0 (State.conflictEvent s kept broken markers frame) := by
  have k : State.Touch [.port] s (State.conflictEvent s kept broken markers frame) := by
    unfold State.conflictEvent
    try dsimp only
    iterate 60 all_goals try first
      | with_reducible assumption
      | with_reducible exact State.Touch.refl _ _
      | with_reducible refine State.Touch.raise ?_ _ _ _
      | with_reducible refine State.Touch.ite ?_ ?_
      | split
  exact hT.call k hl

end Sys2Proof.Machine
end

