-- ==== Sys2Proof/Laws/Touch/Recorder.lean ====
section
/-!
SUPPORT. Sys2Proof/Laws/Touch/Recorder.lean: which parts of the state each operation of Machine/Recorder.lean may change.
-/
set_option linter.all false
set_option maxRecDepth 4000
namespace Sys2Proof.Machine

theorem State.Touch.seedRecorder {l : List Part} {s0 s : State} (hT : State.Touch l s0 s) 
    (hl : ∀ p ∈ ([] : List Part), p ∈ l) : State.Touch l s0 (State.seedRecorder s).1 := by
  have k : State.Touch [] s (State.seedRecorder s).1 := by
    unfold State.seedRecorder
    try dsimp only
    iterate 60 all_goals try first
      | with_reducible assumption
      | with_reducible exact State.Touch.refl _ _
      | with_reducible refine State.Touch.wr ?_ _ _
      | with_reducible refine State.Touch.ite ?_ ?_
      | split
  exact hT.call k hl

theorem State.Touch.queueRecord {l : List Part} {s0 s : State} (hT : State.Touch l s0 s)  (bank : Nat) (x : Record)
    (hl : ∀ p ∈ ([.recd] : List Part), p ∈ l) : State.Touch l s0 (State.queueRecord s bank x) := by
  have k : State.Touch [.recd] s (State.queueRecord s bank x) := by
    unfold State.queueRecord
    try dsimp only
    iterate 60 all_goals try first
      | with_reducible assumption
      | with_reducible exact State.Touch.refl _ _
      | with_reducible refine State.Touch.count ?_ _
      | with_reducible refine State.Touch.ite ?_ ?_
      | split
      | with_reducible refine State.Touch.upd_recd ?_ _ (by decide) rfl
  exact hT.call k hl

theorem State.Touch.queueBoth {l : List Part} {s0 s : State} (hT : State.Touch l s0 s)  (x : Record)
    (hl : ∀ p ∈ ([.recd] : List Part), p ∈ l) : State.Touch l s0 (State.queueBoth s x) := by
  have k : State.Touch [.recd] s (State.queueBoth s x) := by
    unfold State.queueBoth
    try dsimp only
    iterate 60 all_goals try first
      | with_reducible assumption
      | with_reducible exact State.Touch.refl _ _
      | with_reducible refine State.Touch.queueRecord ?_ _ _ (by decide)
      | with_reducible refine State.Touch.ite ?_ ?_
      | split
  exact hT.call k hl

theorem State.Touch.holdRecord {l : List Part} {s0 s : State} (hT : State.Touch l s0 s)  (x : Record)
    (hl : ∀ p ∈ ([.recd] : List Part), p ∈ l) : State.Touch l s0 (State.holdRecord s x) := by
  have k : State.Touch [.recd] s (State.holdRecord s x) := by
    unfold State.holdRecord
    try dsimp only
    iterate 60 all_goals try first
      | with_reducible assumption
      | with_reducible exact State.Touch.refl _ _
      | with_reducible refine State.Touch.set ?_ _ _
      | with_reducible refine State.Touch.count ?_ _
      | with_reducible refine State.Touch.ite ?_ ?_
      | split
      | with_reducible refine State.Touch.upd_recd ?_ _ (by decide) rfl
  exact hT.call k hl

theorem State.Touch.eventToStreams {l : List Part} {s0 s : State} (hT : State.Touch l s0 s)  (e : Event)
    (hl : ∀ p ∈ ([.mgt, .chans, .can, .eth, .ana] : List Part), p ∈ l) : State.Touch l s0 (State.eventToStreams s e) := by
  have k : State.Touch [.mgt, .chans, .can, .eth, .ana] s (State.eventToStreams s e) := by
    unfold State.eventToStreams
    try dsimp only
    iterate 60 all_goals try first
      | with_reducible assumption
      | with_reducible exact State.Touch.refl _ _
      | with_reducible refine State.Touch.each ?_ _ _ (fun x u hu => ?_)
      | with_reducible refine State.Touch.umberOut ?_ _ _ _ (by decide)
      | with_reducible refine State.Touch.ite ?_ ?_
      | split
  exact hT.call k hl

theorem State.Touch.commit {l : List Part} {s0 s : State} (hT : State.Touch l s0 s)  (e : Event)
    (hl : ∀ p ∈ ([.mgt, .chans, .can, .eth, .ana, .recd] : List Part), p ∈ l) : State.Touch l s0 (State.commit s e) := by
  have k : State.Touch [.mgt, .chans, .can, .eth, .ana, .recd] s (State.commit s e) := by
    unfold State.commit
    try dsimp only
    iterate 60 all_goals try first
      | with_reducible assumption
      | with_reducible exact State.Touch.refl _ _
      | with_reducible refine State.Touch.wr ?_ _ _
      | with_reducible refine State.Touch.eventToStreams ?_ _ (by decide)
      | with_reducible refine State.Touch.eventToSubs ?_ _ (by decide)
      | with_reducible refine State.Touch.holdRecord ?_ _ (by decide)
      | with_reducible refine State.Touch.queueBoth ?_ _ (by decide)
      | with_reducible refine State.Touch.ite ?_ ?_
      | split
  exact hT.call k hl

theorem State.Touch.eventCommit {l : List Part} {s0 s : State} (hT : State.Touch l s0 s) 
    (hl : ∀ p ∈ ([.mgt, .chans, .can, .eth, .ana, .recd, .port] : List Part), p ∈ l) : State.Touch l s0 (State.eventCommit s) := by
  have k : State.Touch [.mgt, .chans, .can, .eth, .ana, .recd, .port] s (State.eventCommit s) := by
    unfold State.eventCommit
    try dsimp only
    iterate 60 all_goals try first
      | with_reducible assumption
      | with_reducible exact State.Touch.refl _ _
      | with_reducible refine State.Touch.commit ?_ _ (by decide)
      | with_reducible refine State.Touch.ite ?_ ?_
      | split
      | with_reducible refine State.Touch.upd_recd_port ?_ _ (by decide) (by decide)
      | with_reducible refine State.Touch.upd_recd ?_ _ (by decide) rfl
  exact hT.call k hl

theorem State.Touch.writeHeld {l : List Part} {s0 s : State} (hT : State.Touch l s0 s) 
    (hl : ∀ p ∈ ([.mgt, .chans, .can, .eth, .ana, .recd] : List Part), p ∈ l) : State.Touch l s0 (State.writeHeld s) := by
  have k : State.Touch [.mgt, .chans, .can, .eth, .ana, .recd] s (State.writeHeld s) := by
    unfold State.writeHeld
    try dsimp only
    iterate 60 all_goals try first
      | with_reducible assumption
      | with_reducible exact State.Touch.refl _ _
      | with_reducible refine State.Touch.set ?_ _ _
      | with_reducible refine State.Touch.each ?_ _ _ (fun x u hu => ?_)
      | with_reducible refine State.Touch.commit ?_ _ (by decide)
      | with_reducible refine State.Touch.queueBoth ?_ _ (by decide)
      | with_reducible refine State.Touch.ite ?_ ?_
      | split
      | with_reducible refine State.Touch.upd_recd ?_ _ (by decide) rfl
  exact hT.call k hl

theorem State.Touch.recRefuse {l : List Part} {s0 s : State} (hT : State.Touch l s0 s) 
    (hl : ∀ p ∈ ([] : List Part), p ∈ l) : State.Touch l s0 (State.recRefuse s) := by
  have k : State.Touch [] s (State.recRefuse s) := by
    unfold State.recRefuse
    try dsimp only
    iterate 60 all_goals try first
      | with_reducible assumption
      | with_reducible exact State.Touch.refl _ _
      | with_reducible refine State.Touch.set ?_ _ _
      | with_reducible refine State.Touch.refuse ?_ _ _ _ (by decide)
      | with_reducible refine State.Touch.ite ?_ ?_
      | split
  exact hT.call k hl

theorem State.Touch.startFreeze {l : List Part} {s0 s : State} (hT : State.Touch l s0 s)  (req : Option ReqRef)
    (hl : ∀ p ∈ ([.recd] : List Part), p ∈ l) : State.Touch l s0 (State.startFreeze s req) := by
  have k : State.Touch [.recd] s (State.startFreeze s req) := by
    unfold State.startFreeze
    try dsimp only
    iterate 60 all_goals try first
      | with_reducible assumption
      | with_reducible exact State.Touch.refl _ _
      | with_reducible refine State.Touch.set ?_ _ _
      | with_reducible refine State.Touch.ite ?_ ?_
      | split
      | with_reducible refine State.Touch.upd_recd ?_ _ (by decide) rfl
  exact hT.call k hl

theorem State.Touch.endFreeze {l : List Part} {s0 s : State} (hT : State.Touch l s0 s)  (code : Nat)
    (hl : ∀ p ∈ ([.mgt, .chans, .can, .eth, .ana, .recd] : List Part), p ∈ l) : State.Touch l s0 (State.endFreeze s code) := by
  have k : State.Touch [.mgt, .chans, .can, .eth, .ana, .recd] s (State.endFreeze s code) := by
    unfold State.endFreeze
    try dsimp only
    iterate 60 all_goals try first
      | with_reducible assumption
      | with_reducible exact State.Touch.refl _ _
      | with_reducible refine State.Touch.set ?_ _ _
      | with_reducible refine State.Touch.resultOpt ?_ _ _ _ (by decide)
      | with_reducible refine State.Touch.writeHeld ?_ (by decide)
      | with_reducible refine State.Touch.ite ?_ ?_
      | split
      | with_reducible refine State.Touch.upd_recd ?_ _ (by decide) rfl
  exact hT.call k hl

theorem State.Touch.freezeDrained {l : List Part} {s0 s : State} (hT : State.Touch l s0 s) 
    (hl : ∀ p ∈ ([.mgt, .recd] : List Part), p ∈ l) : State.Touch l s0 (State.freezeDrained s) := by
  have k : State.Touch [.mgt, .recd] s (State.freezeDrained s) := by
    unfold State.freezeDrained
    try dsimp only
    iterate 60 all_goals try first
      | with_reducible assumption
      | with_reducible exact State.Touch.refl _ _
      | with_reducible refine State.Touch.set ?_ _ _
      | with_reducible refine State.Touch.resultOpt ?_ _ _ _ (by decide)
      | with_reducible refine State.Touch.ite ?_ ?_
      | split
      | with_reducible refine State.Touch.upd_recd ?_ _ (by decide) rfl
  exact hT.call k hl

theorem State.Touch.recCtrlFreeze {l : List Part} {s0 s : State} (hT : State.Touch l s0 s) 
    (hl : ∀ p ∈ ([.recd] : List Part), p ∈ l) : State.Touch l s0 (State.recCtrlFreeze s) := by
  have k : State.Touch [.recd] s (State.recCtrlFreeze s) := by
    unfold State.recCtrlFreeze
    try dsimp only
    iterate 60 all_goals try first
      | with_reducible assumption
      | with_reducible exact State.Touch.refl _ _
      | with_reducible refine State.Touch.recRefuse ?_ (by decide)
      | with_reducible refine State.Touch.startFreeze ?_ _ (by decide)
      | with_reducible refine State.Touch.ite ?_ ?_
      | split
  exact hT.call k hl

theorem State.Touch.bankSingle {l : List Part} {s0 s : State} (hT : State.Touch l s0 s)  (bank : Nat)
    (hl : ∀ p ∈ ([.recd, .port] : List Part), p ∈ l) : State.Touch l s0 (State.bankSingle s bank) := by
  have k : State.Touch [.recd, .port] s (State.bankSingle s bank) := by
    unfold State.bankSingle
    try dsimp only
    iterate 60 all_goals try first
      | with_reducible assumption
      | with_reducible exact State.Touch.refl _ _
      | with_reducible refine State.Touch.set ?_ _ _
      | with_reducible refine State.Touch.raise ?_ _ _ _
      | with_reducible refine State.Touch.ite ?_ ?_
      | split
      | with_reducible refine State.Touch.upd_recd ?_ _ (by decide) rfl
  exact hT.call k hl

theorem State.Touch.findPositions {l : List Part} {s0 s : State} (hT : State.Touch l s0 s) 
    (hl : ∀ p ∈ ([.recd] : List Part), p ∈ l) : State.Touch l s0 (State.findPositions s) := by
  have k : State.Touch [.recd] s (State.findPositions s) := by
    unfold State.findPositions
    try dsimp only
    iterate 60 all_goals try first
      | with_reducible assumption
      | with_reducible exact State.Touch.refl _ _
      | with_reducible refine State.Touch.set ?_ _ _
      | with_reducible refine State.Touch.ite ?_ ?_
      | split
      | with_reducible refine State.Touch.upd_recd ?_ _ (by decide) rfl
  exact hT.call k hl

theorem State.Touch.recorderReady {l : List Part} {s0 s : State} (hT : State.Touch l s0 s) 
    (hl : ∀ p ∈ ([.mgt, .chans, .can, .eth, .ana, .recd] : List Part), p ∈ l) : State.Touch l s0 (State.recorderReady s) := by
  have k : State.Touch [.mgt, .chans, .can, .eth, .ana, .recd] s (State.recorderReady s) := by
    unfold State.recorderReady
    try dsimp only
    iterate 60 all_goals try first
      | with_reducible assumption
      | with_reducible exact State.Touch.refl _ _
      | with_reducible refine State.Touch.set ?_ _ _
      | with_reducible refine State.Touch.findPositions ?_ (by decide)
      | with_reducible refine State.Touch.writeHeld ?_ (by decide)
      | with_reducible refine State.Touch.ite ?_ ?_
      | split
  exact hT.call k hl

theorem State.Touch.recordWritten {l : List Part} {s0 s : State} (hT : State.Touch l s0 s)  (bank : Nat)
    (hl : ∀ p ∈ ([.recd] : List Part), p ∈ l) : State.Touch l s0 (State.recordWritten s bank) := by
  have k : State.Touch [.recd] s (State.recordWritten s bank) := by
    unfold State.recordWritten
    try dsimp only
    iterate 60 all_goals try first
      | with_reducible assumption
      | with_reducible exact State.Touch.refl _ _
      | with_reducible refine State.Touch.set ?_ _ _
      | with_reducible refine State.Touch.ite ?_ ?_
      | split
      | with_reducible refine State.Touch.upd_recd ?_ _ (by decide) rfl
  exact hT.call k hl

theorem State.Touch.recordProgramDone {l : List Part} {s0 s : State} (hT : State.Touch l s0 s)  (bank : Nat) (ok : Bool)
    (hl : ∀ p ∈ ([.nvm0, .nvm1, .recd, .port] : List Part), p ∈ l) : State.Touch l s0 (State.recordProgramDone s bank ok) := by
  have k : State.Touch [.nvm0, .nvm1, .recd, .port] s (State.recordProgramDone s bank ok) := by
    unfold State.recordProgramDone
    try dsimp only
    iterate 60 all_goals try first
      | with_reducible assumption
      | with_reducible exact State.Touch.refl _ _
      | with_reducible refine State.Touch.bankSingle ?_ _ (by decide)
      | with_reducible refine State.Touch.nvmProgram ?_ _ _ _ (by decide)
      | with_reducible refine State.Touch.recordWritten ?_ _ (by decide)
      | with_reducible refine State.Touch.ite ?_ ?_
      | split
      | with_reducible refine State.Touch.upd_recd ?_ _ (by decide) rfl
  exact hT.call k hl

theorem State.Touch.sectorEraseDone {l : List Part} {s0 s : State} (hT : State.Touch l s0 s)  (bank : Nat) (ok : Bool)
    (hl : ∀ p ∈ ([.nvm0, .nvm1, .recd, .port] : List Part), p ∈ l) : State.Touch l s0 (State.sectorEraseDone s bank ok) := by
  have k : State.Touch [.nvm0, .nvm1, .recd, .port] s (State.sectorEraseDone s bank ok) := by
    unfold State.sectorEraseDone
    try dsimp only
    iterate 60 all_goals try first
      | with_reducible assumption
      | with_reducible exact State.Touch.refl _ _
      | with_reducible refine State.Touch.bankSingle ?_ _ (by decide)
      | with_reducible refine State.Touch.nvmEraseSector ?_ _ _ (by decide)
      | with_reducible refine State.Touch.ite ?_ ?_
      | split
      | with_reducible refine State.Touch.upd_recd ?_ _ (by decide) rfl
  exact hT.call k hl

theorem State.Touch.recorderReinit {l : List Part} {s0 s : State} (hT : State.Touch l s0 s) 
    (hl : ∀ p ∈ ([.mgt, .chans, .can, .eth, .ana, .recd] : List Part), p ∈ l) : State.Touch l s0 (State.recorderReinit s) := by
  have k : State.Touch [.mgt, .chans, .can, .eth, .ana, .recd] s (State.recorderReinit s) := by
    unfold State.recorderReinit
    try dsimp only
    iterate 60 all_goals try first
      | with_reducible assumption
      | with_reducible exact State.Touch.refl _ _
      | with_reducible refine State.Touch.set ?_ _ _
      | with_reducible refine State.Touch.endFreeze ?_ _ (by decide)
      | with_reducible refine State.Touch.findPositions ?_ (by decide)
      | with_reducible refine State.Touch.ite ?_ ?_
      | split
      | with_reducible refine State.Touch.upd_recd ?_ _ (by decide) rfl
  exact hT.call k hl

end Sys2Proof.Machine
end

