-- ==== Sys2Proof/Laws/Touch/TimeBase.lean ====
section
/-!
SUPPORT. Sys2Proof/Laws/Touch/TimeBase.lean: which parts of the state each operation of Machine/TimeBase.lean may change.
-/
set_option linter.all false
set_option maxRecDepth 4000
namespace Sys2Proof.Machine

theorem State.Touch.tbRefuse {l : List Part} {s0 s : State} (hT : State.Touch l s0 s)  (code addr : Nat)
    (hl : ∀ p ∈ ([] : List Part), p ∈ l) : State.Touch l s0 (State.tbRefuse s code addr) := by
  have k : State.Touch [] s (State.tbRefuse s code addr) := by
    unfold State.tbRefuse
    try dsimp only
    iterate 60 all_goals try first
      | with_reducible assumption
      | with_reducible exact State.Touch.refl _ _
      | with_reducible refine State.Touch.set ?_ _ _
      | with_reducible refine State.Touch.refuse ?_ _ _ _ (by decide)
      | with_reducible refine State.Touch.ite ?_ ?_
      | split
  exact hT.call k hl

theorem State.Touch.tbState {l : List Part} {s0 s : State} (hT : State.Touch l s0 s)  (n : Nat)
    (hl : ∀ p ∈ ([] : List Part), p ∈ l) : State.Touch l s0 (State.tbState s n) := by
  have k : State.Touch [] s (State.tbState s n) := by
    unfold State.tbState
    try dsimp only
    iterate 60 all_goals try first
      | with_reducible assumption
      | with_reducible exact State.Touch.refl _ _
      | with_reducible refine State.Touch.set ?_ _ _
      | with_reducible refine State.Touch.setBit ?_ _ _
      | with_reducible refine State.Touch.ite ?_ ?_
      | split
  exact hT.call k hl

theorem State.Touch.tbHoldover {l : List Part} {s0 s : State} (hT : State.Touch l s0 s) 
    (hl : ∀ p ∈ ([.tb] : List Part), p ∈ l) : State.Touch l s0 (State.tbHoldover s) := by
  have k : State.Touch [.tb] s (State.tbHoldover s) := by
    unfold State.tbHoldover
    try dsimp only
    iterate 60 all_goals try first
      | with_reducible assumption
      | with_reducible exact State.Touch.refl _ _
      | with_reducible refine State.Touch.count ?_ _
      | with_reducible refine State.Touch.tbState ?_ _ (by decide)
      | with_reducible refine State.Touch.ite ?_ ?_
      | split
      | with_reducible refine State.Touch.upd_tb ?_ _ (by decide)
  exact hT.call k hl

theorem State.Touch.tick {l : List Part} {s0 s : State} (hT : State.Touch l s0 s) 
    (hl : ∀ p ∈ ([.tb] : List Part), p ∈ l) : State.Touch l s0 (State.tick s) := by
  have k : State.Touch [.tb] s (State.tick s) := by
    unfold State.tick
    try dsimp only
    iterate 60 all_goals try first
      | with_reducible assumption
      | with_reducible exact State.Touch.refl _ _
      | with_reducible refine State.Touch.wr ?_ _ _
      | with_reducible refine State.Touch.setNow ?_ _ (by decide)
      | with_reducible refine State.Touch.ite ?_ ?_
      | split
      | with_reducible refine State.Touch.upd_tb ?_ _ (by decide)
  exact hT.call k hl

theorem State.Touch.modPtp {l : List Part} {s0 s : State} (hT : State.Touch l s0 s)  (p : Nat) (f : PtpInst → PtpInst)
    (hl : ∀ p ∈ ([.tb] : List Part), p ∈ l) : State.Touch l s0 (State.modPtp s p f) := by
  have k : State.Touch [.tb] s (State.modPtp s p f) := by
    unfold State.modPtp
    try dsimp only
    iterate 60 all_goals try first
      | with_reducible assumption
      | with_reducible exact State.Touch.refl _ _
      | with_reducible refine State.Touch.ite ?_ ?_
      | split
      | with_reducible refine State.Touch.upd_tb ?_ _ (by decide)
  exact hT.call k hl

theorem State.Touch.reselect {l : List Part} {s0 s : State} (hT : State.Touch l s0 s) 
    (hl : ∀ p ∈ ([.tb] : List Part), p ∈ l) : State.Touch l s0 (State.reselect s) := by
  have k : State.Touch [.tb] s (State.reselect s) := by
    unfold State.reselect
    try dsimp only
    iterate 60 all_goals try first
      | with_reducible assumption
      | with_reducible exact State.Touch.refl _ _
      | with_reducible refine State.Touch.set ?_ _ _
      | with_reducible refine State.Touch.count ?_ _
      | with_reducible refine State.Touch.tbHoldover ?_ (by decide)
      | with_reducible refine State.Touch.tbState ?_ _ (by decide)
      | with_reducible refine State.Touch.ite ?_ ?_
      | split
  exact hT.call k hl

theorem State.Touch.passiveMasters {l : List Part} {s0 s : State} (hT : State.Touch l s0 s) 
    (hl : ∀ p ∈ ([] : List Part), p ∈ l) : State.Touch l s0 (State.passiveMasters s) := by
  have k : State.Touch [] s (State.passiveMasters s) := by
    unfold State.passiveMasters
    try dsimp only
    iterate 60 all_goals try first
      | with_reducible assumption
      | with_reducible exact State.Touch.refl _ _
      | with_reducible refine State.Touch.set ?_ _ _
      | with_reducible refine State.Touch.each ?_ _ _ (fun x u hu => ?_)
      | with_reducible refine State.Touch.ite ?_ ?_
      | split
  exact hT.call k hl

theorem State.Touch.ptpAnnounce {l : List Part} {s0 s : State} (hT : State.Touch l s0 s)  (t : TimeCfg) (p : Nat) (ds : PtpDataset)
    (hl : ∀ p ∈ ([.tb] : List Part), p ∈ l) : State.Touch l s0 (State.ptpAnnounce s t p ds) := by
  have k : State.Touch [.tb] s (State.ptpAnnounce s t p ds) := by
    unfold State.ptpAnnounce
    try dsimp only
    iterate 60 all_goals try first
      | with_reducible assumption
      | with_reducible exact State.Touch.refl _ _
      | with_reducible refine State.Touch.set ?_ _ _
      | with_reducible refine State.Touch.modPtp ?_ _ _ (by decide)
      | with_reducible refine State.Touch.passiveMasters ?_ (by decide)
      | with_reducible refine State.Touch.reselect ?_ (by decide)
      | with_reducible refine State.Touch.ite ?_ ?_
      | split
  exact hT.call k hl

theorem State.Touch.servo {l : List Part} {s0 s : State} (hT : State.Touch l s0 s)  (t : TimeCfg) (o : Int)
    (hl : ∀ p ∈ ([.tb] : List Part), p ∈ l) : State.Touch l s0 (State.servo s t o) := by
  have k : State.Touch [.tb] s (State.servo s t o) := by
    unfold State.servo
    try dsimp only
    iterate 60 all_goals try first
      | with_reducible assumption
      | with_reducible exact State.Touch.refl _ _
      | with_reducible refine State.Touch.wr ?_ _ _
      | with_reducible refine State.Touch.setBit ?_ _ _
      | with_reducible refine State.Touch.tbState ?_ _ (by decide)
      | with_reducible refine State.Touch.ite ?_ ?_
      | split
      | with_reducible refine State.Touch.upd_tb ?_ _ (by decide)
  exact hT.call k hl

theorem State.Touch.askStep {l : List Part} {s0 s : State} (hT : State.Touch l s0 s)  (gm : Dword) (o : Int)
    (hl : ∀ p ∈ ([.tb] : List Part), p ∈ l) : State.Touch l s0 (State.askStep s gm o) := by
  have k : State.Touch [.tb] s (State.askStep s gm o) := by
    unfold State.askStep
    try dsimp only
    iterate 60 all_goals try first
      | with_reducible assumption
      | with_reducible exact State.Touch.refl _ _
      | with_reducible refine State.Touch.count ?_ _
      | with_reducible refine State.Touch.ite ?_ ?_
      | split
      | with_reducible refine State.Touch.upd_tb ?_ _ (by decide)
  exact hT.call k hl

theorem State.Touch.nativeMaster {l : List Part} {s0 s : State} (hT : State.Touch l s0 s)  (t : TimeCfg) (gm : Dword) (o : Int)
    (hl : ∀ p ∈ ([.tb, .port] : List Part), p ∈ l) : State.Touch l s0 (State.nativeMaster s t gm o) := by
  have k : State.Touch [.tb, .port] s (State.nativeMaster s t gm o) := by
    unfold State.nativeMaster
    try dsimp only
    iterate 60 all_goals try first
      | with_reducible assumption
      | with_reducible exact State.Touch.refl _ _
      | with_reducible refine State.Touch.set ?_ _ _
      | with_reducible refine State.Touch.count ?_ _
      | with_reducible refine State.Touch.raise ?_ _ _ _
      | with_reducible refine State.Touch.servo ?_ _ _ (by decide)
      | with_reducible refine State.Touch.tbHoldover ?_ (by decide)
      | with_reducible refine State.Touch.ite ?_ ?_
      | split
      | with_reducible refine State.Touch.upd_tb ?_ _ (by decide)
  exact hT.call k hl

theorem State.Touch.compatMaster {l : List Part} {s0 s : State} (hT : State.Touch l s0 s)  (t : TimeCfg) (gm : Dword) (o : Int)
    (hl : ∀ p ∈ ([.tb] : List Part), p ∈ l) : State.Touch l s0 (State.compatMaster s t gm o) := by
  have k : State.Touch [.tb] s (State.compatMaster s t gm o) := by
    unfold State.compatMaster
    try dsimp only
    iterate 60 all_goals try first
      | with_reducible assumption
      | with_reducible exact State.Touch.refl _ _
      | with_reducible refine State.Touch.askStep ?_ _ _ (by decide)
      | with_reducible refine State.Touch.servo ?_ _ _ (by decide)
      | with_reducible refine State.Touch.tbHoldover ?_ (by decide)
      | with_reducible refine State.Touch.ite ?_ ?_
      | split
  exact hT.call k hl

theorem State.Touch.measure {l : List Part} {s0 s : State} (hT : State.Touch l s0 s)  (t : TimeCfg) (p : Nat)
    (hl : ∀ p ∈ ([.tb, .port] : List Part), p ∈ l) : State.Touch l s0 (State.measure s t p) := by
  have k : State.Touch [.tb, .port] s (State.measure s t p) := by
    unfold State.measure
    try dsimp only
    iterate 60 all_goals try first
      | with_reducible assumption
      | with_reducible exact State.Touch.refl _ _
      | with_reducible refine State.Touch.wr ?_ _ _
      | with_reducible refine State.Touch.askStep ?_ _ _ (by decide)
      | with_reducible refine State.Touch.compatMaster ?_ _ _ _ (by decide)
      | with_reducible refine State.Touch.nativeMaster ?_ _ _ _ (by decide)
      | with_reducible refine State.Touch.ite ?_ ?_
      | split
  exact hT.call k hl

theorem State.Touch.ptpSync {l : List Part} {s0 s : State} (hT : State.Touch l s0 s)  (t : TimeCfg) (p : Nat) (gm : Dword) (t1 t2 : Int)
    (hl : ∀ p ∈ ([.tb, .port] : List Part), p ∈ l) : State.Touch l s0 (State.ptpSync s t p gm t1 t2) := by
  have k : State.Touch [.tb, .port] s (State.ptpSync s t p gm t1 t2) := by
    unfold State.ptpSync
    try dsimp only
    iterate 60 all_goals try first
      | with_reducible assumption
      | with_reducible exact State.Touch.refl _ _
      | with_reducible refine State.Touch.measure ?_ _ _ (by decide)
      | with_reducible refine State.Touch.modPtp ?_ _ _ (by decide)
      | with_reducible refine State.Touch.reselect ?_ (by decide)
      | with_reducible refine State.Touch.ite ?_ ?_
      | split
  exact hT.call k hl

theorem State.Touch.ptpRx {l : List Part} {s0 s : State} (hT : State.Touch l s0 s)  (p : Nat) (m : PtpMsg)
    (hl : ∀ p ∈ ([.tb, .port] : List Part), p ∈ l) : State.Touch l s0 (State.ptpRx s p m) := by
  have k : State.Touch [.tb, .port] s (State.ptpRx s p m) := by
    unfold State.ptpRx
    try dsimp only
    iterate 60 all_goals try first
      | with_reducible assumption
      | with_reducible exact State.Touch.refl _ _
      | with_reducible refine State.Touch.wr ?_ _ _
      | with_reducible refine State.Touch.countWrap ?_ _
      | with_reducible refine State.Touch.measure ?_ _ _ (by decide)
      | with_reducible refine State.Touch.modPtp ?_ _ _ (by decide)
      | with_reducible refine State.Touch.ptpAnnounce ?_ _ _ _ (by decide)
      | with_reducible refine State.Touch.ptpSync ?_ _ _ _ _ _ (by decide)
      | with_reducible refine State.Touch.ite ?_ ?_
      | split
      | with_reducible refine State.Touch.upd_tb ?_ _ (by decide)
  exact hT.call k hl

theorem State.Touch.ptpDue {l : List Part} {s0 s : State} (hT : State.Touch l s0 s)  (p : Nat) (k : PtpDue)
    (hl : ∀ p ∈ ([.tb] : List Part), p ∈ l) : State.Touch l s0 (State.ptpDue s p k) := by
  have k : State.Touch [.tb] s (State.ptpDue s p k) := by
    unfold State.ptpDue
    try dsimp only
    iterate 60 all_goals try first
      | with_reducible assumption
      | with_reducible exact State.Touch.refl _ _
      | with_reducible refine State.Touch.modPtp ?_ _ _ (by decide)
      | with_reducible refine State.Touch.ite ?_ ?_
      | split
      | with_reducible refine State.Touch.upd_tb ?_ _ (by decide)
  exact hT.call k hl

theorem State.Touch.announceTimeout {l : List Part} {s0 s : State} (hT : State.Touch l s0 s)  (p : Nat)
    (hl : ∀ p ∈ ([.tb] : List Part), p ∈ l) : State.Touch l s0 (State.announceTimeout s p) := by
  have k : State.Touch [.tb] s (State.announceTimeout s p) := by
    unfold State.announceTimeout
    try dsimp only
    iterate 60 all_goals try first
      | with_reducible assumption
      | with_reducible exact State.Touch.refl _ _
      | with_reducible refine State.Touch.set ?_ _ _
      | with_reducible refine State.Touch.modPtp ?_ _ _ (by decide)
      | with_reducible refine State.Touch.passiveMasters ?_ (by decide)
      | with_reducible refine State.Touch.reselect ?_ (by decide)
      | with_reducible refine State.Touch.ite ?_ ?_
      | split
  exact hT.call k hl

theorem State.Touch.syncLoss {l : List Part} {s0 s : State} (hT : State.Touch l s0 s)  (p : Nat)
    (hl : ∀ p ∈ ([.tb] : List Part), p ∈ l) : State.Touch l s0 (State.syncLoss s p) := by
  have k : State.Touch [.tb] s (State.syncLoss s p) := by
    unfold State.syncLoss
    try dsimp only
    iterate 60 all_goals try first
      | with_reducible assumption
      | with_reducible exact State.Touch.refl _ _
      | with_reducible refine State.Touch.countBy ?_ _ _
      | with_reducible refine State.Touch.modPtp ?_ _ _ (by decide)
      | with_reducible refine State.Touch.reselect ?_ (by decide)
      | with_reducible refine State.Touch.ite ?_ ?_
      | split
  exact hT.call k hl

theorem State.Touch.absComparator {l : List Part} {s0 s : State} (hT : State.Touch l s0 s) (m : Nat) 
    (hl : ∀ p ∈ ([] : List Part), p ∈ l) : State.Touch l s0 (State.absComparator m s) := by
  have k : State.Touch [] s (State.absComparator m s) := by
    unfold State.absComparator
    try dsimp only
    iterate 60 all_goals try first
      | with_reducible assumption
      | with_reducible exact State.Touch.refl _ _
      | with_reducible refine State.Touch.wr ?_ _ _
      | with_reducible refine State.Touch.set ?_ _ _
      | with_reducible refine State.Touch.ite ?_ ?_
      | split
  exact hT.call k hl

theorem State.Touch.shiftComparator {l : List Part} {s0 s : State} (hT : State.Touch l s0 s) (d : Word) (m : Nat) 
    (hl : ∀ p ∈ ([] : List Part), p ∈ l) : State.Touch l s0 (State.shiftComparator d m s) := by
  have k : State.Touch [] s (State.shiftComparator d m s) := by
    unfold State.shiftComparator
    try dsimp only
    iterate 60 all_goals try first
      | with_reducible assumption
      | with_reducible exact State.Touch.refl _ _
      | with_reducible refine State.Touch.wr ?_ _ _
      | with_reducible refine State.Touch.ite ?_ ?_
      | split
  exact hT.call k hl

theorem State.Touch.capSync {l : List Part} {s0 s : State} (hT : State.Touch l s0 s)  (m : Nat)
    (hl : ∀ p ∈ ([] : List Part), p ∈ l) : State.Touch l s0 (State.capSync s m) := by
  have k : State.Touch [] s (State.capSync s m) := by
    unfold State.capSync
    try dsimp only
    iterate 60 all_goals try first
      | with_reducible assumption
      | with_reducible exact State.Touch.refl _ _
      | with_reducible refine State.Touch.wr ?_ _ _
      | with_reducible refine State.Touch.set ?_ _ _
      | with_reducible refine State.Touch.ite ?_ ?_
      | split
  exact hT.call k hl

theorem State.Touch.capture {l : List Part} {s0 s : State} (hT : State.Touch l s0 s)  (m : Nat)
    (hl : ∀ p ∈ ([.tb] : List Part), p ∈ l) : State.Touch l s0 (State.capture s m) := by
  have k : State.Touch [.tb] s (State.capture s m) := by
    unfold State.capture
    try dsimp only
    iterate 60 all_goals try first
      | with_reducible assumption
      | with_reducible exact State.Touch.refl _ _
      | with_reducible refine State.Touch.set ?_ _ _
      | with_reducible refine State.Touch.count ?_ _
      | with_reducible refine State.Touch.capSync ?_ _ (by decide)
      | with_reducible refine State.Touch.ite ?_ ?_
      | split
      | with_reducible refine State.Touch.upd_tb ?_ _ (by decide)
  exact hT.call k hl

theorem State.Touch.capRead {l : List Part} {s0 s : State} (hT : State.Touch l s0 s)  (m : Nat)
    (hl : ∀ p ∈ ([.tb] : List Part), p ∈ l) : State.Touch l s0 (State.capRead s m) := by
  have k : State.Touch [.tb] s (State.capRead s m) := by
    unfold State.capRead
    try dsimp only
    iterate 60 all_goals try first
      | with_reducible assumption
      | with_reducible exact State.Touch.refl _ _
      | with_reducible refine State.Touch.capSync ?_ _ (by decide)
      | with_reducible refine State.Touch.ite ?_ ?_
      | split
      | with_reducible refine State.Touch.upd_tb ?_ _ (by decide)
  exact hT.call k hl

theorem State.Touch.nsRead {l : List Part} {s0 s : State} (hT : State.Touch l s0 s) 
    (hl : ∀ p ∈ ([] : List Part), p ∈ l) : State.Touch l s0 (State.nsRead s) := by
  have k : State.Touch [] s (State.nsRead s) := by
    unfold State.nsRead
    try dsimp only
    iterate 60 all_goals try first
      | with_reducible assumption
      | with_reducible exact State.Touch.refl _ _
      | with_reducible refine State.Touch.wr ?_ _ _
      | with_reducible refine State.Touch.ite ?_ ?_
      | split
  exact hT.call k hl

theorem State.Touch.tbIncWrite {l : List Part} {s0 s : State} (hT : State.Touch l s0 s)  (v : Word)
    (hl : ∀ p ∈ ([] : List Part), p ∈ l) : State.Touch l s0 (State.tbIncWrite s v) := by
  have k : State.Touch [] s (State.tbIncWrite s v) := by
    unfold State.tbIncWrite
    try dsimp only
    iterate 60 all_goals try first
      | with_reducible assumption
      | with_reducible exact State.Touch.refl _ _
      | with_reducible refine State.Touch.wr ?_ _ _
      | with_reducible refine State.Touch.tbRefuse ?_ _ _ (by decide)
      | with_reducible refine State.Touch.ite ?_ ?_
      | split
  exact hT.call k hl

theorem State.Touch.tbJumpLimWrite {l : List Part} {s0 s : State} (hT : State.Touch l s0 s)  (v : Word)
    (hl : ∀ p ∈ ([] : List Part), p ∈ l) : State.Touch l s0 (State.tbJumpLimWrite s v) := by
  have k : State.Touch [] s (State.tbJumpLimWrite s v) := by
    unfold State.tbJumpLimWrite
    try dsimp only
    iterate 60 all_goals try first
      | with_reducible assumption
      | with_reducible exact State.Touch.refl _ _
      | with_reducible refine State.Touch.set ?_ _ _
      | with_reducible refine State.Touch.tbRefuse ?_ _ _ (by decide)
      | with_reducible refine State.Touch.ite ?_ ?_
      | split
  exact hT.call k hl

theorem State.Touch.tbRearm {l : List Part} {s0 s : State} (hT : State.Touch l s0 s) 
    (hl : ∀ p ∈ ([] : List Part), p ∈ l) : State.Touch l s0 (State.tbRearm s) := by
  have k : State.Touch [] s (State.tbRearm s) := by
    unfold State.tbRearm
    try dsimp only
    iterate 60 all_goals try first
      | with_reducible assumption
      | with_reducible exact State.Touch.refl _ _
      | with_reducible refine State.Touch.tbRefuse ?_ _ _ (by decide)
      | with_reducible refine State.Touch.tbState ?_ _ (by decide)
      | with_reducible refine State.Touch.ite ?_ ?_
      | split
  exact hT.call k hl

theorem State.Touch.tbCntClr {l : List Part} {s0 s : State} (hT : State.Touch l s0 s) 
    (hl : ∀ p ∈ ([] : List Part), p ∈ l) : State.Touch l s0 (State.tbCntClr s) := by
  have k : State.Touch [] s (State.tbCntClr s) := by
    unfold State.tbCntClr
    try dsimp only
    iterate 60 all_goals try first
      | with_reducible assumption
      | with_reducible exact State.Touch.refl _ _
      | with_reducible refine State.Touch.wr ?_ _ _
      | with_reducible refine State.Touch.set ?_ _ _
      | with_reducible refine State.Touch.each ?_ _ _ (fun x u hu => ?_)
      | with_reducible refine State.Touch.ite ?_ ?_
      | split
  exact hT.call k hl

theorem State.Touch.compEnable {l : List Part} {s0 s : State} (hT : State.Touch l s0 s)  (v : Word)
    (hl : ∀ p ∈ ([] : List Part), p ∈ l) : State.Touch l s0 (State.compEnable s v) := by
  have k : State.Touch [] s (State.compEnable s v) := by
    unfold State.compEnable
    try dsimp only
    iterate 60 all_goals try first
      | with_reducible assumption
      | with_reducible exact State.Touch.refl _ _
      | with_reducible refine State.Touch.set ?_ _ _
      | with_reducible refine State.Touch.each ?_ _ _ (fun x u hu => ?_)
      | with_reducible refine State.Touch.ite ?_ ?_
      | split
  exact hT.call k hl

theorem State.Touch.compFire {l : List Part} {s0 s : State} (hT : State.Touch l s0 s)  (m : Nat)
    (hl : ∀ p ∈ ([] : List Part), p ∈ l) : State.Touch l s0 (State.compFire s m) := by
  have k : State.Touch [] s (State.compFire s m) := by
    unfold State.compFire
    try dsimp only
    iterate 60 all_goals try first
      | with_reducible assumption
      | with_reducible exact State.Touch.refl _ _
      | with_reducible refine State.Touch.wr ?_ _ _
      | with_reducible refine State.Touch.set ?_ _ _
      | with_reducible refine State.Touch.countWrap ?_ _
      | with_reducible refine State.Touch.ite ?_ ?_
      | split
  exact hT.call k hl

theorem State.Touch.trigPulse {l : List Part} {s0 s : State} (hT : State.Touch l s0 s)  (m : Nat)
    (hl : ∀ p ∈ ([.tb] : List Part), p ∈ l) : State.Touch l s0 (State.trigPulse s m) := by
  have k : State.Touch [.tb] s (State.trigPulse s m) := by
    unfold State.trigPulse
    try dsimp only
    iterate 60 all_goals try first
      | with_reducible assumption
      | with_reducible exact State.Touch.refl _ _
      | with_reducible refine State.Touch.ite ?_ ?_
      | split
      | with_reducible refine State.Touch.upd_tb ?_ _ (by decide)
  exact hT.call k hl

theorem State.Touch.trigPulseEnd {l : List Part} {s0 s : State} (hT : State.Touch l s0 s)  (o : Nat)
    (hl : ∀ p ∈ ([.tb] : List Part), p ∈ l) : State.Touch l s0 (State.trigPulseEnd s o) := by
  have k : State.Touch [.tb] s (State.trigPulseEnd s o) := by
    unfold State.trigPulseEnd
    try dsimp only
    iterate 60 all_goals try first
      | with_reducible assumption
      | with_reducible exact State.Touch.refl _ _
      | with_reducible refine State.Touch.ite ?_ ?_
      | split
      | with_reducible refine State.Touch.upd_tb ?_ _ (by decide)
  exact hT.call k hl

end Sys2Proof.Machine
end

