-- ==== Sys2Proof/Laws/Touch/Fabric.lean ====
section
/-!
SUPPORT. Sys2Proof/Laws/Touch/Fabric.lean: which parts of the state each operation of Machine/Fabric.lean may change.
-/
set_option linter.all false
set_option maxRecDepth 4000
namespace Sys2Proof.Machine

theorem State.Touch.modFab {l : List Part} {s0 s : State} (hT : State.Touch l s0 s)  (f : FabSt → FabSt)
    (hl : ∀ p ∈ ([.fab] : List Part), p ∈ l) : State.Touch l s0 (State.modFab s f) := by
  have k : State.Touch [.fab] s (State.modFab s f) := by
    unfold State.modFab
    try dsimp only
    iterate 60 all_goals try first
      | with_reducible assumption
      | with_reducible exact State.Touch.refl _ _
      | with_reducible refine State.Touch.ite ?_ ?_
      | split
      | with_reducible refine State.Touch.upd_fab ?_ _ (by decide)
  exact hT.call k hl

theorem State.Touch.memPut {l : List Part} {s0 s : State} (h : State.Touch l s0 s) (a : Nat) (xs : List Byte)
    (hl : ∀ p ∈ ([.omem] : List Part), p ∈ l) : State.Touch l s0 (s.memPut a xs) := by
  induction xs generalizing s a with
  | nil => exact h
  | cons b bs ih => exact ih (h.upd_omem _ (hl _ (by simp))) (a + 1)

theorem State.Touch.setUnit {l : List Part} {s0 s : State} (hT : State.Touch l s0 s)  (q u v : Nat)
    (hl : ∀ p ∈ ([] : List Part), p ∈ l) : State.Touch l s0 (State.setUnit s q u v) := by
  have k : State.Touch [] s (State.setUnit s q u v) := by
    unfold State.setUnit
    try dsimp only
    iterate 60 all_goals try first
      | with_reducible assumption
      | with_reducible exact State.Touch.refl _ _
      | with_reducible refine State.Touch.set ?_ _ _
      | with_reducible refine State.Touch.ite ?_ ?_
      | split
  exact hT.call k hl

theorem State.Touch.setPlace {l : List Part} {s0 s : State} (hT : State.Touch l s0 s)  (d : TaskDef) (p : Option Nat)
    (hl : ∀ p ∈ ([.fab] : List Part), p ∈ l) : State.Touch l s0 (State.setPlace s d p) := by
  have k : State.Touch [.fab] s (State.setPlace s d p) := by
    unfold State.setPlace
    try dsimp only
    iterate 60 all_goals try first
      | with_reducible assumption
      | with_reducible exact State.Touch.refl _ _
      | with_reducible refine State.Touch.wr ?_ _ _
      | with_reducible refine State.Touch.each ?_ _ _ (fun x u hu => ?_)
      | with_reducible refine State.Touch.modFab ?_ _ (by decide)
      | with_reducible refine State.Touch.ite ?_ ?_
      | split
  exact hT.call k hl

theorem State.Touch.modTask {l : List Part} {s0 s : State} (hT : State.Touch l s0 s)  (t n : Nat) (f : TaskInst → TaskInst)
    (hl : ∀ p ∈ ([.fab] : List Part), p ∈ l) : State.Touch l s0 (State.modTask s t n f) := by
  have k : State.Touch [.fab] s (State.modTask s t n f) := by
    unfold State.modTask
    try dsimp only
    iterate 60 all_goals try first
      | with_reducible assumption
      | with_reducible exact State.Touch.refl _ _
      | with_reducible refine State.Touch.modFab ?_ _ (by decide)
      | with_reducible refine State.Touch.ite ?_ ?_
      | split
  exact hT.call k hl

theorem State.Touch.endInst {l : List Part} {s0 s : State} (hT : State.Touch l s0 s)  (t n : Nat)
    (hl : ∀ p ∈ ([.fab] : List Part), p ∈ l) : State.Touch l s0 (State.endInst s t n) := by
  have k : State.Touch [.fab] s (State.endInst s t n) := by
    unfold State.endInst
    try dsimp only
    iterate 60 all_goals try first
      | with_reducible assumption
      | with_reducible exact State.Touch.refl _ _
      | with_reducible refine State.Touch.modFab ?_ _ (by decide)
      | with_reducible refine State.Touch.ite ?_ ?_
      | split
  exact hT.call k hl

theorem State.Touch.freeOf {l : List Part} {s0 s : State} (hT : State.Touch l s0 s)  (x : TaskInst)
    (hl : ∀ p ∈ ([] : List Part), p ∈ l) : State.Touch l s0 (State.freeOf s x) := by
  have k : State.Touch [] s (State.freeOf s x) := by
    unfold State.freeOf
    try dsimp only
    iterate 60 all_goals try first
      | with_reducible assumption
      | with_reducible exact State.Touch.refl _ _
      | with_reducible refine State.Touch.running ?_ _ (fun u hu => ?_)
      | with_reducible refine State.Touch.setUnit ?_ _ _ _ (by decide)
      | with_reducible refine State.Touch.ite ?_ ?_
      | split
  exact hT.call k hl

theorem State.Touch.dropTasks {l : List Part} {s0 s : State} (hT : State.Touch l s0 s) 
    (hl : ∀ p ∈ ([.fab] : List Part), p ∈ l) : State.Touch l s0 (State.dropTasks s) := by
  have k : State.Touch [.fab] s (State.dropTasks s) := by
    unfold State.dropTasks
    try dsimp only
    iterate 60 all_goals try first
      | with_reducible assumption
      | with_reducible exact State.Touch.refl _ _
      | with_reducible refine State.Touch.each ?_ _ _ (fun x u hu => ?_)
      | with_reducible refine State.Touch.freeOf ?_ _ (by decide)
      | with_reducible refine State.Touch.modFab ?_ _ (by decide)
      | with_reducible refine State.Touch.ite ?_ ?_
      | split
  exact hT.call k hl

theorem State.Touch.writePip {l : List Part} {s0 s : State} (hT : State.Touch l s0 s)  (d : TaskDef) (x : TaskInst)
    (hl : ∀ p ∈ ([.omem, .freeCtr] : List Part), p ∈ l) : State.Touch l s0 (State.writePip s d x) := by
  have k : State.Touch [.omem, .freeCtr] s (State.writePip s d x) := by
    unfold State.writePip
    try dsimp only
    iterate 60 all_goals try first
      | with_reducible assumption
      | with_reducible exact State.Touch.refl _ _
      | with_reducible refine State.Touch.memPut ?_ _ _ (by decide)
      | with_reducible refine State.Touch.ite ?_ ?_
      | split
      | with_reducible refine State.Touch.upd_freeCtr ?_ _ (by decide)
  exact hT.call k hl

theorem State.Touch.copyPip {l : List Part} {s0 s : State} (hT : State.Touch l s0 s)  (d : TaskDef) (x : TaskInst)
    (hl : ∀ p ∈ ([.omem] : List Part), p ∈ l) : State.Touch l s0 (State.copyPip s d x) := by
  have k : State.Touch [.omem] s (State.copyPip s d x) := by
    unfold State.copyPip
    try dsimp only
    iterate 60 all_goals try first
      | with_reducible assumption
      | with_reducible exact State.Touch.refl _ _
      | with_reducible refine State.Touch.each ?_ _ _ (fun x u hu => ?_)
      | with_reducible refine State.Touch.memPut ?_ _ _ (by decide)
      | with_reducible refine State.Touch.ite ?_ ?_
      | split
  exact hT.call k hl

theorem State.Touch.endPip {l : List Part} {s0 s : State} (hT : State.Touch l s0 s)  (d : TaskDef) (q : Nat)
    (hl : ∀ p ∈ ([.omem] : List Part), p ∈ l) : State.Touch l s0 (State.endPip s d q) := by
  have k : State.Touch [.omem] s (State.endPip s d q) := by
    unfold State.endPip
    try dsimp only
    iterate 60 all_goals try first
      | with_reducible assumption
      | with_reducible exact State.Touch.refl _ _
      | with_reducible refine State.Touch.each ?_ _ _ (fun x u hu => ?_)
      | with_reducible refine State.Touch.memPut ?_ _ _ (by decide)
      | with_reducible refine State.Touch.ite ?_ ?_
      | split
  exact hT.call k hl

theorem State.Touch.loadPip {l : List Part} {s0 s : State} (hT : State.Touch l s0 s)  (d : TaskDef) (x : TaskInst)
    (hl : ∀ p ∈ ([.omem] : List Part), p ∈ l) : State.Touch l s0 (State.loadPip s d x) := by
  have k : State.Touch [.omem] s (State.loadPip s d x) := by
    unfold State.loadPip
    try dsimp only
    iterate 60 all_goals try first
      | with_reducible assumption
      | with_reducible exact State.Touch.refl _ _
      | with_reducible refine State.Touch.memPut ?_ _ _ (by decide)
      | with_reducible refine State.Touch.ite ?_ ?_
      | split
  exact hT.call k hl

theorem State.Touch.faultRecord {l : List Part} {s0 s : State} (hT : State.Touch l s0 s)  (kind path : Nat) (task : Option Nat) (cause : Nat)
    (hl : ∀ p ∈ ([] : List Part), p ∈ l) : State.Touch l s0 (State.faultRecord s kind path task cause) := by
  have k : State.Touch [] s (State.faultRecord s kind path task cause) := by
    unfold State.faultRecord
    try dsimp only
    iterate 60 all_goals try first
      | with_reducible assumption
      | with_reducible exact State.Touch.refl _ _
      | with_reducible refine State.Touch.wr ?_ _ _
      | with_reducible refine State.Touch.ite ?_ ?_
      | split
  exact hT.call k hl

end Sys2Proof.Machine
end

