-- ==== Sys2Proof/Laws/Touch/Thrusters.lean ====
section
/-!
SUPPORT. Sys2Proof/Laws/Touch/Thrusters.lean: which parts of the state each operation of Machine/Thrusters.lean may change.
-/
set_option linter.all false
set_option maxRecDepth 4000
namespace Sys2Proof.Machine

theorem State.Touch.modThr {l : List Part} {s0 s : State} (hT : State.Touch l s0 s)  (i : Nat) (f : ThrSt → ThrSt)
    (hl : ∀ p ∈ ([.alc] : List Part), p ∈ l) : State.Touch l s0 (State.modThr s i f) := by
  have k : State.Touch [.alc] s (State.modThr s i f) := by
    unfold State.modThr
    try dsimp only
    iterate 60 all_goals try first
      | with_reducible assumption
      | with_reducible exact State.Touch.refl _ _
      | with_reducible refine State.Touch.ite ?_ ?_
      | split
      | with_reducible refine State.Touch.upd_alc ?_ _ (by decide)
  exact hT.call k hl

theorem State.Touch.zeroStaged {l : List Part} {s0 s : State} (hT : State.Touch l s0 s)  (i : Nat)
    (hl : ∀ p ∈ ([.chans] : List Part), p ∈ l) : State.Touch l s0 (State.zeroStaged s i) := by
  have k : State.Touch [.chans] s (State.zeroStaged s i) := by
    unfold State.zeroStaged
    try dsimp only
    iterate 60 all_goals try first
      | with_reducible assumption
      | with_reducible exact State.Touch.refl _ _
      | with_reducible refine State.Touch.modChan ?_ _ _ _ (by decide)
      | with_reducible refine State.Touch.ite ?_ ?_
      | split
  exact hT.call k hl

theorem State.Touch.thrRemove {l : List Part} {s0 s : State} (hT : State.Touch l s0 s)  (i reason : Nat) (start : Bool)
    (hl : ∀ p ∈ ([.chans, .alc] : List Part), p ∈ l) : State.Touch l s0 (State.thrRemove s i reason start) := by
  have k : State.Touch [.chans, .alc] s (State.thrRemove s i reason start) := by
    unfold State.thrRemove
    try dsimp only
    iterate 60 all_goals try first
      | with_reducible assumption
      | with_reducible exact State.Touch.refl _ _
      | with_reducible refine State.Touch.modThr ?_ _ _ (by decide)
      | with_reducible refine State.Touch.zeroStaged ?_ _ (by decide)
      | with_reducible refine State.Touch.ite ?_ ?_
      | split
  exact hT.call k hl

theorem State.Touch.thrClear {l : List Part} {s0 s : State} (hT : State.Touch l s0 s)  (i reason : Nat)
    (hl : ∀ p ∈ ([.alc] : List Part), p ∈ l) : State.Touch l s0 (State.thrClear s i reason) := by
  have k : State.Touch [.alc] s (State.thrClear s i reason) := by
    unfold State.thrClear
    try dsimp only
    iterate 60 all_goals try first
      | with_reducible assumption
      | with_reducible exact State.Touch.refl _ _
      | with_reducible refine State.Touch.modThr ?_ _ _ (by decide)
      | with_reducible refine State.Touch.ite ?_ ?_
      | split
  exact hT.call k hl

theorem State.Touch.thrReadmit {l : List Part} {s0 s : State} (hT : State.Touch l s0 s)  (i : Nat)
    (hl : ∀ p ∈ ([.alc] : List Part), p ∈ l) : State.Touch l s0 (State.thrReadmit s i) := by
  have k : State.Touch [.alc] s (State.thrReadmit s i) := by
    unfold State.thrReadmit
    try dsimp only
    iterate 60 all_goals try first
      | with_reducible assumption
      | with_reducible exact State.Touch.refl _ _
      | with_reducible refine State.Touch.modThr ?_ _ _ (by decide)
      | with_reducible refine State.Touch.ite ?_ ?_
      | split
  exact hT.call k hl

theorem State.Touch.alcEnableSet {l : List Part} {s0 s : State} (hT : State.Touch l s0 s)  (v : Word)
    (hl : ∀ p ∈ ([.alc] : List Part), p ∈ l) : State.Touch l s0 (State.alcEnableSet s v) := by
  have k : State.Touch [.alc] s (State.alcEnableSet s v) := by
    unfold State.alcEnableSet
    try dsimp only
    iterate 60 all_goals try first
      | with_reducible assumption
      | with_reducible exact State.Touch.refl _ _
      | with_reducible refine State.Touch.wr ?_ _ _
      | with_reducible refine State.Touch.each ?_ _ _ (fun x u hu => ?_)
      | with_reducible refine State.Touch.modThr ?_ _ _ (by decide)
      | with_reducible refine State.Touch.ite ?_ ?_
      | split
  exact hT.call k hl

theorem State.Touch.alcEnableLatch {l : List Part} {s0 s : State} (hT : State.Touch l s0 s)  (i : Nat)
    (hl : ∀ p ∈ ([.chans, .alc] : List Part), p ∈ l) : State.Touch l s0 (State.alcEnableLatch s i) := by
  have k : State.Touch [.chans, .alc] s (State.alcEnableLatch s i) := by
    unfold State.alcEnableLatch
    try dsimp only
    iterate 60 all_goals try first
      | with_reducible assumption
      | with_reducible exact State.Touch.refl _ _
      | with_reducible refine State.Touch.thrClear ?_ _ _ (by decide)
      | with_reducible refine State.Touch.thrRemove ?_ _ _ _ (by decide)
      | with_reducible refine State.Touch.ite ?_ ?_
      | split
  exact hT.call k hl

end Sys2Proof.Machine
end

