-- ==== Sys2Proof/Laws/Touch/Fusion.lean ====
section
/-!
SUPPORT. Sys2Proof/Laws/Touch/Fusion.lean: which parts of the state each operation of Machine/Fusion.lean may change.
-/
set_option linter.all false
set_option maxRecDepth 4000
namespace Sys2Proof.Machine

theorem State.Touch.modSrc {l : List Part} {s0 s : State} (hT : State.Touch l s0 s)  (slot : Nat) (f : SrcSt → SrcSt)
    (hl : ∀ p ∈ ([.fus] : List Part), p ∈ l) : State.Touch l s0 (State.modSrc s slot f) := by
  have k : State.Touch [.fus] s (State.modSrc s slot f) := by
    unfold State.modSrc
    try dsimp only
    iterate 60 all_goals try first
      | with_reducible assumption
      | with_reducible exact State.Touch.refl _ _
      | with_reducible refine State.Touch.ite ?_ ?_
      | split
      | with_reducible refine State.Touch.upd_fus ?_ _ (by decide)
  exact hT.call k hl

theorem State.Touch.arrive {l : List Part} {s0 s : State} (hT : State.Touch l s0 s)  (typ idx : Nat) (r : RawSample)
    (hl : ∀ p ∈ ([.fus] : List Part), p ∈ l) : State.Touch l s0 (State.arrive s typ idx r) := by
  have k : State.Touch [.fus] s (State.arrive s typ idx r) := by
    unfold State.arrive
    try dsimp only
    iterate 60 all_goals try first
      | with_reducible assumption
      | with_reducible exact State.Touch.refl _ _
      | with_reducible refine State.Touch.modSrc ?_ _ _ (by decide)
      | with_reducible refine State.Touch.ite ?_ ?_
      | split
  exact hT.call k hl

theorem State.Touch.sourceUsed {l : List Part} {s0 s : State} (hT : State.Touch l s0 s)  (modes : List Nat)
    (hl : ∀ p ∈ ([.ctl] : List Part), p ∈ l) : State.Touch l s0 (State.sourceUsed s modes) := by
  have k : State.Touch [.ctl] s (State.sourceUsed s modes) := by
    unfold State.sourceUsed
    try dsimp only
    iterate 60 all_goals try first
      | with_reducible assumption
      | with_reducible exact State.Touch.refl _ _
      | with_reducible refine State.Touch.ite ?_ ?_
      | split
      | with_reducible refine State.Touch.upd_ctl ?_ _ (by decide)
  exact hT.call k hl

theorem State.Touch.joystick {l : List Part} {s0 s : State} (hT : State.Touch l s0 s)  (idx : Nat) (v : List Int)
    (hl : ∀ p ∈ ([.ctl] : List Part), p ∈ l) : State.Touch l s0 (State.joystick s idx v) := by
  have k : State.Touch [.ctl] s (State.joystick s idx v) := by
    unfold State.joystick
    try dsimp only
    iterate 60 all_goals try first
      | with_reducible assumption
      | with_reducible exact State.Touch.refl _ _
      | with_reducible refine State.Touch.sourceUsed ?_ _ (by decide)
      | with_reducible refine State.Touch.ite ?_ ?_
      | split
      | with_reducible refine State.Touch.upd_ctl ?_ _ (by decide)
  exact hT.call k hl

theorem State.Touch.lever {l : List Part} {s0 s : State} (hT : State.Touch l s0 s)  (idx thr : Nat) (v : List Int)
    (hl : ∀ p ∈ ([.ctl] : List Part), p ∈ l) : State.Touch l s0 (State.lever s idx thr v) := by
  have k : State.Touch [.ctl] s (State.lever s idx thr v) := by
    unfold State.lever
    try dsimp only
    iterate 60 all_goals try first
      | with_reducible assumption
      | with_reducible exact State.Touch.refl _ _
      | with_reducible refine State.Touch.sourceUsed ?_ _ (by decide)
      | with_reducible refine State.Touch.ite ?_ ?_
      | split
      | with_reducible refine State.Touch.upd_ctl ?_ _ (by decide)
  exact hT.call k hl

theorem State.Touch.powerMsg {l : List Part} {s0 s : State} (hT : State.Touch l s0 s)  (v : List Nat)
    (hl : ∀ p ∈ ([.ctl] : List Part), p ∈ l) : State.Touch l s0 (State.powerMsg s v) := by
  have k : State.Touch [.ctl] s (State.powerMsg s v) := by
    unfold State.powerMsg
    try dsimp only
    iterate 60 all_goals try first
      | with_reducible assumption
      | with_reducible exact State.Touch.refl _ _
      | with_reducible refine State.Touch.ite ?_ ?_
      | split
      | with_reducible refine State.Touch.upd_ctl ?_ _ (by decide)
  exact hT.call k hl

theorem State.Touch.driveMsg {l : List Part} {s0 s : State} (hT : State.Touch l s0 s)  (i : Nat) (b : List Byte)
    (hl : ∀ p ∈ ([.alc] : List Part), p ∈ l) : State.Touch l s0 (State.driveMsg s i b) := by
  have k : State.Touch [.alc] s (State.driveMsg s i b) := by
    unfold State.driveMsg
    try dsimp only
    iterate 60 all_goals try first
      | with_reducible assumption
      | with_reducible exact State.Touch.refl _ _
      | with_reducible refine State.Touch.ite ?_ ?_
      | split
      | with_reducible refine State.Touch.upd_alc ?_ _ (by decide)
  exact hT.call k hl

theorem State.Touch.consume {l : List Part} {s0 s : State} (hT : State.Touch l s0 s)  (typ idx : Nat) (arrival : Int) (direct : Bool) (stamped : Option Int) (r : Reading)
    (hl : ∀ p ∈ ([.fus, .ctl] : List Part), p ∈ l) : State.Touch l s0 (State.consume s typ idx arrival direct stamped r) := by
  have k : State.Touch [.fus, .ctl] s (State.consume s typ idx arrival direct stamped r) := by
    unfold State.consume
    try dsimp only
    iterate 60 all_goals try first
      | with_reducible assumption
      | with_reducible exact State.Touch.refl _ _
      | with_reducible refine State.Touch.arrive ?_ _ _ _ (by decide)
      | with_reducible refine State.Touch.joystick ?_ _ _ (by decide)
      | with_reducible refine State.Touch.lever ?_ _ _ _ (by decide)
      | with_reducible refine State.Touch.ite ?_ ?_
      | split
  exact hT.call k hl

theorem State.Touch.sentence {l : List Part} {s0 s : State} (hT : State.Touch l s0 s)  (typ idx : Nat) (arrival : Int) (utc : Option Nat) (r : Reading)
    (hl : ∀ p ∈ ([.fus, .ctl] : List Part), p ∈ l) : State.Touch l s0 (State.sentence s typ idx arrival utc r) := by
  have k : State.Touch [.fus, .ctl] s (State.sentence s typ idx arrival utc r) := by
    unfold State.sentence
    try dsimp only
    iterate 60 all_goals try first
      | with_reducible assumption
      | with_reducible exact State.Touch.refl _ _
      | with_reducible refine State.Touch.count ?_ _
      | with_reducible refine State.Touch.consume ?_ _ _ _ _ _ _ (by decide)
      | with_reducible refine State.Touch.ite ?_ ?_
      | split
  exact hT.call k hl

theorem State.Touch.uartSentence {l : List Part} {s0 s : State} (hT : State.Touch l s0 s)  (port startNs : Nat) (ok : Bool) (utc : Option Nat) (r : Reading)
    (hl : ∀ p ∈ ([.fus, .ctl] : List Part), p ∈ l) : State.Touch l s0 (State.uartSentence s port startNs ok utc r) := by
  have k : State.Touch [.fus, .ctl] s (State.uartSentence s port startNs ok utc r) := by
    unfold State.uartSentence
    try dsimp only
    iterate 60 all_goals try first
      | with_reducible assumption
      | with_reducible exact State.Touch.refl _ _
      | with_reducible refine State.Touch.sentence ?_ _ _ _ _ _ (by decide)
      | with_reducible refine State.Touch.ite ?_ ?_
      | split
      | with_reducible refine State.Touch.upd_fus ?_ _ (by decide)
  exact hT.call k hl

theorem State.Touch.e450Datagram {l : List Part} {s0 s : State} (hT : State.Touch l s0 s)  (startNs : Nat) (source : List Byte) (binary : Bool) (xs : List (Bool × Option Nat × Reading))
    (hl : ∀ p ∈ ([.fus, .ctl] : List Part), p ∈ l) : State.Touch l s0 (State.e450Datagram s startNs source binary xs) := by
  have k : State.Touch [.fus, .ctl] s (State.e450Datagram s startNs source binary xs) := by
    unfold State.e450Datagram
    try dsimp only
    iterate 60 all_goals try first
      | with_reducible assumption
      | with_reducible exact State.Touch.refl _ _
      | with_reducible refine State.Touch.count ?_ _
      | with_reducible refine State.Touch.each ?_ _ _ (fun x u hu => ?_)
      | with_reducible refine State.Touch.sentence ?_ _ _ _ _ _ (by decide)
      | with_reducible refine State.Touch.ite ?_ ?_
      | split
  exact hT.call k hl

theorem State.Touch.sensorItem {l : List Part} {s0 s : State} (hT : State.Touch l s0 s)  (port : Nat) (synced : Bool) (sender : Nat) (time : Int) (x : SensorItem)
    (hl : ∀ p ∈ ([.fus, .ctl, .alc] : List Part), p ∈ l) : State.Touch l s0 (State.sensorItem s port synced sender time x) := by
  have k : State.Touch [.fus, .ctl, .alc] s (State.sensorItem s port synced sender time x) := by
    unfold State.sensorItem
    try dsimp only
    iterate 60 all_goals try first
      | with_reducible assumption
      | with_reducible exact State.Touch.refl _ _
      | with_reducible refine State.Touch.count ?_ _
      | with_reducible refine State.Touch.arrive ?_ _ _ _ (by decide)
      | with_reducible refine State.Touch.driveMsg ?_ _ _ (by decide)
      | with_reducible refine State.Touch.joystick ?_ _ _ (by decide)
      | with_reducible refine State.Touch.lever ?_ _ _ _ (by decide)
      | with_reducible refine State.Touch.powerMsg ?_ _ (by decide)
      | with_reducible refine State.Touch.ite ?_ ?_
      | split
  exact hT.call k hl

theorem State.Touch.sensorFrame {l : List Part} {s0 s : State} (hT : State.Touch l s0 s)  (port ver typ : Nat) (synced : Bool) (sender : Nat) (time : Int) (items : List SensorItem) (overrun : Bool)
    (hl : ∀ p ∈ ([.fus, .ctl, .alc] : List Part), p ∈ l) : State.Touch l s0 (State.sensorFrame s port ver typ synced sender time items overrun) := by
  have k : State.Touch [.fus, .ctl, .alc] s (State.sensorFrame s port ver typ synced sender time items overrun) := by
    unfold State.sensorFrame
    try dsimp only
    iterate 60 all_goals try first
      | with_reducible assumption
      | with_reducible exact State.Touch.refl _ _
      | with_reducible refine State.Touch.count ?_ _
      | with_reducible refine State.Touch.each ?_ _ _ (fun x u hu => ?_)
      | with_reducible refine State.Touch.sensorItem ?_ _ _ _ _ _ (by decide)
      | with_reducible refine State.Touch.ite ?_ ?_
      | split
  exact hT.call k hl

theorem State.Touch.residual {l : List Part} {s0 s : State} (hT : State.Touch l s0 s)  (k : Nat) (res : Int)
    (hl : ∀ p ∈ ([.fus] : List Part), p ∈ l) : State.Touch l s0 (State.residual s k res) := by
  have k : State.Touch [.fus] s (State.residual s k res) := by
    unfold State.residual
    try dsimp only
    iterate 60 all_goals try first
      | with_reducible assumption
      | with_reducible exact State.Touch.refl _ _
      | with_reducible refine State.Touch.count ?_ _
      | with_reducible refine State.Touch.modSrc ?_ _ _ (by decide)
      | with_reducible refine State.Touch.ite ?_ ?_
      | split
  exact hT.call k hl

theorem State.Touch.takeRaw {l : List Part} {s0 : State} (k : Nat) (c : SrcCfg) (a : State × List Sample) (r : RawSample)
    (h : State.Touch l s0 a.1) (hl : ∀ p ∈ ([.fus] : List Part), p ∈ l) : State.Touch l s0 (State.takeRaw k c a r).1 := by
  have sub : ∀ (m : List Part), (∀ p ∈ m, p ∈ ([.fus] : List Part)) → ∀ p ∈ m, p ∈ l := fun m hm p hp => hl p (hm p hp)
  unfold State.takeRaw
  dsimp only
  iterate 30 all_goals try first
    | with_reducible assumption
    | with_reducible refine State.Touch.count ?_ _
    | with_reducible refine State.Touch.modSrc ?_ _ _ (sub _ (by decide))
    | with_reducible refine State.Touch.residual ?_ _ _ (sub _ (by decide))
    | split

theorem State.Touch.takeInbox {l : List Part} {s0 s : State} (h : State.Touch l s0 s) (k : Nat)
    (hl : ∀ p ∈ ([.fus] : List Part), p ∈ l) : State.Touch l s0 (s.takeInbox k).1 := by
  have sub : ∀ (m : List Part), (∀ p ∈ m, p ∈ ([.fus] : List Part)) → ∀ p ∈ m, p ∈ l := fun m hm p hp => hl p (hm p hp)
  unfold State.takeInbox
  split
  · exact h
  · exact State.Touch.foldlFst _ _ _ (h.modSrc _ _ (sub _ (by decide))) (fun x a ha => State.Touch.takeRaw _ _ a x ha (sub _ (by decide)))

theorem State.Touch.intakeSlot {l : List Part} {s0 : State} (t : Int) (a : State × List (Nat × Sample) × List (Nat × List Sample)) (k : Nat)
    (h : State.Touch l s0 a.1) (hl : ∀ p ∈ ([.fus] : List Part), p ∈ l) : State.Touch l s0 (State.intakeSlot t a k).1 := by
  have sub : ∀ (m : List Part), (∀ p ∈ m, p ∈ ([.fus] : List Part)) → ∀ p ∈ m, p ∈ l := fun m hm p hp => hl p (hm p hp)
  obtain ⟨s, late, cs⟩ := a
  unfold State.intakeSlot
  dsimp only
  split
  · exact h
  · split
    · exact h
    · exact State.Touch.takeInbox h k (sub _ (by decide))

theorem State.Touch.bring {l : List Part} {s0 : State} (t : Int) (a : State × List Contrib) (x : Nat × List Sample)
    (h : State.Touch l s0 a.1) (hl : ∀ p ∈ ([.fus] : List Part), p ∈ l) : State.Touch l s0 (State.bring t a x).1 := by
  obtain ⟨s, cs⟩ := a
  unfold State.bring
  dsimp only
  split
  · exact h
  · exact h.modSrc _ _ hl

theorem State.Touch.lateApply {l : List Part} {s0 s : State} (hT : State.Touch l s0 s) (c : FusCfg)  (a : Nat × Sample)
    (hl : ∀ p ∈ ([.fus, .ctl] : List Part), p ∈ l) : State.Touch l s0 (State.lateApply c s a) := by
  have k : State.Touch [.fus, .ctl] s (State.lateApply c s a) := by
    unfold State.lateApply
    try dsimp only
    iterate 60 all_goals try first
      | with_reducible assumption
      | with_reducible exact State.Touch.refl _ _
      | with_reducible refine State.Touch.lever ?_ _ _ _ (by decide)
      | with_reducible refine State.Touch.ite ?_ ?_
      | split
      | with_reducible refine State.Touch.upd_fus ?_ _ (by decide)
  exact hT.call k hl

theorem State.Touch.lateSamples {l : List Part} {s0 s : State} (hT : State.Touch l s0 s)  (c : FusCfg) (t : Int) (xs : List (Nat × Sample))
    (hl : ∀ p ∈ ([.fus, .ctl] : List Part), p ∈ l) : State.Touch l s0 (State.lateSamples s c t xs).1 := by
  have k : State.Touch [.fus, .ctl] s (State.lateSamples s c t xs).1 := by
    unfold State.lateSamples
    try dsimp only
    iterate 60 all_goals try first
      | with_reducible assumption
      | with_reducible exact State.Touch.refl _ _
      | with_reducible refine State.Touch.countBy ?_ _ _
      | with_reducible refine State.Touch.foldl ?_ _ _ (fun x u hu => ?_)
      | with_reducible refine State.Touch.lateApply ?_ _ _ (by decide)
      | with_reducible refine State.Touch.ite ?_ ?_
      | split
      | with_reducible refine State.Touch.upd_fus ?_ _ (by decide)
  exact hT.call k hl

theorem State.Touch.markOutliers {l : List Part} {s0 s : State} (hT : State.Touch l s0 s)  (voted : List Nat) (out : List Nat)
    (hl : ∀ p ∈ ([.fus] : List Part), p ∈ l) : State.Touch l s0 (State.markOutliers s voted out) := by
  have k : State.Touch [.fus] s (State.markOutliers s voted out) := by
    unfold State.markOutliers
    try dsimp only
    iterate 60 all_goals try first
      | with_reducible assumption
      | with_reducible exact State.Touch.refl _ _
      | with_reducible refine State.Touch.each ?_ _ _ (fun x u hu => ?_)
      | with_reducible refine State.Touch.modSrc ?_ _ _ (by decide)
      | with_reducible refine State.Touch.ite ?_ ?_
      | split
  exact hT.call k hl

theorem State.Touch.voteOk {l : List Part} {s0 s : State} (hT : State.Touch l s0 s)  (cs : List Contrib) (lo hi : Nat) (tests : Contrib → Bool)
    (hl : ∀ p ∈ ([.fus] : List Part), p ∈ l) : State.Touch l s0 (State.voteOk s cs lo hi tests) := by
  have k : State.Touch [.fus] s (State.voteOk s cs lo hi tests) := by
    unfold State.voteOk
    try dsimp only
    iterate 60 all_goals try first
      | with_reducible assumption
      | with_reducible exact State.Touch.refl _ _
      | with_reducible refine State.Touch.each ?_ _ _ (fun x u hu => ?_)
      | with_reducible refine State.Touch.modSrc ?_ _ _ (by decide)
      | with_reducible refine State.Touch.ite ?_ ?_
      | split
  exact hT.call k hl

theorem State.Touch.observe {l : List Part} {s0 s : State} (hT : State.Touch l s0 s)  (c : FusCfg) (x : List Rat) (p : List Vec) (b : Contrib)
    (hl : ∀ p ∈ ([.fus, .ctl] : List Part), p ∈ l) : State.Touch l s0 (State.observe s c x p b).1 := by
  have k : State.Touch [.fus, .ctl] s (State.observe s c x p b).1 := by
    unfold State.observe
    try dsimp only
    iterate 60 all_goals try first
      | with_reducible assumption
      | with_reducible exact State.Touch.refl _ _
      | with_reducible refine State.Touch.lever ?_ _ _ _ (by decide)
      | with_reducible refine State.Touch.modSrc ?_ _ _ (by decide)
      | with_reducible refine State.Touch.ite ?_ ?_
      | split
  exact hT.call k hl

theorem State.Touch.testRef {l : List Part} {s0 s : State} (hT : State.Touch l s0 s) (c : FusCfg) (acc : List (Rat × Rat))  (r : RefObs)
    (hl : ∀ p ∈ ([.fus] : List Part), p ∈ l) : State.Touch l s0 (State.testRef c acc s r) := by
  have k : State.Touch [.fus] s (State.testRef c acc s r) := by
    unfold State.testRef
    try dsimp only
    iterate 60 all_goals try first
      | with_reducible assumption
      | with_reducible exact State.Touch.refl _ _
      | with_reducible refine State.Touch.modSrc ?_ _ _ (by decide)
      | with_reducible refine State.Touch.ite ?_ ?_
      | split
  exact hT.call k hl

theorem State.Touch.pubState {l : List Part} {s0 s : State} (hT : State.Touch l s0 s)  (t : Int) (k : Nat)
    (hl : ∀ p ∈ ([.fus] : List Part), p ∈ l) : State.Touch l s0 (State.pubState s t k) := by
  have k : State.Touch [.fus] s (State.pubState s t k) := by
    unfold State.pubState
    try dsimp only
    iterate 60 all_goals try first
      | with_reducible assumption
      | with_reducible exact State.Touch.refl _ _
      | with_reducible refine State.Touch.modSrc ?_ _ _ (by decide)
      | with_reducible refine State.Touch.ite ?_ ?_
      | split
  exact hT.call k hl

theorem State.Touch.calReject {l : List Part} {s0 s : State} (hT : State.Touch l s0 s)  (c : CalCfg) (v : Rat)
    (hl : ∀ p ∈ ([.fus] : List Part), p ∈ l) : State.Touch l s0 (State.calReject s c v) := by
  have k : State.Touch [.fus] s (State.calReject s c v) := by
    unfold State.calReject
    try dsimp only
    iterate 60 all_goals try first
      | with_reducible assumption
      | with_reducible exact State.Touch.refl _ _
      | with_reducible refine State.Touch.modSrc ?_ _ _ (by decide)
      | with_reducible refine State.Touch.ite ?_ ?_
      | split
  exact hT.call k hl

theorem State.Touch.calRequests {l : List Part} {s0 s : State} (hT : State.Touch l s0 s)  (c : FusCfg)
    (hl : ∀ p ∈ ([.mgt, .fus, .ctl] : List Part), p ∈ l) : State.Touch l s0 (State.calRequests s c) := by
  have k : State.Touch [.mgt, .fus, .ctl] s (State.calRequests s c) := by
    unfold State.calRequests
    try dsimp only
    iterate 60 all_goals try first
      | with_reducible assumption
      | with_reducible exact State.Touch.refl _ _
      | with_reducible refine State.Touch.set ?_ _ _
      | with_reducible refine State.Touch.each ?_ _ _ (fun x u hu => ?_)
      | with_reducible refine State.Touch.modSrc ?_ _ _ (by decide)
      | with_reducible refine State.Touch.resultOpt ?_ _ _ _ (by decide)
      | with_reducible refine State.Touch.ite ?_ ?_
      | split
      | with_reducible refine State.Touch.upd_ctl ?_ _ (by decide)
      | with_reducible refine State.Touch.upd_fus ?_ _ (by decide)
  exact hT.call k hl

theorem State.Touch.raiseEdge {l : List Part} {s0 s : State} (hT : State.Touch l s0 s)  (code : Nat) (old new : Bool) (slots : List Nat)
    (hl : ∀ p ∈ ([.port] : List Part), p ∈ l) : State.Touch l s0 (State.raiseEdge s code old new slots) := by
  have k : State.Touch [.port] s (State.raiseEdge s code old new slots) := by
    unfold State.raiseEdge
    try dsimp only
    iterate 60 all_goals try first
      | with_reducible assumption
      | with_reducible exact State.Touch.refl _ _
      | with_reducible refine State.Touch.raise ?_ _ _ _
      | with_reducible refine State.Touch.ite ?_ ?_
      | split
  exact hT.call k hl

theorem State.Touch.voteWeights {l : List Part} {s0 s : State} (hT : State.Touch l s0 s)  (v : Option Vote)
    (hl : ∀ p ∈ ([.fus] : List Part), p ∈ l) : State.Touch l s0 (State.voteWeights s v) := by
  have k : State.Touch [.fus] s (State.voteWeights s v) := by
    unfold State.voteWeights
    try dsimp only
    iterate 60 all_goals try first
      | with_reducible assumption
      | with_reducible exact State.Touch.refl _ _
      | with_reducible refine State.Touch.each ?_ _ _ (fun x u hu => ?_)
      | with_reducible refine State.Touch.modSrc ?_ _ _ (by decide)
      | with_reducible refine State.Touch.ite ?_ ?_
      | split
  exact hT.call k hl

theorem State.Touch.applyVotes {l : List Part} {s0 s : State} (hT : State.Touch l s0 s)  (c : FusCfg) (cs : List Contrib) (v : Votes)
    (hl : ∀ p ∈ ([.fus, .port] : List Part), p ∈ l) : State.Touch l s0 (State.applyVotes s c cs v) := by
  have k : State.Touch [.fus, .port] s (State.applyVotes s c cs v) := by
    unfold State.applyVotes
    try dsimp only
    iterate 60 all_goals try first
      | with_reducible assumption
      | with_reducible exact State.Touch.refl _ _
      | with_reducible refine State.Touch.raise ?_ _ _ _
      | with_reducible refine State.Touch.each ?_ _ _ (fun x u hu => ?_)
      | with_reducible refine State.Touch.markOutliers ?_ _ _ (by decide)
      | with_reducible refine State.Touch.modSrc ?_ _ _ (by decide)
      | with_reducible refine State.Touch.raiseEdge ?_ _ _ _ _ (by decide)
      | with_reducible refine State.Touch.voteOk ?_ _ _ _ _ (by decide)
      | with_reducible refine State.Touch.voteWeights ?_ _ (by decide)
      | with_reducible refine State.Touch.ite ?_ ?_
      | split
      | with_reducible refine State.Touch.upd_fus ?_ _ (by decide)
  exact hT.call k hl

theorem State.Touch.refWeights {l : List Part} {s0 s : State} (hT : State.Touch l s0 s)  (c : FusCfg)
    (hl : ∀ p ∈ ([.fus] : List Part), p ∈ l) : State.Touch l s0 (State.refWeights s c) := by
  have k : State.Touch [.fus] s (State.refWeights s c) := by
    unfold State.refWeights
    try dsimp only
    iterate 60 all_goals try first
      | with_reducible assumption
      | with_reducible exact State.Touch.refl _ _
      | with_reducible refine State.Touch.each ?_ _ _ (fun x u hu => ?_)
      | with_reducible refine State.Touch.modSrc ?_ _ _ (by decide)
      | with_reducible refine State.Touch.ite ?_ ?_
      | split
  exact hT.call k hl

theorem State.Touch.estimator {l : List Part} {s0 s : State} (hT : State.Touch l s0 s)  (refAcc : Nat) (heading : Bool)
    (hl : ∀ p ∈ ([.fus] : List Part), p ∈ l) : State.Touch l s0 (State.estimator s refAcc heading) := by
  have k : State.Touch [.fus] s (State.estimator s refAcc heading) := by
    unfold State.estimator
    try dsimp only
    iterate 60 all_goals try first
      | with_reducible assumption
      | with_reducible exact State.Touch.refl _ _
      | with_reducible refine State.Touch.ite ?_ ?_
      | split
      | with_reducible refine State.Touch.upd_fus ?_ _ (by decide)
  exact hT.call k hl

theorem State.Touch.setOrigin {l : List Part} {s0 s : State} (hT : State.Touch l s0 s)  (c : FusCfg) (cs : List Contrib) (good : List RefObs)
    (hl : ∀ p ∈ ([.fus] : List Part), p ∈ l) : State.Touch l s0 (State.setOrigin s c cs good) := by
  have k : State.Touch [.fus] s (State.setOrigin s c cs good) := by
    unfold State.setOrigin
    try dsimp only
    iterate 60 all_goals try first
      | with_reducible assumption
      | with_reducible exact State.Touch.refl _ _
      | with_reducible refine State.Touch.modSrc ?_ _ _ (by decide)
      | with_reducible refine State.Touch.ite ?_ ?_
      | split
      | with_reducible refine State.Touch.upd_fus ?_ _ (by decide)
  exact hT.call k hl

theorem State.Touch.fixRefs {l : List Part} {s0 s : State} (hT : State.Touch l s0 s)  (x : List Rat) (cs : List Contrib) (good : List RefObs)
    (hl : ∀ p ∈ ([.fus] : List Part), p ∈ l) : State.Touch l s0 (State.fixRefs s x cs good) := by
  have k : State.Touch [.fus] s (State.fixRefs s x cs good) := by
    unfold State.fixRefs
    try dsimp only
    iterate 60 all_goals try first
      | with_reducible assumption
      | with_reducible exact State.Touch.refl _ _
      | with_reducible refine State.Touch.each ?_ _ _ (fun x u hu => ?_)
      | with_reducible refine State.Touch.modSrc ?_ _ _ (by decide)
      | with_reducible refine State.Touch.ite ?_ ?_
      | split
  exact hT.call k hl

theorem State.Touch.measureUpdate {l : List Part} {s0 s : State} (hT : State.Touch l s0 s)  (c : FusCfg) (a : List Rat × List Vec × List Vec) (ms : List Meas) (rp : List (Nat × Rat × Rat))
    (hl : ∀ p ∈ ([.fus] : List Part), p ∈ l) : State.Touch l s0 (State.measureUpdate s c a ms rp).1 := by
  have k : State.Touch [.fus] s (State.measureUpdate s c a ms rp).1 := by
    unfold State.measureUpdate
    try dsimp only
    iterate 60 all_goals try first
      | with_reducible assumption
      | with_reducible exact State.Touch.refl _ _
      | with_reducible refine State.Touch.set ?_ _ _
      | with_reducible refine State.Touch.ite ?_ ?_
      | split
      | with_reducible refine State.Touch.upd_fus ?_ _ (by decide)
  exact hT.call k hl

theorem State.Touch.testRefs {l : List Part} {s0 s : State} (hT : State.Touch l s0 s)  (c : FusCfg) (a : List Rat × List Vec × List Vec) (cs : List Contrib) (v : Votes) (rp : List (Nat × Rat × Rat))
    (hl : ∀ p ∈ ([.fus, .ctl] : List Part), p ∈ l) : State.Touch l s0 (State.testRefs s c a cs v rp).1 := by
  have k : State.Touch [.fus, .ctl] s (State.testRefs s c a cs v rp).1 := by
    unfold State.testRefs
    try dsimp only
    iterate 60 all_goals try first
      | with_reducible assumption
      | with_reducible exact State.Touch.refl _ _
      | with_reducible refine State.Touch.each ?_ _ _ (fun x u hu => ?_)
      | with_reducible refine State.Touch.foldl ?_ _ _ (fun x u hu => ?_)
      | with_reducible refine State.Touch.calReject ?_ _ _ (by decide)
      | with_reducible refine State.Touch.fixRefs ?_ _ _ _ (by decide)
      | with_reducible refine State.Touch.measureUpdate ?_ _ _ _ _ (by decide)
      | with_reducible refine State.Touch.observe ?_ _ _ _ _ (by decide)
      | with_reducible refine State.Touch.refWeights ?_ _ (by decide)
      | with_reducible refine State.Touch.setOrigin ?_ _ _ _ (by decide)
      | with_reducible refine State.Touch.testRef ?_ _ _ _ (by decide)
      | refine State.Touch.fst (by with_reducible assumption) ?_ (State.Touch.measureUpdate (State.Touch.refl _ _) _ _ _ _ (fun _ h => h)) (by decide)
      | refine State.Touch.fst (by with_reducible assumption) ?_ (State.Touch.observe (State.Touch.refl _ _) _ _ _ _ (fun _ h => h)) (by decide)
      | refine State.Touch.foldlFst _ _ _ ?_ (fun x a ha => State.Touch.observe ha _ _ _ _ (by decide))
      | with_reducible refine State.Touch.ite ?_ ?_
      | split
  exact hT.call k hl

theorem State.Touch.formEpoch {l : List Part} {s0 s : State} (hT : State.Touch l s0 s)  (c : FusCfg) (start : List Rat) (fresh : List (Nat × List Sample)) (ovf : Bool)
    (hl : ∀ p ∈ ([.mgt, .fus, .ctl, .port] : List Part), p ∈ l) : State.Touch l s0 (State.formEpoch s c start fresh ovf).1 := by
  have k : State.Touch [.mgt, .fus, .ctl, .port] s (State.formEpoch s c start fresh ovf).1 := by
    unfold State.formEpoch
    try dsimp only
    iterate 60 all_goals try first
      | with_reducible assumption
      | with_reducible exact State.Touch.refl _ _
      | with_reducible refine State.Touch.set ?_ _ _
      | with_reducible refine State.Touch.each ?_ _ _ (fun x u hu => ?_)
      | with_reducible refine State.Touch.foldl ?_ _ _ (fun x u hu => ?_)
      | with_reducible refine State.Touch.applyVotes ?_ _ _ _ (by decide)
      | with_reducible refine State.Touch.bring ?_ _ _ (by decide)
      | with_reducible refine State.Touch.calRequests ?_ _ (by decide)
      | with_reducible refine State.Touch.estimator ?_ _ _ (by decide)
      | with_reducible refine State.Touch.modSrc ?_ _ _ (by decide)
      | with_reducible refine State.Touch.pubState ?_ _ _ (by decide)
      | with_reducible refine State.Touch.testRefs ?_ _ _ _ _ _ (by decide)
      | refine State.Touch.fst (by with_reducible assumption) ?_ (State.Touch.bring (State.Touch.refl _ _) _ _ (fun _ h => h)) (by decide)
      | refine State.Touch.fst (by with_reducible assumption) ?_ (State.Touch.testRefs (State.Touch.refl _ _) _ _ _ _ _ (fun _ h => h)) (by decide)
      | refine State.Touch.foldlFst _ _ _ ?_ (fun x a ha => State.Touch.bring _ a x ha (by decide))
      | with_reducible refine State.Touch.ite ?_ ?_
      | split
      | with_reducible refine State.Touch.upd_fus ?_ _ (by decide)
  exact hT.call k hl

theorem State.Touch.targetFresh {l : List Part} {s0 s : State} (hT : State.Touch l s0 s)  (cs : List Contrib)
    (hl : ∀ p ∈ ([.ctl] : List Part), p ∈ l) : State.Touch l s0 (State.targetFresh s cs) := by
  have k : State.Touch [.ctl] s (State.targetFresh s cs) := by
    unfold State.targetFresh
    try dsimp only
    iterate 60 all_goals try first
      | with_reducible assumption
      | with_reducible exact State.Touch.refl _ _
      | with_reducible refine State.Touch.ite ?_ ?_
      | split
      | with_reducible refine State.Touch.upd_ctl ?_ _ (by decide)
  exact hT.call k hl

theorem State.Touch.intakeClose {l : List Part} {s0 s : State} (hT : State.Touch l s0 s)  (start : List Rat)
    (hl : ∀ p ∈ ([.mgt, .fus, .ctl, .port] : List Part), p ∈ l) : State.Touch l s0 (State.intakeClose s start) := by
  have k : State.Touch [.mgt, .fus, .ctl, .port] s (State.intakeClose s start) := by
    unfold State.intakeClose
    try dsimp only
    iterate 60 all_goals try first
      | with_reducible assumption
      | with_reducible exact State.Touch.refl _ _
      | with_reducible refine State.Touch.foldl ?_ _ _ (fun x u hu => ?_)
      | with_reducible refine State.Touch.formEpoch ?_ _ _ _ _ (by decide)
      | with_reducible refine State.Touch.intakeSlot ?_ _ _ (by decide)
      | with_reducible refine State.Touch.lateSamples ?_ _ _ _ (by decide)
      | with_reducible refine State.Touch.targetFresh ?_ _ (by decide)
      | refine State.Touch.fst (by with_reducible assumption) ?_ (State.Touch.formEpoch (State.Touch.refl _ _) _ _ _ _ (fun _ h => h)) (by decide)
      | refine State.Touch.fst (by with_reducible assumption) ?_ (State.Touch.intakeSlot (State.Touch.refl _ _) _ _ (fun _ h => h)) (by decide)
      | refine State.Touch.fst (by with_reducible assumption) ?_ (State.Touch.lateSamples (State.Touch.refl _ _) _ _ _ (fun _ h => h)) (by decide)
      | refine State.Touch.foldlFst _ _ _ ?_ (fun x a ha => State.Touch.intakeSlot _ a x ha (by decide))
      | with_reducible refine State.Touch.ite ?_ ?_
      | split
  exact hT.call k hl

theorem State.Touch.rejectSrc {l : List Part} {s0 s : State} (hT : State.Touch l s0 s)  (k reason : Nat)
    (hl : ∀ p ∈ ([.fus] : List Part), p ∈ l) : State.Touch l s0 (State.rejectSrc s k reason) := by
  have k : State.Touch [.fus] s (State.rejectSrc s k reason) := by
    unfold State.rejectSrc
    try dsimp only
    iterate 60 all_goals try first
      | with_reducible assumption
      | with_reducible exact State.Touch.refl _ _
      | with_reducible refine State.Touch.modSrc ?_ _ _ (by decide)
      | with_reducible refine State.Touch.ite ?_ ?_
      | split
  exact hT.call k hl

theorem State.Touch.outlierReject {l : List Part} {s0 s : State} (hT : State.Touch l s0 s)  (k : Nat)
    (hl : ∀ p ∈ ([.fus] : List Part), p ∈ l) : State.Touch l s0 (State.outlierReject s k) := by
  have k : State.Touch [.fus] s (State.outlierReject s k) := by
    unfold State.outlierReject
    try dsimp only
    iterate 60 all_goals try first
      | with_reducible assumption
      | with_reducible exact State.Touch.refl _ _
      | with_reducible refine State.Touch.rejectSrc ?_ _ _ (by decide)
      | with_reducible refine State.Touch.ite ?_ ?_
      | split
  exact hT.call k hl

theorem State.Touch.innovReject {l : List Part} {s0 s : State} (hT : State.Touch l s0 s)  (k : Nat)
    (hl : ∀ p ∈ ([.fus] : List Part), p ∈ l) : State.Touch l s0 (State.innovReject s k) := by
  have k : State.Touch [.fus] s (State.innovReject s k) := by
    unfold State.innovReject
    try dsimp only
    iterate 60 all_goals try first
      | with_reducible assumption
      | with_reducible exact State.Touch.refl _ _
      | with_reducible refine State.Touch.rejectSrc ?_ _ _ (by decide)
      | with_reducible refine State.Touch.ite ?_ ?_
      | split
  exact hT.call k hl

theorem State.Touch.frozenReject {l : List Part} {s0 s : State} (hT : State.Touch l s0 s)  (k : Nat)
    (hl : ∀ p ∈ ([.fus] : List Part), p ∈ l) : State.Touch l s0 (State.frozenReject s k) := by
  have k : State.Touch [.fus] s (State.frozenReject s k) := by
    unfold State.frozenReject
    try dsimp only
    iterate 60 all_goals try first
      | with_reducible assumption
      | with_reducible exact State.Touch.refl _ _
      | with_reducible refine State.Touch.rejectSrc ?_ _ _ (by decide)
      | with_reducible refine State.Touch.ite ?_ ?_
      | split
  exact hT.call k hl

theorem State.Touch.acceptSrc {l : List Part} {s0 s : State} (hT : State.Touch l s0 s)  (k : Nat)
    (hl : ∀ p ∈ ([.fus] : List Part), p ∈ l) : State.Touch l s0 (State.acceptSrc s k) := by
  have k : State.Touch [.fus] s (State.acceptSrc s k) := by
    unfold State.acceptSrc
    try dsimp only
    iterate 60 all_goals try first
      | with_reducible assumption
      | with_reducible exact State.Touch.refl _ _
      | with_reducible refine State.Touch.modSrc ?_ _ _ (by decide)
      | with_reducible refine State.Touch.ite ?_ ?_
      | split
  exact hT.call k hl

theorem State.Touch.timeReadmit {l : List Part} {s0 s : State} (hT : State.Touch l s0 s)  (k : Nat)
    (hl : ∀ p ∈ ([.fus] : List Part), p ∈ l) : State.Touch l s0 (State.timeReadmit s k) := by
  have k : State.Touch [.fus] s (State.timeReadmit s k) := by
    unfold State.timeReadmit
    try dsimp only
    iterate 60 all_goals try first
      | with_reducible assumption
      | with_reducible exact State.Touch.refl _ _
      | with_reducible refine State.Touch.acceptSrc ?_ _ (by decide)
      | with_reducible refine State.Touch.modSrc ?_ _ _ (by decide)
      | with_reducible refine State.Touch.ite ?_ ?_
      | split
  exact hT.call k hl

theorem State.Touch.sourceReadmit {l : List Part} {s0 s : State} (hT : State.Touch l s0 s)  (k : Nat)
    (hl : ∀ p ∈ ([.fus] : List Part), p ∈ l) : State.Touch l s0 (State.sourceReadmit s k) := by
  have k : State.Touch [.fus] s (State.sourceReadmit s k) := by
    unfold State.sourceReadmit
    try dsimp only
    iterate 60 all_goals try first
      | with_reducible assumption
      | with_reducible exact State.Touch.refl _ _
      | with_reducible refine State.Touch.acceptSrc ?_ _ (by decide)
      | with_reducible refine State.Touch.ite ?_ ?_
      | split
  exact hT.call k hl

theorem State.Touch.estimatorSettled {l : List Part} {s0 s : State} (hT : State.Touch l s0 s) 
    (hl : ∀ p ∈ ([.fus] : List Part), p ∈ l) : State.Touch l s0 (State.estimatorSettled s) := by
  have k : State.Touch [.fus] s (State.estimatorSettled s) := by
    unfold State.estimatorSettled
    try dsimp only
    iterate 60 all_goals try first
      | with_reducible assumption
      | with_reducible exact State.Touch.refl _ _
      | with_reducible refine State.Touch.ite ?_ ?_
      | split
      | with_reducible refine State.Touch.upd_fus ?_ _ (by decide)
  exact hT.call k hl

theorem State.Touch.holdoverExpired {l : List Part} {s0 s : State} (hT : State.Touch l s0 s) 
    (hl : ∀ p ∈ ([.fus] : List Part), p ∈ l) : State.Touch l s0 (State.holdoverExpired s) := by
  have k : State.Touch [.fus] s (State.holdoverExpired s) := by
    unfold State.holdoverExpired
    try dsimp only
    iterate 60 all_goals try first
      | with_reducible assumption
      | with_reducible exact State.Touch.refl _ _
      | with_reducible refine State.Touch.ite ?_ ?_
      | split
      | with_reducible refine State.Touch.upd_fus ?_ _ (by decide)
  exact hT.call k hl

theorem State.Touch.windAgree {l : List Part} {s0 s : State} (hT : State.Touch l s0 s) 
    (hl : ∀ p ∈ ([.fus] : List Part), p ∈ l) : State.Touch l s0 (State.windAgree s) := by
  have k : State.Touch [.fus] s (State.windAgree s) := by
    unfold State.windAgree
    try dsimp only
    iterate 60 all_goals try first
      | with_reducible assumption
      | with_reducible exact State.Touch.refl _ _
      | with_reducible refine State.Touch.ite ?_ ?_
      | split
      | with_reducible refine State.Touch.upd_fus ?_ _ (by decide)
  exact hT.call k hl

theorem State.Touch.lateExpired {l : List Part} {s0 s : State} (hT : State.Touch l s0 s) 
    (hl : ∀ p ∈ ([.fus] : List Part), p ∈ l) : State.Touch l s0 (State.lateExpired s) := by
  have k : State.Touch [.fus] s (State.lateExpired s) := by
    unfold State.lateExpired
    try dsimp only
    iterate 60 all_goals try first
      | with_reducible assumption
      | with_reducible exact State.Touch.refl _ _
      | with_reducible refine State.Touch.count ?_ _
      | with_reducible refine State.Touch.ite ?_ ?_
      | split
      | with_reducible refine State.Touch.upd_fus ?_ _ (by decide)
  exact hT.call k hl

theorem State.Touch.srcCreate {l : List Part} {s0 s : State} (hT : State.Touch l s0 s)  (typ idx : Nat)
    (hl : ∀ p ∈ ([.fus] : List Part), p ∈ l) : State.Touch l s0 (State.srcCreate s typ idx) := by
  have k : State.Touch [.fus] s (State.srcCreate s typ idx) := by
    unfold State.srcCreate
    try dsimp only
    iterate 60 all_goals try first
      | with_reducible assumption
      | with_reducible exact State.Touch.refl _ _
      | with_reducible refine State.Touch.modSrc ?_ _ _ (by decide)
      | with_reducible refine State.Touch.ite ?_ ?_
      | split
  exact hT.call k hl

theorem State.Touch.srcDestroy {l : List Part} {s0 s : State} (hT : State.Touch l s0 s)  (typ idx : Nat)
    (hl : ∀ p ∈ ([.fus] : List Part), p ∈ l) : State.Touch l s0 (State.srcDestroy s typ idx) := by
  have k : State.Touch [.fus] s (State.srcDestroy s typ idx) := by
    unfold State.srcDestroy
    try dsimp only
    iterate 60 all_goals try first
      | with_reducible assumption
      | with_reducible exact State.Touch.refl _ _
      | with_reducible refine State.Touch.modSrc ?_ _ _ (by decide)
      | with_reducible refine State.Touch.ite ?_ ?_
      | split
  exact hT.call k hl

theorem State.Touch.fusionReinit {l : List Part} {s0 s : State} (hT : State.Touch l s0 s) 
    (hl : ∀ p ∈ ([.fus] : List Part), p ∈ l) : State.Touch l s0 (State.fusionReinit s) := by
  have k : State.Touch [.fus] s (State.fusionReinit s) := by
    unfold State.fusionReinit
    try dsimp only
    iterate 60 all_goals try first
      | with_reducible assumption
      | with_reducible exact State.Touch.refl _ _
      | with_reducible refine State.Touch.each ?_ _ _ (fun x u hu => ?_)
      | with_reducible refine State.Touch.modSrc ?_ _ _ (by decide)
      | with_reducible refine State.Touch.ite ?_ ?_
      | split
      | with_reducible refine State.Touch.upd_fus ?_ _ (by decide)
  exact hT.call k hl

theorem State.Touch.publishSrc {l : List Part} {s0 s : State} (hT : State.Touch l s0 s)  (k : Nat)
    (hl : ∀ p ∈ ([] : List Part), p ∈ l) : State.Touch l s0 (State.publishSrc s k) := by
  have k : State.Touch [] s (State.publishSrc s k) := by
    unfold State.publishSrc
    try dsimp only
    iterate 60 all_goals try first
      | with_reducible assumption
      | with_reducible exact State.Touch.refl _ _
      | with_reducible refine State.Touch.set ?_ _ _
      | with_reducible refine State.Touch.ite ?_ ?_
      | split
  exact hT.call k hl

theorem State.Touch.publishOn {l : List Part} {s0 s : State} (hT : State.Touch l s0 s)  (task frame : Nat) (data : List Byte)
    (hl : ∀ p ∈ ([.mgt, .chans, .can, .eth, .ana, .port] : List Part), p ∈ l) : State.Touch l s0 (State.publishOn s task frame data) := by
  have k : State.Touch [.mgt, .chans, .can, .eth, .ana, .port] s (State.publishOn s task frame data) := by
    unfold State.publishOn
    try dsimp only
    iterate 60 all_goals try first
      | with_reducible assumption
      | with_reducible exact State.Touch.refl _ _
      | with_reducible refine State.Touch.portOutput ?_ _ _ _ _ (by decide)
      | with_reducible refine State.Touch.ite ?_ ?_
      | split
  exact hT.call k hl

theorem State.Touch.publishEpoch {l : List Part} {s0 s : State} (hT : State.Touch l s0 s)  (c : FusCfg) (e : Epoch) (own : Bool × Bool × Bool)
    (hl : ∀ p ∈ ([.mgt, .chans, .fus, .can, .eth, .ana, .port] : List Part), p ∈ l) : State.Touch l s0 (State.publishEpoch s c e own) := by
  have k : State.Touch [.mgt, .chans, .fus, .can, .eth, .ana, .port] s (State.publishEpoch s c e own) := by
    unfold State.publishEpoch
    try dsimp only
    iterate 60 all_goals try first
      | with_reducible assumption
      | with_reducible exact State.Touch.refl _ _
      | with_reducible refine State.Touch.wr ?_ _ _
      | with_reducible refine State.Touch.count ?_ _
      | with_reducible refine State.Touch.countWrap ?_ _
      | with_reducible refine State.Touch.each ?_ _ _ (fun x u hu => ?_)
      | with_reducible refine State.Touch.publishOn ?_ _ _ _ (by decide)
      | with_reducible refine State.Touch.publishSrc ?_ _ (by decide)
      | with_reducible refine State.Touch.ite ?_ ?_
      | split
      | with_reducible refine State.Touch.upd_fus ?_ _ (by decide)
  exact hT.call k hl

theorem State.Touch.fusCalFreeze {l : List Part} {s0 s : State} (hT : State.Touch l s0 s)  (freeze : Bool)
    (hl : ∀ p ∈ ([] : List Part), p ∈ l) : State.Touch l s0 (State.fusCalFreeze s freeze) := by
  have k : State.Touch [] s (State.fusCalFreeze s freeze) := by
    unfold State.fusCalFreeze
    try dsimp only
    iterate 60 all_goals try first
      | with_reducible assumption
      | with_reducible exact State.Touch.refl _ _
      | with_reducible refine State.Touch.setBit ?_ _ _
      | with_reducible refine State.Touch.refuse ?_ _ _ _ (by decide)
      | with_reducible refine State.Touch.ite ?_ ?_
      | split
  exact hT.call k hl

theorem State.Touch.fusCntClr {l : List Part} {s0 s : State} (hT : State.Touch l s0 s) 
    (hl : ∀ p ∈ ([] : List Part), p ∈ l) : State.Touch l s0 (State.fusCntClr s) := by
  have k : State.Touch [] s (State.fusCntClr s) := by
    unfold State.fusCntClr
    try dsimp only
    iterate 60 all_goals try first
      | with_reducible assumption
      | with_reducible exact State.Touch.refl _ _
      | with_reducible refine State.Touch.wr ?_ _ _
      | with_reducible refine State.Touch.ite ?_ ?_
      | split
  exact hT.call k hl

end Sys2Proof.Machine
end

