-- ==== Sys2Proof/Laws/Touch/Gates.lean ====
section
/-!
SUPPORT. Sys2Proof/Laws/Touch/Gates.lean: which parts of the state each operation of Machine/Gates.lean may change.
-/
set_option linter.all false
set_option maxRecDepth 4000
namespace Sys2Proof.Machine

theorem State.Touch.busError {l : List Part} {s0 s : State} (hT : State.Touch l s0 s)  (a cause : Nat)
    (hl : ∀ p ∈ ([] : List Part), p ∈ l) : State.Touch l s0 (State.busError s a cause) := by
  have k : State.Touch [] s (State.busError s a cause) := by
    unfold State.busError
    try dsimp only
    iterate 60 all_goals try first
      | with_reducible assumption
      | with_reducible exact State.Touch.refl _ _
      | with_reducible refine State.Touch.wr ?_ _ _
      | with_reducible refine State.Touch.set ?_ _ _
      | with_reducible refine State.Touch.count ?_ _
      | with_reducible refine State.Touch.ite ?_ ?_
      | split
  exact hT.call k hl

theorem State.Touch.access {l : List Part} {s0 s : State} (h : State.Touch l s0 s) (a : Nat) (f : State → State)
    (hf : ∀ u, State.Touch l s0 u → State.Touch l s0 (f u)) : State.Touch l s0 (s.access a f) := by
  refine h.running _ (fun u hu => ?_)
  split
  · exact hf u hu
  · exact hu.busError _ _ (by simp)

end Sys2Proof.Machine
end

