-- ==== Sys2Proof/Laws/Touch/Analogue.lean ====
section
/-!
SUPPORT. Sys2Proof/Laws/Touch/Analogue.lean: which parts of the state each operation of Machine/Analogue.lean may change.
-/
set_option linter.all false
set_option maxRecDepth 4000
namespace Sys2Proof.Machine

theorem State.Touch.modChain {l : List Part} {s0 s : State} (hT : State.Touch l s0 s)  (n : Nat) (f : ChainSt → ChainSt)
    (hl : ∀ p ∈ ([.ana] : List Part), p ∈ l) : State.Touch l s0 (State.modChain s n f) := by
  have k : State.Touch [.ana] s (State.modChain s n f) := by
    unfold State.modChain
    try dsimp only
    iterate 60 all_goals try first
      | with_reducible assumption
      | with_reducible exact State.Touch.refl _ _
      | with_reducible refine State.Touch.ite ?_ ?_
      | split
      | with_reducible refine State.Touch.upd_ana ?_ _ (by decide)
  exact hT.call k hl

theorem State.Touch.chainRefuse {l : List Part} {s0 s : State} (hT : State.Touch l s0 s)  (n code addr : Nat)
    (hl : ∀ p ∈ ([] : List Part), p ∈ l) : State.Touch l s0 (State.chainRefuse s n code addr) := by
  have k : State.Touch [] s (State.chainRefuse s n code addr) := by
    unfold State.chainRefuse
    try dsimp only
    iterate 60 all_goals try first
      | with_reducible assumption
      | with_reducible exact State.Touch.refl _ _
      | with_reducible refine State.Touch.set ?_ _ _
      | with_reducible refine State.Touch.refuse ?_ _ _ _ (by decide)
      | with_reducible refine State.Touch.ite ?_ ?_
      | split
  exact hT.call k hl

theorem State.Touch.chainSetup {l : List Part} {s0 s : State} (hT : State.Touch l s0 s)  (n st : Nat)
    (hl : ∀ p ∈ ([.ana] : List Part), p ∈ l) : State.Touch l s0 (State.chainSetup s n st) := by
  have k : State.Touch [.ana] s (State.chainSetup s n st) := by
    unfold State.chainSetup
    try dsimp only
    iterate 60 all_goals try first
      | with_reducible assumption
      | with_reducible exact State.Touch.refl _ _
      | with_reducible refine State.Touch.wr ?_ _ _
      | with_reducible refine State.Touch.set ?_ _ _
      | with_reducible refine State.Touch.setBit ?_ _ _
      | with_reducible refine State.Touch.modChain ?_ _ _ (by decide)
      | with_reducible refine State.Touch.ite ?_ ?_
      | split
  exact hT.call k hl

theorem State.Touch.chainStart {l : List Part} {s0 s : State} (hT : State.Touch l s0 s)  (n : Nat)
    (hl : ∀ p ∈ ([.ana] : List Part), p ∈ l) : State.Touch l s0 (State.chainStart s n) := by
  have k : State.Touch [.ana] s (State.chainStart s n) := by
    unfold State.chainStart
    try dsimp only
    iterate 60 all_goals try first
      | with_reducible assumption
      | with_reducible exact State.Touch.refl _ _
      | with_reducible refine State.Touch.chainRefuse ?_ _ _ _ (by decide)
      | with_reducible refine State.Touch.chainSetup ?_ _ _ (by decide)
      | with_reducible refine State.Touch.ite ?_ ?_
      | split
  exact hT.call k hl

theorem State.Touch.chainHalt {l : List Part} {s0 s : State} (hT : State.Touch l s0 s)  (n : Nat)
    (hl : ∀ p ∈ ([.ana] : List Part), p ∈ l) : State.Touch l s0 (State.chainHalt s n) := by
  have k : State.Touch [.ana] s (State.chainHalt s n) := by
    unfold State.chainHalt
    try dsimp only
    iterate 60 all_goals try first
      | with_reducible assumption
      | with_reducible exact State.Touch.refl _ _
      | with_reducible refine State.Touch.set ?_ _ _
      | with_reducible refine State.Touch.modChain ?_ _ _ (by decide)
      | with_reducible refine State.Touch.ite ?_ ?_
      | split
  exact hT.call k hl

theorem State.Touch.chainStop {l : List Part} {s0 s : State} (hT : State.Touch l s0 s)  (n : Nat)
    (hl : ∀ p ∈ ([.ana] : List Part), p ∈ l) : State.Touch l s0 (State.chainStop s n) := by
  have k : State.Touch [.ana] s (State.chainStop s n) := by
    unfold State.chainStop
    try dsimp only
    iterate 60 all_goals try first
      | with_reducible assumption
      | with_reducible exact State.Touch.refl _ _
      | with_reducible refine State.Touch.chainHalt ?_ _ (by decide)
      | with_reducible refine State.Touch.ite ?_ ?_
      | split
  exact hT.call k hl

theorem State.Touch.chainFire {l : List Part} {s0 s : State} (hT : State.Touch l s0 s)  (m : Nat)
    (hl : ∀ p ∈ ([] : List Part), p ∈ l) : State.Touch l s0 (State.chainFire s m) := by
  have k : State.Touch [] s (State.chainFire s m) := by
    unfold State.chainFire
    try dsimp only
    iterate 60 all_goals try first
      | with_reducible assumption
      | with_reducible exact State.Touch.refl _ _
      | with_reducible refine State.Touch.set ?_ _ _
      | with_reducible refine State.Touch.each ?_ _ _ (fun x u hu => ?_)
      | with_reducible refine State.Touch.ite ?_ ?_
      | split
  exact hT.call k hl

theorem State.Touch.chainDeliver {l : List Part} {s0 s : State} (hT : State.Touch l s0 s)  (n : Nat) (x : Rat)
    (hl : ∀ p ∈ ([.ana] : List Part), p ∈ l) : State.Touch l s0 (State.chainDeliver s n x) := by
  have k : State.Touch [.ana] s (State.chainDeliver s n x) := by
    unfold State.chainDeliver
    try dsimp only
    iterate 60 all_goals try first
      | with_reducible assumption
      | with_reducible exact State.Touch.refl _ _
      | with_reducible refine State.Touch.wr ?_ _ _
      | with_reducible refine State.Touch.set ?_ _ _
      | with_reducible refine State.Touch.count ?_ _
      | with_reducible refine State.Touch.modChain ?_ _ _ (by decide)
      | with_reducible refine State.Touch.ite ?_ ?_
      | split
  exact hT.call k hl

theorem State.Touch.chainOutput {l : List Part} {s0 s : State} (hT : State.Touch l s0 s)  (n : Nat) (cic : List Int)
    (hl : ∀ p ∈ ([.ana] : List Part), p ∈ l) : State.Touch l s0 (State.chainOutput s n cic) := by
  have k : State.Touch [.ana] s (State.chainOutput s n cic) := by
    unfold State.chainOutput
    try dsimp only
    iterate 60 all_goals try first
      | with_reducible assumption
      | with_reducible exact State.Touch.refl _ _
      | with_reducible refine State.Touch.setBit ?_ _ _
      | with_reducible refine State.Touch.chainDeliver ?_ _ _ (by decide)
      | with_reducible refine State.Touch.modChain ?_ _ _ (by decide)
      | with_reducible refine State.Touch.ite ?_ ?_
      | split
  exact hT.call k hl

theorem State.Touch.modStuck {l : List Part} {s0 s : State} (hT : State.Touch l s0 s)  (n : Nat)
    (hl : ∀ p ∈ ([.port] : List Part), p ∈ l) : State.Touch l s0 (State.modStuck s n) := by
  have k : State.Touch [.port] s (State.modStuck s n) := by
    unfold State.modStuck
    try dsimp only
    iterate 60 all_goals try first
      | with_reducible assumption
      | with_reducible exact State.Touch.refl _ _
      | with_reducible refine State.Touch.set ?_ _ _
      | with_reducible refine State.Touch.raise ?_ _ _ _
      | with_reducible refine State.Touch.ite ?_ ?_
      | split
  exact hT.call k hl

theorem State.Touch.chainDcbWrite {l : List Part} {s0 s : State} (hT : State.Touch l s0 s)  (n : Nat) (v : Word)
    (hl : ∀ p ∈ ([] : List Part), p ∈ l) : State.Touch l s0 (State.chainDcbWrite s n v) := by
  have k : State.Touch [] s (State.chainDcbWrite s n v) := by
    unfold State.chainDcbWrite
    try dsimp only
    iterate 60 all_goals try first
      | with_reducible assumption
      | with_reducible exact State.Touch.refl _ _
      | with_reducible refine State.Touch.set ?_ _ _
      | with_reducible refine State.Touch.chainRefuse ?_ _ _ _ (by decide)
      | with_reducible refine State.Touch.ite ?_ ?_
      | split
  exact hT.call k hl

theorem State.Touch.chainLatch {l : List Part} {s0 s : State} (hT : State.Touch l s0 s)  (n : Nat)
    (hl : ∀ p ∈ ([.mgt, .chans, .can, .eth, .ana, .freeCtr] : List Part), p ∈ l) : State.Touch l s0 (State.chainLatch s n) := by
  have k : State.Touch [.mgt, .chans, .can, .eth, .ana, .freeCtr] s (State.chainLatch s n) := by
    unfold State.chainLatch
    try dsimp only
    iterate 60 all_goals try first
      | with_reducible assumption
      | with_reducible exact State.Touch.refl _ _
      | with_reducible refine State.Touch.fresh ?_ (by decide)
      | with_reducible refine State.Touch.modChain ?_ _ _ (by decide)
      | with_reducible refine State.Touch.umberOut ?_ _ _ _ (by decide)
      | with_reducible refine State.Touch.ite ?_ ?_
      | split
  exact hT.call k hl

theorem State.Touch.chainReinit {l : List Part} {s0 s : State} (hT : State.Touch l s0 s)  (n : Nat)
    (hl : ∀ p ∈ ([.ana] : List Part), p ∈ l) : State.Touch l s0 (State.chainReinit s n) := by
  have k : State.Touch [.ana] s (State.chainReinit s n) := by
    unfold State.chainReinit
    try dsimp only
    iterate 60 all_goals try first
      | with_reducible assumption
      | with_reducible exact State.Touch.refl _ _
      | with_reducible refine State.Touch.wr ?_ _ _
      | with_reducible refine State.Touch.set ?_ _ _
      | with_reducible refine State.Touch.each ?_ _ _ (fun x u hu => ?_)
      | with_reducible refine State.Touch.chainHalt ?_ _ (by decide)
      | with_reducible refine State.Touch.chainStart ?_ _ (by decide)
      | with_reducible refine State.Touch.ite ?_ ?_
      | split
  exact hT.call k hl

theorem State.Touch.defaultTaps {l : List Part} {s0 s : State} (hT : State.Touch l s0 s)  (n : Nat)
    (hl : ∀ p ∈ ([] : List Part), p ∈ l) : State.Touch l s0 (State.defaultTaps s n) := by
  have k : State.Touch [] s (State.defaultTaps s n) := by
    unfold State.defaultTaps
    try dsimp only
    iterate 60 all_goals try first
      | with_reducible assumption
      | with_reducible exact State.Touch.refl _ _
      | with_reducible refine State.Touch.wr ?_ _ _
      | with_reducible refine State.Touch.each ?_ _ _ (fun x u hu => ?_)
      | with_reducible refine State.Touch.ite ?_ ?_
      | split
  exact hT.call k hl

theorem State.Touch.modPin {l : List Part} {s0 s : State} (hT : State.Touch l s0 s)  (i : Nat) (f : PinSt → PinSt)
    (hl : ∀ p ∈ ([.ana] : List Part), p ∈ l) : State.Touch l s0 (State.modPin s i f) := by
  have k : State.Touch [.ana] s (State.modPin s i f) := by
    unfold State.modPin
    try dsimp only
    iterate 60 all_goals try first
      | with_reducible assumption
      | with_reducible exact State.Touch.refl _ _
      | with_reducible refine State.Touch.ite ?_ ?_
      | split
      | with_reducible refine State.Touch.upd_ana ?_ _ (by decide)
  exact hT.call k hl

theorem State.Touch.pinCount {l : List Part} {s0 s : State} (hT : State.Touch l s0 s)  (i : Nat) (d : Int)
    (hl : ∀ p ∈ ([.ana] : List Part), p ∈ l) : State.Touch l s0 (State.pinCount s i d) := by
  have k : State.Touch [.ana] s (State.pinCount s i d) := by
    unfold State.pinCount
    try dsimp only
    iterate 60 all_goals try first
      | with_reducible assumption
      | with_reducible exact State.Touch.refl _ _
      | with_reducible refine State.Touch.wr ?_ _ _
      | with_reducible refine State.Touch.modPin ?_ _ _ (by decide)
      | with_reducible refine State.Touch.ite ?_ ?_
      | split
  exact hT.call k hl

theorem State.Touch.pinEdge {l : List Part} {s0 s : State} (hT : State.Touch l s0 s)  (i : Nat) (a b : Bool)
    (hl : ∀ p ∈ ([.ana] : List Part), p ∈ l) : State.Touch l s0 (State.pinEdge s i a b) := by
  have k : State.Touch [.ana] s (State.pinEdge s i a b) := by
    unfold State.pinEdge
    try dsimp only
    iterate 60 all_goals try first
      | with_reducible assumption
      | with_reducible exact State.Touch.refl _ _
      | with_reducible refine State.Touch.set ?_ _ _
      | with_reducible refine State.Touch.count ?_ _
      | with_reducible refine State.Touch.modPin ?_ _ _ (by decide)
      | with_reducible refine State.Touch.pinCount ?_ _ _ (by decide)
      | with_reducible refine State.Touch.ite ?_ ?_
      | split
  exact hT.call k hl

theorem State.Touch.pinGateEnd {l : List Part} {s0 s : State} (hT : State.Touch l s0 s)  (i : Nat)
    (hl : ∀ p ∈ ([.ana] : List Part), p ∈ l) : State.Touch l s0 (State.pinGateEnd s i) := by
  have k : State.Touch [.ana] s (State.pinGateEnd s i) := by
    unfold State.pinGateEnd
    try dsimp only
    iterate 60 all_goals try first
      | with_reducible assumption
      | with_reducible exact State.Touch.refl _ _
      | with_reducible refine State.Touch.wr ?_ _ _
      | with_reducible refine State.Touch.set ?_ _ _
      | with_reducible refine State.Touch.modPin ?_ _ _ (by decide)
      | with_reducible refine State.Touch.ite ?_ ?_
      | split
  exact hT.call k hl

theorem State.Touch.pinZero {l : List Part} {s0 s : State} (hT : State.Touch l s0 s)  (i : Nat)
    (hl : ∀ p ∈ ([] : List Part), p ∈ l) : State.Touch l s0 (State.pinZero s i) := by
  have k : State.Touch [] s (State.pinZero s i) := by
    unfold State.pinZero
    try dsimp only
    iterate 60 all_goals try first
      | with_reducible assumption
      | with_reducible exact State.Touch.refl _ _
      | with_reducible refine State.Touch.wr ?_ _ _
      | with_reducible refine State.Touch.set ?_ _ _
      | with_reducible refine State.Touch.ite ?_ ?_
      | split
  exact hT.call k hl

theorem State.Touch.pinStart {l : List Part} {s0 s : State} (hT : State.Touch l s0 s)  (i : Nat)
    (hl : ∀ p ∈ ([.ana] : List Part), p ∈ l) : State.Touch l s0 (State.pinStart s i) := by
  have k : State.Touch [.ana] s (State.pinStart s i) := by
    unfold State.pinStart
    try dsimp only
    iterate 60 all_goals try first
      | with_reducible assumption
      | with_reducible exact State.Touch.refl _ _
      | with_reducible refine State.Touch.wr ?_ _ _
      | with_reducible refine State.Touch.set ?_ _ _
      | with_reducible refine State.Touch.modPin ?_ _ _ (by decide)
      | with_reducible refine State.Touch.ite ?_ ?_
      | split
  exact hT.call k hl

theorem State.Touch.pinStop {l : List Part} {s0 s : State} (hT : State.Touch l s0 s)  (i : Nat)
    (hl : ∀ p ∈ ([] : List Part), p ∈ l) : State.Touch l s0 (State.pinStop s i) := by
  have k : State.Touch [] s (State.pinStop s i) := by
    unfold State.pinStop
    try dsimp only
    iterate 60 all_goals try first
      | with_reducible assumption
      | with_reducible exact State.Touch.refl _ _
      | with_reducible refine State.Touch.set ?_ _ _
      | with_reducible refine State.Touch.ite ?_ ?_
      | split
  exact hT.call k hl

theorem State.Touch.pinLoad {l : List Part} {s0 s : State} (hT : State.Touch l s0 s)  (i : Nat)
    (hl : ∀ p ∈ ([.ana] : List Part), p ∈ l) : State.Touch l s0 (State.pinLoad s i) := by
  have k : State.Touch [.ana] s (State.pinLoad s i) := by
    unfold State.pinLoad
    try dsimp only
    iterate 60 all_goals try first
      | with_reducible assumption
      | with_reducible exact State.Touch.refl _ _
      | with_reducible refine State.Touch.wr ?_ _ _
      | with_reducible refine State.Touch.modPin ?_ _ _ (by decide)
      | with_reducible refine State.Touch.ite ?_ ?_
      | split
  exact hT.call k hl

theorem State.Touch.pinLatch {l : List Part} {s0 s : State} (hT : State.Touch l s0 s)  (i : Nat)
    (hl : ∀ p ∈ ([.mgt, .chans, .can, .eth, .ana] : List Part), p ∈ l) : State.Touch l s0 (State.pinLatch s i) := by
  have k : State.Touch [.mgt, .chans, .can, .eth, .ana] s (State.pinLatch s i) := by
    unfold State.pinLatch
    try dsimp only
    iterate 60 all_goals try first
      | with_reducible assumption
      | with_reducible exact State.Touch.refl _ _
      | with_reducible refine State.Touch.modPin ?_ _ _ (by decide)
      | with_reducible refine State.Touch.umberOut ?_ _ _ _ (by decide)
      | with_reducible refine State.Touch.ite ?_ ?_
      | split
  exact hT.call k hl

theorem State.Touch.pinReinit {l : List Part} {s0 s : State} (hT : State.Touch l s0 s)  (i : Nat)
    (hl : ∀ p ∈ ([.ana] : List Part), p ∈ l) : State.Touch l s0 (State.pinReinit s i) := by
  have k : State.Touch [.ana] s (State.pinReinit s i) := by
    unfold State.pinReinit
    try dsimp only
    iterate 60 all_goals try first
      | with_reducible assumption
      | with_reducible exact State.Touch.refl _ _
      | with_reducible refine State.Touch.wr ?_ _ _
      | with_reducible refine State.Touch.set ?_ _ _
      | with_reducible refine State.Touch.each ?_ _ _ (fun x u hu => ?_)
      | with_reducible refine State.Touch.pinStart ?_ _ (by decide)
      | with_reducible refine State.Touch.pinStop ?_ _ (by decide)
      | with_reducible refine State.Touch.ite ?_ ?_
      | split
  exact hT.call k hl

theorem State.Touch.feedSample {l : List Part} {s0 s : State} (hT : State.Touch l s0 s) (f : AnaFeed) 
    (hl : ∀ p ∈ ([.fus, .ctl] : List Part), p ∈ l) : State.Touch l s0 (State.feedSample f s) := by
  have k : State.Touch [.fus, .ctl] s (State.feedSample f s) := by
    unfold State.feedSample
    try dsimp only
    iterate 60 all_goals try first
      | with_reducible assumption
      | with_reducible exact State.Touch.refl _ _
      | with_reducible refine State.Touch.consume ?_ _ _ _ _ _ _ (by decide)
      | with_reducible refine State.Touch.ite ?_ ?_
      | split
  exact hT.call k hl

theorem State.Touch.anaLatch {l : List Part} {s0 s : State} (hT : State.Touch l s0 s) 
    (hl : ∀ p ∈ ([.mgt, .chans, .fus, .ctl, .can, .eth, .ana, .freeCtr] : List Part), p ∈ l) : State.Touch l s0 (State.anaLatch s) := by
  have k : State.Touch [.mgt, .chans, .fus, .ctl, .can, .eth, .ana, .freeCtr] s (State.anaLatch s) := by
    unfold State.anaLatch
    try dsimp only
    iterate 60 all_goals try first
      | with_reducible assumption
      | with_reducible exact State.Touch.refl _ _
      | with_reducible refine State.Touch.each ?_ _ _ (fun x u hu => ?_)
      | with_reducible refine State.Touch.chainLatch ?_ _ (by decide)
      | with_reducible refine State.Touch.feedSample ?_ _ (by decide)
      | with_reducible refine State.Touch.pinLatch ?_ _ (by decide)
      | with_reducible refine State.Touch.ite ?_ ?_
      | split
  exact hT.call k hl

theorem State.Touch.setSwo {l : List Part} {s0 s : State} (hT : State.Touch l s0 s)  (b : Nat) (on : Bool)
    (hl : ∀ p ∈ ([] : List Part), p ∈ l) : State.Touch l s0 (State.setSwo s b on) := by
  have k : State.Touch [] s (State.setSwo s b on) := by
    unfold State.setSwo
    try dsimp only
    iterate 60 all_goals try first
      | with_reducible assumption
      | with_reducible exact State.Touch.refl _ _
      | with_reducible refine State.Touch.setBit ?_ _ _
      | with_reducible refine State.Touch.ite ?_ ?_
      | split
  exact hT.call k hl

theorem State.Touch.swoBit {l : List Part} {s0 s : State} (hT : State.Touch l s0 s)  (addr b : Nat) (on : Bool)
    (hl : ∀ p ∈ ([.ana] : List Part), p ∈ l) : State.Touch l s0 (State.swoBit s addr b on) := by
  have k : State.Touch [.ana] s (State.swoBit s addr b on) := by
    unfold State.swoBit
    try dsimp only
    iterate 60 all_goals try first
      | with_reducible assumption
      | with_reducible exact State.Touch.refl _ _
      | with_reducible refine State.Touch.set ?_ _ _
      | with_reducible refine State.Touch.refuse ?_ _ _ _ (by decide)
      | with_reducible refine State.Touch.setSwo ?_ _ _ (by decide)
      | with_reducible refine State.Touch.ite ?_ ?_
      | split
      | with_reducible refine State.Touch.upd_ana ?_ _ (by decide)
  exact hT.call k hl

theorem State.Touch.swoWrite {l : List Part} {s0 s : State} (hT : State.Touch l s0 s)  (w addr : Nat) (v : Word) (on : Bool)
    (hl : ∀ p ∈ ([.ana] : List Part), p ∈ l) : State.Touch l s0 (State.swoWrite s w addr v on) := by
  have k : State.Touch [.ana] s (State.swoWrite s w addr v on) := by
    unfold State.swoWrite
    try dsimp only
    iterate 60 all_goals try first
      | with_reducible assumption
      | with_reducible exact State.Touch.refl _ _
      | with_reducible refine State.Touch.each ?_ _ _ (fun x u hu => ?_)
      | with_reducible refine State.Touch.swoBit ?_ _ _ _ (by decide)
      | with_reducible refine State.Touch.ite ?_ ?_
      | split
  exact hT.call k hl

theorem State.Touch.roleOutputs {l : List Part} {s0 s : State} (hT : State.Touch l s0 s)  (on : Bool)
    (hl : ∀ p ∈ ([] : List Part), p ∈ l) : State.Touch l s0 (State.roleOutputs s on) := by
  have k : State.Touch [] s (State.roleOutputs s on) := by
    unfold State.roleOutputs
    try dsimp only
    iterate 60 all_goals try first
      | with_reducible assumption
      | with_reducible exact State.Touch.refl _ _
      | with_reducible refine State.Touch.each ?_ _ _ (fun x u hu => ?_)
      | with_reducible refine State.Touch.setSwo ?_ _ _ (by decide)
      | with_reducible refine State.Touch.ite ?_ ?_
      | split
  exact hT.call k hl

theorem State.Touch.dinSet {l : List Part} {s0 s : State} (hT : State.Touch l s0 s)  (i : Nat) (level : Bool)
    (hl : ∀ p ∈ ([.port] : List Part), p ∈ l) : State.Touch l s0 (State.dinSet s i level) := by
  have k : State.Touch [.port] s (State.dinSet s i level) := by
    unfold State.dinSet
    try dsimp only
    iterate 60 all_goals try first
      | with_reducible assumption
      | with_reducible exact State.Touch.refl _ _
      | with_reducible refine State.Touch.setBit ?_ _ _
      | with_reducible refine State.Touch.raise ?_ _ _ _
      | with_reducible refine State.Touch.ite ?_ ?_
      | split
  exact hT.call k hl

theorem State.Touch.aoutRefuse {l : List Part} {s0 s : State} (hT : State.Touch l s0 s)  (n code addr : Nat)
    (hl : ∀ p ∈ ([] : List Part), p ∈ l) : State.Touch l s0 (State.aoutRefuse s n code addr) := by
  have k : State.Touch [] s (State.aoutRefuse s n code addr) := by
    unfold State.aoutRefuse
    try dsimp only
    iterate 60 all_goals try first
      | with_reducible assumption
      | with_reducible exact State.Touch.refl _ _
      | with_reducible refine State.Touch.set ?_ _ _
      | with_reducible refine State.Touch.refuse ?_ _ _ _ (by decide)
      | with_reducible refine State.Touch.ite ?_ ?_
      | split
  exact hT.call k hl

theorem State.Touch.aoutDataWrite {l : List Part} {s0 s : State} (hT : State.Touch l s0 s)  (n : Nat) (v : Word)
    (hl : ∀ p ∈ ([] : List Part), p ∈ l) : State.Touch l s0 (State.aoutDataWrite s n v) := by
  have k : State.Touch [] s (State.aoutDataWrite s n v) := by
    unfold State.aoutDataWrite
    try dsimp only
    iterate 60 all_goals try first
      | with_reducible assumption
      | with_reducible exact State.Touch.refl _ _
      | with_reducible refine State.Touch.set ?_ _ _
      | with_reducible refine State.Touch.aoutRefuse ?_ _ _ _ (by decide)
      | with_reducible refine State.Touch.aoutUpdate ?_ _ (by decide)
      | with_reducible refine State.Touch.ite ?_ ?_
      | split
  exact hT.call k hl

theorem State.Touch.aoutEmit {l : List Part} {s0 s : State} (hT : State.Touch l s0 s) 
    (hl : ∀ p ∈ ([] : List Part), p ∈ l) : State.Touch l s0 (State.aoutEmit s) := by
  have k : State.Touch [] s (State.aoutEmit s) := by
    unfold State.aoutEmit
    try dsimp only
    iterate 60 all_goals try first
      | with_reducible assumption
      | with_reducible exact State.Touch.refl _ _
      | with_reducible refine State.Touch.each ?_ _ _ (fun x u hu => ?_)
      | with_reducible refine State.Touch.aoutUpdate ?_ _ (by decide)
      | with_reducible refine State.Touch.ite ?_ ?_
      | split
  exact hT.call k hl

theorem State.Touch.aoutFire {l : List Part} {s0 s : State} (hT : State.Touch l s0 s)  (m : Nat)
    (hl : ∀ p ∈ ([] : List Part), p ∈ l) : State.Touch l s0 (State.aoutFire s m) := by
  have k : State.Touch [] s (State.aoutFire s m) := by
    unfold State.aoutFire
    try dsimp only
    iterate 60 all_goals try first
      | with_reducible assumption
      | with_reducible exact State.Touch.refl _ _
      | with_reducible refine State.Touch.each ?_ _ _ (fun x u hu => ?_)
      | with_reducible refine State.Touch.aoutUpdate ?_ _ (by decide)
      | with_reducible refine State.Touch.ite ?_ ?_
      | split
  exact hT.call k hl

theorem State.Touch.anaFrame {l : List Part} {s0 s : State} (hT : State.Touch l s0 s) 
    (hl : ∀ p ∈ ([] : List Part), p ∈ l) : State.Touch l s0 (State.anaFrame s) := by
  have k : State.Touch [] s (State.anaFrame s) := by
    unfold State.anaFrame
    try dsimp only
    iterate 60 all_goals try first
      | with_reducible assumption
      | with_reducible exact State.Touch.refl _ _
      | with_reducible refine State.Touch.aoutFire ?_ _ (by decide)
      | with_reducible refine State.Touch.chainFire ?_ _ (by decide)
      | with_reducible refine State.Touch.ite ?_ ?_
      | split
  exact hT.call k hl

theorem State.Touch.anaCntClr {l : List Part} {s0 s : State} (hT : State.Touch l s0 s) 
    (hl : ∀ p ∈ ([] : List Part), p ∈ l) : State.Touch l s0 (State.anaCntClr s) := by
  have k : State.Touch [] s (State.anaCntClr s) := by
    unfold State.anaCntClr
    try dsimp only
    iterate 60 all_goals try first
      | with_reducible assumption
      | with_reducible exact State.Touch.refl _ _
      | with_reducible refine State.Touch.set ?_ _ _
      | with_reducible refine State.Touch.each ?_ _ _ (fun x u hu => ?_)
      | with_reducible refine State.Touch.ite ?_ ?_
      | split
  exact hT.call k hl

end Sys2Proof.Machine
end

