-- ==== Sys2Proof/Laws/Touch/Servo.lean ====
section
/-!
SUPPORT. Sys2Proof/Laws/Touch/Servo.lean: which parts of the state each operation of Machine/Servo.lean may change.
-/
set_option linter.all false
set_option maxRecDepth 4000
namespace Sys2Proof.Machine

theorem State.Touch.modLoop {l : List Part} {s0 s : State} (hT : State.Touch l s0 s)  (n : Nat) (f : LoopSt → LoopSt)
    (hl : ∀ p ∈ ([.srv] : List Part), p ∈ l) : State.Touch l s0 (State.modLoop s n f) := by
  have k : State.Touch [.srv] s (State.modLoop s n f) := by
    unfold State.modLoop
    try dsimp only
    iterate 60 all_goals try first
      | with_reducible assumption
      | with_reducible exact State.Touch.refl _ _
      | with_reducible refine State.Touch.ite ?_ ?_
      | split
      | with_reducible refine State.Touch.upd_srv ?_ _ (by decide)
  exact hT.call k hl

theorem State.Touch.ownSync {l : List Part} {s0 s : State} (hT : State.Touch l s0 s) 
    (hl : ∀ p ∈ ([] : List Part), p ∈ l) : State.Touch l s0 (State.ownSync s) := by
  have k : State.Touch [] s (State.ownSync s) := by
    unfold State.ownSync
    try dsimp only
    iterate 60 all_goals try first
      | with_reducible assumption
      | with_reducible exact State.Touch.refl _ _
      | with_reducible refine State.Touch.wr ?_ _ _
      | with_reducible refine State.Touch.each ?_ _ _ (fun x u hu => ?_)
      | with_reducible refine State.Touch.foldl ?_ _ _ (fun x u hu => ?_)
      | with_reducible refine State.Touch.setSwo ?_ _ _ (by decide)
      | with_reducible refine State.Touch.ite ?_ ?_
      | split
  exact hT.call k hl

theorem State.Touch.loopOut {l : List Part} {s0 s : State} (hT : State.Touch l s0 s)  (n o : Nat)
    (hl : ∀ p ∈ ([] : List Part), p ∈ l) : State.Touch l s0 (State.loopOut s n o) := by
  have k : State.Touch [] s (State.loopOut s n o) := by
    unfold State.loopOut
    try dsimp only
    iterate 60 all_goals try first
      | with_reducible assumption
      | with_reducible exact State.Touch.refl _ _
      | with_reducible refine State.Touch.set ?_ _ _
      | with_reducible refine State.Touch.setSwo ?_ _ _ (by decide)
      | with_reducible refine State.Touch.ite ?_ ?_
      | split
  exact hT.call k hl

theorem State.Touch.loopOff {l : List Part} {s0 s : State} (hT : State.Touch l s0 s)  (n : Nat)
    (hl : ∀ p ∈ ([.srv] : List Part), p ∈ l) : State.Touch l s0 (State.loopOff s n) := by
  have k : State.Touch [.srv] s (State.loopOff s n) := by
    unfold State.loopOff
    try dsimp only
    iterate 60 all_goals try first
      | with_reducible assumption
      | with_reducible exact State.Touch.refl _ _
      | with_reducible refine State.Touch.loopOut ?_ _ _ (by decide)
      | with_reducible refine State.Touch.modLoop ?_ _ _ (by decide)
      | with_reducible refine State.Touch.ite ?_ ?_
      | split
  exact hT.call k hl

theorem State.Touch.loopServes {l : List Part} {s0 s : State} (hT : State.Touch l s0 s)  (n : Nat)
    (hl : ∀ p ∈ ([.chans, .alc] : List Part), p ∈ l) : State.Touch l s0 (State.loopServes s n) := by
  have k : State.Touch [.chans, .alc] s (State.loopServes s n) := by
    unfold State.loopServes
    try dsimp only
    iterate 60 all_goals try first
      | with_reducible assumption
      | with_reducible exact State.Touch.refl _ _
      | with_reducible refine State.Touch.each ?_ _ _ (fun x u hu => ?_)
      | with_reducible refine State.Touch.thrClear ?_ _ _ (by decide)
      | with_reducible refine State.Touch.thrRemove ?_ _ _ _ (by decide)
      | with_reducible refine State.Touch.ite ?_ ?_
      | split
  exact hT.call k hl

theorem State.Touch.loopTo {l : List Part} {s0 s : State} (hT : State.Touch l s0 s)  (n st : Nat)
    (hl : ∀ p ∈ ([.chans, .alc] : List Part), p ∈ l) : State.Touch l s0 (State.loopTo s n st) := by
  have k : State.Touch [.chans, .alc] s (State.loopTo s n st) := by
    unfold State.loopTo
    try dsimp only
    iterate 60 all_goals try first
      | with_reducible assumption
      | with_reducible exact State.Touch.refl _ _
      | with_reducible refine State.Touch.set ?_ _ _
      | with_reducible refine State.Touch.setBit ?_ _ _
      | with_reducible refine State.Touch.loopServes ?_ _ (by decide)
      | with_reducible refine State.Touch.ite ?_ ?_
      | split
  exact hT.call k hl

theorem State.Touch.loopFault {l : List Part} {s0 s : State} (hT : State.Touch l s0 s)  (n cause : Nat)
    (hl : ∀ p ∈ ([.chans, .alc, .srv, .port] : List Part), p ∈ l) : State.Touch l s0 (State.loopFault s n cause) := by
  have k : State.Touch [.chans, .alc, .srv, .port] s (State.loopFault s n cause) := by
    unfold State.loopFault
    try dsimp only
    iterate 60 all_goals try first
      | with_reducible assumption
      | with_reducible exact State.Touch.refl _ _
      | with_reducible refine State.Touch.set ?_ _ _
      | with_reducible refine State.Touch.count ?_ _
      | with_reducible refine State.Touch.raise ?_ _ _ _
      | with_reducible refine State.Touch.loopOff ?_ _ (by decide)
      | with_reducible refine State.Touch.loopTo ?_ _ _ (by decide)
      | with_reducible refine State.Touch.modLoop ?_ _ _ (by decide)
      | with_reducible refine State.Touch.ite ?_ ?_
      | split
  exact hT.call k hl

theorem State.Touch.closePend {l : List Part} {s0 s : State} (hT : State.Touch l s0 s)  (n : Nat)
    (hl : ∀ p ∈ ([.srv] : List Part), p ∈ l) : State.Touch l s0 (State.closePend s n) := by
  have k : State.Touch [.srv] s (State.closePend s n) := by
    unfold State.closePend
    try dsimp only
    iterate 60 all_goals try first
      | with_reducible assumption
      | with_reducible exact State.Touch.refl _ _
      | with_reducible refine State.Touch.setBit ?_ _ _
      | with_reducible refine State.Touch.cmdClose ?_ _ (by decide)
      | with_reducible refine State.Touch.ite ?_ ?_
      | split
  exact hT.call k hl

theorem State.Touch.loopOpen {l : List Part} {s0 s : State} (hT : State.Touch l s0 s)  (n cause : Nat)
    (hl : ∀ p ∈ ([.chans, .alc, .srv] : List Part), p ∈ l) : State.Touch l s0 (State.loopOpen s n cause) := by
  have k : State.Touch [.chans, .alc, .srv] s (State.loopOpen s n cause) := by
    unfold State.loopOpen
    try dsimp only
    iterate 60 all_goals try first
      | with_reducible assumption
      | with_reducible exact State.Touch.refl _ _
      | with_reducible refine State.Touch.set ?_ _ _
      | with_reducible refine State.Touch.closePend ?_ _ (by decide)
      | with_reducible refine State.Touch.loopOff ?_ _ (by decide)
      | with_reducible refine State.Touch.loopTo ?_ _ _ (by decide)
      | with_reducible refine State.Touch.modLoop ?_ _ _ (by decide)
      | with_reducible refine State.Touch.ite ?_ ?_
      | split
  exact hT.call k hl

theorem State.Touch.loopRefuse {l : List Part} {s0 s : State} (hT : State.Touch l s0 s)  (n code addr : Nat)
    (hl : ∀ p ∈ ([] : List Part), p ∈ l) : State.Touch l s0 (State.loopRefuse s n code addr) := by
  have k : State.Touch [] s (State.loopRefuse s n code addr) := by
    unfold State.loopRefuse
    try dsimp only
    iterate 60 all_goals try first
      | with_reducible assumption
      | with_reducible exact State.Touch.refl _ _
      | with_reducible refine State.Touch.set ?_ _ _
      | with_reducible refine State.Touch.count ?_ _
      | with_reducible refine State.Touch.refuse ?_ _ _ _ (by decide)
      | with_reducible refine State.Touch.ite ?_ ?_
      | split
  exact hT.call k hl

theorem State.Touch.servoStop {l : List Part} {s0 s : State} (hT : State.Touch l s0 s)  (p : Nat)
    (hl : ∀ p ∈ ([.chans, .alc, .srv, .port] : List Part), p ∈ l) : State.Touch l s0 (State.servoStop s p) := by
  have k : State.Touch [.chans, .alc, .srv, .port] s (State.servoStop s p) := by
    unfold State.servoStop
    try dsimp only
    iterate 60 all_goals try first
      | with_reducible assumption
      | with_reducible exact State.Touch.refl _ _
      | with_reducible refine State.Touch.each ?_ _ _ (fun x u hu => ?_)
      | with_reducible refine State.Touch.closePend ?_ _ (by decide)
      | with_reducible refine State.Touch.cmdClose ?_ _ (by decide)
      | with_reducible refine State.Touch.loopFault ?_ _ _ (by decide)
      | with_reducible refine State.Touch.loopOff ?_ _ (by decide)
      | with_reducible refine State.Touch.ite ?_ ?_
      | split
  exact hT.call k hl

theorem State.Touch.latchOfb {l : List Part} {s0 s : State} (hT : State.Touch l s0 s)  (n : Nat)
    (hl : ∀ p ∈ ([] : List Part), p ∈ l) : State.Touch l s0 (State.latchOfb s n) := by
  have k : State.Touch [] s (State.latchOfb s n) := by
    unfold State.latchOfb
    try dsimp only
    iterate 60 all_goals try first
      | with_reducible assumption
      | with_reducible exact State.Touch.refl _ _
      | with_reducible refine State.Touch.wr ?_ _ _
      | with_reducible refine State.Touch.ite ?_ ?_
      | split
  exact hT.call k hl

theorem State.Touch.latchFb {l : List Part} {s0 s : State} (hT : State.Touch l s0 s)  (n : Nat) (outer : Bool)
    (hl : ∀ p ∈ ([.srv] : List Part), p ∈ l) : State.Touch l s0 (State.latchFb s n outer) := by
  have k : State.Touch [.srv] s (State.latchFb s n outer) := by
    unfold State.latchFb
    try dsimp only
    iterate 60 all_goals try first
      | with_reducible assumption
      | with_reducible exact State.Touch.refl _ _
      | with_reducible refine State.Touch.wr ?_ _ _
      | with_reducible refine State.Touch.latchOfb ?_ _ (by decide)
      | with_reducible refine State.Touch.modLoop ?_ _ _ (by decide)
      | with_reducible refine State.Touch.ite ?_ ?_
      | split
  exact hT.call k hl

theorem State.Touch.loopClose {l : List Part} {s0 s : State} (hT : State.Touch l s0 s)  (n : Nat)
    (hl : ∀ p ∈ ([.chans, .alc, .srv] : List Part), p ∈ l) : State.Touch l s0 (State.loopClose s n) := by
  have k : State.Touch [.chans, .alc, .srv] s (State.loopClose s n) := by
    unfold State.loopClose
    try dsimp only
    iterate 60 all_goals try first
      | with_reducible assumption
      | with_reducible exact State.Touch.refl _ _
      | with_reducible refine State.Touch.wr ?_ _ _
      | with_reducible refine State.Touch.set ?_ _ _
      | with_reducible refine State.Touch.closePend ?_ _ (by decide)
      | with_reducible refine State.Touch.latchOfb ?_ _ (by decide)
      | with_reducible refine State.Touch.loopTo ?_ _ _ (by decide)
      | with_reducible refine State.Touch.modLoop ?_ _ _ (by decide)
      | with_reducible refine State.Touch.ite ?_ ?_
      | split
  exact hT.call k hl

theorem State.Touch.closeFails {l : List Part} {s0 s : State} (hT : State.Touch l s0 s)  (n code : Nat)
    (hl : ∀ p ∈ ([.srv] : List Part), p ∈ l) : State.Touch l s0 (State.closeFails s n code) := by
  have k : State.Touch [.srv] s (State.closeFails s n code) := by
    unfold State.closeFails
    try dsimp only
    iterate 60 all_goals try first
      | with_reducible assumption
      | with_reducible exact State.Touch.refl _ _
      | with_reducible refine State.Touch.set ?_ _ _
      | with_reducible refine State.Touch.closePend ?_ _ (by decide)
      | with_reducible refine State.Touch.cmdClose ?_ _ (by decide)
      | with_reducible refine State.Touch.loopRefuse ?_ _ _ _ (by decide)
      | with_reducible refine State.Touch.modLoop ?_ _ _ (by decide)
      | with_reducible refine State.Touch.ite ?_ ?_
      | split
  exact hT.call k hl

theorem State.Touch.overlayWrite {l : List Part} {s0 s : State} (hT : State.Touch l s0 s)  (n : Nat) (ws : List (Nat × Word))
    (hl : ∀ p ∈ ([.srv] : List Part), p ∈ l) : State.Touch l s0 (State.overlayWrite s n ws) := by
  have k : State.Touch [.srv] s (State.overlayWrite s n ws) := by
    unfold State.overlayWrite
    try dsimp only
    iterate 60 all_goals try first
      | with_reducible assumption
      | with_reducible exact State.Touch.refl _ _
      | with_reducible refine State.Touch.wr ?_ _ _
      | with_reducible refine State.Touch.each ?_ _ _ (fun x u hu => ?_)
      | with_reducible refine State.Touch.modLoop ?_ _ _ (by decide)
      | with_reducible refine State.Touch.ownSync ?_ (by decide)
      | with_reducible refine State.Touch.ite ?_ ?_
      | split
  exact hT.call k hl

theorem State.Touch.overlayStep {l : List Part} {s0 s : State} (hT : State.Touch l s0 s)  (n : Nat)
    (hl : ∀ p ∈ ([.chans, .alc, .srv, .port] : List Part), p ∈ l) : State.Touch l s0 (State.overlayStep s n) := by
  have k : State.Touch [.chans, .alc, .srv, .port] s (State.overlayStep s n) := by
    unfold State.overlayStep
    try dsimp only
    iterate 60 all_goals try first
      | with_reducible assumption
      | with_reducible exact State.Touch.refl _ _
      | with_reducible refine State.Touch.set ?_ _ _
      | with_reducible refine State.Touch.raise ?_ _ _ _
      | with_reducible refine State.Touch.loopOff ?_ _ (by decide)
      | with_reducible refine State.Touch.loopOpen ?_ _ _ (by decide)
      | with_reducible refine State.Touch.loopTo ?_ _ _ (by decide)
      | with_reducible refine State.Touch.overlayWrite ?_ _ _ (by decide)
      | with_reducible refine State.Touch.ite ?_ ?_
      | split
  exact hT.call k hl

theorem State.Touch.openStep {l : List Part} {s0 s : State} (hT : State.Touch l s0 s)  (n : Nat)
    (hl : ∀ p ∈ ([.chans, .alc, .srv] : List Part), p ∈ l) : State.Touch l s0 (State.openStep s n) := by
  have k : State.Touch [.chans, .alc, .srv] s (State.openStep s n) := by
    unfold State.openStep
    try dsimp only
    iterate 60 all_goals try first
      | with_reducible assumption
      | with_reducible exact State.Touch.refl _ _
      | with_reducible refine State.Touch.closePend ?_ _ (by decide)
      | with_reducible refine State.Touch.loopOpen ?_ _ _ (by decide)
      | with_reducible refine State.Touch.modLoop ?_ _ _ (by decide)
      | with_reducible refine State.Touch.ite ?_ ?_
      | split
  exact hT.call k hl

theorem State.Touch.closeStep {l : List Part} {s0 s : State} (hT : State.Touch l s0 s)  (n : Nat)
    (hl : ∀ p ∈ ([.chans, .alc, .srv] : List Part), p ∈ l) : State.Touch l s0 (State.closeStep s n).1 := by
  have k : State.Touch [.chans, .alc, .srv] s (State.closeStep s n).1 := by
    unfold State.closeStep
    try dsimp only
    iterate 60 all_goals try first
      | with_reducible assumption
      | with_reducible exact State.Touch.refl _ _
      | with_reducible refine State.Touch.closeFails ?_ _ _ (by decide)
      | with_reducible refine State.Touch.cmdClose ?_ _ (by decide)
      | with_reducible refine State.Touch.loopClose ?_ _ (by decide)
      | with_reducible refine State.Touch.ite ?_ ?_
      | split
  exact hT.call k hl

theorem State.Touch.loopEvents {l : List Part} {s0 s : State} (hT : State.Touch l s0 s)  (n : Nat) (outer : Bool)
    (hl : ∀ p ∈ ([.chans, .alc, .srv, .port] : List Part), p ∈ l) : State.Touch l s0 (State.loopEvents s n outer).1 := by
  have k : State.Touch [.chans, .alc, .srv, .port] s (State.loopEvents s n outer).1 := by
    unfold State.loopEvents
    try dsimp only
    iterate 60 all_goals try first
      | with_reducible assumption
      | with_reducible exact State.Touch.refl _ _
      | with_reducible refine State.Touch.closeStep ?_ _ (by decide)
      | with_reducible refine State.Touch.loopFault ?_ _ _ (by decide)
      | with_reducible refine State.Touch.modLoop ?_ _ _ (by decide)
      | with_reducible refine State.Touch.openStep ?_ _ (by decide)
      | with_reducible refine State.Touch.overlayStep ?_ _ (by decide)
      | refine State.Touch.fst (by with_reducible assumption) ?_ (State.Touch.closeStep (State.Touch.refl _ _) _ (fun _ h => h)) (by decide)
      | with_reducible refine State.Touch.ite ?_ ?_
      | split
  exact hT.call k hl

theorem State.Touch.setpointStep {l : List Part} {s0 s : State} (hT : State.Touch l s0 s)  (n : Nat)
    (hl : ∀ p ∈ ([] : List Part), p ∈ l) : State.Touch l s0 (State.setpointStep s n).1 := by
  have k : State.Touch [] s (State.setpointStep s n).1 := by
    unfold State.setpointStep
    try dsimp only
    iterate 60 all_goals try first
      | with_reducible assumption
      | with_reducible exact State.Touch.refl _ _
      | with_reducible refine State.Touch.wr ?_ _ _
      | with_reducible refine State.Touch.set ?_ _ _
      | with_reducible refine State.Touch.setBit ?_ _ _
      | with_reducible refine State.Touch.ite ?_ ?_
      | split
  exact hT.call k hl

theorem State.Touch.outerStep {l : List Part} {s0 s : State} (hT : State.Touch l s0 s)  (n : Nat)
    (hl : ∀ p ∈ ([.srv] : List Part), p ∈ l) : State.Touch l s0 (State.outerStep s n) := by
  have k : State.Touch [.srv] s (State.outerStep s n) := by
    unfold State.outerStep
    try dsimp only
    iterate 60 all_goals try first
      | with_reducible assumption
      | with_reducible exact State.Touch.refl _ _
      | with_reducible refine State.Touch.set ?_ _ _
      | with_reducible refine State.Touch.modLoop ?_ _ _ (by decide)
      | with_reducible refine State.Touch.ite ?_ ?_
      | split
  exact hT.call k hl

theorem State.Touch.rampStep {l : List Part} {s0 s : State} (hT : State.Touch l s0 s)  (n : Nat)
    (hl : ∀ p ∈ ([] : List Part), p ∈ l) : State.Touch l s0 (State.rampStep s n).1 := by
  have k : State.Touch [] s (State.rampStep s n).1 := by
    unfold State.rampStep
    try dsimp only
    iterate 60 all_goals try first
      | with_reducible assumption
      | with_reducible exact State.Touch.refl _ _
      | with_reducible refine State.Touch.wr ?_ _ _
      | with_reducible refine State.Touch.ite ?_ ?_
      | split
  exact hT.call k hl

theorem State.Touch.loopSetpoint {l : List Part} {s0 s : State} (hT : State.Touch l s0 s)  (n : Nat) (outer : Bool)
    (hl : ∀ p ∈ ([.srv] : List Part), p ∈ l) : State.Touch l s0 (State.loopSetpoint s n outer) := by
  have k : State.Touch [.srv] s (State.loopSetpoint s n outer) := by
    unfold State.loopSetpoint
    try dsimp only
    iterate 60 all_goals try first
      | with_reducible assumption
      | with_reducible exact State.Touch.refl _ _
      | with_reducible refine State.Touch.setBit ?_ _ _
      | with_reducible refine State.Touch.outerStep ?_ _ (by decide)
      | with_reducible refine State.Touch.rampStep ?_ _ (by decide)
      | with_reducible refine State.Touch.setpointStep ?_ _ (by decide)
      | refine State.Touch.fst (by with_reducible assumption) ?_ (State.Touch.rampStep (State.Touch.refl _ _) _ (fun _ h => h)) (by decide)
      | refine State.Touch.fst (by with_reducible assumption) ?_ (State.Touch.setpointStep (State.Touch.refl _ _) _ (fun _ h => h)) (by decide)
      | with_reducible refine State.Touch.ite ?_ ?_
      | split
  exact hT.call k hl

theorem State.Touch.loopLaw {l : List Part} {s0 s : State} (hT : State.Touch l s0 s)  (n : Nat)
    (hl : ∀ p ∈ ([.srv] : List Part), p ∈ l) : State.Touch l s0 (State.loopLaw s n) := by
  have k : State.Touch [.srv] s (State.loopLaw s n) := by
    unfold State.loopLaw
    try dsimp only
    iterate 60 all_goals try first
      | with_reducible assumption
      | with_reducible exact State.Touch.refl _ _
      | with_reducible refine State.Touch.count ?_ _
      | with_reducible refine State.Touch.loopOut ?_ _ _ (by decide)
      | with_reducible refine State.Touch.modLoop ?_ _ _ (by decide)
      | with_reducible refine State.Touch.ite ?_ ?_
      | split
  exact hT.call k hl

theorem State.Touch.loopCounts {l : List Part} {s0 s : State} (hT : State.Touch l s0 s)  (n : Nat)
    (hl : ∀ p ∈ ([.srv] : List Part), p ∈ l) : State.Touch l s0 (State.loopCounts s n) := by
  have k : State.Touch [.srv] s (State.loopCounts s n) := by
    unfold State.loopCounts
    try dsimp only
    iterate 60 all_goals try first
      | with_reducible assumption
      | with_reducible exact State.Touch.refl _ _
      | with_reducible refine State.Touch.modLoop ?_ _ _ (by decide)
      | with_reducible refine State.Touch.ite ?_ ?_
      | split
  exact hT.call k hl

theorem State.Touch.servoBoundary {l : List Part} {s0 s : State} (hT : State.Touch l s0 s)  (n : Nat)
    (hl : ∀ p ∈ ([.chans, .alc, .srv, .port] : List Part), p ∈ l) : State.Touch l s0 (State.servoBoundary s n) := by
  have k : State.Touch [.chans, .alc, .srv, .port] s (State.servoBoundary s n) := by
    unfold State.servoBoundary
    try dsimp only
    iterate 60 all_goals try first
      | with_reducible assumption
      | with_reducible exact State.Touch.refl _ _
      | with_reducible refine State.Touch.latchFb ?_ _ _ (by decide)
      | with_reducible refine State.Touch.loopCounts ?_ _ (by decide)
      | with_reducible refine State.Touch.loopEvents ?_ _ _ (by decide)
      | with_reducible refine State.Touch.loopLaw ?_ _ (by decide)
      | with_reducible refine State.Touch.loopSetpoint ?_ _ _ (by decide)
      | refine State.Touch.fst (by with_reducible assumption) ?_ (State.Touch.loopEvents (State.Touch.refl _ _) _ _ (fun _ h => h)) (by decide)
      | with_reducible refine State.Touch.ite ?_ ?_
      | split
  exact hT.call k hl

theorem State.Touch.outerBoundary {l : List Part} {s0 s : State} (hT : State.Touch l s0 s)  (n : Nat)
    (hl : ∀ p ∈ ([.chans, .alc, .srv, .port] : List Part), p ∈ l) : State.Touch l s0 (State.outerBoundary s n) := by
  have k : State.Touch [.chans, .alc, .srv, .port] s (State.outerBoundary s n) := by
    unfold State.outerBoundary
    try dsimp only
    iterate 60 all_goals try first
      | with_reducible assumption
      | with_reducible exact State.Touch.refl _ _
      | with_reducible refine State.Touch.loopCounts ?_ _ (by decide)
      | with_reducible refine State.Touch.servoBoundary ?_ _ (by decide)
      | with_reducible refine State.Touch.ite ?_ ?_
      | split
  exact hT.call k hl

theorem State.Touch.stallFault {l : List Part} {s0 s : State} (hT : State.Touch l s0 s)  (n : Nat)
    (hl : ∀ p ∈ ([.chans, .alc, .srv, .port] : List Part), p ∈ l) : State.Touch l s0 (State.stallFault s n) := by
  have k : State.Touch [.chans, .alc, .srv, .port] s (State.stallFault s n) := by
    unfold State.stallFault
    try dsimp only
    iterate 60 all_goals try first
      | with_reducible assumption
      | with_reducible exact State.Touch.refl _ _
      | with_reducible refine State.Touch.loopFault ?_ _ _ (by decide)
      | with_reducible refine State.Touch.ite ?_ ?_
      | split
  exact hT.call k hl

theorem State.Touch.cmdClose {l : List Part} {s0 s : State} (hT : State.Touch l s0 s)  (n : Nat)
    (hl : ∀ p ∈ ([.srv] : List Part), p ∈ l) : State.Touch l s0 (State.cmdClose s n) := by
  have k : State.Touch [.srv] s (State.cmdClose s n) := by
    unfold State.cmdClose
    try dsimp only
    iterate 60 all_goals try first
      | with_reducible assumption
      | with_reducible exact State.Touch.refl _ _
      | with_reducible refine State.Touch.closePend ?_ _ (by decide)
      | with_reducible refine State.Touch.modLoop ?_ _ _ (by decide)
      | with_reducible refine State.Touch.ite ?_ ?_
      | split
  exact hT.call k hl

theorem State.Touch.cmdOpen {l : List Part} {s0 s : State} (hT : State.Touch l s0 s)  (n : Nat)
    (hl : ∀ p ∈ ([.srv] : List Part), p ∈ l) : State.Touch l s0 (State.cmdOpen s n) := by
  have k : State.Touch [.srv] s (State.cmdOpen s n) := by
    unfold State.cmdOpen
    try dsimp only
    iterate 60 all_goals try first
      | with_reducible assumption
      | with_reducible exact State.Touch.refl _ _
      | with_reducible refine State.Touch.modLoop ?_ _ _ (by decide)
      | with_reducible refine State.Touch.ite ?_ ?_
      | split
  exact hT.call k hl

theorem State.Touch.cmdClrFault {l : List Part} {s0 s : State} (hT : State.Touch l s0 s)  (n : Nat)
    (hl : ∀ p ∈ ([.srv] : List Part), p ∈ l) : State.Touch l s0 (State.cmdClrFault s n) := by
  have k : State.Touch [.srv] s (State.cmdClrFault s n) := by
    unfold State.cmdClrFault
    try dsimp only
    iterate 60 all_goals try first
      | with_reducible assumption
      | with_reducible exact State.Touch.refl _ _
      | with_reducible refine State.Touch.loopRefuse ?_ _ _ _ (by decide)
      | with_reducible refine State.Touch.modLoop ?_ _ _ (by decide)
      | with_reducible refine State.Touch.ite ?_ ?_
      | split
  exact hT.call k hl

theorem State.Touch.spsrcWrite {l : List Part} {s0 s : State} (hT : State.Touch l s0 s)  (n : Nat) (v : Word)
    (hl : ∀ p ∈ ([.grp] : List Part), p ∈ l) : State.Touch l s0 (State.spsrcWrite s n v) := by
  have k : State.Touch [.grp] s (State.spsrcWrite s n v) := by
    unfold State.spsrcWrite
    try dsimp only
    iterate 60 all_goals try first
      | with_reducible assumption
      | with_reducible exact State.Touch.refl _ _
      | with_reducible refine State.Touch.wr ?_ _ _
      | with_reducible refine State.Touch.forwardWrite ?_ _ _ (by decide)
      | with_reducible refine State.Touch.loopRefuse ?_ _ _ _ (by decide)
      | with_reducible refine State.Touch.ite ?_ ?_
      | split
  exact hT.call k hl

theorem State.Touch.hostspWrite {l : List Part} {s0 s : State} (hT : State.Touch l s0 s)  (n : Nat) (v : Word)
    (hl : ∀ p ∈ ([.grp] : List Part), p ∈ l) : State.Touch l s0 (State.hostspWrite s n v) := by
  have k : State.Touch [.grp] s (State.hostspWrite s n v) := by
    unfold State.hostspWrite
    try dsimp only
    iterate 60 all_goals try first
      | with_reducible assumption
      | with_reducible exact State.Touch.refl _ _
      | with_reducible refine State.Touch.wr ?_ _ _
      | with_reducible refine State.Touch.forwardWrite ?_ _ _ (by decide)
      | with_reducible refine State.Touch.loopRefuse ?_ _ _ _ (by decide)
      | with_reducible refine State.Touch.ite ?_ ?_
      | split
  exact hT.call k hl

theorem State.Touch.srvCntClr {l : List Part} {s0 s : State} (hT : State.Touch l s0 s) 
    (hl : ∀ p ∈ ([] : List Part), p ∈ l) : State.Touch l s0 (State.srvCntClr s) := by
  have k : State.Touch [] s (State.srvCntClr s) := by
    unfold State.srvCntClr
    try dsimp only
    iterate 60 all_goals try first
      | with_reducible assumption
      | with_reducible exact State.Touch.refl _ _
      | with_reducible refine State.Touch.wr ?_ _ _
      | with_reducible refine State.Touch.each ?_ _ _ (fun x u hu => ?_)
      | with_reducible refine State.Touch.ite ?_ ?_
      | split
  exact hT.call k hl

theorem State.Touch.autoClose {l : List Part} {s0 s : State} (hT : State.Touch l s0 s)  (n : Nat)
    (hl : ∀ p ∈ ([.srv] : List Part), p ∈ l) : State.Touch l s0 (State.autoClose s n) := by
  have k : State.Touch [.srv] s (State.autoClose s n) := by
    unfold State.autoClose
    try dsimp only
    iterate 60 all_goals try first
      | with_reducible assumption
      | with_reducible exact State.Touch.refl _ _
      | with_reducible refine State.Touch.closePend ?_ _ (by decide)
      | with_reducible refine State.Touch.modLoop ?_ _ _ (by decide)
      | with_reducible refine State.Touch.ite ?_ ?_
      | split
  exact hT.call k hl

theorem State.Touch.autoCloseAll {l : List Part} {s0 s : State} (hT : State.Touch l s0 s) 
    (hl : ∀ p ∈ ([.srv] : List Part), p ∈ l) : State.Touch l s0 (State.autoCloseAll s) := by
  have k : State.Touch [.srv] s (State.autoCloseAll s) := by
    unfold State.autoCloseAll
    try dsimp only
    iterate 60 all_goals try first
      | with_reducible assumption
      | with_reducible exact State.Touch.refl _ _
      | with_reducible refine State.Touch.each ?_ _ _ (fun x u hu => ?_)
      | with_reducible refine State.Touch.autoClose ?_ _ (by decide)
      | with_reducible refine State.Touch.ite ?_ ?_
      | split
  exact hT.call k hl

theorem State.Touch.standbyLoops {l : List Part} {s0 s : State} (hT : State.Touch l s0 s) 
    (hl : ∀ p ∈ ([.chans, .alc, .srv] : List Part), p ∈ l) : State.Touch l s0 (State.standbyLoops s) := by
  have k : State.Touch [.chans, .alc, .srv] s (State.standbyLoops s) := by
    unfold State.standbyLoops
    try dsimp only
    iterate 60 all_goals try first
      | with_reducible assumption
      | with_reducible exact State.Touch.refl _ _
      | with_reducible refine State.Touch.each ?_ _ _ (fun x u hu => ?_)
      | with_reducible refine State.Touch.closePend ?_ _ (by decide)
      | with_reducible refine State.Touch.loopOpen ?_ _ _ (by decide)
      | with_reducible refine State.Touch.modLoop ?_ _ _ (by decide)
      | with_reducible refine State.Touch.ite ?_ ?_
      | split
  exact hT.call k hl

theorem State.Touch.loopReinit {l : List Part} {s0 s : State} (hT : State.Touch l s0 s)  (n : Nat)
    (hl : ∀ p ∈ ([.chans, .alc, .srv] : List Part), p ∈ l) : State.Touch l s0 (State.loopReinit s n) := by
  have k : State.Touch [.chans, .alc, .srv] s (State.loopReinit s n) := by
    unfold State.loopReinit
    try dsimp only
    iterate 60 all_goals try first
      | with_reducible assumption
      | with_reducible exact State.Touch.refl _ _
      | with_reducible refine State.Touch.wr ?_ _ _
      | with_reducible refine State.Touch.each ?_ _ _ (fun x u hu => ?_)
      | with_reducible refine State.Touch.autoClose ?_ _ (by decide)
      | with_reducible refine State.Touch.loopOff ?_ _ (by decide)
      | with_reducible refine State.Touch.loopOpen ?_ _ _ (by decide)
      | with_reducible refine State.Touch.modLoop ?_ _ _ (by decide)
      | with_reducible refine State.Touch.ownSync ?_ (by decide)
      | with_reducible refine State.Touch.ite ?_ ?_
      | split
  exact hT.call k hl

end Sys2Proof.Machine
end

