-- ==== Sys2Proof/Laws/Touch/SafetyFns.lean ====
section
/-!
SUPPORT. Sys2Proof/Laws/Touch/SafetyFns.lean: which parts of the state each operation of Machine/SafetyFns.lean may change.
-/
set_option linter.all false
set_option maxRecDepth 4000
namespace Sys2Proof.Machine

theorem State.Touch.modTech {l : List Part} {s0 s : State} (hT : State.Touch l s0 s)  (t : Tech) (f : TechSt → TechSt)
    (hl : ∀ p ∈ ([.saf] : List Part), p ∈ l) : State.Touch l s0 (State.modTech s t f) := by
  have k : State.Touch [.saf] s (State.modTech s t f) := by
    unfold State.modTech
    try dsimp only
    iterate 60 all_goals try first
      | with_reducible assumption
      | with_reducible exact State.Touch.refl _ _
      | with_reducible refine State.Touch.ite ?_ ?_
      | split
      | with_reducible refine State.Touch.upd_saf ?_ _ (by decide)
  exact hT.call k hl

theorem State.Touch.modView {l : List Part} {s0 s : State} (hT : State.Touch l s0 s)  (t : Tech) (f : Nat) (g : FnView → FnView)
    (hl : ∀ p ∈ ([.saf] : List Part), p ∈ l) : State.Touch l s0 (State.modView s t f g) := by
  have k : State.Touch [.saf] s (State.modView s t f g) := by
    unfold State.modView
    try dsimp only
    iterate 60 all_goals try first
      | with_reducible assumption
      | with_reducible exact State.Touch.refl _ _
      | with_reducible refine State.Touch.modTech ?_ _ _ (by decide)
      | with_reducible refine State.Touch.ite ?_ ?_
      | split
  exact hT.call k hl

theorem State.Touch.safOutputs {l : List Part} {s0 s : State} (hT : State.Touch l s0 s) 
    (hl : ∀ p ∈ ([.saf] : List Part), p ∈ l) : State.Touch l s0 (State.safOutputs s) := by
  have k : State.Touch [.saf] s (State.safOutputs s) := by
    unfold State.safOutputs
    try dsimp only
    iterate 60 all_goals try first
      | with_reducible assumption
      | with_reducible exact State.Touch.refl _ _
      | with_reducible refine State.Touch.wr ?_ _ _
      | with_reducible refine State.Touch.mirrorSafe ?_ (by decide)
      | with_reducible refine State.Touch.modTech ?_ _ _ (by decide)
      | with_reducible refine State.Touch.ite ?_ ?_
      | split
  exact hT.call k hl

theorem State.Touch.faultBoth {l : List Part} {s0 s : State} (hT : State.Touch l s0 s)  (cause : Nat)
    (hl : ∀ p ∈ ([.saf] : List Part), p ∈ l) : State.Touch l s0 (State.faultBoth s cause) := by
  have k : State.Touch [.saf] s (State.faultBoth s cause) := by
    unfold State.faultBoth
    try dsimp only
    iterate 60 all_goals try first
      | with_reducible assumption
      | with_reducible exact State.Touch.refl _ _
      | with_reducible refine State.Touch.modTech ?_ _ _ (by decide)
      | with_reducible refine State.Touch.ite ?_ ?_
      | split
  exact hT.call k hl

theorem State.Touch.fnRun {l : List Part} {s0 s : State} (hT : State.Touch l s0 s)  (t : Tech) (f : Nat)
    (hl : ∀ p ∈ ([.saf] : List Part), p ∈ l) : State.Touch l s0 (State.fnRun s t f) := by
  have k : State.Touch [.saf] s (State.fnRun s t f) := by
    unfold State.fnRun
    try dsimp only
    iterate 60 all_goals try first
      | with_reducible assumption
      | with_reducible exact State.Touch.refl _ _
      | with_reducible refine State.Touch.modView ?_ _ _ _ (by decide)
      | with_reducible refine State.Touch.ite ?_ ?_
      | split
  exact hT.call k hl

theorem State.Touch.safSettle {l : List Part} {s0 s : State} (hT : State.Touch l s0 s) 
    (hl : ∀ p ∈ ([.saf] : List Part), p ∈ l) : State.Touch l s0 (State.safSettle s) := by
  have k : State.Touch [.saf] s (State.safSettle s) := by
    unfold State.safSettle
    try dsimp only
    iterate 60 all_goals try first
      | with_reducible assumption
      | with_reducible exact State.Touch.refl _ _
      | with_reducible refine State.Touch.each ?_ _ _ (fun x u hu => ?_)
      | with_reducible refine State.Touch.fnRun ?_ _ _ (by decide)
      | with_reducible refine State.Touch.ite ?_ ?_
      | split
  exact hT.call k hl

theorem State.Touch.safLast {l : List Part} {s0 s : State} (hT : State.Touch l s0 s)  (f cause : Nat)
    (hl : ∀ p ∈ ([] : List Part), p ∈ l) : State.Touch l s0 (State.safLast s f cause) := by
  have k : State.Touch [] s (State.safLast s f cause) := by
    unfold State.safLast
    try dsimp only
    iterate 60 all_goals try first
      | with_reducible assumption
      | with_reducible exact State.Touch.refl _ _
      | with_reducible refine State.Touch.wr ?_ _ _
      | with_reducible refine State.Touch.set ?_ _ _
      | with_reducible refine State.Touch.ite ?_ ?_
      | split
  exact hT.call k hl

theorem State.Touch.fnReport {l : List Part} {s0 s : State} (hT : State.Touch l s0 s) (old : State) (f : Nat)
    (hl : ∀ p ∈ ([.mgt, .chans, .can, .eth, .ana, .saf, .port] : List Part), p ∈ l) : State.Touch l s0 (State.fnReport old s f) := by
  have k : State.Touch [.mgt, .chans, .can, .eth, .ana, .saf, .port] s (State.fnReport old s f) := by
    unfold State.fnReport
    try dsimp only
    iterate 60 all_goals try first
      | with_reducible assumption
      | with_reducible exact State.Touch.refl _ _
      | with_reducible refine State.Touch.count ?_ _
      | with_reducible refine State.Touch.raise ?_ _ _ _
      | with_reducible refine State.Touch.safLast ?_ _ _ (by decide)
      | with_reducible refine State.Touch.umberOut ?_ _ _ _ (by decide)
      | with_reducible refine State.Touch.ite ?_ ?_
      | split
      | with_reducible refine State.Touch.upd_saf ?_ _ (by decide)
  exact hT.call k hl

theorem State.Touch.fnSync {l : List Part} {s0 s : State} (hT : State.Touch l s0 s)  (f : Nat)
    (hl : ∀ p ∈ ([] : List Part), p ∈ l) : State.Touch l s0 (State.fnSync s f) := by
  have k : State.Touch [] s (State.fnSync s f) := by
    unfold State.fnSync
    try dsimp only
    iterate 60 all_goals try first
      | with_reducible assumption
      | with_reducible exact State.Touch.refl _ _
      | with_reducible refine State.Touch.wr ?_ _ _
      | with_reducible refine State.Touch.ite ?_ ?_
      | split
  exact hT.call k hl

theorem State.Touch.pairStop {l : List Part} {s0 s : State} (hT : State.Touch l s0 s)  (p : Nat) (start : Bool)
    (hl : ∀ p ∈ ([.chans, .alc, .srv, .port] : List Part), p ∈ l) : State.Touch l s0 (State.pairStop s p start) := by
  have k : State.Touch [.chans, .alc, .srv, .port] s (State.pairStop s p start) := by
    unfold State.pairStop
    try dsimp only
    iterate 60 all_goals try first
      | with_reducible assumption
      | with_reducible exact State.Touch.refl _ _
      | with_reducible refine State.Touch.each ?_ _ _ (fun x u hu => ?_)
      | with_reducible refine State.Touch.servoStop ?_ _ (by decide)
      | with_reducible refine State.Touch.thrRemove ?_ _ _ _ (by decide)
      | with_reducible refine State.Touch.ite ?_ ?_
      | split
  exact hT.call k hl

theorem State.Touch.pairFree {l : List Part} {s0 s : State} (hT : State.Touch l s0 s)  (p : Nat)
    (hl : ∀ p ∈ ([.alc] : List Part), p ∈ l) : State.Touch l s0 (State.pairFree s p) := by
  have k : State.Touch [.alc] s (State.pairFree s p) := by
    unfold State.pairFree
    try dsimp only
    iterate 60 all_goals try first
      | with_reducible assumption
      | with_reducible exact State.Touch.refl _ _
      | with_reducible refine State.Touch.each ?_ _ _ (fun x u hu => ?_)
      | with_reducible refine State.Touch.thrClear ?_ _ _ (by decide)
      | with_reducible refine State.Touch.ite ?_ ?_
      | split
  exact hT.call k hl

theorem State.Touch.safetyCost {l : List Part} {s0 s : State} (hT : State.Touch l s0 s)  (is : List Nat)
    (hl : ∀ p ∈ ([.port] : List Part), p ∈ l) : State.Touch l s0 (State.safetyCost s is) := by
  have k : State.Touch [.port] s (State.safetyCost s is) := by
    unfold State.safetyCost
    try dsimp only
    iterate 60 all_goals try first
      | with_reducible assumption
      | with_reducible exact State.Touch.refl _ _
      | with_reducible refine State.Touch.count ?_ _
      | with_reducible refine State.Touch.conflictEvent ?_ _ _ _ _ (by decide)
      | with_reducible refine State.Touch.ite ?_ ?_
      | split
  exact hT.call k hl

theorem State.Touch.safAct {l : List Part} {s0 s : State} (hT : State.Touch l s0 s)  (before again : BitVec 16)
    (hl : ∀ p ∈ ([.chans, .alc, .srv, .port] : List Part), p ∈ l) : State.Touch l s0 (State.safAct s before again) := by
  have k : State.Touch [.chans, .alc, .srv, .port] s (State.safAct s before again) := by
    unfold State.safAct
    try dsimp only
    iterate 60 all_goals try first
      | with_reducible assumption
      | with_reducible exact State.Touch.refl _ _
      | with_reducible refine State.Touch.each ?_ _ _ (fun x u hu => ?_)
      | with_reducible refine State.Touch.pairFree ?_ _ (by decide)
      | with_reducible refine State.Touch.pairStop ?_ _ _ (by decide)
      | with_reducible refine State.Touch.safetyCost ?_ _ (by decide)
      | with_reducible refine State.Touch.ite ?_ ?_
      | split
  exact hT.call k hl

theorem State.Touch.safOp {l : List Part} {s0 s : State} (h : State.Touch l s0 s) (again : BitVec 16) (f : State → State)
    (hf : ∀ u, State.Touch l s0 u → State.Touch l s0 (f u)) (hl : ∀ p ∈ ([.mgt, .chans, .alc, .can, .eth, .ana, .srv, .saf, .port] : List Part), p ∈ l) :
    State.Touch l s0 (s.safOp again f) := by
  have sub : ∀ (m : List Part), (∀ p ∈ m, p ∈ ([.mgt, .chans, .alc, .can, .eth, .ana, .srv, .saf, .port] : List Part)) → ∀ p ∈ m, p ∈ l := fun m hm p hp => hl p (hm p hp)
  unfold State.safOp
  exact State.Touch.safAct (State.Touch.each (((hf s h).safSettle (sub _ (by decide))).safOutputs (sub _ (by decide))) _ _
    (fun x u hu => State.Touch.fnSync (State.Touch.fnReport hu s x (sub _ (by decide))) _ (sub _ (by decide)))) _ _
    (sub _ (by decide))

theorem State.Touch.resetChannel {l : List Part} {s0 s : State} (hT : State.Touch l s0 s)  (t : Tech) (f held : Nat) (closing : Bool)
    (hl : ∀ p ∈ ([.saf] : List Part), p ∈ l) : State.Touch l s0 (State.resetChannel s t f held closing) := by
  have k : State.Touch [.saf] s (State.resetChannel s t f held closing) := by
    unfold State.resetChannel
    try dsimp only
    iterate 60 all_goals try first
      | with_reducible assumption
      | with_reducible exact State.Touch.refl _ _
      | with_reducible refine State.Touch.modView ?_ _ _ _ (by decide)
      | with_reducible refine State.Touch.ite ?_ ?_
      | split
  exact hT.call k hl

theorem State.Touch.channelRecognised {l : List Part} {s0 s : State} (hT : State.Touch l s0 s)  (t : Tech) (i : Nat) (chB level : Bool) (held : Nat)
    (hl : ∀ p ∈ ([.mgt, .chans, .alc, .can, .eth, .ana, .srv, .saf, .port] : List Part), p ∈ l) : State.Touch l s0 (State.channelRecognised s t i chB level held) := by
  have k : State.Touch [.mgt, .chans, .alc, .can, .eth, .ana, .srv, .saf, .port] s (State.channelRecognised s t i chB level held) := by
    unfold State.channelRecognised
    try dsimp only
    iterate 60 all_goals try first
      | with_reducible assumption
      | with_reducible exact State.Touch.refl _ _
      | with_reducible refine State.Touch.setBit ?_ _ _
      | with_reducible refine State.Touch.each ?_ _ _ (fun x u hu => ?_)
      | with_reducible refine State.Touch.safOp ?_ _ _ (fun u hu => ?_) (by decide)
      | with_reducible refine State.Touch.foldl ?_ _ _ (fun x u hu => ?_)
      | with_reducible refine State.Touch.modTech ?_ _ _ (by decide)
      | with_reducible refine State.Touch.resetChannel ?_ _ _ _ _ (by decide)
      | with_reducible refine State.Touch.ite ?_ ?_
      | split
  exact hT.call k hl

theorem State.Touch.c1Timer {l : List Part} {s0 s : State} (hT : State.Touch l s0 s)  (t : Tech) (f : Nat)
    (hl : ∀ p ∈ ([.mgt, .chans, .alc, .can, .eth, .ana, .srv, .saf, .port] : List Part), p ∈ l) : State.Touch l s0 (State.c1Timer s t f) := by
  have k : State.Touch [.mgt, .chans, .alc, .can, .eth, .ana, .srv, .saf, .port] s (State.c1Timer s t f) := by
    unfold State.c1Timer
    try dsimp only
    iterate 60 all_goals try first
      | with_reducible assumption
      | with_reducible exact State.Touch.refl _ _
      | with_reducible refine State.Touch.safOp ?_ _ _ (fun u hu => ?_) (by decide)
      | with_reducible refine State.Touch.modView ?_ _ _ _ (by decide)
      | with_reducible refine State.Touch.ite ?_ ?_
      | split
  exact hT.call k hl

theorem State.Touch.discLatch {l : List Part} {s0 s : State} (hT : State.Touch l s0 s)  (t : Tech) (f : Nat)
    (hl : ∀ p ∈ ([.mgt, .chans, .alc, .can, .eth, .ana, .srv, .saf, .port] : List Part), p ∈ l) : State.Touch l s0 (State.discLatch s t f) := by
  have k : State.Touch [.mgt, .chans, .alc, .can, .eth, .ana, .srv, .saf, .port] s (State.discLatch s t f) := by
    unfold State.discLatch
    try dsimp only
    iterate 60 all_goals try first
      | with_reducible assumption
      | with_reducible exact State.Touch.refl _ _
      | with_reducible refine State.Touch.safOp ?_ _ _ (fun u hu => ?_) (by decide)
      | with_reducible refine State.Touch.modTech ?_ _ _ (by decide)
      | with_reducible refine State.Touch.ite ?_ ?_
      | split
  exact hT.call k hl

theorem State.Touch.syncTimeout {l : List Part} {s0 s : State} (hT : State.Touch l s0 s)  (t : Tech) (f : Nat)
    (hl : ∀ p ∈ ([.mgt, .chans, .alc, .can, .eth, .ana, .srv, .saf, .port] : List Part), p ∈ l) : State.Touch l s0 (State.syncTimeout s t f) := by
  have k : State.Touch [.mgt, .chans, .alc, .can, .eth, .ana, .srv, .saf, .port] s (State.syncTimeout s t f) := by
    unfold State.syncTimeout
    try dsimp only
    iterate 60 all_goals try first
      | with_reducible assumption
      | with_reducible exact State.Touch.refl _ _
      | with_reducible refine State.Touch.raise ?_ _ _ _
      | with_reducible refine State.Touch.safOp ?_ _ _ (fun u hu => ?_) (by decide)
      | with_reducible refine State.Touch.modView ?_ _ _ _ (by decide)
      | with_reducible refine State.Touch.safLast ?_ _ _ (by decide)
      | with_reducible refine State.Touch.ite ?_ ?_
      | split
  exact hT.call k hl

theorem State.Touch.tpStart {l : List Part} {s0 s : State} (hT : State.Touch l s0 s)  (k : Nat)
    (hl : ∀ p ∈ ([.saf] : List Part), p ∈ l) : State.Touch l s0 (State.tpStart s k) := by
  have k : State.Touch [.saf] s (State.tpStart s k) := by
    unfold State.tpStart
    try dsimp only
    iterate 60 all_goals try first
      | with_reducible assumption
      | with_reducible exact State.Touch.refl _ _
      | with_reducible refine State.Touch.ite ?_ ?_
      | split
      | with_reducible refine State.Touch.upd_saf ?_ _ (by decide)
  exact hT.call k hl

theorem State.Touch.tpSample {l : List Part} {s0 s : State} (hT : State.Touch l s0 s)  (k : Nat) (a b : Word)
    (hl : ∀ p ∈ ([.mgt, .chans, .alc, .can, .eth, .ana, .srv, .saf, .port] : List Part), p ∈ l) : State.Touch l s0 (State.tpSample s k a b) := by
  have k : State.Touch [.mgt, .chans, .alc, .can, .eth, .ana, .srv, .saf, .port] s (State.tpSample s k a b) := by
    unfold State.tpSample
    try dsimp only
    iterate 60 all_goals try first
      | with_reducible assumption
      | with_reducible exact State.Touch.refl _ _
      | with_reducible refine State.Touch.safOp ?_ _ _ (fun u hu => ?_) (by decide)
      | with_reducible refine State.Touch.foldl ?_ _ _ (fun x u hu => ?_)
      | with_reducible refine State.Touch.modTech ?_ _ _ (by decide)
      | with_reducible refine State.Touch.ite ?_ ?_
      | split
      | with_reducible refine State.Touch.upd_saf ?_ _ (by decide)
  exact hT.call k hl

theorem State.Touch.outputFault {l : List Part} {s0 s : State} (hT : State.Touch l s0 s)  (p : Nat)
    (hl : ∀ p ∈ ([.saf] : List Part), p ∈ l) : State.Touch l s0 (State.outputFault s p) := by
  have k : State.Touch [.saf] s (State.outputFault s p) := by
    unfold State.outputFault
    try dsimp only
    iterate 60 all_goals try first
      | with_reducible assumption
      | with_reducible exact State.Touch.refl _ _
      | with_reducible refine State.Touch.foldl ?_ _ _ (fun x u hu => ?_)
      | with_reducible refine State.Touch.modTech ?_ _ _ (by decide)
      | with_reducible refine State.Touch.ite ?_ ?_
      | split
  exact hT.call k hl

theorem State.Touch.offPulse {l : List Part} {s0 s : State} (hT : State.Touch l s0 s)  (t : Tech) (p : Nat)
    (hl : ∀ p ∈ ([.mgt, .chans, .alc, .can, .eth, .ana, .srv, .saf, .port] : List Part), p ∈ l) : State.Touch l s0 (State.offPulse s t p) := by
  have k : State.Touch [.mgt, .chans, .alc, .can, .eth, .ana, .srv, .saf, .port] s (State.offPulse s t p) := by
    unfold State.offPulse
    try dsimp only
    iterate 60 all_goals try first
      | with_reducible assumption
      | with_reducible exact State.Touch.refl _ _
      | with_reducible refine State.Touch.safOp ?_ _ _ (fun u hu => ?_) (by decide)
      | with_reducible refine State.Touch.modTech ?_ _ _ (by decide)
      | with_reducible refine State.Touch.ite ?_ ?_
      | split
  exact hT.call k hl

theorem State.Touch.offPulseEnd {l : List Part} {s0 s : State} (hT : State.Touch l s0 s)  (t : Tech) (p : Nat) (off : Bool)
    (hl : ∀ p ∈ ([.mgt, .chans, .alc, .can, .eth, .ana, .srv, .saf, .port] : List Part), p ∈ l) : State.Touch l s0 (State.offPulseEnd s t p off) := by
  have k : State.Touch [.mgt, .chans, .alc, .can, .eth, .ana, .srv, .saf, .port] s (State.offPulseEnd s t p off) := by
    unfold State.offPulseEnd
    try dsimp only
    iterate 60 all_goals try first
      | with_reducible assumption
      | with_reducible exact State.Touch.refl _ _
      | with_reducible refine State.Touch.safOp ?_ _ _ (fun u hu => ?_) (by decide)
      | with_reducible refine State.Touch.modTech ?_ _ _ (by decide)
      | with_reducible refine State.Touch.outputFault ?_ _ (by decide)
      | with_reducible refine State.Touch.ite ?_ ?_
      | split
  exact hT.call k hl

theorem State.Touch.exchangeFaults {l : List Part} {s0 s : State} (hT : State.Touch l s0 s)  (t : Tech)
    (hl : ∀ p ∈ ([.saf] : List Part), p ∈ l) : State.Touch l s0 (State.exchangeFaults s t) := by
  have k : State.Touch [.saf] s (State.exchangeFaults s t) := by
    unfold State.exchangeFaults
    try dsimp only
    iterate 60 all_goals try first
      | with_reducible assumption
      | with_reducible exact State.Touch.refl _ _
      | with_reducible refine State.Touch.each ?_ _ _ (fun x u hu => ?_)
      | with_reducible refine State.Touch.modTech ?_ _ _ (by decide)
      | with_reducible refine State.Touch.modView ?_ _ _ _ (by decide)
      | with_reducible refine State.Touch.ite ?_ ?_
      | split
  exact hT.call k hl

theorem State.Touch.cobaltCycle {l : List Part} {s0 s : State} (hT : State.Touch l s0 s) 
    (hl : ∀ p ∈ ([.mgt, .chans, .alc, .can, .eth, .ana, .srv, .saf, .port] : List Part), p ∈ l) : State.Touch l s0 (State.cobaltCycle s) := by
  have k : State.Touch [.mgt, .chans, .alc, .can, .eth, .ana, .srv, .saf, .port] s (State.cobaltCycle s) := by
    unfold State.cobaltCycle
    try dsimp only
    iterate 60 all_goals try first
      | with_reducible assumption
      | with_reducible exact State.Touch.refl _ _
      | with_reducible refine State.Touch.safOp ?_ _ _ (fun u hu => ?_) (by decide)
      | with_reducible refine State.Touch.foldl ?_ _ _ (fun x u hu => ?_)
      | with_reducible refine State.Touch.exchangeFaults ?_ _ (by decide)
      | with_reducible refine State.Touch.modTech ?_ _ _ (by decide)
      | with_reducible refine State.Touch.modView ?_ _ _ _ (by decide)
      | with_reducible refine State.Touch.ite ?_ ?_
      | split
  exact hT.call k hl

theorem State.Touch.safClockFault {l : List Part} {s0 s : State} (hT : State.Touch l s0 s) 
    (hl : ∀ p ∈ ([.mgt, .chans, .alc, .can, .eth, .ana, .srv, .saf, .port] : List Part), p ∈ l) : State.Touch l s0 (State.safClockFault s) := by
  have k : State.Touch [.mgt, .chans, .alc, .can, .eth, .ana, .srv, .saf, .port] s (State.safClockFault s) := by
    unfold State.safClockFault
    try dsimp only
    iterate 60 all_goals try first
      | with_reducible assumption
      | with_reducible exact State.Touch.refl _ _
      | with_reducible refine State.Touch.set ?_ _ _
      | with_reducible refine State.Touch.safOp ?_ _ _ (fun u hu => ?_) (by decide)
      | with_reducible refine State.Touch.faultBoth ?_ _ (by decide)
      | with_reducible refine State.Touch.ite ?_ ?_
      | split
  exact hT.call k hl

theorem State.Touch.tickCheck {l : List Part} {s0 s : State} (hT : State.Touch l s0 s)  (deviates : Bool)
    (hl : ∀ p ∈ ([.mgt, .chans, .alc, .can, .eth, .ana, .srv, .saf, .port] : List Part), p ∈ l) : State.Touch l s0 (State.tickCheck s deviates) := by
  have k : State.Touch [.mgt, .chans, .alc, .can, .eth, .ana, .srv, .saf, .port] s (State.tickCheck s deviates) := by
    unfold State.tickCheck
    try dsimp only
    iterate 60 all_goals try first
      | with_reducible assumption
      | with_reducible exact State.Touch.refl _ _
      | with_reducible refine State.Touch.safClockFault ?_ (by decide)
      | with_reducible refine State.Touch.ite ?_ ?_
      | split
  exact hT.call k hl

theorem State.Touch.xcheck {l : List Part} {s0 s : State} (hT : State.Touch l s0 s)  (missing : Bool)
    (hl : ∀ p ∈ ([.mgt, .chans, .alc, .can, .eth, .ana, .srv, .saf, .port] : List Part), p ∈ l) : State.Touch l s0 (State.xcheck s missing) := by
  have k : State.Touch [.mgt, .chans, .alc, .can, .eth, .ana, .srv, .saf, .port] s (State.xcheck s missing) := by
    unfold State.xcheck
    try dsimp only
    iterate 60 all_goals try first
      | with_reducible assumption
      | with_reducible exact State.Touch.refl _ _
      | with_reducible refine State.Touch.safOp ?_ _ _ (fun u hu => ?_) (by decide)
      | with_reducible refine State.Touch.faultBoth ?_ _ (by decide)
      | with_reducible refine State.Touch.ite ?_ ?_
      | split
  exact hT.call k hl

theorem State.Touch.readbackFault {l : List Part} {s0 s : State} (hT : State.Touch l s0 s)  (t : Tech) (p : Nat) (level : Bool)
    (hl : ∀ p ∈ ([.mgt, .chans, .alc, .can, .eth, .ana, .srv, .saf, .port] : List Part), p ∈ l) : State.Touch l s0 (State.readbackFault s t p level) := by
  have k : State.Touch [.mgt, .chans, .alc, .can, .eth, .ana, .srv, .saf, .port] s (State.readbackFault s t p level) := by
    unfold State.readbackFault
    try dsimp only
    iterate 60 all_goals try first
      | with_reducible assumption
      | with_reducible exact State.Touch.refl _ _
      | with_reducible refine State.Touch.setBit ?_ _ _
      | with_reducible refine State.Touch.safOp ?_ _ _ (fun u hu => ?_) (by decide)
      | with_reducible refine State.Touch.mirrorSafe ?_ (by decide)
      | with_reducible refine State.Touch.outputFault ?_ _ (by decide)
      | with_reducible refine State.Touch.ite ?_ ?_
      | split
  exact hT.call k hl

theorem State.Touch.selftestFail {l : List Part} {s0 s : State} (hT : State.Touch l s0 s)  (t : Tech)
    (hl : ∀ p ∈ ([.mgt, .chans, .alc, .can, .eth, .ana, .srv, .saf, .port] : List Part), p ∈ l) : State.Touch l s0 (State.selftestFail s t) := by
  have k : State.Touch [.mgt, .chans, .alc, .can, .eth, .ana, .srv, .saf, .port] s (State.selftestFail s t) := by
    unfold State.selftestFail
    try dsimp only
    iterate 60 all_goals try first
      | with_reducible assumption
      | with_reducible exact State.Touch.refl _ _
      | with_reducible refine State.Touch.set ?_ _ _
      | with_reducible refine State.Touch.safOp ?_ _ _ (fun u hu => ?_) (by decide)
      | with_reducible refine State.Touch.modTech ?_ _ _ (by decide)
      | with_reducible refine State.Touch.ite ?_ ?_
      | split
  exact hT.call k hl

theorem State.Touch.chargePump {l : List Part} {s0 s : State} (hT : State.Touch l s0 s)  (t : Tech) (p : Nat)
    (hl : ∀ p ∈ ([] : List Part), p ∈ l) : State.Touch l s0 (State.chargePump s t p) := by
  have k : State.Touch [] s (State.chargePump s t p) := by
    unfold State.chargePump
    try dsimp only
    iterate 60 all_goals try first
      | with_reducible assumption
      | with_reducible exact State.Touch.refl _ _
      | with_reducible refine State.Touch.setBit ?_ _ _
      | with_reducible refine State.Touch.mirrorSafe ?_ (by decide)
      | with_reducible refine State.Touch.ite ?_ ?_
      | split
  exact hT.call k hl

theorem State.Touch.holdEvent {l : List Part} {s0 s : State} (hT : State.Touch l s0 s) 
    (hl : ∀ p ∈ ([.port] : List Part), p ∈ l) : State.Touch l s0 (State.holdEvent s) := by
  have k : State.Touch [.port] s (State.holdEvent s) := by
    unfold State.holdEvent
    try dsimp only
    iterate 60 all_goals try first
      | with_reducible assumption
      | with_reducible exact State.Touch.refl _ _
      | with_reducible refine State.Touch.raise ?_ _ _ _
      | with_reducible refine State.Touch.safLast ?_ _ _ (by decide)
      | with_reducible refine State.Touch.ite ?_ ?_
      | split
  exact hT.call k hl

theorem State.Touch.holdStart {l : List Part} {s0 s : State} (hT : State.Touch l s0 s) 
    (hl : ∀ p ∈ ([.mgt, .chans, .alc, .can, .eth, .ana, .srv, .saf, .port] : List Part), p ∈ l) : State.Touch l s0 (State.holdStart s) := by
  have k : State.Touch [.mgt, .chans, .alc, .can, .eth, .ana, .srv, .saf, .port] s (State.holdStart s) := by
    unfold State.holdStart
    try dsimp only
    iterate 60 all_goals try first
      | with_reducible assumption
      | with_reducible exact State.Touch.refl _ _
      | with_reducible refine State.Touch.set ?_ _ _
      | with_reducible refine State.Touch.safOp ?_ _ _ (fun u hu => ?_) (by decide)
      | with_reducible refine State.Touch.holdEvent ?_ (by decide)
      | with_reducible refine State.Touch.modTech ?_ _ _ (by decide)
      | with_reducible refine State.Touch.ite ?_ ?_
      | split
  exact hT.call k hl

theorem State.Touch.holdEnd {l : List Part} {s0 s : State} (hT : State.Touch l s0 s) 
    (hl : ∀ p ∈ ([.mgt, .chans, .alc, .can, .eth, .ana, .srv, .saf, .port] : List Part), p ∈ l) : State.Touch l s0 (State.holdEnd s) := by
  have k : State.Touch [.mgt, .chans, .alc, .can, .eth, .ana, .srv, .saf, .port] s (State.holdEnd s) := by
    unfold State.holdEnd
    try dsimp only
    iterate 60 all_goals try first
      | with_reducible assumption
      | with_reducible exact State.Touch.refl _ _
      | with_reducible refine State.Touch.set ?_ _ _
      | with_reducible refine State.Touch.safOp ?_ _ _ (fun u hu => ?_) (by decide)
      | with_reducible refine State.Touch.holdEvent ?_ (by decide)
      | with_reducible refine State.Touch.modTech ?_ _ _ (by decide)
      | with_reducible refine State.Touch.ite ?_ ?_
      | split
  exact hT.call k hl

theorem State.Touch.reportedSync {l : List Part} {s0 s : State} (hT : State.Touch l s0 s) 
    (hl : ∀ p ∈ ([.saf] : List Part), p ∈ l) : State.Touch l s0 (State.reportedSync s) := by
  have k : State.Touch [.saf] s (State.reportedSync s) := by
    unfold State.reportedSync
    try dsimp only
    iterate 60 all_goals try first
      | with_reducible assumption
      | with_reducible exact State.Touch.refl _ _
      | with_reducible refine State.Touch.each ?_ _ _ (fun x u hu => ?_)
      | with_reducible refine State.Touch.fnSync ?_ _ (by decide)
      | with_reducible refine State.Touch.ite ?_ ?_
      | split
      | with_reducible refine State.Touch.upd_saf ?_ _ (by decide)
  exact hT.call k hl

theorem State.Touch.slateLoad {l : List Part} {s0 s : State} (hT : State.Touch l s0 s)  (c : SafetyCfg)
    (hl : ∀ p ∈ ([.chans, .alc, .srv, .saf, .port] : List Part), p ∈ l) : State.Touch l s0 (State.slateLoad s c) := by
  have k : State.Touch [.chans, .alc, .srv, .saf, .port] s (State.slateLoad s c) := by
    unfold State.slateLoad
    try dsimp only
    iterate 60 all_goals try first
      | with_reducible assumption
      | with_reducible exact State.Touch.refl _ _
      | with_reducible refine State.Touch.set ?_ _ _
      | with_reducible refine State.Touch.each ?_ _ _ (fun x u hu => ?_)
      | with_reducible refine State.Touch.modTech ?_ _ _ (by decide)
      | with_reducible refine State.Touch.pairStop ?_ _ _ (by decide)
      | with_reducible refine State.Touch.reportedSync ?_ (by decide)
      | with_reducible refine State.Touch.ite ?_ ?_
      | split
  exact hT.call k hl

theorem State.Touch.tableCheck {l : List Part} {s0 s : State} (hT : State.Touch l s0 s) 
    (hl : ∀ p ∈ ([.mgt, .chans, .alc, .can, .eth, .ana, .srv, .saf, .port] : List Part), p ∈ l) : State.Touch l s0 (State.tableCheck s) := by
  have k : State.Touch [.mgt, .chans, .alc, .can, .eth, .ana, .srv, .saf, .port] s (State.tableCheck s) := by
    unfold State.tableCheck
    try dsimp only
    iterate 60 all_goals try first
      | with_reducible assumption
      | with_reducible exact State.Touch.refl _ _
      | with_reducible refine State.Touch.setBit ?_ _ _
      | with_reducible refine State.Touch.safOp ?_ _ _ (fun u hu => ?_) (by decide)
      | with_reducible refine State.Touch.foldl ?_ _ _ (fun x u hu => ?_)
      | with_reducible refine State.Touch.faultBoth ?_ _ (by decide)
      | with_reducible refine State.Touch.modTech ?_ _ _ (by decide)
      | with_reducible refine State.Touch.modView ?_ _ _ _ (by decide)
      | with_reducible refine State.Touch.ite ?_ ?_
      | split
  exact hT.call k hl

theorem State.Touch.reloadResult {l : List Part} {s0 s : State} (hT : State.Touch l s0 s)  (code : Nat) (data : List Byte)
    (hl : ∀ p ∈ ([.mgt, .saf] : List Part), p ∈ l) : State.Touch l s0 (State.reloadResult s code data) := by
  have k : State.Touch [.mgt, .saf] s (State.reloadResult s code data) := by
    unfold State.reloadResult
    try dsimp only
    iterate 60 all_goals try first
      | with_reducible assumption
      | with_reducible exact State.Touch.refl _ _
      | with_reducible refine State.Touch.result ?_ _ _ _ (by decide)
      | with_reducible refine State.Touch.ite ?_ ?_
      | split
      | with_reducible refine State.Touch.upd_saf ?_ _ (by decide)
  exact hT.call k hl

theorem State.Touch.cobaltBoot {l : List Part} {s0 s : State} (hT : State.Touch l s0 s)  (ok : Bool) (c : SafetyCfg) (maj min_ : Nat)
    (hl : ∀ p ∈ ([.mgt, .chans, .alc, .can, .eth, .ana, .srv, .saf, .port] : List Part), p ∈ l) : State.Touch l s0 (State.cobaltBoot s ok c maj min_) := by
  have k : State.Touch [.mgt, .chans, .alc, .can, .eth, .ana, .srv, .saf, .port] s (State.cobaltBoot s ok c maj min_) := by
    unfold State.cobaltBoot
    try dsimp only
    iterate 60 all_goals try first
      | with_reducible assumption
      | with_reducible exact State.Touch.refl _ _
      | with_reducible refine State.Touch.set ?_ _ _
      | with_reducible refine State.Touch.setBit ?_ _ _
      | with_reducible refine State.Touch.modTech ?_ _ _ (by decide)
      | with_reducible refine State.Touch.reloadResult ?_ _ _ (by decide)
      | with_reducible refine State.Touch.reportedSync ?_ (by decide)
      | with_reducible refine State.Touch.startStep ?_ _ (by decide)
      | with_reducible refine State.Touch.tableCheck ?_ (by decide)
      | with_reducible refine State.Touch.ite ?_ ?_
      | split
  exact hT.call k hl

theorem State.Touch.imgRefuse {l : List Part} {s0 s : State} (hT : State.Touch l s0 s)  (code addr : Nat)
    (hl : ∀ p ∈ ([] : List Part), p ∈ l) : State.Touch l s0 (State.imgRefuse s code addr) := by
  have k : State.Touch [] s (State.imgRefuse s code addr) := by
    unfold State.imgRefuse
    try dsimp only
    iterate 60 all_goals try first
      | with_reducible assumption
      | with_reducible exact State.Touch.refl _ _
      | with_reducible refine State.Touch.set ?_ _ _
      | with_reducible refine State.Touch.refuse ?_ _ _ _ (by decide)
      | with_reducible refine State.Touch.ite ?_ ?_
      | split
  exact hT.call k hl

theorem State.Touch.safetyReload {l : List Part} {s0 s : State} (hT : State.Touch l s0 s)  (r : Req) (what bank : Nat)
    (hl : ∀ p ∈ ([.saf] : List Part), p ∈ l) : State.Touch l s0 (State.safetyReload s r what bank).1 := by
  have k : State.Touch [.saf] s (State.safetyReload s r what bank).1 := by
    unfold State.safetyReload
    try dsimp only
    iterate 60 all_goals try first
      | with_reducible assumption
      | with_reducible exact State.Touch.refl _ _
      | with_reducible refine State.Touch.set ?_ _ _
      | with_reducible refine State.Touch.imgRefuse ?_ _ _ (by decide)
      | with_reducible refine State.Touch.modTech ?_ _ _ (by decide)
      | with_reducible refine State.Touch.refuse ?_ _ _ _ (by decide)
      | with_reducible refine State.Touch.ite ?_ ?_
      | split
      | with_reducible refine State.Touch.upd_saf ?_ _ (by decide)
  exact hT.call k hl

theorem State.Touch.coverSync {l : List Part} {s0 s : State} (hT : State.Touch l s0 s)  (before : BitVec 16)
    (hl : ∀ p ∈ ([.chans, .alc, .srv, .port] : List Part), p ∈ l) : State.Touch l s0 (State.coverSync s before) := by
  have k : State.Touch [.chans, .alc, .srv, .port] s (State.coverSync s before) := by
    unfold State.coverSync
    try dsimp only
    iterate 60 all_goals try first
      | with_reducible assumption
      | with_reducible exact State.Touch.refl _ _
      | with_reducible refine State.Touch.each ?_ _ _ (fun x u hu => ?_)
      | with_reducible refine State.Touch.servoStop ?_ _ (by decide)
      | with_reducible refine State.Touch.thrClear ?_ _ _ (by decide)
      | with_reducible refine State.Touch.thrRemove ?_ _ _ _ (by decide)
      | with_reducible refine State.Touch.ite ?_ ?_
      | split
  exact hT.call k hl

theorem State.Touch.slateReloaded {l : List Part} {s0 s : State} (hT : State.Touch l s0 s)  (c : SafetyCfg)
    (hl : ∀ p ∈ ([.chans, .alc, .srv, .saf, .port] : List Part), p ∈ l) : State.Touch l s0 (State.slateReloaded s c) := by
  have k : State.Touch [.chans, .alc, .srv, .saf, .port] s (State.slateReloaded s c) := by
    unfold State.slateReloaded
    try dsimp only
    iterate 60 all_goals try first
      | with_reducible assumption
      | with_reducible exact State.Touch.refl _ _
      | with_reducible refine State.Touch.coverSync ?_ _ (by decide)
      | with_reducible refine State.Touch.mirrorSafe ?_ (by decide)
      | with_reducible refine State.Touch.modTech ?_ _ _ (by decide)
      | with_reducible refine State.Touch.reportedSync ?_ (by decide)
      | with_reducible refine State.Touch.ite ?_ ?_
      | split
  exact hT.call k hl

theorem State.Touch.reloadTimeout {l : List Part} {s0 s : State} (hT : State.Touch l s0 s) 
    (hl : ∀ p ∈ ([.mgt, .saf] : List Part), p ∈ l) : State.Touch l s0 (State.reloadTimeout s) := by
  have k : State.Touch [.mgt, .saf] s (State.reloadTimeout s) := by
    unfold State.reloadTimeout
    try dsimp only
    iterate 60 all_goals try first
      | with_reducible assumption
      | with_reducible exact State.Touch.refl _ _
      | with_reducible refine State.Touch.reloadResult ?_ _ _ (by decide)
      | with_reducible refine State.Touch.ite ?_ ?_
      | split
  exact hT.call k hl

end Sys2Proof.Machine
end

