-- ==== Sys2Proof/Laws/Touch/Can.lean ====
section
/-!
SUPPORT. Sys2Proof/Laws/Touch/Can.lean: which parts of the state each operation of Machine/Can.lean may change.
-/
set_option linter.all false
set_option maxRecDepth 4000
namespace Sys2Proof.Machine

theorem State.Touch.canEvent {l : List Part} {s0 s : State} (hT : State.Touch l s0 s)  (n code : Nat)
    (hl : ∀ p ∈ ([.port] : List Part), p ∈ l) : State.Touch l s0 (State.canEvent s n code) := by
  have k : State.Touch [.port] s (State.canEvent s n code) := by
    unfold State.canEvent
    try dsimp only
    iterate 60 all_goals try first
      | with_reducible assumption
      | with_reducible exact State.Touch.refl _ _
      | with_reducible refine State.Touch.raise ?_ _ _ _
      | with_reducible refine State.Touch.ite ?_ ?_
      | split
  exact hT.call k hl

theorem State.Touch.canRefuse {l : List Part} {s0 s : State} (hT : State.Touch l s0 s)  (n code addr : Nat)
    (hl : ∀ p ∈ ([] : List Part), p ∈ l) : State.Touch l s0 (State.canRefuse s n code addr) := by
  have k : State.Touch [] s (State.canRefuse s n code addr) := by
    unfold State.canRefuse
    try dsimp only
    iterate 60 all_goals try first
      | with_reducible assumption
      | with_reducible exact State.Touch.refl _ _
      | with_reducible refine State.Touch.set ?_ _ _
      | with_reducible refine State.Touch.refuse ?_ _ _ _ (by decide)
      | with_reducible refine State.Touch.ite ?_ ?_
      | split
  exact hT.call k hl

theorem State.Touch.pairSync {l : List Part} {s0 s : State} (hT : State.Touch l s0 s)  (n : Nat)
    (hl : ∀ p ∈ ([] : List Part), p ∈ l) : State.Touch l s0 (State.pairSync s n) := by
  have k : State.Touch [] s (State.pairSync s n) := by
    unfold State.pairSync
    try dsimp only
    iterate 60 all_goals try first
      | with_reducible assumption
      | with_reducible exact State.Touch.refl _ _
      | with_reducible refine State.Touch.setBit ?_ _ _
      | with_reducible refine State.Touch.ite ?_ ?_
      | split
  exact hT.call k hl

theorem State.Touch.canDiscard {l : List Part} {s0 s : State} (hT : State.Touch l s0 s)  (n : Nat)
    (hl : ∀ p ∈ ([.can] : List Part), p ∈ l) : State.Touch l s0 (State.canDiscard s n) := by
  have k : State.Touch [.can] s (State.canDiscard s n) := by
    unfold State.canDiscard
    try dsimp only
    iterate 60 all_goals try first
      | with_reducible assumption
      | with_reducible exact State.Touch.refl _ _
      | with_reducible refine State.Touch.countBy ?_ _ _
      | with_reducible refine State.Touch.foldl ?_ _ _ (fun x u hu => ?_)
      | with_reducible refine State.Touch.modCan ?_ _ _ (by decide)
      | with_reducible refine State.Touch.ite ?_ ?_
      | split
  exact hT.call k hl

theorem State.Touch.canErrState {l : List Part} {s0 s : State} (hT : State.Touch l s0 s)  (n : Nat)
    (hl : ∀ p ∈ ([] : List Part), p ∈ l) : State.Touch l s0 (State.canErrState s n) := by
  have k : State.Touch [] s (State.canErrState s n) := by
    unfold State.canErrState
    try dsimp only
    iterate 60 all_goals try first
      | with_reducible assumption
      | with_reducible exact State.Touch.refl _ _
      | with_reducible refine State.Touch.set ?_ _ _
      | with_reducible refine State.Touch.setBit ?_ _ _
      | with_reducible refine State.Touch.ite ?_ ?_
      | split
  exact hT.call k hl

theorem State.Touch.canBusoff {l : List Part} {s0 s : State} (hT : State.Touch l s0 s)  (n : Nat)
    (hl : ∀ p ∈ ([.can, .port] : List Part), p ∈ l) : State.Touch l s0 (State.canBusoff s n) := by
  have k : State.Touch [.can, .port] s (State.canBusoff s n) := by
    unfold State.canBusoff
    try dsimp only
    iterate 60 all_goals try first
      | with_reducible assumption
      | with_reducible exact State.Touch.refl _ _
      | with_reducible refine State.Touch.set ?_ _ _
      | with_reducible refine State.Touch.count ?_ _
      | with_reducible refine State.Touch.canDiscard ?_ _ (by decide)
      | with_reducible refine State.Touch.canEvent ?_ _ _ (by decide)
      | with_reducible refine State.Touch.pairSync ?_ _ (by decide)
      | with_reducible refine State.Touch.ite ?_ ?_
      | split
  exact hT.call k hl

theorem State.Touch.canTecUp {l : List Part} {s0 s : State} (hT : State.Touch l s0 s)  (n : Nat)
    (hl : ∀ p ∈ ([.can, .port] : List Part), p ∈ l) : State.Touch l s0 (State.canTecUp s n) := by
  have k : State.Touch [.can, .port] s (State.canTecUp s n) := by
    unfold State.canTecUp
    try dsimp only
    iterate 60 all_goals try first
      | with_reducible assumption
      | with_reducible exact State.Touch.refl _ _
      | with_reducible refine State.Touch.set ?_ _ _
      | with_reducible refine State.Touch.canBusoff ?_ _ (by decide)
      | with_reducible refine State.Touch.canErrState ?_ _ (by decide)
      | with_reducible refine State.Touch.ite ?_ ?_
      | split
  exact hT.call k hl

theorem State.Touch.canRecUp {l : List Part} {s0 s : State} (hT : State.Touch l s0 s)  (n k : Nat)
    (hl : ∀ p ∈ ([] : List Part), p ∈ l) : State.Touch l s0 (State.canRecUp s n k) := by
  have k : State.Touch [] s (State.canRecUp s n k) := by
    unfold State.canRecUp
    try dsimp only
    iterate 60 all_goals try first
      | with_reducible assumption
      | with_reducible exact State.Touch.refl _ _
      | with_reducible refine State.Touch.countBy ?_ _ _
      | with_reducible refine State.Touch.canErrState ?_ _ (by decide)
      | with_reducible refine State.Touch.ite ?_ ?_
      | split
  exact hT.call k hl

theorem State.Touch.canRecDown {l : List Part} {s0 s : State} (hT : State.Touch l s0 s)  (n : Nat)
    (hl : ∀ p ∈ ([.freeCtr] : List Part), p ∈ l) : State.Touch l s0 (State.canRecDown s n) := by
  have k : State.Touch [.freeCtr] s (State.canRecDown s n) := by
    unfold State.canRecDown
    try dsimp only
    iterate 60 all_goals try first
      | with_reducible assumption
      | with_reducible exact State.Touch.refl _ _
      | with_reducible refine State.Touch.set ?_ _ _
      | with_reducible refine State.Touch.canErrState ?_ _ (by decide)
      | with_reducible refine State.Touch.fresh ?_ (by decide)
      | with_reducible refine State.Touch.ite ?_ ?_
      | split
  exact hT.call k hl

theorem State.Touch.canAckOk {l : List Part} {s0 s : State} (hT : State.Touch l s0 s)  (n : Nat)
    (hl : ∀ p ∈ ([] : List Part), p ∈ l) : State.Touch l s0 (State.canAckOk s n) := by
  have k : State.Touch [] s (State.canAckOk s n) := by
    unfold State.canAckOk
    try dsimp only
    iterate 60 all_goals try first
      | with_reducible assumption
      | with_reducible exact State.Touch.refl _ _
      | with_reducible refine State.Touch.set ?_ _ _
      | with_reducible refine State.Touch.ite ?_ ?_
      | split
  exact hT.call k hl

theorem State.Touch.canApplyMode {l : List Part} {s0 s : State} (hT : State.Touch l s0 s)  (n m : Nat)
    (hl : ∀ p ∈ ([.can] : List Part), p ∈ l) : State.Touch l s0 (State.canApplyMode s n m) := by
  have k : State.Touch [.can] s (State.canApplyMode s n m) := by
    unfold State.canApplyMode
    try dsimp only
    iterate 60 all_goals try first
      | with_reducible assumption
      | with_reducible exact State.Touch.refl _ _
      | with_reducible refine State.Touch.set ?_ _ _
      | with_reducible refine State.Touch.canDiscard ?_ _ (by decide)
      | with_reducible refine State.Touch.modCan ?_ _ _ (by decide)
      | with_reducible refine State.Touch.pairSync ?_ _ (by decide)
      | with_reducible refine State.Touch.ite ?_ ?_
      | split
  exact hT.call k hl

theorem State.Touch.canSetMode {l : List Part} {s0 s : State} (hT : State.Touch l s0 s)  (n m : Nat)
    (hl : ∀ p ∈ ([.can] : List Part), p ∈ l) : State.Touch l s0 (State.canSetMode s n m) := by
  have k : State.Touch [.can] s (State.canSetMode s n m) := by
    unfold State.canSetMode
    try dsimp only
    iterate 60 all_goals try first
      | with_reducible assumption
      | with_reducible exact State.Touch.refl _ _
      | with_reducible refine State.Touch.canApplyMode ?_ _ _ (by decide)
      | with_reducible refine State.Touch.modCan ?_ _ _ (by decide)
      | with_reducible refine State.Touch.ite ?_ ?_
      | split
  exact hT.call k hl

theorem State.Touch.canRole {l : List Part} {s0 s : State} (hT : State.Touch l s0 s)  (normal : Bool)
    (hl : ∀ p ∈ ([.can] : List Part), p ∈ l) : State.Touch l s0 (State.canRole s normal) := by
  have k : State.Touch [.can] s (State.canRole s normal) := by
    unfold State.canRole
    try dsimp only
    iterate 60 all_goals try first
      | with_reducible assumption
      | with_reducible exact State.Touch.refl _ _
      | with_reducible refine State.Touch.each ?_ _ _ (fun x u hu => ?_)
      | with_reducible refine State.Touch.canSetMode ?_ _ _ (by decide)
      | with_reducible refine State.Touch.ite ?_ ?_
      | split
  exact hT.call k hl

theorem State.Touch.canCtrlMode {l : List Part} {s0 s : State} (hT : State.Touch l s0 s)  (n m : Nat)
    (hl : ∀ p ∈ ([.can] : List Part), p ∈ l) : State.Touch l s0 (State.canCtrlMode s n m) := by
  have k : State.Touch [.can] s (State.canCtrlMode s n m) := by
    unfold State.canCtrlMode
    try dsimp only
    iterate 60 all_goals try first
      | with_reducible assumption
      | with_reducible exact State.Touch.refl _ _
      | with_reducible refine State.Touch.canRefuse ?_ _ _ _ (by decide)
      | with_reducible refine State.Touch.canSetMode ?_ _ _ (by decide)
      | with_reducible refine State.Touch.ite ?_ ?_
      | split
  exact hT.call k hl

theorem State.Touch.canBusIdle {l : List Part} {s0 s : State} (hT : State.Touch l s0 s)  (n : Nat)
    (hl : ∀ p ∈ ([] : List Part), p ∈ l) : State.Touch l s0 (State.canBusIdle s n) := by
  have k : State.Touch [] s (State.canBusIdle s n) := by
    unfold State.canBusIdle
    try dsimp only
    iterate 60 all_goals try first
      | with_reducible assumption
      | with_reducible exact State.Touch.refl _ _
      | with_reducible refine State.Touch.set ?_ _ _
      | with_reducible refine State.Touch.canErrState ?_ _ (by decide)
      | with_reducible refine State.Touch.pairSync ?_ _ (by decide)
      | with_reducible refine State.Touch.ite ?_ ?_
      | split
  exact hT.call k hl

theorem State.Touch.canBoRecover {l : List Part} {s0 s : State} (hT : State.Touch l s0 s)  (n : Nat)
    (hl : ∀ p ∈ ([.can] : List Part), p ∈ l) : State.Touch l s0 (State.canBoRecover s n) := by
  have k : State.Touch [.can] s (State.canBoRecover s n) := by
    unfold State.canBoRecover
    try dsimp only
    iterate 60 all_goals try first
      | with_reducible assumption
      | with_reducible exact State.Touch.refl _ _
      | with_reducible refine State.Touch.modCan ?_ _ _ (by decide)
      | with_reducible refine State.Touch.ite ?_ ?_
      | split
  exact hT.call k hl

theorem State.Touch.busoffRecovered {l : List Part} {s0 s : State} (hT : State.Touch l s0 s)  (n : Nat)
    (hl : ∀ p ∈ ([.can] : List Part), p ∈ l) : State.Touch l s0 (State.busoffRecovered s n) := by
  have k : State.Touch [.can] s (State.busoffRecovered s n) := by
    unfold State.busoffRecovered
    try dsimp only
    iterate 60 all_goals try first
      | with_reducible assumption
      | with_reducible exact State.Touch.refl _ _
      | with_reducible refine State.Touch.set ?_ _ _
      | with_reducible refine State.Touch.modCan ?_ _ _ (by decide)
      | with_reducible refine State.Touch.pairSync ?_ _ (by decide)
      | with_reducible refine State.Touch.ite ?_ ?_
      | split
  exact hT.call k hl

theorem State.Touch.canLimp {l : List Part} {s0 s : State} (hT : State.Touch l s0 s) 
    (hl : ∀ p ∈ ([.can, .port] : List Part), p ∈ l) : State.Touch l s0 (State.canLimp s) := by
  have k : State.Touch [.can, .port] s (State.canLimp s) := by
    unfold State.canLimp
    try dsimp only
    iterate 60 all_goals try first
      | with_reducible assumption
      | with_reducible exact State.Touch.refl _ _
      | with_reducible refine State.Touch.set ?_ _ _
      | with_reducible refine State.Touch.each ?_ _ _ (fun x u hu => ?_)
      | with_reducible refine State.Touch.canApplyMode ?_ _ _ (by decide)
      | with_reducible refine State.Touch.canEvent ?_ _ _ (by decide)
      | with_reducible refine State.Touch.ite ?_ ?_
      | split
  exact hT.call k hl

theorem State.Touch.canNextCand {l : List Part} {s0 s : State} (hT : State.Touch l s0 s)  (n : Nat)
    (hl : ∀ p ∈ ([.can] : List Part), p ∈ l) : State.Touch l s0 (State.canNextCand s n) := by
  have k : State.Touch [.can] s (State.canNextCand s n) := by
    unfold State.canNextCand
    try dsimp only
    iterate 60 all_goals try first
      | with_reducible assumption
      | with_reducible exact State.Touch.refl _ _
      | with_reducible refine State.Touch.modCan ?_ _ _ (by decide)
      | with_reducible refine State.Touch.ite ?_ ?_
      | split
  exact hT.call k hl

theorem State.Touch.canDetect {l : List Part} {s0 s : State} (hT : State.Touch l s0 s)  (n : Nat)
    (hl : ∀ p ∈ ([.can, .port] : List Part), p ∈ l) : State.Touch l s0 (State.canDetect s n) := by
  have k : State.Touch [.can, .port] s (State.canDetect s n) := by
    unfold State.canDetect
    try dsimp only
    iterate 60 all_goals try first
      | with_reducible assumption
      | with_reducible exact State.Touch.refl _ _
      | with_reducible refine State.Touch.wr ?_ _ _
      | with_reducible refine State.Touch.set ?_ _ _
      | with_reducible refine State.Touch.canApplyMode ?_ _ _ (by decide)
      | with_reducible refine State.Touch.canEvent ?_ _ _ (by decide)
      | with_reducible refine State.Touch.modCan ?_ _ _ (by decide)
      | with_reducible refine State.Touch.ite ?_ ?_
      | split
  exact hT.call k hl

theorem State.Touch.detDwell {l : List Part} {s0 s : State} (hT : State.Touch l s0 s)  (n : Nat)
    (hl : ∀ p ∈ ([.can] : List Part), p ∈ l) : State.Touch l s0 (State.detDwell s n) := by
  have k : State.Touch [.can] s (State.detDwell s n) := by
    unfold State.detDwell
    try dsimp only
    iterate 60 all_goals try first
      | with_reducible assumption
      | with_reducible exact State.Touch.refl _ _
      | with_reducible refine State.Touch.canNextCand ?_ _ (by decide)
      | with_reducible refine State.Touch.ite ?_ ?_
      | split
  exact hT.call k hl

theorem State.Touch.canNoRate {l : List Part} {s0 s : State} (hT : State.Touch l s0 s)  (n : Nat)
    (hl : ∀ p ∈ ([.port] : List Part), p ∈ l) : State.Touch l s0 (State.canNoRate s n) := by
  have k : State.Touch [.port] s (State.canNoRate s n) := by
    unfold State.canNoRate
    try dsimp only
    iterate 60 all_goals try first
      | with_reducible assumption
      | with_reducible exact State.Touch.refl _ _
      | with_reducible refine State.Touch.set ?_ _ _
      | with_reducible refine State.Touch.canEvent ?_ _ _ (by decide)
      | with_reducible refine State.Touch.ite ?_ ?_
      | split
  exact hT.call k hl

theorem State.Touch.ttSwapBanks {l : List Part} {s0 s : State} (hT : State.Touch l s0 s)  (n : Nat)
    (hl : ∀ p ∈ ([] : List Part), p ∈ l) : State.Touch l s0 (State.ttSwapBanks s n) := by
  have k : State.Touch [] s (State.ttSwapBanks s n) := by
    unfold State.ttSwapBanks
    try dsimp only
    iterate 60 all_goals try first
      | with_reducible assumption
      | with_reducible exact State.Touch.refl _ _
      | with_reducible refine State.Touch.set ?_ _ _
      | with_reducible refine State.Touch.ite ?_ ?_
      | split
  exact hT.call k hl

theorem State.Touch.canTtswap {l : List Part} {s0 s : State} (hT : State.Touch l s0 s)  (n : Nat)
    (hl : ∀ p ∈ ([] : List Part), p ∈ l) : State.Touch l s0 (State.canTtswap s n) := by
  have k : State.Touch [] s (State.canTtswap s n) := by
    unfold State.canTtswap
    try dsimp only
    iterate 60 all_goals try first
      | with_reducible assumption
      | with_reducible exact State.Touch.refl _ _
      | with_reducible refine State.Touch.set ?_ _ _
      | with_reducible refine State.Touch.canRefuse ?_ _ _ _ (by decide)
      | with_reducible refine State.Touch.ttSwapBanks ?_ _ (by decide)
      | with_reducible refine State.Touch.ite ?_ ?_
      | split
  exact hT.call k hl

theorem State.Touch.ttMark {l : List Part} {s0 s : State} (hT : State.Touch l s0 s)  (n mark c : Nat)
    (hl : ∀ p ∈ ([.can] : List Part), p ∈ l) : State.Touch l s0 (State.ttMark s n mark c) := by
  have k : State.Touch [.can] s (State.ttMark s n mark c) := by
    unfold State.ttMark
    try dsimp only
    iterate 60 all_goals try first
      | with_reducible assumption
      | with_reducible exact State.Touch.refl _ _
      | with_reducible refine State.Touch.set ?_ _ _
      | with_reducible refine State.Touch.modCan ?_ _ _ (by decide)
      | with_reducible refine State.Touch.ttSwapBanks ?_ _ (by decide)
      | with_reducible refine State.Touch.ite ?_ ?_
      | split
  exact hT.call k hl

theorem State.Touch.ttSendRef {l : List Part} {s0 s : State} (hT : State.Touch l s0 s)  (n c : Nat)
    (hl : ∀ p ∈ ([.can] : List Part), p ∈ l) : State.Touch l s0 (State.ttSendRef s n c) := by
  have k : State.Touch [.can] s (State.ttSendRef s n c) := by
    unfold State.ttSendRef
    try dsimp only
    iterate 60 all_goals try first
      | with_reducible assumption
      | with_reducible exact State.Touch.refl _ _
      | with_reducible refine State.Touch.modCan ?_ _ _ (by decide)
      | with_reducible refine State.Touch.ttMark ?_ _ _ _ (by decide)
      | with_reducible refine State.Touch.ite ?_ ?_
      | split
  exact hT.call k hl

theorem State.Touch.ttMaster {l : List Part} {s0 s : State} (hT : State.Touch l s0 s)  (n : Nat) (own : Bool) (prio : Nat)
    (hl : ∀ p ∈ ([] : List Part), p ∈ l) : State.Touch l s0 (State.ttMaster s n own prio) := by
  have k : State.Touch [] s (State.ttMaster s n own prio) := by
    unfold State.ttMaster
    try dsimp only
    iterate 60 all_goals try first
      | with_reducible assumption
      | with_reducible exact State.Touch.refl _ _
      | with_reducible refine State.Touch.set ?_ _ _
      | with_reducible refine State.Touch.setBit ?_ _ _
      | with_reducible refine State.Touch.ite ?_ ?_
      | split
  exact hT.call k hl

theorem State.Touch.basicCycle {l : List Part} {s0 s : State} (hT : State.Touch l s0 s)  (n : Nat)
    (hl : ∀ p ∈ ([.can] : List Part), p ∈ l) : State.Touch l s0 (State.basicCycle s n) := by
  have k : State.Touch [.can] s (State.basicCycle s n) := by
    unfold State.basicCycle
    try dsimp only
    iterate 60 all_goals try first
      | with_reducible assumption
      | with_reducible exact State.Touch.refl _ _
      | with_reducible refine State.Touch.setBit ?_ _ _
      | with_reducible refine State.Touch.modCan ?_ _ _ (by decide)
      | with_reducible refine State.Touch.ttMaster ?_ _ _ _ (by decide)
      | with_reducible refine State.Touch.ttSendRef ?_ _ _ (by decide)
      | with_reducible refine State.Touch.ite ?_ ?_
      | split
  exact hT.call k hl

theorem State.Touch.ttBackup {l : List Part} {s0 s : State} (hT : State.Touch l s0 s)  (n : Nat)
    (hl : ∀ p ∈ ([.can] : List Part), p ∈ l) : State.Touch l s0 (State.ttBackup s n) := by
  have k : State.Touch [.can] s (State.ttBackup s n) := by
    unfold State.ttBackup
    try dsimp only
    iterate 60 all_goals try first
      | with_reducible assumption
      | with_reducible exact State.Touch.refl _ _
      | with_reducible refine State.Touch.set ?_ _ _
      | with_reducible refine State.Touch.count ?_ _
      | with_reducible refine State.Touch.ttMaster ?_ _ _ _ (by decide)
      | with_reducible refine State.Touch.ttSendRef ?_ _ _ (by decide)
      | with_reducible refine State.Touch.ite ?_ ?_
      | split
  exact hT.call k hl

theorem State.Touch.ttReference {l : List Part} {s0 s : State} (hT : State.Touch l s0 s)  (n stamp : Nat) (f : CanFrame)
    (hl : ∀ p ∈ ([.can] : List Part), p ∈ l) : State.Touch l s0 (State.ttReference s n stamp f) := by
  have k : State.Touch [.can] s (State.ttReference s n stamp f) := by
    unfold State.ttReference
    try dsimp only
    iterate 60 all_goals try first
      | with_reducible assumption
      | with_reducible exact State.Touch.refl _ _
      | with_reducible refine State.Touch.set ?_ _ _
      | with_reducible refine State.Touch.modCan ?_ _ _ (by decide)
      | with_reducible refine State.Touch.ttMark ?_ _ _ _ (by decide)
      | with_reducible refine State.Touch.ttMaster ?_ _ _ _ (by decide)
      | with_reducible refine State.Touch.ite ?_ ?_
      | split
  exact hT.call k hl

theorem State.Touch.canLoad {l : List Part} {s0 s : State} (hT : State.Touch l s0 s)  (n o : Nat)
    (hl : ∀ p ∈ ([.chans, .can] : List Part), p ∈ l) : State.Touch l s0 (State.canLoad s n o) := by
  have k : State.Touch [.chans, .can] s (State.canLoad s n o) := by
    unfold State.canLoad
    try dsimp only
    iterate 60 all_goals try first
      | with_reducible assumption
      | with_reducible exact State.Touch.refl _ _
      | with_reducible refine State.Touch.modChan ?_ _ _ _ (by decide)
      | with_reducible refine State.Touch.modObj ?_ _ _ _ (by decide)
      | with_reducible refine State.Touch.ite ?_ ?_
      | split
  exact hT.call k hl

theorem State.Touch.canTxStart {l : List Part} {s0 s : State} (hT : State.Touch l s0 s)  (n : Nat) (fits : Bool)
    (hl : ∀ p ∈ ([.chans, .can] : List Part), p ∈ l) : State.Touch l s0 (State.canTxStart s n fits) := by
  have k : State.Touch [.chans, .can] s (State.canTxStart s n fits) := by
    unfold State.canTxStart
    try dsimp only
    iterate 60 all_goals try first
      | with_reducible assumption
      | with_reducible exact State.Touch.refl _ _
      | with_reducible refine State.Touch.canLoad ?_ _ _ (by decide)
      | with_reducible refine State.Touch.modCan ?_ _ _ (by decide)
      | with_reducible refine State.Touch.ite ?_ ?_
      | split
  exact hT.call k hl

theorem State.Touch.ttWindowStart {l : List Part} {s0 s : State} (hT : State.Touch l s0 s)  (n j : Nat) (fits : Bool)
    (hl : ∀ p ∈ ([.chans, .can] : List Part), p ∈ l) : State.Touch l s0 (State.ttWindowStart s n j fits) := by
  have k : State.Touch [.chans, .can] s (State.ttWindowStart s n j fits) := by
    unfold State.ttWindowStart
    try dsimp only
    iterate 60 all_goals try first
      | with_reducible assumption
      | with_reducible exact State.Touch.refl _ _
      | with_reducible refine State.Touch.canTxStart ?_ _ _ (by decide)
      | with_reducible refine State.Touch.modCan ?_ _ _ (by decide)
      | with_reducible refine State.Touch.ite ?_ ?_
      | split
  exact hT.call k hl

theorem State.Touch.canPop {l : List Part} {s0 s : State} (hT : State.Touch l s0 s)  (n o : Nat)
    (hl : ∀ p ∈ ([.can] : List Part), p ∈ l) : State.Touch l s0 (State.canPop s n o) := by
  have k : State.Touch [.can] s (State.canPop s n o) := by
    unfold State.canPop
    try dsimp only
    iterate 60 all_goals try first
      | with_reducible assumption
      | with_reducible exact State.Touch.refl _ _
      | with_reducible refine State.Touch.modObj ?_ _ _ _ (by decide)
      | with_reducible refine State.Touch.ite ?_ ?_
      | split
  exact hT.call k hl

theorem State.Touch.canLeft {l : List Part} {s0 s : State} (hT : State.Touch l s0 s)  (n o : Nat)
    (hl : ∀ p ∈ ([.mgt, .can] : List Part), p ∈ l) : State.Touch l s0 (State.canLeft s n o) := by
  have k : State.Touch [.mgt, .can] s (State.canLeft s n o) := by
    unfold State.canLeft
    try dsimp only
    iterate 60 all_goals try first
      | with_reducible assumption
      | with_reducible exact State.Touch.refl _ _
      | with_reducible refine State.Touch.canPop ?_ _ _ (by decide)
      | with_reducible refine State.Touch.toSubs ?_ _ (by decide)
      | with_reducible refine State.Touch.ite ?_ ?_
      | split
  exact hT.call k hl

theorem State.Touch.canReturn {l : List Part} {s0 s : State} (hT : State.Touch l s0 s)  (n o : Nat)
    (hl : ∀ p ∈ ([.chans, .can] : List Part), p ∈ l) : State.Touch l s0 (State.canReturn s n o) := by
  have k : State.Touch [.chans, .can] s (State.canReturn s n o) := by
    unfold State.canReturn
    try dsimp only
    iterate 60 all_goals try first
      | with_reducible assumption
      | with_reducible exact State.Touch.refl _ _
      | with_reducible refine State.Touch.canPop ?_ _ _ (by decide)
      | with_reducible refine State.Touch.modChan ?_ _ _ _ (by decide)
      | with_reducible refine State.Touch.ite ?_ ?_
      | split
  exact hT.call k hl

theorem State.Touch.cancDone {l : List Part} {s0 s : State} (hT : State.Touch l s0 s)  (n result : Nat)
    (hl : ∀ p ∈ ([] : List Part), p ∈ l) : State.Touch l s0 (State.cancDone s n result) := by
  have k : State.Touch [] s (State.cancDone s n result) := by
    unfold State.cancDone
    try dsimp only
    iterate 60 all_goals try first
      | with_reducible assumption
      | with_reducible exact State.Touch.refl _ _
      | with_reducible refine State.Touch.set ?_ _ _
      | with_reducible refine State.Touch.ite ?_ ?_
      | split
  exact hT.call k hl

theorem State.Touch.canCancelled {l : List Part} {s0 s : State} (hT : State.Touch l s0 s)  (n o : Nat)
    (hl : ∀ p ∈ ([.chans, .can] : List Part), p ∈ l) : State.Touch l s0 (State.canCancelled s n o) := by
  have k : State.Touch [.chans, .can] s (State.canCancelled s n o) := by
    unfold State.canCancelled
    try dsimp only
    iterate 60 all_goals try first
      | with_reducible assumption
      | with_reducible exact State.Touch.refl _ _
      | with_reducible refine State.Touch.set ?_ _ _
      | with_reducible refine State.Touch.canReturn ?_ _ _ (by decide)
      | with_reducible refine State.Touch.cancDone ?_ _ _ (by decide)
      | with_reducible refine State.Touch.ite ?_ ?_
      | split
  exact hT.call k hl

theorem State.Touch.canTxcancel {l : List Part} {s0 s : State} (hT : State.Touch l s0 s)  (n o : Nat)
    (hl : ∀ p ∈ ([.chans, .can] : List Part), p ∈ l) : State.Touch l s0 (State.canTxcancel s n o) := by
  have k : State.Touch [.chans, .can] s (State.canTxcancel s n o) := by
    unfold State.canTxcancel
    try dsimp only
    iterate 60 all_goals try first
      | with_reducible assumption
      | with_reducible exact State.Touch.refl _ _
      | with_reducible refine State.Touch.set ?_ _ _
      | with_reducible refine State.Touch.canCancelled ?_ _ _ (by decide)
      | with_reducible refine State.Touch.cancDone ?_ _ _ (by decide)
      | with_reducible refine State.Touch.ite ?_ ?_
      | split
  exact hT.call k hl

theorem State.Touch.canUnsent {l : List Part} {s0 s : State} (hT : State.Touch l s0 s)  (n o : Nat) (window noAck : Bool)
    (hl : ∀ p ∈ ([.mgt, .chans, .can] : List Part), p ∈ l) : State.Touch l s0 (State.canUnsent s n o window noAck) := by
  have k : State.Touch [.mgt, .chans, .can] s (State.canUnsent s n o window noAck) := by
    unfold State.canUnsent
    try dsimp only
    iterate 60 all_goals try first
      | with_reducible assumption
      | with_reducible exact State.Touch.refl _ _
      | with_reducible refine State.Touch.count ?_ _
      | with_reducible refine State.Touch.canCancelled ?_ _ _ (by decide)
      | with_reducible refine State.Touch.canLeft ?_ _ _ (by decide)
      | with_reducible refine State.Touch.ite ?_ ?_
      | split
  exact hT.call k hl

theorem State.Touch.canNoAck {l : List Part} {s0 s : State} (hT : State.Touch l s0 s)  (n : Nat)
    (hl : ∀ p ∈ ([.can, .port] : List Part), p ∈ l) : State.Touch l s0 (State.canNoAck s n) := by
  have k : State.Touch [.can, .port] s (State.canNoAck s n) := by
    unfold State.canNoAck
    try dsimp only
    iterate 60 all_goals try first
      | with_reducible assumption
      | with_reducible exact State.Touch.refl _ _
      | with_reducible refine State.Touch.set ?_ _ _
      | with_reducible refine State.Touch.count ?_ _
      | with_reducible refine State.Touch.canEvent ?_ _ _ (by decide)
      | with_reducible refine State.Touch.canTecUp ?_ _ (by decide)
      | with_reducible refine State.Touch.ite ?_ ?_
      | split
  exact hT.call k hl

theorem State.Touch.canErr {l : List Part} {s0 s : State} (hT : State.Touch l s0 s)  (n code : Nat) (fast : Bool)
    (hl : ∀ p ∈ ([] : List Part), p ∈ l) : State.Touch l s0 (State.canErr s n code fast) := by
  have k : State.Touch [] s (State.canErr s n code fast) := by
    unfold State.canErr
    try dsimp only
    iterate 60 all_goals try first
      | with_reducible assumption
      | with_reducible exact State.Touch.refl _ _
      | with_reducible refine State.Touch.set ?_ _ _
      | with_reducible refine State.Touch.ite ?_ ?_
      | split
  exact hT.call k hl

theorem State.Touch.canAcked {l : List Part} {s0 s : State} (hT : State.Touch l s0 s)  (n : Nat)
    (hl : ∀ p ∈ ([] : List Part), p ∈ l) : State.Touch l s0 (State.canAcked s n) := by
  have k : State.Touch [] s (State.canAcked s n) := by
    unfold State.canAcked
    try dsimp only
    iterate 60 all_goals try first
      | with_reducible assumption
      | with_reducible exact State.Touch.refl _ _
      | with_reducible refine State.Touch.set ?_ _ _
      | with_reducible refine State.Touch.count ?_ _
      | with_reducible refine State.Touch.canAckOk ?_ _ (by decide)
      | with_reducible refine State.Touch.canErrState ?_ _ (by decide)
      | with_reducible refine State.Touch.ite ?_ ?_
      | split
  exact hT.call k hl

theorem State.Touch.canFrameEnd {l : List Part} {s0 s : State} (hT : State.Touch l s0 s)  (n : Nat)
    (hl : ∀ p ∈ ([.can] : List Part), p ∈ l) : State.Touch l s0 (State.canFrameEnd s n) := by
  have k : State.Touch [.can] s (State.canFrameEnd s n) := by
    unfold State.canFrameEnd
    try dsimp only
    iterate 60 all_goals try first
      | with_reducible assumption
      | with_reducible exact State.Touch.refl _ _
      | with_reducible refine State.Touch.canApplyMode ?_ _ _ (by decide)
      | with_reducible refine State.Touch.canDiscard ?_ _ (by decide)
      | with_reducible refine State.Touch.ite ?_ ?_
      | split
  exact hT.call k hl

theorem State.Touch.canTxEnd {l : List Part} {s0 s : State} (hT : State.Touch l s0 s)  (n : Nat) (how : CanTxEnd) (loopDelay : Nat)
    (hl : ∀ p ∈ ([.mgt, .chans, .can, .port] : List Part), p ∈ l) : State.Touch l s0 (State.canTxEnd s n how loopDelay) := by
  have k : State.Touch [.mgt, .chans, .can, .port] s (State.canTxEnd s n how loopDelay) := by
    unfold State.canTxEnd
    try dsimp only
    iterate 60 all_goals try first
      | with_reducible assumption
      | with_reducible exact State.Touch.refl _ _
      | with_reducible refine State.Touch.set ?_ _ _
      | with_reducible refine State.Touch.canAcked ?_ _ (by decide)
      | with_reducible refine State.Touch.canErr ?_ _ _ _ (by decide)
      | with_reducible refine State.Touch.canFrameEnd ?_ _ (by decide)
      | with_reducible refine State.Touch.canLeft ?_ _ _ (by decide)
      | with_reducible refine State.Touch.canNoAck ?_ _ (by decide)
      | with_reducible refine State.Touch.canTecUp ?_ _ (by decide)
      | with_reducible refine State.Touch.canUnsent ?_ _ _ _ _ (by decide)
      | with_reducible refine State.Touch.cancDone ?_ _ _ (by decide)
      | with_reducible refine State.Touch.modCan ?_ _ _ (by decide)
      | with_reducible refine State.Touch.ite ?_ ?_
      | split
  exact hT.call k hl

theorem State.Touch.canConsume {l : List Part} {s0 s : State} (hT : State.Touch l s0 s)  (n o stamp : Nat) (rec_ data : List Byte) (r : Option Reading)
    (hl : ∀ p ∈ ([.mgt, .chans, .fus, .ctl, .alc, .can, .eth, .ana] : List Part), p ∈ l) : State.Touch l s0 (State.canConsume s n o stamp rec_ data r) := by
  have k : State.Touch [.mgt, .chans, .fus, .ctl, .alc, .can, .eth, .ana] s (State.canConsume s n o stamp rec_ data r) := by
    unfold State.canConsume
    try dsimp only
    iterate 60 all_goals try first
      | with_reducible assumption
      | with_reducible exact State.Touch.refl _ _
      | with_reducible refine State.Touch.set ?_ _ _
      | with_reducible refine State.Touch.consume ?_ _ _ _ _ _ _ (by decide)
      | with_reducible refine State.Touch.driveMsg ?_ _ _ (by decide)
      | with_reducible refine State.Touch.modObj ?_ _ _ _ (by decide)
      | with_reducible refine State.Touch.powerMsg ?_ _ (by decide)
      | with_reducible refine State.Touch.umberOut ?_ _ _ _ (by decide)
      | with_reducible refine State.Touch.ite ?_ ?_
      | split
  exact hT.call k hl

theorem State.Touch.canDeliver {l : List Part} {s0 s : State} (hT : State.Touch l s0 s)  (n o stamp : Nat) (f : CanFrame) (data : List Byte) (r : Option Reading)
    (hl : ∀ p ∈ ([.mgt, .chans, .fus, .ctl, .alc, .can, .eth, .ana] : List Part), p ∈ l) : State.Touch l s0 (State.canDeliver s n o stamp f data r) := by
  have k : State.Touch [.mgt, .chans, .fus, .ctl, .alc, .can, .eth, .ana] s (State.canDeliver s n o stamp f data r) := by
    unfold State.canDeliver
    try dsimp only
    iterate 60 all_goals try first
      | with_reducible assumption
      | with_reducible exact State.Touch.refl _ _
      | with_reducible refine State.Touch.canConsume ?_ _ _ _ _ _ _ (by decide)
      | with_reducible refine State.Touch.modObj ?_ _ _ _ (by decide)
      | with_reducible refine State.Touch.ite ?_ ?_
      | split
  exact hT.call k hl

theorem State.Touch.reasmDrop {l : List Part} {s0 s : State} (hT : State.Touch l s0 s)  (n o : Nat)
    (hl : ∀ p ∈ ([.can] : List Part), p ∈ l) : State.Touch l s0 (State.reasmDrop s n o) := by
  have k : State.Touch [.can] s (State.reasmDrop s n o) := by
    unfold State.reasmDrop
    try dsimp only
    iterate 60 all_goals try first
      | with_reducible assumption
      | with_reducible exact State.Touch.refl _ _
      | with_reducible refine State.Touch.count ?_ _
      | with_reducible refine State.Touch.modObj ?_ _ _ _ (by decide)
      | with_reducible refine State.Touch.ite ?_ ?_
      | split
  exact hT.call k hl

theorem State.Touch.reasmStart {l : List Part} {s0 s : State} (hT : State.Touch l s0 s)  (n o limit : Nat) (a : CanAsm)
    (hl : ∀ p ∈ ([.can] : List Part), p ∈ l) : State.Touch l s0 (State.reasmStart s n o limit a) := by
  have k : State.Touch [.can] s (State.reasmStart s n o limit a) := by
    unfold State.reasmStart
    try dsimp only
    iterate 60 all_goals try first
      | with_reducible assumption
      | with_reducible exact State.Touch.refl _ _
      | with_reducible refine State.Touch.count ?_ _
      | with_reducible refine State.Touch.modObj ?_ _ _ _ (by decide)
      | with_reducible refine State.Touch.reasmDrop ?_ _ _ (by decide)
      | with_reducible refine State.Touch.ite ?_ ?_
      | split
  exact hT.call k hl

theorem State.Touch.reasmEnd {l : List Part} {s0 s : State} (hT : State.Touch l s0 s)  (n o : Nat) (f : CanFrame) (r : Option Reading)
    (hl : ∀ p ∈ ([.mgt, .chans, .fus, .ctl, .alc, .can, .eth, .ana] : List Part), p ∈ l) : State.Touch l s0 (State.reasmEnd s n o f r) := by
  have k : State.Touch [.mgt, .chans, .fus, .ctl, .alc, .can, .eth, .ana] s (State.reasmEnd s n o f r) := by
    unfold State.reasmEnd
    try dsimp only
    iterate 60 all_goals try first
      | with_reducible assumption
      | with_reducible exact State.Touch.refl _ _
      | with_reducible refine State.Touch.canDeliver ?_ _ _ _ _ _ _ (by decide)
      | with_reducible refine State.Touch.modObj ?_ _ _ _ (by decide)
      | with_reducible refine State.Touch.ite ?_ ?_
      | split
  exact hT.call k hl

theorem State.Touch.reasmNext {l : List Part} {s0 s : State} (hT : State.Touch l s0 s)  (n o key num : Nat) (data : List Byte)
    (hl : ∀ p ∈ ([.can] : List Part), p ∈ l) : State.Touch l s0 (State.reasmNext s n o key num data) := by
  have k : State.Touch [.can] s (State.reasmNext s n o key num data) := by
    unfold State.reasmNext
    try dsimp only
    iterate 60 all_goals try first
      | with_reducible assumption
      | with_reducible exact State.Touch.refl _ _
      | with_reducible refine State.Touch.modObj ?_ _ _ _ (by decide)
      | with_reducible refine State.Touch.reasmDrop ?_ _ _ (by decide)
      | with_reducible refine State.Touch.ite ?_ ?_
      | split
  exact hT.call k hl

theorem State.Touch.n2kFast {l : List Part} {s0 s : State} (hT : State.Touch l s0 s)  (n o stamp : Nat) (f : CanFrame) (r : Option Reading)
    (hl : ∀ p ∈ ([.mgt, .chans, .fus, .ctl, .alc, .can, .eth, .ana] : List Part), p ∈ l) : State.Touch l s0 (State.n2kFast s n o stamp f r) := by
  have k : State.Touch [.mgt, .chans, .fus, .ctl, .alc, .can, .eth, .ana] s (State.n2kFast s n o stamp f r) := by
    unfold State.n2kFast
    try dsimp only
    iterate 60 all_goals try first
      | with_reducible assumption
      | with_reducible exact State.Touch.refl _ _
      | with_reducible refine State.Touch.reasmEnd ?_ _ _ _ _ (by decide)
      | with_reducible refine State.Touch.reasmNext ?_ _ _ _ _ _ (by decide)
      | with_reducible refine State.Touch.reasmStart ?_ _ _ _ _ (by decide)
      | with_reducible refine State.Touch.ite ?_ ?_
      | split
  exact hT.call k hl

theorem State.Touch.j1939Bam {l : List Part} {s0 s : State} (hT : State.Touch l s0 s)  (n o stamp : Nat) (f : CanFrame) (r : Option Reading)
    (hl : ∀ p ∈ ([.mgt, .chans, .fus, .ctl, .alc, .can, .eth, .ana] : List Part), p ∈ l) : State.Touch l s0 (State.j1939Bam s n o stamp f r) := by
  have k : State.Touch [.mgt, .chans, .fus, .ctl, .alc, .can, .eth, .ana] s (State.j1939Bam s n o stamp f r) := by
    unfold State.j1939Bam
    try dsimp only
    iterate 60 all_goals try first
      | with_reducible assumption
      | with_reducible exact State.Touch.refl _ _
      | with_reducible refine State.Touch.reasmEnd ?_ _ _ _ _ (by decide)
      | with_reducible refine State.Touch.reasmNext ?_ _ _ _ _ _ (by decide)
      | with_reducible refine State.Touch.reasmStart ?_ _ _ _ _ (by decide)
      | with_reducible refine State.Touch.ite ?_ ?_
      | split
  exact hT.call k hl

theorem State.Touch.reasmTimeout {l : List Part} {s0 s : State} (hT : State.Touch l s0 s)  (n o : Nat)
    (hl : ∀ p ∈ ([.can] : List Part), p ∈ l) : State.Touch l s0 (State.reasmTimeout s n o) := by
  have k : State.Touch [.can] s (State.reasmTimeout s n o) := by
    unfold State.reasmTimeout
    try dsimp only
    iterate 60 all_goals try first
      | with_reducible assumption
      | with_reducible exact State.Touch.refl _ _
      | with_reducible refine State.Touch.reasmDrop ?_ _ _ (by decide)
      | with_reducible refine State.Touch.ite ?_ ?_
      | split
  exact hT.call k hl

theorem State.Touch.canDupFrame {l : List Part} {s0 s : State} (hT : State.Touch l s0 s)  (n o stamp : Nat) (f : CanFrame) (r : Option Reading)
    (hl : ∀ p ∈ ([.mgt, .chans, .fus, .ctl, .alc, .can, .eth, .ana, .port] : List Part), p ∈ l) : State.Touch l s0 (State.canDupFrame s n o stamp f r) := by
  have k : State.Touch [.mgt, .chans, .fus, .ctl, .alc, .can, .eth, .ana, .port] s (State.canDupFrame s n o stamp f r) := by
    unfold State.canDupFrame
    try dsimp only
    iterate 60 all_goals try first
      | with_reducible assumption
      | with_reducible exact State.Touch.refl _ _
      | with_reducible refine State.Touch.set ?_ _ _
      | with_reducible refine State.Touch.count ?_ _
      | with_reducible refine State.Touch.canDeliver ?_ _ _ _ _ _ _ (by decide)
      | with_reducible refine State.Touch.canEvent ?_ _ _ (by decide)
      | with_reducible refine State.Touch.modCan ?_ _ _ (by decide)
      | with_reducible refine State.Touch.ite ?_ ?_
      | split
  exact hT.call k hl

theorem State.Touch.canHeard {l : List Part} {s0 s : State} (hT : State.Touch l s0 s)  (n o : Nat)
    (hl : ∀ p ∈ ([.can] : List Part), p ∈ l) : State.Touch l s0 (State.canHeard s n o) := by
  have k : State.Touch [.can] s (State.canHeard s n o) := by
    unfold State.canHeard
    try dsimp only
    iterate 60 all_goals try first
      | with_reducible assumption
      | with_reducible exact State.Touch.refl _ _
      | with_reducible refine State.Touch.modObj ?_ _ _ _ (by decide)
      | with_reducible refine State.Touch.pairSync ?_ _ (by decide)
      | with_reducible refine State.Touch.ite ?_ ?_
      | split
  exact hT.call k hl

theorem State.Touch.pairRxTimeout {l : List Part} {s0 s : State} (hT : State.Touch l s0 s)  (n o : Nat)
    (hl : ∀ p ∈ ([.can] : List Part), p ∈ l) : State.Touch l s0 (State.pairRxTimeout s n o) := by
  have k : State.Touch [.can] s (State.pairRxTimeout s n o) := by
    unfold State.pairRxTimeout
    try dsimp only
    iterate 60 all_goals try first
      | with_reducible assumption
      | with_reducible exact State.Touch.refl _ _
      | with_reducible refine State.Touch.modObj ?_ _ _ _ (by decide)
      | with_reducible refine State.Touch.pairSync ?_ _ (by decide)
      | with_reducible refine State.Touch.ite ?_ ?_
      | split
  exact hT.call k hl

theorem State.Touch.canAccept {l : List Part} {s0 s : State} (hT : State.Touch l s0 s)  (n o stamp : Nat) (f : CanFrame) (r : Option Reading)
    (hl : ∀ p ∈ ([.mgt, .chans, .fus, .ctl, .alc, .can, .eth, .ana, .port] : List Part), p ∈ l) : State.Touch l s0 (State.canAccept s n o stamp f r) := by
  have k : State.Touch [.mgt, .chans, .fus, .ctl, .alc, .can, .eth, .ana, .port] s (State.canAccept s n o stamp f r) := by
    unfold State.canAccept
    try dsimp only
    iterate 60 all_goals try first
      | with_reducible assumption
      | with_reducible exact State.Touch.refl _ _
      | with_reducible refine State.Touch.count ?_ _
      | with_reducible refine State.Touch.canDeliver ?_ _ _ _ _ _ _ (by decide)
      | with_reducible refine State.Touch.canDupFrame ?_ _ _ _ _ _ (by decide)
      | with_reducible refine State.Touch.canHeard ?_ _ _ (by decide)
      | with_reducible refine State.Touch.j1939Bam ?_ _ _ _ _ _ (by decide)
      | with_reducible refine State.Touch.n2kFast ?_ _ _ _ _ _ (by decide)
      | with_reducible refine State.Touch.ite ?_ ?_
      | split
  exact hT.call k hl

theorem State.Touch.canFiltered {l : List Part} {s0 s : State} (hT : State.Touch l s0 s)  (n stamp : Nat) (f : CanFrame) (r : Option Reading)
    (hl : ∀ p ∈ ([.mgt, .chans, .fus, .ctl, .alc, .can, .eth, .ana, .port] : List Part), p ∈ l) : State.Touch l s0 (State.canFiltered s n stamp f r) := by
  have k : State.Touch [.mgt, .chans, .fus, .ctl, .alc, .can, .eth, .ana, .port] s (State.canFiltered s n stamp f r) := by
    unfold State.canFiltered
    try dsimp only
    iterate 60 all_goals try first
      | with_reducible assumption
      | with_reducible exact State.Touch.refl _ _
      | with_reducible refine State.Touch.canAccept ?_ _ _ _ _ _ (by decide)
      | with_reducible refine State.Touch.ite ?_ ?_
      | split
  exact hT.call k hl

theorem State.Touch.canSlotStore {l : List Part} {s0 s : State} (hT : State.Touch l s0 s)  (n k stamp : Nat) (f : CanFrame)
    (hl : ∀ p ∈ ([.port] : List Part), p ∈ l) : State.Touch l s0 (State.canSlotStore s n k stamp f) := by
  have k : State.Touch [.port] s (State.canSlotStore s n k stamp f) := by
    unfold State.canSlotStore
    try dsimp only
    iterate 60 all_goals try first
      | with_reducible assumption
      | with_reducible exact State.Touch.refl _ _
      | with_reducible refine State.Touch.wr ?_ _ _
      | with_reducible refine State.Touch.set ?_ _ _
      | with_reducible refine State.Touch.raise ?_ _ _ _
      | with_reducible refine State.Touch.each ?_ _ _ (fun x u hu => ?_)
      | with_reducible refine State.Touch.ite ?_ ?_
      | split
  exact hT.call k hl

theorem State.Touch.canValid {l : List Part} {s0 s : State} (hT : State.Touch l s0 s)  (n : Nat)
    (hl : ∀ p ∈ ([.freeCtr] : List Part), p ∈ l) : State.Touch l s0 (State.canValid s n) := by
  have k : State.Touch [.freeCtr] s (State.canValid s n) := by
    unfold State.canValid
    try dsimp only
    iterate 60 all_goals try first
      | with_reducible assumption
      | with_reducible exact State.Touch.refl _ _
      | with_reducible refine State.Touch.count ?_ _
      | with_reducible refine State.Touch.canAckOk ?_ _ (by decide)
      | with_reducible refine State.Touch.canRecDown ?_ _ (by decide)
      | with_reducible refine State.Touch.ite ?_ ?_
      | split
  exact hT.call k hl

theorem State.Touch.canFrameRx {l : List Part} {s0 s : State} (hT : State.Touch l s0 s)  (n : Nat) (f : CanFrame) (ageNs : Nat) (r : Option Reading)
    (hl : ∀ p ∈ ([.mgt, .chans, .fus, .ctl, .alc, .can, .eth, .ana, .freeCtr, .port] : List Part), p ∈ l) : State.Touch l s0 (State.canFrameRx s n f ageNs r) := by
  have k : State.Touch [.mgt, .chans, .fus, .ctl, .alc, .can, .eth, .ana, .freeCtr, .port] s (State.canFrameRx s n f ageNs r) := by
    unfold State.canFrameRx
    try dsimp only
    iterate 60 all_goals try first
      | with_reducible assumption
      | with_reducible exact State.Touch.refl _ _
      | with_reducible refine State.Touch.count ?_ _
      | with_reducible refine State.Touch.canDetect ?_ _ (by decide)
      | with_reducible refine State.Touch.canFiltered ?_ _ _ _ _ (by decide)
      | with_reducible refine State.Touch.canSlotStore ?_ _ _ _ _ (by decide)
      | with_reducible refine State.Touch.canValid ?_ _ (by decide)
      | with_reducible refine State.Touch.ttReference ?_ _ _ _ (by decide)
      | with_reducible refine State.Touch.ite ?_ ?_
      | split
  exact hT.call k hl

theorem State.Touch.canRxError {l : List Part} {s0 s : State} (hT : State.Touch l s0 s)  (n code : Nat) (fast dominant : Bool)
    (hl : ∀ p ∈ ([.can] : List Part), p ∈ l) : State.Touch l s0 (State.canRxError s n code fast dominant) := by
  have k : State.Touch [.can] s (State.canRxError s n code fast dominant) := by
    unfold State.canRxError
    try dsimp only
    iterate 60 all_goals try first
      | with_reducible assumption
      | with_reducible exact State.Touch.refl _ _
      | with_reducible refine State.Touch.canErr ?_ _ _ _ (by decide)
      | with_reducible refine State.Touch.canNextCand ?_ _ (by decide)
      | with_reducible refine State.Touch.canRecUp ?_ _ _ (by decide)
      | with_reducible refine State.Touch.ite ?_ ?_
      | split
  exact hT.call k hl

theorem State.Touch.canObjen {l : List Part} {s0 s : State} (hT : State.Touch l s0 s)  (n w : Nat) (v : Word)
    (hl : ∀ p ∈ ([] : List Part), p ∈ l) : State.Touch l s0 (State.canObjen s n w v) := by
  have k : State.Touch [] s (State.canObjen s n w v) := by
    unfold State.canObjen
    try dsimp only
    iterate 60 all_goals try first
      | with_reducible assumption
      | with_reducible exact State.Touch.refl _ _
      | with_reducible refine State.Touch.wr ?_ _ _
      | with_reducible refine State.Touch.canRefuse ?_ _ _ _ (by decide)
      | with_reducible refine State.Touch.ite ?_ ?_
      | split
  exact hT.call k hl

theorem State.Touch.canReinitStart {l : List Part} {s0 s : State} (hT : State.Touch l s0 s)  (n : Nat)
    (hl : ∀ p ∈ ([.can] : List Part), p ∈ l) : State.Touch l s0 (State.canReinitStart s n) := by
  have k : State.Touch [.can] s (State.canReinitStart s n) := by
    unfold State.canReinitStart
    try dsimp only
    iterate 60 all_goals try first
      | with_reducible assumption
      | with_reducible exact State.Touch.refl _ _
      | with_reducible refine State.Touch.canDiscard ?_ _ (by decide)
      | with_reducible refine State.Touch.modCan ?_ _ _ (by decide)
      | with_reducible refine State.Touch.pairSync ?_ _ (by decide)
      | with_reducible refine State.Touch.ite ?_ ?_
      | split
  exact hT.call k hl

theorem State.Touch.canReinitDone {l : List Part} {s0 s : State} (hT : State.Touch l s0 s)  (n : Nat)
    (hl : ∀ p ∈ ([.can] : List Part), p ∈ l) : State.Touch l s0 (State.canReinitDone s n) := by
  have k : State.Touch [.can] s (State.canReinitDone s n) := by
    unfold State.canReinitDone
    try dsimp only
    iterate 60 all_goals try first
      | with_reducible assumption
      | with_reducible exact State.Touch.refl _ _
      | with_reducible refine State.Touch.wr ?_ _ _
      | with_reducible refine State.Touch.set ?_ _ _
      | with_reducible refine State.Touch.setBit ?_ _ _
      | with_reducible refine State.Touch.each ?_ _ _ (fun x u hu => ?_)
      | with_reducible refine State.Touch.canApplyMode ?_ _ _ (by decide)
      | with_reducible refine State.Touch.canDiscard ?_ _ (by decide)
      | with_reducible refine State.Touch.ite ?_ ?_
      | split
      | with_reducible refine State.Touch.upd_can ?_ _ (by decide)
      | with_reducible refine State.Touch.regs ?_ _
  exact hT.call k hl

theorem State.Touch.canCntClr {l : List Part} {s0 s : State} (hT : State.Touch l s0 s)  (n : Nat)
    (hl : ∀ p ∈ ([] : List Part), p ∈ l) : State.Touch l s0 (State.canCntClr s n) := by
  have k : State.Touch [] s (State.canCntClr s n) := by
    unfold State.canCntClr
    try dsimp only
    iterate 60 all_goals try first
      | with_reducible assumption
      | with_reducible exact State.Touch.refl _ _
      | with_reducible refine State.Touch.wr ?_ _ _
      | with_reducible refine State.Touch.ite ?_ ?_
      | split
  exact hT.call k hl

end Sys2Proof.Machine
end

