-- ==== Sys2Proof/Laws/Touch/Eth.lean ====
section
/-!
SUPPORT. Sys2Proof/Laws/Touch/Eth.lean: which parts of the state each operation of Machine/Eth.lean may change.
-/
set_option linter.all false
set_option maxRecDepth 4000
namespace Sys2Proof.Machine

theorem State.Touch.ethRefuse {l : List Part} {s0 s : State} (hT : State.Touch l s0 s)  (p code addr : Nat)
    (hl : ∀ p ∈ ([] : List Part), p ∈ l) : State.Touch l s0 (State.ethRefuse s p code addr) := by
  have k : State.Touch [] s (State.ethRefuse s p code addr) := by
    unfold State.ethRefuse
    try dsimp only
    iterate 60 all_goals try first
      | with_reducible assumption
      | with_reducible exact State.Touch.refl _ _
      | with_reducible refine State.Touch.set ?_ _ _
      | with_reducible refine State.Touch.refuse ?_ _ _ _ (by decide)
      | with_reducible refine State.Touch.ite ?_ ?_
      | split
  exact hT.call k hl

theorem State.Touch.linkDown {l : List Part} {s0 s : State} (hT : State.Touch l s0 s)  (p : Nat)
    (hl : ∀ p ∈ ([] : List Part), p ∈ l) : State.Touch l s0 (State.linkDown s p) := by
  have k : State.Touch [] s (State.linkDown s p) := by
    unfold State.linkDown
    try dsimp only
    iterate 60 all_goals try first
      | with_reducible assumption
      | with_reducible exact State.Touch.refl _ _
      | with_reducible refine State.Touch.set ?_ _ _
      | with_reducible refine State.Touch.count ?_ _
      | with_reducible refine State.Touch.ite ?_ ?_
      | split
  exact hT.call k hl

theorem State.Touch.linkChange {l : List Part} {s0 s : State} (hT : State.Touch l s0 s)  (p : Nat) (up : Bool) (speed : Nat)
    (hl : ∀ p ∈ ([] : List Part), p ∈ l) : State.Touch l s0 (State.linkChange s p up speed) := by
  have k : State.Touch [] s (State.linkChange s p up speed) := by
    unfold State.linkChange
    try dsimp only
    iterate 60 all_goals try first
      | with_reducible assumption
      | with_reducible exact State.Touch.refl _ _
      | with_reducible refine State.Touch.set ?_ _ _
      | with_reducible refine State.Touch.setBit ?_ _ _
      | with_reducible refine State.Touch.linkDown ?_ _ (by decide)
      | with_reducible refine State.Touch.ite ?_ ?_
      | split
  exact hT.call k hl

theorem State.Touch.ethCfgEn {l : List Part} {s0 s : State} (hT : State.Touch l s0 s)  (p : Nat) (en : Bool)
    (hl : ∀ p ∈ ([] : List Part), p ∈ l) : State.Touch l s0 (State.ethCfgEn s p en) := by
  have k : State.Touch [] s (State.ethCfgEn s p en) := by
    unfold State.ethCfgEn
    try dsimp only
    iterate 60 all_goals try first
      | with_reducible assumption
      | with_reducible exact State.Touch.refl _ _
      | with_reducible refine State.Touch.set ?_ _ _
      | with_reducible refine State.Touch.setBit ?_ _ _
      | with_reducible refine State.Touch.ite ?_ ?_
      | split
  exact hT.call k hl

theorem State.Touch.ethStop {l : List Part} {s0 s : State} (hT : State.Touch l s0 s) 
    (hl : ∀ p ∈ ([] : List Part), p ∈ l) : State.Touch l s0 (State.ethStop s) := by
  have k : State.Touch [] s (State.ethStop s) := by
    unfold State.ethStop
    try dsimp only
    iterate 60 all_goals try first
      | with_reducible assumption
      | with_reducible exact State.Touch.refl _ _
      | with_reducible refine State.Touch.each ?_ _ _ (fun x u hu => ?_)
      | with_reducible refine State.Touch.linkDown ?_ _ (by decide)
      | with_reducible refine State.Touch.ite ?_ ?_
      | split
  exact hT.call k hl

theorem State.Touch.prpMismatch {l : List Part} {s0 s : State} (hT : State.Touch l s0 s)  (src : BitVec 48)
    (hl : ∀ p ∈ ([.port] : List Part), p ∈ l) : State.Touch l s0 (State.prpMismatch s src) := by
  have k : State.Touch [.port] s (State.prpMismatch s src) := by
    unfold State.prpMismatch
    try dsimp only
    iterate 60 all_goals try first
      | with_reducible assumption
      | with_reducible exact State.Touch.refl _ _
      | with_reducible refine State.Touch.count ?_ _
      | with_reducible refine State.Touch.raise ?_ _ _ _
      | with_reducible refine State.Touch.ite ?_ ?_
      | split
  exact hT.call k hl

theorem State.Touch.prpNodes {l : List Part} {s0 s : State} (hT : State.Touch l s0 s) 
    (hl : ∀ p ∈ ([.eth] : List Part), p ∈ l) : State.Touch l s0 (State.prpNodes s) := by
  have k : State.Touch [.eth] s (State.prpNodes s) := by
    unfold State.prpNodes
    try dsimp only
    iterate 60 all_goals try first
      | with_reducible assumption
      | with_reducible exact State.Touch.refl _ _
      | with_reducible refine State.Touch.set ?_ _ _
      | with_reducible refine State.Touch.ite ?_ ?_
      | split
      | with_reducible refine State.Touch.upd_eth ?_ _ (by decide)
  exact hT.call k hl

theorem State.Touch.prpSupervision {l : List Part} {s0 s : State} (hT : State.Touch l s0 s)  (src : BitVec 48)
    (hl : ∀ p ∈ ([.eth] : List Part), p ∈ l) : State.Touch l s0 (State.prpSupervision s src) := by
  have k : State.Touch [.eth] s (State.prpSupervision s src) := by
    unfold State.prpSupervision
    try dsimp only
    iterate 60 all_goals try first
      | with_reducible assumption
      | with_reducible exact State.Touch.refl _ _
      | with_reducible refine State.Touch.prpNodes ?_ (by decide)
      | with_reducible refine State.Touch.ite ?_ ?_
      | split
      | with_reducible refine State.Touch.upd_eth ?_ _ (by decide)
  exact hT.call k hl

theorem State.Touch.prpNote {l : List Part} {s0 s : State} (hT : State.Touch l s0 s)  (src : BitVec 48) (seq : BitVec 16) (crc : Word)
    (hl : ∀ p ∈ ([.eth] : List Part), p ∈ l) : State.Touch l s0 (State.prpNote s src seq crc) := by
  have k : State.Touch [.eth] s (State.prpNote s src seq crc) := by
    unfold State.prpNote
    try dsimp only
    iterate 60 all_goals try first
      | with_reducible assumption
      | with_reducible exact State.Touch.refl _ _
      | with_reducible refine State.Touch.ite ?_ ?_
      | split
      | with_reducible refine State.Touch.upd_eth ?_ _ (by decide)
  exact hT.call k hl

theorem State.Touch.prpHold {l : List Part} {s0 s : State} (hT : State.Touch l s0 s)  (lan : Nat) (src : BitVec 48) (seq : BitVec 16) (crc : Word)
    (hl : ∀ p ∈ ([.eth] : List Part), p ∈ l) : State.Touch l s0 (State.prpHold s lan src seq crc) := by
  have k : State.Touch [.eth] s (State.prpHold s lan src seq crc) := by
    unfold State.prpHold
    try dsimp only
    iterate 60 all_goals try first
      | with_reducible assumption
      | with_reducible exact State.Touch.refl _ _
      | with_reducible refine State.Touch.prpNote ?_ _ _ _ (by decide)
      | with_reducible refine State.Touch.ite ?_ ?_
      | split
      | with_reducible refine State.Touch.upd_eth ?_ _ (by decide)
  exact hT.call k hl

theorem State.Touch.prpUnhold {l : List Part} {s0 s : State} (hT : State.Touch l s0 s)  (src : BitVec 48) (seq : BitVec 16)
    (hl : ∀ p ∈ ([.eth] : List Part), p ∈ l) : State.Touch l s0 (State.prpUnhold s src seq) := by
  have k : State.Touch [.eth] s (State.prpUnhold s src seq) := by
    unfold State.prpUnhold
    try dsimp only
    iterate 60 all_goals try first
      | with_reducible assumption
      | with_reducible exact State.Touch.refl _ _
      | with_reducible refine State.Touch.ite ?_ ?_
      | split
      | with_reducible refine State.Touch.upd_eth ?_ _ (by decide)
  exact hT.call k hl

theorem State.Touch.prpFrame {l : List Part} {s0 s : State} (hT : State.Touch l s0 s)  (lan : Nat) (src : BitVec 48) (seq : BitVec 16) (crc : Word)
    (hl : ∀ p ∈ ([.eth, .port] : List Part), p ∈ l) : State.Touch l s0 (State.prpFrame s lan src seq crc) := by
  have k : State.Touch [.eth, .port] s (State.prpFrame s lan src seq crc) := by
    unfold State.prpFrame
    try dsimp only
    iterate 60 all_goals try first
      | with_reducible assumption
      | with_reducible exact State.Touch.refl _ _
      | with_reducible refine State.Touch.set ?_ _ _
      | with_reducible refine State.Touch.count ?_ _
      | with_reducible refine State.Touch.prpHold ?_ _ _ _ _ (by decide)
      | with_reducible refine State.Touch.prpMismatch ?_ _ (by decide)
      | with_reducible refine State.Touch.prpUnhold ?_ _ _ (by decide)
      | with_reducible refine State.Touch.ite ?_ ?_
      | split
      | with_reducible refine State.Touch.upd_eth ?_ _ (by decide)
  exact hT.call k hl

theorem State.Touch.ethFrameRx {l : List Part} {s0 s : State} (hT : State.Touch l s0 s)  (p : Nat) (f : EthRx)
    (hl : ∀ p ∈ ([.eth, .port] : List Part), p ∈ l) : State.Touch l s0 (State.ethFrameRx s p f) := by
  have k : State.Touch [.eth, .port] s (State.ethFrameRx s p f) := by
    unfold State.ethFrameRx
    try dsimp only
    iterate 60 all_goals try first
      | with_reducible assumption
      | with_reducible exact State.Touch.refl _ _
      | with_reducible refine State.Touch.count ?_ _
      | with_reducible refine State.Touch.prpFrame ?_ _ _ _ _ (by decide)
      | with_reducible refine State.Touch.prpSupervision ?_ _ (by decide)
      | with_reducible refine State.Touch.ite ?_ ?_
      | split
  exact hT.call k hl

theorem State.Touch.prpHoldExpired {l : List Part} {s0 s : State} (hT : State.Touch l s0 s)  (src : BitVec 48) (seq : BitVec 16)
    (hl : ∀ p ∈ ([.eth] : List Part), p ∈ l) : State.Touch l s0 (State.prpHoldExpired s src seq) := by
  have k : State.Touch [.eth] s (State.prpHoldExpired s src seq) := by
    unfold State.prpHoldExpired
    try dsimp only
    iterate 60 all_goals try first
      | with_reducible assumption
      | with_reducible exact State.Touch.refl _ _
      | with_reducible refine State.Touch.prpUnhold ?_ _ _ (by decide)
      | with_reducible refine State.Touch.ite ?_ ?_
      | split
  exact hT.call k hl

theorem State.Touch.prpForget {l : List Part} {s0 s : State} (hT : State.Touch l s0 s)  (src : BitVec 48)
    (hl : ∀ p ∈ ([.eth] : List Part), p ∈ l) : State.Touch l s0 (State.prpForget s src) := by
  have k : State.Touch [.eth] s (State.prpForget s src) := by
    unfold State.prpForget
    try dsimp only
    iterate 60 all_goals try first
      | with_reducible assumption
      | with_reducible exact State.Touch.refl _ _
      | with_reducible refine State.Touch.set ?_ _ _
      | with_reducible refine State.Touch.ite ?_ ?_
      | split
      | with_reducible refine State.Touch.upd_eth ?_ _ (by decide)
  exact hT.call k hl

theorem State.Touch.prpSupervisionTx {l : List Part} {s0 s : State} (hT : State.Touch l s0 s) 
    (hl : ∀ p ∈ ([.eth] : List Part), p ∈ l) : State.Touch l s0 (State.prpSupervisionTx s) := by
  have k : State.Touch [.eth] s (State.prpSupervisionTx s) := by
    unfold State.prpSupervisionTx
    try dsimp only
    iterate 60 all_goals try first
      | with_reducible assumption
      | with_reducible exact State.Touch.refl _ _
      | with_reducible refine State.Touch.ethQueue ?_ _ _ (by decide)
      | with_reducible refine State.Touch.prpNodes ?_ (by decide)
      | with_reducible refine State.Touch.ite ?_ ?_
      | split
      | with_reducible refine State.Touch.upd_eth ?_ _ (by decide)
  exact hT.call k hl

theorem State.Touch.egressSent {l : List Part} {s0 s : State} (hT : State.Touch l s0 s)  (mgmt : Bool)
    (hl : ∀ p ∈ ([.eth] : List Part), p ∈ l) : State.Touch l s0 (State.egressSent s mgmt) := by
  have k : State.Touch [.eth] s (State.egressSent s mgmt) := by
    unfold State.egressSent
    try dsimp only
    iterate 60 all_goals try first
      | with_reducible assumption
      | with_reducible exact State.Touch.refl _ _
      | with_reducible refine State.Touch.count ?_ _
      | with_reducible refine State.Touch.each ?_ _ _ (fun x u hu => ?_)
      | with_reducible refine State.Touch.ite ?_ ?_
      | split
      | with_reducible refine State.Touch.upd_eth ?_ _ (by decide)
  exact hT.call k hl

theorem State.Touch.egressTake {l : List Part} {s0 s : State} (hT : State.Touch l s0 s) (mgmt : Bool) (x : EgressItem)
    (hl : ∀ p ∈ ([.tb, .mgt, .eth] : List Part), p ∈ l) : State.Touch l s0 (s.egressTake mgmt x) := by
  have sub : ∀ (m : List Part), (∀ p ∈ m, p ∈ ([.tb, .mgt, .eth] : List Part)) → ∀ p ∈ m, p ∈ l := fun m hm p hp => hl p (hm p hp)
  cases x with
  | frame f =>
    refine State.Touch.egressSent ?_ _ (sub _ (by decide))
    cases mgmt <;> exact hT.trans (fun p hn => by cases p <;> first | rfl | exact ⟨rfl, rfl⟩ | exact List.prefix_rfl | exact absurd (hl _ (by decide)) hn)
  | ptp p k q t => exact (hT.trans (fun p hn => by cases p <;> first | rfl | exact ⟨rfl, rfl⟩ | exact List.prefix_rfl | exact absurd (hl _ (by decide)) hn)).count _
  | mgmt m =>
    refine State.Touch.egressSent ?_ _ (sub _ (by decide))
    cases mgmt <;> exact hT.trans (fun p hn => by cases p <;> first | rfl | exact ⟨rfl, rfl⟩ | exact List.prefix_rfl | exact absurd (hl _ (by decide)) hn)

theorem State.Touch.egressStart {l : List Part} {s0 s : State} (hT : State.Touch l s0 s)  (mgmt : Bool)
    (hl : ∀ p ∈ ([.tb, .mgt, .eth] : List Part), p ∈ l) : State.Touch l s0 (State.egressStart s mgmt) := by
  have k : State.Touch [.tb, .mgt, .eth] s (State.egressStart s mgmt) := by
    unfold State.egressStart
    try dsimp only
    iterate 60 all_goals try first
      | with_reducible assumption
      | with_reducible exact State.Touch.refl _ _
      | with_reducible refine State.Touch.egressTake ?_ _ _ (by decide)
      | with_reducible refine State.Touch.ite ?_ ?_
      | split
  exact hT.call k hl

theorem State.Touch.ethSwap {l : List Part} {s0 s : State} (hT : State.Touch l s0 s)  (mgmt : Bool)
    (hl : ∀ p ∈ ([] : List Part), p ∈ l) : State.Touch l s0 (State.ethSwap s mgmt) := by
  have k : State.Touch [] s (State.ethSwap s mgmt) := by
    unfold State.ethSwap
    try dsimp only
    iterate 60 all_goals try first
      | with_reducible assumption
      | with_reducible exact State.Touch.refl _ _
      | with_reducible refine State.Touch.set ?_ _ _
      | with_reducible refine State.Touch.refuse ?_ _ _ _ (by decide)
      | with_reducible refine State.Touch.ite ?_ ?_
      | split
  exact hT.call k hl

theorem State.Touch.ethSwapApply {l : List Part} {s0 s : State} (hT : State.Touch l s0 s) 
    (hl : ∀ p ∈ ([] : List Part), p ∈ l) : State.Touch l s0 (State.ethSwapApply s) := by
  have k : State.Touch [] s (State.ethSwapApply s) := by
    unfold State.ethSwapApply
    try dsimp only
    iterate 60 all_goals try first
      | with_reducible assumption
      | with_reducible exact State.Touch.refl _ _
      | with_reducible refine State.Touch.set ?_ _ _
      | with_reducible refine State.Touch.ite ?_ ?_
      | split
  exact hT.call k hl

theorem State.Touch.ethCntClr {l : List Part} {s0 s : State} (hT : State.Touch l s0 s) 
    (hl : ∀ p ∈ ([] : List Part), p ∈ l) : State.Touch l s0 (State.ethCntClr s) := by
  have k : State.Touch [] s (State.ethCntClr s) := by
    unfold State.ethCntClr
    try dsimp only
    iterate 60 all_goals try first
      | with_reducible assumption
      | with_reducible exact State.Touch.refl _ _
      | with_reducible refine State.Touch.wr ?_ _ _
      | with_reducible refine State.Touch.each ?_ _ _ (fun x u hu => ?_)
      | with_reducible refine State.Touch.ite ?_ ?_
      | split
  exact hT.call k hl

theorem State.Touch.mdioWrite {l : List Part} {s0 s : State} (hT : State.Touch l s0 s)  (v : Word)
    (hl : ∀ p ∈ ([] : List Part), p ∈ l) : State.Touch l s0 (State.mdioWrite s v) := by
  have k : State.Touch [] s (State.mdioWrite s v) := by
    unfold State.mdioWrite
    try dsimp only
    iterate 60 all_goals try first
      | with_reducible assumption
      | with_reducible exact State.Touch.refl _ _
      | with_reducible refine State.Touch.wr ?_ _ _
      | with_reducible refine State.Touch.set ?_ _ _
      | with_reducible refine State.Touch.ite ?_ ?_
      | split
  exact hT.call k hl

theorem State.Touch.mdioDone {l : List Part} {s0 s : State} (hT : State.Touch l s0 s)  (data : BitVec 16)
    (hl : ∀ p ∈ ([] : List Part), p ∈ l) : State.Touch l s0 (State.mdioDone s data) := by
  have k : State.Touch [] s (State.mdioDone s data) := by
    unfold State.mdioDone
    try dsimp only
    iterate 60 all_goals try first
      | with_reducible assumption
      | with_reducible exact State.Touch.refl _ _
      | with_reducible refine State.Touch.set ?_ _ _
      | with_reducible refine State.Touch.ite ?_ ?_
      | split
  exact hT.call k hl

theorem State.Touch.e450Tx {l : List Part} {s0 s : State} (hT : State.Touch l s0 s) 
    (hl : ∀ p ∈ ([.eth] : List Part), p ∈ l) : State.Touch l s0 (State.e450Tx s) := by
  have k : State.Touch [.eth] s (State.e450Tx s) := by
    unfold State.e450Tx
    try dsimp only
    iterate 60 all_goals try first
      | with_reducible assumption
      | with_reducible exact State.Touch.refl _ _
      | with_reducible refine State.Touch.ethQueue ?_ _ _ (by decide)
      | with_reducible refine State.Touch.ite ?_ ?_
      | split
      | with_reducible refine State.Touch.upd_eth ?_ _ (by decide)
  exact hT.call k hl

theorem State.Touch.ethReinitStart {l : List Part} {s0 s : State} (hT : State.Touch l s0 s)  (p : Nat)
    (hl : ∀ p ∈ ([.eth] : List Part), p ∈ l) : State.Touch l s0 (State.ethReinitStart s p) := by
  have k : State.Touch [.eth] s (State.ethReinitStart s p) := by
    unfold State.ethReinitStart
    try dsimp only
    iterate 60 all_goals try first
      | with_reducible assumption
      | with_reducible exact State.Touch.refl _ _
      | with_reducible refine State.Touch.set ?_ _ _
      | with_reducible refine State.Touch.ite ?_ ?_
      | split
      | with_reducible refine State.Touch.upd_eth ?_ _ (by decide)
  exact hT.call k hl

theorem State.Touch.ethReinitDone {l : List Part} {s0 s : State} (hT : State.Touch l s0 s) (p : Nat)
    (hl : ∀ p ∈ ([.eth] : List Part), p ∈ l) : State.Touch l s0 (s.ethReinitDone p) := by
  have h1 : State.Touch l s0 { { s with regs := s.regs.filter (fun (e : Nat × Word) => !ethWindow p e.1) } with
      eth := { s.eth with reinit := s.eth.reinit.filter (· ≠ p) } } :=
    (hT.regs (s.regs.filter (fun (e : Nat × Word) => !ethWindow p e.1))).trans (fun p hn => by cases p <;> first | rfl | exact ⟨rfl, rfl⟩ | exact List.prefix_rfl | exact absurd (hl _ (by decide)) hn)
  unfold State.ethReinitDone
  dsimp only
  split
  · exact State.Touch.each h1 _ _ (fun x u hu => hu.wr _ _)
  · exact h1

end Sys2Proof.Machine
end

