-- ==== Sys2Proof/Laws/Touch/Solver.lean ====
section
/-!
SUPPORT. Sys2Proof/Laws/Touch/Solver.lean: which parts of the state each operation of Machine/Solver.lean may change.
-/
set_option linter.all false
set_option maxRecDepth 4000
namespace Sys2Proof.Machine

theorem State.Touch.modInst {l : List Part} {s0 s : State} (hT : State.Touch l s0 s)  (k : Nat) (f : Inst → Inst)
    (hl : ∀ p ∈ ([.slv] : List Part), p ∈ l) : State.Touch l s0 (State.modInst s k f) := by
  have k : State.Touch [.slv] s (State.modInst s k f) := by
    unfold State.modInst
    try dsimp only
    iterate 60 all_goals try first
      | with_reducible assumption
      | with_reducible exact State.Touch.refl _ _
      | with_reducible refine State.Touch.ite ?_ ?_
      | split
      | with_reducible refine State.Touch.upd_slv ?_ _ (by decide)
  exact hT.call k hl

theorem State.Touch.slvTrigger {l : List Part} {s0 s : State} (hT : State.Touch l s0 s)  (k : Nat) (m : List Vec)
    (hl : ∀ p ∈ ([.slv] : List Part), p ∈ l) : State.Touch l s0 (State.slvTrigger s k m) := by
  have k : State.Touch [.slv] s (State.slvTrigger s k m) := by
    unfold State.slvTrigger
    try dsimp only
    iterate 60 all_goals try first
      | with_reducible assumption
      | with_reducible exact State.Touch.refl _ _
      | with_reducible refine State.Touch.modInst ?_ _ _ (by decide)
      | with_reducible refine State.Touch.ite ?_ ?_
      | split
  exact hT.call k hl

theorem State.Touch.slvActivate {l : List Part} {s0 s : State} (hT : State.Touch l s0 s)  (k : Nat)
    (hl : ∀ p ∈ ([.slv] : List Part), p ∈ l) : State.Touch l s0 (State.slvActivate s k) := by
  have k : State.Touch [.slv] s (State.slvActivate s k) := by
    unfold State.slvActivate
    try dsimp only
    iterate 60 all_goals try first
      | with_reducible assumption
      | with_reducible exact State.Touch.refl _ _
      | with_reducible refine State.Touch.count ?_ _
      | with_reducible refine State.Touch.modInst ?_ _ _ (by decide)
      | with_reducible refine State.Touch.ite ?_ ?_
      | split
  exact hT.call k hl

theorem State.Touch.refreshComplete {l : List Part} {s0 s : State} (hT : State.Touch l s0 s)  (k more : Nat) (sat : Bool)
    (hl : ∀ p ∈ ([.slv] : List Part), p ∈ l) : State.Touch l s0 (State.refreshComplete s k more sat) := by
  have k : State.Touch [.slv] s (State.refreshComplete s k more sat) := by
    unfold State.refreshComplete
    try dsimp only
    iterate 60 all_goals try first
      | with_reducible assumption
      | with_reducible exact State.Touch.refl _ _
      | with_reducible refine State.Touch.count ?_ _
      | with_reducible refine State.Touch.modInst ?_ _ _ (by decide)
      | with_reducible refine State.Touch.slvActivate ?_ _ (by decide)
      | with_reducible refine State.Touch.ite ?_ ?_
      | split
  exact hT.call k hl

theorem State.Touch.slvStart {l : List Part} {s0 s : State} (hT : State.Touch l s0 s)  (k : Nat) (pr : Problem)
    (hl : ∀ p ∈ ([.slv] : List Part), p ∈ l) : State.Touch l s0 (State.slvStart s k pr) := by
  have k : State.Touch [.slv] s (State.slvStart s k pr) := by
    unfold State.slvStart
    try dsimp only
    iterate 60 all_goals try first
      | with_reducible assumption
      | with_reducible exact State.Touch.refl _ _
      | with_reducible refine State.Touch.modInst ?_ _ _ (by decide)
      | with_reducible refine State.Touch.slvActivate ?_ _ (by decide)
      | with_reducible refine State.Touch.slvTrigger ?_ _ _ (by decide)
      | with_reducible refine State.Touch.ite ?_ ?_
      | split
  exact hT.call k hl

theorem State.Touch.slvCold {l : List Part} {s0 s : State} (hT : State.Touch l s0 s)  (k : Nat)
    (hl : ∀ p ∈ ([.slv] : List Part), p ∈ l) : State.Touch l s0 (State.slvCold s k) := by
  have k : State.Touch [.slv] s (State.slvCold s k) := by
    unfold State.slvCold
    try dsimp only
    iterate 60 all_goals try first
      | with_reducible assumption
      | with_reducible exact State.Touch.refl _ _
      | with_reducible refine State.Touch.modInst ?_ _ _ (by decide)
      | with_reducible refine State.Touch.ite ?_ ?_
      | split
  exact hT.call k hl

theorem State.Touch.barrierFactor {l : List Part} {s0 s : State} (hT : State.Touch l s0 s)  (k : Nat) (p : SlvCfg)
    (hl : ∀ p ∈ ([.slv] : List Part), p ∈ l) : State.Touch l s0 (State.barrierFactor s k p).1 := by
  have k : State.Touch [.slv] s (State.barrierFactor s k p).1 := by
    unfold State.barrierFactor
    try dsimp only
    iterate 60 all_goals try first
      | with_reducible assumption
      | with_reducible exact State.Touch.refl _ _
      | with_reducible refine State.Touch.count ?_ _
      | with_reducible refine State.Touch.modInst ?_ _ _ (by decide)
      | with_reducible refine State.Touch.ite ?_ ?_
      | split
  exact hT.call k hl

theorem State.Touch.iterEnd {l : List Part} {s0 s : State} (hT : State.Touch l s0 s)  (k : Nat) (p : SlvCfg) (f : Factor) (own : OwnFlags) (it : Iter)
    (hl : ∀ p ∈ ([.slv] : List Part), p ∈ l) : State.Touch l s0 (State.iterEnd s k p f own it).1 := by
  have k : State.Touch [.slv] s (State.iterEnd s k p f own it).1 := by
    unfold State.iterEnd
    try dsimp only
    iterate 60 all_goals try first
      | with_reducible assumption
      | with_reducible exact State.Touch.refl _ _
      | with_reducible refine State.Touch.count ?_ _
      | with_reducible refine State.Touch.modInst ?_ _ _ (by decide)
      | with_reducible refine State.Touch.slvActivate ?_ _ (by decide)
      | with_reducible refine State.Touch.ite ?_ ?_
      | split
  exact hT.call k hl

theorem State.Touch.iterate {l : List Part} {s0 s : State} (hT : State.Touch l s0 s) (k : Nat) (own : OwnFlags)
    (hl : ∀ p ∈ ([.slv] : List Part), p ∈ l) : State.Touch l s0 (s.iterate k own).1 := by
  unfold State.iterate
  dsimp only
  split
  · exact hT
  · rename_i p _
    have hb := State.Touch.barrierFactor hT k p hl
    split
    · exact hT
    · split
      · split
        · rename_i e; rw [e] at hb; exact hb
        · rename_i e; rw [e] at hb; exact hb.iterEnd k p _ own _ hl
      · split
        · exact hT
        · exact hT.iterEnd k p _ own _ hl

theorem State.Touch.slvRestart {l : List Part} {s0 s : State} (hT : State.Touch l s0 s)  (k : Nat)
    (hl : ∀ p ∈ ([.slv] : List Part), p ∈ l) : State.Touch l s0 (State.slvRestart s k) := by
  have k : State.Touch [.slv] s (State.slvRestart s k) := by
    unfold State.slvRestart
    try dsimp only
    iterate 60 all_goals try first
      | with_reducible assumption
      | with_reducible exact State.Touch.refl _ _
      | with_reducible refine State.Touch.count ?_ _
      | with_reducible refine State.Touch.modInst ?_ _ _ (by decide)
      | with_reducible refine State.Touch.ite ?_ ?_
      | split
  exact hT.call k hl

theorem State.Touch.slvAbandon {l : List Part} {s0 s : State} (hT : State.Touch l s0 s)  (k : Nat)
    (hl : ∀ p ∈ ([.slv] : List Part), p ∈ l) : State.Touch l s0 (State.slvAbandon s k) := by
  have k : State.Touch [.slv] s (State.slvAbandon s k) := by
    unfold State.slvAbandon
    try dsimp only
    iterate 60 all_goals try first
      | with_reducible assumption
      | with_reducible exact State.Touch.refl _ _
      | with_reducible refine State.Touch.count ?_ _
      | with_reducible refine State.Touch.modInst ?_ _ _ (by decide)
      | with_reducible refine State.Touch.ite ?_ ?_
      | split
  exact hT.call k hl

theorem State.Touch.slvPublish {l : List Part} {s0 s : State} (hT : State.Touch l s0 s)  (k word : Nat) (out : Option (Nat × Nat × Nat))
    (hl : ∀ p ∈ ([.slv] : List Part), p ∈ l) : State.Touch l s0 (State.slvPublish s k word out) := by
  have k : State.Touch [.slv] s (State.slvPublish s k word out) := by
    unfold State.slvPublish
    try dsimp only
    iterate 60 all_goals try first
      | with_reducible assumption
      | with_reducible exact State.Touch.refl _ _
      | with_reducible refine State.Touch.wr ?_ _ _
      | with_reducible refine State.Touch.set ?_ _ _
      | with_reducible refine State.Touch.count ?_ _
      | with_reducible refine State.Touch.modInst ?_ _ _ (by decide)
      | with_reducible refine State.Touch.ite ?_ ?_
      | split
  exact hT.call k hl

theorem State.Touch.slvRefreshClass {l : List Part} {s0 s : State} (hT : State.Touch l s0 s)  (c : Nat)
    (hl : ∀ p ∈ ([.slv] : List Part), p ∈ l) : State.Touch l s0 (State.slvRefreshClass s c) := by
  have k : State.Touch [.slv] s (State.slvRefreshClass s c) := by
    unfold State.slvRefreshClass
    try dsimp only
    iterate 60 all_goals try first
      | with_reducible assumption
      | with_reducible exact State.Touch.refl _ _
      | with_reducible refine State.Touch.each ?_ _ _ (fun x u hu => ?_)
      | with_reducible refine State.Touch.modInst ?_ _ _ (by decide)
      | with_reducible refine State.Touch.ite ?_ ?_
      | split
  exact hT.call k hl

theorem State.Touch.slvCntClr {l : List Part} {s0 s : State} (hT : State.Touch l s0 s) 
    (hl : ∀ p ∈ ([] : List Part), p ∈ l) : State.Touch l s0 (State.slvCntClr s) := by
  have k : State.Touch [] s (State.slvCntClr s) := by
    unfold State.slvCntClr
    try dsimp only
    iterate 60 all_goals try first
      | with_reducible assumption
      | with_reducible exact State.Touch.refl _ _
      | with_reducible refine State.Touch.wr ?_ _ _
      | with_reducible refine State.Touch.set ?_ _ _
      | with_reducible refine State.Touch.each ?_ _ _ (fun x u hu => ?_)
      | with_reducible refine State.Touch.ite ?_ ?_
      | split
  exact hT.call k hl

end Sys2Proof.Machine
end

