-- ==== Sys2Proof/Laws/Touch/Alloc.lean ====
section
/-!
SUPPORT. Sys2Proof/Laws/Touch/Alloc.lean: which parts of the state each operation of Machine/Alloc.lean may change.
-/
set_option linter.all false
set_option maxRecDepth 4000
namespace Sys2Proof.Machine

theorem State.Touch.chooseWindow {l : List Part} {s0 s : State} (hT : State.Touch l s0 s)  (i : Nat) (c : ThrCfg)
    (hl : ∀ p ∈ ([.alc] : List Part), p ∈ l) : State.Touch l s0 (State.chooseWindow s i c) := by
  have k : State.Touch [.alc] s (State.chooseWindow s i c) := by
    unfold State.chooseWindow
    try dsimp only
    iterate 60 all_goals try first
      | with_reducible assumption
      | with_reducible exact State.Touch.refl _ _
      | with_reducible refine State.Touch.modThr ?_ _ _ (by decide)
      | with_reducible refine State.Touch.ite ?_ ?_
      | split
  exact hT.call k hl

theorem State.Touch.cqMarkOld {l : List Part} {s0 s : State} (hT : State.Touch l s0 s) 
    (hl : ∀ p ∈ ([.alc] : List Part), p ∈ l) : State.Touch l s0 (State.cqMarkOld s) := by
  have k : State.Touch [.alc] s (State.cqMarkOld s) := by
    unfold State.cqMarkOld
    try dsimp only
    iterate 60 all_goals try first
      | with_reducible assumption
      | with_reducible exact State.Touch.refl _ _
      | with_reducible refine State.Touch.set ?_ _ _
      | with_reducible refine State.Touch.each ?_ _ _ (fun x u hu => ?_)
      | with_reducible refine State.Touch.ite ?_ ?_
      | split
      | with_reducible refine State.Touch.upd_alc ?_ _ (by decide)
  exact hT.call k hl

theorem State.Touch.cqOverall {l : List Part} {s0 s : State} (hT : State.Touch l s0 s) 
    (hl : ∀ p ∈ ([] : List Part), p ∈ l) : State.Touch l s0 (State.cqOverall s) := by
  have k : State.Touch [] s (State.cqOverall s) := by
    unfold State.cqOverall
    try dsimp only
    iterate 60 all_goals try first
      | with_reducible assumption
      | with_reducible exact State.Touch.refl _ _
      | with_reducible refine State.Touch.set ?_ _ _
      | with_reducible refine State.Touch.setBit ?_ _ _
      | with_reducible refine State.Touch.foldl ?_ _ _ (fun x u hu => ?_)
      | with_reducible refine State.Touch.ite ?_ ?_
      | split
  exact hT.call k hl

theorem State.Touch.loopCheck {l : List Part} {s0 s : State} (hT : State.Touch l s0 s)  (i : Nat)
    (hl : ∀ p ∈ ([.chans, .alc] : List Part), p ∈ l) : State.Touch l s0 (State.loopCheck s i) := by
  have k : State.Touch [.chans, .alc] s (State.loopCheck s i) := by
    unfold State.loopCheck
    try dsimp only
    iterate 60 all_goals try first
      | with_reducible assumption
      | with_reducible exact State.Touch.refl _ _
      | with_reducible refine State.Touch.thrRemove ?_ _ _ _ (by decide)
      | with_reducible refine State.Touch.ite ?_ ?_
      | split
  exact hT.call k hl

theorem State.Touch.alcRefresh {l : List Part} {s0 s : State} (hT : State.Touch l s0 s) 
    (hl : ∀ p ∈ ([.slv] : List Part), p ∈ l) : State.Touch l s0 (State.alcRefresh s) := by
  have k : State.Touch [.slv] s (State.alcRefresh s) := by
    unfold State.alcRefresh
    try dsimp only
    iterate 60 all_goals try first
      | with_reducible assumption
      | with_reducible exact State.Touch.refl _ _
      | with_reducible refine State.Touch.slvTrigger ?_ _ _ (by decide)
      | with_reducible refine State.Touch.ite ?_ ?_
      | split
  exact hT.call k hl

theorem State.Touch.alcFrame {l : List Part} {s0 s : State} (hT : State.Touch l s0 s) 
    (hl : ∀ p ∈ ([.chans, .slv, .alc] : List Part), p ∈ l) : State.Touch l s0 (State.alcFrame s) := by
  have k : State.Touch [.chans, .slv, .alc] s (State.alcFrame s) := by
    unfold State.alcFrame
    try dsimp only
    iterate 60 all_goals try first
      | with_reducible assumption
      | with_reducible exact State.Touch.refl _ _
      | with_reducible refine State.Touch.count ?_ _
      | with_reducible refine State.Touch.countWrap ?_ _
      | with_reducible refine State.Touch.each ?_ _ _ (fun x u hu => ?_)
      | with_reducible refine State.Touch.alcEnableLatch ?_ _ (by decide)
      | with_reducible refine State.Touch.alcRefresh ?_ (by decide)
      | with_reducible refine State.Touch.chooseWindow ?_ _ _ (by decide)
      | with_reducible refine State.Touch.cqMarkOld ?_ (by decide)
      | with_reducible refine State.Touch.cqOverall ?_ (by decide)
      | with_reducible refine State.Touch.loopCheck ?_ _ (by decide)
      | with_reducible refine State.Touch.modThr ?_ _ _ (by decide)
      | with_reducible refine State.Touch.thrReadmit ?_ _ (by decide)
      | with_reducible refine State.Touch.ite ?_ ?_
      | split
      | with_reducible refine State.Touch.upd_alc ?_ _ (by decide)
  exact hT.call k hl

theorem State.Touch.tunnelEta {l : List Part} {s0 s : State} (hT : State.Touch l s0 s)  (u : Int)
    (hl : ∀ p ∈ ([.alc] : List Part), p ∈ l) : State.Touch l s0 (State.tunnelEta s u) := by
  have k : State.Touch [.alc] s (State.tunnelEta s u) := by
    unfold State.tunnelEta
    try dsimp only
    iterate 60 all_goals try first
      | with_reducible assumption
      | with_reducible exact State.Touch.refl _ _
      | with_reducible refine State.Touch.each ?_ _ _ (fun x u hu => ?_)
      | with_reducible refine State.Touch.modThr ?_ _ _ (by decide)
      | with_reducible refine State.Touch.ite ?_ ?_
      | split
  exact hT.call k hl

theorem State.Touch.alcStart {l : List Part} {s0 s : State} (hT : State.Touch l s0 s)  (dem : Rat × Rat × Rat) (u : Int)
    (hl : ∀ p ∈ ([.slv, .alc] : List Part), p ∈ l) : State.Touch l s0 (State.alcStart s dem u) := by
  have k : State.Touch [.slv, .alc] s (State.alcStart s dem u) := by
    unfold State.alcStart
    try dsimp only
    iterate 60 all_goals try first
      | with_reducible assumption
      | with_reducible exact State.Touch.refl _ _
      | with_reducible refine State.Touch.slvStart ?_ _ _ (by decide)
      | with_reducible refine State.Touch.tunnelEta ?_ _ (by decide)
      | with_reducible refine State.Touch.ite ?_ ?_
      | split
  exact hT.call k hl

theorem State.Touch.convert {l : List Part} {s0 s : State} (hT : State.Touch l s0 s)  (i : Nat) (c : ThrCfg) (v : List Rat)
    (hl : ∀ p ∈ ([.alc] : List Part), p ∈ l) : State.Touch l s0 (State.convert s i c v) := by
  have k : State.Touch [.alc] s (State.convert s i c v) := by
    unfold State.convert
    try dsimp only
    iterate 60 all_goals try first
      | with_reducible assumption
      | with_reducible exact State.Touch.refl _ _
      | with_reducible refine State.Touch.modThr ?_ _ _ (by decide)
      | with_reducible refine State.Touch.ite ?_ ?_
      | split
  exact hT.call k hl

theorem State.Touch.convertAll {l : List Part} {s0 s : State} (hT : State.Touch l s0 s)  (vs : List (List Rat))
    (hl : ∀ p ∈ ([.alc] : List Part), p ∈ l) : State.Touch l s0 (State.convertAll s vs) := by
  have k : State.Touch [.alc] s (State.convertAll s vs) := by
    unfold State.convertAll
    try dsimp only
    iterate 60 all_goals try first
      | with_reducible assumption
      | with_reducible exact State.Touch.refl _ _
      | with_reducible refine State.Touch.each ?_ _ _ (fun x u hu => ?_)
      | with_reducible refine State.Touch.convert ?_ _ _ _ (by decide)
      | with_reducible refine State.Touch.ite ?_ ?_
      | split
  exact hT.call k hl

theorem State.Touch.alcRegs {l : List Part} {s0 s : State} (hT : State.Touch l s0 s)  (flags : Nat)
    (hl : ∀ p ∈ ([] : List Part), p ∈ l) : State.Touch l s0 (State.alcRegs s flags) := by
  have k : State.Touch [] s (State.alcRegs s flags) := by
    unfold State.alcRegs
    try dsimp only
    iterate 60 all_goals try first
      | with_reducible assumption
      | with_reducible exact State.Touch.refl _ _
      | with_reducible refine State.Touch.wr ?_ _ _
      | with_reducible refine State.Touch.count ?_ _
      | with_reducible refine State.Touch.each ?_ _ _ (fun x u hu => ?_)
      | with_reducible refine State.Touch.foldl ?_ _ _ (fun x u hu => ?_)
      | with_reducible refine State.Touch.ite ?_ ?_
      | split
  exact hT.call k hl

theorem State.Touch.sendElements {l : List Part} {s0 s : State} (hT : State.Touch l s0 s)  (stale : Bool)
    (hl : ∀ p ∈ ([.mgt, .chans, .can, .eth, .ana, .port] : List Part), p ∈ l) : State.Touch l s0 (State.sendElements s stale) := by
  have k : State.Touch [.mgt, .chans, .can, .eth, .ana, .port] s (State.sendElements s stale) := by
    unfold State.sendElements
    try dsimp only
    iterate 60 all_goals try first
      | with_reducible assumption
      | with_reducible exact State.Touch.refl _ _
      | with_reducible refine State.Touch.count ?_ _
      | with_reducible refine State.Touch.each ?_ _ _ (fun x u hu => ?_)
      | with_reducible refine State.Touch.portOutput ?_ _ _ _ _ (by decide)
      | with_reducible refine State.Touch.ite ?_ ?_
      | split
  exact hT.call k hl

theorem State.Touch.alcRecord {l : List Part} {s0 s : State} (hT : State.Touch l s0 s)  (word resid : Nat) (stale : Bool) (slack dem : Int × Int × Int) (mags : List Rat)
    (hl : ∀ p ∈ ([.mgt, .chans, .alc, .can, .eth, .ana, .port] : List Part), p ∈ l) : State.Touch l s0 (State.alcRecord s word resid stale slack dem mags) := by
  have k : State.Touch [.mgt, .chans, .alc, .can, .eth, .ana, .port] s (State.alcRecord s word resid stale slack dem mags) := by
    unfold State.alcRecord
    try dsimp only
    iterate 60 all_goals try first
      | with_reducible assumption
      | with_reducible exact State.Touch.refl _ _
      | with_reducible refine State.Touch.count ?_ _
      | with_reducible refine State.Touch.alcRegs ?_ _ (by decide)
      | with_reducible refine State.Touch.publishOn ?_ _ _ _ (by decide)
      | with_reducible refine State.Touch.sendElements ?_ _ (by decide)
      | with_reducible refine State.Touch.ite ?_ ?_
      | split
      | with_reducible refine State.Touch.upd_alc ?_ _ (by decide)
  exact hT.call k hl

theorem State.Touch.forceShort {l : List Part} {s0 s : State} (hT : State.Touch l s0 s)  (sl : Rat × Rat × Rat)
    (hl : ∀ p ∈ ([.ctl] : List Part), p ∈ l) : State.Touch l s0 (State.forceShort s sl) := by
  have k : State.Touch [.ctl] s (State.forceShort s sl) := by
    unfold State.forceShort
    try dsimp only
    iterate 60 all_goals try first
      | with_reducible assumption
      | with_reducible exact State.Touch.refl _ _
      | with_reducible refine State.Touch.ite ?_ ?_
      | split
      | with_reducible refine State.Touch.upd_ctl ?_ _ (by decide)
  exact hT.call k hl

theorem State.Touch.slackEvent {l : List Part} {s0 s : State} (hT : State.Touch l s0 s)  (bit code task : Nat) (slack : Int)
    (hl : ∀ p ∈ ([.fab, .port] : List Part), p ∈ l) : State.Touch l s0 (State.slackEvent s bit code task slack) := by
  have k : State.Touch [.fab, .port] s (State.slackEvent s bit code task slack) := by
    unfold State.slackEvent
    try dsimp only
    iterate 60 all_goals try first
      | with_reducible assumption
      | with_reducible exact State.Touch.refl _ _
      | with_reducible refine State.Touch.set ?_ _ _
      | with_reducible refine State.Touch.raise ?_ _ _ _
      | with_reducible refine State.Touch.ite ?_ ?_
      | split
      | with_reducible refine State.Touch.upd_fab ?_ _ (by decide)
  exact hT.call k hl

theorem State.Touch.deadlineMiss {l : List Part} {s0 s : State} (hT : State.Touch l s0 s)  (task deadline : Nat)
    (hl : ∀ p ∈ ([.fab, .port] : List Part), p ∈ l) : State.Touch l s0 (State.deadlineMiss s task deadline) := by
  have k : State.Touch [.fab, .port] s (State.deadlineMiss s task deadline) := by
    unfold State.deadlineMiss
    try dsimp only
    iterate 60 all_goals try first
      | with_reducible assumption
      | with_reducible exact State.Touch.refl _ _
      | with_reducible refine State.Touch.slackEvent ?_ _ _ _ _ (by decide)
      | with_reducible refine State.Touch.ite ?_ ?_
      | split
  exact hT.call k hl

theorem State.Touch.alcPublish {l : List Part} {s0 s : State} (hT : State.Touch l s0 s)  (stop : Nat)
    (hl : ∀ p ∈ ([.mgt, .chans, .fab, .ctl, .slv, .alc, .can, .eth, .ana, .port] : List Part), p ∈ l) : State.Touch l s0 (State.alcPublish s stop) := by
  have k : State.Touch [.mgt, .chans, .fab, .ctl, .slv, .alc, .can, .eth, .ana, .port] s (State.alcPublish s stop) := by
    unfold State.alcPublish
    try dsimp only
    iterate 60 all_goals try first
      | with_reducible assumption
      | with_reducible exact State.Touch.refl _ _
      | with_reducible refine State.Touch.alcRecord ?_ _ _ _ _ _ _ (by decide)
      | with_reducible refine State.Touch.convertAll ?_ _ (by decide)
      | with_reducible refine State.Touch.deadlineMiss ?_ _ _ (by decide)
      | with_reducible refine State.Touch.forceShort ?_ _ (by decide)
      | with_reducible refine State.Touch.slvPublish ?_ _ _ _ (by decide)
      | with_reducible refine State.Touch.ite ?_ ?_
      | split
  exact hT.call k hl

theorem State.Touch.cqRelease {l : List Part} {s0 s : State} (hT : State.Touch l s0 s) 
    (hl : ∀ p ∈ ([.slv, .alc] : List Part), p ∈ l) : State.Touch l s0 (State.cqRelease s) := by
  have k : State.Touch [.slv, .alc] s (State.cqRelease s) := by
    unfold State.cqRelease
    try dsimp only
    iterate 60 all_goals try first
      | with_reducible assumption
      | with_reducible exact State.Touch.refl _ _
      | with_reducible refine State.Touch.running ?_ _ (fun u hu => ?_)
      | with_reducible refine State.Touch.slvStart ?_ _ _ (by decide)
      | with_reducible refine State.Touch.ite ?_ ?_
      | split
      | with_reducible refine State.Touch.upd_alc ?_ _ (by decide)
  exact hT.call k hl

theorem State.Touch.cqPublish {l : List Part} {s0 s : State} (hT : State.Touch l s0 s)  (g stop : Nat)
    (hl : ∀ p ∈ ([.slv, .alc] : List Part), p ∈ l) : State.Touch l s0 (State.cqPublish s g stop) := by
  have k : State.Touch [.slv, .alc] s (State.cqPublish s g stop) := by
    unfold State.cqPublish
    try dsimp only
    iterate 60 all_goals try first
      | with_reducible assumption
      | with_reducible exact State.Touch.refl _ _
      | with_reducible refine State.Touch.wr ?_ _ _
      | with_reducible refine State.Touch.set ?_ _ _
      | with_reducible refine State.Touch.countWrap ?_ _
      | with_reducible refine State.Touch.running ?_ _ (fun u hu => ?_)
      | with_reducible refine State.Touch.cqOverall ?_ (by decide)
      | with_reducible refine State.Touch.slvPublish ?_ _ _ _ (by decide)
      | with_reducible refine State.Touch.ite ?_ ?_
      | split
      | with_reducible refine State.Touch.upd_alc ?_ _ (by decide)
  exact hT.call k hl

theorem State.Touch.cqShareMiss {l : List Part} {s0 s : State} (hT : State.Touch l s0 s) 
    (hl : ∀ p ∈ ([.port] : List Part), p ∈ l) : State.Touch l s0 (State.cqShareMiss s) := by
  have k : State.Touch [.port] s (State.cqShareMiss s) := by
    unfold State.cqShareMiss
    try dsimp only
    iterate 60 all_goals try first
      | with_reducible assumption
      | with_reducible exact State.Touch.refl _ _
      | with_reducible refine State.Touch.raise ?_ _ _ _
      | with_reducible refine State.Touch.ite ?_ ?_
      | split
  exact hT.call k hl

theorem State.Touch.cqStale {l : List Part} {s0 s : State} (hT : State.Touch l s0 s)  (g : Nat)
    (hl : ∀ p ∈ ([] : List Part), p ∈ l) : State.Touch l s0 (State.cqStale s g) := by
  have k : State.Touch [] s (State.cqStale s g) := by
    unfold State.cqStale
    try dsimp only
    iterate 60 all_goals try first
      | with_reducible assumption
      | with_reducible exact State.Touch.refl _ _
      | with_reducible refine State.Touch.set ?_ _ _
      | with_reducible refine State.Touch.cqOverall ?_ (by decide)
      | with_reducible refine State.Touch.ite ?_ ?_
      | split
  exact hT.call k hl

theorem State.Touch.cqReset {l : List Part} {s0 s : State} (hT : State.Touch l s0 s) 
    (hl : ∀ p ∈ ([.alc] : List Part), p ∈ l) : State.Touch l s0 (State.cqReset s) := by
  have k : State.Touch [.alc] s (State.cqReset s) := by
    unfold State.cqReset
    try dsimp only
    iterate 60 all_goals try first
      | with_reducible assumption
      | with_reducible exact State.Touch.refl _ _
      | with_reducible refine State.Touch.wr ?_ _ _
      | with_reducible refine State.Touch.each ?_ _ _ (fun x u hu => ?_)
      | with_reducible refine State.Touch.cqOverall ?_ (by decide)
      | with_reducible refine State.Touch.ite ?_ ?_
      | split
      | with_reducible refine State.Touch.upd_alc ?_ _ (by decide)
  exact hT.call k hl

theorem State.Touch.driveFeedback {l : List Part} {s0 s : State} (hT : State.Touch l s0 s)  (i : Nat)
    (hl : ∀ p ∈ ([.chans, .alc] : List Part), p ∈ l) : State.Touch l s0 (State.driveFeedback s i) := by
  have k : State.Touch [.chans, .alc] s (State.driveFeedback s i) := by
    unfold State.driveFeedback
    try dsimp only
    iterate 60 all_goals try first
      | with_reducible assumption
      | with_reducible exact State.Touch.refl _ _
      | with_reducible refine State.Touch.modThr ?_ _ _ (by decide)
      | with_reducible refine State.Touch.thrRemove ?_ _ _ _ (by decide)
      | with_reducible refine State.Touch.ite ?_ ?_
      | split
      | with_reducible refine State.Touch.upd_alc ?_ _ (by decide)
  exact hT.call k hl

theorem State.Touch.driveTimeout {l : List Part} {s0 s : State} (hT : State.Touch l s0 s)  (i : Nat)
    (hl : ∀ p ∈ ([.chans, .alc] : List Part), p ∈ l) : State.Touch l s0 (State.driveTimeout s i) := by
  have k : State.Touch [.chans, .alc] s (State.driveTimeout s i) := by
    unfold State.driveTimeout
    try dsimp only
    iterate 60 all_goals try first
      | with_reducible assumption
      | with_reducible exact State.Touch.refl _ _
      | with_reducible refine State.Touch.modThr ?_ _ _ (by decide)
      | with_reducible refine State.Touch.thrRemove ?_ _ _ _ (by decide)
      | with_reducible refine State.Touch.ite ?_ ?_
      | split
  exact hT.call k hl

theorem State.Touch.readmitMet {l : List Part} {s0 s : State} (hT : State.Touch l s0 s)  (i reason : Nat)
    (hl : ∀ p ∈ ([.alc] : List Part), p ∈ l) : State.Touch l s0 (State.readmitMet s i reason) := by
  have k : State.Touch [.alc] s (State.readmitMet s i reason) := by
    unfold State.readmitMet
    try dsimp only
    iterate 60 all_goals try first
      | with_reducible assumption
      | with_reducible exact State.Touch.refl _ _
      | with_reducible refine State.Touch.thrClear ?_ _ _ (by decide)
      | with_reducible refine State.Touch.ite ?_ ?_
      | split
  exact hT.call k hl

theorem State.Touch.alcEnableWrite {l : List Part} {s0 s : State} (hT : State.Touch l s0 s)  (v : Word)
    (hl : ∀ p ∈ ([.alc, .grp] : List Part), p ∈ l) : State.Touch l s0 (State.alcEnableWrite s v) := by
  have k : State.Touch [.alc, .grp] s (State.alcEnableWrite s v) := by
    unfold State.alcEnableWrite
    try dsimp only
    iterate 60 all_goals try first
      | with_reducible assumption
      | with_reducible exact State.Touch.refl _ _
      | with_reducible refine State.Touch.alcEnableSet ?_ _ (by decide)
      | with_reducible refine State.Touch.forwardWrite ?_ _ _ (by decide)
      | with_reducible refine State.Touch.refuse ?_ _ _ _ (by decide)
      | with_reducible refine State.Touch.ite ?_ ?_
      | split
  exact hT.call k hl

theorem State.Touch.thrLoad {l : List Part} {s0 s : State} (hT : State.Touch l s0 s)  (i : Nat)
    (hl : ∀ p ∈ ([.alc] : List Part), p ∈ l) : State.Touch l s0 (State.thrLoad s i) := by
  have k : State.Touch [.alc] s (State.thrLoad s i) := by
    unfold State.thrLoad
    try dsimp only
    iterate 60 all_goals try first
      | with_reducible assumption
      | with_reducible exact State.Touch.refl _ _
      | with_reducible refine State.Touch.modThr ?_ _ _ (by decide)
      | with_reducible refine State.Touch.ite ?_ ?_
      | split
  exact hT.call k hl

theorem State.Touch.thrInit {l : List Part} {s0 s : State} (hT : State.Touch l s0 s) 
    (hl : ∀ p ∈ ([.alc] : List Part), p ∈ l) : State.Touch l s0 (State.thrInit s) := by
  have k : State.Touch [.alc] s (State.thrInit s) := by
    unfold State.thrInit
    try dsimp only
    iterate 60 all_goals try first
      | with_reducible assumption
      | with_reducible exact State.Touch.refl _ _
      | with_reducible refine State.Touch.each ?_ _ _ (fun x u hu => ?_)
      | with_reducible refine State.Touch.thrLoad ?_ _ (by decide)
      | with_reducible refine State.Touch.ite ?_ ?_
      | split
  exact hT.call k hl

end Sys2Proof.Machine
end

