-- ==== Sys2Proof/Laws/Touch/Modes.lean ====
section
/-!
SUPPORT. Sys2Proof/Laws/Touch/Modes.lean: which parts of the state each operation of Machine/Modes.lean may change.
-/
set_option linter.all false
set_option maxRecDepth 4000
namespace Sys2Proof.Machine

theorem State.Touch.modCtl {l : List Part} {s0 s : State} (hT : State.Touch l s0 s)  (f : CtlSt → CtlSt)
    (hl : ∀ p ∈ ([.ctl] : List Part), p ∈ l) : State.Touch l s0 (State.modCtl s f) := by
  have k : State.Touch [.ctl] s (State.modCtl s f) := by
    unfold State.modCtl
    try dsimp only
    iterate 60 all_goals try first
      | with_reducible assumption
      | with_reducible exact State.Touch.refl _ _
      | with_reducible refine State.Touch.ite ?_ ?_
      | split
      | with_reducible refine State.Touch.upd_ctl ?_ _ (by decide)
  exact hT.call k hl

theorem State.Touch.overlayMove {l : List Part} {s0 s : State} (hT : State.Touch l s0 s)  (o w : Option Overlay)
    (hl : ∀ p ∈ ([.cfg, .srv] : List Part), p ∈ l) : State.Touch l s0 (State.overlayMove s o w) := by
  have k : State.Touch [.cfg, .srv] s (State.overlayMove s o w) := by
    unfold State.overlayMove
    try dsimp only
    iterate 60 all_goals try first
      | with_reducible assumption
      | with_reducible exact State.Touch.refl _ _
      | with_reducible refine State.Touch.wr ?_ _ _
      | with_reducible refine State.Touch.each ?_ _ _ (fun x u hu => ?_)
      | with_reducible refine State.Touch.modLoop ?_ _ _ (by decide)
      | with_reducible refine State.Touch.ite ?_ ?_
      | split
      | with_reducible refine State.Touch.upd_cfg ?_ _ _ (by decide)
  exact hT.call k hl

theorem State.Touch.swapOverlay {l : List Part} {s0 s : State} (hT : State.Touch l s0 s)  (old new : Nat)
    (hl : ∀ p ∈ ([.cfg, .srv] : List Part), p ∈ l) : State.Touch l s0 (State.swapOverlay s old new) := by
  have k : State.Touch [.cfg, .srv] s (State.swapOverlay s old new) := by
    unfold State.swapOverlay
    try dsimp only
    iterate 60 all_goals try first
      | with_reducible assumption
      | with_reducible exact State.Touch.refl _ _
      | with_reducible refine State.Touch.overlayMove ?_ _ _ (by decide)
      | with_reducible refine State.Touch.ite ?_ ?_
      | split
  exact hT.call k hl

theorem State.Touch.entryPlan {l : List Part} {s0 s : State} (hT : State.Touch l s0 s)  (m : Nat)
    (hl : ∀ p ∈ ([.ctl] : List Part), p ∈ l) : State.Touch l s0 (State.entryPlan s m) := by
  have k : State.Touch [.ctl] s (State.entryPlan s m) := by
    unfold State.entryPlan
    try dsimp only
    iterate 60 all_goals try first
      | with_reducible assumption
      | with_reducible exact State.Touch.refl _ _
      | with_reducible refine State.Touch.modCtl ?_ _ (by decide)
      | with_reducible refine State.Touch.ite ?_ ?_
      | split
  exact hT.call k hl

theorem State.Touch.compRamp {l : List Part} {s0 s : State} (hT : State.Touch l s0 s) 
    (hl : ∀ p ∈ ([.ctl] : List Part), p ∈ l) : State.Touch l s0 (State.compRamp s) := by
  have k : State.Touch [.ctl] s (State.compRamp s) := by
    unfold State.compRamp
    try dsimp only
    iterate 60 all_goals try first
      | with_reducible assumption
      | with_reducible exact State.Touch.refl _ _
      | with_reducible refine State.Touch.modCtl ?_ _ (by decide)
      | with_reducible refine State.Touch.ite ?_ ?_
      | split
  exact hT.call k hl

theorem State.Touch.changeMode {l : List Part} {s0 s : State} (hT : State.Touch l s0 s)  (m : Nat) (drop : Bool)
    (hl : ∀ p ∈ ([.cfg, .ctl, .srv] : List Part), p ∈ l) : State.Touch l s0 (State.changeMode s m drop) := by
  have k : State.Touch [.cfg, .ctl, .srv] s (State.changeMode s m drop) := by
    unfold State.changeMode
    try dsimp only
    iterate 60 all_goals try first
      | with_reducible assumption
      | with_reducible exact State.Touch.refl _ _
      | with_reducible refine State.Touch.set ?_ _ _
      | with_reducible refine State.Touch.countWrap ?_ _
      | with_reducible refine State.Touch.compRamp ?_ (by decide)
      | with_reducible refine State.Touch.entryPlan ?_ _ (by decide)
      | with_reducible refine State.Touch.modCtl ?_ _ (by decide)
      | with_reducible refine State.Touch.swapOverlay ?_ _ _ (by decide)
      | with_reducible refine State.Touch.ite ?_ ?_
      | split
  exact hT.call k hl

theorem State.Touch.modeStat {l : List Part} {s0 s : State} (hT : State.Touch l s0 s)  (code result : Nat)
    (hl : ∀ p ∈ ([] : List Part), p ∈ l) : State.Touch l s0 (State.modeStat s code result) := by
  have k : State.Touch [] s (State.modeStat s code result) := by
    unfold State.modeStat
    try dsimp only
    iterate 60 all_goals try first
      | with_reducible assumption
      | with_reducible exact State.Touch.refl _ _
      | with_reducible refine State.Touch.set ?_ _ _
      | with_reducible refine State.Touch.ite ?_ ?_
      | split
  exact hT.call k hl

theorem State.Touch.modeCmd {l : List Part} {s0 s : State} (hT : State.Touch l s0 s)  (code : Nat) (q : Option ReqRef)
    (hl : ∀ p ∈ ([.ctl] : List Part), p ∈ l) : State.Touch l s0 (State.modeCmd s code q) := by
  have k : State.Touch [.ctl] s (State.modeCmd s code q) := by
    unfold State.modeCmd
    try dsimp only
    iterate 60 all_goals try first
      | with_reducible assumption
      | with_reducible exact State.Touch.refl _ _
      | with_reducible refine State.Touch.modCtl ?_ _ (by decide)
      | with_reducible refine State.Touch.modeStat ?_ _ _ (by decide)
      | with_reducible refine State.Touch.ite ?_ ?_
      | split
  exact hT.call k hl

theorem State.Touch.modeDecide {l : List Part} {s0 s : State} (hT : State.Touch l s0 s) 
    (hl : ∀ p ∈ ([.cfg, .mgt, .ctl, .srv] : List Part), p ∈ l) : State.Touch l s0 (State.modeDecide s) := by
  have k : State.Touch [.cfg, .mgt, .ctl, .srv] s (State.modeDecide s) := by
    unfold State.modeDecide
    try dsimp only
    iterate 60 all_goals try first
      | with_reducible assumption
      | with_reducible exact State.Touch.refl _ _
      | with_reducible refine State.Touch.each ?_ _ _ (fun x u hu => ?_)
      | with_reducible refine State.Touch.changeMode ?_ _ _ (by decide)
      | with_reducible refine State.Touch.modCtl ?_ _ (by decide)
      | with_reducible refine State.Touch.modeStat ?_ _ _ (by decide)
      | with_reducible refine State.Touch.resultOpt ?_ _ _ _ (by decide)
      | with_reducible refine State.Touch.ite ?_ ?_
      | split
  exact hT.call k hl

theorem State.Touch.modeDrop {l : List Part} {s0 s : State} (hT : State.Touch l s0 s) 
    (hl : ∀ p ∈ ([.cfg, .ctl, .srv] : List Part), p ∈ l) : State.Touch l s0 (State.modeDrop s) := by
  have k : State.Touch [.cfg, .ctl, .srv] s (State.modeDrop s) := by
    unfold State.modeDrop
    try dsimp only
    iterate 60 all_goals try first
      | with_reducible assumption
      | with_reducible exact State.Touch.refl _ _
      | with_reducible refine State.Touch.changeMode ?_ _ _ (by decide)
      | with_reducible refine State.Touch.modCtl ?_ _ (by decide)
      | with_reducible refine State.Touch.modeStat ?_ _ _ (by decide)
      | with_reducible refine State.Touch.ite ?_ ?_
      | split
  exact hT.call k hl

theorem State.Touch.modecmdWrite {l : List Part} {s0 s : State} (hT : State.Touch l s0 s)  (v : Word)
    (hl : ∀ p ∈ ([.ctl] : List Part), p ∈ l) : State.Touch l s0 (State.modecmdWrite s v) := by
  have k : State.Touch [.ctl] s (State.modecmdWrite s v) := by
    unfold State.modecmdWrite
    try dsimp only
    iterate 60 all_goals try first
      | with_reducible assumption
      | with_reducible exact State.Touch.refl _ _
      | with_reducible refine State.Touch.modeCmd ?_ _ _ (by decide)
      | with_reducible refine State.Touch.refuse ?_ _ _ _ (by decide)
      | with_reducible refine State.Touch.ite ?_ ?_
      | split
  exact hT.call k hl

theorem State.Touch.setpointApply {l : List Part} {s0 s : State} (hT : State.Touch l s0 s)  (r : SpReq)
    (hl : ∀ p ∈ ([.mgt, .ctl] : List Part), p ∈ l) : State.Touch l s0 (State.setpointApply s r) := by
  have k : State.Touch [.mgt, .ctl] s (State.setpointApply s r) := by
    unfold State.setpointApply
    try dsimp only
    iterate 60 all_goals try first
      | with_reducible assumption
      | with_reducible exact State.Touch.refl _ _
      | with_reducible refine State.Touch.foldl ?_ _ _ (fun x u hu => ?_)
      | with_reducible refine State.Touch.modCtl ?_ _ (by decide)
      | with_reducible refine State.Touch.resultOpt ?_ _ _ _ (by decide)
      | with_reducible refine State.Touch.ite ?_ ?_
      | split
  exact hT.call k hl

theorem State.Touch.setpointDecide {l : List Part} {s0 s : State} (hT : State.Touch l s0 s) 
    (hl : ∀ p ∈ ([.mgt, .ctl] : List Part), p ∈ l) : State.Touch l s0 (State.setpointDecide s) := by
  have k : State.Touch [.mgt, .ctl] s (State.setpointDecide s) := by
    unfold State.setpointDecide
    try dsimp only
    iterate 60 all_goals try first
      | with_reducible assumption
      | with_reducible exact State.Touch.refl _ _
      | with_reducible refine State.Touch.each ?_ _ _ (fun x u hu => ?_)
      | with_reducible refine State.Touch.modCtl ?_ _ (by decide)
      | with_reducible refine State.Touch.resultOpt ?_ _ _ _ (by decide)
      | with_reducible refine State.Touch.setpointApply ?_ _ (by decide)
      | with_reducible refine State.Touch.ite ?_ ?_
      | split
  exact hT.call k hl

theorem State.Touch.trackStart {l : List Part} {s0 s : State} (hT : State.Touch l s0 s)  (at_ : Rat × Rat) (n e : Rat) (vn ve : Rat)
    (hl : ∀ p ∈ ([.ctl] : List Part), p ∈ l) : State.Touch l s0 (State.trackStart s at_ n e vn ve) := by
  have k : State.Touch [.ctl] s (State.trackStart s at_ n e vn ve) := by
    unfold State.trackStart
    try dsimp only
    iterate 60 all_goals try first
      | with_reducible assumption
      | with_reducible exact State.Touch.refl _ _
      | with_reducible refine State.Touch.modCtl ?_ _ (by decide)
      | with_reducible refine State.Touch.ite ?_ ?_
      | split
  exact hT.call k hl

theorem State.Touch.swapDecide {l : List Part} {s0 s : State} (hT : State.Touch l s0 s) 
    (hl : ∀ p ∈ ([.mgt, .ctl] : List Part), p ∈ l) : State.Touch l s0 (State.swapDecide s) := by
  have k : State.Touch [.mgt, .ctl] s (State.swapDecide s) := by
    unfold State.swapDecide
    try dsimp only
    iterate 60 all_goals try first
      | with_reducible assumption
      | with_reducible exact State.Touch.refl _ _
      | with_reducible refine State.Touch.each ?_ _ _ (fun x u hu => ?_)
      | with_reducible refine State.Touch.modCtl ?_ _ (by decide)
      | with_reducible refine State.Touch.resultOpt ?_ _ _ _ (by decide)
      | with_reducible refine State.Touch.trackStart ?_ _ _ _ _ _ (by decide)
      | with_reducible refine State.Touch.ite ?_ ?_
      | split
  exact hT.call k hl

theorem State.Touch.offsetDecide {l : List Part} {s0 s : State} (hT : State.Touch l s0 s) 
    (hl : ∀ p ∈ ([.mgt, .ctl] : List Part), p ∈ l) : State.Touch l s0 (State.offsetDecide s) := by
  have k : State.Touch [.mgt, .ctl] s (State.offsetDecide s) := by
    unfold State.offsetDecide
    try dsimp only
    iterate 60 all_goals try first
      | with_reducible assumption
      | with_reducible exact State.Touch.refl _ _
      | with_reducible refine State.Touch.each ?_ _ _ (fun x u hu => ?_)
      | with_reducible refine State.Touch.modCtl ?_ _ (by decide)
      | with_reducible refine State.Touch.resultOpt ?_ _ _ _ (by decide)
      | with_reducible refine State.Touch.ite ?_ ?_
      | split
  exact hT.call k hl

theorem State.Touch.shiftOrigin {l : List Part} {s0 s : State} (hT : State.Touch l s0 s)  (d : Rat × Rat)
    (hl : ∀ p ∈ ([.fus] : List Part), p ∈ l) : State.Touch l s0 (State.shiftOrigin s d) := by
  have k : State.Touch [.fus] s (State.shiftOrigin s d) := by
    unfold State.shiftOrigin
    try dsimp only
    iterate 60 all_goals try first
      | with_reducible assumption
      | with_reducible exact State.Touch.refl _ _
      | with_reducible refine State.Touch.each ?_ _ _ (fun x u hu => ?_)
      | with_reducible refine State.Touch.modSrc ?_ _ _ (by decide)
      | with_reducible refine State.Touch.ite ?_ ?_
      | split
      | with_reducible refine State.Touch.upd_fus ?_ _ (by decide)
  exact hT.call k hl

theorem State.Touch.originDecide {l : List Part} {s0 s : State} (hT : State.Touch l s0 s) 
    (hl : ∀ p ∈ ([.mgt, .fus, .ctl] : List Part), p ∈ l) : State.Touch l s0 (State.originDecide s) := by
  have k : State.Touch [.mgt, .fus, .ctl] s (State.originDecide s) := by
    unfold State.originDecide
    try dsimp only
    iterate 60 all_goals try first
      | with_reducible assumption
      | with_reducible exact State.Touch.refl _ _
      | with_reducible refine State.Touch.each ?_ _ _ (fun x u hu => ?_)
      | with_reducible refine State.Touch.modCtl ?_ _ (by decide)
      | with_reducible refine State.Touch.resultOpt ?_ _ _ _ (by decide)
      | with_reducible refine State.Touch.shiftOrigin ?_ _ (by decide)
      | with_reducible refine State.Touch.ite ?_ ?_
      | split
      | with_reducible refine State.Touch.upd_fus ?_ _ (by decide)
  exact hT.call k hl

theorem State.Touch.compDecide {l : List Part} {s0 s : State} (hT : State.Touch l s0 s) 
    (hl : ∀ p ∈ ([.mgt, .ctl] : List Part), p ∈ l) : State.Touch l s0 (State.compDecide s) := by
  have k : State.Touch [.mgt, .ctl] s (State.compDecide s) := by
    unfold State.compDecide
    try dsimp only
    iterate 60 all_goals try first
      | with_reducible assumption
      | with_reducible exact State.Touch.refl _ _
      | with_reducible refine State.Touch.each ?_ _ _ (fun x u hu => ?_)
      | with_reducible refine State.Touch.compRamp ?_ (by decide)
      | with_reducible refine State.Touch.modCtl ?_ _ (by decide)
      | with_reducible refine State.Touch.resultOpt ?_ _ _ _ (by decide)
      | with_reducible refine State.Touch.ite ?_ ?_
      | split
  exact hT.call k hl

theorem State.Touch.dinEdge {l : List Part} {s0 s : State} (hT : State.Touch l s0 s)  (i : Nat) (level : Bool)
    (hl : ∀ p ∈ ([.chans, .ctl, .alc, .port] : List Part), p ∈ l) : State.Touch l s0 (State.dinEdge s i level) := by
  have k : State.Touch [.chans, .ctl, .alc, .port] s (State.dinEdge s i level) := by
    unfold State.dinEdge
    try dsimp only
    iterate 60 all_goals try first
      | with_reducible assumption
      | with_reducible exact State.Touch.refl _ _
      | with_reducible refine State.Touch.each ?_ _ _ (fun x u hu => ?_)
      | with_reducible refine State.Touch.compRamp ?_ (by decide)
      | with_reducible refine State.Touch.dinSet ?_ _ _ (by decide)
      | with_reducible refine State.Touch.thrRemove ?_ _ _ _ (by decide)
      | with_reducible refine State.Touch.ite ?_ ?_
      | split
  exact hT.call k hl

theorem State.Touch.compExitEnd {l : List Part} {s0 s : State} (hT : State.Touch l s0 s) 
    (hl : ∀ p ∈ ([.ctl] : List Part), p ∈ l) : State.Touch l s0 (State.compExitEnd s) := by
  have k : State.Touch [.ctl] s (State.compExitEnd s) := by
    unfold State.compExitEnd
    try dsimp only
    iterate 60 all_goals try first
      | with_reducible assumption
      | with_reducible exact State.Touch.refl _ _
      | with_reducible refine State.Touch.modCtl ?_ _ (by decide)
      | with_reducible refine State.Touch.ite ?_ ?_
      | split
  exact hT.call k hl

theorem State.Touch.ctlFrame {l : List Part} {s0 s : State} (hT : State.Touch l s0 s) 
    (hl : ∀ p ∈ ([.cfg, .mgt, .fus, .ctl, .srv] : List Part), p ∈ l) : State.Touch l s0 (State.ctlFrame s) := by
  have k : State.Touch [.cfg, .mgt, .fus, .ctl, .srv] s (State.ctlFrame s) := by
    unfold State.ctlFrame
    try dsimp only
    iterate 60 all_goals try first
      | with_reducible assumption
      | with_reducible exact State.Touch.refl _ _
      | with_reducible refine State.Touch.compDecide ?_ (by decide)
      | with_reducible refine State.Touch.modeDecide ?_ (by decide)
      | with_reducible refine State.Touch.modeDrop ?_ (by decide)
      | with_reducible refine State.Touch.offsetDecide ?_ (by decide)
      | with_reducible refine State.Touch.originDecide ?_ (by decide)
      | with_reducible refine State.Touch.setpointDecide ?_ (by decide)
      | with_reducible refine State.Touch.swapDecide ?_ (by decide)
      | with_reducible refine State.Touch.ite ?_ ?_
      | split
  exact hT.call k hl

theorem State.Touch.trackWrite {l : List Part} {s0 s : State} (hT : State.Touch l s0 s)  (first : Nat) (pts : List Waypoint)
    (hl : ∀ p ∈ ([.ctl] : List Part), p ∈ l) : State.Touch l s0 (State.trackWrite s first pts) := by
  have k : State.Touch [.ctl] s (State.trackWrite s first pts) := by
    unfold State.trackWrite
    try dsimp only
    iterate 60 all_goals try first
      | with_reducible assumption
      | with_reducible exact State.Touch.refl _ _
      | with_reducible refine State.Touch.modCtl ?_ _ (by decide)
      | with_reducible refine State.Touch.ite ?_ ?_
      | split
  exact hT.call k hl

end Sys2Proof.Machine
end

