-- ==== Sys2Proof/Laws/Touch/Mpc.lean ====
section
/-!
SUPPORT. Sys2Proof/Laws/Touch/Mpc.lean: which parts of the state each operation of Machine/Mpc.lean may change.
-/
set_option linter.all false
set_option maxRecDepth 4000
namespace Sys2Proof.Machine

theorem State.Touch.planeStep {l : List Part} {s0 s : State} (hT : State.Touch l s0 s)  (psi : Int) (dt : Rat)
    (hl : ∀ p ∈ ([.ctl] : List Part), p ∈ l) : State.Touch l s0 (State.planeStep s psi dt) := by
  have k : State.Touch [.ctl] s (State.planeStep s psi dt) := by
    unfold State.planeStep
    try dsimp only
    iterate 60 all_goals try first
      | with_reducible assumption
      | with_reducible exact State.Touch.refl _ _
      | with_reducible refine State.Touch.modCtl ?_ _ (by decide)
      | with_reducible refine State.Touch.ite ?_ ?_
      | split
  exact hT.call k hl

theorem State.Touch.headStep {l : List Part} {s0 s : State} (hT : State.Touch l s0 s)  (dt : Rat)
    (hl : ∀ p ∈ ([.ctl] : List Part), p ∈ l) : State.Touch l s0 (State.headStep s dt) := by
  have k : State.Touch [.ctl] s (State.headStep s dt) := by
    unfold State.headStep
    try dsimp only
    iterate 60 all_goals try first
      | with_reducible assumption
      | with_reducible exact State.Touch.refl _ _
      | with_reducible refine State.Touch.modCtl ?_ _ (by decide)
      | with_reducible refine State.Touch.ite ?_ ?_
      | split
  exact hT.call k hl

theorem State.Touch.speedStep {l : List Part} {s0 s : State} (hT : State.Touch l s0 s)  (dt : Rat)
    (hl : ∀ p ∈ ([.ctl] : List Part), p ∈ l) : State.Touch l s0 (State.speedStep s dt) := by
  have k : State.Touch [.ctl] s (State.speedStep s dt) := by
    unfold State.speedStep
    try dsimp only
    iterate 60 all_goals try first
      | with_reducible assumption
      | with_reducible exact State.Touch.refl _ _
      | with_reducible refine State.Touch.modCtl ?_ _ (by decide)
      | with_reducible refine State.Touch.ite ?_ ?_
      | split
  exact hT.call k hl

theorem State.Touch.trackStep {l : List Part} {s0 s : State} (hT : State.Touch l s0 s)  (dt : Rat)
    (hl : ∀ p ∈ ([.ctl] : List Part), p ∈ l) : State.Touch l s0 (State.trackStep s dt) := by
  have k : State.Touch [.ctl] s (State.trackStep s dt) := by
    unfold State.trackStep
    try dsimp only
    iterate 60 all_goals try first
      | with_reducible assumption
      | with_reducible exact State.Touch.refl _ _
      | with_reducible refine State.Touch.foldl ?_ _ _ (fun x u hu => ?_)
      | with_reducible refine State.Touch.modCtl ?_ _ (by decide)
      | with_reducible refine State.Touch.ite ?_ ?_
      | split
  exact hT.call k hl

theorem State.Touch.refMove {l : List Part} {s0 s : State} (hT : State.Touch l s0 s)  (psi : Int) (dt : Rat)
    (hl : ∀ p ∈ ([.ctl] : List Part), p ∈ l) : State.Touch l s0 (State.refMove s psi dt) := by
  have k : State.Touch [.ctl] s (State.refMove s psi dt) := by
    unfold State.refMove
    try dsimp only
    iterate 60 all_goals try first
      | with_reducible assumption
      | with_reducible exact State.Touch.refl _ _
      | with_reducible refine State.Touch.headStep ?_ _ (by decide)
      | with_reducible refine State.Touch.planeStep ?_ _ _ (by decide)
      | with_reducible refine State.Touch.speedStep ?_ _ (by decide)
      | with_reducible refine State.Touch.trackStep ?_ _ (by decide)
      | with_reducible refine State.Touch.ite ?_ ?_
      | split
  exact hT.call k hl

end Sys2Proof.Machine
end

