-- ==== Sys2Proof/Laws/Touch/Control.lean ====
section
/-!
SUPPORT. Sys2Proof/Laws/Touch/Control.lean: which parts of the state each operation of Machine/Control.lean may change.
-/
set_option linter.all false
set_option maxRecDepth 4000
namespace Sys2Proof.Machine

theorem State.Touch.refEnter {l : List Part} {s0 s : State} (hT : State.Touch l s0 s)  (e : Epoch)
    (hl : ∀ p ∈ ([.ctl] : List Part), p ∈ l) : State.Touch l s0 (State.refEnter s e) := by
  have k : State.Touch [.ctl] s (State.refEnter s e) := by
    unfold State.refEnter
    try dsimp only
    iterate 60 all_goals try first
      | with_reducible assumption
      | with_reducible exact State.Touch.refl _ _
      | with_reducible refine State.Touch.modCtl ?_ _ (by decide)
      | with_reducible refine State.Touch.trackStart ?_ _ _ _ _ _ (by decide)
      | with_reducible refine State.Touch.ite ?_ ?_
      | split
  exact hT.call k hl

theorem State.Touch.targetSp {l : List Part} {s0 s : State} (hT : State.Touch l s0 s) 
    (hl : ∀ p ∈ ([.ctl] : List Part), p ∈ l) : State.Touch l s0 (State.targetSp s) := by
  have k : State.Touch [.ctl] s (State.targetSp s) := by
    unfold State.targetSp
    try dsimp only
    iterate 60 all_goals try first
      | with_reducible assumption
      | with_reducible exact State.Touch.refl _ _
      | with_reducible refine State.Touch.modCtl ?_ _ (by decide)
      | with_reducible refine State.Touch.ite ?_ ?_
      | split
  exact hT.call k hl

theorem State.Touch.weatherSp {l : List Part} {s0 s : State} (hT : State.Touch l s0 s)  (e : Epoch)
    (hl : ∀ p ∈ ([.ctl] : List Part), p ∈ l) : State.Touch l s0 (State.weatherSp s e) := by
  have k : State.Touch [.ctl] s (State.weatherSp s e) := by
    unfold State.weatherSp
    try dsimp only
    iterate 60 all_goals try first
      | with_reducible assumption
      | with_reducible exact State.Touch.refl _ _
      | with_reducible refine State.Touch.modCtl ?_ _ (by decide)
      | with_reducible refine State.Touch.ite ?_ ?_
      | split
  exact hT.call k hl

theorem State.Touch.refStep {l : List Part} {s0 s : State} (hT : State.Touch l s0 s)  (e : Epoch)
    (hl : ∀ p ∈ ([.ctl] : List Part), p ∈ l) : State.Touch l s0 (State.refStep s e) := by
  have k : State.Touch [.ctl] s (State.refStep s e) := by
    unfold State.refStep
    try dsimp only
    iterate 60 all_goals try first
      | with_reducible assumption
      | with_reducible exact State.Touch.refl _ _
      | with_reducible refine State.Touch.refEnter ?_ _ (by decide)
      | with_reducible refine State.Touch.refMove ?_ _ _ (by decide)
      | with_reducible refine State.Touch.targetSp ?_ (by decide)
      | with_reducible refine State.Touch.weatherSp ?_ _ (by decide)
      | with_reducible refine State.Touch.ite ?_ ?_
      | split
  exact hT.call k hl

theorem State.Touch.formBox {l : List Part} {s0 s : State} (hT : State.Touch l s0 s) 
    (hl : ∀ p ∈ ([.ctl] : List Part), p ∈ l) : State.Touch l s0 (State.formBox s) := by
  have k : State.Touch [.ctl] s (State.formBox s) := by
    unfold State.formBox
    try dsimp only
    iterate 60 all_goals try first
      | with_reducible assumption
      | with_reducible exact State.Touch.refl _ _
      | with_reducible refine State.Touch.modCtl ?_ _ (by decide)
      | with_reducible refine State.Touch.ite ?_ ?_
      | split
  exact hT.call k hl

theorem State.Touch.mpcStart {l : List Part} {s0 s : State} (hT : State.Touch l s0 s)  (e : Epoch)
    (hl : ∀ p ∈ ([.ctl, .slv] : List Part), p ∈ l) : State.Touch l s0 (State.mpcStart s e) := by
  have k : State.Touch [.ctl, .slv] s (State.mpcStart s e) := by
    unfold State.mpcStart
    try dsimp only
    iterate 60 all_goals try first
      | with_reducible assumption
      | with_reducible exact State.Touch.refl _ _
      | with_reducible refine State.Touch.modCtl ?_ _ (by decide)
      | with_reducible refine State.Touch.modInst ?_ _ _ (by decide)
      | with_reducible refine State.Touch.slvStart ?_ _ _ (by decide)
      | with_reducible refine State.Touch.ite ?_ ?_
      | split
  exact hT.call k hl

theorem State.Touch.mpcPublish {l : List Part} {s0 s : State} (hT : State.Touch l s0 s)  (stop : Nat)
    (hl : ∀ p ∈ ([.mgt, .chans, .ctl, .slv, .can, .eth, .ana, .port] : List Part), p ∈ l) : State.Touch l s0 (State.mpcPublish s stop) := by
  have k : State.Touch [.mgt, .chans, .ctl, .slv, .can, .eth, .ana, .port] s (State.mpcPublish s stop) := by
    unfold State.mpcPublish
    try dsimp only
    iterate 60 all_goals try first
      | with_reducible assumption
      | with_reducible exact State.Touch.refl _ _
      | with_reducible refine State.Touch.modCtl ?_ _ (by decide)
      | with_reducible refine State.Touch.publishOn ?_ _ _ _ (by decide)
      | with_reducible refine State.Touch.slvPublish ?_ _ _ _ (by decide)
      | with_reducible refine State.Touch.ite ?_ ?_
      | split
  exact hT.call k hl

theorem State.Touch.planDeadline {l : List Part} {s0 s : State} (hT : State.Touch l s0 s) 
    (hl : ∀ p ∈ ([.mgt, .chans, .fab, .ctl, .can, .eth, .ana] : List Part), p ∈ l) : State.Touch l s0 (State.planDeadline s) := by
  have k : State.Touch [.mgt, .chans, .fab, .ctl, .can, .eth, .ana] s (State.planDeadline s) := by
    unfold State.planDeadline
    try dsimp only
    iterate 60 all_goals try first
      | with_reducible assumption
      | with_reducible exact State.Touch.refl _ _
      | with_reducible refine State.Touch.closeSlots ?_ _ (by decide)
      | with_reducible refine State.Touch.modCtl ?_ _ (by decide)
      | with_reducible refine State.Touch.ite ?_ ?_
      | split
  exact hT.call k hl

theorem State.Touch.planAdopt {l : List Part} {s0 s : State} (hT : State.Touch l s0 s) 
    (hl : ∀ p ∈ ([.ctl] : List Part), p ∈ l) : State.Touch l s0 (State.planAdopt s) := by
  have k : State.Touch [.ctl] s (State.planAdopt s) := by
    unfold State.planAdopt
    try dsimp only
    iterate 60 all_goals try first
      | with_reducible assumption
      | with_reducible exact State.Touch.refl _ _
      | with_reducible refine State.Touch.modCtl ?_ _ (by decide)
      | with_reducible refine State.Touch.ite ?_ ?_
      | split
  exact hT.call k hl

theorem State.Touch.lineCheck {l : List Part} {s0 s : State} (hT : State.Touch l s0 s) 
    (hl : ∀ p ∈ ([.ctl] : List Part), p ∈ l) : State.Touch l s0 (State.lineCheck s) := by
  have k : State.Touch [.ctl] s (State.lineCheck s) := by
    unfold State.lineCheck
    try dsimp only
    iterate 60 all_goals try first
      | with_reducible assumption
      | with_reducible exact State.Touch.refl _ _
      | with_reducible refine State.Touch.modCtl ?_ _ (by decide)
      | with_reducible refine State.Touch.ite ?_ ?_
      | split
  exact hT.call k hl

theorem State.Touch.demandForm {l : List Part} {s0 s : State} (hT : State.Touch l s0 s)  (e : Epoch)
    (hl : ∀ p ∈ ([.ctl, .slv, .alc] : List Part), p ∈ l) : State.Touch l s0 (State.demandForm s e) := by
  have k : State.Touch [.ctl, .slv, .alc] s (State.demandForm s e) := by
    unfold State.demandForm
    try dsimp only
    iterate 60 all_goals try first
      | with_reducible assumption
      | with_reducible exact State.Touch.refl _ _
      | with_reducible refine State.Touch.alcStart ?_ _ _ (by decide)
      | with_reducible refine State.Touch.lineCheck ?_ (by decide)
      | with_reducible refine State.Touch.modCtl ?_ _ (by decide)
      | with_reducible refine State.Touch.refStep ?_ _ (by decide)
      | with_reducible refine State.Touch.ite ?_ ?_
      | split
  exact hT.call k hl

theorem State.Touch.epochPublish {l : List Part} {s0 s : State} (hT : State.Touch l s0 s)  (own : Bool × Bool × Bool)
    (hl : ∀ p ∈ ([.mgt, .chans, .fus, .ctl, .slv, .alc, .can, .eth, .ana, .port] : List Part), p ∈ l) : State.Touch l s0 (State.epochPublish s own) := by
  have k : State.Touch [.mgt, .chans, .fus, .ctl, .slv, .alc, .can, .eth, .ana, .port] s (State.epochPublish s own) := by
    unfold State.epochPublish
    try dsimp only
    iterate 60 all_goals try first
      | with_reducible assumption
      | with_reducible exact State.Touch.refl _ _
      | with_reducible refine State.Touch.demandForm ?_ _ (by decide)
      | with_reducible refine State.Touch.mpcStart ?_ _ (by decide)
      | with_reducible refine State.Touch.publishEpoch ?_ _ _ _ (by decide)
      | with_reducible refine State.Touch.ite ?_ ?_
      | split
  exact hT.call k hl

theorem State.Touch.fusionDeadline {l : List Part} {s0 s : State} (hT : State.Touch l s0 s) 
    (hl : ∀ p ∈ ([.fab, .fus, .ctl, .slv, .alc, .port] : List Part), p ∈ l) : State.Touch l s0 (State.fusionDeadline s) := by
  have k : State.Touch [.fab, .fus, .ctl, .slv, .alc, .port] s (State.fusionDeadline s) := by
    unfold State.fusionDeadline
    try dsimp only
    iterate 60 all_goals try first
      | with_reducible assumption
      | with_reducible exact State.Touch.refl _ _
      | with_reducible refine State.Touch.deadlineMiss ?_ _ _ (by decide)
      | with_reducible refine State.Touch.demandForm ?_ _ (by decide)
      | with_reducible refine State.Touch.modCtl ?_ _ (by decide)
      | with_reducible refine State.Touch.ite ?_ ?_
      | split
      | with_reducible refine State.Touch.upd_fus ?_ _ (by decide)
  exact hT.call k hl

theorem State.Touch.pmsTimeout {l : List Part} {s0 s : State} (hT : State.Touch l s0 s) 
    (hl : ∀ p ∈ ([.ctl] : List Part), p ∈ l) : State.Touch l s0 (State.pmsTimeout s) := by
  have k : State.Touch [.ctl] s (State.pmsTimeout s) := by
    unfold State.pmsTimeout
    try dsimp only
    iterate 60 all_goals try first
      | with_reducible assumption
      | with_reducible exact State.Touch.refl _ _
      | with_reducible refine State.Touch.modCtl ?_ _ (by decide)
      | with_reducible refine State.Touch.ite ?_ ?_
      | split
  exact hT.call k hl

theorem State.Touch.targetLost {l : List Part} {s0 s : State} (hT : State.Touch l s0 s) 
    (hl : ∀ p ∈ ([.ctl] : List Part), p ∈ l) : State.Touch l s0 (State.targetLost s) := by
  have k : State.Touch [.ctl] s (State.targetLost s) := by
    unfold State.targetLost
    try dsimp only
    iterate 60 all_goals try first
      | with_reducible assumption
      | with_reducible exact State.Touch.refl _ _
      | with_reducible refine State.Touch.modCtl ?_ _ (by decide)
      | with_reducible refine State.Touch.ite ?_ ?_
      | split
  exact hT.call k hl

theorem State.Touch.srcTimeout {l : List Part} {s0 s : State} (hT : State.Touch l s0 s) 
    (hl : ∀ p ∈ ([.ctl] : List Part), p ∈ l) : State.Touch l s0 (State.srcTimeout s) := by
  have k : State.Touch [.ctl] s (State.srcTimeout s) := by
    unfold State.srcTimeout
    try dsimp only
    iterate 60 all_goals try first
      | with_reducible assumption
      | with_reducible exact State.Touch.refl _ _
      | with_reducible refine State.Touch.modCtl ?_ _ (by decide)
      | with_reducible refine State.Touch.ite ?_ ?_
      | split
  exact hT.call k hl

theorem State.Touch.srcHoldExpired {l : List Part} {s0 s : State} (hT : State.Touch l s0 s) 
    (hl : ∀ p ∈ ([.ctl] : List Part), p ∈ l) : State.Touch l s0 (State.srcHoldExpired s) := by
  have k : State.Touch [.ctl] s (State.srcHoldExpired s) := by
    unfold State.srcHoldExpired
    try dsimp only
    iterate 60 all_goals try first
      | with_reducible assumption
      | with_reducible exact State.Touch.refl _ _
      | with_reducible refine State.Touch.modCtl ?_ _ (by decide)
      | with_reducible refine State.Touch.ite ?_ ?_
      | split
  exact hT.call k hl

theorem State.Touch.safeThr {l : List Part} {s0 s : State} (hT : State.Touch l s0 s)  (i : Nat) (c : ThrCfg)
    (hl : ∀ p ∈ ([.alc] : List Part), p ∈ l) : State.Touch l s0 (State.safeThr s i c) := by
  have k : State.Touch [.alc] s (State.safeThr s i c) := by
    unfold State.safeThr
    try dsimp only
    iterate 60 all_goals try first
      | with_reducible assumption
      | with_reducible exact State.Touch.refl _ _
      | with_reducible refine State.Touch.modThr ?_ _ _ (by decide)
      | with_reducible refine State.Touch.ite ?_ ?_
      | split
  exact hT.call k hl

theorem State.Touch.leverThr {l : List Part} {s0 s : State} (hT : State.Touch l s0 s)  (i : Nat) (c : ThrCfg)
    (hl : ∀ p ∈ ([.alc] : List Part), p ∈ l) : State.Touch l s0 (State.leverThr s i c) := by
  have k : State.Touch [.alc] s (State.leverThr s i c) := by
    unfold State.leverThr
    try dsimp only
    iterate 60 all_goals try first
      | with_reducible assumption
      | with_reducible exact State.Touch.refl _ _
      | with_reducible refine State.Touch.modThr ?_ _ _ (by decide)
      | with_reducible refine State.Touch.safeThr ?_ _ _ (by decide)
      | with_reducible refine State.Touch.ite ?_ ?_
      | split
  exact hT.call k hl

theorem State.Touch.directElements {l : List Part} {s0 s : State} (hT : State.Touch l s0 s) 
    (hl : ∀ p ∈ ([.mgt, .chans, .ctl, .alc, .can, .eth, .ana, .port] : List Part), p ∈ l) : State.Touch l s0 (State.directElements s) := by
  have k : State.Touch [.mgt, .chans, .ctl, .alc, .can, .eth, .ana, .port] s (State.directElements s) := by
    unfold State.directElements
    try dsimp only
    iterate 60 all_goals try first
      | with_reducible assumption
      | with_reducible exact State.Touch.refl _ _
      | with_reducible refine State.Touch.each ?_ _ _ (fun x u hu => ?_)
      | with_reducible refine State.Touch.leverThr ?_ _ _ (by decide)
      | with_reducible refine State.Touch.modCtl ?_ _ (by decide)
      | with_reducible refine State.Touch.safeThr ?_ _ _ (by decide)
      | with_reducible refine State.Touch.sendElements ?_ _ (by decide)
      | with_reducible refine State.Touch.ite ?_ ?_
      | split
      | with_reducible refine State.Touch.upd_alc ?_ _ (by decide)
  exact hT.call k hl

theorem State.Touch.compForm {l : List Part} {s0 s : State} (hT : State.Touch l s0 s) 
    (hl : ∀ p ∈ ([.ctl] : List Part), p ∈ l) : State.Touch l s0 (State.compForm s).1 := by
  have k : State.Touch [.ctl] s (State.compForm s).1 := by
    unfold State.compForm
    try dsimp only
    iterate 60 all_goals try first
      | with_reducible assumption
      | with_reducible exact State.Touch.refl _ _
      | with_reducible refine State.Touch.modCtl ?_ _ (by decide)
      | with_reducible refine State.Touch.ite ?_ ?_
      | split
  exact hT.call k hl

theorem State.Touch.sentShift {l : List Part} {s0 s : State} (hT : State.Touch l s0 s) 
    (hl : ∀ p ∈ ([.alc] : List Part), p ∈ l) : State.Touch l s0 (State.sentShift s) := by
  have k : State.Touch [.alc] s (State.sentShift s) := by
    unfold State.sentShift
    try dsimp only
    iterate 60 all_goals try first
      | with_reducible assumption
      | with_reducible exact State.Touch.refl _ _
      | with_reducible refine State.Touch.ite ?_ ?_
      | split
      | with_reducible refine State.Touch.upd_alc ?_ _ (by decide)
  exact hT.call k hl

theorem State.Touch.loopEmit {l : List Part} {s0 s : State} (hT : State.Touch l s0 s) 
    (hl : ∀ p ∈ ([.ctl, .srv] : List Part), p ∈ l) : State.Touch l s0 (State.loopEmit s) := by
  have k : State.Touch [.ctl, .srv] s (State.loopEmit s) := by
    unfold State.loopEmit
    try dsimp only
    iterate 60 all_goals try first
      | with_reducible assumption
      | with_reducible exact State.Touch.refl _ _
      | with_reducible refine State.Touch.each ?_ _ _ (fun x u hu => ?_)
      | with_reducible refine State.Touch.compForm ?_ (by decide)
      | with_reducible refine State.Touch.modLoop ?_ _ _ (by decide)
      | refine State.Touch.fst (by with_reducible assumption) ?_ (State.Touch.compForm (State.Touch.refl _ _) (fun _ h => h)) (by decide)
      | with_reducible refine State.Touch.ite ?_ ?_
      | split
  exact hT.call k hl

theorem State.Touch.ctlTell {l : List Part} {s0 s : State} (hT : State.Touch l s0 s)  (w : Nat)
    (hl : ∀ p ∈ ([.mgt, .chans, .can, .eth, .ana, .port] : List Part), p ∈ l) : State.Touch l s0 (State.ctlTell s w) := by
  have k : State.Touch [.mgt, .chans, .can, .eth, .ana, .port] s (State.ctlTell s w) := by
    unfold State.ctlTell
    try dsimp only
    iterate 60 all_goals try first
      | with_reducible assumption
      | with_reducible exact State.Touch.refl _ _
      | with_reducible refine State.Touch.count ?_ _
      | with_reducible refine State.Touch.publishOn ?_ _ _ _ (by decide)
      | with_reducible refine State.Touch.ite ?_ ?_
      | split
  exact hT.call k hl

theorem State.Touch.ctlEmit {l : List Part} {s0 s : State} (hT : State.Touch l s0 s) 
    (hl : ∀ p ∈ ([.mgt, .chans, .can, .eth, .ana, .port] : List Part), p ∈ l) : State.Touch l s0 (State.ctlEmit s) := by
  have k : State.Touch [.mgt, .chans, .can, .eth, .ana, .port] s (State.ctlEmit s) := by
    unfold State.ctlEmit
    try dsimp only
    iterate 60 all_goals try first
      | with_reducible assumption
      | with_reducible exact State.Touch.refl _ _
      | with_reducible refine State.Touch.wr ?_ _ _
      | with_reducible refine State.Touch.set ?_ _ _
      | with_reducible refine State.Touch.raise ?_ _ _ _
      | with_reducible refine State.Touch.each ?_ _ _ (fun x u hu => ?_)
      | with_reducible refine State.Touch.ctlTell ?_ _ (by decide)
      | with_reducible refine State.Touch.ite ?_ ?_
      | split
  exact hT.call k hl

theorem State.Touch.solveStop {l : List Part} {s0 s : State} (hT : State.Touch l s0 s)  (k stop : Nat)
    (hl : ∀ p ∈ ([.mgt, .chans, .fab, .ctl, .slv, .alc, .can, .eth, .ana, .port] : List Part), p ∈ l) : State.Touch l s0 (State.solveStop s k stop) := by
  have k : State.Touch [.mgt, .chans, .fab, .ctl, .slv, .alc, .can, .eth, .ana, .port] s (State.solveStop s k stop) := by
    unfold State.solveStop
    try dsimp only
    iterate 60 all_goals try first
      | with_reducible assumption
      | with_reducible exact State.Touch.refl _ _
      | with_reducible refine State.Touch.alcPublish ?_ _ (by decide)
      | with_reducible refine State.Touch.cqPublish ?_ _ _ (by decide)
      | with_reducible refine State.Touch.mpcPublish ?_ _ (by decide)
      | with_reducible refine State.Touch.ite ?_ ?_
      | split
  exact hT.call k hl

theorem State.Touch.iterationEnd {l : List Part} {s0 s : State} (hT : State.Touch l s0 s) (k : Nat) (own : OwnFlags)
    (hl : ∀ p ∈ ([.mgt, .chans, .fab, .ctl, .slv, .alc, .can, .eth, .ana, .port] : List Part), p ∈ l) : State.Touch l s0 (s.iterationEnd k own) := by
  have sub : ∀ (m : List Part), (∀ p ∈ m, p ∈ ([.mgt, .chans, .fab, .ctl, .slv, .alc, .can, .eth, .ana, .port] : List Part)) → ∀ p ∈ m, p ∈ l := fun m hm p hp => hl p (hm p hp)
  have h1 := State.Touch.iterate hT k own (sub _ (by decide))
  unfold State.iterationEnd
  split
  · rename_i e; rw [e] at h1; exact State.Touch.solveStop h1 _ _ (sub _ (by decide))
  · rename_i e; rw [e] at h1; exact h1

theorem State.Touch.stopTime {l : List Part} {s0 s : State} (hT : State.Touch l s0 s)  (k : Nat)
    (hl : ∀ p ∈ ([.mgt, .chans, .fab, .ctl, .slv, .alc, .can, .eth, .ana, .port] : List Part), p ∈ l) : State.Touch l s0 (State.stopTime s k) := by
  have k : State.Touch [.mgt, .chans, .fab, .ctl, .slv, .alc, .can, .eth, .ana, .port] s (State.stopTime s k) := by
    unfold State.stopTime
    try dsimp only
    iterate 60 all_goals try first
      | with_reducible assumption
      | with_reducible exact State.Touch.refl _ _
      | with_reducible refine State.Touch.slvAbandon ?_ _ (by decide)
      | with_reducible refine State.Touch.solveStop ?_ _ _ (by decide)
      | with_reducible refine State.Touch.ite ?_ ?_
      | split
  exact hT.call k hl

end Sys2Proof.Machine
end

