-- ==== Sys2Proof/Laws/Touch/HostChans.lean ====
section
/-!
SUPPORT. Sys2Proof/Laws/Touch/HostChans.lean: which parts of the state each operation of Machine/HostChans.lean may change.
-/
set_option linter.all false
set_option maxRecDepth 4000
namespace Sys2Proof.Machine

theorem State.Touch.raiseGens {l : List Part} {s0 s : State} (hT : State.Touch l s0 s) (own : Chan → Bool)
    (hl : ∀ p ∈ ([.mgt, .chans] : List Part), p ∈ l) : State.Touch l s0 (s.raiseGens own) := by
  refine hT.trans (fun p hn => by cases p <;> first | rfl | exact ⟨rfl, rfl⟩ | exact List.prefix_rfl | exact absurd (hl _ (by decide)) hn)

theorem State.Touch.chanNew {l : List Part} {s0 s : State} (hT : State.Touch l s0 s)  (t i : Nat) (st : ChanState) (body : List Byte) (q : Option ReqRef)
    (hl : ∀ p ∈ ([.chans] : List Part), p ∈ l) : State.Touch l s0 (State.chanNew s t i st body q) := by
  have k : State.Touch [.chans] s (State.chanNew s t i st body q) := by
    unfold State.chanNew
    try dsimp only
    iterate 60 all_goals try first
      | with_reducible assumption
      | with_reducible exact State.Touch.refl _ _
      | with_reducible refine State.Touch.modChan ?_ _ _ _ (by decide)
      | with_reducible refine State.Touch.ite ?_ ?_
      | split
      | with_reducible refine State.Touch.upd_chans ?_ _ (by decide)
  exact hT.call k hl

theorem State.Touch.fnStart {l : List Part} {s0 s : State} (hT : State.Touch l s0 s)  (c : Chan)
    (hl : ∀ p ∈ ([.chans, .fus, .alc, .can, .ana, .srv] : List Part), p ∈ l) : State.Touch l s0 (State.fnStart s c) := by
  have k : State.Touch [.chans, .fus, .alc, .can, .ana, .srv] s (State.fnStart s c) := by
    unfold State.fnStart
    try dsimp only
    iterate 60 all_goals try first
      | with_reducible assumption
      | with_reducible exact State.Touch.refl _ _
      | with_reducible refine State.Touch.wr ?_ _ _
      | with_reducible refine State.Touch.setBit ?_ _ _
      | with_reducible refine State.Touch.chainReinit ?_ _ (by decide)
      | with_reducible refine State.Touch.loopReinit ?_ _ (by decide)
      | with_reducible refine State.Touch.modObj ?_ _ _ _ (by decide)
      | with_reducible refine State.Touch.pinReinit ?_ _ (by decide)
      | with_reducible refine State.Touch.srcCreate ?_ _ _ (by decide)
      | with_reducible refine State.Touch.thrClear ?_ _ _ (by decide)
      | with_reducible refine State.Touch.ite ?_ ?_
      | split
  exact hT.call k hl

theorem State.Touch.chanLiveNow {l : List Part} {s0 s : State} (hT : State.Touch l s0 s)  (c : Chan)
    (hl : ∀ p ∈ ([.mgt, .chans, .fus, .alc, .can, .ana, .srv] : List Part), p ∈ l) : State.Touch l s0 (State.chanLiveNow s c) := by
  have k : State.Touch [.mgt, .chans, .fus, .alc, .can, .ana, .srv] s (State.chanLiveNow s c) := by
    unfold State.chanLiveNow
    try dsimp only
    iterate 60 all_goals try first
      | with_reducible assumption
      | with_reducible exact State.Touch.refl _ _
      | with_reducible refine State.Touch.fnStart ?_ _ (by decide)
      | with_reducible refine State.Touch.modChan ?_ _ _ _ (by decide)
      | with_reducible refine State.Touch.resultOpt ?_ _ _ _ (by decide)
      | with_reducible refine State.Touch.ite ?_ ?_
      | split
  exact hT.call k hl

theorem State.Touch.fnStop {l : List Part} {s0 s : State} (hT : State.Touch l s0 s)  (t i : Nat)
    (hl : ∀ p ∈ ([.chans, .fus, .ctl, .alc, .ana, .srv] : List Part), p ∈ l) : State.Touch l s0 (State.fnStop s t i) := by
  have k : State.Touch [.chans, .fus, .ctl, .alc, .ana, .srv] s (State.fnStop s t i) := by
    unfold State.fnStop
    try dsimp only
    iterate 60 all_goals try first
      | with_reducible assumption
      | with_reducible exact State.Touch.refl _ _
      | with_reducible refine State.Touch.chainStop ?_ _ (by decide)
      | with_reducible refine State.Touch.joystick ?_ _ _ (by decide)
      | with_reducible refine State.Touch.lever ?_ _ _ _ (by decide)
      | with_reducible refine State.Touch.loopOpen ?_ _ _ (by decide)
      | with_reducible refine State.Touch.modCtl ?_ _ (by decide)
      | with_reducible refine State.Touch.pinStop ?_ _ (by decide)
      | with_reducible refine State.Touch.srcDestroy ?_ _ _ (by decide)
      | with_reducible refine State.Touch.thrRemove ?_ _ _ _ (by decide)
      | with_reducible refine State.Touch.ite ?_ ?_
      | split
  exact hT.call k hl

theorem State.Touch.chanGone {l : List Part} {s0 s : State} (hT : State.Touch l s0 s)  (c : Chan)
    (hl : ∀ p ∈ ([.mgt, .chans] : List Part), p ∈ l) : State.Touch l s0 (State.chanGone s c) := by
  have k : State.Touch [.mgt, .chans] s (State.chanGone s c) := by
    unfold State.chanGone
    try dsimp only
    iterate 60 all_goals try first
      | with_reducible assumption
      | with_reducible exact State.Touch.refl _ _
      | with_reducible refine State.Touch.setBit ?_ _ _
      | with_reducible refine State.Touch.modChan ?_ _ _ _ (by decide)
      | with_reducible refine State.Touch.resultOpt ?_ _ _ _ (by decide)
      | with_reducible refine State.Touch.ite ?_ ?_
      | split
  exact hT.call k hl

theorem State.Touch.destroyMarkers {l : List Part} {s0 s : State} (hT : State.Touch l s0 s)  (c : Chan)
    (hl : ∀ p ∈ ([.mgt, .chans, .fab, .can, .eth, .ana] : List Part), p ∈ l) : State.Touch l s0 (State.destroyMarkers s c) := by
  have k : State.Touch [.mgt, .chans, .fab, .can, .eth, .ana] s (State.destroyMarkers s c) := by
    unfold State.destroyMarkers
    try dsimp only
    iterate 60 all_goals try first
      | with_reducible assumption
      | with_reducible exact State.Touch.refl _ _
      | with_reducible refine State.Touch.count ?_ _
      | with_reducible refine State.Touch.sendMarker ?_ _ _ _ _ (by decide)
      | with_reducible refine State.Touch.ite ?_ ?_
      | split
  exact hT.call k hl

theorem State.Touch.chanClose {l : List Part} {s0 s : State} (hT : State.Touch l s0 s)  (c : Chan)
    (hl : ∀ p ∈ ([.mgt, .chans, .fab, .fus, .ctl, .alc, .can, .eth, .ana, .srv] : List Part), p ∈ l) : State.Touch l s0 (State.chanClose s c) := by
  have k : State.Touch [.mgt, .chans, .fab, .fus, .ctl, .alc, .can, .eth, .ana, .srv] s (State.chanClose s c) := by
    unfold State.chanClose
    try dsimp only
    iterate 60 all_goals try first
      | with_reducible assumption
      | with_reducible exact State.Touch.refl _ _
      | with_reducible refine State.Touch.chanGone ?_ _ (by decide)
      | with_reducible refine State.Touch.destroyMarkers ?_ _ (by decide)
      | with_reducible refine State.Touch.fnStop ?_ _ _ (by decide)
      | with_reducible refine State.Touch.modChan ?_ _ _ _ (by decide)
      | with_reducible refine State.Touch.ite ?_ ?_
      | split
  exact hT.call k hl

theorem State.Touch.chanFrame {l : List Part} {s0 s : State} (hT : State.Touch l s0 s) 
    (hl : ∀ p ∈ ([.mgt, .chans, .fab, .fus, .ctl, .alc, .can, .eth, .ana, .srv] : List Part), p ∈ l) : State.Touch l s0 (State.chanFrame s) := by
  have k : State.Touch [.mgt, .chans, .fab, .fus, .ctl, .alc, .can, .eth, .ana, .srv] s (State.chanFrame s) := by
    unfold State.chanFrame
    try dsimp only
    iterate 60 all_goals try first
      | with_reducible assumption
      | with_reducible exact State.Touch.refl _ _
      | with_reducible refine State.Touch.each ?_ _ _ (fun x u hu => ?_)
      | with_reducible refine State.Touch.chanClose ?_ _ (by decide)
      | with_reducible refine State.Touch.chanLiveNow ?_ _ (by decide)
      | with_reducible refine State.Touch.ite ?_ ?_
      | split
  exact hT.call k hl

theorem State.Touch.forwardCreate {l : List Part} {s0 s : State} (hT : State.Touch l s0 s)  (args : List Byte) (t i : Nat)
    (hl : ∀ p ∈ ([.grp] : List Part), p ∈ l) : State.Touch l s0 (State.forwardCreate s args t i) := by
  have k : State.Touch [.grp] s (State.forwardCreate s args t i) := by
    unfold State.forwardCreate
    try dsimp only
    iterate 60 all_goals try first
      | with_reducible assumption
      | with_reducible exact State.Touch.refl _ _
      | with_reducible refine State.Touch.forward ?_ _ _ (by decide)
      | with_reducible refine State.Touch.ite ?_ ?_
      | split
  exact hT.call k hl

theorem State.Touch.chCreate {l : List Part} {s0 s : State} (hT : State.Touch l s0 s)  (r : Req) (t i : Nat) (body args : List Byte)
    (hl : ∀ p ∈ ([.chans, .grp] : List Part), p ∈ l) : State.Touch l s0 (State.chCreate s r t i body args).1 := by
  have k : State.Touch [.chans, .grp] s (State.chCreate s r t i body args).1 := by
    unfold State.chCreate
    try dsimp only
    iterate 60 all_goals try first
      | with_reducible assumption
      | with_reducible exact State.Touch.refl _ _
      | with_reducible refine State.Touch.chanNew ?_ _ _ _ _ _ (by decide)
      | with_reducible refine State.Touch.forwardCreate ?_ _ _ _ (by decide)
      | with_reducible refine State.Touch.ite ?_ ?_
      | split
  exact hT.call k hl

theorem State.Touch.chDestroy {l : List Part} {s0 s : State} (hT : State.Touch l s0 s)  (r : Req) (h : Word)
    (hl : ∀ p ∈ ([.chans, .grp] : List Part), p ∈ l) : State.Touch l s0 (State.chDestroy s r h).1 := by
  have k : State.Touch [.chans, .grp] s (State.chDestroy s r h).1 := by
    unfold State.chDestroy
    try dsimp only
    iterate 60 all_goals try first
      | with_reducible assumption
      | with_reducible exact State.Touch.refl _ _
      | with_reducible refine State.Touch.forward ?_ _ _ (by decide)
      | with_reducible refine State.Touch.modChan ?_ _ _ _ (by decide)
      | with_reducible refine State.Touch.ite ?_ ?_
      | split
  exact hT.call k hl

theorem State.Touch.chQuery {l : List Part} {s0 s : State} (hT : State.Touch l s0 s)  (t i : Nat)
    (hl : ∀ p ∈ ([] : List Part), p ∈ l) : State.Touch l s0 (State.chQuery s t i).1 := by
  have k : State.Touch [] s (State.chQuery s t i).1 := by
    unfold State.chQuery
    try dsimp only
    iterate 60 all_goals try first
      | with_reducible assumption
      | with_reducible exact State.Touch.refl _ _
      | with_reducible refine State.Touch.ite ?_ ?_
      | split
  exact hT.call k hl

theorem State.Touch.overlayAgain {l : List Part} {s0 s : State} (hT : State.Touch l s0 s) 
    (hl : ∀ p ∈ ([.cfg, .srv] : List Part), p ∈ l) : State.Touch l s0 (State.overlayAgain s) := by
  have k : State.Touch [.cfg, .srv] s (State.overlayAgain s) := by
    unfold State.overlayAgain
    try dsimp only
    iterate 60 all_goals try first
      | with_reducible assumption
      | with_reducible exact State.Touch.refl _ _
      | with_reducible refine State.Touch.overlayMove ?_ _ _ (by decide)
      | with_reducible refine State.Touch.ite ?_ ?_
      | split
  exact hT.call k hl

theorem State.Touch.controlReinit {l : List Part} {s0 s : State} (hT : State.Touch l s0 s) 
    (hl : ∀ p ∈ ([.ctl, .slv] : List Part), p ∈ l) : State.Touch l s0 (State.controlReinit s) := by
  have k : State.Touch [.ctl, .slv] s (State.controlReinit s) := by
    unfold State.controlReinit
    try dsimp only
    iterate 60 all_goals try first
      | with_reducible assumption
      | with_reducible exact State.Touch.refl _ _
      | with_reducible refine State.Touch.entryPlan ?_ _ (by decide)
      | with_reducible refine State.Touch.modCtl ?_ _ (by decide)
      | with_reducible refine State.Touch.slvCold ?_ _ (by decide)
      | with_reducible refine State.Touch.ite ?_ ?_
      | split
      | with_reducible refine State.Touch.upd_ctl ?_ _ (by decide)
  exact hT.call k hl

theorem State.Touch.alcReinit {l : List Part} {s0 s : State} (hT : State.Touch l s0 s) 
    (hl : ∀ p ∈ ([.slv, .alc] : List Part), p ∈ l) : State.Touch l s0 (State.alcReinit s) := by
  have k : State.Touch [.slv, .alc] s (State.alcReinit s) := by
    unfold State.alcReinit
    try dsimp only
    iterate 60 all_goals try first
      | with_reducible assumption
      | with_reducible exact State.Touch.refl _ _
      | with_reducible refine State.Touch.each ?_ _ _ (fun x u hu => ?_)
      | with_reducible refine State.Touch.cqReset ?_ (by decide)
      | with_reducible refine State.Touch.slvCold ?_ _ (by decide)
      | with_reducible refine State.Touch.thrInit ?_ (by decide)
      | with_reducible refine State.Touch.ite ?_ ?_
      | split
  exact hT.call k hl

theorem State.Touch.chanReinit {l : List Part} {s0 s : State} (hT : State.Touch l s0 s)  (c : Chan)
    (hl : ∀ p ∈ ([.chans, .fus, .ctl, .alc, .can, .ana, .srv] : List Part), p ∈ l) : State.Touch l s0 (State.chanReinit s c) := by
  have k : State.Touch [.chans, .fus, .ctl, .alc, .can, .ana, .srv] s (State.chanReinit s c) := by
    unfold State.chanReinit
    try dsimp only
    iterate 60 all_goals try first
      | with_reducible assumption
      | with_reducible exact State.Touch.refl _ _
      | with_reducible refine State.Touch.wr ?_ _ _
      | with_reducible refine State.Touch.each ?_ _ _ (fun x u hu => ?_)
      | with_reducible refine State.Touch.fnStart ?_ _ (by decide)
      | with_reducible refine State.Touch.fnStop ?_ _ _ (by decide)
      | with_reducible refine State.Touch.modObj ?_ _ _ _ (by decide)
      | with_reducible refine State.Touch.thrLoad ?_ _ (by decide)
      | with_reducible refine State.Touch.thrRemove ?_ _ _ _ (by decide)
      | with_reducible refine State.Touch.ite ?_ ?_
      | split
  exact hT.call k hl

theorem State.Touch.reinitFn {l : List Part} {s0 s : State} (hT : State.Touch l s0 s)  (func arg : Nat)
    (hl : ∀ p ∈ ([.cfg, .mgt, .chans, .fus, .ctl, .slv, .alc, .can, .eth, .ana, .srv, .recd] : List Part), p ∈ l) : State.Touch l s0 (State.reinitFn s func arg) := by
  have k : State.Touch [.cfg, .mgt, .chans, .fus, .ctl, .slv, .alc, .can, .eth, .ana, .srv, .recd] s (State.reinitFn s func arg) := by
    unfold State.reinitFn
    try dsimp only
    iterate 60 all_goals try first
      | with_reducible assumption
      | with_reducible exact State.Touch.refl _ _
      | with_reducible refine State.Touch.raise ?_ _ _ _
      | with_reducible refine State.Touch.alcReinit ?_ (by decide)
      | with_reducible refine State.Touch.canReinitDone ?_ _ (by decide)
      | with_reducible refine State.Touch.chanReinit ?_ _ (by decide)
      | with_reducible refine State.Touch.controlReinit ?_ (by decide)
      | with_reducible refine State.Touch.ethReinitDone ?_ _ (by decide)
      | with_reducible refine State.Touch.fusionReinit ?_ (by decide)
      | with_reducible refine State.Touch.overlayAgain ?_ (by decide)
      | with_reducible refine State.Touch.raiseGens ?_ _ (by decide)
      | with_reducible refine State.Touch.recorderReinit ?_ (by decide)
      | with_reducible refine State.Touch.thrClear ?_ _ _ (by decide)
      | with_reducible refine State.Touch.ite ?_ ?_
      | split
  exact hT.call k hl

theorem State.Touch.funcReinit {l : List Part} {s0 s : State} (hT : State.Touch l s0 s)  (r : Req) (func : Nat) (arg : Word) (args : List Byte)
    (hl : ∀ p ∈ ([.mgt, .can, .eth, .grp] : List Part), p ∈ l) : State.Touch l s0 (State.funcReinit s r func arg args).1 := by
  have k : State.Touch [.mgt, .can, .eth, .grp] s (State.funcReinit s r func arg args).1 := by
    unfold State.funcReinit
    try dsimp only
    iterate 60 all_goals try first
      | with_reducible assumption
      | with_reducible exact State.Touch.refl _ _
      | with_reducible refine State.Touch.canReinitStart ?_ _ (by decide)
      | with_reducible refine State.Touch.ethReinitStart ?_ _ (by decide)
      | with_reducible refine State.Touch.forward ?_ _ _ (by decide)
      | with_reducible refine State.Touch.ite ?_ ?_
      | split
      | with_reducible refine State.Touch.upd_mgt ?_ _ (by decide)
  exact hT.call k hl

theorem State.Touch.reinitEnd {l : List Part} {s0 s : State} (hT : State.Touch l s0 s)  (func : Nat) (arg : Word) (code : Nat) (data : List Byte)
    (hl : ∀ p ∈ ([.cfg, .mgt, .chans, .fus, .ctl, .slv, .alc, .can, .eth, .ana, .srv, .recd] : List Part), p ∈ l) : State.Touch l s0 (State.reinitEnd s func arg code data) := by
  have k : State.Touch [.cfg, .mgt, .chans, .fus, .ctl, .slv, .alc, .can, .eth, .ana, .srv, .recd] s (State.reinitEnd s func arg code data) := by
    unfold State.reinitEnd
    try dsimp only
    iterate 60 all_goals try first
      | with_reducible assumption
      | with_reducible exact State.Touch.refl _ _
      | with_reducible refine State.Touch.reinitFn ?_ _ _ (by decide)
      | with_reducible refine State.Touch.result ?_ _ _ _ (by decide)
      | with_reducible refine State.Touch.ite ?_ ?_
      | split
      | with_reducible refine State.Touch.upd_mgt ?_ _ (by decide)
  exact hT.call k hl

end Sys2Proof.Machine
end

