-- ==== Sys2Proof/Laws/Touch/StateFrame.lean ====
section
/-!
SUPPORT. Sys2Proof/Laws/Touch/StateFrame.lean: which parts of the state each operation of Machine/StateFrame.lean may change.
-/
set_option linter.all false
set_option maxRecDepth 4000
namespace Sys2Proof.Machine

theorem State.Touch.snapshotStart {l : List Part} {s0 s : State} (hT : State.Touch l s0 s) 
    (hl : ∀ p ∈ ([.grp] : List Part), p ∈ l) : State.Touch l s0 (State.snapshotStart s) := by
  have k : State.Touch [.grp] s (State.snapshotStart s) := by
    unfold State.snapshotStart
    try dsimp only
    iterate 60 all_goals try first
      | with_reducible assumption
      | with_reducible exact State.Touch.refl _ _
      | with_reducible refine State.Touch.ite ?_ ?_
      | split
      | with_reducible refine State.Touch.upd_grp ?_ _ (by decide)
  exact hT.call k hl

theorem State.Touch.opsFrame {l : List Part} {s0 s : State} (hT : State.Touch l s0 s) 
    (hl : ∀ p ∈ ([.grp] : List Part), p ∈ l) : State.Touch l s0 (State.opsFrame s) := by
  have k : State.Touch [.grp] s (State.opsFrame s) := by
    unfold State.opsFrame
    try dsimp only
    iterate 60 all_goals try first
      | with_reducible assumption
      | with_reducible exact State.Touch.refl _ _
      | with_reducible refine State.Touch.count ?_ _
      | with_reducible refine State.Touch.ite ?_ ?_
      | split
      | with_reducible refine State.Touch.upd_grp ?_ _ (by decide)
  exact hT.call k hl

theorem State.Touch.opCreate {l : List Part} {s0 s : State} (hT : State.Touch l s0 s)  (b : List Byte)
    (hl : ∀ p ∈ ([.chans, .fus, .alc, .can, .ana, .srv] : List Part), p ∈ l) : State.Touch l s0 (State.opCreate s b) := by
  have k : State.Touch [.chans, .fus, .alc, .can, .ana, .srv] s (State.opCreate s b) := by
    unfold State.opCreate
    try dsimp only
    iterate 60 all_goals try first
      | with_reducible assumption
      | with_reducible exact State.Touch.refl _ _
      | with_reducible refine State.Touch.chanNew ?_ _ _ _ _ _ (by decide)
      | with_reducible refine State.Touch.fnStart ?_ _ (by decide)
      | with_reducible refine State.Touch.modChan ?_ _ _ _ (by decide)
      | with_reducible refine State.Touch.ite ?_ ?_
      | split
  exact hT.call k hl

theorem State.Touch.opDestroy {l : List Part} {s0 s : State} (hT : State.Touch l s0 s)  (h : Word)
    (hl : ∀ p ∈ ([.mgt, .chans, .fab, .fus, .ctl, .alc, .can, .eth, .ana, .srv] : List Part), p ∈ l) : State.Touch l s0 (State.opDestroy s h) := by
  have k : State.Touch [.mgt, .chans, .fab, .fus, .ctl, .alc, .can, .eth, .ana, .srv] s (State.opDestroy s h) := by
    unfold State.opDestroy
    try dsimp only
    iterate 60 all_goals try first
      | with_reducible assumption
      | with_reducible exact State.Touch.refl _ _
      | with_reducible refine State.Touch.chanClose ?_ _ (by decide)
      | with_reducible refine State.Touch.ite ?_ ?_
      | split
  exact hT.call k hl

theorem State.Touch.opWrite {l : List Part} {s0 s : State} (hT : State.Touch l s0 s)  (a : Nat) (v : Word)
    (hl : ∀ p ∈ ([.alc] : List Part), p ∈ l) : State.Touch l s0 (State.opWrite s a v) := by
  have k : State.Touch [.alc] s (State.opWrite s a v) := by
    unfold State.opWrite
    try dsimp only
    iterate 60 all_goals try first
      | with_reducible assumption
      | with_reducible exact State.Touch.refl _ _
      | with_reducible refine State.Touch.wr ?_ _ _
      | with_reducible refine State.Touch.alcEnableSet ?_ _ (by decide)
      | with_reducible refine State.Touch.ite ?_ ?_
      | split
  exact hT.call k hl

theorem State.Touch.opApply {l : List Part} {s0 s : State} (hT : State.Touch l s0 s)  (code : Nat) (b : List Byte)
    (hl : ∀ p ∈ ([.mgt, .chans, .fab, .fus, .ctl, .alc, .can, .eth, .ana, .srv] : List Part), p ∈ l) : State.Touch l s0 (State.opApply s code b) := by
  have k : State.Touch [.mgt, .chans, .fab, .fus, .ctl, .alc, .can, .eth, .ana, .srv] s (State.opApply s code b) := by
    unfold State.opApply
    try dsimp only
    iterate 60 all_goals try first
      | with_reducible assumption
      | with_reducible exact State.Touch.refl _ _
      | with_reducible refine State.Touch.set ?_ _ _
      | with_reducible refine State.Touch.raise ?_ _ _ _
      | with_reducible refine State.Touch.modCtl ?_ _ (by decide)
      | with_reducible refine State.Touch.opCreate ?_ _ (by decide)
      | with_reducible refine State.Touch.opDestroy ?_ _ (by decide)
      | with_reducible refine State.Touch.opWrite ?_ _ _ (by decide)
      | with_reducible refine State.Touch.raiseGens ?_ _ (by decide)
      | with_reducible refine State.Touch.trackWrite ?_ _ _ (by decide)
      | with_reducible refine State.Touch.ite ?_ ?_
      | split
      | with_reducible refine State.Touch.upd_fus ?_ _ (by decide)
  exact hT.call k hl

theorem State.Touch.opTake {l : List Part} {s0 s : State} (hT : State.Touch l s0 s)  (o : GrpOp)
    (hl : ∀ p ∈ ([.mgt, .chans, .fab, .fus, .ctl, .alc, .can, .eth, .ana, .srv, .grp] : List Part), p ∈ l) : State.Touch l s0 (State.opTake s o) := by
  have k : State.Touch [.mgt, .chans, .fab, .fus, .ctl, .alc, .can, .eth, .ana, .srv, .grp] s (State.opTake s o) := by
    unfold State.opTake
    try dsimp only
    iterate 60 all_goals try first
      | with_reducible assumption
      | with_reducible exact State.Touch.refl _ _
      | with_reducible refine State.Touch.opApply ?_ _ _ (by decide)
      | with_reducible refine State.Touch.ite ?_ ?_
      | split
      | with_reducible refine State.Touch.upd_grp ?_ _ (by decide)
  exact hT.call k hl

theorem State.Touch.opsApply {l : List Part} {s0 s : State} (hT : State.Touch l s0 s)  (b : List Byte)
    (hl : ∀ p ∈ ([.mgt, .chans, .fab, .fus, .ctl, .alc, .can, .eth, .ana, .srv, .grp] : List Part), p ∈ l) : State.Touch l s0 (State.opsApply s b) := by
  have k : State.Touch [.mgt, .chans, .fab, .fus, .ctl, .alc, .can, .eth, .ana, .srv, .grp] s (State.opsApply s b) := by
    unfold State.opsApply
    try dsimp only
    iterate 60 all_goals try first
      | with_reducible assumption
      | with_reducible exact State.Touch.refl _ _
      | with_reducible refine State.Touch.each ?_ _ _ (fun x u hu => ?_)
      | with_reducible refine State.Touch.opTake ?_ _ (by decide)
      | with_reducible refine State.Touch.ite ?_ ?_
      | split
      | with_reducible refine State.Touch.upd_grp ?_ _ (by decide)
  exact hT.call k hl

theorem State.Touch.adoptCov {l : List Part} {s0 s : State} (hT : State.Touch l s0 s)  (b : List Byte)
    (hl : ∀ p ∈ ([.fus] : List Part), p ∈ l) : State.Touch l s0 (State.adoptCov s b) := by
  have k : State.Touch [.fus] s (State.adoptCov s b) := by
    unfold State.adoptCov
    try dsimp only
    iterate 60 all_goals try first
      | with_reducible assumption
      | with_reducible exact State.Touch.refl _ _
      | with_reducible refine State.Touch.foldl ?_ _ _ (fun x u hu => ?_)
      | with_reducible refine State.Touch.ite ?_ ?_
      | split
      | with_reducible refine State.Touch.upd_fus ?_ _ (by decide)
  exact hT.call k hl

theorem State.Touch.adoptFused {l : List Part} {s0 s : State} (hT : State.Touch l s0 s)  (b : List Byte)
    (hl : ∀ p ∈ ([.fus] : List Part), p ∈ l) : State.Touch l s0 (State.adoptFused s b) := by
  have k : State.Touch [.fus] s (State.adoptFused s b) := by
    unfold State.adoptFused
    try dsimp only
    iterate 60 all_goals try first
      | with_reducible assumption
      | with_reducible exact State.Touch.refl _ _
      | with_reducible refine State.Touch.wr ?_ _ _
      | with_reducible refine State.Touch.each ?_ _ _ (fun x u hu => ?_)
      | with_reducible refine State.Touch.modSrc ?_ _ _ (by decide)
      | with_reducible refine State.Touch.ite ?_ ?_
      | split
      | with_reducible refine State.Touch.upd_fus ?_ _ (by decide)
  exact hT.call k hl

theorem State.Touch.adoptPlan {l : List Part} {s0 s : State} (hT : State.Touch l s0 s)  (b : List Byte)
    (hl : ∀ p ∈ ([.ctl] : List Part), p ∈ l) : State.Touch l s0 (State.adoptPlan s b) := by
  have k : State.Touch [.ctl] s (State.adoptPlan s b) := by
    unfold State.adoptPlan
    try dsimp only
    iterate 60 all_goals try first
      | with_reducible assumption
      | with_reducible exact State.Touch.refl _ _
      | with_reducible refine State.Touch.modCtl ?_ _ (by decide)
      | with_reducible refine State.Touch.ite ?_ ?_
      | split
  exact hT.call k hl

theorem State.Touch.adoptAlloc {l : List Part} {s0 s : State} (hT : State.Touch l s0 s)  (b : List Byte)
    (hl : ∀ p ∈ ([.alc] : List Part), p ∈ l) : State.Touch l s0 (State.adoptAlloc s b) := by
  have k : State.Touch [.alc] s (State.adoptAlloc s b) := by
    unfold State.adoptAlloc
    try dsimp only
    iterate 60 all_goals try first
      | with_reducible assumption
      | with_reducible exact State.Touch.refl _ _
      | with_reducible refine State.Touch.wr ?_ _ _
      | with_reducible refine State.Touch.each ?_ _ _ (fun x u hu => ?_)
      | with_reducible refine State.Touch.modThr ?_ _ _ (by decide)
      | with_reducible refine State.Touch.ite ?_ ?_
      | split
      | with_reducible refine State.Touch.upd_alc ?_ _ (by decide)
  exact hT.call k hl

theorem State.Touch.adoptCtrl {l : List Part} {s0 s : State} (hT : State.Touch l s0 s)  (b : List Byte)
    (hl : ∀ p ∈ ([.fus, .ctl] : List Part), p ∈ l) : State.Touch l s0 (State.adoptCtrl s b) := by
  have k : State.Touch [.fus, .ctl] s (State.adoptCtrl s b) := by
    unfold State.adoptCtrl
    try dsimp only
    iterate 60 all_goals try first
      | with_reducible assumption
      | with_reducible exact State.Touch.refl _ _
      | with_reducible refine State.Touch.modCtl ?_ _ (by decide)
      | with_reducible refine State.Touch.ite ?_ ?_
      | split
      | with_reducible refine State.Touch.upd_fus ?_ _ (by decide)
  exact hT.call k hl

theorem State.Touch.adoptLoops {l : List Part} {s0 s : State} (hT : State.Touch l s0 s)  (b : List Byte)
    (hl : ∀ p ∈ ([] : List Part), p ∈ l) : State.Touch l s0 (State.adoptLoops s b) := by
  have k : State.Touch [] s (State.adoptLoops s b) := by
    unfold State.adoptLoops
    try dsimp only
    iterate 60 all_goals try first
      | with_reducible assumption
      | with_reducible exact State.Touch.refl _ _
      | with_reducible refine State.Touch.wr ?_ _ _
      | with_reducible refine State.Touch.each ?_ _ _ (fun x u hu => ?_)
      | with_reducible refine State.Touch.ite ?_ ?_
      | split
  exact hT.call k hl

theorem State.Touch.adoptBlock {l : List Part} {s0 s : State} (h : State.Touch l s0 s) (bs : List (Nat × List Byte)) (typ : Nat)
    (f : State → List Byte → State) (hf : ∀ d u, State.Touch l s0 u → State.Touch l s0 (f u d)) :
    State.Touch l s0 (s.adoptBlock bs typ f) := by
  unfold State.adoptBlock
  split
  · split
    · exact h
    · exact hf _ _ h
  · exact h

theorem State.Touch.adoptState {l : List Part} {s0 s : State} (hT : State.Touch l s0 s)  (data : List Byte)
    (hl : ∀ p ∈ ([.fus, .ctl, .alc] : List Part), p ∈ l) : State.Touch l s0 (State.adoptState s data) := by
  have k : State.Touch [.fus, .ctl, .alc] s (State.adoptState s data) := by
    unfold State.adoptState
    try dsimp only
    iterate 60 all_goals try first
      | with_reducible assumption
      | with_reducible exact State.Touch.refl _ _
      | with_reducible refine State.Touch.adoptBlock ?_ _ _ _ (fun d u hu => ?_)
      | with_reducible refine State.Touch.adoptAlloc ?_ _ (by decide)
      | with_reducible refine State.Touch.adoptCov ?_ _ (by decide)
      | with_reducible refine State.Touch.adoptCtrl ?_ _ (by decide)
      | with_reducible refine State.Touch.adoptFused ?_ _ (by decide)
      | with_reducible refine State.Touch.adoptLoops ?_ _ (by decide)
      | with_reducible refine State.Touch.adoptPlan ?_ _ (by decide)
      | with_reducible refine State.Touch.ite ?_ ?_
      | split
  exact hT.call k hl

theorem State.Touch.seamOutput {l : List Part} {s0 s : State} (hT : State.Touch l s0 s)  (t i frame : Nat) (payload : List Byte) (wait : Bool)
    (hl : ∀ p ∈ ([.mgt, .chans, .can, .eth, .ana] : List Part), p ∈ l) : State.Touch l s0 (State.seamOutput s t i frame payload wait) := by
  have k : State.Touch [.mgt, .chans, .can, .eth, .ana] s (State.seamOutput s t i frame payload wait) := by
    unfold State.seamOutput
    try dsimp only
    iterate 60 all_goals try first
      | with_reducible assumption
      | with_reducible exact State.Touch.refl _ _
      | with_reducible refine State.Touch.chanSend ?_ _ (by decide)
      | with_reducible refine State.Touch.modChan ?_ _ _ _ (by decide)
      | with_reducible refine State.Touch.ite ?_ ?_
      | split
  exact hT.call k hl

theorem State.Touch.seamMarker {l : List Part} {s0 s : State} (hT : State.Touch l s0 s)  (t i frame : Nat)
    (hl : ∀ p ∈ ([.mgt, .chans, .fab, .can, .eth, .ana] : List Part), p ∈ l) : State.Touch l s0 (State.seamMarker s t i frame) := by
  have k : State.Touch [.mgt, .chans, .fab, .can, .eth, .ana] s (State.seamMarker s t i frame) := by
    unfold State.seamMarker
    try dsimp only
    iterate 60 all_goals try first
      | with_reducible assumption
      | with_reducible exact State.Touch.refl _ _
      | with_reducible refine State.Touch.sendMarker ?_ _ _ _ _ (by decide)
      | with_reducible refine State.Touch.ite ?_ ?_
      | split
  exact hT.call k hl

theorem State.Touch.seamOpen {l : List Part} {s0 s : State} (hT : State.Touch l s0 s)  (t i frame : Nat)
    (hl : ∀ p ∈ ([.chans] : List Part), p ∈ l) : State.Touch l s0 (State.seamOpen s t i frame) := by
  have k : State.Touch [.chans] s (State.seamOpen s t i frame) := by
    unfold State.seamOpen
    try dsimp only
    iterate 60 all_goals try first
      | with_reducible assumption
      | with_reducible exact State.Touch.refl _ _
      | with_reducible refine State.Touch.modChan ?_ _ _ _ (by decide)
      | with_reducible refine State.Touch.ite ?_ ?_
      | split
  exact hT.call k hl

theorem State.Touch.seamTimed {l : List Part} {s0 s : State} (hT : State.Touch l s0 s)  (t i seam k : Nat)
    (hl : ∀ p ∈ ([.mgt, .chans, .fab, .can, .eth, .ana] : List Part), p ∈ l) : State.Touch l s0 (State.seamTimed s t i seam k) := by
  have k : State.Touch [.mgt, .chans, .fab, .can, .eth, .ana] s (State.seamTimed s t i seam k) := by
    unfold State.seamTimed
    try dsimp only
    iterate 60 all_goals try first
      | with_reducible assumption
      | with_reducible exact State.Touch.refl _ _
      | with_reducible refine State.Touch.each ?_ _ _ (fun x u hu => ?_)
      | with_reducible refine State.Touch.seamMarker ?_ _ _ _ (by decide)
      | with_reducible refine State.Touch.seamOpen ?_ _ _ _ (by decide)
      | with_reducible refine State.Touch.seamOutput ?_ _ _ _ _ _ (by decide)
      | with_reducible refine State.Touch.ite ?_ ?_
      | split
  exact hT.call k hl

theorem State.Touch.seamFrame {l : List Part} {s0 s : State} (hT : State.Touch l s0 s)  (t i seam k : Nat)
    (hl : ∀ p ∈ ([.mgt, .chans, .fab, .can, .eth, .ana] : List Part), p ∈ l) : State.Touch l s0 (State.seamFrame s t i seam k) := by
  have k : State.Touch [.mgt, .chans, .fab, .can, .eth, .ana] s (State.seamFrame s t i seam k) := by
    unfold State.seamFrame
    try dsimp only
    iterate 60 all_goals try first
      | with_reducible assumption
      | with_reducible exact State.Touch.refl _ _
      | with_reducible refine State.Touch.each ?_ _ _ (fun x u hu => ?_)
      | with_reducible refine State.Touch.seamMarker ?_ _ _ _ (by decide)
      | with_reducible refine State.Touch.seamOpen ?_ _ _ _ (by decide)
      | with_reducible refine State.Touch.seamOutput ?_ _ _ _ _ _ (by decide)
      | with_reducible refine State.Touch.ite ?_ ?_
      | split
  exact hT.call k hl

theorem State.Touch.seamPeriod {l : List Part} {s0 s : State} (hT : State.Touch l s0 s)  (t i seam p : Nat)
    (hl : ∀ p ∈ ([.mgt, .chans, .fab, .can, .eth, .ana] : List Part), p ∈ l) : State.Touch l s0 (State.seamPeriod s t i seam p) := by
  have k : State.Touch [.mgt, .chans, .fab, .can, .eth, .ana] s (State.seamPeriod s t i seam p) := by
    unfold State.seamPeriod
    try dsimp only
    iterate 60 all_goals try first
      | with_reducible assumption
      | with_reducible exact State.Touch.refl _ _
      | with_reducible refine State.Touch.each ?_ _ _ (fun x u hu => ?_)
      | with_reducible refine State.Touch.seamMarker ?_ _ _ _ (by decide)
      | with_reducible refine State.Touch.seamOpen ?_ _ _ _ (by decide)
      | with_reducible refine State.Touch.ite ?_ ?_
      | split
  exact hT.call k hl

theorem State.Touch.seamFill {l : List Part} {s0 s : State} (hT : State.Touch l s0 s)  (h : HbInfo) (f kp : Nat) (data : List Byte)
    (hl : ∀ p ∈ ([.mgt, .chans, .fab, .can, .eth, .ana, .port] : List Part), p ∈ l) : State.Touch l s0 (State.seamFill s h f kp data) := by
  have k : State.Touch [.mgt, .chans, .fab, .can, .eth, .ana, .port] s (State.seamFill s h f kp data) := by
    unfold State.seamFill
    try dsimp only
    iterate 60 all_goals try first
      | with_reducible assumption
      | with_reducible exact State.Touch.refl _ _
      | with_reducible refine State.Touch.count ?_ _
      | with_reducible refine State.Touch.raise ?_ _ _ _
      | with_reducible refine State.Touch.each ?_ _ _ (fun x u hu => ?_)
      | with_reducible refine State.Touch.modChan ?_ _ _ _ (by decide)
      | with_reducible refine State.Touch.seamFrame ?_ _ _ _ _ (by decide)
      | with_reducible refine State.Touch.seamPeriod ?_ _ _ _ _ (by decide)
      | with_reducible refine State.Touch.seamTimed ?_ _ _ _ _ (by decide)
      | with_reducible refine State.Touch.ite ?_ ?_
      | split
  exact hT.call k hl

theorem State.Touch.seqAdopt {l : List Part} {s0 s : State} (hT : State.Touch l s0 s)  (data : List Byte)
    (hl : ∀ p ∈ ([.chans] : List Part), p ∈ l) : State.Touch l s0 (State.seqAdopt s data) := by
  have k : State.Touch [.chans] s (State.seqAdopt s data) := by
    unfold State.seqAdopt
    try dsimp only
    iterate 60 all_goals try first
      | with_reducible assumption
      | with_reducible exact State.Touch.refl _ _
      | with_reducible refine State.Touch.each ?_ _ _ (fun x u hu => ?_)
      | with_reducible refine State.Touch.modChan ?_ _ _ _ (by decide)
      | with_reducible refine State.Touch.ite ?_ ?_
      | split
  exact hT.call k hl

end Sys2Proof.Machine
end

