-- ==== Sys2Proof/Laws/Touch/FixedPoint.lean ====
section
/-!
SUPPORT. Sys2Proof/Laws/Touch/FixedPoint.lean: which parts of the state each operation of Machine/FixedPoint.lean may change.
-/
set_option linter.all false
set_option maxRecDepth 4000
namespace Sys2Proof.Machine


end Sys2Proof.Machine
end

