-- ==== Sys2Proof/Laws/Touch/FabricOps.lean ====
section
/-!
SUPPORT. Sys2Proof/Laws/Touch/FabricOps.lean: which parts of the state each operation of Machine/FabricOps.lean may change.
-/
set_option linter.all false
set_option maxRecDepth 4000
namespace Sys2Proof.Machine

theorem State.Touch.putElems {l : List Part} {s0 s : State} (hT : State.Touch l s0 s)  (q a : Nat) (xs : List Int)
    (hl : ∀ p ∈ ([.omem] : List Part), p ∈ l) : State.Touch l s0 (State.putElems s q a xs).1 := by
  have k : State.Touch [.omem] s (State.putElems s q a xs).1 := by
    unfold State.putElems
    try dsimp only
    iterate 60 all_goals try first
      | with_reducible assumption
      | with_reducible exact State.Touch.refl _ _
      | with_reducible refine State.Touch.each ?_ _ _ (fun x u hu => ?_)
      | with_reducible refine State.Touch.memWr ?_ _ _ (by decide)
      | with_reducible refine State.Touch.ite ?_ ?_
      | split
  exact hT.call k hl

theorem State.Touch.opMap {l : List Part} {s0 s : State} (hT : State.Touch l s0 s)  (q : Nat) (e : BitVec 128) (f : Nat → Rat)
    (hl : ∀ p ∈ ([.omem] : List Part), p ∈ l) : State.Touch l s0 (State.opMap s q e f).1 := by
  have k : State.Touch [.omem] s (State.opMap s q e f).1 := by
    unfold State.opMap
    try dsimp only
    iterate 60 all_goals try first
      | with_reducible assumption
      | with_reducible exact State.Touch.refl _ _
      | with_reducible refine State.Touch.putElems ?_ _ _ _ (by decide)
      | refine State.Touch.fst (by with_reducible assumption) ?_ (State.Touch.putElems (State.Touch.refl _ _) _ _ _ (fun _ h => h)) (by decide)
      | with_reducible refine State.Touch.ite ?_ ?_
      | split
  exact hT.call k hl

theorem State.Touch.opOne {l : List Part} {s0 s : State} (hT : State.Touch l s0 s)  (q : Nat) (e : BitVec 128) (v : Rat)
    (hl : ∀ p ∈ ([.omem] : List Part), p ∈ l) : State.Touch l s0 (State.opOne s q e v).1 := by
  have k : State.Touch [.omem] s (State.opOne s q e v).1 := by
    unfold State.opOne
    try dsimp only
    iterate 60 all_goals try first
      | with_reducible assumption
      | with_reducible exact State.Touch.refl _ _
      | with_reducible refine State.Touch.putElems ?_ _ _ _ (by decide)
      | refine State.Touch.fst (by with_reducible assumption) ?_ (State.Touch.putElems (State.Touch.refl _ _) _ _ _ (fun _ h => h)) (by decide)
      | with_reducible refine State.Touch.ite ?_ ?_
      | split
  exact hT.call k hl

theorem State.Touch.opDot {l : List Part} {s0 s : State} (hT : State.Touch l s0 s)  (q : Nat) (e : BitVec 128) (acc : Option (Int × Nat))
    (hl : ∀ p ∈ ([.omem] : List Part), p ∈ l) : State.Touch l s0 (State.opDot s q e acc).1 := by
  have k : State.Touch [.omem] s (State.opDot s q e acc).1 := by
    unfold State.opDot
    try dsimp only
    iterate 60 all_goals try first
      | with_reducible assumption
      | with_reducible exact State.Touch.refl _ _
      | with_reducible refine State.Touch.opOne ?_ _ _ _ (by decide)
      | refine State.Touch.fst (by with_reducible assumption) ?_ (State.Touch.opOne (State.Touch.refl _ _) _ _ _ (fun _ h => h)) (by decide)
      | with_reducible refine State.Touch.ite ?_ ?_
      | split
  exact hT.call k hl

theorem State.Touch.opGemv {l : List Part} {s0 s : State} (hT : State.Touch l s0 s)  (q : Nat) (e : BitVec 128)
    (hl : ∀ p ∈ ([.omem] : List Part), p ∈ l) : State.Touch l s0 (State.opGemv s q e).1 := by
  have k : State.Touch [.omem] s (State.opGemv s q e).1 := by
    unfold State.opGemv
    try dsimp only
    iterate 60 all_goals try first
      | with_reducible assumption
      | with_reducible exact State.Touch.refl _ _
      | with_reducible refine State.Touch.foldl ?_ _ _ (fun x u hu => ?_)
      | with_reducible refine State.Touch.opMap ?_ _ _ _ (by decide)
      | with_reducible refine State.Touch.ite ?_ ?_
      | split
  exact hT.call k hl

theorem State.Touch.opGather {l : List Part} {s0 s : State} (hT : State.Touch l s0 s)  (q : Nat) (d : TaskDef) (e : BitVec 128)
    (hl : ∀ p ∈ ([.omem] : List Part), p ∈ l) : State.Touch l s0 (State.opGather s q d e).1 := by
  have k : State.Touch [.omem] s (State.opGather s q d e).1 := by
    unfold State.opGather
    try dsimp only
    iterate 60 all_goals try first
      | with_reducible assumption
      | with_reducible exact State.Touch.refl _ _
      | with_reducible refine State.Touch.opMap ?_ _ _ _ (by decide)
      | refine State.Touch.fst (by with_reducible assumption) ?_ (State.Touch.opMap (State.Touch.refl _ _) _ _ _ (fun _ h => h)) (by decide)
      | with_reducible refine State.Touch.ite ?_ ?_
      | split
  exact hT.call k hl

theorem State.Touch.opScatter {l : List Part} {s0 s : State} (hT : State.Touch l s0 s) (q : Nat) (d : TaskDef) (e : BitVec 128)
    (hl : ∀ p ∈ ([.omem] : List Part), p ∈ l) : State.Touch l s0 (s.opScatter q d e).1 := by
  unfold State.opScatter
  refine State.Touch.foldlFst _ _ _ hT (fun i a ha => ?_)
  dsimp only
  split
  · exact ha
  · exact State.Touch.putElems ha _ _ _ hl

theorem State.Touch.opPivinv {l : List Part} {s0 s : State} (hT : State.Touch l s0 s)  (q : Nat) (e : BitVec 128)
    (hl : ∀ p ∈ ([.omem] : List Part), p ∈ l) : State.Touch l s0 (State.opPivinv s q e).1 := by
  have k : State.Touch [.omem] s (State.opPivinv s q e).1 := by
    unfold State.opPivinv
    try dsimp only
    iterate 60 all_goals try first
      | with_reducible assumption
      | with_reducible exact State.Touch.refl _ _
      | with_reducible refine State.Touch.opMap ?_ _ _ _ (by decide)
      | refine State.Touch.fst (by with_reducible assumption) ?_ (State.Touch.opMap (State.Touch.refl _ _) _ _ _ (fun _ h => h)) (by decide)
      | with_reducible refine State.Touch.ite ?_ ?_
      | split
  exact hT.call k hl

theorem State.Touch.opSqrt {l : List Part} {s0 s : State} (hT : State.Touch l s0 s)  (q : Nat) (e : BitVec 128)
    (hl : ∀ p ∈ ([.omem] : List Part), p ∈ l) : State.Touch l s0 (State.opSqrt s q e).1 := by
  have k : State.Touch [.omem] s (State.opSqrt s q e).1 := by
    unfold State.opSqrt
    try dsimp only
    iterate 60 all_goals try first
      | with_reducible assumption
      | with_reducible exact State.Touch.refl _ _
      | with_reducible refine State.Touch.putElems ?_ _ _ _ (by decide)
      | refine State.Touch.fst (by with_reducible assumption) ?_ (State.Touch.putElems (State.Touch.refl _ _) _ _ _ (fun _ h => h)) (by decide)
      | with_reducible refine State.Touch.ite ?_ ?_
      | split
  exact hT.call k hl

theorem State.Touch.opSinCos {l : List Part} {s0 s : State} (hT : State.Touch l s0 s)  (q : Nat) (e : BitVec 128)
    (hl : ∀ p ∈ ([.omem] : List Part), p ∈ l) : State.Touch l s0 (State.opSinCos s q e).1 := by
  have k : State.Touch [.omem] s (State.opSinCos s q e).1 := by
    unfold State.opSinCos
    try dsimp only
    iterate 60 all_goals try first
      | with_reducible assumption
      | with_reducible exact State.Touch.refl _ _
      | with_reducible refine State.Touch.putElems ?_ _ _ _ (by decide)
      | refine State.Touch.fst (by with_reducible assumption) ?_ (State.Touch.putElems (State.Touch.refl _ _) _ _ _ (fun _ h => h)) (by decide)
      | with_reducible refine State.Touch.ite ?_ ?_
      | split
  exact hT.call k hl

theorem State.Touch.opAtan2 {l : List Part} {s0 s : State} (hT : State.Touch l s0 s)  (q : Nat) (e : BitVec 128)
    (hl : ∀ p ∈ ([.omem] : List Part), p ∈ l) : State.Touch l s0 (State.opAtan2 s q e).1 := by
  have k : State.Touch [.omem] s (State.opAtan2 s q e).1 := by
    unfold State.opAtan2
    try dsimp only
    iterate 60 all_goals try first
      | with_reducible assumption
      | with_reducible exact State.Touch.refl _ _
      | with_reducible refine State.Touch.putElems ?_ _ _ _ (by decide)
      | refine State.Touch.fst (by with_reducible assumption) ?_ (State.Touch.putElems (State.Touch.refl _ _) _ _ _ (fun _ h => h)) (by decide)
      | with_reducible refine State.Touch.ite ?_ ?_
      | split
  exact hT.call k hl

theorem State.Touch.opInterp {l : List Part} {s0 s : State} (hT : State.Touch l s0 s)  (q : Nat) (e : BitVec 128)
    (hl : ∀ p ∈ ([.omem] : List Part), p ∈ l) : State.Touch l s0 (State.opInterp s q e).1 := by
  have k : State.Touch [.omem] s (State.opInterp s q e).1 := by
    unfold State.opInterp
    try dsimp only
    iterate 60 all_goals try first
      | with_reducible assumption
      | with_reducible exact State.Touch.refl _ _
      | with_reducible refine State.Touch.opMap ?_ _ _ _ (by decide)
      | refine State.Touch.fst (by with_reducible assumption) ?_ (State.Touch.opMap (State.Touch.refl _ _) _ _ _ (fun _ h => h)) (by decide)
      | with_reducible refine State.Touch.ite ?_ ?_
      | split
  exact hT.call k hl

theorem State.Touch.opStreg {l : List Part} {s0 s : State} (hT : State.Touch l s0 s)  (q : Nat) (e : BitVec 128)
    (hl : ∀ p ∈ ([.omem] : List Part), p ∈ l) : State.Touch l s0 (State.opStreg s q e) := by
  have k : State.Touch [.omem] s (State.opStreg s q e) := by
    unfold State.opStreg
    try dsimp only
    iterate 60 all_goals try first
      | with_reducible assumption
      | with_reducible exact State.Touch.refl _ _
      | with_reducible refine State.Touch.each ?_ _ _ (fun x u hu => ?_)
      | with_reducible refine State.Touch.memWr ?_ _ _ (by decide)
      | with_reducible refine State.Touch.ite ?_ ?_
      | split
  exact hT.call k hl

theorem State.Touch.opRun {l : List Part} {s0 s : State} (hT : State.Touch l s0 s)  (q : Nat) (d : TaskDef) (e : BitVec 128) (acc : Option (Int × Nat)) (status : Word)
    (hl : ∀ p ∈ ([.omem] : List Part), p ∈ l) : State.Touch l s0 (State.opRun s q d e acc status).1 := by
  have k : State.Touch [.omem] s (State.opRun s q d e acc status).1 := by
    unfold State.opRun
    try dsimp only
    iterate 60 all_goals try first
      | with_reducible assumption
      | with_reducible exact State.Touch.refl _ _
      | with_reducible refine State.Touch.each ?_ _ _ (fun x u hu => ?_)
      | with_reducible refine State.Touch.foldl ?_ _ _ (fun x u hu => ?_)
      | with_reducible refine State.Touch.memWr ?_ _ _ (by decide)
      | with_reducible refine State.Touch.opAtan2 ?_ _ _ (by decide)
      | with_reducible refine State.Touch.opDot ?_ _ _ _ (by decide)
      | with_reducible refine State.Touch.opGather ?_ _ _ _ (by decide)
      | with_reducible refine State.Touch.opGemv ?_ _ _ (by decide)
      | with_reducible refine State.Touch.opInterp ?_ _ _ (by decide)
      | with_reducible refine State.Touch.opMap ?_ _ _ _ (by decide)
      | with_reducible refine State.Touch.opOne ?_ _ _ _ (by decide)
      | with_reducible refine State.Touch.opPivinv ?_ _ _ (by decide)
      | with_reducible refine State.Touch.opScatter ?_ _ _ _ (by decide)
      | with_reducible refine State.Touch.opSinCos ?_ _ _ (by decide)
      | with_reducible refine State.Touch.opSqrt ?_ _ _ (by decide)
      | with_reducible refine State.Touch.opStreg ?_ _ _ (by decide)
      | with_reducible refine State.Touch.ite ?_ ?_
      | split
  exact hT.call k hl

end Sys2Proof.Machine
end

