-- ==== Sys2Proof/Laws/Touch/Schedule.lean ====
section
/-!
SUPPORT. Sys2Proof/Laws/Touch/Schedule.lean: which parts of the state each operation of Machine/Schedule.lean may change.
-/
set_option linter.all false
set_option maxRecDepth 4000
namespace Sys2Proof.Machine


end Sys2Proof.Machine
end

