-- ==== Sys2Proof/Laws/Touch/Arbiter.lean ====
section
/-!
SUPPORT. Sys2Proof/Laws/Touch/Arbiter.lean: which parts of the state each operation of Machine/Arbiter.lean may change.
-/
set_option linter.all false
set_option maxRecDepth 4000
namespace Sys2Proof.Machine

theorem State.Touch.modArb {l : List Part} {s0 s : State} (hT : State.Touch l s0 s)  (p : ArbPort) (f : ArbSt → ArbSt)
    (hl : ∀ p ∈ ([.fab] : List Part), p ∈ l) : State.Touch l s0 (State.modArb s p f) := by
  have k : State.Touch [.fab] s (State.modArb s p f) := by
    unfold State.modArb
    try dsimp only
    iterate 60 all_goals try first
      | with_reducible assumption
      | with_reducible exact State.Touch.refl _ _
      | with_reducible refine State.Touch.modFab ?_ _ (by decide)
      | with_reducible refine State.Touch.ite ?_ ?_
      | split
  exact hT.call k hl

theorem State.Touch.setLost {l : List Part} {s0 s : State} (hT : State.Touch l s0 s)  (p : ArbPort) (i n : Nat)
    (hl : ∀ p ∈ ([.fab] : List Part), p ∈ l) : State.Touch l s0 (State.setLost s p i n) := by
  have k : State.Touch [.fab] s (State.setLost s p i n) := by
    unfold State.setLost
    try dsimp only
    iterate 60 all_goals try first
      | with_reducible assumption
      | with_reducible exact State.Touch.refl _ _
      | with_reducible refine State.Touch.modArb ?_ _ _ (by decide)
      | with_reducible refine State.Touch.ite ?_ ?_
      | split
  exact hT.call k hl

theorem State.Touch.arbDecide {l : List Part} {s0 s : State} (hT : State.Touch l s0 s)  (p : ArbPort)
    (hl : ∀ p ∈ ([.fab] : List Part), p ∈ l) : State.Touch l s0 (State.arbDecide s p) := by
  have k : State.Touch [.fab] s (State.arbDecide s p) := by
    unfold State.arbDecide
    try dsimp only
    iterate 60 all_goals try first
      | with_reducible assumption
      | with_reducible exact State.Touch.refl _ _
      | with_reducible refine State.Touch.set ?_ _ _
      | with_reducible refine State.Touch.each ?_ _ _ (fun x u hu => ?_)
      | with_reducible refine State.Touch.modArb ?_ _ _ (by decide)
      | with_reducible refine State.Touch.setLost ?_ _ _ _ (by decide)
      | with_reducible refine State.Touch.ite ?_ ?_
      | split
  exact hT.call k hl

theorem State.Touch.arbEnd {l : List Part} {s0 s : State} (hT : State.Touch l s0 s)  (p : ArbPort) (again : Bool)
    (hl : ∀ p ∈ ([.fab] : List Part), p ∈ l) : State.Touch l s0 (State.arbEnd s p again) := by
  have k : State.Touch [.fab] s (State.arbEnd s p again) := by
    unfold State.arbEnd
    try dsimp only
    iterate 60 all_goals try first
      | with_reducible assumption
      | with_reducible exact State.Touch.refl _ _
      | with_reducible refine State.Touch.set ?_ _ _
      | with_reducible refine State.Touch.arbDecide ?_ _ (by decide)
      | with_reducible refine State.Touch.setLost ?_ _ _ _ (by decide)
      | with_reducible refine State.Touch.ite ?_ ?_
      | split
  exact hT.call k hl

theorem State.Touch.arbRequest {l : List Part} {s0 s : State} (hT : State.Touch l s0 s)  (p : ArbPort) (i : Nat)
    (hl : ∀ p ∈ ([.fab] : List Part), p ∈ l) : State.Touch l s0 (State.arbRequest s p i) := by
  have k : State.Touch [.fab] s (State.arbRequest s p i) := by
    unfold State.arbRequest
    try dsimp only
    iterate 60 all_goals try first
      | with_reducible assumption
      | with_reducible exact State.Touch.refl _ _
      | with_reducible refine State.Touch.set ?_ _ _
      | with_reducible refine State.Touch.arbDecide ?_ _ (by decide)
      | with_reducible refine State.Touch.setLost ?_ _ _ _ (by decide)
      | with_reducible refine State.Touch.ite ?_ ?_
      | split
  exact hT.call k hl

theorem State.Touch.arbDrop {l : List Part} {s0 s : State} (hT : State.Touch l s0 s)  (p : ArbPort) (i : Nat)
    (hl : ∀ p ∈ ([.fab] : List Part), p ∈ l) : State.Touch l s0 (State.arbDrop s p i) := by
  have k : State.Touch [.fab] s (State.arbDrop s p i) := by
    unfold State.arbDrop
    try dsimp only
    iterate 60 all_goals try first
      | with_reducible assumption
      | with_reducible exact State.Touch.refl _ _
      | with_reducible refine State.Touch.set ?_ _ _
      | with_reducible refine State.Touch.arbEnd ?_ _ _ (by decide)
      | with_reducible refine State.Touch.setLost ?_ _ _ _ (by decide)
      | with_reducible refine State.Touch.ite ?_ ?_
      | split
  exact hT.call k hl

theorem State.Touch.arbMask {l : List Part} {s0 s : State} (hT : State.Touch l s0 s)  (p : ArbPort) (i : Nat)
    (hl : ∀ p ∈ ([.fab] : List Part), p ∈ l) : State.Touch l s0 (State.arbMask s p i) := by
  have k : State.Touch [.fab] s (State.arbMask s p i) := by
    unfold State.arbMask
    try dsimp only
    iterate 60 all_goals try first
      | with_reducible assumption
      | with_reducible exact State.Touch.refl _ _
      | with_reducible refine State.Touch.set ?_ _ _
      | with_reducible refine State.Touch.arbDrop ?_ _ _ (by decide)
      | with_reducible refine State.Touch.ite ?_ ?_
      | split
  exact hT.call k hl

theorem State.Touch.arbUnmask {l : List Part} {s0 s : State} (hT : State.Touch l s0 s)  (p : ArbPort) (i : Nat)
    (hl : ∀ p ∈ ([] : List Part), p ∈ l) : State.Touch l s0 (State.arbUnmask s p i) := by
  have k : State.Touch [] s (State.arbUnmask s p i) := by
    unfold State.arbUnmask
    try dsimp only
    iterate 60 all_goals try first
      | with_reducible assumption
      | with_reducible exact State.Touch.refl _ _
      | with_reducible refine State.Touch.set ?_ _ _
      | with_reducible refine State.Touch.ite ?_ ?_
      | split
  exact hT.call k hl

theorem State.Touch.maskBanks {l : List Part} {s0 s : State} (hT : State.Touch l s0 s)  (q i : Nat)
    (hl : ∀ p ∈ ([.fab] : List Part), p ∈ l) : State.Touch l s0 (State.maskBanks s q i) := by
  have k : State.Touch [.fab] s (State.maskBanks s q i) := by
    unfold State.maskBanks
    try dsimp only
    iterate 60 all_goals try first
      | with_reducible assumption
      | with_reducible exact State.Touch.refl _ _
      | with_reducible refine State.Touch.each ?_ _ _ (fun x u hu => ?_)
      | with_reducible refine State.Touch.arbMask ?_ _ _ (by decide)
      | with_reducible refine State.Touch.ite ?_ ?_
      | split
  exact hT.call k hl

theorem State.Touch.unmaskBanks {l : List Part} {s0 s : State} (hT : State.Touch l s0 s)  (q i : Nat)
    (hl : ∀ p ∈ ([] : List Part), p ∈ l) : State.Touch l s0 (State.unmaskBanks s q i) := by
  have k : State.Touch [] s (State.unmaskBanks s q i) := by
    unfold State.unmaskBanks
    try dsimp only
    iterate 60 all_goals try first
      | with_reducible assumption
      | with_reducible exact State.Touch.refl _ _
      | with_reducible refine State.Touch.each ?_ _ _ (fun x u hu => ?_)
      | with_reducible refine State.Touch.arbUnmask ?_ _ _ (by decide)
      | with_reducible refine State.Touch.ite ?_ ?_
      | split
  exact hT.call k hl

theorem State.Touch.arbCtrl {l : List Part} {s0 s : State} (hT : State.Touch l s0 s)  (p : ArbPort) (g block addr : Nat) (v : Word)
    (hl : ∀ p ∈ ([.fab] : List Part), p ∈ l) : State.Touch l s0 (State.arbCtrl s p g block addr v) := by
  have k : State.Touch [.fab] s (State.arbCtrl s p g block addr v) := by
    unfold State.arbCtrl
    try dsimp only
    iterate 60 all_goals try first
      | with_reducible assumption
      | with_reducible exact State.Touch.refl _ _
      | with_reducible refine State.Touch.wr ?_ _ _
      | with_reducible refine State.Touch.set ?_ _ _
      | with_reducible refine State.Touch.modArb ?_ _ _ (by decide)
      | with_reducible refine State.Touch.refuse ?_ _ _ _ (by decide)
      | with_reducible refine State.Touch.ite ?_ ?_
      | split
  exact hT.call k hl

theorem State.Touch.bridgeRead {l : List Part} {s0 s : State} (hT : State.Touch l s0 s)  (p : ArbPort)
    (hl : ∀ p ∈ ([.fab] : List Part), p ∈ l) : State.Touch l s0 (State.bridgeRead s p) := by
  have k : State.Touch [.fab] s (State.bridgeRead s p) := by
    unfold State.bridgeRead
    try dsimp only
    iterate 60 all_goals try first
      | with_reducible assumption
      | with_reducible exact State.Touch.refl _ _
      | with_reducible refine State.Touch.arbEnd ?_ _ _ (by decide)
      | with_reducible refine State.Touch.arbRequest ?_ _ _ (by decide)
      | with_reducible refine State.Touch.ite ?_ ?_
      | split
  exact hT.call k hl

end Sys2Proof.Machine
end

