-- ==== Sys2Proof/Laws/Touch/Tasks.lean ====
section
/-!
SUPPORT. Sys2Proof/Laws/Touch/Tasks.lean: which parts of the state each operation of Machine/Tasks.lean may change.
-/
set_option linter.all false
set_option maxRecDepth 4000
namespace Sys2Proof.Machine

theorem State.Touch.wakeWaiting {l : List Part} {s0 s : State} (hT : State.Touch l s0 s)  (d : TaskDef)
    (hl : ∀ p ∈ ([.fab] : List Part), p ∈ l) : State.Touch l s0 (State.wakeWaiting s d) := by
  have k : State.Touch [.fab] s (State.wakeWaiting s d) := by
    unfold State.wakeWaiting
    try dsimp only
    iterate 60 all_goals try first
      | with_reducible assumption
      | with_reducible exact State.Touch.refl _ _
      | with_reducible refine State.Touch.modFab ?_ _ (by decide)
      | with_reducible refine State.Touch.ite ?_ ?_
      | split
  exact hT.call k hl

theorem State.Touch.moveTask {l : List Part} {s0 s : State} (hT : State.Touch l s0 s)  (d : TaskDef) (q : Nat)
    (hl : ∀ p ∈ ([.fab] : List Part), p ∈ l) : State.Touch l s0 (State.moveTask s d q) := by
  have k : State.Touch [.fab] s (State.moveTask s d q) := by
    unfold State.moveTask
    try dsimp only
    iterate 60 all_goals try first
      | with_reducible assumption
      | with_reducible exact State.Touch.refl _ _
      | with_reducible refine State.Touch.setPlace ?_ _ _ (by decide)
      | with_reducible refine State.Touch.wakeWaiting ?_ _ (by decide)
      | with_reducible refine State.Touch.ite ?_ ?_
      | split
  exact hT.call k hl

theorem State.Touch.dropInst {l : List Part} {s0 s : State} (hT : State.Touch l s0 s)  (x : TaskInst)
    (hl : ∀ p ∈ ([.omem, .fab] : List Part), p ∈ l) : State.Touch l s0 (State.dropInst s x) := by
  have k : State.Touch [.omem, .fab] s (State.dropInst s x) := by
    unfold State.dropInst
    try dsimp only
    iterate 60 all_goals try first
      | with_reducible assumption
      | with_reducible exact State.Touch.refl _ _
      | with_reducible refine State.Touch.endInst ?_ _ _ (by decide)
      | with_reducible refine State.Touch.endPip ?_ _ _ (by decide)
      | with_reducible refine State.Touch.freeOf ?_ _ (by decide)
      | with_reducible refine State.Touch.ite ?_ ?_
      | split
  exact hT.call k hl

theorem State.Touch.noPlacement {l : List Part} {s0 s : State} (hT : State.Touch l s0 s)  (d : TaskDef)
    (hl : ∀ p ∈ ([.omem, .chans, .fab, .port] : List Part), p ∈ l) : State.Touch l s0 (State.noPlacement s d) := by
  have k : State.Touch [.omem, .chans, .fab, .port] s (State.noPlacement s d) := by
    unfold State.noPlacement
    try dsimp only
    iterate 60 all_goals try first
      | with_reducible assumption
      | with_reducible exact State.Touch.refl _ _
      | with_reducible refine State.Touch.raise ?_ _ _ _
      | with_reducible refine State.Touch.each ?_ _ _ (fun x u hu => ?_)
      | with_reducible refine State.Touch.dropInst ?_ _ (by decide)
      | with_reducible refine State.Touch.modFab ?_ _ (by decide)
      | with_reducible refine State.Touch.setPlace ?_ _ _ (by decide)
      | with_reducible refine State.Touch.slotReason ?_ _ _ _ (by decide)
      | with_reducible refine State.Touch.ite ?_ ?_
      | split
  exact hT.call k hl

theorem State.Touch.relocate {l : List Part} {s0 s : State} (hT : State.Touch l s0 s)  (d : TaskDef)
    (hl : ∀ p ∈ ([.omem, .chans, .fab, .port] : List Part), p ∈ l) : State.Touch l s0 (State.relocate s d) := by
  have k : State.Touch [.omem, .chans, .fab, .port] s (State.relocate s d) := by
    unfold State.relocate
    try dsimp only
    iterate 60 all_goals try first
      | with_reducible assumption
      | with_reducible exact State.Touch.refl _ _
      | with_reducible refine State.Touch.moveTask ?_ _ _ (by decide)
      | with_reducible refine State.Touch.noPlacement ?_ _ (by decide)
      | with_reducible refine State.Touch.ite ?_ ?_
      | split
  exact hT.call k hl

theorem State.Touch.startRerun {l : List Part} {s0 s : State} (hT : State.Touch l s0 s)  (d : TaskDef) (x : TaskInst) (q u : Nat)
    (hl : ∀ p ∈ ([.fab] : List Part), p ∈ l) : State.Touch l s0 (State.startRerun s d x q u) := by
  have k : State.Touch [.fab] s (State.startRerun s d x q u) := by
    unfold State.startRerun
    try dsimp only
    iterate 60 all_goals try first
      | with_reducible assumption
      | with_reducible exact State.Touch.refl _ _
      | with_reducible refine State.Touch.count ?_ _
      | with_reducible refine State.Touch.modTask ?_ _ _ _ (by decide)
      | with_reducible refine State.Touch.moveTask ?_ _ _ (by decide)
      | with_reducible refine State.Touch.setUnit ?_ _ _ _ (by decide)
      | with_reducible refine State.Touch.ite ?_ ?_
      | split
  exact hT.call k hl

theorem State.Touch.callSpare {l : List Part} {s0 s : State} (hT : State.Touch l s0 s)  (d : TaskDef) (x : TaskInst) (q u : Nat)
    (hl : ∀ p ∈ ([.fab] : List Part), p ∈ l) : State.Touch l s0 (State.callSpare s d x q u) := by
  have k : State.Touch [.fab] s (State.callSpare s d x q u) := by
    unfold State.callSpare
    try dsimp only
    iterate 60 all_goals try first
      | with_reducible assumption
      | with_reducible exact State.Touch.refl _ _
      | with_reducible refine State.Touch.set ?_ _ _
      | with_reducible refine State.Touch.modTask ?_ _ _ _ (by decide)
      | with_reducible refine State.Touch.moveTask ?_ _ _ (by decide)
      | with_reducible refine State.Touch.ite ?_ ?_
      | split
  exact hT.call k hl

theorem State.Touch.redispatch {l : List Part} {s0 s : State} (hT : State.Touch l s0 s)  (d : TaskDef) (x : TaskInst)
    (hl : ∀ p ∈ ([.omem, .chans, .fab, .port] : List Part), p ∈ l) : State.Touch l s0 (State.redispatch s d x) := by
  have k : State.Touch [.omem, .chans, .fab, .port] s (State.redispatch s d x) := by
    unfold State.redispatch
    try dsimp only
    iterate 60 all_goals try first
      | with_reducible assumption
      | with_reducible exact State.Touch.refl _ _
      | with_reducible refine State.Touch.callSpare ?_ _ _ _ _ (by decide)
      | with_reducible refine State.Touch.modTask ?_ _ _ _ (by decide)
      | with_reducible refine State.Touch.noPlacement ?_ _ (by decide)
      | with_reducible refine State.Touch.relocate ?_ _ (by decide)
      | with_reducible refine State.Touch.startRerun ?_ _ _ _ _ (by decide)
      | with_reducible refine State.Touch.ite ?_ ?_
      | split
  exact hT.call k hl

theorem State.Touch.abandon {l : List Part} {s0 s : State} (hT : State.Touch l s0 s) (fuel : Nat) (d : TaskDef)
    (n start reason reruns : Nat) (hl : ∀ p ∈ ([.omem, .chans, .fab] : List Part), p ∈ l) :
    State.Touch l s0 (State.abandon fuel s d n start reason reruns) := by
  have sub : ∀ (m : List Part), (∀ p ∈ m, p ∈ ([.omem, .chans, .fab] : List Part)) → ∀ p ∈ m, p ∈ l := fun m hm p hp => hl p (hm p hp)
  induction fuel generalizing s d n start reason reruns with
  | zero => exact hT
  | succ k ih =>
    unfold State.abandon
    dsimp only
    iterate 30 all_goals try first
      | with_reducible assumption
      | with_reducible refine State.Touch.each ?_ _ _ (fun x u hu => ?_)
      | with_reducible refine State.Touch.count ?_ _
      | with_reducible refine State.Touch.slotReason ?_ _ _ _ (sub _ (by decide))
      | with_reducible refine State.Touch.dropInst ?_ _ (sub _ (by decide))
      | with_reducible refine State.Touch.endInst ?_ _ _ (sub _ (by decide))
      | with_reducible exact ih _ _ _ _ _ _
      | with_reducible refine ih ?_ _ _ _ _ _
      | split

theorem State.Touch.abandonInst {l : List Part} {s0 s : State} (hT : State.Touch l s0 s) (d : TaskDef) (x : TaskInst) (reason : Nat)
    (hl : ∀ p ∈ ([.omem, .chans, .fab] : List Part), p ∈ l) : State.Touch l s0 (s.abandonInst d x reason) := hT.abandon _ _ _ _ _ _ hl

theorem State.Touch.startRun {l : List Part} {s0 s : State} (hT : State.Touch l s0 s)  (d : TaskDef) (x : TaskInst) (q u : Nat)
    (hl : ∀ p ∈ ([.omem, .fab, .freeCtr] : List Part), p ∈ l) : State.Touch l s0 (State.startRun s d x q u) := by
  have k : State.Touch [.omem, .fab, .freeCtr] s (State.startRun s d x q u) := by
    unfold State.startRun
    try dsimp only
    iterate 60 all_goals try first
      | with_reducible assumption
      | with_reducible exact State.Touch.refl _ _
      | with_reducible refine State.Touch.modTask ?_ _ _ _ (by decide)
      | with_reducible refine State.Touch.setUnit ?_ _ _ _ (by decide)
      | with_reducible refine State.Touch.writePip ?_ _ _ (by decide)
      | with_reducible refine State.Touch.ite ?_ ?_
      | split
  exact hT.call k hl

theorem State.Touch.taskDispatch {l : List Part} {s0 s : State} (hT : State.Touch l s0 s)  (q u : Nat)
    (hl : ∀ p ∈ ([.omem, .fab, .freeCtr] : List Part), p ∈ l) : State.Touch l s0 (State.taskDispatch s q u) := by
  have k : State.Touch [.omem, .fab, .freeCtr] s (State.taskDispatch s q u) := by
    unfold State.taskDispatch
    try dsimp only
    iterate 60 all_goals try first
      | with_reducible assumption
      | with_reducible exact State.Touch.refl _ _
      | with_reducible refine State.Touch.count ?_ _
      | with_reducible refine State.Touch.modFab ?_ _ (by decide)
      | with_reducible refine State.Touch.startRerun ?_ _ _ _ _ (by decide)
      | with_reducible refine State.Touch.startRun ?_ _ _ _ _ (by decide)
      | with_reducible refine State.Touch.ite ?_ ?_
      | split
  exact hT.call k hl

theorem State.Touch.pipCopyValid {l : List Part} {s0 s : State} (hT : State.Touch l s0 s)  (q u : Nat)
    (hl : ∀ p ∈ ([.omem, .fab] : List Part), p ∈ l) : State.Touch l s0 (State.pipCopyValid s q u) := by
  have k : State.Touch [.omem, .fab] s (State.pipCopyValid s q u) := by
    unfold State.pipCopyValid
    try dsimp only
    iterate 60 all_goals try first
      | with_reducible assumption
      | with_reducible exact State.Touch.refl _ _
      | with_reducible refine State.Touch.running ?_ _ (fun u hu => ?_)
      | with_reducible refine State.Touch.copyPip ?_ _ _ (by decide)
      | with_reducible refine State.Touch.modTask ?_ _ _ _ (by decide)
      | with_reducible refine State.Touch.ite ?_ ?_
      | split
  exact hT.call k hl

theorem State.Touch.pipLoadDone {l : List Part} {s0 s : State} (hT : State.Touch l s0 s)  (q u : Nat)
    (hl : ∀ p ∈ ([.omem, .fab] : List Part), p ∈ l) : State.Touch l s0 (State.pipLoadDone s q u) := by
  have k : State.Touch [.omem, .fab] s (State.pipLoadDone s q u) := by
    unfold State.pipLoadDone
    try dsimp only
    iterate 60 all_goals try first
      | with_reducible assumption
      | with_reducible exact State.Touch.refl _ _
      | with_reducible refine State.Touch.running ?_ _ (fun u hu => ?_)
      | with_reducible refine State.Touch.loadPip ?_ _ _ (by decide)
      | with_reducible refine State.Touch.modTask ?_ _ _ _ (by decide)
      | with_reducible refine State.Touch.ite ?_ ?_
      | split
  exact hT.call k hl

theorem State.Touch.releaseRoot {l : List Part} {s0 s : State} (hT : State.Touch l s0 s)  (d : TaskDef)
    (hl : ∀ p ∈ ([.fab] : List Part), p ∈ l) : State.Touch l s0 (State.releaseRoot s d) := by
  have k : State.Touch [.fab] s (State.releaseRoot s d) := by
    unfold State.releaseRoot
    try dsimp only
    iterate 60 all_goals try first
      | with_reducible assumption
      | with_reducible exact State.Touch.refl _ _
      | with_reducible refine State.Touch.count ?_ _
      | with_reducible refine State.Touch.modFab ?_ _ (by decide)
      | with_reducible refine State.Touch.ite ?_ ?_
      | split
  exact hT.call k hl

theorem State.Touch.releaseRoots {l : List Part} {s0 s : State} (hT : State.Touch l s0 s)  (period : Bool)
    (hl : ∀ p ∈ ([.fab] : List Part), p ∈ l) : State.Touch l s0 (State.releaseRoots s period) := by
  have k : State.Touch [.fab] s (State.releaseRoots s period) := by
    unfold State.releaseRoots
    try dsimp only
    iterate 60 all_goals try first
      | with_reducible assumption
      | with_reducible exact State.Touch.refl _ _
      | with_reducible refine State.Touch.each ?_ _ _ (fun x u hu => ?_)
      | with_reducible refine State.Touch.modFab ?_ _ (by decide)
      | with_reducible refine State.Touch.releaseRoot ?_ _ (by decide)
      | with_reducible refine State.Touch.ite ?_ ?_
      | split
  exact hT.call k hl

theorem State.Touch.placementRetry {l : List Part} {s0 s : State} (hT : State.Touch l s0 s) 
    (hl : ∀ p ∈ ([.chans, .fab] : List Part), p ∈ l) : State.Touch l s0 (State.placementRetry s) := by
  have k : State.Touch [.chans, .fab] s (State.placementRetry s) := by
    unfold State.placementRetry
    try dsimp only
    iterate 60 all_goals try first
      | with_reducible assumption
      | with_reducible exact State.Touch.refl _ _
      | with_reducible refine State.Touch.each ?_ _ _ (fun x u hu => ?_)
      | with_reducible refine State.Touch.modFab ?_ _ (by decide)
      | with_reducible refine State.Touch.moveTask ?_ _ _ (by decide)
      | with_reducible refine State.Touch.slotReason ?_ _ _ _ (by decide)
      | with_reducible refine State.Touch.ite ?_ ?_
      | split
  exact hT.call k hl

theorem State.Touch.completionToken {l : List Part} {s0 s : State} (hT : State.Touch l s0 s)  (q t : Nat)
    (hl : ∀ p ∈ ([.fab] : List Part), p ∈ l) : State.Touch l s0 (State.completionToken s q t) := by
  have k : State.Touch [.fab] s (State.completionToken s q t) := by
    unfold State.completionToken
    try dsimp only
    iterate 60 all_goals try first
      | with_reducible assumption
      | with_reducible exact State.Touch.refl _ _
      | with_reducible refine State.Touch.modFab ?_ _ (by decide)
      | with_reducible refine State.Touch.modTask ?_ _ _ _ (by decide)
      | with_reducible refine State.Touch.wakeWaiting ?_ _ (by decide)
      | with_reducible refine State.Touch.ite ?_ ?_
      | split
  exact hT.call k hl

theorem State.Touch.countSat {l : List Part} {s0 s : State} (hT : State.Touch l s0 s)  (x : TaskInst)
    (hl : ∀ p ∈ ([] : List Part), p ∈ l) : State.Touch l s0 (State.countSat s x) := by
  have k : State.Touch [] s (State.countSat s x) := by
    unfold State.countSat
    try dsimp only
    iterate 60 all_goals try first
      | with_reducible assumption
      | with_reducible exact State.Touch.refl _ _
      | with_reducible refine State.Touch.set ?_ _ _
      | with_reducible refine State.Touch.count ?_ _
      | with_reducible refine State.Touch.ite ?_ ?_
      | split
  exact hT.call k hl

theorem State.Touch.testDone {l : List Part} {s0 s : State} (hT : State.Touch l s0 s)  (q u : Nat)
    (hl : ∀ p ∈ ([.grp] : List Part), p ∈ l) : State.Touch l s0 (State.testDone s q u) := by
  have k : State.Touch [.grp] s (State.testDone s q u) := by
    unfold State.testDone
    try dsimp only
    iterate 60 all_goals try first
      | with_reducible assumption
      | with_reducible exact State.Touch.refl _ _
      | with_reducible refine State.Touch.ite ?_ ?_
      | split
      | with_reducible refine State.Touch.upd_grp ?_ _ (by decide)
  exact hT.call k hl

theorem State.Touch.taskComplete {l : List Part} {s0 s : State} (hT : State.Touch l s0 s)  (d : TaskDef) (x : TaskInst)
    (hl : ∀ p ∈ ([.omem, .fab, .grp] : List Part), p ∈ l) : State.Touch l s0 (State.taskComplete s d x) := by
  have k : State.Touch [.omem, .fab, .grp] s (State.taskComplete s d x) := by
    unfold State.taskComplete
    try dsimp only
    iterate 60 all_goals try first
      | with_reducible assumption
      | with_reducible exact State.Touch.refl _ _
      | with_reducible refine State.Touch.countSat ?_ _ (by decide)
      | with_reducible refine State.Touch.endInst ?_ _ _ (by decide)
      | with_reducible refine State.Touch.endPip ?_ _ _ (by decide)
      | with_reducible refine State.Touch.freeOf ?_ _ (by decide)
      | with_reducible refine State.Touch.modFab ?_ _ (by decide)
      | with_reducible refine State.Touch.testDone ?_ _ _ (by decide)
      | with_reducible refine State.Touch.ite ?_ ?_
      | split
  exact hT.call k hl

theorem State.Touch.egressAccept {l : List Part} {s0 s : State} (hT : State.Touch l s0 s)  (d : TaskDef) (x : TaskInst) (e : BitVec 128)
    (hl : ∀ p ∈ ([.chans, .fab, .port] : List Part), p ∈ l) : State.Touch l s0 (State.egressAccept s d x e) := by
  have k : State.Touch [.chans, .fab, .port] s (State.egressAccept s d x e) := by
    unfold State.egressAccept
    try dsimp only
    iterate 60 all_goals try first
      | with_reducible assumption
      | with_reducible exact State.Touch.refl _ _
      | with_reducible refine State.Touch.count ?_ _
      | with_reducible refine State.Touch.raise ?_ _ _ _
      | with_reducible refine State.Touch.modChan ?_ _ _ _ (by decide)
      | with_reducible refine State.Touch.modFab ?_ _ (by decide)
      | with_reducible refine State.Touch.ite ?_ ?_
      | split
  exact hT.call k hl

theorem State.Touch.channelPortOutput {l : List Part} {s0 s : State} (hT : State.Touch l s0 s)  (h : Word)
    (hl : ∀ p ∈ ([.mgt, .chans, .fab, .can, .eth, .ana, .port] : List Part), p ∈ l) : State.Touch l s0 (State.channelPortOutput s h) := by
  have k : State.Touch [.mgt, .chans, .fab, .can, .eth, .ana, .port] s (State.channelPortOutput s h) := by
    unfold State.channelPortOutput
    try dsimp only
    iterate 60 all_goals try first
      | with_reducible assumption
      | with_reducible exact State.Touch.refl _ _
      | with_reducible refine State.Touch.modFab ?_ _ (by decide)
      | with_reducible refine State.Touch.portOutput ?_ _ _ _ _ (by decide)
      | with_reducible refine State.Touch.ite ?_ ?_
      | split
  exact hT.call k hl

theorem State.Touch.slackToken {l : List Part} {s0 s : State} (hT : State.Touch l s0 s)  (t : Nat)
    (hl : ∀ p ∈ ([.fab, .port] : List Part), p ∈ l) : State.Touch l s0 (State.slackToken s t) := by
  have k : State.Touch [.fab, .port] s (State.slackToken s t) := by
    unfold State.slackToken
    try dsimp only
    iterate 60 all_goals try first
      | with_reducible assumption
      | with_reducible exact State.Touch.refl _ _
      | with_reducible refine State.Touch.wr ?_ _ _
      | with_reducible refine State.Touch.count ?_ _
      | with_reducible refine State.Touch.modFab ?_ _ (by decide)
      | with_reducible refine State.Touch.slackEvent ?_ _ _ _ _ (by decide)
      | with_reducible refine State.Touch.ite ?_ ?_
      | split
  exact hT.call k hl

end Sys2Proof.Machine
end

