-- ==== Sys2Proof/Laws/Touch/Group.lean ====
section
/-!
SUPPORT. Sys2Proof/Laws/Touch/Group.lean: which parts of the state each operation of Machine/Group.lean may change.
-/
set_option linter.all false
set_option maxRecDepth 4000
namespace Sys2Proof.Machine

theorem State.Touch.modGrp {l : List Part} {s0 s : State} (hT : State.Touch l s0 s)  (f : GrpSt → GrpSt)
    (hl : ∀ p ∈ ([.grp] : List Part), p ∈ l) : State.Touch l s0 (State.modGrp s f) := by
  have k : State.Touch [.grp] s (State.modGrp s f) := by
    unfold State.modGrp
    try dsimp only
    iterate 60 all_goals try first
      | with_reducible assumption
      | with_reducible exact State.Touch.refl _ _
      | with_reducible refine State.Touch.ite ?_ ?_
      | split
      | with_reducible refine State.Touch.upd_grp ?_ _ (by decide)
  exact hT.call k hl

theorem State.Touch.slhSend {l : List Part} {s0 s : State} (hT : State.Touch l s0 s)  (payload : List Byte)
    (hl : ∀ p ∈ ([.eth] : List Part), p ∈ l) : State.Touch l s0 (State.slhSend s payload) := by
  have k : State.Touch [.eth] s (State.slhSend s payload) := by
    unfold State.slhSend
    try dsimp only
    iterate 60 all_goals try first
      | with_reducible assumption
      | with_reducible exact State.Touch.refl _ _
      | with_reducible refine State.Touch.ethQueue ?_ _ _ (by decide)
      | with_reducible refine State.Touch.ite ?_ ?_
      | split
  exact hT.call k hl

theorem State.Touch.heartbeatDue {l : List Part} {s0 s : State} (hT : State.Touch l s0 s) 
    (hl : ∀ p ∈ ([.eth, .grp] : List Part), p ∈ l) : State.Touch l s0 (State.heartbeatDue s) := by
  have k : State.Touch [.eth, .grp] s (State.heartbeatDue s) := by
    unfold State.heartbeatDue
    try dsimp only
    iterate 60 all_goals try first
      | with_reducible assumption
      | with_reducible exact State.Touch.refl _ _
      | with_reducible refine State.Touch.count ?_ _
      | with_reducible refine State.Touch.modGrp ?_ _ (by decide)
      | with_reducible refine State.Touch.slhSend ?_ _ (by decide)
      | with_reducible refine State.Touch.ite ?_ ?_
      | split
  exact hT.call k hl

theorem State.Touch.slhSync {l : List Part} {s0 s : State} (hT : State.Touch l s0 s) 
    (hl : ∀ p ∈ ([] : List Part), p ∈ l) : State.Touch l s0 (State.slhSync s) := by
  have k : State.Touch [] s (State.slhSync s) := by
    unfold State.slhSync
    try dsimp only
    iterate 60 all_goals try first
      | with_reducible assumption
      | with_reducible exact State.Touch.refl _ _
      | with_reducible refine State.Touch.setBit ?_ _ _
      | with_reducible refine State.Touch.ite ?_ ?_
      | split
  exact hT.call k hl

theorem State.Touch.healthTx {l : List Part} {s0 s : State} (hT : State.Touch l s0 s) 
    (hl : ∀ p ∈ ([.eth] : List Part), p ∈ l) : State.Touch l s0 (State.healthTx s) := by
  have k : State.Touch [.eth] s (State.healthTx s) := by
    unfold State.healthTx
    try dsimp only
    iterate 60 all_goals try first
      | with_reducible assumption
      | with_reducible exact State.Touch.refl _ _
      | with_reducible refine State.Touch.count ?_ _
      | with_reducible refine State.Touch.slhSend ?_ _ (by decide)
      | with_reducible refine State.Touch.slhSync ?_ (by decide)
      | with_reducible refine State.Touch.ite ?_ ?_
      | split
  exact hT.call k hl

theorem State.Touch.modMember {l : List Part} {s0 s : State} (hT : State.Touch l s0 s)  (m : Nat) (f : MemberSt → MemberSt)
    (hl : ∀ p ∈ ([.grp] : List Part), p ∈ l) : State.Touch l s0 (State.modMember s m f) := by
  have k : State.Touch [.grp] s (State.modMember s m f) := by
    unfold State.modMember
    try dsimp only
    iterate 60 all_goals try first
      | with_reducible assumption
      | with_reducible exact State.Touch.refl _ _
      | with_reducible refine State.Touch.modGrp ?_ _ (by decide)
      | with_reducible refine State.Touch.ite ?_ ?_
      | split
  exact hT.call k hl

theorem State.Touch.ctlFlush {l : List Part} {s0 s : State} (hT : State.Touch l s0 s) 
    (hl : ∀ p ∈ ([.mgt, .ctl] : List Part), p ∈ l) : State.Touch l s0 (State.ctlFlush s) := by
  have k : State.Touch [.mgt, .ctl] s (State.ctlFlush s) := by
    unfold State.ctlFlush
    try dsimp only
    iterate 60 all_goals try first
      | with_reducible assumption
      | with_reducible exact State.Touch.refl _ _
      | with_reducible refine State.Touch.each ?_ _ _ (fun x u hu => ?_)
      | with_reducible refine State.Touch.modCtl ?_ _ (by decide)
      | with_reducible refine State.Touch.modeStat ?_ _ _ (by decide)
      | with_reducible refine State.Touch.resultOpt ?_ _ _ _ (by decide)
      | with_reducible refine State.Touch.ite ?_ ?_
      | split
  exact hT.call k hl

theorem State.Touch.demote {l : List Part} {s0 s : State} (hT : State.Touch l s0 s)  (new : Word) (resync : Bool)
    (hl : ∀ p ∈ ([.mgt, .chans, .fab, .ctl, .slv, .alc, .can, .srv, .grp, .port] : List Part), p ∈ l) : State.Touch l s0 (State.demote s new resync) := by
  have k : State.Touch [.mgt, .chans, .fab, .ctl, .slv, .alc, .can, .srv, .grp, .port] s (State.demote s new resync) := by
    unfold State.demote
    try dsimp only
    iterate 60 all_goals try first
      | with_reducible assumption
      | with_reducible exact State.Touch.refl _ _
      | with_reducible refine State.Touch.set ?_ _ _
      | with_reducible refine State.Touch.count ?_ _
      | with_reducible refine State.Touch.raise ?_ _ _ _
      | with_reducible refine State.Touch.aoutSafe ?_ (by decide)
      | with_reducible refine State.Touch.canRole ?_ _ (by decide)
      | with_reducible refine State.Touch.ctlFlush ?_ (by decide)
      | with_reducible refine State.Touch.dropTasks ?_ (by decide)
      | with_reducible refine State.Touch.modGrp ?_ _ (by decide)
      | with_reducible refine State.Touch.roleOutputs ?_ _ (by decide)
      | with_reducible refine State.Touch.slhSync ?_ (by decide)
      | with_reducible refine State.Touch.standbyLoops ?_ (by decide)
      | with_reducible refine State.Touch.ite ?_ ?_
      | split
      | with_reducible refine State.Touch.upd_chans ?_ _ (by decide)
      | with_reducible refine State.Touch.upd_slv ?_ _ (by decide)
  exact hT.call k hl

theorem State.Touch.raiseH {l : List Part} {s0 s : State} (hT : State.Touch l s0 s)  (g : Word)
    (hl : ∀ p ∈ ([] : List Part), p ∈ l) : State.Touch l s0 (State.raiseH s g) := by
  have k : State.Touch [] s (State.raiseH s g) := by
    unfold State.raiseH
    try dsimp only
    iterate 60 all_goals try first
      | with_reducible assumption
      | with_reducible exact State.Touch.refl _ _
      | with_reducible refine State.Touch.wr ?_ _ _
      | with_reducible refine State.Touch.ite ?_ ?_
      | split
  exact hT.call k hl

theorem State.Touch.noteEpoch {l : List Part} {s0 s : State} (hT : State.Touch l s0 s)  (g : Word)
    (hl : ∀ p ∈ ([.grp] : List Part), p ∈ l) : State.Touch l s0 (State.noteEpoch s g) := by
  have k : State.Touch [.grp] s (State.noteEpoch s g) := by
    unfold State.noteEpoch
    try dsimp only
    iterate 60 all_goals try first
      | with_reducible assumption
      | with_reducible exact State.Touch.refl _ _
      | with_reducible refine State.Touch.raise ?_ _ _ _
      | with_reducible refine State.Touch.modGrp ?_ _ (by decide)
      | with_reducible refine State.Touch.raiseH ?_ _ (by decide)
      | with_reducible refine State.Touch.ite ?_ ?_
      | split
  exact hT.call k hl

theorem State.Touch.seeEpoch {l : List Part} {s0 s : State} (hT : State.Touch l s0 s)  (g : Word)
    (hl : ∀ p ∈ ([.mgt, .chans, .fab, .ctl, .slv, .alc, .can, .srv, .grp, .port] : List Part), p ∈ l) : State.Touch l s0 (State.seeEpoch s g) := by
  have k : State.Touch [.mgt, .chans, .fab, .ctl, .slv, .alc, .can, .srv, .grp, .port] s (State.seeEpoch s g) := by
    unfold State.seeEpoch
    try dsimp only
    iterate 60 all_goals try first
      | with_reducible assumption
      | with_reducible exact State.Touch.refl _ _
      | with_reducible refine State.Touch.demote ?_ _ _ (by decide)
      | with_reducible refine State.Touch.noteEpoch ?_ _ (by decide)
      | with_reducible refine State.Touch.ite ?_ ?_
      | split
  exact hT.call k hl

theorem State.Touch.claimSend {l : List Part} {s0 s : State} (hT : State.Touch l s0 s)  (prev : Word) (cause frame : Nat)
    (hl : ∀ p ∈ ([.eth] : List Part), p ∈ l) : State.Touch l s0 (State.claimSend s prev cause frame) := by
  have k : State.Touch [.eth] s (State.claimSend s prev cause frame) := by
    unfold State.claimSend
    try dsimp only
    iterate 60 all_goals try first
      | with_reducible assumption
      | with_reducible exact State.Touch.refl _ _
      | with_reducible refine State.Touch.count ?_ _
      | with_reducible refine State.Touch.slhSend ?_ _ (by decide)
      | with_reducible refine State.Touch.ite ?_ ?_
      | split
  exact hT.call k hl

theorem State.Touch.slvPrimal {l : List Part} {s0 s : State} (hT : State.Touch l s0 s) 
    (hl : ∀ p ∈ ([.slv] : List Part), p ∈ l) : State.Touch l s0 (State.slvPrimal s) := by
  have k : State.Touch [.slv] s (State.slvPrimal s) := by
    unfold State.slvPrimal
    try dsimp only
    iterate 60 all_goals try first
      | with_reducible assumption
      | with_reducible exact State.Touch.refl _ _
      | with_reducible refine State.Touch.each ?_ _ _ (fun x u hu => ?_)
      | with_reducible refine State.Touch.modInst ?_ _ _ (by decide)
      | with_reducible refine State.Touch.ite ?_ ?_
      | split
  exact hT.call k hl

theorem State.Touch.claim {l : List Part} {s0 s : State} (hT : State.Touch l s0 s)  (cause : Nat)
    (hl : ∀ p ∈ ([.fab, .alc, .can, .eth, .srv, .grp] : List Part), p ∈ l) : State.Touch l s0 (State.claim s cause) := by
  have k : State.Touch [.fab, .alc, .can, .eth, .srv, .grp] s (State.claim s cause) := by
    unfold State.claim
    try dsimp only
    iterate 60 all_goals try first
      | with_reducible assumption
      | with_reducible exact State.Touch.refl _ _
      | with_reducible refine State.Touch.wr ?_ _ _
      | with_reducible refine State.Touch.set ?_ _ _
      | with_reducible refine State.Touch.count ?_ _
      | with_reducible refine State.Touch.autoCloseAll ?_ (by decide)
      | with_reducible refine State.Touch.canRole ?_ _ (by decide)
      | with_reducible refine State.Touch.claimSend ?_ _ _ _ (by decide)
      | with_reducible refine State.Touch.cqReset ?_ (by decide)
      | with_reducible refine State.Touch.dropTasks ?_ (by decide)
      | with_reducible refine State.Touch.modGrp ?_ _ (by decide)
      | with_reducible refine State.Touch.roleOutputs ?_ _ (by decide)
      | with_reducible refine State.Touch.slhSync ?_ (by decide)
      | with_reducible refine State.Touch.ite ?_ ?_
      | split
  exact hT.call k hl

theorem State.Touch.functionsFresh {l : List Part} {s0 s : State} (hT : State.Touch l s0 s) 
    (hl : ∀ p ∈ ([.cfg, .fus, .ctl, .slv, .alc, .srv] : List Part), p ∈ l) : State.Touch l s0 (State.functionsFresh s) := by
  have k : State.Touch [.cfg, .fus, .ctl, .slv, .alc, .srv] s (State.functionsFresh s) := by
    unfold State.functionsFresh
    try dsimp only
    iterate 60 all_goals try first
      | with_reducible assumption
      | with_reducible exact State.Touch.refl _ _
      | with_reducible refine State.Touch.set ?_ _ _
      | with_reducible refine State.Touch.each ?_ _ _ (fun x u hu => ?_)
      | with_reducible refine State.Touch.fusionReinit ?_ (by decide)
      | with_reducible refine State.Touch.slvCold ?_ _ (by decide)
      | with_reducible refine State.Touch.swapOverlay ?_ _ _ (by decide)
      | with_reducible refine State.Touch.thrInit ?_ (by decide)
      | with_reducible refine State.Touch.ite ?_ ?_
      | split
      | with_reducible refine State.Touch.upd_alc ?_ _ (by decide)
      | with_reducible refine State.Touch.upd_ctl ?_ _ (by decide)
      | with_reducible refine State.Touch.upd_fus ?_ _ (by decide)
  exact hT.call k hl

theorem State.Touch.claimForm {l : List Part} {s0 s : State} (hT : State.Touch l s0 s) 
    (hl : ∀ p ∈ ([.cfg, .fab, .fus, .ctl, .slv, .alc, .can, .eth, .srv, .grp] : List Part), p ∈ l) : State.Touch l s0 (State.claimForm s) := by
  have k : State.Touch [.cfg, .fab, .fus, .ctl, .slv, .alc, .can, .eth, .srv, .grp] s (State.claimForm s) := by
    unfold State.claimForm
    try dsimp only
    iterate 60 all_goals try first
      | with_reducible assumption
      | with_reducible exact State.Touch.refl _ _
      | with_reducible refine State.Touch.count ?_ _
      | with_reducible refine State.Touch.claim ?_ _ (by decide)
      | with_reducible refine State.Touch.functionsFresh ?_ (by decide)
      | with_reducible refine State.Touch.modGrp ?_ _ (by decide)
      | with_reducible refine State.Touch.ite ?_ ?_
      | split
  exact hT.call k hl

theorem State.Touch.takeOver {l : List Part} {s0 s : State} (hT : State.Touch l s0 s) 
    (hl : ∀ p ∈ ([.mgt, .chans, .fab, .fus, .ctl, .slv, .alc, .can, .eth, .ana, .srv, .grp, .port] : List Part), p ∈ l) : State.Touch l s0 (State.takeOver s) := by
  have k : State.Touch [.mgt, .chans, .fab, .fus, .ctl, .slv, .alc, .can, .eth, .ana, .srv, .grp, .port] s (State.takeOver s) := by
    unfold State.takeOver
    try dsimp only
    iterate 60 all_goals try first
      | with_reducible assumption
      | with_reducible exact State.Touch.refl _ _
      | with_reducible refine State.Touch.count ?_ _
      | with_reducible refine State.Touch.adoptState ?_ _ (by decide)
      | with_reducible refine State.Touch.claim ?_ _ (by decide)
      | with_reducible refine State.Touch.loopEmit ?_ (by decide)
      | with_reducible refine State.Touch.modGrp ?_ _ (by decide)
      | with_reducible refine State.Touch.seamFill ?_ _ _ _ _ (by decide)
      | with_reducible refine State.Touch.slvPrimal ?_ (by decide)
      | with_reducible refine State.Touch.ite ?_ ?_
      | split
  exact hT.call k hl

theorem State.Touch.handoverClaim {l : List Part} {s0 s : State} (hT : State.Touch l s0 s) 
    (hl : ∀ p ∈ ([.chans, .fab, .fus, .ctl, .slv, .alc, .can, .eth, .srv, .grp] : List Part), p ∈ l) : State.Touch l s0 (State.handoverClaim s) := by
  have k : State.Touch [.chans, .fab, .fus, .ctl, .slv, .alc, .can, .eth, .srv, .grp] s (State.handoverClaim s) := by
    unfold State.handoverClaim
    try dsimp only
    iterate 60 all_goals try first
      | with_reducible assumption
      | with_reducible exact State.Touch.refl _ _
      | with_reducible refine State.Touch.adoptState ?_ _ (by decide)
      | with_reducible refine State.Touch.claim ?_ _ (by decide)
      | with_reducible refine State.Touch.seqAdopt ?_ _ (by decide)
      | with_reducible refine State.Touch.slvPrimal ?_ (by decide)
      | with_reducible refine State.Touch.ite ?_ ?_
      | split
  exact hT.call k hl

theorem State.Touch.groupStart {l : List Part} {s0 s : State} (hT : State.Touch l s0 s) 
    (hl : ∀ p ∈ ([.cfg, .fab, .fus, .ctl, .slv, .alc, .can, .eth, .srv, .grp, .port] : List Part), p ∈ l) : State.Touch l s0 (State.groupStart s) := by
  have k : State.Touch [.cfg, .fab, .fus, .ctl, .slv, .alc, .can, .eth, .srv, .grp, .port] s (State.groupStart s) := by
    unfold State.groupStart
    try dsimp only
    iterate 60 all_goals try first
      | with_reducible assumption
      | with_reducible exact State.Touch.refl _ _
      | with_reducible refine State.Touch.set ?_ _ _
      | with_reducible refine State.Touch.raise ?_ _ _ _
      | with_reducible refine State.Touch.claimForm ?_ (by decide)
      | with_reducible refine State.Touch.modGrp ?_ _ (by decide)
      | with_reducible refine State.Touch.ite ?_ ?_
      | split
  exact hT.call k hl

theorem State.Touch.formWaitExpired {l : List Part} {s0 s : State} (hT : State.Touch l s0 s) 
    (hl : ∀ p ∈ ([.cfg, .fab, .fus, .ctl, .slv, .alc, .can, .eth, .srv, .grp] : List Part), p ∈ l) : State.Touch l s0 (State.formWaitExpired s) := by
  have k : State.Touch [.cfg, .fab, .fus, .ctl, .slv, .alc, .can, .eth, .srv, .grp] s (State.formWaitExpired s) := by
    unfold State.formWaitExpired
    try dsimp only
    iterate 60 all_goals try first
      | with_reducible assumption
      | with_reducible exact State.Touch.refl _ _
      | with_reducible refine State.Touch.claimForm ?_ (by decide)
      | with_reducible refine State.Touch.ite ?_ ?_
      | split
  exact hT.call k hl

theorem State.Touch.takeoverTimeout {l : List Part} {s0 s : State} (hT : State.Touch l s0 s) 
    (hl : ∀ p ∈ ([.mgt, .chans, .fab, .fus, .ctl, .slv, .alc, .can, .eth, .ana, .srv, .grp, .port] : List Part), p ∈ l) : State.Touch l s0 (State.takeoverTimeout s) := by
  have k : State.Touch [.mgt, .chans, .fab, .fus, .ctl, .slv, .alc, .can, .eth, .ana, .srv, .grp, .port] s (State.takeoverTimeout s) := by
    unfold State.takeoverTimeout
    try dsimp only
    iterate 60 all_goals try first
      | with_reducible assumption
      | with_reducible exact State.Touch.refl _ _
      | with_reducible refine State.Touch.raise ?_ _ _ _
      | with_reducible refine State.Touch.modGrp ?_ _ (by decide)
      | with_reducible refine State.Touch.takeOver ?_ (by decide)
      | with_reducible refine State.Touch.ite ?_ ?_
      | split
  exact hT.call k hl

theorem State.Touch.rankWaitExpired {l : List Part} {s0 s : State} (hT : State.Touch l s0 s) 
    (hl : ∀ p ∈ ([.mgt, .chans, .fab, .fus, .ctl, .slv, .alc, .can, .eth, .ana, .srv, .grp, .port] : List Part), p ∈ l) : State.Touch l s0 (State.rankWaitExpired s) := by
  have k : State.Touch [.mgt, .chans, .fab, .fus, .ctl, .slv, .alc, .can, .eth, .ana, .srv, .grp, .port] s (State.rankWaitExpired s) := by
    unfold State.rankWaitExpired
    try dsimp only
    iterate 60 all_goals try first
      | with_reducible assumption
      | with_reducible exact State.Touch.refl _ _
      | with_reducible refine State.Touch.takeOver ?_ (by decide)
      | with_reducible refine State.Touch.ite ?_ ?_
      | split
  exact hT.call k hl

theorem State.Touch.groupIsolated {l : List Part} {s0 s : State} (hT : State.Touch l s0 s) 
    (hl : ∀ p ∈ ([.port] : List Part), p ∈ l) : State.Touch l s0 (State.groupIsolated s) := by
  have k : State.Touch [.port] s (State.groupIsolated s) := by
    unfold State.groupIsolated
    try dsimp only
    iterate 60 all_goals try first
      | with_reducible assumption
      | with_reducible exact State.Touch.refl _ _
      | with_reducible refine State.Touch.set ?_ _ _
      | with_reducible refine State.Touch.raise ?_ _ _ _
      | with_reducible refine State.Touch.ite ?_ ?_
      | split
  exact hT.call k hl

theorem State.Touch.slhRx {l : List Part} {s0 s : State} (h : State.Touch l s0 s) (typ len : Nat) (b : List Byte) (f : State → State)
    (hf : ∀ u, State.Touch l s0 u → State.Touch l s0 (f u)) : State.Touch l s0 (s.slhRx typ len b f) := by
  unfold State.slhRx
  split_ifs
  · exact h
  · exact h.count _
  · exact hf _ h

theorem State.Touch.followBeat {l : List Part} {s0 s : State} (hT : State.Touch l s0 s)  (b : List Byte) (m : Nat) (g : Word)
    (hl : ∀ p ∈ ([.frame, .grp] : List Part), p ∈ l) : State.Touch l s0 (State.followBeat s b m g) := by
  have k : State.Touch [.frame, .grp] s (State.followBeat s b m g) := by
    unfold State.followBeat
    try dsimp only
    iterate 60 all_goals try first
      | with_reducible assumption
      | with_reducible exact State.Touch.refl _ _
      | with_reducible refine State.Touch.wr ?_ _ _
      | with_reducible refine State.Touch.count ?_ _
      | with_reducible refine State.Touch.modGrp ?_ _ (by decide)
      | with_reducible refine State.Touch.slhSync ?_ (by decide)
      | with_reducible refine State.Touch.ite ?_ ?_
      | split
      | with_reducible refine State.Touch.upd_frame ?_ _ (by decide)
  exact hT.call k hl

theorem State.Touch.heartbeatRx {l : List Part} {s0 s : State} (hT : State.Touch l s0 s)  (b : List Byte)
    (hl : ∀ p ∈ ([.mgt, .frame, .chans, .fab, .ctl, .slv, .alc, .can, .eth, .srv, .grp, .port] : List Part), p ∈ l) : State.Touch l s0 (State.heartbeatRx s b) := by
  have k : State.Touch [.mgt, .frame, .chans, .fab, .ctl, .slv, .alc, .can, .eth, .srv, .grp, .port] s (State.heartbeatRx s b) := by
    unfold State.heartbeatRx
    try dsimp only
    iterate 60 all_goals try first
      | with_reducible assumption
      | with_reducible exact State.Touch.refl _ _
      | with_reducible refine State.Touch.set ?_ _ _
      | with_reducible refine State.Touch.count ?_ _
      | with_reducible refine State.Touch.slhRx ?_ _ _ _ _ (fun u hu => ?_)
      | with_reducible refine State.Touch.claimSend ?_ _ _ _ (by decide)
      | with_reducible refine State.Touch.followBeat ?_ _ _ _ (by decide)
      | with_reducible refine State.Touch.modGrp ?_ _ (by decide)
      | with_reducible refine State.Touch.modMember ?_ _ _ (by decide)
      | with_reducible refine State.Touch.seeEpoch ?_ _ (by decide)
      | with_reducible refine State.Touch.ite ?_ ?_
      | split
  exact hT.call k hl

theorem State.Touch.healthRx {l : List Part} {s0 s : State} (hT : State.Touch l s0 s)  (b : List Byte)
    (hl : ∀ p ∈ ([.grp] : List Part), p ∈ l) : State.Touch l s0 (State.healthRx s b) := by
  have k : State.Touch [.grp] s (State.healthRx s b) := by
    unfold State.healthRx
    try dsimp only
    iterate 60 all_goals try first
      | with_reducible assumption
      | with_reducible exact State.Touch.refl _ _
      | with_reducible refine State.Touch.slhRx ?_ _ _ _ _ (fun u hu => ?_)
      | with_reducible refine State.Touch.modMember ?_ _ _ (by decide)
      | with_reducible refine State.Touch.noteEpoch ?_ _ (by decide)
      | with_reducible refine State.Touch.slhSync ?_ (by decide)
      | with_reducible refine State.Touch.snapshotStart ?_ (by decide)
      | with_reducible refine State.Touch.ite ?_ ?_
      | split
  exact hT.call k hl

theorem State.Touch.claimRx {l : List Part} {s0 s : State} (hT : State.Touch l s0 s)  (b : List Byte)
    (hl : ∀ p ∈ ([.mgt, .chans, .fab, .ctl, .slv, .alc, .can, .srv, .grp, .port] : List Part), p ∈ l) : State.Touch l s0 (State.claimRx s b) := by
  have k : State.Touch [.mgt, .chans, .fab, .ctl, .slv, .alc, .can, .srv, .grp, .port] s (State.claimRx s b) := by
    unfold State.claimRx
    try dsimp only
    iterate 60 all_goals try first
      | with_reducible assumption
      | with_reducible exact State.Touch.refl _ _
      | with_reducible refine State.Touch.wr ?_ _ _
      | with_reducible refine State.Touch.count ?_ _
      | with_reducible refine State.Touch.slhRx ?_ _ _ _ _ (fun u hu => ?_)
      | with_reducible refine State.Touch.modGrp ?_ _ (by decide)
      | with_reducible refine State.Touch.seeEpoch ?_ _ (by decide)
      | with_reducible refine State.Touch.ite ?_ ?_
      | split
  exact hT.call k hl

theorem State.Touch.offerRx {l : List Part} {s0 s : State} (hT : State.Touch l s0 s)  (b : List Byte)
    (hl : ∀ p ∈ ([.grp] : List Part), p ∈ l) : State.Touch l s0 (State.offerRx s b) := by
  have k : State.Touch [.grp] s (State.offerRx s b) := by
    unfold State.offerRx
    try dsimp only
    iterate 60 all_goals try first
      | with_reducible assumption
      | with_reducible exact State.Touch.refl _ _
      | with_reducible refine State.Touch.count ?_ _
      | with_reducible refine State.Touch.slhRx ?_ _ _ _ _ (fun u hu => ?_)
      | with_reducible refine State.Touch.modGrp ?_ _ (by decide)
      | with_reducible refine State.Touch.ite ?_ ?_
      | split
  exact hT.call k hl

theorem State.Touch.stateComplete {l : List Part} {s0 s : State} (hT : State.Touch l s0 s)  (r : StateRx) (d : List Byte)
    (hl : ∀ p ∈ ([.mgt, .chans, .fab, .fus, .ctl, .alc, .can, .eth, .ana, .srv, .grp] : List Part), p ∈ l) : State.Touch l s0 (State.stateComplete s r d) := by
  have k : State.Touch [.mgt, .chans, .fab, .fus, .ctl, .alc, .can, .eth, .ana, .srv, .grp] s (State.stateComplete s r d) := by
    unfold State.stateComplete
    try dsimp only
    iterate 60 all_goals try first
      | with_reducible assumption
      | with_reducible exact State.Touch.refl _ _
      | with_reducible refine State.Touch.wr ?_ _ _
      | with_reducible refine State.Touch.count ?_ _
      | with_reducible refine State.Touch.modGrp ?_ _ (by decide)
      | with_reducible refine State.Touch.opsApply ?_ _ (by decide)
      | with_reducible refine State.Touch.slhSync ?_ (by decide)
      | with_reducible refine State.Touch.ite ?_ ?_
      | split
  exact hT.call k hl

theorem State.Touch.fragmentRx {l : List Part} {s0 s : State} (hT : State.Touch l s0 s)  (b : List Byte)
    (hl : ∀ p ∈ ([.mgt, .chans, .fab, .fus, .ctl, .slv, .alc, .can, .eth, .ana, .srv, .grp, .port] : List Part), p ∈ l) : State.Touch l s0 (State.fragmentRx s b) := by
  have k : State.Touch [.mgt, .chans, .fab, .fus, .ctl, .slv, .alc, .can, .eth, .ana, .srv, .grp, .port] s (State.fragmentRx s b) := by
    unfold State.fragmentRx
    try dsimp only
    iterate 60 all_goals try first
      | with_reducible assumption
      | with_reducible exact State.Touch.refl _ _
      | with_reducible refine State.Touch.count ?_ _
      | with_reducible refine State.Touch.slhRx ?_ _ _ _ _ (fun u hu => ?_)
      | with_reducible refine State.Touch.modGrp ?_ _ (by decide)
      | with_reducible refine State.Touch.seeEpoch ?_ _ (by decide)
      | with_reducible refine State.Touch.stateComplete ?_ _ _ (by decide)
      | with_reducible refine State.Touch.ite ?_ ?_
      | split
  exact hT.call k hl

theorem State.Touch.stateTx {l : List Part} {s0 s : State} (hT : State.Touch l s0 s) 
    (hl : ∀ p ∈ ([.eth, .grp] : List Part), p ∈ l) : State.Touch l s0 (State.stateTx s) := by
  have k : State.Touch [.eth, .grp] s (State.stateTx s) := by
    unfold State.stateTx
    try dsimp only
    iterate 60 all_goals try first
      | with_reducible assumption
      | with_reducible exact State.Touch.refl _ _
      | with_reducible refine State.Touch.count ?_ _
      | with_reducible refine State.Touch.each ?_ _ _ (fun x u hu => ?_)
      | with_reducible refine State.Touch.modGrp ?_ _ (by decide)
      | with_reducible refine State.Touch.opsFrame ?_ (by decide)
      | with_reducible refine State.Touch.slhSend ?_ _ (by decide)
      | with_reducible refine State.Touch.ite ?_ ?_
      | split
  exact hT.call k hl

theorem State.Touch.handover {l : List Part} {s0 s : State} (hT : State.Touch l s0 s)  (target : Nat)
    (hl : ∀ p ∈ ([.eth, .grp] : List Part), p ∈ l) : State.Touch l s0 (State.handover s target) := by
  have k : State.Touch [.eth, .grp] s (State.handover s target) := by
    unfold State.handover
    try dsimp only
    iterate 60 all_goals try first
      | with_reducible assumption
      | with_reducible exact State.Touch.refl _ _
      | with_reducible refine State.Touch.set ?_ _ _
      | with_reducible refine State.Touch.count ?_ _
      | with_reducible refine State.Touch.modGrp ?_ _ (by decide)
      | with_reducible refine State.Touch.refuse ?_ _ _ _ (by decide)
      | with_reducible refine State.Touch.slhSend ?_ _ (by decide)
      | with_reducible refine State.Touch.ite ?_ ?_
      | split
  exact hT.call k hl

theorem State.Touch.handoverStart {l : List Part} {s0 s : State} (hT : State.Touch l s0 s) 
    (hl : ∀ p ∈ ([.mgt, .chans, .fab, .fus, .ctl, .slv, .alc, .can, .eth, .srv, .grp, .port] : List Part), p ∈ l) : State.Touch l s0 (State.handoverStart s) := by
  have k : State.Touch [.mgt, .chans, .fab, .fus, .ctl, .slv, .alc, .can, .eth, .srv, .grp, .port] s (State.handoverStart s) := by
    unfold State.handoverStart
    try dsimp only
    iterate 60 all_goals try first
      | with_reducible assumption
      | with_reducible exact State.Touch.refl _ _
      | with_reducible refine State.Touch.count ?_ _
      | with_reducible refine State.Touch.demote ?_ _ _ (by decide)
      | with_reducible refine State.Touch.handoverClaim ?_ (by decide)
      | with_reducible refine State.Touch.modGrp ?_ _ (by decide)
      | with_reducible refine State.Touch.ite ?_ ?_
      | split
  exact hT.call k hl

theorem State.Touch.standbyMode {l : List Part} {s0 s : State} (hT : State.Touch l s0 s) 
    (hl : ∀ p ∈ ([.cfg, .srv] : List Part), p ∈ l) : State.Touch l s0 (State.standbyMode s) := by
  have k : State.Touch [.cfg, .srv] s (State.standbyMode s) := by
    unfold State.standbyMode
    try dsimp only
    iterate 60 all_goals try first
      | with_reducible assumption
      | with_reducible exact State.Touch.refl _ _
      | with_reducible refine State.Touch.set ?_ _ _
      | with_reducible refine State.Touch.countWrap ?_ _
      | with_reducible refine State.Touch.swapOverlay ?_ _ _ (by decide)
      | with_reducible refine State.Touch.ite ?_ ?_
      | split
  exact hT.call k hl

theorem State.Touch.triggerAlign {l : List Part} {s0 s : State} (hT : State.Touch l s0 s) 
    (hl : ∀ p ∈ ([] : List Part), p ∈ l) : State.Touch l s0 (State.triggerAlign s) := by
  have k : State.Touch [] s (State.triggerAlign s) := by
    unfold State.triggerAlign
    try dsimp only
    iterate 60 all_goals try first
      | with_reducible assumption
      | with_reducible exact State.Touch.refl _ _
      | with_reducible refine State.Touch.wr ?_ _ _
      | with_reducible refine State.Touch.ite ?_ ?_
      | split
  exact hT.call k hl

end Sys2Proof.Machine
end

