-- ==== Sys2Proof/Laws/Touch/Faults.lean ====
section
/-!
SUPPORT. Sys2Proof/Laws/Touch/Faults.lean: which parts of the state each operation of Machine/Faults.lean may change.
-/
set_option linter.all false
set_option maxRecDepth 4000
namespace Sys2Proof.Machine

theorem State.Touch.evict {l : List Part} {s0 s : State} (hT : State.Touch l s0 s)  (reason : Nat)
    (hl : ∀ p ∈ ([.omem, .chans, .fab, .port] : List Part), p ∈ l) : State.Touch l s0 (State.evict s reason) := by
  have k : State.Touch [.omem, .chans, .fab, .port] s (State.evict s reason) := by
    unfold State.evict
    try dsimp only
    iterate 60 all_goals try first
      | with_reducible assumption
      | with_reducible exact State.Touch.refl _ _
      | with_reducible refine State.Touch.each ?_ _ _ (fun x u hu => ?_)
      | with_reducible refine State.Touch.freeOf ?_ _ (by decide)
      | with_reducible refine State.Touch.modTask ?_ _ _ _ (by decide)
      | with_reducible refine State.Touch.redispatch ?_ _ _ (by decide)
      | with_reducible refine State.Touch.relocate ?_ _ (by decide)
      | with_reducible refine State.Touch.slotReason ?_ _ _ _ (by decide)
      | with_reducible refine State.Touch.ite ?_ ?_
      | split
  exact hT.call k hl

theorem State.Touch.discardPartial {l : List Part} {s0 s : State} (hT : State.Touch l s0 s)  (x : TaskInst)
    (hl : ∀ p ∈ ([] : List Part), p ∈ l) : State.Touch l s0 (State.discardPartial s x) := by
  have k : State.Touch [] s (State.discardPartial s x) := by
    unfold State.discardPartial
    try dsimp only
    iterate 60 all_goals try first
      | with_reducible assumption
      | with_reducible exact State.Touch.refl _ _
      | with_reducible refine State.Touch.count ?_ _
      | with_reducible refine State.Touch.ite ?_ ?_
      | split
  exact hT.call k hl

theorem State.Touch.fence {l : List Part} {s0 s : State} (hT : State.Touch l s0 s)  (q u : Nat)
    (hl : ∀ p ∈ ([.fab] : List Part), p ∈ l) : State.Touch l s0 (State.fence s q u) := by
  have k : State.Touch [.fab] s (State.fence s q u) := by
    unfold State.fence
    try dsimp only
    iterate 60 all_goals try first
      | with_reducible assumption
      | with_reducible exact State.Touch.refl _ _
      | with_reducible refine State.Touch.set ?_ _ _
      | with_reducible refine State.Touch.maskBanks ?_ _ _ (by decide)
      | with_reducible refine State.Touch.setUnit ?_ _ _ _ (by decide)
      | with_reducible refine State.Touch.ite ?_ ?_
      | split
  exact hT.call k hl

theorem State.Touch.lostRun {l : List Part} {s0 s : State} (hT : State.Touch l s0 s)  (x : TaskInst)
    (hl : ∀ p ∈ ([.omem, .chans, .fab, .port] : List Part), p ∈ l) : State.Touch l s0 (State.lostRun s x) := by
  have k : State.Touch [.omem, .chans, .fab, .port] s (State.lostRun s x) := by
    unfold State.lostRun
    try dsimp only
    iterate 60 all_goals try first
      | with_reducible assumption
      | with_reducible exact State.Touch.refl _ _
      | with_reducible refine State.Touch.count ?_ _
      | with_reducible refine State.Touch.raise ?_ _ _ _
      | with_reducible refine State.Touch.abandonInst ?_ _ _ _ (by decide)
      | with_reducible refine State.Touch.dropInst ?_ _ (by decide)
      | with_reducible refine State.Touch.modTask ?_ _ _ _ (by decide)
      | with_reducible refine State.Touch.redispatch ?_ _ _ (by decide)
      | with_reducible refine State.Touch.slotReason ?_ _ _ _ (by decide)
      | with_reducible refine State.Touch.ite ?_ ?_
      | split
  exact hT.call k hl

theorem State.Touch.unitFault {l : List Part} {s0 s : State} (hT : State.Touch l s0 s)  (q u cause : Nat)
    (hl : ∀ p ∈ ([.omem, .chans, .fab, .port] : List Part), p ∈ l) : State.Touch l s0 (State.unitFault s q u cause) := by
  have k : State.Touch [.omem, .chans, .fab, .port] s (State.unitFault s q u cause) := by
    unfold State.unitFault
    try dsimp only
    iterate 60 all_goals try first
      | with_reducible assumption
      | with_reducible exact State.Touch.refl _ _
      | with_reducible refine State.Touch.raise ?_ _ _ _
      | with_reducible refine State.Touch.discardPartial ?_ _ (by decide)
      | with_reducible refine State.Touch.evict ?_ _ (by decide)
      | with_reducible refine State.Touch.faultRecord ?_ _ _ _ _ (by decide)
      | with_reducible refine State.Touch.fence ?_ _ _ (by decide)
      | with_reducible refine State.Touch.lostRun ?_ _ (by decide)
      | with_reducible refine State.Touch.ite ?_ ?_
      | split
  exact hT.call k hl

theorem State.Touch.spareWakeDone {l : List Part} {s0 s : State} (hT : State.Touch l s0 s)  (q u : Nat) (pass : Bool)
    (hl : ∀ p ∈ ([.omem, .chans, .fab, .port] : List Part), p ∈ l) : State.Touch l s0 (State.spareWakeDone s q u pass) := by
  have k : State.Touch [.omem, .chans, .fab, .port] s (State.spareWakeDone s q u pass) := by
    unfold State.spareWakeDone
    try dsimp only
    iterate 60 all_goals try first
      | with_reducible assumption
      | with_reducible exact State.Touch.refl _ _
      | with_reducible refine State.Touch.count ?_ _
      | with_reducible refine State.Touch.raise ?_ _ _ _
      | with_reducible refine State.Touch.evict ?_ _ (by decide)
      | with_reducible refine State.Touch.faultRecord ?_ _ _ _ _ (by decide)
      | with_reducible refine State.Touch.fence ?_ _ _ (by decide)
      | with_reducible refine State.Touch.redispatch ?_ _ _ (by decide)
      | with_reducible refine State.Touch.setUnit ?_ _ _ _ (by decide)
      | with_reducible refine State.Touch.startRerun ?_ _ _ _ _ (by decide)
      | with_reducible refine State.Touch.unmaskBanks ?_ _ _ (by decide)
      | with_reducible refine State.Touch.ite ?_ ?_
      | split
  exact hT.call k hl

theorem State.Touch.retireBank {l : List Part} {s0 s : State} (hT : State.Touch l s0 s)  (q b cause : Nat)
    (hl : ∀ p ∈ ([.omem, .chans, .fab, .port] : List Part), p ∈ l) : State.Touch l s0 (State.retireBank s q b cause) := by
  have k : State.Touch [.omem, .chans, .fab, .port] s (State.retireBank s q b cause) := by
    unfold State.retireBank
    try dsimp only
    iterate 60 all_goals try first
      | with_reducible assumption
      | with_reducible exact State.Touch.refl _ _
      | with_reducible refine State.Touch.set ?_ _ _
      | with_reducible refine State.Touch.count ?_ _
      | with_reducible refine State.Touch.raise ?_ _ _ _
      | with_reducible refine State.Touch.evict ?_ _ (by decide)
      | with_reducible refine State.Touch.faultRecord ?_ _ _ _ _ (by decide)
      | with_reducible refine State.Touch.ite ?_ ?_
      | split
  exact hT.call k hl

theorem State.Touch.isolate {l : List Part} {s0 s : State} (hT : State.Touch l s0 s)  (g : Nat)
    (hl : ∀ p ∈ ([.fab] : List Part), p ∈ l) : State.Touch l s0 (State.isolate s g) := by
  have k : State.Touch [.fab] s (State.isolate s g) := by
    unfold State.isolate
    try dsimp only
    iterate 60 all_goals try first
      | with_reducible assumption
      | with_reducible exact State.Touch.refl _ _
      | with_reducible refine State.Touch.set ?_ _ _
      | with_reducible refine State.Touch.each ?_ _ _ (fun x u hu => ?_)
      | with_reducible refine State.Touch.arbMask ?_ _ _ (by decide)
      | with_reducible refine State.Touch.discardPartial ?_ _ (by decide)
      | with_reducible refine State.Touch.maskBanks ?_ _ _ (by decide)
      | with_reducible refine State.Touch.ite ?_ ?_
      | split
  exact hT.call k hl

theorem State.Touch.altIn {l : List Part} {s0 s : State} (hT : State.Touch l s0 s)  (g v : Nat)
    (hl : ∀ p ∈ ([] : List Part), p ∈ l) : State.Touch l s0 (State.altIn s g v) := by
  have k : State.Touch [] s (State.altIn s g v) := by
    unfold State.altIn
    try dsimp only
    iterate 60 all_goals try first
      | with_reducible assumption
      | with_reducible exact State.Touch.refl _ _
      | with_reducible refine State.Touch.set ?_ _ _
      | with_reducible refine State.Touch.each ?_ _ _ (fun x u hu => ?_)
      | with_reducible refine State.Touch.ite ?_ ?_
      | split
  exact hT.call k hl

theorem State.Touch.moveRegion {l : List Part} {s0 s : State} (hT : State.Touch l s0 s)  (g : Nat)
    (hl : ∀ p ∈ ([.omem, .chans, .fab, .slv, .port] : List Part), p ∈ l) : State.Touch l s0 (State.moveRegion s g) := by
  have k : State.Touch [.omem, .chans, .fab, .slv, .port] s (State.moveRegion s g) := by
    unfold State.moveRegion
    try dsimp only
    iterate 60 all_goals try first
      | with_reducible assumption
      | with_reducible exact State.Touch.refl _ _
      | with_reducible refine State.Touch.each ?_ _ _ (fun x u hu => ?_)
      | with_reducible refine State.Touch.altIn ?_ _ _ (by decide)
      | with_reducible refine State.Touch.evict ?_ _ (by decide)
      | with_reducible refine State.Touch.slvCold ?_ _ (by decide)
      | with_reducible refine State.Touch.ite ?_ ?_
      | split
  exact hT.call k hl

theorem State.Touch.safeOut {l : List Part} {s0 s : State} (hT : State.Touch l s0 s)  (i : Nat) (b : List Byte)
    (hl : ∀ p ∈ ([.mgt, .chans, .can, .eth, .ana] : List Part), p ∈ l) : State.Touch l s0 (State.safeOut s i b) := by
  have k : State.Touch [.mgt, .chans, .can, .eth, .ana] s (State.safeOut s i b) := by
    unfold State.safeOut
    try dsimp only
    iterate 60 all_goals try first
      | with_reducible assumption
      | with_reducible exact State.Touch.refl _ _
      | with_reducible refine State.Touch.count ?_ _
      | with_reducible refine State.Touch.fillSlot ?_ _ _ _ _ (by decide)
      | with_reducible refine State.Touch.modChan ?_ _ _ _ (by decide)
      | with_reducible refine State.Touch.ite ?_ ?_
      | split
  exact hT.call k hl

theorem State.Touch.giveUpRole {l : List Part} {s0 s : State} (hT : State.Touch l s0 s) 
    (hl : ∀ p ∈ ([.mgt, .chans, .fab, .ctl, .can, .eth, .ana, .grp] : List Part), p ∈ l) : State.Touch l s0 (State.giveUpRole s) := by
  have k : State.Touch [.mgt, .chans, .fab, .ctl, .can, .eth, .ana, .grp] s (State.giveUpRole s) := by
    unfold State.giveUpRole
    try dsimp only
    iterate 60 all_goals try first
      | with_reducible assumption
      | with_reducible exact State.Touch.refl _ _
      | with_reducible refine State.Touch.set ?_ _ _
      | with_reducible refine State.Touch.each ?_ _ _ (fun x u hu => ?_)
      | with_reducible refine State.Touch.aoutSafe ?_ (by decide)
      | with_reducible refine State.Touch.canRole ?_ _ (by decide)
      | with_reducible refine State.Touch.ctlFlush ?_ (by decide)
      | with_reducible refine State.Touch.dropTasks ?_ (by decide)
      | with_reducible refine State.Touch.modGrp ?_ _ (by decide)
      | with_reducible refine State.Touch.roleOutputs ?_ _ (by decide)
      | with_reducible refine State.Touch.sendMarker ?_ _ _ _ _ (by decide)
      | with_reducible refine State.Touch.slhSync ?_ (by decide)
      | with_reducible refine State.Touch.ite ?_ ?_
      | split
  exact hT.call k hl

theorem State.Touch.partLost {l : List Part} {s0 s : State} (hT : State.Touch l s0 s) 
    (hl : ∀ p ∈ ([.mgt, .chans, .fab, .ctl, .alc, .can, .eth, .ana, .srv, .grp, .port] : List Part), p ∈ l) : State.Touch l s0 (State.partLost s) := by
  have k : State.Touch [.mgt, .chans, .fab, .ctl, .alc, .can, .eth, .ana, .srv, .grp, .port] s (State.partLost s) := by
    unfold State.partLost
    try dsimp only
    iterate 60 all_goals try first
      | with_reducible assumption
      | with_reducible exact State.Touch.refl _ _
      | with_reducible refine State.Touch.set ?_ _ _
      | with_reducible refine State.Touch.raise ?_ _ _ _
      | with_reducible refine State.Touch.each ?_ _ _ (fun x u hu => ?_)
      | with_reducible refine State.Touch.dropTasks ?_ (by decide)
      | with_reducible refine State.Touch.giveUpRole ?_ (by decide)
      | with_reducible refine State.Touch.modLoop ?_ _ _ (by decide)
      | with_reducible refine State.Touch.releaseTimed ?_ (by decide)
      | with_reducible refine State.Touch.safeOut ?_ _ _ (by decide)
      | with_reducible refine State.Touch.safeThr ?_ _ _ (by decide)
      | with_reducible refine State.Touch.ite ?_ ?_
      | split
  exact hT.call k hl

theorem State.Touch.dieLoss {l : List Part} {s0 s : State} (hT : State.Touch l s0 s)  (d cause : Nat)
    (hl : ∀ p ∈ ([.omem, .mgt, .chans, .fab, .ctl, .slv, .alc, .can, .eth, .ana, .srv, .grp, .port] : List Part), p ∈ l) : State.Touch l s0 (State.dieLoss s d cause) := by
  have k : State.Touch [.omem, .mgt, .chans, .fab, .ctl, .slv, .alc, .can, .eth, .ana, .srv, .grp, .port] s (State.dieLoss s d cause) := by
    unfold State.dieLoss
    try dsimp only
    iterate 60 all_goals try first
      | with_reducible assumption
      | with_reducible exact State.Touch.refl _ _
      | with_reducible refine State.Touch.set ?_ _ _
      | with_reducible refine State.Touch.raise ?_ _ _ _
      | with_reducible refine State.Touch.each ?_ _ _ (fun x u hu => ?_)
      | with_reducible refine State.Touch.faultRecord ?_ _ _ _ _ (by decide)
      | with_reducible refine State.Touch.isolate ?_ _ (by decide)
      | with_reducible refine State.Touch.moveRegion ?_ _ (by decide)
      | with_reducible refine State.Touch.partLost ?_ (by decide)
      | with_reducible refine State.Touch.ite ?_ ?_
      | split
  exact hT.call k hl

theorem State.Touch.regionFault {l : List Part} {s0 s : State} (hT : State.Touch l s0 s)  (g cause : Nat)
    (hl : ∀ p ∈ ([.omem, .mgt, .chans, .fab, .ctl, .slv, .alc, .can, .eth, .ana, .srv, .grp, .port] : List Part), p ∈ l) : State.Touch l s0 (State.regionFault s g cause) := by
  have k : State.Touch [.omem, .mgt, .chans, .fab, .ctl, .slv, .alc, .can, .eth, .ana, .srv, .grp, .port] s (State.regionFault s g cause) := by
    unfold State.regionFault
    try dsimp only
    iterate 60 all_goals try first
      | with_reducible assumption
      | with_reducible exact State.Touch.refl _ _
      | with_reducible refine State.Touch.raise ?_ _ _ _
      | with_reducible refine State.Touch.dieLoss ?_ _ _ (by decide)
      | with_reducible refine State.Touch.faultRecord ?_ _ _ _ _ (by decide)
      | with_reducible refine State.Touch.isolate ?_ _ (by decide)
      | with_reducible refine State.Touch.moveRegion ?_ _ (by decide)
      | with_reducible refine State.Touch.ite ?_ ?_
      | split
  exact hT.call k hl

theorem State.Touch.clusterFault {l : List Part} {s0 s : State} (hT : State.Touch l s0 s)  (q cause : Nat)
    (hl : ∀ p ∈ ([.omem, .mgt, .chans, .fab, .ctl, .slv, .alc, .can, .eth, .ana, .srv, .grp, .port] : List Part), p ∈ l) : State.Touch l s0 (State.clusterFault s q cause) := by
  have k : State.Touch [.omem, .mgt, .chans, .fab, .ctl, .slv, .alc, .can, .eth, .ana, .srv, .grp, .port] s (State.clusterFault s q cause) := by
    unfold State.clusterFault
    try dsimp only
    iterate 60 all_goals try first
      | with_reducible assumption
      | with_reducible exact State.Touch.refl _ _
      | with_reducible refine State.Touch.set ?_ _ _
      | with_reducible refine State.Touch.raise ?_ _ _ _
      | with_reducible refine State.Touch.evict ?_ _ (by decide)
      | with_reducible refine State.Touch.faultRecord ?_ _ _ _ _ (by decide)
      | with_reducible refine State.Touch.maskBanks ?_ _ _ (by decide)
      | with_reducible refine State.Touch.regionFault ?_ _ _ (by decide)
      | with_reducible refine State.Touch.ite ?_ ?_
      | split
  exact hT.call k hl

theorem State.Touch.bridgeFault {l : List Part} {s0 s : State} (hT : State.Touch l s0 s) 
    (hl : ∀ p ∈ ([.port] : List Part), p ∈ l) : State.Touch l s0 (State.bridgeFault s) := by
  have k : State.Touch [.port] s (State.bridgeFault s) := by
    unfold State.bridgeFault
    try dsimp only
    iterate 60 all_goals try first
      | with_reducible assumption
      | with_reducible exact State.Touch.refl _ _
      | with_reducible refine State.Touch.set ?_ _ _
      | with_reducible refine State.Touch.raise ?_ _ _ _
      | with_reducible refine State.Touch.faultRecord ?_ _ _ _ _ (by decide)
      | with_reducible refine State.Touch.ite ?_ ?_
      | split
  exact hT.call k hl

theorem State.Touch.siteFault {l : List Part} {s0 s : State} (hT : State.Touch l s0 s)  (site : FaultSite) (cause : Nat)
    (hl : ∀ p ∈ ([.omem, .mgt, .chans, .fab, .ctl, .slv, .alc, .can, .eth, .ana, .srv, .grp, .port] : List Part), p ∈ l) : State.Touch l s0 (State.siteFault s site cause) := by
  have k : State.Touch [.omem, .mgt, .chans, .fab, .ctl, .slv, .alc, .can, .eth, .ana, .srv, .grp, .port] s (State.siteFault s site cause) := by
    unfold State.siteFault
    try dsimp only
    iterate 60 all_goals try first
      | with_reducible assumption
      | with_reducible exact State.Touch.refl _ _
      | with_reducible refine State.Touch.bridgeFault ?_ (by decide)
      | with_reducible refine State.Touch.clusterFault ?_ _ _ (by decide)
      | with_reducible refine State.Touch.dieLoss ?_ _ _ (by decide)
      | with_reducible refine State.Touch.regionFault ?_ _ _ (by decide)
      | with_reducible refine State.Touch.retireBank ?_ _ _ _ (by decide)
      | with_reducible refine State.Touch.unitFault ?_ _ _ _ (by decide)
      | with_reducible refine State.Touch.ite ?_ ?_
      | split
  exact hT.call k hl

theorem State.Touch.opNext {l : List Part} {s0 s : State} (hT : State.Touch l s0 s)  (d : TaskDef) (x : TaskInst) (f : OpFlags) (testWrong : Bool)
    (hl : ∀ p ∈ ([.omem, .chans, .fab, .grp, .port] : List Part), p ∈ l) : State.Touch l s0 (State.opNext s d x f testWrong) := by
  have k : State.Touch [.omem, .chans, .fab, .grp, .port] s (State.opNext s d x f testWrong) := by
    unfold State.opNext
    try dsimp only
    iterate 60 all_goals try first
      | with_reducible assumption
      | with_reducible exact State.Touch.refl _ _
      | with_reducible refine State.Touch.modTask ?_ _ _ _ (by decide)
      | with_reducible refine State.Touch.taskComplete ?_ _ _ (by decide)
      | with_reducible refine State.Touch.unitFault ?_ _ _ _ (by decide)
      | with_reducible refine State.Touch.ite ?_ ?_
      | split
  exact hT.call k hl

theorem State.Touch.eccAct {l : List Part} {s0 s : State} (hT : State.Touch l s0 s)  (q : Nat) (e : EccResult)
    (hl : ∀ p ∈ ([.omem, .mgt, .chans, .fab, .ctl, .slv, .alc, .can, .eth, .ana, .srv, .grp, .port] : List Part), p ∈ l) : State.Touch l s0 (State.eccAct s q e) := by
  have k : State.Touch [.omem, .mgt, .chans, .fab, .ctl, .slv, .alc, .can, .eth, .ana, .srv, .grp, .port] s (State.eccAct s q e) := by
    unfold State.eccAct
    try dsimp only
    iterate 60 all_goals try first
      | with_reducible assumption
      | with_reducible exact State.Touch.refl _ _
      | with_reducible refine State.Touch.count ?_ _
      | with_reducible refine State.Touch.clusterFault ?_ _ _ (by decide)
      | with_reducible refine State.Touch.regionFault ?_ _ _ (by decide)
      | with_reducible refine State.Touch.retireBank ?_ _ _ _ (by decide)
      | with_reducible refine State.Touch.ite ?_ ?_
      | split
  exact hT.call k hl

theorem State.Touch.opCommit {l : List Part} {s0 s : State} (hT : State.Touch l s0 s)  (q : Nat) (d : TaskDef) (x : TaskInst) (testWrong : Bool)
    (hl : ∀ p ∈ ([.omem, .chans, .fab, .grp, .port] : List Part), p ∈ l) : State.Touch l s0 (State.opCommit s q d x testWrong) := by
  have k : State.Touch [.omem, .chans, .fab, .grp, .port] s (State.opCommit s q d x testWrong) := by
    unfold State.opCommit
    try dsimp only
    iterate 60 all_goals try first
      | with_reducible assumption
      | with_reducible exact State.Touch.refl _ _
      | with_reducible refine State.Touch.egressAccept ?_ _ _ _ (by decide)
      | with_reducible refine State.Touch.opNext ?_ _ _ _ _ (by decide)
      | with_reducible refine State.Touch.opRun ?_ _ _ _ _ _ (by decide)
      | refine State.Touch.fst (by with_reducible assumption) ?_ (State.Touch.opRun (State.Touch.refl _ _) _ _ _ _ _ (fun _ h => h)) (by decide)
      | with_reducible refine State.Touch.ite ?_ ?_
      | split
  exact hT.call k hl

theorem State.Touch.operationComplete {l : List Part} {s0 s : State} (hT : State.Touch l s0 s)  (q u : Nat) (ecc : List EccResult) (testWrong : Bool)
    (hl : ∀ p ∈ ([.omem, .mgt, .chans, .fab, .ctl, .slv, .alc, .can, .eth, .ana, .srv, .grp, .port] : List Part), p ∈ l) : State.Touch l s0 (State.operationComplete s q u ecc testWrong) := by
  have k : State.Touch [.omem, .mgt, .chans, .fab, .ctl, .slv, .alc, .can, .eth, .ana, .srv, .grp, .port] s (State.operationComplete s q u ecc testWrong) := by
    unfold State.operationComplete
    try dsimp only
    iterate 60 all_goals try first
      | with_reducible assumption
      | with_reducible exact State.Touch.refl _ _
      | with_reducible refine State.Touch.each ?_ _ _ (fun x u hu => ?_)
      | with_reducible refine State.Touch.running ?_ _ (fun u hu => ?_)
      | with_reducible refine State.Touch.eccAct ?_ _ _ (by decide)
      | with_reducible refine State.Touch.opCommit ?_ _ _ _ _ (by decide)
      | with_reducible refine State.Touch.ite ?_ ?_
      | split
  exact hT.call k hl

theorem State.Touch.releaseAll {l : List Part} {s0 s : State} (hT : State.Touch l s0 s)  (x : TaskInst)
    (hl : ∀ p ∈ ([.fab] : List Part), p ∈ l) : State.Touch l s0 (State.releaseAll s x) := by
  have k : State.Touch [.fab] s (State.releaseAll s x) := by
    unfold State.releaseAll
    try dsimp only
    iterate 60 all_goals try first
      | with_reducible assumption
      | with_reducible exact State.Touch.refl _ _
      | with_reducible refine State.Touch.each ?_ _ _ (fun x u hu => ?_)
      | with_reducible refine State.Touch.arbDrop ?_ _ _ (by decide)
      | with_reducible refine State.Touch.ite ?_ ?_
      | split
  exact hT.call k hl

theorem State.Touch.waitAbort {l : List Part} {s0 s : State} (hT : State.Touch l s0 s)  (given : List WaitLink)
    (hl : ∀ p ∈ ([.omem, .chans, .fab, .port] : List Part), p ∈ l) : State.Touch l s0 (State.waitAbort s given) := by
  have k : State.Touch [.omem, .chans, .fab, .port] s (State.waitAbort s given) := by
    unfold State.waitAbort
    try dsimp only
    iterate 60 all_goals try first
      | with_reducible assumption
      | with_reducible exact State.Touch.refl _ _
      | with_reducible refine State.Touch.set ?_ _ _
      | with_reducible refine State.Touch.count ?_ _
      | with_reducible refine State.Touch.raise ?_ _ _ _
      | with_reducible refine State.Touch.abandonInst ?_ _ _ _ (by decide)
      | with_reducible refine State.Touch.discardPartial ?_ _ (by decide)
      | with_reducible refine State.Touch.faultRecord ?_ _ _ _ _ (by decide)
      | with_reducible refine State.Touch.modFab ?_ _ (by decide)
      | with_reducible refine State.Touch.modTask ?_ _ _ _ (by decide)
      | with_reducible refine State.Touch.releaseAll ?_ _ (by decide)
      | with_reducible refine State.Touch.slotReason ?_ _ _ _ (by decide)
      | with_reducible refine State.Touch.ite ?_ ?_
      | split
  exact hT.call k hl

theorem State.Touch.fltCntClr {l : List Part} {s0 s : State} (hT : State.Touch l s0 s) 
    (hl : ∀ p ∈ ([.chans] : List Part), p ∈ l) : State.Touch l s0 (State.fltCntClr s) := by
  have k : State.Touch [.chans] s (State.fltCntClr s) := by
    unfold State.fltCntClr
    try dsimp only
    iterate 60 all_goals try first
      | with_reducible assumption
      | with_reducible exact State.Touch.refl _ _
      | with_reducible refine State.Touch.wr ?_ _ _
      | with_reducible refine State.Touch.set ?_ _ _
      | with_reducible refine State.Touch.each ?_ _ _ (fun x u hu => ?_)
      | with_reducible refine State.Touch.ite ?_ ?_
      | split
      | with_reducible refine State.Touch.upd_chans ?_ _ (by decide)
  exact hT.call k hl

end Sys2Proof.Machine
end

