-- ==== Sys2Proof/Laws/Touch/Clocks.lean ====
section
/-!
SUPPORT. Sys2Proof/Laws/Touch/Clocks.lean: which parts of the state each operation of Machine/Clocks.lean may change.
-/
set_option linter.all false
set_option maxRecDepth 4000
namespace Sys2Proof.Machine

theorem State.Touch.resetLength {l : List Part} {s0 s : State} (hT : State.Touch l s0 s)  (lowMs : Nat)
    (hl : ∀ p ∈ ([] : List Part), p ∈ l) : State.Touch l s0 (State.resetLength s lowMs) := by
  have k : State.Touch [] s (State.resetLength s lowMs) := by
    unfold State.resetLength
    try dsimp only
    iterate 60 all_goals try first
      | with_reducible assumption
      | with_reducible exact State.Touch.refl _ _
      | with_reducible refine State.Touch.wr ?_ _ _
      | with_reducible refine State.Touch.set ?_ _ _
      | with_reducible refine State.Touch.ite ?_ ?_
      | split
  exact hT.call k hl

theorem State.Touch.readStraps {l : List Part} {s0 s : State} (hT : State.Touch l s0 s)  (gid : Nat)
    (hl : ∀ p ∈ ([.rst] : List Part), p ∈ l) : State.Touch l s0 (State.readStraps s gid) := by
  have k : State.Touch [.rst] s (State.readStraps s gid) := by
    unfold State.readStraps
    try dsimp only
    iterate 60 all_goals try first
      | with_reducible assumption
      | with_reducible exact State.Touch.refl _ _
      | with_reducible refine State.Touch.set ?_ _ _
      | with_reducible refine State.Touch.setBit ?_ _ _
      | with_reducible refine State.Touch.ite ?_ ?_
      | split
      | with_reducible refine State.Touch.upd_rst ?_ _ (by decide)
  exact hT.call k hl

theorem State.Touch.logReset {l : List Part} {s0 s : State} (hT : State.Touch l s0 s)  (long : Bool)
    (hl : ∀ p ∈ ([.aon, .port] : List Part), p ∈ l) : State.Touch l s0 (State.logReset s long) := by
  have k : State.Touch [.aon, .port] s (State.logReset s long) := by
    unfold State.logReset
    try dsimp only
    iterate 60 all_goals try first
      | with_reducible assumption
      | with_reducible exact State.Touch.refl _ _
      | with_reducible refine State.Touch.raise ?_ _ _ _
      | with_reducible refine State.Touch.seedRecorder ?_ (by decide)
      | refine State.Touch.fst (by with_reducible assumption) ?_ (State.Touch.seedRecorder (State.Touch.refl _ _) (fun _ h => h)) (by decide)
      | with_reducible refine State.Touch.ite ?_ ?_
      | split
      | with_reducible refine State.Touch.upd_aon ?_ _ (by decide)
  exact hT.call k hl

theorem State.Touch.startSources {l : List Part} {s0 s : State} (hT : State.Touch l s0 s) 
    (hl : ∀ p ∈ ([.clk] : List Part), p ∈ l) : State.Touch l s0 (State.startSources s) := by
  have k : State.Touch [.clk] s (State.startSources s) := by
    unfold State.startSources
    try dsimp only
    iterate 60 all_goals try first
      | with_reducible assumption
      | with_reducible exact State.Touch.refl _ _
      | with_reducible refine State.Touch.setBit ?_ _ _
      | with_reducible refine State.Touch.startStep ?_ _ (by decide)
      | with_reducible refine State.Touch.ite ?_ ?_
      | split
      | with_reducible refine State.Touch.upd_clk ?_ _ (by decide)
  exact hT.call k hl

theorem State.Touch.resetRelease {l : List Part} {s0 s : State} (hT : State.Touch l s0 s)  (gid lowMs : Nat)
    (hl : ∀ p ∈ ([.aon, .rst, .clk, .port] : List Part), p ∈ l) : State.Touch l s0 (State.resetRelease s gid lowMs) := by
  have k : State.Touch [.aon, .rst, .clk, .port] s (State.resetRelease s gid lowMs) := by
    unfold State.resetRelease
    try dsimp only
    iterate 60 all_goals try first
      | with_reducible assumption
      | with_reducible exact State.Touch.refl _ _
      | with_reducible refine State.Touch.logReset ?_ _ (by decide)
      | with_reducible refine State.Touch.readStraps ?_ _ (by decide)
      | with_reducible refine State.Touch.resetLength ?_ _ (by decide)
      | with_reducible refine State.Touch.startSources ?_ (by decide)
      | with_reducible refine State.Touch.ite ?_ ?_
      | split
  exact hT.call k hl

theorem State.Touch.pwrcycEnd {l : List Part} {s0 s : State} (hT : State.Touch l s0 s) 
    (hl : ∀ p ∈ ([.aon] : List Part), p ∈ l) : State.Touch l s0 (State.pwrcycEnd s) := by
  have k : State.Touch [.aon] s (State.pwrcycEnd s) := by
    unfold State.pwrcycEnd
    try dsimp only
    iterate 60 all_goals try first
      | with_reducible assumption
      | with_reducible exact State.Touch.refl _ _
      | with_reducible refine State.Touch.set ?_ _ _
      | with_reducible refine State.Touch.ite ?_ ?_
      | split
      | with_reducible refine State.Touch.upd_aon ?_ _ (by decide)
  exact hT.call k hl

theorem State.Touch.pwrcycNotDone {l : List Part} {s0 s : State} (hT : State.Touch l s0 s) 
    (hl : ∀ p ∈ ([.aon, .port] : List Part), p ∈ l) : State.Touch l s0 (State.pwrcycNotDone s) := by
  have k : State.Touch [.aon, .port] s (State.pwrcycNotDone s) := by
    unfold State.pwrcycNotDone
    try dsimp only
    iterate 60 all_goals try first
      | with_reducible assumption
      | with_reducible exact State.Touch.refl _ _
      | with_reducible refine State.Touch.raise ?_ _ _ _
      | with_reducible refine State.Touch.running ?_ _ (fun u hu => ?_)
      | with_reducible refine State.Touch.ite ?_ ?_
      | split
      | with_reducible refine State.Touch.upd_aon ?_ _ (by decide)
  exact hT.call k hl

theorem State.Touch.becomeReady {l : List Part} {s0 s : State} (hT : State.Touch l s0 s)  (x : ExtSource)
    (hl : ∀ p ∈ ([] : List Part), p ∈ l) : State.Touch l s0 (State.becomeReady s x) := by
  have k : State.Touch [] s (State.becomeReady s x) := by
    unfold State.becomeReady
    try dsimp only
    iterate 60 all_goals try first
      | with_reducible assumption
      | with_reducible exact State.Touch.refl _ _
      | with_reducible refine State.Touch.set ?_ _ _
      | with_reducible refine State.Touch.startStep ?_ _ (by decide)
      | with_reducible refine State.Touch.ite ?_ ?_
      | split
  exact hT.call k hl

theorem State.Touch.sourceReady {l : List Part} {s0 s : State} (hT : State.Touch l s0 s)  (x : ExtSource)
    (hl : ∀ p ∈ ([] : List Part), p ∈ l) : State.Touch l s0 (State.sourceReady s x) := by
  have k : State.Touch [] s (State.sourceReady s x) := by
    unfold State.sourceReady
    try dsimp only
    iterate 60 all_goals try first
      | with_reducible assumption
      | with_reducible exact State.Touch.refl _ _
      | with_reducible refine State.Touch.becomeReady ?_ _ (by decide)
      | with_reducible refine State.Touch.ite ?_ ?_
      | split
  exact hT.call k hl

theorem State.Touch.sourceRecovered {l : List Part} {s0 s : State} (hT : State.Touch l s0 s)  (x : ExtSource)
    (hl : ∀ p ∈ ([.clk] : List Part), p ∈ l) : State.Touch l s0 (State.sourceRecovered s x) := by
  have k : State.Touch [.clk] s (State.sourceRecovered s x) := by
    unfold State.sourceRecovered
    try dsimp only
    iterate 60 all_goals try first
      | with_reducible assumption
      | with_reducible exact State.Touch.refl _ _
      | with_reducible refine State.Touch.becomeReady ?_ _ (by decide)
      | with_reducible refine State.Touch.ite ?_ ?_
      | split
      | with_reducible refine State.Touch.upd_clk ?_ _ (by decide)
  exact hT.call k hl

theorem State.Touch.noOsc {l : List Part} {s0 s : State} (hT : State.Touch l s0 s) 
    (hl : ∀ p ∈ ([.port] : List Part), p ∈ l) : State.Touch l s0 (State.noOsc s) := by
  have k : State.Touch [.port] s (State.noOsc s) := by
    unfold State.noOsc
    try dsimp only
    iterate 60 all_goals try first
      | with_reducible assumption
      | with_reducible exact State.Touch.refl _ _
      | with_reducible refine State.Touch.set ?_ _ _
      | with_reducible refine State.Touch.raise ?_ _ _ _
      | with_reducible refine State.Touch.ite ?_ ?_
      | split
  exact hT.call k hl

theorem State.Touch.domains {l : List Part} {s0 s : State} (hT : State.Touch l s0 s)  (src : Nat)
    (hl : ∀ p ∈ ([] : List Part), p ∈ l) : State.Touch l s0 (State.domains s src) := by
  have k : State.Touch [] s (State.domains s src) := by
    unfold State.domains
    try dsimp only
    iterate 60 all_goals try first
      | with_reducible assumption
      | with_reducible exact State.Touch.refl _ _
      | with_reducible refine State.Touch.wr ?_ _ _
      | with_reducible refine State.Touch.ite ?_ ?_
      | split
  exact hT.call k hl

theorem State.Touch.pllLock {l : List Part} {s0 s : State} (hT : State.Touch l s0 s) 
    (hl : ∀ p ∈ ([] : List Part), p ∈ l) : State.Touch l s0 (State.pllLock s) := by
  have k : State.Touch [] s (State.pllLock s) := by
    unfold State.pllLock
    try dsimp only
    iterate 60 all_goals try first
      | with_reducible assumption
      | with_reducible exact State.Touch.refl _ _
      | with_reducible refine State.Touch.set ?_ _ _
      | with_reducible refine State.Touch.domains ?_ _ (by decide)
      | with_reducible refine State.Touch.startStep ?_ _ (by decide)
      | with_reducible refine State.Touch.ite ?_ ?_
      | split
  exact hT.call k hl

theorem State.Touch.limpEntry {l : List Part} {s0 s : State} (hT : State.Touch l s0 s)  (cause : Nat)
    (hl : ∀ p ∈ ([.tb, .can, .port] : List Part), p ∈ l) : State.Touch l s0 (State.limpEntry s cause) := by
  have k : State.Touch [.tb, .can, .port] s (State.limpEntry s cause) := by
    unfold State.limpEntry
    try dsimp only
    iterate 60 all_goals try first
      | with_reducible assumption
      | with_reducible exact State.Touch.refl _ _
      | with_reducible refine State.Touch.set ?_ _ _
      | with_reducible refine State.Touch.count ?_ _
      | with_reducible refine State.Touch.raise ?_ _ _ _
      | with_reducible refine State.Touch.each ?_ _ _ (fun x u hu => ?_)
      | with_reducible refine State.Touch.canLimp ?_ (by decide)
      | with_reducible refine State.Touch.domains ?_ _ (by decide)
      | with_reducible refine State.Touch.ethStop ?_ (by decide)
      | with_reducible refine State.Touch.tbHoldover ?_ (by decide)
      | with_reducible refine State.Touch.ite ?_ ?_
      | split
  exact hT.call k hl

theorem State.Touch.sourceTrip {l : List Part} {s0 s : State} (hT : State.Touch l s0 s)  (x : ExtSource)
    (hl : ∀ p ∈ ([.clk, .tb, .mgt, .chans, .alc, .can, .eth, .ana, .srv, .saf, .port] : List Part), p ∈ l) : State.Touch l s0 (State.sourceTrip s x) := by
  have k : State.Touch [.clk, .tb, .mgt, .chans, .alc, .can, .eth, .ana, .srv, .saf, .port] s (State.sourceTrip s x) := by
    unfold State.sourceTrip
    try dsimp only
    iterate 60 all_goals try first
      | with_reducible assumption
      | with_reducible exact State.Touch.refl _ _
      | with_reducible refine State.Touch.set ?_ _ _
      | with_reducible refine State.Touch.count ?_ _
      | with_reducible refine State.Touch.raise ?_ _ _ _
      | with_reducible refine State.Touch.limpEntry ?_ _ (by decide)
      | with_reducible refine State.Touch.safClockFault ?_ (by decide)
      | with_reducible refine State.Touch.ite ?_ ?_
      | split
      | with_reducible refine State.Touch.upd_clk ?_ _ (by decide)
  exact hT.call k hl

theorem State.Touch.pllLockLost {l : List Part} {s0 s : State} (hT : State.Touch l s0 s) 
    (hl : ∀ p ∈ ([.tb, .can, .port] : List Part), p ∈ l) : State.Touch l s0 (State.pllLockLost s) := by
  have k : State.Touch [.tb, .can, .port] s (State.pllLockLost s) := by
    unfold State.pllLockLost
    try dsimp only
    iterate 60 all_goals try first
      | with_reducible assumption
      | with_reducible exact State.Touch.refl _ _
      | with_reducible refine State.Touch.set ?_ _ _
      | with_reducible refine State.Touch.limpEntry ?_ _ (by decide)
      | with_reducible refine State.Touch.ite ?_ ?_
      | split
  exact hT.call k hl

theorem State.Touch.clkReturn {l : List Part} {s0 s : State} (hT : State.Touch l s0 s) 
    (hl : ∀ p ∈ ([.port] : List Part), p ∈ l) : State.Touch l s0 (State.clkReturn s) := by
  have k : State.Touch [.port] s (State.clkReturn s) := by
    unfold State.clkReturn
    try dsimp only
    iterate 60 all_goals try first
      | with_reducible assumption
      | with_reducible exact State.Touch.refl _ _
      | with_reducible refine State.Touch.set ?_ _ _
      | with_reducible refine State.Touch.raise ?_ _ _ _
      | with_reducible refine State.Touch.domains ?_ _ (by decide)
      | with_reducible refine State.Touch.ite ?_ ?_
      | split
  exact hT.call k hl

theorem State.Touch.clkRefuse {l : List Part} {s0 s : State} (hT : State.Touch l s0 s)  (code addr : Nat)
    (hl : ∀ p ∈ ([] : List Part), p ∈ l) : State.Touch l s0 (State.clkRefuse s code addr) := by
  have k : State.Touch [] s (State.clkRefuse s code addr) := by
    unfold State.clkRefuse
    try dsimp only
    iterate 60 all_goals try first
      | with_reducible assumption
      | with_reducible exact State.Touch.refl _ _
      | with_reducible refine State.Touch.set ?_ _ _
      | with_reducible refine State.Touch.refuse ?_ _ _ _ (by decide)
      | with_reducible refine State.Touch.ite ?_ ?_
      | split
  exact hT.call k hl

theorem State.Touch.refsel {l : List Part} {s0 s : State} (hT : State.Touch l s0 s)  (crystal : Bool)
    (hl : ∀ p ∈ ([] : List Part), p ∈ l) : State.Touch l s0 (State.refsel s crystal) := by
  have k : State.Touch [] s (State.refsel s crystal) := by
    unfold State.refsel
    try dsimp only
    iterate 60 all_goals try first
      | with_reducible assumption
      | with_reducible exact State.Touch.refl _ _
      | with_reducible refine State.Touch.set ?_ _ _
      | with_reducible refine State.Touch.count ?_ _
      | with_reducible refine State.Touch.clkRefuse ?_ _ _ (by decide)
      | with_reducible refine State.Touch.ite ?_ ?_
      | split
  exact hT.call k hl

theorem State.Touch.clkCntClr {l : List Part} {s0 s : State} (hT : State.Touch l s0 s) 
    (hl : ∀ p ∈ ([] : List Part), p ∈ l) : State.Touch l s0 (State.clkCntClr s) := by
  have k : State.Touch [] s (State.clkCntClr s) := by
    unfold State.clkCntClr
    try dsimp only
    iterate 60 all_goals try first
      | with_reducible assumption
      | with_reducible exact State.Touch.refl _ _
      | with_reducible refine State.Touch.wr ?_ _ _
      | with_reducible refine State.Touch.set ?_ _ _
      | with_reducible refine State.Touch.ite ?_ ?_
      | split
  exact hT.call k hl

theorem State.Touch.setDeferred {l : List Part} {s0 s : State} (hT : State.Touch l s0 s)  (reg : Nat) (w : Word)
    (hl : ∀ p ∈ ([.clk] : List Part), p ∈ l) : State.Touch l s0 (State.setDeferred s reg w) := by
  have k : State.Touch [.clk] s (State.setDeferred s reg w) := by
    unfold State.setDeferred
    try dsimp only
    iterate 60 all_goals try first
      | with_reducible assumption
      | with_reducible exact State.Touch.refl _ _
      | with_reducible refine State.Touch.ite ?_ ?_
      | split
      | with_reducible refine State.Touch.upd_clk ?_ _ (by decide)
  exact hT.call k hl

theorem State.Touch.gateWrite {l : List Part} {s0 s : State} (hT : State.Touch l s0 s)  (reg : Nat) (v inFlight : Word)
    (hl : ∀ p ∈ ([.clk] : List Part), p ∈ l) : State.Touch l s0 (State.gateWrite s reg v inFlight) := by
  have k : State.Touch [.clk] s (State.gateWrite s reg v inFlight) := by
    unfold State.gateWrite
    try dsimp only
    iterate 60 all_goals try first
      | with_reducible assumption
      | with_reducible exact State.Touch.refl _ _
      | with_reducible refine State.Touch.wr ?_ _ _
      | with_reducible refine State.Touch.clkRefuse ?_ _ _ (by decide)
      | with_reducible refine State.Touch.setDeferred ?_ _ _ (by decide)
      | with_reducible refine State.Touch.ite ?_ ?_
      | split
  exact hT.call k hl

theorem State.Touch.gateClose {l : List Part} {s0 s : State} (hT : State.Touch l s0 s)  (reg bit : Nat)
    (hl : ∀ p ∈ ([.clk] : List Part), p ∈ l) : State.Touch l s0 (State.gateClose s reg bit) := by
  have k : State.Touch [.clk] s (State.gateClose s reg bit) := by
    unfold State.gateClose
    try dsimp only
    iterate 60 all_goals try first
      | with_reducible assumption
      | with_reducible exact State.Touch.refl _ _
      | with_reducible refine State.Touch.setDeferred ?_ _ _ (by decide)
      | with_reducible refine State.Touch.ite ?_ ?_
      | split
  exact hT.call k hl

theorem State.Touch.gateForced {l : List Part} {s0 s : State} (hT : State.Touch l s0 s)  (reg bit : Nat) (addr : Word)
    (hl : ∀ p ∈ ([.clk, .port] : List Part), p ∈ l) : State.Touch l s0 (State.gateForced s reg bit addr) := by
  have k : State.Touch [.clk, .port] s (State.gateForced s reg bit addr) := by
    unfold State.gateForced
    try dsimp only
    iterate 60 all_goals try first
      | with_reducible assumption
      | with_reducible exact State.Touch.refl _ _
      | with_reducible refine State.Touch.raise ?_ _ _ _
      | with_reducible refine State.Touch.busError ?_ _ _ (by decide)
      | with_reducible refine State.Touch.gateClose ?_ _ _ (by decide)
      | with_reducible refine State.Touch.ite ?_ ?_
      | split
  exact hT.call k hl

end Sys2Proof.Machine
end

