-- ==== Sys2Proof/Laws/Touch/Image.lean ====
section
/-!
SUPPORT. Sys2Proof/Laws/Touch/Image.lean: which parts of the state each operation of Machine/Image.lean may change.
-/
set_option linter.all false
set_option maxRecDepth 4000
namespace Sys2Proof.Machine

theorem State.Touch.bankRelation {l : List Part} {s0 s : State} (hT : State.Touch l s0 s)  (k : Nat)
    (hl : ∀ p ∈ ([] : List Part), p ∈ l) : State.Touch l s0 (State.bankRelation s k) := by
  have k : State.Touch [] s (State.bankRelation s k) := by
    unfold State.bankRelation
    try dsimp only
    iterate 60 all_goals try first
      | with_reducible assumption
      | with_reducible exact State.Touch.refl _ _
      | with_reducible refine State.Touch.setBit ?_ _ _
      | with_reducible refine State.Touch.ite ?_ ?_
      | split
  exact hT.call k hl

theorem State.Touch.bankChecked {l : List Part} {s0 s : State} (hT : State.Touch l s0 s)  (k : Nat)
    (hl : ∀ p ∈ ([] : List Part), p ∈ l) : State.Touch l s0 (State.bankChecked s k) := by
  have k : State.Touch [] s (State.bankChecked s k) := by
    unfold State.bankChecked
    try dsimp only
    iterate 60 all_goals try first
      | with_reducible assumption
      | with_reducible exact State.Touch.refl _ _
      | with_reducible refine State.Touch.wr ?_ _ _
      | with_reducible refine State.Touch.set ?_ _ _
      | with_reducible refine State.Touch.setBit ?_ _ _
      | with_reducible refine State.Touch.ite ?_ ?_
      | split
  exact hT.call k hl

theorem State.Touch.bankUnchecked {l : List Part} {s0 s : State} (hT : State.Touch l s0 s)  (k : Nat)
    (hl : ∀ p ∈ ([.img] : List Part), p ∈ l) : State.Touch l s0 (State.bankUnchecked s k) := by
  have k : State.Touch [.img] s (State.bankUnchecked s k) := by
    unfold State.bankUnchecked
    try dsimp only
    iterate 60 all_goals try first
      | with_reducible assumption
      | with_reducible exact State.Touch.refl _ _
      | with_reducible refine State.Touch.set ?_ _ _
      | with_reducible refine State.Touch.ite ?_ ?_
      | split
      | with_reducible refine State.Touch.upd_img ?_ _ (by decide)
  exact hT.call k hl

theorem State.Touch.imgEvent {l : List Part} {s0 s : State} (hT : State.Touch l s0 s)  (code : Nat)
    (hl : ∀ p ∈ ([.port] : List Part), p ∈ l) : State.Touch l s0 (State.imgEvent s code) := by
  have k : State.Touch [.port] s (State.imgEvent s code) := by
    unfold State.imgEvent
    try dsimp only
    iterate 60 all_goals try first
      | with_reducible assumption
      | with_reducible exact State.Touch.refl _ _
      | with_reducible refine State.Touch.raise ?_ _ _ _
      | with_reducible refine State.Touch.ite ?_ ?_
      | split
  exact hT.call k hl

theorem State.Touch.runBank {l : List Part} {s0 s : State} (hT : State.Touch l s0 s)  (k : Nat)
    (hl : ∀ p ∈ ([] : List Part), p ∈ l) : State.Touch l s0 (State.runBank s k) := by
  have k : State.Touch [] s (State.runBank s k) := by
    unfold State.runBank
    try dsimp only
    iterate 60 all_goals try first
      | with_reducible assumption
      | with_reducible exact State.Touch.refl _ _
      | with_reducible refine State.Touch.wr ?_ _ _
      | with_reducible refine State.Touch.set ?_ _ _
      | with_reducible refine State.Touch.setBit ?_ _ _
      | with_reducible refine State.Touch.each ?_ _ _ (fun x u hu => ?_)
      | with_reducible refine State.Touch.bankRelation ?_ _ (by decide)
      | with_reducible refine State.Touch.ite ?_ ?_
      | split
  exact hT.call k hl

theorem State.Touch.chooseBank {l : List Part} {s0 s : State} (hT : State.Touch l s0 s) 
    (hl : ∀ p ∈ ([.port] : List Part), p ∈ l) : State.Touch l s0 (State.chooseBank s) := by
  have k : State.Touch [.port] s (State.chooseBank s) := by
    unfold State.chooseBank
    try dsimp only
    iterate 60 all_goals try first
      | with_reducible assumption
      | with_reducible exact State.Touch.refl _ _
      | with_reducible refine State.Touch.set ?_ _ _
      | with_reducible refine State.Touch.setBit ?_ _ _
      | with_reducible refine State.Touch.bankRelation ?_ _ (by decide)
      | with_reducible refine State.Touch.imgEvent ?_ _ (by decide)
      | with_reducible refine State.Touch.runBank ?_ _ (by decide)
      | with_reducible refine State.Touch.ite ?_ ?_
      | split
  exact hT.call k hl

theorem State.Touch.imageCheckDone {l : List Part} {s0 s : State} (hT : State.Touch l s0 s) 
    (hl : ∀ p ∈ ([.port] : List Part), p ∈ l) : State.Touch l s0 (State.imageCheckDone s) := by
  have k : State.Touch [.port] s (State.imageCheckDone s) := by
    unfold State.imageCheckDone
    try dsimp only
    iterate 60 all_goals try first
      | with_reducible assumption
      | with_reducible exact State.Touch.refl _ _
      | with_reducible refine State.Touch.bankChecked ?_ _ (by decide)
      | with_reducible refine State.Touch.chooseBank ?_ (by decide)
      | with_reducible refine State.Touch.startStep ?_ _ (by decide)
      | with_reducible refine State.Touch.ite ?_ ?_
      | split
  exact hT.call k hl

theorem State.Touch.imgVerify {l : List Part} {s0 s : State} (hT : State.Touch l s0 s)  (k : Nat)
    (hl : ∀ p ∈ ([.img] : List Part), p ∈ l) : State.Touch l s0 (State.imgVerify s k) := by
  have k : State.Touch [.img] s (State.imgVerify s k) := by
    unfold State.imgVerify
    try dsimp only
    iterate 60 all_goals try first
      | with_reducible assumption
      | with_reducible exact State.Touch.refl _ _
      | with_reducible refine State.Touch.ite ?_ ?_
      | split
      | with_reducible refine State.Touch.upd_img ?_ _ (by decide)
  exact hT.call k hl

theorem State.Touch.bankVerifyDone {l : List Part} {s0 s : State} (hT : State.Touch l s0 s)  (k : Nat)
    (hl : ∀ p ∈ ([.img] : List Part), p ∈ l) : State.Touch l s0 (State.bankVerifyDone s k) := by
  have k : State.Touch [.img] s (State.bankVerifyDone s k) := by
    unfold State.bankVerifyDone
    try dsimp only
    iterate 60 all_goals try first
      | with_reducible assumption
      | with_reducible exact State.Touch.refl _ _
      | with_reducible refine State.Touch.set ?_ _ _
      | with_reducible refine State.Touch.bankChecked ?_ _ (by decide)
      | with_reducible refine State.Touch.bankRelation ?_ _ (by decide)
      | with_reducible refine State.Touch.slhSync ?_ (by decide)
      | with_reducible refine State.Touch.ite ?_ ?_
      | split
      | with_reducible refine State.Touch.upd_img ?_ _ (by decide)
  exact hT.call k hl

theorem State.Touch.conflictRepeat {l : List Part} {s0 s : State} (hT : State.Touch l s0 s) 
    (hl : ∀ p ∈ ([.port] : List Part), p ∈ l) : State.Touch l s0 (State.conflictRepeat s) := by
  have k : State.Touch [.port] s (State.conflictRepeat s) := by
    unfold State.conflictRepeat
    try dsimp only
    iterate 60 all_goals try first
      | with_reducible assumption
      | with_reducible exact State.Touch.refl _ _
      | with_reducible refine State.Touch.imgEvent ?_ _ (by decide)
      | with_reducible refine State.Touch.ite ?_ ?_
      | split
  exact hT.call k hl

theorem State.Touch.openGates {l : List Part} {s0 s : State} (hT : State.Touch l s0 s)  (c : ImageCfg)
    (hl : ∀ p ∈ ([] : List Part), p ∈ l) : State.Touch l s0 (State.openGates s c) := by
  have k : State.Touch [] s (State.openGates s c) := by
    unfold State.openGates
    try dsimp only
    iterate 60 all_goals try first
      | with_reducible assumption
      | with_reducible exact State.Touch.refl _ _
      | with_reducible refine State.Touch.wr ?_ _ _
      | with_reducible refine State.Touch.foldl ?_ _ _ (fun x u hu => ?_)
      | with_reducible refine State.Touch.ite ?_ ?_
      | split
  exact hT.call k hl

theorem State.Touch.loadClock {l : List Part} {s0 s : State} (hT : State.Touch l s0 s)  (c : ClockCfg)
    (hl : ∀ p ∈ ([.clk] : List Part), p ∈ l) : State.Touch l s0 (State.loadClock s c) := by
  have k : State.Touch [.clk] s (State.loadClock s c) := by
    unfold State.loadClock
    try dsimp only
    iterate 60 all_goals try first
      | with_reducible assumption
      | with_reducible exact State.Touch.refl _ _
      | with_reducible refine State.Touch.set ?_ _ _
      | with_reducible refine State.Touch.setBit ?_ _ _
      | with_reducible refine State.Touch.ite ?_ ?_
      | split
      | with_reducible refine State.Touch.upd_clk ?_ _ (by decide)
  exact hT.call k hl

theorem State.Touch.loadSpares {l : List Part} {s0 s : State} (hT : State.Touch l s0 s)  (q n : Nat)
    (hl : ∀ p ∈ ([.fab] : List Part), p ∈ l) : State.Touch l s0 (State.loadSpares s q n) := by
  have k : State.Touch [.fab] s (State.loadSpares s q n) := by
    unfold State.loadSpares
    try dsimp only
    iterate 60 all_goals try first
      | with_reducible assumption
      | with_reducible exact State.Touch.refl _ _
      | with_reducible refine State.Touch.set ?_ _ _
      | with_reducible refine State.Touch.each ?_ _ _ (fun x u hu => ?_)
      | with_reducible refine State.Touch.maskBanks ?_ _ _ (by decide)
      | with_reducible refine State.Touch.setUnit ?_ _ _ _ (by decide)
      | with_reducible refine State.Touch.ite ?_ ?_
      | split
  exact hT.call k hl

theorem State.Touch.loadMemory {l : List Part} {s0 s : State} (hT : State.Touch l s0 s)  (k : Nat) (gs : List Nat) (c : RegionCfg)
    (hl : ∀ p ∈ ([.omem] : List Part), p ∈ l) : State.Touch l s0 (State.loadMemory s k gs c) := by
  have k : State.Touch [.omem] s (State.loadMemory s k gs c) := by
    unfold State.loadMemory
    try dsimp only
    iterate 60 all_goals try first
      | with_reducible assumption
      | with_reducible exact State.Touch.refl _ _
      | with_reducible refine State.Touch.each ?_ _ _ (fun x u hu => ?_)
      | with_reducible refine State.Touch.memPut ?_ _ _ (by decide)
      | with_reducible refine State.Touch.memWr ?_ _ _ (by decide)
      | with_reducible refine State.Touch.ite ?_ ?_
      | split
  exact hT.call k hl

theorem State.Touch.loadReg {l : List Part} {s0 s : State} (hT : State.Touch l s0 s)  (a : Nat) (v : Word)
    (hl : ∀ p ∈ ([] : List Part), p ∈ l) : State.Touch l s0 (State.loadReg s a v) := by
  have k : State.Touch [] s (State.loadReg s a v) := by
    unfold State.loadReg
    try dsimp only
    iterate 60 all_goals try first
      | with_reducible assumption
      | with_reducible exact State.Touch.refl _ _
      | with_reducible refine State.Touch.wr ?_ _ _
      | with_reducible refine State.Touch.ite ?_ ?_
      | split
  exact hT.call k hl

theorem State.Touch.loadRegion {l : List Part} {s0 s : State} (hT : State.Touch l s0 s)  (g : Nat) (c : RegionCfg)
    (hl : ∀ p ∈ ([.fab] : List Part), p ∈ l) : State.Touch l s0 (State.loadRegion s g c) := by
  have k : State.Touch [.fab] s (State.loadRegion s g c) := by
    unfold State.loadRegion
    try dsimp only
    iterate 60 all_goals try first
      | with_reducible assumption
      | with_reducible exact State.Touch.refl _ _
      | with_reducible refine State.Touch.each ?_ _ _ (fun x u hu => ?_)
      | with_reducible refine State.Touch.loadReg ?_ _ _ (by decide)
      | with_reducible refine State.Touch.loadSpares ?_ _ _ (by decide)
      | with_reducible refine State.Touch.modArb ?_ _ _ (by decide)
      | with_reducible refine State.Touch.ite ?_ ?_
      | split
  exact hT.call k hl

theorem State.Touch.loadRegions {l : List Part} {s0 s : State} (hT : State.Touch l s0 s)  (c : RegionCfg)
    (hl : ∀ p ∈ ([.omem, .chans, .fab, .port] : List Part), p ∈ l) : State.Touch l s0 (State.loadRegions s c) := by
  have k : State.Touch [.omem, .chans, .fab, .port] s (State.loadRegions s c) := by
    unfold State.loadRegions
    try dsimp only
    iterate 60 all_goals try first
      | with_reducible assumption
      | with_reducible exact State.Touch.refl _ _
      | with_reducible refine State.Touch.each ?_ _ _ (fun x u hu => ?_)
      | with_reducible refine State.Touch.loadRegion ?_ _ _ (by decide)
      | with_reducible refine State.Touch.relocate ?_ _ (by decide)
      | with_reducible refine State.Touch.setPlace ?_ _ _ (by decide)
      | with_reducible refine State.Touch.ite ?_ ?_
      | split
  exact hT.call k hl

theorem State.Touch.loadChannels {l : List Part} {s0 s : State} (hT : State.Touch l s0 s)  (c : ChannelsCfg)
    (hl : ∀ p ∈ ([.chans, .fus] : List Part), p ∈ l) : State.Touch l s0 (State.loadChannels s c) := by
  have k : State.Touch [.chans, .fus] s (State.loadChannels s c) := by
    unfold State.loadChannels
    try dsimp only
    iterate 60 all_goals try first
      | with_reducible assumption
      | with_reducible exact State.Touch.refl _ _
      | with_reducible refine State.Touch.each ?_ _ _ (fun x u hu => ?_)
      | with_reducible refine State.Touch.srcCreate ?_ _ _ (by decide)
      | with_reducible refine State.Touch.ite ?_ ?_
      | split
      | with_reducible refine State.Touch.upd_chans ?_ _ (by decide)
  exact hT.call k hl

theorem State.Touch.loadAnalogue {l : List Part} {s0 s : State} (hT : State.Touch l s0 s)  (c : ImageCfg)
    (hl : ∀ p ∈ ([.ana] : List Part), p ∈ l) : State.Touch l s0 (State.loadAnalogue s c) := by
  have k : State.Touch [.ana] s (State.loadAnalogue s c) := by
    unfold State.loadAnalogue
    try dsimp only
    iterate 60 all_goals try first
      | with_reducible assumption
      | with_reducible exact State.Touch.refl _ _
      | with_reducible refine State.Touch.each ?_ _ _ (fun x u hu => ?_)
      | with_reducible refine State.Touch.aoutSafe ?_ (by decide)
      | with_reducible refine State.Touch.chainStart ?_ _ (by decide)
      | with_reducible refine State.Touch.defaultTaps ?_ _ (by decide)
      | with_reducible refine State.Touch.pinStart ?_ _ (by decide)
      | with_reducible refine State.Touch.ite ?_ ?_
      | split
  exact hT.call k hl

theorem State.Touch.loadCan {l : List Part} {s0 s : State} (hT : State.Touch l s0 s)  (c : ImageCfg)
    (hl : ∀ p ∈ ([.can] : List Part), p ∈ l) : State.Touch l s0 (State.loadCan s c) := by
  have k : State.Touch [.can] s (State.loadCan s c) := by
    unfold State.loadCan
    try dsimp only
    iterate 60 all_goals try first
      | with_reducible assumption
      | with_reducible exact State.Touch.refl _ _
      | with_reducible refine State.Touch.each ?_ _ _ (fun x u hu => ?_)
      | with_reducible refine State.Touch.canApplyMode ?_ _ _ (by decide)
      | with_reducible refine State.Touch.ite ?_ ?_
      | split
  exact hT.call k hl

theorem State.Touch.loadTime {l : List Part} {s0 s : State} (hT : State.Touch l s0 s)  (c : TimeCfg)
    (hl : ∀ p ∈ ([.freeCtr] : List Part), p ∈ l) : State.Touch l s0 (State.loadTime s c) := by
  have k : State.Touch [.freeCtr] s (State.loadTime s c) := by
    unfold State.loadTime
    try dsimp only
    iterate 60 all_goals try first
      | with_reducible assumption
      | with_reducible exact State.Touch.refl _ _
      | with_reducible refine State.Touch.wr ?_ _ _
      | with_reducible refine State.Touch.setBit ?_ _ _
      | with_reducible refine State.Touch.fresh ?_ (by decide)
      | with_reducible refine State.Touch.ite ?_ ?_
      | split
  exact hT.call k hl

theorem State.Touch.loadSections {l : List Part} {s0 s : State} (hT : State.Touch l s0 s)  (c : ImageCfg)
    (hl : ∀ p ∈ ([.omem, .cfg, .clk, .chans, .fab, .fus, .ctl, .slv, .alc, .can, .eth, .ana, .srv, .saf, .grp, .freeCtr, .port] : List Part), p ∈ l) : State.Touch l s0 (State.loadSections s c) := by
  have k : State.Touch [.omem, .cfg, .clk, .chans, .fab, .fus, .ctl, .slv, .alc, .can, .eth, .ana, .srv, .saf, .grp, .freeCtr, .port] s (State.loadSections s c) := by
    unfold State.loadSections
    try dsimp only
    iterate 60 all_goals try first
      | with_reducible assumption
      | with_reducible exact State.Touch.refl _ _
      | with_reducible refine State.Touch.wr ?_ _ _
      | with_reducible refine State.Touch.set ?_ _ _
      | with_reducible refine State.Touch.each ?_ _ _ (fun x u hu => ?_)
      | with_reducible refine State.Touch.groupStart ?_ (by decide)
      | with_reducible refine State.Touch.loadAnalogue ?_ _ (by decide)
      | with_reducible refine State.Touch.loadCan ?_ _ (by decide)
      | with_reducible refine State.Touch.loadChannels ?_ _ (by decide)
      | with_reducible refine State.Touch.loadClock ?_ _ (by decide)
      | with_reducible refine State.Touch.loadRegions ?_ _ (by decide)
      | with_reducible refine State.Touch.loadTime ?_ _ (by decide)
      | with_reducible refine State.Touch.openGates ?_ _ (by decide)
      | with_reducible refine State.Touch.overlayAgain ?_ (by decide)
      | with_reducible refine State.Touch.ownSync ?_ (by decide)
      | with_reducible refine State.Touch.slateLoad ?_ _ (by decide)
      | with_reducible refine State.Touch.startStep ?_ _ (by decide)
      | with_reducible refine State.Touch.thrInit ?_ (by decide)
      | with_reducible refine State.Touch.ite ?_ ?_
      | split
      | with_reducible refine State.Touch.upd_cfg ?_ _ _ (by decide)
  exact hT.call k hl

theorem State.Touch.sectionsLoaded {l : List Part} {s0 s : State} (hT : State.Touch l s0 s)  (loadFail : Bool) (c : ImageCfg)
    (hl : ∀ p ∈ ([.omem, .cfg, .clk, .chans, .fab, .fus, .ctl, .slv, .alc, .can, .eth, .ana, .srv, .saf, .grp, .freeCtr, .port] : List Part), p ∈ l) : State.Touch l s0 (State.sectionsLoaded s loadFail c) := by
  have k : State.Touch [.omem, .cfg, .clk, .chans, .fab, .fus, .ctl, .slv, .alc, .can, .eth, .ana, .srv, .saf, .grp, .freeCtr, .port] s (State.sectionsLoaded s loadFail c) := by
    unfold State.sectionsLoaded
    try dsimp only
    iterate 60 all_goals try first
      | with_reducible assumption
      | with_reducible exact State.Touch.refl _ _
      | with_reducible refine State.Touch.set ?_ _ _
      | with_reducible refine State.Touch.chooseBank ?_ (by decide)
      | with_reducible refine State.Touch.loadMemory ?_ _ _ _ (by decide)
      | with_reducible refine State.Touch.loadSections ?_ _ (by decide)
      | with_reducible refine State.Touch.ite ?_ ?_
      | split
  exact hT.call k hl

theorem State.Touch.nvmRead {l : List Part} {s0 s : State} (hT : State.Touch l s0 s)  (k a n : Nat)
    (hl : ∀ p ∈ ([] : List Part), p ∈ l) : State.Touch l s0 (State.nvmRead s k a n).1 := by
  have k : State.Touch [] s (State.nvmRead s k a n).1 := by
    unfold State.nvmRead
    try dsimp only
    iterate 60 all_goals try first
      | with_reducible assumption
      | with_reducible exact State.Touch.refl _ _
      | with_reducible refine State.Touch.ite ?_ ?_
      | split
  exact hT.call k hl

theorem State.Touch.nvmStart {l : List Part} {s0 s : State} (hT : State.Touch l s0 s)  (k a op : Nat) (data : Option (List Byte)) (r : Req)
    (hl : ∀ p ∈ ([.img] : List Part), p ∈ l) : State.Touch l s0 (State.nvmStart s k a op data r).1 := by
  have k : State.Touch [.img] s (State.nvmStart s k a op data r).1 := by
    unfold State.nvmStart
    try dsimp only
    iterate 60 all_goals try first
      | with_reducible assumption
      | with_reducible exact State.Touch.refl _ _
      | with_reducible refine State.Touch.bankUnchecked ?_ _ (by decide)
      | with_reducible refine State.Touch.imgRefuse ?_ _ _ (by decide)
      | with_reducible refine State.Touch.ite ?_ ?_
      | split
      | with_reducible refine State.Touch.upd_img ?_ _ (by decide)
  exact hT.call k hl

theorem State.Touch.nvmWrite {l : List Part} {s0 s : State} (hT : State.Touch l s0 s)  (r : Req) (k a n : Nat) (data : List Byte)
    (hl : ∀ p ∈ ([.img] : List Part), p ∈ l) : State.Touch l s0 (State.nvmWrite s r k a n data).1 := by
  have k : State.Touch [.img] s (State.nvmWrite s r k a n data).1 := by
    unfold State.nvmWrite
    try dsimp only
    iterate 60 all_goals try first
      | with_reducible assumption
      | with_reducible exact State.Touch.refl _ _
      | with_reducible refine State.Touch.nvmStart ?_ _ _ _ _ _ (by decide)
      | with_reducible refine State.Touch.ite ?_ ?_
      | split
  exact hT.call k hl

theorem State.Touch.nvmErase {l : List Part} {s0 s : State} (hT : State.Touch l s0 s)  (r : Req) (k a : Nat)
    (hl : ∀ p ∈ ([.img] : List Part), p ∈ l) : State.Touch l s0 (State.nvmErase s r k a).1 := by
  have k : State.Touch [.img] s (State.nvmErase s r k a).1 := by
    unfold State.nvmErase
    try dsimp only
    iterate 60 all_goals try first
      | with_reducible assumption
      | with_reducible exact State.Touch.refl _ _
      | with_reducible refine State.Touch.nvmStart ?_ _ _ _ _ _ (by decide)
      | with_reducible refine State.Touch.ite ?_ ?_
      | split
  exact hT.call k hl

theorem State.Touch.nvmOpen {l : List Part} {s0 s : State} (hT : State.Touch l s0 s)  (k a n : Nat)
    (hl : ∀ p ∈ ([.nvm0, .nvm1, .freeCtr] : List Part), p ∈ l) : State.Touch l s0 (State.nvmOpen s k a n) := by
  have k : State.Touch [.nvm0, .nvm1, .freeCtr] s (State.nvmOpen s k a n) := by
    unfold State.nvmOpen
    try dsimp only
    iterate 60 all_goals try first
      | with_reducible assumption
      | with_reducible exact State.Touch.refl _ _
      | with_reducible refine State.Touch.each ?_ _ _ (fun x u hu => ?_)
      | with_reducible refine State.Touch.setNvm ?_ _ _ _ (by decide)
      | with_reducible refine State.Touch.ite ?_ ?_
      | split
      | with_reducible refine State.Touch.upd_freeCtr ?_ _ (by decide)
  exact hT.call k hl

theorem State.Touch.nvmOpDone {l : List Part} {s0 s : State} (hT : State.Touch l s0 s)  (k : Nat) (ok : Bool)
    (hl : ∀ p ∈ ([.nvm0, .nvm1, .img, .mgt, .freeCtr] : List Part), p ∈ l) : State.Touch l s0 (State.nvmOpDone s k ok) := by
  have k : State.Touch [.nvm0, .nvm1, .img, .mgt, .freeCtr] s (State.nvmOpDone s k ok) := by
    unfold State.nvmOpDone
    try dsimp only
    iterate 60 all_goals try first
      | with_reducible assumption
      | with_reducible exact State.Touch.refl _ _
      | with_reducible refine State.Touch.nvmEraseSector ?_ _ _ (by decide)
      | with_reducible refine State.Touch.nvmOpen ?_ _ _ _ (by decide)
      | with_reducible refine State.Touch.nvmProgram ?_ _ _ _ (by decide)
      | with_reducible refine State.Touch.result ?_ _ _ _ (by decide)
      | with_reducible refine State.Touch.ite ?_ ?_
      | split
      | with_reducible refine State.Touch.upd_img ?_ _ (by decide)
  exact hT.call k hl

theorem State.Touch.keyProgram {l : List Part} {s0 s : State} (hT : State.Touch l s0 s)  (key : List Byte)
    (hl : ∀ p ∈ ([.keyStore, .freeCtr] : List Part), p ∈ l) : State.Touch l s0 (State.keyProgram s key).1 := by
  have k : State.Touch [.keyStore, .freeCtr] s (State.keyProgram s key).1 := by
    unfold State.keyProgram
    try dsimp only
    iterate 60 all_goals try first
      | with_reducible assumption
      | with_reducible exact State.Touch.refl _ _
      | with_reducible refine State.Touch.set ?_ _ _
      | with_reducible refine State.Touch.fresh ?_ (by decide)
      | with_reducible refine State.Touch.imgRefuse ?_ _ _ (by decide)
      | with_reducible refine State.Touch.ite ?_ ?_
      | split
      | with_reducible refine State.Touch.upd_keyStore ?_ _ (by decide)
  exact hT.call k hl

end Sys2Proof.Machine
end

