-- ==== Sys2Proof/Laws/Touch/Reload.lean ====
section
/-!
SUPPORT. Sys2Proof/Laws/Touch/Reload.lean: which parts of the state each operation of Machine/Reload.lean may change.
-/
set_option linter.all false
set_option maxRecDepth 4000
namespace Sys2Proof.Machine

theorem State.Touch.reloadBegin {l : List Part} {s0 s : State} (hT : State.Touch l s0 s)  (g : Nat) (adopts : Bool)
    (hl : ∀ p ∈ ([.img] : List Part), p ∈ l) : State.Touch l s0 (State.reloadBegin s g adopts) := by
  have k : State.Touch [.img] s (State.reloadBegin s g adopts) := by
    unfold State.reloadBegin
    try dsimp only
    iterate 60 all_goals try first
      | with_reducible assumption
      | with_reducible exact State.Touch.refl _ _
      | with_reducible refine State.Touch.set ?_ _ _
      | with_reducible refine State.Touch.ite ?_ ?_
      | split
      | with_reducible refine State.Touch.upd_img ?_ _ (by decide)
  exact hT.call k hl

theorem State.Touch.imgReload {l : List Part} {s0 s : State} (hT : State.Touch l s0 s)  (g : Nat)
    (hl : ∀ p ∈ ([.img] : List Part), p ∈ l) : State.Touch l s0 (State.imgReload s g) := by
  have k : State.Touch [.img] s (State.imgReload s g) := by
    unfold State.imgReload
    try dsimp only
    iterate 60 all_goals try first
      | with_reducible assumption
      | with_reducible exact State.Touch.refl _ _
      | with_reducible refine State.Touch.imgRefuse ?_ _ _ (by decide)
      | with_reducible refine State.Touch.reloadBegin ?_ _ _ (by decide)
      | with_reducible refine State.Touch.ite ?_ ?_
      | split
  exact hT.call k hl

theorem State.Touch.reloadStep {l : List Part} {s0 s : State} (hT : State.Touch l s0 s)  (g k : Nat)
    (hl : ∀ p ∈ ([.img] : List Part), p ∈ l) : State.Touch l s0 (State.reloadStep s g k) := by
  have k : State.Touch [.img] s (State.reloadStep s g k) := by
    unfold State.reloadStep
    try dsimp only
    iterate 60 all_goals try first
      | with_reducible assumption
      | with_reducible exact State.Touch.refl _ _
      | with_reducible refine State.Touch.ite ?_ ?_
      | split
      | with_reducible refine State.Touch.upd_img ?_ _ (by decide)
  exact hT.call k hl

theorem State.Touch.reloadOver {l : List Part} {s0 s : State} (hT : State.Touch l s0 s) 
    (hl : ∀ p ∈ ([.img] : List Part), p ∈ l) : State.Touch l s0 (State.reloadOver s) := by
  have k : State.Touch [.img] s (State.reloadOver s) := by
    unfold State.reloadOver
    try dsimp only
    iterate 60 all_goals try first
      | with_reducible assumption
      | with_reducible exact State.Touch.refl _ _
      | with_reducible refine State.Touch.set ?_ _ _
      | with_reducible refine State.Touch.ite ?_ ?_
      | split
      | with_reducible refine State.Touch.upd_img ?_ _ (by decide)
  exact hT.call k hl

theorem State.Touch.copyBlocks {l : List Part} {s0 s : State} (hT : State.Touch l s0 s)  (g : Nat) (solver back : Bool)
    (hl : ∀ p ∈ ([.omem] : List Part), p ∈ l) : State.Touch l s0 (State.copyBlocks s g solver back) := by
  have k : State.Touch [.omem] s (State.copyBlocks s g solver back) := by
    unfold State.copyBlocks
    try dsimp only
    iterate 60 all_goals try first
      | with_reducible assumption
      | with_reducible exact State.Touch.refl _ _
      | with_reducible refine State.Touch.each ?_ _ _ (fun x u hu => ?_)
      | with_reducible refine State.Touch.memPut ?_ _ _ (by decide)
      | with_reducible refine State.Touch.ite ?_ ?_
      | split
  exact hT.call k hl

theorem State.Touch.altInSync {l : List Part} {s0 s : State} (hT : State.Touch l s0 s)  (g : Nat)
    (hl : ∀ p ∈ ([] : List Part), p ∈ l) : State.Touch l s0 (State.altInSync s g) := by
  have k : State.Touch [] s (State.altInSync s g) := by
    unfold State.altInSync
    try dsimp only
    iterate 60 all_goals try first
      | with_reducible assumption
      | with_reducible exact State.Touch.refl _ _
      | with_reducible refine State.Touch.setBit ?_ _ _
      | with_reducible refine State.Touch.each ?_ _ _ (fun x u hu => ?_)
      | with_reducible refine State.Touch.ite ?_ ?_
      | split
  exact hT.call k hl

theorem State.Touch.regionBack {l : List Part} {s0 s : State} (hT : State.Touch l s0 s)  (g : Nat)
    (hl : ∀ p ∈ ([.omem, .chans, .fab, .port] : List Part), p ∈ l) : State.Touch l s0 (State.regionBack s g) := by
  have k : State.Touch [.omem, .chans, .fab, .port] s (State.regionBack s g) := by
    unfold State.regionBack
    try dsimp only
    iterate 60 all_goals try first
      | with_reducible assumption
      | with_reducible exact State.Touch.refl _ _
      | with_reducible refine State.Touch.set ?_ _ _
      | with_reducible refine State.Touch.each ?_ _ _ (fun x u hu => ?_)
      | with_reducible refine State.Touch.altIn ?_ _ _ (by decide)
      | with_reducible refine State.Touch.altInSync ?_ _ (by decide)
      | with_reducible refine State.Touch.modFab ?_ _ (by decide)
      | with_reducible refine State.Touch.moveTask ?_ _ _ (by decide)
      | with_reducible refine State.Touch.relocate ?_ _ (by decide)
      | with_reducible refine State.Touch.setPlace ?_ _ _ (by decide)
      | with_reducible refine State.Touch.setUnit ?_ _ _ _ (by decide)
      | with_reducible refine State.Touch.ite ?_ ?_
      | split
  exact hT.call k hl

theorem State.Touch.reloadDone {l : List Part} {s0 s : State} (hT : State.Touch l s0 s)  (g : Nat)
    (hl : ∀ p ∈ ([.omem, .img, .chans, .fab, .port] : List Part), p ∈ l) : State.Touch l s0 (State.reloadDone s g) := by
  have k : State.Touch [.omem, .img, .chans, .fab, .port] s (State.reloadDone s g) := by
    unfold State.reloadDone
    try dsimp only
    iterate 60 all_goals try first
      | with_reducible assumption
      | with_reducible exact State.Touch.refl _ _
      | with_reducible refine State.Touch.count ?_ _
      | with_reducible refine State.Touch.imgEvent ?_ _ (by decide)
      | with_reducible refine State.Touch.regionBack ?_ _ (by decide)
      | with_reducible refine State.Touch.reloadOver ?_ (by decide)
      | with_reducible refine State.Touch.ite ?_ ?_
      | split
  exact hT.call k hl

theorem State.Touch.reloadFrame {l : List Part} {s0 s : State} (hT : State.Touch l s0 s) 
    (hl : ∀ p ∈ ([.omem, .img, .chans, .fab, .port] : List Part), p ∈ l) : State.Touch l s0 (State.reloadFrame s) := by
  have k : State.Touch [.omem, .img, .chans, .fab, .port] s (State.reloadFrame s) := by
    unfold State.reloadFrame
    try dsimp only
    iterate 60 all_goals try first
      | with_reducible assumption
      | with_reducible exact State.Touch.refl _ _
      | with_reducible refine State.Touch.set ?_ _ _
      | with_reducible refine State.Touch.altIn ?_ _ _ (by decide)
      | with_reducible refine State.Touch.copyBlocks ?_ _ _ _ (by decide)
      | with_reducible refine State.Touch.evict ?_ _ (by decide)
      | with_reducible refine State.Touch.reloadDone ?_ _ (by decide)
      | with_reducible refine State.Touch.reloadStep ?_ _ _ (by decide)
      | with_reducible refine State.Touch.ite ?_ ?_
      | split
  exact hT.call k hl

theorem State.Touch.adoptHalt {l : List Part} {s0 s : State} (hT : State.Touch l s0 s)  (code : Nat)
    (hl : ∀ p ∈ ([] : List Part), p ∈ l) : State.Touch l s0 (State.adoptHalt s code) := by
  have k : State.Touch [] s (State.adoptHalt s code) := by
    unfold State.adoptHalt
    try dsimp only
    iterate 60 all_goals try first
      | with_reducible assumption
      | with_reducible exact State.Touch.refl _ _
      | with_reducible refine State.Touch.set ?_ _ _
      | with_reducible refine State.Touch.count ?_ _
      | with_reducible refine State.Touch.ite ?_ ?_
      | split
  exact hT.call k hl

theorem State.Touch.reloadFailed {l : List Part} {s0 s : State} (hT : State.Touch l s0 s) 
    (hl : ∀ p ∈ ([.img, .port] : List Part), p ∈ l) : State.Touch l s0 (State.reloadFailed s) := by
  have k : State.Touch [.img, .port] s (State.reloadFailed s) := by
    unfold State.reloadFailed
    try dsimp only
    iterate 60 all_goals try first
      | with_reducible assumption
      | with_reducible exact State.Touch.refl _ _
      | with_reducible refine State.Touch.count ?_ _
      | with_reducible refine State.Touch.adoptHalt ?_ _ (by decide)
      | with_reducible refine State.Touch.imgEvent ?_ _ (by decide)
      | with_reducible refine State.Touch.reloadOver ?_ (by decide)
      | with_reducible refine State.Touch.ite ?_ ?_
      | split
  exact hT.call k hl

theorem State.Touch.regionLoad {l : List Part} {s0 s : State} (hT : State.Touch l s0 s)  (g : Nat) (c : RegionCfg)
    (hl : ∀ p ∈ ([.omem, .cfg, .fab] : List Part), p ∈ l) : State.Touch l s0 (State.regionLoad s g c) := by
  have k : State.Touch [.omem, .cfg, .fab] s (State.regionLoad s g c) := by
    unfold State.regionLoad
    try dsimp only
    iterate 60 all_goals try first
      | with_reducible assumption
      | with_reducible exact State.Touch.refl _ _
      | with_reducible refine State.Touch.loadMemory ?_ _ _ _ (by decide)
      | with_reducible refine State.Touch.loadRegion ?_ _ _ (by decide)
      | with_reducible refine State.Touch.ite ?_ ?_
      | split
      | with_reducible refine State.Touch.upd_cfg ?_ _ _ (by decide)
  exact hT.call k hl

theorem State.Touch.regionSectionLoaded {l : List Part} {s0 s : State} (hT : State.Touch l s0 s)  (ok : Bool) (c : RegionCfg)
    (hl : ∀ p ∈ ([.omem, .cfg, .img, .chans, .fab, .port] : List Part), p ∈ l) : State.Touch l s0 (State.regionSectionLoaded s ok c) := by
  have k : State.Touch [.omem, .cfg, .img, .chans, .fab, .port] s (State.regionSectionLoaded s ok c) := by
    unfold State.regionSectionLoaded
    try dsimp only
    iterate 60 all_goals try first
      | with_reducible assumption
      | with_reducible exact State.Touch.refl _ _
      | with_reducible refine State.Touch.regionLoad ?_ _ _ (by decide)
      | with_reducible refine State.Touch.reloadDone ?_ _ (by decide)
      | with_reducible refine State.Touch.reloadFailed ?_ (by decide)
      | with_reducible refine State.Touch.reloadStep ?_ _ _ (by decide)
      | with_reducible refine State.Touch.ite ?_ ?_
      | split
  exact hT.call k hl

theorem State.Touch.regionCopyback {l : List Part} {s0 s : State} (hT : State.Touch l s0 s) 
    (hl : ∀ p ∈ ([.omem, .img] : List Part), p ∈ l) : State.Touch l s0 (State.regionCopyback s) := by
  have k : State.Touch [.omem, .img] s (State.regionCopyback s) := by
    unfold State.regionCopyback
    try dsimp only
    iterate 60 all_goals try first
      | with_reducible assumption
      | with_reducible exact State.Touch.refl _ _
      | with_reducible refine State.Touch.copyBlocks ?_ _ _ _ (by decide)
      | with_reducible refine State.Touch.reloadStep ?_ _ _ (by decide)
      | with_reducible refine State.Touch.ite ?_ ?_
      | split
  exact hT.call k hl

theorem State.Touch.adoptSet {l : List Part} {s0 s : State} (hT : State.Touch l s0 s)  (x : Option (Nat × List (Nat × Nat)))
    (hl : ∀ p ∈ ([.img] : List Part), p ∈ l) : State.Touch l s0 (State.adoptSet s x) := by
  have k : State.Touch [.img] s (State.adoptSet s x) := by
    unfold State.adoptSet
    try dsimp only
    iterate 60 all_goals try first
      | with_reducible assumption
      | with_reducible exact State.Touch.refl _ _
      | with_reducible refine State.Touch.ite ?_ ?_
      | split
      | with_reducible refine State.Touch.upd_img ?_ _ (by decide)
  exact hT.call k hl

theorem State.Touch.imageAdopted {l : List Part} {s0 s : State} (hT : State.Touch l s0 s)  (k : Nat)
    (hl : ∀ p ∈ ([.img, .port] : List Part), p ∈ l) : State.Touch l s0 (State.imageAdopted s k) := by
  have k : State.Touch [.img, .port] s (State.imageAdopted s k) := by
    unfold State.imageAdopted
    try dsimp only
    iterate 60 all_goals try first
      | with_reducible assumption
      | with_reducible exact State.Touch.refl _ _
      | with_reducible refine State.Touch.set ?_ _ _
      | with_reducible refine State.Touch.count ?_ _
      | with_reducible refine State.Touch.adoptSet ?_ _ (by decide)
      | with_reducible refine State.Touch.imgEvent ?_ _ (by decide)
      | with_reducible refine State.Touch.runBank ?_ _ (by decide)
      | with_reducible refine State.Touch.slhSync ?_ (by decide)
      | with_reducible refine State.Touch.ite ?_ ?_
      | split
  exact hT.call k hl

theorem State.Touch.adoptNext {l : List Part} {s0 s : State} (hT : State.Touch l s0 s) 
    (hl : ∀ p ∈ ([.img, .can, .eth, .port] : List Part), p ∈ l) : State.Touch l s0 (State.adoptNext s) := by
  have k : State.Touch [.img, .can, .eth, .port] s (State.adoptNext s) := by
    unfold State.adoptNext
    try dsimp only
    iterate 60 all_goals try first
      | with_reducible assumption
      | with_reducible exact State.Touch.refl _ _
      | with_reducible refine State.Touch.set ?_ _ _
      | with_reducible refine State.Touch.adoptHalt ?_ _ (by decide)
      | with_reducible refine State.Touch.canReinitStart ?_ _ (by decide)
      | with_reducible refine State.Touch.ethReinitStart ?_ _ (by decide)
      | with_reducible refine State.Touch.imageAdopted ?_ _ (by decide)
      | with_reducible refine State.Touch.reloadBegin ?_ _ _ (by decide)
      | with_reducible refine State.Touch.ite ?_ ?_
      | split
  exact hT.call k hl

theorem State.Touch.imgAdopt {l : List Part} {s0 s : State} (hT : State.Touch l s0 s)  (k : Nat)
    (hl : ∀ p ∈ ([.img, .can, .eth, .port] : List Part), p ∈ l) : State.Touch l s0 (State.imgAdopt s k) := by
  have k : State.Touch [.img, .can, .eth, .port] s (State.imgAdopt s k) := by
    unfold State.imgAdopt
    try dsimp only
    iterate 60 all_goals try first
      | with_reducible assumption
      | with_reducible exact State.Touch.refl _ _
      | with_reducible refine State.Touch.set ?_ _ _
      | with_reducible refine State.Touch.adoptNext ?_ (by decide)
      | with_reducible refine State.Touch.adoptSet ?_ _ (by decide)
      | with_reducible refine State.Touch.imgRefuse ?_ _ _ (by decide)
      | with_reducible refine State.Touch.ite ?_ ?_
      | split
  exact hT.call k hl

theorem State.Touch.adoptAnalogue {l : List Part} {s0 s : State} (hT : State.Touch l s0 s)  (old new : ImageCfg)
    (hl : ∀ p ∈ ([.ana] : List Part), p ∈ l) : State.Touch l s0 (State.adoptAnalogue s old new) := by
  have k : State.Touch [.ana] s (State.adoptAnalogue s old new) := by
    unfold State.adoptAnalogue
    try dsimp only
    iterate 60 all_goals try first
      | with_reducible assumption
      | with_reducible exact State.Touch.refl _ _
      | with_reducible refine State.Touch.wr ?_ _ _
      | with_reducible refine State.Touch.set ?_ _ _
      | with_reducible refine State.Touch.each ?_ _ _ (fun x u hu => ?_)
      | with_reducible refine State.Touch.chainReinit ?_ _ (by decide)
      | with_reducible refine State.Touch.defaultTaps ?_ _ (by decide)
      | with_reducible refine State.Touch.ownSync ?_ (by decide)
      | with_reducible refine State.Touch.pinReinit ?_ _ (by decide)
      | with_reducible refine State.Touch.ite ?_ ?_
      | split
  exact hT.call k hl

theorem State.Touch.adoptServo {l : List Part} {s0 s : State} (hT : State.Touch l s0 s)  (old new : ImageCfg)
    (hl : ∀ p ∈ ([.srv] : List Part), p ∈ l) : State.Touch l s0 (State.adoptServo s old new) := by
  have k : State.Touch [.srv] s (State.adoptServo s old new) := by
    unfold State.adoptServo
    try dsimp only
    iterate 60 all_goals try first
      | with_reducible assumption
      | with_reducible exact State.Touch.refl _ _
      | with_reducible refine State.Touch.each ?_ _ _ (fun x u hu => ?_)
      | with_reducible refine State.Touch.modLoop ?_ _ _ (by decide)
      | with_reducible refine State.Touch.ownSync ?_ (by decide)
      | with_reducible refine State.Touch.ite ?_ ?_
      | split
  exact hT.call k hl

theorem State.Touch.adoptApply {l : List Part} {s0 s : State} (hT : State.Touch l s0 s)  (o i : Nat) (new : ImageCfg)
    (hl : ∀ p ∈ ([.cfg, .mgt, .chans, .can, .eth, .ana, .srv, .recd] : List Part), p ∈ l) : State.Touch l s0 (State.adoptApply s o i new) := by
  have k : State.Touch [.cfg, .mgt, .chans, .can, .eth, .ana, .srv, .recd] s (State.adoptApply s o i new) := by
    unfold State.adoptApply
    try dsimp only
    iterate 60 all_goals try first
      | with_reducible assumption
      | with_reducible exact State.Touch.refl _ _
      | with_reducible refine State.Touch.wr ?_ _ _
      | with_reducible refine State.Touch.set ?_ _ _
      | with_reducible refine State.Touch.each ?_ _ _ (fun x u hu => ?_)
      | with_reducible refine State.Touch.adoptAnalogue ?_ _ _ (by decide)
      | with_reducible refine State.Touch.adoptServo ?_ _ _ (by decide)
      | with_reducible refine State.Touch.canReinitDone ?_ _ (by decide)
      | with_reducible refine State.Touch.ethReinitDone ?_ _ (by decide)
      | with_reducible refine State.Touch.overlayMove ?_ _ _ (by decide)
      | with_reducible refine State.Touch.recorderReinit ?_ (by decide)
      | with_reducible refine State.Touch.ite ?_ ?_
      | split
      | with_reducible refine State.Touch.upd_cfg ?_ _ _ (by decide)
  exact hT.call k hl

theorem State.Touch.adoptStepDone {l : List Part} {s0 s : State} (hT : State.Touch l s0 s)  (out : AdoptOutcome) (given : ImageCfg)
    (hl : ∀ p ∈ ([.cfg, .img, .mgt, .chans, .can, .eth, .ana, .srv, .recd, .port] : List Part), p ∈ l) : State.Touch l s0 (State.adoptStepDone s out given) := by
  have k : State.Touch [.cfg, .img, .mgt, .chans, .can, .eth, .ana, .srv, .recd, .port] s (State.adoptStepDone s out given) := by
    unfold State.adoptStepDone
    try dsimp only
    iterate 60 all_goals try first
      | with_reducible assumption
      | with_reducible exact State.Touch.refl _ _
      | with_reducible refine State.Touch.set ?_ _ _
      | with_reducible refine State.Touch.adoptApply ?_ _ _ _ (by decide)
      | with_reducible refine State.Touch.adoptHalt ?_ _ (by decide)
      | with_reducible refine State.Touch.adoptNext ?_ (by decide)
      | with_reducible refine State.Touch.adoptSet ?_ _ (by decide)
      | with_reducible refine State.Touch.ite ?_ ?_
      | split
  exact hT.call k hl

end Sys2Proof.Machine
end

