-- ==== Sys2Proof/Laws/Touch/Frame.lean ====
section
/-!
SUPPORT. Sys2Proof/Laws/Touch/Frame.lean: which parts of the state each operation of Machine/Frame.lean may change.
-/
set_option linter.all false
set_option maxRecDepth 4000
namespace Sys2Proof.Machine

theorem State.Touch.nextFrame {l : List Part} {s0 s : State} (hT : State.Touch l s0 s) 
    (hl : ∀ p ∈ ([.frame] : List Part), p ∈ l) : State.Touch l s0 (State.nextFrame s) := by
  have k : State.Touch [.frame] s (State.nextFrame s) := by
    unfold State.nextFrame
    try dsimp only
    iterate 60 all_goals try first
      | with_reducible assumption
      | with_reducible exact State.Touch.refl _ _
      | with_reducible refine State.Touch.count ?_ _
      | with_reducible refine State.Touch.ite ?_ ?_
      | split
      | with_reducible refine State.Touch.upd_frame ?_ _ (by decide)
  exact hT.call k hl

theorem State.Touch.guaranteeConflict {l : List Part} {s0 s : State} (hT : State.Touch l s0 s)  (k : Nat)
    (hl : ∀ p ∈ ([.fab, .port] : List Part), p ∈ l) : State.Touch l s0 (State.guaranteeConflict s k) := by
  have k : State.Touch [.fab, .port] s (State.guaranteeConflict s k) := by
    unfold State.guaranteeConflict
    try dsimp only
    iterate 60 all_goals try first
      | with_reducible assumption
      | with_reducible exact State.Touch.refl _ _
      | with_reducible refine State.Touch.count ?_ _
      | with_reducible refine State.Touch.conflictEvent ?_ _ _ _ _ (by decide)
      | with_reducible refine State.Touch.modFab ?_ _ (by decide)
      | with_reducible refine State.Touch.ite ?_ ?_
      | split
  exact hT.call k hl

theorem State.Touch.frameClear {l : List Part} {s0 s : State} (hT : State.Touch l s0 s) 
    (hl : ∀ p ∈ ([.fab, .fus, .ctl, .grp] : List Part), p ∈ l) : State.Touch l s0 (State.frameClear s) := by
  have k : State.Touch [.fab, .fus, .ctl, .grp] s (State.frameClear s) := by
    unfold State.frameClear
    try dsimp only
    iterate 60 all_goals try first
      | with_reducible assumption
      | with_reducible exact State.Touch.refl _ _
      | with_reducible refine State.Touch.modCtl ?_ _ (by decide)
      | with_reducible refine State.Touch.modFab ?_ _ (by decide)
      | with_reducible refine State.Touch.modGrp ?_ _ (by decide)
      | with_reducible refine State.Touch.ite ?_ ?_
      | split
      | with_reducible refine State.Touch.upd_fus ?_ _ (by decide)
  exact hT.call k hl

theorem State.Touch.frameControl {l : List Part} {s0 s : State} (hT : State.Touch l s0 s) 
    (hl : ∀ p ∈ ([.cfg, .mgt, .chans, .fus, .ctl, .slv, .alc, .srv] : List Part), p ∈ l) : State.Touch l s0 (State.frameControl s) := by
  have k : State.Touch [.cfg, .mgt, .chans, .fus, .ctl, .slv, .alc, .srv] s (State.frameControl s) := by
    unfold State.frameControl
    try dsimp only
    iterate 60 all_goals try first
      | with_reducible assumption
      | with_reducible exact State.Touch.refl _ _
      | with_reducible refine State.Touch.alcFrame ?_ (by decide)
      | with_reducible refine State.Touch.ctlFrame ?_ (by decide)
      | with_reducible refine State.Touch.formBox ?_ (by decide)
      | with_reducible refine State.Touch.planAdopt ?_ (by decide)
      | with_reducible refine State.Touch.ite ?_ ?_
      | split
  exact hT.call k hl

theorem State.Touch.frameWork {l : List Part} {s0 s : State} (hT : State.Touch l s0 s) 
    (hl : ∀ p ∈ ([.chans, .fab] : List Part), p ∈ l) : State.Touch l s0 (State.frameWork s) := by
  have k : State.Touch [.chans, .fab] s (State.frameWork s) := by
    unfold State.frameWork
    try dsimp only
    iterate 60 all_goals try first
      | with_reducible assumption
      | with_reducible exact State.Touch.refl _ _
      | with_reducible refine State.Touch.count ?_ _
      | with_reducible refine State.Touch.openSlots ?_ _ _ (by decide)
      | with_reducible refine State.Touch.placementRetry ?_ (by decide)
      | with_reducible refine State.Touch.releaseRoots ?_ _ (by decide)
      | with_reducible refine State.Touch.ite ?_ ?_
      | split
  exact hT.call k hl

theorem State.Touch.frameStart {l : List Part} {s0 s : State} (hT : State.Touch l s0 s) 
    (hl : ∀ p ∈ ([.omem, .cfg, .tb, .img, .mgt, .frame, .chans, .fab, .fus, .ctl, .slv, .alc, .can, .eth, .ana, .srv, .grp, .freeCtr, .port] : List Part), p ∈ l) : State.Touch l s0 (State.frameStart s) := by
  have k : State.Touch [.omem, .cfg, .tb, .img, .mgt, .frame, .chans, .fab, .fus, .ctl, .slv, .alc, .can, .eth, .ana, .srv, .grp, .freeCtr, .port] s (State.frameStart s) := by
    unfold State.frameStart
    try dsimp only
    iterate 60 all_goals try first
      | with_reducible assumption
      | with_reducible exact State.Touch.refl _ _
      | with_reducible refine State.Touch.count ?_ _
      | with_reducible refine State.Touch.anaFrame ?_ (by decide)
      | with_reducible refine State.Touch.anaLatch ?_ (by decide)
      | with_reducible refine State.Touch.chanFrame ?_ (by decide)
      | with_reducible refine State.Touch.closeSlots ?_ _ (by decide)
      | with_reducible refine State.Touch.compFire ?_ _ (by decide)
      | with_reducible refine State.Touch.ethSwapApply ?_ (by decide)
      | with_reducible refine State.Touch.frameClear ?_ (by decide)
      | with_reducible refine State.Touch.frameControl ?_ (by decide)
      | with_reducible refine State.Touch.frameWork ?_ (by decide)
      | with_reducible refine State.Touch.guaranteeConflict ?_ _ (by decide)
      | with_reducible refine State.Touch.handoverStart ?_ (by decide)
      | with_reducible refine State.Touch.healthTx ?_ (by decide)
      | with_reducible refine State.Touch.nextFrame ?_ (by decide)
      | with_reducible refine State.Touch.reloadFrame ?_ (by decide)
      | with_reducible refine State.Touch.standbyMode ?_ (by decide)
      | with_reducible refine State.Touch.triggerAlign ?_ (by decide)
      | with_reducible refine State.Touch.ite ?_ ?_
      | split
      | with_reducible refine State.Touch.upd_tb ?_ _ (by decide)
  exact hT.call k hl

theorem State.Touch.emissionTime {l : List Part} {s0 s : State} (hT : State.Touch l s0 s) 
    (hl : ∀ p ∈ ([.mgt, .frame, .chans, .fab, .ctl, .alc, .can, .eth, .ana, .srv, .grp, .port] : List Part), p ∈ l) : State.Touch l s0 (State.emissionTime s) := by
  have k : State.Touch [.mgt, .frame, .chans, .fab, .ctl, .alc, .can, .eth, .ana, .srv, .grp, .port] s (State.emissionTime s) := by
    unfold State.emissionTime
    try dsimp only
    iterate 60 all_goals try first
      | with_reducible assumption
      | with_reducible exact State.Touch.refl _ _
      | with_reducible refine State.Touch.aoutEmit ?_ (by decide)
      | with_reducible refine State.Touch.closeSlots ?_ _ (by decide)
      | with_reducible refine State.Touch.ctlEmit ?_ (by decide)
      | with_reducible refine State.Touch.directElements ?_ (by decide)
      | with_reducible refine State.Touch.loopEmit ?_ (by decide)
      | with_reducible refine State.Touch.releaseTimed ?_ (by decide)
      | with_reducible refine State.Touch.sentShift ?_ (by decide)
      | with_reducible refine State.Touch.stateTx ?_ (by decide)
      | with_reducible refine State.Touch.ite ?_ ?_
      | split
      | with_reducible refine State.Touch.upd_frame ?_ _ (by decide)
  exact hT.call k hl

theorem State.Touch.comparatorFire {l : List Part} {s0 s : State} (hT : State.Touch l s0 s)  (m : Nat)
    (hl : ∀ p ∈ ([.tb] : List Part), p ∈ l) : State.Touch l s0 (State.comparatorFire s m) := by
  have k : State.Touch [.tb] s (State.comparatorFire s m) := by
    unfold State.comparatorFire
    try dsimp only
    iterate 60 all_goals try first
      | with_reducible assumption
      | with_reducible exact State.Touch.refl _ _
      | with_reducible refine State.Touch.aoutFire ?_ _ (by decide)
      | with_reducible refine State.Touch.chainFire ?_ _ (by decide)
      | with_reducible refine State.Touch.compFire ?_ _ (by decide)
      | with_reducible refine State.Touch.trigPulse ?_ _ (by decide)
      | with_reducible refine State.Touch.ite ?_ ?_
      | split
  exact hT.call k hl

theorem State.Touch.shiftHeld {l : List Part} {s0 s : State} (hT : State.Touch l s0 s) (S : Int)
    (hl : ∀ p ∈ ([.tb, .frame, .fab, .fus, .ctl, .alc, .can, .eth, .ana, .srv, .grp] : List Part), p ∈ l) : State.Touch l s0 (s.shiftHeld S) := by
  have sub : ∀ (m : List Part), (∀ p ∈ m, p ∈ ([.tb, .frame, .fab, .fus, .ctl, .alc, .can, .eth, .ana, .srv, .grp] : List Part)) → ∀ p ∈ m, p ∈ l := fun m hm p hp => hl p (hm p hp)
  unfold State.shiftHeld
  dsimp only
  refine State.Touch.each ?_ _ _ (fun x u hu => State.Touch.capSync (State.Touch.shiftComparator hu _ _ (sub _ (by decide))) _ (sub _ (by decide)))
  refine hT.trans (fun p hn => by cases p <;> first | rfl | exact ⟨rfl, rfl⟩ | exact List.prefix_rfl | exact absurd (hl _ (by decide)) hn)

theorem State.Touch.tbStep {l : List Part} {s0 s : State} (hT : State.Touch l s0 s) 
    (hl : ∀ p ∈ ([.tb, .frame, .fab, .fus, .ctl, .alc, .can, .eth, .ana, .srv, .grp, .port] : List Part), p ∈ l) : State.Touch l s0 (State.tbStep s) := by
  have k : State.Touch [.tb, .frame, .fab, .fus, .ctl, .alc, .can, .eth, .ana, .srv, .grp, .port] s (State.tbStep s) := by
    unfold State.tbStep
    try dsimp only
    iterate 60 all_goals try first
      | with_reducible assumption
      | with_reducible exact State.Touch.refl _ _
      | with_reducible refine State.Touch.wr ?_ _ _
      | with_reducible refine State.Touch.set ?_ _ _
      | with_reducible refine State.Touch.countWrap ?_ _
      | with_reducible refine State.Touch.raise ?_ _ _ _
      | with_reducible refine State.Touch.each ?_ _ _ (fun x u hu => ?_)
      | with_reducible refine State.Touch.absComparator ?_ _ (by decide)
      | with_reducible refine State.Touch.setNow ?_ _ (by decide)
      | with_reducible refine State.Touch.shiftHeld ?_ _ (by decide)
      | with_reducible refine State.Touch.tbState ?_ _ (by decide)
      | with_reducible refine State.Touch.ite ?_ ?_
      | split
      | with_reducible refine State.Touch.upd_tb ?_ _ (by decide)
  exact hT.call k hl

theorem State.Touch.tbFault {l : List Part} {s0 s : State} (hT : State.Touch l s0 s) 
    (hl : ∀ p ∈ ([.port] : List Part), p ∈ l) : State.Touch l s0 (State.tbFault s) := by
  have k : State.Touch [.port] s (State.tbFault s) := by
    unfold State.tbFault
    try dsimp only
    iterate 60 all_goals try first
      | with_reducible assumption
      | with_reducible exact State.Touch.refl _ _
      | with_reducible refine State.Touch.set ?_ _ _
      | with_reducible refine State.Touch.raise ?_ _ _ _
      | with_reducible refine State.Touch.slhSync ?_ (by decide)
      | with_reducible refine State.Touch.ite ?_ ?_
      | split
  exact hT.call k hl

end Sys2Proof.Machine
end

