-- ==== Sys2Proof/Laws/Touch/Registers.lean ====
section
/-!
SUPPORT. Sys2Proof/Laws/Touch/Registers.lean: which parts of the state each operation of Machine/Registers.lean may change.
-/
set_option linter.all false
set_option maxRecDepth 4000
namespace Sys2Proof.Machine

theorem State.Touch.readActs {l : List Part} {s0 s : State} (hT : State.Touch l s0 s)  (a : Nat)
    (hl : ∀ p ∈ ([.tb] : List Part), p ∈ l) : State.Touch l s0 (State.readActs s a) := by
  have k : State.Touch [.tb] s (State.readActs s a) := by
    unfold State.readActs
    try dsimp only
    iterate 60 all_goals try first
      | with_reducible assumption
      | with_reducible exact State.Touch.refl _ _
      | with_reducible refine State.Touch.capRead ?_ _ (by decide)
      | with_reducible refine State.Touch.nsRead ?_ (by decide)
      | with_reducible refine State.Touch.ite ?_ ?_
      | split
  exact hT.call k hl

theorem State.Touch.busRead {l : List Part} {s0 s : State} (hT : State.Touch l s0 s)  (session : Word) (a : Nat)
    (hl : ∀ p ∈ ([.tb] : List Part), p ∈ l) : State.Touch l s0 (State.busRead s session a).1 := by
  have k : State.Touch [.tb] s (State.busRead s session a).1 := by
    unfold State.busRead
    try dsimp only
    iterate 60 all_goals try first
      | with_reducible assumption
      | with_reducible exact State.Touch.refl _ _
      | with_reducible refine State.Touch.busError ?_ _ _ (by decide)
      | with_reducible refine State.Touch.readActs ?_ _ (by decide)
      | with_reducible refine State.Touch.ite ?_ ?_
      | split
  exact hT.call k hl

theorem State.Touch.put {l : List Part} {s0 s : State} (hT : State.Touch l s0 s)  (a : Nat) (r : RegRow) (v : Word)
    (hl : ∀ p ∈ ([] : List Part), p ∈ l) : State.Touch l s0 (State.put s a r v) := by
  have k : State.Touch [] s (State.put s a r v) := by
    unfold State.put
    try dsimp only
    iterate 60 all_goals try first
      | with_reducible assumption
      | with_reducible exact State.Touch.refl _ _
      | with_reducible refine State.Touch.wr ?_ _ _
      | with_reducible refine State.Touch.ite ?_ ?_
      | split
  exact hT.call k hl

theorem State.Touch.putUnless {l : List Part} {s0 s : State} (h : State.Touch l s0 s) (a : Nat) (r : RegRow) (v : Word) (code : Nat)
    (refuse : State → Nat → State) (hf : ∀ c u, State.Touch l s0 u → State.Touch l s0 (refuse u c)) :
    State.Touch l s0 (s.putUnless a r v code refuse) := by
  unfold State.putUnless
  split
  · exact h.put _ _ _ (by simp)
  · exact hf _ _ h

theorem State.Touch.refusedBy {l : List Part} {s0 s : State} (h : State.Touch l s0 s) (f : State → State)
    (hf : ∀ u, State.Touch l s0 u → State.Touch l s0 (f u)) : State.Touch l s0 (s.refusedBy f).1 :=
  (hf _ (h.set _ _)).set _ _

theorem State.Touch.unlessRefused {l : List Part} {s0 s : State} (h : State.Touch l s0 s) (f g : State → State)
    (hf : ∀ u, State.Touch l s0 u → State.Touch l s0 (f u)) (hg : ∀ u, State.Touch l s0 u → State.Touch l s0 (g u)) :
    State.Touch l s0 (s.unlessRefused f g) := by
  unfold State.unlessRefused
  show State.Touch l s0 (if (s.refusedBy f).2 then (s.refusedBy f).1 else g (s.refusedBy f).1)
  split
  · exact h.refusedBy f hf
  · exact hg _ (h.refusedBy f hf)

theorem State.Touch.expertKey {l : List Part} {s0 s : State} (hT : State.Touch l s0 s)  (session : Word) (v : Word)
    (hl : ∀ p ∈ ([.mgt] : List Part), p ∈ l) : State.Touch l s0 (State.expertKey s session v) := by
  have k : State.Touch [.mgt] s (State.expertKey s session v) := by
    unfold State.expertKey
    try dsimp only
    iterate 60 all_goals try first
      | with_reducible assumption
      | with_reducible exact State.Touch.refl _ _
      | with_reducible refine State.Touch.ite ?_ ?_
      | split
      | with_reducible refine State.Touch.upd_mgt ?_ _ (by decide)
  exact hT.call k hl

theorem State.Touch.sysCntClr {l : List Part} {s0 s : State} (hT : State.Touch l s0 s) 
    (hl : ∀ p ∈ ([] : List Part), p ∈ l) : State.Touch l s0 (State.sysCntClr s) := by
  have k : State.Touch [] s (State.sysCntClr s) := by
    unfold State.sysCntClr
    try dsimp only
    iterate 60 all_goals try first
      | with_reducible assumption
      | with_reducible exact State.Touch.refl _ _
      | with_reducible refine State.Touch.set ?_ _ _
      | with_reducible refine State.Touch.ite ?_ ?_
      | split
  exact hT.call k hl

theorem State.Touch.mgtCntClr {l : List Part} {s0 s : State} (hT : State.Touch l s0 s) 
    (hl : ∀ p ∈ ([] : List Part), p ∈ l) : State.Touch l s0 (State.mgtCntClr s) := by
  have k : State.Touch [] s (State.mgtCntClr s) := by
    unfold State.mgtCntClr
    try dsimp only
    iterate 60 all_goals try first
      | with_reducible assumption
      | with_reducible exact State.Touch.refl _ _
      | with_reducible refine State.Touch.wr ?_ _ _
      | with_reducible refine State.Touch.ite ?_ ?_
      | split
  exact hT.call k hl

theorem State.Touch.writeSys {l : List Part} {s0 s : State} (hT : State.Touch l s0 s)  (session : Word) (a : Nat) (r : RegRow) (v : Word)
    (hl : ∀ p ∈ ([.mgt] : List Part), p ∈ l) : State.Touch l s0 (State.writeSys s session a r v) := by
  have k : State.Touch [.mgt] s (State.writeSys s session a r v) := by
    unfold State.writeSys
    try dsimp only
    iterate 60 all_goals try first
      | with_reducible assumption
      | with_reducible exact State.Touch.refl _ _
      | with_reducible refine State.Touch.when ?_ _ _ (fun u hu => ?_)
      | with_reducible refine State.Touch.expertKey ?_ _ _ (by decide)
      | with_reducible refine State.Touch.put ?_ _ _ _ (by decide)
      | with_reducible refine State.Touch.sysCntClr ?_ (by decide)
      | with_reducible refine State.Touch.ite ?_ ?_
      | split
  exact hT.call k hl

theorem State.Touch.writeClk {l : List Part} {s0 s : State} (hT : State.Touch l s0 s)  (a : Nat) (r : RegRow) (v : Word)
    (hl : ∀ p ∈ ([.clk] : List Part), p ∈ l) : State.Touch l s0 (State.writeClk s a r v) := by
  have k : State.Touch [.clk] s (State.writeClk s a r v) := by
    unfold State.writeClk
    try dsimp only
    iterate 60 all_goals try first
      | with_reducible assumption
      | with_reducible exact State.Touch.refl _ _
      | with_reducible refine State.Touch.when ?_ _ _ (fun u hu => ?_)
      | with_reducible refine State.Touch.unlessRefused ?_ _ _ (fun u hu => ?_) (fun u hu => ?_)
      | with_reducible refine State.Touch.clkCntClr ?_ (by decide)
      | with_reducible refine State.Touch.gateWrite ?_ _ _ _ (by decide)
      | with_reducible refine State.Touch.put ?_ _ _ _ (by decide)
      | with_reducible refine State.Touch.refsel ?_ _ (by decide)
      | with_reducible refine State.Touch.ite ?_ ?_
      | split
  exact hT.call k hl

theorem State.Touch.writeTb {l : List Part} {s0 s : State} (hT : State.Touch l s0 s)  (a : Nat) (r : RegRow) (v : Word)
    (hl : ∀ p ∈ ([.freeCtr] : List Part), p ∈ l) : State.Touch l s0 (State.writeTb s a r v) := by
  have k : State.Touch [.freeCtr] s (State.writeTb s a r v) := by
    unfold State.writeTb
    try dsimp only
    iterate 60 all_goals try first
      | with_reducible assumption
      | with_reducible exact State.Touch.refl _ _
      | with_reducible refine State.Touch.when ?_ _ _ (fun u hu => ?_)
      | with_reducible refine State.Touch.putUnless ?_ _ _ _ _ _ (fun c u hu => ?_)
      | with_reducible refine State.Touch.unlessRefused ?_ _ _ (fun u hu => ?_) (fun u hu => ?_)
      | with_reducible refine State.Touch.compEnable ?_ _ (by decide)
      | with_reducible refine State.Touch.fresh ?_ (by decide)
      | with_reducible refine State.Touch.put ?_ _ _ _ (by decide)
      | with_reducible refine State.Touch.tbCntClr ?_ (by decide)
      | with_reducible refine State.Touch.tbIncWrite ?_ _ (by decide)
      | with_reducible refine State.Touch.tbJumpLimWrite ?_ _ (by decide)
      | with_reducible refine State.Touch.tbRearm ?_ (by decide)
      | with_reducible refine State.Touch.tbRefuse ?_ _ _ (by decide)
      | with_reducible refine State.Touch.ite ?_ ?_
      | split
  exact hT.call k hl

theorem State.Touch.imgCmd {l : List Part} {s0 s : State} (hT : State.Touch l s0 s)  (v : Word)
    (hl : ∀ p ∈ ([.img, .can, .eth, .port] : List Part), p ∈ l) : State.Touch l s0 (State.imgCmd s v) := by
  have k : State.Touch [.img, .can, .eth, .port] s (State.imgCmd s v) := by
    unfold State.imgCmd
    try dsimp only
    iterate 60 all_goals try first
      | with_reducible assumption
      | with_reducible exact State.Touch.refl _ _
      | with_reducible refine State.Touch.wr ?_ _ _
      | with_reducible refine State.Touch.when ?_ _ _ (fun u hu => ?_)
      | with_reducible refine State.Touch.unlessRefused ?_ _ _ (fun u hu => ?_) (fun u hu => ?_)
      | with_reducible refine State.Touch.imgAdopt ?_ _ (by decide)
      | with_reducible refine State.Touch.imgRefuse ?_ _ _ (by decide)
      | with_reducible refine State.Touch.imgReload ?_ _ (by decide)
      | with_reducible refine State.Touch.imgVerify ?_ _ (by decide)
      | with_reducible refine State.Touch.ite ?_ ?_
      | split
  exact hT.call k hl

theorem State.Touch.writeCore {l : List Part} {s0 s : State} (hT : State.Touch l s0 s)  (a : Nat) (r : RegRow) (v : Word)
    (hl : ∀ p ∈ ([.img, .mgt, .chans, .ctl, .slv, .alc, .can, .eth, .ana, .srv, .saf, .grp, .recd, .port] : List Part), p ∈ l) : State.Touch l s0 (State.writeCore s a r v) := by
  have k : State.Touch [.img, .mgt, .chans, .ctl, .slv, .alc, .can, .eth, .ana, .srv, .saf, .grp, .recd, .port] s (State.writeCore s a r v) := by
    unfold State.writeCore
    try dsimp only
    iterate 60 all_goals try first
      | with_reducible assumption
      | with_reducible exact State.Touch.refl _ _
      | with_reducible refine State.Touch.wr ?_ _ _
      | with_reducible refine State.Touch.set ?_ _ _
      | with_reducible refine State.Touch.when ?_ _ _ (fun u hu => ?_)
      | with_reducible refine State.Touch.each ?_ _ _ (fun x u hu => ?_)
      | with_reducible refine State.Touch.unlessRefused ?_ _ _ (fun u hu => ?_) (fun u hu => ?_)
      | with_reducible refine State.Touch.alcEnableWrite ?_ _ (by decide)
      | with_reducible refine State.Touch.cqMarkOld ?_ (by decide)
      | with_reducible refine State.Touch.cqOverall ?_ (by decide)
      | with_reducible refine State.Touch.endFreeze ?_ _ (by decide)
      | with_reducible refine State.Touch.fltCntClr ?_ (by decide)
      | with_reducible refine State.Touch.fusCalFreeze ?_ _ (by decide)
      | with_reducible refine State.Touch.fusCntClr ?_ (by decide)
      | with_reducible refine State.Touch.handover ?_ _ (by decide)
      | with_reducible refine State.Touch.holdEnd ?_ (by decide)
      | with_reducible refine State.Touch.holdStart ?_ (by decide)
      | with_reducible refine State.Touch.imgCmd ?_ _ (by decide)
      | with_reducible refine State.Touch.mgtCntClr ?_ (by decide)
      | with_reducible refine State.Touch.modecmdWrite ?_ _ (by decide)
      | with_reducible refine State.Touch.put ?_ _ _ _ (by decide)
      | with_reducible refine State.Touch.recCtrlFreeze ?_ (by decide)
      | with_reducible refine State.Touch.slvCntClr ?_ (by decide)
      | with_reducible refine State.Touch.slvRefreshClass ?_ _ (by decide)
      | with_reducible refine State.Touch.ite ?_ ?_
      | split
  exact hT.call k hl

theorem State.Touch.writeSrv {l : List Part} {s0 s : State} (hT : State.Touch l s0 s)  (a : Nat) (r : RegRow) (v : Word)
    (hl : ∀ p ∈ ([.srv, .grp] : List Part), p ∈ l) : State.Touch l s0 (State.writeSrv s a r v) := by
  have k : State.Touch [.srv, .grp] s (State.writeSrv s a r v) := by
    unfold State.writeSrv
    try dsimp only
    iterate 60 all_goals try first
      | with_reducible assumption
      | with_reducible exact State.Touch.refl _ _
      | with_reducible refine State.Touch.when ?_ _ _ (fun u hu => ?_)
      | with_reducible refine State.Touch.putUnless ?_ _ _ _ _ _ (fun c u hu => ?_)
      | with_reducible refine State.Touch.unlessRefused ?_ _ _ (fun u hu => ?_) (fun u hu => ?_)
      | with_reducible refine State.Touch.cmdClose ?_ _ (by decide)
      | with_reducible refine State.Touch.cmdClrFault ?_ _ (by decide)
      | with_reducible refine State.Touch.cmdOpen ?_ _ (by decide)
      | with_reducible refine State.Touch.hostspWrite ?_ _ _ (by decide)
      | with_reducible refine State.Touch.loopRefuse ?_ _ _ _ (by decide)
      | with_reducible refine State.Touch.ownSync ?_ (by decide)
      | with_reducible refine State.Touch.put ?_ _ _ _ (by decide)
      | with_reducible refine State.Touch.spsrcWrite ?_ _ _ (by decide)
      | with_reducible refine State.Touch.srvCntClr ?_ (by decide)
      | with_reducible refine State.Touch.ite ?_ ?_
      | split
  exact hT.call k hl

theorem State.Touch.writeChain {l : List Part} {s0 s : State} (hT : State.Touch l s0 s)  (a : Nat) (r : RegRow) (v : Word)
    (hl : ∀ p ∈ ([.ana] : List Part), p ∈ l) : State.Touch l s0 (State.writeChain s a r v) := by
  have k : State.Touch [.ana] s (State.writeChain s a r v) := by
    unfold State.writeChain
    try dsimp only
    iterate 60 all_goals try first
      | with_reducible assumption
      | with_reducible exact State.Touch.refl _ _
      | with_reducible refine State.Touch.when ?_ _ _ (fun u hu => ?_)
      | with_reducible refine State.Touch.putUnless ?_ _ _ _ _ _ (fun c u hu => ?_)
      | with_reducible refine State.Touch.chainDcbWrite ?_ _ _ (by decide)
      | with_reducible refine State.Touch.chainRefuse ?_ _ _ _ (by decide)
      | with_reducible refine State.Touch.chainStart ?_ _ (by decide)
      | with_reducible refine State.Touch.chainStop ?_ _ (by decide)
      | with_reducible refine State.Touch.put ?_ _ _ _ (by decide)
      | with_reducible refine State.Touch.ite ?_ ?_
      | split
  exact hT.call k hl

theorem State.Touch.writePin {l : List Part} {s0 s : State} (hT : State.Touch l s0 s)  (a : Nat) (r : RegRow) (v : Word)
    (hl : ∀ p ∈ ([.ana] : List Part), p ∈ l) : State.Touch l s0 (State.writePin s a r v) := by
  have k : State.Touch [.ana] s (State.writePin s a r v) := by
    unfold State.writePin
    try dsimp only
    iterate 60 all_goals try first
      | with_reducible assumption
      | with_reducible exact State.Touch.refl _ _
      | with_reducible refine State.Touch.set ?_ _ _
      | with_reducible refine State.Touch.when ?_ _ _ (fun u hu => ?_)
      | with_reducible refine State.Touch.putUnless ?_ _ _ _ _ _ (fun c u hu => ?_)
      | with_reducible refine State.Touch.pinLoad ?_ _ (by decide)
      | with_reducible refine State.Touch.pinStart ?_ _ (by decide)
      | with_reducible refine State.Touch.pinStop ?_ _ (by decide)
      | with_reducible refine State.Touch.put ?_ _ _ _ (by decide)
      | with_reducible refine State.Touch.refuse ?_ _ _ _ (by decide)
      | with_reducible refine State.Touch.ite ?_ ?_
      | split
  exact hT.call k hl

theorem State.Touch.writeAna {l : List Part} {s0 s : State} (hT : State.Touch l s0 s)  (a : Nat) (r : RegRow) (v : Word)
    (hl : ∀ p ∈ ([.ana] : List Part), p ∈ l) : State.Touch l s0 (State.writeAna s a r v) := by
  have k : State.Touch [.ana] s (State.writeAna s a r v) := by
    unfold State.writeAna
    try dsimp only
    iterate 60 all_goals try first
      | with_reducible assumption
      | with_reducible exact State.Touch.refl _ _
      | with_reducible refine State.Touch.wr ?_ _ _
      | with_reducible refine State.Touch.when ?_ _ _ (fun u hu => ?_)
      | with_reducible refine State.Touch.putUnless ?_ _ _ _ _ _ (fun c u hu => ?_)
      | with_reducible refine State.Touch.anaCntClr ?_ (by decide)
      | with_reducible refine State.Touch.aoutDataWrite ?_ _ _ (by decide)
      | with_reducible refine State.Touch.aoutRefuse ?_ _ _ _ (by decide)
      | with_reducible refine State.Touch.chainRefuse ?_ _ _ _ (by decide)
      | with_reducible refine State.Touch.put ?_ _ _ _ (by decide)
      | with_reducible refine State.Touch.swoWrite ?_ _ _ _ _ (by decide)
      | with_reducible refine State.Touch.writeChain ?_ _ _ _ (by decide)
      | with_reducible refine State.Touch.writePin ?_ _ _ _ (by decide)
      | with_reducible refine State.Touch.ite ?_ ?_
      | split
  exact hT.call k hl

theorem State.Touch.ethCtrl {l : List Part} {s0 s : State} (hT : State.Touch l s0 s)  (v : Word)
    (hl : ∀ p ∈ ([] : List Part), p ∈ l) : State.Touch l s0 (State.ethCtrl s v) := by
  have k : State.Touch [] s (State.ethCtrl s v) := by
    unfold State.ethCtrl
    try dsimp only
    iterate 60 all_goals try first
      | with_reducible assumption
      | with_reducible exact State.Touch.refl _ _
      | with_reducible refine State.Touch.when ?_ _ _ (fun u hu => ?_)
      | with_reducible refine State.Touch.refusedBy ?_ _ (fun u hu => ?_)
      | with_reducible refine State.Touch.ethCntClr ?_ (by decide)
      | with_reducible refine State.Touch.ethSwap ?_ _ (by decide)
      | with_reducible refine State.Touch.ite ?_ ?_
      | split
  exact hT.call k hl

theorem State.Touch.writeEth {l : List Part} {s0 s : State} (hT : State.Touch l s0 s)  (a : Nat) (r : RegRow) (v : Word)
    (hl : ∀ p ∈ ([] : List Part), p ∈ l) : State.Touch l s0 (State.writeEth s a r v) := by
  have k : State.Touch [] s (State.writeEth s a r v) := by
    unfold State.writeEth
    try dsimp only
    iterate 60 all_goals try first
      | with_reducible assumption
      | with_reducible exact State.Touch.refl _ _
      | with_reducible refine State.Touch.wr ?_ _ _
      | with_reducible refine State.Touch.set ?_ _ _
      | with_reducible refine State.Touch.ethCfgEn ?_ _ _ (by decide)
      | with_reducible refine State.Touch.ethCtrl ?_ _ (by decide)
      | with_reducible refine State.Touch.ethRefuse ?_ _ _ _ (by decide)
      | with_reducible refine State.Touch.mdioWrite ?_ _ (by decide)
      | with_reducible refine State.Touch.put ?_ _ _ _ (by decide)
      | with_reducible refine State.Touch.refuse ?_ _ _ _ (by decide)
      | with_reducible refine State.Touch.ite ?_ ?_
      | split
  exact hT.call k hl

theorem State.Touch.canCtrl {l : List Part} {s0 s : State} (hT : State.Touch l s0 s)  (n : Nat) (a : Nat) (r : RegRow) (v : Word)
    (hl : ∀ p ∈ ([.can] : List Part), p ∈ l) : State.Touch l s0 (State.canCtrl s n a r v) := by
  have k : State.Touch [.can] s (State.canCtrl s n a r v) := by
    unfold State.canCtrl
    try dsimp only
    iterate 60 all_goals try first
      | with_reducible assumption
      | with_reducible exact State.Touch.refl _ _
      | with_reducible refine State.Touch.wr ?_ _ _
      | with_reducible refine State.Touch.when ?_ _ _ (fun u hu => ?_)
      | with_reducible refine State.Touch.canBoRecover ?_ _ (by decide)
      | with_reducible refine State.Touch.canCntClr ?_ _ (by decide)
      | with_reducible refine State.Touch.canRefuse ?_ _ _ _ (by decide)
      | with_reducible refine State.Touch.canSetMode ?_ _ _ (by decide)
      | with_reducible refine State.Touch.ite ?_ ?_
      | split
  exact hT.call k hl

theorem State.Touch.writeCan {l : List Part} {s0 s : State} (hT : State.Touch l s0 s)  (a : Nat) (r : RegRow) (v : Word)
    (hl : ∀ p ∈ ([.chans, .can] : List Part), p ∈ l) : State.Touch l s0 (State.writeCan s a r v) := by
  have k : State.Touch [.chans, .can] s (State.writeCan s a r v) := by
    unfold State.writeCan
    try dsimp only
    iterate 60 all_goals try first
      | with_reducible assumption
      | with_reducible exact State.Touch.refl _ _
      | with_reducible refine State.Touch.when ?_ _ _ (fun u hu => ?_)
      | with_reducible refine State.Touch.putUnless ?_ _ _ _ _ _ (fun c u hu => ?_)
      | with_reducible refine State.Touch.canCtrl ?_ _ _ _ _ (by decide)
      | with_reducible refine State.Touch.canObjen ?_ _ _ _ (by decide)
      | with_reducible refine State.Touch.canRefuse ?_ _ _ _ (by decide)
      | with_reducible refine State.Touch.canTtswap ?_ _ (by decide)
      | with_reducible refine State.Touch.canTxcancel ?_ _ _ (by decide)
      | with_reducible refine State.Touch.modObj ?_ _ _ _ (by decide)
      | with_reducible refine State.Touch.ite ?_ ?_
      | split
  exact hT.call k hl

theorem State.Touch.expertWrite {l : List Part} {s0 s : State} (hT : State.Touch l s0 s)  (session : Word) (block a : Nat) (r : RegRow) (v : Word)
    (hl : ∀ p ∈ ([] : List Part), p ∈ l) : State.Touch l s0 (State.expertWrite s session block a r v) := by
  have k : State.Touch [] s (State.expertWrite s session block a r v) := by
    unfold State.expertWrite
    try dsimp only
    iterate 60 all_goals try first
      | with_reducible assumption
      | with_reducible exact State.Touch.refl _ _
      | with_reducible refine State.Touch.put ?_ _ _ _ (by decide)
      | with_reducible refine State.Touch.refuse ?_ _ _ _ (by decide)
      | with_reducible refine State.Touch.ite ?_ ?_
      | split
  exact hT.call k hl

theorem State.Touch.writeOchre {l : List Part} {s0 s : State} (hT : State.Touch l s0 s)  (session : Word) (a : Nat) (r : RegRow) (v : Word)
    (hl : ∀ p ∈ ([.fab] : List Part), p ∈ l) : State.Touch l s0 (State.writeOchre s session a r v) := by
  have k : State.Touch [.fab] s (State.writeOchre s session a r v) := by
    unfold State.writeOchre
    try dsimp only
    iterate 60 all_goals try first
      | with_reducible assumption
      | with_reducible exact State.Touch.refl _ _
      | with_reducible refine State.Touch.set ?_ _ _
      | with_reducible refine State.Touch.arbCtrl ?_ _ _ _ _ _ (by decide)
      | with_reducible refine State.Touch.expertWrite ?_ _ _ _ _ _ (by decide)
      | with_reducible refine State.Touch.put ?_ _ _ _ (by decide)
      | with_reducible refine State.Touch.refuse ?_ _ _ _ (by decide)
      | with_reducible refine State.Touch.ite ?_ ?_
      | split
  exact hT.call k hl

theorem State.Touch.memWrite {l : List Part} {s0 s : State} (hT : State.Touch l s0 s)  (a : Nat)
    (hl : ∀ p ∈ ([] : List Part), p ∈ l) : State.Touch l s0 (State.memWrite s a) := by
  have k : State.Touch [] s (State.memWrite s a) := by
    unfold State.memWrite
    try dsimp only
    iterate 60 all_goals try first
      | with_reducible assumption
      | with_reducible exact State.Touch.refl _ _
      | with_reducible refine State.Touch.refuse ?_ _ _ _ (by decide)
      | with_reducible refine State.Touch.ite ?_ ?_
      | split
  exact hT.call k hl

theorem State.Touch.regWrite {l : List Part} {s0 s : State} (hT : State.Touch l s0 s)  (session : Word) (a : Nat) (v : Word)
    (hl : ∀ p ∈ ([.clk, .img, .mgt, .chans, .fab, .ctl, .slv, .alc, .can, .eth, .ana, .srv, .saf, .grp, .freeCtr, .recd, .port] : List Part), p ∈ l) : State.Touch l s0 (State.regWrite s session a v) := by
  have k : State.Touch [.clk, .img, .mgt, .chans, .fab, .ctl, .slv, .alc, .can, .eth, .ana, .srv, .saf, .grp, .freeCtr, .recd, .port] s (State.regWrite s session a v) := by
    unfold State.regWrite
    try dsimp only
    iterate 60 all_goals try first
      | with_reducible assumption
      | with_reducible exact State.Touch.refl _ _
      | with_reducible refine State.Touch.memWrite ?_ _ (by decide)
      | with_reducible refine State.Touch.writeAna ?_ _ _ _ (by decide)
      | with_reducible refine State.Touch.writeCan ?_ _ _ _ (by decide)
      | with_reducible refine State.Touch.writeClk ?_ _ _ _ (by decide)
      | with_reducible refine State.Touch.writeCore ?_ _ _ _ (by decide)
      | with_reducible refine State.Touch.writeEth ?_ _ _ _ (by decide)
      | with_reducible refine State.Touch.writeOchre ?_ _ _ _ _ (by decide)
      | with_reducible refine State.Touch.writeSrv ?_ _ _ _ (by decide)
      | with_reducible refine State.Touch.writeSys ?_ _ _ _ _ (by decide)
      | with_reducible refine State.Touch.writeTb ?_ _ _ _ (by decide)
      | with_reducible refine State.Touch.ite ?_ ?_
      | split
  exact hT.call k hl

end Sys2Proof.Machine
end

