-- ==== Sys2Proof/Laws/Touch/Management.lean ====
section
/-!
SUPPORT. Sys2Proof/Laws/Touch/Management.lean: which parts of the state each operation of Machine/Management.lean may change.
-/
set_option linter.all false
set_option maxRecDepth 4000
namespace Sys2Proof.Machine

theorem State.Touch.readEcc {l : List Part} {s0 s : State} (hT : State.Touch l s0 s)  (a : Nat)
    (hl : ∀ p ∈ ([.omem, .mgt, .chans, .fab, .ctl, .slv, .alc, .can, .eth, .ana, .srv, .grp, .port] : List Part), p ∈ l) : State.Touch l s0 (State.readEcc s a) := by
  have k : State.Touch [.omem, .mgt, .chans, .fab, .ctl, .slv, .alc, .can, .eth, .ana, .srv, .grp, .port] s (State.readEcc s a) := by
    unfold State.readEcc
    try dsimp only
    iterate 60 all_goals try first
      | with_reducible assumption
      | with_reducible exact State.Touch.refl _ _
      | with_reducible refine State.Touch.count ?_ _
      | with_reducible refine State.Touch.clusterFault ?_ _ _ (by decide)
      | with_reducible refine State.Touch.regionFault ?_ _ _ (by decide)
      | with_reducible refine State.Touch.retireBank ?_ _ _ _ (by decide)
      | with_reducible refine State.Touch.ite ?_ ?_
      | split
  exact hT.call k hl

theorem State.Touch.fetchWord {l : List Part} {s0 s : State} (hT : State.Touch l s0 s)  (a : Nat)
    (hl : ∀ p ∈ ([.fab] : List Part), p ∈ l) : State.Touch l s0 (State.fetchWord s a) := by
  have k : State.Touch [.fab] s (State.fetchWord s a) := by
    unfold State.fetchWord
    try dsimp only
    iterate 60 all_goals try first
      | with_reducible assumption
      | with_reducible exact State.Touch.refl _ _
      | with_reducible refine State.Touch.bridgeRead ?_ _ (by decide)
      | with_reducible refine State.Touch.ite ?_ ?_
      | split
  exact hT.call k hl

theorem State.Touch.readWord {l : List Part} {s0 s : State} (hT : State.Touch l s0 s)  (session : Word) (a : Nat) (ecc : ReadEcc)
    (hl : ∀ p ∈ ([.omem, .tb, .mgt, .chans, .fab, .ctl, .slv, .alc, .can, .eth, .ana, .srv, .grp, .freeCtr, .port] : List Part), p ∈ l) : State.Touch l s0 (State.readWord s session a ecc).1 := by
  have k : State.Touch [.omem, .tb, .mgt, .chans, .fab, .ctl, .slv, .alc, .can, .eth, .ana, .srv, .grp, .freeCtr, .port] s (State.readWord s session a ecc).1 := by
    unfold State.readWord
    try dsimp only
    iterate 60 all_goals try first
      | with_reducible assumption
      | with_reducible exact State.Touch.refl _ _
      | with_reducible refine State.Touch.count ?_ _
      | with_reducible refine State.Touch.busRead ?_ _ _ (by decide)
      | with_reducible refine State.Touch.fetchWord ?_ _ (by decide)
      | with_reducible refine State.Touch.fresh ?_ (by decide)
      | with_reducible refine State.Touch.readEcc ?_ _ (by decide)
      | with_reducible refine State.Touch.ite ?_ ?_
      | split
  exact hT.call k hl

theorem State.Touch.readWords {l : List Part} {s0 s : State} (h : State.Touch l s0 s) (session : Word) (ecc : Nat → ReadEcc)
    (xs : List (Nat × Nat)) (hl : ∀ p ∈ ([.omem, .tb, .mgt, .chans, .fab, .ctl, .slv, .alc, .can, .eth, .ana, .srv, .grp, .freeCtr, .port] : List Part), p ∈ l) : State.Touch l s0 (s.readWords session ecc xs).1 := by
  induction xs generalizing s with
  | nil => exact h
  | cons x xs ih =>
    obtain ⟨i, a⟩ := x
    exact ih (h.readWord session a _ hl)

theorem State.Touch.mgmtRead {l : List Part} {s0 s : State} (hT : State.Touch l s0 s)  (r : Req) (addr : Word) (count : BitVec 16) (ecc : Nat → ReadEcc)
    (hl : ∀ p ∈ ([.omem, .tb, .mgt, .chans, .fab, .ctl, .slv, .alc, .can, .eth, .ana, .srv, .grp, .freeCtr, .port] : List Part), p ∈ l) : State.Touch l s0 (State.mgmtRead s r addr count ecc).1 := by
  have k : State.Touch [.omem, .tb, .mgt, .chans, .fab, .ctl, .slv, .alc, .can, .eth, .ana, .srv, .grp, .freeCtr, .port] s (State.mgmtRead s r addr count ecc).1 := by
    unfold State.mgmtRead
    try dsimp only
    iterate 60 all_goals try first
      | with_reducible assumption
      | with_reducible exact State.Touch.refl _ _
      | with_reducible refine State.Touch.readWords ?_ _ _ _ (by decide)
      | with_reducible refine State.Touch.ite ?_ ?_
      | split
  exact hT.call k hl

theorem State.Touch.writeWord {l : List Part} {s0 s : State} (hT : State.Touch l s0 s)  (session : Word) (a : Nat) (v : Word)
    (hl : ∀ p ∈ ([.clk, .img, .mgt, .chans, .fab, .ctl, .slv, .alc, .can, .eth, .ana, .srv, .saf, .grp, .freeCtr, .recd, .port] : List Part), p ∈ l) : State.Touch l s0 (State.writeWord s session a v).1 := by
  have k : State.Touch [.clk, .img, .mgt, .chans, .fab, .ctl, .slv, .alc, .can, .eth, .ana, .srv, .saf, .grp, .freeCtr, .recd, .port] s (State.writeWord s session a v).1 := by
    unfold State.writeWord
    try dsimp only
    iterate 60 all_goals try first
      | with_reducible assumption
      | with_reducible exact State.Touch.refl _ _
      | with_reducible refine State.Touch.when ?_ _ _ (fun u hu => ?_)
      | with_reducible refine State.Touch.refusedBy ?_ _ (fun u hu => ?_)
      | with_reducible refine State.Touch.busError ?_ _ _ (by decide)
      | with_reducible refine State.Touch.regWrite ?_ _ _ _ (by decide)
      | with_reducible refine State.Touch.ite ?_ ?_
      | split
  exact hT.call k hl

theorem State.Touch.writeWords {l : List Part} {s0 s : State} (h : State.Touch l s0 s) (session : Word) (i a : Nat) (xs : List Word)
    (hl : ∀ p ∈ ([.clk, .img, .mgt, .chans, .fab, .ctl, .slv, .alc, .can, .eth, .ana, .srv, .saf, .grp, .freeCtr, .recd, .port] : List Part), p ∈ l) : State.Touch l s0 (s.writeWords session i a xs).1 := by
  induction xs generalizing s i a with
  | nil => exact h
  | cons v vs ih =>
    unfold State.writeWords
    dsimp only
    split
    · exact ih (h.writeWord session a v hl) _ _
    · exact h.writeWord session a v hl

theorem State.Touch.mgmtWrite {l : List Part} {s0 s : State} (hT : State.Touch l s0 s)  (r : Req) (addr : Word) (count : BitVec 16) (data : List Word)
    (hl : ∀ p ∈ ([.clk, .img, .mgt, .chans, .fab, .ctl, .slv, .alc, .can, .eth, .ana, .srv, .saf, .grp, .freeCtr, .recd, .port] : List Part), p ∈ l) : State.Touch l s0 (State.mgmtWrite s r addr count data).1 := by
  have k : State.Touch [.clk, .img, .mgt, .chans, .fab, .ctl, .slv, .alc, .can, .eth, .ana, .srv, .saf, .grp, .freeCtr, .recd, .port] s (State.mgmtWrite s r addr count data).1 := by
    unfold State.mgmtWrite
    try dsimp only
    iterate 60 all_goals try first
      | with_reducible assumption
      | with_reducible exact State.Touch.refl _ _
      | with_reducible refine State.Touch.writeWords ?_ _ _ _ _ (by decide)
      | with_reducible refine State.Touch.ite ?_ ?_
      | split
  exact hT.call k hl

theorem State.Touch.openSession {l : List Part} {s0 s : State} (hT : State.Touch l s0 s) 
    (hl : ∀ p ∈ ([.mgt, .freeCtr] : List Part), p ∈ l) : State.Touch l s0 (State.openSession s).1 := by
  have k : State.Touch [.mgt, .freeCtr] s (State.openSession s).1 := by
    unfold State.openSession
    try dsimp only
    iterate 60 all_goals try first
      | with_reducible assumption
      | with_reducible exact State.Touch.refl _ _
      | with_reducible refine State.Touch.endSession ?_ _ (by decide)
      | with_reducible refine State.Touch.fresh ?_ (by decide)
      | with_reducible refine State.Touch.ite ?_ ?_
      | split
      | with_reducible refine State.Touch.upd_mgt ?_ _ (by decide)
  exact hT.call k hl

theorem State.Touch.finalTimeout {l : List Part} {s0 s : State} (hT : State.Touch l s0 s)  (id : Word)
    (hl : ∀ p ∈ ([.mgt] : List Part), p ∈ l) : State.Touch l s0 (State.finalTimeout s id) := by
  have k : State.Touch [.mgt] s (State.finalTimeout s id) := by
    unfold State.finalTimeout
    try dsimp only
    iterate 60 all_goals try first
      | with_reducible assumption
      | with_reducible exact State.Touch.refl _ _
      | with_reducible refine State.Touch.endSession ?_ _ (by decide)
      | with_reducible refine State.Touch.ite ?_ ?_
      | split
  exact hT.call k hl

theorem State.Touch.subAdd {l : List Part} {s0 s : State} (hT : State.Touch l s0 s)  (r : Req) (kind div : Nat) (select destIp : Word) (destPort : BitVec 16)
    (hl : ∀ p ∈ ([.mgt] : List Part), p ∈ l) : State.Touch l s0 (State.subAdd s r kind div select destIp destPort).1 := by
  have k : State.Touch [.mgt] s (State.subAdd s r kind div select destIp destPort).1 := by
    unfold State.subAdd
    try dsimp only
    iterate 60 all_goals try first
      | with_reducible assumption
      | with_reducible exact State.Touch.refl _ _
      | with_reducible refine State.Touch.ite ?_ ?_
      | split
      | with_reducible refine State.Touch.upd_mgt ?_ _ (by decide)
  exact hT.call k hl

theorem State.Touch.subKeep {l : List Part} {s0 s : State} (hT : State.Touch l s0 s)  (p : Subscription → Bool)
    (hl : ∀ p ∈ ([.mgt] : List Part), p ∈ l) : State.Touch l s0 (State.subKeep s p) := by
  have k : State.Touch [.mgt] s (State.subKeep s p) := by
    unfold State.subKeep
    try dsimp only
    iterate 60 all_goals try first
      | with_reducible assumption
      | with_reducible exact State.Touch.refl _ _
      | with_reducible refine State.Touch.ite ?_ ?_
      | split
      | with_reducible refine State.Touch.upd_mgt ?_ _ (by decide)
  exact hT.call k hl

theorem State.Touch.subscribe {l : List Part} {s0 s : State} (hT : State.Touch l s0 s)  (r : Req) (action sub kind div : Nat) (select destIp : Word) (destPort : BitVec 16)
    (hl : ∀ p ∈ ([.mgt] : List Part), p ∈ l) : State.Touch l s0 (State.subscribe s r action sub kind div select destIp destPort).1 := by
  have k : State.Touch [.mgt] s (State.subscribe s r action sub kind div select destIp destPort).1 := by
    unfold State.subscribe
    try dsimp only
    iterate 60 all_goals try first
      | with_reducible assumption
      | with_reducible exact State.Touch.refl _ _
      | with_reducible refine State.Touch.subAdd ?_ _ _ _ _ _ _ (by decide)
      | with_reducible refine State.Touch.subKeep ?_ _ (by decide)
      | with_reducible refine State.Touch.ite ?_ ?_
      | split
  exact hT.call k hl

theorem State.Touch.subPush {l : List Part} {s0 s : State} (hT : State.Touch l s0 s)  (u : Subscription) (body : List Byte)
    (hl : ∀ p ∈ ([.mgt] : List Part), p ∈ l) : State.Touch l s0 (State.subPush s u body) := by
  have k : State.Touch [.mgt] s (State.subPush s u body) := by
    unfold State.subPush
    try dsimp only
    iterate 60 all_goals try first
      | with_reducible assumption
      | with_reducible exact State.Touch.refl _ _
      | with_reducible refine State.Touch.push ?_ _ (by decide)
      | with_reducible refine State.Touch.ite ?_ ?_
      | split
  exact hT.call k hl

theorem State.Touch.modSub {l : List Part} {s0 s : State} (hT : State.Touch l s0 s)  (i : Nat) (f : Subscription → Subscription)
    (hl : ∀ p ∈ ([.mgt] : List Part), p ∈ l) : State.Touch l s0 (State.modSub s i f) := by
  have k : State.Touch [.mgt] s (State.modSub s i f) := by
    unfold State.modSub
    try dsimp only
    iterate 60 all_goals try first
      | with_reducible assumption
      | with_reducible exact State.Touch.refl _ _
      | with_reducible refine State.Touch.ite ?_ ?_
      | split
      | with_reducible refine State.Touch.upd_mgt ?_ _ (by decide)
  exact hT.call k hl

theorem State.Touch.eventSend {l : List Part} {s0 s : State} (hT : State.Touch l s0 s)  (i : Nat)
    (hl : ∀ p ∈ ([.mgt] : List Part), p ∈ l) : State.Touch l s0 (State.eventSend s i) := by
  have k : State.Touch [.mgt] s (State.eventSend s i) := by
    unfold State.eventSend
    try dsimp only
    iterate 60 all_goals try first
      | with_reducible assumption
      | with_reducible exact State.Touch.refl _ _
      | with_reducible refine State.Touch.modSub ?_ _ _ (by decide)
      | with_reducible refine State.Touch.subKeep ?_ _ (by decide)
      | with_reducible refine State.Touch.subPush ?_ _ _ (by decide)
      | with_reducible refine State.Touch.ite ?_ ?_
      | split
  exact hT.call k hl

theorem State.Touch.setArm {l : List Part} {s0 s : State} (hT : State.Touch l s0 s)  (a : Option Arm)
    (hl : ∀ p ∈ ([.mgt] : List Part), p ∈ l) : State.Touch l s0 (State.setArm s a) := by
  have k : State.Touch [.mgt] s (State.setArm s a) := by
    unfold State.setArm
    try dsimp only
    iterate 60 all_goals try first
      | with_reducible assumption
      | with_reducible exact State.Touch.refl _ _
      | with_reducible refine State.Touch.ite ?_ ?_
      | split
      | with_reducible refine State.Touch.upd_mgt ?_ _ (by decide)
  exact hT.call k hl

theorem State.Touch.newArm {l : List Part} {s0 s : State} (hT : State.Touch l s0 s)  (session : Word) (kind : Nat)
    (hl : ∀ p ∈ ([.mgt, .freeCtr] : List Part), p ∈ l) : State.Touch l s0 (State.newArm s session kind).1 := by
  have k : State.Touch [.mgt, .freeCtr] s (State.newArm s session kind).1 := by
    unfold State.newArm
    try dsimp only
    iterate 60 all_goals try first
      | with_reducible assumption
      | with_reducible exact State.Touch.refl _ _
      | with_reducible refine State.Touch.fresh ?_ (by decide)
      | with_reducible refine State.Touch.setArm ?_ _ (by decide)
      | with_reducible refine State.Touch.ite ?_ ?_
      | split
  exact hT.call k hl

theorem State.Touch.devResetConfirm {l : List Part} {s0 s : State} (hT : State.Touch l s0 s)  (session token : Word)
    (hl : ∀ p ∈ ([.mgt, .port] : List Part), p ∈ l) : State.Touch l s0 (State.devResetConfirm s session token).1 := by
  have k : State.Touch [.mgt, .port] s (State.devResetConfirm s session token).1 := by
    unfold State.devResetConfirm
    try dsimp only
    iterate 60 all_goals try first
      | with_reducible assumption
      | with_reducible exact State.Touch.refl _ _
      | with_reducible refine State.Touch.raise ?_ _ _ _
      | with_reducible refine State.Touch.setArm ?_ _ (by decide)
      | with_reducible refine State.Touch.ite ?_ ?_
      | split
      | with_reducible refine State.Touch.upd_mgt ?_ _ (by decide)
  exact hT.call k hl

theorem State.Touch.pwrcycArm {l : List Part} {s0 s : State} (hT : State.Touch l s0 s)  (session : Word)
    (hl : ∀ p ∈ ([.mgt, .freeCtr] : List Part), p ∈ l) : State.Touch l s0 (State.pwrcycArm s session).1 := by
  have k : State.Touch [.mgt, .freeCtr] s (State.pwrcycArm s session).1 := by
    unfold State.pwrcycArm
    try dsimp only
    iterate 60 all_goals try first
      | with_reducible assumption
      | with_reducible exact State.Touch.refl _ _
      | with_reducible refine State.Touch.newArm ?_ _ _ (by decide)
      | with_reducible refine State.Touch.ite ?_ ?_
      | split
  exact hT.call k hl

theorem State.Touch.pwrcycConfirm {l : List Part} {s0 s : State} (hT : State.Touch l s0 s)  (session token : Word)
    (hl : ∀ p ∈ ([.mgt, .freeCtr, .port] : List Part), p ∈ l) : State.Touch l s0 (State.pwrcycConfirm s session token).1 := by
  have k : State.Touch [.mgt, .freeCtr, .port] s (State.pwrcycConfirm s session token).1 := by
    unfold State.pwrcycConfirm
    try dsimp only
    iterate 60 all_goals try first
      | with_reducible assumption
      | with_reducible exact State.Touch.refl _ _
      | with_reducible refine State.Touch.set ?_ _ _
      | with_reducible refine State.Touch.count ?_ _
      | with_reducible refine State.Touch.raise ?_ _ _ _
      | with_reducible refine State.Touch.newArm ?_ _ _ (by decide)
      | with_reducible refine State.Touch.setArm ?_ _ (by decide)
      | with_reducible refine State.Touch.ite ?_ ?_
      | split
  exact hT.call k hl

theorem State.Touch.spiRead {l : List Part} {s0 s : State} (hT : State.Touch l s0 s)  (early : Bool)
    (hl : ∀ p ∈ ([.mgt] : List Part), p ∈ l) : State.Touch l s0 (State.spiRead s early) := by
  have k : State.Touch [.mgt] s (State.spiRead s early) := by
    unfold State.spiRead
    try dsimp only
    iterate 60 all_goals try first
      | with_reducible assumption
      | with_reducible exact State.Touch.refl _ _
      | with_reducible refine State.Touch.count ?_ _
      | with_reducible refine State.Touch.ite ?_ ?_
      | split
      | with_reducible refine State.Touch.upd_mgt ?_ _ (by decide)
  exact hT.call k hl

end Sys2Proof.Machine
end

