-- ==== Sys2Proof/WellFormed.lean ====
section
/-!
DEFINITION. Sys2Proof/WellFormed.lean: which commands can reach the part at all: operands inside the fields that carry them.
-/
namespace Sys2Proof

/-- A number that an int32 argument carries. -/
def isInt32 (x : Int) : Bool := decide (-2147483648 ≤ x ∧ x < 2147483648)

/-- R445: a message carries a MAC of 16 bytes. -/
def Req.wf (r : Req) : Bool := decide (r.mac.length = 16)

/-- Table 18-3: the 16 bytes of a waypoint. -/
def Waypoint.wf (w : Waypoint) : Bool :=
  isInt32 w.n && isInt32 w.e && decide (w.speed < 2 ^ 16) && decide (w.rule < 2 ^ 8) && decide (w.psi < 2 ^ 32)

/-- The payload lengths that a CAN data length code names: up to 8 bytes in a classic frame, up to 64 in an FD frame. -/
def canLengths (fd : Bool) : List Nat := List.range 9 ++ if fd then [12, 16, 20, 24, 32, 48, 64] else []

/-- R307: a frame that a CAN FD bus can carry: an identifier of 11 or 29 bits, a length that a length code names, and remote
frames and the FD flags only where the format has them. -/
def CanFrame.wf (f : CanFrame) : Bool :=
  (f.ide || decide (f.id.toNat < 2 ^ 11)) && decide (f.data.length ∈ canLengths f.fdf) &&
  (!f.remote || (!f.fdf && f.data.isEmpty)) && (f.fdf || (!f.brs && !f.esi))

/-- R337: received frames are of up to 1,522 bytes. -/
def EthRx.wf (f : EthRx) : Bool := decide (f.len ≤ 1522)

/-- R351: an item of a SENSOR frame: DT is an int32, and LEN of its body a byte. -/
def SensorItem.wf (x : SensorItem) : Bool := isInt32 x.dt && decide (x.body.length < 256)

/-- A command whose operands fit the fields that carry them. -/
def Instr.wf : Instr → Bool
  | .waitAbort chain => !chain.isEmpty
  | .sensorFrame _ _ _ _ _ _ items _ => items.all SensorItem.wf
  | .mode r _ => r.wf
  | .setpoint r _ _ n e psi speed => r.wf && isInt32 n && isInt32 e && isInt32 psi && isInt32 speed
  | .targetOffset r dn de dpsi => r.wf && isInt32 dn && isInt32 de && isInt32 dpsi
  | .trackWrite r _ points => r.wf && decide (points.length < 2 ^ 8) && points.all Waypoint.wf
  | .trackSwap r => r.wf
  | .originMove r lat lon => r.wf && isInt32 lat && isInt32 lon
  | .calFreeze r _ => r.wf
  | .calWrite r _ _ _ value => r.wf && isInt32 value
  | .calRead r _ _ _ => r.wf
  | .compEngaged r _ => r.wf
  | .heartbeatRx payload => decide (payload.length ≤ 1522)
  | .stateFragmentRx payload => decide (payload.length ≤ 1522)
  | .healthRx payload => decide (payload.length ≤ 1522)
  | .claimRx payload => decide (payload.length ≤ 1522)
  | .offerRx payload => decide (payload.length ≤ 1522)
  | .safeHold r => r.wf
  | .safeRelease r => r.wf
  | .safetyReload r _ _ => r.wf
  | .canFrameRx _ f _ _ => f.wf
  | .ethFrameRx _ f => f.wf
  | .nvmRead r _ _ _ => r.wf
  | .nvmWrite r _ _ _ data => r.wf && decide (data.length < 2 ^ 16)
  | .nvmErase r _ _ => r.wf
  | .keyProgram r key => r.wf && decide (key.length < 2 ^ 16)
  | .mgmtRead r _ _ _ _ => r.wf
  | .mgmtWrite r _ _ data => r.wf && decide (data.length < 2 ^ 14)
  | .subscribe r _ _ _ _ _ _ _ => r.wf
  | .openSession r => r.wf
  | .closeSession r => r.wf
  | .chCreate r _ _ body => r.wf && decide (body.length < 2 ^ 16)
  | .chDestroy r _ => r.wf
  | .chQuery r _ _ => r.wf
  | .funcReinit r _ _ => r.wf
  | .devResetArm r => r.wf
  | .devResetConfirm r _ => r.wf
  | .pwrcycArm r => r.wf
  | .pwrcycConfirm r _ => r.wf
  | .recFreeze r => r.wf
  | .recRelease r => r.wf
  | .powerOn | .supplyBelowDetector _ | .resetNAssert | .resetRelease _ _ | .oscStartSatisfied _ | .sourceReady _
  | .sourceRecovered _ | .clkNoOsc | .pllLock | .sourceTrip _ | .pllLockLost | .clkReturn | .clkCtrlRefsel _
  | .clkGateWrite _ _ _ | .gateCloseDeferred _ _ | .clkGateForced _ _ _ | .clkCntClr | .pwrcycAssertEnd | .pwrcycNotDone
  | .ochreSupplyAbsent _ | .imageCheckDone | .sectionsLoaded _ _ | .cobaltBootDone _ _ _ _ | .comparatorFire _
  | .trigPulseEnd _ | .invalidCodeword _ | .handshakeWatchdog _ | .bridgeAckTimeout _ | .taskDispatch _ _ | .pipCopyValid _ _
  | .spareWakeDone _ _ _ | .pipLoadDone _ _ | .operationComplete _ _ _ _ | .completionToken _ _ | .slackToken _ | .slkClr
  | .arbRequest _ _ | .arbOwnerRelease _ | .arbBurstLimit _ _ | .bankarbCtrlWrite _ _ _ | .egrarbCtrlWrite _ _
  | .channelPortOutput _ | .fltCntClr | .frameStart | .emissionTime | .fusionDeadline | .planDeadline | .uartSentence _ _ _ _ _
  | .e450Datagram _ _ _ _ _ | .captureEdge _ _ _ | .intakeClose _ | .outlierReject _ | .innovReject _ | .timeReadmit _
  | .sourceReadmit _ | .frozenReject _ | .estimatorSettled | .holdoverExpired | .windAgree | .lateSampleExpired | .epochPublish _ _ _
  | .fusCalFreeze _ | .fusCntClr | .ctlModecmdWrite _ | .pmsTimeout | .targetLost | .srcLost | .srcHoldExpired | .compExitEnd
  | .iterationEnd _ _ _ | .solverRestart _ _ | .refreshComplete _ _ _ _ | .solveStopTime _ | .conseqGroupTime _ | .slvRefresh _
  | .slvCntClr | .alcEnableWrite _ | .alcCntClr | .driveFeedback _ | .driveTimeout _ | .readmitConditionMet _ _
  | .conseqGroupRelease | .cqShareMiss _ | .cqStale _ | .cqaRestart | .cqaCntClr | .servoBoundary _ | .outerBoundary _
  | .stallFault _ | .srvCmdClose _ | .srvCmdOpen _ | .srvCmdClrFault _ | .srvSpsrcWrite _ _ | .srvHostspWrite _ _ | .srvCntClr
  | .heartbeatDue | .takeoverTimeout | .rankWaitExpired | .formWaitExpired | .groupIsolated | .slhHandover _ | .slhCntClr
  | .formingHealthDue | .safetyChannelRecognised _ _ _ _ _ | .c1StopTimer _ _ | .discrepancyLatch _ _ | .twoHandSyncTimeout _ _
  | .tpPulseSample _ _ _ | .offPulseTest _ _ | .cobaltCycle | .tickCrossCheck _ | .xcheckFault _ | .outputReadbackFault _ _ _
  | .selftestFail _ | .chargePumpDeenergise _ _ | .safCtrlHold | .safCtrlRelease | .safCntClr | .slateReloadDone _
  | .safetyReloadTimeout | .tpPulseStart _ | .offPulseEnd _ _ _ | .canTxEnd _ _ _ | .canBusIdleDetect _ | .busoffRecovered _
  | .canCtrlMode _ _ | .canBoRecover _ | .canCntClr _ | .canTxcancel _ _ | .canTtswap _ | .canObjenWrite _ _ _
  | .detDwellExpired _ | .canNoRate _ | .basicCycleStart _ | .ttBackupTimeout _ | .ttWindowStart _ _ _ | .reasmTimeout _ _
  | .pairRxTimeout _ _ | .canRxError _ _ _ _ | .canTxStart _ _ | .prpHoldExpired _ _ | .prpNodeForget _ | .prpSupervisionTx
  | .egressFrameStart _ | .linkChange _ _ _ | .ethCfgEn _ _ | .ethSwapPair | .ethSwapMgmt | .ethCntClr | .mdioGo _
  | .mdioDone _ | .e450Tx | .ptpMessageRx _ _ | .tbStep | .ptpMessageDue _ _ | .announceTimeout _ | .syncLoss _ | .tbRearm
  | .tbIncWrite _ | .tbJumpLimWrite _ | .tbCntClr | .comparatorEnable _ | .tbNsRead | .tbCapValRead _ | .tbFault
  | .chainOutput _ _ | .chainStart _ | .chainStop _ | .modStuck _ | .chainDcbWrite _ _ | .anaCntClr | .aoutDataWrite _ _
  | .pinEdge _ _ _ | .pinGateEnd _ | .pinZeroTimeout _ | .pinStart _ | .pinStop _ | .pinLoad _ | .swoSet _ _ | .swoClr _ _
  | .dinEdge _ _ | .imgVerify _ | .bankVerifyDone _ | .imgAdopt _ | .imgReloadRegion _ | .imgCntClr | .regionSectionLoaded _ _
  | .regionCopybackDone | .adoptStepDone _ _ | .imageConflictRepeat | .nvmOpDone _ _ | .registerWrite _ _
  | .sessionFinalTimeout _ | .funcReinitDone _ _ _ _ | .funcReinitTimeout _ _ | .devResetEntry | .armExpired
  | .spiReadTransfer _ | .eventMessageSend _ | .sysExpertKey _ _ | .expertUnlockExpired _ | .sysCntClr | .mgtCntClr
  | .eventCommit | .recordProgramDone _ _ | .sectorEraseDone _ _ | .recorderReady | .freezeDrained | .freezeTimeout
  | .recCtrlFreeze | .recCtrlRelease | .recCntClr | .timeMark => true

end Sys2Proof
end

