-- ==== Sys2Proof/Tests/Slice0.lean ====
section
/-!
SUPPORT. Sys2Proof/Tests/Slice0.lean: small states; for each statement with hypotheses, one theorem with values that meet them, clause by
clause; terms that the well-formedness checks refuse.
-/
open Sys2Proof Sys2Proof.Machine
namespace Sys2Proof.Tests
set_option Elab.async false

/-! A small image, and states that stand on it. -/

/-- A source: declared, with a latency of 1 ms. -/
def src0 : SrcCfg :=
  { declared := true, latNs := 1000000, xlimNs := 0, ownClock := false, pps := none, absolute := true, noiseVar := 100
    errBound := 1, frozenNs := 1000000000, compass := false, group := 0, lever := (0, 0, 0), variances := [1, 4], shadow := [] }

/-- The parameters of a solver class. -/
def slv0 : SlvCfg :=
  { barrier := false, rho := 1, sigma := 1, alpha := 1, muShrink := 1 / 2, stepFrac := 1 / 2, wp := 1, wd := 1, tol := 1
    maxIter := 10, epsPiv := 0, deltaPiv := 1, groupTimeMs := 1, order := [], xScale := [], rowScale := [], costScale := 1 }

/-- An observer without waves or wind. -/
def obs0 : ObsCfg :=
  { mass := [], damp := [], waveW := [], waveZ := [], tb := 1, noise := [], p0 := [], wind := [], epsPiv := 0, deltaPiv := 1
    fmt := [], covFmt := [] }

/-- A tunnel thruster. -/
def thr0 : ThrCfg :=
  { kind := .tunnel, x := 0, y := 0, tMax := 1000, tRev := 1000, tDot := 1, tau := 1, wT := none, smooth := none, drvTimeoutNs := 0
    pMax := 1, section_ := 0, omega := 1, wsWidth := 1, wsHyst := 1, slewT := 1, azMinT := 1, forbidden := [], reduced := []
    etaTable := [], driveTable := [], azLoop := none, pitchLoop := none, deployed := none, safeThrust := 0, safeAz := 0
    safeDrive := 0, window := (0, 0) }

/-- A schedule entry's header by its fields (Table 3-2): DCLASS, PRIO, TASK, ORDER, NDEP, HOME, ALT, NOPS, SIB. -/
def hdr (cls prio task order ndep home alt nops sib : Nat) : BitVec 128 :=
  BitVec.ofNat 128 (cls * 2 ^ 124 + prio * 2 ^ 120 + task * 2 ^ 108 + order * 2 ^ 92 + ndep * 2 ^ 86 + home * 2 ^ 68 +
    alt * 2 ^ 63 + 1000 * 2 ^ 35 + nops * 2 ^ 27 + sib * 2 ^ 14)

/-- An operation entry by its fields (Table 3-3): OPC, LEN, A, B, D. -/
def opEntry (opc len a b d : Nat) : BitVec 128 :=
  BitVec.ofNat 128 (opc * 2 ^ 120 + (len - 1) * 2 ^ 112 + a * 2 ^ 91 + b * 2 ^ 70 + d * 2 ^ 49)

/-- A task of three operations. -/
def task0 (cls prio task order ndep home alt : Nat) : TaskDef :=
  { header := hdr cls prio task order ndep home alt 3 (home % 4)
    ops := [opEntry 0x02 1 0 4 8, opEntry 0x16 1 0 0 0, opEntry 0x0C 1 0 4 8], succ := [], banks := 0, areas := [], test := false }

/-- A safety function on one input. -/
def fn0 (typ : FnType) (inp : Nat) : FnCfg :=
  { typ := typ, inp := inp, chB := false, anti := false, cat1 := false, auto := false, resetIn := none, tpA := none, tpB := none
    pairs := 1, owner := 3 }

/-- A function table of one technology. -/
def saf0 : SafetyCfg :=
  { fns := List.replicate 31 none ++ [some (fn0 .eStop 31)], thr := List.replicate 16 0, opt := List.replicate 16 true
    tpOwner := List.replicate 8 0, crc := 0 }

/-- An image with a little of everything. -/
def cfg0 : ImageCfg :=
  { clock := { refFitted := true, xtalFitted := true, xtalCold := false }
    time :=
      { tbInc := 0x02000000, compat := false, tCorrS := 1, lockThrNs := 1000, lockN := 4, ptpEnabled := [true, true, true]
        oneStep := [false, false, false], slaveOnly := false
        own := { priority1 := 128, clockClass := 248, accuracy := 0xFE, variance := 0, priority2 := 128, identity := 1, steps := 0 } }
    region :=
      { tasks := [task0 1 15 4095 1 2 31 27, task0 1 3 7 2 1 31 27], spares := List.replicate 8 1, regs := [], memory := []
        blocks := [], solvers := [] }
    channels := { live := [], declared := [(1, 15), (7, 63), (13, 7)], maxima := [] }
    recorder := { classMask := 0xFFFFFFFF, timeRecS := 0 }
    keys := { mgmt := [[1], [2], [3], [4]], group := [5] }
    fus :=
      { src := List.replicate 28 src0, gate := 9, gateN := 3, medianLimMm := 5000, wcap := 1, refMin := 1, refSet := 1, bandHdg := 10
        bandRp := 10, bandHeave := 10, bandWs := 10, bandWd := 10, sigPosSet := 1000, sigPsiSet := 1000, sigVelSet := 1000
        envMax := (0, 0, 0), rejHoldNs := 0, obs := obs0
        cal := [{ slot := 27, state := 1, elem := 0, lo := -10, hi := 10, init := 0, noise := 0, p0 := 1 }], originRadiusMm := 1000
        channel := 0 }
    ctl :=
      { qhead := 1, weights := .stiffness 1 1 1, slv := slv0, pivot := (0, 0), capFrac := 1, pmsFallback := 1, planOldMs := 1000, windFf := 1, emitNs := 9000000, wvTau := 10, joyGain := (1, 1, 1)
        spStepMm := 1000, spStepPsi := 1000, speedMax := 1000000, vMax := (1, 1, 1), aMax := (1, 1, 1), trkCaptureMm := 1000
        target := none, joystick := none, lever := none, targets := List.replicate 4 src0, wvFmin := 0, compLeadNs := 0
        compExitMs := 0, srcTimeoutMs := 0, srcRampMs := 0, lines := [], comps := [], compInput := none, overlays := []
        planChannel := 0, statusChannel := 0 }
    alc :=
      { thr := List.replicate 32 thr0, groups := List.replicate 48 { thr := 1, sect := 0, refs := 0, hdg := 0 }, smooth := 1, wS := 1, cqStaleNs := 0
        shared := false, powerMargin := 1, shortTol := 1
        cqScale := 1, cqDeg := 1, cqFloor := 0, channel := 0, slvAlloc := slv0, slvConseq := slv0 }
    uart := List.replicate 16 (1, 0)
    powerHandle := 0
    can := List.replicate 8 { mode := 1, detNext := 1, candidates := [0], duplicated := false }
    net :=
      { vids := [[1], [1], [1]], ethertype := 0x88B5, outputs := []
        sensors := [{ port := 2, sender := 0xFFFF, kind := 1, index := 0, typ := 1, chan := 15 },
          { port := 2, sender := 0xFFFF, kind := 10, index := 0, typ := 0, chan := 0 }]
        e450Sources := [([65], 1, 15)], ownSource := [66], talker := [67], e450Dest := 0 }
    ana := { chainRun := [], pinRun := [], aout := [], expertTaps := [], roleGated := [], roleOut := [], feeds := [] }
    grp := { size := 3, mac := 0x01005E000001, own := 2 }
    srv := List.replicate 64 (some { bind := none, safe := 0 })
    slate := saf0
    regs := [] }

/-- Three facts put before a fourth. -/
theorem first3 {a b c r : Prop} (h : a ∧ b ∧ c) (k : r) : a ∧ b ∧ c ∧ r := h.imp_right (fun x => x.imp_right (fun y => ⟨y, k⟩))

/-- A state of a part that is released from reset and runs the image: after `f`, with register fields set. -/
def W (l : List (Field × Nat)) (f : State → State) : State :=
  ({ l.foldl (fun s x => s.set x.1 x.2) (f { State.reset with cfg := some cfg0 }) with
      rst := { inReset := false, resetN := false } } : State).mirror

theorem W_live (l : List (Field × Nat)) (f : State → State) : (W l f).Live :=
  ⟨rfl, State.mirror_inv _⟩

/-- A request of an open session, before it is signed. -/
def req0 : Req :=
  { path := .spi, srcIp := 0, srcPort := 0, ver := 1, member := 0, session := 1, tseq := 0xFFFFFFFF, len := 0, mac := [] }

/-- A request with its length and its MAC. -/
def sign (s : State) (r : Req) (t : Nat) (b : List Byte) : Req :=
  { r with len := BitVec.ofNat 16 b.length, mac := s.reqMac { r with len := BitVec.ofNat 16 b.length } t b }

/-- The session that `req0` belongs to is open. -/
def withSession (s : State) : State := { s with mgt := { s.mgt with sessions := [{ id := 1, lastTseq := some 0xFFFFFFFE }] } }

/-- What a request needs to be heard, beside its length and its MAC. -/
def hearing (s : State) (r : Req) (b : List Byte) : Bool :=
  decide (s.mgt.outSpi.length < 16) && !s.deaf r.path && !s.noAuth && s.cfg.isSome && decide (r.ver = 1) && decide (b.length < 65536) &&
    decide (r.member.toNat = s.get Fld.SYS_STRAP_GROUP_ID)

theorem heard_sign {s : State} {r : Req} {t : Nat} {b : List Byte}
    (h : hearing s r b = true) : s.Heard (sign s r t b) t b := by
  simp only [hearing, Bool.and_eq_true, decide_eq_true_eq, Bool.not_eq_true'] at h
  obtain ⟨⟨⟨⟨⟨⟨room, hears⟩, auth⟩, image⟩, ver⟩, len⟩, member⟩ := h
  exact ⟨fun _ => room, hears, auth, image, ⟨ver, by simp [sign, BitVec.toNat_ofNat]; omega⟩, rfl, member⟩

theorem accepts_sign {s : State} {r : Req} {t : Nat} {b : List Byte} (x : Session)
    (h : hearing s r b = true)
    (h' : r.session ≠ 0 ∧ s.session r.session = some x ∧ x.last < r.tseq.toNat) : s.Accepts (sign s r t b) t b :=
  ⟨heard_sign h, h'.1, x, h'.2.1, h'.2.2⟩

theorem witness_StepRunsTheFrontCommand :
    (∃ (c : Instr) (q : List Instr) (s : State), s.pending = c :: q) ∧
    (∃ (s : State), s.pending = [] ∧ s.rst.inReset = true) ∧
    (∃ (s : State), s.Live ∧ s.pending = []) :=
  ⟨⟨Instr.clkCntClr, [.pllLock], { State.reset with pending := [.clkCntClr, .pllLock] }, by decide +kernel⟩,
   ⟨State.reset, by decide +kernel⟩,
   ⟨W [] id, W_live _ _, by decide +kernel⟩⟩

theorem witness_EveryCommandCompletesAndResetHoldsThePart :
    (∃ (c : Instr) (s : State), s.rst.inReset = true ∧ c ∉ [.powerOn, .supplyBelowDetector .aon, .supplyBelowDetector .um, .resetNAssert,
        .pwrcycAssertEnd, .pwrcycNotDone] ∧ (∀ g ms, c ≠ .resetRelease g ms)) :=
  ⟨Instr.clkCntClr, State.reset, by decide +kernel, by decide +kernel, fun _ _ => nofun⟩

theorem witness_EveryStepKeepsTheInvariant :
    (∃ (s : State) (t : State), s.Inv ∧ Machine.step s = .next t) :=
  ⟨W [] (fun s => { s with pending := [.clkCntClr] }), _, (W_live _ _).inv, rfl⟩

theorem witness_TheImageKeyIsNeverErased :
    (∃ (c : Instr) (s : State) (t : State) (k : List Byte), s.keyStore = some k ∧ exec c s = .next t) :=
  ⟨Instr.powerOn, { State.reset with keyStore := some [1] }, _, _, rfl, rfl⟩

theorem witness_EventsWaitInOrder :
    (∃ (c : Instr) (s : State) (t : State), exec c s = .next t ∧ c ≠ .eventCommit ∧ t.rst.inReset = false) ∧
    (∃ (s : State) (e : Event) (es : List Event), s.Live ∧ s.recd.port = e :: es) :=
  ⟨⟨Instr.clkCntClr, W [] id, _, rfl, by decide +kernel⟩,
   ⟨W [] (fun s => { s with recd := { s.recd with port := [{ code := 0x5807, source := 0, data := [] }] } }),
       ({ code := 0x5807, source := 0, data := [] } : Event), ([] : List Event), W_live _ _, by decide +kernel⟩⟩

theorem witness_NvmChangesOnlyAtItsCompletions :
    (∃ (c : Instr) (s : State) (t : State), exec c s = .next t ∧ (∀ b ok, c ≠ .recordProgramDone b ok ∧ c ≠ .sectorEraseDone b ok ∧
        c ≠ .nvmOpDone b ok)) ∧
    (∃ (c : Instr) (s : State) (t : State), exec c s = .next t ∧ cellsWf 0xFF s.nvm0 ∧ cellsWf 0xFF s.nvm1) :=
  ⟨⟨Instr.clkCntClr, W [] id, _, rfl, fun _ _ => ⟨nofun, nofun, nofun⟩⟩,
   ⟨Instr.clkCntClr, W [] (fun s => { s with nvm0 := [(0xFFFFFF, 0)] }), _, rfl, by decide +kernel⟩⟩

theorem witness_QueueAndFrameAreTheirOwn :
    (∃ (c : Instr) (s : State) (t : State), exec c s = .next t) :=
  ⟨Instr.clkCntClr, W [] id, _, rfl⟩

theorem witness_ExternalSourcesStartTripAndRecover :
    (∃ (s : State) (x : ExtSource), s.Live ∧ s.clk.enabled x = true) ∧
    (∃ (s : State) (x : ExtSource), s.Live ∧ s.clk.started x = true ∧ s.srcReady x = false) ∧
    (∃ (s : State) (x : ExtSource), s.Live ∧ s.clk.enabled x = true ∧ s.srcSelected x = false) ∧
    (∃ (s : State) (x : ExtSource), s.Live ∧ s.clk.enabled x = true ∧ s.srcSelected x = true ∧ s.srcReady (otherSource x) = true) ∧
    (∃ (s : State) (x : ExtSource), s.Live ∧ s.clk.tripped x = true) :=
  ⟨⟨W [] (fun s => { s with clk := { s.clk with xtalEnabled := true } }), ExtSource.crystal, W_live _ _, by decide +kernel⟩,
   ⟨W [] (fun s => { s with clk := { s.clk with xtalEnabled := true, xtalMet := true } }), ExtSource.crystal, W_live _ _, by decide +kernel⟩,
   ⟨W [(srcRdy .crystal, 1), (Fld.CLK_CTRL_REFSEL, 0)] (fun s => { s with clk := { s.clk with xtalEnabled := true, xtalMet := true } }),
       ExtSource.crystal, W_live _ _, by decide +kernel⟩,
   ⟨W [(srcRdy .reference, 1), (srcRdy .crystal, 1), (Fld.CLK_CTRL_REFSEL,
       1)] (fun s => { s with clk := { s.clk with xtalEnabled := true, xtalMet := true } }), ExtSource.crystal, W_live _ _, by decide +kernel⟩,
   ⟨W [] (fun s => { s with clk := { s.clk with xtalEnabled := true, xtalTripped := true } }), ExtSource.crystal, W_live _ _, by decide +kernel⟩⟩

theorem witness_PllAndLimpClocks :
    (∃ (s : State), s.Live ∧ s.srcReady .reference = false ∧ s.srcReady .crystal = false ∧ s.get Fld.CLK_STAT_NO_OSC = 0) ∧
    (∃ (s : State) (x : ExtSource), s.Live ∧ s.srcSelected x = true ∧ s.srcReady x = true) ∧
    (∃ (s : State), s.Live ∧ s.get Fld.CLK_STAT_LIMP = 1 ∧ s.get Fld.CLK_STAT_PLL_LOCK = 1) ∧
    (∃ (s : State), s.Live) ∧
    (∃ (s : State) (x : ExtSource), s.Live ∧ s.clk.enabled x = true ∧ s.srcSelected x = true ∧ s.srcReady (otherSource x) = false ∧
        s.get Fld.CLK_STAT_LIMP = 0 ∧ s.rd Reg.CLK_DOMSTAT ≠ 0) ∧
    (∃ (s : State), s.Live ∧ s.get Fld.CLK_STAT_PLL_LOCK = 1 ∧ s.get Fld.CLK_STAT_LIMP = 0 ∧ s.rd Reg.CLK_DOMSTAT ≠ 0) :=
  ⟨⟨W [] id, W_live _ _, by decide +kernel⟩,
   ⟨W [(srcRdy .crystal, 1), (Fld.CLK_CTRL_REFSEL, 1)] id, ExtSource.crystal, W_live _ _, by decide +kernel⟩,
   ⟨W [(Fld.CLK_STAT_LIMP, 1), (Fld.CLK_STAT_PLL_LOCK, 1)] id, W_live _ _, by decide +kernel⟩,
   ⟨W [] id, W_live _ _⟩,
   ⟨W [(srcRdy .reference, 1), (Fld.CLK_CTRL_REFSEL, 0), (Fld.CLK_DOMSTAT_SRC_D 0, 1), (Fld.CLK_STAT_PLL_LOCK,
       1)] (fun s => { s with clk := { s.clk with refEnabled := true, refMet := true } }), ExtSource.reference, W_live _ _, by decide +kernel⟩,
   ⟨W [(Fld.CLK_STAT_PLL_LOCK, 1), (Fld.CLK_DOMSTAT_SRC_D 0, 1)] id, W_live _ _, by decide +kernel⟩⟩

theorem witness_ResetsKeepTheStoresAndTheAlwaysOnDomain :
    (∃ (s : State), s.Live ∧ s.mgt.resetDue = true) :=
  ⟨W [] (fun s => { s with mgt := { s.mgt with resetDue := true } }), W_live _ _, by decide +kernel⟩

theorem witness_ReleaseAndPowerCycleEnd :
    (∃ (s : State), s.rst.inReset = true) ∧
    (∃ (s : State), s.get Fld.AON_PWRCYC_ACTIVE = 1) ∧
    (∃ (s : State), s.Live ∧ s.aon.pwrcycWait = true) :=
  ⟨⟨State.reset, by decide +kernel⟩,
   ⟨W [(Fld.AON_PWRCYC_ACTIVE, 1)] id, by decide +kernel⟩,
   ⟨W [] (fun s => { s with aon := { s.aon with pwrcycWait := true } }), W_live _ _, by decide +kernel⟩⟩

theorem witness_PeripheralGates :
    (∃ (s : State) (r : Fin 2) (v : Word), s.Live ∧ (∀ b < 32, (s.rd (gateReg r) &&& ~~~v).getLsbD b = true → s.gateRuns r b = false)) ∧
    (∃ (s : State) (r : Fin 2) (v : Word) (b : Nat), s.Live ∧ b < (if r = 0 then 18 else 16) ∧ (s.rd (gateReg r)).getLsbD b = true ∧
        v.getLsbD b = false ∧ s.gateRuns r b = true) ∧
    (∃ (s : State), s.Live) ∧
    (∃ (s : State) (r : Fin 2) (b : Fin 32), s.Live ∧ (s.deferred r).getLsbD b = true) ∧
    (∃ (s : State), s.Live) :=
  ⟨⟨W [] id, (1 : Fin 2), 0x1FFFF, W_live _ _, by decide +kernel⟩,
   ⟨W [(Fld.CANn_CTRL_MODE 7, 1), ((⟨Reg.CLK_GATE0, 7, 1⟩ : Field), 1)] id, 0, 0, 7, W_live _ _, by decide +kernel⟩,
   ⟨W [] id, W_live _ _⟩,
   ⟨W [] (fun s => { s with clk := { s.clk with deferred1 := 0x80000000 } }), 1, 31, W_live _ _, by decide +kernel⟩,
   ⟨W [] id, W_live _ _⟩⟩

theorem witness_EventsAreCommittedInOrder :
    (∃ (s : State) (e : Event) (es : List Event), s.Live ∧ s.recd.port = e :: es ∧ e.code ≠ 0x5807) ∧
    (∃ (s : State) (e : Event) (es : List Event), s.Live ∧ s.recd.port = e :: es ∧ e.code = 0x5807) :=
  ⟨⟨W [] (fun s => { s with recd := { s.recd with port := [{ code := 1, source := 0, data := [] }] } }), { code := 1, source := 0, data := [] },
      [], W_live _ _, by decide +kernel⟩,
   ⟨W [] (fun s => { s with recd := { s.recd with port := [{ code := 0x5807, source := 0, data := [] }] } }),
       ({ code := 0x5807, source := 0, data := [] } : Event), ([] : List Event), W_live _ _, by decide +kernel⟩⟩

theorem witness_RecordsAreProgrammedInTwoSteps :
    (∃ (s : State) (x : Record) (xs : List Record), s.Live ∧ s.recd.queue0 = x :: xs ∧ s.recd.erase0 = none ∧ s.get Fld.REC_STAT_READY = 1 ∧
        s.get Fld.REC_STAT_FROZEN = 0 ∧ s.recd.body0 = false) ∧
    (∃ (s : State) (x : Record) (xs : List Record), s.Live ∧ s.recd.queue1 = x :: xs ∧ s.recd.erase1 = none ∧ s.get Fld.REC_STAT_READY = 1 ∧
        s.get Fld.REC_STAT_FROZEN = 0 ∧ s.recd.body1 = true) ∧
    (∃ (s : State) (x : Record) (xs : List Record), s.Live ∧ s.recd.queue0 = x :: xs ∧ s.recd.erase0 = none ∧ s.get Fld.REC_STAT_READY = 1 ∧
        s.get Fld.REC_STAT_FROZEN = 0) ∧
    (∃ (s : State) (n : ℕ), s.Live ∧ s.recd.erase0 = some n) ∧
    (∃ (s : State) (n : ℕ), s.Live ∧ s.recd.erase1 = some n) :=
  ⟨⟨W [(Fld.REC_STAT_READY,
      1)] (fun s => { s with recd := { s.recd with queue0 := [{ optime := 0, pcycle := 0, code := 1, held := false, source := 0, rnum := 0, data := [], tbns := 0 }] } }),
      { optime := 0, pcycle := 0, code := 1, held := false, source := 0, rnum := 0, data := [], tbns := 0 }, [], W_live _ _, by decide +kernel⟩,
   ⟨W [(Fld.REC_STAT_READY, 1), (Fld.REC_WPTRk_POS 1,
       524287)] (fun s => { s with recd := { s.recd with queue1 := [{ optime := 0, pcycle := 0, code := 1, held := false, source := 0, rnum := 0, data := [], tbns := 0 }], body1 := true } }),
       { optime := 0, pcycle := 0, code := 1, held := false, source := 0, rnum := 0, data := [], tbns := 0 }, [], W_live _ _, by decide +kernel⟩,
   ⟨W [(Fld.REC_STAT_READY,
       1)] (fun s => { s with recd := { s.recd with queue0 := [{ optime := 0, pcycle := 0, code := 1, held := false, source := 0, rnum := 0, data := [], tbns := 0 }] } }),
       ({ optime := 0, pcycle := 0, code := 1, held := false, source := 0, rnum := 0, data := [], tbns := 0 } : Record), ([] : List Record),
       W_live _ _, by decide +kernel⟩,
   ⟨W [] (fun s => { s with recd := { s.recd with erase0 := some 511 } }), (511 : Nat), W_live _ _, by decide +kernel⟩,
   ⟨W [] (fun s => { s with recd := { s.recd with erase1 := some 511 } }), (511 : Nat), W_live _ _, by decide +kernel⟩⟩

theorem witness_RecorderFreezes :
    (∃ (s : State), s.Live) ∧
    (∃ (s : State), s.Live) ∧
    (∃ (s : State) (r : Req), s.Live ∧ s.Accepts r 3 (cmdBody 0x0070 []) ∧ s.freezeAllowed = true) ∧
    (∃ (s : State) (r : Req), s.Live ∧ s.Accepts r 3 (cmdBody 0x0070 []) ∧ s.freezeAllowed = false) ∧
    (∃ (s : State), s.Live ∧ s.get Fld.REC_STAT_FREEZING = 1 ∧ s.recd.queue0 = [] ∧ s.recd.queue1 = []) ∧
    (∃ (s : State) (c : Instr), (c = .freezeTimeout ∨ c = .recCtrlRelease) ∧ s.Live ∧ s.get Fld.REC_STAT_FROZEN = 1 ∧ s.recd.lost = none) ∧
    (∃ (s : State) (r : Req), s.Live ∧ s.Accepts r 3 (cmdBody 0x0071 []) ∧ s.get Fld.REC_STAT_FROZEN = 1 ∧ s.recd.lost = none) ∧
    (∃ (s : State), s.Live ∧ s.get Fld.REC_STAT_READY = 0 ∧ s.recd.lost = none) ∧
    (∃ (s : State), s.Live) :=
  ⟨⟨W [] id, W_live _ _⟩,
   ⟨W [] id, W_live _ _⟩,
   ⟨W [(Fld.REC_STAT_READY, 1)] withSession, sign _ (req0) 3 ((cmdBody 0x0070 [])), W_live _ _,
       accepts_sign { id := 1, lastTseq := some 0xFFFFFFFE } (by decide +kernel) (by decide +kernel), by decide +kernel⟩,
   ⟨W [] withSession, sign _ (req0) 3 ((cmdBody 0x0070 [])), W_live _ _,
       accepts_sign { id := 1, lastTseq := some 0xFFFFFFFE } (by decide +kernel) (by decide +kernel), by decide +kernel⟩,
   ⟨W [(Fld.REC_STAT_FREEZING, 1)] id, W_live _ _, by decide +kernel⟩,
   ⟨W [(Fld.REC_STAT_FROZEN, 1)] id, Instr.freezeTimeout, .inl rfl, W_live _ _, by decide +kernel⟩,
   ⟨W [(Fld.REC_STAT_FROZEN, 1)] withSession, sign _ (req0) 3 ((cmdBody 0x0071 [])), W_live _ _,
       accepts_sign { id := 1, lastTseq := some 0xFFFFFFFE } (by decide +kernel) (by decide +kernel), by decide +kernel⟩,
   ⟨W [] id, W_live _ _, by decide +kernel⟩,
   ⟨W [] id, W_live _ _⟩⟩

theorem witness_PtpMessagesAndLostMasters :
    (∃ (s : State) (p : Fin 3) (k : PtpDue), s.Live ∧ s.ptpOn p = true ∧ s.get (Fld.TB_PTPSTATp_PORT_STATE p) = (if k = .delayReq then 9 else 6) ∧
        p.val < s.tb.ports.length) ∧
    (∃ (s : State) (p : Fin 3), s.Live ∧ s.ptpOn p = true ∧ s.get (Fld.TB_PTPSTATp_PORT_STATE p) = 6) ∧
    (∃ (s : State) (p : Fin 3) (gm : Dword), s.Live ∧ s.ptpOn p = true ∧ s.ptpFollows p gm = true ∧ p.val < s.tb.ports.length) ∧
    (∃ (s : State) (p : Fin 3), s.Live ∧ s.ptpOn p = true ∧ p.val < s.tb.ports.length) ∧
    (∃ (s : State) (p : Fin 3), s.Live ∧ s.ptpOn p = true ∧ (s.ptp p).syncing = true ∧ p.val < s.tb.ports.length) :=
  ⟨⟨W [(Fld.TB_PTPSTATp_PORT_STATE 2, 9)] id, (2 : Fin 3), PtpDue.delayReq, W_live _ _, by decide +kernel⟩,
   ⟨W [(Fld.TB_PTPSTATp_PORT_STATE 2, 6)] id, (2 : Fin 3), W_live _ _, by decide +kernel⟩,
   ⟨W [(Fld.TB_PTPSTATp_PORT_STATE 2,
       9)] (fun s => { s with tb := { s.tb with ports := [{}, {}, { parent := some { priority1 := 0, clockClass := 0, accuracy := 0, variance := 0, priority2 := 0, identity := 9, steps := 0 } }] } }),
       (2 : Fin 3), (9 : Dword), W_live _ _, by decide +kernel⟩,
   ⟨W [] id, (2 : Fin 3), W_live _ _, by decide +kernel⟩,
   ⟨W [] (fun s => { s with tb := { s.tb with ports := [{}, {}, { syncing := true }] } }), (2 : Fin 3), W_live _ _, by decide +kernel⟩⟩

theorem witness_TheServoKeepsItsRateLimits :
    (∃ (s : State), s.Live ∧ 0x01FFBE77 ≤ (s.rd Reg.TB_INC).toNat ∧ (s.rd Reg.TB_INC).toNat ≤ 0x02004189) :=
  ⟨W [((⟨Reg.TB_INC, 0, 32⟩ : Field), 0x02004189)] id, W_live _ _, by decide +kernel⟩

theorem witness_TimeBaseRegistersAreGuarded :
    (∃ (s : State), s.Live ∧ s.get Fld.TB_STAT_STATE = 0 ∧ s.get Fld.TB_STAT_MASTER_REFUSED = 0) ∧
    (∃ (s : State) (v : Word), s.Live ∧ s.get Fld.TB_STAT_STATE = 2 ∧ s.ptpAllOff = false ∧ v ≠ s.rd Reg.TB_INC) ∧
    (∃ (s : State), s.Live) ∧
    (∃ (s : State), s.Live ∧ s.get Fld.TB_STAT_COMPAT = 1 ∧ s.get Fld.TB_STAT_STATE = 3) ∧
    (∃ (s : State), s.Live ∧ s.get Fld.TB_STAT_COMPAT = 0) ∧
    (∃ (s : State), s.Live) ∧
    (∃ (s : State), s.Live) :=
  ⟨⟨W [] id, W_live _ _, by decide +kernel⟩,
   ⟨W [(Fld.TB_STAT_STATE, 2)] id, (0xFFFFFFFF : Word), W_live _ _, by decide +kernel⟩,
   ⟨W [] id, W_live _ _⟩,
   ⟨W [(Fld.TB_STAT_COMPAT, 1), (Fld.TB_STAT_STATE, 3)] id, W_live _ _, by decide +kernel⟩,
   ⟨W [] id, W_live _ _, by decide +kernel⟩,
   ⟨W [] id, W_live _ _⟩,
   ⟨W [] id, W_live _ _⟩⟩

theorem witness_CapturesComparatorsAndPulses :
    (∃ (s : State) (m : Fin 16) (r : Bool) (w : ℕ), s.Live ∧ s.captureTakes m r w = true) ∧
    (∃ (s : State), s.Live) ∧
    (∃ (s : State), s.Live) ∧
    (∃ (s : State), s.Live) ∧
    (∃ (s : State) (m : Fin 16), s.Live ∧ m ≠ 0 ∧ s.compOn m = true ∧ s.compPassed m = true) :=
  ⟨⟨W [(Fld.TB_CAPm_CFG_EDGE 15, 1)] (fun s => { s with tb := { s.tb with fifos := [(15, [1, 2, 3, 4])] } }), (15 : Fin 16), true,
      (0xFFFFFFFF : Nat), W_live _ _, by decide +kernel⟩,
   ⟨W [] id, W_live _ _⟩,
   ⟨W [] id, W_live _ _⟩,
   ⟨W [] id, W_live _ _⟩,
   ⟨W [(Fld.TB_TRIGEN_EN, 0x8000)] id, (15 : Fin 16), W_live _ _, by decide +kernel⟩⟩

theorem witness_FramesAndTheStep :
    (∃ (s : State), s.Live ∧ s.cfg.isSome = true ∧ 9 ≤ s.get Fld.SYS_STAT_START) ∧
    (∃ (s : State), s.Live ∧ s.frame.started = true ∧ s.frame.emitted = false) ∧
    (∃ (s : State) (S : ℤ), s.Live ∧ s.tb.step = some S ∧ s.tb.stepDue = true) ∧
    (∃ (s : State), s.Live ∧ s.get Fld.TB_STAT_FAULT = 0) :=
  ⟨⟨W [(Fld.SYS_STAT_START, 9)] id, W_live _ _, by decide +kernel⟩,
   ⟨W [] (fun s => { s with frame := { s.frame with started := true } }), W_live _ _, by decide +kernel⟩,
   ⟨W [] (fun s => { s with tb := { s.tb with step := some (-1), stepDue := true } }), (-1 : Int), W_live _ _, by decide +kernel⟩,
   ⟨W [] id, W_live _ _, by decide +kernel⟩⟩

theorem witness_RetriedRequestsAreNotExecutedAgain :
    (∃ (c : Instr) (s : State) (r : Req) (ttype : ℕ) (body : List Byte) (x : Session) (m : Msg), s.Live ∧ requestOf c = some (r, ttype, body) ∧
        s.Heard r ttype body ∧ r.session ≠ 0 ∧ s.session r.session = some x ∧ x.lastTseq = some r.tseq ∧ x.stored = some m) :=
  ⟨Instr.closeSession (sign (W [] (fun s => { s with mgt := { s.mgt with sessions := [{ id := 1, lastTseq := some 0xFFFFFFFF, stored := some { path := .spi, ip := 0, port := 0, ttype := 0x81, status := 0, session := 1, tseq := 0xFFFFFFFF, erridx := 0, detail := 0, body := [] } }] } })) req0 3 (cmdBody 0x02 [])),
      W [] (fun s => { s with mgt := { s.mgt with sessions := [{ id := 1, lastTseq := some 0xFFFFFFFF, stored := some { path := .spi, ip := 0, port := 0, ttype := 0x81, status := 0, session := 1, tseq := 0xFFFFFFFF, erridx := 0, detail := 0, body := [] } }] } }),
      sign (W [] (fun s => { s with mgt := { s.mgt with sessions := [{ id := 1, lastTseq := some 0xFFFFFFFF, stored := some { path := .spi, ip := 0, port := 0, ttype := 0x81, status := 0, session := 1, tseq := 0xFFFFFFFF, erridx := 0, detail := 0, body := [] } }] } })) req0 3 (cmdBody 0x02 []),
      3, cmdBody 0x02 [],
      ({ id := 1, lastTseq := some 0xFFFFFFFF, stored := some { path := .spi, ip := 0, port := 0, ttype := 0x81, status := 0, session := 1, tseq := 0xFFFFFFFF, erridx := 0, detail := 0, body := [] } } : Session),
      ({ path := .spi, ip := 0, port := 0, ttype := 0x81, status := 0, session := 1, tseq := 0xFFFFFFFF, erridx := 0, detail := 0, body := [] } : Msg),
      W_live _ _, rfl, heard_sign (by decide +kernel), by decide +kernel⟩

theorem witness_ForgedAndReplayedRequestsDoNothing :
    (∃ (c : Instr) (s : State) (r : Req) (ttype : ℕ) (body : List Byte), s.Live ∧ requestOf c = some (r, ttype, body) ∧ s.noAuth = false ∧
        s.cfg.isSome = true ∧ r.ver = 1 ∧ r.len.toNat = body.length ∧ r.mac ≠ s.reqMac r ttype body ∧ (r.path = .spi → s.mgt.outSpi.length < 16) ∧
        s.deaf r.path = false) ∧
    (∃ (c : Instr) (s : State) (r : Req) (ttype : ℕ) (body : List Byte) (x : Session), s.Live ∧ requestOf c = some (r, ttype, body) ∧
        s.Heard r ttype body ∧ r.session ≠ 0 ∧ s.session r.session = some x ∧ r.tseq.toNat < x.last) :=
  ⟨⟨Instr.closeSession { req0 with len := 4 }, W [] withSession, ({ req0 with len := 4 } : Req), 3, cmdBody 0x02 [], W_live _ _, rfl,
      by decide +kernel⟩,
   ⟨Instr.closeSession (sign (W [] withSession) { req0 with tseq := 0 } 3 (cmdBody 0x02 [])), W [] withSession,
       sign (W [] withSession) { req0 with tseq := 0 } 3 (cmdBody 0x02 []), 3, cmdBody 0x02 [],
       ({ id := 1, lastTseq := some 0xFFFFFFFE } : Session), W_live _ _, rfl, heard_sign (by decide +kernel), by decide +kernel⟩⟩

theorem witness_SessionsOpenAndClose :
    (∃ (s : State) (r : Req), s.Live ∧ s.Heard r 3 (cmdBody 0x01 []) ∧ r.session = 0 ∧ s.mgt.sessions.length < 8) ∧
    (∃ (s : State) (r : Req) (x : Session) (xs : List Session), s.Live ∧ s.Heard r 3 (cmdBody 0x01 []) ∧ r.session = 0 ∧ s.mgt.sessions = x :: xs ∧
        xs.length = 7) ∧
    (∃ (s : State) (r : Req), s.Live ∧ s.Accepts r 3 (cmdBody 0x02 [])) ∧
    (∃ (s : State) (id : Word) (x : Session), s.Live ∧ s.session id = some x ∧ x.final = true) :=
  ⟨⟨W [] id, sign _ ({ req0 with session := 0 }) 3 ((cmdBody 0x01 [])), W_live _ _, heard_sign (by decide +kernel), by decide +kernel⟩,
   ⟨W [] (fun s => { s with mgt := { s.mgt with sessions := { id := 1 } :: [2, 3, 4, 5, 6, 7, 8].map (fun i => ({ id := i } : Session)) } }),
       sign _ ({ req0 with session := 0 }) 3 ((cmdBody 0x01 [])), ({ id := 1 } : Session), ([2, 3, 4, 5, 6, 7,
       8].map (fun i => ({ id := i } : Session))), W_live _ _, heard_sign (by decide +kernel), by decide +kernel⟩,
   ⟨W [] withSession, sign _ (req0) 3 ((cmdBody 0x02 [])), W_live _ _,
       accepts_sign { id := 1, lastTseq := some 0xFFFFFFFE } (by decide +kernel) (by decide +kernel)⟩,
   ⟨W [] (fun s => { s with mgt := { s.mgt with sessions := [{ id := 1, final := true }] } }), (1 : Word), ({ id := 1, final := true } : Session),
       W_live _ _, by decide +kernel⟩⟩

theorem witness_MessagesGatherAndAreSent :
    (∃ (s : State) (r : Req) (select : Word), s.Live ∧ s.Accepts r 4 (subscribeBody 1 0 2 0 select 0 0) ∧ (∃ i < 32, ∀ u ∈ s.mgt.subs, u.id ≠ i)) ∧
    (∃ (s : State) (r : Req), s.Live ∧ s.Accepts r 4 (subscribeBody 3 0 0 0 0 0 0)) ∧
    (∃ (s : State) (i : Fin 32) (u : Subscription), s.Live ∧ s.mgt.subs.find? (fun v => decide (v.id = i.val)) = some u ∧ u.items ≠ [] ∧
        u.events = true) ∧
    (∃ (s : State) (m : Msg) (ms : List Msg), s.Live ∧ s.mgt.outSpi = m :: ms) ∧
    (∃ (s : State), s.Live ∧ s.mgt.outSpi = []) ∧
    (∃ (s : State), s.Live) :=
  ⟨⟨W [] withSession, sign _ (req0) 4 ((subscribeBody 1 0 2 0 ((0xFFFFFFFF : Word)) 0 0)), (0xFFFFFFFF : Word), W_live _ _,
      accepts_sign { id := 1, lastTseq := some 0xFFFFFFFE } (by decide +kernel) (by decide +kernel), by decide +kernel⟩,
   ⟨W [] withSession, sign _ (req0) 4 ((subscribeBody 3 0 0 0 0 0 0)), W_live _ _,
       accepts_sign { id := 1, lastTseq := some 0xFFFFFFFE } (by decide +kernel) (by decide +kernel)⟩,
   ⟨W [] (fun s => { s with mgt := { s.mgt with subs := [{ id := 31, session := 1, path := .lan, ip := 0, port := 0, events := true, select := 0, div := 0, items := [[1]] }] } }),
       (31 : Fin 32),
       ({ id := 31, session := 1, path := .lan, ip := 0, port := 0, events := true, select := 0, div := 0, items := [[1]] } : Subscription),
       W_live _ _, by decide +kernel⟩,
   ⟨W [] (fun s => { s with mgt := { s.mgt with outSpi := [{ path := .spi, ip := 0, port := 0, ttype := 0x81, status := 0, session := 1, tseq := 0xFFFFFFFF, erridx := 0, detail := 0, body := [] }] } }),
       ({ path := .spi, ip := 0, port := 0, ttype := 0x81, status := 0, session := 1, tseq := 0xFFFFFFFF, erridx := 0, detail := 0, body := [] } : Msg),
       ([] : List Msg), W_live _ _, by decide +kernel⟩,
   ⟨W [] id, W_live _ _, by decide +kernel⟩,
   ⟨W [] id, W_live _ _⟩⟩

theorem witness_RecoveryNeedsItsToken :
    (∃ (s : State) (r : Req), s.Live ∧ s.Accepts r 3 (cmdBody 0x40 [])) ∧
    (∃ (s : State) (r : Req) (k : Word), s.Live ∧ s.Accepts r 3 (cmdBody 0x41 (le32 k))) ∧
    (∃ (s : State) (r : Req), s.Live ∧ s.Accepts r 3 (cmdBody 0x42 [])) ∧
    (∃ (s : State) (r : Req) (k : Word), s.Live ∧ s.Accepts r 3 (cmdBody 0x43 (le32 k))) ∧
    (∃ (s : State), s.Live) :=
  ⟨⟨W [] withSession, sign _ (req0) 3 ((cmdBody 0x40 [])), W_live _ _,
      accepts_sign { id := 1, lastTseq := some 0xFFFFFFFE } (by decide +kernel) (by decide +kernel)⟩,
   ⟨W [] withSession, sign _ (req0) 3 ((cmdBody 0x41 (le32 ((0xFFFFFFFF : Word))))), (0xFFFFFFFF : Word), W_live _ _,
       accepts_sign { id := 1, lastTseq := some 0xFFFFFFFE } (by decide +kernel) (by decide +kernel)⟩,
   ⟨W [] withSession, sign _ (req0) 3 ((cmdBody 0x42 [])), W_live _ _,
       accepts_sign { id := 1, lastTseq := some 0xFFFFFFFE } (by decide +kernel) (by decide +kernel)⟩,
   ⟨W [] withSession, sign _ (req0) 3 ((cmdBody 0x43 (le32 ((0xFFFFFFFF : Word))))), (0xFFFFFFFF : Word), W_live _ _,
       accepts_sign { id := 1, lastTseq := some 0xFFFFFFFE } (by decide +kernel) (by decide +kernel)⟩,
   ⟨W [] id, W_live _ _⟩⟩

theorem witness_ReadsAndWritesAreAnswered :
    (∃ (s : State) (r : Req) (a : Word), s.Live ∧ s.Accepts r 1 (spanBody a 1) ∧ s.spanCode r.path a 1 40 = 0 ∧ ochreMem a.toNat = false) ∧
    (∃ (s : State) (r : Req) (a : Word), s.Live ∧ s.Accepts r 1 (spanBody a 1) ∧ s.spanCode r.path a 1 40 = 0 ∧ ochreMem a.toNat = true) ∧
    (∃ (s : State) (r : Req) (a : Word) (n : BitVec 16), s.Live ∧ s.Accepts r 1 (spanBody a n) ∧ s.spanCode r.path a n (36 + 4 * n.toNat) = 0) ∧
    (∃ (s : State) (r : Req) (a : Word) (v : Word), s.Live ∧ s.Accepts r 2 (spanBody a 1 ++ le32 v) ∧ s.spanCode r.path a 1 48 = 0 ∧
        s.gateCause a.toNat = 0 ∧ commandingOnly a.toNat = false ∧ a.toNat ≠ Reg.SYS_CTRL ∧ a.toNat / 0x10000 = 2) ∧
    (∃ (s : State) (r : Req) (a : Word) (v : Word) (u : State) (no : Bool), s.Live ∧ s.Accepts r 2 (spanBody a 1 ++ le32 v) ∧
        s.spanCode r.path a 1 48 = 0 ∧ s.gateCause a.toNat = 0 ∧ commandingOnly a.toNat = false ∧ a.toNat ≠ Reg.SYS_CTRL ∧
        (s.count Fld.MGT_CNT1_REQUESTS).refusedBy (fun x => x.regWrite r.session a.toNat v) = (u, no)) ∧
    (∃ (s : State) (r : Req) (a : Word) (n : BitVec 16) (data : List Word), s.Live ∧ s.Accepts r 2 (spanBody a n ++ (data.map le32).flatten) ∧
        data.length = n.toNat ∧ s.spanCode r.path a n (44 + 4 * n.toNat) ≠ 0) :=
  ⟨⟨W [] withSession, sign _ (req0) 1 ((spanBody ((BitVec.ofNat 32 Reg.AON_RSTCAUSE)) 1)), (BitVec.ofNat 32 Reg.AON_RSTCAUSE), W_live _ _,
      accepts_sign { id := 1, lastTseq := some 0xFFFFFFFE } (by decide +kernel) (by decide +kernel), by decide +kernel⟩,
   ⟨W [] withSession, sign _ (req0) 1 ((spanBody ((BitVec.ofNat 32 (clusterMem 31))) 1)), (BitVec.ofNat 32 (clusterMem 31)), W_live _ _,
       accepts_sign { id := 1, lastTseq := some 0xFFFFFFFE } (by decide +kernel) (by decide +kernel), by decide +kernel⟩,
   ⟨W [] withSession, sign _ (req0) 1 ((spanBody ((BitVec.ofNat 32 Reg.AON_RSTCAUSE)) ((1 : BitVec 16)))), (BitVec.ofNat 32 Reg.AON_RSTCAUSE),
       (1 : BitVec 16), W_live _ _, accepts_sign { id := 1, lastTseq := some 0xFFFFFFFE } (by decide +kernel) (by decide +kernel),
       by decide +kernel⟩,
   ⟨W [] withSession, sign _ (req0) 2 ((spanBody ((BitVec.ofNat 32 Reg.AON_RSTCAUSE)) 1 ++ le32 ((0xFFFFFFFF : Word)))),
       (BitVec.ofNat 32 Reg.AON_RSTCAUSE), (0xFFFFFFFF : Word), W_live _ _,
       accepts_sign { id := 1, lastTseq := some 0xFFFFFFFE } (by decide +kernel) (by decide +kernel), by decide +kernel⟩,
   ⟨W [] withSession, sign _ (req0) 2 ((spanBody ((BitVec.ofNat 32 Reg.AON_RSTCAUSE)) 1 ++ le32 ((0xFFFFFFFF : Word)))),
       (BitVec.ofNat 32 Reg.AON_RSTCAUSE), (0xFFFFFFFF : Word),
       (((W [] withSession).count Fld.MGT_CNT1_REQUESTS).refusedBy (fun x => x.regWrite 1 ((BitVec.ofNat 32 Reg.AON_RSTCAUSE)).toNat 0xFFFFFFFF)).1,
       (((W [] withSession).count Fld.MGT_CNT1_REQUESTS).refusedBy (fun x => x.regWrite 1 ((BitVec.ofNat 32 Reg.AON_RSTCAUSE)).toNat 0xFFFFFFFF)).2,
       W_live _ _, accepts_sign { id := 1, lastTseq := some 0xFFFFFFFE } (by decide +kernel) (by decide +kernel),
       first3 (by decide +kernel) ⟨by decide +kernel, rfl⟩⟩,
   ⟨W [] withSession, sign _ (req0) 2 ((spanBody ((1 : Word)) ((1 : BitVec 16)) ++ ((([1] : List Word)).map le32).flatten)), (1 : Word),
       (1 : BitVec 16), ([1] : List Word), W_live _ _,
       accepts_sign { id := 1, lastTseq := some 0xFFFFFFFE } (by decide +kernel) (by decide +kernel), by decide +kernel⟩⟩

theorem witness_RegisterWritesByAccessType :
    (∃ (s : State) (a : Word) (q : RegRow), s.Live ∧ a.toNat ∈ [Reg.SYS_ALERT, Reg.CLK_STAT, Reg.AON_RSTCAUSE, Reg.TB_STAT, Reg.REC_STAT,
        Reg.OCH_SEL] ∧ regRow a.toNat = some q) ∧
    (∃ (s : State) (a : Word), s.Live ∧ s.gateCause a.toNat ≠ 0) ∧
    (∃ (s : State) (a : Word), s.Live ∧ s.gateCause a.toNat = 0 ∧ ochreMem a.toNat = false ∧ regRow a.toNat = none) ∧
    (∃ (s : State) (a : Word), s.Live ∧ ochreMem a.toNat = true ∧ a.toNat % 4 = 0 ∧ s.deadWindow a.toNat = false) ∧
    (∃ (s : State), s.Live) ∧
    (∃ (s : State), s.Live) ∧
    (∃ (s : State), s.Live) ∧
    (∃ (s : State), s.Live) :=
  ⟨⟨W [] id, (BitVec.ofNat 32 Reg.OCH_SEL),
      ((regRow Reg.OCH_SEL).getD { base := 0, stride1 := 0, count1 := 0, stride2 := 0, count2 := 0, reset := 0, rw := 0, rws := 0, w1c := 0, wo := 0 }),
      W_live _ _, by decide +kernel⟩,
   ⟨W [] id, (0x00140000 : Word), W_live _ _, by decide +kernel⟩,
   ⟨W [] id, (0x00000FFC : Word), W_live _ _, by decide +kernel⟩,
   ⟨W [] id, (BitVec.ofNat 32 (clusterMem 31)), W_live _ _, by decide +kernel⟩,
   ⟨W [] id, W_live _ _⟩,
   ⟨W [] id, W_live _ _⟩,
   ⟨W [] id, W_live _ _⟩,
   ⟨W [] id, W_live _ _⟩⟩

theorem witness_BanksAreCheckedChosenAndLoaded :
    (∃ (s : State), s.Live ∧ s.get Fld.SYS_STAT_START = 4) ∧
    (∃ (s : State) (k : Fin 2), s.Live ∧ k.val ∉ s.img.verifying) ∧
    (∃ (s : State) (k : Fin 2), s.Live ∧ k.val ∈ s.img.verifying) ∧
    (∃ (s : State) (c : ImageCfg), s.Live ∧ s.get Fld.SYS_STAT_START = 5 ∧ s.get Fld.IMG_STAT_NO_IMAGE = 0 ∧ s.cfg = none ∧ s.loadOk c = true) ∧
    (∃ (s : State) (c : ImageCfg) (f : Bool), s.Live ∧ s.get Fld.SYS_STAT_START = 5 ∧ s.get Fld.IMG_STAT_NO_IMAGE = 0 ∧ s.cfg = none ∧
        (f = true ∨ s.loadOk c = false)) ∧
    (∃ (s : State), s.Live ∧ s.get Fld.IMG_STAT_CONFLICT = 1) ∧
    (∃ (s : State), s.Live) :=
  ⟨⟨W [(Fld.SYS_STAT_START, 4)] (fun s => { s with cfg := none }), W_live _ _, by decide +kernel⟩,
   ⟨W [] id, (1 : Fin 2), W_live _ _, by decide +kernel⟩,
   ⟨W [] (fun s => { s with img := { s.img with verifying := [1] } }), (1 : Fin 2), W_live _ _, by decide +kernel⟩,
   ⟨W [(Fld.SYS_STAT_START, 5)] (fun s => { s with cfg := none }), cfg0, W_live _ _, by decide +kernel⟩,
   ⟨W [(Fld.SYS_STAT_START, 5)] (fun s => { s with cfg := none }), cfg0, true, W_live _ _, by decide +kernel⟩,
   ⟨W [(Fld.IMG_STAT_CONFLICT, 1)] id, W_live _ _, by decide +kernel⟩,
   ⟨W [] id, W_live _ _⟩⟩

theorem witness_NvmTransactionsAndTheirEnds :
    (∃ (s : State) (r : Req) (k : Byte) (a : Word) (n : BitVec 16), s.Live ∧ s.Accepts r 3 (cmdBody 0x60 (nvmArgs k a n)) ∧ k.toNat ≤ 1 ∧
        1 ≤ n.toNat ∧ n.toNat ≤ 256 ∧ a.toNat + n.toNat ≤ 0x3000000) ∧
    (∃ (s : State) (r : Req) (k : Byte) (a : Word) (n : BitVec 16) (d : List Byte), s.Live ∧ s.Accepts r 3 (cmdBody 0x61 (nvmArgs k a n ++ d)) ∧
        k.toNat ≤ 1 ∧ d.length = n.toNat ∧ 1 ≤ n.toNat ∧ n.toNat ≤ 256 ∧ a.toNat < 0x1000000 ∧ a.toNat / 256 = (a.toNat + n.toNat - 1) / 256) ∧
    (∃ (s : State) (r : Req) (k : Byte) (a : Word), s.Live ∧ s.Accepts r 3 (cmdBody 0x62 ([k, 0, 0, 0] ++ le32 a)) ∧ k.toNat ≤ 1 ∧
        a.toNat < 0x1000000 ∧ a.toNat % 0x10000 = 0) ∧
    (∃ (s : State) (k : Fin 2) (x : NvmOp) (d : List Byte), s.Live ∧ s.img.nvmOps.find? (fun y => decide (y.bank = k.val)) = some x ∧
        x.data = some d) ∧
    (∃ (s : State) (k : Fin 2) (x : NvmOp), s.Live ∧ s.img.nvmOps.find? (fun y => decide (y.bank = k.val)) = some x ∧ x.data = none ∧
        (s.session x.req.session).isSome = true) ∧
    (∃ (s : State) (k : Fin 2) (x : NvmOp), s.Live ∧ s.img.nvmOps.find? (fun y => decide (y.bank = k.val)) = some x) :=
  ⟨⟨W [] withSession, sign _ (req0) 3 ((cmdBody 0x60 (nvmArgs ((1 : Byte)) ((0x2FFFF00 : Word)) ((256 : BitVec 16))))), (1 : Byte),
      (0x2FFFF00 : Word), (256 : BitVec 16), W_live _ _,
      accepts_sign { id := 1, lastTseq := some 0xFFFFFFFE } (by decide +kernel) (by decide +kernel), by decide +kernel⟩,
   ⟨W [] withSession,
       sign _ (req0) 3 ((cmdBody 0x61 (nvmArgs ((1 : Byte)) ((0xFFFF00 : Word)) ((256 : BitVec 16)) ++ (List.replicate 256 (0 : Byte))))),
       (1 : Byte), (0xFFFF00 : Word), (256 : BitVec 16), List.replicate 256 (0 : Byte), W_live _ _,
       accepts_sign { id := 1, lastTseq := some 0xFFFFFFFE } (by decide +kernel) (by decide +kernel), by decide +kernel⟩,
   ⟨W [] withSession, sign _ (req0) 3 ((cmdBody 0x62 ([((1 : Byte)), 0, 0, 0] ++ le32 ((0xFF0000 : Word))))), (1 : Byte), (0xFF0000 : Word),
       W_live _ _, accepts_sign { id := 1, lastTseq := some 0xFFFFFFFE } (by decide +kernel) (by decide +kernel), by decide +kernel⟩,
   ⟨W [] (fun s => { s with img := { s.img with nvmOps := [{ bank := 1, addr := 0xFFFF00, data := some [0x0F], req := { path := .spi, ip := 0, port := 0, session := 1, tseq := 1, op := 0x61 } }] } }),
       (1 : Fin 2),
       ({ bank := 1, addr := 0xFFFF00, data := some [0x0F], req := { path := .spi, ip := 0, port := 0, session := 1, tseq := 1, op := 0x61 } } : NvmOp),
       ([0x0F] : List Byte), W_live _ _, by decide +kernel⟩,
   ⟨W [] (fun s => withSession { s with img := { s.img with nvmOps := [{ bank := 1, addr := 0xFF0000, data := none, req := { path := .spi, ip := 0, port := 0, session := 1, tseq := 1, op := 0x61 } }] } }),
       (1 : Fin 2),
       ({ bank := 1, addr := 0xFF0000, data := none, req := { path := .spi, ip := 0, port := 0, session := 1, tseq := 1, op := 0x61 } } : NvmOp),
       W_live _ _, by decide +kernel⟩,
   ⟨W [] (fun s => { s with img := { s.img with nvmOps := [{ bank := 1, addr := 0xFFFF00, data := some [0x0F], req := { path := .spi, ip := 0, port := 0, session := 1, tseq := 1, op := 0x61 } }] } }),
       (1 : Fin 2),
       ({ bank := 1, addr := 0xFFFF00, data := some [0x0F], req := { path := .spi, ip := 0, port := 0, session := 1, tseq := 1, op := 0x61 } } : NvmOp),
       W_live _ _, by decide +kernel⟩⟩

theorem witness_TheKeyIsProgrammedOnce :
    (∃ (s : State) (r : Req) (key : List Byte), s.Live ∧ s.Accepts r 3 (cmdBody 0x63 key) ∧ key.length = 32 ∧ s.keyStore = none) ∧
    (∃ (s : State) (r : Req) (key : List Byte), s.Live ∧ s.Accepts r 3 (cmdBody 0x63 key) ∧ key.length = 32 ∧ s.keyStore.isSome = true) ∧
    (∃ (s : State) (r : Req) (key : List Byte), s.Live ∧ s.Accepts r 3 (cmdBody 0x63 key) ∧ key.length ≠ 32) :=
  ⟨⟨W [] withSession, sign _ (req0) 3 ((cmdBody 0x63 (List.replicate 32 (1 : Byte)))), List.replicate 32 (1 : Byte), W_live _ _,
      accepts_sign { id := 1, lastTseq := some 0xFFFFFFFE } (by decide +kernel) (by decide +kernel), by decide +kernel⟩,
   ⟨W [] (fun s => withSession { s with keyStore := some [1] }), sign _ (req0) 3 ((cmdBody 0x63 (List.replicate 32 (1 : Byte)))),
       List.replicate 32 (1 : Byte), W_live _ _, accepts_sign { id := 1, lastTseq := some 0xFFFFFFFE } (by decide +kernel) (by decide +kernel),
       by decide +kernel⟩,
   ⟨W [] withSession, sign _ (req0) 3 ((cmdBody 0x63 (([] : List Byte)))), ([] : List Byte), W_live _ _,
       accepts_sign { id := 1, lastTseq := some 0xFFFFFFFE } (by decide +kernel) (by decide +kernel), by decide +kernel⟩⟩

theorem witness_RegionReloadRuns :
    (∃ (s : State), s.Live ∧ s.img.reload = none ∧ s.img.adopting = none) ∧
    (∃ (s : State), s.Live ∧ s.img.reload.isSome = true) ∧
    (∃ (s : State) (g : ℕ) (c : RegionCfg) (d : ImageCfg), s.Live ∧ s.img.reload = some (g, 3) ∧ s.commanding = true ∧ s.cfg = some d ∧
        s.regionOk g c = true) ∧
    (∃ (s : State) (g : ℕ) (c : RegionCfg) (ok : Bool), s.Live ∧ s.img.reload = some (g, 3) ∧ (ok = false ∨ s.regionOk g c = false)) ∧
    (∃ (s : State) (g : ℕ), s.Live ∧ s.img.reload = some (g, 4)) :=
  ⟨⟨W [] id, W_live _ _, by decide +kernel⟩,
   ⟨W [] (fun s => { s with img := { s.img with reload := some (7, 1) } }), W_live _ _, by decide +kernel⟩,
   ⟨W [(Fld.SLH_STAT_ROLE, 1)] (fun s => { s with img := { s.img with reload := some (7, 3) } }), (7 : Nat), cfg0.region, cfg0, W_live _ _,
       by decide +kernel⟩,
   ⟨W [] (fun s => { s with img := { s.img with reload := some (7, 3) } }), (7 : Nat), cfg0.region, false, W_live _ _, by decide +kernel, .inl rfl⟩,
   ⟨W [] (fun s => { s with img := { s.img with reload := some (7, 4) } }), (7 : Nat), W_live _ _, by decide +kernel⟩⟩

theorem witness_ImagesAreAdopted :
    (∃ (s : State) (k : Fin 2), s.Live ∧ s.get Fld.IMG_STAT_RUN_BANK ≠ k.val ∧ s.img.reload = none ∧ s.img.adopting = none ∧ s.adoptCode k = 0 ∧
        s.adoptSteps k ≠ []) ∧
    (∃ (s : State) (k : Fin 2), s.Live ∧ s.get Fld.IMG_STAT_RUN_BANK ≠ k.val ∧ s.img.reload = none ∧ s.img.adopting = none ∧ s.adoptCode k ≠ 0) ∧
    (∃ (s : State) (k : ℕ) (o : ℕ) (i : ℕ) (rest : List (ℕ × ℕ)), s.Live ∧ s.img.adopting = some (k, (o, i) :: rest) ∧
        s.get Fld.IMG_STAT_HALTED = 0 ∧ s.img.reload = none) ∧
    (∃ (s : State) (k : ℕ) (o : ℕ) (i : ℕ) (x : ℕ × ℕ) (rest : List (ℕ × ℕ)) (d : ImageCfg), s.Live ∧ s.img.adopting = some (k, (o,
        i) :: x :: rest) ∧ s.get Fld.IMG_STAT_HALTED = 0 ∧ s.img.reload = none ∧ o ≠ 8 ∧ s.cfgBase = some d) ∧
    (∃ (s : State) (k : ℕ) (i : ℕ), s.Live ∧ s.img.adopting = some (k, [(7, i)]) ∧ s.get Fld.IMG_STAT_HALTED = 0 ∧ s.img.reload = none) :=
  ⟨⟨W [(Fld.IMG_BANKk_STAT_LIVE 1, 1), (Fld.IMG_BANKk_STAT_VALIDITY 1, 0), (Fld.IMG_BANKk_GEN_GEN 1,
      1)] (fun s => { s with nvm0 := [(20, 0), (21, 0)], nvm1 := [(20, 1), (21, 0), (128, 15), (129, 0)] }), (1 : Fin 2), W_live _ _,
      by decide +kernel⟩,
   ⟨W [] id, (1 : Fin 2), W_live _ _, by decide +kernel⟩,
   ⟨W [] (fun s => { s with img := { s.img with adopting := some (1, [(1, 0)]) } }), (1 : Nat), (1 : Nat), (0 : Nat), ([] : List (Nat × Nat)),
       W_live _ _, by decide +kernel⟩,
   ⟨W [] (fun s => { s with img := { s.img with adopting := some (1, [(1, 0), (7, 0)]) } }), (1 : Nat), (1 : Nat), (0 : Nat), ((7, 0) : Nat × Nat),
       ([] : List (Nat × Nat)), cfg0, W_live _ _, by decide +kernel⟩,
   ⟨W [] (fun s => { s with img := { s.img with adopting := some (1, [(7, 0)]) } }), (1 : Nat), (0 : Nat), W_live _ _, by decide +kernel⟩⟩

theorem witness_PortsGrantReleaseAndAreControlled :
    (∃ (s : State) (p : ArbPort) (i : Fin 10), s.Live ∧ i.val < portIdx p ∧ s.get (portOwner p) = 15 ∧ s.arbWaiting p = [] ∧
        s.get (portReq p i) = 0 ∧ s.get (portMask p i) = 0) ∧
    (∃ (s : State) (p : ArbPort) (i : Fin 10), s.Live ∧ i.val < portIdx p ∧ s.get (portOwner p) < portIdx p ∧ s.get (portReq p i) = 0 ∧
        s.get (portMask p i) = 0) ∧
    (∃ (s : State) (p : ArbPort) (o : ℕ), s.Live ∧ s.get (portOwner p) = o ∧ o < portIdx p ∧ (∀ i < portIdx p,
        i ≠ o → s.get (portReq p i) = 0 ∨ s.get (portMask p i) = 1)) ∧
    (∃ (s : State) (q : Fin 32) (b : Fin 8), s.Live ∧ s.gateCause (Reg.BANKARB_CTRL q b) = 0 ∧ s.isolated (q / 4) = false) ∧
    (∃ (s : State) (g : Fin 8), s.Live ∧ s.gateCause (Reg.EGRARB_CTRL g) = 0 ∧ s.isolated g = false) :=
  ⟨⟨W [(portOwner (ArbPort.bank 31 7), 15)] id, (ArbPort.bank 31 7), (9 : Fin 10), W_live _ _, by decide +kernel⟩,
   ⟨W [(portOwner (ArbPort.bank 31 7), 0)] id, (ArbPort.bank 31 7), (9 : Fin 10), W_live _ _, by decide +kernel⟩,
   ⟨W [(portOwner (ArbPort.bank 31 7), 9), (portReq (ArbPort.bank 31 7) 9, 1)] id, (ArbPort.bank 31 7), (9 : Nat), W_live _ _, by decide +kernel⟩,
   ⟨W [] id, (31 : Fin 32), (7 : Fin 8), W_live _ _, by decide +kernel⟩,
   ⟨W [] id, (7 : Fin 8), W_live _ _, by decide +kernel⟩⟩

theorem witness_TheHighestRequesterIsGranted :
    let ends := fun (p : ArbPort) => [(Instr.arbBurstLimit p true, true), (.arbBurstLimit p false, false), (.arbOwnerRelease p, false)]
    let waits := fun (s : State) (p : ArbPort) (again : Bool) (i : Nat) => i < portIdx p ∧ s.get (portMask p i) = 0 ∧ (if i = s.get (portOwner p) then again = true else s.get (portReq p i) = 1)
    (∃ (s : State) (p : ArbPort) (c : Instr) (again : Bool) (w : Nat), (c, again) ∈ ends p ∧ s.Live ∧ s.get (portOwner p) < portIdx p ∧ waits s p again w ∧ let o := s.get (portOwner p);
        let lost := fun i => if i = o then 0 else s.lostOf p i; let prio := fun i => min 15 (s.portPrio p i + lost i);
        let above := fun i j => if ((s.arbSt p).grants + 1) % s.portN p = 0 then lost j < lost i ∨ (lost i = lost j ∧ prio j < prio i) else prio j < prio i ∨ (prio i = prio j ∧ lost j < lost i);
        (∀ i, waits s p again i → i ≠ w → above w i ∨ (¬ above i w ∧ w < i))) ∧
    (∃ (s : State) (p : ArbPort) (c : Instr) (again : Bool), (c, again) ∈ ends p ∧ s.Live ∧ s.get (portOwner p) < portIdx p ∧ (∀ i,
        ¬ waits s p again i)) ∧
    (∃ (s : State) (p : ArbPort), s.Live ∧ s.get (portOwner p) ≠ 15) :=
  ⟨⟨W [(portOwner (ArbPort.bank 31 7), 9), (portReq (ArbPort.bank 31 7) 9, 1), (portReq (ArbPort.bank 31 7) 0, 1)] id, (ArbPort.bank 31 7),
      Instr.arbBurstLimit (ArbPort.bank 31 7) false, false, 0, by decide +kernel, W_live _ _, by decide +kernel, by decide +kernel,
      fun i hi hne => absurd ((by decide +kernel : ∀ i < 10, (if i = (W [(portOwner (ArbPort.bank 31 7), 9), (portReq (ArbPort.bank 31 7) 9, 1),
      (portReq (ArbPort.bank 31 7) 0, 1)] id).get (portOwner (ArbPort.bank 31 7)) then false = true else (W [(portOwner (ArbPort.bank 31 7), 9),
      (portReq (ArbPort.bank 31 7) 9, 1), (portReq (ArbPort.bank 31 7) 0,
      1)] id).get (portReq (ArbPort.bank 31 7) i) = 1) → i = 0) i hi.1 hi.2.2) hne⟩,
   ⟨W [(portOwner (ArbPort.bank 31 7), 9), (portReq (ArbPort.bank 31 7) 9, 1)] id, (ArbPort.bank 31 7), Instr.arbOwnerRelease (ArbPort.bank 31 7),
       false, by decide +kernel, W_live _ _, by decide +kernel, fun i h => (by decide +kernel : ∀ i < 10,
       ¬ (if i = (W [(portOwner (ArbPort.bank 31 7), 9), (portReq (ArbPort.bank 31 7) 9,
       1)] id).get (portOwner (ArbPort.bank 31 7)) then false = true else (W [(portOwner (ArbPort.bank 31 7), 9), (portReq (ArbPort.bank 31 7) 9,
       1)] id).get (portReq (ArbPort.bank 31 7) i) = 1)) i h.1 h.2.2⟩,
   ⟨W [(portOwner (ArbPort.bank 31 7), 9), (portReq (ArbPort.bank 31 7) 9, 1)] id, (ArbPort.bank 31 7), W_live _ _, by decide +kernel⟩⟩

theorem witness_FaultyUnitsAreFenced :
    (∃ (s : State) (q : Fin 32) (u : Fin 8) (c : Instr) (k : ℕ), ((c = .invalidCodeword (.unit q u) ∧
        k = 0) ∨ (c = .handshakeWatchdog (.unit q u) ∧ k = 1)) ∧ s.Live ∧ s.isolated (q / 4) = false ∧ s.unitState q u < 2 ∧
        (s.instOn q u).filter inFlight = none ∧ (∃ v < 8, v ≠ u.val ∧ s.unitState q v ≠ 3)) ∧
    (∃ (s : State) (q : Fin 32) (u : Fin 8) (v : Fin 8) (x : TaskInst) (d : TaskDef), s.Live ∧ s.isolated (q / 4) = false ∧ s.unitState q u = 1 ∧
        s.instOn q u = some x ∧ inFlight x = true ∧ x.reruns < 2 ∧ s.taskDef x.task = some d ∧ d.test = false ∧ s.placeOf x.task = some q.val ∧
        s.canRun q d = true ∧ s.freeUnit q = some v.val) ∧
    (∃ (s : State) (q : Fin 32) (u : Fin 8) (x : TaskInst) (d : TaskDef), s.Live ∧ s.isolated (q / 4) = false ∧ s.unitState q u = 1 ∧
        s.instOn q u = some x ∧ inFlight x = true ∧ 2 ≤ x.reruns ∧ s.taskDef x.task = some d ∧ d.test = false ∧ (x.task, x.number) ∉ s.fab.closed ∧
        (∃ v < 8, v ≠ u.val ∧ s.unitState q v ≠ 3)) ∧
    (∃ (s : State) (q : Fin 32) (u : Fin 8) (x : TaskInst) (d : TaskDef), s.Live ∧ s.isolated (q / 4) = false ∧ s.unitState q u = 2 ∧
        s.instOn q u = some x ∧ x.phase = .wake ∧ s.taskDef x.task = some d) ∧
    (∃ (s : State) (q : Fin 32) (u : Fin 8) (v : Fin 8) (x : TaskInst) (d : TaskDef), s.Live ∧ s.isolated (q / 4) = false ∧ s.unitState q u = 2 ∧
        s.instOn q u = some x ∧ x.phase = .wake ∧ s.taskDef x.task = some d ∧ s.placeOf x.task = some q.val ∧ s.canRun q d = true ∧
        s.freeUnit q = some v.val) :=
  ⟨⟨W [(Fld.CLU_UNITSTAT_STATE_U 31 7, 0)] id, (31 : Fin 32), (7 : Fin 8), Instr.invalidCodeword (.unit 31 7), (0 : Nat), .inl ⟨rfl, rfl⟩,
      W_live _ _, by decide +kernel⟩,
   ⟨W [(Fld.CLU_UNITSTAT_STATE_U 31 7,
       1)] (fun s => { s with fab := { s.fab with place := [(4095, 32)], insts := [{ task := 4095, number := 5, start := 0, phase := .running, cluster := 31, unit := 7, reruns := 1 }] } }),
       (31 : Fin 32), (7 : Fin 8), (0 : Fin 8),
       ({ task := 4095, number := 5, start := 0, phase := .running, cluster := 31, unit := 7, reruns := 1 } : TaskInst),
       (task0 1 15 4095 1 2 31 27), W_live _ _, by decide +kernel⟩,
   ⟨W [(Fld.CLU_UNITSTAT_STATE_U 31 7,
       1)] (fun s => { s with fab := { s.fab with place := [(4095, 32)], insts := [{ task := 4095, number := 5, start := 0, phase := .running, cluster := 31, unit := 7, reruns := 2 }] } }),
       (31 : Fin 32), (7 : Fin 8),
       ({ task := 4095, number := 5, start := 0, phase := .running, cluster := 31, unit := 7, reruns := 2 } : TaskInst),
       (task0 1 15 4095 1 2 31 27), W_live _ _, by decide +kernel⟩,
   ⟨W [(Fld.CLU_UNITSTAT_STATE_U 31 7,
       2)] (fun s => { s with fab := { s.fab with place := [(4095, 32)], insts := [{ task := 4095, number := 5, start := 0, phase := .wake, cluster := 31, unit := 7 }] } }),
       (31 : Fin 32), (7 : Fin 8), ({ task := 4095, number := 5, start := 0, phase := .wake, cluster := 31, unit := 7 } : TaskInst),
       (task0 1 15 4095 1 2 31 27), W_live _ _, by decide +kernel⟩,
   ⟨W [(Fld.CLU_UNITSTAT_STATE_U 31 7,
       2)] (fun s => { s with fab := { s.fab with place := [(4095, 32)], insts := [{ task := 4095, number := 5, start := 0, phase := .wake, cluster := 31, unit := 7 }] } }),
       (31 : Fin 32), (7 : Fin 8), (0 : Fin 8), ({ task := 4095, number := 5, start := 0, phase := .wake, cluster := 31, unit := 7 } : TaskInst),
       (task0 1 15 4095 1 2 31 27), W_live _ _, by decide +kernel⟩⟩

theorem witness_FaultsMoveTasksAway :
    (∃ (s : State) (q : Fin 32) (b : Fin 8), s.Live ∧ s.isolated (q / 4) = false ∧ (s.get (Fld.CLU_UNITSTAT_RETIRED q)).testBit b = false) ∧
    (∃ (s : State) (q : Fin 32), s.Live ∧ s.isolated (q / 4) = false ∧ s.get (Fld.CLU_UNITSTAT_FAULTED q) = 0 ∧ (∃ h < 8, h / 4 = q.val / 16 ∧
        h ≠ q.val / 4 ∧ s.isolated h = false)) ∧
    (∃ (s : State) (g : Fin 8), s.Live ∧ s.isolated g = false ∧ (∃ h < 8, h / 4 = g.val / 4 ∧ h ≠ g.val ∧ s.isolated h = false)) ∧
    (∃ (s : State) (d : Fin 2) (c : Instr), (c = .bridgeAckTimeout d ∨ c = .ochreSupplyAbsent d ∨ c = .invalidCodeword (.umberBridge d)) ∧ s.Live ∧
        s.get ⟨Reg.FLT_STAT, 23 + d, 1⟩ = 0 ∧ s.get Fld.FLT_STAT_COVER = 1 ∧ (∃ r < 4, s.isolated (4 * d + r) = false)) ∧
    (∃ (s : State) (d : Fin 2) (c : Instr), (c = .bridgeAckTimeout d ∨ c = .ochreSupplyAbsent d) ∧ s.Live ∧ s.get ⟨Reg.FLT_STAT, 23 + d, 1⟩ = 0 ∧
        s.get Fld.FLT_STAT_COVER = 0) ∧
    (∃ (s : State), s.Live ∧ s.get Fld.FLT_STAT_BRIDGE_REROUTED = 0) ∧
    (∃ (s : State), s.Live) :=
  ⟨⟨W [] (fun s => { s with fab := { s.fab with place := [(7, 32), (4095, 32)] } }), (31 : Fin 32), (7 : Fin 8), W_live _ _, by decide +kernel⟩,
   ⟨W [] (fun s => { s with fab := { s.fab with place := [(7, 32), (4095, 32)] } }), (31 : Fin 32), W_live _ _, by decide +kernel⟩,
   ⟨W [] (fun s => { s with fab := { s.fab with place := [(7, 32), (4095, 32)] } }), (7 : Fin 8), W_live _ _, by decide +kernel⟩,
   ⟨W [(Fld.FLT_STAT_COVER, 1)] (fun s => { s with fab := { s.fab with place := [(7, 32), (4095, 32)] } }), (1 : Fin 2),
       Instr.invalidCodeword (.umberBridge 1), .inr (.inr rfl), W_live _ _, by decide +kernel⟩,
   ⟨W [(Fld.FLT_STAT_COVER, 0)] (fun s => { s with fab := { s.fab with place := [(7, 32), (4095, 32)] } }), (1 : Fin 2), Instr.ochreSupplyAbsent 1,
       .inr rfl, W_live _ _, by decide +kernel⟩,
   ⟨W [] id, W_live _ _, by decide +kernel⟩,
   ⟨W [] id, W_live _ _⟩⟩

theorem witness_TasksAreDispatchedByPriority :
    (∃ (s : State) (q : Fin 32) (u : Fin 8) (x : TaskInst) (d : TaskDef), s.Live ∧ s.unitState q u = 0 ∧ s.atCluster q .rerun = [] ∧
        (cellsGet 0 s.fab.decisions q + 1) % (s.get (Fld.CLU_DISP_BG_NTH q) + 1) ≠ 0 ∧ x ∈ s.atCluster q .ready ∧ (∀ y ∈ s.atCluster q .ready,
        y ≠ x → s.prioOf y < s.prioOf x ∨ (s.prioOf y = s.prioOf x ∧ (x.start < y.start ∨ (x.start = y.start ∧ s.orderOf x < s.orderOf y)))) ∧
        s.taskDef x.task = some d) ∧
    (∃ (s : State) (q : Fin 32) (u : Fin 8) (x : TaskInst) (d : TaskDef), s.Live ∧ s.unitState q u = 0 ∧ s.atCluster q .rerun = [x] ∧
        s.taskDef x.task = some d) ∧
    (∃ (s : State) (q : Fin 32) (u : Fin 8) (x : TaskInst) (d : TaskDef), s.Live ∧ s.instOn q u = some x ∧ x.phase = .copying ∧
        s.taskDef x.task = some d) ∧
    (∃ (s : State) (q : Fin 32) (u : Fin 8) (x : TaskInst) (d : TaskDef), s.Live ∧ s.instOn q u = some x ∧ x.phase = .loading ∧
        s.taskDef x.task = some d) :=
  ⟨⟨W [(Fld.CLU_UNITSTAT_STATE_U 31 7, 0), (Fld.CLU_DISP_BG_NTH 31,
      7)] (fun s => { s with fab := { s.fab with place := [(7, 32), (4095, 32)], insts := [{ task := 7, number := 5, start := 0, phase := .ready }, { task := 4095, number := 5, start := 0, phase := .ready }] } }),
      (31 : Fin 32), (7 : Fin 8), ({ task := 4095, number := 5, start := 0, phase := .ready } : TaskInst), (task0 1 15 4095 1 2 31 27), W_live _ _,
      by decide +kernel⟩,
   ⟨W [(Fld.CLU_UNITSTAT_STATE_U 31 7,
       0)] (fun s => { s with fab := { s.fab with place := [(4095, 32)], insts := [{ task := 4095, number := 5, start := 0, phase := .rerun, cluster := 31, unit := 7 }] } }),
       (31 : Fin 32), (7 : Fin 8), ({ task := 4095, number := 5, start := 0, phase := .rerun, cluster := 31, unit := 7 } : TaskInst),
       (task0 1 15 4095 1 2 31 27), W_live _ _, by decide +kernel⟩,
   ⟨W [(Fld.CLU_UNITSTAT_STATE_U 31 7,
       1)] (fun s => { s with fab := { s.fab with place := [(4095, 32)], insts := [{ task := 4095, number := 5, start := 0, phase := .copying, cluster := 31, unit := 7 }] } }),
       (31 : Fin 32), (7 : Fin 8), ({ task := 4095, number := 5, start := 0, phase := .copying, cluster := 31, unit := 7 } : TaskInst),
       (task0 1 15 4095 1 2 31 27), W_live _ _, by decide +kernel⟩,
   ⟨W [(Fld.CLU_UNITSTAT_STATE_U 31 7,
       1)] (fun s => { s with fab := { s.fab with place := [(4095, 32)], insts := [{ task := 4095, number := 5, start := 0, phase := .loading, cluster := 31, unit := 7 }] } }),
       (31 : Fin 32), (7 : Fin 8), ({ task := 4095, number := 5, start := 0, phase := .loading, cluster := 31, unit := 7 } : TaskInst),
       (task0 1 15 4095 1 2 31 27), W_live _ _, by decide +kernel⟩⟩

theorem witness_OperationsWriteTheirResults :
    (∃ (s : State) (q : Fin 32) (u : Fin 8) (x : TaskInst) (d : TaskDef) (e : BitVec 128) (c : List EccResult), c.all EccResult.good = true ∧
        s.Live ∧ s.instOn q u = some x ∧ x.phase = .running ∧ s.taskDef x.task = some d ∧ d.ops[x.op]? = some e ∧ x.op + 1 < tdNops d ∧
        opCode e ∈ [0x02, 0x03, 0x04, 0x0B, 0x0C]) ∧
    (∃ (s : State) (q : Fin 32) (u : Fin 8) (x : TaskInst) (d : TaskDef) (e : BitVec 128), s.Live ∧ s.instOn q u = some x ∧ x.phase = .running ∧
        s.taskDef x.task = some d ∧ d.ops[x.op]? = some e ∧ x.op + 1 < tdNops d ∧ opCode e = 0x16 ∧ (∀ y ∈ s.fab.egress, ¬ (y.1 = q.val / 4 ∧
        y.2.1 = opImm e ∧ y.2.2.1 = s.slotFrame d x.number))) ∧
    (∃ (s : State) (q : Fin 32) (u : Fin 8) (x : TaskInst) (d : TaskDef), s.Live ∧ s.instOn q u = some x ∧ x.phase = .running ∧
        s.taskDef x.task = some d ∧ d.test = false ∧ tdNops d ≤ x.op + 1 ∧ s.isolated (q / 4) = false ∧ s.unitState q u = 1) :=
  ⟨⟨W [(Fld.CLU_UNITSTAT_STATE_U 31 7,
      1)] (fun s => { s with fab := { s.fab with place := [(4095, 32)], insts := [{ task := 4095, number := 5, start := 0, phase := .running, cluster := 31, unit := 7 }] } }),
      (31 : Fin 32), (7 : Fin 8), ({ task := 4095, number := 5, start := 0, phase := .running, cluster := 31, unit := 7 } : TaskInst),
      (task0 1 15 4095 1 2 31 27), (opEntry 0x02 1 0 4 8), ([EccResult.corrected] : List EccResult), by decide +kernel, W_live _ _,
      by decide +kernel⟩,
   ⟨W [(Fld.CLU_UNITSTAT_STATE_U 31 7,
       1)] (fun s => { s with fab := { s.fab with place := [(4095, 32)], insts := [{ task := 4095, number := 5, start := 0, phase := .running, cluster := 31, unit := 7, op := 1 }] } }),
       (31 : Fin 32), (7 : Fin 8), ({ task := 4095, number := 5, start := 0, phase := .running, cluster := 31, unit := 7, op := 1 } : TaskInst),
       (task0 1 15 4095 1 2 31 27), (opEntry 0x16 1 0 0 0), W_live _ _, by decide +kernel⟩,
   ⟨W [(Fld.CLU_UNITSTAT_STATE_U 31 7,
       1)] (fun s => { s with fab := { s.fab with place := [(4095, 32)], insts := [{ task := 4095, number := 5, start := 0, phase := .running, cluster := 31, unit := 7, op := 2 }] } }),
       (31 : Fin 32), (7 : Fin 8), ({ task := 4095, number := 5, start := 0, phase := .running, cluster := 31, unit := 7, op := 2 } : TaskInst),
       (task0 1 15 4095 1 2 31 27), W_live _ _, by decide +kernel⟩⟩

theorem witness_TokensSlackAndOutputs :
    (∃ (s : State) (q : Fin 32) (k : Fin 4096) (d : TaskDef) (x : TaskInst) (y : Token), s.Live ∧ s.taskDef k = some d ∧
        s.fab.tokens.find? (fun z => decide (z.cluster = q.val ∧ z.task = k.val)) = some y ∧ (k.val, y.number) ∉ s.fab.closed ∧
        s.instOf k y.number = some x ∧ x.phase = .waiting ∧ s.placeOf k = some q.val ∧ tdTask d = k ∧ cellsGet 0 x.tokens q + 1 = tdNdep d) ∧
    (∃ (s : State) (k : Fin 4096) (d : TaskDef) (x : Nat × Int), s.Live ∧ s.taskDef k = some d ∧
        s.fab.slack.find? (fun z => decide (z.1 = k.val)) = some x ∧ s.get Fld.SLK_CTRL_EN = 1 ∧ tdClass d = 1 ∧ (s.now : Int) ≤ x.2 ∧
        x.2 < (s.now : Int) + 1000 * (s.get Fld.SLK_THR_THR_FRAME : Nat)) ∧
    (∃ (s : State), s.Live) ∧
    (∃ (s : State) (h : Word) (o : FabOut) (c : Chan), s.Live ∧ s.fab.outs.find? (fun o => decide (o.handle = h)) = some o ∧ s.chanOf h = some c ∧
        s.commanding = true ∧ s.seqAtLoad c.typ c.index = false ∧ c.slot = some o.frame) ∧
    (∃ (s : State) (chain : List WaitLink) (l : WaitLink) (x : TaskInst) (d : TaskDef), s.Live ∧ s.youngest (s.waitChain chain) = some (l, x) ∧
        s.taskDef x.task = some d ∧ x.cluster < 32 ∧ cellsGet 0 s.fab.aborts x.task < 2) :=
  ⟨⟨W [] (fun s => { s with fab := { s.fab with place := [(4095, 32)], insts := [{ task := 4095, number := 5, start := 0, phase := .waiting, cluster := 31, unit := 7, tokens := [(31, 1)] }], tokens := [{ cluster := 31, task := 4095, number := 5, flags := 0, start := 0 }] } }),
      (31 : Fin 32), (4095 : Fin 4096), (task0 1 15 4095 1 2 31 27),
      ({ task := 4095, number := 5, start := 0, phase := .waiting, cluster := 31, unit := 7, tokens := [(31, 1)] } : TaskInst),
      ({ cluster := 31, task := 4095, number := 5, flags := 0, start := 0 } : Token), W_live _ _, by decide +kernel⟩,
   ⟨W [(Fld.SLK_CTRL_EN, 1), (Fld.SLK_THR_THR_FRAME, 1)] (fun s => { s with fab := { s.fab with slack := [(4095, 999)] } }), (4095 : Fin 4096),
       (task0 1 15 4095 1 2 31 27), ((4095, 999) : Nat × Int), W_live _ _, by decide +kernel⟩,
   ⟨W [] id, W_live _ _⟩,
   ⟨W [(Fld.SLH_STAT_ROLE,
       1)] (fun s => { s with chans := [{ typ := 1, index := 15, slot := some 7, cls := .timed }], fab := { s.fab with outs := [{ region := 7, handle := mkHandle 1 15 1, frame := 7, task := 4095, crc := 0, payload := [1] }] } }),
       (mkHandle 1 15 1), ({ region := 7, handle := mkHandle 1 15 1, frame := 7, task := 4095, crc := 0, payload := [1] } : FabOut),
       ({ typ := 1, index := 15, slot := some 7, cls := .timed } : Chan), W_live _ _, by decide +kernel⟩,
   ⟨W [(Fld.CLU_UNITSTAT_STATE_U 31 7, 1), (portReq (ArbPort.bank 31 3) 7, 1), (portOwner (ArbPort.bank 31 3),
       15)] (fun s => { s with fab := { s.fab with place := [(4095, 32)], insts := [{ task := 4095, number := 5, start := 0, phase := .running, cluster := 31, unit := 7 }] } }),
       ([{ resource := 0x1F03, task := 4095, number := 5, issued := 0 }] : List WaitLink),
       ({ resource := 0x1F03, task := 4095, number := 5, issued := 0 } : WaitLink),
       ({ task := 4095, number := 5, start := 0, phase := .running, cluster := 31, unit := 7 } : TaskInst), (task0 1 15 4095 1 2 31 27),
       W_live _ _, by decide +kernel⟩⟩

theorem witness_ChannelsAreCreatedAndDestroyed :
    (∃ (s : State) (r : Req) (ty : Byte) (ix : BitVec 16) (body : List Byte) (g : ImageCfg), s.Live ∧
        s.Accepts r 3 (cmdBody 0x20 (createArgs ty ix body)) ∧ s.commanding = true ∧ ty.toNat ∈ [1, 2, 3, 4, 5, 6, 7, 8, 12, 13] ∧ body = [] ∧
        ix.toNat < s.chanMax ty.toNat ∧ s.cfg = some g ∧ (ty.toNat, ix.toNat) ∈ g.channels.declared ∧ (∀ c,
        s.chan ty.toNat ix.toNat = some c → c.state = .absent)) ∧
    (∃ (s : State) (r : Req) (ix : BitVec 16) (body : List Byte), s.Live ∧ s.Accepts r 3 (cmdBody 0x20 (createArgs 9 ix body)) ∧
        s.commanding = true ∧ body.length = 8 ∧ ix.toNat < s.chanMax 9 ∧ s.chan 9 ix.toNat = none ∧
        s.objOn (ix.toNat / 256) (ix.toNat % 256) = false) ∧
    (∃ (s : State) (r : Req) (ty : Byte) (ix : BitVec 16) (body : List Byte), s.Live ∧ s.Accepts r 3 (cmdBody 0x20 (createArgs ty ix body)) ∧
        ty ≠ 11 ∧ (s.commanding = false ∨ ty = 10 ∨ ty = 14)) ∧
    (∃ (s : State) (r : Req) (h : Word) (c : Chan), s.Live ∧ s.Accepts r 3 (cmdBody 0x21 (le32 h)) ∧ s.commanding = true ∧ s.checkHandle h = 0 ∧
        handleType h ≠ 10 ∧ handleType h ≠ 14 ∧ s.chan (handleType h) (handleIndex h) = some c ∧ c.state = .live) ∧
    (∃ (s : State) (r : Req) (h : Word), s.Live ∧ s.Accepts r 3 (cmdBody 0x21 (le32 h)) ∧ s.commanding = true ∧ s.checkHandle h ≠ 0) ∧
    (∃ (s : State) (r : Req) (ty : Byte) (ix : BitVec 16), s.Live ∧ s.Accepts r 3 (cmdBody 0x22 ([ty, 0] ++ leBytes 2 ix.toNat)) ∧ ty ≠ 0 ∧
        ty.toNat ≤ 14 ∧ ix.toNat < s.chanMax ty.toNat) :=
  ⟨⟨W [(Fld.SLH_STAT_ROLE, 1)] withSession, sign _ (req0) 3 ((cmdBody 0x20 (createArgs ((13 : Byte)) ((7 : BitVec 16)) (([] : List Byte))))),
      (13 : Byte), (7 : BitVec 16), ([] : List Byte), cfg0, W_live _ _,
      accepts_sign { id := 1, lastTseq := some 0xFFFFFFFE } (by decide +kernel) (by decide +kernel),
      first3 (by decide +kernel) (first3 (by decide +kernel) (fun (c : Chan) (h : _ = some c) => nomatch ((by decide +kernel : (W [(Fld.SLH_STAT_ROLE,
      1)] withSession).chan (13 : Byte).toNat (7 : BitVec 16).toNat = none).symm.trans h)))⟩,
   ⟨W [(Fld.SLH_STAT_ROLE, 1)] withSession, sign _ (req0) 3 ((cmdBody 0x20 (createArgs 9 ((0x7FF : BitVec 16)) (List.replicate 8 (0 : Byte))))),
       (0x7FF : BitVec 16), List.replicate 8 (0 : Byte), W_live _ _,
       accepts_sign { id := 1, lastTseq := some 0xFFFFFFFE } (by decide +kernel) (by decide +kernel), by decide +kernel⟩,
   ⟨W [] withSession, sign _ (req0) 3 ((cmdBody 0x20 (createArgs ((10 : Byte)) ((65535 : BitVec 16)) (([] : List Byte))))), (10 : Byte),
       (65535 : BitVec 16), ([] : List Byte), W_live _ _,
       accepts_sign { id := 1, lastTseq := some 0xFFFFFFFE } (by decide +kernel) (by decide +kernel), by decide +kernel⟩,
   ⟨W [(Fld.SLH_STAT_ROLE, 1)] (fun s => withSession { s with chans := [{ typ := 13, index := 7 }] }),
       sign _ (req0) 3 ((cmdBody 0x21 (le32 ((mkHandle 13 7 1))))), (mkHandle 13 7 1), ({ typ := 13, index := 7 } : Chan), W_live _ _,
       accepts_sign { id := 1, lastTseq := some 0xFFFFFFFE } (by decide +kernel) (by decide +kernel), by decide +kernel⟩,
   ⟨W [(Fld.SLH_STAT_ROLE, 1)] withSession, sign _ (req0) 3 ((cmdBody 0x21 (le32 ((0 : Word))))), (0 : Word), W_live _ _,
       accepts_sign { id := 1, lastTseq := some 0xFFFFFFFE } (by decide +kernel) (by decide +kernel), by decide +kernel⟩,
   ⟨W [] withSession, sign _ (req0) 3 ((cmdBody 0x22 ([((14 : Byte)), 0] ++ leBytes 2 ((4095 : BitVec 16)).toNat))), (14 : Byte),
       (4095 : BitVec 16), W_live _ _, accepts_sign { id := 1, lastTseq := some 0xFFFFFFFE } (by decide +kernel) (by decide +kernel),
       by decide +kernel⟩⟩

theorem witness_FunctionsAreReinitialised :
    (∃ (s : State) (r : Req) (f : Byte) (a : Word), s.Live ∧ s.Accepts r 3 (cmdBody 0x30 ([f, 0, 0, 0] ++ le32 a)) ∧ ((f = 1 ∧
        s.checkHandle a = 0) ∨ (f.toNat ∈ [2, 3, 4, 8] ∧ a = 0) ∨ (f = 5 ∧ a.toNat ≤ 7) ∨ (f = 6 ∧ a.toNat ≤ 2) ∨ (f = 7 ∧ a.toNat ≤ 15)) ∧
        (∀ x ∈ s.mgt.reinits, ¬ (x.func = f.toNat ∧ x.arg = a))) ∧
    (∃ (s : State) (f : Byte) (a : Word) (x : Reinit), s.Live ∧ s.mgt.reinits.find? (fun x => decide (x.func = f.toNat ∧ x.arg = a)) = some x ∧
        (x.req.session = 0 ∨ (s.session x.req.session).isSome = true)) ∧
    (∃ (s : State) (f : Byte) (a : Word) (x : Reinit) (c : Instr) (k : Byte) (n : List Byte), ((c = .funcReinitDone f a false k ∧
        n = [k]) ∨ (c = .funcReinitTimeout f a ∧ n = [])) ∧ s.Live ∧ s.mgt.reinits.find? (fun x => decide (x.func = f.toNat ∧
        x.arg = a)) = some x ∧ (x.req.session = 0 ∨ (s.session x.req.session).isSome = true)) :=
  ⟨⟨W [] withSession, sign _ (req0) 3 ((cmdBody 0x30 ([((7 : Byte)), 0, 0, 0] ++ le32 ((15 : Word))))), (7 : Byte), (15 : Word), W_live _ _,
      accepts_sign { id := 1, lastTseq := some 0xFFFFFFFE } (by decide +kernel) (by decide +kernel), by decide +kernel⟩,
   ⟨W [] (fun s => { s with mgt := { s.mgt with reinits := [{ func := 7, arg := 15, req := { path := .spi, ip := 0, port := 0, session := 0, tseq := 1, op := 0x30 } }] } }),
       (7 : Byte), (15 : Word),
       ({ func := 7, arg := 15, req := { path := .spi, ip := 0, port := 0, session := 0, tseq := 1, op := 0x30 } } : Reinit), W_live _ _,
       by decide +kernel⟩,
   ⟨W [] (fun s => { s with mgt := { s.mgt with reinits := [{ func := 7, arg := 15, req := { path := .spi, ip := 0, port := 0, session := 0, tseq := 1, op := 0x30 } }] } }),
       (7 : Byte), (15 : Word),
       ({ func := 7, arg := 15, req := { path := .spi, ip := 0, port := 0, session := 0, tseq := 1, op := 0x30 } } : Reinit),
       Instr.funcReinitTimeout 7 15, (0 : Byte), ([] : List Byte), .inr ⟨rfl, rfl⟩, W_live _ _, by decide +kernel⟩⟩

theorem witness_SilharFramesAreSentAndHeard :
    let good := fun (s : State) (typ len : Nat) (b : List Byte) => s.silhar = true ∧ len ≤ b.length ∧ fld b 0 1 = 1 ∧ fld b 1 1 = typ ∧ fld b 2 1 < s.groupSize ∧ fld b 2 1 < 3 ∧ fld b 2 1 ≠ s.member ∧ fld b 3 1 ≤ 2
    (∃ (s : State) (g : GrpCfg), s.Live ∧ s.silhar = true ∧ s.grpCfg = some g ∧ (s.linkUp 0 = true ∨ s.linkUp 1 = true)) ∧
    (∃ (s : State) (g : GrpCfg), s.Live ∧ s.role = 2 ∧ s.silhar = true ∧ s.grpCfg = some g ∧ (s.linkUp 0 = true ∨ s.linkUp 1 = true)) ∧
    (∃ (s : State) (c : Instr) (n : ℕ) (b : List Byte), ((c = .heartbeatRx b ∧ n = 40) ∨ (c = .healthRx b ∧ n = 72) ∨ (c = .claimRx b ∧
        n = 44) ∨ (c = .offerRx b ∧ n = 44)) ∧ s.Live ∧ s.silhar = true ∧ b.length < n) ∧
    (∃ (s : State) (b : List Byte), s.Live ∧ good s 3 72 b ∧ s.grp.members.length = 3) ∧
    (∃ (s : State) (b : List Byte), s.Live ∧ good s 4 44 b ∧ s.commanding = false ∧ (b.drop 28).take 16 = (hmac s.groupKey (b.take 28)).take 16) ∧
    (∃ (s : State) (c : Instr) (b : List Byte), ((c = .claimRx b ∧ good s 4 44 b) ∨ (c = .offerRx b ∧ good s 5 44 b)) ∧ s.Live ∧
        (b.drop 28).take 16 ≠ (hmac s.groupKey (b.take 28)).take 16) ∧
    (∃ (s : State) (b : List Byte), s.Live ∧ good s 5 44 b ∧ (b.drop 28).take 16 = (hmac s.groupKey (b.take 28)).take 16 ∧ s.role = 0 ∧
        fld b 16 1 = s.member ∧ fld b 4 4 = (s.rd Reg.SLH_EPOCH).toNat) ∧
    (∃ (s : State) (b : List Byte), s.Live ∧ good s 2 (24 + fld b 18 2) b ∧ s.role = 0 ∧ fld b 4 4 = (s.rd Reg.SLH_EPOCH).toNat ∧
        s.grp.frags = none ∧ fld b 16 1 = 0 ∧ fld b 17 1 = 2 ∧ 0 < fld b 18 2 ∧ fld b 18 2 ≤ 448) ∧
    (∃ (s : State) (b : List Byte), s.Live ∧ good s 2 (40 + fld b 18 2) b ∧ s.role = 0 ∧ fld b 4 4 = (s.rd Reg.SLH_EPOCH).toNat ∧ s.grp.frags = none ∧ fld b 16 1 = 0 ∧ fld b 17 1 = 1 ∧ 0 < fld b 18 2 ∧ fld b 18 2 ≤ 448 ∧ let d := (b.drop 24).take (fld b 18 2);
        (b.drop (24 + fld b 18 2)).take 16 = (hmac s.groupKey d).take 16) ∧
    (∃ (s : State) (b : List Byte), s.Live ∧ good s 1 40 b ∧ fld b 3 1 = 1 ∧ s.role = 0 ∧ (s.rd Reg.SLH_EPOCH).toNat ≤ fld b 4 4 ∧
        s.grp.members.length = 3) ∧
    (∃ (s : State), s.Live) :=
  ⟨⟨W [(Fld.ETHp_CFG_EN 1, 1), (Fld.ETHp_STAT_LINK 1, 1)] (fun s => { s with grp := { s.grp with started := true } }), cfg0.grp, W_live _ _,
      by decide +kernel⟩,
   ⟨W [(Fld.ETHp_CFG_EN 1, 1), (Fld.ETHp_STAT_LINK 1, 1), (Fld.SLH_STAT_ROLE, 2)] (fun s => { s with grp := { s.grp with started := true } }),
       cfg0.grp, W_live _ _, by decide +kernel⟩,
   ⟨W [] (fun s => { s with grp := { s.grp with started := true } }), Instr.offerRx (List.replicate 43 0), (44 : Nat),
       (List.replicate 43 (0 : Byte)), .inr (.inr (.inr ⟨rfl, rfl⟩)), W_live _ _, by decide +kernel⟩,
   ⟨W [(Fld.SLH_STAT_ROLE, 0)] (fun s => { s with grp := { s.grp with started := true } }), ([1, 3, 2, 0] ++ List.replicate 68 0 : List Byte),
       W_live _ _, by decide +kernel⟩,
   ⟨W [(Fld.SLH_STAT_ROLE, 0)] (fun s => { s with grp := { s.grp with started := true } }), ([1, 4, 2, 1, 5, 0, 0,
       0] ++ List.replicate 20 0 ++ (hmac [5] ([1, 4, 2, 1, 5, 0, 0, 0] ++ List.replicate 20 0)).take 16 : List Byte), W_live _ _,
       by decide +kernel⟩,
   ⟨W [] (fun s => { s with grp := { s.grp with started := true } }), Instr.claimRx ([1, 4, 2, 1] ++ List.replicate 40 0), ([1, 4, 2,
       1] ++ List.replicate 40 0 : List Byte), .inl ⟨rfl, by decide +kernel⟩, W_live _ _, by decide +kernel⟩,
   ⟨W [(Fld.SLH_STAT_ROLE, 0)] (fun s => { s with grp := { s.grp with started := true } }), ([1, 5, 2, 1] ++ List.replicate 24 0 ++ (hmac [5] ([1,
       5, 2, 1] ++ List.replicate 24 0)).take 16 : List Byte), W_live _ _, by decide +kernel⟩,
   ⟨W [(Fld.SLH_STAT_ROLE, 0)] (fun s => { s with grp := { s.grp with started := true } }), ([1, 2, 2, 1] ++ List.replicate 12 0 ++ [0, 2, 0xC0,
       1] ++ List.replicate 452 0 : List Byte), W_live _ _, by decide +kernel⟩,
   ⟨W [(Fld.SLH_STAT_ROLE, 0)] (fun s => { s with grp := { s.grp with started := true } }), ([1, 2, 2, 1] ++ List.replicate 12 0 ++ [0, 1, 1, 0, 0,
       0, 0, 0, 0] ++ (hmac [5] [0]).take 16 : List Byte), W_live _ _, by decide +kernel⟩,
   ⟨W [(Fld.SLH_STAT_ROLE, 0)] (fun s => { s with grp := { s.grp with started := true } }), ([1, 1, 2, 1] ++ List.replicate 36 0 : List Byte),
       W_live _ _, by decide +kernel⟩,
   ⟨W [] id, W_live _ _⟩⟩

theorem witness_TheRoleIsClaimedAndGivenUp :
    (∃ (s : State), s.Live ∧ s.silhar = true ∧ s.commanding = false ∧ s.member < s.groupSize ∧ s.formEligible = true ∧ s.lowerForming = false) ∧
    (∃ (s : State) (h : HbInfo), s.Live ∧ s.silhar = true ∧ s.role = 0 ∧ s.grp.hb = some h ∧ s.grp.lost = none ∧ h.epoch = s.rd Reg.SLH_EPOCH ∧
        s.eligible = true ∧ s.rank h.member = 0) ∧
    (∃ (s : State) (h : HbInfo), s.Live ∧ s.silhar = true ∧ s.role = 0 ∧ s.grp.hb = some h ∧ s.grp.lost = none ∧ h.epoch = s.rd Reg.SLH_EPOCH ∧
        (s.eligible = false ∨ s.rank h.member ≠ 0)) ∧
    (∃ (s : State) (m : ℕ) (e : Word), s.Live ∧ s.role = 0 ∧ s.grp.hb.isSome = true ∧ s.grp.lost = some (m, e) ∧ s.eligible = true ∧ s.rank m = 1) ∧
    (∃ (s : State) (b : List Byte), s.Live ∧ s.silhar = true ∧ s.commanding = true ∧ 40 ≤ b.length ∧ fld b 0 1 = 1 ∧ fld b 1 1 = 1 ∧
        fld b 2 1 < s.groupSize ∧ fld b 2 1 < 3 ∧ fld b 2 1 ≠ s.member ∧ fld b 3 1 ≤ 2 ∧ (s.rd Reg.SLH_EPOCH).toNat < fld b 4 4) ∧
    (∃ (s : State), s.Live ∧ s.silhar = true ∧ s.commanding = true ∧ 2 ≤ s.groupSize ∧ s.get Fld.SLH_STAT_ISOLATED = 0) ∧
    (∃ (s : State) (m : Fin 4), s.Live ∧ s.commanding = true ∧ s.silhar = true ∧ s.grp.offer = none ∧ m.val ≠ s.member ∧ s.showsEligible m = true) ∧
    (∃ (s : State) (m : Fin 4), s.Live ∧
        (s.commanding = false ∨ s.silhar = false ∨ s.grp.offer.isSome = true ∨ m.val = s.member ∨ s.showsEligible m = false)) :=
  ⟨⟨W [(Fld.SLH_STAT_ROLE, 2), (Fld.TB_STAT_PTP_OK,
      1)] (fun s => { s with saf := { s.saf with slate := { ok := true }, cobalt := { ok := true } }, grp := { s.grp with started := true, testAt := some 0 } }),
      W_live _ _, by decide +kernel⟩,
   ⟨W [(Fld.SLH_STAT_ROLE, 0), (Fld.TB_STAT_PTP_OK,
       1)] (fun s => { s with saf := { s.saf with slate := { ok := true }, cobalt := { ok := true } }, grp := { s.grp with started := true, testAt := some 0, hb := some { member := 2, epoch := 0, at_ := 0, frame := 0, frameT := 0, emitFrame := 0, emitState := 0, fillFrame := 0, planPeriod := 0, handover := false }, members := [{ healthAt := some 0, tests := 0x200 }, {}, { sha := List.replicate 32 0 }], kept := some (0xFFFFFFFF, [], 0) } }),
       ({ member := 2, epoch := 0, at_ := 0, frame := 0, frameT := 0, emitFrame := 0, emitState := 0, fillFrame := 0, planPeriod := 0, handover := false } : HbInfo),
       W_live _ _, by decide +kernel⟩,
   ⟨W [(Fld.SLH_STAT_ROLE,
       0)] (fun s => { s with grp := { s.grp with started := true, hb := some { member := 2, epoch := 0, at_ := 0, frame := 0, frameT := 0, emitFrame := 0, emitState := 0, fillFrame := 0, planPeriod := 0, handover := false } } }),
       ({ member := 2, epoch := 0, at_ := 0, frame := 0, frameT := 0, emitFrame := 0, emitState := 0, fillFrame := 0, planPeriod := 0, handover := false } : HbInfo),
       W_live _ _, by decide +kernel⟩,
   ⟨W [(Fld.SLH_STAT_ROLE, 0), (Fld.TB_STAT_PTP_OK, 1), (Fld.SYS_STRAP_GROUP_ID,
       1)] (fun s => { s with saf := { s.saf with slate := { ok := true }, cobalt := { ok := true } }, grp := { s.grp with started := true, testAt := some 0, hb := some { member := 2, epoch := 0, at_ := 0, frame := 0, frameT := 0, emitFrame := 0, emitState := 0, fillFrame := 0, planPeriod := 0, handover := false }, members := [{ healthAt := some 0, tests := 0x200 }, {}, { sha := List.replicate 32 0 }], kept := some (0xFFFFFFFF, [], 0), lost := some (2, 0) } }),
       (2 : Nat), (0 : Word), W_live _ _, by decide +kernel⟩,
   ⟨W [(Fld.SLH_STAT_ROLE, 1)] (fun s => { s with grp := { s.grp with started := true } }), ([1, 1, 2, 2, 1, 0, 0,
       0] ++ List.replicate 32 0 : List Byte), W_live _ _, by decide +kernel⟩,
   ⟨W [(Fld.SLH_STAT_ROLE, 1)] (fun s => { s with grp := { s.grp with started := true } }), W_live _ _, by decide +kernel⟩,
   ⟨W [(Fld.SLH_STAT_ROLE,
       1)] (fun s => { s with grp := { s.grp with started := true, members := [{}, {}, { healthAt := some 0, tests := 0x200 }] } }), (2 : Fin 4),
       W_live _ _, by decide +kernel⟩,
   ⟨W [] id, (3 : Fin 4), W_live _ _, by decide +kernel⟩⟩

theorem witness_OperatorCommandsAwaitTheFrame :
    (∃ (s : State) (r : Req) (k : Byte), s.Live ∧ s.Accepts r 3 (cmdBody 0x10 (modeBody k)) ∧ s.commanding = true) ∧
    (∃ (s : State) (v : Word), s.Live ∧ s.commanding = true ∧ v.toNat % 16 ≤ 11) ∧
    (∃ (s : State), s.Live ∧ s.commanding = false) ∧
    (∃ (s : State) (r : Req) (ax : Byte) (rel : Byte) (n : ℤ) (e : ℤ) (psi : ℤ) (v : ℤ), s.Live ∧
        s.Accepts r 3 (cmdBody 0x11 (setpointBody ax rel n e psi v)) ∧ s.commanding = true ∧ ax.toNat ≤ 15 ∧ rel.toNat ≤ 1) ∧
    (∃ (s : State) (r : Req) (a : ℤ) (b : ℤ) (c : Int), s.Live ∧
        s.Accepts r 3 (cmdBody 0x12 (le32 (ofInt32 a) ++ le32 (ofInt32 b) ++ le32 (ofInt32 c))) ∧ s.commanding = true) ∧
    (∃ (s : State) (r : Req) (k : Byte) (ps : List Waypoint), s.Live ∧ s.Accepts r 3 (cmdBody 0x13 ([k, BitVec.ofNat 8 ps.length, 0,
        0] ++ (ps.map Waypoint.bytes).flatten)) ∧ s.commanding = true ∧ 1 ≤ ps.length ∧ ps.length ≤ 8 ∧ k.toNat + ps.length ≤ 32 ∧
        ps.all Waypoint.ok = true) ∧
    (∃ (s : State) (r : Req), s.Live ∧ s.Accepts r 3 (cmdBody 0x14 []) ∧ s.commanding = true) ∧
    (∃ (s : State) (r : Req) (a : ℤ) (b : ℤ), s.Live ∧ s.Accepts r 3 (cmdBody 0x15 (le32 (ofInt32 a) ++ le32 (ofInt32 b))) ∧ s.commanding = true) ∧
    (∃ (s : State) (r : Req) (f : Byte), s.Live ∧ s.Accepts r 3 (cmdBody 0x16 [f, 0, 0, 0]) ∧ s.commanding = true) ∧
    (∃ (s : State) (r : Req) (a : Byte) (b : Byte) (c : Byte) (v : ℤ), s.Live ∧ s.Accepts r 3 (cmdBody 0x17 ([a, b, c, 0] ++ le32 (ofInt32 v))) ∧
        s.commanding = true ∧ (s.calIndex a.toNat b.toNat c.toNat).isSome = true) ∧
    (∃ (s : State) (r : Req) (a : Byte) (b : Byte) (c : Byte) (g : FusCfg) (i : ℕ), s.Live ∧ s.Accepts r 3 (cmdBody 0x18 [a, b, c, 0]) ∧
        s.fusCfg = some g ∧ s.calIndex a.toNat b.toNat c.toNat = some i) ∧
    (∃ (s : State) (r : Req) (f : Byte), s.Live ∧ s.Accepts r 3 (cmdBody 0x19 [f, 0, 0, 0]) ∧ s.commanding = true) ∧
    (∃ (c : Instr) (s : State) (r : Req) (body : List Byte), s.Live ∧ requestOf c = some (r, 3, body) ∧ s.Accepts r 3 body ∧
        0x10 ≤ leNat (body.take 2) ∧ leNat (body.take 2) ≤ 0x19 ∧ leNat (body.take 2) ≠ 0x18 ∧ s.commanding = false) :=
  ⟨⟨W [(Fld.SLH_STAT_ROLE, 1)] withSession, sign _ (req0) 3 ((cmdBody 0x10 (modeBody ((0xFF : Byte))))), (0xFF : Byte), W_live _ _,
      accepts_sign { id := 1, lastTseq := some 0xFFFFFFFE } (by decide +kernel) (by decide +kernel), by decide +kernel⟩,
   ⟨W [(Fld.SLH_STAT_ROLE, 1)] id, (11 : Word), W_live _ _, by decide +kernel⟩,
   ⟨W [] id, W_live _ _, by decide +kernel⟩,
   ⟨W [(Fld.SLH_STAT_ROLE, 1)] withSession,
       sign _ (req0) 3 ((cmdBody 0x11 (setpointBody ((15 : Byte)) ((1 : Byte)) ((-2147483648 : Int)) ((-2147483648 : Int)) ((-2147483648 : Int)) ((-2147483648 : Int))))),
       (15 : Byte), (1 : Byte), (-2147483648 : Int), (-2147483648 : Int), (-2147483648 : Int), (-2147483648 : Int), W_live _ _,
       accepts_sign { id := 1, lastTseq := some 0xFFFFFFFE } (by decide +kernel) (by decide +kernel), by decide +kernel⟩,
   ⟨W [(Fld.SLH_STAT_ROLE, 1)] withSession,
       sign _ (req0) 3 ((cmdBody 0x12 (le32 (ofInt32 ((-2147483648 : Int))) ++ le32 (ofInt32 ((-2147483648 : Int))) ++ le32 (ofInt32 ((-2147483648 : Int)))))),
       (-2147483648 : Int), (-2147483648 : Int), (-2147483648 : Int), W_live _ _,
       accepts_sign { id := 1, lastTseq := some 0xFFFFFFFE } (by decide +kernel) (by decide +kernel), by decide +kernel⟩,
   ⟨W [(Fld.SLH_STAT_ROLE, 1)] withSession, sign _ (req0) 3 ((cmdBody 0x13 ([((31 : Byte)),
       BitVec.ofNat 8 (([{ n := 0, e := 0, speed := 2000, rule := 1, psi := 0 }] : List Waypoint)).length, 0,
       0] ++ ((([{ n := 0, e := 0, speed := 2000, rule := 1, psi := 0 }] : List Waypoint)).map Waypoint.bytes).flatten))), (31 : Byte),
       ([{ n := 0, e := 0, speed := 2000, rule := 1, psi := 0 }] : List Waypoint), W_live _ _,
       accepts_sign { id := 1, lastTseq := some 0xFFFFFFFE } (by decide +kernel) (by decide +kernel), by decide +kernel⟩,
   ⟨W [(Fld.SLH_STAT_ROLE, 1)] withSession, sign _ (req0) 3 ((cmdBody 0x14 [])), W_live _ _,
       accepts_sign { id := 1, lastTseq := some 0xFFFFFFFE } (by decide +kernel) (by decide +kernel), by decide +kernel⟩,
   ⟨W [(Fld.SLH_STAT_ROLE, 1)] withSession,
       sign _ (req0) 3 ((cmdBody 0x15 (le32 (ofInt32 ((-2147483648 : Int))) ++ le32 (ofInt32 ((-2147483648 : Int)))))), (-2147483648 : Int),
       (-2147483648 : Int), W_live _ _, accepts_sign { id := 1, lastTseq := some 0xFFFFFFFE } (by decide +kernel) (by decide +kernel),
       by decide +kernel⟩,
   ⟨W [(Fld.SLH_STAT_ROLE, 1)] withSession, sign _ (req0) 3 ((cmdBody 0x16 [((0xFF : Byte)), 0, 0, 0])), (0xFF : Byte), W_live _ _,
       accepts_sign { id := 1, lastTseq := some 0xFFFFFFFE } (by decide +kernel) (by decide +kernel), by decide +kernel⟩,
   ⟨W [(Fld.SLH_STAT_ROLE, 1)] withSession, sign _ (req0) 3 ((cmdBody 0x17 ([((27 : Byte)), ((1 : Byte)), ((0 : Byte)),
       0] ++ le32 (ofInt32 ((-2147483648 : Int)))))), (27 : Byte), (1 : Byte), (0 : Byte), (-2147483648 : Int), W_live _ _,
       accepts_sign { id := 1, lastTseq := some 0xFFFFFFFE } (by decide +kernel) (by decide +kernel), by decide +kernel⟩,
   ⟨W [] withSession, sign _ (req0) 3 ((cmdBody 0x18 [((27 : Byte)), ((1 : Byte)), ((0 : Byte)), 0])), (27 : Byte), (1 : Byte), (0 : Byte),
       cfg0.fus, (0 : Nat), W_live _ _, accepts_sign { id := 1, lastTseq := some 0xFFFFFFFE } (by decide +kernel) (by decide +kernel),
       by decide +kernel⟩,
   ⟨W [(Fld.SLH_STAT_ROLE, 1)] withSession, sign _ (req0) 3 ((cmdBody 0x19 [((0xFF : Byte)), 0, 0, 0])), (0xFF : Byte), W_live _ _,
       accepts_sign { id := 1, lastTseq := some 0xFFFFFFFE } (by decide +kernel) (by decide +kernel), by decide +kernel⟩,
   ⟨Instr.trackSwap (sign (W [] withSession) req0 3 (cmdBody 0x14 [])), W [] withSession, sign _ (req0) 3 (((cmdBody 0x14 []))), (cmdBody 0x14 []),
       W_live _ _, rfl, accepts_sign { id := 1, lastTseq := some 0xFFFFFFFE } (by decide +kernel) (by decide +kernel), by decide +kernel⟩⟩

theorem witness_ControlNotesWhatIsLateOrLost :
    (∃ (s : State), s.Live ∧ s.fus.published = false ∧ s.fus.deadline = false ∧ s.frame.started = true) ∧
    (∃ (s : State) (e : Epoch) (g : FusCfg), s.Live ∧ s.fus.next = some e ∧ s.fusCfg = some g) ∧
    (∃ (s : State), s.Live) ∧
    (∃ (s : State), s.Live) ∧
    (∃ (s : State), s.Live) ∧
    (∃ (s : State), s.Live ∧ s.actMode ∈ [1, 2, 3]) ∧
    (∃ (s : State), s.Live ∧ s.ctl.srcLost = true ∧ s.ctl.rampFrom = none) ∧
    (∃ (s : State), s.Live ∧ s.ctl.compExit.isSome = true) ∧
    (∃ (s : State), s.Live) :=
  ⟨⟨W [] (fun s => { s with frame := { s.frame with started := true } }), W_live _ _, by decide +kernel⟩,
   ⟨W [] (fun s => { s with fus := { s.fus with next := some { t := 0, n := 0, e := 0, psi := 0, u := 0, v := 0, rate := 0, bn := 0, be := 0, bpsi := 0, sigPos := 0, sigPsi := 0, sigVel := 0, refMask := 0, status := 4, wfN := 0, wfE := 0, originGen := 0, wind := (0, 0, 0), motion := [] } } }),
       ({ t := 0, n := 0, e := 0, psi := 0, u := 0, v := 0, rate := 0, bn := 0, be := 0, bpsi := 0, sigPos := 0, sigPsi := 0, sigVel := 0, refMask := 0, status := 4, wfN := 0, wfE := 0, originGen := 0, wind := (0, 0, 0), motion := [] } : Epoch),
       cfg0.fus, W_live _ _, by decide +kernel⟩,
   ⟨W [] id, W_live _ _⟩,
   ⟨W [] id, W_live _ _⟩,
   ⟨W [] id, W_live _ _⟩,
   ⟨W [(Fld.CTL_MODESTAT_MODE, 3)] id, W_live _ _, by decide +kernel⟩,
   ⟨W [] (fun s => { s with ctl := { s.ctl with srcLost := true } }), W_live _ _, by decide +kernel⟩,
   ⟨W [] (fun s => { s with ctl := { s.ctl with compExit := some 0 } }), W_live _ _, by decide +kernel⟩,
   ⟨W [] id, W_live _ _⟩⟩

theorem witness_SolvesIterateRestartAndStop :
    (∃ (s : State) (c : Fin 3) (g : Fin 48) (o : OwnFlags) (p : SlvCfg) (f : Factor), let k := instOf c g; let x := s.inst k;
        let it := splitStep p s.slvBits x.qp f x;
        let i := mkIterate p s.slvBits x.qp (x.iter + 1) { it with sat := it.sat || o.sat } (decide (0 < f.replaced)) x.refresh.isSome o.domain;
        s.Live ∧ x.solving = true ∧ s.slvCfg (clsOf k) = some p ∧ p.barrier = false ∧ x.factor = some f ∧ x.ready = false ∧ i.sat = false ∧ p.tol < i.merit ∧ x.iter + 1 < p.maxIter) ∧
    (∃ (s : State) (c : Fin 3) (g : Fin 48) (o : OwnFlags) (p : SlvCfg) (f : Factor), let k := instOf c g; let x := s.inst k;
        let it := splitStep p s.slvBits x.qp f x;
        let i := mkIterate p s.slvBits x.qp (x.iter + 1) { it with sat := it.sat || o.sat } (decide (0 < f.replaced)) x.refresh.isSome o.domain;
        s.Live ∧ x.solving = true ∧ s.slvCfg (clsOf k) = some p ∧ p.barrier = false ∧ x.factor = some f ∧ x.ready = false ∧ i.sat = true ∧ x.iter + 1 < p.maxIter) ∧
    (∃ (s : State) (c : Fin 3) (g : Fin 48) (o : OwnFlags) (p : SlvCfg), let k := instOf c g; let x := s.inst k;
        let f := factorise (some s.slvBits.2) (some s.slvBits.2) p.epsPiv p.deltaPiv p.order (barrierMatrix x.qp x);
        let it := barrierStep p s.slvBits x.qp f x;
        let i := mkIterate p s.slvBits x.qp (x.iter + 1) { it with sat := it.sat || o.sat } (decide (0 < f.replaced)) false o.domain;
        s.Live ∧ x.solving = true ∧ s.slvCfg (clsOf k) = some p ∧ p.barrier = true ∧ f.saturated = false ∧ x.ready = false ∧ i.sat = false ∧ p.tol < i.merit ∧ x.iter + 1 < p.maxIter ∧ x.best = none) ∧
    (∃ (s : State) (c : Fin 3) (g : Fin 48), let k := instOf c g; let x := s.inst k;
        let r := { (match x.best with | some i => x.startAt x.qp i.raw i.z [] | none => x.startAt x.qp x.x0 [] []) with badRun := 0, restarts := x.restarts + 1 };
        s.Live ∧ x.solving = true ∧ 3 ≤ x.badRun ∧ x.restarts < 2) ∧
    (∃ (s : State) (c : Fin 3) (g : Fin 48) (n : ℕ) (m : List Vec) (p : SlvCfg), let k := instOf c g; let x := s.inst k;
        let y := factorise (some s.slvBits.2) (some s.slvBits.2) p.epsPiv p.deltaPiv p.order m; let f := { y with replaced := y.replaced + n };
        s.Live ∧ x.refresh = some m ∧ s.slvCfg (clsOf k) = some p ∧ f.saturated = false) ∧
    (∃ (s : State) (c : Fin 3) (g : Fin 48) (z : Bool) (m : List Vec) (p : SlvCfg), let k := instOf c g; let x := s.inst k;
        s.Live ∧ x.refresh = some m ∧ s.slvCfg (clsOf k) = some p ∧ ((factorise (some s.slvBits.2) (some s.slvBits.2) p.epsPiv p.deltaPiv p.order m).saturated = true ∨ z = true)) ∧
    (∃ (s : State) (c : Fin 3), let x := s.inst c; s.Live ∧ c ≠ 2 ∧ x.refresh.isSome = true ∧ x.solving = false) ∧
    (∃ (s : State), s.Live ∧ (s.inst 0).solving = true ∧ (s.inst 0).refresh = none ∧ s.barrier 0 = false ∧ (s.inst 0).best = none) ∧
    (∃ (s : State) (i : Iterate) (g : CtlCfg), s.Live ∧ (s.inst 0).solving = true ∧ (s.inst 0).refresh = none ∧ s.barrier 0 = false ∧
        (s.inst 0).best = some i ∧ s.ctl.periodOn = true ∧ s.ctlCfg = some g) ∧
    (∃ (s : State) (g : Fin 48) (a : AlcCfg) (gc : GroupCfg), s.Live ∧ s.alcCfg = some a ∧ a.groups[g.val]? = some gc ∧ a.groups.length ≤ 48 ∧
        (s.inst (2 + g)).solving = true ∧ (s.inst (2 + g)).refresh = none ∧ s.barrier 2 = false ∧ (s.inst (2 + g)).best = none) ∧
    (∃ (s : State), s.Live) ∧
    (∃ (s : State), s.Live) :=
  ⟨⟨W [] (fun s => { s with slv := [(49, { solving := true, slot0 := some { steps := [], replaced := 0, saturated := false }, iter := 8, x := [0], qp := { n := 1, q := [(0, 10)] } })] }),
      (2 : Fin 3), (47 : Fin 48), ({} : OwnFlags), slv0, ({ steps := [], replaced := 0, saturated := false } : Factor), W_live _ _,
      by decide +kernel⟩,
   ⟨W [] (fun s => { s with slv := [(49, { solving := true, slot0 := some { steps := [], replaced := 0, saturated := false }, iter := 8, x := [0], qp := { n := 1, q := [(0, 1000000)] } })] }),
       (2 : Fin 3), (47 : Fin 48), ({} : OwnFlags), slv0, ({ steps := [], replaced := 0, saturated := false } : Factor), W_live _ _,
       by decide +kernel⟩,
   ⟨W [] (fun s => { s with slv := [(49, { solving := true, x := [0], qp := { n := 1, q := [(0, 10)] } })], cfg := some { cfg0 with alc := { cfg0.alc with slvConseq := { slv0 with barrier := true, epsPiv := 1, deltaPiv := 50 } } } }),
       (2 : Fin 3), (47 : Fin 48), ({} : OwnFlags), ({ slv0 with barrier := true, epsPiv := 1, deltaPiv := 50 } : SlvCfg), W_live _ _,
       by decide +kernel⟩,
   ⟨W [] (fun s => { s with slv := [(49, { solving := true, badRun := 3, restarts := 1 })] }), (2 : Fin 3), (47 : Fin 48), W_live _ _,
       by decide +kernel⟩,
   ⟨W [] (fun s => { s with slv := [(49, { refresh := some [[(0, 1)]] })] }), (2 : Fin 3), (47 : Fin 48), (1 : Nat), ([[(0,
       1)]] : List (Cells Rat)), slv0, W_live _ _, by decide +kernel⟩,
   ⟨W [] (fun s => { s with slv := [(49, { refresh := some [[(0, 1000000)]] })] }), (2 : Fin 3), (47 : Fin 48), false, ([[(0,
       1000000)]] : List (Cells Rat)), slv0, W_live _ _, by decide +kernel⟩,
   ⟨W [] (fun s => { s with slv := [(0, { refresh := some [] })] }), (0 : Fin 3), W_live _ _, by decide +kernel⟩,
   ⟨W [] (fun s => { s with slv := [(0, { solving := true })] }), W_live _ _, by decide +kernel⟩,
   ⟨W [] (fun s => { s with slv := [(0, { solving := true, best := some { index := 1, merit := 0, resid := 5, rp := 0, rd := 0, x := List.replicate 192 0, reg := false, sat := false, domain := false, factOld := false, raw := [], z := [], y := [] } })], ctl := { s.ctl with periodOn := true } }),
       ({ index := 1, merit := 0, resid := 5, rp := 0, rd := 0, x := List.replicate 192 0, reg := false, sat := false, domain := false, factOld := false, raw := [], z := [], y := [] } : Iterate),
       cfg0.ctl, W_live _ _, by decide +kernel⟩,
   ⟨W [] (fun s => { s with slv := [(49, { solving := true })] }), (47 : Fin 48), cfg0.alc,
       ({ thr := 1, sect := 0, refs := 0, hdg := 0 } : GroupCfg), W_live _ _, by decide +kernel⟩,
   ⟨W [] id, W_live _ _⟩,
   ⟨W [] id, W_live _ _⟩⟩

theorem witness_ThrustersAndConsequences :
    (∃ (s : State) (i : Fin 32) (x : ℕ × List Byte), s.Live ∧ i.val < s.thrCount ∧ s.alc.inbox.find? (fun x => decide (x.1 = i.val)) = some x) ∧
    (∃ (s : State) (i : Fin 32), s.Live ∧ i.val < s.thrCount) ∧
    (∃ (s : State) (i : Fin 32) (k : Fin 8), s.Live ∧ (s.thr i).reasons.getLsbD k = true ∧ ((k = 2 ∧ ∃ x y z, (s.thr i).fb = some (x, y, z) ∧
        z.getLsbD 0 = false ∧ z.getLsbD 2 = false) ∨ (k = 3 ∧ (s.thr i).fb.isSome = true) ∨ (k = 5 ∧ ∃ c, s.thrCfg i = some c ∧ ∀ d,
        c.deployed = some d → s.dinLevel d = true))) ∧
    (∃ (s : State), s.Live ∧ s.commanding = true) ∧
    (∃ (s : State), s.Live ∧ s.commanding = false) ∧
    (∃ (s : State) (a : AlcCfg), s.Live ∧ s.alcCfg = some a ∧ s.ownFrame = true ∧ s.epochValid = true ∧ 0 < a.groups.length ∧ let g := s.alc.nextGroup % a.groups.length;
        (s.inst (2 + g)).solving = false) ∧
    (∃ (s : State), s.Live ∧ s.commanding = true ∧ s.epochValid = true) ∧
    (∃ (s : State) (g : Fin 48) (a : AlcCfg), s.Live ∧ s.alcCfg = some a ∧ g.val < a.groups.length ∧ a.groups.length ≤ 48 ∧
        s.get (Fld.CQA_GRPg_NEVER g) = 0 ∧ cellsGet 0 s.alc.cqAt g + a.cqStaleNs ≤ s.now + 1) ∧
    (∃ (s : State) (a : AlcCfg), s.Live ∧ s.alcCfg = some a ∧ a.groups.length ≤ 48) ∧
    (∃ (s : State), s.Live) ∧
    (∃ (s : State), s.Live) :=
  ⟨⟨W [] (fun s => { s with alc := { s.alc with inbox := [(31, List.replicate 24 0)] } }), (31 : Fin 32), ((31,
      List.replicate 24 0) : Nat × List Byte), W_live _ _, by decide +kernel⟩,
   ⟨W [] id, (31 : Fin 32), W_live _ _, by decide +kernel⟩,
   ⟨W [] (fun s => { s with alc := { s.alc with thr := [(31, { fb := some (0, 0, 0), reasons := 8 })] } }), (31 : Fin 32), (3 : Fin 8), W_live _ _,
       by decide +kernel, .inr (.inl ⟨rfl, rfl⟩)⟩,
   ⟨W [(Fld.SLH_STAT_ROLE, 1)] id, W_live _ _, by decide +kernel⟩,
   ⟨W [] id, W_live _ _, by decide +kernel⟩,
   ⟨W [(Fld.SLH_STAT_ROLE,
       1)] (fun s => { s with fus := { s.fus with epoch := some { t := 0, n := 0, e := 0, psi := 0, u := 0, v := 0, rate := 0, bn := 0, be := 0, bpsi := 0, sigPos := 0, sigPsi := 0, sigVel := 0, refMask := 0, status := 4, wfN := 0, wfE := 0, originGen := 0, wind := (0, 0, 0), motion := [] } }, alc := { s.alc with nextGroup := 47 } }),
       cfg0.alc, W_live _ _, by decide +kernel⟩,
   ⟨W [(Fld.SLH_STAT_ROLE,
       1)] (fun s => { s with fus := { s.fus with epoch := some { t := 0, n := 0, e := 0, psi := 0, u := 0, v := 0, rate := 0, bn := 0, be := 0, bpsi := 0, sigPos := 0, sigPsi := 0, sigVel := 0, refMask := 0, status := 4, wfN := 0, wfE := 0, originGen := 0, wind := (0, 0, 0), motion := [] } } }),
       W_live _ _, by decide +kernel⟩,
   ⟨W [(Fld.CQA_GRPg_NEVER 47, 0)] id, (47 : Fin 48), cfg0.alc, W_live _ _, by decide +kernel⟩,
   ⟨W [] id, cfg0.alc, W_live _ _, by decide +kernel⟩,
   ⟨W [] id, W_live _ _⟩,
   ⟨W [] id, W_live _ _⟩⟩

theorem witness_SamplesArriveAndSourcesAreJudged :
    (∃ (s : State) (p : Fin 16) (ty : ℕ) (ix : ℕ) (k : ℕ) (c : SrcCfg) (g : ImageCfg), s.Live ∧ s.cfg = some g ∧ g.uart[p.val]? = some (ty, ix) ∧
        slotOf ty ix = some k ∧ s.srcCfg k = some c ∧ c.pps = none ∧ s.chanLive ty ix = true) ∧
    (∃ (s : State) (p : Fin 16) (ty : ℕ) (ix : ℕ) (k : ℕ) (c : SrcCfg) (m : ℕ) (g : ImageCfg), s.Live ∧ s.cfg = some g ∧ g.uart[p.val]? = some (ty,
        ix) ∧ slotOf ty ix = some k ∧ s.srcCfg k = some c ∧ c.pps = some m ∧ s.chanLive ty ix = true) ∧
    (∃ (s : State) (p : Fin 16) (ix : ℕ) (g : ImageCfg), s.Live ∧ s.cfg = some g ∧ g.uart[p.val]? = some (13, ix) ∧ g.ctl.joystick = some ix ∧
        s.chanLive 13 ix = true) ∧
    (∃ (s : State) (p : Fin 16) (g : ImageCfg) (x : ℕ × ℕ), s.Live ∧ s.cfg = some g ∧ g.uart[p.val]? = some x) ∧
    (∃ (s : State) (src : List Byte) (g : ImageCfg), s.Live ∧ s.cfg = some g ∧ (∀ x ∈ g.net.e450Sources, x.1 ≠ src)) ∧
    (∃ (s : State) (src : List Byte) (g : ImageCfg) (ty : ℕ) (ix : ℕ) (k : ℕ) (c : SrcCfg), s.Live ∧ s.cfg = some g ∧
        g.net.e450Sources.find? (fun x => decide (x.1 = src)) = some (src, ty, ix) ∧ slotOf ty ix = some k ∧ s.srcCfg k = some c ∧ c.pps = none ∧
        s.chanLive ty ix = true) ∧
    (∃ (s : State) (v : Byte) (ty : Byte) (xs : List SensorItem) (ov : Bool), s.Live ∧ (v ≠ 1 ∨ ty ≠ 2 ∨ xs = [] ∨ 32 < xs.length ∨ ov = true)) ∧
    (∃ (s : State) (p : Fin 3) (sd : BitVec 16) (x : SensorItem) (g : ImageCfg) (b : SensorBind), s.Live ∧ s.cfg = some g ∧
        g.net.sensors.find? (fun b => decide (b.port = p.val ∧ b.sender = sd.toNat ∧ b.kind = x.kind.toNat ∧ b.index = x.index.toNat)) = some b) ∧
    (∃ (s : State) (c : Instr) (k : ℕ) (why : ℕ) (g : FusCfg), s.Live ∧ s.fusCfg = some g ∧ (s.src k).st = 1 ∧ ((∃ i : Fin 28,
        c = .outlierReject i ∧ k = i.val ∧ why = 9 ∧ 3 ≤ (s.src k).outRun) ∨ (∃ i : Fin 16, c = .innovReject i ∧ k = i.val ∧
        why = (if (s.src k).gateSat = true then 5 else 1) ∧ g.gateN ≤ (s.src k).gateRun) ∨ (∃ (i : Fin 20) (d : SrcCfg), c = .frozenReject i ∧
        k = i.val ∧ why = 3 ∧ s.srcCfg k = some d ∧ (s.src k).frozen d = true))) ∧
    (∃ (s : State) (c : Instr) (k : ℕ) (g : FusCfg), s.Live ∧ s.fusCfg = some g ∧ ((∃ i : Fin 28, c = .timeReadmit i ∧ k = i.val ∧
        (s.src k).st = 4 ∧ 10 ≤ (s.src k).clean ∧ (s.src k).under = none) ∨ (∃ i : Fin 28, c = .sourceReadmit i ∧ k = i.val ∧ (s.src k).st = 3 ∧
        (s.src k).ok = true ∧ (s.src k).okAt + g.rejHoldNs ≤ s.now))) ∧
    (∃ (s : State) (i : Fin 28) (why : ℕ), s.Live ∧ (s.src i).st = 4 ∧ 10 ≤ (s.src i).clean ∧ (s.src i).under = some why) :=
  ⟨⟨W [] (fun s => { s with chans := [{ typ := 1, index := 0 }, { typ := 1, index := 15 }] }), (15 : Fin 16), (1 : Nat), (0 : Nat), (0 : Nat),
      src0, cfg0, W_live _ _, by decide +kernel⟩,
   ⟨W [] (fun s => { s with chans := [{ typ := 1, index := 0 }, { typ := 1, index := 15 }], cfg := some { cfg0 with fus := { cfg0.fus with src := List.replicate 28 { src0 with pps := some 1 } } } }),
       (15 : Fin 16), (1 : Nat), (0 : Nat), (0 : Nat), ({ src0 with pps := some 1 } : SrcCfg), (1 : Nat),
       ({ cfg0 with fus := { cfg0.fus with src := List.replicate 28 { src0 with pps := some 1 } } } : ImageCfg), W_live _ _, by decide +kernel⟩,
   ⟨W [] (fun s => { s with chans := [{ typ := 13, index := 7 }], cfg := some { cfg0 with uart := List.replicate 16 (13, 7), ctl := { cfg0.ctl with joystick := some 7 } } }),
       (15 : Fin 16), (7 : Nat), ({ cfg0 with uart := List.replicate 16 (13, 7), ctl := { cfg0.ctl with joystick := some 7 } } : ImageCfg),
       W_live _ _, by decide +kernel⟩,
   ⟨W [] id, (15 : Fin 16), cfg0, ((1, 0) : Nat × Nat), W_live _ _, by decide +kernel⟩,
   ⟨W [] id, ([] : List Byte), cfg0, W_live _ _, by decide +kernel⟩,
   ⟨W [] (fun s => { s with chans := [{ typ := 1, index := 0 }, { typ := 1, index := 15 }] }), ([65] : List Byte), cfg0, (1 : Nat), (15 : Nat),
       (15 : Nat), src0, W_live _ _, by decide +kernel⟩,
   ⟨W [] id, (0xFF : Byte), (0xFF : Byte), ([] : List SensorItem), true, W_live _ _, by decide +kernel⟩,
   ⟨W [] (fun s => { s with chans := [{ typ := 1, index := 0 }, { typ := 1, index := 15 }] }), (2 : Fin 3), (65535 : BitVec 16),
       ({ kind := 1, index := 0, qual := 1, dt := 0, body := List.replicate 16 0 } : SensorItem), cfg0,
       ({ port := 2, sender := 0xFFFF, kind := 1, index := 0, typ := 1, chan := 15 } : SensorBind), W_live _ _, by decide +kernel⟩,
   ⟨W [] (fun s => { s with fus := { s.fus with src := [(27, { st := 1, outRun := 3 })] } }), Instr.outlierReject 27, (27 : Nat), (9 : Nat),
       cfg0.fus, W_live _ _, by decide +kernel, by decide +kernel, .inl ⟨27, rfl, rfl, rfl, by decide +kernel⟩⟩,
   ⟨W [] (fun s => { s with fus := { s.fus with src := [(27, { st := 4, clean := 10 })] } }), Instr.timeReadmit 27, (27 : Nat), cfg0.fus,
       W_live _ _, by decide +kernel, .inl ⟨27, rfl, rfl, by decide +kernel, by decide +kernel, by decide +kernel⟩⟩,
   ⟨W [] (fun s => { s with fus := { s.fus with src := [(27, { st := 4, clean := 10, under := some 3 })] } }), (27 : Fin 28), (3 : Nat),
       W_live _ _, by decide +kernel⟩⟩

theorem witness_TheEpochIsFormedAtIntakeClose :
    (∃ (s : State) (g : FusCfg), s.Live ∧ s.fusCfg = some g ∧ s.fus.published = false ∧ s.fus.next = none ∧ s.frame.started = true ∧
        s.ownFrame = true) ∧
    (∃ (s : State), s.Live ∧ s.fus.est = 0 ∧ s.fus.settleOk = true) ∧
    (∃ (s : State), s.Live ∧ s.fus.est = 2) ∧
    (∃ (s : State), s.Live ∧ s.fus.windAgree = true) ∧
    (∃ (s : State), s.Live ∧ s.fus.late ≠ []) ∧
    (∃ (s : State), s.Live) ∧
    (∃ (s : State), s.Live) :=
  ⟨⟨W [(Fld.SLH_STAT_ROLE, 1)] (fun s => { s with frame := { s.frame with started := true } }), cfg0.fus, W_live _ _, by decide +kernel⟩,
   ⟨W [] (fun s => { s with fus := { s.fus with settleOk := true } }), W_live _ _, by decide +kernel⟩,
   ⟨W [] (fun s => { s with fus := { s.fus with est := 2 } }), W_live _ _, by decide +kernel⟩,
   ⟨W [] (fun s => { s with fus := { s.fus with windAgree := true } }), W_live _ _, by decide +kernel⟩,
   ⟨W [] (fun s => { s with fus := { s.fus with late := [(1, { stamp := 5, qual := 1, vals := [] }), (2, { stamp := 3, qual := 1, vals := [] })] } }),
       W_live _ _, by decide +kernel⟩,
   ⟨W [] id, W_live _ _⟩,
   ⟨W [] id, W_live _ _⟩⟩

theorem witness_CanControllersFollowTheirErrorStates :
    (∃ (s : State) (n : Fin 8), s.Live ∧ s.get (Fld.CANn_STAT_STATE n) = 3 ∧ s.canMode n ≠ 0 ∧ s.get (Fld.CANn_STAT_LIMP n) = 0 ∧
        (s.canCtl n).reinit = false) ∧
    (∃ (s : State) (n : Fin 8), s.Live ∧ s.can.length = 8 ∧ (s.canCtl n).boRecover = true ∧ s.get (Fld.CANn_STAT_STATE n) = 2) ∧
    (∃ (s : State) (n : Fin 8), s.Live ∧ s.can.length = 8 ∧ s.gateCause (Reg.CANn_CTRL n) = 0) ∧
    (∃ (s : State) (n : Fin 8) (w : CanWire), s.Live ∧ s.can.length = 8 ∧ (s.canCtl n).tx = some w ∧ 247 < s.get (Fld.CANn_ERRCNT_TEC n)) ∧
    (∃ (s : State) (n : Fin 8) (o : ℕ), s.Live ∧ s.can.length = 8 ∧ (s.canCtl n).tx = some (.object o) ∧ (s.canCtl n).txWindow = false ∧
        s.cancPending n o = false ∧ (s.canCtl n).modeDue = none ∧ (s.canCtl n).reinit = false ∧ s.get (Fld.CANn_STAT_STATE n) < 2 ∧
        s.get (Fld.CANn_ERRCNT_TEC n) ≤ 247) ∧
    (∃ (s : State) (n : Fin 8) (o : ℕ), s.Live ∧ s.can.length = 8 ∧ (s.canCtl n).tx = some (.object o) ∧ (s.canCtl n).txWindow = false ∧
        s.cancPending n o = false ∧ (s.canCtl n).modeDue = none ∧ (s.canCtl n).reinit = false ∧ s.get (Fld.CANn_STAT_STATE n) < 2 ∧
        s.get (Fld.CANn_ERRCNT_TEC n) ≤ 247 ∧ s.get (Fld.CANn_STAT_NOPART n) = 0) ∧
    (∃ (s : State) (n : Fin 8) (o : ℕ), s.Live ∧ s.can.length = 8 ∧ (s.canCtl n).tx = some (.object o) ∧ (s.canCtl n).txWindow = false ∧
        s.cancPending n o = false ∧ (s.canCtl n).modeDue = none ∧ (s.canCtl n).reinit = false) ∧
    (∃ (s : State) (n : Fin 8), s.Live ∧ s.can.length = 8 ∧ s.canHears n = true) ∧
    (∃ (s : State) (n : Fin 8), s.Live ∧ s.can.length = 8 ∧ s.gateCause (Reg.CANn_CTRL n) = 0) ∧
    (∃ (s : State) (n : Fin 8), s.Live ∧ s.canMode n = 4 ∧ s.get (Fld.CANn_STAT_NO_RATE n) = 0) ∧
    (∃ (s : State) (n : Fin 8), s.Live ∧ s.can.length = 8 ∧ s.canMode n = 4) ∧
    (∃ (s : State) (n : Fin 8), s.Live ∧ s.gateCause (Reg.CANn_CTRL n) = 0) :=
  ⟨⟨W [(Fld.CANn_STAT_STATE 7, 3), (Fld.CANn_CTRL_MODE 7, 1)] id, (7 : Fin 8), W_live _ _, by decide +kernel⟩,
   ⟨W [(Fld.CANn_STAT_STATE 7, 2)] (fun s => { s with can := [{}, {}, {}, {}, {}, {}, {}, { boRecover := true }] }), (7 : Fin 8), W_live _ _,
       by decide +kernel⟩,
   ⟨W [((⟨Reg.CLK_GATE0, 0, 18⟩ : Field), 0x3FFFF)] id, (7 : Fin 8), W_live _ _, by decide +kernel⟩,
   ⟨W [(Fld.CANn_STAT_STATE 7, 0), (Fld.CANn_CTRL_MODE 7, 1), (Fld.CANn_ERRCNT_TEC 7,
       248)] (fun s => { s with can := [{}, {}, {}, {}, {}, {}, {}, { tx := some .reference }] }), (7 : Fin 8), CanWire.reference, W_live _ _,
       by decide +kernel⟩,
   ⟨W [(Fld.CANn_STAT_STATE 7, 0), (Fld.CANn_CTRL_MODE 7,
       1)] (fun s => { s with can := [{}, {}, {}, {}, {}, {}, {}, { tx := some (.object 255) }] }), (7 : Fin 8), (255 : Nat), W_live _ _,
       by decide +kernel⟩,
   ⟨W [(Fld.CANn_STAT_STATE 7, 0), (Fld.CANn_CTRL_MODE 7,
       1)] (fun s => { s with can := [{}, {}, {}, {}, {}, {}, {}, { tx := some (.object 255) }] }), (7 : Fin 8), (255 : Nat), W_live _ _,
       by decide +kernel⟩,
   ⟨W [(Fld.CANn_STAT_STATE 7, 0), (Fld.CANn_CTRL_MODE 7,
       1)] (fun s => { s with can := [{}, {}, {}, {}, {}, {}, {}, { tx := some (.object 255) }] }), (7 : Fin 8), (255 : Nat), W_live _ _,
       by decide +kernel⟩,
   ⟨W [(Fld.CANn_STAT_STATE 7, 1), (Fld.CANn_CTRL_MODE 7, 1)] id, (7 : Fin 8), W_live _ _, by decide +kernel⟩,
   ⟨W [((⟨Reg.CLK_GATE0, 0, 18⟩ : Field), 0x3FFFF)] id, (7 : Fin 8), W_live _ _, by decide +kernel⟩,
   ⟨W [(Fld.CANn_CTRL_MODE 7, 4)] id, (7 : Fin 8), W_live _ _, by decide +kernel⟩,
   ⟨W [(Fld.CANn_CTRL_MODE 7, 4)] id, (7 : Fin 8), W_live _ _, by decide +kernel⟩,
   ⟨W [((⟨Reg.CLK_GATE0, 0, 18⟩ : Field), 0x3FFFF)] id, (7 : Fin 8), W_live _ _, by decide +kernel⟩⟩

theorem witness_CanFramesAreSentReceivedAndScheduled :
    (∃ (s : State) (n : Fin 8) (o : ℕ) (x : CanTx) (xs : List CanTx), s.Live ∧ s.can.length = 8 ∧ s.canSends n = true ∧ (s.canCtl n).tx = none ∧
        s.ttOn n = false ∧ (o, x :: xs) ∈ s.canQueued n ∧ (∀ p ∈ s.canQueued n, ∀ y ∈ p.2, x.item.frame ≤ y.item.frame) ∧ (∀ p ∈ s.canQueued n,
        p.1 ≠ o → s.canRank n o < s.canRank n p.1 ∨ ∃ y, p.2.head? = some y ∧ x.item.frame < y.item.frame)) ∧
    (∃ (s : State) (n : Fin 8) (o : ℕ) (x : CanTx) (xs : List CanTx), s.Live ∧ s.can.length = 8 ∧ (s.canCtl n).tx = some (.object o) ∧
        (s.canObj n o).queue = x :: xs ∧ s.cancPending n o = false ∧ (s.canCtl n).modeDue = none ∧ (s.canCtl n).reinit = false) ∧
    (∃ (s : State) (n : Fin 8) (f : CanFrame), s.Live ∧ s.canHears n = true ∧ f.fdf = false ∧ f.remote = true ∧ s.canMode n ≠ 4) ∧
    (∃ (s : State) (n : Fin 8) (f : CanFrame) (o : ℕ) (k : ℕ) (j : ℕ) (c : SrcCfg), let h := s.rd (Reg.CANn_OBJHDL n o);
        s.Live ∧ s.can.length = 8 ∧ s.canHears n = true ∧ (f.fdf = true → s.get (Fld.CANn_CTRL_FD_EN n) = 1) ∧ f.remote = false ∧ s.canMode n ≠ 4 ∧ s.ttOn n = false ∧ s.canSlot n f = none ∧ s.canFilter n f = some o ∧ o < 255 ∧ s.objOn n o = true ∧ s.get (Fld.CANn_OBJCFG_DIR n o) = 0 ∧ s.get (Fld.CANn_OBJFMT_PROTO n o) = 0 ∧ s.canDup n = false ∧ (∀ g, s.cfg = some g → g.powerHandle ≠ h) ∧ slotOf (handleType h) (handleIndex h) = some k ∧ s.srcCfg k = some c ∧ s.injected k = some j ∧ s.chanLive (handleType h) (handleIndex h) = true ∧ (s.src k).inbox.length < 16) ∧
    (∃ (s : State) (n : Fin 8) (o : Byte), s.Live ∧ s.can.length = 8 ∧ s.gateCause (Reg.CANn_TXCANCEL n) = 0 ∧ s.objSends n o.toNat = true ∧
        s.get (Fld.CANn_OBJHDL_HANDLE n o.toNat) / 2 ^ 28 = 9) ∧
    (∃ (s : State) (n : Fin 8) (w : Fin 8), s.Live ∧ s.gateCause (Reg.CANn_OBJENw n w) = 0) ∧
    (∃ (s : State) (n : Fin 8) (o : Byte), s.Live ∧ s.can.length = 8 ∧ (s.canObj n o.toNat).asm.isSome = true) ∧
    (∃ (s : State) (n : Fin 8) (o : Byte), s.Live ∧ s.can.length = 8 ∧ s.canDup n = true ∧ n.val % 2 = 0 ∧ s.objOn n o.toNat = true ∧
        s.get (Fld.CANn_OBJCFG_DIR n o.toNat) = 0 ∧ s.get (Fld.CANn_OBJFMT_RX_TIMEOUT n o.toNat) ≠ 0) ∧
    (∃ (s : State) (n : Fin 8), s.Live ∧ s.gateCause (Reg.CANn_TTSWAP n) = 0) ∧
    (∃ (s : State) (n : Fin 8), s.Live ∧ s.can.length = 8 ∧ s.ttOn n = true ∧ s.canHears n = true) ∧
    (∃ (s : State) (n : Fin 8), s.Live ∧ s.can.length = 8 ∧ s.ttOn n = true ∧ s.canHears n = true ∧ (s.canCtl n).refSeen = false ∧
        s.get (Fld.CANn_STAT_TT_MASTER n) = 0) ∧
    (∃ (s : State) (n : Fin 8) (j : Fin 64), let w := s.ttWindow n (s.get (Fld.CANn_TTSTAT_BANK n)) j;
        s.Live ∧ s.can.length = 8 ∧ s.ttOn n = true ∧ (s.canCtl n).ttRun = true ∧ w.typ ≠ 3 ∧ s.get (Fld.CANn_TTSTAT_CYCLE n) % 2 ^ w.rep = w.base % 2 ^ w.rep) :=
  ⟨⟨W [(Fld.CANn_STAT_STATE 7, 0), (Fld.CANn_CTRL_MODE 7, 1), ((⟨Reg.CANn_OBJENw 7 7, 31, 1⟩ : Field), 1), (Fld.CANn_OBJCFG_DIR 7 255,
      1)] (fun s => { s with can := [{}, {}, {}, {}, {}, {}, {}, { objs := [(255, { queue := [({ item := { handle := 0, seq := 0, epoch := 0, frame := 0, marker := none, payload := [] }, fixed := false } : CanTx)] })] }] }),
      (7 : Fin 8), (255 : Nat),
      ({ item := { handle := 0, seq := 0, epoch := 0, frame := 0, marker := none, payload := [] }, fixed := false } : CanTx), ([] : List CanTx),
      W_live _ _,
      first3 (by decide +kernel) (first3 (by decide +kernel) (fun p hp hn => absurd ((by decide +kernel : ∀ p ∈ (W [(Fld.CANn_STAT_STATE 7, 0),
      (Fld.CANn_CTRL_MODE 7, 1), ((⟨Reg.CANn_OBJENw 7 7, 31, 1⟩ : Field), 1), (Fld.CANn_OBJCFG_DIR 7 255,
      1)] (fun s => { s with can := [{}, {}, {}, {}, {}, {}, {}, { objs := [(255, { queue := [({ item := { handle := 0, seq := 0, epoch := 0, frame := 0, marker := none, payload := [] }, fixed := false } : CanTx)] })] }] })).canQueued 7,
      p.1 = 255) p hp) hn))⟩,
   ⟨W [(Fld.CANn_STAT_STATE 7, 0), (Fld.CANn_CTRL_MODE 7, 1), ((⟨Reg.CANn_OBJENw 7 7, 31, 1⟩ : Field), 1), (Fld.CANn_OBJCFG_DIR 7 255,
       1)] (fun s => { s with can := [{}, {}, {}, {}, {}, {}, {}, { tx := some (.object 255), objs := [(255, { queue := [({ item := { handle := 0, seq := 0, epoch := 0, frame := 0, marker := none, payload := [] }, fixed := false } : CanTx)] })] }] }),
       (7 : Fin 8), (255 : Nat),
       ({ item := { handle := 0, seq := 0, epoch := 0, frame := 0, marker := none, payload := [] }, fixed := false } : CanTx), ([] : List CanTx),
       W_live _ _, by decide +kernel⟩,
   ⟨W [(Fld.CANn_STAT_STATE 7, 0), (Fld.CANn_CTRL_MODE 7, 1)] id, (7 : Fin 8),
       ({ id := 0x7FF, ide := false, fdf := false, brs := false, esi := false, remote := true, data := [] } : CanFrame), W_live _ _,
       by decide +kernel⟩,
   ⟨W [(Fld.CANn_STAT_STATE 7, 0), (Fld.CANn_CTRL_MODE 7, 1), (Fld.CANn_FLTCFG_NSTD 7, 1), ((⟨Reg.CANn_STDFLTj 7 0, 24, 8⟩ : Field), 254),
       ((⟨Reg.CANn_STDFLTj 7 0, 22, 2⟩ : Field), 3), ((⟨Reg.CANn_STDFLTj 7 0, 0, 11⟩ : Field), 0x7FF), ((⟨Reg.CANn_STDFLTj 7 0, 11, 11⟩ : Field),
       0x7FF), ((⟨Reg.CANn_OBJENw 7 7, 30, 1⟩ : Field), 1), ((⟨Reg.CANn_OBJHDL 7 254, 0, 32⟩ : Field),
       (mkHandle 1 15 1).toNat)] (fun s => { s with chans := [{ typ := 1, index := 0 }, { typ := 1, index := 15 }] }), (7 : Fin 8),
       ({ id := 0x7FF, ide := false, fdf := false, brs := false, esi := false, remote := false, data := [] } : CanFrame), (254 : Nat), (15 : Nat),
       (15 : Nat), src0, W_live _ _,
       first3 (by decide +kernel) (first3 (by decide +kernel) (first3 (by decide +kernel) (first3 (by decide +kernel) ⟨by decide +kernel,
       fun g hg => (Option.some.inj (show some cfg0 = some g from hg)) ▸ (by decide +kernel), by decide +kernel⟩)))⟩,
   ⟨W [(Fld.CANn_STAT_STATE 7, 0), (Fld.CANn_CTRL_MODE 7, 1), ((⟨Reg.CLK_GATE0, 0, 18⟩ : Field), 0x3FFFF), ((⟨Reg.CANn_OBJENw 7 7, 31, 1⟩ : Field),
       1), (Fld.CANn_OBJCFG_DIR 7 255, 1), (Fld.CANn_OBJHDL_HANDLE 7 255,
       9 * 2 ^ 28)] (fun s => { s with can := [{}, {}, {}, {}, {}, {}, {}, { objs := [(255, { queue := [({ item := { handle := 0, seq := 0, epoch := 0, frame := 0, marker := none, payload := [] }, fixed := false } : CanTx)] })] }] }),
       (7 : Fin 8), (0xFF : Byte), W_live _ _, by decide +kernel⟩,
   ⟨W [((⟨Reg.CLK_GATE0, 0, 18⟩ : Field), 0x3FFFF)] id, (7 : Fin 8), (7 : Fin 8), W_live _ _, by decide +kernel⟩,
   ⟨W [] (fun s => { s with can := [{}, {}, {}, {}, {}, {}, {}, { objs := [(255, { asm := some { stamp := 0, key := 0, next := 0, total := 9, data := [] } })] }] }),
       (7 : Fin 8), (0xFF : Byte), W_live _ _, by decide +kernel⟩,
   ⟨W [((⟨Reg.CANn_OBJENw 6 7, 31, 1⟩ : Field), 1), (Fld.CANn_OBJFMT_RX_TIMEOUT 6 255,
       1)] (fun s => { s with cfg := some { cfg0 with can := List.replicate 8 { mode := 1, detNext := 1, candidates := [0], duplicated := true } } }),
       (6 : Fin 8), (0xFF : Byte), W_live _ _, by decide +kernel⟩,
   ⟨W [((⟨Reg.CLK_GATE0, 0, 18⟩ : Field), 0x3FFFF)] id, (7 : Fin 8), W_live _ _, by decide +kernel⟩,
   ⟨W [(Fld.CANn_STAT_STATE 7, 0), (Fld.CANn_CTRL_MODE 7, 1), (Fld.CANn_TTCFG_ROLE 7, 1)] id, (7 : Fin 8), W_live _ _, by decide +kernel⟩,
   ⟨W [(Fld.CANn_STAT_STATE 7, 0), (Fld.CANn_CTRL_MODE 7, 1), (Fld.CANn_TTCFG_ROLE 7, 1)] id, (7 : Fin 8), W_live _ _, by decide +kernel⟩,
   ⟨W [(Fld.CANn_STAT_STATE 7, 0), (Fld.CANn_CTRL_MODE 7, 1), (Fld.CANn_TTCFG_ROLE 7,
       1)] (fun s => { s with can := [{}, {}, {}, {}, {}, {}, {}, { ttRun := true }] }), (7 : Fin 8), (63 : Fin 64), W_live _ _, by decide +kernel⟩⟩

theorem witness_LinksAndDuplicateDiscard :
    (∃ (s : State) (p : Fin 3), s.Live ∧ s.get (Fld.ETHp_CFG_EN p) = 1) ∧
    (∃ (s : State) (p : Fin 3), s.Live ∧ s.gateCause (Reg.ETHp_CFG p) = 0) ∧
    (∃ (s : State) (p : Fin 3), s.Live ∧ s.linkUp p = true ∧ s.ethFree p = true) ∧
    (∃ (s : State) (p : Fin 3) (f : EthRx) (q : BitVec 16), s.Live ∧ s.linkUp p = true ∧ s.ethFree p = true ∧ f.kind ∉ [.badFcs, .pause, .ptp,
        .supervision] ∧ f.len ≤ 1522 ∧ s.vidOk p f.vid = true ∧ p ≠ 2 ∧ f.trailer = some q) ∧
    (∃ (s : State), s.Live) ∧
    (∃ (s : State), s.Live) ∧
    (∃ (s : State) (g : ImageCfg), s.Live ∧ s.cfg = some g ∧ (s.linkUp 0 = true ∨ s.linkUp 1 = true)) ∧
    (∃ (s : State), s.Live ∧ s.gateCause Reg.ETH_CTRL = 0) ∧
    (∃ (s : State), s.Live ∧ s.gateCause Reg.ETH_MDIO = 0) ∧
    (∃ (s : State), s.Live ∧ s.get Fld.ETH_MDIO_BUSY = 1) :=
  ⟨⟨W [(Fld.ETHp_CFG_EN 2, 1), (Fld.ETHp_STAT_LINK 2, 1)] id, (2 : Fin 3), W_live _ _, by decide +kernel⟩,
   ⟨W [((⟨Reg.CLK_GATE0, 0, 18⟩ : Field), 0x3FFFF)] id, (2 : Fin 3), W_live _ _, by decide +kernel⟩,
   ⟨W [(Fld.ETHp_CFG_EN 2, 1), (Fld.ETHp_STAT_LINK 2, 1)] id, (2 : Fin 3), W_live _ _, by decide +kernel⟩,
   ⟨W [(Fld.ETHp_CFG_EN 1, 1), (Fld.ETHp_STAT_LINK 1, 1)] id, (1 : Fin 3),
       ({ src := 0xFFFFFFFFFFFF, vid := some 1, trailer := some 0xFFFF, crc := 0xFFFFFFFF, len := 1522, kind := .data } : EthRx),
       (0xFFFF : BitVec 16), W_live _ _, by decide +kernel⟩,
   ⟨W [] id, W_live _ _⟩,
   ⟨W [] id, W_live _ _⟩,
   ⟨W [(Fld.ETHp_CFG_EN 1, 1), (Fld.ETHp_STAT_LINK 1, 1)] id, cfg0, W_live _ _, by decide +kernel⟩,
   ⟨W [((⟨Reg.CLK_GATE0, 0, 18⟩ : Field), 0x3FFFF)] id, W_live _ _, by decide +kernel⟩,
   ⟨W [((⟨Reg.CLK_GATE0, 0, 18⟩ : Field), 0x3FFFF)] id, W_live _ _, by decide +kernel⟩,
   ⟨W [(Fld.ETH_MDIO_BUSY, 1)] id, W_live _ _, by decide +kernel⟩⟩

theorem witness_EgressSendsByPriority :
    (∃ (s : State) (x : EthFrame) (a : List EgressItem) (b : List EgressItem), s.Live ∧ s.linkUp 2 = true ∧
        (s.egressItems true).filter (s.mayStart true) = a ++ .frame x :: b ∧ (∀ y ∈ a, y.rank < (EgressItem.frame x).rank) ∧ (∀ y ∈ b,
        y.rank ≤ (EgressItem.frame x).rank)) ∧
    (∃ (s : State) (x : EthFrame) (a : List EgressItem) (b : List EgressItem), s.Live ∧ (s.linkUp 0 = true ∨ s.linkUp 1 = true) ∧
        (s.egressItems false).filter (s.mayStart false) = a ++ .frame x :: b ∧ (∀ y ∈ a, y.rank < (EgressItem.frame x).rank) ∧ (∀ y ∈ b,
        y.rank ≤ (EgressItem.frame x).rank)) ∧
    (∃ (s : State) (x : Msg) (a : List EgressItem) (b : List EgressItem), s.Live ∧ s.linkUp 2 = true ∧
        (s.egressItems true).filter (s.mayStart true) = a ++ .mgmt x :: b ∧ (∀ y ∈ a, y.rank < 2) ∧ (∀ y ∈ b, y.rank ≤ 2)) ∧
    (∃ (s : State) (x : Msg) (a : List EgressItem) (b : List EgressItem), s.Live ∧ (s.linkUp 0 = true ∨ s.linkUp 1 = true) ∧
        (s.egressItems false).filter (s.mayStart false) = a ++ .mgmt x :: b ∧ (∀ y ∈ a, y.rank < 2) ∧ (∀ y ∈ b, y.rank ≤ 2)) ∧
    (∃ (s : State) (m : Bool) (p : ℕ) (k : ℕ) (q : BitVec 16) (u : ℤ) (a : List EgressItem) (b : List EgressItem), s.Live ∧
        (if m then s.linkUp 2 = true else s.linkUp 0 = true ∨ s.linkUp 1 = true) ∧
        (s.egressItems m).filter (s.mayStart m) = a ++ .ptp p k q u :: b ∧ (∀ y ∈ a, y.rank < 6) ∧ (∀ y ∈ b, y.rank ≤ 6)) ∧
    (∃ (s : State) (m : Bool), s.Live ∧ (∀ x ∈ s.egressItems m, s.mayStart m x = false)) ∧
    (∃ (s : State) (c : Instr) (m : Bool) (pend : Sys2Proof.Field) (ref : Sys2Proof.Field), (c, m, pend, ref) ∈ [(Instr.ethSwapPair, false,
        Fld.ETH_SLOTSTAT_PEND_PAIR, Fld.ETH_SLOTSTAT_REF_PAIR), (Instr.ethSwapMgmt, true, Fld.ETH_SLOTSTAT_PEND_MGMT, Fld.ETH_SLOTSTAT_REF_MGMT)] ∧
        s.Live ∧ s.gateCause Reg.ETH_CTRL = 0) ∧
    (∃ (s : State) (g : ImageCfg) (e : Epoch), s.Live ∧ s.cfg = some g ∧ s.fus.epoch = some e ∧ s.commanding = true ∧ e.status / 4 % 2 = 1 ∧
        (s.linkUp 0 = true ∨ s.linkUp 1 = true)) :=
  ⟨⟨W [(Fld.ETHp_CFG_EN 2, 1), (Fld.ETHp_STAT_LINK 2,
      1)] (fun s => { s with eth := { s.eth with mgmtQ := [({ pcp := 6, dest := 0, len := 60, payload := [] } : EthFrame)] } }),
      ({ pcp := 6, dest := 0, len := 60, payload := [] } : EthFrame), ([] : List EgressItem), ([] : List EgressItem), W_live _ _,
      by decide +kernel⟩,
   ⟨W [(Fld.ETHp_CFG_EN 0, 1), (Fld.ETHp_STAT_LINK 0,
       1)] (fun s => { s with eth := { s.eth with pairQ := [({ pcp := 6, dest := 0, len := 60, payload := [] } : EthFrame)] } }),
       ({ pcp := 6, dest := 0, len := 60, payload := [] } : EthFrame), ([] : List EgressItem), ([] : List EgressItem), W_live _ _,
       by decide +kernel⟩,
   ⟨W [(Fld.ETHp_CFG_EN 2, 1), (Fld.ETHp_STAT_LINK 2,
       1)] (fun s => { s with mgt := { s.mgt with outMgmt := [({ path := .mgmt, ip := 0, port := 0, ttype := 0x83, status := 0, session := 0, tseq := 0, erridx := 0, detail := 0, body := [] } : Msg)] } }),
       ({ path := .mgmt, ip := 0, port := 0, ttype := 0x83, status := 0, session := 0, tseq := 0, erridx := 0, detail := 0, body := [] } : Msg),
       ([] : List EgressItem), ([] : List EgressItem), W_live _ _, by decide +kernel⟩,
   ⟨W [(Fld.ETHp_CFG_EN 0, 1), (Fld.ETHp_STAT_LINK 0,
       1)] (fun s => { s with mgt := { s.mgt with outLan := [({ path := .mgmt, ip := 0, port := 0, ttype := 0x83, status := 0, session := 0, tseq := 0, erridx := 0, detail := 0, body := [] } : Msg)] } }),
       ({ path := .mgmt, ip := 0, port := 0, ttype := 0x83, status := 0, session := 0, tseq := 0, erridx := 0, detail := 0, body := [] } : Msg),
       ([] : List EgressItem), ([] : List EgressItem), W_live _ _, by decide +kernel⟩,
   ⟨W [(Fld.ETHp_CFG_EN 2, 1), (Fld.ETHp_STAT_LINK 2, 1)] (fun s => { s with tb := { s.tb with out := [(2, 0, 0xFFFF, 0)] } }), true, (2 : Nat),
       (0 : Nat), (0xFFFF : BitVec 16), (0 : Int), ([] : List EgressItem), ([] : List EgressItem), W_live _ _, by decide +kernel⟩,
   ⟨W [] id, true, W_live _ _, by decide +kernel⟩,
   ⟨W [((⟨Reg.CLK_GATE0, 0, 18⟩ : Field), 0x3FFFF)] id, Instr.ethSwapMgmt, true, Fld.ETH_SLOTSTAT_PEND_MGMT, Fld.ETH_SLOTSTAT_REF_MGMT,
       by decide +kernel, W_live _ _, by decide +kernel⟩,
   ⟨W [(Fld.SLH_STAT_ROLE, 1), (Fld.ETHp_CFG_EN 1, 1), (Fld.ETHp_STAT_LINK 1,
       1)] (fun s => { s with fus := { s.fus with epoch := some { t := 0, n := 0, e := 0, psi := 0, u := 0, v := 0, rate := 0, bn := 0, be := 0, bpsi := 0, sigPos := 0, sigPsi := 0, sigVel := 0, refMask := 0, status := 4, wfN := 0, wfE := 0, originGen := 0, wind := (0, 0, 0), motion := [] } } }),
       cfg0,
       ({ t := 0, n := 0, e := 0, psi := 0, u := 0, v := 0, rate := 0, bn := 0, be := 0, bpsi := 0, sigPos := 0, sigPsi := 0, sigVel := 0, refMask := 0, status := 4, wfN := 0, wfE := 0, originGen := 0, wind := (0, 0, 0), motion := [] } : Epoch),
       W_live _ _, by decide +kernel⟩⟩

theorem witness_LoopsSwitchAtTheirBoundaries :
    (∃ (s : State) (n : Fin 64) (v : ℤ) (q : ℕ), s.Live ∧ s.loopState n = 1 ∧ s.loopOuter n = false ∧ s.loopFb n = some (v, true, q) ∧
        sourceAge (s.get (Fld.SRVn_CFG_FB_KIND n)) (s.loop n).fbSeen (s.loop n).fbAge q ≤ s.get (Fld.SRVn_SAMPLE_FB_AGE n) ∧
        (s.loop n).openReq = false ∧ (s.loop n).overlay = none) ∧
    (∃ (s : State) (n : Fin 64), s.Live ∧ s.loopState n = 1 ∧ s.loopFb n = none ∧ (s.loop n).auto = false) ∧
    (∃ (s : State) (n : Fin 64), s.Live ∧ (s.loopState n = 0 ∨ s.loopState n = 2) ∧ (s.loop n).cmdClose = true ∧ (s.loop n).openReq = false ∧
        (s.loop n).overlay = none ∧ ((s.loopCounts n).latchFb n false).closeCheck n = 0) ∧
    (∃ (s : State) (n : Fin 64) (v : ℤ) (q : ℕ) (w : ℤ) (p : ℕ), s.Live ∧ s.loopState n = 1 ∧ s.loopOuter n = true ∧
        ((s.loop n).bnd + 1) % (s.get (Fld.SRVn_CFG_OUTER_DIV n) + 1) = 0 ∧ s.loopFb n = some (v, true, q) ∧ s.loopOfb n = some (w, true, p) ∧
        sourceAge (s.get (Fld.SRVn_CFG_FB_KIND n)) (s.loop n).fbSeen (s.loop n).fbAge q ≤ s.get (Fld.SRVn_SAMPLE_FB_AGE n) ∧
        sourceAge (s.get (Fld.SRVn_CFG_OFB_KIND n)) (s.loop n).ofbSeen (s.loop n).ofbAge p ≤ s.get (Fld.SRVn_SAMPLE_FB_AGE n) ∧
        (s.loop n).openReq = false ∧ (s.loop n).overlay = none) ∧
    (∃ (s : State) (n : Fin 64), s.Live ∧ (s.loopOuter n = false ∨ s.loopState n ≠ 1)) :=
  ⟨⟨W [(Fld.SRVn_CFG_FB_KIND 63, 1), (Fld.SRVn_CFG_FB_INDEX 63, 31), (Fld.PINi_STAT_STATE 31, 1), (Fld.SRVn_STAT_STATE 63, 1),
      (Fld.SRVn_STAT_OUT 63, 1)] id, (63 : Fin 64), (0 : Int), (0 : Nat), W_live _ _, by decide +kernel⟩,
   ⟨W [(Fld.SRVn_STAT_STATE 63, 1)] id, (63 : Fin 64), W_live _ _, by decide +kernel⟩,
   ⟨W [(Fld.SLH_STAT_ROLE, 1), (Fld.SRVn_CFG_FB_KIND 63, 1), (Fld.SRVn_CFG_FB_INDEX 63, 31), (Fld.PINi_STAT_STATE 31, 1), ((⟨Reg.SRVn_BON 63, 0,
       32⟩ : Field), 9), (Fld.SRVn_SAMPLE_PER 63, 9), (Fld.SRVn_SAMPLE_FB_AGE 63, 1), (Fld.SRVn_CFG_LAW 63,
       0)] (fun s => { s with srv := [(63, { cmdClose := true })] }), (63 : Fin 64), W_live _ _, by decide +kernel⟩,
   ⟨W [(Fld.SRVn_CFG_FB_KIND 63, 1), (Fld.SRVn_CFG_FB_INDEX 63, 31), (Fld.PINi_STAT_STATE 31, 1), (Fld.SRVn_STAT_STATE 63, 1),
       (Fld.SRVn_CFG_OUTER 63, 1), (Fld.SRVn_CFG_OFB_KIND 63, 1), (Fld.SRVn_CFG_OFB_INDEX 63, 31)] id, (63 : Fin 64), (0 : Int), (0 : Nat),
       (0 : Int), (0 : Nat), W_live _ _, by decide +kernel⟩,
   ⟨W [] id, (63 : Fin 64), W_live _ _, by decide +kernel⟩⟩

theorem witness_LoopCommandsAndStall :
    (∃ (s : State) (n : Fin 64), s.Live ∧ s.loopState n = 1 ∧ s.get (Fld.SRVn_OTIMER_STALL n) ≠ 0 ∧ s.get (Fld.SRVn_STAT_OUT n) ≠ 0 ∧
        16 * s.get (Fld.SRVn_OTIMER_STALL n) ≤ (s.loop n).on) ∧
    (∃ (s : State) (n : Fin 64), s.Live ∧ s.gateCause (Reg.SRVn_CMD n) = 0) ∧
    (∃ (s : State) (n : Fin 64), s.Live ∧ s.gateCause (Reg.SRVn_CMD n) = 0) ∧
    (∃ (s : State) (n : Fin 64), s.Live ∧ s.gateCause (Reg.SRVn_CMD n) = 0) ∧
    (∃ (s : State) (n : Fin 64), s.Live ∧ s.gateCause (Reg.SRVn_SPSRC n) = 0) ∧
    (∃ (s : State) (n : Fin 64), s.Live ∧ s.gateCause (Reg.SRVn_HOSTSP n) = 0) ∧
    (∃ (s : State), s.Live ∧ s.gateCause Reg.SRV_CTRL = 0) :=
  ⟨⟨W [(Fld.SRVn_STAT_STATE 63, 1), (Fld.SRVn_OTIMER_STALL 63, 2), (Fld.SRVn_STAT_OUT 63, 2)] (fun s => { s with srv := [(63, { on := 32 })] }),
      (63 : Fin 64), W_live _ _, by decide +kernel⟩,
   ⟨W [((⟨Reg.CLK_GATE0, 0, 18⟩ : Field), 0x3FFFF)] id, (63 : Fin 64), W_live _ _, by decide +kernel⟩,
   ⟨W [((⟨Reg.CLK_GATE0, 0, 18⟩ : Field), 0x3FFFF)] id, (63 : Fin 64), W_live _ _, by decide +kernel⟩,
   ⟨W [((⟨Reg.CLK_GATE0, 0, 18⟩ : Field), 0x3FFFF)] id, (63 : Fin 64), W_live _ _, by decide +kernel⟩,
   ⟨W [((⟨Reg.CLK_GATE0, 0, 18⟩ : Field), 0x3FFFF)] id, (63 : Fin 64), W_live _ _, by decide +kernel⟩,
   ⟨W [((⟨Reg.CLK_GATE0, 0, 18⟩ : Field), 0x3FFFF)] id, (63 : Fin 64), W_live _ _, by decide +kernel⟩,
   ⟨W [((⟨Reg.CLK_GATE0, 0, 18⟩ : Field), 0x3FFFF)] id, W_live _ _, by decide +kernel⟩⟩

theorem witness_ChainsDeliverTheirOutputs :
    (∃ (s : State) (n : Fin 64), s.Live ∧ s.get (Fld.CHn_STAT_STATE n) = 2 ∧ s.get (Fld.CHn_CFG_DCB_EN n) = 0 ∧
        settleCount (s.chainD n) (s.chainL n) ≤ (s.chain n).outs + 1) ∧
    (∃ (s : State) (n : Fin 64), s.Live ∧ s.get (Fld.CHn_STAT_STATE n) = 2 ∧ s.get (Fld.CHn_CFG_DCB_EN n) = 1 ∧
        settleCount (s.chainD n) (s.chainL n) ≤ (s.chain n).outs + 1) ∧
    (∃ (s : State) (n : Fin 64), s.Live ∧ s.get (Fld.CHn_STAT_STATE n) = 2 ∧ (s.chain n).outs + 1 < settleCount (s.chainD n) (s.chainL n)) ∧
    (∃ (s : State) (n : Fin 64), s.Live ∧ s.gateCause (Reg.CHn_CMD n) = 0) ∧
    (∃ (s : State) (n : Fin 64), s.Live ∧ s.gateCause (Reg.CHn_CMD n) = 0) ∧
    (∃ (s : State) (n : Fin 64), s.Live ∧ s.get (Fld.CHn_STAT_STATE n) = 2) ∧
    (∃ (s : State) (n : Fin 64), s.Live ∧ s.gateCause (Reg.CHn_DCB n) = 0) ∧
    (∃ (s : State), s.Live) :=
  ⟨⟨W [(Fld.CHn_STAT_STATE 63, 2)] (fun s => { s with ana := { s.ana with chains := [(63, { outs := 200 })] } }), (63 : Fin 64), W_live _ _,
      by decide +kernel⟩,
   ⟨W [(Fld.CHn_STAT_STATE 63, 2), (Fld.CHn_CFG_DCB_EN 63,
       1)] (fun s => { s with ana := { s.ana with chains := [(63, { outs := 200, m := some 256 })] } }), (63 : Fin 64), W_live _ _,
       by decide +kernel⟩,
   ⟨W [(Fld.CHn_STAT_STATE 63, 2), (Fld.CHn_CFG_NTAP 63, 127)] id, (63 : Fin 64), W_live _ _, by decide +kernel⟩,
   ⟨W [((⟨Reg.CLK_GATE0, 0, 18⟩ : Field), 0x3FFFF)] id, (63 : Fin 64), W_live _ _, by decide +kernel⟩,
   ⟨W [((⟨Reg.CLK_GATE0, 0, 18⟩ : Field), 0x3FFFF)] id, (63 : Fin 64), W_live _ _, by decide +kernel⟩,
   ⟨W [(Fld.CHn_STAT_STATE 63, 2)] id, (63 : Fin 64), W_live _ _, by decide +kernel⟩,
   ⟨W [((⟨Reg.CLK_GATE0, 0, 18⟩ : Field), 0x3FFFF)] id, (63 : Fin 64), W_live _ _, by decide +kernel⟩,
   ⟨W [] id, W_live _ _⟩⟩

theorem witness_PulseInputsAndOutputs :
    (∃ (s : State) (i : Fin 32) (a : Bool) (b : Bool) (d : ℤ), s.Live ∧ s.pinRuns i = true ∧
        pinStep (s.get (Fld.PINi_CFG_MODE i)) (Bool.xor (s.pin i).a (decide (s.get (Fld.PINi_CFG_AINV i) = 1))) (Bool.xor (s.pin i).b (decide (s.get (Fld.PINi_CFG_BINV i) = 1))) (Bool.xor a (decide (s.get (Fld.PINi_CFG_AINV i) = 1))) (Bool.xor b (decide (s.get (Fld.PINi_CFG_BINV i) = 1))) = some d) ∧
    (∃ (s : State) (i : Fin 32) (a : Bool) (b : Bool), s.Live ∧ s.pinRuns i = true ∧ s.get (Fld.PINi_CFG_MODE i) = 0 ∧ a ≠ (s.pin i).a ∧
        b ≠ (s.pin i).b) ∧
    (∃ (s : State) (i : Fin 32) (f : Word × ℕ) (l : Word × ℕ) (r : Word × ℕ), s.Live ∧ s.pinRuns i = true ∧ (s.pin i).first = some f ∧
        (s.pin i).last = some l ∧ (s.pin i).ref = some r) ∧
    (∃ (s : State) (i : Fin 32) (l : Word × ℕ), s.Live ∧ s.pinRuns i = true ∧ (s.pin i).first = none ∧ (s.pin i).last = some l) ∧
    (∃ (s : State) (i : Fin 32), s.Live ∧ s.pinRuns i = true) ∧
    (∃ (s : State) (i : Fin 32), s.Live ∧ s.gateCause (Reg.PINi_CMD i) = 0 ∧ s.pinRuns i = false) ∧
    (∃ (s : State) (i : Fin 32), s.Live ∧ s.gateCause (Reg.PINi_CMD i) = 0) ∧
    (∃ (s : State) (i : Fin 32), s.Live ∧ s.gateCause (Reg.PINi_CMD i) = 0) ∧
    (∃ (s : State) (n : Fin 32), s.Live ∧ s.gateCause (Reg.AOUTn_DATA n) = 0) ∧
    (∃ (s : State) (c : Instr) (w : Fin 4) (v : Word) (on : Bool), (c, on) ∈ [(Instr.swoSet w v, true), (Instr.swoClr w v, false)] ∧ s.Live) :=
  ⟨⟨W [(Fld.PINi_STAT_STATE 31, 1)] id, (31 : Fin 32), true, false, (1 : Int), W_live _ _, by decide +kernel⟩,
   ⟨W [(Fld.PINi_STAT_STATE 31, 1)] id, (31 : Fin 32), true, true, W_live _ _, by decide +kernel⟩,
   ⟨W [(Fld.PINi_STAT_STATE 31,
       1)] (fun s => { s with ana := { s.ana with pins := [(31, { last := some (9, 9), ref := some (3, 3), first := some (5, 5) })] } }),
       (31 : Fin 32), ((5, 5) : Word × Nat), ((9, 9) : Word × Nat), ((3, 3) : Word × Nat), W_live _ _, by decide +kernel⟩,
   ⟨W [(Fld.PINi_STAT_STATE 31, 1)] (fun s => { s with ana := { s.ana with pins := [(31, { last := some (9, 9), ref := some (3, 3) })] } }),
       (31 : Fin 32), ((9, 9) : Word × Nat), W_live _ _, by decide +kernel⟩,
   ⟨W [(Fld.PINi_STAT_STATE 31, 1)] id, (31 : Fin 32), W_live _ _, by decide +kernel⟩,
   ⟨W [((⟨Reg.CLK_GATE0, 0, 18⟩ : Field), 0x3FFFF)] id, (31 : Fin 32), W_live _ _, by decide +kernel⟩,
   ⟨W [((⟨Reg.CLK_GATE0, 0, 18⟩ : Field), 0x3FFFF)] id, (31 : Fin 32), W_live _ _, by decide +kernel⟩,
   ⟨W [((⟨Reg.CLK_GATE0, 0, 18⟩ : Field), 0x3FFFF)] id, (31 : Fin 32), W_live _ _, by decide +kernel⟩,
   ⟨W [((⟨Reg.CLK_GATE0, 0, 18⟩ : Field), 0x3FFFF)] id, (31 : Fin 32), W_live _ _, by decide +kernel⟩,
   ⟨W [] id, Instr.swoSet 3 0xFFFFFFFF, (3 : Fin 4), (0xFFFFFFFF : Word), true, by decide +kernel, W_live _ _⟩⟩

theorem witness_SafetyFunctionsStopAndFault :
    (∃ (s : State) (x : Tech) (i : Fin 32) (f : Fin 32) (b : Bool) (l : Bool) (c : FnCfg), s.Live ∧ (s.tech x).active = true ∧
        (s.tech x).fnCfg f = some c ∧ c.typ ≠ .reset ∧ i.val ∈ fnInputs c ∧ ((s.tech x).view f).st = 2 ∧ (s.tech x).closed c.anti i b = true ∧
        l = (b && c.anti)) ∧
    (∃ (s : State) (x : Tech) (f : Fin 32), s.Live ∧ ((s.tech x).view f).st = 3) ∧
    (∃ (s : State) (x : Tech) (f : Fin 32) (c : FnCfg), s.Live ∧ (s.tech x).fnCfg f = some c ∧ c.typ ≠ .reset ∧ (s.tech x).active = true ∧
        (s.tech x).disagrees c = true ∧ ((s.tech x).view f).st ≠ 0) ∧
    (∃ (s : State) (x : Tech) (f : Fin 32) (c : FnCfg), s.Live ∧ (s.tech x).fnCfg f = some c ∧ c.typ = .twoHand ∧ ((s.tech x).view f).st = 1 ∧
        Bool.xor ((s.tech x).bothClosed c c.inp) ((s.tech x).bothClosed c (c.inp + 1)) = true ∧ ((s.tech x).view f).rel0 = true ∧
        ((s.tech x).view f).rel1 = true) ∧
    (∃ (s : State) (k : Fin 8), s.Live ∧ s.ownsTp k = true) ∧
    (∃ (s : State) (k : Fin 8), s.Live ∧ s.ownsTp k = false) ∧
    (∃ (s : State) (x : Tech) (k : Fin 8) (a : Word) (f : Fin 32) (c : FnCfg), s.Live ∧ s.saf.tpLow.getLsbD k = true ∧
        (s.tech x).fnCfg f = some c ∧ c.typ ≠ .reset ∧ s.ownsCode c.owner = true ∧ ((s.tech x).view f).st ≠ 0 ∧
        (s.tech x).closed c.anti c.inp false = true ∧ c.tpA = some k.val ∧ a.getLsbD c.inp = true) ∧
    (∃ (s : State) (x : Tech) (p : Fin 16) (c : SafetyCfg), s.Live ∧ (s.tech x).table = some c ∧ c.opt.getD p true = true ∧
        (s.tech x).out.getLsbD p = true) ∧
    (∃ (s : State) (x : Tech) (p : Fin 16), s.Live ∧ (s.tech x).pulse.getLsbD p = true) ∧
    (∃ (s : State) (x : Tech) (p : Fin 16) (l : Bool), s.Live ∧ (s.tech x).active = true ∧
        l ≠ ((s.tech x).out.getLsbD p && !(s.tech x).pulse.getLsbD p)) ∧
    (∃ (s : State) (x : Tech) (p : Fin 16), s.Live ∧ ((s.tech x).out.getLsbD p = false ∨ (s.tech x).pulse.getLsbD p = true)) ∧
    (∃ (s : State), s.Live ∧ s.saf.slate.active = true ∧ s.saf.cobalt.active = true ∧ (∀ y f, ((s.tech y).view f).untold = 0)) ∧
    (∃ (s : State) (x : Tech) (f : Fin 32), s.Live ∧ s.saf.slate.active = true ∧ s.saf.cobalt.active = true ∧ f.val ∈ (s.tech x).governing ∧
        ((s.tech x).view f).untold.getLsbD 5 = true ∧ ((s.tech (otherTech x)).view f).faults.getLsbD 5 = false ∧
        ((s.tech (otherTech x)).view f).st ≠ 0) :=
  ⟨⟨W [] (fun s => { s with saf := { s.saf with slate := { table := some saf0, active := true, ok := true, out := 1, hiA := 0xFFFFFFFF, hiB := 0xFFFFFFFF, seenA := 0xFFFFFFFF, seenB := 0xFFFFFFFF, fns := [(31, { st := 2 })] }, cobalt := { table := some saf0, active := true, ok := true, out := 1, hiA := 0xFFFFFFFF, hiB := 0xFFFFFFFF, seenA := 0xFFFFFFFF, seenB := 0xFFFFFFFF, fns := [(31, { st := 2 })] } } }),
      Tech.cobalt, (31 : Fin 32), (31 : Fin 32), true, false, (fn0 .eStop 31), W_live _ _, by decide +kernel⟩,
   ⟨W [] (fun s => { s with saf := { s.saf with slate := { table := some saf0, active := true, ok := true, out := 1, fns := [(31, { st := 3 })] }, cobalt := { table := some saf0, active := true, ok := true, out := 1, fns := [(31, { st := 3 })] } } }),
       Tech.cobalt, (31 : Fin 32), W_live _ _, by decide +kernel⟩,
   ⟨W [] (fun s => { s with saf := { s.saf with slate := { table := some saf0, active := true, ok := true, out := 1, hiA := 0xFFFFFFFF, seenA := 0xFFFFFFFF, seenB := 0xFFFFFFFF, fns := [(31, { st := 2 })] }, cobalt := { table := some saf0, active := true, ok := true, out := 1, hiA := 0xFFFFFFFF, seenA := 0xFFFFFFFF, seenB := 0xFFFFFFFF, fns := [(31, { st := 2 })] } } }),
       Tech.cobalt, (31 : Fin 32), (fn0 .eStop 31), W_live _ _, by decide +kernel⟩,
   ⟨W [] (fun s => { s with saf := { s.saf with slate := { table := some ({ saf0 with fns := List.replicate 31 none ++ [some (fn0 .twoHand 30)] } : SafetyCfg), active := true, ok := true, out := 1, hiA := 0x7FFFFFFF, hiB := 0x7FFFFFFF, seenA := 0xFFFFFFFF, seenB := 0xFFFFFFFF, fns := [(31, { st := 1, rel0 := true, rel1 := true })] }, cobalt := { table := some ({ saf0 with fns := List.replicate 31 none ++ [some (fn0 .twoHand 30)] } : SafetyCfg), active := true, ok := true, out := 1, hiA := 0x7FFFFFFF, hiB := 0x7FFFFFFF, seenA := 0xFFFFFFFF, seenB := 0xFFFFFFFF, fns := [(31, { st := 1, rel0 := true, rel1 := true })] } } }),
       Tech.cobalt, (31 : Fin 32), (fn0 .twoHand 30), W_live _ _, by decide +kernel⟩,
   ⟨W [] (fun s => { s with saf := { s.saf with slate := { table := some saf0, active := true, ok := true, out := 1, fns := [] }, cobalt := { table := some saf0, active := true, ok := true, out := 1, fns := [] } } }),
       (7 : Fin 8), W_live _ _, by decide +kernel⟩,
   ⟨W [] id, (7 : Fin 8), W_live _ _, by decide +kernel⟩,
   ⟨W [] (fun s => { s with saf := { s.saf with tpLow := 0xFF, slate := { table := some ({ saf0 with fns := List.replicate 31 none ++ [some { fn0 .eStop 31 with tpA := some 7 }] } : SafetyCfg), active := true, ok := true, out := 1, hiA := 0xFFFFFFFF, hiB := 0xFFFFFFFF, seenA := 0xFFFFFFFF, seenB := 0xFFFFFFFF, fns := [(31, { st := 2 })] }, cobalt := { table := some ({ saf0 with fns := List.replicate 31 none ++ [some { fn0 .eStop 31 with tpA := some 7 }] } : SafetyCfg), active := true, ok := true, out := 1, hiA := 0xFFFFFFFF, hiB := 0xFFFFFFFF, seenA := 0xFFFFFFFF, seenB := 0xFFFFFFFF, fns := [(31, { st := 2 })] } } }),
       Tech.cobalt, (7 : Fin 8), (0xFFFFFFFF : Word), (31 : Fin 32), ({ fn0 .eStop 31 with tpA := some 7 } : FnCfg), W_live _ _, by decide +kernel⟩,
   ⟨W [] (fun s => { s with saf := { s.saf with slate := { table := some saf0, active := true, ok := true, out := 0xFFFF, fns := [] }, cobalt := { table := some saf0, active := true, ok := true, out := 0xFFFF, fns := [] } } }),
       Tech.cobalt, (15 : Fin 16), saf0, W_live _ _, by decide +kernel⟩,
   ⟨W [] (fun s => { s with saf := { s.saf with slate := { table := some saf0, active := true, ok := true, out := 0xFFFF, pulse := 0xFFFF, fns := [] }, cobalt := { table := some saf0, active := true, ok := true, out := 0xFFFF, pulse := 0xFFFF, fns := [] } } }),
       Tech.cobalt, (15 : Fin 16), W_live _ _, by decide +kernel⟩,
   ⟨W [] (fun s => { s with saf := { s.saf with slate := { table := some saf0, active := true, ok := true, out := 1, fns := [] }, cobalt := { table := some saf0, active := true, ok := true, out := 1, fns := [] } } }),
       Tech.cobalt, (15 : Fin 16), true, W_live _ _, by decide +kernel⟩,
   ⟨W [] id, Tech.cobalt, (15 : Fin 16), W_live _ _, by decide +kernel⟩,
   ⟨W [] (fun s => { s with saf := { s.saf with slate := { table := some saf0, active := true, ok := true, out := 1, fns := [] }, cobalt := { table := some saf0, active := true, ok := true, out := 1, fns := [] } } }),
       W_live _ _, by decide +kernel, by decide +kernel, fun y f => by cases y <;> rfl⟩,
   ⟨W [] (fun s => { s with saf := { s.saf with slate := { table := some saf0, active := true, ok := true, out := 1, fns := [(31, { st := 2, untold := 0x20 })] }, cobalt := { table := some saf0, active := true, ok := true, out := 1, fns := [(31, { st := 2, untold := 0x20 })] } } }),
       Tech.cobalt, (31 : Fin 32), W_live _ _, by decide +kernel⟩⟩

theorem witness_SafetyHoldsAndReloads :
    (∃ (s : State), s.Live ∧ s.saf.slate.active = true) ∧
    (∃ (s : State), s.Live) ∧
    (∃ (s : State), s.Live ∧ s.saf.slate.active = true ∧ s.saf.cobalt.active = true) ∧
    (∃ (s : State) (x : Tech), s.Live ∧ (s.tech x).active = true) ∧
    (∃ (s : State), s.Live ∧ s.get Fld.SAF_STAT_HOLD = 0) ∧
    (∃ (s : State), s.Live ∧ s.get Fld.SAF_STAT_HOLD = 1) ∧
    (∃ (s : State) (r : Req), s.Live ∧ s.Accepts r 3 (cmdBody 0x50 []) ∧ s.get Fld.SAF_STAT_HOLD = 0) ∧
    (∃ (s : State) (r : Req), s.Live ∧ s.Accepts r 3 (cmdBody 0x51 []) ∧ s.get Fld.SAF_STAT_HOLD = 1) ∧
    (∃ (s : State) (r : Req), s.Live ∧ s.Accepts r 3 (cmdBody 0x51 []) ∧ s.get Fld.SAF_STAT_HOLD = 0) ∧
    (∃ (s : State), s.Live) ∧
    (∃ (s : State) (r : Req) (w : Byte) (b : Byte), s.Live ∧ s.Accepts r 3 (cmdBody 0x52 [w, b, 0, 0]) ∧ w ≠ 0 ∧ w.toNat ≤ 3 ∧
        s.bankOk b.toNat = true) ∧
    (∃ (s : State) (r : Req) (w : Byte) (b : Byte), s.Live ∧ s.Accepts r 3 (cmdBody 0x52 [w, b, 0, 0]) ∧
        (w = 0 ∨ 3 < w.toNat ∨ s.bankOk b.toNat = false)) ∧
    (∃ (s : State) (q : ReqRef), s.Live ∧ s.saf.reload = some (1, q)) ∧
    (∃ (s : State) (w : ℕ) (q : ReqRef), s.Live ∧ s.saf.reload = some (w, q) ∧ s.get Fld.SAF_STAT_READY = 0) ∧
    (∃ (s : State) (d : SafetyCfg), s.Live ∧ s.get Fld.SAF_STAT_COBALT_STATE = 0 ∧ s.saf.slate.table = some d) ∧
    (∃ (s : State), s.Live) :=
  ⟨⟨W [] (fun s => { s with saf := { s.saf with slate := { table := some saf0, active := true, ok := true, out := 1, fns := [(31, { st := 2 })] }, cobalt := { table := some saf0, active := true, ok := true, out := 1, fns := [(31, { st := 2 })] } } }),
      W_live _ _, by decide +kernel⟩,
   ⟨W [] id, W_live _ _⟩,
   ⟨W [] (fun s => { s with saf := { s.saf with slate := { table := some saf0, active := true, ok := true, out := 1, fns := [(31, { st := 2 })] }, cobalt := { table := some saf0, active := true, ok := true, out := 1, fns := [(31, { st := 2 })] } } }),
       W_live _ _, by decide +kernel⟩,
   ⟨W [] (fun s => { s with saf := { s.saf with slate := { table := some saf0, active := true, ok := true, out := 1, fns := [(31, { st := 2 })] }, cobalt := { table := some saf0, active := true, ok := true, out := 1, fns := [(31, { st := 2 })] } } }),
       Tech.cobalt, W_live _ _, by decide +kernel⟩,
   ⟨W [] (fun s => { s with saf := { s.saf with slate := { table := some saf0, active := true, ok := true, out := 1, fns := [(31, { st := 2 })] }, cobalt := { table := some saf0, active := true, ok := true, out := 1, fns := [(31, { st := 2 })] } } }),
       W_live _ _, by decide +kernel⟩,
   ⟨W [(Fld.SAF_STAT_HOLD,
       1)] (fun s => { s with saf := { s.saf with slate := { table := some saf0, active := true, ok := true, out := 1, fns := [(31, { st := 1 })] }, cobalt := { table := some saf0, active := true, ok := true, out := 1, fns := [(31, { st := 1 })] } } }),
       W_live _ _, by decide +kernel⟩,
   ⟨W [] (fun s => withSession { s with saf := { s.saf with slate := { table := some saf0, active := true, ok := true, out := 1, fns := [(31, { st := 2 })] }, cobalt := { table := some saf0, active := true, ok := true, out := 1, fns := [(31, { st := 2 })] } } }),
       sign _ (req0) 3 ((cmdBody 0x50 [])), W_live _ _,
       accepts_sign { id := 1, lastTseq := some 0xFFFFFFFE } (by decide +kernel) (by decide +kernel), by decide +kernel⟩,
   ⟨W [(Fld.SAF_STAT_HOLD,
       1)] (fun s => withSession { s with saf := { s.saf with slate := { table := some saf0, active := true, ok := true, out := 1, fns := [(31, { st := 1 })] }, cobalt := { table := some saf0, active := true, ok := true, out := 1, fns := [(31, { st := 1 })] } } }),
       sign _ (req0) 3 ((cmdBody 0x51 [])), W_live _ _,
       accepts_sign { id := 1, lastTseq := some 0xFFFFFFFE } (by decide +kernel) (by decide +kernel), by decide +kernel⟩,
   ⟨W [] withSession, sign _ (req0) 3 ((cmdBody 0x51 [])), W_live _ _,
       accepts_sign { id := 1, lastTseq := some 0xFFFFFFFE } (by decide +kernel) (by decide +kernel), by decide +kernel⟩,
   ⟨W [] id, W_live _ _⟩,
   ⟨W [(Fld.IMG_STAT_RUN_BANK, 1), (Fld.SAF_STAT_HOLD, 1)] withSession, sign _ (req0) 3 ((cmdBody 0x52 [((3 : Byte)), ((1 : Byte)), 0, 0])),
       (3 : Byte), (1 : Byte), W_live _ _, accepts_sign { id := 1, lastTseq := some 0xFFFFFFFE } (by decide +kernel) (by decide +kernel),
       by decide +kernel⟩,
   ⟨W [] withSession, sign _ (req0) 3 ((cmdBody 0x52 [((4 : Byte)), ((1 : Byte)), 0, 0])), (4 : Byte), (1 : Byte), W_live _ _,
       accepts_sign { id := 1, lastTseq := some 0xFFFFFFFE } (by decide +kernel) (by decide +kernel), by decide +kernel⟩,
   ⟨W [] (fun s => { s with saf := { s.saf with reload := some (1, reqRef req0 0x52), slate := { table := some saf0, active := true, ok := true, out := 1, fns := [(31, { st := 2 })] }, cobalt := { table := some saf0, active := true, ok := true, out := 1, fns := [(31, { st := 2 })] } } }),
       (reqRef req0 0x52), W_live _ _, by decide +kernel⟩,
   ⟨W [] (fun s => { s with saf := { s.saf with reload := some (2, reqRef req0 0x52) } }), (2 : Nat), (reqRef req0 0x52), W_live _ _,
       by decide +kernel⟩,
   ⟨W [] (fun s => { s with saf := { s.saf with slate := { table := some saf0, active := true, ok := true, out := 1, fns := [(31, { st := 2 })] }, cobalt := { table := some saf0, active := true, ok := true, out := 1, fns := [(31, { st := 2 })] } } }),
       saf0, W_live _ _, by decide +kernel⟩,
   ⟨W [] id, W_live _ _⟩⟩

/-! Well-formedness: one term that each check refuses. -/

theorem test_mac_length : (Instr.closeSession req0).wf = false := by decide
theorem test_int32_argument :
    (Instr.originMove { req0 with mac := List.replicate 16 0 } 2147483648 0).wf = false := by decide
theorem test_waypoint : Waypoint.wf { n := 0, e := 0, speed := 65536, rule := 0, psi := 0 } = false := by decide
theorem test_can_length :
    CanFrame.wf { id := 0, ide := false, fdf := false, brs := false, esi := false, remote := false, data := List.replicate 9 0 } = false := by
  decide
theorem test_can_identifier :
    CanFrame.wf { id := 2048, ide := false, fdf := true, brs := false, esi := false, remote := false, data := [] } = false := by decide
theorem test_can_fd_remote :
    CanFrame.wf { id := 0, ide := true, fdf := true, brs := false, esi := false, remote := true, data := [] } = false := by decide
theorem test_can_classic_brs :
    CanFrame.wf { id := 0, ide := true, fdf := false, brs := true, esi := false, remote := false, data := [] } = false := by decide
theorem test_eth_length :
    EthRx.wf { src := 0, vid := none, trailer := none, crc := 0, len := 1523, kind := .data } = false := by decide
theorem test_wait_chain : (Instr.waitAbort []).wf = false := by decide
theorem test_silhar_payload : (Instr.heartbeatRx (List.replicate 1523 0)).wf = false := by decide +kernel
theorem test_write_length :
    (Instr.mgmtWrite { req0 with mac := List.replicate 16 0 } 0 0 (List.replicate 16384 0)).wf = false := by decide +kernel
theorem test_well_formed : (Instr.closeSession { req0 with mac := List.replicate 16 0 }).wf = true := by decide

/-! The table gives bits to no row: no word spells a command. -/

theorem test_no_word_decodes (n w : Nat) : decodeTableWord n w = none := rfl

/-! Expected values from outside the model. -/

/-- The published check values of the three CRCs, over the bytes of "123456789". -/
theorem test_crc_check_values :
    let b : List Byte := [0x31, 0x32, 0x33, 0x34, 0x35, 0x36, 0x37, 0x38, 0x39]
    crc8 b = 0xF4 ∧ crc16 b = 0x29B1 ∧ crc32c b = 0xE3069283 := by decide +kernel

/-- RFC 4231, test case 2: key "Jefe", data "what do ya want for nothing?". -/
theorem test_hmac_rfc4231 :
    leNat ((hmac [0x4A, 0x65, 0x66, 0x65]
      [0x77, 0x68, 0x61, 0x74, 0x20, 0x64, 0x6F, 0x20, 0x79, 0x61, 0x20, 0x77, 0x61, 0x6E, 0x74, 0x20, 0x66, 0x6F, 0x72, 0x20,
       0x6E, 0x6F, 0x74, 0x68, 0x69, 0x6E, 0x67, 0x3F]).reverse) =
      0x5BDCC146BF60754E6A042426089575C75A003F089D2739839DEC58B964EC3843 := by decide +kernel

/-- Chapter 2's example: BANKARB_STAT of bank 3 in cluster 0/1/2 is at 0x1294_013C. -/
theorem test_bankarb_address : Reg.BANKARB_STAT 6 3 = 0x1294013C := by decide

/-- Chapter 15's examples: D = 2,000 gives a FIR ratio of 4, and D = 6 gives 2. -/
theorem test_fir_ratio : firRatio 2000 = 4 ∧ firRatio 6 = 2 := by decide

end Sys2Proof.Tests
end

section
/-!
Register writes by access type (R6, R409, R469, R484, R486, R489, R490): what a bus write that no session made does, the expert
unlock, and the clearing of the counts of SYS and MGT.  Settles O28.
-/
namespace Sys2Proof.Machine

/-! A bus write of a released part, by the gate it meets. -/

/-- R6: a bus write that meets an open gate does what the register's block does, and the mirrored fields follow. -/
theorem State.Live.exec_registerWrite_open {s : State} (h : s.Live) {a : Word} (hg : s.gateCause a.toNat = 0) (v : Word) :
    exec (.registerWrite a v) s = .next (s.regWrite 0 a.toNat v).mirror := by
  show Host.Outcome.next (s.access a.toNat fun s => s.regWrite 0 a.toNat v) = _
  rw [State.access, State.running_released h.released, if_pos hg]

/-- R409: a bus write that meets a closed gate is a bus error and nothing else. -/
theorem State.Live.exec_registerWrite_gated {s : State} (h : s.Live) {a : Word} (hg : s.gateCause a.toNat ≠ 0) (v : Word) :
    exec (.registerWrite a v) s = .next (s.busError a.toNat (s.gateCause a.toNat)).mirror := by
  show Host.Outcome.next (s.access a.toNat fun s => s.regWrite 0 a.toNat v) = _
  rw [State.access, State.running_released h.released, if_neg hg]

/-- An address that lies behind no gate meets an open one. -/
theorem State.gateCause_eq_zero {a : Nat} (h : gateOf a = none) (s : State) : s.gateCause a = 0 := by
  unfold State.gateCause; rw [h]

/-- Table 16-8: a gate is 1 GATED or 2 DEFERRED to the accesses that it does not let through. -/
theorem State.gateCause_le_two (s : State) (a : Nat) : s.gateCause a ≤ 2 := by
  unfold State.gateCause
  cases gateOf a with
  | none => exact Nat.zero_le _
  | some g =>
    change (if _ then 2 else if _ then 0 else 1) ≤ 2
    split_ifs <;> decide

/-! Bus errors. -/

@[simp] theorem State.busError_rest (s : State) (a c : Nat) : (s.busError a c).rest = s.rest := rfl

theorem State.keeps_busError (s : State) (a c : Nat) : s.keeps (s.busError a c) [Reg.CLK_BERR, Reg.CLK_BERRINFO] :=
  (((s.keeps_refl _).wr Reg.CLK_BERR _ (by decide)).set Fld.CLK_BERRINFO_CAUSE c (by decide)).count
    Fld.CLK_BERRINFO_COUNT (by decide)

/-- R409: the address of a bus error. -/
theorem State.rd_busError_addr (s : State) (a c : Nat) : (s.busError a c).rd Reg.CLK_BERR = BitVec.ofNat 32 a := by
  unfold State.busError
  rw [State.rd_count_ne _ _ (by decide), State.rd_set_ne _ _ _ (by decide), State.rd_wr_self]

/-- R409: the cause of a bus error. -/
theorem State.get_busError_cause (s : State) (a c : Nat) : (s.busError a c).get Fld.CLK_BERRINFO_CAUSE = c % 4 := by
  unfold State.busError
  rw [State.get_count_disjoint _ _ _ (by decide) (by decide) (by decide)]
  exact State.get_set_self _ _ _ (by decide)

/-- R409: the count of the bus errors. -/
theorem State.get_busError_count (s : State) (a c : Nat) :
    (s.busError a c).get Fld.CLK_BERRINFO_COUNT = min (s.get Fld.CLK_BERRINFO_COUNT + 1) 0xFFFF := by
  unfold State.busError
  rw [State.get_count_self _ _ (by decide), State.get_set_disjoint _ _ _ _ (by decide) (by decide) (by decide),
    State.get_wr_ne _ _ _ (by decide)]
  rfl

/-! Where an address lies. -/

/-- R487: outside the windows of the Ochre dies there is no window of an isolated region. -/
theorem State.deadWindow_eq_false {a : Nat} (h : ochreOffset a = none) (s : State) : s.deadWindow a = false := by
  unfold State.deadWindow; rw [h]; rfl

/-- Table 2-20: outside the windows of the Ochre dies there is no Ochre memory. -/
theorem ochreMem_eq_false {a : Nat} (h : ochreOffset a = none) : ochreMem a = false := by
  unfold ochreMem; rw [h]

/-- R486: the windows of the Ochre dies lie above the Umber blocks. -/
theorem le_of_ochreMem {a : Nat} (h : ochreMem a = true) : 0x10000000 ≤ a := by
  by_contra hlt
  have hd : a / 0x10000000 = 0 := Nat.div_eq_of_lt (not_le.mp hlt)
  rw [ochreMem_eq_false (by simp [ochreOffset, hd])] at h
  exact Bool.false_ne_true h

/-- Table 16-8: the gates stand before Umber blocks, so no Ochre memory lies behind one. -/
theorem gateOf_eq_none_of_ochreMem {a : Nat} (h : ochreMem a = true) : gateOf a = none := by
  have hw : 0x1000 ≤ a / 0x10000 := (Nat.le_div_iff_mul_le (by decide)).mpr (le_of_ochreMem h)
  unfold gateOf
  dsimp only
  rw [if_neg (by omega), if_neg (by omega), if_neg (by omega), if_neg (by omega)]

/-! What a write of one word does, by what lies at its address. -/

/-- R484: a write to an address with no register does nothing. -/
theorem State.regWrite_of_no_row {a : Nat} (hm : ochreMem a = false) (hr : regRow a = none) (s : State) (k v : Word) :
    s.regWrite k a v = s := by
  unfold State.regWrite
  rw [hm, hr]
  split <;> rfl

/-- R486: a write to an Ochre memory in a live window. -/
theorem State.regWrite_of_ochreMem {s : State} {a : Nat} (hm : ochreMem a = true) (h4 : a % 4 = 0) (hd : s.deadWindow a = false)
    (k v : Word) : s.regWrite k a v = s.memWrite a := by
  unfold State.regWrite
  rw [if_neg (by simp [h4, hd]), if_pos hm]

/-- The registers of several blocks that a write sets by access type and nothing more (R6). -/
def plainRegs : List Nat := [Reg.SYS_ALERT, Reg.CLK_STAT, Reg.AON_RSTCAUSE, Reg.TB_STAT, Reg.REC_STAT, Reg.OCH_SEL]

/-- They are words of Umber blocks behind no gate, and none of them is a register that mirrors other state or is mirrored. -/
theorem plainRegs_place : ∀ a ∈ plainRegs, gateOf a = none ∧ ochreOffset a = none ∧ a % 4 = 0 ∧
    ∀ b ∈ [Reg.MGT_STAT, Reg.SAF_STAT, Reg.IMG_STAT, Reg.SAF_SO, Reg.SAF_SORB], b ≠ a := by decide

/-- R6: their blocks have no rule of their own for them: a write acts by access type alone. -/
theorem State.regWrite_plain {a : Nat} {q : RegRow} (ha : a ∈ plainRegs) (hq : regRow a = some q) (s : State) (k v : Word) :
    s.regWrite k a v = s.put a q v := by
  obtain ⟨-, ho, h4, -⟩ := plainRegs_place a ha
  unfold State.regWrite
  rw [if_neg (by simp [h4, s.deadWindow_eq_false ho]), if_neg (by simp [ochreMem_eq_false ho]), hq]
  simp only [plainRegs, List.mem_cons, List.not_mem_nil, or_false] at ha
  -- With the address known, every test of the block's own write is decided, down to the last branch.
  obtain rfl | rfl | rfl | rfl | rfl | rfl := ha <;> rfl

/-! The expert unlock (R490). -/

/-- A session after the key has been written for `id`: its unlock follows the key, and no other session is concerned. -/
theorem State.session_expertKey (s : State) (id v i : Word) : (s.expertKey id v).session i =
    (s.session i).map fun x => if x.id = id then { x with expert := decide (bitsGet v 0 16 = 0xE5A1) } else x := by
  have hid : ∀ x : Session, (if x.id = id then { x with expert := decide (bitsGet v 0 16 = 0xE5A1) } else x).id = x.id :=
    fun x => by split <;> rfl
  unfold State.session State.expertKey
  simp only [List.find?_map, Function.comp_def, hid]

/-- A session that is found is the one asked for. -/
theorem State.id_of_session {s : State} {i : Word} {x : Session} (h : s.session i = some x) : x.id = i := by
  simpa using List.find?_some h

theorem State.session_expertKey_self {s : State} {id : Word} {x : Session} (h : s.session id = some x) (v : Word) :
    (s.expertKey id v).session id = some { x with expert := decide (bitsGet v 0 16 = 0xE5A1) } := by
  rw [State.session_expertKey, h, Option.map_some, if_pos (State.id_of_session h)]

theorem State.session_expertKey_ne (s : State) {id i : Word} (hi : i ≠ id) (v : Word) :
    (s.expertKey id v).session i = s.session i := by
  rw [State.session_expertKey]
  cases hx : s.session i with
  | none => rfl
  | some x => rw [Option.map_some, if_neg (State.id_of_session hx ▸ hi)]

/-- The key changes neither how many sessions are open nor anything else that a status field mirrors. -/
theorem State.Inv.expertKey {s : State} (h : s.Inv) (id v : Word) : (s.expertKey id v).Inv where
  sessions := h.sessions.trans (by simp [State.expertKey])
  subs := h.subs
  arm := h.arm
  safe := h.safe
  adopting := h.adopting
  reloading := h.reloading

theorem State.mirror_session (s : State) (i : Word) : s.mirror.session i = s.session i := rfl

/-- R490: what the key written for a session leaves: the unlock of that session, and all else as it was. -/
theorem State.Live.expertKey_effect {s : State} (h : s.Live) (id v : Word) :
    (∀ x, s.session id = some x →
      (s.expertKey id v).mirror.session id = some { x with expert := decide (bitsGet v 0 16 = 0xE5A1) }) ∧
    (∀ i, i ≠ id → (s.expertKey id v).mirror.session i = s.session i) ∧
    s.keeps (s.expertKey id v).mirror [] ∧ State.Touch [.mgt] s (s.expertKey id v).mirror := by
  refine ⟨fun x hx => ?_, fun i hi => ?_, fun a _ => ?_, ?_⟩
  · rw [State.mirror_session, State.session_expertKey_self hx]
  · rw [State.mirror_session, State.session_expertKey_ne s hi]
  · exact (h.inv.expertKey id v).rd_mirror a
  · exact ((State.Touch.refl _ s).expertKey id v (by simp)).mirror (by simp)

/-! The clauses of the statement. -/

/-- R6: a write of a register that has no rule of its own. -/
theorem registerWrite_plain {s : State} (h : s.Live) {a : Word} (v : Word) {q : RegRow} (ha : a.toNat ∈ plainRegs)
    (hq : regRow a.toNat = some q) : ∃ t, exec (.registerWrite a v) s = .next t ∧
    t.rd a.toNat = rowMerge q (s.rd a.toNat) v ∧ s.keeps t [a.toNat] ∧ t.rest = s.rest := by
  obtain ⟨hg, -, -, hne⟩ := plainRegs_place _ ha
  refine ⟨_, h.exec_registerWrite_open (s.gateCause_eq_zero hg) v, ?_⟩
  rw [State.regWrite_plain ha hq, State.put]
  refine ⟨?_, ?_, rfl⟩
  · rw [State.rd_mirror _ (hne _ (by decide)).symm (hne _ (by decide)).symm (hne _ (by decide)).symm, State.rd_wr_self]
  · exact ((s.keeps_refl _).wr _ _ (by simp)).mirror h.inv rfl rfl fun b hb => by simpa using hne b hb

/-- R409: a write behind a closed gate. -/
theorem registerWrite_gated {s : State} (h : s.Live) {a : Word} (v : Word) (hg : s.gateCause a.toNat ≠ 0) : ∃ t,
    exec (.registerWrite a v) s = .next t ∧ t.rd Reg.CLK_BERR = a ∧ t.get Fld.CLK_BERRINFO_CAUSE = s.gateCause a.toNat ∧
    t.get Fld.CLK_BERRINFO_COUNT = min (s.get Fld.CLK_BERRINFO_COUNT + 1) 0xFFFF ∧
    s.keeps t [Reg.CLK_BERR, Reg.CLK_BERRINFO] ∧ t.rest = s.rest := by
  have hc := s.gateCause_le_two a.toNat
  refine ⟨_, h.exec_registerWrite_gated hg v, ?_, ?_, ?_, ?_, rfl⟩
  · rw [State.rd_mirror _ (by decide) (by decide) (by decide), State.rd_busError_addr, BitVec.ofNat_toNat, BitVec.setWidth_eq]
  · rw [State.get_mirror _ _ (by decide) (by decide) (by decide), State.get_busError_cause]
    omega
  · rw [State.get_mirror _ _ (by decide) (by decide) (by decide), State.get_busError_count]
  · exact (s.keeps_busError _ _).mirror h.inv rfl rfl (by decide)

/-- R484: a write where no register lies. -/
theorem registerWrite_no_row {s : State} (h : s.Live) {a : Word} (v : Word) (hg : s.gateCause a.toNat = 0)
    (hm : ochreMem a.toNat = false) (hr : regRow a.toNat = none) : ∃ t,
    exec (.registerWrite a v) s = .next t ∧ s.keeps t [] ∧ t.rest = s.rest := by
  refine ⟨_, h.exec_registerWrite_open hg v, ?_⟩
  rw [State.regWrite_of_no_row hm hr]
  exact ⟨(s.keeps_refl _).mirror h.inv rfl rfl (by decide), rfl⟩

/-- R486, R489: a write to an Ochre memory, which a region that runs refuses. -/
theorem registerWrite_ochreMem {s : State} (h : s.Live) {a : Word} (v : Word) (hm : ochreMem a.toNat = true)
    (h4 : a.toNat % 4 = 0) (hd : s.deadWindow a.toNat = false) : ∃ t, exec (.registerWrite a v) s = .next t ∧
    (if s.stopped (ochreRegion a.toNat) = true then s.keeps t [] ∧ t.rest = s.rest
    else t.rd Reg.SYS_REFADDR = a ∧ t.get Fld.SYS_REFINFO_CODE = 0xF0 ∧ s.keeps t [Reg.SYS_REFADDR, Reg.SYS_REFINFO] ∧
      t.rest = s.rest) := by
  refine ⟨_, h.exec_registerWrite_open (s.gateCause_eq_zero (gateOf_eq_none_of_ochreMem hm)) v, ?_⟩
  rw [State.regWrite_of_ochreMem hm h4 hd, State.memWrite]
  split
  · exact ⟨(s.keeps_refl _).mirror h.inv rfl rfl (by decide), rfl⟩
  · refine ⟨?_, ?_, ?_, rfl⟩
    · rw [State.rd_mirror _ (by decide) (by decide) (by decide), State.rd_refuse_addr, BitVec.ofNat_toNat, BitVec.setWidth_eq]
    · exact (State.get_mirror _ _ (by decide) (by decide) (by decide)).trans (State.get_refuse_code s _ 0xF0 _)
    · exact ((s.keeps_refl _).refuse _ _ _ (by decide) (by decide)).mirror h.inv rfl rfl (by decide)

/-- R490: the key opens the unlock of its session, and any other value closes it. -/
theorem exec_sysExpertKey {s : State} (h : s.Live) (id v : Word) :
    exec (.sysExpertKey id v) s = .next (s.expertKey id v).mirror :=
  congrArg Host.Outcome.next (State.running_released h.released _)

/-- R490: an unlock that expires ends as one that a value other than the key closes. -/
theorem exec_expertUnlockExpired {s : State} (h : s.Live) (id : Word) :
    exec (.expertUnlockExpired id) s = .next (s.expertKey id 0).mirror :=
  congrArg Host.Outcome.next (State.running_released h.released _)

/-- R489: CNT_CLR of SYS clears the count of the refusals and leaves the last one. -/
theorem sysCntClr_effect {s : State} (h : s.Live) : ∃ t, exec .sysCntClr s = .next t ∧ t.get Fld.SYS_REFINFO_COUNT = 0 ∧
    t.get Fld.SYS_REFINFO_CODE = s.get Fld.SYS_REFINFO_CODE ∧ s.keeps t [Reg.SYS_REFINFO] ∧ t.rest = s.rest := by
  refine ⟨s.sysCntClr.mirror, congrArg Host.Outcome.next (State.running_released h.released _), ?_⟩
  unfold State.sysCntClr
  refine ⟨?_, ?_, ?_, rfl⟩
  · rw [State.get_mirror _ _ (by decide) (by decide) (by decide), State.get_set_self _ _ _ (by decide), Nat.zero_mod]
  · rw [State.get_mirror _ _ (by decide) (by decide) (by decide),
      State.get_set_disjoint _ _ _ _ (by decide) (by decide) (by decide)]
  · exact ((s.keeps_refl _).set Fld.SYS_REFINFO_COUNT 0 (by decide)).mirror h.inv rfl rfl (by decide)

/-- R469: CNT_CLR of MGT clears both registers of its counts. -/
theorem mgtCntClr_effect {s : State} (h : s.Live) : ∃ t, exec .mgtCntClr s = .next t ∧ t.rd Reg.MGT_CNT0 = 0 ∧
    t.rd Reg.MGT_CNT1 = 0 ∧ s.keeps t [Reg.MGT_CNT0, Reg.MGT_CNT1] ∧ t.rest = s.rest := by
  refine ⟨s.mgtCntClr.mirror, congrArg Host.Outcome.next (State.running_released h.released _), ?_⟩
  unfold State.mgtCntClr
  refine ⟨?_, ?_, ?_, rfl⟩
  · rw [State.rd_mirror _ (by decide) (by decide) (by decide), State.rd_wr_ne _ _ (by decide), State.rd_wr_self]
  · rw [State.rd_mirror _ (by decide) (by decide) (by decide), State.rd_wr_self]
  · exact (((s.keeps_refl _).wr Reg.MGT_CNT0 0 (by decide)).wr Reg.MGT_CNT1 0 (by decide)).mirror h.inv rfl rfl (by decide)

/-- Settles O28: a bus write acts by what lies at its address and by the gate it meets, and the expert unlock and the counts of
SYS and MGT change by their own rules. -/
theorem registerWritesByAccessType : Obligations.RegisterWritesByAccessType := by
  unfold Obligations.RegisterWritesByAccessType
  refine ⟨fun s a v q h ha hq => registerWrite_plain h v ha hq, fun s a v h hg => registerWrite_gated h v hg,
    fun s a v h hg hm hr => registerWrite_no_row h v hg hm hr, fun s a v h hm h4 hd => registerWrite_ochreMem h v hm h4 hd,
    fun s id v h => ⟨_, exec_sysExpertKey h id v, h.expertKey_effect id v⟩,
    fun s id h => ⟨_, exec_expertUnlockExpired h id, h.expertKey_effect id 0⟩,
    fun s h => sysCntClr_effect h, fun s h => mgtCntClr_effect h⟩

end Sys2Proof.Machine
end

section
/-!
The queue and the frame (R26, R357, R358, R368): which parts of the state a command may change at all.  Settles O8.
-/
namespace Sys2Proof.Machine

/-- The parts that the work of a command may change: all but the queue and the frame. -/
def workParts : List Part :=
  [.nvm0, .nvm1, .omem, .keyStore, .cfg, .aon, .rst, .clk, .tb, .img, .mgt, .chans, .fab, .fus, .ctl, .slv, .alc, .can, .eth, .ana,
    .srv, .saf, .grp, .freeCtr, .recd, .port]

theorem State.untouched (s : State) : State.Touch workParts s s := State.Touch.refl _ s

/-- A command of the control block that waits for the frame start, and is forwarded to the group (R262). -/
theorem State.touch_queued (s : State) (f : CtlSt → CtlSt) (code : Nat) (body : List Byte) :
    State.Touch workParts s ((s.modCtl f).forward code body) :=
  (s.untouched.modCtl f (by decide)).forward code body (by decide)

/-- The state half of a result that a condition chooses. -/
theorem State.Touch.iteFst {α : Type} {l : List Part} {s : State} {c : Prop} [Decidable c] {x y : State × α} (hx : State.Touch l s x.1)
    (hy : State.Touch l s y.1) : State.Touch l s (if c then x else y).1 := by
  split <;> assumption

theorem State.Touch.onlyCommanding {l : List Part} {s t : State} (h : State.Touch l s t) (f : State → State × Resp)
    (hf : ∀ u, State.Touch l u (f u).1) : State.Touch l s (Machine.onlyCommanding f t).1 :=
  .iteFst (h.trans (hf t)) h

/-- A command that leaves the queue alone, and the frame of a part that runs after it, unless it is one that moves the frame on. -/
def LeavesFrame (c : Instr) : Prop := ∀ s, ∃ t, exec c s = .next t ∧ t.pending = s.pending ∧
  (c ≠ .frameStart → c ≠ .emissionTime → c ≠ .tbStep → (∀ h, c ≠ .heartbeatRx h) → t.rst.inReset = false → t.frame = s.frame)

/-! The forms that a command has. -/

theorem LeavesFrame.of_touch {c : Instr} (h : ∀ s, ∃ t, exec c s = .next t ∧ State.Touch workParts s t) : LeavesFrame c := by
  intro s
  obtain ⟨t, ht, hT⟩ := h s
  exact ⟨t, ht, hT .pending (by decide), fun _ _ _ _ _ => hT .frame (by decide)⟩

theorem LeavesFrame.running {c : Instr} {f : State → State} (e : ∀ s, exec c s = .next (s.running f))
    (hf : ∀ u, State.Touch workParts u (f u)) : LeavesFrame c :=
  .of_touch fun s => ⟨_, e s, s.untouched.running f fun u hu => hu.trans (hf u)⟩

theorem LeavesFrame.access {c : Instr} {a : Nat} {f : State → State} (e : ∀ s, exec c s = .next (s.access a f))
    (hf : ∀ u, State.Touch workParts u (f u)) : LeavesFrame c :=
  .of_touch fun s => ⟨_, e s, s.untouched.access a f fun u hu => hu.trans (hf u)⟩

theorem LeavesFrame.request {c : Instr} {r : Req} {ttype : Nat} {body : List Byte} {g : Gate} {f : State → State × Resp}
    (e : ∀ s, exec c s = .next (s.running fun s => s.request r ttype body g f)) (hf : ∀ u, State.Touch workParts u (f u).1) :
    LeavesFrame c :=
  .running e fun u => u.untouched.request r ttype body g f (fun v hv => hv.trans (hf v)) (by decide)

theorem LeavesFrame.command {c : Instr} {r : Req} {op : Nat} {args : List Byte} {g : Gate} {f : State → State × Resp}
    (e : ∀ s, exec c s = .next (s.command r op args g f)) (hf : ∀ u, State.Touch workParts u (f u).1) : LeavesFrame c :=
  .request e hf

theorem LeavesFrame.commanding {c : Instr} {r : Req} {op : Nat} {args : List Byte} {g : Gate} {f : State → State × Resp}
    (e : ∀ s, exec c s = .next (s.command r op args g (onlyCommanding f))) (hf : ∀ u, State.Touch workParts u (f u).1) :
    LeavesFrame c :=
  .command e fun u => u.untouched.onlyCommanding f hf

/-! The commands that move the frame on leave the queue alone. -/

theorem State.pending_running {f : State → State} {l : List Part} (hf : ∀ u, State.Touch l u (f u)) (h : Part.pending ∉ l) (s : State) :
    (s.running f).pending = s.pending :=
  (State.Touch.refl l s).running f (fun u hu => hu.trans (hf u)) .pending h

theorem frameStart_leaves : LeavesFrame .frameStart := fun s =>
  ⟨_, rfl, s.pending_running (fun u => (State.Touch.refl _ u).frameStart fun _ => id) (by decide), fun h => absurd rfl h⟩

theorem emissionTime_leaves : LeavesFrame .emissionTime := fun s =>
  ⟨_, rfl, s.pending_running (fun u => (State.Touch.refl _ u).emissionTime fun _ => id) (by decide), fun _ h => absurd rfl h⟩

theorem tbStep_leaves : LeavesFrame .tbStep := fun s =>
  ⟨_, rfl, s.pending_running (fun u => (State.Touch.refl _ u).tbStep fun _ => id) (by decide), fun _ _ h => absurd rfl h⟩

theorem heartbeatRx_leaves (p : List Byte) : LeavesFrame (.heartbeatRx p) := fun s =>
  ⟨_, rfl, s.pending_running (fun u => (State.Touch.refl _ u).heartbeatRx p fun _ => id) (by decide), fun _ _ _ h => absurd rfl (h p)⟩

/-! The part is held in reset after the commands of power and reset (R412, R467). -/

theorem powerOn_leaves : LeavesFrame .powerOn := fun _ => ⟨_, rfl, rfl, fun _ _ _ _ h => nomatch h⟩

theorem resetNAssert_leaves : LeavesFrame .resetNAssert := fun _ => ⟨_, rfl, rfl, fun _ _ _ _ h => nomatch h⟩

theorem State.supplyBelow_um (s : State) : (s.supplyBelow .um).pending = s.pending ∧ (s.supplyBelow .um).rst.inReset = true := by
  unfold State.supplyBelow
  dsimp only
  split <;> exact ⟨rfl, rfl⟩

theorem supplyBelowDetector_leaves : ∀ x, LeavesFrame (.supplyBelowDetector x)
  | .aon => fun _ => ⟨_, rfl, rfl, fun _ _ _ _ h => nomatch h⟩
  | .um => fun s =>
    have ⟨hp, hr⟩ := s.supplyBelow_um
    ⟨_, rfl, hp, fun _ _ _ _ h => nomatch hr.symm.trans h⟩

theorem devResetEntry_leaves : LeavesFrame .devResetEntry := by
  intro s
  refine ⟨_, rfl, ?_⟩
  cases hr : s.rst.inReset with
  | true => rw [State.running_reset hr]; exact ⟨rfl, fun _ _ _ _ _ => rfl⟩
  | false =>
    rw [State.running_released hr]
    split
    · exact ⟨rfl, fun _ _ _ _ h => nomatch h⟩
    · exact ⟨rfl, fun _ _ _ _ _ => rfl⟩

/-- Every command leaves the queue alone, and the frame unless it moves it on: the operation that each one calls does. -/
theorem leavesFrame : ∀ c : Instr, LeavesFrame c
  | .powerOn => powerOn_leaves
  | .supplyBelowDetector _ => supplyBelowDetector_leaves _
  | .resetNAssert => resetNAssert_leaves
  | .resetRelease _ _ => .of_touch fun u => ⟨_, rfl, u.untouched.resetRelease _ _ (by decide)⟩
  | .oscStartSatisfied _ => .running (fun _ => rfl) fun u => .ite (u.untouched.upd_clk _ (by decide)) u.untouched
  | .sourceReady _ => .running (fun _ => rfl) fun u => u.untouched.sourceReady _ (by decide)
  | .sourceRecovered _ => .running (fun _ => rfl) fun u => u.untouched.sourceRecovered _ (by decide)
  | .clkNoOsc => .running (fun _ => rfl) fun u => u.untouched.noOsc (by decide)
  | .pllLock => .running (fun _ => rfl) fun u => u.untouched.pllLock (by decide)
  | .sourceTrip _ => .running (fun _ => rfl) fun u => u.untouched.sourceTrip _ (by decide)
  | .pllLockLost => .running (fun _ => rfl) fun u => u.untouched.pllLockLost (by decide)
  | .clkReturn => .running (fun _ => rfl) fun u => u.untouched.clkReturn (by decide)
  | .clkCtrlRefsel _ => .running (fun _ => rfl) fun u => u.untouched.refsel _ (by decide)
  | .clkGateWrite _ _ _ => .running (fun _ => rfl) fun u => u.untouched.gateWrite _ _ _ (by decide)
  | .gateCloseDeferred _ _ => .running (fun _ => rfl) fun u => u.untouched.gateClose _ _ (by decide)
  | .clkGateForced _ _ _ => .running (fun _ => rfl) fun u => u.untouched.gateForced _ _ _ (by decide)
  | .clkCntClr => .running (fun _ => rfl) fun u => u.untouched.clkCntClr (by decide)
  | .pwrcycAssertEnd => .of_touch fun u => ⟨_, rfl, u.untouched.pwrcycEnd (by decide)⟩
  | .pwrcycNotDone => .of_touch fun u => ⟨_, rfl, u.untouched.pwrcycNotDone (by decide)⟩
  | .ochreSupplyAbsent _ => .running (fun _ => rfl) fun u => u.untouched.dieLoss _ _ (by decide)
  | .imageCheckDone => .running (fun _ => rfl) fun u => u.untouched.imageCheckDone (by decide)
  | .sectionsLoaded _ _ => .running (fun _ => rfl) fun u => u.untouched.sectionsLoaded _ _ (by decide)
  | .cobaltBootDone _ _ _ _ => .running (fun _ => rfl) fun u => u.untouched.cobaltBoot _ _ _ _ (by decide)
  | .comparatorFire _ => .running (fun _ => rfl) fun u => u.untouched.comparatorFire _ (by decide)
  | .trigPulseEnd _ => .running (fun _ => rfl) fun u => u.untouched.trigPulseEnd _ (by decide)
  | .invalidCodeword _ => .running (fun _ => rfl) fun u => u.untouched.siteFault _ _ (by decide)
  | .handshakeWatchdog _ => .running (fun _ => rfl) fun u => u.untouched.siteFault _ _ (by decide)
  | .bridgeAckTimeout _ => .running (fun _ => rfl) fun u => u.untouched.dieLoss _ _ (by decide)
  | .taskDispatch _ _ => .running (fun _ => rfl) fun u => u.untouched.taskDispatch _ _ (by decide)
  | .pipCopyValid _ _ => .running (fun _ => rfl) fun u => u.untouched.pipCopyValid _ _ (by decide)
  | .spareWakeDone _ _ _ => .running (fun _ => rfl) fun u => u.untouched.spareWakeDone _ _ _ (by decide)
  | .pipLoadDone _ _ => .running (fun _ => rfl) fun u => u.untouched.pipLoadDone _ _ (by decide)
  | .operationComplete _ _ _ _ => .running (fun _ => rfl) fun u => u.untouched.operationComplete _ _ _ _ (by decide)
  | .completionToken _ _ => .running (fun _ => rfl) fun u => u.untouched.completionToken _ _ (by decide)
  | .slackToken _ => .running (fun _ => rfl) fun u => u.untouched.slackToken _ (by decide)
  | .slkClr => .running (fun _ => rfl) fun u => (u.untouched.wr _ _).wr _ _
  | .arbRequest _ _ => .running (fun _ => rfl) fun u => u.untouched.arbRequest _ _ (by decide)
  | .arbOwnerRelease _ => .running (fun _ => rfl) fun u => u.untouched.arbEnd _ _ (by decide)
  | .arbBurstLimit _ _ => .running (fun _ => rfl) fun u => u.untouched.arbEnd _ _ (by decide)
  | .bankarbCtrlWrite _ _ _ => .access (fun _ => rfl) fun u => u.untouched.arbCtrl _ _ _ _ _ (by decide)
  | .egrarbCtrlWrite _ _ => .access (fun _ => rfl) fun u => u.untouched.arbCtrl _ _ _ _ _ (by decide)
  | .waitAbort _ => .running (fun _ => rfl) fun u => u.untouched.waitAbort _ (by decide)
  | .channelPortOutput _ => .running (fun _ => rfl) fun u => u.untouched.channelPortOutput _ (by decide)
  | .fltCntClr => .running (fun _ => rfl) fun u => u.untouched.fltCntClr (by decide)
  | .frameStart => frameStart_leaves
  | .emissionTime => emissionTime_leaves
  | .fusionDeadline => .running (fun _ => rfl) fun u => u.untouched.fusionDeadline (by decide)
  | .planDeadline => .running (fun _ => rfl) fun u => u.untouched.planDeadline (by decide)
  | .uartSentence _ _ _ _ _ => .running (fun _ => rfl) fun u => u.untouched.uartSentence _ _ _ _ _ (by decide)
  | .e450Datagram _ _ _ _ _ => .running (fun _ => rfl) fun u => u.untouched.e450Datagram _ _ _ _ (by decide)
  | .sensorFrame _ _ _ _ _ _ _ _ => .running (fun _ => rfl) fun u => u.untouched.sensorFrame _ _ _ _ _ _ _ _ (by decide)
  | .captureEdge _ _ _ => .running (fun _ => rfl) fun u => .ite (u.untouched.capture _ (by decide)) u.untouched
  | .intakeClose _ => .running (fun _ => rfl) fun u => u.untouched.intakeClose _ (by decide)
  | .outlierReject _ => .running (fun _ => rfl) fun u => u.untouched.outlierReject _ (by decide)
  | .innovReject _ => .running (fun _ => rfl) fun u => u.untouched.innovReject _ (by decide)
  | .timeReadmit _ => .running (fun _ => rfl) fun u => u.untouched.timeReadmit _ (by decide)
  | .sourceReadmit _ => .running (fun _ => rfl) fun u => u.untouched.sourceReadmit _ (by decide)
  | .frozenReject _ => .running (fun _ => rfl) fun u => u.untouched.frozenReject _ (by decide)
  | .estimatorSettled => .running (fun _ => rfl) fun u => u.untouched.estimatorSettled (by decide)
  | .holdoverExpired => .running (fun _ => rfl) fun u => u.untouched.holdoverExpired (by decide)
  | .windAgree => .running (fun _ => rfl) fun u => u.untouched.windAgree (by decide)
  | .lateSampleExpired => .running (fun _ => rfl) fun u => u.untouched.lateExpired (by decide)
  | .epochPublish _ _ _ => .running (fun _ => rfl) fun u => u.untouched.epochPublish _ (by decide)
  | .fusCalFreeze _ => .running (fun _ => rfl) fun u => u.untouched.fusCalFreeze _ (by decide)
  | .fusCntClr => .running (fun _ => rfl) fun u => u.untouched.fusCntClr (by decide)
  | .ctlModecmdWrite _ => .running (fun _ => rfl) fun u => u.untouched.modecmdWrite _ (by decide)
  | .mode _ _ => .commanding (fun _ => rfl) fun u => .iteFst (u.untouched.modeCmd _ _ (by decide)) (u.untouched.modeCmd _ _ (by decide))
  | .setpoint _ _ _ _ _ _ _ => .commanding (fun _ => rfl) fun u => .iteFst u.untouched (u.touch_queued _ _ _)
  | .targetOffset _ _ _ _ => .commanding (fun _ => rfl) fun u => u.touch_queued _ _ _
  | .trackWrite _ _ _ => .commanding (fun _ => rfl) fun u => .iteFst u.untouched ((u.untouched.trackWrite _ _ (by decide)).forward _ _ (by decide))
  | .trackSwap _ => .commanding (fun _ => rfl) fun u => u.touch_queued _ _ _
  | .originMove _ _ _ => .commanding (fun _ => rfl) fun u => .iteFst u.untouched (u.touch_queued _ _ _)
  | .calFreeze _ _ => .commanding (fun _ => rfl) fun u => u.touch_queued _ _ _
  | .calWrite _ _ _ _ _ => .commanding (fun _ => rfl) fun u => .iteFst u.untouched (u.touch_queued _ _ _)
  | .calRead _ _ _ _ => .command (fun _ => rfl) fun u => by split <;> exact u.untouched
  | .compEngaged _ _ => .commanding (fun _ => rfl) fun u => u.touch_queued _ _ _
  | .pmsTimeout => .running (fun _ => rfl) fun u => u.untouched.pmsTimeout (by decide)
  | .targetLost => .running (fun _ => rfl) fun u => u.untouched.targetLost (by decide)
  | .srcLost => .running (fun _ => rfl) fun u => u.untouched.srcTimeout (by decide)
  | .srcHoldExpired => .running (fun _ => rfl) fun u => u.untouched.srcHoldExpired (by decide)
  | .compExitEnd => .running (fun _ => rfl) fun u => u.untouched.compExitEnd (by decide)
  | .iterationEnd _ _ _ => .running (fun _ => rfl) fun u => u.untouched.iterationEnd _ _ (by decide)
  | .solverRestart _ _ => .running (fun _ => rfl) fun u => u.untouched.slvRestart _ (by decide)
  | .refreshComplete _ _ _ _ => .running (fun _ => rfl) fun u => u.untouched.refreshComplete _ _ _ (by decide)
  | .solveStopTime _ => .running (fun _ => rfl) fun u => u.untouched.each _ _ fun _ _ h => h.stopTime _ (by decide)
  | .conseqGroupTime _ => .running (fun _ => rfl) fun u => u.untouched.stopTime _ (by decide)
  | .slvRefresh _ => .running (fun _ => rfl) fun u => u.untouched.each _ _ fun _ _ h => h.slvRefreshClass _ (by decide)
  | .slvCntClr => .running (fun _ => rfl) fun u => u.untouched.slvCntClr (by decide)
  | .alcEnableWrite _ => .running (fun _ => rfl) fun u => u.untouched.alcEnableWrite _ (by decide)
  | .alcCntClr => .running (fun _ => rfl) fun u => u.untouched.wr _ _
  | .driveFeedback _ => .running (fun _ => rfl) fun u => u.untouched.driveFeedback _ (by decide)
  | .driveTimeout _ => .running (fun _ => rfl) fun u => u.untouched.driveTimeout _ (by decide)
  | .readmitConditionMet _ _ => .running (fun _ => rfl) fun u => u.untouched.readmitMet _ _ (by decide)
  | .conseqGroupRelease => .running (fun _ => rfl) fun u => u.untouched.cqRelease (by decide)
  | .cqShareMiss _ => .running (fun _ => rfl) fun u => u.untouched.cqShareMiss (by decide)
  | .cqStale _ => .running (fun _ => rfl) fun u => u.untouched.cqStale _ (by decide)
  | .cqaRestart => .running (fun _ => rfl) fun u => (u.untouched.cqMarkOld (by decide)).cqOverall (by decide)
  | .cqaCntClr => .running (fun _ => rfl) fun u => (u.untouched.set _ _).set _ _
  | .servoBoundary _ => .running (fun _ => rfl) fun u => u.untouched.servoBoundary _ (by decide)
  | .outerBoundary _ => .running (fun _ => rfl) fun u => u.untouched.outerBoundary _ (by decide)
  | .stallFault _ => .running (fun _ => rfl) fun u => u.untouched.stallFault _ (by decide)
  | .srvCmdClose _ => .access (fun _ => rfl) fun u => u.untouched.cmdClose _ (by decide)
  | .srvCmdOpen _ => .access (fun _ => rfl) fun u => u.untouched.cmdOpen _ (by decide)
  | .srvCmdClrFault _ => .access (fun _ => rfl) fun u => u.untouched.cmdClrFault _ (by decide)
  | .srvSpsrcWrite _ _ => .access (fun _ => rfl) fun u => u.untouched.spsrcWrite _ _ (by decide)
  | .srvHostspWrite _ _ => .access (fun _ => rfl) fun u => u.untouched.hostspWrite _ _ (by decide)
  | .srvCntClr => .access (fun _ => rfl) fun u => u.untouched.srvCntClr (by decide)
  | .heartbeatDue => .running (fun _ => rfl) fun u => u.untouched.heartbeatDue (by decide)
  | .heartbeatRx _ => heartbeatRx_leaves _
  | .stateFragmentRx _ => .running (fun _ => rfl) fun u => u.untouched.fragmentRx _ (by decide)
  | .healthRx _ => .running (fun _ => rfl) fun u => u.untouched.healthRx _ (by decide)
  | .claimRx _ => .running (fun _ => rfl) fun u => u.untouched.claimRx _ (by decide)
  | .offerRx _ => .running (fun _ => rfl) fun u => u.untouched.offerRx _ (by decide)
  | .takeoverTimeout => .running (fun _ => rfl) fun u => u.untouched.takeoverTimeout (by decide)
  | .rankWaitExpired => .running (fun _ => rfl) fun u => u.untouched.rankWaitExpired (by decide)
  | .formWaitExpired => .running (fun _ => rfl) fun u => u.untouched.formWaitExpired (by decide)
  | .groupIsolated => .running (fun _ => rfl) fun u => u.untouched.groupIsolated (by decide)
  | .slhHandover _ => .running (fun _ => rfl) fun u => u.untouched.handover _ (by decide)
  | .slhCntClr => .running (fun _ => rfl) fun u => (u.untouched.wr _ _).wr _ _
  | .formingHealthDue => .running (fun _ => rfl) fun u => .ite (u.untouched.healthTx (by decide)) u.untouched
  | .safetyChannelRecognised _ _ _ _ _ => .running (fun _ => rfl) fun u => u.untouched.channelRecognised _ _ _ _ _ (by decide)
  | .c1StopTimer _ _ => .running (fun _ => rfl) fun u => u.untouched.c1Timer _ _ (by decide)
  | .discrepancyLatch _ _ => .running (fun _ => rfl) fun u => u.untouched.discLatch _ _ (by decide)
  | .twoHandSyncTimeout _ _ => .running (fun _ => rfl) fun u => u.untouched.syncTimeout _ _ (by decide)
  | .tpPulseSample _ _ _ => .running (fun _ => rfl) fun u => u.untouched.tpSample _ _ _ (by decide)
  | .offPulseTest _ _ => .running (fun _ => rfl) fun u => u.untouched.offPulse _ _ (by decide)
  | .cobaltCycle => .running (fun _ => rfl) fun u => u.untouched.cobaltCycle (by decide)
  | .tickCrossCheck _ => .running (fun _ => rfl) fun u => u.untouched.tickCheck _ (by decide)
  | .xcheckFault _ => .running (fun _ => rfl) fun u => u.untouched.xcheck _ (by decide)
  | .outputReadbackFault _ _ _ => .running (fun _ => rfl) fun u => u.untouched.readbackFault _ _ _ (by decide)
  | .selftestFail _ => .running (fun _ => rfl) fun u => u.untouched.selftestFail _ (by decide)
  | .chargePumpDeenergise _ _ => .running (fun _ => rfl) fun u => u.untouched.chargePump _ _ (by decide)
  | .safCtrlHold => .running (fun _ => rfl) fun u => u.untouched.holdStart (by decide)
  | .safCtrlRelease => .running (fun _ => rfl) fun u => u.untouched.holdEnd (by decide)
  | .safCntClr => .running (fun _ => rfl) fun u => u.untouched.wr _ _
  | .safeHold _ => .command (fun _ => rfl) fun u => u.untouched.holdStart (by decide)
  | .safeRelease _ => .command (fun _ => rfl) fun u => u.untouched.holdEnd (by decide)
  | .safetyReload _ _ _ => .command (fun _ => rfl) fun u => u.untouched.safetyReload _ _ _ (by decide)
  | .slateReloadDone _ => .running (fun _ => rfl) fun u => u.untouched.slateReloaded _ (by decide)
  | .safetyReloadTimeout => .running (fun _ => rfl) fun u => u.untouched.reloadTimeout (by decide)
  | .tpPulseStart _ => .running (fun _ => rfl) fun u => u.untouched.tpStart _ (by decide)
  | .offPulseEnd _ _ _ => .running (fun _ => rfl) fun u => u.untouched.offPulseEnd _ _ _ (by decide)
  | .canFrameRx _ _ _ _ => .running (fun _ => rfl) fun u => u.untouched.canFrameRx _ _ _ _ (by decide)
  | .canTxEnd _ _ _ => .running (fun _ => rfl) fun u => u.untouched.canTxEnd _ _ _ (by decide)
  | .canBusIdleDetect _ => .running (fun _ => rfl) fun u => u.untouched.canBusIdle _ (by decide)
  | .busoffRecovered _ => .running (fun _ => rfl) fun u => u.untouched.busoffRecovered _ (by decide)
  | .canCtrlMode _ _ => .access (fun _ => rfl) fun u => u.untouched.canCtrlMode _ _ (by decide)
  | .canBoRecover _ => .access (fun _ => rfl) fun u => u.untouched.canBoRecover _ (by decide)
  | .canCntClr _ => .access (fun _ => rfl) fun u => u.untouched.canCntClr _ (by decide)
  | .canTxcancel _ _ => .access (fun _ => rfl) fun u => u.untouched.canTxcancel _ _ (by decide)
  | .canTtswap _ => .access (fun _ => rfl) fun u => u.untouched.canTtswap _ (by decide)
  | .canObjenWrite _ _ _ => .access (fun _ => rfl) fun u => u.untouched.canObjen _ _ _ (by decide)
  | .detDwellExpired _ => .running (fun _ => rfl) fun u => u.untouched.detDwell _ (by decide)
  | .canNoRate _ => .running (fun _ => rfl) fun u => u.untouched.canNoRate _ (by decide)
  | .basicCycleStart _ => .running (fun _ => rfl) fun u => u.untouched.basicCycle _ (by decide)
  | .ttBackupTimeout _ => .running (fun _ => rfl) fun u => u.untouched.ttBackup _ (by decide)
  | .ttWindowStart _ _ _ => .running (fun _ => rfl) fun u => u.untouched.ttWindowStart _ _ _ (by decide)
  | .reasmTimeout _ _ => .running (fun _ => rfl) fun u => u.untouched.reasmTimeout _ _ (by decide)
  | .pairRxTimeout _ _ => .running (fun _ => rfl) fun u => u.untouched.pairRxTimeout _ _ (by decide)
  | .canRxError _ _ _ _ => .running (fun _ => rfl) fun u => u.untouched.canRxError _ _ _ _ (by decide)
  | .canTxStart _ _ => .running (fun _ => rfl) fun u => u.untouched.canTxStart _ _ (by decide)
  | .ethFrameRx _ _ => .running (fun _ => rfl) fun u => u.untouched.ethFrameRx _ _ (by decide)
  | .prpHoldExpired _ _ => .running (fun _ => rfl) fun u => u.untouched.prpHoldExpired _ _ (by decide)
  | .prpNodeForget _ => .running (fun _ => rfl) fun u => u.untouched.prpForget _ (by decide)
  | .prpSupervisionTx => .running (fun _ => rfl) fun u => u.untouched.prpSupervisionTx (by decide)
  | .egressFrameStart _ => .running (fun _ => rfl) fun u => u.untouched.egressStart _ (by decide)
  | .linkChange _ _ _ => .running (fun _ => rfl) fun u => u.untouched.linkChange _ _ _ (by decide)
  | .ethCfgEn _ _ => .access (fun _ => rfl) fun u => u.untouched.ethCfgEn _ _ (by decide)
  | .ethSwapPair => .access (fun _ => rfl) fun u => u.untouched.ethSwap _ (by decide)
  | .ethSwapMgmt => .access (fun _ => rfl) fun u => u.untouched.ethSwap _ (by decide)
  | .ethCntClr => .access (fun _ => rfl) fun u => u.untouched.ethCntClr (by decide)
  | .mdioGo _ => .access (fun _ => rfl) fun u => u.untouched.mdioWrite _ (by decide)
  | .mdioDone _ => .running (fun _ => rfl) fun u => u.untouched.mdioDone _ (by decide)
  | .e450Tx => .running (fun _ => rfl) fun u => u.untouched.e450Tx (by decide)
  | .ptpMessageRx _ _ => .running (fun _ => rfl) fun u => u.untouched.ptpRx _ _ (by decide)
  | .tbStep => tbStep_leaves
  | .ptpMessageDue _ _ => .running (fun _ => rfl) fun u => u.untouched.ptpDue _ _ (by decide)
  | .announceTimeout _ => .running (fun _ => rfl) fun u => u.untouched.announceTimeout _ (by decide)
  | .syncLoss _ => .running (fun _ => rfl) fun u => u.untouched.syncLoss _ (by decide)
  | .tbRearm => .running (fun _ => rfl) fun u => u.untouched.tbRearm (by decide)
  | .tbIncWrite _ => .running (fun _ => rfl) fun u => u.untouched.tbIncWrite _ (by decide)
  | .tbJumpLimWrite _ => .running (fun _ => rfl) fun u => u.untouched.tbJumpLimWrite _ (by decide)
  | .tbCntClr => .running (fun _ => rfl) fun u => u.untouched.tbCntClr (by decide)
  | .comparatorEnable _ => .running (fun _ => rfl) fun u => u.untouched.compEnable _ (by decide)
  | .tbNsRead => .running (fun _ => rfl) fun u => u.untouched.nsRead (by decide)
  | .tbCapValRead _ => .running (fun _ => rfl) fun u => u.untouched.capRead _ (by decide)
  | .tbFault => .running (fun _ => rfl) fun u => u.untouched.tbFault (by decide)
  | .chainOutput _ _ => .running (fun _ => rfl) fun u => u.untouched.chainOutput _ _ (by decide)
  | .chainStart _ => .access (fun _ => rfl) fun u => u.untouched.chainStart _ (by decide)
  | .chainStop _ => .access (fun _ => rfl) fun u => u.untouched.chainStop _ (by decide)
  | .modStuck _ => .running (fun _ => rfl) fun u => u.untouched.modStuck _ (by decide)
  | .chainDcbWrite _ _ => .access (fun _ => rfl) fun u => u.untouched.chainDcbWrite _ _ (by decide)
  | .anaCntClr => .running (fun _ => rfl) fun u => u.untouched.anaCntClr (by decide)
  | .aoutDataWrite _ _ => .access (fun _ => rfl) fun u => u.untouched.aoutDataWrite _ _ (by decide)
  | .pinEdge _ _ _ => .running (fun _ => rfl) fun u => u.untouched.pinEdge _ _ _ (by decide)
  | .pinGateEnd _ => .running (fun _ => rfl) fun u => u.untouched.pinGateEnd _ (by decide)
  | .pinZeroTimeout _ => .running (fun _ => rfl) fun u => u.untouched.pinZero _ (by decide)
  | .pinStart _ => .access (fun _ => rfl) fun u => u.untouched.pinStart _ (by decide)
  | .pinStop _ => .access (fun _ => rfl) fun u => u.untouched.pinStop _ (by decide)
  | .pinLoad _ => .access (fun _ => rfl) fun u => u.untouched.pinLoad _ (by decide)
  | .swoSet _ _ => .running (fun _ => rfl) fun u => u.untouched.swoWrite _ _ _ _ (by decide)
  | .swoClr _ _ => .running (fun _ => rfl) fun u => u.untouched.swoWrite _ _ _ _ (by decide)
  | .dinEdge _ _ => .running (fun _ => rfl) fun u => u.untouched.dinEdge _ _ (by decide)
  | .imgVerify _ => .running (fun _ => rfl) fun u => u.untouched.imgVerify _ (by decide)
  | .bankVerifyDone _ => .running (fun _ => rfl) fun u => u.untouched.bankVerifyDone _ (by decide)
  | .imgAdopt _ => .running (fun _ => rfl) fun u => u.untouched.imgAdopt _ (by decide)
  | .imgReloadRegion _ => .running (fun _ => rfl) fun u => u.untouched.imgReload _ (by decide)
  | .imgCntClr => .running (fun _ => rfl) fun u => u.untouched.wr _ _
  | .regionSectionLoaded _ _ => .running (fun _ => rfl) fun u => u.untouched.regionSectionLoaded _ _ (by decide)
  | .regionCopybackDone => .running (fun _ => rfl) fun u => u.untouched.regionCopyback (by decide)
  | .adoptStepDone _ _ => .running (fun _ => rfl) fun u => u.untouched.adoptStepDone _ _ (by decide)
  | .imageConflictRepeat => .running (fun _ => rfl) fun u => u.untouched.conflictRepeat (by decide)
  | .nvmRead _ _ _ _ => .command (fun _ => rfl) fun u => u.untouched.nvmRead _ _ _ (by decide)
  | .nvmWrite _ _ _ _ _ => .command (fun _ => rfl) fun u => u.untouched.nvmWrite _ _ _ _ _ (by decide)
  | .nvmErase _ _ _ => .command (fun _ => rfl) fun u => u.untouched.nvmErase _ _ _ (by decide)
  | .nvmOpDone _ _ => .running (fun _ => rfl) fun u => u.untouched.nvmOpDone _ _ (by decide)
  | .keyProgram _ _ => .command (fun _ => rfl) fun u => u.untouched.keyProgram _ (by decide)
  | .mgmtRead _ _ _ _ _ => .request (fun _ => rfl) fun u => u.untouched.mgmtRead _ _ _ _ (by decide)
  | .mgmtWrite _ _ _ _ => .request (fun _ => rfl) fun u => u.untouched.mgmtWrite _ _ _ _ (by decide)
  | .registerWrite _ _ => .access (fun _ => rfl) fun u => u.untouched.regWrite _ _ _ (by decide)
  | .subscribe _ _ _ _ _ _ _ _ => .request (fun _ => rfl) fun u => u.untouched.subscribe _ _ _ _ _ _ _ _ (by decide)
  | .openSession _ => .command (fun _ => rfl) fun u => u.untouched.openSession (by decide)
  | .closeSession _ => .command (fun _ => rfl) fun u => u.untouched.endSession _ (by decide)
  | .sessionFinalTimeout _ => .running (fun _ => rfl) fun u => u.untouched.finalTimeout _ (by decide)
  | .chCreate _ _ _ _ => .command (fun _ => rfl) fun u => u.untouched.chCreate _ _ _ _ _ (by decide)
  | .chDestroy _ _ => .command (fun _ => rfl) fun u => u.untouched.chDestroy _ _ (by decide)
  | .chQuery _ _ _ => .command (fun _ => rfl) fun u => u.untouched.chQuery _ _ (by decide)
  | .funcReinit _ _ _ => .command (fun _ => rfl) fun u => u.untouched.funcReinit _ _ _ _ (by decide)
  | .funcReinitDone _ _ _ _ => .running (fun _ => rfl) fun u => u.untouched.reinitEnd _ _ _ _ (by decide)
  | .funcReinitTimeout _ _ => .running (fun _ => rfl) fun u => u.untouched.reinitEnd _ _ _ _ (by decide)
  | .devResetArm _ => .command (fun _ => rfl) fun u => u.untouched.newArm _ _ (by decide)
  | .devResetConfirm _ _ => .command (fun _ => rfl) fun u => u.untouched.devResetConfirm _ _ (by decide)
  | .pwrcycArm _ => .command (fun _ => rfl) fun u => u.untouched.pwrcycArm _ (by decide)
  | .pwrcycConfirm _ _ => .command (fun _ => rfl) fun u => u.untouched.pwrcycConfirm _ _ (by decide)
  | .armExpired => .running (fun _ => rfl) fun u => u.untouched.setArm _ (by decide)
  | .spiReadTransfer _ => .running (fun _ => rfl) fun u => u.untouched.spiRead _ (by decide)
  | .eventMessageSend _ => .running (fun _ => rfl) fun u => u.untouched.eventSend _ (by decide)
  | .sysExpertKey _ _ => .running (fun _ => rfl) fun u => u.untouched.expertKey _ _ (by decide)
  | .expertUnlockExpired _ => .running (fun _ => rfl) fun u => u.untouched.expertKey _ _ (by decide)
  | .recordProgramDone _ _ => .running (fun _ => rfl) fun u => u.untouched.recordProgramDone _ _ (by decide)
  | .sectorEraseDone _ _ => .running (fun _ => rfl) fun u => u.untouched.sectorEraseDone _ _ (by decide)
  | .recFreeze _ => .command (fun _ => rfl) fun u => .iteFst (u.untouched.startFreeze _ (by decide)) (u.untouched.recRefuse (by decide))
  | .recRelease _ => .command (fun _ => rfl) fun u => u.untouched.endFreeze _ (by decide)
  | .eventCommit => .running (fun _ => rfl) fun u => u.untouched.eventCommit (by decide)
  | .recorderReady => .running (fun _ => rfl) fun u => u.untouched.recorderReady (by decide)
  | .freezeDrained => .running (fun _ => rfl) fun u => u.untouched.freezeDrained (by decide)
  | .freezeTimeout => .running (fun _ => rfl) fun u => u.untouched.endFreeze _ (by decide)
  | .recCtrlFreeze => .running (fun _ => rfl) fun u => u.untouched.recCtrlFreeze (by decide)
  | .recCtrlRelease => .running (fun _ => rfl) fun u => u.untouched.endFreeze _ (by decide)
  | .recCntClr => .running (fun _ => rfl) fun u => u.untouched.wr _ _
  | .timeMark => .running (fun _ => rfl) fun u => u.untouched.raise _ _ _
  | .devResetEntry => devResetEntry_leaves
  | .sysCntClr => .running (fun _ => rfl) fun u => u.untouched.sysCntClr (by decide)
  | .mgtCntClr => .running (fun _ => rfl) fun u => u.untouched.mgtCntClr (by decide)

/-- Settles O8: case by case, by the operation that the command calls. -/
theorem queueAndFrameAreTheirOwn : Obligations.QueueAndFrameAreTheirOwn := by
  unfold Obligations.QueueAndFrameAreTheirOwn
  intro c s t ht
  obtain ⟨u, hu, hx⟩ := leavesFrame c s
  cases hu.symm.trans ht
  exact hx

end Sys2Proof.Machine
end

section
/-!
The release of reset and the end of a power-cycle request (R24, R401, R414, R415, R420): the stages of the release, one by one.
Settles O12.
-/
namespace Sys2Proof.Machine

/-- A field of a register that is kept reads as before. -/
theorem State.keeps.get {s t : State} {l : List Nat} (h : s.keeps t l) (f : Field) (hf : f.addr ∉ l) : t.get f = s.get f :=
  State.get_of_rd f (h _ hf)

/-! The stages of the release, in their order: what each one writes, and the registers it keeps. -/

theorem State.keeps_resetLength (s : State) (ms : Nat) : s.keeps (s.resetLength ms) [Reg.AON_RSTCAUSE, Reg.AON_RSTLEN] := by
  have h := ((s.keeps_refl _).set Fld.AON_RSTCAUSE_RESET_N 1 (l := [Reg.AON_RSTCAUSE, Reg.AON_RSTLEN]) (by decide)).wr Reg.AON_RSTLEN
    (BitVec.ofNat 32 (min ms 0xFFFFFFFF)) (by decide)
  unfold State.resetLength
  split
  · dsimp only
    split
    · exact h.set Fld.AON_RSTCAUSE_LONG 1 (by decide)
    · exact h
  · exact s.keeps_refl _

/-- R414: after RESET_N, the length of its low level and the cause are shown, and a long one is marked. -/
theorem State.resetLength_shown {s : State} (h : s.rst.resetN = true) (ms : Nat) :
    (s.resetLength ms).rd Reg.AON_RSTLEN = BitVec.ofNat 32 (min ms 0xFFFFFFFF) ∧
    (s.resetLength ms).get Fld.AON_RSTCAUSE_RESET_N = 1 ∧ (5000 < ms → (s.resetLength ms).get Fld.AON_RSTCAUSE_LONG = 1) := by
  have hc : ((s.set Fld.AON_RSTCAUSE_RESET_N 1).wr Reg.AON_RSTLEN (BitVec.ofNat 32 (min ms 0xFFFFFFFF))).get
      Fld.AON_RSTCAUSE_RESET_N = 1 :=
    (State.get_wr_ne _ _ _ (by decide)).trans (State.get_set_self _ _ _ (by decide))
  unfold State.resetLength
  rw [if_pos h]
  dsimp only
  split
  · refine ⟨?_, ?_, fun _ => State.get_set_self _ _ _ (by decide)⟩
    · rw [State.rd_set_ne _ _ _ (by decide), State.rd_wr_self]
    · rw [State.get_set_disjoint _ _ _ _ (by decide) (by decide) (by decide), hc]
  · next hl => exact ⟨State.rd_wr_self _ _ _, hc, fun h => absurd h hl⟩

theorem State.keeps_readStraps (s : State) (g : Nat) : s.keeps (s.readStraps g) [Reg.SYS_STRAP] :=
  ((State.keeps_of_regs (s := s) (t := { s with rst := { inReset := false, resetN := false } }) _ rfl).set
    Fld.SYS_STRAP_GROUP_ID g (by decide)).setBit Fld.SYS_STRAP_STANDALONE (decide (g = 3)) (by decide)

/-- R24: GROUP_ID as it is read, 3 for a part that stands alone. -/
theorem State.readStraps_shown (s : State) (g : Nat) : (s.readStraps g).get Fld.SYS_STRAP_GROUP_ID = g % 4 ∧
    (s.readStraps g).get Fld.SYS_STRAP_STANDALONE = (decide (g = 3)).toNat := by
  unfold State.readStraps
  refine ⟨?_, State.get_setBit_self _ _ _ (by decide) rfl⟩
  rw [State.get_setBit_disjoint _ _ _ _ (by decide) (by decide) (by decide), State.get_set_self _ _ _ (by decide)]
  rfl

theorem State.keeps_seedRecorder (s : State) : s.keeps s.seedRecorder.1 [Reg.REC_OPTIME, Reg.REC_PCYCLE, Reg.REC_RNUM] := by
  have h := ((s.keeps_refl _).wr Reg.REC_OPTIME (BitVec.ofNat 32 s.seeds.1) (l := [Reg.REC_OPTIME, Reg.REC_PCYCLE, Reg.REC_RNUM])
    (by decide)).wr Reg.REC_PCYCLE (BitVec.ofNat 32 s.seeds.2.1) (by decide)
  unfold State.seedRecorder
  dsimp only
  split
  · exact h.wr Reg.REC_RNUM _ (by decide)
  · exact h

theorem State.keeps_logReset (s : State) (b : Bool) : s.keeps (s.logReset b) [Reg.REC_OPTIME, Reg.REC_PCYCLE, Reg.REC_RNUM] := by
  unfold State.logReset
  dsimp only
  split <;> exact s.keeps_seedRecorder

/-- R414: POWER_UP is raised, and LONG_RESET after a long reset. -/
theorem State.logReset_raises (s : State) (b : Bool) : (∃ e ∈ (s.logReset b).recd.port, e.code = 0x0001) ∧
    (b = true → ∃ e ∈ (s.logReset b).recd.port, e.code = 0x0003) := by
  unfold State.logReset
  cases b with
  | true => exact ⟨⟨_, List.mem_append_left _ (List.mem_append_right _ (List.mem_singleton_self _)), rfl⟩,
      fun _ => ⟨_, List.mem_append_right _ (List.mem_singleton_self _), rfl⟩⟩
  | false => exact ⟨⟨_, List.mem_append_right _ (List.mem_singleton_self _), rfl⟩, fun h => nomatch h⟩

theorem State.keeps_startSources (s : State) : s.keeps s.startSources [Reg.IMG_STAT, Reg.SYS_STAT] := by
  unfold State.startSources
  exact ((State.keeps_of_regs _ rfl).setBit Fld.IMG_STAT_KEYSTATE _ (by decide)).startStep 2 (by decide)

/-- R420: the enabling of the sources is step 2 of the start. -/
theorem State.startSources_step (s : State) : 2 ≤ s.startSources.get Fld.SYS_STAT_START := by
  unfold State.startSources
  dsimp only
  rw [State.get_startStep_self _ _ (by decide)]
  exact Nat.le_max_right _ _

/-! The clauses of the statement. -/

/-- What the part is after the release of reset. -/
theorem State.resetRelease_of_reset {s : State} (h : s.rst.inReset = true) (g ms : Nat) : s.resetRelease g ms =
    (((s.resetLength ms).readStraps g).logReset (s.rst.resetN && decide (5000 < ms))).startSources := if_pos h

theorem State.resetRelease_effect {s : State} (h : s.rst.inReset = true) (g : Fin 4) (ms : Nat) : ∃ t,
    exec (.resetRelease g ms) s = .next t ∧
    t.rst.inReset = false ∧ t.get Fld.SYS_STRAP_GROUP_ID = g.val ∧ (t.get Fld.SYS_STRAP_STANDALONE = 1 ↔ g = 3) ∧
    t.clk.enabled .reference = true ∧ t.clk.enabled .crystal = true ∧ 2 ≤ t.get Fld.SYS_STAT_START ∧
    (∃ e ∈ t.recd.port, e.code = 0x0001) ∧
    (s.rst.resetN = true → t.rd Reg.AON_RSTLEN = BitVec.ofNat 32 (min ms 0xFFFFFFFF) ∧ t.get Fld.AON_RSTCAUSE_RESET_N = 1 ∧
      (5000 < ms → t.get Fld.AON_RSTCAUSE_LONG = 1 ∧ ∃ e ∈ t.recd.port, e.code = 0x0003)) ∧
    s.keeps t [Reg.AON_RSTCAUSE, Reg.AON_RSTLEN, Reg.SYS_STRAP, Reg.SYS_STAT, Reg.REC_OPTIME, Reg.REC_PCYCLE, Reg.REC_RNUM,
      Reg.IMG_STAT] ∧
    t.mgt = s.mgt ∧ t.cfg = s.cfg ∧ t.nvm0 = s.nvm0 ∧ t.nvm1 = s.nvm1 ∧ t.keyStore = s.keyStore := by
  have hT := (State.Touch.refl [.aon, .rst, .clk, .port] s).resetRelease g ms fun _ => id
  refine ⟨s.resetRelease g ms, rfl, ?_⟩
  rw [State.resetRelease_of_reset h] at hT ⊢
  have k1 := s.keeps_resetLength ms
  have k2 := (s.resetLength ms).keeps_readStraps g
  have k34 := (((s.resetLength ms).readStraps g).keeps_logReset (s.rst.resetN && decide (5000 < ms))).mono
    (l' := [Reg.REC_OPTIME, Reg.REC_PCYCLE, Reg.REC_RNUM, Reg.IMG_STAT, Reg.SYS_STAT]) (by decide) |>.trans
    ((State.keeps_startSources _).mono (by decide))
  have k234 := (k2.mono (l' := [Reg.SYS_STRAP, Reg.REC_OPTIME, Reg.REC_PCYCLE, Reg.REC_RNUM, Reg.IMG_STAT, Reg.SYS_STAT])
    (by decide)).trans (k34.mono (by decide))
  obtain ⟨hg, ha⟩ := (s.resetLength ms).readStraps_shown g
  obtain ⟨e1, e3⟩ := State.logReset_raises ((s.resetLength ms).readStraps g) (s.rst.resetN && decide (5000 < ms))
  have hT' := ((State.Touch.refl [.aon, .clk, .port] ((s.resetLength ms).readStraps g)).logReset
    (s.rst.resetN && decide (5000 < ms)) (by decide)).startSources (by decide)
  refine ⟨congrArg RstSt.inReset (hT' .rst (by decide)), ?_, ?_, rfl, rfl, State.startSources_step _, e1, fun hr => ?_, ?_, hT .mgt (by decide), (hT .cfg (by decide)).1,
    hT .nvm0 (by decide), hT .nvm1 (by decide), hT .keyStore (by decide)⟩
  · rw [k34.get _ (by decide), hg]
    exact Nat.mod_eq_of_lt g.isLt
  · rw [k34.get _ (by decide), ha, Fin.ext_iff]
    by_cases hg3 : g.val = 3 <;> simp [hg3]
  · obtain ⟨hlen, hcause, hlong⟩ := State.resetLength_shown hr ms
    refine ⟨(k234 _ (by decide)).trans hlen, (k234.get _ (by decide)).trans hcause, fun hms => ⟨?_, e3 (by simp [hr, hms])⟩⟩
    exact (k234.get _ (by decide)).trans (hlong hms)
  · exact (k1.mono (by decide)).trans (k234.mono (by decide))

/-- R415: PWRCYC_REQ_N is released, in reset too. -/
theorem State.pwrcycEnd_effect {s : State} (h : s.get Fld.AON_PWRCYC_ACTIVE = 1) : ∃ t, exec .pwrcycAssertEnd s = .next t ∧
    t.get Fld.AON_PWRCYC_ACTIVE = 0 ∧ t.get Fld.AON_PWRCYC_REQS = s.get Fld.AON_PWRCYC_REQS ∧ s.keeps t [Reg.AON_PWRCYC] ∧
    t.rest = { s.rest with aon := { s.aon with pwrcycWait := true } } := by
  refine ⟨s.pwrcycEnd, rfl, ?_⟩
  rw [State.pwrcycEnd, if_neg (by omega)]
  exact ⟨State.get_set_self s _ 0 (by decide), State.get_set_disjoint s _ Fld.AON_PWRCYC_REQS 0 (by decide) (by decide) (by decide),
    (s.keeps_refl _).set Fld.AON_PWRCYC_ACTIVE 0 (by decide), rfl⟩

/-- Table 19-3: DATA of class 0 events reads registers alone. -/
theorem State.resetData_of_regs {s t : State} (h : t.regs = s.regs) : t.resetData = s.resetData := by
  unfold State.resetData
  rw [State.rd_of_regs h, State.rd_of_regs h, State.rd_of_regs h]

/-- R415: a part that runs on logs that no power-on reset has followed. -/
theorem State.Live.pwrcycNotDone_eq {s : State} (h : s.Live) (hw : s.aon.pwrcycWait = true) : s.pwrcycNotDone =
    (({ s with aon := { s.aon with pwrcycWait := false } } : State).raise 0x0005 0 s.resetData).mirror := by
  rw [State.pwrcycNotDone, if_neg (by simp [hw])]
  rw [← State.resetData_of_regs (s := s) (t := { s with aon := { s.aon with pwrcycWait := false } }) rfl]
  exact State.running_released (s := { s with aon := { s.aon with pwrcycWait := false } }) h.released _

theorem State.Live.pwrcycNotDone_effect {s : State} (h : s.Live) (hw : s.aon.pwrcycWait = true) : ∃ t,
    exec .pwrcycNotDone s = .next t ∧ t.aon.pwrcycWait = false ∧
    (∃ e, t.recd.port = s.recd.port ++ [e] ∧ e.code = 0x0005 ∧ e.data = s.resetData) ∧ s.keeps t [] := by
  refine ⟨s.pwrcycNotDone, rfl, ?_⟩
  rw [h.pwrcycNotDone_eq hw]
  exact ⟨rfl, ⟨_, rfl, rfl, rfl⟩, (State.keeps_of_regs (s := s) [] rfl).mirror h.inv rfl rfl (by decide)⟩

/-- Settles O12: the stages of the release leave one another's registers alone, and the end of a power-cycle request is one write. -/
theorem releaseAndPowerCycleEnd : Obligations.ReleaseAndPowerCycleEnd := by
  unfold Obligations.ReleaseAndPowerCycleEnd
  exact ⟨fun s g ms h => State.resetRelease_effect h g ms, fun s h => State.pwrcycEnd_effect h, fun s h hw => h.pwrcycNotDone_effect hw⟩

end Sys2Proof.Machine
end

section
/-!
The frame start and the configuration (R32, R432): a mode that changes at a frame start brings its overlay, so the configuration in
use does not stay.  Refutes O21.
-/
namespace Sys2Proof.Machine

/-- The overlay of TRIALS, which sets the wind feed-forward. -/
def trialsOverlay : Overlay :=
  { mode := 11, regs := [], loops := [], liveActuators := false, ctl := [.windFf 2], params := [], acts := 0, replaced := [] }

/-- The parameters of a solver class, for the image below. -/
def plainSolver : SlvCfg :=
  { barrier := false, rho := 1, sigma := 1, alpha := 1, muShrink := 1, stepFrac := 1, wp := 1, wd := 1, tol := 1, maxIter := 1
    epsPiv := 0, deltaPiv := 1, groupTimeMs := 1, order := [], xScale := [], rowScale := [], costScale := 1 }

/-- An image with that overlay, and with no sources, thrusters or tasks. -/
def trialsImage : ImageCfg :=
  { clock := { refFitted := true, xtalFitted := true, xtalCold := false }
    time :=
      { tbInc := 0x02000000, compat := false, tCorrS := 1, lockThrNs := 1000, lockN := 4, ptpEnabled := [], oneStep := []
        slaveOnly := false
        own := { priority1 := 128, clockClass := 248, accuracy := 0xFE, variance := 0, priority2 := 128, identity := 1, steps := 0 } }
    region := { tasks := [], spares := [], regs := [], memory := [], blocks := [], solvers := [] }
    channels := { live := [], declared := [], maxima := [] }
    recorder := { classMask := 0, timeRecS := 0 }
    keys := { mgmt := [], group := [] }
    fus :=
      { src := [], gate := 9, gateN := 3, medianLimMm := 5000, wcap := 1, refMin := 1, refSet := 1, bandHdg := 10, bandRp := 10
        bandHeave := 10, bandWs := 10, bandWd := 10, sigPosSet := 1000, sigPsiSet := 1000, sigVelSet := 1000, envMax := (0, 0, 0)
        rejHoldNs := 0, cal := [], originRadiusMm := 1000, channel := 0
        obs :=
          { mass := [], damp := [], waveW := [], waveZ := [], tb := 1, noise := [], p0 := [], wind := [], epsPiv := 0, deltaPiv := 1
            fmt := [], covFmt := [] } }
    ctl :=
      { qhead := 1, weights := .stiffness 1 1 1, slv := plainSolver, pivot := (0, 0), capFrac := 1, pmsFallback := 1, planOldMs := 1000
        windFf := 1, emitNs := 9000000, wvTau := 10, joyGain := (1, 1, 1), spStepMm := 1000, spStepPsi := 1000, speedMax := 1000
        vMax := (1, 1, 1), aMax := (1, 1, 1), trkCaptureMm := 1000, target := none, joystick := none, lever := none, targets := []
        wvFmin := 0, compLeadNs := 0, compExitMs := 0, srcTimeoutMs := 0, srcRampMs := 0, lines := [], comps := []
        compInput := none, overlays := [trialsOverlay], planChannel := 0, statusChannel := 0 }
    alc :=
      { thr := [], groups := [], smooth := 1, wS := 1, cqStaleNs := 0, shared := false, powerMargin := 1, shortTol := 1, cqScale := 1
        cqDeg := 1, cqFloor := 0, channel := 0, slvAlloc := plainSolver, slvConseq := plainSolver }
    uart := [], powerHandle := 0, can := []
    net := { vids := [], ethertype := 0, outputs := [], sensors := [], e450Sources := [], ownSource := [], talker := [], e450Dest := 0 }
    ana := { chainRun := [], pinRun := [], aout := [], expertTaps := [], roleGated := [], roleOut := [], feeds := [] }
    grp := { size := 3, mac := 0, own := 2 }
    srv := [], regs := []
    slate := { fns := [], thr := [], opt := [], tpOwner := [], crc := 0 } }

/-- A commanding part that has started and runs that image, with a mode command for TRIALS that waits for the frame start. -/
def trialsRequested : State :=
  ((({ rst := { inReset := false, resetN := false }, base := some trialsImage, cfg := some trialsImage
       ctl := { modeReq := [(11, none)] } } : State).set Fld.SYS_STAT_START 9).set Fld.SLH_STAT_ROLE 1).mirror

theorem trialsRequested_starts : trialsRequested.Live ∧ trialsRequested.cfg.isSome = true ∧
    9 ≤ trialsRequested.get Fld.SYS_STAT_START :=
  ⟨⟨rfl, State.mirror_inv _⟩, by decide +kernel⟩

/-- R32: the frame start decides the command, and the configuration in use is then the base with the overlay of TRIALS. -/
theorem frameStart_changes_cfg :
    (trialsRequested.running State.frameStart).mode = 11 ∧ (trialsRequested.running State.frameStart).cfg ≠ trialsRequested.cfg := by
  decide +kernel

/-- Refutes O21: a frame start at which the mode changes to one with an overlay does not leave `cfg` as it was. -/
theorem not_framesAndTheStep : ¬ Obligations.FramesAndTheStep := by
  unfold Obligations.FramesAndTheStep
  rintro ⟨hstart, -, -, -⟩
  obtain ⟨hL, hc, hs⟩ := trialsRequested_starts
  obtain ⟨t, ht, -, -, -, -, hcfg, -⟩ := hstart trialsRequested hL hc hs
  obtain rfl : trialsRequested.running State.frameStart = t := Host.Outcome.next.inj ht
  exact frameStart_changes_cfg.2 hcfg

end Sys2Proof.Machine
end

section
/-!
Operator commands (R31, R33, R111, R113, R116, R134 to R136, R141, R144, R452): what an accepted command of control leaves in the
state, and that off the commanding part it does nothing.  Settles O45.
-/
namespace Sys2Proof.Machine

/-! Registers at the end of a command that the management takes. -/

/-- R282: a SAFE that is right already holds still. -/
theorem State.rd_mirrorSafe {s : State}
    (h : s.get Fld.SAF_STAT_SAFE = (decide (s.rd Reg.SAF_SO = 0 ∧ s.rd Reg.SAF_SORB = 0)).toNat) (a : Nat) :
    s.mirrorSafe.rd a = s.rd a := by
  refine State.set_same_rd _ _ _ (by decide) (h.trans ?_) a
  cases decide (s.rd Reg.SAF_SO = 0 ∧ s.rd Reg.SAF_SORB = 0) <;> rfl

/-- Table 17-11: ADOPTING and RELOADING that are right already hold still. -/
theorem State.rd_mirrorImg {s : State} (h1 : s.get Fld.IMG_STAT_ADOPTING = s.img.adopting.isSome.toNat)
    (h2 : s.get Fld.IMG_STAT_RELOADING = s.img.reload.isSome.toNat) (a : Nat) : s.mirrorImg.rd a = s.rd a := by
  unfold State.mirrorImg State.setBit
  have hb : ∀ b : Bool, b.toNat = b.toNat % 2 ^ 1 := fun b => by cases b <;> rfl
  rw [State.set_same_rd _ _ _ (by decide), State.set_same_rd _ _ _ (by decide) (h1.trans (hb _))]
  rw [State.get_set_disjoint _ _ _ _ (by decide) (by decide) (by decide)]
  exact h2.trans (hb _)

/-- A running part keeps what a request keeps, which leaves what SAF_STAT and IMG_STAT mirror alone. -/
theorem State.keeps.mirror_mgt {s t : State} {l : List Nat} (h : s.keeps t l) (hi : s.Inv) (hg : t.img = s.img)
    (hl : ∀ a ∈ [Reg.SAF_STAT, Reg.IMG_STAT, Reg.SAF_SO, Reg.SAF_SORB], a ∉ l) (hm : Reg.MGT_STAT ∈ l) : s.keeps t.mirror l := by
  have e1 : ∀ a, a ∉ l → t.mirrorMgt.rd a = s.rd a := fun a ha => by
    have hne : a ≠ Reg.MGT_STAT := fun e => ha (e ▸ hm)
    rw [State.mirrorMgt_val, State.rd_set_ne _ _ _ hne, State.rd_set_ne _ _ _ hne, State.rd_set_ne _ _ _ hne, h a ha]
  have e2 : ∀ a, a ∉ l → t.mirrorMgt.mirrorSafe.rd a = s.rd a := fun a ha => by
    rw [State.rd_mirrorSafe, e1 a ha]
    rw [State.get_of_rd _ (e1 _ (hl _ (by decide))), e1 _ (hl _ (by decide)), e1 _ (hl _ (by decide)), hi.safe]
  intro a ha
  show t.mirrorMgt.mirrorSafe.mirrorImg.rd a = s.rd a
  rw [State.rd_mirrorImg, e2 a ha]
  · rw [State.get_of_rd _ (e2 _ (hl _ (by decide))), hi.adopting]
    exact congrArg (fun i : ImgSt => i.adopting.isSome.toNat) hg.symm
  · rw [State.get_of_rd _ (e2 _ (hl _ (by decide))), hi.reloading]
    exact congrArg (fun i : ImgSt => i.reload.isSome.toNat) hg.symm

/-! A command that is accepted. -/

theorem State.forward_regs (s : State) (c : Nat) (b : List Byte) : (s.forward c b).regs = s.regs := by
  unfold State.forward
  split <;> rfl

theorem State.out_of_mgt {s t : State} (h : t.mgt = s.mgt) (p : Path) : t.out p = s.out p := by
  unfold State.out
  rw [h]

/-- What an accepted command answers, and what it leaves beside the effect `f` of its own. -/
theorem State.Accepts.command_effect {s : State} (h : s.Live) {r : Req} {op : Nat} {args : List Byte} (ha : s.Accepts r 3 (cmdBody op args))
    {c : Instr} {g : Gate} {f : State → State × Resp} (he : exec c s = .next (s.command r op args g f)) {u : State} {x : Resp}
    (hf : f (s.count Fld.MGT_CNT1_REQUESTS) = (u, x)) {l : List Part} (hT : State.Touch l s u) (hmgt : Part.mgt ∉ l) (himg : Part.img ∉ l)
    {k : List Nat} (hk : s.keeps u k) (hs : ∀ a ∈ [Reg.SAF_STAT, Reg.IMG_STAT, Reg.SAF_SO, Reg.SAF_SORB], a ∉ k)
    (hm : Reg.MGT_STAT ∈ k) : ∃ t, exec c s = .next t ∧ s.Answered t r x ∧ s.keeps t k ∧
    u.keeps t [Reg.MGT_STAT, Reg.SAF_STAT, Reg.IMG_STAT] ∧ State.Touch [.mgt] u t := by
  have hregs : (s.execRequest r f).regs = u.regs := by rw [State.execRequest_regs, hf]
  have hTx : State.Touch [.mgt] u (s.execRequest r f) := by
    unfold State.execRequest
    rw [hf]
    exact ((State.Touch.refl _ u).push _ (by decide)).touchSession _ _ (by decide)
  refine ⟨_, he.trans (congrArg Host.Outcome.next (ha.command g f h.released)), ⟨[], ?_⟩, ?_, fun a hn => ?_, hTx.mirror (by decide)⟩
  · rw [State.mirror_out, State.execRequest_out, hf, List.append_nil]
    exact congrArg (· ++ _) (State.out_of_mgt (hT .mgt hmgt) r.path)
  · exact (hk.of_regs hregs).mirror_mgt h.inv ((hTx .img (by decide)).trans (hT .img himg)) hs hm
  · simp only [List.mem_cons, List.not_mem_nil, or_false, not_or] at hn
    rw [State.rd_mirror _ hn.1 hn.2.1 hn.2.2, State.rd_of_regs hregs]

/-- R452: on the commanding part a command marked C does what it says. -/
theorem onlyCommanding_of_commanding {s : State} (hc : s.commanding = true) (f : State → State × Resp) :
    onlyCommanding f (s.count Fld.MGT_CNT1_REQUESTS) = f (s.count Fld.MGT_CNT1_REQUESTS) := by
  have hc' : (s.count Fld.MGT_CNT1_REQUESTS).commanding = true := by
    unfold State.commanding at hc ⊢
    rwa [State.get_count_ne _ _ _ (by decide)]
  exact if_pos hc'

/-- The registers that an accepted command of control changes. -/
abbrev requestRegs : List Nat := [Reg.MGT_CNT1, Reg.MGT_STAT]

theorem State.keeps_request (s : State) : s.keeps (s.count Fld.MGT_CNT1_REQUESTS) requestRegs := (s.keeps_refl _).count _ (by decide)

/-- R31, R33, R453: a command that waits for the frame start: it joins its queue and is forwarded to the group, and is answered. -/
theorem State.Accepts.queued {s : State} (h : s.Live) (hc : s.commanding = true) {r : Req} {op : Nat} {args : List Byte}
    (ha : s.Accepts r 3 (cmdBody op args)) {c : Instr} {g : Gate} {f : State → State × Resp}
    (he : exec c s = .next (s.command r op args g (onlyCommanding f))) {q : CtlSt → CtlSt} {code : Nat} {body : List Byte} {x : Resp}
    (hf : f (s.count Fld.MGT_CNT1_REQUESTS) = (((s.count Fld.MGT_CNT1_REQUESTS).modCtl q).forward code body, x)) :
    ∃ t, exec c s = .next t ∧ t.ctl = q s.ctl ∧ s.Answered t r x ∧ s.keeps t requestRegs ∧ State.Touch [.mgt, .ctl, .grp] s t := by
  have hT : State.Touch [.ctl, .grp] s (((s.count Fld.MGT_CNT1_REQUESTS).modCtl q).forward code body) :=
    (((State.Touch.refl _ s).count _).modCtl q (by decide)).forward code body (by decide)
  have hk : s.keeps (((s.count Fld.MGT_CNT1_REQUESTS).modCtl q).forward code body) requestRegs :=
    (s.keeps_request.of_regs rfl).of_regs (State.forward_regs _ _ _)
  obtain ⟨t, ht, hA, hK, -, hU⟩ := ha.command_effect h he ((onlyCommanding_of_commanding hc f).trans hf) hT (by decide) (by decide) hk
    (by decide) (by decide)
  have hctl : (((s.count Fld.MGT_CNT1_REQUESTS).modCtl q).forward code body).ctl = q s.ctl :=
    (State.Touch.refl [.grp] _).forward code body (by decide) .ctl (by decide)
  exact ⟨t, ht, (hU .ctl (by decide)).trans hctl, hA, hK, (hT.mono (by decide)).trans (hU.mono (by decide))⟩

/-! The clauses of the statement. -/

/-- R141: what a mode command shows in CTL_MODESTAT. -/
theorem State.modeStat_shown (s : State) (code result : Nat) (hr : result < 32) :
    (s.modeStat code result).get Fld.CTL_MODESTAT_REQ = code % 16 ∧
    (s.modeStat code result).get Fld.CTL_MODESTAT_RESULT = result ∧
    (s.modeStat code result).get Fld.CTL_MODESTAT_MODE = s.get Fld.CTL_MODESTAT_MODE := by
  unfold State.modeStat
  refine ⟨?_, ?_, ?_⟩
  · rw [State.get_set_disjoint _ _ _ _ (by decide) (by decide) (by decide), State.get_set_self _ _ _ (by decide)]
    rfl
  · rw [State.get_set_self _ _ _ (by decide)]
    exact Nat.mod_eq_of_lt hr
  · rw [State.get_set_disjoint _ _ _ _ (by decide) (by decide) (by decide),
      State.get_set_disjoint _ _ _ _ (by decide) (by decide) (by decide)]

theorem State.keeps_modeStat (s : State) (code result : Nat) : s.keeps (s.modeStat code result) [Reg.CTL_MODESTAT] :=
  ((s.keeps_refl _).set Fld.CTL_MODESTAT_REQ code (by decide)).set Fld.CTL_MODESTAT_RESULT result (by decide)

/-- R31, R141: a mode command that waits. -/
theorem State.modeCmd_of_le {code : Nat} (h : code ≤ 11) (s : State) (q : Option ReqRef) :
    s.modeCmd code q = (s.modCtl (fun c => { c with modeReq := c.modeReq ++ [(code, q)] })).modeStat code 17 := if_neg (by omega)

/-- R141: a mode command with a bad code. -/
theorem State.modeCmd_of_lt {code : Nat} (h : 11 < code) (s : State) (q : Option ReqRef) : s.modeCmd code q = s.modeStat code 3 :=
  if_pos h

/-- What a MODE request does once it is accepted on the commanding part. -/
def modeRequest (r : Req) (code : Byte) (s : State) : State × Resp :=
  if 11 < code.toNat then (s.modeCmd code.toNat none, cmdResp 0 0 3 [])
  else (s.modeCmd code.toNat (some (reqRef r 0x10)), respPending [])

/-- Whether it waits or not, an accepted MODE request is a change of `ctl` alone, shown in CTL_MODESTAT. -/
theorem mode_shown {s : State} (h : s.Live) (hc : s.commanding = true) {r : Req} {k : Byte}
    (ha : s.Accepts r 3 (cmdBody 0x10 (modeBody k))) (q : CtlSt → CtlSt) {res : Nat} {x : Resp} (hres : res < 32)
    (hf : modeRequest r k (s.count Fld.MGT_CNT1_REQUESTS) = (((s.count Fld.MGT_CNT1_REQUESTS).modCtl q).modeStat k.toNat res, x)) :
    ∃ t, exec (.mode r k) s = .next t ∧ t.get Fld.CTL_MODESTAT_REQ = k.toNat % 16 ∧
    t.get Fld.CTL_MODESTAT_MODE = s.get Fld.CTL_MODESTAT_MODE ∧ s.keeps t [Reg.CTL_MODESTAT, Reg.MGT_CNT1, Reg.MGT_STAT] ∧
    State.Touch [.mgt, .ctl] s t ∧ t.ctl = q s.ctl ∧ t.get Fld.CTL_MODESTAT_RESULT = res ∧ s.Answered t r x := by
  have hk : s.keeps ((s.count Fld.MGT_CNT1_REQUESTS).modCtl q) [Reg.CTL_MODESTAT, Reg.MGT_CNT1, Reg.MGT_STAT] :=
    (s.keeps_request.of_regs rfl).mono (by decide)
  have hT : State.Touch [.ctl] s (((s.count Fld.MGT_CNT1_REQUESTS).modCtl q).modeStat k.toNat res) :=
    (((State.Touch.refl _ s).count _).modCtl q (by decide)).modeStat _ _ (by decide)
  obtain ⟨t, ht, hA, hK, hget, hU⟩ := ha.command_effect (c := .mode r k) (f := onlyCommanding (modeRequest r k)) h rfl
    ((onlyCommanding_of_commanding hc _).trans hf) hT (by decide) (by decide) (hk.trans ((State.keeps_modeStat _ _ _).mono (by decide))) (by decide) (by decide)
  obtain ⟨hreq, hresult, hmode⟩ := ((s.count Fld.MGT_CNT1_REQUESTS).modCtl q).modeStat_shown k.toNat res hres
  refine ⟨t, ht, (hget.get _ (by decide)).trans hreq, ?_, hK, (hT.mono (by decide)).trans (hU.mono (by decide)), hU .ctl (by decide),
    (hget.get _ (by decide)).trans hresult, hA⟩
  rw [hget.get _ (by decide), hmode]
  exact State.get_count_ne s _ Fld.CTL_MODESTAT_MODE (by decide)

/-- R31, R141: an accepted MODE request. -/
theorem mode_effect {s : State} (h : s.Live) (r : Req) (k : Byte) (ha : s.Accepts r 3 (cmdBody 0x10 (modeBody k)))
    (hc : s.commanding = true) : ∃ t,
    exec (.mode r k) s = .next t ∧ t.get Fld.CTL_MODESTAT_REQ = k.toNat % 16 ∧ t.get Fld.CTL_MODESTAT_MODE = s.get Fld.CTL_MODESTAT_MODE ∧
    s.keeps t [Reg.CTL_MODESTAT, Reg.MGT_CNT1, Reg.MGT_STAT] ∧ State.Touch [.mgt, .ctl] s t ∧
    (if k.toNat ≤ 11 then t.ctl = { s.ctl with modeReq := s.ctl.modeReq ++ [(k.toNat, some (reqRef r 0x10))] } ∧
      t.get Fld.CTL_MODESTAT_RESULT = 17 ∧ s.Answered t r (respPending [])
    else t.ctl = s.ctl ∧ t.get Fld.CTL_MODESTAT_RESULT = 3 ∧ s.Answered t r (cmdResp 0 0 3 [])) := by
  split
  · next hk =>
    exact mode_shown h hc ha (fun c => { c with modeReq := c.modeReq ++ [(k.toNat, some (reqRef r 0x10))] }) (by decide)
      (by rw [modeRequest, if_neg (by omega), State.modeCmd_of_le hk])
  · next hk =>
    exact mode_shown h hc ha id (by decide) (by rw [modeRequest, if_pos (by omega), State.modeCmd_of_lt (by omega)]; rfl)

/-- R31, R148: CTL_MODECMD on the commanding part. -/
theorem ctlModecmdWrite_effect {s : State} (h : s.Live) (hc : s.commanding = true) (v : Word) (hv : v.toNat % 16 ≤ 11) : ∃ t,
    exec (.ctlModecmdWrite v) s = .next t ∧ t.ctl = { s.ctl with modeReq := s.ctl.modeReq ++ [(v.toNat % 16, none)] } ∧
    t.get Fld.CTL_MODESTAT_RESULT = 17 ∧ s.keeps t [Reg.CTL_MODESTAT] ∧ State.Touch [.ctl] s t := by
  refine ⟨(s.modecmdWrite v).mirror, congrArg Host.Outcome.next (State.running_released h.released _), ?_⟩
  rw [State.modecmdWrite, if_pos hc, State.modeCmd_of_le hv]
  refine ⟨rfl, ?_, ?_, ?_⟩
  · rw [State.get_mirror _ _ (by decide) (by decide) (by decide)]
    exact (State.modeStat_shown _ _ 17 (by decide)).2.1
  · exact State.keeps.mirror (s := s) (State.keeps_modeStat _ _ _) h.inv rfl rfl (by decide)
  · exact (((State.Touch.refl _ s).modCtl _ (by decide)).modeStat _ _ (by decide)).mirror (by decide)

/-- R452: CTL_MODECMD off the commanding part. -/
theorem ctlModecmdWrite_refused {s : State} (h : s.Live) (hc : s.commanding = false) (v : Word) : ∃ t,
    exec (.ctlModecmdWrite v) s = .next t ∧ t.get Fld.SYS_REFINFO_BLOCK = 12 ∧
    t.rd Reg.SYS_REFADDR = BitVec.ofNat 32 Reg.CTL_MODECMD ∧ s.keeps t [Reg.SYS_REFADDR, Reg.SYS_REFINFO] ∧ t.rest = s.rest := by
  refine ⟨(s.modecmdWrite v).mirror, congrArg Host.Outcome.next (State.running_released h.released _), ?_⟩
  rw [State.modecmdWrite, if_neg (by simp [hc])]
  refine ⟨?_, ?_, ?_, rfl⟩
  · rw [State.get_mirror _ _ (by decide) (by decide) (by decide), State.get_refuse_block]
    rfl
  · rw [State.rd_mirror _ (by decide) (by decide) (by decide), State.rd_refuse_addr]
  · exact ((s.keeps_refl _).refuse _ _ _ (by decide) (by decide)).mirror h.inv rfl rfl (by decide)

/-- R135: a track with waypoints put from a place on. -/
def putTrack (first : Nat) (pts t : List Waypoint) : List Waypoint :=
  (List.range (max t.length (first + pts.length))).map fun i =>
    if first ≤ i ∧ i < first + pts.length then pts.getD (i - first) ⟨0, 0, 0, 0, 0⟩ else t.getD i ⟨0, 0, 0, 0, 0⟩

theorem getElem?_putTrack (first : Nat) (pts t : List Waypoint) {i : Nat} (hi : i < pts.length) :
    (putTrack first pts t)[first + i]? = pts[i]? := by
  have hlt : first + i < max t.length (first + pts.length) := by omega
  unfold putTrack
  rw [List.getElem?_map, List.getElem?_range hlt, Option.map_some, if_pos (by omega), Nat.add_sub_cancel_left,
    List.getElem?_eq_getElem hi, List.getD_eq_getElem _ _ hi]

/-- R135: what TRACK_WRITE changes of control: the bank that is not in use. -/
def CtlSt.putShadow (first : Nat) (pts : List Waypoint) (c : CtlSt) : CtlSt :=
  if c.trackBank = 0 then { c with track1 := putTrack first pts c.track1 } else { c with track0 := putTrack first pts c.track0 }

theorem State.trackWrite_eq (s : State) (first : Nat) (pts : List Waypoint) :
    s.trackWrite first pts = s.modCtl (CtlSt.putShadow first pts) := by
  unfold State.trackWrite State.modCtl CtlSt.putShadow
  dsimp only
  split <;> rfl

/-- R135: an accepted TRACK_WRITE. -/
theorem trackWrite_effect {s : State} (h : s.Live) (hc : s.commanding = true) (r : Req) (k : Byte) (ps : List Waypoint)
    (ha : s.Accepts r 3 (cmdBody 0x13 ([k, BitVec.ofNat 8 ps.length, 0, 0] ++ (ps.map Waypoint.bytes).flatten)))
    (h1 : 1 ≤ ps.length) (h8 : ps.length ≤ 8) (h32 : k.toNat + ps.length ≤ 32) (hok : ps.all Waypoint.ok = true) : ∃ t,
    exec (.trackWrite r k ps) s = .next t ∧ t.track = s.track ∧
    (∀ i < ps.length, (if s.ctl.trackBank = 0 then t.ctl.track1 else t.ctl.track0)[k.toNat + i]? = ps[i]?) ∧
    s.Answered t r (respOk []) ∧ s.keeps t requestRegs ∧ State.Touch [.mgt, .ctl, .grp] s t := by
  have hgood : ¬ (ps.length = 0 ∨ 8 < ps.length ∨ 32 < k.toNat + ps.length ∨ ¬ ps.all Waypoint.ok) := by
    rintro (h | h | h | h)
    · omega
    · omega
    · omega
    · exact h hok
  obtain ⟨t, ht, hctl, hA, hK, hT⟩ := ha.queued (c := .trackWrite r k ps) (q := CtlSt.putShadow k.toNat ps) h hc rfl
    ((if_neg hgood).trans (by rw [State.trackWrite_eq]))
  refine ⟨t, ht, ?_, fun i hi => ?_, hA, hK, hT⟩
  · unfold State.track
    rw [hctl, CtlSt.putShadow]
    split <;> simp_all
  · rw [hctl, CtlSt.putShadow]
    split <;> exact getElem?_putTrack _ _ _ hi

/-- R116: an accepted ORIGIN_MOVE. -/
theorem originMove_effect {s : State} (h : s.Live) (hc : s.commanding = true) (r : Req) (a b : Int)
    (ha : s.Accepts r 3 (cmdBody 0x15 (le32 (ofInt32 a) ++ le32 (ofInt32 b)))) : ∃ t,
    exec (.originMove r a b) s = .next t ∧ t.fus = s.fus ∧ s.keeps t requestRegs ∧ State.Touch [.mgt, .ctl, .grp] s t ∧
    (if s.fus.origin.isSome = true ∧ 2 < s.mode then t.ctl = s.ctl ∧ s.Answered t r (respRefused 0)
    else t.ctl = { s.ctl with originReq := s.ctl.originReq ++ [(((ofInt32 a).toInt, (ofInt32 b).toInt), some (reqRef r 0x15))] } ∧
      s.Answered t r (respPending [])) := by
  have hmode : (s.count Fld.MGT_CNT1_REQUESTS).mode = s.mode := State.get_count_ne s _ Fld.CTL_MODESTAT_MODE (by decide)
  split
  · next hset =>
    obtain ⟨t, ht, hA, hK, -, hU⟩ := ha.command_effect (c := .originMove r a b) h rfl
      ((onlyCommanding_of_commanding hc _).trans (if_pos (hmode.symm ▸ hset))) ((State.Touch.refl [] s).count _) (by decide) (by decide) s.keeps_request (by decide) (by decide)
    have hT := ((State.Touch.refl [.mgt] s).count _).trans hU
    exact ⟨t, ht, hT .fus (by decide), hK, hT.mono (by decide), hT .ctl (by decide), hA⟩
  · next hset =>
    obtain ⟨t, ht, hctl, hA, hK, hT⟩ := ha.queued (c := .originMove r a b) h hc rfl (if_neg (hmode.symm ▸ hset))
    exact ⟨t, ht, hT .fus (by decide), hK, hT, hctl, hA⟩

/-- R113: an accepted CAL_READ. -/
theorem calRead_effect {s : State} (h : s.Live) (r : Req) (a b c : Byte) {g : FusCfg} {i : Nat}
    (ha : s.Accepts r 3 (cmdBody 0x18 [a, b, c, 0])) (hg : s.fusCfg = some g) (hi : s.calIndex a.toNat b.toNat c.toNat = some i) :
    ∃ t, exec (.calRead r a b c) s = .next t ∧
    s.Answered t r (respOk (le32 (satInt32 (roundRat ((s.calVals g).getD i 0))))) ∧ s.keeps t requestRegs ∧ State.Touch [.mgt] s t := by
  have hg' : (s.count Fld.MGT_CNT1_REQUESTS).fusCfg = some g := hg
  have hi' : (s.count Fld.MGT_CNT1_REQUESTS).calIndex a.toNat b.toNat c.toNat = some i := hi
  obtain ⟨t, ht, hA, hK, -, hU⟩ := ha.command_effect (c := .calRead r a b c) h rfl (by rw [hg', hi'])
    ((State.Touch.refl [] s).count _) (by decide) (by decide) s.keeps_request (by decide) (by decide)
  exact ⟨t, ht, hA, hK, ((State.Touch.refl _ s).count _).trans hU⟩

/-! Off the commanding part. -/

/-- R452: a command of control marked C. -/
def OnlyCommanding (c : Instr) (r : Req) (body : List Byte) : Prop := ∃ op args f, body = cmdBody op args ∧
  ∀ s, exec c s = .next (s.command r op args {} (onlyCommanding f))

theorem leNat_cmdBody (op : Nat) (args : List Byte) : leNat ((cmdBody op args).take 2) = op % 65536 := by
  simp only [cmdBody, leBytes, List.cons_append, List.take_succ_cons, List.take_zero, leNat, BitVec.toNat_ofNat]
  omega

/-- Table 18-3: the commands of the codes 0x10 to 0x19 but CAL_READ are marked C. -/
theorem onlyCommanding_of_code {c : Instr} {r : Req} {body : List Byte} (hr : requestOf c = some (r, 3, body))
    (h1 : 0x10 ≤ leNat (body.take 2)) (h2 : leNat (body.take 2) ≤ 0x19) (h3 : leNat (body.take 2) ≠ 0x18) : OnlyCommanding c r body := by
  cases c
  case mode | setpoint | targetOffset | trackWrite | trackSwap | originMove | calFreeze | calWrite | compEngaged =>
    cases hr
    exact ⟨_, _, _, rfl, fun _ => rfl⟩
  case openSession | closeSession | calRead | chCreate | chDestroy | chQuery | funcReinit | devResetArm | devResetConfirm | pwrcycArm |
      pwrcycConfirm | safeHold | safeRelease | safetyReload | nvmRead | nvmWrite | nvmErase | keyProgram | recFreeze | recRelease =>
    cases hr
    rw [leNat_cmdBody] at h1 h2 h3
    omega
  all_goals cases hr

/-- R452: a command marked C that is accepted off the commanding part does nothing. -/
theorem OnlyCommanding.refused {c : Instr} {r : Req} {body : List Byte} (hC : OnlyCommanding c r body) {s : State} (h : s.Live)
    (ha : s.Accepts r 3 body) (hc : s.commanding = false) : ∃ t, exec c s = .next t ∧ s.Answered t r (respStatus 6 0) ∧
    s.keeps t requestRegs ∧ State.Touch [.mgt] s t := by
  obtain ⟨op, args, f, rfl, he⟩ := hC
  have hc' : (s.count Fld.MGT_CNT1_REQUESTS).commanding = false := by
    unfold State.commanding at hc ⊢
    rwa [State.get_count_ne _ _ _ (by decide)]
  obtain ⟨t, ht, hA, hK, -, hU⟩ := ha.command_effect h (he s) (if_neg (by simp [hc']))
    ((State.Touch.refl [] s).count _) (by decide) (by decide) s.keeps_request (by decide) (by decide)
  exact ⟨t, ht, hA, hK, ((State.Touch.refl _ s).count _).trans hU⟩

/-- Settles O45: most commands of control are queued and forwarded (`State.Accepts.queued`); the others have a lemma each. -/
theorem operatorCommandsAwaitTheFrame : Obligations.OperatorCommandsAwaitTheFrame := by
  unfold Obligations.OperatorCommandsAwaitTheFrame
  refine ⟨fun s r k h ha hc => mode_effect h r k ha hc, fun s v h hc hv => ctlModecmdWrite_effect h hc v hv,
    fun s v h hc => ctlModecmdWrite_refused h hc v, fun s r ax rel n e psi v h ha hc hax hrel => ?_, fun s r a b c h ha hc => ?_,
    fun s r k ps h ha hc h1 h8 h32 hok => trackWrite_effect h hc r k ps ha h1 h8 h32 hok, fun s r h ha hc => ?_,
    fun s r a b h ha hc => ?_, fun s r f h ha hc => ?_, fun s r a b c v h ha hc hi => ?_,
    fun s r a b c g i h ha hg hi => calRead_effect h r a b c ha hg hi, fun s r f h ha hc => ?_,
    fun c s r body h hr ha h1 h2 h3 hc => (onlyCommanding_of_code hr h1 h2 h3).refused h ha hc⟩
  case refine_1 =>
    obtain ⟨t, ht, hctl, hA, hK, hT⟩ := ha.queued (c := .setpoint r ax rel n e psi v) h hc rfl
      (if_neg (show ¬ (15 < ax.toNat ∨ 1 < rel.toNat) by omega))
    exact ⟨t, _, ht, hctl, Nat.mod_eq_of_lt (by omega), rfl, rfl, rfl, rfl, rfl, rfl, hA, hK, hT⟩
  case refine_2 => exact ha.queued (c := .targetOffset r a b c) h hc rfl rfl
  case refine_3 => exact ha.queued (c := .trackSwap r) h hc rfl rfl
  case refine_4 => exact originMove_effect h hc r a b ha
  case refine_5 => exact ha.queued (c := .calFreeze r f) h hc rfl rfl
  case refine_6 =>
    have hi' : (s.calIndex a.toNat b.toNat c.toNat).isNone = false := by simpa using hi
    exact ha.queued (c := .calWrite r a b c v) h hc rfl (if_neg (Bool.eq_false_iff.mp hi'))
  case refine_7 => exact ha.queued (c := .compEngaged r f) h hc rfl rfl

end Sys2Proof.Machine
end

section
/-!
A bank that retires under a run whose unit number lies beyond the eight units (R48, R236): the unit field that the eviction frees is
then a part of RETIRED.  Refutes O37.
-/
namespace Sys2Proof.Machine

/-- Task 5, whose home is cluster 0 and whose alternate is cluster 4; it uses bank 0. -/
def bankTask : TaskDef :=
  { header := BitVec.ofNat 128 (5 * 2 ^ 108 + 4 * 2 ^ 63), ops := [], succ := [], banks := 1, areas := [], test := false }

/-- A run of that task on unit 10 of its home: bits 20 and 21 of CLU_UNITSTAT, which Table 2-21 gives to RETIRED.  `TaskInst.unit` is
any number, and neither `State.Inv` nor `State.Live` bounds it. -/
def beyondUnits : TaskInst := { task := 5, number := 0, start := 0, phase := .running, cluster := 0, unit := 10 }

/-- A released part whose image holds the task alone, and which runs it there. -/
def runsBeyondUnits : State :=
  ({ rst := { inReset := false, resetN := false }
     cfg := some { trialsImage with region := { trialsImage.region with tasks := [bankTask] } }
     fab := { place := [(5, 1)], insts := [beyondUnits] } } : State).mirror

theorem runsBeyondUnits_live : runsBeyondUnits.Live := ⟨rfl, State.mirror_inv _⟩

theorem runsBeyondUnits_inService : runsBeyondUnits.isolated 0 = false ∧
    (runsBeyondUnits.get (Fld.CLU_UNITSTAT_RETIRED 0)).testBit 0 = false := by decide +kernel

/-- The eviction frees the unit of the run and so clears the bit of the bank that has just been retired. -/
theorem retireBank_beyondUnits :
    ((runsBeyondUnits.running (fun s => s.siteFault (.bankOutput 0 0) 0)).get (Fld.CLU_UNITSTAT_RETIRED 0)).testBit 0 = false := by
  decide +kernel

/-- Refutes O37: after the fault of bank 0 of cluster 0 its RETIRED bit reads 0, where a run on unit 10 uses the bank. -/
theorem not_faultsMoveTasksAway : ¬ Obligations.FaultsMoveTasksAway := by
  unfold Obligations.FaultsMoveTasksAway
  rintro ⟨hbank, -⟩
  obtain ⟨hiso, hret⟩ := runsBeyondUnits_inService
  obtain ⟨t, ht, hbit, -⟩ := hbank runsBeyondUnits 0 0 runsBeyondUnits_live hiso hret
  obtain rfl : runsBeyondUnits.running (fun s => s.siteFault (.bankOutput 0 0) 0) = t := Host.Outcome.next.inj ht
  exact Bool.false_ne_true (retireBank_beyondUnits.symm.trans hbit)

end Sys2Proof.Machine
end

section
/-!
What control notes when something is late or lost (R27, R28, R117, R124, R136, R142 to R144, R395).  An output on its way, a solve that
starts and the references of a frame leave the registers below those of the solver as they are, so what a stage shows there stands to
the end of its command.  Settles O46.
-/
namespace Sys2Proof.Machine

/-! The registers below the solver's. -/

/-- The registers below the solver's block (those of fusion and of the slack monitor among them) read in `t` as they read in `s`. -/
def State.SameBelow (s t : State) : Prop := ∀ a < 0xD0000, t.rd a = s.rd a

theorem State.SameBelow.refl (s : State) : s.SameBelow s := fun _ _ => rfl

theorem State.SameBelow.trans {s t u : State} (h : s.SameBelow t) (h' : t.SameBelow u) : s.SameBelow u :=
  fun a ha => (h' a ha).trans (h a ha)

theorem State.SameBelow.of_regs {s t : State} (h : t.regs = s.regs) : s.SameBelow t := fun a _ => State.rd_of_regs h a

theorem State.SameBelow.wr {s t : State} (h : s.SameBelow t) {b : Nat} (v : Word) (hb : 0xD0000 ≤ b) : s.SameBelow (t.wr b v) :=
  fun a ha => (State.rd_wr_ne t v (by omega)).trans (h a ha)

theorem State.SameBelow.set {s t : State} (h : s.SameBelow t) (f : Field) (v : Nat) (hb : 0xD0000 ≤ f.addr) : s.SameBelow (t.set f v) :=
  h.wr _ hb

theorem State.SameBelow.count {s t : State} (h : s.SameBelow t) (f : Field) (hb : 0xD0000 ≤ f.addr) : s.SameBelow (t.count f) :=
  h.wr _ hb

theorem State.SameBelow.each {α : Type} (s : State) (l : List α) (f : α → State → State) (hf : ∀ x u, State.SameBelow u (f x u)) :
    s.SameBelow (s.each l f) := by
  induction l generalizing s with
  | nil => exact .refl s
  | cons x l ih => exact (hf x s).trans (ih (f x s))

theorem State.SameBelow.get {s t : State} (h : s.SameBelow t) (f : Field) (hf : f.addr < 0xD0000) : t.get f = s.get f :=
  State.get_of_rd f (h _ hf)

/-! Outputs on their way. -/

theorem State.sameBelow_canQueue (s : State) (n o : Nat) (x : OutItem) (fixed : Bool) : s.SameBelow (s.canQueue n o x fixed) := by
  unfold State.canQueue
  split
  · refine (State.SameBelow.refl s).count _ ?_
    show 0xD0000 ≤ 0x140064 + 0x4000 * n
    omega
  · exact .of_regs rfl

theorem State.sameBelow_toCan (s : State) (x : OutItem) : s.SameBelow (s.toCan x) := by
  refine .each _ _ _ fun n u => .each _ _ _ fun o u => ?_
  split
  · exact u.sameBelow_canQueue _ _ _ _
  · exact .refl u

theorem State.sameBelow_ethQueue (s : State) (m : Bool) (f : EthFrame) : s.SameBelow (s.ethQueue m f) := by
  unfold State.ethQueue
  split
  · exact .of_regs rfl
  · split
    · exact .of_regs rfl
    · exact (State.SameBelow.refl s).count _ (by decide)

theorem State.sameBelow_sendOutput (s : State) (m : Bool) (dest : BitVec 48) (pcp : Nat) (items : List (List Byte)) :
    s.SameBelow (s.sendOutput m dest pcp items) :=
  (State.SameBelow.of_regs rfl).trans (State.sameBelow_ethQueue _ _ _)

theorem State.sameBelow_fillFrames (s : State) (m : Bool) (dest : BitVec 48) (pcp : Nat) (cur xs : List (List Byte)) :
    s.SameBelow (s.fillFrames m dest pcp cur xs) := by
  induction xs generalizing s cur with
  | nil =>
    unfold State.fillFrames
    split
    · exact .refl s
    · exact s.sameBelow_sendOutput _ _ _ _
  | cons x xs ih =>
    unfold State.fillFrames
    split
    · exact (s.sameBelow_sendOutput m dest pcp cur).trans (ih _ [x])
    · exact ih s _

theorem State.sameBelow_ethFlush (s : State) : s.SameBelow s.ethFlush :=
  (State.SameBelow.of_regs rfl).trans (.each _ _ _ fun _ u => u.sameBelow_fillFrames _ _ _ _ _)

theorem State.sameBelow_toEth (s : State) (x : OutItem) (b : Bool) : s.SameBelow (s.toEth x b) := by
  unfold State.toEth
  split
  · exact .refl s
  · exact .of_regs rfl

theorem State.sameBelow_aoutFeed (s : State) (x : OutItem) (n : Nat) (a : AoutCfg) : s.SameBelow (s.aoutFeed x n a) := by
  have hd : 0xD0000 ≤ Reg.AOUTn_DATA n := by show 0xD0000 ≤ 0x118004 + 0x10 * n; omega
  have hs : 0xD0000 ≤ Reg.AOUTn_STAT n := by show 0xD0000 ≤ 0x118008 + 0x10 * n; omega
  unfold State.aoutFeed
  split
  · dsimp only
    split
    · exact ((State.SameBelow.of_regs rfl).set _ _ hs).set _ _ hs
    · exact .of_regs rfl
  · dsimp only
    split
    · exact (((State.SameBelow.of_regs rfl).set _ _ hd).set _ _ hs).set _ _ hs
    · exact ((State.SameBelow.of_regs rfl).set _ _ hd).set _ _ hs

theorem State.sameBelow_toAout (s : State) (x : OutItem) : s.SameBelow (s.toAout x) := by
  refine .each _ _ _ fun n u => ?_
  split
  · exact .refl u
  · split
    · exact u.sameBelow_aoutFeed _ _ _
    · exact .refl u

theorem State.sameBelow_chanSend (s : State) (x : OutItem) : s.SameBelow (s.chanSend x) := by
  unfold State.chanSend State.chanRelease
  have hsubs : s.SameBelow (s.toSubs x) := .of_regs rfl
  exact (((hsubs.trans (State.sameBelow_toCan _ _)).trans (State.sameBelow_toEth _ _ _)).trans (State.sameBelow_toAout _ _)).trans
    (State.sameBelow_ethFlush _)

theorem State.sameBelow_fillSlot (s : State) (c : Chan) (frame crc : Nat) (p : List Byte) : s.SameBelow (s.fillSlot c frame crc p) := by
  unfold State.fillSlot
  extract_lets x u
  have hu : s.SameBelow u := .of_regs rfl
  split
  · exact hu
  · exact hu.trans (u.sameBelow_chanSend x)

theorem State.sameBelow_portOutput (s : State) (c : Chan) (frame crc : Nat) (p : List Byte) :
    s.SameBelow (s.portOutput c frame crc p) := by
  unfold State.portOutput
  split
  · exact s.sameBelow_canQueue _ _ _ _
  · split
    · exact s.sameBelow_fillSlot _ _ _ _
    · split
      · split
        · dsimp only
          split
          · exact .of_regs rfl
          · exact .of_regs rfl
        · exact .of_regs rfl
      · exact .of_regs rfl

theorem State.sameBelow_publishOn (s : State) (task frame : Nat) (data : List Byte) : s.SameBelow (s.publishOn task frame data) := by
  unfold State.publishOn
  split
  · exact .refl s
  · split
    · exact s.sameBelow_portOutput _ _ _ _
    · exact .refl s

/-! Solves that start. -/

theorem State.sameBelow_slvActivate (s : State) (k : Nat) : s.SameBelow (s.slvActivate k) := by
  unfold State.slvActivate
  split
  · refine (State.SameBelow.of_regs rfl).count _ ?_
    show 0xD0000 ≤ 0xD010C + 0x20 * clsOf k
    omega
  · exact .refl s

theorem State.sameBelow_slvTrigger (s : State) (k : Nat) (m : List Vec) : s.SameBelow (s.slvTrigger k m) := by
  unfold State.slvTrigger
  split
  · exact .refl s
  · exact .of_regs rfl

theorem State.sameBelow_slvStart (s : State) (k : Nat) (pr : Problem) : s.SameBelow (s.slvStart k pr) := by
  unfold State.slvStart
  split
  · exact .refl s
  · have h := s.sameBelow_slvActivate k
    dsimp only
    split
    · exact (h.trans (.of_regs rfl)).trans (State.sameBelow_slvTrigger _ _ _)
    · exact h.trans (.of_regs rfl)

theorem State.sameBelow_tunnelEta (s : State) (u : Int) : s.SameBelow (s.tunnelEta u) := by
  refine .each _ _ _ fun i s => ?_
  split
  · split
    · exact .of_regs rfl
    · exact .refl s
  · exact .refl s

theorem State.sameBelow_alcStart (s : State) (dem : Rat × Rat × Rat) (u : Int) : s.SameBelow (s.alcStart dem u) := by
  unfold State.alcStart
  split
  · exact .refl s
  · exact (s.sameBelow_tunnelEta u).trans (State.sameBelow_slvStart _ _ _)

theorem State.sameBelow_mpcStart (s : State) (e : Epoch) : s.SameBelow (s.mpcStart e) := by
  unfold State.mpcStart
  split
  · split
    · exact (State.SameBelow.of_regs rfl).trans (State.sameBelow_slvStart _ _ _)
    · exact .refl s
  · exact .refl s

/-! The references of a frame. -/

/-- A stage of control that changes neither a register nor the note of a late epoch. -/
def State.Steers (s t : State) : Prop := t.regs = s.regs ∧ t.ctl.fusionAge = s.ctl.fusionAge

theorem State.Steers.refl (s : State) : s.Steers s := ⟨rfl, rfl⟩

theorem State.Steers.trans {s t u : State} (h : s.Steers t) (h' : t.Steers u) : s.Steers u :=
  ⟨h'.1.trans h.1, h'.2.trans h.2⟩

theorem State.Steers.ite {s t : State} {p : Prop} [Decidable p] (h : s.Steers t) : s.Steers (if p then t else s) := by
  split
  · exact h
  · exact .refl s

theorem State.steers_trackStart (s : State) (p : Rat × Rat) (n e vn ve : Rat) : s.Steers (s.trackStart p n e vn ve) := by
  unfold State.trackStart
  dsimp only
  split
  · exact .refl s
  · split
    · exact .refl s
    · exact ⟨rfl, rfl⟩

theorem State.steers_refEnter (s : State) (e : Epoch) : s.Steers (s.refEnter e) := by
  unfold State.refEnter
  extract_lets m p v pick u w
  have hu : s.Steers u := ⟨rfl, rfl⟩
  have hw : u.Steers w := ⟨rfl, rfl⟩
  exact hu.trans (.ite (hw.trans (.ite (w.steers_trackStart _ _ _ _ _))))

theorem State.steers_targetSp (s : State) : s.Steers s.targetSp := by
  unfold State.targetSp
  split
  · exact .refl s
  · dsimp only
    split
    · exact .refl s
    · exact ⟨rfl, rfl⟩

theorem State.steers_weatherSp (s : State) (e : Epoch) : s.Steers (s.weatherSp e) := by
  unfold State.weatherSp
  split
  · exact .refl s
  · dsimp only
    split
    · exact .refl s
    · exact ⟨rfl, rfl⟩

theorem State.steers_trackStep (s : State) (dt : Rat) : s.Steers (s.trackStep dt) := by
  unfold State.trackStep
  dsimp only
  split
  · exact ⟨rfl, rfl⟩
  · exact .refl s

theorem State.steers_refMove (s : State) (psi : Int) (dt : Rat) : s.Steers (s.refMove psi dt) := by
  have hhead : ∀ u : State, u.Steers (u.headStep dt) := fun _ => ⟨rfl, rfl⟩
  have hplane : ∀ u : State, u.Steers (u.planeStep psi dt) := fun _ => ⟨rfl, rfl⟩
  have hspeed : ∀ u : State, u.Steers (u.speedStep dt) := fun _ => ⟨rfl, rfl⟩
  unfold State.refMove
  extract_lets m h u w
  have hu : s.Steers u := .ite (hplane s)
  have hw : u.Steers w := .ite (hspeed u)
  split
  · exact (s.steers_trackStep dt).trans (hhead _)
  · exact (hu.trans hw).trans (.ite (hhead w))

theorem State.steers_refStep (s : State) (e : Epoch) : s.Steers (s.refStep e) := by
  have hmode : ∀ u : State, u.Steers (if u.actMode = 6 then u.targetSp else if u.actMode = 7 then u.weatherSp e else u) := fun u => by
    split
    · exact u.steers_targetSp
    · exact .ite (u.steers_weatherSp e)
  exact ((s.steers_refEnter e).trans (hmode _)).trans (State.steers_refMove _ _ _)

/-- R142: the demand of a frame leaves the registers below the solver's, and the note of a late epoch. -/
theorem State.demandForm_keeps (s : State) (e : Epoch) :
    s.SameBelow (s.demandForm e) ∧ (s.demandForm e).ctl.fusionAge = s.ctl.fusionAge := by
  unfold State.demandForm
  split
  · exact ⟨.refl s, rfl⟩
  · have hline : s.Steers s.lineCheck := ⟨rfl, rfl⟩
    obtain ⟨hr, hf⟩ := hline.trans (.ite (p := dpMode s.lineCheck.actMode = true) (s.lineCheck.steers_refStep e))
    refine ⟨(State.SameBelow.of_regs hr).trans ((State.SameBelow.of_regs rfl).trans (State.sameBelow_alcStart _ _ _)), ?_⟩
    exact (congrArg CtlSt.fusionAge ((State.Touch.refl [.slv, .alc] _).alcStart _ _ (fun _ => id) .ctl (by decide))).trans hf

/-! The fusion deadline (R27, R117, R142). -/

/-- A bit of a register that has been set to 1. -/
theorem State.getLsbD_set_one (s : State) (a i : Nat) (hi : i < 32) : ((s.set ⟨a, i, 1⟩ 1).rd a).getLsbD i = true := by
  rw [State.rd_set_self s ⟨a, i, 1⟩ 1, bitsSet_getLsbD _ _ _ _ _ (by simpa using hi), if_pos (by simp)]
  simp

/-- R47: a slack event sets its bit, and is raised once in a frame. -/
theorem State.slackEvent_shown (s : State) (bit code task : Nat) (slack : Int) (hb : bit < 32) :
    ((s.slackEvent bit code task slack).rd Reg.SLK_STAT).getLsbD bit = true ∧
    (s.fab.slackRaised.getLsbD bit = false → ∃ e ∈ (s.slackEvent bit code task slack).recd.port, e.code = code) := by
  have hset := s.getLsbD_set_one Reg.SLK_STAT bit hb
  unfold State.slackEvent
  extract_lets u w
  split
  · next h => exact ⟨hset, fun h' => absurd (h'.symm.trans h) Bool.false_ne_true⟩
  · exact ⟨hset, fun _ => ⟨_, List.mem_append_right _ (List.mem_singleton.2 rfl), rfl⟩⟩

/-- The fusion deadline has passed without the epoch. -/
def State.epochLate (s : State) : State :=
  { s with
    fus := { s.fus with deadline := true, nextLate := s.fus.nextLate || s.fus.next.isSome }
    ctl := { s.ctl with fusionAge := true } }

/-- R47: on the commanding part the slack monitor notes the late epoch. -/
def State.epochMissed (s : State) : State := match s.fusCfg with
  | some c => if s.ownFrame then s.deadlineMiss c.channel (s.frame.start + s.frameNs / 4) else s
  | none => s

theorem State.fusionDeadline_eq {s : State} (hp : s.fus.published = false) (hd : s.fus.deadline = false)
    (hs : s.frame.started = true) : ∃ e, s.fusionDeadline = s.epochLate.epochMissed.demandForm e := by
  unfold State.fusionDeadline
  rw [if_neg (by simp [hp, hd, hs])]
  exact ⟨_, rfl⟩

theorem State.touch_epochMissed (s : State) : State.Touch [.fab, .port] s s.epochMissed := by
  have h := State.Touch.refl [.fab, .port] s
  unfold State.epochMissed
  split
  · split
    · exact h.deadlineMiss _ _ (fun _ => id)
    · exact h
  · exact h

theorem State.epochMissed_idle {s : State} (h : s.ownFrame = false) : s.epochMissed = s := by
  unfold State.epochMissed
  split
  · rw [if_neg (by simp [h])]
  · rfl

theorem State.epochMissed_shown {s : State} (ho : s.ownFrame = true) (hc : s.fusCfg.isSome = true) (he : s.get Fld.SLK_CTRL_EN = 1) :
    (s.epochMissed.rd Reg.SLK_STAT).getLsbD 2 = true ∧
    (s.fab.slackRaised.getLsbD 2 = false → ∃ e ∈ s.epochMissed.recd.port, e.code = 0x2002) := by
  obtain ⟨c, hc⟩ := Option.isSome_iff_exists.1 hc
  have heq : s.epochMissed = s.slackEvent 2 0x2002 c.channel (((s.frame.start + s.frameNs / 4 : Nat) : Int) - s.now) := by
    unfold State.epochMissed State.deadlineMiss
    rw [hc]
    exact (if_pos ho).trans (if_neg (by omega))
  rw [heq]
  exact s.slackEvent_shown _ _ _ _ (by decide)

theorem State.demandForm_idle {s : State} (h : s.ownFrame = false) (e : Epoch) : s.demandForm e = s := by
  unfold State.demandForm
  exact if_pos (.inl (by simp [h]))

/-- R27, R117, R142: the first clause of O46. -/
theorem fusionDeadline_notes {s : State} (hL : s.Live) (hp : s.fus.published = false) (hd : s.fus.deadline = false)
    (hs : s.frame.started = true) : ∃ t, exec .fusionDeadline s = .next t ∧
    t.fus = { s.fus with deadline := true, nextLate := s.fus.nextLate || s.fus.next.isSome } ∧ t.ctl.fusionAge = true ∧
    (s.ownFrame = true → s.fusCfg.isSome = true → s.get Fld.SLK_CTRL_EN = 1 → (t.rd Reg.SLK_STAT).getLsbD 2 = true ∧
      (s.fab.slackRaised.getLsbD 2 = false → ∃ e ∈ t.recd.port, e.code = 0x2002)) ∧
    (s.ownFrame = false → t.ctl = { s.ctl with fusionAge := true } ∧ t.slv = s.slv ∧ t.alc = s.alc ∧ t.fab = s.fab ∧ s.keeps t []) ∧
    State.Touch [.fab, .fus, .ctl, .slv, .alc, .port] s t := by
  obtain ⟨e, heq⟩ := State.fusionDeadline_eq hp hd hs
  have hm := State.touch_epochMissed s.epochLate
  have hT : State.Touch [.ctl, .slv, .alc] s.epochLate.epochMissed s.fusionDeadline :=
    heq ▸ (State.Touch.refl _ _).demandForm e (fun _ => id)
  obtain ⟨hbelow, hage⟩ := State.demandForm_keeps s.epochLate.epochMissed e
  rw [← heq] at hbelow hage
  refine ⟨s.fusionDeadline.mirror, congrArg Host.Outcome.next (State.running_released hL.released _), ?_, ?_, fun ho hc hen => ?_,
    fun ho => ?_, ((State.Touch.refl _ s).fusionDeadline (fun _ => id)).mirror (by decide)⟩
  · exact (hT .fus (by decide)).trans (hm .fus (by decide))
  · exact hage.trans (congrArg CtlSt.fusionAge (hm .ctl (by decide)))
  · obtain ⟨hbit, hev⟩ := State.epochMissed_shown (s := s.epochLate) ho hc hen
    refine ⟨?_, fun hr => ?_⟩
    · rw [State.rd_mirror _ (by decide) (by decide) (by decide), hbelow _ (by decide)]
      exact hbit
    · obtain ⟨ev, hmem, hcode⟩ := hev hr
      exact ⟨ev, (hT .port (by decide)).subset hmem, hcode⟩
  · have hsame : s.fusionDeadline = s.epochLate := by
      rw [heq, State.epochMissed_idle (s := s.epochLate) ho, State.demandForm_idle (s := s.epochLate) ho]
    rw [hsame]
    have hregs : s.keeps s.epochLate [] := State.keeps_of_regs _ rfl
    exact ⟨rfl, rfl, rfl, rfl, hregs.mirror hL.inv rfl rfl (by decide)⟩

/-! The publication of an epoch (R117). -/

theorem State.publishSrc_keeps (s : State) (k a : Nat) (ha : a < 0xB0040) : (s.publishSrc k).rd a = s.rd a := by
  have h1 : a ≠ Reg.FUS_SRCSTATs k := by show a ≠ 0xB0040 + 0x4 * k; omega
  have h2 : a ≠ Reg.FUS_TRESs k := by show a ≠ 0xB00C0 + 0x4 * k; omega
  unfold State.publishSrc
  dsimp only
  rw [State.rd_set_ne _ _ _ h2, State.rd_set_ne _ _ _ h2, State.rd_set_ne _ _ _ h1, State.rd_set_ne _ _ _ h1,
    State.rd_set_ne _ _ _ h1, State.rd_set_ne _ _ _ h1]

/-- The sources' own registers, as an epoch publishes them. -/
def State.publishSrcs (s : State) : State := s.each (List.range 28) (fun k s => s.publishSrc k)

theorem State.publishSrcs_keeps (s : State) (a : Nat) (ha : a < 0xB0040) : s.publishSrcs.rd a = s.rd a := by
  unfold State.publishSrcs
  generalize List.range 28 = l
  induction l generalizing s with
  | nil => rfl
  | cons k l ih => exact (ih (s.publishSrc k)).trans (s.publishSrc_keeps k a ha)

theorem State.touch_publishSrcs (s : State) : State.Touch [] s s.publishSrcs :=
  (State.Touch.refl [] s).each _ _ (fun k _ h => h.publishSrc k (fun _ => id))

/-- The status of an epoch that is published now. -/
def State.epochStatus (s : State) (e : Epoch) (own : Bool × Bool × Bool) : Nat :=
  e.status + flagBit s.fus.nextLate 13 + flagBit (s.fus.nextFlags.2.1 || own.1) 15 + flagBit (s.fus.nextFlags.1 || own.2.1) 16 +
    flagBit (s.fus.nextFlags.2.2 || own.2.2) 17

/-- R117: a published epoch is the latest one, with its flags, and FUS_STAT and FUS_EPOCH show it. -/
theorem State.publishEpoch_shown (s : State) (c : FusCfg) (e : Epoch) (own : Bool × Bool × Bool) :
    (s.publishEpoch c e own).fus = { s.fus with
      next := none, nextLate := false, epoch := some { e with status := s.epochStatus e own }
      published := s.fus.published || decide (e.t = s.frame.start) } ∧
    (s.publishEpoch c e own).rd Reg.FUS_STAT = BitVec.ofNat 32 (s.epochStatus e own) ∧
    (s.publishEpoch c e own).get Fld.FUS_EPOCH_COUNT = (s.get Fld.FUS_EPOCH_COUNT + 1) % 2 ^ Fld.FUS_EPOCH_COUNT.width := by
  unfold State.publishEpoch
  extract_lets reg sat domain st ep s1 s2 s3 s4 now f5 s5 f0
  have hsrc : State.Touch [] s s1 := s.touch_publishSrcs
  have h2 : State.Touch [] s s2 := (hsrc.wr _ _).countWrap _
  have h4 : State.Touch [] s s4 := by
    show State.Touch [] s (if reg then s3.count _ else s3)
    split
    · exact (h2.wr _ _).count _
    · exact h2.wr _ _
  have b4 : s2.SameBelow s4 := by
    have b3 : s2.SameBelow s3 := (State.SameBelow.refl s2).wr _ (by decide)
    show s2.SameBelow (if reg then s3.count _ else s3)
    split
    · exact b3.count _ (by decide)
    · exact b3
  have b6 : s2.SameBelow (s5.publishOn c.channel s5.frame.count ep.bytes) :=
    (b4.trans (.of_regs rfl)).trans (s5.sameBelow_publishOn _ _ _)
  have hstat : s2.rd Reg.FUS_STAT = BitVec.ofNat 32 st :=
    (State.rd_countWrap_ne _ _ (by decide)).trans (State.rd_wr_self _ _ _)
  have hcount : s2.get Fld.FUS_EPOCH_COUNT = (s.get Fld.FUS_EPOCH_COUNT + 1) % 2 ^ Fld.FUS_EPOCH_COUNT.width := by
    have hsame : (s1.wr Reg.FUS_STAT (BitVec.ofNat 32 st)).get Fld.FUS_EPOCH_COUNT = s.get Fld.FUS_EPOCH_COUNT :=
      (State.get_wr_ne _ _ _ (by decide)).trans (State.get_of_rd _ (s.publishSrcs_keeps _ (by decide)))
    rw [← hsame]
    exact State.get_countWrap_self _ _ (by decide)
  have hfus : (s5.publishOn c.channel s5.frame.count ep.bytes).fus = s5.fus :=
    (State.Touch.refl [.mgt, .chans, .can, .eth, .ana, .port] s5).publishOn _ _ _ (fun _ => id) .fus (by decide)
  have e4 : s4.fus = s.fus := h4 .fus (by decide)
  have f4 : s4.frame = s.frame := h4 .frame (by decide)
  refine ⟨hfus.trans ?_, (b6 _ (by decide)).trans hstat, (b6.get _ (by decide)).trans hcount⟩
  show ({ s4.fus with next := none, nextLate := false, epoch := some ep, published := s4.fus.published || now } : FusSt) = _
  rw [e4, show now = decide (e.t = s.frame.start) from congrArg (fun f : FrameSt => decide (e.t = f.start)) f4]
  rfl

/-- R27, R142: the demand and the solve that follow a publication leave what it shows. -/
theorem State.epochPublish_keeps {s : State} {e : Epoch} {c : FusCfg} (hn : s.fus.next = some e) (hc : s.fusCfg = some c)
    (own : Bool × Bool × Bool) : (s.publishEpoch c e own).SameBelow (s.epochPublish own) ∧
    (s.epochPublish own).fus = (s.publishEpoch c e own).fus := by
  have heq : s.epochPublish own = (let u := s.publishEpoch c e own
      let e' := u.fus.epoch.getD e
      (if s.fus.deadline || decide (e.t ≠ s.frame.start) then u else u.demandForm e').mpcStart e') := by
    unfold State.epochPublish
    rw [hn, hc]
  rw [heq]
  extract_lets u e'
  have hlate : ∀ b : Bool, u.SameBelow (if b then u else u.demandForm e') ∧
      State.Touch [.ctl, .slv, .alc] u (if b then u else u.demandForm e') := by
    intro b
    cases b
    · exact ⟨(u.demandForm_keeps e').1, (State.Touch.refl _ u).demandForm e' (fun _ => id)⟩
    · exact ⟨.refl u, .refl _ u⟩
  obtain ⟨hb, hT⟩ := hlate (s.fus.deadline || decide (e.t ≠ s.frame.start))
  exact ⟨hb.trans (State.sameBelow_mpcStart _ e'), (hT.mpcStart e' (by decide)) .fus (by decide)⟩

/-- R117: the second clause of O46. -/
theorem epochPublish_notes {s : State} {e : Epoch} {g : FusCfg} (a b d : Bool) (hL : s.Live) (hn : s.fus.next = some e)
    (hg : s.fusCfg = some g) : ∃ t, exec (.epochPublish a b d) s = .next t ∧
    t.fus.next = none ∧ t.fus.published = (s.fus.published || decide (e.t = s.frame.start)) ∧
    (let x := s.fus.nextFlags
     let w := e.status + flagBit s.fus.nextLate 13 + flagBit (x.2.1 || a) 15 + flagBit (x.1 || b) 16 + flagBit (x.2.2 || d) 17
     t.fus.epoch = some { e with status := w } ∧ t.rd Reg.FUS_STAT = BitVec.ofNat 32 w) ∧
    t.get Fld.FUS_EPOCH_COUNT = (s.get Fld.FUS_EPOCH_COUNT + 1) % 2 ^ Fld.FUS_EPOCH_COUNT.width ∧
    State.Touch [.mgt, .chans, .fus, .ctl, .slv, .alc, .can, .eth, .ana, .port] s t := by
  obtain ⟨hb, hf⟩ := State.epochPublish_keeps hn hg (a, b, d)
  obtain ⟨hfus, hstat, hcount⟩ := s.publishEpoch_shown g e (a, b, d)
  replace hfus := hf.trans hfus
  refine ⟨(s.epochPublish (a, b, d)).mirror, congrArg Host.Outcome.next (State.running_released hL.released _),
    congrArg FusSt.next hfus, congrArg FusSt.published hfus, ⟨congrArg FusSt.epoch hfus, ?_⟩, ?_,
    ((State.Touch.refl _ s).epochPublish _ (fun _ => id)).mirror (by decide)⟩
  · rw [State.rd_mirror _ (by decide) (by decide) (by decide), hb _ (by decide)]
    exact hstat
  · rw [State.get_mirror _ _ (by decide) (by decide) (by decide), hb.get _ (by decide)]
    exact hcount

/-! The plan deadline (R28, R124, R249). -/

/-- The channels of an update: one that is still open is one of the old ones that the update did not name. -/
theorem State.mem_modChan_open {s : State} {t i : Nat} {f : Chan → Chan} (hf : ∀ c, (f c).slot = none) {k : Chan}
    (hk : k ∈ (s.modChan t i f).chans) (ho : k.slot ≠ none) : k ∈ s.chans ∧ ¬ (k.typ = t ∧ k.index = i) := by
  obtain ⟨c, hc, hkc⟩ := List.mem_map.1 hk
  by_cases h : c.typ = t ∧ c.index = i
  · rw [if_pos h] at hkc
    exact absurd (hkc ▸ hf c) ho
  · rw [if_neg h] at hkc
    exact hkc ▸ ⟨hc, h⟩

/-- R249: a channel that is still open after a marker was open before it, and is not the marker's. -/
theorem State.mem_sendMarker_open {s : State} {c k : Chan} {frame reason reruns : Nat}
    (hk : k ∈ (s.sendMarker c frame reason reruns).chans) (ho : k.slot ≠ none) :
    k ∈ s.chans ∧ ¬ (k.typ = c.typ ∧ k.index = c.index) := by
  unfold State.sendMarker at hk
  extract_lets x s1 s2 f s3 at hk
  have h3 : s3.chans = s1.chans := by
    show State.chans (if _ then _ else s2) = _
    split
    · rfl
    · rfl
  have hsend : ∀ u : State, (u.chanSend x).chans = u.chans := fun u =>
    (State.Touch.refl [.mgt, .can, .eth, .ana] u).chanSend x (fun _ => id) .chans (by decide)
  have hqueue : ∀ (u : State) (n o : Nat), (u.canQueue n o x false).chans = u.chans := fun u n o =>
    (State.Touch.refl [.can] u).canQueue n o x false (fun _ => id) .chans (by decide)
  have hk1 : k ∈ s1.chans := by
    rw [← h3]
    split at hk
    · exact hqueue s3 _ _ ▸ hk
    · exact hsend s3 ▸ hk
  exact State.mem_modChan_open (fun _ => rfl) hk1 ho

theorem State.mem_closeSlot_open {s : State} {c k : Chan} (hk : k ∈ (s.closeSlot c).chans) (ho : k.slot ≠ none) :
    k ∈ s.chans ∧ ¬ (c.slot ≠ none ∧ k.typ = c.typ ∧ k.index = c.index) := by
  unfold State.closeSlot at hk
  split at hk
  · next hc => exact ⟨hk, fun h => h.1 hc⟩
  · obtain ⟨hmem, hne⟩ := State.mem_sendMarker_open hk ho
    exact ⟨hmem, fun h => hne h.2⟩

/-- R249: the slots of a list of channels close: a channel still open after them is none of the list that was open. -/
theorem State.mem_closeAll_open {l : List Chan} {s : State} {k : Chan} (hk : k ∈ (s.each l (fun c s => s.closeSlot c)).chans)
    (ho : k.slot ≠ none) : k ∈ s.chans ∧ k ∉ l := by
  induction l generalizing s with
  | nil => exact ⟨hk, List.not_mem_nil⟩
  | cons c l ih =>
    obtain ⟨hmem, hl⟩ := ih hk
    obtain ⟨hs, hc⟩ := State.mem_closeSlot_open hmem ho
    refine ⟨hs, fun h => ?_⟩
    obtain rfl | h := List.mem_cons.1 h
    · exact hc ⟨ho, rfl, rfl⟩
    · exact hl h

/-- R249: no channel of the class that carries outputs is open after its slots close. -/
theorem State.closeSlots_shut (s : State) (cls : ChanClass) {k : Chan} (hk : k ∈ (s.closeSlots cls).chans) (hc : k.cls = cls)
    (hst : k.state = .live ∨ k.state = .closing) : k.slot = none := by
  by_contra ho
  obtain ⟨hmem, hl⟩ := State.mem_closeAll_open hk ho
  exact hl (List.mem_filter.2 ⟨hmem, by simp [hc, hst]⟩)

/-- The plan of the period is missed, or the one that has come is due. -/
def State.planNoted (s : State) : State :=
  if s.ctl.periodOn then s.modCtl (fun c => { c with periodOn := false, planMiss := true, planNew := none })
  else match s.ctl.planNew with
    | some p => s.modCtl (fun c => { c with planDue := some p, planNew := none, planMiss := false })
    | none => s

/-- R28, R124: the third clause of O46. -/
theorem planDeadline_notes {s : State} (hL : s.Live) : ∃ t, exec .planDeadline s = .next t ∧
    (∀ c ∈ t.chans, c.cls = .period → c.state = .live ∨ c.state = .closing → c.slot = none) ∧
    (s.ctl.periodOn = true → t.ctl = { s.ctl with periodOn := false, planMiss := true, planNew := none }) ∧
    (∀ p, s.ctl.periodOn = false → s.ctl.planNew = some p →
      t.ctl = { s.ctl with planDue := some p, planNew := none, planMiss := false }) ∧
    State.Touch [.mgt, .chans, .fab, .ctl, .can, .eth, .ana] s t := by
  have hctl : (s.planNoted.closeSlots .period).ctl = s.planNoted.ctl :=
    (State.Touch.refl [.mgt, .chans, .fab, .can, .eth, .ana] s.planNoted).closeSlots .period (fun _ => id) .ctl (by decide)
  refine ⟨(s.planNoted.closeSlots .period).mirror, congrArg Host.Outcome.next (State.running_released hL.released State.planDeadline),
    fun c hc hp hst => State.closeSlots_shut s.planNoted .period hc hp hst, fun h => hctl.trans ?_, fun p h hp => hctl.trans ?_,
    ((State.Touch.refl _ s).planDeadline (fun _ => id)).mirror (by decide)⟩
  · unfold State.planNoted
    rw [if_pos h]
    rfl
  · unfold State.planNoted
    rw [if_neg (by simp [h]), hp]
    rfl

/-! Losses that are noted (R124, R136, R143, R144). -/

/-- A command that changes the state of control alone. -/
theorem State.Live.notes {s : State} (hL : s.Live) {c : Instr} {f : State → State} {x : CtlSt}
    (he : exec c s = .next (s.running f)) (hf : f s = { s with ctl := x }) :
    ∃ t, exec c s = .next t ∧ t.ctl = x ∧ s.keeps t [] ∧ State.Touch [.ctl] s t := by
  have hk : s.keeps { s with ctl := x } [] := State.keeps_of_regs _ rfl
  refine ⟨_, he.trans (congrArg Host.Outcome.next (State.running_released hL.released f)), ?_⟩
  rw [hf]
  exact ⟨rfl, hk.mirror hL.inv rfl rfl (by decide), ((State.Touch.refl _ s).upd_ctl x (by decide)).mirror (by decide)⟩

/-- R143: the source in use is lost, in the modes that use one. -/
theorem srcLost_notes {s : State} (hL : s.Live) (hm : s.actMode ∈ [1, 2, 3]) : ∃ t, exec .srcLost s = .next t ∧
    t.ctl = (if s.actMode = 1 then { s.ctl with srcLost := true, levAt := none }
      else { s.ctl with srcLost := true, joyAt := none }) ∧ s.keeps t [] ∧ State.Touch [.ctl] s t := by
  refine hL.notes (f := State.srcTimeout) rfl ?_
  unfold State.srcTimeout
  rw [if_pos (by simpa using hm)]
  by_cases h : s.actMode = 1
  · simp only [h, if_true, State.modCtl]
  · simp only [h, if_false, State.modCtl]

theorem srcHoldExpired_notes {s : State} (hL : s.Live) (hs : s.ctl.srcLost = true) (hr : s.ctl.rampFrom = none) :
    ∃ t, exec .srcHoldExpired s = .next t ∧ t.ctl = { s.ctl with rampFrom := some s.now } ∧ s.keeps t [] ∧
      State.Touch [.ctl] s t := by
  refine hL.notes (f := State.srcHoldExpired) rfl ?_
  unfold State.srcHoldExpired
  rw [if_pos ⟨hs, by rw [hr]; rfl⟩]
  rfl

theorem compExitEnd_notes {s : State} (hL : s.Live) (hx : s.ctl.compExit.isSome = true) :
    ∃ t, exec .compExitEnd s = .next t ∧ t.ctl = { s.ctl with compExit := none, compHold := false } ∧ s.keeps t [] ∧
      State.Touch [.ctl] s t := by
  refine hL.notes (f := State.compExitEnd) rfl ?_
  unfold State.compExitEnd
  rw [if_pos hx]
  rfl

/-! A filtered edge (R144, R395). -/

/-- A bit of a register set to a level, and the other bits. -/
theorem State.getLsbD_setBit (s : State) (a i j : Nat) (v : Bool) (hi : i < 32) :
    ((s.setBit ⟨a, i, 1⟩ v).rd a).getLsbD j = if j = i then v else (s.rd a).getLsbD j := by
  unfold State.setBit
  rw [State.rd_set_self s ⟨a, i, 1⟩ v.toNat, bitsSet_getLsbD _ _ _ _ _ (by simpa using hi)]
  by_cases h : j = i
  · subst h
    cases v <;> simp
  · rw [if_neg (show ¬ (i ≤ j ∧ j < i + 1) by omega), if_neg h]

/-- The register of a digital input's raw level. -/
def dinRaw (i : Nat) : Nat := if i < 32 then Reg.DIN_RAW0 else Reg.DIN_RAW1
/-- The register of its filtered level. -/
def dinFlt (i : Nat) : Nat := if i < 32 then Reg.DIN_FLT0 else Reg.DIN_FLT1
/-- The register of its event enable. -/
def dinEven (i : Nat) : Nat := if i < 32 then Reg.DIN_EVEN0 else Reg.DIN_EVEN1

theorem dinAddrs_ne (i j : Nat) : dinRaw j ≠ dinFlt i ∧ dinEven j ≠ dinFlt i ∧ dinEven j ≠ dinRaw i := by
  unfold dinRaw dinFlt dinEven
  split <;> split <;> decide

theorem dinFlt_eq_iff {i j : Nat} : dinFlt j = dinFlt i ↔ (j < 32 ↔ i < 32) := by
  unfold dinFlt
  by_cases hj : j < 32 <;> by_cases hi : i < 32 <;> simp [hj, hi]

/-- R395: both levels of a digital input set. -/
def State.dinLevels (s : State) (i : Nat) (v : Bool) : State := (s.setBit ⟨dinRaw i, i % 32, 1⟩ v).setBit ⟨dinFlt i, i % 32, 1⟩ v

theorem State.dinLevels_raw (s : State) (i : Nat) (v : Bool) : ((s.dinLevels i v).rd (dinRaw i)).getLsbD (i % 32) = v := by
  unfold State.dinLevels
  rw [State.rd_setBit_ne _ _ _ (dinAddrs_ne i i).1, State.getLsbD_setBit _ _ _ _ _ (Nat.mod_lt _ (by decide)), if_pos rfl]

/-- R395: the filtered level of the input is the level, and those of the other inputs stand. -/
theorem State.dinLevels_flt (s : State) (i j : Nat) (v : Bool) (hi : i < 64) (hj : j < 64) :
    (s.dinLevels i v).dinLevel j = if j = i then v else s.dinLevel j := by
  show ((s.dinLevels i v).rd (dinFlt j)).getLsbD (j % 32) = if j = i then v else (s.rd (dinFlt j)).getLsbD (j % 32)
  have hraw : ∀ k, (s.setBit ⟨dinRaw i, i % 32, 1⟩ v).rd (dinFlt k) = s.rd (dinFlt k) :=
    fun k => State.rd_setBit_ne _ _ _ (dinAddrs_ne k i).1.symm
  unfold State.dinLevels
  by_cases hw : dinFlt j = dinFlt i
  · have hside : (j < 32 ↔ i < 32) := by
      unfold dinFlt at hw
      split at hw <;> split at hw <;> first | omega | exact absurd hw (by decide)
    rw [hw, State.getLsbD_setBit _ _ _ _ _ (Nat.mod_lt _ (by decide)), hraw]
    exact if_congr (by omega) rfl rfl
  · rw [State.rd_setBit_ne _ _ _ hw, hraw, if_neg (fun h => hw (congrArg dinFlt h))]

theorem State.keeps_dinLevels (s : State) (i : Nat) (v : Bool) :
    s.keeps (s.dinLevels i v) [Reg.DIN_RAW0, Reg.DIN_RAW1, Reg.DIN_FLT0, Reg.DIN_FLT1] := by
  refine ((s.keeps_refl _).setBit _ v ?_).setBit _ v ?_
  · show dinRaw i ∈ _
    unfold dinRaw
    split <;> decide
  · show dinFlt i ∈ _
    unfold dinFlt
    split <;> decide

/-- R395: the event of a filtered edge, where it is enabled. -/
theorem State.dinSet_shown (s : State) (i : Nat) (v : Bool) : (s.dinSet i v).regs = (s.dinLevels i v).regs ∧
    (s.dinSet i v).recd.port = s.recd.port ++ (if (s.rd (dinEven i)).getLsbD (i % 32) = true then
      [{ code := 0x6802, source := 0, data := [BitVec.ofNat 8 i, BitVec.ofNat 8 v.toNat] }] else []) := by
  have heven : (s.dinLevels i v).rd (dinEven i) = s.rd (dinEven i) := by
    unfold State.dinLevels
    rw [State.rd_setBit_ne _ _ _ (dinAddrs_ne i i).2.1, State.rd_setBit_ne _ _ _ (dinAddrs_ne i i).2.2]
  rw [← heven]
  show State.regs (if ((s.dinLevels i v).rd (dinEven i)).getLsbD (i % 32) then _ else s.dinLevels i v) = _ ∧
    (State.recd (if ((s.dinLevels i v).rd (dinEven i)).getLsbD (i % 32) then _ else s.dinLevels i v)).port = _
  split
  · exact ⟨rfl, rfl⟩
  · exact ⟨rfl, (List.append_nil _).symm⟩

/-- Thrusters are removed: no register changes and no event comes, and a removal for what an input shows (bit 5) stands. -/
structure State.Removes (s t : State) : Prop where
  regs : t.regs = s.regs
  recd : t.recd = s.recd
  cfg : t.cfg = s.cfg
  reasons : ∀ k, (s.thr k).reasons.getLsbD 5 = true → (t.thr k).reasons.getLsbD 5 = true

theorem State.Removes.refl (s : State) : s.Removes s := ⟨rfl, rfl, rfl, fun _ => id⟩

theorem State.Removes.trans {s t u : State} (h : s.Removes t) (h' : t.Removes u) : s.Removes u :=
  ⟨h'.regs.trans h.regs, h'.recd.trans h.recd, h'.cfg.trans h.cfg, fun k hk => h'.reasons k (h.reasons k hk)⟩

theorem State.Removes.each {α : Type} {f : α → State → State} (hf : ∀ x u, State.Removes u (f x u)) (l : List α) (s : State) :
    s.Removes (s.each l f) := by
  induction l generalizing s with
  | nil => exact .refl s
  | cons x l ih => exact (hf x s).trans (ih (f x s))

theorem State.zeroStaged_rest (s : State) (i : Nat) : (s.zeroStaged i).regs = s.regs ∧ (s.zeroStaged i).recd = s.recd ∧
    (s.zeroStaged i).cfg = s.cfg ∧ (s.zeroStaged i).alc = s.alc := by
  unfold State.zeroStaged
  split
  · exact ⟨rfl, rfl, rfl, rfl⟩
  · exact ⟨rfl, rfl, rfl, rfl⟩

theorem State.thr_modThr (s : State) (i k : Nat) (f : ThrSt → ThrSt) : (s.modThr i f).thr k = if k = i then f (s.thr i) else s.thr k := by
  unfold State.modThr State.thr
  by_cases h : k = i
  · rw [if_pos h, h]
    exact cellsGet_set_self _ _ _ _
  · rw [if_neg h]
    exact cellsGet_set_ne _ _ _ h

/-- R191: the reasons of a removal, one more. -/
theorem State.thrRemove_reasons (s : State) (i : Nat) (k : Nat) :
    ((s.thrRemove i 5 false).thr k).reasons = if k = i ∧ i < s.thrCount then (s.thr k).reasons ||| 32 else (s.thr k).reasons := by
  unfold State.thrRemove
  by_cases hc : s.thrCount ≤ i
  · rw [if_pos hc, if_neg (by omega)]
  · rw [if_neg hc]
    extract_lets b asks en
    show (cellsGet {} (State.alc (State.zeroStaged _ i)).thr k).reasons = _
    rw [(State.zeroStaged_rest _ i).2.2.2]
    show (State.thr (s.modThr i _) k).reasons = _
    rw [State.thr_modThr]
    by_cases hk : k = i
    · rw [if_pos hk, if_pos ⟨hk, by omega⟩, hk]
      rfl
    · rw [if_neg hk, if_neg (fun h => hk h.1)]

theorem State.removes_thrRemove (s : State) (i : Nat) : s.Removes (s.thrRemove i 5 false) := by
  have hreg : (s.thrRemove i 5 false).regs = s.regs ∧ (s.thrRemove i 5 false).recd = s.recd ∧ (s.thrRemove i 5 false).cfg = s.cfg := by
    unfold State.thrRemove
    split
    · exact ⟨rfl, rfl, rfl⟩
    · obtain ⟨h1, h2, h3, -⟩ := State.zeroStaged_rest (s.modThr i _) i
      exact ⟨h1, h2, h3⟩
  refine ⟨hreg.1, hreg.2.1, hreg.2.2, fun k hk => ?_⟩
  rw [State.thrRemove_reasons]
  split
  · rw [BitVec.getLsbD_or, hk, Bool.true_or]
  · exact hk

/-- R191, R296: a retractable thruster whose deployed input has gone off is removed. -/
def State.retract (i : Nat) (v : Bool) (k : Nat) (s : State) : State := match s.thrCfg k with
  | some c => if c.kind = .retractable ∧ c.deployed = some i ∧ !v then s.thrRemove k 5 false else s
  | none => s

theorem State.removes_retract (i : Nat) (v : Bool) (k : Nat) (s : State) : s.Removes (s.retract i v k) := by
  unfold State.retract
  split
  · split
    · exact s.removes_thrRemove k
    · exact .refl s
  · exact .refl s

theorem State.thrCfg_of_cfg {s t : State} (h : t.cfg = s.cfg) (k : Nat) : t.thrCfg k = s.thrCfg k := by
  unfold State.thrCfg State.alcCfg
  rw [h]

theorem State.thrCfg_lt {s : State} {k : Nat} {c : ThrCfg} (h : s.thrCfg k = some c) : k < s.thrCount := by
  unfold State.thrCfg at h
  unfold State.thrCount
  obtain ⟨a, ha, hk⟩ := Option.bind_eq_some_iff.1 h
  rw [ha]
  exact (List.getElem?_eq_some_iff.1 hk).1

theorem State.retract_removes {s : State} {i k : Nat} {c : ThrCfg} (hc : s.thrCfg k = some c) (hr : c.kind = .retractable)
    (hd : c.deployed = some i) : ((s.retract i false k).thr k).reasons.getLsbD 5 = true := by
  unfold State.retract
  rw [hc]
  show ((State.thr (if c.kind = .retractable ∧ c.deployed = some i ∧ _ then _ else s) k)).reasons.getLsbD 5 = true
  rw [if_pos ⟨hr, hd, rfl⟩, State.thrRemove_reasons, if_pos ⟨rfl, State.thrCfg_lt hc⟩, BitVec.getLsbD_or]
  simp

/-- The thrusters of a list are looked at in turn: one of them that is to be removed is, and stays so. -/
theorem State.each_retract_removes {l : List Nat} {s : State} {i k : Nat} {c : ThrCfg} (hk : k ∈ l) (hc : s.thrCfg k = some c)
    (hr : c.kind = .retractable) (hd : c.deployed = some i) :
    ((s.each l (State.retract i false)).thr k).reasons.getLsbD 5 = true := by
  induction l generalizing s with
  | nil => exact absurd hk List.not_mem_nil
  | cons x l ih =>
    obtain rfl | hk := List.mem_cons.1 hk
    · exact (State.Removes.each (State.removes_retract i false) l _).reasons k (State.retract_removes hc hr hd)
    · exact ih (s := s.retract i false x) hk ((State.thrCfg_of_cfg (State.removes_retract i false x s).cfg k).trans hc)

/-- R144: the part leaves its compensation where the edge ends the engagement. -/
def State.disengage (s : State) (was : Bool) : State :=
  if was ∧ ¬ s.engaged ∧ s.ctl.compHold ∧ s.ctl.compExit.isNone then s.compRamp else s

theorem State.removes_disengage (s : State) (was : Bool) : s.Removes (s.disengage was) := by
  unfold State.disengage
  split
  · exact ⟨rfl, rfl, rfl, fun _ => id⟩
  · exact .refl s

theorem State.dinEdge_eq (s : State) (i : Nat) (v : Bool) : s.dinEdge i v =
    ((s.dinSet i v).disengage s.engaged).each (List.range ((s.dinSet i v).disengage s.engaged).thrCount) (State.retract i v) := rfl

/-- R144, R191, R395: the last clause of O46. -/
theorem dinEdge_notes {s : State} (i : Fin 64) (v : Bool) (hL : s.Live) : ∃ t, exec (.dinEdge i v) s = .next t ∧
    (t.rd (if i < 32 then Reg.DIN_RAW0 else Reg.DIN_RAW1)).getLsbD (i % 32) = v ∧ t.dinLevel i = v ∧
    (∀ j < 64, j ≠ i.val → t.dinLevel j = s.dinLevel j) ∧
    t.recd.port = s.recd.port ++ (if (s.rd (if i < 32 then Reg.DIN_EVEN0 else Reg.DIN_EVEN1)).getLsbD (i % 32) = true then
      [{ code := 0x6802, source := 0, data := [BitVec.ofNat 8 i, BitVec.ofNat 8 v.toNat] }] else []) ∧
    (∀ k c, s.thrCfg k = some c → c.kind = .retractable → c.deployed = some i.val → v = false → (t.thr k).reasons.getLsbD 5 = true) ∧
    s.keeps t [Reg.DIN_RAW0, Reg.DIN_RAW1, Reg.DIN_FLT0, Reg.DIN_FLT1] ∧ State.Touch [.chans, .ctl, .alc, .port] s t := by
  obtain ⟨hregs, hport⟩ := s.dinSet_shown i v
  have hdis := (s.dinSet i v).removes_disengage s.engaged
  have hrem : (s.dinSet i v).Removes (s.dinEdge i v) := by
    rw [State.dinEdge_eq]
    exact hdis.trans (.each (State.removes_retract i v) _ _)
  have hT : State.Touch [.chans, .ctl, .alc, .port] s (s.dinEdge i v) := (State.Touch.refl _ s).dinEdge _ _ (fun _ => id)
  have hr : (s.dinEdge i v).regs = (s.dinLevels i v).regs := hrem.regs.trans hregs
  have hraw : dinRaw i ≠ Reg.MGT_STAT ∧ dinRaw i ≠ Reg.SAF_STAT ∧ dinRaw i ≠ Reg.IMG_STAT := by
    unfold dinRaw
    split <;> decide
  have hlevel : ∀ j < 64, (s.dinEdge i v).mirror.dinLevel j = if j = i.val then v else s.dinLevel j := fun j hj => by
    have hflt : dinFlt j ≠ Reg.MGT_STAT ∧ dinFlt j ≠ Reg.SAF_STAT ∧ dinFlt j ≠ Reg.IMG_STAT := by
      unfold dinFlt
      split <;> decide
    rw [← s.dinLevels_flt i j v i.isLt hj]
    show ((s.dinEdge i v).mirror.rd (dinFlt j)).getLsbD (j % 32) = ((s.dinLevels i v).rd (dinFlt j)).getLsbD (j % 32)
    rw [State.rd_mirror _ hflt.1 hflt.2.1 hflt.2.2, State.rd_of_regs hr]
  refine ⟨(s.dinEdge i v).mirror, congrArg Host.Outcome.next (State.running_released hL.released _), ?_,
    (hlevel i i.isLt).trans (if_pos rfl), fun j hj hne => (hlevel j hj).trans (if_neg hne), ?_, fun k c hc hk hd hv => ?_,
    (State.keeps.of_regs (s.keeps_dinLevels i v) hr).mirror hL.inv (hT .mgt (by decide)) (hT .img (by decide)) (by decide),
    hT.mirror (by decide)⟩
  · show ((s.dinEdge i v).mirror.rd (dinRaw i)).getLsbD (i % 32) = v
    rw [State.rd_mirror _ hraw.1 hraw.2.1 hraw.2.2, State.rd_of_regs hr]
    exact s.dinLevels_raw i v
  · exact (congrArg RecSt.port hrem.recd).trans hport
  · subst hv
    have hcfg : ((s.dinSet i false).disengage s.engaged).thrCfg k = some c :=
      (State.thrCfg_of_cfg (hdis.cfg.trans (((State.Touch.refl [.port] s).dinSet i false (fun _ => id)) .cfg (by decide)).1) k).trans hc
    show ((s.dinEdge i false).thr k).reasons.getLsbD 5 = true
    rw [State.dinEdge_eq]
    exact State.each_retract_removes (List.mem_range.2 (State.thrCfg_lt hcfg)) hcfg hk hd

/-- Settles O46: the clauses one by one. -/
theorem controlNotesWhatIsLateOrLost : Obligations.ControlNotesWhatIsLateOrLost := by
  unfold Obligations.ControlNotesWhatIsLateOrLost
  exact ⟨fun _ hL hp hd hs => fusionDeadline_notes hL hp hd hs, fun _ _ _ a b d hL hn hg => epochPublish_notes a b d hL hn hg,
    fun _ hL => planDeadline_notes hL, fun _ hL => hL.notes (f := State.pmsTimeout) rfl rfl,
    fun _ hL => hL.notes (f := State.targetLost) rfl rfl, fun _ hL hm => srcLost_notes hL hm,
    fun _ hL hs hr => srcHoldExpired_notes hL hs hr, fun _ hL hx => compExitEnd_notes hL hx, fun _ i v hL => dinEdge_notes i v hL⟩

end Sys2Proof.Machine
end

section
/-!
Faulty units and spares (R9, R10, R228 to R231, R235): what a fence leaves at the unit, at its cluster's bank ports and in the fault
registers; where a failed run goes on; and what its abandonment ends.  Settles O36.
-/
namespace Sys2Proof.Machine

/-! The arbiter of a port. -/

theorem portIdx_le (p : ArbPort) : portIdx p ≤ 10 := match p with
  | .bank _ _ => (by decide : 10 ≤ 10)
  | .egress _ => (by decide : 6 ≤ 10)

/-- From `s` to `t` no more of the fabric than its arbiters has changed, and no event has come. -/
structure State.ArbOnly (s t : State) : Prop where
  fab : t.fab = { s.fab with arb := t.fab.arb }
  recd : t.recd = s.recd

theorem State.ArbOnly.trans {s t u : State} (h : s.ArbOnly t) (h' : t.ArbOnly u) : s.ArbOnly u :=
  ⟨h'.fab.trans (by rw [h.fab]), h'.recd.trans h.recd⟩

/-- From `s` to `t` no more than the status register of a port and the arbiters beside their registers have changed. -/
structure State.AtPort (p : ArbPort) (s t : State) : Prop where
  keeps : s.keeps t [portStat p]
  arb : s.ArbOnly t

theorem State.AtPort.refl (p : ArbPort) (s : State) : s.AtPort p s := ⟨s.keeps_refl _, rfl, rfl⟩

theorem State.AtPort.trans {p : ArbPort} {s t u : State} (h : s.AtPort p t) (h' : t.AtPort p u) : s.AtPort p u :=
  ⟨h.keeps.trans h'.keeps, h.arb.trans h'.arb⟩

theorem State.AtPort.set {p : ArbPort} {s t : State} (h : s.AtPort p t) (lo n v : Nat) : s.AtPort p (t.set ⟨portStat p, lo, n⟩ v) :=
  ⟨h.keeps.set _ _ (List.mem_singleton.2 rfl), h.arb.fab, h.arb.recd⟩

theorem State.atPort_modArb (s : State) (p : ArbPort) (f : ArbSt → ArbSt) : s.AtPort p (s.modArb p f) :=
  ⟨State.keeps_of_regs _ rfl, rfl, rfl⟩

theorem State.atPort_setLosts (s : State) (p : ArbPort) (l : List Nat) (n : State → Nat → Nat) :
    s.AtPort p (s.each l (fun i s => s.setLost p i (n s i))) ∧ (s.each l (fun i s => s.setLost p i (n s i))).regs = s.regs := by
  induction l generalizing s with
  | nil => exact ⟨.refl p s, rfl⟩
  | cons i l ih =>
    obtain ⟨hp, hr⟩ := ih (s.setLost p i (n s i))
    exact ⟨(s.atPort_modArb p _).trans hp, hr⟩

/-- R50: a decision changes the owner alone, in the port's register. -/
theorem State.arbDecide_eq (s : State) (p : ArbPort) : s.arbDecide p = s ∨
    ∃ u w, s.arbDecide p = u.set (portOwner p) w ∧ s.AtPort p u ∧ u.regs = s.regs := by
  unfold State.arbDecide
  split
  · exact .inl rfl
  · extract_lets waiting grants
    split
    · exact .inl rfl
    · next w _ =>
      obtain ⟨hp, hr⟩ := s.atPort_setLosts p waiting (fun s i => if i = w then 0 else s.lostOf p i + 1)
      exact .inr ⟨_, w, rfl, hp.trans (State.atPort_modArb _ p _), hr⟩

theorem State.atPort_arbDecide (s : State) (p : ArbPort) : s.AtPort p (s.arbDecide p) := by
  obtain h | ⟨u, w, h, hp, -⟩ := s.arbDecide_eq p
  · rw [h]
    exact .refl p s
  · rw [h]
    exact hp.set _ _ _

theorem State.atPort_arbDrop (s : State) (p : ArbPort) (i : Nat) : s.AtPort p (s.arbDrop p i) := by
  unfold State.arbDrop State.arbEnd
  split
  · extract_lets o
    split
    · exact .refl p s
    · exact ((((State.AtPort.refl p s).set _ _ _).trans (State.atPort_modArb _ p _)).set _ _ _).trans (State.atPort_arbDecide _ p)
  · exact ((State.AtPort.refl p s).set _ _ _).trans (State.atPort_modArb _ p _)

theorem State.atPort_arbMask (s : State) (p : ArbPort) (i : Nat) : s.AtPort p (s.arbMask p i) :=
  ((State.AtPort.refl p s).set _ _ _).trans (State.atPort_arbDrop _ p i)

/-- R54: the withdrawal of a requester's request moves no mask of the port. -/
theorem State.get_arbDrop_mask (s : State) {p : ArbPort} {i : Nat} (hi : i < portIdx p) (j : Nat) :
    (s.arbDrop p i).get (portMask p j) = s.get (portMask p j) := by
  have hlt := portIdx_le p
  have hreq : ∀ (u : State) (v : Nat), (u.set (portReq p i) v).get (portMask p j) = u.get (portMask p j) := fun u v =>
    State.get_set_disjoint u (portReq p i) (portMask p j) v (show 4 + i + 1 ≤ 32 by omega) (show 1 ≤ 32 by decide)
      (.inl (show 4 + i + 1 ≤ 4 + portIdx p + j by omega))
  have hown : ∀ (u : State) (v : Nat), (u.set (portOwner p) v).get (portMask p j) = u.get (portMask p j) := fun u v =>
    State.get_set_disjoint u (portOwner p) (portMask p j) v (show 0 + 4 ≤ 32 by decide) (show 1 ≤ 32 by decide)
      (.inl (show 0 + 4 ≤ 4 + portIdx p + j by omega))
  have hdec : ∀ u : State, (u.arbDecide p).get (portMask p j) = u.get (portMask p j) := fun u => by
    obtain h | ⟨w, v, h, -, hr⟩ := u.arbDecide_eq p
    · rw [h]
    · rw [h, hown, State.get_of_regs hr]
  unfold State.arbDrop State.arbEnd
  split
  · next ho =>
    extract_lets o
    split
    · rfl
    · rw [hdec, hown]
      show ((s.set (portReq p (s.get (portOwner p))) 0).get (portMask p j)) = _
      rw [ho, hreq]
  · exact hreq s 0

theorem State.get_arbMask_self (s : State) {p : ArbPort} {i : Nat} (hi : i < portIdx p) : (s.arbMask p i).get (portMask p i) = 1 := by
  have hlt := portIdx_le p
  unfold State.arbMask
  rw [State.get_arbDrop_mask _ hi]
  exact State.get_set_self s (portMask p i) 1 (show 4 + portIdx p + i + 1 ≤ 32 by omega)

/-! The bank ports of a cluster. -/

theorem mem_bankPorts {q : Fin 32} {p : ArbPort} : p ∈ bankPorts q ↔ ∃ b : Fin 8, p = .bank q b := by
  have hq : Fin.ofNat 32 q.val = q := Fin.ext (Nat.mod_eq_of_lt q.isLt)
  unfold bankPorts
  rw [hq, List.mem_map]
  constructor
  · rintro ⟨b, -, rfl⟩
    exact ⟨_, rfl⟩
  · rintro ⟨b, rfl⟩
    exact ⟨b, List.mem_range.2 b.isLt, by rw [show Fin.ofNat 8 b.val = b from Fin.ext (Nat.mod_eq_of_lt b.isLt)]⟩

theorem portStat_bank_ne (q : Fin 32) {b c : Fin 8} (h : b ≠ c) : portStat (.bank q b) ≠ portStat (.bank q c) := by
  have hne : b.val ≠ c.val := fun e => h (Fin.ext e)
  show Reg.clusterBase q + 0x10C + 0x10 * b.val ≠ Reg.clusterBase q + 0x10C + 0x10 * c.val
  omega

/-- The status registers of the bank ports of a cluster. -/
def bankStats (q : Nat) : List Nat := (List.range 8).map (Reg.BANKARB_STAT q)

theorem portStat_mem_bankStats (q : Fin 32) (b : Fin 8) : portStat (.bank q b) ∈ bankStats q :=
  List.mem_map.2 ⟨b, List.mem_range.2 b.isLt, rfl⟩

/-- An operation of each port of a list, all of one cluster, that leaves the mask of a requester at a value. -/
theorem State.eachPort_shown {q : Fin 32} {i v : Nat} {f : ArbPort → State → State} (hf : ∀ p u, State.AtPort p u (f p u))
    (hm : ∀ (b : Fin 8) (u : State), (f (.bank q b) u).get (portMask (.bank q b) i) = v) (l : List ArbPort)
    (hl : ∀ p ∈ l, ∃ b, p = .bank q b) (s : State) : s.keeps (s.each l f) (bankStats q) ∧ s.ArbOnly (s.each l f) ∧
    ∀ b : Fin 8, ArbPort.bank q b ∈ l ∨ s.get (portMask (.bank q b) i) = v → (s.each l f).get (portMask (.bank q b) i) = v := by
  induction l generalizing s with
  | nil => exact ⟨s.keeps_refl _, ⟨rfl, rfl⟩, fun b hb => hb.resolve_left List.not_mem_nil⟩
  | cons p l ih =>
    obtain ⟨c, rfl⟩ := hl p List.mem_cons_self
    obtain ⟨hk, ha, hmask⟩ := ih (fun p hp => hl p (List.mem_cons_of_mem _ hp)) (f (.bank q c) s)
    have hport := hf (.bank q c) s
    refine ⟨(hport.keeps.mono fun a ha => ?_).trans hk, hport.arb.trans ha, fun b hb => hmask b ?_⟩
    · rw [List.mem_singleton.1 ha]
      exact portStat_mem_bankStats q c
    · by_cases hbc : b = c
      · subst hbc
        exact .inr (hm b s)
      · obtain hb | hb := hb
        · obtain h | h := List.mem_cons.1 hb
          · exact absurd (ArbPort.bank.inj h).2 hbc
          · exact .inl h
        · refine .inr ((State.get_of_rd _ (hport.keeps _ ?_)).trans hb)
          rw [List.mem_singleton]
          exact portStat_bank_ne q hbc

/-- R10, R54: a requester masked at every bank port of a cluster. -/
theorem State.maskBanks_shown (s : State) (q : Fin 32) {i : Nat} (hi : i < 10) : s.keeps (s.maskBanks q i) (bankStats q) ∧
    s.ArbOnly (s.maskBanks q i) ∧ ∀ b : Fin 8, (s.maskBanks q i).get (portMask (.bank q b) i) = 1 := by
  obtain ⟨hk, ha, hm⟩ := State.eachPort_shown (q := q) (i := i) (v := 1) (f := fun p s => s.arbMask p i)
    (fun p u => u.atPort_arbMask p i) (fun b u => u.get_arbMask_self hi) (bankPorts q) (fun p hp => mem_bankPorts.1 hp) s
  exact ⟨hk, ha, fun b => hm b (.inl (mem_bankPorts.2 ⟨b, rfl⟩))⟩

/-- R10, R54: a requester unmasked at every bank port of a cluster. -/
theorem State.unmaskBanks_shown (s : State) (q : Fin 32) {i : Nat} (hi : i < 10) : s.keeps (s.unmaskBanks q i) (bankStats q) ∧
    s.ArbOnly (s.unmaskBanks q i) ∧ ∀ b : Fin 8, (s.unmaskBanks q i).get (portMask (.bank q b) i) = 0 := by
  obtain ⟨hk, ha, hm⟩ := State.eachPort_shown (q := q) (i := i) (v := 0) (f := fun p s => s.arbUnmask p i)
    (fun p u => (State.AtPort.refl p u).set _ _ _)
    (fun b u => u.get_set_self (portMask (.bank q b) i) 0 (show 4 + 10 + i + 1 ≤ 32 by omega))
    (bankPorts q) (fun p hp => mem_bankPorts.1 hp) s
  exact ⟨hk, ha, fun b => hm b (.inl (mem_bankPorts.2 ⟨b, rfl⟩))⟩

/-! A fence (R10, R228). -/

/-- The registers in which a fault and the run that goes on after it are counted and recorded. -/
def faultRegs (q : Nat) : List Nat :=
  [Reg.FLT_LAST, Reg.FLT_LASTT, Reg.FLT_RERUN, Reg.FLT_SPARE, Reg.CLU_RERUN q, Reg.RGN_EGRDUP (q / 4)]

/-- The registers that show a unit, its masks at the bank ports, its region's isolation and the count of fenced units. -/
def shownRegs (q : Nat) : List Nat := [Reg.CLU_UNITSTAT q, Reg.RGN_PLACE (q / 4), Reg.FLT_STAT] ++ bankStats q

theorem mem_shownRegs (q : Fin 32) : Reg.CLU_UNITSTAT q ∈ shownRegs q ∧ Reg.RGN_PLACE (q / 4) ∈ shownRegs q ∧
    Reg.FLT_STAT ∈ shownRegs q ∧ ∀ b : Fin 8, portStat (.bank q b) ∈ shownRegs q :=
  ⟨List.mem_cons_self, List.mem_cons_of_mem _ List.mem_cons_self, List.mem_cons_of_mem _ (List.mem_cons_of_mem _ List.mem_cons_self),
    fun b => List.mem_append_right _ (portStat_mem_bankStats q b)⟩

/-- The registers of the fabric lie above those of Umber. -/
theorem fabric_high (q g b : Nat) : 0x10000000 ≤ Reg.CLU_UNITSTAT q ∧ 0x10000000 ≤ Reg.CLU_RERUN q ∧
    0x10000000 ≤ Reg.BANKARB_STAT q b ∧ 0x10000000 ≤ Reg.RGN_PLACE g ∧ 0x10000000 ≤ Reg.RGN_EGRDUP g := by
  simp only [Reg.CLU_UNITSTAT, Reg.CLU_RERUN, Reg.BANKARB_STAT, Reg.RGN_PLACE, Reg.RGN_EGRDUP, Reg.clusterBase, Reg.regionBase]
  omega

theorem shownRegs_apart (q : Fin 32) {a : Nat} (ha : a ∈ shownRegs q) : a ∉ faultRegs q ∧ a ≠ Reg.MGT_STAT ∧ a ≠ Reg.SAF_STAT ∧
    a ≠ Reg.IMG_STAT := by
  have hq := q.isLt
  simp only [shownRegs, bankStats, List.cons_append, List.nil_append, List.mem_cons, List.mem_map, List.mem_range] at ha
  simp only [faultRegs, List.mem_cons, List.not_mem_nil, or_false, not_or]
  simp only [Reg.FLT_LAST, Reg.FLT_LASTT, Reg.FLT_RERUN, Reg.FLT_SPARE, Reg.FLT_STAT, Reg.CLU_RERUN, Reg.CLU_UNITSTAT,
    Reg.BANKARB_STAT, Reg.RGN_EGRDUP, Reg.RGN_PLACE, Reg.MGT_STAT, Reg.SAF_STAT, Reg.IMG_STAT, Reg.clusterBase, Reg.regionBase] at ha ⊢
  obtain rfl | rfl | rfl | ⟨b, hb, rfl⟩ := ha
  · omega
  · omega
  · omega
  · omega

/-- Unit `u` of cluster `q` is fenced, and the rest of the cluster stands. -/
structure State.Fenced (q : Fin 32) (u : Fin 8) (s t : State) : Prop where
  unit : t.unitState q u = 3
  others : ∀ v < 8, v ≠ u.val → t.unitState q v = s.unitState q v
  faulted : t.get (Fld.CLU_UNITSTAT_FAULTED q) = s.get (Fld.CLU_UNITSTAT_FAULTED q)
  retired : t.get (Fld.CLU_UNITSTAT_RETIRED q) = s.get (Fld.CLU_UNITSTAT_RETIRED q)
  region : t.rd (Reg.RGN_PLACE (q / 4)) = s.rd (Reg.RGN_PLACE (q / 4))
  masks : ∀ b : Fin 8, t.get (portMask (.bank q b) u) = 1
  count : t.get Fld.FLT_STAT_FENCED = (s.get Fld.FLT_STAT_FENCED + 1) % 512

/-- A state that shows the same is fenced too. -/
theorem State.Fenced.of_shown {q : Fin 32} {u : Fin 8} {s t t' : State} (h : s.Fenced q u t)
    (hk : ∀ a ∈ shownRegs q, t'.rd a = t.rd a) : s.Fenced q u t' := by
  obtain ⟨hunit, hplace, hstat, hbank⟩ := mem_shownRegs q
  have hu := hk _ hunit
  exact ⟨(State.get_of_rd _ hu).trans h.unit, fun v hv hne => (State.get_of_rd _ hu).trans (h.others v hv hne),
    (State.get_of_rd _ hu).trans h.faulted, (State.get_of_rd _ hu).trans h.retired, (hk _ hplace).trans h.region,
    fun b => (State.get_of_rd _ (hk _ (hbank b))).trans (h.masks b), (State.get_of_rd _ (hk _ hstat)).trans h.count⟩

/-- What is counted and recorded after a fence leaves it. -/
theorem State.Fenced.later {q : Fin 32} {u : Fin 8} {s t t' : State} (h : s.Fenced q u t) (hk : t.keeps t' (faultRegs q)) :
    s.Fenced q u t' := h.of_shown fun a ha => hk a (shownRegs_apart q ha).1

theorem State.Fenced.mirror {q : Fin 32} {u : Fin 8} {s t : State} (h : s.Fenced q u t) : s.Fenced q u t.mirror :=
  h.of_shown fun a ha => by
    obtain ⟨-, h1, h2, h3⟩ := shownRegs_apart q ha
    exact t.rd_mirror h1 h2 h3

/-- The registers that a fence changes. -/
def fenceRegs (q : Nat) : List Nat := [Reg.FLT_STAT, Reg.CLU_UNITSTAT q] ++ bankStats q

theorem State.keeps_fence (s : State) (q : Fin 32) (u : Fin 8) : s.keeps (s.fence q u) (fenceRegs q) :=
  (((s.keeps_refl _).set (Fld.CLU_UNITSTAT_STATE_U q u) 3 (List.mem_cons_of_mem _ List.mem_cons_self)).set Fld.FLT_STAT_FENCED _
    List.mem_cons_self).trans
    ((State.maskBanks_shown _ q (by omega)).1.mono fun a ha => (List.mem_append_right _ ha : a ∈ fenceRegs q))

theorem State.fence_arb (s : State) (q : Fin 32) (u : Fin 8) : s.ArbOnly (s.fence q u) := by
  obtain ⟨-, ⟨hf, hr⟩, -⟩ := State.maskBanks_shown ((s.setUnit q u 3).set Fld.FLT_STAT_FENCED (s.get Fld.FLT_STAT_FENCED + 1)) q
    (i := u) (by omega)
  exact ⟨hf, hr⟩

theorem unitStat_apart (q : Nat) : Reg.CLU_UNITSTAT q ≠ Reg.FLT_STAT ∧ Reg.CLU_UNITSTAT q ≠ Reg.CLU_RERUN q ∧
    Reg.RGN_PLACE (q / 4) ≠ Reg.FLT_STAT ∧ Reg.RGN_PLACE (q / 4) ≠ Reg.CLU_UNITSTAT q := by
  simp only [Reg.FLT_STAT, Reg.CLU_RERUN, Reg.CLU_UNITSTAT, Reg.RGN_PLACE, Reg.clusterBase, Reg.regionBase]
  omega

theorem bankStats_apart (q : Fin 32) : Reg.CLU_UNITSTAT q ∉ bankStats q ∧ Reg.RGN_PLACE (q / 4) ∉ bankStats q ∧
    Reg.FLT_STAT ∉ bankStats q := by
  have hq := q.isLt
  simp only [bankStats, List.mem_map, List.mem_range, not_exists, not_and, Reg.FLT_STAT, Reg.CLU_UNITSTAT, Reg.BANKARB_STAT,
    Reg.RGN_PLACE, Reg.clusterBase, Reg.regionBase]
  refine ⟨fun b hb => ?_, fun b hb => ?_, fun b hb => ?_⟩
  · omega
  · omega
  · omega

theorem State.fenced_fence (s : State) (q : Fin 32) (u : Fin 8) : s.Fenced q u (s.fence q u) := by
  obtain ⟨hunit, hplace, hstat⟩ := bankStats_apart q
  obtain ⟨hk, -, hm⟩ := State.maskBanks_shown ((s.setUnit q u 3).set Fld.FLT_STAT_FENCED (s.get Fld.FLT_STAT_FENCED + 1)) q
    (i := u) (by omega)
  obtain ⟨hne, -, hplace', hplace''⟩ := unitStat_apart q
  have hset : ∀ f : Field, f.addr = Reg.CLU_UNITSTAT q → (s.fence q u).get f = (s.setUnit q u 3).get f := fun f hf =>
    (State.get_of_rd f (hk _ (hf ▸ hunit))).trans (State.get_set_ne _ Fld.FLT_STAT_FENCED f _ (hf ▸ hne))
  have hdis : ∀ f : Field, f.addr = Reg.CLU_UNITSTAT q → f.width ≤ 32 → (2 * u.val + 2 ≤ f.lo ∨ f.lo + f.width ≤ 2 * u.val) →
      (s.fence q u).get f = s.get f := fun f hf hw hd => (hset f hf).trans
    (State.get_set_disjoint s (Fld.CLU_UNITSTAT_STATE_U q u) f 3 (show 0 + 2 * u.val + 2 ≤ 32 by omega) hw
      (hd.imp (fun h => show 0 + 2 * u.val + 2 ≤ f.lo by omega) (fun h => show f.lo + f.width ≤ 0 + 2 * u.val by omega)))
  refine ⟨(hset _ rfl).trans (State.get_set_self s _ 3 (show 0 + 2 * u.val + 2 ≤ 32 by omega)), fun v hv hvu => ?_, ?_, ?_, ?_, hm, ?_⟩
  · exact hdis (Fld.CLU_UNITSTAT_STATE_U q v) rfl (show 2 ≤ 32 by decide)
      (show 2 * u.val + 2 ≤ 0 + 2 * v ∨ 0 + 2 * v + 2 ≤ 2 * u.val by omega)
  · exact hdis (Fld.CLU_UNITSTAT_FAULTED q) rfl (show 1 ≤ 32 by decide) (.inl (show 2 * u.val + 2 ≤ 19 by omega))
  · exact hdis (Fld.CLU_UNITSTAT_RETIRED q) rfl (show 8 ≤ 32 by decide) (.inl (show 2 * u.val + 2 ≤ 20 by omega))
  · refine (hk _ hplace).trans ?_
    rw [State.rd_set_ne _ _ _ hplace']
    exact State.rd_set_ne s (Fld.CLU_UNITSTAT_STATE_U q u) 3 hplace''
  · exact (State.get_of_rd _ (hk _ hstat)).trans (State.get_set_self _ Fld.FLT_STAT_FENCED _ (by decide))

/-- R228: FLT_LAST and FLT_LASTT take the fault. -/
theorem State.keeps_faultRecord (s : State) (k p : Nat) (x : Option Nat) (c : Nat) :
    s.keeps (s.faultRecord k p x c) [Reg.FLT_LAST, Reg.FLT_LASTT] :=
  ((s.keeps_refl _).wr Reg.FLT_LAST _ (by decide)).wr Reg.FLT_LASTT _ (by decide)

theorem State.faultRecord_shown (s : State) (k p : Nat) (x : Option Nat) (c : Nat) :
    (s.faultRecord k p x c).rd Reg.FLT_LAST =
      BitVec.ofNat 32 (k + 16 * (p % 256) + 2 ^ 12 * x.getD 0 + (if x.isSome then 2 ^ 24 else 0) + 2 ^ 25 * c) ∧
    (s.faultRecord k p x c).rd Reg.FLT_LASTT = s.rd Reg.TB_NS :=
  ⟨(State.rd_wr_ne _ _ (by decide)).trans (State.rd_wr_self _ _ _), State.rd_wr_self _ _ _⟩

/-! A run on a unit, and the unit it goes on at. -/

/-- The run on a unit is one of the fabric's. -/
theorem State.instOn_spec {s : State} {q u : Nat} {x : TaskInst} (h : s.instOn q u = some x) :
    x ∈ s.fab.insts ∧ x.cluster = q ∧ x.unit = u := by
  refine ⟨List.mem_of_find?_eq_some h, ?_⟩
  have hu := List.find?_some h
  unfold holdsUnit at hu
  split at hu
  · exact of_decide_eq_true hu
  · exact of_decide_eq_true hu
  · exact of_decide_eq_true hu
  · exact of_decide_eq_true hu
  · exact absurd hu Bool.false_ne_true
  · exact absurd hu Bool.false_ne_true
  · exact absurd hu Bool.false_ne_true

/-- A run that is changed in place. -/
theorem State.mem_modTask {s : State} {x : TaskInst} (hx : x ∈ s.fab.insts) (f : TaskInst → TaskInst) :
    f x ∈ (s.modTask x.task x.number f).fab.insts := List.mem_map.2 ⟨x, hx, if_pos ⟨rfl, rfl⟩⟩

theorem State.taskDef_task {s : State} {k : Nat} {d : TaskDef} (h : s.taskDef k = some d) : tdTask d = k := by
  have hd := List.find?_some (p := fun d => decide (tdTask d = k)) h
  exact of_decide_eq_true hd

theorem State.taskDef_of_cfg {s t : State} (h : t.cfg = s.cfg) (k : Nat) : t.taskDef k = s.taskDef k := by
  unfold State.taskDef State.tasks
  rw [h]

/-- A unit that is free is none that runs or is fenced. -/
theorem State.freeUnit_spec {s : State} {q v : Nat} (h : s.freeUnit q = some v) : s.unitState q v = 0 ∧ v < 8 :=
  ⟨of_decide_eq_true (List.find?_some (p := fun u => decide (s.unitState q u = 0)) h), List.mem_range.1 (List.mem_of_find?_eq_some h)⟩

/-- The fence of a unit that was not free leaves the free unit of its cluster. -/
theorem State.Fenced.freeUnit {q : Fin 32} {u : Fin 8} {s t : State} (h : s.Fenced q u t) (hu : s.unitState q u ≠ 0) :
    t.freeUnit q = s.freeUnit q := by
  refine List.find?_congr fun v hv => decide_eq_decide.2 ?_
  by_cases hvu : v = u.val
  · rw [hvu, h.unit]
    exact ⟨fun e => absurd e (by decide), fun e => absurd e hu⟩
  · rw [h.others v (List.mem_range.1 hv) hvu]

theorem State.isolated_of_rd {s t : State} {g : Nat} (h : t.rd (Reg.RGN_PLACE g) = s.rd (Reg.RGN_PLACE g)) :
    t.isolated g = s.isolated g := by
  unfold State.isolated
  rw [State.get_of_rd (Fld.RGN_PLACE_ISOLATED g) h]

/-- The fence of a unit leaves its cluster able to run a task while another unit is not fenced. -/
theorem State.Fenced.canRun {q : Fin 32} {u : Fin 8} {s t : State} (h : s.Fenced q u t) {d : TaskDef} (hc : s.canRun q d = true) {v : Nat}
    (hv : v < 8) (hu : t.unitState q v ≠ 3) : t.canRun q d = true := by
  unfold State.canRun at hc ⊢
  rw [h.faulted, h.retired, State.isolated_of_rd h.region, State.get_of_rd (Fld.RGN_PLACE_MOVED_OUT (q / 4)) h.region]
  simp only [Bool.and_eq_true] at hc ⊢
  obtain ⟨⟨⟨⟨hf, -⟩, hb⟩, hi⟩, hm⟩ := hc
  exact ⟨⟨⟨⟨hf, List.any_eq_true.2 ⟨v, List.mem_range.2 hv, decide_eq_true hu⟩⟩, hb⟩, hi⟩, hm⟩

/-- A cluster with a unit that is not fenced. -/
theorem State.not_allFenced {s : State} {q v : Nat} (hv : v < 8) (h : s.unitState q v ≠ 3) :
    (List.range 8).all (fun u => decide (s.unitState q u = 3)) = false := by
  rw [List.all_eq_false]
  exact ⟨v, List.mem_range.2 hv, by simpa using h⟩

/-- R13, R236: a failed run whose cluster can run its task and has a free unit goes on there. -/
theorem State.redispatch_free {s : State} {d : TaskDef} {x : TaskInst} {q v : Nat} (hp : s.placeOf x.task = some q)
    (hc : s.canRun q d = true) (hf : s.freeUnit q = some v) : s.redispatch d x = s.startRerun d x q v := by
  unfold State.redispatch
  extract_lets cur all
  have hall : all.find? (fun q => (s.freeUnit q).isSome || (s.spareUnit q).isSome) = some q := by
    show List.find? _ (List.filter (fun q => s.canRun q d) (cur.toList ++ (tdSib d).toList ++ [tdAlt d])) = some q
    rw [show cur = some q from hp]
    show List.find? _ (List.filter (fun q => s.canRun q d) (q :: ((tdSib d).toList ++ [tdAlt d]))) = some q
    rw [List.filter_cons_of_pos (p := fun q => s.canRun q d) hc, List.find?_cons_of_pos]
    simp [hf]
  rw [hall]
  show (match s.freeUnit q, s.spareUnit q with
    | some u, _ => s.startRerun d x q u | none, some u => s.callSpare d x q u | none, none => s) = _
  rw [hf]

/-- R234: a run as it starts again on a unit. -/
def atUnit (q u : Nat) (x : TaskInst) : TaskInst := { x with phase := .loading, cluster := q, unit := u, op := 0, acc := none }

/-- R234: a run that starts again where its task is placed. -/
theorem State.startRerun_placed {s : State} {d : TaskDef} {x : TaskInst} {q u : Nat} (hp : s.placeOf x.task = some q) :
    s.startRerun d x q u = ((s.modTask x.task x.number (atUnit q u)).setUnit q u 1).count (Fld.CLU_RERUN_RERUNS q) := by
  unfold State.startRerun
  rw [if_pos hp]
  rfl

/-- The unit on which a run starts again runs, and the other units of its cluster stand. -/
theorem State.unitState_started (s : State) (q : Fin 32) (v : Fin 8) :
    ((s.setUnit q v 1).count (Fld.CLU_RERUN_RERUNS q)).unitState q v = 1 ∧
    ∀ u < 8, u ≠ v.val → ((s.setUnit q v 1).count (Fld.CLU_RERUN_RERUNS q)).unitState q u = s.unitState q u := by
  have hcount : ∀ u, ((s.setUnit q v 1).count (Fld.CLU_RERUN_RERUNS q)).unitState q u = (s.setUnit q v 1).unitState q u := fun u =>
    State.get_count_ne _ (Fld.CLU_RERUN_RERUNS q) (Fld.CLU_UNITSTAT_STATE_U q u) (unitStat_apart q).2.1
  refine ⟨(hcount v).trans (State.get_set_self s (Fld.CLU_UNITSTAT_STATE_U q v) 1 (show 0 + 2 * v.val + 2 ≤ 32 by omega)),
    fun u hu hne => (hcount u).trans ?_⟩
  exact State.get_set_disjoint s (Fld.CLU_UNITSTAT_STATE_U q v) (Fld.CLU_UNITSTAT_STATE_U q u) 1
    (show 0 + 2 * v.val + 2 ≤ 32 by omega) (show 2 ≤ 32 by decide)
    (show 0 + 2 * v.val + 2 ≤ 0 + 2 * u ∨ 0 + 2 * u + 2 ≤ 0 + 2 * v.val by omega)

/-! Abandonment (R235). -/

/-- A run ends, and every run that waits for it: no unit is fenced or brought back, no run begins, and what is closed stays so. -/
structure State.Abandons (s t : State) : Prop where
  units : ∀ q u, t.unitState q u = 3 ↔ s.unitState q u = 3
  closed : s.fab.closed ⊆ t.fab.closed
  insts : t.fab.insts ⊆ s.fab.insts

theorem State.Abandons.refl (s : State) : s.Abandons s := ⟨fun _ _ => .rfl, List.Subset.refl _, List.Subset.refl _⟩

theorem State.Abandons.trans {s t u : State} (h : s.Abandons t) (h' : t.Abandons u) : s.Abandons u :=
  ⟨fun q v => (h'.units q v).trans (h.units q v), List.Subset.trans h.closed h'.closed,
    List.Subset.trans h'.insts h.insts⟩

/-- An operation that leaves the fabric and the units' registers. -/
theorem State.Abandons.of_same {s t : State} (hr : ∀ q, t.rd (Reg.CLU_UNITSTAT q) = s.rd (Reg.CLU_UNITSTAT q)) (hf : t.fab = s.fab) :
    s.Abandons t := by
  refine ⟨fun q u => ?_, ?_, ?_⟩
  · rw [show t.unitState q u = s.unitState q u from State.get_of_rd (Fld.CLU_UNITSTAT_STATE_U q u) (hr q)]
  · rw [hf]
    exact List.Subset.refl _
  · rw [hf]
    exact List.Subset.refl _

theorem State.Abandons.each {α : Type} {f : α → State → State} (hf : ∀ x u, State.Abandons u (f x u)) (l : List α) (s : State) :
    s.Abandons (s.each l f) := by
  induction l generalizing s with
  | nil => exact .refl s
  | cons x l ih => exact (hf x s).trans (ih (f x s))

/-- A unit field that reads other than 0 lies within its register. -/
theorem State.unitState_within {s : State} {q u : Nat} (h : s.unitState q u = 1) : u < 16 := by
  by_contra hu
  have hbit := bitsGet_testBit (s.rd (Reg.CLU_UNITSTAT q)) (0 + 2 * u) 2 0 (by decide)
  rw [BitVec.getLsbD_of_ge _ _ (by omega), show bitsGet (s.rd (Reg.CLU_UNITSTAT q)) (0 + 2 * u) 2 = 1 from h] at hbit
  exact absurd hbit (by decide)

/-- A unit that runs and is set idle: the fenced units are the same. -/
theorem State.setUnit_idle {s : State} {c w : Nat} (h : s.unitState c w = 1) (q u : Nat) :
    (s.setUnit c w 0).unitState q u = 3 ↔ s.unitState q u = 3 := by
  have hw := State.unitState_within h
  by_cases ha : Reg.CLU_UNITSTAT q = Reg.CLU_UNITSTAT c
  · by_cases hu : u = w
    · have hf : Fld.CLU_UNITSTAT_STATE_U q u = Fld.CLU_UNITSTAT_STATE_U c w :=
        hu ▸ congrArg (fun a => (⟨a, 0 + 2 * u, 2⟩ : Field)) ha
      have hset : (s.setUnit c w 0).unitState q u = 0 :=
        (congrArg (s.setUnit c w 0).get hf).trans (State.get_set_self s _ 0 (show 0 + 2 * w + 2 ≤ 32 by omega))
      rw [hset, show s.unitState q u = 1 from (congrArg s.get hf).trans h]
      decide
    · rw [show (s.setUnit c w 0).unitState q u = s.unitState q u from State.get_set_disjoint s (Fld.CLU_UNITSTAT_STATE_U c w)
        (Fld.CLU_UNITSTAT_STATE_U q u) 0 (show 0 + 2 * w + 2 ≤ 32 by omega) (show 2 ≤ 32 by decide)
        (show 0 + 2 * w + 2 ≤ 0 + 2 * u ∨ 0 + 2 * u + 2 ≤ 0 + 2 * w by omega)]
  · rw [show (s.setUnit c w 0).unitState q u = s.unitState q u from
      State.get_set_ne s (Fld.CLU_UNITSTAT_STATE_U c w) (Fld.CLU_UNITSTAT_STATE_U q u) 0 ha]

theorem State.abandons_freeOf (s : State) (x : TaskInst) : s.Abandons (s.freeOf x) := by
  have hfree : s.Abandons
      (if s.unitState x.cluster x.unit = 1 ∧ !s.isolated (x.cluster / 4) then s.setUnit x.cluster x.unit 0 else s) := by
    split
    · next h => exact ⟨State.setUnit_idle h.1, List.Subset.refl _, List.Subset.refl _⟩
    · exact .refl s
  unfold State.freeOf
  split
  · exact hfree
  · exact hfree
  · exact hfree
  · exact .refl s
  · exact .refl s
  · exact .refl s
  · exact .refl s

theorem State.abandons_endInst (s : State) (k n : Nat) : s.Abandons (s.endInst k n) :=
  ⟨fun _ _ => .rfl, List.subset_cons_self _ _, List.filter_subset_self _⟩

theorem State.memPut_regs (s : State) (a : Nat) (l : List Byte) : (s.memPut a l).regs = s.regs := by
  induction l generalizing s a with
  | nil => rfl
  | cons b l ih => exact ih _ _

theorem State.endPip_regs (s : State) (d : TaskDef) (q : Nat) : (s.endPip d q).regs = s.regs := by
  unfold State.endPip
  generalize q :: tdHolders d = l
  induction l generalizing s with
  | nil => rfl
  | cons c l ih =>
    refine (ih _).trans ?_
    beta_reduce
    split
    · rfl
    · exact s.memPut_regs _ _

/-- The run of a task ends without completing, whether it has begun or not. -/
def State.endRun (s : State) (k n : Nat) : State := match s.instOf k n with
  | some x => s.dropInst x
  | none => s.endInst k n

/-- R235: a run that has ended is closed, and the fabric holds it no more. -/
theorem State.endInst_shown (s : State) (k n : Nat) : (k, n) ∈ (s.endInst k n).fab.closed ∧
    ∀ y ∈ (s.endInst k n).fab.insts, ¬ (y.task = k ∧ y.number = n) := by
  refine ⟨List.mem_cons_self, fun y hy h => ?_⟩
  have hkeep := (List.mem_filter.1 hy).2
  rw [decide_eq_true h] at hkeep
  exact absurd hkeep Bool.false_ne_true

theorem State.endRun_shown (s : State) (k n : Nat) : s.Abandons (s.endRun k n) ∧ (k, n) ∈ (s.endRun k n).fab.closed ∧
    ∀ y ∈ (s.endRun k n).fab.insts, ¬ (y.task = k ∧ y.number = n) := by
  unfold State.endRun
  split
  · next x hx =>
    obtain ⟨rfl, rfl⟩ : x.task = k ∧ x.number = n :=
      of_decide_eq_true (List.find?_some (p := fun x : TaskInst => decide (x.task = k ∧ x.number = n)) hx)
    have hend := (s.abandons_freeOf x).trans ((s.freeOf x).abandons_endInst x.task x.number)
    obtain ⟨hc, hi⟩ := (s.freeOf x).endInst_shown x.task x.number
    unfold State.dropInst
    extract_lets u
    split
    · next d _ =>
      have hf : (u.endPip d x.cluster).fab = u.fab :=
        (State.Touch.refl [.omem] u).endPip d x.cluster (fun _ => id) .fab (by decide)
      rw [hf]
      exact ⟨hend.trans (.of_same (fun _ => State.rd_of_regs (u.endPip_regs d x.cluster) _) hf), hc, hi⟩
    · exact ⟨hend, hc, hi⟩
  · exact ⟨s.abandons_endInst k n, s.endInst_shown k n⟩

theorem fltRerun_ne_unitStat (q : Nat) : Reg.CLU_UNITSTAT q ≠ Reg.FLT_RERUN := by
  simp only [Reg.FLT_RERUN, Reg.CLU_UNITSTAT, Reg.clusterBase]
  omega

/-- R235: after its own run, the abandonment of a task ends those of its successors, in turn. -/
theorem State.abandon_spec (fuel : Nat) (s : State) (d : TaskDef) (n start reason reruns : Nat) :
    s.Abandons (s.abandon fuel d n start reason reruns) ∧
    ((tdTask d, n) ∉ s.fab.closed → 0 < fuel → (s.endRun (tdTask d) n).Abandons (s.abandon fuel d n start reason reruns)) := by
  induction fuel generalizing s d n start reason reruns with
  | zero => exact ⟨.refl s, fun _ h => absurd h (Nat.lt_irrefl 0)⟩
  | succ fuel ih =>
    have hrest : (tdTask d, n) ∉ s.fab.closed → (s.endRun (tdTask d) n).Abandons (s.abandon (fuel + 1) d n start reason reruns) := by
      intro hc
      rw [State.abandon, if_neg hc]
      extract_lets s1 s2 s3
      have h12 : s1.Abandons s2 := .of_same (fun _ => rfl) rfl
      have h23 : s2.Abandons s3 := by
        show s2.Abandons (if reason = 3 then s2 else s2.count Fld.FLT_RERUN_ABANDONED)
        split
        · exact .refl s2
        · exact .of_same (fun q => State.rd_count_ne _ _ (fltRerun_ne_unitStat q)) rfl
      refine (h12.trans h23).trans (.each (fun k u => ?_) d.succ s3)
      split
      · exact (ih u _ _ _ _ _).1
      · exact .refl u
    refine ⟨?_, fun hc _ => hrest hc⟩
    by_cases hc : (tdTask d, n) ∈ s.fab.closed
    · rw [State.abandon, if_pos hc]
      exact .refl s
    · exact (s.endRun_shown (tdTask d) n).1.trans (hrest hc)

/-- R235: an abandoned run is closed, and it runs no more. -/
theorem State.abandonInst_shown {s : State} {d : TaskDef} {x : TaskInst} (reason : Nat) (hc : (tdTask d, x.number) ∉ s.fab.closed) :
    s.Abandons (s.abandonInst d x reason) ∧ (tdTask d, x.number) ∈ (s.abandonInst d x reason).fab.closed ∧
    (s.abandonInst d x reason).instOf (tdTask d) x.number = none := by
  obtain ⟨hall, hrest⟩ := State.abandon_spec 4096 s d x.number x.start reason x.reruns
  obtain ⟨-, hclosed, hgone⟩ := s.endRun_shown (tdTask d) x.number
  have h := hrest hc (by decide)
  refine ⟨hall, h.closed hclosed, List.find?_eq_none.2 fun y hy => ?_⟩
  rw [decide_eq_true_eq]
  exact hgone y (h.insts hy)

/-! A unit fault (R9, R229, R235). -/

/-- The registers of the fabric are none that the end of a command sets. -/
theorem State.rd_mirror_fabric (s : State) {a : Nat} (h : 0x10000000 ≤ a) : s.mirror.rd a = s.rd a := by
  refine s.rd_mirror ?_ ?_ ?_
  · exact fun e => absurd (e ▸ h) (by decide)
  · exact fun e => absurd (e ▸ h) (by decide)
  · exact fun e => absurd (e ▸ h) (by decide)

theorem State.unitState_mirror (s : State) (q u : Nat) : s.mirror.unitState q u = s.unitState q u :=
  State.get_of_rd (Fld.CLU_UNITSTAT_STATE_U q u) (s.rd_mirror_fabric (fabric_high q 0 0).1)

/-- A register of Umber other than FLT_STAT is none that a fence changes. -/
theorem not_mem_fenceRegs {a : Nat} (q : Nat) (ha : a < 0x10000000) (hs : a ≠ Reg.FLT_STAT) : a ∉ fenceRegs q := by
  intro h
  simp only [fenceRegs, bankStats, List.cons_append, List.nil_append, List.mem_cons, List.mem_map] at h
  obtain h | h | ⟨b, -, h⟩ := h
  · exact hs h
  · have := (fabric_high q 0 0).1
    omega
  · have := (fabric_high q 0 b).2.2.1
    omega

/-- A fenced unit, recorded and reported: what a unit fault does before it looks after the run that was struck. -/
def State.unitDown (s : State) (q u cause : Nat) (x : Option TaskInst) : State :=
  let s := (s.fence q u).faultRecord 1 (q * 8 + u) (x.map (·.task)) cause
  s.raise 0x2801 0 (s.faultData (match x with | some x => x.number | none => 0))

/-- R229: the run that a unit fault has struck is looked after. -/
def State.strikeRun (s : State) (x : Option TaskInst) : State := match x with
  | some x => (s.discardPartial x).lostRun x
  | none => s

/-- R9: a unit fault of a unit in service, where the cluster keeps another unit. -/
theorem State.unitFault_eq {s : State} {q u v : Nat} {cause : Nat} {x : Option TaskInst} (hi : s.isolated (q / 4) = false)
    (hu : s.unitState q u < 2) (hx : (s.instOn q u).filter inFlight = x) (hv : v < 8)
    (hs : ((s.unitDown q u cause x).strikeRun x).unitState q v ≠ 3) :
    s.unitFault q u cause = (s.unitDown q u cause x).strikeRun x := by
  subst hx
  unfold State.unitFault
  rw [if_neg (by simp [hi, hu])]
  exact if_neg fun h => Bool.false_ne_true ((State.not_allFenced hv hs).symm.trans h)

theorem faultRegs_record (q : Nat) : ∀ a ∈ [Reg.FLT_LAST, Reg.FLT_LASTT], a ∈ faultRegs q := by
  intro a ha
  simp only [List.mem_cons, List.not_mem_nil, or_false] at ha
  obtain rfl | rfl := ha
  · exact List.mem_cons_self
  · exact List.mem_cons_of_mem _ List.mem_cons_self

theorem State.fenced_unitDown (s : State) (q : Fin 32) (u : Fin 8) (cause : Nat) (x : Option TaskInst) :
    s.Fenced q u (s.unitDown q u cause x) :=
  (s.fenced_fence q u).later (((s.fence q u).keeps_faultRecord _ _ _ _).mono (faultRegs_record q))

theorem State.unitDown_arb (s : State) (q : Fin 32) (u : Fin 8) (cause : Nat) (x : Option TaskInst) :
    (s.unitDown q u cause x).fab = { s.fab with arb := (s.unitDown q u cause x).fab.arb } := (s.fence_arb q u).fab

theorem State.touch_unitDown (s : State) (q u cause : Nat) (x : Option TaskInst) :
    State.Touch [.fab, .port] s (s.unitDown q u cause x) :=
  State.Touch.raise (((State.Touch.refl _ s).fence q u (by decide)).faultRecord _ _ _ _ (by decide)) _ _ _

theorem State.keeps_unitDown (s : State) (q : Fin 32) (u : Fin 8) (cause : Nat) (x : Option TaskInst) :
    s.keeps (s.unitDown q u cause x) (fenceRegs q ++ [Reg.FLT_LAST, Reg.FLT_LASTT]) :=
  ((s.keeps_fence q u).mono fun _ => List.mem_append_left _).trans
    (((s.fence q u).keeps_faultRecord _ _ _ _).mono fun _ => List.mem_append_right _)

/-- R9, R10, R228: the first clause of O36. -/
theorem unitFault_idle {s : State} {q : Fin 32} {u : Fin 8} {c : Instr} {k : Nat} (hL : s.Live)
    (hc : exec c s = .next (s.running (fun s => s.unitFault q u k))) (hi : s.isolated (q / 4) = false) (hu : s.unitState q u < 2)
    (hx : (s.instOn q u).filter inFlight = none) (hv : ∃ v < 8, v ≠ u.val ∧ s.unitState q v ≠ 3) : ∃ t, exec c s = .next t ∧
    t.unitState q u = 3 ∧ t.get Fld.FLT_STAT_FENCED = (s.get Fld.FLT_STAT_FENCED + 1) % 512 ∧
    (∀ b : Fin 8, t.get (portMask (.bank q b) u) = 1) ∧
    t.rd Reg.FLT_LAST = BitVec.ofNat 32 (1 + 16 * (q * 8 + u) + 2 ^ 25 * k) ∧ t.rd Reg.FLT_LASTT = s.rd Reg.TB_NS ∧
    (∃ e, t.recd.port = s.recd.port ++ [e] ∧ e.code = 0x2801) ∧ State.Touch [.fab, .port] s t ∧
    s.keeps t ([Reg.FLT_STAT, Reg.FLT_LAST, Reg.FLT_LASTT, Reg.CLU_UNITSTAT q] ++ (List.range 8).map (Reg.BANKARB_STAT q)) := by
  obtain ⟨v, hv, hvu, hv3⟩ := hv
  have hfen := s.fenced_unitDown q u k none
  have heq : s.unitFault q u k = s.unitDown q u k none := State.unitFault_eq hi hu hx hv ((hfen.others v hv hvu).symm ▸ hv3)
  obtain ⟨hlast, htime⟩ := (s.fence q u).faultRecord_shown 1 (q * 8 + u) none k
  have hT := s.touch_unitDown q u k none
  have hk := s.keeps_unitDown q u k none
  refine ⟨(s.unitDown q u k none).mirror,
    hc.trans (congrArg Host.Outcome.next ((State.running_released hL.released _).trans (congrArg State.mirror heq))),
    hfen.mirror.unit, hfen.mirror.count, hfen.mirror.masks, ?_, ?_,
    ⟨_, congrArg (fun r : RecSt => r.port ++ _) (s.fence_arb q u).recd, rfl⟩,
    hT.mirror (by decide), (hk.mirror hL.inv (hT .mgt (by decide)) (hT .img (by decide)) fun a ha h => ?_).mono fun a ha => ?_⟩
  · rw [State.rd_mirror _ (by decide) (by decide) (by decide)]
    refine hlast.trans (congrArg (BitVec.ofNat 32) ?_)
    rw [Nat.mod_eq_of_lt (by omega)]
    rfl
  · rw [State.rd_mirror _ (by decide) (by decide) (by decide)]
    exact htime.trans (s.keeps_fence q u _ (not_mem_fenceRegs _ (by decide) (by decide)))
  · obtain ⟨hlow, hne, hrec⟩ := (by decide : ∀ a ∈ [Reg.MGT_STAT, Reg.SAF_STAT, Reg.IMG_STAT, Reg.SAF_SO, Reg.SAF_SORB],
      a < 0x10000000 ∧ a ≠ Reg.FLT_STAT ∧ a ∉ [Reg.FLT_LAST, Reg.FLT_LASTT]) a ha
    exact (List.mem_append.1 h).elim (not_mem_fenceRegs q hlow hne) hrec
  · simp only [fenceRegs, bankStats, List.mem_append, List.mem_cons, List.not_mem_nil, or_false] at ha ⊢
    tauto

/-! The run that a unit fault has struck (R13, R229, R235, R236). -/

/-- R229: what is counted where a partial output is discarded. -/
theorem State.keeps_discardPartial (s : State) (x : TaskInst) : s.keeps (s.discardPartial x) [Reg.RGN_EGRDUP (x.cluster / 4)] := by
  unfold State.discardPartial
  split
  · exact (s.keeps_refl _).count (Fld.RGN_EGRDUP_PARTIAL_DISC (x.cluster / 4)) (List.mem_singleton.2 rfl)
  · exact s.keeps_refl _

theorem State.discardPartial_fab (s : State) (x : TaskInst) : (s.discardPartial x).fab = s.fab :=
  (State.Touch.refl [] s).discardPartial x (fun _ => id) .fab (by decide)

/-- The struck run, its partial output discarded. -/
def State.struckDown (s : State) (q u cause : Nat) (x : TaskInst) : State := (s.unitDown q u cause (some x)).discardPartial x

theorem State.fenced_struckDown (s : State) (q : Fin 32) (u : Fin 8) (cause : Nat) {x : TaskInst} (hx : x.cluster = q) :
    s.Fenced q u (s.struckDown q u cause x) := by
  refine (s.fenced_unitDown q u cause (some x)).later ((State.keeps_discardPartial _ x).mono fun a ha => ?_)
  rw [List.mem_singleton.1 ha, hx]
  simp [faultRegs]

theorem State.struckDown_fab (s : State) (q : Fin 32) (u : Fin 8) (cause : Nat) (x : TaskInst) :
    (s.struckDown q u cause x).fab = { s.fab with arb := (s.struckDown q u cause x).fab.arb } := by
  unfold State.struckDown
  rw [State.discardPartial_fab]
  exact s.unitDown_arb q u cause (some x)

theorem State.touch_struckDown (s : State) (q u cause : Nat) (x : TaskInst) :
    State.Touch [.fab, .port] s (s.struckDown q u cause x) := (s.touch_unitDown q u cause (some x)).discardPartial x (by decide)

theorem State.struckDown_taskDef (s : State) (q u cause : Nat) (x : TaskInst) (k : Nat) :
    (s.struckDown q u cause x).taskDef k = s.taskDef k :=
  State.taskDef_of_cfg ((s.touch_struckDown q u cause x) .cfg (by decide)).1 k

/-- A register of Umber that neither the fence nor its record changes. -/
theorem State.struckDown_rd (s : State) (q : Fin 32) (u : Fin 8) (cause : Nat) (x : TaskInst) {a : Nat} (ha : a < 0x10000000)
    (h1 : a ∉ [Reg.FLT_STAT, Reg.FLT_LAST, Reg.FLT_LASTT]) : (s.struckDown q u cause x).rd a = s.rd a := by
  simp only [List.mem_cons, List.not_mem_nil, or_false, not_or] at h1
  have hhigh := (fabric_high 0 (x.cluster / 4) 0).2.2.2.2
  refine (State.keeps_discardPartial _ x a ?_).trans (s.keeps_unitDown q u cause (some x) a ?_)
  · rw [List.mem_singleton]
    exact fun e => absurd (e ▸ hhigh) (by omega)
  · rw [List.mem_append, not_or]
    exact ⟨not_mem_fenceRegs q ha h1.1, by simp [h1.2.1, h1.2.2]⟩

/-- A run as it goes on after one more fault. -/
def again (x : TaskInst) : TaskInst := { x with reruns := x.reruns + 1 }

/-- R235: a run that fails once more is counted and given the reason, before it is placed. -/
def State.failedRun (s : State) (x : TaskInst) : State :=
  ((s.modTask x.task x.number (fun _ => again x)).count Fld.FLT_RERUN_RERUNS).slotReason x.task 1 (again x).reruns

theorem State.lostRun_again {s : State} {d : TaskDef} {x : TaskInst} (hd : s.taskDef x.task = some d) (ht : d.test = false)
    (hr : x.reruns < 2) : s.lostRun x = (s.failedRun x).redispatch d (again x) := by
  unfold State.lostRun
  rw [hd]
  exact (if_neg (by simp [ht])).trans (if_neg (by omega))

theorem State.lostRun_abandoned {s : State} {d : TaskDef} {x : TaskInst} (hd : s.taskDef x.task = some d) (ht : d.test = false)
    (hr : 2 ≤ x.reruns) : s.lostRun x = (s.raise 0x2809 0 (s.faultData x.number)).abandonInst d x 2 := by
  unfold State.lostRun
  rw [hd]
  exact (if_neg (by simp [ht])).trans (if_pos hr)

theorem State.keeps_failedRun (s : State) (x : TaskInst) : s.keeps (s.failedRun x) [Reg.FLT_RERUN] :=
  ((State.keeps_of_regs (s := s) (t := s.modTask x.task x.number (fun _ => again x)) _ rfl).count Fld.FLT_RERUN_RERUNS
    (List.mem_singleton.2 rfl))

theorem State.failedRun_rerun (s : State) (x : TaskInst) :
    (s.failedRun x).get Fld.FLT_RERUN_RERUNS = min (s.get Fld.FLT_RERUN_RERUNS + 1) 65535 :=
  State.get_count_self (s.modTask x.task x.number (fun _ => again x)) Fld.FLT_RERUN_RERUNS (by decide)

theorem State.touch_failedRun (s : State) (x : TaskInst) : State.Touch [.chans, .fab] s (s.failedRun x) :=
  (((State.Touch.refl _ s).modTask _ _ _ (by decide)).count _).slotReason _ _ _ (by decide)

/-- A run that starts again where its task is placed: its unit runs it, the others stand, and it is one of the fabric's. -/
theorem State.startRerun_shown {s : State} {d : TaskDef} {x : TaskInst} {q : Fin 32} (v : Fin 8) (hp : s.placeOf x.task = some q.val)
    (hx : x ∈ s.fab.insts) : (s.startRerun d x q v).unitState q v = 1 ∧
    (∀ u < 8, u ≠ v.val → (s.startRerun d x q v).unitState q u = s.unitState q u) ∧
    atUnit q v x ∈ (s.startRerun d x q v).fab.insts ∧ s.keeps (s.startRerun d x q v) [Reg.CLU_UNITSTAT q, Reg.CLU_RERUN q] := by
  rw [State.startRerun_placed hp]
  obtain ⟨hv, ho⟩ := (s.modTask x.task x.number (atUnit q v)).unitState_started q v
  refine ⟨hv, ho, State.mem_modTask hx (atUnit q v), ?_⟩
  have hmod : s.keeps (s.modTask x.task x.number (atUnit q v)) [Reg.CLU_UNITSTAT q, Reg.CLU_RERUN q] := State.keeps_of_regs _ rfl
  exact (hmod.set (Fld.CLU_UNITSTAT_STATE_U q v) 1 List.mem_cons_self).count (Fld.CLU_RERUN_RERUNS q)
    (List.mem_cons_of_mem _ List.mem_cons_self)

/-- A register of Umber is none of a cluster's. -/
theorem not_mem_unitRegs {a : Nat} (q : Nat) (ha : a < 0x10000000) : a ∉ [Reg.CLU_UNITSTAT q, Reg.CLU_RERUN q] := by
  have h1 := (fabric_high q 0 0).1
  have h2 := (fabric_high q 0 0).2.1
  simp only [List.mem_cons, List.not_mem_nil, or_false, not_or]
  omega

/-- R13, R229, R236: the second clause of O36. -/
theorem unitFault_again {s : State} {q : Fin 32} {u v : Fin 8} {x : TaskInst} {d : TaskDef} (hL : s.Live)
    (hi : s.isolated (q / 4) = false) (hu : s.unitState q u = 1) (hx : s.instOn q u = some x) (hf : inFlight x = true) (hr : x.reruns < 2)
    (hd : s.taskDef x.task = some d) (ht : d.test = false) (hp : s.placeOf x.task = some q.val) (hc : s.canRun q d = true)
    (hv : s.freeUnit q = some v.val) : ∃ t, exec (.invalidCodeword (.unit q u)) s = .next t ∧
    t.unitState q u = 3 ∧ t.unitState q v = 1 ∧ (∃ y ∈ t.fab.insts, y.task = x.task ∧ y.number = x.number ∧ y.phase = .loading ∧
      y.cluster = q ∧ y.unit = v ∧ y.reruns = x.reruns + 1) ∧
    t.get Fld.FLT_RERUN_RERUNS = min (s.get Fld.FLT_RERUN_RERUNS + 1) 65535 ∧ State.Touch [.chans, .fab, .port] s t := by
  obtain ⟨hmem, hq, -⟩ := State.instOn_spec hx
  obtain ⟨hv0, -⟩ := State.freeUnit_spec hv
  have huv : v.val ≠ u.val := fun e => absurd (hu.symm.trans (e ▸ hv0)) (by decide)
  have hfab := s.struckDown_fab q u 0 x
  have hfen : s.Fenced q u ((s.struckDown q u 0 x).failedRun x) :=
    (s.fenced_struckDown q u 0 hq).later ((State.keeps_failedRun _ x).mono fun a ha => by
      rw [List.mem_singleton.1 ha]
      simp [faultRegs])
  have hplace : ((s.struckDown q u 0 x).failedRun x).placeOf (again x).task = some q.val := by
    have hpl : (s.struckDown q u 0 x).fab.place = s.fab.place := by rw [hfab]
    have hpl' : ((s.struckDown q u 0 x).failedRun x).fab.place = s.fab.place := hpl
    unfold State.placeOf at hp ⊢
    rw [hpl']
    exact hp
  have hmem' : again x ∈ ((s.struckDown q u 0 x).failedRun x).fab.insts := by
    have hin : x ∈ (s.struckDown q u 0 x).fab.insts := by
      rw [hfab]
      exact hmem
    exact State.mem_modTask hin (fun _ => again x)
  have hfree := (hfen.freeUnit (by omega)).trans hv
  have hv3 : ((s.struckDown q u 0 x).failedRun x).unitState q v ≠ 3 := by
    rw [hfen.others v v.isLt huv, hv0]
    decide
  have hlost : (s.struckDown q u 0 x).lostRun x = ((s.struckDown q u 0 x).failedRun x).startRerun d (again x) q v := by
    rw [State.lostRun_again ((s.struckDown_taskDef q u 0 x _).trans hd) ht hr]
    exact State.redispatch_free hplace (hfen.canRun hc v.isLt hv3) hfree
  obtain ⟨hrun, hoth, hin, hk⟩ := State.startRerun_shown (d := d) v hplace hmem'
  rw [← hlost] at hrun hoth hin hk
  have heq : s.unitFault q u 0 = (s.struckDown q u 0 x).lostRun x :=
    State.unitFault_eq hi (by omega) (x := some x) (by rw [hx]; exact Option.filter_some_pos hf) v.isLt (by
      show State.unitState ((s.struckDown q u 0 x).lostRun x) q v ≠ 3
      rw [hrun]
      decide)
  have hT : State.Touch [.chans, .fab, .port] s ((s.struckDown q u 0 x).lostRun x) := by
    rw [hlost]
    exact (((s.touch_struckDown q u 0 x).mono (by decide)).call (State.touch_failedRun _ x) (by decide)).startRerun d _ _ _ (by decide)
  refine ⟨((s.struckDown q u 0 x).lostRun x).mirror,
    congrArg Host.Outcome.next ((State.running_released hL.released _).trans (congrArg State.mirror heq)), ?_, ?_,
    ⟨_, hin, rfl, rfl, rfl, rfl, rfl, rfl⟩, ?_, hT.mirror (by decide)⟩
  · rw [State.unitState_mirror, hoth u u.isLt huv.symm]
    exact hfen.unit
  · rw [State.unitState_mirror]
    exact hrun
  · rw [State.get_mirror _ _ (by decide) (by decide) (by decide), hk.get _ (not_mem_unitRegs q (by decide)), State.failedRun_rerun,
      State.get_of_rd Fld.FLT_RERUN_RERUNS (s.struckDown_rd q u 0 x (by decide) (by decide))]

/-- R229, R235: the third clause of O36. -/
theorem unitFault_abandons {s : State} {q : Fin 32} {u : Fin 8} {x : TaskInst} {d : TaskDef} (hL : s.Live)
    (hi : s.isolated (q / 4) = false) (hu : s.unitState q u = 1) (hx : s.instOn q u = some x) (hf : inFlight x = true) (hr : 2 ≤ x.reruns)
    (hd : s.taskDef x.task = some d) (ht : d.test = false) (hc : (x.task, x.number) ∉ s.fab.closed)
    (hv : ∃ v < 8, v ≠ u.val ∧ s.unitState q v ≠ 3) : ∃ t, exec (.handshakeWatchdog (.unit q u)) s = .next t ∧ t.unitState q u = 3 ∧
    (x.task, x.number) ∈ t.fab.closed ∧ t.instOf x.task x.number = none ∧
    (∃ e ∈ t.recd.port, e.code = 0x2809) ∧ State.Touch [.omem, .chans, .fab, .port] s t := by
  obtain ⟨-, hq, -⟩ := State.instOn_spec hx
  obtain ⟨v, hv, hvu, hv3⟩ := hv
  have htask := State.taskDef_task hd
  have hfen := s.fenced_struckDown q u 1 hq
  let w := (s.struckDown q u 1 x).raise 0x2809 0 ((s.struckDown q u 1 x).faultData x.number)
  have hcl : (tdTask d, x.number) ∉ w.fab.closed := by
    show (tdTask d, x.number) ∉ (s.struckDown q u 1 x).fab.closed
    rw [s.struckDown_fab q u 1 x, htask]
    exact hc
  have hlost : (s.struckDown q u 1 x).lostRun x = w.abandonInst d x 2 :=
    State.lostRun_abandoned ((s.struckDown_taskDef q u 1 x _).trans hd) ht hr
  obtain ⟨hab, hclosed, hnone⟩ := State.abandonInst_shown (s := w) (d := d) (x := x) 2 hcl
  rw [← hlost, htask] at hclosed hnone
  rw [← hlost] at hab
  have hv3' : ((s.struckDown q u 1 x).lostRun x).unitState q v ≠ 3 := fun h =>
    hv3 ((hfen.others v hv hvu).symm.trans ((hab.units q v).1 h))
  have heq : s.unitFault q u 1 = (s.struckDown q u 1 x).lostRun x :=
    State.unitFault_eq hi (by omega) (x := some x) (by rw [hx]; exact Option.filter_some_pos hf) hv hv3'
  have hTa : State.Touch [.omem, .chans, .fab] w ((s.struckDown q u 1 x).lostRun x) := by
    rw [hlost]
    exact (State.Touch.refl _ w).abandonInst d x 2 (fun _ => id)
  have hTw : State.Touch [.fab, .port] s w := State.Touch.raise (s.touch_struckDown q u 1 x) _ _ _
  refine ⟨((s.struckDown q u 1 x).lostRun x).mirror,
    congrArg Host.Outcome.next ((State.running_released hL.released _).trans (congrArg State.mirror heq)), ?_, hclosed, hnone,
    ⟨_, (hTa .port (by decide)).subset (List.mem_append_right _ (List.mem_singleton.2 rfl)), rfl⟩,
    ((hTw.mono (by decide)).call hTa (by decide)).mirror (by decide)⟩
  rw [State.unitState_mirror]
  exact (hab.units q u).2 hfen.unit

/-! The wake test of a spare (R230, R231). -/

/-- R487: a task's word in the placement map of a region, unless the region is isolated. -/
def State.mapPlace (s : State) (d : TaskDef) (p : Option Nat) (g : Nat) : State :=
  if s.isolated g then s else s.wr (Reg.RGN_PMAPt g (tdTask d)) (pmapWord d p (s.rd (Reg.RGN_PMAPt g (tdTask d))) g)

theorem State.mapPlace_spec (s : State) (d : TaskDef) (p : Option Nat) (g : Nat) : (s.mapPlace d p g).fab = s.fab ∧
    s.keeps (s.mapPlace d p g) [Reg.RGN_PMAPt g (tdTask d)] := by
  unfold State.mapPlace
  split
  · exact ⟨rfl, s.keeps_refl _⟩
  · exact ⟨rfl, (s.keeps_refl _).wr _ _ (List.mem_singleton.2 rfl)⟩

/-- R64: a change of placement changes a task's words of the placement maps, and no run. -/
theorem State.setPlace_spec (s : State) (d : TaskDef) (p : Option Nat) : (s.setPlace d p).fab.insts = s.fab.insts ∧
    s.keeps (s.setPlace d p) [Reg.RGN_PMAPt (tdHome d / 4) (tdTask d), Reg.RGN_PMAPt (tdAlt d / 4) (tdTask d)] := by
  let u := s.modFab (fun f => { f with place := cellsSet 0 f.place (tdTask d) (match p with | some q => q + 1 | none => 0) })
  have hu : s.keeps u [Reg.RGN_PMAPt (tdHome d / 4) (tdTask d), Reg.RGN_PMAPt (tdAlt d / 4) (tdTask d)] := State.keeps_of_regs _ rfl
  obtain ⟨hf1, hk1⟩ := u.mapPlace_spec d p (tdHome d / 4)
  obtain ⟨hf2, hk2⟩ := (u.mapPlace d p (tdHome d / 4)).mapPlace_spec d p (tdAlt d / 4)
  show ((u.mapPlace d p (tdHome d / 4)).mapPlace d p (tdAlt d / 4)).fab.insts = _ ∧
    s.keeps ((u.mapPlace d p (tdHome d / 4)).mapPlace d p (tdAlt d / 4)) _
  refine ⟨(congrArg FabSt.insts (hf2.trans hf1)).trans rfl, (hu.trans (hk1.mono fun a ha => ?_)).trans (hk2.mono fun a ha => ?_)⟩
  · exact List.mem_singleton.1 ha ▸ List.mem_cons_self
  · exact List.mem_cons_of_mem _ ha

/-- R237: a run that is past its wait stands when its task moves. -/
theorem State.mem_moveTask {s : State} {x : TaskInst} (hx : x ∈ s.fab.insts) (hw : x.phase ≠ .waiting) (d : TaskDef) (q : Nat) :
    x ∈ (s.moveTask d q).fab.insts := by
  rw [← (s.setPlace_spec d (some q)).1] at hx
  unfold State.moveTask State.wakeWaiting
  split
  · exact hx
  · exact List.mem_map.2 ⟨x, hx, if_neg fun h => hw h.2.1⟩

theorem State.keeps_moveTask (s : State) (d : TaskDef) (q : Nat) :
    s.keeps (s.moveTask d q) [Reg.RGN_PMAPt (tdHome d / 4) (tdTask d), Reg.RGN_PMAPt (tdAlt d / 4) (tdTask d)] := by
  refine (s.setPlace_spec d (some q)).2.of_regs ?_
  unfold State.moveTask State.wakeWaiting
  split
  · rfl
  · rfl

/-- A task moves to the cluster of its run, unless it is placed there. -/
def State.placeAt (s : State) (d : TaskDef) (k q : Nat) : State := if s.placeOf k = some q then s else s.moveTask d q

theorem State.placeAt_spec {s : State} {x : TaskInst} (hx : x ∈ s.fab.insts) (hw : x.phase ≠ .waiting) (d : TaskDef) (k q : Nat) :
    x ∈ (s.placeAt d k q).fab.insts ∧
    s.keeps (s.placeAt d k q) [Reg.RGN_PMAPt (tdHome d / 4) (tdTask d), Reg.RGN_PMAPt (tdAlt d / 4) (tdTask d)] := by
  unfold State.placeAt
  split
  · exact ⟨hx, s.keeps_refl _⟩
  · exact ⟨State.mem_moveTask hx hw d q, s.keeps_moveTask d q⟩

/-- The words of the placement maps are none of a bank port. -/
theorem pmap_ne_bankStat (g : Nat) (d : TaskDef) (q : Fin 32) (b : Fin 8) : portStat (.bank q b) ≠ Reg.RGN_PMAPt g (tdTask d) := by
  have hq := q.isLt
  have hb := b.isLt
  have ht : tdTask d < 4096 := Nat.mod_lt _ (by decide)
  show Reg.BANKARB_STAT q b ≠ _
  simp only [Reg.BANKARB_STAT, Reg.RGN_PMAPt, Reg.clusterBase, Reg.regionBase]
  omega

/-- R230, R231: the fourth clause of O36. -/
theorem spareWakeDone_passes {s : State} {q : Fin 32} {u : Fin 8} {x : TaskInst} {d : TaskDef} (hL : s.Live)
    (hi : s.isolated (q / 4) = false) (hu : s.unitState q u = 2) (hx : s.instOn q u = some x) (hw : x.phase = .wake)
    (hd : s.taskDef x.task = some d) : ∃ t, exec (.spareWakeDone q u true) s = .next t ∧ t.unitState q u = 1 ∧
    (∀ b : Fin 8, t.get (portMask (.bank q b) u) = 0) ∧ (∃ y ∈ t.fab.insts, y.task = x.task ∧ y.number = x.number ∧
      y.phase = .loading ∧ y.cluster = q ∧ y.unit = u) ∧ State.Touch [.fab] s t := by
  obtain ⟨-, harb, hmask⟩ := s.unmaskBanks_shown q (i := u) (by omega)
  have hTu : State.Touch [.fab] s (s.unmaskBanks q u) := (State.Touch.refl _ s).unmaskBanks _ _ (by decide)
  have hmem : x ∈ (s.unmaskBanks q u).fab.insts := by
    rw [harb.fab]
    exact (State.instOn_spec hx).1
  obtain ⟨hin, hkeep⟩ := State.placeAt_spec hmem (by rw [hw]; decide) d x.task q
  let p := (s.unmaskBanks q u).placeAt d x.task q
  have hrun : (s.unmaskBanks q u).startRerun d x q u =
      ((p.modTask x.task x.number (atUnit q u)).setUnit q u 1).count (Fld.CLU_RERUN_RERUNS q) := rfl
  have heq : s.spareWakeDone q u true = (s.unmaskBanks q u).startRerun d x q u := by
    unfold State.spareWakeDone
    rw [hx, Option.filter_some_pos (by simp [hw])]
    show (if _ then s else _) = _
    rw [if_neg (by simp [hi, hu])]
    show (match (s.unmaskBanks q u).taskDef x.task with | some d => _ | none => _) = _
    rw [State.taskDef_of_cfg (hTu .cfg (by decide)).1, hd]
  refine ⟨((s.unmaskBanks q u).startRerun d x q u).mirror,
    congrArg Host.Outcome.next ((State.running_released hL.released _).trans (congrArg State.mirror heq)), ?_, fun b => ?_,
    ⟨atUnit q u x, State.mem_modTask hin (atUnit q u), rfl, rfl, rfl, rfl, rfl⟩,
    (hTu.startRerun d x q u (by decide)).mirror (by decide)⟩
  · rw [State.unitState_mirror, hrun]
    exact ((p.modTask x.task x.number (atUnit q u)).unitState_started q u).1
  · have hstat : portStat (.bank q b) ∈ bankStats q := portStat_mem_bankStats q b
    have hrerun : portStat (.bank q b) ≠ Reg.CLU_RERUN q := by
      show Reg.clusterBase q + 0x10C + 0x10 * b.val ≠ Reg.clusterBase q + 0x20
      omega
    have hplace : p.get (portMask (.bank q b) u) = (s.unmaskBanks q u).get (portMask (.bank q b) u) := hkeep.get _ (by
      simp only [List.mem_cons, List.not_mem_nil, or_false, not_or]
      exact ⟨pmap_ne_bankStat _ d q b, pmap_ne_bankStat _ d q b⟩)
    rw [State.get_of_rd (portMask (.bank q b) u) (State.rd_mirror_fabric _ (fabric_high q 0 b).2.2.1), hrun,
      State.get_count_ne _ (Fld.CLU_RERUN_RERUNS q) _ hrerun]
    refine (State.get_set_ne _ (Fld.CLU_UNITSTAT_STATE_U q u) (portMask (.bank q b) u) 1 ?_).trans (hplace.trans (hmask b))
    exact fun e => (bankStats_apart q).1 ((show portStat (.bank q b) = Reg.CLU_UNITSTAT q from e) ▸ hstat)

/-- A failed wake test is counted, in FLT_SPARE and in the cluster's own register. -/
def State.countWakeFail (s : State) (q : Nat) : State := (s.count Fld.FLT_SPARE_WAKE_FAIL).count (Fld.CLU_RERUN_WAKE_FAIL q)

/-- A spare whose wake test failed: fenced, counted, recorded and reported. -/
def State.spareDown (s : State) (q u : Nat) (x : TaskInst) : State :=
  let s := ((s.fence q u).countWakeFail q).faultRecord 2 (q * 8 + u) (some x.task) 2
  s.raise 0x2802 0 (s.faultData x.number)

theorem mem_faultRegs (q : Nat) : Reg.FLT_SPARE ∈ faultRegs q ∧ Reg.CLU_RERUN q ∈ faultRegs q := by
  unfold faultRegs
  simp only [List.mem_cons, true_or, or_true, and_self]

theorem State.keeps_countWakeFail (s : State) (q : Nat) : s.keeps (s.countWakeFail q) [Reg.FLT_SPARE, Reg.CLU_RERUN q] :=
  ((s.keeps_refl _).count Fld.FLT_SPARE_WAKE_FAIL List.mem_cons_self).count (Fld.CLU_RERUN_WAKE_FAIL q)
    (List.mem_cons_of_mem _ List.mem_cons_self)

theorem State.countWakeFail_shown (s : State) (q : Nat) :
    (s.countWakeFail q).get Fld.FLT_SPARE_WAKE_FAIL = min (s.get Fld.FLT_SPARE_WAKE_FAIL + 1) 255 := by
  have hne : Reg.FLT_SPARE ≠ Reg.CLU_RERUN q := fun e => absurd (fabric_high q 0 0).2.1 (e ▸ by decide)
  exact (State.get_count_ne _ (Fld.CLU_RERUN_WAKE_FAIL q) Fld.FLT_SPARE_WAKE_FAIL hne).trans
    (State.get_count_self s Fld.FLT_SPARE_WAKE_FAIL (by decide))

theorem State.keeps_spareDown (s : State) (q : Fin 32) (u : Fin 8) (x : TaskInst) :
    (s.fence q u).keeps (s.spareDown q u x) (faultRegs q) := by
  have hcount : (s.fence q u).keeps ((s.fence q u).countWakeFail q) (faultRegs q) :=
    ((s.fence q u).keeps_countWakeFail q).mono fun a ha => by
      obtain rfl | ha := List.mem_cons.1 ha
      · exact (mem_faultRegs q).1
      · exact List.mem_singleton.1 ha ▸ (mem_faultRegs q).2
  have hrec := hcount.trans ((State.keeps_faultRecord _ 2 (q * 8 + u) (some x.task) 2).mono (faultRegs_record q))
  exact hrec.raise _ _ _

/-- R228: KIND of a recorded fault, in the low bits of FLT_LAST. -/
theorem bitsGet_kind (k p n c : Nat) (b : Bool) (hk : k < 16) :
    bitsGet (BitVec.ofNat 32 (k + 16 * p + 2 ^ 12 * n + (if b then 2 ^ 24 else 0) + 2 ^ 25 * c)) 0 4 = k := by
  have hmod : ∀ w : Word, bitsGet w 0 4 = w.toNat % 16 := fun w => by
    unfold bitsGet
    rw [BitVec.toNat_and, BitVec.ushiftRight_zero]
    exact Nat.and_two_pow_sub_one_eq_mod _ 4
  rw [hmod, BitVec.toNat_ofNat]
  split <;> omega

theorem State.spareDown_shown (s : State) (q : Fin 32) (u : Fin 8) (x : TaskInst) :
    (s.spareDown q u x).get Fld.FLT_SPARE_WAKE_FAIL = min (s.get Fld.FLT_SPARE_WAKE_FAIL + 1) 255 ∧
    (s.spareDown q u x).get ⟨Reg.FLT_LAST, 0, 4⟩ = 2 := by
  unfold State.spareDown
  extract_lets w
  rw [State.get_raise, State.get_raise]
  have hrec : ((s.fence q u).countWakeFail q).keeps w [Reg.FLT_LAST, Reg.FLT_LASTT] := State.keeps_faultRecord _ _ _ _ _
  refine ⟨?_, ?_⟩
  · rw [hrec.get _ (by decide), State.countWakeFail_shown,
      (s.keeps_fence q u).get Fld.FLT_SPARE_WAKE_FAIL (not_mem_fenceRegs q (by decide) (by decide))]
  · have hlast := (((s.fence q u).countWakeFail q).faultRecord_shown 2 (q * 8 + u) (some x.task) 2).1
    exact (congrArg (bitsGet · 0 4) hlast).trans (bitsGet_kind 2 ((q * 8 + u) % 256) x.task 2 true (by decide))

theorem State.touch_reportSpare (s : State) (q u : Nat) (x : TaskInst) : State.Touch [.port] (s.fence q u) (s.spareDown q u x) := by
  have hcount : State.Touch [.port] (s.fence q u) ((s.fence q u).countWakeFail q) :=
    ((State.Touch.refl _ (s.fence q u)).count Fld.FLT_SPARE_WAKE_FAIL).count (Fld.CLU_RERUN_WAKE_FAIL q)
  exact (hcount.faultRecord _ _ _ _ (by decide)).raise _ _ _

theorem State.touch_spareDown (s : State) (q u : Nat) (x : TaskInst) : State.Touch [.fab, .port] s (s.spareDown q u x) :=
  ((State.Touch.refl _ s).fence q u (by decide)).call (s.touch_reportSpare q u x) (by decide)

/-- R13: a run whose spare has failed takes the next option. -/
def State.resend (s : State) (x : TaskInst) : State := match s.taskDef x.task with
  | some d => s.redispatch d x
  | none => s

/-- R230: a wake test that fails in a cluster that keeps another unit. -/
theorem State.spareWakeDone_fail_eq {s : State} {q u v : Nat} {x : TaskInst} (hi : s.isolated (q / 4) = false)
    (hu : s.unitState q u = 2) (hx : (s.instOn q u).filter (fun x => decide (x.phase = .wake)) = some x) (hv : v < 8)
    (hs : ((s.spareDown q u x).resend x).unitState q v ≠ 3) : s.spareWakeDone q u false = (s.spareDown q u x).resend x := by
  unfold State.spareWakeDone
  rw [hx]
  refine (if_neg (by simp [hi, hu])).trans ((if_neg Bool.false_ne_true).trans ?_)
  exact if_neg fun h => Bool.false_ne_true ((State.not_allFenced hv hs).symm.trans h)

theorem State.spareDown_fab (s : State) (q : Fin 32) (u : Fin 8) (x : TaskInst) :
    (s.spareDown q u x).fab = { s.fab with arb := (s.spareDown q u x).fab.arb } := by
  have hf : (s.spareDown q u x).fab = (s.fence q u).fab := (s.touch_reportSpare q u x) .fab (by decide)
  rw [hf]
  exact (s.fence_arb q u).fab

theorem State.spareDown_event (s : State) (q u : Nat) (x : TaskInst) : ∃ e ∈ (s.spareDown q u x).recd.port, e.code = 0x2802 :=
  ⟨_, List.mem_append_right _ (List.mem_singleton.2 rfl), rfl⟩

/-- R13, R230: the fifth clause of O36. -/
theorem spareWakeDone_fails {s : State} {q : Fin 32} {u v : Fin 8} {x : TaskInst} {d : TaskDef} (hL : s.Live)
    (hi : s.isolated (q / 4) = false) (hu : s.unitState q u = 2) (hx : s.instOn q u = some x) (hw : x.phase = .wake)
    (hd : s.taskDef x.task = some d) (hp : s.placeOf x.task = some q.val) (hc : s.canRun q d = true) (hv : s.freeUnit q = some v.val) :
    ∃ t, exec (.spareWakeDone q u false) s = .next t ∧ t.unitState q u = 3 ∧ t.unitState q v = 1 ∧
    t.get Fld.FLT_SPARE_WAKE_FAIL = min (s.get Fld.FLT_SPARE_WAKE_FAIL + 1) 255 ∧ t.get ⟨Reg.FLT_LAST, 0, 4⟩ = 2 ∧
    (∃ e ∈ t.recd.port, e.code = 0x2802) ∧ State.Touch [.fab, .port] s t := by
  obtain ⟨hv0, -⟩ := State.freeUnit_spec hv
  have huv : v.val ≠ u.val := fun e => absurd (hu.symm.trans (e ▸ hv0)) (by decide)
  have hfab := s.spareDown_fab q u x
  obtain ⟨e, hev, hcode⟩ := s.spareDown_event q u x
  have hfen : s.Fenced q u (s.spareDown q u x) := (s.fenced_fence q u).later (s.keeps_spareDown q u x)
  have hT := s.touch_spareDown q u x
  have hplace : (s.spareDown q u x).placeOf x.task = some q.val := by
    unfold State.placeOf at hp ⊢
    rw [hfab]
    exact hp
  have hmem : x ∈ (s.spareDown q u x).fab.insts := by
    rw [hfab]
    exact (State.instOn_spec hx).1
  have hv3 : (s.spareDown q u x).unitState q v ≠ 3 := by
    rw [hfen.others v v.isLt huv, hv0]
    decide
  have hre : (s.spareDown q u x).redispatch d x = (s.spareDown q u x).startRerun d x q v :=
    State.redispatch_free hplace (hfen.canRun hc v.isLt hv3) ((hfen.freeUnit (by omega)).trans hv)
  obtain ⟨hrun, hoth, -, hk⟩ := State.startRerun_shown (d := d) v hplace hmem
  have hsend : (s.spareDown q u x).resend x = (s.spareDown q u x).startRerun d x q v := by
    unfold State.resend
    rw [State.taskDef_of_cfg (hT .cfg (by decide)).1, hd]
    exact hre
  have heq : s.spareWakeDone q u false = (s.spareDown q u x).startRerun d x q v := by
    refine (State.spareWakeDone_fail_eq hi hu (by rw [hx]; exact Option.filter_some_pos (decide_eq_true hw)) v.isLt ?_).trans hsend
    rw [hsend, hrun]
    decide
  have hTr : State.Touch [.fab] (s.spareDown q u x) ((s.spareDown q u x).startRerun d x q v) :=
    (State.Touch.refl _ _).startRerun d x q v (fun _ => id)
  have hport : (s.spareDown q u x).recd.port <+: ((s.spareDown q u x).startRerun d x q v).recd.port := hTr .port (by decide)
  obtain ⟨hwake, hkind⟩ := s.spareDown_shown q u x
  refine ⟨((s.spareDown q u x).startRerun d x q v).mirror,
    congrArg Host.Outcome.next ((State.running_released hL.released _).trans (congrArg State.mirror heq)), ?_, ?_, ?_, ?_,
    ⟨e, by rw [State.mirror_recd]; exact hport.subset hev, hcode⟩,
    (hT.call hTr (by decide)).mirror (by decide)⟩
  · rw [State.unitState_mirror, hoth u u.isLt huv.symm]
    exact hfen.unit
  · rw [State.unitState_mirror]
    exact hrun
  · rw [State.get_mirror _ _ (by decide) (by decide) (by decide), hk.get _ (not_mem_unitRegs q (by decide)), hwake]
  · rw [State.get_mirror _ _ (by decide) (by decide) (by decide), hk.get _ (not_mem_unitRegs q (by decide)), hkind]

/-- Settles O36: the clauses one by one. -/
theorem faultyUnitsAreFenced : Obligations.FaultyUnitsAreFenced := by
  unfold Obligations.FaultyUnitsAreFenced
  refine ⟨fun s q u c k hc hL hi hu hx hv => unitFault_idle hL ?_ hi hu hx hv,
    fun s q u v x d hL hi hu hx hf hr hd ht hp hc hv => unitFault_again hL hi hu hx hf hr hd ht hp hc hv,
    fun s q u x d hL hi hu hx hf hr hd ht hc hv => unitFault_abandons hL hi hu hx hf hr hd ht hc hv,
    fun s q u x d hL hi hu hx hw hd => spareWakeDone_passes hL hi hu hx hw hd,
    fun s q u v x d hL hi hu hx hw hd hp hc hv => spareWakeDone_fails hL hi hu hx hw hd hp hc hv⟩
  obtain ⟨rfl, rfl⟩ | ⟨rfl, rfl⟩ := hc
  · rfl
  · rfl

end Sys2Proof.Machine
end

section
/-!
Arbiter ports (R50 to R53, R56): what a request, the end of a grant and a write of CTRL leave at a port, and which requester a grant
decision takes.  Settles O34 and O35.
-/
namespace Sys2Proof.Machine

/-! The fields and the lost counts of a port. -/

/-- A REQ bit after one of them is set. -/
theorem State.get_set_portReq (s : State) {p : ArbPort} {i : Nat} (hi : i < portIdx p) (v j : Nat) :
    (s.set (portReq p i) v).get (portReq p j) = if j = i then v % 2 else s.get (portReq p j) := by
  have hlt := portIdx_le p
  split
  · next h =>
    subst h
    exact State.get_set_self s _ v (show 4 + j + 1 ≤ 32 by omega)
  · exact State.get_set_disjoint s _ _ v (show 4 + i + 1 ≤ 32 by omega) (show 1 ≤ 32 by decide)
      (show 4 + i + 1 ≤ 4 + j ∨ 4 + j + 1 ≤ 4 + i by omega)

/-- A REQ bit and the OWNER field lie apart. -/
theorem State.get_set_portReq_owner (s : State) {p : ArbPort} {i : Nat} (hi : i < portIdx p) (v : Nat) :
    (s.set (portReq p i) v).get (portOwner p) = s.get (portOwner p) := by
  have hlt := portIdx_le p
  exact State.get_set_disjoint s _ _ v (show 4 + i + 1 ≤ 32 by omega) (show 4 ≤ 32 by decide) (.inr (show 0 + 4 ≤ 4 + i by omega))

theorem State.get_set_portReq_mask (s : State) {p : ArbPort} {i : Nat} (hi : i < portIdx p) (v j : Nat) :
    (s.set (portReq p i) v).get (portMask p j) = s.get (portMask p j) := by
  have hlt := portIdx_le p
  exact State.get_set_disjoint s _ _ v (show 4 + i + 1 ≤ 32 by omega) (show 1 ≤ 32 by decide)
    (.inl (show 4 + i + 1 ≤ 4 + portIdx p + j by omega))

theorem State.get_set_portOwner_req (s : State) (p : ArbPort) (v j : Nat) :
    (s.set (portOwner p) v).get (portReq p j) = s.get (portReq p j) :=
  State.get_set_disjoint s _ _ v (show 0 + 4 ≤ 32 by decide) (show 1 ≤ 32 by decide) (.inl (show 0 + 4 ≤ 4 + j by omega))

theorem State.get_set_portOwner_mask (s : State) (p : ArbPort) (v j : Nat) :
    (s.set (portOwner p) v).get (portMask p j) = s.get (portMask p j) :=
  State.get_set_disjoint s _ _ v (show 0 + 4 ≤ 32 by decide) (show 1 ≤ 32 by decide) (.inl (show 0 + 4 ≤ 4 + portIdx p + j by omega))

theorem State.get_set_portOwner_self (s : State) (p : ArbPort) {v : Nat} (hv : v < 16) : (s.set (portOwner p) v).get (portOwner p) = v :=
  (State.get_set_self s (portOwner p) v (by show 0 + 4 ≤ 32; decide)).trans (Nat.mod_eq_of_lt hv)

theorem State.arbSt_modArb (s : State) (p : ArbPort) (f : ArbSt → ArbSt) : (s.modArb p f).arbSt p = f (s.arbSt p) :=
  cellsGet_set_self _ _ _ _

theorem State.arbSt_set (s : State) (f : Field) (v : Nat) (p : ArbPort) : (s.set f v).arbSt p = s.arbSt p := rfl

theorem State.lostOf_set (s : State) (f : Field) (v : Nat) (p : ArbPort) (i : Nat) : (s.set f v).lostOf p i = s.lostOf p i := rfl

/-- A lost count after one of them is set. -/
theorem State.lostOf_setLost (s : State) (p : ArbPort) (i n j : Nat) :
    (s.setLost p i n).lostOf p j = if j = i then n else s.lostOf p j := by
  unfold State.lostOf State.setLost
  rw [State.arbSt_modArb]
  split
  · next h => rw [h, cellsGet_set_self]
  · next h => exact cellsGet_set_ne _ _ _ h

theorem State.grants_setLost (s : State) (p : ArbPort) (i n : Nat) : ((s.setLost p i n).arbSt p).grants = (s.arbSt p).grants := by
  unfold State.setLost
  rw [State.arbSt_modArb]

/-- The lost counts of a list of requesters, each changed by a rule of its own. -/
theorem State.each_setLost (p : ArbPort) (g : Nat → Nat → Nat) (l : List Nat) (hl : l.Nodup) (s : State) :
    (∀ j, (s.each l (fun i s => s.setLost p i (g i (s.lostOf p i)))).lostOf p j =
      if j ∈ l then g j (s.lostOf p j) else s.lostOf p j) ∧
    ((s.each l (fun i s => s.setLost p i (g i (s.lostOf p i)))).arbSt p).grants = (s.arbSt p).grants := by
  induction l generalizing s with
  | nil => exact ⟨fun j => rfl, rfl⟩
  | cons i l ih =>
    obtain ⟨hi, hl⟩ := List.nodup_cons.1 hl
    obtain ⟨hlost, hgrants⟩ := ih hl (s.setLost p i (g i (s.lostOf p i)))
    refine ⟨fun j => (hlost j).trans ?_, hgrants.trans (s.grants_setLost p i _)⟩
    rw [State.lostOf_setLost]
    by_cases hj : j = i
    · subst hj
      simp [hi]
    · simp [hj]

theorem State.mem_arbWaiting {s : State} {p : ArbPort} {i : Nat} :
    i ∈ s.arbWaiting p ↔ i < portIdx p ∧ s.get (portReq p i) = 1 ∧ s.get (portMask p i) = 0 := by
  simp [State.arbWaiting]

/-! The choice of a decision (R50). -/

theorem firstMax_mem {key : Nat → Nat × Nat} {l : List Nat} {j : Nat} (h : firstMax key l = some j) : j ∈ l := by
  induction l generalizing j with
  | nil => exact absurd h (by simp [firstMax])
  | cons i l ih =>
    unfold firstMax at h
    split at h
    · exact List.mem_cons.2 (.inl (Option.some.inj h).symm)
    · next k hk =>
      split at h
      · exact List.mem_cons_of_mem _ (Option.some.inj h ▸ ih hk)
      · exact List.mem_cons.2 (.inl (Option.some.inj h).symm)

theorem lexLt_asymm {a b : Nat × Nat} (h : lexLt a b = true) : lexLt b a = false := by
  simp only [lexLt, decide_eq_true_eq, decide_eq_false_iff_not] at h ⊢
  omega

/-- In a rising list the element is taken whose key is above each other key, or as high as the key of a later element. -/
theorem firstMax_eq {key : Nat → Nat × Nat} {l : List Nat} {w : Nat} (hl : l.Pairwise (· < ·)) (hw : w ∈ l)
    (hk : ∀ i ∈ l, i ≠ w → lexLt (key i) (key w) = true ∨ (lexLt (key w) (key i) = false ∧ w < i)) : firstMax key l = some w := by
  induction l with
  | nil => exact absurd hw List.not_mem_nil
  | cons i l ih =>
    obtain ⟨hi, hl⟩ := List.pairwise_cons.1 hl
    unfold firstMax
    obtain rfl | hw := List.mem_cons.1 hw
    · split
      · rfl
      · next j hj =>
        have hjl := firstMax_mem hj
        have hlow : lexLt (key w) (key j) = false :=
          (hk j (List.mem_cons_of_mem _ hjl) (hi j hjl).ne').elim lexLt_asymm (·.1)
        rw [if_neg (by simp [hlow])]
    · rw [ih hl hw fun j hj => hk j (List.mem_cons_of_mem _ hj)]
      have hlt := hi w hw
      obtain h | ⟨-, h⟩ := hk i List.mem_cons_self hlt.ne
      · exact if_pos h
      · omega

/-! What a decision leaves. -/

/-- A grant decision for requester `w`: it owns the port, its lost count is 0, and those of the others that waited have risen. -/
structure State.Granted (p : ArbPort) (w : Nat) (s t : State) : Prop where
  owner : t.get (portOwner p) = w
  won : t.lostOf p w = 0
  lost : ∀ i ∈ s.arbWaiting p, i ≠ w → t.lostOf p i = s.lostOf p i + 1
  others : ∀ i, i ∉ s.arbWaiting p → t.lostOf p i = s.lostOf p i
  grants : (t.arbSt p).grants = (s.arbSt p).grants + 1
  requests : ∀ i, t.get (portReq p i) = s.get (portReq p i)

/-- R50, R52: the decision of a free port takes the waiting requester that the order of the decision puts first. -/
theorem State.arbDecide_granted {s : State} {p : ArbPort} {w : Nat} (ho : s.get (portOwner p) = 15) (hw : w ∈ s.arbWaiting p)
    (hk : ∀ i ∈ s.arbWaiting p, i ≠ w →
      let key := s.arbKey p (decide (((s.arbSt p).grants + 1) % s.portN p = 0))
      lexLt (key i) (key w) = true ∨ (lexLt (key w) (key i) = false ∧ w < i)) : s.Granted p w (s.arbDecide p) := by
  have hlt := portIdx_le p
  have hw16 : w < 16 := by
    have := (State.mem_arbWaiting.1 hw).1
    omega
  have hsort : (s.arbWaiting p).Pairwise (· < ·) := List.pairwise_lt_range.filter _
  obtain ⟨hlost, hgrants⟩ := State.each_setLost p (fun i n => if i = w then 0 else n + 1) (s.arbWaiting p)
    (hsort.imp Nat.ne_of_lt) s
  have hregs := (s.atPort_setLosts p (s.arbWaiting p) (fun s i => if i = w then 0 else s.lostOf p i + 1)).2
  have heq : s.arbDecide p = ((s.each (s.arbWaiting p) (fun i s => s.setLost p i (if i = w then 0 else s.lostOf p i + 1))).modArb p
      (fun a => { a with grants := (s.arbSt p).grants + 1 })).set (portOwner p) w := by
    unfold State.arbDecide
    rw [if_neg (not_not.2 ho)]
    dsimp only
    rw [firstMax_eq hsort hw hk]
  have hcounts : ∀ i, (s.arbDecide p).lostOf p i =
      if i ∈ s.arbWaiting p then (if i = w then 0 else s.lostOf p i + 1) else s.lostOf p i := by
    intro i
    rw [← hlost i, heq]
    unfold State.lostOf
    rw [State.arbSt_set, State.arbSt_modArb]
  refine ⟨?_, ?_, fun i hi hiw => ?_, fun i hi => ?_, ?_, fun i => ?_⟩
  · rw [heq, State.get_set_portOwner_self _ p hw16]
  · rw [hcounts, if_pos hw, if_pos rfl]
  · rw [hcounts, if_pos hi, if_neg hiw]
  · rw [hcounts, if_neg hi]
  · rw [heq, State.arbSt_set, State.arbSt_modArb]
  · rw [heq, State.get_set_portOwner_req]
    exact State.get_of_regs hregs _

/-- R50: a port that is owned decides nothing. -/
theorem State.arbDecide_owned {s : State} {p : ArbPort} (h : s.get (portOwner p) ≠ 15) : s.arbDecide p = s := if_pos h

/-- R50: nothing is decided where nobody waits. -/
theorem State.arbDecide_idle {s : State} {p : ArbPort} (h : s.arbWaiting p = []) : s.arbDecide p = s := by
  unfold State.arbDecide
  rw [h]
  split <;> rfl

/-! A request and the end of a grant. -/

/-- R50: a request is raised: its REQ bit is set, its lost count is 0. -/
def State.asking (s : State) (p : ArbPort) (i : Nat) : State := (s.set (portReq p i) 1).setLost p i 0

theorem State.arbRequest_eq {s : State} {p : ArbPort} {i : Nat} (hi : i < portIdx p) (hr : s.get (portReq p i) = 0)
    (hm : s.get (portMask p i) = 0) : s.arbRequest p i = (s.asking p i).arbDecide p := by
  unfold State.arbRequest
  rw [if_neg (by simp [hr, hm, hi])]
  rfl

theorem State.asking_shown (s : State) {p : ArbPort} {i : Nat} (hi : i < portIdx p) :
    (s.asking p i).get (portOwner p) = s.get (portOwner p) ∧
    (∀ j, (s.asking p i).get (portReq p j) = if j = i then 1 else s.get (portReq p j)) ∧
    (∀ j, (s.asking p i).get (portMask p j) = s.get (portMask p j)) ∧
    (s.asking p i).lostOf p i = 0 ∧ ((s.asking p i).arbSt p).grants = (s.arbSt p).grants :=
  ⟨s.get_set_portReq_owner hi 1, s.get_set_portReq hi 1, s.get_set_portReq_mask hi 1,
    (State.lostOf_setLost _ p i 0 i).trans (if_pos rfl), State.grants_setLost _ p i 0⟩

theorem State.atPort_arbRequest (s : State) (p : ArbPort) (i : Nat) : s.AtPort p (s.arbRequest p i) := by
  unfold State.arbRequest
  split
  · exact .refl p s
  · exact (((State.AtPort.refl p s).set _ _ _).trans (State.atPort_modArb _ p _)).trans (State.atPort_arbDecide _ p)

/-- R53: the grant of a port has ended: the owner's REQ bit stays where it asks again, its lost count is 0, the port is free. -/
def State.handedBack (s : State) (p : ArbPort) (again : Bool) : State :=
  ((s.set (portReq p (s.get (portOwner p))) (if again then 1 else 0)).setLost p (s.get (portOwner p)) 0).set (portOwner p) 15

theorem State.arbEnd_eq {s : State} {p : ArbPort} (h : s.get (portOwner p) ≠ 15) (again : Bool) :
    s.arbEnd p again = (s.handedBack p again).arbDecide p := by
  unfold State.arbEnd
  dsimp only
  rw [if_neg h]
  rfl

theorem State.atPort_handedBack (s : State) (p : ArbPort) (again : Bool) : s.AtPort p (s.handedBack p again) :=
  (((State.AtPort.refl p s).set _ _ _).trans (State.atPort_modArb _ p _)).set _ _ _

theorem State.atPort_arbEnd (s : State) (p : ArbPort) (again : Bool) : s.AtPort p (s.arbEnd p again) := by
  by_cases h : s.get (portOwner p) = 15
  · unfold State.arbEnd
    dsimp only
    rw [if_pos h]
    exact .refl p s
  · rw [State.arbEnd_eq h]
    exact (s.atPort_handedBack p again).trans (State.atPort_arbDecide _ p)

theorem State.handedBack_shown {s : State} {p : ArbPort} (h : s.get (portOwner p) < portIdx p) (again : Bool) :
    (s.handedBack p again).get (portOwner p) = 15 ∧
    (∀ j, (s.handedBack p again).get (portReq p j) =
      if j = s.get (portOwner p) then again.toNat else s.get (portReq p j)) ∧
    (∀ j, (s.handedBack p again).get (portMask p j) = s.get (portMask p j)) ∧
    (∀ j, (s.handedBack p again).lostOf p j = if j = s.get (portOwner p) then 0 else s.lostOf p j) ∧
    ((s.handedBack p again).arbSt p).grants = (s.arbSt p).grants := by
  refine ⟨State.get_set_portOwner_self _ p (by decide), fun j => ?_, fun j => ?_, fun j => ?_, ?_⟩
  · unfold State.handedBack
    rw [State.get_set_portOwner_req]
    refine (s.get_set_portReq h _ j).trans ?_
    cases again <;> rfl
  · unfold State.handedBack
    rw [State.get_set_portOwner_mask]
    exact s.get_set_portReq_mask h _ j
  · unfold State.handedBack
    rw [State.lostOf_set, State.lostOf_setLost, State.lostOf_set]
  · unfold State.handedBack
    rw [State.arbSt_set, State.grants_setLost, State.arbSt_set]

/-- R52: the priorities and N of a port lie beside its status register. -/
theorem State.AtPort.order {p : ArbPort} {s t : State} (h : s.AtPort p t) :
    (∀ i, t.portPrio p i = s.portPrio p i) ∧ t.portN p = s.portN p := by
  have hget : ∀ f : Field, f.addr ≠ portStat p → t.get f = s.get f := fun f hf =>
    h.keeps.get f fun hm => hf (List.mem_singleton.1 hm)
  cases p with
  | bank q b =>
    obtain ⟨hA, hB, hC⟩ : Reg.BANKARB_PRIOA q b ≠ Reg.BANKARB_STAT q b ∧ Reg.BANKARB_PRIOB q b ≠ Reg.BANKARB_STAT q b ∧
        Reg.BANKARB_CTRL q b ≠ Reg.BANKARB_STAT q b := by
      simp only [Reg.BANKARB_PRIOA, Reg.BANKARB_PRIOB, Reg.BANKARB_CTRL, Reg.BANKARB_STAT]
      omega
    refine ⟨fun i => ?_, congrArg (· + 1) (hget _ hC)⟩
    unfold State.portPrio
    dsimp only
    rw [hget _ hA, hget _ hB, hget _ hB]
  | egress g =>
    obtain ⟨hP, hC⟩ : Reg.EGRARB_PRIO g ≠ Reg.EGRARB_STAT g ∧ Reg.EGRARB_CTRL g ≠ Reg.EGRARB_STAT g := by
      simp only [Reg.EGRARB_PRIO, Reg.EGRARB_CTRL, Reg.EGRARB_STAT]
      omega
    refine ⟨fun i => ?_, congrArg (· + 1) (hget _ hC)⟩
    unfold State.portPrio
    dsimp only
    rw [hget _ hP, hget _ hP, hget _ hP]

/-! What the commands of a port show. -/

/-- The status register of a port lies in the fabric's windows. -/
theorem portStat_high (p : ArbPort) : 0x10000000 ≤ portStat p := by
  cases p with
  | bank q b => exact (fabric_high q 0 b).2.2.1
  | egress g =>
    show 0x10000000 ≤ Reg.regionBase g + 8
    simp only [Reg.regionBase]
    omega

/-- From `s` to `t` one port's status register, and the fabric beside the registers, are as an operation at that port leaves them. -/
structure State.PortDone (p : ArbPort) (s u t : State) : Prop where
  field : ∀ lo n, t.get ⟨portStat p, lo, n⟩ = u.get ⟨portStat p, lo, n⟩
  fab : t.fab = u.fab
  keeps : s.keeps t [portStat p]
  touch : State.Touch [.fab] s t

/-- A command that acts at one port. -/
theorem State.Live.atPort {s : State} (h : s.Live) {p : ArbPort} {c : Instr} {f : State → State}
    (hc : exec c s = .next (s.running f)) (hp : s.AtPort p (f s)) (hT : State.Touch [.fab] s (f s)) :
    ∃ t, exec c s = .next t ∧ s.PortDone p (f s) t := by
  refine ⟨(f s).mirror, hc.trans (congrArg Host.Outcome.next (State.running_released h.released f)),
    fun lo n => State.get_of_rd _ (State.rd_mirror_fabric _ (portStat_high p)), rfl,
    hp.keeps.mirror h.inv (hT .mgt (by decide)) (hT .img (by decide)) fun a ha hm => ?_, hT.mirror (by decide)⟩
  have hlow : ∀ a ∈ [Reg.MGT_STAT, Reg.SAF_STAT, Reg.IMG_STAT, Reg.SAF_SO, Reg.SAF_SORB], a < 0x10000000 := by decide
  exact absurd (List.mem_singleton.1 hm ▸ hlow a ha) (Nat.not_lt.2 (portStat_high p))

theorem arbRequest_done {s : State} (h : s.Live) (p : ArbPort) (i : Fin 10) :
    ∃ t, exec (.arbRequest p i) s = .next t ∧ s.PortDone p (s.arbRequest p i) t :=
  h.atPort (f := fun s => s.arbRequest p i) rfl (s.atPort_arbRequest p i)
    ((State.Touch.refl _ s).arbRequest p i (by decide))

theorem State.PortDone.lostOf {p : ArbPort} {s u t : State} (h : s.PortDone p u t) (i : Nat) : t.lostOf p i = u.lostOf p i := by
  unfold State.lostOf State.arbSt
  rw [h.fab]

theorem State.PortDone.grants {p : ArbPort} {s u t : State} (h : s.PortDone p u t) : (t.arbSt p).grants = (u.arbSt p).grants := by
  unfold State.arbSt
  rw [h.fab]

/-- R50: a request to a port that is free and that nobody waits for is granted at once. -/
theorem arbRequest_granted {s : State} (h : s.Live) {p : ArbPort} {i : Fin 10} (hi : i.val < portIdx p)
    (ho : s.get (portOwner p) = 15) (hw : s.arbWaiting p = []) (hr : s.get (portReq p i) = 0) (hm : s.get (portMask p i) = 0) :
    ∃ t, exec (.arbRequest p i) s = .next t ∧ t.get (portOwner p) = i ∧
    t.get (portReq p i) = 1 ∧ t.lostOf p i = 0 ∧ (t.arbSt p).grants = (s.arbSt p).grants + 1 ∧ s.keeps t [portStat p] ∧
    t.fab = { s.fab with arb := t.fab.arb } ∧ State.Touch [.fab] s t := by
  obtain ⟨t, ht, hd⟩ := arbRequest_done h p i
  obtain ⟨hown, hreq, hmask, -, hgrants⟩ := s.asking_shown hi
  have heq := State.arbRequest_eq hi hr hm
  have hfab : (s.arbRequest p i).fab = { s.fab with arb := (s.arbRequest p i).fab.arb } := (s.atPort_arbRequest p i).arb.fab
  have hmem : i.val ∈ (s.asking p i).arbWaiting p :=
    State.mem_arbWaiting.2 ⟨hi, (hreq i).trans (if_pos rfl), (hmask i).trans hm⟩
  have honly : ∀ j ∈ (s.asking p i).arbWaiting p, j = i.val := fun j hj => by
    obtain ⟨hj, hjr, hjm⟩ := State.mem_arbWaiting.1 hj
    by_contra hne
    rw [hreq, if_neg hne] at hjr
    have : j ∈ s.arbWaiting p := State.mem_arbWaiting.2 ⟨hj, hjr, (hmask j).symm.trans hjm⟩
    simp [hw] at this
  have hg := State.arbDecide_granted (hown.trans ho) hmem fun j hj hne => absurd (honly j hj) hne
  rw [← heq] at hg
  exact ⟨t, ht, (hd.field 0 4).trans hg.owner, (hd.field _ _).trans ((hg.requests i).trans ((hreq i).trans (if_pos rfl))),
    (hd.lostOf i).trans hg.won, hd.grants.trans (hg.grants.trans (congrArg (· + 1) hgrants)), hd.keeps,
    by rw [hd.fab]; exact hfab, hd.touch⟩

/-- R50: a request to a port that another holds waits. -/
theorem arbRequest_waits {s : State} (h : s.Live) {p : ArbPort} {i : Fin 10} (hi : i.val < portIdx p)
    (ho : s.get (portOwner p) < portIdx p) (hr : s.get (portReq p i) = 0) (hm : s.get (portMask p i) = 0) :
    ∃ t, exec (.arbRequest p i) s = .next t ∧ t.get (portOwner p) = s.get (portOwner p) ∧
    t.get (portReq p i) = 1 ∧ t.lostOf p i = 0 ∧ s.keeps t [portStat p] ∧ State.Touch [.fab] s t := by
  obtain ⟨t, ht, hd⟩ := arbRequest_done h p i
  obtain ⟨hown, hreq, -, hlost, -⟩ := s.asking_shown hi
  have hlt := portIdx_le p
  have heq : s.arbRequest p i = s.asking p i := (State.arbRequest_eq hi hr hm).trans (State.arbDecide_owned (by omega))
  rw [heq] at hd
  exact ⟨t, ht, (hd.field 0 4).trans hown, (hd.field _ _).trans ((hreq i).trans (if_pos rfl)), (hd.lostOf i).trans hlost,
    hd.keeps, hd.touch⟩

/-- R50: while a port has an owner, a request decides nothing. -/
theorem arbRequest_owned {s : State} (h : s.Live) (p : ArbPort) (i : Fin 10) (ho : s.get (portOwner p) ≠ 15) :
    ∃ t, exec (.arbRequest p i) s = .next t ∧ t.get (portOwner p) = s.get (portOwner p) ∧
    (t.arbSt p).grants = (s.arbSt p).grants ∧ s.keeps t [portStat p] ∧ State.Touch [.fab] s t := by
  obtain ⟨t, ht, hd⟩ := arbRequest_done h p i
  suffices hs : (s.arbRequest p i).get (portOwner p) = s.get (portOwner p) ∧
      ((s.arbRequest p i).arbSt p).grants = (s.arbSt p).grants from
    ⟨t, ht, (hd.field 0 4).trans hs.1, hd.grants.trans hs.2, hd.keeps, hd.touch⟩
  unfold State.arbRequest
  split
  · exact ⟨rfl, rfl⟩
  · next hn =>
    obtain ⟨hown, -, -, -, hgrants⟩ := s.asking_shown (p := p) (i := i) (by omega)
    have hdec : (s.asking p i).arbDecide p = s.asking p i := State.arbDecide_owned (hown.symm ▸ ho)
    exact ⟨(congrArg (·.get (portOwner p)) hdec).trans hown, (congrArg (fun u : State => (u.arbSt p).grants) hdec).trans hgrants⟩

/-- The commands that end a grant, and whether the owner asks again at once. -/
def grantEnds (p : ArbPort) : List (Instr × Bool) :=
  [(Instr.arbBurstLimit p true, true), (.arbBurstLimit p false, false), (.arbOwnerRelease p, false)]

/-- R53: each of them ends the grant in progress. -/
theorem grantEnds_done {s : State} (h : s.Live) {p : ArbPort} {c : Instr} {again : Bool} (hc : (c, again) ∈ grantEnds p) :
    ∃ t, exec c s = .next t ∧ s.PortDone p (s.arbEnd p again) t := by
  have he : exec c s = .next (s.running fun s => s.arbEnd p again) := by
    simp only [grantEnds, List.mem_cons, Prod.mk.injEq, List.not_mem_nil, or_false] at hc
    obtain ⟨rfl, rfl⟩ | ⟨rfl, rfl⟩ | ⟨rfl, rfl⟩ := hc
    · rfl
    · rfl
    · rfl
  exact h.atPort he (s.atPort_arbEnd p again) ((State.Touch.refl _ s).arbEnd p again (by decide))

/-- Who waits once the grant in progress has ended: the unmasked requesters whose request stands, and the owner if it asks again. -/
def State.waitsNext (s : State) (p : ArbPort) (again : Bool) (i : Nat) : Prop := i < portIdx p ∧ s.get (portMask p i) = 0 ∧
  (if i = s.get (portOwner p) then again = true else s.get (portReq p i) = 1)

theorem State.mem_handedBack_waiting {s : State} {p : ArbPort} (h : s.get (portOwner p) < portIdx p) {again : Bool} {i : Nat} :
    i ∈ (s.handedBack p again).arbWaiting p ↔ s.waitsNext p again i := by
  obtain ⟨-, hreq, hmask, -, -⟩ := State.handedBack_shown h again
  rw [State.mem_arbWaiting, hreq, hmask, State.waitsNext]
  split
  · cases again <;> simp
  · tauto

/-- R53: where nobody waits, the end of a grant leaves the port free. -/
theorem grantEnds_free {s : State} (h : s.Live) {p : ArbPort} {c : Instr} {again : Bool} (hc : (c, again) ∈ grantEnds p)
    (ho : s.get (portOwner p) < portIdx p) (hw : ∀ i, ¬ s.waitsNext p again i) : ∃ t, exec c s = .next t ∧
    t.get (portOwner p) = 15 ∧ t.get (portReq p (s.get (portOwner p))) = again.toNat ∧ t.lostOf p (s.get (portOwner p)) = 0 ∧
    (t.arbSt p).grants = (s.arbSt p).grants ∧ s.keeps t [portStat p] ∧ State.Touch [.fab] s t := by
  obtain ⟨t, ht, hd⟩ := grantEnds_done h hc
  obtain ⟨hown, hreq, -, hlost, hgrants⟩ := State.handedBack_shown ho again
  have hlt := portIdx_le p
  have heq : s.arbEnd p again = s.handedBack p again := (State.arbEnd_eq (by omega) again).trans
    (State.arbDecide_idle (List.eq_nil_iff_forall_not_mem.2 fun i hi => hw i ((State.mem_handedBack_waiting ho).1 hi)))
  rw [heq] at hd
  exact ⟨t, ht, (hd.field 0 4).trans hown, (hd.field _ _).trans ((hreq _).trans (if_pos rfl)),
    (hd.lostOf _).trans ((hlost _).trans (if_pos rfl)), hd.grants.trans hgrants, hd.keeps, hd.touch⟩

/-- R50: the lost counts that the decision at the end of a grant weighs: the owner's starts again. -/
def State.lostNext (s : State) (p : ArbPort) (i : Nat) : Nat := if i = s.get (portOwner p) then 0 else s.lostOf p i

/-- R50: the effective priorities that it weighs. -/
def State.prioNext (s : State) (p : ArbPort) (i : Nat) : Nat := min 15 (s.portPrio p i + s.lostNext p i)

/-- R50, R52: requester `i` comes before `j` in that decision, but for their indices. -/
def State.aboveNext (s : State) (p : ArbPort) (i j : Nat) : Prop :=
  if ((s.arbSt p).grants + 1) % s.portN p = 0 then
    s.lostNext p j < s.lostNext p i ∨ (s.lostNext p i = s.lostNext p j ∧ s.prioNext p j < s.prioNext p i)
  else s.prioNext p j < s.prioNext p i ∨ (s.prioNext p i = s.prioNext p j ∧ s.lostNext p j < s.lostNext p i)

/-- The order of the decision is the lexicographic one of its keys. -/
theorem State.lexLt_arbKey_iff {s : State} {p : ArbPort} (h : s.get (portOwner p) < portIdx p) (again : Bool) (i j : Nat) :
    let u := s.handedBack p again
    let key := u.arbKey p (decide (((u.arbSt p).grants + 1) % u.portN p = 0))
    lexLt (key j) (key i) = true ↔ s.aboveNext p i j := by
  obtain ⟨-, -, -, hlost, hgrants⟩ := State.handedBack_shown h again
  obtain ⟨hprio, hN⟩ := (s.atPort_handedBack p again).order
  have hkey : ∀ k, (s.handedBack p again).lostOf p k = s.lostNext p k ∧ (s.handedBack p again).effPrio p k = s.prioNext p k :=
    fun k => ⟨hlost k, by unfold State.effPrio; rw [hlost, hprio]; rfl⟩
  dsimp only
  unfold State.arbKey State.aboveNext
  rw [hgrants, hN, (hkey i).1, (hkey i).2, (hkey j).1, (hkey j).2]
  by_cases hf : ((s.arbSt p).grants + 1) % s.portN p = 0
  · simp only [hf, decide_true, if_true, lexLt, decide_eq_true_eq]
    omega
  · simp only [hf, decide_false, Bool.false_eq_true, if_false, lexLt, decide_eq_true_eq]
    omega

/-- R50, R53: the end of a grant gives the port to the waiting requester that comes before every other one. -/
theorem grantEnds_granted {s : State} (h : s.Live) {p : ArbPort} {c : Instr} {again : Bool} {w : Nat} (hc : (c, again) ∈ grantEnds p)
    (ho : s.get (portOwner p) < portIdx p) (hw : s.waitsNext p again w)
    (hfirst : ∀ i, s.waitsNext p again i → i ≠ w → s.aboveNext p w i ∨ (¬ s.aboveNext p i w ∧ w < i)) : ∃ t, exec c s = .next t ∧
    t.get (portOwner p) = w ∧ t.lostOf p w = 0 ∧ (∀ i, s.waitsNext p again i → i ≠ w → t.lostOf p i = s.lostNext p i + 1) ∧
    (∀ i, ¬ s.waitsNext p again i → t.lostOf p i = s.lostNext p i) ∧ (t.arbSt p).grants = (s.arbSt p).grants + 1 ∧
    s.keeps t [portStat p] ∧ State.Touch [.fab] s t := by
  obtain ⟨t, ht, hd⟩ := grantEnds_done h hc
  obtain ⟨hown, -, -, hlost, hgrants⟩ := State.handedBack_shown ho again
  have hlt := portIdx_le p
  have hmem : ∀ {i}, i ∈ (s.handedBack p again).arbWaiting p ↔ s.waitsNext p again i := State.mem_handedBack_waiting ho
  have hg := State.arbDecide_granted hown (hmem.2 hw) fun i hi hne => (hfirst i (hmem.1 hi) hne).imp
    (State.lexLt_arbKey_iff ho again w i).2
    fun ⟨hn, hlt⟩ => ⟨Bool.eq_false_iff.2 fun hl => hn ((State.lexLt_arbKey_iff ho again i w).1 hl), hlt⟩
  rw [← State.arbEnd_eq (by omega) again] at hg
  exact ⟨t, ht, (hd.field 0 4).trans hg.owner, (hd.lostOf w).trans hg.won,
    fun i hi hne => (hd.lostOf i).trans ((hg.lost i (hmem.2 hi) hne).trans (congrArg (· + 1) (hlost i))),
    fun i hi => (hd.lostOf i).trans ((hg.others i fun hm => hi (hmem.1 hm)).trans (hlost i)),
    hd.grants.trans (hg.grants.trans (congrArg (· + 1) hgrants)), hd.keeps, hd.touch⟩

/-- Settles O35: the order of a decision, an end of a grant with nobody waiting, and a request to a port that is owned. -/
theorem theHighestRequesterIsGranted : Obligations.TheHighestRequesterIsGranted := by
  unfold Obligations.TheHighestRequesterIsGranted
  refine ⟨fun s p c again w hc h ho hw => fun hfirst => grantEnds_granted h hc ho hw hfirst, fun s p c again hc h ho hw => ?_,
    fun s p i h ho => arbRequest_owned h p i ho⟩
  obtain ⟨t, ht, hown, -, -, hgrants, hk, hT⟩ := grantEnds_free h hc ho hw
  exact ⟨t, ht, hown, hgrants, hk, hT⟩

/-! Writes of CTRL (R56). -/

/-- The NTH bits of a written word are not masked off (Table 2-14). -/
theorem bitsGet_nth (v : Word) : bitsGet (v &&& 0xFF3F) 0 6 = v.toNat % 64 := by
  apply Nat.eq_of_testBit_eq
  intro i
  rw [bitsGet_testBit _ _ _ _ (by decide), Nat.zero_add, BitVec.getLsbD_and, show (64 : Nat) = 2 ^ 6 from rfl,
    Nat.testBit_mod_two_pow, BitVec.testBit_toNat]
  by_cases hi : i < 6
  · have hm : (0xFF3F : Word).getLsbD i = true := by
      revert hi i
      decide
    rw [hm, Bool.and_true, Bool.and_comm]
  · simp [hi]

/-- R7, R489: what a refused write of CTRL leaves: the port's REFUSED bit and the common refusal status. -/
def State.ctrlRefused (s : State) (p : ArbPort) (block addr : Nat) : State :=
  (s.set ⟨portStat p, 4 + 2 * portIdx p, 1⟩ 1).refuse block 1 addr

/-- R52, R56: what a write of CTRL that is taken leaves: NTH and BURST, and a grant count of 0. -/
def State.ctrlTaken (s : State) (p : ArbPort) (addr : Nat) (v : Word) : State :=
  (s.wr addr (v &&& 0xFF3F)).modArb p (fun a => { a with grants := 0 })

/-- R56: a write of CTRL in a region that is not isolated: taken while the region is stopped with an NTH above 0, or where it changes
nothing, and refused otherwise. -/
theorem State.arbCtrl_eq {s : State} {g : Nat} (hi : s.isolated g = false) (p : ArbPort) (block addr : Nat) (v : Word) :
    s.arbCtrl p g block addr v =
      if s.stopped g = true ∧ v.toNat % 64 ≠ 0 then s.ctrlTaken p addr v
      else if s.stopped g = false ∧ v &&& 0xFF3F = s.rd addr then s.ctrlTaken p addr v
      else s.ctrlRefused p block addr := by
  unfold State.arbCtrl
  dsimp only
  rw [if_neg (by simp [hi]), bitsGet_nth]
  cases s.stopped g with
  | true => simp [State.ctrlTaken, State.ctrlRefused]
  | false => simp [State.ctrlTaken, State.ctrlRefused]

theorem portIdx_refused (p : ArbPort) : 4 + 2 * portIdx p + 1 ≤ 32 := by
  have hlt := portIdx_le p
  omega

/-- R56: a write of CTRL of either kind of port, at the address of its register. -/
theorem ctrlWrite_effect {s : State} (h : s.Live) {p : ArbPort} {g block addr : Nat} {v : Word} {c : Instr}
    (hc : exec c s = .next (s.access addr fun s => s.arbCtrl p g block addr v)) (ha : 0x10000000 ≤ addr)
    (hg : s.gateCause addr = 0) (hi : s.isolated g = false) (hb : block < 32) : ∃ t, exec c s = .next t ∧
    (if s.stopped g = true ∧ v.toNat % 64 ≠ 0 then t.rd addr = v &&& 0xFF3F ∧
      (t.arbSt p).grants = 0 ∧ s.keeps t [addr] ∧ State.Touch [.fab] s t
    else if s.stopped g = false ∧ v &&& 0xFF3F = s.rd addr then (t.arbSt p).grants = 0 ∧ s.keeps t [] ∧
      State.Touch [.fab] s t
    else t.get ⟨portStat p, 4 + 2 * portIdx p, 1⟩ = 1 ∧ t.rd Reg.SYS_REFADDR = BitVec.ofNat 32 addr ∧
      t.get Fld.SYS_REFINFO_BLOCK = block ∧ t.get Fld.SYS_REFINFO_CODE = 1 ∧ t.rest = s.rest ∧
      s.keeps t [portStat p, Reg.SYS_REFADDR, Reg.SYS_REFINFO]) := by
  have hlow : ∀ a ∈ [Reg.MGT_STAT, Reg.SAF_STAT, Reg.IMG_STAT, Reg.SAF_SO, Reg.SAF_SORB], a < 0x10000000 ∧
      a ∉ [Reg.SYS_REFADDR, Reg.SYS_REFINFO] := by decide
  have hapart : ∀ a ∈ [Reg.MGT_STAT, Reg.SAF_STAT, Reg.IMG_STAT, Reg.SAF_SO, Reg.SAF_SORB], a ∉ [addr] := fun a hm he =>
    absurd (List.mem_singleton.1 he ▸ (hlow a hm).1) (Nat.not_lt.2 ha)
  have htake : ∀ l : List Nat, s.keeps (s.wr addr (v &&& 0xFF3F)) l → (∀ a ∈ l, a = addr) →
      ((s.ctrlTaken p addr v).mirror.arbSt p).grants = 0 ∧ s.keeps (s.ctrlTaken p addr v).mirror l ∧
      State.Touch [.fab] s (s.ctrlTaken p addr v).mirror := fun l hk hl => by
    refine ⟨?_, ?_, ?_⟩
    · show ((State.modArb (s.wr addr (v &&& 0xFF3F)) p fun a => { a with grants := 0 }).arbSt p).grants = 0
      rw [State.arbSt_modArb]
    · exact (hk.of_regs (u := s.ctrlTaken p addr v) rfl).mirror h.inv rfl rfl fun a hm he => hapart a hm (List.mem_singleton.2 (hl a he))
    · exact (((State.Touch.refl _ s).wr addr _).modArb p _ (by decide)).mirror (by decide)
  refine ⟨(s.arbCtrl p g block addr v).mirror, ?_, ?_⟩
  · rw [hc, State.access, State.running_released h.released, if_pos hg]
  · rw [State.arbCtrl_eq hi]
    split
    · obtain ⟨hgr, hk, hT⟩ := htake [addr] ((s.keeps_refl _).wr _ _ (List.mem_singleton.2 rfl)) fun a => List.mem_singleton.1
      exact ⟨(State.rd_mirror_fabric _ ha).trans (State.rd_wr_self s addr _), hgr, hk, hT⟩
    · split
      · next heq =>
        refine htake [] (fun a _ => ?_) fun a he => absurd he List.not_mem_nil
        by_cases hae : a = addr
        · rw [hae, State.rd_wr_self, heq.2]
        · exact State.rd_wr_ne s _ hae
      · unfold State.ctrlRefused
        have hstat := portStat_high p
        refine ⟨?_, ?_, ?_, ?_, rfl, ?_⟩
        · rw [State.get_of_rd _ (State.rd_mirror_fabric _ hstat),
            State.get_refuse_ne _ _ _ _ _ (show portStat p ≠ 0x30 by omega) (show portStat p ≠ 0x34 by omega)]
          exact State.get_set_self s _ 1 (portIdx_refused p)
        · rw [State.rd_mirror _ (by decide) (by decide) (by decide), State.rd_refuse_addr]
        · rw [State.get_mirror _ _ (by decide) (by decide) (by decide), State.get_refuse_block]
          exact Nat.mod_eq_of_lt hb
        · exact (State.get_mirror _ _ (by decide) (by decide) (by decide)).trans (State.get_refuse_code _ block 1 _)
        · refine (((s.keeps_refl _).set _ _ ?_).refuse block 1 addr ?_ ?_).mirror h.inv rfl rfl fun a hm he => ?_
          · exact List.mem_cons_self
          · simp
          · simp
          · obtain ⟨ha', hn⟩ := hlow a hm
            obtain he | he := List.mem_cons.1 he
            · omega
            · exact hn he

/-- The CTRL registers lie in the fabric's windows. -/
theorem arbCtrl_high (q b g : Nat) : 0x10000000 ≤ Reg.BANKARB_CTRL q b ∧ 0x10000000 ≤ Reg.EGRARB_CTRL g := by
  simp only [Reg.BANKARB_CTRL, Reg.EGRARB_CTRL, Reg.clusterBase, Reg.regionBase]
  omega

/-- Settles O34: a request that is granted, one that waits, a release, and the writes of the two kinds of CTRL. -/
theorem portsGrantReleaseAndAreControlled : Obligations.PortsGrantReleaseAndAreControlled := by
  unfold Obligations.PortsGrantReleaseAndAreControlled
  refine ⟨fun s p i h hi ho hw hr hm => arbRequest_granted h hi ho hw hr hm, fun s p i h hi ho hr hm => arbRequest_waits h hi ho hr hm,
    fun s p o h ho hi hn => ?_,
    fun s q b v h hg hi => ctrlWrite_effect h (p := .bank q b) (block := 20) rfl (arbCtrl_high q b 0).1 hg hi (by decide),
    fun s g v h hg hi => ctrlWrite_effect h (p := .egress g) (block := 21) rfl (arbCtrl_high 0 0 g).2 hg hi (by decide)⟩
  subst ho
  obtain ⟨t, ht, hown, hreq, hlost, -, hk, hT⟩ := grantEnds_free (again := false) (c := .arbOwnerRelease p) h (by simp [grantEnds]) hi
    fun i ⟨hi, hm, hw⟩ => by
      split at hw
      · exact absurd hw Bool.false_ne_true
      · next hne => exact (hn i hi hne).elim (fun h0 => by omega) fun h1 => by omega
  exact ⟨t, ht, hown, hreq, hlost, hk, hT⟩

end Sys2Proof.Machine
end

section
/-!
READ and WRITE (R48, R449, R450): an access of the management port adds to the queues of messages and takes nothing from them; what a
READ of a span answers, and what a WRITE of one word leaves and answers.  Settles O27.
-/
namespace Sys2Proof.Machine

/-- From `s` to `t` every path keeps the messages that wait on it, in their order, and may take more behind them. -/
def State.Sends (s t : State) : Prop := ∀ p, s.out p <+: t.out p

theorem State.Sends.refl (s : State) : s.Sends s := fun _ => List.prefix_rfl

theorem State.Sends.trans {s t u : State} (h : s.Sends t) (h' : t.Sends u) : s.Sends u := fun p => (h p).trans (h' p)

/-- The parts of the state that hold no waiting message. -/
def silentParts : List Part :=
  [.nvm0, .nvm1, .omem, .keyStore, .cfg, .aon, .rst, .clk, .tb, .img, .frame, .chans, .fab, .fus, .ctl, .slv, .alc, .can, .eth, .ana, .srv,
    .saf, .grp, .freeCtr, .pending, .recd, .port]

/-- Where an operation of the part starts from. -/
theorem State.silent (s : State) : State.Touch silentParts s s := State.Touch.refl _ s

/-- What leaves the management block alone sends nothing. -/
theorem State.Touch.sends {s t : State} (h : State.Touch silentParts s t) : s.Sends t := fun p => by
  rw [State.out_of_mgt (h .mgt (by decide)) p]

theorem State.Sends.then {s t u : State} (h : s.Sends t) (hT : State.Touch silentParts t u) : s.Sends u := h.trans hT.sends

theorem State.Sends.ite {s t u : State} {c : Prop} [Decidable c] (h : s.Sends t) (h' : s.Sends u) : s.Sends (if c then t else u) := by
  split
  · exact h
  · exact h'

theorem State.Sends.when {s t : State} (h : s.Sends t) (c : Bool) {f : State → State} (hf : t.Sends (f t)) : s.Sends (t.when c f) := by
  unfold State.when
  exact (h.trans hf).ite h

theorem State.Sends.each {α : Type} {s t : State} (h : s.Sends t) (l : List α) {f : α → State → State} (hf : ∀ x u, State.Sends u (f x u)) :
    s.Sends (t.each l f) := by
  induction l generalizing t with
  | nil => exact h
  | cons x l ih => exact ih (h.trans (hf x t))

/-! Messages. -/

theorem State.sends_push (s : State) (m : Msg) : s.Sends (s.push m) := fun p => by
  by_cases hp : p = m.path
  · rw [hp, State.push_out]
    exact List.prefix_append _ _
  · rw [State.push_out_ne s m hp]

theorem State.sends_touchSession (s : State) (id : Word) (f : Session → Session) : s.Sends (s.touchSession id f) := fun p => by
  rw [State.touchSession_out]

theorem State.sends_mirror (s : State) : s.Sends s.mirror := fun p => by rw [State.mirror_out]

/-- R453: a RESULT joins the queue of its path. -/
theorem State.sends_result (s : State) (q : ReqRef) (c : Nat) (d : List Byte) : s.Sends (s.result q c d) := by
  unfold State.result
  exact (s.sends_push _).ite (.refl s)

theorem State.sends_resultOpt (s : State) (q : Option ReqRef) (c : Nat) (d : List Byte) : s.Sends (s.resultOpt q c d) := by
  cases q with
  | none => exact .refl s
  | some q => exact s.sends_result q c d

/-- R456: what subscriptions gather is no message yet. -/
theorem State.sends_toSubs (s : State) (x : OutItem) : s.Sends (s.toSubs x) := fun p => by
  cases p <;> exact List.prefix_rfl

theorem State.sends_eventToSubs (s : State) (e : Event) : s.Sends (s.eventToSubs e) := fun p => by
  cases p <;> exact List.prefix_rfl

theorem State.sends_expertKey (s : State) (id v : Word) : s.Sends (s.expertKey id v) := fun p => by
  cases p <;> exact List.prefix_rfl

/-! Channel ports. -/

theorem State.sends_chanRelease (s : State) (x : OutItem) : s.Sends (s.chanRelease x) :=
  (s.sends_toSubs x).then
    ((((s.toSubs x).silent.toCan x (by decide)).toEth x (s.timedHandle x.handle) (by decide)).toAout x (by decide))

theorem State.sends_chanSend (s : State) (x : OutItem) : s.Sends (s.chanSend x) :=
  (s.sends_chanRelease x).then ((State.silent _).ethFlush (by decide))

theorem State.sends_umberOut (s : State) (t i : Nat) (b : List Byte) : s.Sends (s.umberOut t i b) := by
  unfold State.umberOut
  split
  · exact .refl s
  · next c _ =>
    refine (State.Sends.refl s).ite (.ite (s.silent.canQueue _ _ _ _ (by decide)).sends ?_)
    exact (s.silent.modChan t i _ (by decide)).sends.trans (State.sends_chanSend _ _)

theorem State.sends_sendMarker (s : State) (c : Chan) (f r n : Nat) : s.Sends (s.sendMarker c f r n) := by
  unfold State.sendMarker
  extract_lets x u v _ w
  have hv : State.Touch silentParts s v := (s.silent.modChan _ _ _ (by decide)).count _
  have hw : State.Touch silentParts s w := (hv.upd_fab _ (by decide)).ite hv
  exact (hw.canQueue _ _ _ _ (by decide)).sends.ite (hw.sends.trans (w.sends_chanSend x))

theorem State.sends_fillSlot (s : State) (c : Chan) (f crc : Nat) (b : List Byte) : s.Sends (s.fillSlot c f crc b) := by
  unfold State.fillSlot
  extract_lets x u
  have hu : s.Sends u := (s.silent.modChan _ _ _ (by decide)).sends
  exact hu.ite (hu.trans (u.sends_chanSend x))

theorem State.sends_releaseTimed (s : State) : s.Sends s.releaseTimed := by
  refine ((State.Sends.refl s).each _ fun c u => ?_).then ((State.silent _).ethFlush (by decide))
  split
  · exact (u.silent.modChan _ _ _ (by decide)).sends.trans (State.sends_chanRelease _ _)
  · exact .refl u

/-! Events and the recorder. -/

theorem State.sends_eventToStreams (s : State) (e : Event) : s.Sends (s.eventToStreams e) :=
  (State.Sends.refl s).each _ fun _ u => (u.sends_umberOut _ _ _).ite (.refl u)

theorem State.sends_commit (s : State) (e : Event) : s.Sends (s.commit e) := by
  have h := (s.sends_eventToSubs e).trans (State.sends_eventToStreams _ e)
  unfold State.commit
  extract_lets u rn v w x
  have hw : State.Touch silentParts u w := ((State.silent u).wr _ _).wr _ _
  exact h.ite (h.then (.ite (.ite (hw.holdRecord x (by decide)) (hw.queueBoth x (by decide))) hw))

theorem State.sends_writeHeld (s : State) : s.Sends s.writeHeld := by
  unfold State.writeHeld
  extract_lets held lost _ u v w
  have hw : State.Touch silentParts s w := State.Touch.each ((s.silent.upd_recd _ (by decide) (by rfl)).set _ _) _ _
    fun x t ht => ht.queueBoth _ (by decide)
  clear_value lost
  split
  · exact hw.sends.trans (w.sends_commit _)
  · exact hw.sends

/-- R480: the RESULT of a freeze that ends. -/
theorem State.sends_endFreeze (s : State) (c : Nat) : s.Sends (s.endFreeze c) := by
  unfold State.endFreeze
  extract_lets q u _ v
  have hv : State.Touch silentParts s v := ((s.silent.set _ _).set _ _).upd_recd _ (by decide) (by rfl)
  exact ((hv.sends.trans (v.sends_resultOpt q _ _)).trans (State.sends_writeHeld _)).ite (.refl s)

/-! The safety block. -/

/-- R305: a change of a function's reported state. -/
theorem State.sends_fnReport (old s : State) (f : Nat) : s.Sends (State.fnReport old s f) := by
  unfold State.fnReport
  extract_lets o n cause _ a stop _ b rec_ h c d e g
  have hb : State.Touch silentParts s b := State.Touch.ite ((s.silent.upd_saf _ (by decide)).upd_saf _ (by decide))
    (s.silent.upd_saf _ (by decide))
  have hc : s.Sends c := (hb.sends.trans (b.sends_umberOut _ _ _)).then ((State.silent _).safLast f cause (by decide))
  have hd : State.Touch silentParts c d := .ite ((c.silent.raise _ _ _).count _) c.silent
  have he : State.Touch silentParts c e := .ite ((hd.raise _ _ _).count _) hd
  have hg : State.Touch silentParts c g := .ite ((he.raise _ _ _).count _) he
  exact (State.Sends.refl s).ite (hc.then (.ite (hg.raise _ _ _) hg))

theorem State.sends_safOp (s : State) (again : BitVec 16) {f : State → State} (hf : State.Touch silentParts s (f s)) :
    s.Sends (s.safOp again f) := by
  have h : s.Sends ((f s).safSettle.safOutputs) := ((hf.safSettle (by decide)).safOutputs (by decide)).sends
  refine State.Sends.then (h.each (List.range 32) fun i u => ?_) ((State.silent _).safAct _ _ (by decide))
  exact (State.sends_fnReport s u i).then ((State.silent _).fnSync i (by decide))

theorem State.sends_holdStart (s : State) : s.Sends s.holdStart := by
  unfold State.holdStart
  refine (State.Sends.refl s).ite ((s.sends_safOp _ ?_).then ((State.silent _).holdEvent (by decide)))
  exact ((s.silent.modTech _ _ (by decide)).modTech _ _ (by decide)).set _ _

theorem State.sends_holdEnd (s : State) : s.Sends s.holdEnd := by
  unfold State.holdEnd
  refine (State.Sends.refl s).ite ((s.sends_safOp _ ?_).then ((State.silent _).holdEvent (by decide)))
  exact ((s.silent.modTech _ _ (by decide)).modTech _ _ (by decide)).set _ _

/-! Faults that end a part's role (R241). -/

/-- R453: the commands that wait for the frame start end with a RESULT. -/
theorem State.sends_ctlFlush (s : State) : s.Sends s.ctlFlush := by
  unfold State.ctlFlush
  extract_lets c u v fail w
  have hu : s.Sends u := (State.Sends.refl s).each _ fun x t => (t.silent.modeStat x.1 18 (by decide)).sends.trans
    (State.sends_resultOpt _ _ _ _)
  have hv : s.Sends v := hu.each _ fun x t => t.sends_resultOpt _ _ _
  have hw : s.Sends w := hv.each _ fun q t => t.sends_resultOpt q _ _
  exact hw.then (w.silent.modCtl _ (by decide))

theorem State.sends_safeOut (s : State) (i : Nat) (b : List Byte) : s.Sends (s.safeOut i b) := by
  unfold State.safeOut
  split
  · exact .refl s
  · refine (State.Sends.refl s).ite ?_
    split
    · exact (s.silent.modChan _ _ _ (by decide)).sends
    · exact s.sends_fillSlot _ _ _ _

theorem State.sends_giveUpRole (s : State) : s.Sends s.giveUpRole := by
  unfold State.giveUpRole
  extract_lets u v w
  have hu : s.Sends u := (State.Sends.refl s).each _ fun c t => by
    split
    · exact t.sends_sendMarker _ _ _ _
    · exact .refl t
  have hv : State.Touch silentParts u v :=
    (((u.silent.roleOutputs _ (by decide)).aoutSafe (by decide)).canRole _ (by decide)).set _ _
  have hw : s.Sends w := ((hu.then hv).trans v.sends_ctlFlush).then ((State.silent _).dropTasks (by decide))
  exact hw.then ((w.silent.modGrp _ (by decide)).slhSync (by decide))

theorem State.sends_partLost (s : State) : s.Sends s.partLost := by
  unfold State.partLost
  extract_lets u v w x y
  have hv : State.Touch silentParts s v := (s.silent.set _ _).raise _ _ _
  have hw : State.Touch silentParts v w := v.silent.each _ _ fun i t ht => by
    split
    · exact ht.safeThr _ _ (by decide)
    · exact ht
  have hx : s.Sends x := (hv.sends.then hw).each _ fun c t => t.sends_safeOut _ _
  have hy : State.Touch silentParts x y := x.silent.each _ _ fun n t ht => by
    split
    · exact .ite (ht.modLoop _ _ (by decide)) ht
    · exact ht
  exact (hv.sends.then (v.silent.dropTasks (by decide))).ite
    (((hx.then hy).trans y.sends_releaseTimed).trans (State.sends_giveUpRole _))

theorem State.sends_dieLoss (s : State) (d c : Nat) : s.Sends (s.dieLoss d c) := by
  unfold State.dieLoss
  extract_lets x u gs v w
  have hu : State.Touch silentParts s u := (s.silent.set _ _).faultRecord _ _ _ _ (by decide)
  have hi : ∀ t : State, State.Touch silentParts t (t.each gs fun g s => s.isolate g) := fun t =>
    t.silent.each _ _ fun g t ht => ht.isolate g (by decide)
  have hm : ∀ t : State, State.Touch silentParts t (t.each gs fun g s => s.moveRegion g) := fun t =>
    t.silent.each _ _ fun g t ht => ht.moveRegion g (by decide)
  exact (State.Sends.refl s).ite ((((hu.raise _ _ _).trans (hi v)).trans (hm w)).sends.ite
    ((hu.trans (hi u)).sends.trans (State.sends_partLost _)))

theorem State.sends_regionFault (s : State) (g c : Nat) : s.Sends (s.regionFault g c) := by
  unfold State.regionFault
  extract_lets x u v w
  have hw : State.Touch silentParts s w :=
    (((s.silent.faultRecord _ _ _ _ (by decide)).raise _ _ _).isolate g (by decide)).moveRegion g (by decide)
  exact (State.Sends.refl s).ite ((hw.sends.trans (w.sends_dieLoss _ _)).ite hw.sends)

theorem State.sends_clusterFault (s : State) (q c : Nat) : s.Sends (s.clusterFault q c) := by
  unfold State.clusterFault
  extract_lets x u v w
  have hw : State.Touch silentParts s w :=
    ((((s.silent.maskBanks q 8 (by decide)).set _ _).set _ _).faultRecord _ _ _ _ (by decide)).raise _ _ _
  exact (State.Sends.refl s).ite ((hw.sends.trans (w.sends_regionFault _ _)).ite (hw.evict 1 (by decide)).sends)

/-! Reads of the management port (R48, R49, R449). -/

theorem State.sends_readEcc (s : State) (a : Nat) : s.Sends (s.readEcc a) := by
  unfold State.readEcc
  extract_lets g o c u
  have hu : State.Touch silentParts s u := s.silent.count _
  exact (hu.sends.trans (u.sends_regionFault g 3)).ite ((hu.retireBank _ _ _ (by decide)).sends.ite
    (hu.sends.trans (u.sends_clusterFault _ 3)))

theorem State.sends_busRead (s : State) (k : Word) (a : Nat) : s.Sends (s.busRead k a).1 :=
  (s.silent.busRead k a (by decide)).sends

theorem State.sends_readWord (s : State) (k : Word) (a : Nat) (e : ReadEcc) : s.Sends (s.readWord k a e).1 := by
  unfold State.readWord
  split
  · have hf : s.Sends (s.fetchWord a) := (s.silent.fetchWord a (by decide)).sends
    cases e with
    | clean => exact hf.trans (State.sends_busRead _ k a)
    | corrected => exact hf.then ((State.silent _).count _)
    | uncorrectable => exact (hf.trans (State.sends_readEcc _ a)).then ((State.silent _).fresh (by decide))
  · exact s.sends_busRead k a

theorem State.sends_readWords (k : Word) (ecc : Nat → ReadEcc) (l : List (Nat × Nat)) (s : State) :
    s.Sends (s.readWords k ecc l).1 := by
  induction l generalizing s with
  | nil => exact .refl s
  | cons x l ih => exact (s.sends_readWord k x.2 (ecc x.1)).trans (ih _)

/-! Writes of the management port (R6, R450). -/

theorem State.sends_refusedBy (s : State) {f : State → State} (hf : ∀ u, State.Sends u (f u)) : s.Sends (s.refusedBy f).1 :=
  ((s.silent.set _ _).sends.trans (hf _)).then ((State.silent _).set _ _)

theorem State.sends_unlessRefused (s : State) {f g : State → State} (hf : ∀ u, State.Sends u (f u)) (hg : ∀ u, State.Sends u (g u)) :
    s.Sends (s.unlessRefused f g) :=
  (s.sends_refusedBy hf).ite ((s.sends_refusedBy hf).trans (hg _))

/-- Of the registers of the core blocks, REC_CTRL and SAF_CTRL alone can send: a freeze ends with a RESULT (R480), and HOLD and its end
change what the safety functions report (R302). -/
theorem State.sends_writeCore (s : State) (a : Nat) (r : RegRow) (v : Word) : s.Sends (s.writeCore a r v) := by
  have hslk : State.Touch silentParts s ((s.put a r v).when (wbit v 0) fun s => (s.wr Reg.SLK_MINF 0x7FFFFFFF).wr Reg.SLK_MINP 0x7FFFFFFF) :=
    (s.silent.put a r v (by decide)).when _ _ fun u hu => (hu.wr _ _).wr _ _
  have hrec : s.Sends (s.unlessRefused (fun s => s.when (wbit v 0) State.recCtrlFreeze) fun s =>
      (s.when (wbit v 1) (fun s => s.endFreeze 1)).when (wbit v 2) (fun s => s.wr Reg.REC_CNT 0)) :=
    s.sends_unlessRefused (fun u => (State.Sends.refl u).when _ (u.silent.recCtrlFreeze (by decide)).sends)
      fun u => ((State.Sends.refl u).when _ (u.sends_endFreeze 1)).when _ ((State.silent _).wr _ _).sends
  have hslh : s.Sends (s.unlessRefused (fun s => s.when (wbit v 0) (fun s => s.handover (bitsGet v 1 2))) fun s =>
      s.when (wbit v 3) (fun s => (s.wr Reg.SLH_CNT0 0).wr Reg.SLH_CNT1 0)) :=
    (s.silent.unlessRefused _ _ (fun u hu => hu.when _ _ fun t ht => ht.handover _ (by decide))
      fun u hu => hu.when _ _ fun t ht => (ht.wr _ _).wr _ _).sends
  have hsaf : s.Sends (if wbit v 0 then s.holdStart else s.when (wbit v 1) State.holdEnd) :=
    s.sends_holdStart.ite ((State.Sends.refl s).when _ s.sends_holdEnd)
  have hfus : s.Sends (s.unlessRefused (fun s => s.fusCalFreeze (wbit v 0)) fun s => s.when (wbit v 1) State.fusCntClr) :=
    (s.silent.unlessRefused _ _ (fun u hu => hu.fusCalFreeze _ (by decide))
      fun u hu => hu.when _ _ fun t ht => ht.fusCntClr (by decide)).sends
  have hslv : State.Touch silentParts s ((s.each ((List.range 4).filter (fun c => v.getLsbD (4 + c)))
      fun c s => s.slvRefreshClass c).when (wbit v 0) State.slvCntClr) :=
    (s.silent.each _ _ fun c u hu => hu.slvRefreshClass c (by decide)).when _ _ fun u hu => hu.slvCntClr (by decide)
  have hcqa : State.Touch silentParts s ((s.when (wbit v 0) (fun s => s.cqMarkOld.cqOverall)).when (wbit v 1)
      fun s => (s.set Fld.CQA_STAT_ROUNDS 0).set Fld.CQA_FLEET_GEN 0) :=
    (s.silent.when _ _ fun u hu => (hu.cqMarkOld (by decide)).cqOverall (by decide)).when _ _ fun u hu => (hu.set _ _).set _ _
  unfold State.writeCore
  refine hslk.sends.ite (.ite ?flt (.ite ?img (.ite ?mgt (hrec.ite (hslh.ite (.ite ?saf (hfus.ite (.ite ?ctl (hslv.sends.ite
    (.ite ?alc (.ite ?enable (hcqa.sends.ite ?rest))))))))))))
  case flt => exact (s.silent.when _ _ fun u hu => hu.fltCntClr (by decide)).sends
  case img => exact (s.silent.imgCmd v (by decide)).sends
  case mgt => exact (s.silent.when _ _ fun u hu => hu.mgtCntClr (by decide)).sends
  case saf => exact hsaf.when _ ((State.silent _).wr _ _).sends
  case ctl => exact (s.silent.modecmdWrite v (by decide)).sends
  case alc => exact (s.silent.when _ _ fun u hu => hu.wr _ _).sends
  case enable => exact (s.silent.alcEnableWrite v (by decide)).sends
  case rest => exact (s.silent.put a r v (by decide)).sends

theorem State.sends_writeSys (s : State) (k : Word) (a : Nat) (r : RegRow) (v : Word) : s.Sends (s.writeSys k a r v) := by
  unfold State.writeSys
  exact (s.silent.when _ _ fun u hu => hu.set _ _).sends.ite ((s.sends_expertKey k v).ite (s.silent.put a r v (by decide)).sends)

theorem State.sends_regWrite (s : State) (k : Word) (a : Nat) (v : Word) : s.Sends (s.regWrite k a v) := by
  unfold State.regWrite
  refine (State.Sends.refl s).ite ((s.silent.memWrite a (by decide)).sends.ite ?_)
  split
  · exact .refl s
  · next r _ =>
    exact (s.sends_writeSys k a r v).ite ((s.silent.writeClk a r v (by decide)).sends.ite ((s.silent.writeTb a r v (by decide)).sends.ite
      ((s.sends_writeCore a r v).ite ((s.silent.writeSrv a r v (by decide)).sends.ite ((s.silent.writeAna a r v (by decide)).sends.ite
      ((s.silent.writeEth a r v (by decide)).sends.ite ((s.silent.writeCan a r v (by decide)).sends.ite
      (s.silent.writeOchre k a r v (by decide)).sends)))))))

/-! A request that is accepted, of any TTYPE. -/

/-- From `s` to `t` a request has been executed once: its effect on the part is that from `s` to `u`, and its answer is `x`. -/
structure State.RequestDone (r : Req) (x : Resp) (s u t : State) : Prop where
  answered : s.Answered t r x
  shown : u.keeps t [Reg.MGT_STAT, Reg.SAF_STAT, Reg.IMG_STAT]
  touch : State.Touch [.mgt] u t
  keeps : u.img = s.img → ∀ {k : List Nat}, s.keeps u k →
    (∀ a ∈ [Reg.SAF_STAT, Reg.IMG_STAT, Reg.SAF_SO, Reg.SAF_SORB], a ∉ k) → Reg.MGT_STAT ∈ k → s.keeps t k

theorem State.Accepts.request_done {s : State} (h : s.Live) {r : Req} {ttype : Nat} {body : List Byte} (ha : s.Accepts r ttype body)
    {c : Instr} {g : Gate} {f : State → State × Resp} (he : exec c s = .next (s.running fun s => s.request r ttype body g f))
    (hs : s.Sends (f (s.count Fld.MGT_CNT1_REQUESTS)).1) : ∃ t, exec c s = .next t ∧
    s.RequestDone r (f (s.count Fld.MGT_CNT1_REQUESTS)).2 (f (s.count Fld.MGT_CNT1_REQUESTS)).1 t := by
  have hregs := s.execRequest_regs r f
  have hT : State.Touch [.mgt] (f (s.count Fld.MGT_CNT1_REQUESTS)).1 (s.execRequest r f) := by
    unfold State.execRequest
    exact ((State.Touch.refl _ _).push _ (by decide)).touchSession _ _ (by decide)
  obtain ⟨l, hl⟩ := hs r.path
  refine ⟨(s.execRequest r f).mirror, ?_, ⟨l, ?_⟩, fun a hn => ?_, hT.mirror (by decide), fun himg k hk hl hm => ?_⟩
  · rw [he, State.running_released h.released, ha.request]
  · rw [State.mirror_out, State.execRequest_out, hl]
  · simp only [List.mem_cons, List.not_mem_nil, or_false, not_or] at hn
    rw [State.rd_mirror _ hn.1 hn.2.1 hn.2.2, State.rd_of_regs hregs]
  · exact (hk.of_regs hregs).mirror_mgt h.inv ((hT .img (by decide)).trans himg) hl hm

/-- R449: a request that counts does not change what its span may be. -/
theorem State.spanCode_count (s : State) (p : Path) (a : Word) (n : BitVec 16) (size : Nat) :
    (s.count Fld.MGT_CNT1_REQUESTS).spanCode p a n size = s.spanCode p a n size := by
  unfold State.spanCode State.msgLimit
  rw [State.get_count_ne _ _ _ (by decide)]

/-- A change of registers that gates no access changes no access. -/
theorem State.gateCause_of_keeps {s t : State} {l : List Nat} (hk : s.keeps t l) (h0 : Reg.CLK_GATE0 ∉ l) (h1 : Reg.CLK_GATE1 ∉ l)
    (hc : t.clk = s.clk) (a : Nat) : t.gateCause a = s.gateCause a := by
  have hg : ∀ r, t.rd (gateReg r) = s.rd (gateReg r) := fun r => by
    unfold gateReg
    split
    · exact hk _ h0
    · exact hk _ h1
  unfold State.gateCause
  simp only [hc, hg]

theorem State.gateCause_count (s : State) (a : Nat) : (s.count Fld.MGT_CNT1_REQUESTS).gateCause a = s.gateCause a :=
  State.gateCause_of_keeps s.keeps_request (by decide) (by decide) rfl a

/-! READ. -/

/-- R449: what the words of a READ and the first bus error among them answer. -/
def readAnswer (vs : List Word) : Option Nat → Resp
  | some i => { status := 4, erridx := i, body := (vs.map le32).flatten }
  | none => { status := 0, body := (vs.map le32).flatten }

theorem State.mgmtRead_eq {s : State} {r : Req} {a : Word} {n : BitVec 16} (h : s.spanCode r.path a n (36 + 4 * n.toNat) = 0)
    (ecc : Nat → ReadEcc) : s.mgmtRead r a n ecc = ((s.readWords r.session ecc (spanAddrs a n)).1,
      readAnswer (s.readWords r.session ecc (spanAddrs a n)).2.1 (s.readWords r.session ecc (spanAddrs a n)).2.2) := by
  unfold State.mgmtRead
  dsimp only
  rw [if_neg (not_not.2 h)]
  cases (s.readWords r.session ecc (spanAddrs a n)).2.2 <;> rfl

theorem State.length_readWords (k : Word) (ecc : Nat → ReadEcc) (l : List (Nat × Nat)) (s : State) :
    (s.readWords k ecc l).2.1.length = l.length := by
  induction l generalizing s with
  | nil => rfl
  | cons x l ih => exact congrArg (· + 1) (ih _)

theorem length_flatten_le32 (vs : List Word) : ((vs.map le32).flatten).length = 4 * vs.length := by
  induction vs with
  | nil => rfl
  | cons v vs ih =>
    rw [List.map_cons, List.flatten_cons, List.length_append, ih, List.length_cons]
    show 4 + _ = _
    omega

/-- R449: a READ of a good span answers every word of it. -/
theorem mgmtRead_done {s : State} (h : s.Live) {r : Req} {a : Word} {n : BitVec 16} (ha : s.Accepts r 1 (spanBody a n))
    (hs : s.spanCode r.path a n (36 + 4 * n.toNat) = 0) (l m : List Nat) :
    let w := (s.count Fld.MGT_CNT1_REQUESTS).readWords r.session (eccAt l m) (spanAddrs a n)
    ∃ t, exec (.mgmtRead r a n l m) s = .next t ∧ s.RequestDone r (readAnswer w.2.1 w.2.2) w.1 t := by
  have heq := State.mgmtRead_eq (s := s.count Fld.MGT_CNT1_REQUESTS) ((s.spanCode_count _ _ _ _).trans hs) (eccAt l m)
  have hd := ha.request_done h (c := .mgmtRead r a n l m) (f := fun s => s.mgmtRead r a n (eccAt l m)) rfl
  rw [heq] at hd
  exact hd ((s.silent.count _).sends.trans (State.sends_readWords _ _ _ _))

theorem mgmtRead_answers {s : State} (h : s.Live) {r : Req} {a : Word} {n : BitVec 16} (l m : List Nat)
    (ha : s.Accepts r 1 (spanBody a n)) (hs : s.spanCode r.path a n (36 + 4 * n.toNat) = 0) : ∃ t x,
    exec (.mgmtRead r a n l m) s = .next t ∧ s.Answered t r x ∧ (x.status = 0 ∨ x.status = 4) ∧ x.body.length = 4 * n.toNat := by
  obtain ⟨t, ht, hd⟩ := mgmtRead_done h ha hs l m
  have hlen : ∀ w : State × List Word × Option Nat, w.2.1.length = (spanAddrs a n).length →
      (readAnswer w.2.1 w.2.2).body.length = 4 * n.toNat := fun w hw => by
    have hb : (readAnswer w.2.1 w.2.2).body = (w.2.1.map le32).flatten := by cases w.2.2 <;> rfl
    rw [hb, length_flatten_le32, hw, spanAddrs, List.length_map, List.length_range]
  refine ⟨t, _, ht, hd.answered, ?_, hlen _ (State.length_readWords _ _ _ _)⟩
  cases ((s.count Fld.MGT_CNT1_REQUESTS).readWords r.session (eccAt l m) (spanAddrs a n)).2.2 with
  | none => exact .inl rfl
  | some i => exact .inr rfl

/-- A READ of one word. -/
theorem mgmtRead_one {s : State} (h : s.Live) {r : Req} {a : Word} (ha : s.Accepts r 1 (spanBody a 1))
    (hs : s.spanCode r.path a 1 40 = 0) {u : State} {v : Word} {bad : Bool}
    (hw : (s.count Fld.MGT_CNT1_REQUESTS).readWord r.session a.toNat .clean = (u, v, bad)) :
    ∃ t, exec (.mgmtRead r a 1 [] []) s = .next t ∧
    s.RequestDone r { status := if bad then 4 else 0, body := le32 v } u t := by
  obtain ⟨t, ht, hd⟩ := mgmtRead_done h ha hs [] []
  have hone : (s.count Fld.MGT_CNT1_REQUESTS).readWords r.session (eccAt [] []) (spanAddrs a 1) =
      (u, [v], if bad then some 0 else none) := by
    show (((s.count Fld.MGT_CNT1_REQUESTS).readWord r.session a.toNat .clean).1,
      [((s.count Fld.MGT_CNT1_REQUESTS).readWord r.session a.toNat .clean).2.1],
      if ((s.count Fld.MGT_CNT1_REQUESTS).readWord r.session a.toNat .clean).2.2 then some 0 else none) = _
    rw [hw]
  rw [hone] at hd
  refine ⟨t, ht, ?_⟩
  cases bad with
  | false => simpa [readAnswer] using hd
  | true => simpa [readAnswer] using hd

theorem mgmtRead_register {s : State} (h : s.Live) {r : Req} {a : Word} (ha : s.Accepts r 1 (spanBody a 1))
    (hs : s.spanCode r.path a 1 40 = 0) (hm : ochreMem a.toNat = false) : ∃ t, exec (.mgmtRead r a 1 [] []) s = .next t ∧
    (if s.gateCause a.toNat = 0 then
      s.Answered t r { status := 0, body := le32 ((s.count Fld.MGT_CNT1_REQUESTS).readValue r.session a.toNat) }
    else s.Answered t r { status := 4, body := le32 0 } ∧ t.rd Reg.CLK_BERR = a) := by
  have hbus : (s.count Fld.MGT_CNT1_REQUESTS).readWord r.session a.toNat .clean =
      (s.count Fld.MGT_CNT1_REQUESTS).busRead r.session a.toNat := by
    unfold State.readWord
    rw [if_neg (by simp [hm])]
  unfold State.busRead at hbus
  rw [s.gateCause_count] at hbus
  split
  · next hg =>
    rw [if_pos hg] at hbus
    obtain ⟨t, ht, hd⟩ := mgmtRead_one h ha hs hbus
    exact ⟨t, ht, hd.answered⟩
  · next hg =>
    rw [if_neg hg] at hbus
    obtain ⟨t, ht, hd⟩ := mgmtRead_one h ha hs hbus
    refine ⟨t, ht, hd.answered, (hd.shown _ (by decide)).trans ?_⟩
    rw [State.rd_busError_addr, BitVec.ofNat_toNat, BitVec.setWidth_eq]

theorem State.atPort_bridgeRead (s : State) (p : ArbPort) : s.AtPort p (s.bridgeRead p) := by
  unfold State.bridgeRead
  extract_lets t
  have ht : s.AtPort p t := s.atPort_arbRequest p 9
  split
  · exact ht.trans (t.atPort_arbEnd p false)
  · exact ht

/-- The status registers of the arbiter ports of banks are no placement registers. -/
theorem rgnPlace_ne_bankStat (g : Nat) (q : Fin 32) (b : Fin 8) : Reg.RGN_PLACE g ≠ portStat (.bank q b) := by
  show Reg.RGN_PLACE g ≠ Reg.BANKARB_STAT q b
  simp only [Reg.RGN_PLACE, Reg.BANKARB_STAT, Reg.regionBase, Reg.clusterBase]
  omega

/-- R49: the fetch of a word of an Ochre memory leaves the memories, and which regions are isolated. -/
theorem State.fetchWord_shown (s : State) (a : Nat) : (s.fetchWord a).omem = s.omem ∧
    ∀ g, (s.fetchWord a).isolated g = s.isolated g := by
  refine ⟨(State.Touch.refl [.fab] s).fetchWord a (by decide) .omem (by decide), fun g => State.isolated_of_rd ?_⟩
  unfold State.fetchWord
  dsimp only
  split
  · exact (s.atPort_bridgeRead _).keeps _ fun hm => rgnPlace_ne_bankStat g _ _ (List.mem_singleton.1 hm)
  · rfl

theorem State.memRd_of_omem {s t : State} (h : t.omem = s.omem) (a : Nat) : t.memRd a = s.memRd a := by
  unfold State.memRd
  rw [h]

theorem State.deadWindow_of_isolated {s t : State} (h : ∀ g, t.isolated g = s.isolated g) (a : Nat) : t.deadWindow a = s.deadWindow a := by
  unfold State.deadWindow
  rw [h]

/-- R409: an access to an Ochre memory meets no gate and acts on nothing but what it reads. -/
theorem State.busRead_memory {a : Nat} (hm : ochreMem a = true) (s : State) (k : Word) :
    s.busRead k a = (s, if s.deadWindow a then 0 else s.memRd a, false) := by
  have hlow := le_of_ochreMem hm
  have hacts : s.readActs a = s := by
    have hns : a ≠ Reg.TB_NS := fun e => absurd (e ▸ hlow : 0x10000000 ≤ Reg.TB_NS) (by decide)
    have hcap : ¬ a ≤ Reg.TB_CAPm_VAL 15 := fun e => absurd (hlow.trans e) (by decide)
    unfold State.readActs
    rw [if_neg hns, if_neg fun e => hcap e.2.1]
  unfold State.busRead
  rw [if_pos (s.gateCause_eq_zero (gateOf_eq_none_of_ochreMem hm)), hacts, State.readValue, if_pos hm]

theorem State.readWord_memory {a : Nat} (hm : ochreMem a = true) (s : State) (k : Word) : ∃ u,
    s.readWord k a .clean = (u, if s.deadWindow a then 0 else s.memRd a, false) ∧ u.omem = s.omem := by
  obtain ⟨homem, hiso⟩ := s.fetchWord_shown a
  unfold State.readWord
  split
  · refine ⟨s.fetchWord a, ?_, homem⟩
    show (s.fetchWord a).busRead k a = _
    rw [State.busRead_memory hm, State.deadWindow_of_isolated hiso, State.memRd_of_omem homem]
  · exact ⟨s, s.busRead_memory hm k, rfl⟩

theorem State.isolated_count (s : State) (g : Nat) : (s.count Fld.MGT_CNT1_REQUESTS).isolated g = s.isolated g := by
  have hlow : Reg.MGT_CNT1 < 0x10000000 := by decide
  exact State.isolated_of_rd (State.rd_count_ne _ _ fun e => absurd (fabric_high 0 g 0).2.2.2.1 (Nat.not_le.2 (e ▸ hlow)))

theorem mgmtRead_memory {s : State} (h : s.Live) {r : Req} {a : Word} (ha : s.Accepts r 1 (spanBody a 1))
    (hs : s.spanCode r.path a 1 40 = 0) (hm : ochreMem a.toNat = true) : ∃ t, exec (.mgmtRead r a 1 [] []) s = .next t ∧
    t.omem = s.omem ∧
    s.Answered t r { status := 0, body := le32 (if s.deadWindow a.toNat then 0 else s.memRd a.toNat) } := by
  obtain ⟨u, hu, homem⟩ := (s.count Fld.MGT_CNT1_REQUESTS).readWord_memory hm r.session
  rw [State.deadWindow_of_isolated s.isolated_count, State.memRd_of_omem (s.count_omem _)] at hu
  obtain ⟨t, ht, hd⟩ := mgmtRead_one h ha hs hu
  exact ⟨t, ht, (hd.touch .omem (by decide)).trans homem, hd.answered⟩

/-! WRITE of one word. -/

/-- R450: a WRITE of one word of a good span. -/
theorem State.mgmtWrite_one {s : State} {r : Req} {a : Word} (v : Word) (h : s.spanCode r.path a 1 48 = 0) :
    s.mgmtWrite r a 1 [v] = ((s.writeWord r.session a.toNat v).1,
      if (s.writeWord r.session a.toNat v).2.1 = 0 then { status := 0 }
      else { status := (s.writeWord r.session a.toNat v).2.1, detail := (s.writeWord r.session a.toNat v).2.2 }) := by
  unfold State.mgmtWrite
  dsimp only
  rw [if_neg (by simp), show 44 + 4 * (1 : BitVec 16).toNat = 48 from rfl, if_neg (not_not.2 h)]
  unfold State.writeWords
  dsimp only
  split <;> rfl

/-- R450: a word that any part may write, behind an open gate. -/
theorem State.writeWord_open {s : State} {k v : Word} {a : Nat} (hc : commandingOnly a = false) (hg : s.gateCause a = 0)
    (ha : a ≠ Reg.SYS_CTRL) : s.writeWord k a v = ((s.refusedBy fun s => s.regWrite k a v).1,
      if (s.refusedBy fun s => s.regWrite k a v).2 then (5, (s.refusedBy fun s => s.regWrite k a v).1.get Fld.SYS_REFINFO_CODE)
      else (0, 0)) := by
  unfold State.writeWord
  rw [if_neg (by simp [hc]), if_neg (not_not.2 hg), if_neg ha]
  dsimp only
  split <;> rfl

/-- R450: a WRITE of one word that any part may write does what the write of its register does, and is answered. -/
theorem mgmtWrite_done {s : State} (h : s.Live) {r : Req} {a v : Word} (ha : s.Accepts r 2 (spanBody a 1 ++ le32 v))
    (hs : s.spanCode r.path a 1 48 = 0) (hg : s.gateCause a.toNat = 0) (hc : commandingOnly a.toNat = false)
    (hn : a.toNat ≠ Reg.SYS_CTRL) {u : State} {no : Bool}
    (hw : (s.count Fld.MGT_CNT1_REQUESTS).refusedBy (fun x => x.regWrite r.session a.toNat v) = (u, no)) :
    ∃ t, exec (.mgmtWrite r a 1 [v]) s = .next t ∧
    s.RequestDone r (if no then { status := 5, detail := u.get Fld.SYS_REFINFO_CODE } else { status := 0 }) u t := by
  have hone := State.writeWord_open (s := s.count Fld.MGT_CNT1_REQUESTS) (k := r.session) (v := v) hc
    ((s.gateCause_count _).trans hg) hn
  rw [hw] at hone
  have heq : (s.count Fld.MGT_CNT1_REQUESTS).mgmtWrite r a 1 [v] =
      (u, if no then { status := 5, detail := u.get Fld.SYS_REFINFO_CODE } else { status := 0 }) := by
    rw [State.mgmtWrite_one v ((s.spanCode_count _ _ _ _).trans hs), hone]
    cases no <;> rfl
  have hsend : s.Sends u := by
    have hr := (s.count Fld.MGT_CNT1_REQUESTS).sends_refusedBy fun u => u.sends_regWrite r.session a.toNat v
    rw [hw] at hr
    exact (s.silent.count _).sends.trans hr
  have hd := ha.request_done h (c := .mgmtWrite r a 1 [v]) (f := fun s => s.mgmtWrite r a 1 [v])
    (g := { bare := decide (a.toNat = Reg.IMG_CMD ∧ [v].length = 1) && decide (bitsGet ([v].headD 0) 0 4 = 1) })
    (by
      show Host.Outcome.next (s.running fun s => s.request r 2 (spanBody a 1 ++ ([v].map le32).flatten) _ _) = _
      rw [show ([v].map le32).flatten = le32 v from List.append_nil _])
  rw [heq] at hd
  exact hd hsend

theorem mgmtWrite_register {s : State} (h : s.Live) {r : Req} {a v : Word} {u : State} {no : Bool}
    (ha : s.Accepts r 2 (spanBody a 1 ++ le32 v)) (hs : s.spanCode r.path a 1 48 = 0) (hg : s.gateCause a.toNat = 0)
    (hc : commandingOnly a.toNat = false) (hn : a.toNat ≠ Reg.SYS_CTRL)
    (hw : (s.count Fld.MGT_CNT1_REQUESTS).refusedBy (fun x => x.regWrite r.session a.toNat v) = (u, no)) : ∃ t,
    exec (.mgmtWrite r a 1 [v]) s = .next t ∧
    s.Answered t r (if no then { status := 5, detail := u.get Fld.SYS_REFINFO_CODE } else { status := 0 }) ∧
    (∀ b, b ∉ [Reg.MGT_STAT, Reg.SAF_STAT, Reg.IMG_STAT] → t.rd b = u.rd b) := by
  obtain ⟨t, ht, hd⟩ := mgmtWrite_done h ha hs hg hc hn hw
  exact ⟨t, ht, hd.answered, hd.shown⟩

/-- R449, R450: a WRITE of a bad span does nothing. -/
theorem mgmtWrite_bad {s : State} (h : s.Live) {r : Req} {a : Word} {n : BitVec 16} {data : List Word}
    (ha : s.Accepts r 2 (spanBody a n ++ (data.map le32).flatten)) (hlen : data.length = n.toNat)
    (hs : s.spanCode r.path a n (44 + 4 * n.toNat) ≠ 0) : ∃ t, exec (.mgmtWrite r a n data) s = .next t ∧
    s.Answered t r { status := s.spanCode r.path a n (44 + 4 * n.toNat) } ∧ s.keeps t [Reg.MGT_CNT1, Reg.MGT_STAT] ∧
    State.Touch [.mgt] s t := by
  have heq : (s.count Fld.MGT_CNT1_REQUESTS).mgmtWrite r a n data =
      (s.count Fld.MGT_CNT1_REQUESTS, { status := s.spanCode r.path a n (44 + 4 * n.toNat) }) := by
    unfold State.mgmtWrite
    dsimp only
    rw [s.spanCode_count, if_neg (not_not.2 hlen), if_pos hs]
  have hd := ha.request_done h (c := .mgmtWrite r a n data) (f := fun s => s.mgmtWrite r a n data) rfl
  rw [heq] at hd
  obtain ⟨t, ht, hd⟩ := hd (s.silent.count _).sends
  exact ⟨t, ht, hd.answered, hd.keeps rfl s.keeps_request (by decide) (by decide),
    ((State.Touch.refl _ s).count _).trans hd.touch⟩

/-! A register of the always-on block (R6, R450). -/

/-- The registers of the core blocks that do more than hold what is written (Tables of SLK to CQA). -/
def coreCommands : List Nat :=
  [Reg.SLK_CTRL, Reg.FLT_CTRL, Reg.IMG_CMD, Reg.MGT_CTRL, Reg.REC_CTRL, Reg.SLH_CMD, Reg.SAF_CTRL, Reg.FUS_CTRL, Reg.CTL_MODECMD,
    Reg.SLV_CTRL, Reg.ALC_CTRL, Reg.ALC_ENABLE, Reg.CQA_CTRL]

theorem State.writeCore_plain {a : Nat} (ha : a ∉ coreCommands) (s : State) (q : RegRow) (v : Word) : s.writeCore a q v = s.put a q v := by
  simp only [coreCommands, List.mem_cons, List.not_mem_nil, or_false, not_or] at ha
  simp only [State.writeCore, ha, if_false]

/-- R6: a write of the always-on block acts by access type alone. -/
theorem State.regWrite_alwaysOn {a : Nat} (hw : a / 0x10000 = 2) (h4 : a % 4 = 0) (s : State) (k v : Word) :
    s.regWrite k a v = match regRow a with | some q => s.put a q v | none => s := by
  have ho : ochreOffset a = none := by
    have hd : a / 0x10000000 = 0 := by omega
    simp [ochreOffset, hd]
  have hcore : a ∉ coreCommands := fun hm => by
    have hne : ∀ b ∈ coreCommands, b / 0x10000 ≠ 2 := by decide
    exact hne a hm hw
  unfold State.regWrite
  rw [if_neg (by simp [h4, s.deadWindow_eq_false ho]), if_neg (by simp [ochreMem_eq_false ho])]
  cases regRow a with
  | none => rfl
  | some q =>
    dsimp only
    rw [hw, if_neg (by decide), if_neg (by decide), if_neg (by decide), if_pos (by decide)]
    exact s.writeCore_plain hcore q v

/-- A field cleared and set again to the value it had. -/
theorem bitsSet_bitsSet_bitsGet (w : Word) (lo n v : Nat) (h : lo + n ≤ 32) : bitsSet (bitsSet w lo n v) lo n (bitsGet w lo n) = w := by
  apply BitVec.eq_of_getLsbD_eq
  intro i _
  rw [bitsSet_getLsbD _ _ _ _ _ h, bitsSet_getLsbD _ _ _ _ _ h]
  split
  · next hi =>
    rw [bitsGet_testBit _ _ _ _ (by omega), Nat.add_sub_cancel' hi.1]
    simp only [show i - lo < n by omega, decide_true, Bool.and_true]
  · rfl

/-- R489: an operation that changes one register, not SYS_REFINFO, is not refused, and the count of refusals stands. -/
theorem State.refusedBy_taken {s : State} {a : Nat} (ha : a ≠ Reg.SYS_REFINFO) {f : State → State}
    (hk : (s.set Fld.SYS_REFINFO_COUNT 0).keeps (f (s.set Fld.SYS_REFINFO_COUNT 0)) [a])
    (hT : State.Touch [] (s.set Fld.SYS_REFINFO_COUNT 0) (f (s.set Fld.SYS_REFINFO_COUNT 0))) : ∃ u, s.refusedBy f = (u, false) ∧
    u.rd a = (f (s.set Fld.SYS_REFINFO_COUNT 0)).rd a ∧ s.keeps u [a] ∧ State.Touch [] s u := by
  have hinfo : Reg.SYS_REFINFO ∉ [a] := fun hm => ha (List.mem_singleton.1 hm).symm
  have hcount : (f (s.set Fld.SYS_REFINFO_COUNT 0)).get Fld.SYS_REFINFO_COUNT = 0 := by
    rw [hk.get _ hinfo, State.get_set_self _ _ _ (by decide), Nat.zero_mod]
  have heq : s.refusedBy f = ((f (s.set Fld.SYS_REFINFO_COUNT 0)).set Fld.SYS_REFINFO_COUNT (s.get Fld.SYS_REFINFO_COUNT), false) := by
    unfold State.refusedBy
    dsimp only
    rw [hcount, Nat.add_zero, Nat.min_eq_left (Nat.le_of_lt_succ (s.get_lt Fld.SYS_REFINFO_COUNT))]
    rfl
  refine ⟨_, heq, State.rd_set_ne _ _ _ ha, fun b hb => ?_, (((State.Touch.refl _ s).set _ _).trans hT).set _ _⟩
  by_cases hr : b = Reg.SYS_REFINFO
  · subst hr
    refine (State.rd_set_self _ Fld.SYS_REFINFO_COUNT _).trans ?_
    rw [hk _ hinfo, State.rd_set_self s Fld.SYS_REFINFO_COUNT 0]
    exact bitsSet_bitsSet_bitsGet _ _ _ _ (by decide)
  · rw [State.rd_set_ne _ _ _ hr, hk b hb, State.rd_set_ne _ _ _ hr]

/-- The word that a register holds after a write by access type; where no register lies, the word that it held. -/
def mergedAt (a : Nat) (old v : Word) : Word := match regRow a with
  | some q => rowMerge q old v
  | none => old

/-- R6, R484: what a write of the always-on block leaves. -/
theorem State.regWrite_alwaysOn_shown {a : Nat} (hw : a / 0x10000 = 2) (h4 : a % 4 = 0) (s : State) (k v : Word) :
    (s.regWrite k a v).rd a = mergedAt a (s.rd a) v ∧ s.keeps (s.regWrite k a v) [a] ∧ State.Touch [] s (s.regWrite k a v) := by
  rw [State.regWrite_alwaysOn hw h4, mergedAt]
  cases regRow a with
  | some q => exact ⟨State.rd_wr_self _ _ _, (s.keeps_refl _).wr _ _ (List.mem_singleton.2 rfl), (State.Touch.refl _ s).wr _ _⟩
  | none => exact ⟨rfl, s.keeps_refl _, .refl _ s⟩

theorem mgmtWrite_alwaysOn {s : State} (h : s.Live) {r : Req} {a v : Word}
    (ha : s.Accepts r 2 (spanBody a 1 ++ le32 v)) (hs : s.spanCode r.path a 1 48 = 0) (hg : s.gateCause a.toNat = 0)
    (hc : commandingOnly a.toNat = false) (hn : a.toNat ≠ Reg.SYS_CTRL) (hw : a.toNat / 0x10000 = 2) : ∃ t,
    exec (.mgmtWrite r a 1 [v]) s = .next t ∧ s.Answered t r { status := 0 } ∧
    t.rd a.toNat = mergedAt a.toNat (s.rd a.toNat) v ∧
    s.keeps t [a.toNat, Reg.MGT_CNT1, Reg.MGT_STAT] ∧ State.Touch [.mgt] s t := by
  have hne : ∀ b ∈ [Reg.SYS_REFINFO, Reg.MGT_CNT1, Reg.MGT_STAT, Reg.SAF_STAT, Reg.IMG_STAT, Reg.SAF_SO, Reg.SAF_SORB], a.toNat ≠ b :=
    fun b hb e => by
      have hnot : ∀ b ∈ [Reg.SYS_REFINFO, Reg.MGT_CNT1, Reg.MGT_STAT, Reg.SAF_STAT, Reg.IMG_STAT, Reg.SAF_SO, Reg.SAF_SORB],
        b / 0x10000 ≠ 2 := by decide
      exact hnot b hb (e ▸ hw)
  have hacc : a.toNat % 4 = 0 := by
    unfold State.spanCode at hs
    dsimp only at hs
    split at hs
    · exact absurd hs (by decide)
    · omega
  obtain ⟨hword, hkeep, htouch⟩ := State.regWrite_alwaysOn_shown hw hacc ((s.count Fld.MGT_CNT1_REQUESTS).set Fld.SYS_REFINFO_COUNT 0)
    r.session v
  rw [State.rd_set_ne _ _ _ (hne _ (by decide)), State.rd_count_ne _ _ (hne _ (by decide))] at hword
  obtain ⟨u, hu, hrd, hk, hT⟩ := State.refusedBy_taken (f := fun s => s.regWrite r.session a.toNat v) (hne _ (by decide)) hkeep htouch
  obtain ⟨t, ht, hd⟩ := mgmtWrite_done h ha hs hg hc hn hu
  have hkeep : s.keeps u [a.toNat, Reg.MGT_CNT1, Reg.MGT_STAT] :=
    (s.keeps_request.mono fun b hb => List.mem_cons_of_mem _ hb).trans (hk.mono fun b hb => List.mem_cons.2 (.inl (List.mem_singleton.1 hb)))
  refine ⟨t, ht, hd.answered, (hd.shown _ ?_).trans (hrd.trans hword), hd.keeps (hT .img (by decide)) hkeep ?_ (by simp),
    (((State.Touch.refl _ s).count _).call hT (by decide)).trans hd.touch⟩
  · simp only [List.mem_cons, List.not_mem_nil, or_false, not_or]
    exact ⟨hne _ (by decide), hne _ (by decide), hne _ (by decide)⟩
  · intro b hb hm
    obtain rfl | hm := List.mem_cons.1 hm
    · exact hne _ (List.mem_cons_of_mem _ (List.mem_cons_of_mem _ (List.mem_cons_of_mem _ hb))) rfl
    · have hfar : ∀ b ∈ [Reg.SAF_STAT, Reg.IMG_STAT, Reg.SAF_SO, Reg.SAF_SORB], b ∉ [Reg.MGT_CNT1, Reg.MGT_STAT] := by decide
      exact hfar b hb hm

/-- Settles O27: the READs of a register, of a memory word and of any span, and the WRITEs. -/
theorem readsAndWritesAreAnswered : Obligations.ReadsAndWritesAreAnswered := by
  unfold Obligations.ReadsAndWritesAreAnswered
  exact ⟨fun s r a h ha hs hm => mgmtRead_register h ha hs hm, fun s r a h ha hs hm => mgmtRead_memory h ha hs hm,
    fun s r a n l m h ha hs => mgmtRead_answers h l m ha hs,
    fun s r a v h ha hs hg hc hn hw => mgmtWrite_alwaysOn h ha hs hg hc hn hw,
    fun s r a v u no h ha hs hg hc hn hw => mgmtWrite_register h ha hs hg hc hn hw,
    fun s r a n data h ha hlen hs => mgmtWrite_bad h ha hlen hs⟩

end Sys2Proof.Machine
end

section
/-!
Operations on the units (R48, R62, R69 to R76, R247): what a store leaves in the memories, the words an elementwise operation commits, an
EMIT, and the operation that completes a task.  Settles O39.
-/
namespace Sys2Proof.Machine

/-! Stores to the Ochre memories. -/

/-- A byte of the memories after a word has been stored. -/
theorem State.cellsGet_memWr (s : State) (a : Nat) (v : Word) (b : Nat) : cellsGet 0 (s.memWr a v).omem b =
    if a ≤ b ∧ b < a + 4 then BitVec.ofNat 8 (v.toNat / 2 ^ (8 * (b - a))) else cellsGet 0 s.omem b := by
  have hstore : (s.memWr a v).omem = cellsSet 0 (cellsSet 0 (cellsSet 0 (cellsSet 0 s.omem (a + 0) (BitVec.ofNat 8 (v.toNat / 2 ^ (8 * 0))))
      (a + 1) (BitVec.ofNat 8 (v.toNat / 2 ^ (8 * 1)))) (a + 2) (BitVec.ofNat 8 (v.toNat / 2 ^ (8 * 2))))
      (a + 3) (BitVec.ofNat 8 (v.toNat / 2 ^ (8 * 3))) := rfl
  have hset : ∀ (m : Cells Byte) (k : Nat) (x : Byte), cellsGet 0 (cellsSet 0 m k x) b = if b = k then x else cellsGet 0 m b := by
    intro m k x
    split
    · next h => rw [h, cellsGet_set_self]
    · next h => exact cellsGet_set_ne _ _ _ h
  rw [hstore, hset, hset, hset, hset]
  by_cases hin : a ≤ b ∧ b < a + 4
  · obtain ⟨i, rfl⟩ := Nat.exists_eq_add_of_le hin.1
    have hi : i = 0 ∨ i = 1 ∨ i = 2 ∨ i = 3 := by omega
    rw [if_pos hin, Nat.add_sub_cancel_left]
    obtain rfl | rfl | rfl | rfl := hi <;> simp
  · rw [if_neg hin, if_neg (by omega), if_neg (by omega), if_neg (by omega), if_neg (by omega)]

theorem State.memRd_congr {s t : State} {a : Nat} (h : ∀ i < 4, cellsGet 0 t.omem (a + i) = cellsGet 0 s.omem (a + i)) :
    t.memRd a = s.memRd a := by
  unfold State.memRd
  rw [List.map_congr_left fun i hi => h i (List.mem_range.1 hi)]

/-- A word that has been stored reads back. -/
theorem State.memRd_memWr_self (s : State) (a : Nat) (v : Word) : (s.memWr a v).memRd a = v := by
  have hbytes : (List.range 4).map (fun i => cellsGet 0 (s.memWr a v).omem (a + i)) =
      (List.range 4).map (fun i => BitVec.ofNat 8 (v.toNat / 2 ^ (8 * i))) :=
    List.map_congr_left fun i hi => by
      rw [State.cellsGet_memWr, if_pos ⟨by omega, by have := List.mem_range.1 hi; omega⟩, Nat.add_sub_cancel_left]
  have hv := v.isLt
  unfold State.memRd
  rw [hbytes]
  apply BitVec.eq_of_toNat_eq
  simp only [List.range_succ, List.range_zero, List.nil_append, List.cons_append, List.map_cons, List.map_nil, leNat,
    BitVec.toNat_ofNat]
  norm_num
  omega

/-- The store of an aligned word leaves the bytes of the other words. -/
theorem State.cellsGet_memWr_ne (s : State) {a b : Nat} (v : Word) (ha : a % 4 = 0) (h : b / 4 ≠ a / 4) :
    cellsGet 0 (s.memWr a v).omem b = cellsGet 0 s.omem b := by
  rw [State.cellsGet_memWr, if_neg (by omega)]

/-- Words stored one after another at aligned addresses that are all different. -/
theorem State.each_memWr {α : Type} {ad : α → Nat} (val : α → Word) {l : List α} (hal : ∀ x ∈ l, ad x % 4 = 0)
    (hne : l.Pairwise (fun x y => ad x ≠ ad y)) (s : State) :
    (∀ x ∈ l, (s.each l (fun x s => s.memWr (ad x) (val x))).memRd (ad x) = val x) ∧
    ∀ b, (∀ x ∈ l, b / 4 ≠ ad x / 4) → cellsGet 0 (s.each l (fun x s => s.memWr (ad x) (val x))).omem b = cellsGet 0 s.omem b := by
  induction l generalizing s with
  | nil => exact ⟨fun x hx => absurd hx List.not_mem_nil, fun b _ => rfl⟩
  | cons y l ih =>
    obtain ⟨hy, hne⟩ := List.pairwise_cons.1 hne
    have hy4 := hal y List.mem_cons_self
    obtain ⟨hread, hframe⟩ := ih (fun x hx => hal x (List.mem_cons_of_mem _ hx)) hne (s.memWr (ad y) (val y))
    refine ⟨fun x hx => ?_, fun b hb => ?_⟩
    · obtain rfl | hx := List.mem_cons.1 hx
      · refine (State.memRd_congr fun i hi => hframe _ fun z hz => ?_).trans (s.memRd_memWr_self _ _)
        have hz4 := hal z (List.mem_cons_of_mem _ hz)
        have := hy z hz
        omega
      · exact hread x hx
    · exact (hframe b fun x hx => hb x (List.mem_cons_of_mem _ hx)).trans
        (s.cellsGet_memWr_ne _ hy4 (hb y List.mem_cons_self))

/-! Operands (Tables 3-3, 3-4). -/

theorem elemAddr_aligned (q a i : Nat) : elemAddr q a i % 4 = 0 := by
  unfold elemAddr regionMem clusterMem
  simp only [Reg.regionBase, Reg.clusterBase]
  split <;> omega

theorem elemAddr_inj (q a : Nat) {i j : Nat} (hi : i < 256) (hj : j < 256) (h : elemAddr q a i = elemAddr q a j) : i = j := by
  unfold elemAddr at h
  split at h <;> omega

theorem opLen_le (e : BitVec 128) : opLen e ≤ 256 := Nat.succ_le_of_lt (Nat.mod_lt _ (by decide))

/-- R72: an operation that computes each result from its index: every result is in its place, and nothing else has changed. -/
theorem State.opMap_shown (s : State) (q : Nat) (e : BitVec 128) (f : Nat → Rat) :
    (∀ i < opLen e, (s.opMap q e f).1.memRd (elemAddr q (opD e) i) = ofInt32 (narrow (toQ (opQD e) (f i))).1) ∧
    (∀ b, (∀ i < opLen e, b / 4 ≠ elemAddr q (opD e) i / 4) → cellsGet 0 (s.opMap q e f).1.omem b = cellsGet 0 s.omem b) ∧
    (s.opMap q e f).2.acc = none := by
  let xs := (List.range (opLen e)).map (fun i => toQ (opQD e) (f i))
  have hmem : ∀ x ∈ xs.zipIdx, x.2 < opLen e := fun x hx => by
    have := List.snd_lt_of_mem_zipIdx hx
    simpa [xs] using this
  have hle := opLen_le e
  obtain ⟨hread, hframe⟩ := State.each_memWr (ad := fun x : Int × Nat => elemAddr q (opD e) x.2)
    (fun x => ofInt32 (narrow x.1).1) (l := xs.zipIdx) (fun x _ => elemAddr_aligned _ _ _)
    (List.pairwise_iff_getElem.2 fun i j hi hj hij h => by
      simp only [List.getElem_zipIdx, Nat.zero_add] at h
      have hlen : xs.length = opLen e := by simp [xs]
      rw [List.length_zipIdx, hlen] at hi hj
      exact hij.ne (elemAddr_inj q (opD e) (by omega) (by omega) h)) s
  refine ⟨fun i hi => hread (toQ (opQD e) (f i), i) ?_, fun b hb => hframe b fun x hx => hb _ (hmem x hx), rfl⟩
  rw [List.mem_zipIdx_iff_getElem?]
  simp [xs, hi]

/-! What operations leave beside the memories. -/

/-- From `s` to `t` the Ochre memories alone have changed. -/
def State.InMem (s t : State) : Prop := ∃ m, t = { s with omem := m }

theorem State.InMem.refl (s : State) : s.InMem s := ⟨s.omem, rfl⟩

theorem State.InMem.trans {s t u : State} (h : s.InMem t) (h' : t.InMem u) : s.InMem u := by
  obtain ⟨m, rfl⟩ := h
  obtain ⟨n, rfl⟩ := h'
  exact ⟨n, rfl⟩

theorem State.inMem_memWr (s : State) (a : Nat) (v : Word) : s.InMem (s.memWr a v) := ⟨_, rfl⟩

theorem State.InMem.each {α : Type} {f : α → State → State} (hf : ∀ x u, State.InMem u (f x u)) (l : List α) (s : State) :
    s.InMem (s.each l f) := by
  induction l generalizing s with
  | nil => exact .refl s
  | cons x l ih => exact (hf x s).trans (ih (f x s))

theorem State.inMem_putElems (s : State) (q a : Nat) (xs : List Int) : s.InMem (s.putElems q a xs).1 :=
  State.InMem.each (fun _ u => u.inMem_memWr _ _) _ s

theorem State.inMem_opMap (s : State) (q : Nat) (e : BitVec 128) (f : Nat → Rat) : s.InMem (s.opMap q e f).1 := s.inMem_putElems _ _ _

theorem State.inMem_opOne (s : State) (q : Nat) (e : BitVec 128) (v : Rat) : s.InMem (s.opOne q e v).1 := s.inMem_putElems _ _ _

theorem State.inMem_opDot (s : State) (q : Nat) (e : BitVec 128) (acc : Option (Int × Nat)) : s.InMem (s.opDot q e acc).1 := by
  unfold State.opDot
  dsimp only
  split
  · exact .refl s
  · exact s.inMem_opOne q e _

theorem State.inMem_opScatter (s : State) (q : Nat) (d : TaskDef) (e : BitVec 128) : s.InMem (s.opScatter q d e).1 := by
  unfold State.opScatter
  extract_lets lim
  refine List.foldlRecOn (motive := fun a : State × OpFlags => s.InMem a.1) _ _ (.refl s) fun a ha i _ => ?_
  dsimp only
  split
  · exact ha
  · exact ha.trans (a.1.inMem_putElems _ _ _)

theorem State.inMem_opStreg (s : State) (q : Nat) (e : BitVec 128) : s.InMem (s.opStreg q e) := by
  refine State.InMem.each (fun i u => ?_) _ s
  have h := u.inMem_memWr (elemAddr q (opD e) i) (u.memRd (elemAddr q (opA e) i))
  dsimp only
  split
  · split
    · exact h.trans (State.inMem_memWr _ _ _)
    · exact h
  · exact h

/-- Table 3-6: no operation changes anything but the memories. -/
theorem State.inMem_opRun (s : State) (q : Nat) (d : TaskDef) (e : BitVec 128) (acc : Option (Int × Nat)) (w : Word) :
    s.InMem (s.opRun q d e acc w).1 := by
  unfold State.opRun
  dsimp only
  split
  case h_1 | h_2 | h_3 | h_4 | h_6 | h_10 | h_11 | h_12 => exact s.inMem_opMap q e _
  case h_5 => exact s.inMem_opDot q e acc
  case h_7 | h_8 | h_15 | h_19 => exact s.inMem_opMap q e _
  case h_9 => exact s.inMem_opScatter q d e
  case h_13 | h_14 => exact s.inMem_opOne q e _
  case h_16 | h_17 | h_18 => exact s.inMem_putElems q (opD e) _
  case h_20 => exact .each (fun _ u => u.inMem_memWr _ _) _ s
  case h_21 => exact s.inMem_opStreg q e
  case h_22 => exact s.inMem_memWr _ _
  case h_23 => exact .refl s

/-! The commands of an operation. -/

/-- What a command of a part released from reset leaves, before the status fields follow. -/
theorem State.Live.next {s u : State} (h : s.Live) {c : Instr} {f : State → State} (hc : exec c s = .next (s.running f)) (hu : f s = u) :
    exec c s = .next u.mirror :=
  hc.trans (congrArg Host.Outcome.next ((State.running_released h.released f).trans (congrArg State.mirror hu)))

/-- Registers of the fabric: the end of the command changes none of them. -/
theorem State.Live.keeps_mirror {s u : State} (h : s.Live) {l : List Nat} {p : List Part} (hk : s.keeps u l) (hT : State.Touch p s u)
    (hp : Part.mgt ∉ p ∧ Part.img ∉ p) (hl : ∀ a ∈ l, 0x10000000 ≤ a) : s.keeps u.mirror l := by
  have hlow : ∀ a ∈ [Reg.MGT_STAT, Reg.SAF_STAT, Reg.IMG_STAT, Reg.SAF_SO, Reg.SAF_SORB], a < 0x10000000 := by decide
  exact hk.mirror h.inv (hT .mgt hp.1) (hT .img hp.2) fun a ha hm => Nat.not_lt.2 (hl a hm) (hlow a ha)

/-- R48: every word of an operation is good, or has been corrected. -/
theorem State.each_eccAct {l : List EccResult} (hl : l.all EccResult.good = true) (q : Nat) (s : State) :
    State.Touch [] s (s.each l (fun e s => s.eccAct q e)) ∧
    s.keeps (s.each l (fun e s => s.eccAct q e)) [Reg.RGN_ECCCNT (q / 4)] ∧
    (s.each l (fun e s => s.eccAct q e)).get (Fld.RGN_ECCCNT_CORRECTED (q / 4)) =
      min (s.get (Fld.RGN_ECCCNT_CORRECTED (q / 4)) + (l.filter (fun y => decide (y = .corrected))).length) 65535 := by
  induction l generalizing s with
  | nil =>
    have hlt : s.get (Fld.RGN_ECCCNT_CORRECTED (q / 4)) < 2 ^ 16 := s.get_lt _
    exact ⟨.refl _ s, s.keeps_refl _, (Nat.min_eq_left (Nat.le_of_lt_succ hlt)).symm⟩
  | cons e l ih =>
    rw [List.all_cons, Bool.and_eq_true] at hl
    obtain ⟨he, hl⟩ := hl
    obtain ⟨hT, hk, hget⟩ := ih hl (s.eccAct q e)
    cases e with
    | clean => exact ⟨hT, hk, hget⟩
    | corrected =>
      have hcount : (s.count (Fld.RGN_ECCCNT_CORRECTED (q / 4))).get (Fld.RGN_ECCCNT_CORRECTED (q / 4)) =
          min (s.get (Fld.RGN_ECCCNT_CORRECTED (q / 4)) + 1) 65535 := s.get_count_self _ (show 0 + 16 ≤ 32 by decide)
      refine ⟨((State.Touch.refl _ s).count _).trans hT,
        ((s.keeps_refl _).count (Fld.RGN_ECCCNT_CORRECTED (q / 4)) (List.mem_singleton.2 rfl)).trans hk, hget.trans ?_⟩
      show min ((s.count (Fld.RGN_ECCCNT_CORRECTED (q / 4))).get (Fld.RGN_ECCCNT_CORRECTED (q / 4)) + _) _ = _
      rw [hcount, List.filter_cons_of_pos (by rfl), List.length_cons]
      omega
    | badBank b => exact absurd he Bool.false_ne_true
    | badPipOrTable => exact absurd he Bool.false_ne_true
    | badRegionMemory => exact absurd he Bool.false_ne_true

/-- R62: a run that stands on its unit, and its task. -/
structure State.Runs (s : State) (q u : Nat) (x : TaskInst) (d : TaskDef) : Prop where
  on : s.instOn q u = some x
  phase : x.phase = .running
  task : s.taskDef x.task = some d

theorem State.Runs.operationComplete {s : State} {q u : Nat} {x : TaskInst} {d : TaskDef} (h : s.Runs q u x d) {l : List EccResult}
    (hl : l.all EccResult.good = true) (w : Bool) :
    s.operationComplete q u l w = (s.each l (fun e s => s.eccAct q e)).opCommit q d x w := by
  unfold State.operationComplete
  rw [h.on, Option.filter_some_pos (by simp [h.phase])]
  dsimp only
  rw [h.task]
  dsimp only
  rw [if_pos hl]

/-- A run after an operation of its task. -/
def TaskInst.after (x : TaskInst) (f : OpFlags) : TaskInst := { x with op := x.op + 1, acc := f.acc, status := statusAfter x.status f }

/-- R62: an operation that is not the last of its task. -/
theorem State.opNext_more {d : TaskDef} {x : TaskInst} (h : x.op + 1 < tdNops d) (s : State) (f : OpFlags) (w : Bool) :
    s.opNext d x f w = s.modTask x.task x.number (fun _ => x.after f) := if_pos h

/-- R62: the last operation of a task that is no test task. -/
theorem State.opNext_last {d : TaskDef} {x : TaskInst} (h : tdNops d ≤ x.op + 1) (ht : d.test = false) (s : State) (f : OpFlags)
    (w : Bool) : s.opNext d x f w = (s.modTask x.task x.number (fun _ => x.after f)).taskComplete d (x.after f) := by
  unfold State.opNext
  exact (if_neg (Nat.not_lt.2 h)).trans (if_neg (by simp [ht]))

/-! Elementwise operations. -/

/-- Table 3-6: the result of ADD, SUB, MUL, MIN or MAX. -/
def elementwise (c : Nat) (a b : Rat) : Rat :=
  if c = 0x02 then a + b else if c = 0x03 then a - b else if c = 0x04 then a * b else if c = 0x0B then min a b else max a b

theorem State.opRun_elementwise {e : BitVec 128} (h : opCode e ∈ [0x02, 0x03, 0x04, 0x0B, 0x0C]) (s : State) (q : Nat) (d : TaskDef)
    (acc : Option (Int × Nat)) (w : Word) : s.opRun q d e acc w =
      s.opMap q e (fun i => elementwise (opCode e) (ofQ (opQA e) (s.elem q (opA e) i)) (ofQ (opQB e) (s.elem q (opB e) i))) := by
  simp only [List.mem_cons, List.not_mem_nil, or_false] at h
  unfold State.opRun
  obtain h | h | h | h | h := h
  all_goals
    rw [h]
    rfl

theorem rgnEcccnt_high (g : Nat) : 0x10000000 ≤ Reg.RGN_ECCCNT g := by
  simp only [Reg.RGN_ECCCNT, Reg.regionBase]
  omega

/-- R48, R72: the first clause of O39. -/
theorem operationComplete_elementwise {s : State} (h : s.Live) {q : Fin 32} {u : Fin 8} {x : TaskInst} {d : TaskDef} {e : BitVec 128}
    {c : List EccResult} (w : Bool) (hc : c.all EccResult.good = true) (hx : s.Runs q u x d) (he : d.ops[x.op]? = some e)
    (hn : x.op + 1 < tdNops d) (ho : opCode e ∈ [0x02, 0x03, 0x04, 0x0B, 0x0C]) : ∃ t,
    exec (.operationComplete q u c w) s = .next t ∧
    (∀ i < opLen e, t.memRd (elemAddr q (opD e) i) = ofInt32 (narrow (toQ (opQD e)
      (elementwise (opCode e) (ofQ (opQA e) (s.elem q (opA e) i)) (ofQ (opQB e) (s.elem q (opB e) i))))).1) ∧
    (∀ a, (∀ i < opLen e, a / 4 ≠ elemAddr q (opD e) i / 4) → cellsGet 0 t.omem a = cellsGet 0 s.omem a) ∧
    (∃ y ∈ t.fab.insts, y.task = x.task ∧ y.number = x.number ∧ y.op = x.op + 1 ∧ y.phase = .running ∧ y.acc = none) ∧
    t.get (Fld.RGN_ECCCNT_CORRECTED (q / 4)) =
      min (s.get (Fld.RGN_ECCCNT_CORRECTED (q / 4)) + (c.filter (fun y => decide (y = .corrected))).length) 65535 ∧
    s.keeps t [Reg.RGN_ECCCNT (q / 4)] ∧ State.Touch [.omem, .fab] s t := by
  obtain ⟨hT, hk, hget⟩ := s.each_eccAct hc q
  have heq := hx.operationComplete hc w
  generalize s.each c (fun e s => s.eccAct q e) = v at hT hk hget heq
  let f := fun i => elementwise (opCode e) (ofQ (opQA e) (v.elem q (opA e) i)) (ofQ (opQB e) (v.elem q (opB e) i))
  have helem : ∀ a i, v.elem q a i = s.elem q a i := fun a i =>
    congrArg (fun w : Word => toSigned 32 w.toNat) (State.memRd_of_omem (hT .omem (by decide)) _)
  obtain ⟨hread, hframe, hacc⟩ := v.opMap_shown q e f
  have hin := v.inMem_opMap q e f
  have hne : opCode e ≠ 0x16 := fun h => by
    rw [h] at ho
    exact absurd ho (by decide)
  have hcommit : v.opCommit q d x w =
      (v.opMap q e f).1.modTask x.task x.number (fun _ => x.after (v.opMap q e f).2) := by
    unfold State.opCommit
    rw [he]
    dsimp only
    rw [if_neg hne, State.opRun_elementwise ho]
    exact State.opNext_more hn _ _ _
  generalize v.opMap q e f = r at hread hframe hacc hin hcommit
  obtain ⟨m, hm⟩ := hin
  have hmem : x ∈ r.1.fab.insts := by
    rw [hm]
    show x ∈ v.fab.insts
    rw [show v.fab = s.fab from hT .fab (by decide)]
    exact (State.instOn_spec hx.on).1
  have hregs : s.keeps (r.1.modTask x.task x.number (fun _ => x.after r.2)) [Reg.RGN_ECCCNT (q / 4)] := hk.of_regs (by rw [hm]; rfl)
  have htouch : State.Touch [.omem, .fab] s (r.1.modTask x.task x.number (fun _ => x.after r.2)) :=
    State.Touch.modTask (hm ▸ (hT.mono fun p hp => absurd hp List.not_mem_nil).upd_omem m (by decide)) _ _ _ (by decide)
  refine ⟨_, h.next rfl (heq.trans hcommit), fun i hi => ?_, fun a ha => ?_,
    ⟨x.after r.2, State.mem_modTask hmem (fun _ => x.after r.2), rfl, rfl, rfl, hx.phase, hacc⟩, ?_,
    h.keeps_mirror hregs htouch (by decide) fun a ha => List.mem_singleton.1 ha ▸ rgnEcccnt_high _, htouch.mirror (by decide)⟩
  · refine (hread i hi).trans ?_
    simp only [f, helem]
  · exact (hframe a ha).trans (congrArg (cellsGet 0 · a) (hT .omem (by decide)))
  · rw [State.get_of_rd (Fld.RGN_ECCCNT_CORRECTED (q / 4)) (State.rd_mirror_fabric _ (rgnEcccnt_high _)), ← hget]
    exact State.get_of_regs (by rw [hm]; rfl) _

/-! EMIT (R247). -/

/-- R247: the output of an EMIT. -/
def State.emitted (s : State) (d : TaskDef) (x : TaskInst) (e : BitVec 128) : FabOut :=
  let body := (List.range (opLen e)).flatMap (fun i => le32 (s.memRd (elemAddr x.cluster (opA e) i)))
  { region := x.cluster / 4, handle := opImm e, frame := s.slotFrame d x.number, task := x.task,
    crc := crc16 (body ++ le32 (x.status &&& ~~~(0x80 : Word))), payload := body ++ le32 x.status }

theorem State.length_emitted (s : State) (d : TaskDef) (x : TaskInst) (e : BitVec 128) :
    (s.emitted d x e).payload.length = 4 * opLen e + 4 := by
  have hbody : (List.range (opLen e)).flatMap (fun i => le32 (s.memRd (elemAddr x.cluster (opA e) i))) =
      (((List.range (opLen e)).map (fun i => s.memRd (elemAddr x.cluster (opA e) i))).map le32).flatten := by
    rw [List.map_map, List.flatMap_def]
    rfl
  show (_ ++ le32 x.status).length = _
  rw [hbody, List.length_append, length_flatten_le32, List.length_map, List.length_range]
  rfl

/-- R247: the egress forwards an output, and holds it as the last one of its handle. -/
def State.sendOut (s : State) (o : FabOut) : State := s.modFab (fun f => { f with
  egress := (o.region, o.handle, o.frame, o.crc) :: f.egress.filter (fun y => !decide (y.1 = o.region ∧ y.2.1 = o.handle))
  outs := f.outs ++ [o] })

/-- R247: an output is forwarded where its frame is not that of the last one of its handle. -/
theorem State.egressAccept_new {s : State} {d : TaskDef} {x : TaskInst} {e : BitVec 128}
    (h : ∀ y ∈ s.fab.egress, ¬ (y.1 = x.cluster / 4 ∧ y.2.1 = opImm e ∧ y.2.2.1 = s.slotFrame d x.number)) :
    s.egressAccept d x e = s.sendOut (s.emitted d x e) := by
  unfold State.egressAccept
  dsimp only
  rw [List.find?_eq_none.2 fun y hy => by rw [decide_eq_true_eq]; exact h y hy]
  rfl

theorem operationComplete_emit {s : State} (h : s.Live) {q : Fin 32} {u : Fin 8} {x : TaskInst} {d : TaskDef} {e : BitVec 128} (w : Bool)
    (hx : s.Runs q u x d) (he : d.ops[x.op]? = some e) (hn : x.op + 1 < tdNops d) (ho : opCode e = 0x16)
    (hnew : ∀ y ∈ s.fab.egress, ¬ (y.1 = q.val / 4 ∧ y.2.1 = opImm e ∧ y.2.2.1 = s.slotFrame d x.number)) : ∃ t,
    exec (.operationComplete q u [] w) s = .next t ∧ (∃ o, t.fab.outs = s.fab.outs ++ [o] ∧ o.handle = opImm e ∧
      o.task = x.task ∧ o.frame = s.slotFrame d x.number ∧ o.payload.length = 4 * opLen e + 4) ∧ s.keeps t [] ∧
    State.Touch [.fab] s t := by
  obtain ⟨-, hq, -⟩ := State.instOn_spec hx.on
  have heq : s.operationComplete q u [] w = (s.sendOut (s.emitted d x e)).modTask x.task x.number (fun _ => x.after {}) := by
    refine (hx.operationComplete (l := []) rfl w).trans ?_
    show s.opCommit q d x w = _
    unfold State.opCommit
    rw [he]
    dsimp only
    rw [if_pos ho, State.egressAccept_new (hq ▸ hnew)]
    exact State.opNext_more hn _ _ _
  have htouch : State.Touch [.fab] s ((s.sendOut (s.emitted d x e)).modTask x.task x.number (fun _ => x.after {})) :=
    ((State.Touch.refl _ s).modFab _ (by decide)).modTask _ _ _ (by decide)
  exact ⟨_, h.next rfl heq, ⟨s.emitted d x e, rfl, rfl, rfl, rfl, s.length_emitted d x e⟩,
    h.keeps_mirror (State.keeps_of_regs _ rfl) htouch (by decide) fun a ha => absurd ha List.not_mem_nil, htouch.mirror (by decide)⟩

/-! The last operation of a task (R68, R76). -/

theorem State.InMem.touch {s t : State} (h : s.InMem t) : State.Touch [.omem] s t := by
  obtain ⟨m, rfl⟩ := h
  exact (State.Touch.refl _ s).upd_omem m (by decide)

theorem State.InMem.regs {s t : State} (h : s.InMem t) : t.regs = s.regs := by
  obtain ⟨m, rfl⟩ := h
  rfl

theorem State.keeps_egressAccept (s : State) (d : TaskDef) (x : TaskInst) (e : BitVec 128) :
    s.keeps (s.egressAccept d x e) [Reg.RGN_EGRDUP (x.cluster / 4)] := by
  have hcount : s.keeps (s.count (Fld.RGN_EGRDUP_DUP_DROPPED (x.cluster / 4))) [Reg.RGN_EGRDUP (x.cluster / 4)] :=
    (s.keeps_refl _).count _ (List.mem_singleton.2 rfl)
  unfold State.egressAccept
  dsimp only
  split
  · split
    · exact hcount
    · exact hcount.of_regs rfl
  · exact State.keeps_of_regs _ rfl

/-- R81: the registers that count a run's own flags. -/
def satRegs (q : Nat) : List Nat := [Reg.CLU_SATCNT q, Reg.CLU_LASTSAT q]

theorem State.keeps_countSat (s : State) (x : TaskInst) : s.keeps (s.countSat x) (satRegs x.cluster) := by
  have hs : Reg.CLU_SATCNT x.cluster ∈ satRegs x.cluster := List.mem_cons_self
  have hl : Reg.CLU_LASTSAT x.cluster ∈ satRegs x.cluster := List.mem_cons_of_mem _ List.mem_cons_self
  unfold State.countSat
  extract_lets w q a b
  have ha : s.keeps a (satRegs x.cluster) := by
    show s.keeps (if _ then _ else _) _
    split
    · exact (((s.keeps_refl _).count _ hs).set _ _ hl).set _ _ hl
    · exact s.keeps_refl _
  have hb : s.keeps b (satRegs x.cluster) := by
    show s.keeps (if _ then _ else _) _
    split
    · exact ha.count _ hs
    · exact ha
  split
  · exact hb.count _ hs
  · exact hb

/-- R68: a run is over: its unit is free, its pip invalid, its flags counted. -/
def State.runEnded (s : State) (d : TaskDef) (x : TaskInst) : State :=
  (((s.freeOf x).endInst x.task x.number).endPip d x.cluster).countSat x

/-- R65, R76: the token that a run sends to a cluster for a successor. -/
def State.tokenFor (s : State) (d : TaskDef) (x : TaskInst) (t : Nat) (e : TaskDef) (q : Nat) : Token :=
  let k := s.succNum d e x.number x.start
  { cluster := q, task := t, number := k.1, flags := tokenFlags x.status, start := k.2 }

/-- R68: the tokens that a run sends when it completes. -/
def State.tokensOf (s : State) (d : TaskDef) (x : TaskInst) : List Token :=
  d.succ.flatMap (fun (t : Fin 4096) => match s.taskDef t with
    | some e => (tdHolders e).map (s.tokenFor d x t e)
    | none => [])

/-- R47, R68: a run that is no test ends, and its tokens go out. -/
theorem State.taskComplete_eq {d : TaskDef} (ht : d.test = false) (s : State) (x : TaskInst) :
    s.taskComplete d x = (s.runEnded d x).modFab (fun f => { f with
      tokens := f.tokens ++ (s.runEnded d x).tokensOf d x
      slack := if tdClass d = 0 then f.slack else f.slack ++ [(x.task, ((x.start + tdDeadline d : Nat) : Int))] }) :=
  if_neg (by simp [ht])

theorem State.mem_tokensOf {s : State} {d f : TaskDef} {x : TaskInst} {k : Fin 4096} {h : Nat} (hk : k ∈ d.succ)
    (hf : s.taskDef k = some f) (hh : h ∈ tdHolders f) : ∃ y ∈ s.tokensOf d x, y.cluster = h ∧ y.task = k.val := by
  refine ⟨s.tokenFor d x k f h, List.mem_flatMap.2 ⟨k, hk, ?_⟩, rfl, rfl⟩
  rw [hf]
  exact List.mem_map.2 ⟨h, hh, rfl⟩

theorem State.freeOf_running {s : State} {x : TaskInst} (hp : x.phase = .running) (hu : s.unitState x.cluster x.unit = 1)
    (hi : s.isolated (x.cluster / 4) = false) : s.freeOf x = s.setUnit x.cluster x.unit 0 := by
  unfold State.freeOf
  rw [hp]
  exact if_pos ⟨hu, by simp [hi]⟩

/-- R68, R76: what the end of a run leaves. -/
theorem State.runEnded_shown {s : State} {d : TaskDef} {x : TaskInst} (hp : x.phase = .running) (hu : s.unitState x.cluster x.unit = 1)
    (hi : s.isolated (x.cluster / 4) = false) : (s.runEnded d x).unitState x.cluster x.unit = 0 ∧
    (s.runEnded d x).fab = ((s.freeOf x).endInst x.task x.number).fab ∧ State.Touch [.omem, .fab] s (s.runEnded d x) := by
  have hfree := State.freeOf_running hp hu hi
  have hT : State.Touch [.omem, .fab] s ((s.freeOf x).endInst x.task x.number) :=
    ((State.Touch.refl _ s).freeOf x (by decide)).endInst _ _ (by decide)
  have hend : State.Touch [.omem] ((s.freeOf x).endInst x.task x.number) (s.runEnded d x) :=
    ((State.Touch.refl _ _).endPip d x.cluster (by decide)).countSat x (by decide)
  refine ⟨?_, hend .fab (by decide), hT.call hend (by decide)⟩
  have hapart : Reg.CLU_UNITSTAT x.cluster ∉ satRegs x.cluster := by
    simp only [satRegs, List.mem_cons, List.not_mem_nil, or_false, Reg.CLU_UNITSTAT, Reg.CLU_SATCNT, Reg.CLU_LASTSAT]
    omega
  refine ((State.keeps_countSat _ x).get (Fld.CLU_UNITSTAT_STATE_U x.cluster x.unit) hapart).trans
    ((State.get_of_regs (State.endPip_regs _ d x.cluster) _).trans ?_)
  rw [hfree]
  exact State.get_set_self s (Fld.CLU_UNITSTAT_STATE_U x.cluster x.unit) 0
    (show 0 + 2 * x.unit + 2 ≤ 32 by have := State.unitState_within hu; omega)

/-- R68, R76: the unit is idle, the run is closed, and its tokens are on their way. -/
theorem State.taskComplete_shown {s : State} {d : TaskDef} {x : TaskInst} (ht : d.test = false) (hp : x.phase = .running)
    (hu : s.unitState x.cluster x.unit = 1) (hi : s.isolated (x.cluster / 4) = false) :
    (s.taskComplete d x).unitState x.cluster x.unit = 0 ∧ (s.taskComplete d x).instOf x.task x.number = none ∧
    (x.task, x.number) ∈ (s.taskComplete d x).fab.closed ∧
    (∀ k ∈ d.succ, ∀ f, s.taskDef k.val = some f → ∀ h ∈ tdHolders f,
      ∃ y ∈ (s.taskComplete d x).fab.tokens, y.cluster = h ∧ y.task = k.val) ∧
    (tdClass d ≠ 0 → (x.task, ((x.start + tdDeadline d : Nat) : Int)) ∈ (s.taskComplete d x).fab.slack) ∧
    State.Touch [.omem, .fab] s (s.taskComplete d x) := by
  obtain ⟨hidle, hfab, hT⟩ := State.runEnded_shown (d := d) hp hu hi
  obtain ⟨hclosed, hgone⟩ := (s.freeOf x).endInst_shown x.task x.number
  rw [← hfab] at hclosed hgone
  rw [State.taskComplete_eq ht]
  refine ⟨hidle, List.find?_eq_none.2 fun y hy => by rw [decide_eq_true_eq]; exact hgone y hy, hclosed, fun k hk f hf h hh => ?_,
    fun hd => ?_, hT.modFab _ (by decide)⟩
  · obtain ⟨y, hy, hto⟩ := State.mem_tokensOf (s := s.runEnded d x) (x := x) hk
      ((State.taskDef_of_cfg (hT .cfg (by decide)).1 _).trans hf) hh
    exact ⟨y, List.mem_append_right _ hy, hto⟩
  · show _ ∈ (if tdClass d = 0 then _ else _ ++ [_])
    rw [if_neg hd]
    exact List.mem_append_right _ (List.mem_singleton.2 rfl)

/-- R62: whatever the last operation is, it leaves the units and the placement, and its task completes. -/
theorem State.opCommit_last {d : TaskDef} {x : TaskInst} (hn : tdNops d ≤ x.op + 1) (ht : d.test = false) (s : State) (w : Bool) :
    ∃ u f, s.opCommit x.cluster d x w = u.taskComplete d (x.after f) ∧ State.Touch [.omem, .chans, .fab, .port] s u ∧
    s.keeps u [Reg.RGN_EGRDUP (x.cluster / 4)] := by
  have hlast : ∀ v f, State.Touch [.omem, .chans, .fab, .port] s v → s.keeps v [Reg.RGN_EGRDUP (x.cluster / 4)] →
      ∃ u f', v.opNext d x f w = u.taskComplete d (x.after f') ∧ State.Touch [.omem, .chans, .fab, .port] s u ∧
      s.keeps u [Reg.RGN_EGRDUP (x.cluster / 4)] := fun v f hT hk =>
    ⟨_, f, State.opNext_last hn ht v f w, hT.modTask _ _ _ (by decide), hk.of_regs rfl⟩
  unfold State.opCommit
  split
  · exact hlast s {} (.refl _ s) (s.keeps_refl _)
  · next e _ =>
    split
    · exact hlast _ {} ((State.Touch.refl _ s).egressAccept d x e (by decide)) (s.keeps_egressAccept d x e)
    · have hin := s.inMem_opRun x.cluster d e x.acc x.status
      exact hlast _ _ (hin.touch.mono (by decide)) (State.keeps_of_regs _ hin.regs)

theorem operationComplete_last {s : State} (h : s.Live) {q : Fin 32} {u : Fin 8} {x : TaskInst} {d : TaskDef} (w : Bool)
    (hx : s.Runs q u x d) (ht : d.test = false) (hn : tdNops d ≤ x.op + 1) (hi : s.isolated (q / 4) = false) (hu : s.unitState q u = 1) :
    ∃ t, exec (.operationComplete q u [] w) s = .next t ∧ t.unitState q u = 0 ∧ t.instOf x.task x.number = none ∧
    (x.task, x.number) ∈ t.fab.closed ∧
    (∀ k ∈ d.succ, ∀ f, s.taskDef k.val = some f → ∀ h ∈ tdHolders f, ∃ y ∈ t.fab.tokens, y.cluster = h ∧ y.task = k.val) ∧
    (tdClass d ≠ 0 → (x.task, ((x.start + tdDeadline d : Nat) : Int)) ∈ t.fab.slack) ∧
    State.Touch [.omem, .chans, .fab, .port] s t := by
  obtain ⟨-, hq, hunit⟩ := State.instOn_spec hx.on
  obtain ⟨v, f, hv, hT, hk⟩ := State.opCommit_last hn ht s w
  rw [hq] at hv hk
  have heq : s.operationComplete q u [] w = v.taskComplete d (x.after f) :=
    (hx.operationComplete (l := []) rfl w).trans hv
  have hrgn : ∀ a, a ∈ [Reg.RGN_EGRDUP (q / 4)] → a = Reg.RGN_EGRDUP (q / 4) := fun a => List.mem_singleton.1
  have hu' : v.unitState q u = 1 := (hk.get (Fld.CLU_UNITSTAT_STATE_U q u) fun hm => by
    have := hrgn _ hm
    simp only [Reg.CLU_UNITSTAT, Reg.clusterBase, Reg.RGN_EGRDUP, Reg.regionBase] at this
    omega).trans hu
  have hi' : v.isolated (q / 4) = false := (State.isolated_of_rd (hk _ fun hm => by
    have := hrgn _ hm
    simp only [Reg.RGN_PLACE, Reg.RGN_EGRDUP] at this
    omega)).trans hi
  obtain ⟨hidle, hgone, hclosed, htok, hslack, hTe⟩ := State.taskComplete_shown (s := v) (x := x.after f) ht hx.phase
    (show v.unitState x.cluster x.unit = 1 by rw [hq, hunit]; exact hu') (show v.isolated (x.cluster / 4) = false by rw [hq]; exact hi')
  refine ⟨_, h.next rfl heq, (State.unitState_mirror _ q u).trans ?_, hgone, hclosed,
    fun k hk g hg => htok k hk g ((State.taskDef_of_cfg (hT .cfg (by decide)).1 _).trans hg), hslack,
    (hT.call hTe (by decide)).mirror (by decide)⟩
  rw [← hq, ← hunit]
  exact hidle

/-- Settles O39: an elementwise operation, an EMIT, and the last operation of a task. -/
theorem operationsWriteTheirResults : Obligations.OperationsWriteTheirResults := by
  unfold Obligations.OperationsWriteTheirResults
  exact ⟨fun s q u x d e c w hc h hx hp hd he hn ho => operationComplete_elementwise h w hc ⟨hx, hp, hd⟩ he hn ho,
    fun s q u x d e w h hx hp hd he hn ho hnew => operationComplete_emit h w ⟨hx, hp, hd⟩ he hn ho hnew,
    fun s q u x d w h hx hp hd ht hn hi hu => operationComplete_last h w ⟨hx, hp, hd⟩ ht hn hi hu⟩

end Sys2Proof.Machine
end

section
/-!
Completion tokens (R65, R76, R237), the slack monitor (R47), outputs at their channel ports (R246, R247) and wait aborts (R58 to R60).
Settles O40.
-/
namespace Sys2Proof.Machine

/-! Completion tokens. -/

theorem State.instOf_spec {s : State} {k n : Nat} {x : TaskInst} (h : s.instOf k n = some x) :
    x ∈ s.fab.insts ∧ x.task = k ∧ x.number = n :=
  ⟨List.mem_of_find?_eq_some h, of_decide_eq_true (List.find?_some (p := fun x : TaskInst => decide (x.task = k ∧ x.number = n)) h)⟩

/-- R65, R76: a run that has counted one more token at a cluster. -/
def TaskInst.counted (x : TaskInst) (q : Nat) (y : Token) (inherit : Bool) : TaskInst :=
  { x with tokens := cellsSet 0 x.tokens q (cellsGet 0 x.tokens q + 1), flags := if inherit then x.flags ||| y.flags else x.flags }

/-- R65: a token for a run that exists is counted there, and its task is looked at. -/
theorem State.completionToken_eq {s : State} {q k : Nat} {d : TaskDef} {y : Token} {x : TaskInst} (hd : s.taskDef k = some d)
    (hy : s.fab.tokens.find? (fun z => decide (z.cluster = q ∧ z.task = k)) = some y) (hc : (k, y.number) ∉ s.fab.closed)
    (hx : s.instOf k y.number = some x) : s.completionToken q k =
      ((s.modFab (fun f => { f with tokens := f.tokens.erase y })).modTask k y.number
        (fun x => x.counted q y (tdInherit d))).wakeWaiting d := by
  unfold State.completionToken
  rw [hy, hd]
  dsimp only
  refine (if_neg hc).trans ?_
  have hin : (State.instOf (s.modFab fun f => { f with tokens := f.tokens.erase y }) k y.number).isSome = true := by
    show (s.instOf k y.number).isSome = true
    rw [hx]
    rfl
  rw [if_pos hin]
  rfl

/-- R237: a run that waits, and whose placement has counted NDEP tokens, becomes ready. -/
theorem State.wakeWaiting_ready {s : State} {d : TaskDef} {x : TaskInst} {q : Nat} (hx : x ∈ s.fab.insts) (ht : x.task = tdTask d)
    (hw : x.phase = .waiting) (hp : s.placeOf (tdTask d) = some q) (hn : tdNdep d ≤ cellsGet 0 x.tokens q) :
    { x with phase := .ready } ∈ (s.wakeWaiting d).fab.insts := by
  unfold State.wakeWaiting
  rw [hp]
  exact List.mem_map.2 ⟨x, hx, if_pos ⟨ht, hw, hn⟩⟩

theorem State.wakeWaiting_rest (s : State) (d : TaskDef) : (s.wakeWaiting d).fab.tokens = s.fab.tokens ∧ (s.wakeWaiting d).regs = s.regs := by
  unfold State.wakeWaiting
  split
  · exact ⟨rfl, rfl⟩
  · exact ⟨rfl, rfl⟩

theorem completionToken_ready {s : State} (h : s.Live) {q : Fin 32} {k : Fin 4096} {d : TaskDef} {x : TaskInst} {y : Token}
    (hd : s.taskDef k = some d) (hy : s.fab.tokens.find? (fun z => decide (z.cluster = q.val ∧ z.task = k.val)) = some y)
    (hc : (k.val, y.number) ∉ s.fab.closed) (hx : s.instOf k y.number = some x) (hw : x.phase = .waiting)
    (hp : s.placeOf k = some q.val) (hn : cellsGet 0 x.tokens q + 1 = tdNdep d) : ∃ t,
    exec (.completionToken q k) s = .next t ∧ t.fab.tokens = s.fab.tokens.erase y ∧
    (∃ z ∈ t.fab.insts, z.task = x.task ∧ z.number = x.number ∧ z.phase = .ready ∧ cellsGet 0 z.tokens q = tdNdep d ∧
      z.flags = if tdInherit d = true then x.flags ||| y.flags else x.flags) ∧ s.keeps t [] ∧ State.Touch [.fab] s t := by
  obtain ⟨hmem, htask, hnum⟩ := State.instOf_spec hx
  have heq := State.completionToken_eq hd hy hc hx
  let v := (s.modFab (fun f => { f with tokens := f.tokens.erase y })).modTask k y.number (fun x => x.counted q y (tdInherit d))
  obtain ⟨htok, hregs⟩ := v.wakeWaiting_rest d
  have hcount : cellsGet 0 (x.counted q y (tdInherit d)).tokens q = tdNdep d := (cellsGet_set_self _ _ _ _).trans hn
  have hin : x.counted q y (tdInherit d) ∈ v.fab.insts := List.mem_map.2 ⟨x, hmem, if_pos ⟨htask, hnum⟩⟩
  have hready := State.wakeWaiting_ready (d := d) (q := q) hin (htask.trans (State.taskDef_task hd).symm) hw
    (State.taskDef_task hd ▸ hp) hcount.ge
  have hT : State.Touch [.fab] s (s.completionToken q k) := (State.Touch.refl _ s).completionToken q k (by decide)
  rw [heq] at hT
  exact ⟨_, h.next rfl heq, htok, ⟨_, hready, rfl, rfl, rfl, hcount, rfl⟩,
    h.keeps_mirror (State.keeps_of_regs _ hregs) hT (by decide) fun a ha => absurd ha List.not_mem_nil, hT.mirror (by decide)⟩

/-! The slack monitor. -/

/-- R47: CLR sets the least slacks back. -/
theorem slkClr_done {s : State} (h : s.Live) : ∃ t, exec .slkClr s = .next t ∧ t.rd Reg.SLK_MINF = 0x7FFFFFFF ∧
    t.rd Reg.SLK_MINP = 0x7FFFFFFF ∧ s.keeps t [Reg.SLK_MINF, Reg.SLK_MINP] ∧ t.rest = s.rest := by
  have hk : s.keeps ((s.wr Reg.SLK_MINF 0x7FFFFFFF).wr Reg.SLK_MINP 0x7FFFFFFF) [Reg.SLK_MINF, Reg.SLK_MINP] :=
    ((s.keeps_refl _).wr _ _ (by decide)).wr _ _ (by decide)
  refine ⟨_, h.next rfl rfl, ?_, ?_, hk.mirror h.inv rfl rfl (by decide), rfl⟩
  · rw [State.rd_mirror _ (by decide) (by decide) (by decide), State.rd_wr_ne _ _ (by decide), State.rd_wr_self]
  · rw [State.rd_mirror _ (by decide) (by decide) (by decide), State.rd_wr_self]

theorem toSigned_eq_toInt (w : Word) : toSigned 32 w.toNat = w.toInt := by
  unfold toSigned
  rw [BitVec.toInt_eq_toNat_cond]
  split <;> split <;> omega

/-- A value within the range of a word is not changed by saturation. -/
theorem toInt_satInt32 {x : Int} (h0 : 0 ≤ x) (h1 : x < 2 ^ 31) : (satInt32 x).toInt = x := by
  have hc : clampInt (-2147483648) 2147483647 x = x := by
    unfold clampInt
    omega
  unfold satInt32
  rw [hc, BitVec.toInt_ofInt]
  exact Int.bmod_eq_of_le (by omega) (by omega)

/-- R47: a condition of the slack monitor sets its bit, and raises its event unless the frame has had it. -/
theorem State.slackEvent_rest (s : State) (bit code task : Nat) (slack : Int) :
    (s.slackEvent bit code task slack).regs = (s.set ⟨Reg.SLK_STAT, bit, 1⟩ 1).regs ∧
    (s.slackEvent bit code task slack).fab.slack = s.fab.slack ∧
    (s.fab.slackRaised.getLsbD bit = false →
      ∃ e, (s.slackEvent bit code task slack).recd.port = s.recd.port ++ [e] ∧ e.code = code) := by
  unfold State.slackEvent
  dsimp only
  split
  · next hr => exact ⟨rfl, rfl, fun h => absurd (hr.symm.trans h) (by decide)⟩
  · exact ⟨rfl, rfl, fun _ => ⟨_, rfl, rfl⟩⟩

/-- R47: the least slack of the FRAME class, held against a slack. -/
def State.minSlack (s : State) (slack : Int) : State :=
  if slack < toSigned 32 (s.rd Reg.SLK_MINF).toNat then s.wr Reg.SLK_MINF (satInt32 slack) else s

theorem State.minSlack_shown (s : State) {slack : Int} (h0 : 0 ≤ slack) (h1 : slack < 2 ^ 31) :
    ((s.minSlack slack).rd Reg.SLK_MINF).toInt = min (s.rd Reg.SLK_MINF).toInt slack ∧ s.keeps (s.minSlack slack) [Reg.SLK_MINF] ∧
    (s.minSlack slack).rest = s.rest := by
  unfold State.minSlack
  rw [toSigned_eq_toInt]
  split
  · next h =>
    rw [State.rd_wr_self, toInt_satInt32 h0 h1, min_eq_right h.le]
    exact ⟨rfl, (s.keeps_refl _).wr _ _ (by decide), rfl⟩
  · next h => exact ⟨(min_eq_left (not_lt.1 h)).symm, s.keeps_refl _, rfl⟩

/-- R47: a token of the FRAME class whose slack is low and not below 0. -/
theorem State.slackToken_low {s : State} {k : Nat} {d : TaskDef} {x : Nat × Int} (hd : s.taskDef k = some d)
    (hx : s.fab.slack.find? (fun z => decide (z.1 = k)) = some x) (hen : s.get Fld.SLK_CTRL_EN = 1) (hcls : tdClass d = 1)
    (h0 : (s.now : Int) ≤ x.2) (hlow : x.2 < (s.now : Int) + 1000 * (s.get Fld.SLK_THR_THR_FRAME : Nat)) : s.slackToken k =
      (((s.modFab (fun f => { f with slack := f.slack.erase x })).minSlack (x.2 - s.now)).count Fld.SLK_STAT_LOW_CNT).slackEvent
        0 0x2001 k (x.2 - s.now) := by
  unfold State.slackToken
  rw [hx, hd]
  dsimp only
  have hp : (if tdClass d = 2 then 1 else 0) = 0 := by rw [hcls]; rfl
  refine (if_neg (show s.get Fld.SLK_CTRL_EN ≠ 0 by omega)).trans ?_
  rw [hp]
  refine (if_neg (show ¬ x.2 - (s.now : Int) < 0 by omega)).trans ?_
  exact if_pos (show x.2 - (s.now : Int) < ((1000 * s.get Fld.SLK_THR_THR_FRAME : Nat) : Int) by omega)

theorem slackToken_low {s : State} (h : s.Live) {k : Fin 4096} {d : TaskDef} {x : Nat × Int} (hd : s.taskDef k = some d)
    (hx : s.fab.slack.find? (fun z => decide (z.1 = k.val)) = some x) (hen : s.get Fld.SLK_CTRL_EN = 1) (hcls : tdClass d = 1)
    (h0 : (s.now : Int) ≤ x.2) (hlow : x.2 < (s.now : Int) + 1000 * (s.get Fld.SLK_THR_THR_FRAME : Nat)) : ∃ t,
    exec (.slackToken k) s = .next t ∧ t.get Fld.SLK_STAT_LOW_F = 1 ∧
    t.get Fld.SLK_STAT_LOW_CNT = min (s.get Fld.SLK_STAT_LOW_CNT + 1) 65535 ∧ t.fab.slack = s.fab.slack.erase x ∧
    (t.rd Reg.SLK_MINF).toInt = min (s.rd Reg.SLK_MINF).toInt (x.2 - s.now) ∧
    (s.fab.slackRaised.getLsbD 0 = false → ∃ e, t.recd.port = s.recd.port ++ [e] ∧ e.code = 0x2001) ∧
    s.keeps t [Reg.SLK_STAT, Reg.SLK_MINF] ∧ State.Touch [.fab, .port] s t := by
  have hthr : s.get Fld.SLK_THR_THR_FRAME < 2 ^ 16 := s.get_lt _
  have heq := State.slackToken_low hd hx hen hcls h0 hlow
  have hT : State.Touch [.fab, .port] s (s.slackToken k) := (State.Touch.refl _ s).slackToken k (by decide)
  rw [heq] at hT
  obtain ⟨hmin, hkm, hrest⟩ := State.minSlack_shown (s.modFab (fun f => { f with slack := f.slack.erase x }))
    (slack := x.2 - s.now) (by omega) (by omega)
  generalize State.minSlack _ _ = v at hmin hkm hrest heq hT
  obtain ⟨hregs, hslack, hev⟩ := (v.count Fld.SLK_STAT_LOW_CNT).slackEvent_rest 0 0x2001 k (x.2 - s.now)
  generalize State.slackEvent _ _ _ _ _ = u at hregs hslack hev heq hT
  have hfab : v.fab = { s.fab with slack := s.fab.slack.erase x } := congrArg (fun r : State => r.fab) hrest
  have hport : v.recd.port = s.recd.port := by
    have hr := congrArg (fun r : State => r.recd.port) hrest
    exact hr
  have hkv : s.keeps v [Reg.SLK_STAT, Reg.SLK_MINF] := (State.keeps_of_regs (s := s) _ rfl).trans
    (hkm.mono fun a ha => List.mem_cons_of_mem _ ha)
  have hk : s.keeps u [Reg.SLK_STAT, Reg.SLK_MINF] :=
    ((hkv.count Fld.SLK_STAT_LOW_CNT (by decide)).set ⟨Reg.SLK_STAT, 0, 1⟩ 1 (by decide)).of_regs hregs
  refine ⟨_, h.next rfl heq, ?_, ?_, ?_, ?_, fun hr => ?_, hk.mirror h.inv (hT .mgt (by decide)) (hT .img (by decide)) (by decide),
    hT.mirror (by decide)⟩
  · rw [State.get_mirror _ _ (by decide) (by decide) (by decide), State.get_of_regs hregs]
    exact State.get_set_self _ Fld.SLK_STAT_LOW_F 1 (by decide)
  · rw [State.get_mirror _ _ (by decide) (by decide) (by decide), State.get_of_regs hregs,
      State.get_set_disjoint _ _ _ _ (by decide) (by decide) (by decide), State.get_count_self _ _ (by decide),
      hkm.get _ (by decide)]
    rfl
  · exact hslack.trans (congrArg FabSt.slack hfab)
  · rw [State.rd_mirror _ (by decide) (by decide) (by decide), State.rd_of_regs hregs, State.rd_set_ne _ _ _ (by decide),
      State.rd_count_ne _ _ (by decide)]
    exact hmin
  · obtain ⟨e, he, hcode⟩ := hev ((congrArg (fun f : FabSt => f.slackRaised.getLsbD 0) hfab).trans hr)
    exact ⟨e, he.trans (congrArg (· ++ [e]) hport), hcode⟩

/-! Outputs at their channel ports. -/

/-- R246: a channel whose open slot an output has filled. -/
def Chan.filled (c : Chan) (frame crc : Nat) (x : OutItem) : Chan :=
  { c with seq := (c.seq + 1) % 65536, epoch := x.epoch, slot := none, last := some (frame, crc), reason := 0, reruns := 0,
           staged := if c.cls = .timed then some x else none }

/-- R245, R246: an output that fills a slot changes its channel alone, and leaves at once unless the channel is TIMED. -/
theorem State.fillSlot_chans (s : State) (c : Chan) (frame crc : Nat) (p : List Byte) :
    (s.fillSlot c frame crc p).chans = (s.modChan c.typ c.index (fun c' => c'.filled frame crc (s.slotItem c frame p))).chans := by
  unfold State.fillSlot
  extract_lets x u
  split
  · rfl
  · exact (State.Touch.refl [.mgt, .can, .eth, .ana] u).chanSend x (by decide) .chans (by decide)

/-- R247: an output whose channel has its slot of that frame open. -/
theorem State.channelPortOutput_open {s : State} {h : Word} {o : FabOut} {c : Chan}
    (ho : s.fab.outs.find? (fun o => decide (o.handle = h)) = some o) (hc : s.chanOf h = some c) (hcmd : s.commanding = true)
    (hseq : s.seqAtLoad c.typ c.index = false) (hslot : c.slot = some o.frame) : s.channelPortOutput h =
      (s.modFab (fun f => { f with outs := f.outs.erase o })).fillSlot c o.frame o.crc o.payload := by
  unfold State.channelPortOutput
  rw [ho]
  dsimp only
  have hch : State.chanOf (s.modFab fun f => { f with outs := f.outs.erase o }) h = some c := hc
  rw [hch]
  refine (if_pos hcmd).trans ?_
  unfold State.portOutput
  refine (if_neg ?_).trans (if_pos hslot)
  rw [Bool.not_eq_true]
  exact hseq

theorem State.mem_of_chanOf {s : State} {h : Word} {c : Chan} (hc : s.chanOf h = some c) : c ∈ s.chans := by
  unfold State.chanOf at hc
  split at hc
  · exact List.mem_of_find?_eq_some hc
  · exact absurd hc nofun

theorem channelPortOutput_open {s : State} (hL : s.Live) {h : Word} {o : FabOut} {c : Chan}
    (ho : s.fab.outs.find? (fun o => decide (o.handle = h)) = some o) (hc : s.chanOf h = some c) (hcmd : s.commanding = true)
    (hseq : s.seqAtLoad c.typ c.index = false) (hslot : c.slot = some o.frame) : ∃ t,
    exec (.channelPortOutput h) s = .next t ∧ t.fab.outs = s.fab.outs.erase o ∧
    (∃ y ∈ t.chans, y.typ = c.typ ∧ y.index = c.index ∧ y.slot = none ∧ y.seq = (c.seq + 1) % 65536 ∧ y.last = some (o.frame, o.crc) ∧
      (c.cls = .timed → ∃ z, y.staged = some z ∧ z.payload = o.payload ∧ z.seq = c.seq ∧ z.handle = c.handle)) ∧
    State.Touch [.mgt, .chans, .fab, .can, .eth, .ana, .port] s t := by
  have heq := State.channelPortOutput_open ho hc hcmd hseq hslot
  have hT : State.Touch [.mgt, .chans, .fab, .can, .eth, .ana, .port] s (s.channelPortOutput h) :=
    (State.Touch.refl _ s).channelPortOutput h (by decide)
  rw [heq] at hT
  let v := s.modFab (fun f => { f with outs := f.outs.erase o })
  have hfill : State.Touch [.mgt, .chans, .can, .eth, .ana] v (v.fillSlot c o.frame o.crc o.payload) :=
    (State.Touch.refl _ v).fillSlot c _ _ _ (by decide)
  refine ⟨_, hL.next rfl heq, congrArg FabSt.outs (hfill .fab (by decide)),
    ⟨c.filled o.frame o.crc (v.slotItem c o.frame o.payload), ?_, rfl, rfl, rfl, rfl, rfl, fun ht => ?_⟩, hT.mirror (by decide)⟩
  · show _ ∈ (v.fillSlot c o.frame o.crc o.payload).chans
    rw [State.fillSlot_chans]
    exact List.mem_map.2 ⟨c, State.mem_of_chanOf hc, if_pos ⟨rfl, rfl⟩⟩
  · exact ⟨v.slotItem c o.frame o.payload, if_pos ht, rfl, rfl, rfl⟩

/-! Wait aborts. -/

/-- R58: the youngest request of a chain is that of a run of the fabric. -/
theorem State.youngest_mem {s : State} {l : List WaitLink} {w : WaitLink} {x : TaskInst} (h : s.youngest l = some (w, x)) :
    x ∈ s.fab.insts := by
  induction l with
  | nil => exact absurd h nofun
  | cons v l ih =>
    have hlink : ∀ {a : WaitLink × TaskInst}, (s.linkInst v).map (fun x => (v, x)) = some a → a.2 ∈ s.fab.insts := fun {a} ha => by
      obtain ⟨y, hy, rfl⟩ := Option.map_eq_some_iff.1 ha
      exact (State.instOf_spec (Option.filter_eq_some_iff.1 hy).1).1
    unfold State.youngest at h
    split at h
    · next a b ha hb =>
      split at h
      · exact ih (hb.trans h)
      · obtain rfl := Option.some.inj h
        exact hlink ha
    · next a ha hb =>
      obtain rfl := Option.some.inj h
      exact hlink ha
    · exact ih h

/-- From `s` to `t` no more than the status registers of ports and the arbiters beside their registers have changed. -/
structure State.AtPorts (s t : State) : Prop where
  keeps : ∀ a, (∀ p, a ≠ portStat p) → t.rd a = s.rd a
  arb : s.ArbOnly t

theorem State.AtPort.atPorts {p : ArbPort} {s t : State} (h : s.AtPort p t) : s.AtPorts t :=
  ⟨fun a ha => h.keeps a fun hm => ha p (List.mem_singleton.1 hm), h.arb⟩

theorem State.AtPorts.trans {s t u : State} (h : s.AtPorts t) (h' : t.AtPorts u) : s.AtPorts u :=
  ⟨fun a ha => (h'.keeps a ha).trans (h.keeps a ha), h.arb.trans h'.arb⟩

theorem State.atPorts_each_arbDrop (l : List ArbPort) (i : Nat) (s : State) : s.AtPorts (s.each l fun p s => s.arbDrop p i) := by
  induction l generalizing s with
  | nil => exact ⟨fun _ _ => rfl, rfl, rfl⟩
  | cons p l ih => exact (s.atPort_arbDrop p i).atPorts.trans (ih (s.arbDrop p i))

/-- R59: an aborted run gives back all its grants and requests. -/
theorem State.atPorts_releaseAll (s : State) (x : TaskInst) : s.AtPorts (s.releaseAll x) := by
  have hbanks := State.atPorts_each_arbDrop (bankPorts x.cluster) x.unit s
  unfold State.releaseAll
  dsimp only
  split
  · exact hbanks.trans (State.atPort_arbDrop _ _ _).atPorts
  · exact hbanks

/-- R59: what an abort leaves in the region's register: one more abort, and the resource of the request. -/
def State.countAbort (s : State) (g res : Nat) : State := (s.count (Fld.RGN_WAITABORT_COUNT g)).set (Fld.RGN_WAITABORT_LAST_RES g) res

theorem State.countAbort_shown (s : State) (g : Nat) {res : Nat} (hr : res < 2 ^ 16) :
    (s.countAbort g res).get (Fld.RGN_WAITABORT_COUNT g) = min (s.get (Fld.RGN_WAITABORT_COUNT g) + 1) 65535 ∧
    (s.countAbort g res).get (Fld.RGN_WAITABORT_LAST_RES g) = res := by
  refine ⟨?_, (State.get_set_self _ (Fld.RGN_WAITABORT_LAST_RES g) res (show 16 + 16 ≤ 32 by decide)).trans (Nat.mod_eq_of_lt hr)⟩
  refine (State.get_set_disjoint _ (Fld.RGN_WAITABORT_LAST_RES g) (Fld.RGN_WAITABORT_COUNT g) res (show 16 + 16 ≤ 32 by decide)
    (show 16 ≤ 32 by decide) (.inr (show 0 + 16 ≤ 16 by decide))).trans ?_
  exact State.get_count_self s (Fld.RGN_WAITABORT_COUNT g) (show 0 + 16 ≤ 32 by decide)

/-- The register of a region's wait aborts is none of those that an abort changes beside it. -/
theorem waitAbort_apart (g q : Nat) : Reg.RGN_WAITABORT g ≠ Reg.RGN_EGRDUP g ∧ (∀ p, Reg.RGN_WAITABORT g ≠ portStat p) ∧
    0x10000000 ≤ Reg.RGN_WAITABORT g ∧ Reg.RGN_WAITABORT g ≠ Reg.CLU_RERUN q := by
  refine ⟨?_, fun p => ?_, ?_, ?_⟩
  · simp only [Reg.RGN_WAITABORT, Reg.RGN_EGRDUP]
    omega
  · cases p with
    | bank q b =>
      show Reg.RGN_WAITABORT g ≠ Reg.BANKARB_STAT q b
      simp only [Reg.RGN_WAITABORT, Reg.BANKARB_STAT, Reg.regionBase, Reg.clusterBase]
      omega
    | egress k =>
      show Reg.RGN_WAITABORT g ≠ Reg.EGRARB_STAT k
      simp only [Reg.RGN_WAITABORT, Reg.EGRARB_STAT, Reg.regionBase]
      omega
  · simp only [Reg.RGN_WAITABORT, Reg.regionBase]
    omega
  · simp only [Reg.RGN_WAITABORT, Reg.CLU_RERUN, Reg.regionBase, Reg.clusterBase]
    omega

/-- R59: an aborted run, its output discarded, its ports given back and its abort counted. -/
def State.abortHeld (s : State) (l : WaitLink) (x : TaskInst) : State :=
  ((s.discardPartial x).releaseAll x).countAbort (x.cluster / 4) l.resource.toNat

/-- R59, R60: a run is aborted: it gives back what it holds, and the abort is counted, recorded and reported. -/
def State.abortRun (s : State) (given : List WaitLink) (l : WaitLink) (x : TaskInst) : State :=
  let s' := (s.abortHeld l x).faultRecord 9 (x.cluster * 8 + x.unit) (some x.task) 0
  s'.raise 0x2003 (s'.handleOf 14 x.task)
    (leBytes 4 l.resource.toNat ++ leBytes 4 x.task ++ leBytes 4 (if isCircle (s.waitChain given) then 0 else 1))

/-- R60: an aborted run as it starts again from its pip. -/
def TaskInst.restarted (x : TaskInst) : TaskInst := { x with aborts := x.aborts + 1, phase := .loading, op := 0, acc := none }

/-- R60: an aborted run starts again, on its unit. -/
def State.rerunAborted (s : State) (x : TaskInst) : State :=
  (((s.modTask x.task x.number (fun _ => x.restarted)).modFab
    (fun f => { f with aborts := cellsSet 0 f.aborts x.task (cellsGet 0 s.fab.aborts x.task + 1) })).count
      (Fld.CLU_RERUN_RERUNS x.cluster)).slotReason x.task 1 x.reruns

theorem State.faultRecord_recd (s : State) (k p : Nat) (x : Option Nat) (c : Nat) : (s.faultRecord k p x c).recd = s.recd := rfl

theorem State.discardPartial_recd (s : State) (x : TaskInst) : (s.discardPartial x).recd = s.recd := by
  unfold State.discardPartial
  split
  · rfl
  · rfl

theorem State.faultRecord_fab (s : State) (k p : Nat) (x : Option Nat) (c : Nat) : (s.faultRecord k p x c).fab = s.fab := rfl

theorem State.abortHeld_shown (s : State) (l : WaitLink) (x : TaskInst) :
    (s.abortHeld l x).fab = { s.fab with arb := (s.abortHeld l x).fab.arb } ∧ (s.abortHeld l x).recd = s.recd ∧
    (s.abortHeld l x).get (Fld.RGN_WAITABORT_COUNT (x.cluster / 4)) = min (s.get (Fld.RGN_WAITABORT_COUNT (x.cluster / 4)) + 1) 65535 ∧
    (s.abortHeld l x).get (Fld.RGN_WAITABORT_LAST_RES (x.cluster / 4)) = l.resource.toNat ∧
    State.Touch [.fab] s (s.abortHeld l x) := by
  obtain ⟨hdup, hport, -, -⟩ := waitAbort_apart (x.cluster / 4) x.cluster
  have hrel := (s.discardPartial x).atPorts_releaseAll x
  have hrd : ((s.discardPartial x).releaseAll x).rd (Reg.RGN_WAITABORT (x.cluster / 4)) = s.rd (Reg.RGN_WAITABORT (x.cluster / 4)) :=
    (hrel.keeps _ hport).trans (s.keeps_discardPartial x _ fun hm => hdup (List.mem_singleton.1 hm))
  have hT : State.Touch [.fab] s ((s.discardPartial x).releaseAll x) :=
    ((State.Touch.refl _ s).discardPartial x (by decide)).releaseAll x (by decide)
  have hfab := hrel.arb.fab
  rw [State.discardPartial_fab] at hfab
  obtain ⟨hcount, hres⟩ := ((s.discardPartial x).releaseAll x).countAbort_shown (x.cluster / 4) l.resource.isLt
  rw [State.get_of_rd (Fld.RGN_WAITABORT_COUNT (x.cluster / 4)) hrd] at hcount
  exact ⟨hfab, hrel.arb.recd.trans (s.discardPartial_recd x), hcount, hres, (hT.count _).set _ _⟩

theorem State.abortRun_shown (s : State) (given : List WaitLink) (l : WaitLink) (x : TaskInst) :
    (s.abortRun given l x).fab = { s.fab with arb := (s.abortRun given l x).fab.arb } ∧
    (∃ e, (s.abortRun given l x).recd.port = s.recd.port ++ [e] ∧ e.code = 0x2003) ∧
    (s.abortRun given l x).get (Fld.RGN_WAITABORT_COUNT (x.cluster / 4)) = min (s.get (Fld.RGN_WAITABORT_COUNT (x.cluster / 4)) + 1) 65535 ∧
    (s.abortRun given l x).get (Fld.RGN_WAITABORT_LAST_RES (x.cluster / 4)) = l.resource.toNat ∧
    State.Touch [.fab, .port] s (s.abortRun given l x) := by
  obtain ⟨-, -, hhigh, -⟩ := waitAbort_apart (x.cluster / 4) x.cluster
  have hlast : Reg.RGN_WAITABORT (x.cluster / 4) ∉ [Reg.FLT_LAST, Reg.FLT_LASTT] := fun hm => by
    have hlow : ∀ a ∈ [Reg.FLT_LAST, Reg.FLT_LASTT], a < 0x10000000 := by decide
    exact Nat.not_lt.2 hhigh (hlow _ hm)
  obtain ⟨hfab, hrecd, hcount, hres, hT⟩ := s.abortHeld_shown l x
  unfold State.abortRun
  generalize s.abortHeld l x = u at hfab hrecd hcount hres hT ⊢
  have hk := u.keeps_faultRecord 9 (x.cluster * 8 + x.unit) (some x.task) 0
  have hTu : State.Touch [] u (u.faultRecord 9 (x.cluster * 8 + x.unit) (some x.task) 0) :=
    (State.Touch.refl _ u).faultRecord _ _ _ _ (by decide)
  have hrec := u.faultRecord_recd 9 (x.cluster * 8 + x.unit) (some x.task) 0
  have hf := u.faultRecord_fab 9 (x.cluster * 8 + x.unit) (some x.task) 0
  generalize u.faultRecord 9 (x.cluster * 8 + x.unit) (some x.task) 0 = v at hk hTu hrec hf ⊢
  dsimp only
  rw [State.get_raise, State.get_raise, hk.get _ hlast, hk.get _ hlast, State.raise_port, hrec, hrecd,
    State.raise_fab, hf]
  refine ⟨hfab, ⟨_, rfl, rfl⟩, hcount, hres, State.Touch.raise ((hT.mono (by decide)).call hTu (by decide)) _ _ _⟩

theorem State.waitAbort_eq {s : State} {given : List WaitLink} {l : WaitLink} {x : TaskInst} {d : TaskDef}
    (hy : s.youngest (s.waitChain given) = some (l, x)) (hd : s.taskDef x.task = some d)
    (hn : cellsGet 0 (s.abortRun given l x).fab.aborts x.task < 2) : s.waitAbort given = (s.abortRun given l x).rerunAborted x := by
  unfold State.waitAbort
  dsimp only
  rw [hy]
  dsimp only
  rw [hd]
  exact if_neg (show ¬ 3 ≤ cellsGet 0 (s.abortRun given l x).fab.aborts x.task + 1 by omega)

theorem State.rerunAborted_aborts (s : State) (x : TaskInst) : (s.rerunAborted x).fab.aborts =
    cellsSet 0 s.fab.aborts x.task (cellsGet 0 s.fab.aborts x.task + 1) := rfl

theorem State.rerunAborted_recd (s : State) (x : TaskInst) : (s.rerunAborted x).recd = s.recd := rfl

theorem State.rerunAborted_shown {s : State} {x : TaskInst} (hx : x ∈ s.fab.insts) : x.restarted ∈ (s.rerunAborted x).fab.insts ∧
    cellsGet 0 (s.rerunAborted x).fab.aborts x.task = cellsGet 0 s.fab.aborts x.task + 1 ∧
    (∀ a, a ≠ Reg.CLU_RERUN x.cluster → (s.rerunAborted x).rd a = s.rd a) ∧ State.Touch [.chans, .fab] s (s.rerunAborted x) := by
  refine ⟨State.mem_modTask hx (fun _ => x.restarted), ?_,
    fun a ha => State.rd_count_ne _ (Fld.CLU_RERUN_RERUNS x.cluster) ha, ?_⟩
  · rw [State.rerunAborted_aborts, cellsGet_set_self]
  · exact ((((State.Touch.refl _ s).modTask _ _ _ (by decide)).modFab _ (by decide)).count _).slotReason _ _ _ (by decide)

theorem waitAbort_restarts {s : State} (h : s.Live) {chain : List WaitLink} {l : WaitLink} {x : TaskInst} {d : TaskDef}
    (hy : s.youngest (s.waitChain chain) = some (l, x)) (hd : s.taskDef x.task = some d) (hn : cellsGet 0 s.fab.aborts x.task < 2) :
    ∃ t, exec (.waitAbort chain) s = .next t ∧ (∃ y ∈ t.fab.insts, y.task = x.task ∧ y.number = x.number ∧ y.phase = .loading ∧
      y.op = 0 ∧ y.aborts = x.aborts + 1) ∧ cellsGet 0 t.fab.aborts x.task = cellsGet 0 s.fab.aborts x.task + 1 ∧
    t.get (Fld.RGN_WAITABORT_COUNT (x.cluster / 4)) = min (s.get (Fld.RGN_WAITABORT_COUNT (x.cluster / 4)) + 1) 65535 ∧
    t.get (Fld.RGN_WAITABORT_LAST_RES (x.cluster / 4)) = l.resource.toNat ∧
    (∃ e, t.recd.port = s.recd.port ++ [e] ∧ e.code = 0x2003) ∧ State.Touch [.chans, .fab, .port] s t := by
  obtain ⟨hfab, hev, hcount, hres, hTa⟩ := s.abortRun_shown chain l x
  have haborts : cellsGet 0 (s.abortRun chain l x).fab.aborts x.task = cellsGet 0 s.fab.aborts x.task := by rw [hfab]
  have hmem : x ∈ (s.abortRun chain l x).fab.insts := by
    rw [hfab]
    exact State.youngest_mem hy
  obtain ⟨hin, hab, hrd, hTr⟩ := State.rerunAborted_shown hmem
  obtain ⟨-, -, hhigh, hrerun⟩ := waitAbort_apart (x.cluster / 4) x.cluster
  have heq := State.waitAbort_eq hy hd (haborts.trans_lt hn)
  have hrecd := State.rerunAborted_recd (s.abortRun chain l x) x
  generalize s.abortRun chain l x = v at hcount hres hev hTa haborts hin hab hrd hTr heq hrecd
  generalize v.rerunAborted x = u at hin hab hrd hTr heq hrecd
  have hget : ∀ lo n, u.mirror.get ⟨Reg.RGN_WAITABORT (x.cluster / 4), lo, n⟩ = v.get ⟨Reg.RGN_WAITABORT (x.cluster / 4), lo, n⟩ :=
    fun lo n => State.get_of_rd _ ((u.rd_mirror_fabric hhigh).trans (hrd _ hrerun))
  refine ⟨u.mirror, h.next rfl heq, ?_⟩
  rw [State.mirror_fab, State.mirror_recd, hrecd]
  exact ⟨⟨_, hin, rfl, rfl, rfl, rfl, rfl⟩, hab.trans (congrArg (· + 1) haborts), (hget 0 16).trans hcount, (hget 16 16).trans hres,
    hev, ((hTa.mono (by decide)).call hTr (by decide)).mirror (by decide)⟩

/-- Settles O40: a token that makes a task ready, a low slack, CLR, an output at its channel port, and a wait abort. -/
theorem tokensSlackAndOutputs : Obligations.TokensSlackAndOutputs := by
  unfold Obligations.TokensSlackAndOutputs
  exact ⟨fun s q k d x y h hd hy hc hx hw hp ht hn => completionToken_ready h hd hy hc hx hw hp hn,
    fun s k d x h hd hx hen hcls h0 hlow => slackToken_low h hd hx hen hcls h0 hlow,
    fun s h => slkClr_done h,
    fun s h o c hL ho hc hcmd hseq hslot => channelPortOutput_open hL ho hc hcmd hseq hslot,
    fun s chain l x d h hy hd hq hn => waitAbort_restarts h hy hd hn⟩

end Sys2Proof.Machine
end

section
/-!
Dispatch and re-runs of tasks (R66, R67, R232 to R234): the bytes that a store leaves, the choice of an idle unit, and the pip of a
run as it is written, copied and loaded.  Settles O38.
-/
namespace Sys2Proof.Machine

/-! Bytes stored one after another. -/

theorem State.cellsGet_memPut (s : State) (a : Nat) (l : List Byte) (b : Nat) : cellsGet 0 (s.memPut a l).omem b =
    if a ≤ b ∧ b < a + l.length then l.getD (b - a) 0 else cellsGet 0 s.omem b := by
  induction l generalizing s a with
  | nil => exact (if_neg (by simp)).symm
  | cons v l ih =>
    show cellsGet 0 (State.memPut { s with omem := cellsSet 0 s.omem a v } (a + 1) l).omem b = _
    rw [ih, List.length_cons]
    by_cases hb : b = a
    · subst hb
      rw [if_neg (by omega), if_pos (by omega), Nat.sub_self]
      exact cellsGet_set_self _ _ _ _
    · by_cases hin : a + 1 ≤ b ∧ b < a + 1 + l.length
      · rw [if_pos hin, if_pos (by omega), show b - a = b - (a + 1) + 1 by omega, List.getD_cons_succ]
      · rw [if_neg hin, if_neg (by omega)]
        exact cellsGet_set_ne _ _ _ hb

theorem State.cellsGet_memPut_in (s : State) (a : Nat) {l : List Byte} {i : Nat} (h : i < l.length) :
    cellsGet 0 (s.memPut a l).omem (a + i) = l[i] := by
  rw [State.cellsGet_memPut, if_pos (by omega), Nat.add_sub_cancel_left, List.getD_eq_getElem _ _ h]

theorem State.cellsGet_memPut_out (s : State) {a b : Nat} {l : List Byte} (h : b < a ∨ a + l.length ≤ b) :
    cellsGet 0 (s.memPut a l).omem b = cellsGet 0 s.omem b := by
  rw [State.cellsGet_memPut, if_neg (by omega)]

@[simp] theorem State.memBytes_length (s : State) (a n : Nat) : (s.memBytes a n).length = n := by simp [State.memBytes]

/-- A part of the bytes that have been stored reads back. -/
theorem State.memBytes_memPut (s : State) (a : Nat) (pre l post : List Byte) :
    (s.memPut a (pre ++ l ++ post)).memBytes (a + pre.length) l.length = l := by
  refine List.ext_getElem (State.memBytes_length _ _ _) fun i hi hl => ?_
  simp only [State.memBytes, List.getElem_map, List.getElem_range, Nat.add_assoc]
  rw [State.cellsGet_memPut_in (l := pre ++ l ++ post) _ _ (by simp only [List.length_append]; omega),
    List.getElem_append_left (by simp only [List.length_append]; omega), List.getElem_append_right' pre hl]
  simp only [Nat.add_comm]

theorem State.memBytes_memPut_self (s : State) (a : Nat) (l : List Byte) : (s.memPut a l).memBytes a l.length = l := by
  have h := s.memBytes_memPut a [] l []
  rwa [List.append_nil, List.nil_append, List.length_nil, Nat.add_zero] at h

theorem State.cellsGet_of_memBytes {s t : State} {a b n i : Nat} (h : t.memBytes a n = s.memBytes b n) (hi : i < n) :
    cellsGet 0 t.omem (a + i) = cellsGet 0 s.omem (b + i) := List.map_inj_left.1 h i (List.mem_range.2 hi)

@[simp] theorem leBytes_length (n v : Nat) : (leBytes n v).length = n := by
  induction n generalizing v with
  | zero => rfl
  | succ n ih => exact congrArg (· + 1) (ih _)

@[simp] theorem le32_length (w : Word) : (le32 w).length = 4 := leBytes_length _ _

theorem leNat_leBytes (n v : Nat) : leNat (leBytes n v) = v % 256 ^ n := by
  induction n generalizing v with
  | zero => exact (Nat.mod_one v).symm
  | succ n ih =>
    have hmod : v % 256 ^ (n + 1) = v % 256 + 256 * (v / 256 % 256 ^ n) := by rw [Nat.pow_succ', Nat.mod_mul]
    rw [hmod, ← ih]
    rfl

/-- A number that has been stored low byte first reads back as a word. -/
theorem State.memRd_memPut_leBytes (s : State) (a v : Nat) (pre post : List Byte) :
    (s.memPut a (pre ++ leBytes 4 v ++ post)).memRd (a + pre.length) = BitVec.ofNat 32 v := by
  have h := s.memBytes_memPut a pre (leBytes 4 v) post
  rw [leBytes_length] at h
  show BitVec.ofNat 32 (leNat (State.memBytes _ _ 4)) = _
  rw [h, leNat_leBytes]
  exact BitVec.eq_of_toNat_eq (by simp)

theorem State.inMem_memPut (s : State) (a : Nat) (l : List Byte) : s.InMem (s.memPut a l) := by
  induction l generalizing s a with
  | nil => exact .refl s
  | cons v l ih => exact State.InMem.trans ⟨_, rfl⟩ (ih _ _)

theorem State.InMem.fab {s t : State} (h : s.InMem t) : t.fab = s.fab := by
  obtain ⟨m, rfl⟩ := h
  rfl

/-! The places of pips and dispatch areas (Table 2-20). -/

/-- The dispatch areas of a cluster lie below its pips. -/
theorem dispArea_below_pip (q : Nat) {u : Nat} (hu : u < 8) (d : TaskDef) : dispArea q u + 64 ≤ pipAddr q d := by
  unfold dispArea pipAddr
  omega

/-- The pip slots of a task in two clusters are apart. -/
theorem pipAddr_apart {q h : Nat} (hne : q ≠ h) (d : TaskDef) :
    pipAddr q d + 128 ≤ pipAddr h d ∨ pipAddr h d + 128 ≤ pipAddr q d := by
  unfold pipAddr clusterMem
  simp only [Reg.clusterBase]
  omega

/-! A pip that is written (R232). -/

@[simp] theorem pipHead_length (x : TaskInst) : (pipHead x).length = 16 := by simp [pipHead]

theorem State.dispWords_length (s : State) (x : TaskInst) : ((s.dispWords x).flatMap le32).length = 64 := by
  simp [List.length_flatMap, State.dispWords, Function.comp_def]

/-- Table 9-2: the bytes of a pip. -/
def State.pipBytes (s : State) (x : TaskInst) : List Byte :=
  pipHead x ++ (s.dispWords x).flatMap le32 ++ List.replicate 44 0 ++ le32 pipValid

theorem State.writePip_eq (s : State) (d : TaskDef) (x : TaskInst) : s.writePip d x =
    (State.memPut { s with freeCtr := s.freeCtr + 14 } (pipAddr x.cluster d) (s.pipBytes x)).memPut (dispArea x.cluster x.unit)
      ((s.dispWords x).flatMap le32) := rfl

theorem State.pipBytes_length (s : State) (x : TaskInst) : (s.pipBytes x).length = 128 := by
  simp only [State.pipBytes, List.length_append, pipHead_length, State.dispWords_length, List.length_replicate, le32_length]

/-- Table 9-2: the number of the run and the VALID word stand in their places. -/
theorem State.pipBytes_read (s t : State) (a : Nat) (x : TaskInst) :
    (t.memPut a (s.pipBytes x)).memRd (a + 4) = BitVec.ofNat 32 x.number ∧ (t.memPut a (s.pipBytes x)).memRd (a + 124) = pipValid := by
  constructor
  · have h := t.memRd_memPut_leBytes a x.number (leBytes 2 x.task ++ [BitVec.ofNat 8 x.reruns, BitVec.ofNat 8 x.aborts])
      (le32 x.dispT ++ [BitVec.ofNat 8 x.flags, BitVec.ofNat 8 (cellsGet 0 x.tokens x.cluster)] ++
        leBytes 2 (x.cluster * 8 + x.unit) ++ (s.dispWords x).flatMap le32 ++ List.replicate 44 0 ++ le32 pipValid)
    simpa [State.pipBytes, pipHead] using h
  · have h := t.memRd_memPut_leBytes a pipValid.toNat (pipHead x ++ (s.dispWords x).flatMap le32 ++ List.replicate 44 0) []
    have hlen : (pipHead x ++ (s.dispWords x).flatMap le32 ++ List.replicate 44 0).length = 124 := by
      simp only [List.length_append, pipHead_length, State.dispWords_length, List.length_replicate]
    rw [hlen, List.append_nil] at h
    exact h

/-- R232: a pip that has been written stands in its slot, and no more than it and the dispatch area has changed. -/
theorem State.writePip_shown (s : State) (d : TaskDef) {x : TaskInst} (hu : x.unit < 8) :
    (s.writePip d x).memRd (pipAddr x.cluster d + 124) = pipValid ∧
    (s.writePip d x).memRd (pipAddr x.cluster d + 4) = BitVec.ofNat 32 x.number ∧
    (∀ a, cellsGet 0 (s.writePip d x).omem a ≠ cellsGet 0 s.omem a → (pipAddr x.cluster d ≤ a ∧ a < pipAddr x.cluster d + 128) ∨
      (dispArea x.cluster x.unit ≤ a ∧ a < dispArea x.cluster x.unit + 64)) ∧
    (s.writePip d x).fab = s.fab ∧ (s.writePip d x).regs = s.regs := by
  have hbelow := dispArea_below_pip x.cluster hu d
  have hlen := s.dispWords_length x
  obtain ⟨hnum, hvalid⟩ := s.pipBytes_read { s with freeCtr := s.freeCtr + 14 } (pipAddr x.cluster d) x
  rw [State.writePip_eq]
  have hdisp : ∀ (t : State) b, pipAddr x.cluster d ≤ b →
      (t.memPut (dispArea x.cluster x.unit) ((s.dispWords x).flatMap le32)).memRd b = t.memRd b := fun t b hb =>
    State.memRd_congr fun i _ => State.cellsGet_memPut_out _ (.inr (by omega))
  have hin := (State.inMem_memPut { s with freeCtr := s.freeCtr + 14 } (pipAddr x.cluster d) (s.pipBytes x)).trans
    (State.inMem_memPut _ (dispArea x.cluster x.unit) ((s.dispWords x).flatMap le32))
  refine ⟨(hdisp _ _ (by omega)).trans hvalid, (hdisp _ _ (by omega)).trans hnum, fun a hne => ?_, hin.fab, hin.regs⟩
  by_contra hout
  refine hne ((State.cellsGet_memPut_out _ (by omega)).trans (State.cellsGet_memPut_out _ ?_))
  rw [State.pipBytes_length]
  omega

/-! The choice of an idle unit (R66, R67). -/

theorem firstInst_mem {before : TaskInst → TaskInst → Bool} {l : List TaskInst} {x : TaskInst} (h : firstInst before l = some x) :
    x ∈ l := by
  induction l with
  | nil => exact absurd h nofun
  | cons y l ih =>
    unfold firstInst at h
    split at h
    · exact List.mem_cons.2 (.inl (Option.some.inj h).symm)
    · next z hz =>
      split at h
      · exact List.mem_cons_of_mem _ (ih (hz.trans h))
      · exact List.mem_cons.2 (.inl (Option.some.inj h).symm)

/-- The instance is taken that comes before every other one. -/
theorem firstInst_eq {before : TaskInst → TaskInst → Bool} {l : List TaskInst} {x : TaskInst} (hx : x ∈ l)
    (hb : ∀ y ∈ l, y ≠ x → before x y = true ∧ before y x = false) : firstInst before l = some x := by
  induction l with
  | nil => exact absurd hx List.not_mem_nil
  | cons y l ih =>
    unfold firstInst
    by_cases hxl : x ∈ l
    · rw [ih hxl fun z hz => hb z (List.mem_cons_of_mem _ hz)]
      dsimp only
      by_cases hy : y = x
      · rw [hy, ite_self]
      · exact if_pos (hb y List.mem_cons_self hy).1
    · obtain rfl : x = y := (List.mem_cons.1 hx).resolve_right hxl
      split
      · rfl
      · next z hz =>
        have hzl := firstInst_mem hz
        have hne : z ≠ x := fun e => hxl (e ▸ hzl)
        exact if_neg (Bool.eq_false_iff.1 (hb z (List.mem_cons_of_mem _ hzl) hne).2)

/-- R66: the higher PRIO comes first, then the older. -/
theorem State.before_iff {s : State} {x y : TaskInst} : s.before x y = true ↔ s.prioOf y < s.prioOf x ∨
    (s.prioOf y = s.prioOf x ∧ (x.start < y.start ∨ (x.start = y.start ∧ s.orderOf x < s.orderOf y))) := by
  simp only [State.before, older, lexLt, Bool.or_eq_true, Bool.and_eq_true, decide_eq_true_eq, eq_comm (a := s.prioOf x)]

theorem State.before_asymm {s : State} {x y : TaskInst} (h : s.before x y = true) : s.before y x = false := by
  rw [State.before_iff] at h
  rw [← Bool.not_eq_true, State.before_iff]
  omega

/-- R64, R236: an instance at a cluster is one of the fabric's, and its task is placed there. -/
theorem State.mem_atCluster {s : State} {q : Nat} {ph : Phase} {x : TaskInst} (h : x ∈ s.atCluster q ph) :
    x ∈ s.fab.insts ∧ s.placeOf x.task = some q := by
  obtain ⟨hx, hp⟩ := List.mem_filter.1 h
  rw [Bool.and_eq_true, decide_eq_true_eq] at hp
  obtain ⟨⟨-, hplace⟩, -⟩ := hp
  exact ⟨hx, hplace⟩

/-- R66: a decision that is not for background work takes the first of the ready tasks. -/
theorem State.dispatchChoice_eq {s : State} {q k : Nat} {x : TaskInst} (hk : k % (s.get (Fld.CLU_DISP_BG_NTH q) + 1) ≠ 0)
    (hx : x ∈ s.atCluster q .ready) (hb : ∀ y ∈ s.atCluster q .ready, y ≠ x → s.before x y = true) :
    s.dispatchChoice q k = some x :=
  (if_neg fun h => hk h.1).trans (firstInst_eq hx fun y hy hne => ⟨hb y hy hne, State.before_asymm (hb y hy hne)⟩)

/-- R66: a dispatch decision of a cluster is counted. -/
def State.countDecision (s : State) (q : Nat) : State :=
  s.modFab (fun f => { f with decisions := cellsSet 0 f.decisions q (cellsGet 0 s.fab.decisions q + 1) })

theorem State.taskDispatch_ready {s : State} {q u : Nat} {x : TaskInst} {d : TaskDef} (hu : s.unitState q u = 0)
    (hr : s.atCluster q .rerun = []) (hc : s.dispatchChoice q (cellsGet 0 s.fab.decisions q + 1) = some x)
    (hd : s.taskDef x.task = some d) : s.taskDispatch q u = (s.countDecision q).startRun d x q u := by
  unfold State.taskDispatch
  rw [if_neg (not_not_intro hu), hr, firstInst]
  dsimp only
  rw [hc]
  dsimp only
  rw [hd]
  rfl

theorem State.taskDispatch_rerun {s : State} {q u : Nat} {x : TaskInst} {d : TaskDef} (hu : s.unitState q u = 0)
    (hr : s.atCluster q .rerun = [x]) (hd : s.taskDef x.task = some d) : s.taskDispatch q u = s.startRerun d x q u := by
  unfold State.taskDispatch
  rw [if_neg (not_not_intro hu), hr, firstInst, firstInst]
  dsimp only
  rw [hd]

/-! A run that starts (R75, R232). -/

/-- R75: a run as it is dispatched to a unit. -/
def TaskInst.dispatched (x : TaskInst) (q u : Nat) (now : Word) : TaskInst :=
  { x with phase := .copying, cluster := q, unit := u, op := 0, acc := none, status := statusStart x false, dispT := now }

/-- R75: the status word of a first run holds the task index and TOKFLAGS. -/
theorem statusStart_first (x : TaskInst) : (statusStart x false).toNat = x.task % 65536 * 65536 + x.flags % 8 * 16 := by
  simp only [statusStart, Bool.false_eq_true, if_false, BitVec.toNat_ofNat]
  omega

/-- R234: the status word of a re-run has RERUN set. -/
theorem statusStart_rerun (x : TaskInst) : (statusStart x true).getLsbD 7 = true := by
  rw [statusStart, if_pos rfl, BitVec.getLsbD_ofNat, Nat.testBit_eq_decide_div_mod_eq]
  simp only [decide_eq_true_eq, Bool.and_eq_true]
  omega

theorem State.startRun_eq (s : State) (d : TaskDef) (x : TaskInst) (q u : Nat) : s.startRun d x q u =
    ((s.modTask x.task x.number (fun _ => x.dispatched q u (s.rd Reg.TB_NS))).setUnit q u 1).writePip d
      (x.dispatched q u (s.rd Reg.TB_NS)) := rfl

/-- R232: a run starts: its unit runs it, its pip is written, and it is one of the fabric's. -/
theorem State.startRun_shown {s : State} (d : TaskDef) {x : TaskInst} (q : Fin 32) (u : Fin 8) (hx : x ∈ s.fab.insts) :
    (s.startRun d x q u).unitState q u = 1 ∧ x.dispatched q u (s.rd Reg.TB_NS) ∈ (s.startRun d x q u).fab.insts ∧
    (s.startRun d x q u).memRd (pipAddr q d + 124) = 0x21504950 ∧
    (s.startRun d x q u).memRd (pipAddr q d + 4) = BitVec.ofNat 32 x.number ∧
    (∀ a, cellsGet 0 (s.startRun d x q u).omem a ≠ cellsGet 0 s.omem a → (pipAddr q d ≤ a ∧ a < pipAddr q d + 128) ∨
      (dispArea q u ≤ a ∧ a < dispArea q u + 64)) ∧ s.keeps (s.startRun d x q u) [Reg.CLU_UNITSTAT q] := by
  let y := x.dispatched q u (s.rd Reg.TB_NS)
  let v := (s.modTask x.task x.number (fun _ => y)).setUnit q u 1
  obtain ⟨hvalid, hnum, hframe, hfab, hregs⟩ := v.writePip_shown d (x := y) u.isLt
  rw [State.startRun_eq]
  refine ⟨?_, ?_, hvalid, hnum, hframe, ?_⟩
  · exact (State.get_of_regs hregs _).trans (State.get_set_self _ (Fld.CLU_UNITSTAT_STATE_U q u) 1 (show 0 + 2 * u.val + 2 ≤ 32 by omega))
  · rw [hfab]
    exact State.mem_modTask hx (fun _ => y)
  · exact State.keeps.of_regs (State.keeps.set (t := s.modTask x.task x.number (fun _ => y)) (State.keeps_of_regs _ rfl)
      (Fld.CLU_UNITSTAT_STATE_U q u) 1 (List.mem_singleton.2 rfl)) hregs

/-! Copies and loads of a pip (R233, R234). -/

/-- R233: the copy of a pip in the store of a cluster other than that of its run, whose region is in service. -/
def State.putCopy (d : TaskDef) (c : Nat) (b : List Byte) (q : Nat) (s : State) : State :=
  if q = c ∨ s.isolated (q / 4) then s else s.memPut (pipAddr q d) b

theorem State.inMem_putCopy (d : TaskDef) (c : Nat) (b : List Byte) (q : Nat) (s : State) : s.InMem (s.putCopy d c b q) := by
  unfold State.putCopy
  split
  · exact .refl s
  · exact s.inMem_memPut _ _

theorem State.copyPip_eq (s : State) (d : TaskDef) (x : TaskInst) : s.copyPip d x =
    s.each ((tdSib d).toList ++ [tdAlt d]) (State.putCopy d x.cluster (s.memBytes (pipAddr x.cluster d) 128)) := rfl

/-- R233: a store that takes the bytes, or holds them before, holds them after every copy. -/
theorem State.each_putCopy (d : TaskDef) (c : Nat) {b : List Byte} (hb : b.length = 128) {h : Nat} (hc : h ≠ c) (l : List Nat) {s : State}
    (hi : s.isolated (h / 4) = false) (hl : h ∈ l ∨ s.memBytes (pipAddr h d) 128 = b) :
    (s.each l (State.putCopy d c b)).memBytes (pipAddr h d) 128 = b := by
  induction l generalizing s with
  | nil => exact hl.resolve_left List.not_mem_nil
  | cons k l ih =>
    have hiso : (s.putCopy d c b k).isolated (h / 4) = false :=
      (State.isolated_of_rd (State.rd_of_regs (s.inMem_putCopy d c b k).regs _)).trans hi
    have hstep : h ∈ l ∨ (s.putCopy d c b k).memBytes (pipAddr h d) 128 = b := by
      by_cases hk : h = k
      · subst hk
        have hput : s.putCopy d c b h = s.memPut (pipAddr h d) b := if_neg (by simp [hc, hi])
        rw [hput, ← hb]
        exact .inr (s.memBytes_memPut_self _ b)
      · have hapart := pipAddr_apart hk d
        refine hl.imp (fun hm => (List.mem_cons.1 hm).resolve_left hk) fun hs => ?_
        unfold State.putCopy
        split
        · exact hs
        · refine (List.map_congr_left fun i hlt => State.cellsGet_memPut_out _ ?_).trans hs
          have := List.mem_range.1 hlt
          omega
    exact ih hiso hstep

/-- R233: every placement in service but that of the run takes the bytes of its pip, and no more than the memories changes. -/
theorem State.copyPip_shown (s : State) (d : TaskDef) (x : TaskInst) : s.InMem (s.copyPip d x) ∧
    ∀ h ∈ (tdSib d).toList ++ [tdAlt d], h ≠ x.cluster → s.isolated (h / 4) = false →
      (s.copyPip d x).memBytes (pipAddr h d) 128 = s.memBytes (pipAddr x.cluster d) 128 := by
  rw [State.copyPip_eq]
  exact ⟨State.InMem.each (fun q u => u.inMem_putCopy d x.cluster _ q) _ s,
    fun h hh hne hi => State.each_putCopy d x.cluster (s.memBytes_length _ _) hne _ hi (.inl hh)⟩

/-- R234: the words of the pip are loaded into the dispatch area. -/
theorem State.loadPip_shown (s : State) (d : TaskDef) (x : TaskInst) : s.InMem (s.loadPip d x) ∧
    (s.loadPip d x).memBytes (dispArea x.cluster x.unit) 64 = s.memBytes (pipAddr x.cluster d + 16) 64 := by
  have hwords := (s.memPut (pipAddr x.cluster d) (pipHead x)).memBytes_memPut_self (dispArea x.cluster x.unit)
    (s.memBytes (pipAddr x.cluster d + 16) 64)
  rw [State.memBytes_length] at hwords
  exact ⟨(s.inMem_memPut _ _).trans (State.inMem_memPut _ _ _), hwords⟩

/-! The clauses of O38. -/

theorem unitRegs_high (q : Nat) : ∀ a ∈ [Reg.CLU_UNITSTAT q, Reg.CLU_RERUN q], 0x10000000 ≤ a := by
  intro a ha
  by_contra hlow
  exact not_mem_unitRegs q (Nat.not_le.1 hlow) ha

theorem State.memRd_mirror (s : State) (a : Nat) : s.mirror.memRd a = s.memRd a := State.memRd_of_omem s.mirror_omem a

/-- R66, R67, R232: an idle unit takes the ready task of highest PRIO, the oldest first. -/
theorem taskDispatch_ready {s : State} (h : s.Live) {q : Fin 32} {u : Fin 8} {x : TaskInst} {d : TaskDef} (hu : s.unitState q u = 0)
    (hr : s.atCluster q .rerun = []) (hk : (cellsGet 0 s.fab.decisions q + 1) % (s.get (Fld.CLU_DISP_BG_NTH q) + 1) ≠ 0)
    (hx : x ∈ s.atCluster q .ready) (hb : ∀ y ∈ s.atCluster q .ready, y ≠ x → s.before x y = true) (hd : s.taskDef x.task = some d) :
    ∃ t, exec (.taskDispatch q u) s = .next t ∧ t.unitState q u = 1 ∧ (∃ y ∈ t.fab.insts, y.task = x.task ∧ y.number = x.number ∧
      y.phase = .copying ∧ y.cluster = q ∧ y.unit = u ∧ y.op = 0 ∧ y.status.toNat = x.task % 65536 * 65536 + x.flags % 8 * 16) ∧
    t.memRd (pipAddr q d + 124) = 0x21504950 ∧ t.memRd (pipAddr q d + 4) = BitVec.ofNat 32 x.number ∧
    (∀ a, cellsGet 0 t.omem a ≠ cellsGet 0 s.omem a → (pipAddr q d ≤ a ∧ a < pipAddr q d + 128) ∨
      (dispArea q u ≤ a ∧ a < dispArea q u + 64)) ∧ s.keeps t [Reg.CLU_UNITSTAT q] ∧ State.Touch [.omem, .fab, .freeCtr] s t := by
  have hmem : x ∈ (s.countDecision q).fab.insts := (State.mem_atCluster hx).1
  obtain ⟨hrun, hin, hvalid, hnum, hframe, hkeep⟩ := State.startRun_shown d q u hmem
  have hT : State.Touch [.omem, .fab, .freeCtr] s ((s.countDecision q).startRun d x q u) :=
    ((State.Touch.refl _ s).modFab _ (by decide)).startRun d x q u (by decide)
  have hkeep : s.keeps ((s.countDecision q).startRun d x q u) [Reg.CLU_UNITSTAT q] := hkeep
  have heq := State.taskDispatch_ready hu hr (State.dispatchChoice_eq hk hx hb) hd
  have hhigh := (fabric_high q 0 0).1
  generalize (s.countDecision q).startRun d x q u = v at hrun hin hvalid hnum hframe hkeep hT heq
  refine ⟨v.mirror, h.next rfl heq, (State.unitState_mirror _ _ _).trans hrun, ?_, (State.memRd_mirror _ _).trans hvalid,
    (State.memRd_mirror _ _).trans hnum, ?_,
    h.keeps_mirror hkeep hT (by decide) fun a ha => List.mem_singleton.1 ha ▸ hhigh, hT.mirror (by decide)⟩
  · rw [State.mirror_fab]
    exact ⟨_, hin, rfl, rfl, rfl, rfl, rfl, rfl, statusStart_first x⟩
  · rw [State.mirror_omem]
    exact hframe

/-- R66, R234: an idle unit takes a re-run before any ready task. -/
theorem taskDispatch_rerun {s : State} (h : s.Live) {q : Fin 32} {u : Fin 8} {x : TaskInst} {d : TaskDef} (hu : s.unitState q u = 0)
    (hr : s.atCluster q .rerun = [x]) (hd : s.taskDef x.task = some d) :
    ∃ t, exec (.taskDispatch q u) s = .next t ∧ t.unitState q u = 1 ∧ (∃ y ∈ t.fab.insts, y.task = x.task ∧ y.number = x.number ∧
      y.phase = .loading ∧ y.cluster = q ∧ y.unit = u ∧ y.op = 0) ∧ s.keeps t [Reg.CLU_UNITSTAT q, Reg.CLU_RERUN q] ∧
    State.Touch [.fab] s t := by
  have hx : x ∈ s.atCluster q .rerun := hr ▸ List.mem_singleton_self x
  obtain ⟨hmem, hplace⟩ := State.mem_atCluster hx
  obtain ⟨hrun, -, hin, hkeep⟩ := State.startRerun_shown (d := d) u hplace hmem
  have hT : State.Touch [.fab] s (s.startRerun d x q u) := (State.Touch.refl _ s).startRerun d x q u (by decide)
  have heq := State.taskDispatch_rerun hu hr hd
  generalize s.startRerun d x q u = v at hrun hin hkeep hT heq
  refine ⟨v.mirror, h.next rfl heq, (State.unitState_mirror _ _ _).trans hrun, ?_,
    h.keeps_mirror hkeep hT (by decide) (unitRegs_high q), hT.mirror (by decide)⟩
  rw [State.mirror_fab]
  exact ⟨atUnit q u x, hin, rfl, rfl, rfl, rfl, rfl, rfl⟩

/-- R233: the pip of a run is copied to the other placements of its task, and the run begins. -/
theorem pipCopyValid_runs {s : State} (h : s.Live) {q : Fin 32} {u : Fin 8} {x : TaskInst} {d : TaskDef} (hx : s.instOn q u = some x)
    (hp : x.phase = .copying) (hd : s.taskDef x.task = some d) :
    ∃ t, exec (.pipCopyValid q u) s = .next t ∧ (∃ y ∈ t.fab.insts, y = { x with phase := .running }) ∧
    (∀ k ∈ (tdSib d).toList ++ [tdAlt d], k ≠ q.val → s.isolated (k / 4) = false →
      ∀ i < 128, cellsGet 0 t.omem (pipAddr k d + i) = cellsGet 0 s.omem (pipAddr q d + i)) ∧
    s.keeps t [] ∧ State.Touch [.omem, .fab] s t := by
  obtain ⟨hmem, hq, -⟩ := State.instOn_spec hx
  obtain ⟨hin, hcopy⟩ := s.copyPip_shown d x
  have heq : s.pipCopyValid q u = (s.copyPip d x).modTask x.task x.number (fun x => { x with phase := .running }) := by
    unfold State.pipCopyValid
    rw [hx]
    dsimp only
    rw [hd]
    exact if_pos hp
  have hT : State.Touch [.omem, .fab] s (s.pipCopyValid q u) := (State.Touch.refl _ s).pipCopyValid q u (by decide)
  rw [heq] at hT
  rw [hq] at hcopy
  refine ⟨_, h.next rfl heq, ⟨_, State.mem_modTask (hin.fab ▸ hmem) _, rfl⟩, fun k hk hne hi i hlt => ?_,
    h.keeps_mirror (State.keeps_of_regs _ hin.regs) hT (by decide) (by simp), hT.mirror (by decide)⟩
  rw [State.mirror_omem]
  exact State.cellsGet_of_memBytes (hcopy k hk hne hi) hlt

/-- R234: a re-run loads the words of its pip into the dispatch area of its unit, and runs from its start. -/
theorem pipLoadDone_runs {s : State} (h : s.Live) {q : Fin 32} {u : Fin 8} {x : TaskInst} {d : TaskDef} (hx : s.instOn q u = some x)
    (hp : x.phase = .loading) (hd : s.taskDef x.task = some d) :
    ∃ t, exec (.pipLoadDone q u) s = .next t ∧ (∃ y ∈ t.fab.insts, y.task = x.task ∧ y.number = x.number ∧ y.phase = .running ∧
      y.op = 0 ∧ y.status.getLsbD 7 = true) ∧
    (∀ i < 64, cellsGet 0 t.omem (dispArea q u + i) = cellsGet 0 s.omem (pipAddr q d + 16 + i)) ∧
    s.keeps t [] ∧ State.Touch [.omem, .fab] s t := by
  obtain ⟨hmem, hq, hun⟩ := State.instOn_spec hx
  obtain ⟨hin, hload⟩ := s.loadPip_shown d x
  have heq : s.pipLoadDone q u = (s.loadPip d x).modTask x.task x.number
      (fun x => { x with phase := .running, op := 0, acc := none, status := statusStart x true }) := by
    unfold State.pipLoadDone
    rw [hx]
    dsimp only
    rw [hd]
    exact if_pos hp
  have hT : State.Touch [.omem, .fab] s (s.pipLoadDone q u) := (State.Touch.refl _ s).pipLoadDone q u (by decide)
  rw [heq] at hT
  rw [hq, hun] at hload
  exact ⟨_, h.next rfl heq, ⟨_, State.mem_modTask (hin.fab ▸ hmem) _, rfl, rfl, rfl, rfl, statusStart_rerun x⟩,
    fun i hi => State.cellsGet_of_memBytes hload hi,
    h.keeps_mirror (State.keeps_of_regs _ hin.regs) hT (by decide) (by simp), hT.mirror (by decide)⟩

/-- Settles O38: the choice of an idle unit, the re-run that comes before it, and the copy and the load of a pip. -/
theorem tasksAreDispatchedByPriority : Obligations.TasksAreDispatchedByPriority := by
  unfold Obligations.TasksAreDispatchedByPriority
  exact ⟨fun s q u x d h hu hr hk hx hb hd =>
      taskDispatch_ready h hu hr hk hx (fun y hy hne => State.before_iff.2 (hb y hy hne)) hd,
    fun s q u x d h hu hr hd => taskDispatch_rerun h hu hr hd,
    fun s q u x d h hx hp hd => pipCopyValid_runs h hx hp hd,
    fun s q u x d h hx hp hd => pipLoadDone_runs h hx hp hd⟩

end Sys2Proof.Machine
end

section
/-!
Samples and their sources (R83 to R87, R89, R96, R103, R105, R106, R108, R124, R330, R347, R351): where a reading arrives, what is
dropped and counted, and how a source is rejected and accepted again.  Settles O49.
-/
namespace Sys2Proof.Machine

/-! Sources. -/

@[simp] theorem State.src_modSrc_self (s : State) (k : Nat) (f : SrcSt → SrcSt) : (s.modSrc k f).src k = f (s.src k) :=
  cellsGet_set_self _ _ _ _

theorem State.src_modSrc_ne (s : State) {j k : Nat} (h : j ≠ k) (f : SrcSt → SrcSt) : (s.modSrc k f).src j = s.src j :=
  cellsGet_set_ne _ _ _ h

/-- The end of a command that changes neither the management nor the images: what it kept is kept, and what it touched it touched. -/
theorem State.Live.ends {s u : State} (h : s.Live) {c : Instr} {f : State → State} (hc : exec c s = .next (s.running f)) (hu : f s = u)
    {l : List Nat} {p : List Part} (hk : s.keeps u l) (hT : State.Touch p s u) (hp : Part.mgt ∉ p ∧ Part.img ∉ p)
    (hl : ∀ a ∈ [Reg.MGT_STAT, Reg.SAF_STAT, Reg.IMG_STAT, Reg.SAF_SO, Reg.SAF_SORB], a ∉ l) :
    exec c s = .next u.mirror ∧ s.keeps u.mirror l ∧ State.Touch p s u.mirror :=
  ⟨h.next hc hu, hk.mirror h.inv (hT .mgt hp.1) (hT .img hp.2) hl, hT.mirror (fun _ h => nomatch h)⟩

/-- A command that makes a source `x` and changes nothing else. -/
def State.MakesSource (s : State) (c : Instr) (k : Nat) (x : SrcSt) : Prop := ∃ t, exec c s = .next t ∧ t.src k = x ∧
  (∀ j, j ≠ k → t.src j = s.src j) ∧ s.keeps t [] ∧ State.Touch [.fus] s t

theorem State.Live.judges {s : State} (h : s.Live) {c : Instr} {F : State → State} {k : Nat} {f : SrcSt → SrcSt}
    (hc : exec c s = .next (s.running F)) (hF : F s = s.modSrc k f) : s.MakesSource c k (f (s.src k)) := by
  obtain ⟨he, hk, hT⟩ := h.ends hc hF (l := []) (State.keeps_of_regs _ rfl)
    ((State.Touch.refl _ s).modSrc k f (fun _ => id)) (by decide) (by decide)
  exact ⟨_, he, s.src_modSrc_self k f, fun j hj => s.src_modSrc_ne hj f, hk, hT⟩

/-! Arrival (R83). -/

/-- R83, R138: a sample joins the inbox of the source that slot `k` stands for, and no other source changes; where an injected source
takes the slot's place, nothing of fusion changes. -/
def State.Received (s t : State) (k : Nat) (r : RawSample) : Prop := match s.injected k with
  | some j => t.src j = { s.src j with inbox := (s.src j).inbox ++ [r] } ∧ (∀ i, i ≠ j → t.src i = s.src i)
  | none => t.fus = s.fus

theorem State.arrive_regs (s : State) (ty ix : Nat) (r : RawSample) : (s.arrive ty ix r).regs = s.regs := by
  unfold State.arrive
  split
  · rfl
  · split <;> rfl

theorem State.arrive_received {s : State} {ty ix k : Nat} (hk : slotOf ty ix = some k) (hl : s.chanLive ty ix = true) (r : RawSample) :
    s.Received (s.arrive ty ix r) k r := by
  unfold State.Received State.arrive
  rw [hk, Option.bind_some]
  cases s.injected k with
  | none => rfl
  | some j =>
    simp only [hl, if_true]
    exact ⟨s.src_modSrc_self j _, fun i hi => s.src_modSrc_ne hi _⟩

/-- A count on the way changes neither the sources nor which of them stand for others. -/
theorem State.Received.of_count {s t : State} {f : Field} {k : Nat} {r : RawSample} (h : (s.count f).Received t k r)
    (hf : f.addr ≠ Reg.CTL_MODESTAT) : s.Received t k r := by
  have e : (s.count f).injected k = s.injected k := by
    unfold State.injected
    rw [State.get_count_ne _ _ _ (Ne.symm hf), State.count_cfg]
  unfold State.Received at h ⊢
  rwa [e] at h

/-- What reaches `t` with the sources unchanged from there on has been received. -/
theorem State.Received.of_fus {s t u : State} {k : Nat} {r : RawSample} (h : s.Received t k r) (hu : u.fus = t.fus) :
    s.Received u k r := by
  have e : ∀ j, u.src j = t.src j := fun j => by unfold State.src; rw [hu]
  unfold State.Received at h ⊢
  cases hj : s.injected k with
  | none => rw [hj] at h; exact hu.trans h
  | some j =>
    rw [hj] at h
    exact ⟨(e j).trans h.1, fun i hi => (e i).trans (h.2 i hi)⟩

/-! Sentences (R83, R85). -/

theorem ne_of_slotOf {ty ix k : Nat} (h : slotOf ty ix = some k) : ty ≠ 13 := by
  rintro rfl
  exact nomatch h

/-- Table 4-2: the time of its own that a reading of a source carries. -/
def ownTime (c : SrcCfg) (r : Reading) : Option Int := if c.ownClock = true then r.srcTime else none

theorem State.consume_source {s : State} {ty ix k : Nat} {c : SrcCfg} (hk : slotOf ty ix = some k) (hc : s.srcCfg k = some c)
    (a : Int) (st : Option Int) (r : Reading) : s.consume ty ix a false st r =
    s.arrive ty ix { arrival := a, own := ownTime c r, stamped := st, qual := r.qual, vals := r.vals } := by
  unfold State.consume
  rw [if_neg (ne_of_slotOf hk), hk, Option.bind_some, hc]
  rfl

/-- R83: a sentence of a source with no PPS input declared. -/
theorem State.sentence_serial {s : State} {ty ix k : Nat} {c : SrcCfg} (hk : slotOf ty ix = some k) (hc : s.srcCfg k = some c)
    (hp : c.pps = none) (a : Int) (u : Option Nat) (r : Reading) : s.sentence ty ix a u r =
    s.arrive ty ix { arrival := a, own := ownTime c r, stamped := none, qual := r.qual, vals := r.vals } := by
  unfold State.sentence
  rw [hk, Option.bind_some, hc, Option.bind_some, hp]
  exact State.consume_source hk hc a none r

/-- R85: a capture that stamps no sentence counts. -/
def State.ppsMiss (s : State) (st : Option Int) : State := if st.isSome = true then s else s.count Fld.FUS_TCNT_PPS_MISS

theorem State.ppsMiss_chanLive (s : State) (st : Option Int) (ty ix : Nat) : (s.ppsMiss st).chanLive ty ix = s.chanLive ty ix := by
  unfold State.ppsMiss
  split <;> rfl

/-- R85: a sentence of a source with a PPS input: the capture stamps it, or the miss counts and it arrives as a serial one. -/
theorem State.sentence_pps {s : State} {ty ix k m : Nat} {c : SrcCfg} (hk : slotOf ty ix = some k) (hc : s.srcCfg k = some c)
    (hp : c.pps = some m) (a : Int) (u : Option Nat) (r : Reading) : s.sentence ty ix a u r =
    (s.ppsMiss (s.ppsStamp m a u)).arrive ty ix
      { arrival := a, own := none, stamped := s.ppsStamp m a u, qual := r.qual, vals := r.vals } := by
  have hown : ownTime c { r with srcTime := none } = none := by
    unfold ownTime
    split <;> rfl
  unfold State.sentence
  rw [hk, Option.bind_some, hc, Option.bind_some, hp]
  dsimp only
  cases s.ppsStamp m a u with
  | some t => exact (State.consume_source hk hc a (some t) _).trans (by rw [hown]; rfl)
  | none => exact (State.consume_source (s := s.count _) hk hc a none _).trans (by rw [hown]; rfl)

/-- A sentence of a good checksum goes to the channel that its port is bound to. -/
theorem State.uartSentence_good {s : State} {g : ImageCfg} {p ty ix : Nat} (hg : s.cfg = some g) (hu : g.uart[p]? = some (ty, ix))
    (n : Nat) (u : Option Nat) (r : Reading) : s.uartSentence p n true u r = s.sentence ty ix ((s.now : Int) - n) u r := by
  unfold State.uartSentence
  rw [hg, Option.bind_some, hu]
  rfl

theorem uartSentence_serial {s : State} (h : s.Live) (p : Fin 16) (n : Nat) (u : Option Nat) (r : Reading) {ty ix k : Nat} {c : SrcCfg}
    {g : ImageCfg} (hg : s.cfg = some g) (hu : g.uart[p.val]? = some (ty, ix)) (hk : slotOf ty ix = some k) (hc : s.srcCfg k = some c)
    (hp : c.pps = none) (hl : s.chanLive ty ix = true) : ∃ t, exec (.uartSentence p n true u r) s = .next t ∧
    s.Received t k { arrival := (s.now : Int) - n, own := ownTime c r, stamped := none, qual := r.qual, vals := r.vals } ∧
    s.keeps t [] ∧ State.Touch [.fus] s t := by
  obtain ⟨he, hK, hT⟩ := h.ends (c := .uartSentence p n true u r) (l := []) rfl
    ((State.uartSentence_good hg hu n u r).trans (State.sentence_serial hk hc hp _ u r))
    (State.keeps_of_regs _ (s.arrive_regs _ _ _)) ((State.Touch.refl _ s).arrive _ _ _ (fun _ => id)) (by decide) (by decide)
  exact ⟨_, he, (State.arrive_received hk hl _).of_fus rfl, hK, hT⟩

theorem uartSentence_pps {s : State} (h : s.Live) (p : Fin 16) (n : Nat) (u : Option Nat) (r : Reading) {ty ix k m : Nat} {c : SrcCfg}
    {g : ImageCfg} (hg : s.cfg = some g) (hu : g.uart[p.val]? = some (ty, ix)) (hk : slotOf ty ix = some k) (hc : s.srcCfg k = some c)
    (hp : c.pps = some m) (hl : s.chanLive ty ix = true) : ∃ t, exec (.uartSentence p n true u r) s = .next t ∧
    s.Received t k { arrival := (s.now : Int) - n, own := none, stamped := s.ppsStamp m ((s.now : Int) - n) u, qual := r.qual,
                     vals := r.vals } ∧
    (if (s.ppsStamp m ((s.now : Int) - n) u).isSome = true then s.keeps t []
    else t.get Fld.FUS_TCNT_PPS_MISS = min (s.get Fld.FUS_TCNT_PPS_MISS + 1) (2 ^ Fld.FUS_TCNT_PPS_MISS.width - 1) ∧
      s.keeps t [Reg.FUS_TCNT]) ∧ State.Touch [.fus] s t := by
  have heq := (State.uartSentence_good hg hu n u r).trans (State.sentence_pps hk hc hp ((s.now : Int) - n) u r)
  generalize s.ppsStamp m ((s.now : Int) - n) u = st at heq ⊢
  have hgot := State.arrive_received (s := s.ppsMiss st) hk ((s.ppsMiss_chanLive st ty ix).trans hl)
    { arrival := (s.now : Int) - n, own := none, stamped := st, qual := r.qual, vals := r.vals }
  by_cases hst : st.isSome = true
  · rw [show s.ppsMiss st = s from if_pos hst] at heq hgot
    obtain ⟨he, hK, hT⟩ := h.ends (c := .uartSentence p n true u r) (l := []) rfl heq
      (State.keeps_of_regs _ (s.arrive_regs _ _ _)) ((State.Touch.refl _ s).arrive _ _ _ (fun _ => id)) (by decide) (by decide)
    exact ⟨_, he, hgot.of_fus rfl, by rwa [if_pos hst], hT⟩
  · rw [show s.ppsMiss st = s.count Fld.FUS_TCNT_PPS_MISS from if_neg hst] at heq hgot
    obtain ⟨he, hK, hT⟩ := h.ends (c := .uartSentence p n true u r) (l := [Reg.FUS_TCNT]) rfl heq
      (((s.keeps_refl _).count _ (by decide)).of_regs (State.arrive_regs _ _ _ _))
      (((State.Touch.refl _ s).count _).arrive _ _ _ (fun _ => id)) (by decide) (by decide)
    refine ⟨_, he, (hgot.of_count (by decide)).of_fus rfl, ?_, hT⟩
    rw [if_neg hst]
    refine ⟨?_, hK⟩
    rw [State.get_mirror _ _ (by decide) (by decide) (by decide), State.get_of_regs (State.arrive_regs _ _ _ _),
      State.get_count_self _ _ (by decide)]

/-! The joystick (R143). -/

theorem State.sourceUsed_shown (s : State) (l : List Nat) : (s.sourceUsed l).regs = s.regs ∧ (s.sourceUsed l).ctl.joy = s.ctl.joy ∧
    (s.sourceUsed l).ctl.joyAt = s.ctl.joyAt := by
  unfold State.sourceUsed
  split <;> exact ⟨rfl, rfl, rfl⟩

theorem State.joystick_regs (s : State) (ix : Nat) (v : List Int) : (s.joystick ix v).regs = s.regs := by
  unfold State.joystick
  split
  · exact (State.sourceUsed_shown _ _).1
  · rfl

theorem State.lever_regs (s : State) (ix i : Nat) (v : List Int) : (s.lever ix i v).regs = s.regs := by
  unfold State.lever
  split
  · exact (State.sourceUsed_shown _ _).1
  · rfl

theorem State.joystick_used {s : State} {ix : Nat} {g : ImageCfg} (hg : s.cfg = some g) (hj : g.ctl.joystick = some ix)
    (hl : s.chanLive 13 ix = true) (v : List Int) : (s.joystick ix v).ctl.joy = some (v.getD 0 0, v.getD 1 0, v.getD 2 0) ∧
    (s.joystick ix v).ctl.joyAt = some s.now := by
  unfold State.joystick
  rw [if_pos ⟨hl, by rw [hg, Option.bind_some, hj]⟩]
  exact (State.sourceUsed_shown _ _).2

theorem State.sentence_joystick {s : State} {ix : Nat} {g : ImageCfg} (hg : s.cfg = some g) (hj : g.ctl.joystick = some ix)
    (a : Int) (u : Option Nat) (r : Reading) : s.sentence 13 ix a u r = s.joystick ix r.vals := by
  unfold State.sentence State.consume
  rw [show slotOf 13 ix = none from rfl, hg]
  exact if_pos hj

theorem uartSentence_joystick {s : State} (h : s.Live) (p : Fin 16) (n : Nat) (u : Option Nat) (r : Reading) {ix : Nat} {g : ImageCfg}
    (hg : s.cfg = some g) (hu : g.uart[p.val]? = some (13, ix)) (hj : g.ctl.joystick = some ix) (hl : s.chanLive 13 ix = true) :
    ∃ t, exec (.uartSentence p n true u r) s = .next t ∧
    t.ctl.joy = some (r.vals.getD 0 0, r.vals.getD 1 0, r.vals.getD 2 0) ∧ t.ctl.joyAt = some s.now ∧ s.keeps t [] ∧
    State.Touch [.ctl] s t := by
  obtain ⟨he, hK, hT⟩ := h.ends (c := .uartSentence p n true u r) (l := []) rfl
    ((State.uartSentence_good hg hu n u r).trans (State.sentence_joystick hg hj _ u r))
    (State.keeps_of_regs _ (s.joystick_regs _ _)) ((State.Touch.refl _ s).joystick _ _ (fun _ => id)) (by decide) (by decide)
  obtain ⟨h1, h2⟩ := State.joystick_used hg hj hl r.vals
  exact ⟨_, he, h1, h2, hK, hT⟩

/-! What is dropped (R89, R347, R351). -/

theorem uartSentence_bad {s : State} (h : s.Live) (p : Fin 16) (n : Nat) (u : Option Nat) (r : Reading) {g : ImageCfg} {x : Nat × Nat}
    (hg : s.cfg = some g) (hu : g.uart[p.val]? = some x) : ∃ t, exec (.uartSentence p n false u r) s = .next t ∧
    t.fus = { s.fus with uartErr := cellsSet 0 s.fus.uartErr p (cellsGet 0 s.fus.uartErr p + 1) } ∧ s.keeps t [] ∧
    State.Touch [.fus] s t := by
  have heq : s.uartSentence p n false u r =
      { s with fus := { s.fus with uartErr := cellsSet 0 s.fus.uartErr p (cellsGet 0 s.fus.uartErr p + 1) } } := by
    unfold State.uartSentence
    rw [hg, Option.bind_some, hu]
    rfl
  obtain ⟨he, hK, hT⟩ := h.ends (c := .uartSentence p n false u r) (l := []) (p := [.fus]) rfl heq (State.keeps_of_regs _ rfl)
    ((State.Touch.refl _ s).upd_fus _ (by decide)) (by decide) (by decide)
  exact ⟨_, he, rfl, hK, hT⟩

/-- A command that does nothing but count. -/
theorem State.Live.counts {s : State} (h : s.Live) {c : Instr} {F : State → State} (f : Field) (hc : exec c s = .next (s.running F))
    (hF : F s = s.count f) (hf : f.lo + f.width ≤ 32)
    (hl : ∀ a ∈ [Reg.MGT_STAT, Reg.SAF_STAT, Reg.IMG_STAT, Reg.SAF_SO, Reg.SAF_SORB], a ≠ f.addr) : ∃ t, exec c s = .next t ∧
    t.get f = min (s.get f + 1) (2 ^ f.width - 1) ∧ s.keeps t [f.addr] ∧ t.rest = s.rest := by
  obtain ⟨he, hK, -⟩ := h.ends hc hF (p := []) ((s.keeps_refl [f.addr]).count f (List.mem_singleton_self _))
    ((State.Touch.refl _ s).count f) (by decide) fun a ha hm => hl a ha (List.mem_singleton.1 hm)
  refine ⟨_, he, ?_, hK, rfl⟩
  rw [State.get_mirror _ _ (hl _ (by decide)).symm (hl _ (by decide)).symm (hl _ (by decide)).symm, State.get_count_self _ _ hf]

theorem State.e450Datagram_unknown {s : State} {g : ImageCfg} {src : List Byte} (hg : s.cfg = some g)
    (hs : ∀ x ∈ g.net.e450Sources, x.1 ≠ src) (n : Nat) (b : Bool) (xs : List (Bool × Option Nat × Reading)) :
    s.e450Datagram n src b xs = s.count Fld.ETH_E450CNT_UNKNOWN := by
  have hnone : g.net.e450Sources.find? (fun x => decide (x.1 = src)) = none :=
    List.find?_eq_none.2 fun x hx => by simpa using hs x hx
  unfold State.e450Datagram
  rw [hg, Option.bind_some, hnone]

theorem sensorFrame_bad {s : State} (h : s.Live) (p : Fin 3) {v ty : Byte} (sy : Bool) (sd : BitVec 16) (tm : Int) {xs : List SensorItem}
    {ov : Bool} (hbad : v ≠ 1 ∨ ty ≠ 2 ∨ xs = [] ∨ 32 < xs.length ∨ ov = true) : ∃ t,
    exec (.sensorFrame p v ty sy sd tm xs ov) s = .next t ∧
    t.get Fld.ETH_OWNCNT_BAD_FRAME = min (s.get Fld.ETH_OWNCNT_BAD_FRAME + 1) (2 ^ Fld.ETH_OWNCNT_BAD_FRAME.width - 1) ∧
    s.keeps t [Reg.ETH_OWNCNT] ∧ t.rest = s.rest := by
  have hne : ∀ {a b : Byte}, a ≠ b → a.toNat ≠ b.toNat := fun h e => h (BitVec.eq_of_toNat_eq e)
  exact h.counts Fld.ETH_OWNCNT_BAD_FRAME (c := .sensorFrame p v ty sy sd tm xs ov) rfl
    (if_pos (hbad.imp hne (Or.imp_left hne))) (by decide) (by decide)

/-! Datagrams (R347). -/

/-- A datagram of two sentences, the second with a bad checksum. -/
theorem State.e450Datagram_two {s : State} {g : ImageCfg} {src : List Byte} {ty ix : Nat} (hg : s.cfg = some g)
    (hs : g.net.e450Sources.find? (fun x => decide (x.1 = src)) = some (src, ty, ix)) (n : Nat) (u u' : Option Nat) (r r' : Reading) :
    s.e450Datagram n src false [(true, u, r), (false, u', r')] =
      ((s.count Fld.ETH_E450CNT_RX_SENT).sentence ty ix ((s.now : Int) - n) u r).count Fld.ETH_E450CNT_CKSUM := by
  unfold State.e450Datagram
  rw [hg, Option.bind_some, hs]
  rfl

theorem e450Datagram_two {s : State} (h : s.Live) (p : Fin 3) (n : Nat) {src : List Byte} {g : ImageCfg} {ty ix k : Nat} {c : SrcCfg}
    (u u' : Option Nat) (r r' : Reading) (hg : s.cfg = some g)
    (hs : g.net.e450Sources.find? (fun x => decide (x.1 = src)) = some (src, ty, ix)) (hk : slotOf ty ix = some k)
    (hc : s.srcCfg k = some c) (hp : c.pps = none) (hl : s.chanLive ty ix = true) : ∃ t,
    exec (.e450Datagram p n src false [(true, u, r), (false, u', r')]) s = .next t ∧
    s.Received t k { arrival := (s.now : Int) - n, own := ownTime c r, stamped := none, qual := r.qual, vals := r.vals } ∧
    t.get Fld.ETH_E450CNT_RX_SENT = min (s.get Fld.ETH_E450CNT_RX_SENT + 1) (2 ^ Fld.ETH_E450CNT_RX_SENT.width - 1) ∧
    t.get Fld.ETH_E450CNT_CKSUM = min (s.get Fld.ETH_E450CNT_CKSUM + 1) (2 ^ Fld.ETH_E450CNT_CKSUM.width - 1) ∧
    s.keeps t [Reg.ETH_E450CNT] ∧ State.Touch [.fus] s t := by
  have heq := (State.e450Datagram_two hg hs n u u' r r').trans (congrArg (State.count · Fld.ETH_E450CNT_CKSUM)
    (State.sentence_serial (s := s.count Fld.ETH_E450CNT_RX_SENT) hk hc hp ((s.now : Int) - n) u r))
  obtain ⟨he, hK, hT⟩ := h.ends (c := .e450Datagram p n src false [(true, u, r), (false, u', r')]) (l := [Reg.ETH_E450CNT]) rfl heq
    ((((s.keeps_refl _).count _ (by decide)).of_regs (State.arrive_regs _ _ _ _)).count _ (by decide))
    ((((State.Touch.refl _ s).count _).arrive _ _ _ (fun _ => id)).count _) (by decide) (by decide)
  refine ⟨_, he, ((State.arrive_received (s := s.count _) hk hl _).of_count (by decide)).of_fus rfl, ?_, ?_, hK, hT⟩
  · rw [State.get_mirror _ _ (by decide) (by decide) (by decide), State.get_count_disjoint _ _ _ (by decide) (by decide) (by decide),
      State.get_of_regs (State.arrive_regs _ _ _ _), State.get_count_self _ _ (by decide)]
  · rw [State.get_mirror _ _ (by decide) (by decide) (by decide), State.get_count_self _ _ (by decide),
      State.get_of_regs (State.arrive_regs _ _ _ _), State.get_count_disjoint _ _ _ (by decide) (by decide) (by decide)]

/-! Items of a SENSOR frame (R351). -/

/-- R351: the sample that an item of a measurement makes. -/
def State.itemSample (s : State) (b : SensorBind) (synced : Bool) (time : Int) (x : SensorItem) : RawSample :=
  { arrival := s.now, own := if synced then none else some (time + x.dt)
    stamped := if synced then some (time + x.dt + (s.rd Reg.TB_OFS).toInt) else none
    qual := x.qual.toNat, vals := bodyVals b.kind x.body }

/-- R124, R330, R351: an item of the right length reaches its consumer. -/
def State.itemTaken (s : State) (b : SensorBind) (synced : Bool) (time : Int) (x : SensorItem) : State :=
  let v := bodyVals b.kind x.body
  if b.kind = 10 then s.powerMsg (v.map (·.toNat))
  else if b.kind = 9 then s.driveMsg b.index x.body
  else if b.kind = 8 then s.lever b.chan b.index v
  else if b.kind = 7 then s.joystick b.chan v
  else s.arrive b.typ b.chan (s.itemSample b synced time x)

/-- R351: the entry of the section for an item of a sender. -/
def boundItem (g : ImageCfg) (p sd : Nat) (x : SensorItem) : Option SensorBind :=
  g.net.sensors.find? (fun b => decide (b.port = p ∧ b.sender = sd ∧ b.kind = x.kind.toNat ∧ b.index = x.index.toNat))

theorem State.sensorItem_bound {s : State} {g : ImageCfg} {p sd : Nat} {x : SensorItem} {b : SensorBind} (hg : s.cfg = some g)
    (hb : boundItem g p sd x = some b) (sy : Bool) (tm : Int) : s.sensorItem p sy sd tm x =
    if x.body.length ≠ bodyLen b.kind then s.count Fld.ETH_OWNCNT_BAD_ITEM else s.itemTaken b sy tm x := by
  unfold boundItem at hb
  unfold State.sensorItem
  rw [hg, Option.bind_some, hb]
  rfl

theorem State.itemTaken_regs (s : State) (b : SensorBind) (sy : Bool) (tm : Int) (x : SensorItem) :
    (s.itemTaken b sy tm x).regs = s.regs := by
  unfold State.itemTaken
  dsimp only
  split_ifs
  · rfl
  · rfl
  · exact s.lever_regs _ _ _
  · exact s.joystick_regs _ _
  · exact s.arrive_regs _ _ _

theorem State.touch_itemTaken (s : State) (b : SensorBind) (sy : Bool) (tm : Int) (x : SensorItem) :
    State.Touch [.fus, .ctl, .alc] s (s.itemTaken b sy tm x) := by
  have h := State.Touch.refl [.fus, .ctl, .alc] s
  unfold State.itemTaken
  dsimp only
  split_ifs
  · exact h.powerMsg _ (by decide)
  · exact h.driveMsg _ _ (by decide)
  · exact h.lever _ _ _ (by decide)
  · exact h.joystick _ _ (by decide)
  · exact h.arrive _ _ _ (by decide)

/-- Table 13-5: KINDs 1 to 6 are measurements, which arrive at a source. -/
theorem State.itemTaken_sample {b : SensorBind} (hb : b.kind < 7) (s : State) (sy : Bool) (tm : Int) (x : SensorItem) :
    s.itemTaken b sy tm x = s.arrive b.typ b.chan (s.itemSample b sy tm x) := by
  unfold State.itemTaken
  rw [if_neg (by omega), if_neg (by omega), if_neg (by omega), if_neg (by omega)]

theorem State.itemTaken_drive {b : SensorBind} (hb : b.kind = 9) (s : State) (sy : Bool) (tm : Int) (x : SensorItem) :
    s.itemTaken b sy tm x = s.driveMsg b.index x.body := by
  unfold State.itemTaken
  rw [if_neg (by omega), if_pos hb]

theorem State.itemTaken_power {b : SensorBind} (hb : b.kind = 10) (s : State) (sy : Bool) (tm : Int) (x : SensorItem) :
    s.itemTaken b sy tm x = s.powerMsg ((List.range 8).map (fun k => leNat ((x.body.drop (4 * k)).take 4))) := by
  unfold State.itemTaken
  rw [if_pos hb, hb]
  rfl

/-- A frame of one item. -/
theorem State.sensorFrame_one (s : State) (p : Nat) (sy : Bool) (sd : Nat) (tm : Int) (x : SensorItem) :
    s.sensorFrame p 1 2 sy sd tm [x] false = s.sensorItem p sy sd tm x := if_neg (by simp)

theorem sensorFrame_badItem {s : State} (h : s.Live) (p : Fin 3) (sy : Bool) (sd : BitVec 16) (tm : Int) {x : SensorItem} {g : ImageCfg}
    {b : SensorBind} (hg : s.cfg = some g) (hb : boundItem g p.val sd.toNat x = some b) (hx : x.body.length ≠ bodyLen b.kind) : ∃ t,
    exec (.sensorFrame p 1 2 sy sd tm [x] false) s = .next t ∧
    t.get Fld.ETH_OWNCNT_BAD_ITEM = min (s.get Fld.ETH_OWNCNT_BAD_ITEM + 1) (2 ^ Fld.ETH_OWNCNT_BAD_ITEM.width - 1) ∧
    s.keeps t [Reg.ETH_OWNCNT] ∧ t.rest = s.rest :=
  h.counts Fld.ETH_OWNCNT_BAD_ITEM (c := .sensorFrame p 1 2 sy sd tm [x] false) rfl
    ((s.sensorFrame_one _ _ _ _ _).trans ((State.sensorItem_bound hg hb sy tm).trans (if_pos hx))) (by decide) (by decide)

theorem sensorFrame_item {s : State} (h : s.Live) (p : Fin 3) (sy : Bool) (sd : BitVec 16) (tm : Int) {x : SensorItem} {g : ImageCfg}
    {b : SensorBind} (hg : s.cfg = some g) (hb : boundItem g p.val sd.toNat x = some b) (hx : x.body.length = bodyLen b.kind) : ∃ t,
    exec (.sensorFrame p 1 2 sy sd tm [x] false) s = .next t ∧ s.keeps t [] ∧
    (∀ k, b.kind < 7 → slotOf b.typ b.chan = some k → s.chanLive b.typ b.chan = true → State.Touch [.fus] s t ∧
      s.Received t k (s.itemSample b sy tm x)) ∧
    (b.kind = 9 → t.alc = { s.alc with inbox := s.alc.inbox ++ [(b.index, x.body)] } ∧ State.Touch [.alc] s t) ∧
    (b.kind = 10 → t.ctl = { s.ctl with
      pms := some ((List.range 8).map (fun k => leNat ((x.body.drop (4 * k)).take 4))), pmsLost := false } ∧ State.Touch [.ctl] s t) := by
  have heq : s.sensorFrame p 1 2 sy sd.toNat tm [x] false = s.itemTaken b sy tm x :=
    (s.sensorFrame_one _ _ _ _ _).trans ((State.sensorItem_bound hg hb sy tm).trans (if_neg (not_not.2 hx)))
  obtain ⟨he, hK, -⟩ := h.ends (c := .sensorFrame p 1 2 sy sd tm [x] false) (l := []) rfl heq
    (State.keeps_of_regs _ (s.itemTaken_regs b sy tm x)) (s.touch_itemTaken b sy tm x) (by decide) (by decide)
  refine ⟨_, he, hK, fun k h7 hk hl => ?_, fun h9 => ?_, fun h10 => ?_⟩
  · rw [State.itemTaken_sample h7]
    exact ⟨((State.Touch.refl _ s).arrive _ _ _ (fun _ => id)).mirror (by decide), (State.arrive_received hk hl _).of_fus rfl⟩
  · rw [State.itemTaken_drive h9]
    exact ⟨rfl, ((State.Touch.refl _ s).driveMsg _ _ (fun _ => id)).mirror (by decide)⟩
  · rw [State.itemTaken_power h10]
    exact ⟨rfl, ((State.Touch.refl _ s).powerMsg _ (fun _ => id)).mirror (by decide)⟩

/-! Rejection and acceptance (R87, R96, R103, R105, R106, R108). -/

/-- R96 to R106: an accepted source is rejected for a reason. -/
def SrcSt.rejected (x : SrcSt) (why : Nat) : SrcSt := { x with st := 3, reason := why, ok := false, gateRun := 0, outRun := 0 }

/-- R87, R108: a source is accepted again. -/
def SrcSt.accepted (x : SrcSt) : SrcSt := { x with st := 1, ok := false, gateRun := 0, outRun := 0, under := none }

theorem State.Live.rejects {s : State} (h : s.Live) {c : Instr} {F : State → State} {k why : Nat}
    (hc : exec c s = .next (s.running F)) (hF : F s = s.rejectSrc k why) : s.MakesSource c k ((s.src k).rejected why) :=
  h.judges (f := fun x => x.rejected why) hc hF

theorem State.Live.accepts {s : State} (h : s.Live) {c : Instr} {F : State → State} {k : Nat}
    (hc : exec c s = .next (s.running F)) (hF : F s = s.acceptSrc k) : s.MakesSource c k (s.src k).accepted :=
  h.judges (f := SrcSt.accepted) hc hF

theorem outlierReject_rejects {s : State} (h : s.Live) {i : Fin 28} (h1 : (s.src i).st = 1) (hr : 3 ≤ (s.src i).outRun) :
    s.MakesSource (.outlierReject i) i ((s.src i).rejected 9) :=
  have heq : s.outlierReject i = s.rejectSrc i 9 := if_pos ⟨h1, hr⟩
  h.rejects rfl heq

theorem innovReject_rejects {s : State} (h : s.Live) {i : Fin 16} {g : FusCfg} (hg : s.fusCfg = some g) (h1 : (s.src i).st = 1)
    (hr : g.gateN ≤ (s.src i).gateRun) :
    s.MakesSource (.innovReject i) i ((s.src i).rejected (if (s.src i).gateSat = true then 5 else 1)) := by
  have heq : s.innovReject i = s.rejectSrc i (if (s.src i).gateSat = true then 5 else 1) := by
    unfold State.innovReject
    rw [hg]
    exact if_pos ⟨h1, hr⟩
  exact h.rejects rfl heq

theorem frozenReject_rejects {s : State} (h : s.Live) {i : Fin 20} {d : SrcCfg} (hd : s.srcCfg i = some d) (h1 : (s.src i).st = 1)
    (hf : (s.src i).frozen d = true) : s.MakesSource (.frozenReject i) i ((s.src i).rejected 3) := by
  have heq : s.frozenReject i = s.rejectSrc i 3 := by
    unfold State.frozenReject
    rw [hd]
    exact if_pos ⟨h1, hf⟩
  exact h.rejects rfl heq

theorem timeReadmit_accepts {s : State} (h : s.Live) {i : Fin 28} (h4 : (s.src i).st = 4) (hc : 10 ≤ (s.src i).clean)
    (hu : (s.src i).under = none) : s.MakesSource (.timeReadmit i) i (s.src i).accepted := by
  have heq : s.timeReadmit i = s.acceptSrc i := by
    unfold State.timeReadmit
    rw [if_pos ⟨h4, hc⟩, hu]
  exact h.accepts rfl heq

theorem timeReadmit_rejects {s : State} (h : s.Live) {i : Fin 28} {why : Nat} (h4 : (s.src i).st = 4) (hc : 10 ≤ (s.src i).clean)
    (hu : (s.src i).under = some why) :
    s.MakesSource (.timeReadmit i) i { s.src i with st := 3, reason := why, under := none, ok := false } := by
  have heq : s.timeReadmit i = s.modSrc i (fun x => { x with st := 3, reason := why, under := none, ok := false }) := by
    unfold State.timeReadmit
    rw [if_pos ⟨h4, hc⟩, hu]
  exact h.judges rfl heq

theorem sourceReadmit_accepts {s : State} (h : s.Live) {i : Fin 28} {g : FusCfg} (hg : s.fusCfg = some g) (h3 : (s.src i).st = 3)
    (hok : (s.src i).ok = true) (hat : (s.src i).okAt + g.rejHoldNs ≤ s.now) :
    s.MakesSource (.sourceReadmit i) i (s.src i).accepted := by
  have heq : s.sourceReadmit i = s.acceptSrc i := by
    unfold State.sourceReadmit
    rw [hg]
    exact if_pos ⟨h3, hok, hat⟩
  exact h.accepts rfl heq

/-- Settles O49: readings by the way they arrive, and each judgement of a source as a change of that source alone. -/
theorem samplesArriveAndSourcesAreJudged : Obligations.SamplesArriveAndSourcesAreJudged := by
  unfold Obligations.SamplesArriveAndSourcesAreJudged
  refine ⟨fun s p n u r ty ix k c g h hg hu hk hc hp hl => uartSentence_serial h p n u r hg hu hk hc hp hl,
    fun s p n u r ty ix k c m g h hg hu hk hc hp hl => uartSentence_pps h p n u r hg hu hk hc hp hl,
    fun s p n u r ix g h hg hu hj hl => uartSentence_joystick h p n u r hg hu hj hl,
    fun s p n u r g x h hg hu => uartSentence_bad h p n u r hg hu,
    fun s p n src b xs g h hg hs => h.counts Fld.ETH_E450CNT_UNKNOWN rfl (State.e450Datagram_unknown hg hs n b xs) (by decide) (by decide),
    fun s p n src g ty ix k c u r u' r' h hg hs hk hc hp hl => e450Datagram_two h p n u u' r r' hg hs hk hc hp hl,
    fun s p v ty sy sd tm xs ov h hbad => sensorFrame_bad h p sy sd tm hbad, fun s p sy sd tm x g b h hg hb => ?_,
    fun s c k why g h hg h1 hw => ?_, fun s c k g h hg hw => ?_, fun s i why h h4 hc hu => timeReadmit_rejects h h4 hc hu⟩
  case refine_1 =>
    by_cases hx : x.body.length = bodyLen b.kind
    · obtain ⟨t, he, hK, hrest⟩ := sensorFrame_item h p sy sd tm hg hb hx
      exact ⟨t, he, fun hne => absurd hx hne, fun _ => ⟨hK, hrest⟩⟩
    · obtain ⟨t, he, hbad⟩ := sensorFrame_badItem h p sy sd tm hg hb hx
      exact ⟨t, he, fun _ => hbad, fun heq => absurd heq hx⟩
  case refine_2 =>
    obtain ⟨i, rfl, rfl, rfl, hr⟩ | ⟨i, rfl, rfl, rfl, hr⟩ | ⟨i, d, rfl, rfl, rfl, hd, hf⟩ := hw
    · exact outlierReject_rejects h h1 hr
    · exact innovReject_rejects h hg h1 hr
    · exact frozenReject_rejects h hd h1 hf
  case refine_3 =>
    obtain ⟨i, rfl, rfl, h4, hc, hu⟩ | ⟨i, rfl, rfl, h3, hok, hat⟩ := hw
    · exact timeReadmit_accepts h h4 hc hu
    · exact sourceReadmit_accepts h hg h3 hok hat

end Sys2Proof.Machine
end

section
/-!
Intake close and the estimator (R90, R93, R94, R99, R102, R111, R114 to R117, R119, R452): what the stages of an intake leave alone, the
observer's state that the measurement update makes, and the epoch formed from it.  Settles O50.
-/
namespace Sys2Proof.Machine

/-! The work on the sources. -/

/-- Work on the sources of `K`: it leaves their inboxes, and everything beside the sources but the counters of FUS_TCNT. -/
structure State.Sources (K : Nat → Prop) (s t : State) : Prop where
  same : ∃ r x, t = { s with regs := r, fus := { s.fus with src := x } }
  regs : s.keeps t [Reg.FUS_TCNT]
  others : ∀ j, ¬ K j → t.src j = s.src j
  inbox : ∀ j, (t.src j).inbox = (s.src j).inbox

/-- Work on any of the sources. -/
abbrev State.AllSources : State → State → Prop := State.Sources (fun _ => True)

section
variable {K : Nat → Prop} {s t u : State}

theorem State.Sources.refl (K : Nat → Prop) (s : State) : State.Sources K s s :=
  ⟨⟨s.regs, s.fus.src, rfl⟩, s.keeps_refl _, fun _ _ => rfl, fun _ => rfl⟩

theorem State.Sources.trans (h : State.Sources K s t) (h' : State.Sources K t u) : State.Sources K s u := by
  obtain ⟨⟨r, x, rfl⟩, hr, ho, hi⟩ := h
  obtain ⟨⟨r', x', rfl⟩, hr', ho', hi'⟩ := h'
  exact ⟨⟨r', x', rfl⟩, hr.trans hr', fun j hj => (ho' j hj).trans (ho j hj), fun j => (hi' j).trans (hi j)⟩

theorem State.Sources.obs (h : State.Sources K s t) : t.fus.obs = s.fus.obs := by
  obtain ⟨r, x, rfl⟩ := h.same
  rfl

theorem State.sources_modSrc (s : State) {k : Nat} {f : SrcSt → SrcSt} (hk : K k)
    (hf : (f (s.src k)).inbox = (s.src k).inbox := by rfl) : State.Sources K s (s.modSrc k f) := by
  refine ⟨⟨s.regs, _, rfl⟩, State.keeps_of_regs _ rfl, fun j hj => s.src_modSrc_ne (fun e => hj (by rwa [e])) f, fun j => ?_⟩
  by_cases hj : j = k
  · rw [hj, State.src_modSrc_self, hf]
  · rw [State.src_modSrc_ne _ hj]

theorem State.sources_count (s : State) {f : Field} (hf : f.addr = Reg.FUS_TCNT) : State.Sources K s (s.count f) :=
  ⟨⟨_, s.fus.src, rfl⟩, (s.keeps_refl _).count _ (by simp [hf]), fun _ _ => rfl, fun _ => rfl⟩

theorem State.Sources.ite {p : Prop} [Decidable p] (h : State.Sources K s t) (h' : State.Sources K s u) :
    State.Sources K s (if p then t else u) := by
  split <;> assumption

theorem State.Sources.iteFst {α : Type} {p : Prop} [Decidable p] {x y : State × α} (h : State.Sources K s x.1)
    (h' : State.Sources K s y.1) : State.Sources K s (if p then x else y).1 := by
  split <;> assumption

theorem State.sources_each {α : Type} {f : α → State → State} (hf : ∀ x u, State.Sources K u (f x u)) (l : List α) (s : State) :
    State.Sources K s (s.each l f) := by
  induction l generalizing s with
  | nil => exact .refl K s
  | cons x l ih => exact (hf x s).trans (ih (f x s))

theorem State.sources_foldl {α β : Type} {f : State × β → α → State × β} (hf : ∀ x a, State.Sources K a.1 (f a x).1) (l : List α)
    (a : State × β) : State.Sources K a.1 (l.foldl f a).1 := by
  induction l generalizing a with
  | nil => exact .refl K a.1
  | cons x l ih => exact (hf x a).trans (ih (f a x))

end

/-! The intake of one source (R86, R87, R89). -/

theorem State.sources_residual {K : Nat → Prop} {k : Nat} (hk : K k) (s : State) (res : Int) :
    State.Sources K s (s.residual k res) := by
  unfold State.residual
  refine .trans (s.sources_modSrc hk) (.ite ?_ (.ite (State.sources_modSrc _ hk) (State.sources_modSrc _ hk)))
  exact .trans (.ite (.refl K _) (State.sources_count _ rfl)) (State.sources_modSrc _ hk)

theorem alignSample_inbox (c : SrcCfg) (x : SrcSt) (r : RawSample) : (alignSample c x r).2.2.inbox = x.inbox := by
  unfold alignSample
  dsimp only
  split
  · rfl
  · split
    · rfl
    · rfl
    · split <;> rfl

/-- R86, R89: the end of `State.takeRaw`: a sample with its stamp joins the samples so far, unless it is discarded. -/
def State.keepRaw (s : State) (k : Nat) (r : RawSample) (stamp : Int) (l : List Sample) : State × List Sample :=
  if r.arrival + 1000000 < stamp then (s.count Fld.FUS_TCNT_TIME_AHEAD, l)
  else if stamp ∈ (s.src k).stamps then (s.count Fld.FUS_TCNT_DUP_STAMP, l)
  else
    let s := s.modSrc k (fun x => { x with stamps := x.stamps ++ [stamp] })
    if (s.src k).st = 4 then (s, l) else (s, l ++ [{ stamp := stamp, qual := r.qual, vals := r.vals }])

theorem State.sources_keepRaw {K : Nat → Prop} {k : Nat} (hk : K k) (s : State) (r : RawSample) (stamp : Int) (l : List Sample) :
    State.Sources K s (s.keepRaw k r stamp l).1 := by
  unfold State.keepRaw
  refine .iteFst (s.sources_count rfl) (.iteFst (s.sources_count rfl) (.iteFst ?_ ?_))
  all_goals
    dsimp only
    exact s.sources_modSrc hk

theorem State.sources_takeRaw {K : Nat → Prop} {k : Nat} (hk : K k) (c : SrcCfg) (a : State × List Sample) (r : RawSample) :
    State.Sources K a.1 (State.takeRaw k c a r).1 := by
  have hx := alignSample_inbox c (a.1.src k) r
  unfold State.takeRaw
  dsimp only
  generalize alignSample c (a.1.src k) r = z at hx ⊢
  obtain ⟨stamp, res, x⟩ := z
  have h1 : State.Sources K a.1 (a.1.modSrc k fun _ => x.rawRun r) := State.sources_modSrc _ hk (hf := hx)
  refine .iteFst ?_ ?_
  · dsimp only
    exact a.1.sources_modSrc hk
  cases res with
  | none => exact h1.trans (State.sources_keepRaw hk _ r stamp a.2)
  | some e => exact h1.trans ((State.sources_residual hk _ e).trans (State.sources_keepRaw hk _ r stamp a.2))

/-! The stages of an epoch that work on the sources alone. -/

theorem State.sources_bring (t : Int) (a : State × List Contrib) (x : Nat × List Sample) :
    State.AllSources a.1 (State.bring t a x).1 := by
  unfold State.bring
  dsimp only
  split
  · exact .refl _ _
  · dsimp only
    exact State.sources_modSrc _ trivial

theorem State.sources_voteOk (s : State) (cs : List Contrib) (lo hi : Nat) (f : Contrib → Bool) :
    State.AllSources s (s.voteOk cs lo hi f) :=
  State.sources_each (fun _ u => u.sources_modSrc trivial) _ s

theorem State.sources_markOutliers (s : State) (l out : List Nat) : State.AllSources s (s.markOutliers l out) :=
  State.sources_each (fun _ u => u.sources_modSrc trivial (by split <;> rfl)) _ s

theorem State.sources_voteWeights (s : State) (v : Option Vote) : State.AllSources s (s.voteWeights v) := by
  cases v with
  | none => exact .refl _ s
  | some v => exact State.sources_each (fun _ u => u.sources_modSrc trivial) _ s

theorem State.sources_observe (s : State) (c : FusCfg) (x : List Rat) (p : List Vec) (b : Contrib) :
    State.AllSources s (s.observe c x p b).1 := by
  unfold State.observe
  split
  · exact .refl _ s
  · dsimp only
    exact .trans (.ite (.refl _ s) (s.sources_modSrc trivial)) (State.sources_modSrc _ trivial)

theorem State.sources_testRef (s : State) (c : FusCfg) (acc : List (Rat × Rat)) (r : RefObs) :
    State.AllSources s (State.testRef c acc s r) := by
  unfold State.testRef
  refine .ite ?_ (s.sources_modSrc trivial)
  exact (s.sources_modSrc trivial).trans (.ite (State.sources_modSrc _ trivial)
    (.ite (State.sources_modSrc _ trivial) (State.sources_modSrc _ trivial)))

theorem State.sources_refWeights (s : State) (c : FusCfg) : State.AllSources s (s.refWeights c) :=
  (State.sources_each (fun _ u => u.sources_modSrc trivial) _ s).trans
    (State.sources_each (fun _ u => u.sources_modSrc trivial) _ _)

theorem State.sources_fixRefs (s : State) (x : List Rat) (cs : List Contrib) (good : List RefObs) :
    State.AllSources s (s.fixRefs x cs good) := by
  unfold State.fixRefs
  refine .ite (.refl _ s) (State.sources_each (fun r u => ?_) _ s)
  split
  · exact .ite (.refl _ u) (u.sources_modSrc trivial)
  · exact .refl _ u

theorem State.sources_calReject (s : State) (c : CalCfg) (v : Rat) : State.AllSources s (s.calReject c v) :=
  .ite (s.sources_modSrc trivial) (.refl _ s)

theorem State.sources_pubState (s : State) (t : Int) (k : Nat) : State.AllSources s (s.pubState t k) :=
  s.sources_modSrc trivial

/-! What every stage of an intake leaves. -/

/-- The registers that an intake changes. -/
abbrev intakeRegs : List Nat := [Reg.FUS_TCNT, Reg.FUS_LATE, Reg.SLV_REGc 3]

/-- What every stage of an intake leaves: of the registers all but three, of the management all but the messages that wait, the frame,
the image, and what has been published; late samples stay within their bound, and an empty inbox stays empty. -/
structure State.Fuses (s t : State) : Prop where
  regs : s.keeps t intakeRegs
  mgt : ∃ a b c, t.mgt = { s.mgt with outLan := a, outMgmt := b, outSpi := c }
  cfg : t.cfg = s.cfg
  frame : t.frame = s.frame
  epoch : t.fus.epoch = s.fus.epoch
  published : t.fus.published = s.fus.published
  late : s.fus.late.length ≤ 32 → t.fus.late.length ≤ 32
  inbox : ∀ k, (s.src k).inbox = [] → (t.src k).inbox = []

section
variable {s t u : State}

theorem State.Fuses.refl (s : State) : s.Fuses s :=
  ⟨s.keeps_refl _, ⟨_, _, _, rfl⟩, rfl, rfl, rfl, rfl, id, fun _ => id⟩

theorem State.Fuses.trans (h : s.Fuses t) (h' : t.Fuses u) : s.Fuses u := by
  obtain ⟨a, b, c, hm⟩ := h.mgt
  obtain ⟨a', b', c', hm'⟩ := h'.mgt
  exact ⟨h.regs.trans h'.regs, ⟨a', b', c', by rw [hm', hm]⟩, h'.cfg.trans h.cfg, h'.frame.trans h.frame, h'.epoch.trans h.epoch,
    h'.published.trans h.published, fun hl => h'.late (h.late hl), fun k hk => h'.inbox k (h.inbox k hk)⟩

/-- A stage that leaves the registers, the management and what is said of fusion alone. -/
theorem State.Fuses.same (h : s.Fuses t) (hr : u.regs = t.regs) (hm : u.mgt = t.mgt) (hc : u.cfg = t.cfg) (hf : u.frame = t.frame)
    (he : u.fus.epoch = t.fus.epoch) (hp : u.fus.published = t.fus.published) (hl : u.fus.late = t.fus.late)
    (hs : u.fus.src = t.fus.src) : s.Fuses u :=
  h.trans ⟨State.keeps_of_regs _ hr, ⟨_, _, _, hm⟩, hc, hf, he, hp, fun h => by rwa [hl], fun k h => by
    unfold State.src at h ⊢
    rwa [hs]⟩

/-- A stage that changes fusion alone. -/
theorem State.Fuses.put (h : s.Fuses t) (x : FusSt) (he : x.epoch = t.fus.epoch) (hp : x.published = t.fus.published)
    (hl : x.late = t.fus.late) (hs : x.src = t.fus.src) : s.Fuses { t with fus := x } :=
  h.same rfl rfl rfl rfl he hp hl hs

theorem State.Fuses.sources {K : Nat → Prop} (h : s.Fuses t) (h' : State.Sources K t u) : s.Fuses u := by
  refine h.trans ?_
  have hi := h'.inbox
  have hr := h'.regs
  obtain ⟨r, x, rfl⟩ := h'.same
  exact ⟨hr.mono (by decide), ⟨_, _, _, rfl⟩, rfl, rfl, rfl, rfl, id, fun k hk => (hi k).trans hk⟩

theorem State.Fuses.set (h : s.Fuses t) (f : Field) (v : Nat) (hf : f.addr ∈ intakeRegs) : s.Fuses (t.set f v) :=
  h.trans ⟨(t.keeps_refl _).set f v hf, ⟨_, _, _, rfl⟩, rfl, rfl, rfl, rfl, id, fun _ => id⟩

theorem State.Fuses.countBy (h : s.Fuses t) (f : Field) (n : Nat) (hf : f.addr ∈ intakeRegs) : s.Fuses (t.countBy f n) := h.set f _ hf

theorem State.Fuses.each {α : Type} {f : α → State → State} (h : s.Fuses t) (l : List α) (hf : ∀ x u, State.Fuses u (f x u)) :
    s.Fuses (t.each l f) := by
  induction l generalizing t with
  | nil => exact h
  | cons x l ih => exact ih (h.trans (hf x t))

theorem State.Fuses.foldl {α : Type} {f : State → α → State} (h : s.Fuses t) (l : List α) (hf : ∀ u x, State.Fuses u (f u x)) :
    s.Fuses (l.foldl f t) := h.each l fun x u => hf u x

theorem State.Fuses.push (h : s.Fuses t) (m : Msg) : s.Fuses (t.push m) := by
  refine h.trans ⟨State.keeps_of_regs _ (t.push_regs m), ?_, t.push_cfg m, t.push_frame m, ?_, ?_, ?_, ?_⟩
  · unfold State.push
    cases m.path <;> exact ⟨_, _, _, rfl⟩
  · rw [t.push_fus m]
  · rw [t.push_fus m]
  · rw [t.push_fus m]; exact id
  · unfold State.src
    rw [t.push_fus m]
    exact fun _ => id

theorem State.Fuses.resultOpt (h : s.Fuses t) (q : Option ReqRef) (c : Nat) (d : List Byte) : s.Fuses (t.resultOpt q c d) := by
  cases q with
  | none => exact h
  | some q =>
    show s.Fuses (t.result q c d)
    unfold State.result
    split
    · exact h.push _
    · exact h

theorem State.Fuses.raiseEdge (h : s.Fuses t) (code : Nat) (old new : Bool) (l : List Nat) : s.Fuses (t.raiseEdge code old new l) := by
  unfold State.raiseEdge
  split
  · exact h.same rfl rfl rfl rfl rfl rfl rfl rfl
  · exact h

end

/-! Late samples (R93). -/

/-- R93: a late sample moves the observer's state, its covariance and the calibration values, and nothing else. -/
theorem State.lateApply_moves (c : FusCfg) (s : State) (a : Nat × Sample) :
    ∃ x p l, State.lateApply c s a = { s with fus := { s.fus with obs := x, cov := p, cal := l } } := by
  obtain ⟨k, y⟩ := a
  unfold State.lateApply
  dsimp only
  split
  · split_ifs
    · exact ⟨_, _, _, rfl⟩
    · split
      · exact ⟨_, _, _, rfl⟩
      · split_ifs <;> exact ⟨_, _, _, rfl⟩
    · exact ⟨_, _, _, rfl⟩
    · exact ⟨_, _, _, rfl⟩
  · exact ⟨_, _, _, rfl⟩

theorem State.Fuses.lateApply {s t : State} (h : s.Fuses t) (c : FusCfg) (a : Nat × Sample) : s.Fuses (State.lateApply c t a) := by
  obtain ⟨x, p, l, e⟩ := State.lateApply_moves c t a
  rw [e]
  exact h.put _ rfl rfl rfl rfl

/-- R93: what is left of the late samples is within the queue's 32. -/
theorem State.lateSamples_shown (s : State) (c : FusCfg) (t : Int) (xs : List (Nat × Sample)) :
    s.Fuses (s.lateSamples c t xs).1 ∧ (s.lateSamples c t xs).1.fus.late.length ≤ 32 := by
  unfold State.lateSamples
  extract_lets all seen live used rest s1 s2 x
  have h2 : s.Fuses s2 := ((State.Fuses.refl s).countBy _ _ (by decide)).countBy _ _ (by decide)
  have hlen : (rest.take 32).length ≤ 32 := List.length_take_le _ _
  have h3 : s2.Fuses { s2 with fus := { x with late := rest.take 32 } } :=
    ⟨State.keeps_of_regs _ rfl, ⟨_, _, _, rfl⟩, rfl, rfl, rfl, rfl, fun _ => hlen, fun _ => id⟩
  have h4 := (State.Fuses.refl { s2 with fus := { x with late := rest.take 32 } }).foldl used
    fun u y => (State.Fuses.refl u).lateApply c y
  exact ⟨(h2.trans h3).trans h4, h4.late hlen⟩

/-! The stages of an epoch. -/

theorem State.fuses_calRequests (s : State) (c : FusCfg) : s.Fuses (s.calRequests c) := by
  unfold State.calRequests
  extract_lets fs ws x s1 s2
  have h1 : s.Fuses s1 := (State.Fuses.refl s).same rfl rfl rfl rfl rfl rfl rfl rfl
  have h2 : s.Fuses s2 := h1.each _ fun x u =>
    ((State.Fuses.refl u).put { u.fus with hostFreeze := x.1 } rfl rfl rfl rfl).resultOpt _ _ _
  refine h2.each _ fun x u => ?_
  dsimp only
  split
  · exact (State.Fuses.refl u).resultOpt _ _ _
  · next i _ =>
    have h3 := (State.Fuses.refl u).put { u.fus with cal := (u.calVals c).set i x.1.2.2.2 } rfl rfl rfl rfl
    exact (h3.sources (State.sources_modSrc (K := fun _ => True) _ trivial)).resultOpt _ _ _

theorem State.fuses_applyVotes (s : State) (c : FusCfg) (cs : List Contrib) (v : Votes) : s.Fuses (s.applyVotes c cs v) := by
  unfold State.applyVotes
  extract_lets slots mots motOut windOut hd md wd s1 s2 s3 grp s0 val s4 s5 s6 s7 s8 s9 s10 s11 x s12 y
  have h3 : s.Fuses s3 := (((State.Fuses.refl s).raiseEdge _ _ _ _).raiseEdge _ _ _ _).raiseEdge _ _ _ _
  have h6 : s3.AllSources s6 := ((s3.sources_voteOk _ _ _ _).trans (State.sources_voteOk _ _ _ _ _)).trans
    (State.sources_voteOk _ _ _ _ _)
  have h7 : s6.AllSources s7 := ((s6.sources_markOutliers _ _).trans (State.sources_markOutliers _ _ _)).trans
    (State.sources_markOutliers _ _ _)
  have h8 : s7.AllSources s8 := State.sources_each (fun _ u => u.sources_modSrc trivial) _ s7
  have h11 : s8.AllSources s11 := ((s8.sources_voteWeights _).trans
    (State.sources_each (fun _ u => u.sources_voteWeights _) _ _)).trans (State.sources_voteWeights _ _)
  have h12 : s.Fuses s12 := (h3.sources (((h6.trans h7).trans h8).trans h11)).put _ rfl rfl rfl rfl
  exact h12.put _ rfl rfl rfl rfl

theorem State.fuses_setOrigin (s : State) (c : FusCfg) (cs : List Contrib) (good : List RefObs) : s.Fuses (s.setOrigin c cs good) := by
  unfold State.setOrigin
  extract_lets declared
  split
  · exact .refl s
  · split
    · exact .refl s
    · split
      · split
        · exact (State.Fuses.refl s).put _ rfl rfl rfl rfl
        · exact .refl s
      · extract_lets s1
        have h1 : s.Fuses s1 := (State.Fuses.refl s).sources (State.sources_modSrc (K := fun _ => True) s trivial)
        exact h1.put _ rfl rfl rfl rfl

/-! The observer's state (R99 to R102). -/

theorem State.obsState_length (s : State) (c : FusCfg) (start : List Rat) : 15 ≤ (s.obsState c start).length := by
  unfold State.obsState
  simp only [List.length_append, List.length_take, List.length_replicate]
  omega

theorem vecList_length (n : Nat) (v : Vec) : (vecList n v).length = n := by simp [vecList]

theorem obsStep_length (n : Nat) (o : ObsCfg) (noise : List Rat) (h : Rat) (tau : Rat × Rat × Rat) (a : List Rat × List Vec × List Vec) :
    (obsStep n o noise h tau a).1.length = a.1.length := vecList_length _ _

/-- R101: the time update keeps the fifteen states. -/
theorem State.timeUpdate_length (s : State) (c : FusCfg) (wind : Rat × Rat × Rat) (start : List Rat) :
    15 ≤ (s.timeUpdate c wind start).1.length := by
  have h0 := s.obsState_length c start
  unfold State.timeUpdate
  dsimp only
  split
  · exact h0
  · rwa [obsStep_length, obsStep_length]

theorem estUpdate_length (eps delta : Rat) (fixed : Nat → Bool) (x : List Rat) (p : List Vec) (ms : List Meas) :
    (estUpdate eps delta fixed x p ms).1.length = x.length := by simp [estUpdate]

/-- R102: a state held at a bound of 0 or more lies within it. -/
theorem abs_envHeld {b : Int} (hb : 0 ≤ b) (x : Rat) : |envHeld b x| ≤ b := by
  have hb' : (0 : Rat) ≤ b := Int.cast_nonneg hb
  unfold envHeld
  rw [abs_le]
  split_ifs <;> constructor <;> linarith

/-- R102: the environmental states of an observer's state lie within their bounds. -/
def WithinEnv (g : FusCfg) (x : List Rat) : Prop :=
  (0 ≤ g.envMax.1 → |x.getD 12 0| ≤ g.envMax.1) ∧ (0 ≤ g.envMax.2.1 → |x.getD 13 0| ≤ g.envMax.2.1) ∧
    (0 ≤ g.envMax.2.2 → |x.getD 14 0| ≤ g.envMax.2.2)

/-- Table 4-5: the environmental states follow the first twelve. -/
theorem withinEnv_held (g : FusCfg) {l : List Rat} (hl : l.length = 12) (a b d : Rat) :
    WithinEnv g (l ++ [envHeld g.envMax.1 a, envHeld g.envMax.2.1 b, envHeld g.envMax.2.2 d]) := by
  have h : ∀ i m, (l ++ m).getD (12 + i) 0 = m.getD i 0 := fun i m => by
    rw [List.getD_append_right _ _ _ _ (by omega), hl, Nat.add_sub_cancel_left]
  exact ⟨fun hb => (congrArg abs (h 0 _)).trans_le (abs_envHeld hb a), fun hb => (congrArg abs (h 1 _)).trans_le (abs_envHeld hb b),
    fun hb => (congrArg abs (h 2 _)).trans_le (abs_envHeld hb d)⟩

/-- The stages of an intake up to a state whose environmental states lie within their bounds. -/
def State.Observes (s : State) (g : FusCfg) (t : State) : Prop := s.Fuses t ∧ WithinEnv g t.fus.obs

theorem State.measureUpdate_shown (s : State) (c : FusCfg) {a : List Rat × List Vec × List Vec} (ha : 15 ≤ a.1.length) (ms : List Meas)
    (rp : List (Nat × Rat × Rat)) : s.Observes c (s.measureUpdate c a ms rp).1 := by
  unfold State.measureUpdate
  extract_lets fixed
  have hx := estUpdate_length c.obs.epsPiv c.obs.deltaPiv fixed a.1 a.2.1 ms
  generalize estUpdate c.obs.epsPiv c.obs.deltaPiv fixed a.1 a.2.1 ms = z at hx ⊢
  obtain ⟨x, p, repl⟩ := z
  have hl : ((x.take 12).set 2 (x.getD 2 0 - twoPi * (x.getD 2 0 / twoPi).floor)).length = 12 := by
    rw [List.length_set, List.length_take]
    exact Nat.min_eq_left (hx.symm ▸ (by omega : 12 ≤ a.1.length))
  exact ⟨(State.Fuses.refl s).put _ rfl rfl rfl rfl, withinEnv_held c hl _ _ _⟩

/-- R94: the tests of the references, the measurement update and what follows from it. -/
theorem State.testRefs_shown (s : State) (c : FusCfg) {a : List Rat × List Vec × List Vec} (ha : 15 ≤ a.1.length) (cs : List Contrib)
    (v : Votes) (rp : List (Nat × Rat × Rat)) : s.Observes c (s.testRefs c a cs v rp).1 := by
  unfold State.testRefs
  dsimp -zeta only
  extract_lets bs acc good s2 s3 s5
  have h1 := State.sources_foldl (f := fun (z : State × List RefObs) b =>
    ((z.1.observe c a.1 a.2.1 b).1, z.2 ++ [(z.1.observe c a.1 a.2.1 b).2])) (fun b z => z.1.sources_observe c a.1 a.2.1 b) bs (s, [])
  have h2 : s.AllSources s2 := h1.trans (State.sources_each (fun r u => u.sources_testRef c acc r) _ _)
  have h3 : s.Fuses s3 := (((State.Fuses.refl s).sources h2).trans (s2.fuses_setOrigin c cs good)).sources (State.sources_refWeights _ c)
  obtain ⟨h4, hw⟩ := s3.measureUpdate_shown c ha (s3.headingMeas c a.1 cs v ++ s3.posMeas c a.1 v good) rp
  have h5 := (State.sources_fixRefs _ _ cs good : State.AllSources _ s5).trans
    (State.sources_each (fun x u => u.sources_calReject x.1 x.2) ((fusCals c).zip s5.fus.cal) s5)
  exact ⟨(h3.trans h4).sources h5, h5.obs.symm ▸ hw⟩

/-! The epoch (R117). -/

/-- R117: an epoch shows an observer's state. -/
structure Epoch.Shows (e : Epoch) (g : FusCfg) (x : List Rat) : Prop where
  north : e.n = (satPos g (x.getD 0 0)).1
  east : e.e = (satPos g (x.getD 1 0)).1
  psi : e.psi = roundRat (x.getD 2 0 * 2 ^ 32 / twoPi) % 2 ^ 32
  u : e.u = (sat32 (x.getD 3 0 * 1000000)).1
  v : e.v = (sat32 (x.getD 4 0 * 1000000)).1
  rate : e.rate = (sat32 (x.getD 5 0 * 2 ^ 32 / twoPi)).1
  bn : e.bn = (sat32 (x.getD 12 0)).1
  be : e.be = (sat32 (x.getD 13 0)).1
  bpsi : e.bpsi = (sat32 (x.getD 14 0)).1

theorem State.epochOf_shows (s : State) (c : FusCfg) (v : Votes) (wind : Rat × Rat × Rat) (n : Nat) (ovf : Bool) :
    (s.epochOf c v wind n ovf).1.t = s.frame.start ∧ (s.epochOf c v wind n ovf).1.Shows c s.fus.obs :=
  ⟨rfl, rfl, rfl, rfl, rfl, rfl, rfl, rfl, rfl, rfl⟩

theorem State.Fuses.estimator {s t : State} (h : s.Fuses t) (n : Nat) (b : Bool) : s.Fuses (t.estimator n b) := h.put _ rfl rfl rfl rfl

theorem State.estimator_obs (s : State) (n : Nat) (b : Bool) : (s.estimator n b).fus.obs = s.fus.obs := rfl

/-- The stages of an intake up to the epoch that waits for its publication. -/
def State.Forms (s : State) (g : FusCfg) (t : State) : Prop :=
  s.Observes g t ∧ ∃ e, t.fus.next = some e ∧ e.t = s.frame.start ∧ e.Shows g t.fus.obs

theorem State.formEpoch_shown (s : State) (c : FusCfg) (start : List Rat) (fresh : List (Nat × List Sample)) (ovf : Bool) :
    s.Forms c (s.formEpoch c start fresh ovf).1 := by
  unfold State.formEpoch
  dsimp -zeta only
  extract_lets s1 s2 v hdgs s4 k wind rp s6 s7 ok x s8
  have h1 : s.AllSources s1 := State.sources_each (fun _ u => u.sources_modSrc trivial) _ s
  have h2 : s.Fuses s2 := ((State.Fuses.refl s).sources h1).trans (s1.fuses_calRequests c)
  have h3 := State.sources_foldl (fun x a => State.sources_bring s2.frame.start a x) fresh (s2, [])
  have h4 : s.Fuses s4 := (h2.sources h3).trans (State.fuses_applyVotes _ c _ v)
  obtain ⟨h5, hw⟩ := s4.testRefs_shown c (s4.timeUpdate_length c wind start) _ v rp
  have h6 : State.AllSources _ s6 := State.sources_each (fun k u => u.sources_pubState u.frame.start k) _ _
  have h7 : s.Fuses s7 := ((h4.trans h5).sources h6).estimator _ _
  have hw7 : WithinEnv c s7.fus.obs := by rwa [State.estimator_obs, h6.obs]
  clear_value s7
  have h8 : s.Fuses s8 := h7.put _ rfl rfl rfl rfl
  obtain ⟨ht, hs⟩ := s7.epochOf_shows c v wind hdgs ovf
  have hstart : (s7.epochOf c v wind hdgs ovf).1.t = s.frame.start := by rw [ht, h7.frame]
  exact ⟨⟨h8.set _ _ (by decide), hw7⟩, _, rfl, hstart, hs⟩

/-! The intake (R90, R94). -/

/-- R90: the samples of a slot are taken: its inbox is emptied, and the rest is work on that source alone. -/
theorem State.takeInbox_sources {s : State} {k : Nat} (hc : (s.srcCfg k).isSome = true) :
    State.Sources (· = k) (s.modSrc k fun x => { x with inbox := [] }) (s.takeInbox k).1 := by
  obtain ⟨c, hc⟩ := Option.isSome_iff_exists.1 hc
  unfold State.takeInbox
  rw [hc]
  exact State.sources_foldl (fun r a => State.sources_takeRaw (K := (· = k)) rfl c a r) (s.src k).inbox (_, [])

theorem State.fuses_emptyInbox (s : State) (k : Nat) : s.Fuses (s.modSrc k fun x => { x with inbox := [] }) := by
  refine ⟨State.keeps_of_regs _ rfl, ⟨_, _, _, rfl⟩, rfl, rfl, rfl, rfl, id, fun j hj => ?_⟩
  by_cases hjk : j = k
  · rw [hjk, State.src_modSrc_self]
  · rwa [State.src_modSrc_ne _ hjk]

/-- The intake of one slot leaves the other sources alone. -/
theorem State.intakeSlot_shown (t : Int) (a : State × List (Nat × Sample) × List (Nat × List Sample)) (k : Nat) :
    a.1.Fuses (State.intakeSlot t a k).1 ∧ (∀ j, j ≠ k → (State.intakeSlot t a k).1.src j = a.1.src j) ∧
    ((a.1.srcCfg k).isSome = true → (a.1.src k).st ≠ 0 → ((State.intakeSlot t a k).1.src k).inbox = []) := by
  unfold State.intakeSlot
  dsimp only
  split
  · next hnone => exact ⟨.refl _, fun _ _ => rfl, fun h => by simp [hnone] at h⟩
  · next c hc =>
    split
    · next h0 => exact ⟨.refl _, fun _ _ => rfl, fun _ h => absurd h0 h⟩
    · have hS := State.takeInbox_sources (s := a.1) (k := k) (by rw [hc]; rfl)
      refine ⟨(a.1.fuses_emptyInbox k).sources hS, fun j hj => ?_, fun _ _ => ?_⟩
      · rw [hS.others j hj, State.src_modSrc_ne _ hj]
      · rw [hS.inbox k, State.src_modSrc_self]

theorem State.srcCfg_of_cfg {s t : State} (h : t.cfg = s.cfg) (k : Nat) : t.srcCfg k = s.srcCfg k := by
  unfold State.srcCfg
  rw [h]

/-- R90: the intake empties the inbox of every source of its slots. -/
theorem State.intakeSlots_shown (t : Int) (l : List Nat) (a : State × List (Nat × Sample) × List (Nat × List Sample)) :
    a.1.Fuses (l.foldl (State.intakeSlot t) a).1 ∧ ∀ k ∈ l, (a.1.srcCfg k).isSome = true → (a.1.src k).st ≠ 0 →
      ((l.foldl (State.intakeSlot t) a).1.src k).inbox = [] := by
  induction l generalizing a with
  | nil => exact ⟨.refl _, fun _ hk => nomatch hk⟩
  | cons i l ih =>
    obtain ⟨h1, hne, hi⟩ := State.intakeSlot_shown t a i
    obtain ⟨h2, hl⟩ := ih (State.intakeSlot t a i)
    refine ⟨h1.trans h2, fun k hk hc hs => ?_⟩
    by_cases hki : k = i
    · subst hki
      exact h2.inbox k (hi hc hs)
    · have hk' : k ∈ l := (List.mem_cons.1 hk).resolve_left hki
      exact hl k hk' ((congrArg Option.isSome (State.srcCfg_of_cfg h1.cfg k)).trans hc) (by rwa [hne k hki])

theorem State.targetFresh_shown (s : State) (cs : List Contrib) : s.Fuses (s.targetFresh cs) ∧ (s.targetFresh cs).fus = s.fus := by
  unfold State.targetFresh
  split
  · exact ⟨.refl s, rfl⟩
  · split
    · exact ⟨(State.Fuses.refl s).same rfl rfl rfl rfl rfl rfl rfl rfl, rfl⟩
    · exact ⟨.refl s, rfl⟩

/-- R90 to R94, R117: the intake of the commanding part in its own frame, with no epoch that waits. -/
theorem State.intakeClose_shown {s : State} {g : FusCfg} (hg : s.fusCfg = some g) (hp : s.fus.published = false)
    (hn : s.fus.next = none) (hf : s.frame.started = true) (ho : s.ownFrame = true) (start : List Rat) :
    s.Forms g (s.intakeClose start) ∧ (s.intakeClose start).fus.late.length ≤ 32 ∧
    ∀ k < 32, (s.srcCfg k).isSome = true → (s.src k).st ≠ 0 → ((s.intakeClose start).src k).inbox = [] := by
  unfold State.intakeClose
  rw [hg]
  dsimp -zeta only
  rw [if_neg (by simp [hp, hn, hf, ho])]
  extract_lets t
  obtain ⟨h1, hempty⟩ := State.intakeSlots_shown t (List.range 32) (s, [], [])
  generalize (List.range 32).foldl (State.intakeSlot t) (s, [], []) = z at h1 hempty ⊢
  obtain ⟨h2, hlate⟩ := z.1.lateSamples_shown g t z.2.1
  generalize z.1.lateSamples g t z.2.1 = y at h2 hlate ⊢
  obtain ⟨⟨h3, hw⟩, e, hnext, ht, hs⟩ := y.1.formEpoch_shown g start z.2.2 y.2
  generalize y.1.formEpoch g start z.2.2 y.2 = x at h3 hw hnext hs ⊢
  obtain ⟨h4, hfus⟩ := x.1.targetFresh_shown x.2
  have h24 := (h2.trans h3).trans h4
  refine ⟨⟨⟨h1.trans h24, hfus ▸ hw⟩, e, hfus ▸ hnext, ?_, hfus ▸ hs⟩, (h3.trans h4).late hlate,
    fun k hk hc hst => h24.inbox k (hempty k (List.mem_range.2 hk) hc hst)⟩
  rw [ht, (h1.trans h2).frame]

/-- The status fields at the end of an intake are as they were: it changes nothing that they show. -/
theorem State.Fuses.keeps_mirror {s t : State} (h : s.Fuses t) (hi : s.Inv) (hm : t.img = s.img) : s.keeps t.mirror intakeRegs := by
  have e : ∀ a ∈ [Reg.MGT_STAT, Reg.SAF_STAT, Reg.IMG_STAT, Reg.SAF_SO, Reg.SAF_SORB], t.rd a = s.rd a := fun a ha =>
    h.regs a (by revert a; decide)
  obtain ⟨a, b, c, hmgt⟩ := h.mgt
  have hinv : t.Inv :=
    { sessions := by rw [State.get_of_rd _ (e _ (by decide)), hmgt]; exact hi.sessions
      subs := by rw [State.get_of_rd _ (e _ (by decide)), hmgt]; exact hi.subs
      arm := by
        rw [State.get_of_rd _ (e _ (by decide))]
        unfold State.armKind
        rw [hmgt]
        exact hi.arm
      safe := by rw [State.get_of_rd _ (e _ (by decide)), e _ (by decide), e _ (by decide)]; exact hi.safe
      adopting := by rw [State.get_of_rd _ (e _ (by decide)), hm]; exact hi.adopting
      reloading := by rw [State.get_of_rd _ (e _ (by decide)), hm]; exact hi.reloading }
  intro a ha
  rw [hinv.rd_mirror, h.regs a ha]

theorem intakeClose_forms {s : State} (h : s.Live) {g : FusCfg} (hg : s.fusCfg = some g) (hp : s.fus.published = false)
    (hn : s.fus.next = none) (hf : s.frame.started = true) (ho : s.ownFrame = true) (l : List Rat) : ∃ t e,
    exec (.intakeClose l) s = .next t ∧ t.fus.next = some e ∧ e.t = s.frame.start ∧ e.Shows g t.fus.obs ∧ WithinEnv g t.fus.obs ∧
    t.fus.epoch = s.fus.epoch ∧ t.fus.published = false ∧ t.fus.late.length ≤ 32 ∧
    (∀ k < 32, (s.srcCfg k).isSome = true → (s.src k).st ≠ 0 → (t.src k).inbox = []) ∧
    s.keeps t intakeRegs ∧ State.Touch [.mgt, .fus, .ctl, .port] s t := by
  obtain ⟨⟨⟨hF, hw⟩, e, hnext, ht, hs⟩, hlate, hempty⟩ := State.intakeClose_shown hg hp hn hf ho l
  have hT : State.Touch [.mgt, .fus, .ctl, .port] s (s.intakeClose l) := (State.Touch.refl _ s).intakeClose l (fun _ => id)
  exact ⟨_, e, h.next rfl rfl, hnext, ht, hs, hw, hF.epoch, hF.published.trans hp, hlate, hempty,
    hF.keeps_mirror h.inv (hT .img (by decide)), hT.mirror (by decide)⟩

/-! The estimator's states (R99, R114, R115). -/

/-- A command that changes fusion and nothing else. -/
theorem State.Live.fuses {s : State} (h : s.Live) {c : Instr} {F : State → State} {x : FusSt} (hc : exec c s = .next (s.running F))
    (hF : F s = { s with fus := x }) : ∃ t, exec c s = .next t ∧ t.fus = x ∧ s.keeps t [] ∧ State.Touch [.fus] s t := by
  obtain ⟨he, hk, hT⟩ := h.ends hc hF (l := []) (p := [.fus]) (State.keeps_of_regs _ rfl)
    ((State.Touch.refl _ s).upd_fus x (by decide)) (by decide) (by decide)
  exact ⟨_, he, rfl, hk, hT⟩

/-! Late samples that expire (R93). -/

theorem mem_insertLate {x y : Nat × Sample} {l : List (Nat × Sample)} : y ∈ insertLate x l ↔ y = x ∨ y ∈ l := by
  induction l with
  | nil => simp [insertLate]
  | cons z l ih =>
    unfold insertLate
    split
    · exact List.mem_cons
    · rw [List.mem_cons, ih, List.mem_cons]
      tauto

theorem insertLate_sorted (x : Nat × Sample) {l : List (Nat × Sample)} (h : l.Pairwise (fun a b => a.2.stamp ≤ b.2.stamp)) :
    (insertLate x l).Pairwise (fun a b => a.2.stamp ≤ b.2.stamp) := by
  induction l with
  | nil => exact List.pairwise_singleton _ _
  | cons z l ih =>
    obtain ⟨hz, hl⟩ := List.pairwise_cons.1 h
    unfold insertLate
    split
    · next hlt =>
      refine List.pairwise_cons.2 ⟨fun y hy => ?_, h⟩
      obtain rfl | hy := List.mem_cons.1 hy
      · exact hlt.le
      · exact hlt.le.trans (hz y hy)
    · next hge =>
      refine List.pairwise_cons.2 ⟨fun y hy => ?_, ih hl⟩
      obtain rfl | hy := mem_insertLate.1 hy
      · exact not_lt.1 hge
      · exact hz y hy

/-- R93: the late samples in the order of their stamps. -/
theorem foldr_insertLate (l : List (Nat × Sample)) : (∀ y, y ∈ l.foldr insertLate [] ↔ y ∈ l) ∧
    (l.foldr insertLate []).Pairwise (fun a b => a.2.stamp ≤ b.2.stamp) := by
  induction l with
  | nil => exact ⟨fun _ => Iff.rfl, .nil⟩
  | cons x l ih =>
    obtain ⟨hm, hs⟩ := ih
    exact ⟨fun y => by rw [List.foldr_cons, mem_insertLate, hm, List.mem_cons], insertLate_sorted x hs⟩

theorem State.lateExpired_oldest {s : State} (hl : s.fus.late ≠ []) : ∃ x ∈ s.fus.late, (∀ y ∈ s.fus.late, x.2.stamp ≤ y.2.stamp) ∧
    s.lateExpired = ({ s with fus := { s.fus with late := s.fus.late.erase x } }).count Fld.FUS_LATE_LATE_DROPPED := by
  obtain ⟨hm, hs⟩ := foldr_insertLate s.fus.late
  unfold State.lateExpired
  cases hf : s.fus.late.foldr insertLate [] with
  | nil =>
    rw [hf] at hm
    exact absurd (List.eq_nil_iff_forall_not_mem.2 fun y hy => List.not_mem_nil ((hm y).2 hy)) hl
  | cons x l =>
    rw [hf] at hm hs
    refine ⟨x, (hm x).1 List.mem_cons_self, fun y hy => ?_, rfl⟩
    obtain rfl | hy := List.mem_cons.1 ((hm y).2 hy)
    · exact le_rfl
    · exact (List.pairwise_cons.1 hs).1 y hy

theorem lateSampleExpired_drops {s : State} (h : s.Live) (hl : s.fus.late ≠ []) : ∃ t x, exec .lateSampleExpired s = .next t ∧
    x ∈ s.fus.late ∧ (∀ y ∈ s.fus.late, x.2.stamp ≤ y.2.stamp) ∧ t.fus = { s.fus with late := s.fus.late.erase x } ∧
    t.get Fld.FUS_LATE_LATE_DROPPED = min (s.get Fld.FUS_LATE_LATE_DROPPED + 1) (2 ^ Fld.FUS_LATE_LATE_DROPPED.width - 1) ∧
    s.keeps t [Reg.FUS_LATE] ∧ State.Touch [.fus] s t := by
  obtain ⟨x, hx, hmin, heq⟩ := State.lateExpired_oldest hl
  obtain ⟨he, hk, hT⟩ := h.ends (c := .lateSampleExpired) (l := [Reg.FUS_LATE]) (p := [.fus]) rfl heq
    (((s.keeps_refl _).of_regs rfl).count _ (by decide)) (((State.Touch.refl _ s).upd_fus _ (by decide)).count _) (by decide) (by decide)
  refine ⟨_, x, he, hx, hmin, rfl, ?_, hk, hT⟩
  rw [State.get_mirror _ _ (by decide) (by decide) (by decide), State.get_count_self _ _ (by decide)]
  rfl

/-! The control register (R111, R119, R452). -/

theorem fusCalFreeze_effect {s : State} (h : s.Live) (f : Bool) : ∃ t, exec (.fusCalFreeze f) s = .next t ∧ t.rest = s.rest ∧
    (if s.commanding = true then t.get Fld.FUS_CTRL_CAL_FREEZE = f.toNat ∧ s.keeps t [Reg.FUS_CTRL]
    else t.get Fld.SYS_REFINFO_BLOCK = 11 ∧ t.get Fld.SYS_REFINFO_CODE = 1 ∧ s.keeps t [Reg.SYS_REFADDR, Reg.SYS_REFINFO]) := by
  by_cases hc : s.commanding = true
  · have heq : s.fusCalFreeze f = s.setBit Fld.FUS_CTRL_CAL_FREEZE f := if_pos hc
    obtain ⟨he, hk, -⟩ := h.ends (c := .fusCalFreeze f) (p := []) rfl heq ((s.keeps_refl [Reg.FUS_CTRL]).setBit _ f (by decide))
      ((State.Touch.refl _ s).setBit _ f) (by decide) (by decide)
    refine ⟨_, he, rfl, ?_⟩
    rw [if_pos hc, State.get_mirror _ _ (by decide) (by decide) (by decide), State.get_setBit_self _ _ _ (by decide) rfl]
    exact ⟨rfl, hk⟩
  · have heq : s.fusCalFreeze f = s.refuse 11 1 Reg.FUS_CTRL := if_neg hc
    obtain ⟨he, hk, -⟩ := h.ends (c := .fusCalFreeze f) (p := []) rfl heq
      ((s.keeps_refl [Reg.SYS_REFADDR, Reg.SYS_REFINFO]).refuse 11 1 Reg.FUS_CTRL (by decide) (by decide))
      ((State.Touch.refl _ s).refuse _ _ _ (by decide)) (by decide) (by decide)
    refine ⟨_, he, rfl, ?_⟩
    rw [if_neg hc, State.get_mirror _ _ (by decide) (by decide) (by decide), State.get_mirror _ _ (by decide) (by decide) (by decide),
      State.get_refuse_block, State.get_refuse_code]
    exact ⟨rfl, rfl, hk⟩

theorem fusCntClr_effect {s : State} (h : s.Live) : ∃ t, exec .fusCntClr s = .next t ∧ t.rd Reg.FUS_LATE = 0 ∧ t.rd Reg.FUS_TCNT = 0 ∧
    s.keeps t [Reg.FUS_LATE, Reg.FUS_TCNT] ∧ t.rest = s.rest := by
  obtain ⟨he, hk, -⟩ := h.ends (c := .fusCntClr) (p := []) rfl (show s.fusCntClr = (s.wr Reg.FUS_LATE 0).wr Reg.FUS_TCNT 0 from rfl)
    (((s.keeps_refl [Reg.FUS_LATE, Reg.FUS_TCNT]).wr Reg.FUS_LATE 0 (by decide)).wr Reg.FUS_TCNT 0 (by decide))
    (((State.Touch.refl _ s).wr _ _).wr _ _) (by decide) (by decide)
  refine ⟨_, he, ?_, ?_, hk, rfl⟩
  · rw [State.rd_mirror _ (by decide) (by decide) (by decide), State.rd_wr_ne _ _ (by decide), State.rd_wr_self]
  · rw [State.rd_mirror _ (by decide) (by decide) (by decide), State.rd_wr_self]

/-- Settles O50: the intake by what its stages leave (`State.Fuses`) and what its measurement update makes; the other commands change
one thing each. -/
theorem theEpochIsFormedAtIntakeClose : Obligations.TheEpochIsFormedAtIntakeClose := by
  unfold Obligations.TheEpochIsFormedAtIntakeClose
  refine ⟨fun s g l h hg hp hn hf ho => ?_, fun s h h0 hok => h.fuses rfl (if_pos ⟨h0, hok⟩), fun s h h2 => h.fuses rfl (if_pos h2),
    fun s h hw => h.fuses rfl (if_pos hw), fun s h hl => lateSampleExpired_drops h hl, fun s f h => fusCalFreeze_effect h f,
    fun s h => fusCntClr_effect h⟩
  obtain ⟨t, e, he, hnext, ht, hs, ⟨hw1, hw2, hw3⟩, hrest⟩ := intakeClose_forms h hg hp hn hf ho l
  exact ⟨t, e, he, hnext, ht, ⟨hs.north, hs.east, hs.psi, hs.u, hs.v, hs.rate, hs.bn, hs.be, hs.bpsi, hw1, hw2, hw3⟩, hrest⟩

end Sys2Proof.Machine
end

section
/-!
Solves and their instances (R154, R155, R157, R160 to R168): what an iteration, a restart and a refresh leave in the one instance that
they move, and in the counts of its class.
-/
namespace Sys2Proof.Machine

/-! Instances of the solver. -/

/-- From `s` to `t` the solver instance `k` has become `x`, the other instances are as they were, and only the registers `l` and the
solver's part of the state have changed. -/
structure State.Moves (s t : State) (k : Nat) (x : Inst) (l : List Nat) : Prop where
  inst : t.inst k = x
  others : ∀ j, j ≠ k → t.inst j = s.inst j
  keeps : s.keeps t l
  touch : State.Touch [.slv] s t

theorem State.moves_refl (s : State) (k : Nat) (l : List Nat) : s.Moves s k (s.inst k) l :=
  ⟨rfl, fun _ _ => rfl, s.keeps_refl l, .refl _ s⟩

theorem State.Moves.modInst {s t : State} {k : Nat} {x : Inst} {l : List Nat} (h : s.Moves t k x l) (f : Inst → Inst) :
    s.Moves (t.modInst k f) k (f x) l where
  inst := (cellsGet_set_self _ _ _ _).trans (congrArg f h.inst)
  others j hj := (cellsGet_set_ne _ _ _ hj).trans (h.others j hj)
  keeps := h.keeps.of_regs rfl
  touch := h.touch.modInst k f (by decide)

/-- A change of registers alone. -/
theorem State.Moves.regs {s t u : State} {k : Nat} {x : Inst} {l : List Nat} (h : s.Moves t k x l) (hu : u = { t with regs := u.regs })
    (hk : t.keeps u l) : s.Moves u k x l where
  inst := by rw [hu]; exact h.inst
  others := by rw [hu]; exact h.others
  keeps := h.keeps.trans hk
  touch := by rw [hu]; exact h.touch.regs _

theorem State.Moves.count {s t : State} {k : Nat} {x : Inst} {l : List Nat} (h : s.Moves t k x l) (f : Field) (hf : f.addr ∈ l) :
    s.Moves (t.count f) k x l := h.regs rfl ((t.keeps_refl l).count f hf)

theorem State.inst_count (s : State) (f : Field) (k : Nat) : (s.count f).inst k = s.inst k := rfl

theorem State.modInst_congr {s : State} {k : Nat} {f f' : Inst → Inst} (h : f (s.inst k) = f' (s.inst k)) :
    s.modInst k f = s.modInst k f' :=
  congrArg (fun x => { s with slv := cellsSet {} s.slv k x }) h

theorem State.Moves.trans {s t u : State} {k : Nat} {x y : Inst} {l : List Nat} (h : s.Moves t k x l)
    (h' : t.Moves u k y l) :
    s.Moves u k y l where
  inst := h'.inst
  others j hj := (h'.others j hj).trans (h.others j hj)
  keeps := h.keeps.trans h'.keeps
  touch := h.touch.trans h'.touch

theorem State.Moves.mono {s t : State} {k : Nat} {x : Inst} {l l' : List Nat} (h : s.Moves t k x l) (hl : ∀ a ∈ l, a ∈ l') :
    s.Moves t k x l' := ⟨h.inst, h.others, h.keeps.mono hl, h.touch⟩

/-- The solver's registers and those above them: none of them is at the mercy of the mirrored fields. -/
theorem unmirrored_of_ge {l : List Nat} (h : ∀ a ∈ l, 0xD0000 ≤ a) :
    ∀ a ∈ [Reg.MGT_STAT, Reg.SAF_STAT, Reg.IMG_STAT, Reg.SAF_SO, Reg.SAF_SORB], a ∉ l := by
  have hlow : ∀ a ∈ [Reg.MGT_STAT, Reg.SAF_STAT, Reg.IMG_STAT, Reg.SAF_SO, Reg.SAF_SORB], a < 0xD0000 := by decide
  exact fun a ha hm => Nat.not_lt.2 (h a hm) (hlow a ha)

/-- The end of a command that moves one instance. -/
theorem State.Live.moves {s u : State} (h : s.Live) {c : Instr} {F : State → State} (hc : exec c s = .next (s.running F)) (hF : F s = u)
    {k : Nat} {x : Inst} {l : List Nat} (hM : s.Moves u k x l) (hl : ∀ a ∈ l, 0xD0000 ≤ a) :
    exec c s = .next u.mirror ∧ s.Moves u.mirror k x l := by
  obtain ⟨he, hk, hT⟩ := h.ends hc hF hM.keeps hM.touch (by decide) (unmirrored_of_ge hl)
  exact ⟨he, hM.inst, hM.others, hk, hT⟩

theorem State.rd_mirror_of_ge (s : State) {a : Nat} (h : 0xD0000 ≤ a) : s.mirror.rd a = s.rd a :=
  s.rd_mirror (Nat.ne_of_gt (Nat.lt_of_lt_of_le (by decide) h)) (Nat.ne_of_gt (Nat.lt_of_lt_of_le (by decide) h))
    (Nat.ne_of_gt (Nat.lt_of_lt_of_le (by decide) h))

theorem State.get_mirror_of_ge (s : State) {f : Field} (h : 0xD0000 ≤ f.addr) : s.mirror.get f = s.get f :=
  State.get_of_rd f (s.rd_mirror_of_ge h)

/-- A command that moves one instance and counts that in a field of the solver's. -/
theorem State.Live.movesCounting {s u v : State} (h : s.Live) {c : Instr} {F : State → State} (hc : exec c s = .next (s.running F))
    (f : Field) (hF : F s = u) (hu : u = v.count f) {k : Nat} {x : Inst} (hM : s.Moves v k x [])
    (hf : 0xD0000 ≤ f.addr) (hw : f.lo + f.width ≤ 32) :
    exec c s = .next u.mirror ∧ s.Moves u.mirror k x [f.addr] ∧ u.mirror.get f = min (s.get f + 1) (2 ^ f.width - 1) := by
  subst hu
  obtain ⟨he, hM'⟩ := h.moves hc hF ((hM.mono (by simp)).count f (List.mem_singleton_self _)) (by simpa using hf)
  refine ⟨he, hM', ?_⟩
  rw [State.get_mirror_of_ge _ hf, State.get_count_self _ _ hw, State.get_of_rd f (hM.keeps _ List.not_mem_nil)]

/-! The two factor slots (R155). -/

/-- R155: a factor that takes the slot not in use, which the pointer then names. -/
def Inst.adopt (x : Inst) (f : Factor) : Inst := { x.putOther (some f) with slot := !x.slot }

theorem Inst.factor_adopt (x : Inst) (f : Factor) : (x.adopt f).factor = some f := by
  unfold Inst.adopt Inst.factor Inst.putOther
  cases x.slot <;> rfl

/-- A refreshed slot leaves everything but the slots alone. -/
theorem Inst.putOther_eq (x : Inst) (f : Option Factor) : ∃ a b, x.putOther f = { x with slot0 := a, slot1 := b } := by
  unfold Inst.putOther
  split
  · exact ⟨_, _, rfl⟩
  · exact ⟨_, _, rfl⟩

theorem Inst.adopt_eq (x : Inst) (f : Factor) : ∃ a b, x.adopt f = { x with slot0 := a, slot1 := b, slot := !x.slot } := by
  obtain ⟨a, b, h⟩ := x.putOther_eq (some f)
  exact ⟨a, b, by rw [Inst.adopt, h]⟩

theorem State.slvActivate_idle {s : State} {k : Nat} (h : (s.inst k).ready = false) : s.slvActivate k = s :=
  if_neg (by simp [h])

/-- R155, R159: a factor that waited is in use, and a refresh that waited starts. -/
def Inst.switch (x : Inst) : Inst := { x with slot := !x.slot, ready := false, refresh := x.again, again := none }

theorem State.slvActivate_ready {s : State} {k : Nat} (h : (s.inst k).ready = true) (hn : (s.inst k).refresh = none) :
    s.slvActivate k = (s.modInst k Inst.switch).count (Fld.SLV_FACTc_REFRESHES (clsOf k)) := by
  refine (if_pos h).trans (congrArg (State.count · _) (State.modInst_congr ?_))
  unfold Inst.switch
  rw [hn]

/-! Iterations (R154, R161 to R168). -/

/-- The iterate that an iteration of an instance ends with, given its tasks' own flags. -/
def Inst.judged (x : Inst) (p : SlvCfg) (bits : Nat × Nat) (f : Factor) (own : OwnFlags) (it : Iter) (old : Bool) : Iterate :=
  mkIterate p bits x.qp (x.iter + 1) { it with sat := it.sat || own.sat } (decide (0 < f.replaced)) old own.domain

/-- The state of an iteration carried on. -/
def Inst.carry (x : Inst) (it : Iter) : Inst :=
  { x with iter := x.iter + 1, x := it.x, z := it.z, y := it.y, lamL := it.lamL, lamU := it.lamU, mu := it.mu }

/-- R163, R165: an iterate that is no worse than the best one is published and takes its place. -/
theorem Inst.take_of_le {x : Inst} {i : Iterate} (h : ∀ b, x.best = some b → i.merit ≤ b.merit) :
    x.take i = { ({ x with badRun := 0 } : Inst).publish i with best := some i } := by
  unfold Inst.take
  refine if_pos ?_
  split
  · rfl
  · next b hb => exact decide_eq_true (h b hb)

theorem Inst.take_of_lt {x : Inst} {i b : Iterate} (h : x.best = some b) (hm : b.merit < i.merit) :
    x.take i = { x with badRun := 0 } := by
  unfold Inst.take
  refine if_neg ?_
  rw [h]
  simpa using hm

theorem Inst.publish_eq (x : Inst) (i : Iterate) : ∃ p0 p1 p, x.publish i = { x with pub0 := p0, pub1 := p1, pub := p } := by
  unfold Inst.publish
  split
  · exact ⟨_, _, _, rfl⟩
  · exact ⟨_, _, _, rfl⟩

theorem Inst.published_publish (x : Inst) (i : Iterate) : (x.publish i).published = some i := by
  unfold Inst.published Inst.publish
  cases x.pub <;> rfl

/-- R163, R166: an ineligible iterate, in a row of them. -/
def Inst.spoil (x : Inst) : Inst := { x with badRun := x.badRun + 1, inelSeen := true }

/-- What the judgement of an eligible iterate leaves alone. -/
theorem Inst.take_eq (x : Inst) (i : Iterate) : ∃ b p0 p1 p,
    x.take i = { x with badRun := 0, best := b, pub0 := p0, pub1 := p1, pub := p } := by
  by_cases h : ∀ b, x.best = some b → i.merit ≤ b.merit
  · obtain ⟨p0, p1, p, hp⟩ := Inst.publish_eq { x with badRun := 0 } i
    exact ⟨some i, p0, p1, p, by rw [Inst.take_of_le h, hp]⟩
  · push Not at h
    obtain ⟨b, hb, hm⟩ := h
    exact ⟨x.best, x.pub0, x.pub1, x.pub, Inst.take_of_lt hb hm⟩

theorem Inst.take_better {x : Inst} {i : Iterate} (h : ∀ b, x.best = some b → i.merit ≤ b.merit) :
    (x.take i).best = some i ∧ (x.take i).published = some i := by
  rw [Inst.take_of_le h]
  exact ⟨rfl, Inst.published_publish _ i⟩

theorem Inst.take_worse {x : Inst} {i b : Iterate} (h : x.best = some b) (hm : b.merit < i.merit) :
    (x.take i).best = some b ∧ (x.take i).published = x.published := by
  rw [Inst.take_of_lt h hm]
  exact ⟨h, rfl⟩

/-- What an eligible iteration leaves in its instance. -/
theorem Inst.carry_take (x : Inst) (it : Iter) (i : Iterate) : ((x.carry it).take i).iter = x.iter + 1 ∧
    ((x.carry it).take i).x = it.x ∧ ((x.carry it).take i).z = it.z ∧ ((x.carry it).take i).y = it.y ∧
    ((x.carry it).take i).mu = it.mu ∧ ((x.carry it).take i).badRun = 0 ∧ ((x.carry it).take i).solving = x.solving ∧
    ((x.carry it).take i).factor = x.factor := by
  obtain ⟨b, p0, p1, p, h⟩ := Inst.take_eq (x.carry it) i
  rw [h]
  exact ⟨rfl, rfl, rfl, rfl, rfl, rfl, rfl, rfl⟩

/-- The splitting method has no multipliers of its bounds, and no μ. -/
theorem splitStep_multipliers (p : SlvCfg) (bits : Nat × Nat) (q : Qp) (f : Factor) (x : Inst) : (splitStep p bits q f x).lamL = x.lamL ∧
    (splitStep p bits q f x).lamU = x.lamU ∧ (splitStep p bits q f x).mu = x.mu := ⟨rfl, rfl, rfl⟩

/-- R168: neither tolerance nor the limit of iterations stops the solve. -/
theorem stopAfter_none {p : SlvCfg} {mu : Rat} {i : Iterate} (h : i.sat = true ∨ p.tol < i.merit) (hi : i.index < p.maxIter) :
    stopAfter p mu i = none := by
  unfold stopAfter
  rw [if_neg, if_neg (by omega)]
  rintro ⟨hs, hm, -⟩
  obtain h | h := h
  · simp [h] at hs
  · exact absurd hm (not_le.2 h)

section
variable {s : State} {k : Nat} {p : SlvCfg} {f : Factor} {own : OwnFlags} {it : Iter} {old : Bool}

/-- An eligible iterate is judged against the best one, and the solve goes on. -/
theorem State.iterEnd_eligible (hr : (s.inst k).ready = false) (ho : ((s.inst k).old && !p.barrier) = old) {i : Iterate}
    (he : (s.inst k).judged p s.slvBits f own it old = i) (hi : i.sat = false) (hm : p.tol < i.merit)
    (hl : (s.inst k).iter + 1 < p.maxIter) :
    ∃ t, s.iterEnd k p f own it = (t, none) ∧ s.Moves t k (((s.inst k).carry it).take i) [] := by
  subst he ho
  let i := (s.inst k).judged p s.slvBits f own it ((s.inst k).old && !p.barrier)
  have hM : s.Moves ((s.modInst k (·.carry it)).modInst k (·.take i)) k (((s.inst k).carry it).take i) [] :=
    ((s.moves_refl k []).modInst (·.carry it)).modInst (·.take i)
  obtain ⟨_, _, _, _, heq⟩ := Inst.take_eq ((s.inst k).carry it) i
  refine ⟨_, Prod.ext ?_ (stopAfter_none (.inr hm) hl), hM⟩
  unfold State.iterEnd
  dsimp only
  refine (congrArg (State.slvActivate · k) (if_neg (Bool.eq_false_iff.1 hi))).trans (State.slvActivate_idle ?_)
  refine (congrArg Inst.ready hM.inst).trans ?_
  rw [heq]
  exact hr

/-- A saturated iterate is ineligible: it is counted, and the solve goes on. -/
theorem State.iterEnd_ineligible (hr : (s.inst k).ready = false) (ho : ((s.inst k).old && !p.barrier) = old) {i : Iterate}
    (he : (s.inst k).judged p s.slvBits f own it old = i) (hi : i.sat = true) (hl : (s.inst k).iter + 1 < p.maxIter) :
    ∃ t, s.iterEnd k p f own it = (t.count (Fld.SLV_CNTc_INELIGIBLE (clsOf k)), none) ∧
      s.Moves t k ((s.inst k).carry it).spoil [] := by
  subst he ho
  have hM := ((s.moves_refl k []).modInst (·.carry it)).modInst Inst.spoil
  refine ⟨_, Prod.ext ?_ (stopAfter_none (.inl hi) hl), hM⟩
  unfold State.iterEnd
  dsimp only
  refine (congrArg (State.slvActivate · k) (if_pos hi)).trans (State.slvActivate_idle ?_)
  exact (congrArg Inst.ready hM.inst).trans hr
end

theorem State.iterationEnd_of_iterate {s t : State} {k : Nat} {own : OwnFlags} (h : s.iterate k own = (t, none)) :
    s.iterationEnd k own = t := by
  unfold State.iterationEnd
  rw [h]

section
variable {s : State} {k : Nat} {p : SlvCfg} (hs : (s.inst k).solving = true) (hp : s.slvCfg (clsOf k) = some p)
include hs hp

/-- R161: the splitting method iterates with the factor in use. -/
theorem State.iterate_splitting (hb : p.barrier = false) {f : Factor} (hf : (s.inst k).factor = some f) (own : OwnFlags) :
    s.iterate k own = s.iterEnd k p f own (splitStep p s.slvBits (s.inst k).qp f (s.inst k)) := by
  unfold State.iterate
  simp only [hp, hs, hb, hf, Bool.not_true, Bool.false_eq_true, if_false]

/-- R162: the barrier method iterates with a factor of its own, which takes the other slot and is counted. -/
theorem State.iterate_barrier (hb : p.barrier = true) {f : Factor}
    (hf : factorise (some s.slvBits.2) (some s.slvBits.2) p.epsPiv p.deltaPiv p.order (barrierMatrix (s.inst k).qp (s.inst k)) = f)
    (hsat : f.saturated = false) (own : OwnFlags) : s.iterate k own =
      ((s.modInst k (·.adopt f)).count (Fld.SLV_FACTc_REFRESHES (clsOf k))).iterEnd k p f own
        (barrierStep p s.slvBits (s.inst k).qp f (s.inst k)) := by
  have hfac : s.barrierFactor k p =
      ((s.modInst k (·.adopt f)).count (Fld.SLV_FACTc_REFRESHES (clsOf k)), some f) := by
    unfold State.barrierFactor
    dsimp only
    rw [hf]
    exact if_neg (by simp [hsat])
  unfold State.iterate
  simp only [hp, hs, hb, hfac, Bool.not_true, Bool.false_eq_true, if_false, if_true]
  rfl

end

section
variable {s : State} (h : s.Live) {c : Fin 3} {g : Fin 48} {x : Inst} (hx : s.inst (instOf c g) = x) (hs : x.solving = true)
  {p : SlvCfg} (hp : s.slvCfg (clsOf (instOf c g)) = some p) (hr : x.ready = false)
include h hx hs hp hr

/-- The first clause of O47: an eligible splitting iterate carries its state on and is judged against the best one. -/
theorem iterationEnd_eligible (hb : p.barrier = false) {f : Factor} (hf : x.factor = some f) {o : OwnFlags} {it : Iter}
    (hit : splitStep p s.slvBits x.qp f x = it) {i : Iterate} (hi : x.judged p s.slvBits f o it x.refresh.isSome = i)
    (hsat : i.sat = false) (hm : p.tol < i.merit) (hl : x.iter + 1 < p.maxIter) : ∃ t, exec (.iterationEnd c g o) s = .next t ∧
    (t.inst (instOf c g)).iter = x.iter + 1 ∧ (t.inst (instOf c g)).x = it.x ∧ (t.inst (instOf c g)).z = it.z ∧
    (t.inst (instOf c g)).y = it.y ∧ (t.inst (instOf c g)).badRun = 0 ∧ (t.inst (instOf c g)).solving = true ∧
    (x.best = none ∨ (∃ b, x.best = some b ∧ i.merit ≤ b.merit) →
      (t.inst (instOf c g)).best = some i ∧ (t.inst (instOf c g)).published = some i) ∧
    (∀ b, x.best = some b → b.merit < i.merit →
      (t.inst (instOf c g)).best = some b ∧ (t.inst (instOf c g)).published = x.published) ∧
    (∀ j, j ≠ instOf c g → t.inst j = s.inst j) ∧ s.keeps t [] ∧ State.Touch [.slv] s t := by
  subst hx hit
  obtain ⟨t, ht, hM⟩ := State.iterEnd_eligible hr (by simp [Inst.old, hr, hb]) hi hsat hm hl
  obtain ⟨he, hM'⟩ := h.moves (c := .iterationEnd c g o) rfl
    (State.iterationEnd_of_iterate ((State.iterate_splitting hs hp hb hf o).trans ht)) hM (by simp)
  obtain ⟨hiter, hx, hz, hy, -, hbad, hsol, -⟩ :=
    Inst.carry_take (s.inst (instOf c g)) (splitStep p s.slvBits (s.inst (instOf c g)).qp f (s.inst (instOf c g))) i
  refine ⟨_, he, ?_⟩
  rw [hM'.inst]
  refine ⟨hiter, hx, hz, hy, hbad, hsol.trans hs, fun hbest => Inst.take_better fun b hb => ?_, fun b hb hlt => Inst.take_worse hb hlt,
    hM'.others, hM'.keeps, hM'.touch⟩
  obtain hnone | ⟨b', hb', hle⟩ := hbest
  · exact absurd (hnone.symm.trans hb) nofun
  · exact Option.some.inj (hb'.symm.trans hb) ▸ hle

/-- The second clause of O47: a saturated splitting iterate is counted as ineligible. -/
theorem iterationEnd_ineligible (hb : p.barrier = false) {f : Factor} (hf : x.factor = some f) {o : OwnFlags} {it : Iter}
    (hit : splitStep p s.slvBits x.qp f x = it) {i : Iterate} (hi : x.judged p s.slvBits f o it x.refresh.isSome = i)
    (hsat : i.sat = true) (hl : x.iter + 1 < p.maxIter) : ∃ t, exec (.iterationEnd c g o) s = .next t ∧
      s.Moves t (instOf c g)
        { x with iter := x.iter + 1, x := it.x, z := it.z, y := it.y, badRun := x.badRun + 1, inelSeen := true }
        [Reg.SLV_CNTc (clsOf (instOf c g))] ∧
      t.get (Fld.SLV_CNTc_INELIGIBLE (clsOf (instOf c g))) =
        min (s.get (Fld.SLV_CNTc_INELIGIBLE (clsOf (instOf c g))) + 1) 65535 := by
  obtain ⟨hL, hU, hmu⟩ := splitStep_multipliers p s.slvBits x.qp f x
  have hspoil : (x.carry it).spoil =
      { x with iter := x.iter + 1, x := it.x, z := it.z, y := it.y, badRun := x.badRun + 1, inelSeen := true } := by
    unfold Inst.spoil Inst.carry
    rw [← hit, hL, hU, hmu]
  subst hx hit
  obtain ⟨t, ht, hM⟩ := State.iterEnd_ineligible hr (by simp [Inst.old, hr, hb]) hi hsat hl
  rw [hspoil] at hM
  exact ⟨_, h.movesCounting rfl (Fld.SLV_CNTc_INELIGIBLE _)
    (State.iterationEnd_of_iterate ((State.iterate_splitting hs hp hb hf o).trans ht)) rfl hM (Nat.le_add_right_of_le (by decide))
    (by decide : 16 + 16 ≤ 32)⟩

/-- The third clause of O47: a barrier iterate, the first of its solve, with the factor that its iteration has formed. -/
theorem iterationEnd_barrier (hb : p.barrier = true) {f : Factor}
    (hf : factorise (some s.slvBits.2) (some s.slvBits.2) p.epsPiv p.deltaPiv p.order (barrierMatrix x.qp x) = f)
    (hfs : f.saturated = false) {o : OwnFlags} {it : Iter} (hit : barrierStep p s.slvBits x.qp f x = it) {i : Iterate}
    (hi : x.judged p s.slvBits f o it false = i) (hsat : i.sat = false) (hm : p.tol < i.merit) (hl : x.iter + 1 < p.maxIter)
    (hn : x.best = none) : ∃ t, exec (.iterationEnd c g o) s = .next t ∧
    (t.inst (instOf c g)).iter = x.iter + 1 ∧ (t.inst (instOf c g)).x = it.x ∧ (t.inst (instOf c g)).mu = it.mu ∧
    (t.inst (instOf c g)).factor = some f ∧ (t.inst (instOf c g)).best = some i ∧ (t.inst (instOf c g)).solving = true ∧
    (∀ j, j ≠ instOf c g → t.inst j = s.inst j) ∧
    t.get (Fld.SLV_FACTc_REFRESHES (clsOf (instOf c g))) =
      min (s.get (Fld.SLV_FACTc_REFRESHES (clsOf (instOf c g))) + 1) 65535 ∧
    s.keeps t [Reg.SLV_FACTc (clsOf (instOf c g))] ∧ State.Touch [.slv] s t := by
  subst hx hit
  let cnt := Fld.SLV_FACTc_REFRESHES (clsOf (instOf c g))
  let it := barrierStep p s.slvBits (s.inst (instOf c g)).qp f (s.inst (instOf c g))
  have hA : s.Moves (s.modInst (instOf c g) (·.adopt f)) (instOf c g) ((s.inst (instOf c g)).adopt f) [] :=
    (s.moves_refl _ []).modInst _
  have hC : s.Moves ((s.modInst (instOf c g) (·.adopt f)).count cnt) (instOf c g) ((s.inst (instOf c g)).adopt f) [cnt.addr] :=
    (hA.mono (by simp)).count _ (List.mem_singleton_self _)
  obtain ⟨a, b, hadopt⟩ := Inst.adopt_eq (s.inst (instOf c g)) f
  obtain ⟨t, ht, hM⟩ := State.iterEnd_eligible (s := (s.modInst (instOf c g) (·.adopt f)).count cnt) (k := instOf c g) (p := p)
    (f := f) (own := o) (it := it) (old := false) (i := i) (by rw [hC.inst, hadopt]; exact hr) (by simp [hb])
    (by rw [hC.inst, hadopt]; exact hi) hsat hm (by rw [hC.inst, hadopt]; exact hl)
  rw [hC.inst] at hM
  have hge : 0xD0000 ≤ cnt.addr := Nat.le_add_right_of_le (by decide)
  obtain ⟨he, hM'⟩ := h.moves (c := .iterationEnd c g o) rfl
    (State.iterationEnd_of_iterate ((State.iterate_barrier hs hp hb hf hfs o).trans ht)) (hC.trans (hM.mono (by simp)))
    (by simpa using hge)
  have hcnt : t.mirror.get cnt = min (s.get cnt + 1) 65535 := by
    rw [State.get_mirror_of_ge _ hge, State.get_of_rd _ (hM.keeps _ List.not_mem_nil), State.get_count_self _ _ (by decide : 0 + 16 ≤ 32)]
    rfl
  obtain ⟨hiter, hx, -, -, hmu, -, hsol, hfac⟩ := Inst.carry_take ((s.inst (instOf c g)).adopt f) it i
  have hbest : (((s.inst (instOf c g)).adopt f).carry it).best = none := by rw [hadopt]; exact hn
  refine ⟨_, he, ?_⟩
  rw [hM'.inst, hiter, hx, hmu, hfac, hsol, Inst.factor_adopt, hadopt]
  rw [hadopt] at hbest
  exact ⟨rfl, rfl, rfl, rfl, (Inst.take_better fun b hb => absurd (hbest.symm.trans hb) nofun).1, hs,
    hM'.others, hcnt, hM'.keeps, hM'.touch⟩
end

/-! Restarts (R166). -/

/-- R166: the instance after a restart, its start point still to be moved inside the bounds. -/
def Inst.restart (x : Inst) : Inst :=
  { (match x.best with | some i => x.startAt x.qp i.raw i.z [] | none => x.startAt x.qp x.x0 [] []) with
    badRun := 0, restarts := x.restarts + 1 }

theorem Inst.restart_y (x : Inst) : x.restart.y = List.replicate x.qp.all.length 0 := by
  have hy : ∀ v z, (x.startAt x.qp v z []).y = List.replicate x.qp.all.length 0 := fun v z => by simp [Inst.startAt]
  unfold Inst.restart
  cases x.best with
  | none => exact hy x.x0 []
  | some i => exact hy i.raw i.z

theorem State.slvRestart_eq {s : State} {k : Nat} {x : Inst} (hx : s.inst k = x) (hs : x.solving = true) (hb : 3 ≤ x.badRun)
    (hn : x.restarts < 2) : s.slvRestart k =
      (s.modInst k (fun _ => if s.barrier (clsOf k) = true then x.restart.inside x.qp else x.restart)).count
        (Fld.SLV_LASTc_RESTARTS (clsOf k)) := by
  subst hx
  unfold State.slvRestart
  refine (if_pos ⟨hs, hb, hn⟩).trans (congrArg (State.count · _) (State.modInst_congr ?_))
  unfold Inst.restart
  cases (s.inst k).best with
  | none => rfl
  | some i => rfl

/-- R166: after three ineligible iterates in a row the instance is restarted, and that is counted. -/
theorem solverRestart_effect {s : State} (h : s.Live) {c : Fin 3} {g : Fin 48} {x : Inst} (hx : s.inst (instOf c g) = x)
    (hs : x.solving = true) (hb : 3 ≤ x.badRun) (hn : x.restarts < 2) : ∃ t, exec (.solverRestart c g) s = .next t ∧
    s.Moves t (instOf c g) (if s.barrier (clsOf (instOf c g)) = true then x.restart.inside x.qp else x.restart)
      [Reg.SLV_LASTc (clsOf (instOf c g))] ∧
    t.get (Fld.SLV_LASTc_RESTARTS (clsOf (instOf c g))) = min (s.get (Fld.SLV_LASTc_RESTARTS (clsOf (instOf c g))) + 1) 65535 :=
  ⟨_, h.movesCounting rfl (Fld.SLV_LASTc_RESTARTS _) (State.slvRestart_eq hx hs hb hn) rfl ((s.moves_refl _ []).modInst _)
    (Nat.le_add_right_of_le (by decide)) (by decide : 16 + 16 ≤ 32)⟩

/-! Refreshes (R155 to R157). -/

/-- R155: the new factor waits for the iteration boundary. -/
def Inst.prepare (x : Inst) (f : Factor) : Inst := { x.putOther (some f) with refresh := none, ready := true }

theorem Inst.switch_prepare (x : Inst) (f : Factor) : (x.prepare f).switch.ready = false ∧ (x.prepare f).switch.factor = some f ∧
    ((x.prepare f).switch.slot = !x.slot) ∧ (x.prepare f).switch.refresh = x.again := by
  obtain ⟨a, b, h⟩ := x.putOther_eq (some f)
  have hp : x.prepare f = { x with slot0 := a, slot1 := b, refresh := none, ready := true } := by rw [Inst.prepare, h]
  have hf : (x.prepare f).switch.factor = (x.adopt f).factor := by rw [Inst.adopt, h, hp]; rfl
  rw [hf, x.factor_adopt f, hp]
  exact ⟨rfl, rfl, rfl, rfl⟩

section
variable {s : State} {k : Nat} {x : Inst} (hx : s.inst k = x) {m : List Vec} (hm : x.refresh = some m) {p : SlvCfg}
  (hp : s.slvCfg (clsOf k) = some p) {y : Factor}
  (hy : factorise (some s.slvBits.2) (some s.slvBits.2) p.epsPiv p.deltaPiv p.order m = y)
include hx hm hp hy

theorem State.refreshComplete_accepted (hs : y.saturated = false) (n : Nat) {f : Factor} (hf : f = { y with replaced := y.replaced + n }) :
    s.refreshComplete k n false = if x.solving = true ∧ x.factor.isSome = true then s.modInst k (·.prepare f)
      else (s.modInst k (·.prepare f)).slvActivate k := by
  subst hx hy hf
  unfold State.refreshComplete
  simp only [hm, hp]
  exact if_neg (by simp [hs])

theorem State.refreshComplete_rejected (n : Nat) {z : Bool} (hs : y.saturated = true ∨ z = true) : s.refreshComplete k n z =
    (s.modInst k (fun x => { x with rejected := true, refresh := x.again, again := none, mat := x.again.getD [] })).count
      (Fld.SLV_FACTc_REJECTED (clsOf k)) := by
  subst hx hy
  unfold State.refreshComplete
  simp only [hm, hp]
  exact if_pos hs
end

section
variable {s : State} (h : s.Live) {c : Fin 3} {g : Fin 48} {x : Inst} (hx : s.inst (instOf c g) = x)
  {m : List Vec} (hm : x.refresh = some m) {p : SlvCfg} (hp : s.slvCfg (clsOf (instOf c g)) = some p)
include h hx hm hp

section
variable {y : Factor} (hy : factorise (some s.slvBits.2) (some s.slvBits.2) p.epsPiv p.deltaPiv p.order m = y) (hs : y.saturated = false)
  (n : Nat) {f : Factor} (hf : f = { y with replaced := y.replaced + n })
include hy hs hf

theorem refreshComplete_waits (hb : x.solving = true ∧ x.factor.isSome = true) :
    ∃ t, exec (.refreshComplete c g n false) s = .next t ∧ s.Moves t (instOf c g) (x.prepare f) [] :=
  ⟨_, h.moves rfl ((State.refreshComplete_accepted hx hm hp hy hs n hf).trans (if_pos hb)) (hx ▸ (s.moves_refl _ []).modInst _)
    (by simp)⟩

theorem refreshComplete_inUse (hb : ¬ (x.solving = true ∧ x.factor.isSome = true)) :
    ∃ t, exec (.refreshComplete c g n false) s = .next t ∧
      s.Moves t (instOf c g) (x.prepare f).switch [Reg.SLV_FACTc (clsOf (instOf c g))] ∧
      t.get (Fld.SLV_FACTc_REFRESHES (clsOf (instOf c g))) =
        min (s.get (Fld.SLV_FACTc_REFRESHES (clsOf (instOf c g))) + 1) 65535 := by
  have hM : s.Moves (s.modInst (instOf c g) (·.prepare f)) (instOf c g) (x.prepare f) [] := hx ▸ (s.moves_refl _ []).modInst _
  have heq := (State.refreshComplete_accepted hx hm hp hy hs n hf).trans
    ((if_neg hb).trans (State.slvActivate_ready (congrArg Inst.ready hM.inst) (congrArg Inst.refresh hM.inst)))
  exact ⟨_, h.movesCounting rfl (Fld.SLV_FACTc_REFRESHES _) heq rfl (hM.modInst _) (Nat.le_add_right_of_le (by decide))
    (by decide : 0 + 16 ≤ 32)⟩

/-- R155: the factor of a refresh that does not saturate. -/
theorem refreshComplete_accepted : ∃ t, exec (.refreshComplete c g n false) s = .next t ∧
    (if x.solving = true ∧ x.factor.isSome = true then
      t.inst (instOf c g) = { x.putOther (some f) with refresh := none, ready := true } ∧ s.keeps t []
    else (t.inst (instOf c g)).ready = false ∧ (t.inst (instOf c g)).factor = some f ∧ ((t.inst (instOf c g)).slot = !x.slot) ∧
      (t.inst (instOf c g)).refresh = x.again ∧ s.keeps t [Reg.SLV_FACTc (clsOf (instOf c g))] ∧
      t.get (Fld.SLV_FACTc_REFRESHES (clsOf (instOf c g))) =
        min (s.get (Fld.SLV_FACTc_REFRESHES (clsOf (instOf c g))) + 1) 65535) ∧
    (∀ j, j ≠ instOf c g → t.inst j = s.inst j) ∧ State.Touch [.slv] s t := by
  by_cases hb : x.solving = true ∧ x.factor.isSome = true
  · obtain ⟨t, ht, hM⟩ := refreshComplete_waits h hx hm hp hy hs n hf hb
    refine ⟨t, ht, ?_, hM.others, hM.touch⟩
    rw [if_pos hb]
    exact ⟨hM.inst, hM.keeps⟩
  · obtain ⟨t, ht, hM, hcnt⟩ := refreshComplete_inUse h hx hm hp hy hs n hf hb
    obtain ⟨hready, hfac, hslot, href⟩ := x.switch_prepare f
    refine ⟨t, ht, ?_, hM.others, hM.touch⟩
    rw [if_neg hb, hM.inst]
    exact ⟨hready, hfac, hslot, href, hM.keeps, hcnt⟩
end

/-- R157: a factor that saturates is rejected and counted. -/
theorem refreshComplete_rejected (n : Nat) {z : Bool}
    (hs : (factorise (some s.slvBits.2) (some s.slvBits.2) p.epsPiv p.deltaPiv p.order m).saturated = true ∨ z = true) :
    ∃ t, exec (.refreshComplete c g n z) s = .next t ∧
    s.Moves t (instOf c g) { x with rejected := true, refresh := x.again, again := none, mat := x.again.getD [] }
      [Reg.SLV_FACTc (clsOf (instOf c g))] ∧
    t.get (Fld.SLV_FACTc_REJECTED (clsOf (instOf c g))) = min (s.get (Fld.SLV_FACTc_REJECTED (clsOf (instOf c g))) + 1) 255 := by
  subst hx
  exact ⟨_, h.movesCounting rfl (Fld.SLV_FACTc_REJECTED _) (State.refreshComplete_rejected rfl hm hp rfl n hs) rfl
    ((s.moves_refl _ []).modInst _) (Nat.le_add_right_of_le (by decide)) (by decide : 24 + 8 ≤ 32)⟩
end

end Sys2Proof.Machine
end

section
/-!
Solves that stop (R160, R168, R175, R176, R201), requests for refreshes and the solver's counters.  A plan is published on its channel
after the solver's registers have been written, and an output on its way writes no register below those of the ports.  Settles O47.
-/
namespace Sys2Proof.Machine

/-! The stop time (R160, R168). -/

theorem State.slvAbandon_idle {s : State} {k : Nat} (hr : (s.inst k).refresh = none) (hb : s.barrier (clsOf k) = false) :
    s.slvAbandon k = s := if_neg (by simp [hr, hb])

/-- R160: an instance whose refresh is discarded, to start again at the next solve. -/
def Inst.abandon (x : Inst) : Inst := { x with refresh := none, again := none, need := true, mat := [], abandoned := true }

theorem State.slvAbandon_refresh {s : State} {k : Nat} (hr : (s.inst k).refresh.isSome = true) :
    s.slvAbandon k = (s.modInst k Inst.abandon).count (Fld.SLV_FACTc_ABANDONED (clsOf k)) := by
  refine (if_pos (.inl hr)).trans (congrArg (State.count · _) (State.modInst_congr ?_))
  unfold Inst.abandon
  rw [hr, Bool.true_or]

theorem State.solveStop_idle {s : State} {k : Nat} (hs : (s.inst k).solving = false) (n : Nat) : s.solveStop k n = s :=
  if_pos (by rw [hs]; rfl)

/-- The stop time of MPC and ALLOC, which have one instance each. -/
theorem execSolveStopTime_single {c : Fin 3} (hc : c ≠ 2) (s : State) :
    exec (.solveStopTime c) s = .next (s.running (fun s => s.stopTime c)) := by
  have hn : ¬ c.val = 2 := fun e => hc (Fin.ext e)
  show Host.Outcome.next _ = _
  simp only [hn, if_false]
  rfl

/-- R160: with no solve under way, the stop time abandons a refresh alone. -/
theorem solveStopTime_abandons {s : State} (h : s.Live) {c : Fin 3} (hc : c ≠ 2) {x : Inst} (hx : s.inst c = x)
    (hr : x.refresh.isSome = true) (hs : x.solving = false) : ∃ t, exec (.solveStopTime c) s = .next t ∧
    s.Moves t c x.abandon [Reg.SLV_FACTc c] ∧
    t.get (Fld.SLV_FACTc_ABANDONED c) = min (s.get (Fld.SLV_FACTc_ABANDONED c) + 1) (2 ^ (Fld.SLV_FACTc_ABANDONED c).width - 1) := by
  subst hx
  have hM : s.Moves (s.modInst c Inst.abandon) c (s.inst c).abandon [] := (s.moves_refl c []).modInst _
  have hA := State.slvAbandon_refresh hr
  rw [show clsOf c = c from Nat.min_eq_left (by omega)] at hA
  have hF : s.stopTime c = (s.modInst c Inst.abandon).count (Fld.SLV_FACTc_ABANDONED c) := by
    unfold State.stopTime
    rw [hA]
    refine State.solveStop_idle ?_ 2
    rw [State.inst_count, hM.inst]
    exact hs
  exact ⟨_, h.movesCounting (execSolveStopTime_single hc s) (Fld.SLV_FACTc_ABANDONED c) hF rfl hM (Nat.le_add_right_of_le (by decide))
    (by decide : 16 + 8 ≤ 32)⟩

/-! An output on its way to a channel port (R246, R320, R343, R387): it writes no register below those of the ports. -/

/-- The registers below the blocks of the analogue, Ethernet and CAN ports read in `t` as they read in `s`. -/
def State.BelowPorts (s t : State) : Prop := ∀ a < 0x110000, t.rd a = s.rd a

theorem State.BelowPorts.of_regs {s t : State} (h : t.regs = s.regs) : s.BelowPorts t := fun a _ => State.rd_of_regs h a

theorem State.BelowPorts.refl (s : State) : s.BelowPorts s := .of_regs rfl

theorem State.BelowPorts.trans {s t u : State} (h : s.BelowPorts t) (h' : t.BelowPorts u) : s.BelowPorts u :=
  fun a ha => (h' a ha).trans (h a ha)

theorem State.BelowPorts.set {s t : State} (h : s.BelowPorts t) (f : Field) (v : Nat) (hf : 0x110000 ≤ f.addr) :
    s.BelowPorts (t.set f v) := fun a ha => (State.rd_set_ne t f v (by omega)).trans (h a ha)

theorem State.belowPorts_count (s : State) (f : Field) (hf : 0x110000 ≤ f.addr) : s.BelowPorts (s.count f) :=
  (State.BelowPorts.refl s).set f _ hf

theorem State.BelowPorts.ite {s t u : State} {c : Prop} [Decidable c] (h : s.BelowPorts t) (h' : s.BelowPorts u) :
    s.BelowPorts (if c then t else u) := by split <;> assumption

theorem State.belowPorts_each {α : Type} (s : State) (l : List α) (f : α → State → State)
    (hf : ∀ x u, State.BelowPorts u (f x u)) :
    s.BelowPorts (s.each l f) := by
  induction l generalizing s with
  | nil => exact .refl s
  | cons x l ih => exact (hf x s).trans (ih (f x s))

theorem State.belowPorts_canQueue (s : State) (n o : Nat) (x : OutItem) (fixed : Bool) : s.BelowPorts (s.canQueue n o x fixed) := by
  have hn : 0x110000 ≤ Reg.CANn_CNT1 n := Nat.le_add_right_of_le (by decide)
  exact .ite (s.belowPorts_count _ hn) (.of_regs rfl)

theorem State.belowPorts_toCan (s : State) (x : OutItem) : s.BelowPorts (s.toCan x) :=
  s.belowPorts_each _ _ fun n u => u.belowPorts_each _ _ fun o u => .ite (u.belowPorts_canQueue n o x _) (.refl u)

theorem State.belowPorts_ethQueue (s : State) (m : Bool) (f : EthFrame) : s.BelowPorts (s.ethQueue m f) :=
  .ite (.of_regs rfl) (.ite (.of_regs rfl) (s.belowPorts_count _ (by decide)))

theorem State.belowPorts_sendOutput (s : State) (m : Bool) (dest : BitVec 48) (pcp : Nat) (items : List (List Byte)) :
    s.BelowPorts (s.sendOutput m dest pcp items) := (State.BelowPorts.of_regs rfl).trans (State.belowPorts_ethQueue _ _ _)

theorem State.belowPorts_fillFrames (s : State) (m : Bool) (dest : BitVec 48) (pcp : Nat) (cur xs : List (List Byte)) :
    s.BelowPorts (s.fillFrames m dest pcp cur xs) := by
  induction xs generalizing s cur with
  | nil => exact .ite (.refl s) (s.belowPorts_sendOutput m dest pcp cur)
  | cons x xs ih => exact .ite ((s.belowPorts_sendOutput m dest pcp cur).trans (ih _ [x])) (ih s _)

theorem State.belowPorts_ethFlush (s : State) : s.BelowPorts s.ethFlush :=
  (State.BelowPorts.of_regs rfl).trans (State.belowPorts_each _ _ _ fun _ u => u.belowPorts_fillFrames _ _ _ _ _)

theorem State.belowPorts_toEth (s : State) (x : OutItem) (b : Bool) : s.BelowPorts (s.toEth x b) := by
  unfold State.toEth
  split
  · exact .refl s
  · exact .of_regs rfl

theorem State.belowPorts_aoutFeed (s : State) (x : OutItem) (n : Nat) (a : AoutCfg) : s.BelowPorts (s.aoutFeed x n a) := by
  have hd : 0x110000 ≤ Reg.AOUTn_DATA n := Nat.le_add_right_of_le (by decide)
  have hs : 0x110000 ≤ Reg.AOUTn_STAT n := Nat.le_add_right_of_le (by decide)
  have hr : ∀ y, s.BelowPorts { s with ana := y } := fun _ => .of_regs rfl
  refine .ite (.ite (((hr _).set _ _ hs).set _ _ hs) (hr _)) ?_
  have h2 := fun y v => (((hr y).set (Fld.AOUTn_DATA_CODE n) v hd).set (Fld.AOUTn_STAT_HELD_SAFE n) 0 hs)
  exact .ite ((h2 _ _).set _ _ hs) (h2 _ _)

theorem State.belowPorts_toAout (s : State) (x : OutItem) : s.BelowPorts (s.toAout x) := by
  refine s.belowPorts_each _ _ fun n u => ?_
  split
  · exact .refl u
  · exact .ite (u.belowPorts_aoutFeed x n _) (.refl u)

theorem State.belowPorts_chanSend (s : State) (x : OutItem) : s.BelowPorts (s.chanSend x) :=
  ((((State.BelowPorts.of_regs (t := s.toSubs x) rfl).trans (State.belowPorts_toCan _ x)).trans (State.belowPorts_toEth _ x _)).trans
    (State.belowPorts_toAout _ x)).trans (State.belowPorts_ethFlush _)

theorem State.belowPorts_fillSlot (s : State) (c : Chan) (frame crc : Nat) (p : List Byte) : s.BelowPorts (s.fillSlot c frame crc p) := by
  unfold State.fillSlot
  extract_lets x u
  have hu : s.BelowPorts u := .of_regs rfl
  exact .ite hu (hu.trans (u.belowPorts_chanSend x))

theorem State.belowPorts_portOutput (s : State) (c : Chan) (frame crc : Nat) (p : List Byte) :
    s.BelowPorts (s.portOutput c frame crc p) := by
  unfold State.portOutput
  refine .ite (s.belowPorts_canQueue _ _ _ _) (.ite (s.belowPorts_fillSlot _ _ _ _) ?_)
  split
  · exact .ite (.ite (.of_regs rfl) (.of_regs rfl)) (.of_regs rfl)
  · exact .of_regs rfl

theorem State.belowPorts_publishOn (s : State) (task frame : Nat) (data : List Byte) : s.BelowPorts (s.publishOn task frame data) := by
  unfold State.publishOn
  split
  · exact .refl s
  · exact .ite (s.belowPorts_portOutput _ _ _ _) (.refl s)

/-! Publication (R168, R175, R176). -/

theorem add_flagBit_mod (a : Nat) (b : Bool) {n : Nat} (hn : 3 ≤ n) : (a + flagBit b n) % 8 = a % 8 := by
  obtain ⟨m, rfl⟩ := Nat.exists_eq_add_of_le hn
  cases b
  · rfl
  · show (a + 2 ^ (3 + m)) % 8 = a % 8
    rw [Nat.pow_add]
    exact Nat.add_mul_mod_self_left a 8 _

theorem add_mul_pow_mod (a d : Nat) {n : Nat} (hn : 3 ≤ n) : (a + d * 2 ^ n) % 8 = a % 8 := by
  obtain ⟨m, rfl⟩ := Nat.exists_eq_add_of_le hn
  rw [Nat.pow_add, ← Nat.mul_assoc, Nat.mul_right_comm]
  exact Nat.add_mul_mod_self_right a _ 8

/-- Table 6-7: STOP and STALE are the low bits of the status word. -/
theorem statusWord_stop (x : Inst) (b : Bool) (stop : Nat) (stale sat domain : Bool) :
    statusWord x b stop stale sat domain % 8 = (stop + flagBit stale 2) % 8 := by
  unfold statusWord
  dsimp only
  simp (disch := decide) only [add_flagBit_mod, add_mul_pow_mod]

theorem bitsGet_ofNat_low (w n : Nat) (hn : n ≤ 32) : bitsGet (BitVec.ofNat 32 w) 0 n = w % 2 ^ n := by
  apply Nat.eq_of_testBit_eq
  intro i
  rw [bitsGet_testBit _ _ _ _ hn, Nat.testBit_mod_two_pow, BitVec.getLsbD_ofNat, Nat.zero_add]
  by_cases hi : i < n
  · simp [hi, show i < 32 by omega]
  · simp [hi]

/-- A solve that has ended. -/
def Inst.stop (x : Inst) : Inst := { x with solving := false }

/-- R176: the status word and the figures, where there are some, in the registers of a class. -/
def State.slvShow (s : State) (c word : Nat) (out : Option (Nat × Nat × Nat)) : State :=
  let u := s.wr (Reg.SLV_STATc c) (BitVec.ofNat 32 word)
  match out with
  | some (m, rp, rd) => ((u.wr (Reg.SLV_MERITc c) (BitVec.ofNat 32 m)).set (Fld.SLV_RESc_RP c) rp).set (Fld.SLV_RESc_RD c) rd
  | none => u

/-- R176: the replaced pivots and the group of a solve, which ends. -/
def State.slvClose (s : State) (k word pivots : Nat) : State :=
  let c := clsOf k
  let u := s.set (Fld.SLV_REGc_PIV_REPL c) pivots
  let u := if word / 8 % 2 = 1 then u.count (Fld.SLV_REGc_REG_SOLVES c) else u
  (u.set (Fld.SLV_LASTc_GROUP c) (k - 2)).modInst k Inst.stop

/-- The count of replaced pivots that a publication shows. -/
def Inst.pivots (x : Inst) : Nat := min 0xFFFF (match x.factor with | some f => f.replaced | none => 0)

theorem State.slvPublish_eq (s : State) (k word : Nat) (out : Option (Nat × Nat × Nat)) : s.slvPublish k word out =
    (if (s.inst k).best.isNone = true then (s.slvShow (clsOf k) word out).count (Fld.SLV_CNTc_STALE (clsOf k))
      else s.slvShow (clsOf k) word out).slvClose k word (s.inst k).pivots := rfl

theorem State.Moves.close {s t : State} {k : Nat} {x : Inst} {l : List Nat} (h : s.Moves t k x l) (word n : Nat)
    (hl : ∀ a ∈ [Reg.SLV_REGc (clsOf k), Reg.SLV_LASTc (clsOf k)], a ∈ l) : s.Moves (t.slvClose k word n) k x.stop l := by
  have hreg : Reg.SLV_REGc (clsOf k) ∈ l := hl _ (by simp)
  have hlast : Reg.SLV_LASTc (clsOf k) ∈ l := hl _ (by simp)
  have h1 : s.Moves (t.set (Fld.SLV_REGc_PIV_REPL (clsOf k)) n) k x l := h.regs rfl ((t.keeps_refl l).set _ _ hreg)
  have h2 : s.Moves (if word / 8 % 2 = 1 then (t.set (Fld.SLV_REGc_PIV_REPL (clsOf k)) n).count (Fld.SLV_REGc_REG_SOLVES (clsOf k))
      else t.set (Fld.SLV_REGc_PIV_REPL (clsOf k)) n) k x l := by
    split
    · exact h1.count _ hreg
    · exact h1
  exact (h2.regs rfl ((State.keeps_refl _ l).set _ _ hlast)).modInst _

theorem State.slvShow_keeps (s : State) (c word : Nat) {out : Option (Nat × Nat × Nat)} {l : List Nat} (hl : Reg.SLV_STATc c ∈ l)
    (ho : out ≠ none → Reg.SLV_MERITc c ∈ l ∧ Reg.SLV_RESc c ∈ l) : s.keeps (s.slvShow c word out) l := by
  unfold State.slvShow
  cases out with
  | none => exact (s.keeps_refl l).wr _ _ hl
  | some o =>
    obtain ⟨hm, hr⟩ := ho nofun
    exact ((((s.keeps_refl l).wr _ _ hl).wr _ _ hm).set _ _ hr).set _ _ hr

theorem State.slvShow_regs (s : State) (c word : Nat) (out : Option (Nat × Nat × Nat)) :
    s.slvShow c word out = { s with regs := (s.slvShow c word out).regs } := by
  cases out <;> rfl

/-- R175: a publication ends the solve of its instance, and writes the registers of its class alone. -/
theorem State.moves_slvPublish (s : State) (k word : Nat) {out : Option (Nat × Nat × Nat)} {l : List Nat}
    (hl : ∀ a ∈ [Reg.SLV_STATc (clsOf k), Reg.SLV_CNTc (clsOf k), Reg.SLV_REGc (clsOf k), Reg.SLV_LASTc (clsOf k)], a ∈ l)
    (ho : out ≠ none → Reg.SLV_MERITc (clsOf k) ∈ l ∧ Reg.SLV_RESc (clsOf k) ∈ l) :
    s.Moves (s.slvPublish k word out) k (s.inst k).stop l := by
  have hshow : s.Moves (s.slvShow (clsOf k) word out) k (s.inst k) l :=
    (s.moves_refl k l).regs (s.slvShow_regs _ _ _) (s.slvShow_keeps _ _ (hl _ (by simp)) ho)
  rw [State.slvPublish_eq]
  refine State.Moves.close ?_ _ _ (fun a ha => hl a (List.mem_append_right [Reg.SLV_STATc (clsOf k), Reg.SLV_CNTc (clsOf k)] ha))
  split
  · exact hshow.count _ (hl _ (by simp))
  · exact hshow

/-- Two registers of one class. -/
theorem slvReg_ne (c : Nat) {m n : Nat} (h : m ≠ n) : m + 0x20 * c ≠ n + 0x20 * c := fun e => h (Nat.add_right_cancel e)

/-- The end of a publication leaves the status word, the figures and the count of stale results. -/
theorem State.slvClose_keeps (s : State) (k word n : Nat) :
    s.keeps (s.slvClose k word n) [Reg.SLV_REGc (clsOf k), Reg.SLV_LASTc (clsOf k)] :=
  ((s.moves_refl k _).close word n (fun _ h => h)).keeps

section
variable (s : State) (k word : Nat) (out : Option (Nat × Nat × Nat))

theorem State.rd_slvPublish {a : Nat} (h1 : a ≠ Reg.SLV_REGc (clsOf k)) (h2 : a ≠ Reg.SLV_LASTc (clsOf k))
    (h3 : a ≠ Reg.SLV_CNTc (clsOf k)) : (s.slvPublish k word out).rd a = (s.slvShow (clsOf k) word out).rd a := by
  rw [State.slvPublish_eq, State.slvClose_keeps _ _ _ _ a (by simp [h1, h2])]
  split
  · exact State.rd_count_ne _ _ h3
  · rfl

theorem State.slvPublish_stat : (s.slvPublish k word out).rd (Reg.SLV_STATc (clsOf k)) = BitVec.ofNat 32 word := by
  rw [State.rd_slvPublish _ _ _ _ (slvReg_ne _ (by decide)) (slvReg_ne _ (by decide)) (slvReg_ne _ (by decide))]
  cases out with
  | none => exact State.rd_wr_self _ _ _
  | some o =>
    refine (State.rd_set_ne _ _ _ (slvReg_ne _ (by decide))).trans ((State.rd_set_ne _ _ _ (slvReg_ne _ (by decide))).trans ?_)
    exact (State.rd_wr_ne _ _ (slvReg_ne _ (by decide))).trans (State.rd_wr_self _ _ _)

theorem State.slvPublish_stop : (s.slvPublish k word out).get ⟨Reg.SLV_STATc (clsOf k), 0, 3⟩ = word % 8 := by
  unfold State.get
  rw [State.slvPublish_stat]
  exact bitsGet_ofNat_low word 3 (by decide)

theorem State.slvPublish_merit (o : Nat × Nat × Nat) :
    (s.slvPublish k word (some o)).rd (Reg.SLV_MERITc (clsOf k)) = BitVec.ofNat 32 o.1 := by
  rw [State.rd_slvPublish _ _ _ _ (slvReg_ne _ (by decide)) (slvReg_ne _ (by decide)) (slvReg_ne _ (by decide))]
  refine (State.rd_set_ne _ _ _ (slvReg_ne _ (by decide))).trans ((State.rd_set_ne _ _ _ (slvReg_ne _ (by decide))).trans ?_)
  exact State.rd_wr_self _ _ _

theorem State.slvPublish_stale (hb : (s.inst k).best = none) : (s.slvPublish k word none).get (Fld.SLV_CNTc_STALE (clsOf k)) =
    min (s.get (Fld.SLV_CNTc_STALE (clsOf k)) + 1) 65535 := by
  have hkeep : (s.slvShow (clsOf k) word none).get (Fld.SLV_CNTc_STALE (clsOf k)) = s.get (Fld.SLV_CNTc_STALE (clsOf k)) :=
    State.get_wr_ne _ _ _ (slvReg_ne _ (by decide))
  have hclose := State.slvClose_keeps ((s.slvShow (clsOf k) word none).count (Fld.SLV_CNTc_STALE (clsOf k))) k word (s.inst k).pivots
    (Reg.SLV_CNTc (clsOf k)) (by simp)
  rw [State.slvPublish_eq, if_pos (Option.isNone_iff_eq_none.2 hb)]
  refine (State.get_of_rd _ hclose).trans ((State.get_count_self _ _ (by decide : 0 + 16 ≤ 32)).trans ?_)
  rw [hkeep]
  rfl
end

/-! The stop time of MPC (R28, R128, R168). -/

section
variable {s : State} (hr : (s.inst 0).refresh = none) (hb : s.barrier 0 = false) (hs : (s.inst 0).solving = true)
include hr hb hs

theorem State.stopTime_mpc : s.stopTime 0 = s.mpcPublish 2 := by
  unfold State.stopTime State.solveStop
  rw [State.slvAbandon_idle hr hb, hs]
  rfl

/-- Without an eligible iterate there is no plan, and the solve is stale. -/
theorem solveStopTime_mpc_stale (h : s.Live) (hn : (s.inst 0).best = none) : ∃ t, exec (.solveStopTime 0) s = .next t ∧
    s.Moves t 0 (s.inst 0).stop [Reg.SLV_STATc 0, Reg.SLV_CNTc 0, Reg.SLV_REGc 0, Reg.SLV_LASTc 0] ∧
    t.get ⟨Reg.SLV_STATc 0, 0, 3⟩ = 3 ∧ t.get (Fld.SLV_CNTc_STALE 0) = min (s.get (Fld.SLV_CNTc_STALE 0) + 1) 65535 := by
  have hF : s.stopTime 0 = s.slvPublish 0 (statusWord (s.inst 0) (s.barrier 0) 3 false false false) none := by
    rw [State.stopTime_mpc hr hb hs]
    unfold State.mpcPublish
    simp only [hn]
  obtain ⟨he, hM⟩ := h.moves (execSolveStopTime_single (c := 0) (by decide) s) hF
    (s.moves_slvPublish 0 _ (fun _ h => h) (fun h => absurd rfl h)) (by decide)
  refine ⟨_, he, hM, ?_, ?_⟩
  · rw [State.get_mirror_of_ge _ (by decide)]
    refine (State.slvPublish_stop _ _ _ _).trans ?_
    rw [statusWord_stop]
    rfl
  · rw [State.get_mirror_of_ge _ (by decide)]
    exact State.slvPublish_stale _ _ _ hn

end

theorem State.inst_of_slv {s t : State} (h : t.slv = s.slv) (k : Nat) : t.inst k = s.inst k :=
  congrArg (fun m : Cells Inst => cellsGet ({} : Inst) m k) h

/-- Table 5-3: the plan of the period that the best iterate `i` of MPC becomes, `w` being the solver status word. -/
def State.planOf (s : State) (i : Iterate) (w : Nat) : Plan where
  t := s.ctl.periodT
  period := s.frame.period
  mode := if s.ctl.periodMode = 0 then 4 else s.ctl.periodMode
  flags := flagBit (s.ctl.periodMode = 0) 0 + flagBit (w / 8 % 2 = 1) 1 + flagBit (w / 16 % 2 = 1) 2 + flagBit (w / 32 % 2 = 1) 3
  iter := i.index % 65536
  psi0 := s.ctl.periodData.psi0
  resid := i.resid
  windX := s.ctl.periodData.windX
  windY := s.ctl.periodData.windY
  steps := planSteps ((s.inst 0).qp.physical i.x)
  lineX := s.ctl.periodData.lineX
  lineY := s.ctl.periodData.lineY
  stay := s.ctl.periodStay

/-- R128: the solve of the period ends, and its best iterate becomes the plan. -/
def State.planned (s : State) (i : Iterate) (w : Nat) : State :=
  (s.slvPublish 0 w (some i.figures)).modCtl (fun c => { c with planNew := some (s.planOf i w), periodOn := false })

section
variable (s : State) (i : Iterate) (w : Nat)

theorem State.moves_planned : s.Moves (s.slvPublish 0 w (some i.figures)) 0 (s.inst 0).stop
    [Reg.SLV_STATc 0, Reg.SLV_CNTc 0, Reg.SLV_REGc 0, Reg.SLV_LASTc 0, Reg.SLV_MERITc 0, Reg.SLV_RESc 0] :=
  s.moves_slvPublish 0 w (by decide) (fun _ => by decide)

theorem State.planned_ctl : (s.planned i w).ctl = { s.ctl with planNew := some (s.planOf i w), periodOn := false } :=
  congrArg (fun c : CtlSt => { c with planNew := some (s.planOf i w), periodOn := false }) ((s.moves_planned i w).touch .ctl (by decide))

theorem State.touch_planned : State.Touch [.ctl, .slv] s (s.planned i w) :=
  ((s.moves_planned i w).touch.mono (by decide)).modCtl _ (by decide)
end

/-- R128: the best iterate of a period under way becomes its plan, on the plan's channel. -/
theorem State.mpcPublish_planned {s : State} {i : Iterate} {g : CtlCfg} (hi : (s.inst 0).best = some i) (hp : s.ctl.periodOn = true)
    (hg : s.ctlCfg = some g) {stop w : Nat} (hw : statusWord (s.inst 0) (s.barrier 0) stop false false false = w) : s.mpcPublish stop =
      (s.planned i w).publishOn g.planChannel (s.planned i w).periodSlot (s.planOf i w).bytes := by
  have hT := (s.moves_planned i w).touch
  have hctl : (s.slvPublish 0 w (some i.figures)).ctl = s.ctl := hT .ctl (by decide)
  have hframe : (s.slvPublish 0 w (some i.figures)).frame = s.frame := hT .frame (by decide)
  have hcfg : (s.slvPublish 0 w (some i.figures)).ctlCfg = some g := (congrArg (Option.map _) (hT .cfg (by decide)).1).trans hg
  unfold State.mpcPublish
  simp only [hi, hw, hctl, hp, hcfg, hframe, Bool.not_true, Bool.false_eq_true, if_false]
  rfl

/-- R160, R168: at the stop time the best iterate of MPC becomes the plan, and its figures stand in the registers after the plan has
gone out on its channel. -/
theorem solveStopTime_mpc_plans {s : State} (h : s.Live) (hs : (s.inst 0).solving = true) (hr : (s.inst 0).refresh = none)
    (hb : s.barrier 0 = false) {i : Iterate} {g : CtlCfg} (hi : (s.inst 0).best = some i) (hp : s.ctl.periodOn = true)
    (hg : s.ctlCfg = some g) : ∃ t w, exec (.solveStopTime 0) s = .next t ∧ (t.inst 0).solving = false ∧
    t.ctl = { s.ctl with planNew := some (s.planOf i w), periodOn := false } ∧ t.get ⟨Reg.SLV_STATc 0, 0, 3⟩ = 2 ∧
    t.rd (Reg.SLV_MERITc 0) = BitVec.ofNat 32 i.resid ∧ State.Touch [.mgt, .chans, .ctl, .slv, .can, .eth, .ana, .port] s t := by
  obtain ⟨w, hw⟩ : ∃ w, statusWord (s.inst 0) (s.barrier 0) 2 false false false = w := ⟨_, rfl⟩
  let v := s.planned i w
  let t := v.publishOn g.planChannel v.periodSlot (s.planOf i w).bytes
  have hV : State.Touch [.mgt, .chans, .can, .eth, .ana, .port] v t := (State.Touch.refl _ v).publishOn _ _ _ (fun _ h => h)
  have hrd : ∀ a < 0x110000, 0xD0000 ≤ a → t.mirror.rd a = (s.slvPublish 0 w (some i.figures)).rd a := fun a ha hge =>
    (State.rd_mirror_of_ge _ hge).trans (v.belowPorts_publishOn _ _ _ a ha)
  have hinst : t.inst 0 = (s.inst 0).stop :=
    (State.inst_of_slv (hV .slv (by decide)) 0).trans (s.moves_planned i w).inst
  refine ⟨t.mirror, w, h.next (execSolveStopTime_single (c := 0) (by decide) s)
    ((State.stopTime_mpc hr hb hs).trans (State.mpcPublish_planned hi hp hg hw)), ?_, ?_, ?_, ?_, ?_⟩
  · exact congrArg Inst.solving hinst
  · exact (hV .ctl (by decide)).trans (s.planned_ctl i w)
  · refine (State.get_of_rd _ (hrd _ (by decide) (by decide))).trans ((State.slvPublish_stop s 0 w _).trans ?_)
    rw [← hw, statusWord_stop]
    rfl
  · exact (hrd _ (by decide) (by decide)).trans (State.slvPublish_merit s 0 w _)
  · exact (((s.touch_planned i w).mono (by decide)).trans (hV.mono (by decide))).mirror (by decide)

/-! The stop time of a failure group (R168, R201). -/

theorem State.cqOverall_keeps (s : State) : s.keeps s.cqOverall [Reg.CQA_STAT] :=
  (((s.keeps_refl _).set _ _ (by decide)).set _ _ (by decide)).setBit _ _ (by decide)

/-- R201: a stale group leaves the consequence status incomplete. -/
theorem State.cqOverall_incomplete {s : State} {a : AlcCfg} (ha : s.alcCfg = some a) {g : Nat} (hg : g < a.groups.length)
    (hs : s.get (Fld.CQA_GRPg_STALE g) = 1) : s.cqOverall.get Fld.CQA_STAT_INCOMPLETE = 1 := by
  have hopen : (List.range a.groups.length).any (fun g => s.get (Fld.CQA_GRPg_NEVER g) = 1 || s.get (Fld.CQA_GRPg_FLEET_OLD g) = 1 ||
      s.get (Fld.CQA_GRPg_STALE g) = 1) = true := List.any_eq_true.2 ⟨g, List.mem_range.2 hg, by simp [hs]⟩
  unfold State.cqOverall
  simp only [ha]
  rw [State.get_setBit_self _ _ _ (by decide) rfl, hopen]
  rfl

/-- R202: a group no longer runs. -/
def State.cqIdle (s : State) (g : Nat) : State := { s with alc := { s.alc with running := s.alc.running.filter (· ≠ g) } }

/-- R201, R202: a group no longer runs, and the last of `n` groups ends its round. -/
def State.cqLeave (s : State) (g n : Nat) : State :=
  if g + 1 = n then (s.cqIdle g).countWrap Fld.CQA_STAT_ROUNDS else s.cqIdle g

theorem State.cqLeave_keeps (s : State) (g n : Nat) : s.keeps (s.cqLeave g n) [Reg.CQA_STAT] := by
  have h : s.keeps (s.cqIdle g) [Reg.CQA_STAT] := State.keeps_of_regs _ rfl
  unfold State.cqLeave
  split
  · exact h.countWrap _ (by decide)
  · exact h

theorem State.touch_cqLeave (s : State) (g n : Nat) : State.Touch [.alc] s (s.cqLeave g n) := by
  have h : State.Touch [.alc] s (s.cqIdle g) := (State.Touch.refl _ s).upd_alc _ (by decide)
  exact .ite (h.countWrap _) h

theorem State.cqLeave_running (s : State) (g n : Nat) : g ∉ (s.cqLeave g n).alc.running := by
  have h : g ∉ (s.cqIdle g).alc.running := by simp [State.cqIdle]
  unfold State.cqLeave
  split
  · exact h
  · exact h

/-- R201: a group's result is marked STALE, which the consequence status follows. -/
def State.cqMarkStale (s : State) (g : Nat) : State := (s.set (Fld.CQA_GRPg_STALE g) 1).cqOverall

theorem State.touch_cqMarkStale (s : State) (g : Nat) : State.Touch [] s (s.cqMarkStale g) :=
  ((State.Touch.refl _ s).set _ _).cqOverall (by decide)

theorem State.cqMarkStale_keeps (s : State) (g : Nat) : s.keeps (s.cqMarkStale g) [Reg.CQA_STAT, Reg.CQA_GRPg g] :=
  ((s.keeps_refl _).set _ _ (by simp)).trans ((State.cqOverall_keeps _).mono (by simp))

theorem State.cqMarkStale_stale (s : State) (g : Nat) : (s.cqMarkStale g).get (Fld.CQA_GRPg_STALE g) = 1 := by
  have hne : Reg.CQA_GRPg g ≠ Reg.CQA_STAT := by simp only [Reg.CQA_GRPg, Reg.CQA_STAT]; omega
  have hkeep := State.cqOverall_keeps (s.set (Fld.CQA_GRPg_STALE g) 1) (Reg.CQA_GRPg g) (fun h => hne (List.mem_singleton.1 h))
  exact (State.get_of_rd _ hkeep).trans (State.get_set_self _ _ _ (by decide : 14 + 1 ≤ 32))

theorem State.cqMarkStale_incomplete {s : State} {a : AlcCfg} (ha : s.alcCfg = some a) {g : Nat} (hg : g < a.groups.length) :
    (s.cqMarkStale g).get Fld.CQA_STAT_INCOMPLETE = 1 :=
  State.cqOverall_incomplete (s := s.set (Fld.CQA_GRPg_STALE g) 1) ha hg (State.get_set_self _ _ _ (by decide : 14 + 1 ≤ 32))

/-- R201: a group without an eligible iterate is marked STALE. -/
theorem State.cqPublish_stale {s : State} {a : AlcCfg} (ha : s.alcCfg = some a) {g : Nat} {gc : GroupCfg} (hg : a.groups[g]? = some gc)
    (hn : (s.inst (2 + g)).best = none) (stop : Nat) : ∃ w out, s.cqPublish g stop =
      ((s.cqLeave g a.groups.length).slvPublish (2 + g) w out).cqMarkStale g := by
  refine ⟨statusWord (s.inst (2 + g)) ((s.cqLeave g a.groups.length).barrier 2) 3 true false false,
    (s.inst (2 + g)).published.map (·.figures), ?_⟩
  unfold State.cqPublish
  simp only [ha, hg, hn]
  rfl

/-- The registers that a publication of class `c` writes. -/
abbrev slvRegs (c : Nat) : List Nat :=
  [Reg.SLV_STATc c, Reg.SLV_CNTc c, Reg.SLV_REGc c, Reg.SLV_LASTc c, Reg.SLV_MERITc c, Reg.SLV_RESc c]

theorem State.moves_slvPublish_group (s : State) (g w : Nat) (out : Option (Nat × Nat × Nat)) :
    s.Moves (s.slvPublish (2 + g) w out) (2 + g) (s.inst (2 + g)).stop (slvRegs 2) := by
  have hcls : clsOf (2 + g) = 2 := Nat.min_eq_right (Nat.le_add_right 2 g)
  exact s.moves_slvPublish (2 + g) w (by rw [hcls]; decide) (fun _ => by rw [hcls]; decide)

theorem State.stopTime_group {s : State} {g : Nat} (hr : (s.inst (2 + g)).refresh = none) (hb : s.barrier 2 = false)
    (hs : (s.inst (2 + g)).solving = true) : s.stopTime (2 + g) = s.cqPublish g 2 := by
  have hcls : clsOf (2 + g) = 2 := Nat.min_eq_right (Nat.le_add_right 2 g)
  have h0 : ¬ 2 + g = 0 := by omega
  have h1 : ¬ 2 + g = 1 := by omega
  unfold State.stopTime State.solveStop
  rw [State.slvAbandon_idle hr (by rw [hcls]; exact hb), hs]
  simp only [Bool.not_true, Bool.false_eq_true, if_false, h0, h1, Nat.add_sub_cancel_left]

/-- R201: a group whose time comes before it has an iterate leaves the running ones and is marked. -/
theorem conseqGroupTime_stale {s : State} (h : s.Live) {g : Fin 48} {a : AlcCfg} (ha : s.alcCfg = some a) {gc : GroupCfg}
    (hg : a.groups[g.val]? = some gc) (hs : (s.inst (2 + g)).solving = true) (hr : (s.inst (2 + g)).refresh = none)
    (hb : s.barrier 2 = false) (hn : (s.inst (2 + g)).best = none) : ∃ t, exec (.conseqGroupTime g) s = .next t ∧
    t.inst (2 + g) = (s.inst (2 + g)).stop ∧ t.get (Fld.CQA_GRPg_STALE g) = 1 ∧ g.val ∉ t.alc.running ∧
    t.get Fld.CQA_STAT_INCOMPLETE = 1 ∧ s.keeps t (slvRegs 2 ++ [Reg.CQA_STAT, Reg.CQA_GRPg g]) ∧ State.Touch [.slv, .alc] s t := by
  obtain ⟨w, out, hF⟩ := State.cqPublish_stale ha hg hn 2
  have hu := s.touch_cqLeave g a.groups.length
  have hrun := s.cqLeave_running g a.groups.length
  have hku := s.cqLeave_keeps g a.groups.length
  have hP := (s.cqLeave g a.groups.length).moves_slvPublish_group g w out
  generalize (s.cqLeave g a.groups.length).slvPublish (2 + g) w out = v at hF hP
  generalize s.cqLeave g a.groups.length = u at hu hrun hku hP
  have hT : State.Touch [.slv, .alc] s v := (hu.mono (by decide)).trans (hP.touch.mono (by decide))
  have hV := v.touch_cqMarkStale g
  have hcfg : v.alcCfg = some a := (congrArg (Option.map _) (hT .cfg (by decide)).1).trans ha
  have hk : s.keeps (v.cqMarkStale g) (slvRegs 2 ++ [Reg.CQA_STAT, Reg.CQA_GRPg g]) :=
    ((hku.mono (by simp)).trans (hP.keeps.mono fun _ => List.mem_append_left _)).trans
      ((v.cqMarkStale_keeps g).mono fun _ => List.mem_append_right _)
  have hgrp : 0xD0000 ≤ Reg.CQA_GRPg g := Nat.le_add_right_of_le (by decide)
  have hge : ∀ a ∈ slvRegs 2 ++ [Reg.CQA_STAT, Reg.CQA_GRPg g], 0xD0000 ≤ a := by
    rw [List.forall_mem_append]
    exact ⟨by decide, List.forall_mem_cons.2 ⟨by decide, List.forall_mem_singleton.2 hgrp⟩⟩
  obtain ⟨he, hk', hT'⟩ := h.ends (c := .conseqGroupTime g) rfl ((State.stopTime_group hr hb hs).trans hF) hk
    (hT.trans (hV.mono (by simp))) (by decide) (unmirrored_of_ge hge)
  have hV' : State.Touch [] v (v.cqMarkStale g).mirror := hV.mirror (by decide)
  refine ⟨_, he, ?_, ?_, ?_, ?_, hk', hT'⟩
  · rw [State.inst_of_slv (hV' .slv (by decide)), hP.inst, State.inst_of_slv (hu .slv (by decide))]
  · rw [State.get_mirror_of_ge _ hgrp, v.cqMarkStale_stale g]
  · have halc : (v.cqMarkStale g).mirror.alc = v.alc := hV' .alc (by decide)
    rw [halc, show v.alc = u.alc from hP.touch .alc (by decide)]
    exact hrun
  · rw [State.get_mirror_of_ge _ (by decide), State.cqMarkStale_incomplete hcfg (List.getElem?_eq_some_iff.1 hg).1]

/-! Refreshes on request (R158, R176). -/

/-- A refresh of an instance is asked for, or not. -/
def Inst.ask (x : Inst) (b : Bool) : Inst := { x with need := x.need || b }

theorem Inst.ask_false (x : Inst) : x.ask false = x := by simp [Inst.ask]

theorem Inst.ask_ask (x : Inst) (a b : Bool) : (x.ask a).ask b = x.ask (a || b) := by simp [Inst.ask, Bool.or_assoc]

/-- Steps of which each may ask for a refresh of an instance. -/
theorem State.inst_each_ask {f : Nat → State → State} {k : Nat} {P : Nat → Bool} (hf : ∀ c u, (f c u).inst k = (u.inst k).ask (P c))
    (l : List Nat) (s : State) : (s.each l f).inst k = (s.inst k).ask (l.any P) := by
  induction l generalizing s with
  | nil => exact (Inst.ask_false _).symm
  | cons c l ih => rw [State.each_cons, ih, hf, Inst.ask_ask, List.any_cons]

/-- R176: the instances of a class. -/
theorem State.inst_slvRefreshClass {k : Nat} (hk : k < 50) (c : Nat) (s : State) :
    (s.slvRefreshClass c).inst k = (s.inst k).ask (decide (clsOf k = c)) := by
  have hstep : ∀ j (u : State), (u.modInst j (fun x => { x with need := true })).inst k = (u.inst k).ask (decide (j = k)) := fun j u => by
    by_cases hj : j = k
    · subst hj
      refine ((u.moves_refl j []).modInst _).inst.trans ?_
      simp [Inst.ask]
    · rw [((u.moves_refl j []).modInst _).others k (Ne.symm hj), decide_eq_false hj, Inst.ask_false]
  refine (State.inst_each_ask hstep _ s).trans (congrArg (Inst.ask _) (Bool.eq_iff_iff.2 ?_))
  rw [List.any_eq_true, decide_eq_true_iff, clsOf]
  simp only [decide_eq_true_iff, exists_eq_right]
  split
  · rw [List.mem_singleton]
    omega
  · split
    · simp only [List.mem_map, List.mem_range]
      exact ⟨by rintro ⟨j, _, rfl⟩; omega, fun h => ⟨k - 2, by omega, by omega⟩⟩
    · simp only [List.not_mem_nil, false_iff]
      omega

/-- R176: a refresh is asked for in the instances of the classes that the mask names, and in no other. -/
theorem slvRefresh_asks {s : State} (h : s.Live) (m : Fin 16) : ∃ t, exec (.slvRefresh m) s = .next t ∧
    (∀ k < 50, t.inst k = (s.inst k).ask (m.val.testBit (clsOf k))) ∧ s.keeps t [] ∧ State.Touch [.slv] s t := by
  let l := (List.range 4).filter fun c => m.val.testBit c
  have hT : State.Touch [.slv] s (s.each l fun c s => s.slvRefreshClass c) :=
    (State.Touch.refl _ s).each _ _ fun c u hu => hu.slvRefreshClass c (fun _ h => h)
  have hk : s.keeps (s.each l fun c s => s.slvRefreshClass c) [] :=
    (s.keeps_refl _).each _ _ fun c u hu => hu.each _ _ fun j v hv => hv.of_regs rfl
  obtain ⟨he, hk', hT'⟩ := h.ends (c := .slvRefresh m) rfl rfl hk hT (by decide) (by simp)
  refine ⟨_, he, fun k hk => ?_, hk', hT'⟩
  refine (State.inst_each_ask (fun c u => u.inst_slvRefreshClass hk c) l s).trans (congrArg (Inst.ask _) (Bool.eq_iff_iff.2 ?_))
  have hcls : clsOf k < 4 := by unfold clsOf; omega
  simp [l, hcls]

/-! The counters (R176). -/

/-- The counts of a class are cleared. -/
def State.slvClear (s : State) (c : Nat) : State :=
  (((s.wr (Reg.SLV_FACTc c) 0).set (Fld.SLV_REGc_REG_SOLVES c) 0).wr (Reg.SLV_CNTc c) 0).set (Fld.SLV_LASTc_RESTARTS c) 0

theorem State.slvCntClr_eq (s : State) : s.slvCntClr = s.each (List.range 4) (fun c s => s.slvClear c) := rfl

/-- The registers that hold the counts of a class. -/
abbrev slvCntRegs (c : Nat) : List Nat := [Reg.SLV_FACTc c, Reg.SLV_CNTc c, Reg.SLV_REGc c, Reg.SLV_LASTc c]

theorem State.slvClear_keeps (s : State) (c : Nat) : s.keeps (s.slvClear c) (slvCntRegs c) :=
  ((((s.keeps_refl _).wr _ _ (by simp)).set _ _ (by simp)).wr _ _ (by simp)).set _ _ (by simp)

/-- In `t` the counts of class `c` are 0, and what stands beside them reads as in `s`. -/
structure State.Cleared (s t : State) (c : Nat) : Prop where
  fact : t.rd (Reg.SLV_FACTc c) = 0
  cnt : t.rd (Reg.SLV_CNTc c) = 0
  solves : t.get (Fld.SLV_REGc_REG_SOLVES c) = 0
  restarts : t.get (Fld.SLV_LASTc_RESTARTS c) = 0
  pivots : t.get (Fld.SLV_REGc_PIV_REPL c) = s.get (Fld.SLV_REGc_PIV_REPL c)
  group : t.get (Fld.SLV_LASTc_GROUP c) = s.get (Fld.SLV_LASTc_GROUP c)

/-- Registers of two classes. -/
theorem slvReg_ne_class {c d m n : Nat} (h : d ≠ c) (hm : 0xD0100 ≤ m ∧ m < 0xD0120) (hn : 0xD0100 ≤ n ∧ n < 0xD0120) :
    m + 0x20 * c ≠ n + 0x20 * d := by omega

theorem State.rd_slvClear_ne (s : State) {c d m : Nat} (h : d ≠ c) (hm : 0xD0100 ≤ m ∧ m < 0xD0120) :
    (s.slvClear d).rd (m + 0x20 * c) = s.rd (m + 0x20 * c) := by
  refine s.slvClear_keeps d _ fun hmem => ?_
  simp only [List.mem_cons, List.not_mem_nil, or_false] at hmem
  obtain he | he | he | he := hmem
  · exact slvReg_ne_class h hm (by decide) he
  · exact slvReg_ne_class h hm (by decide) he
  · exact slvReg_ne_class h hm (by decide) he
  · exact slvReg_ne_class h hm (by decide) he

theorem State.cleared_slvClear (s : State) (c : Nat) : s.Cleared (s.slvClear c) c where
  fact := by
    unfold State.slvClear
    rw [State.rd_set_ne _ _ _ (slvReg_ne c (by decide)), State.rd_wr_ne _ _ (slvReg_ne c (by decide)),
      State.rd_set_ne _ _ _ (slvReg_ne c (by decide)), State.rd_wr_self]
  cnt := by
    unfold State.slvClear
    rw [State.rd_set_ne _ _ _ (slvReg_ne c (by decide)), State.rd_wr_self]
  solves := by
    unfold State.slvClear
    rw [State.get_set_ne _ _ _ _ (slvReg_ne c (by decide)), State.get_wr_ne _ _ _ (slvReg_ne c (by decide)),
      State.get_set_self _ _ _ (by decide : 16 + 16 ≤ 32)]
    rfl
  restarts := by
    unfold State.slvClear
    rw [State.get_set_self _ _ _ (by decide : 16 + 16 ≤ 32)]
    rfl
  pivots := by
    unfold State.slvClear
    rw [State.get_set_ne _ _ _ _ (slvReg_ne c (by decide)), State.get_wr_ne _ _ _ (slvReg_ne c (by decide)),
      State.get_set_disjoint _ _ _ _ (by decide : 16 + 16 ≤ 32) (by decide : 16 ≤ 32) (.inr (by decide : 0 + 16 ≤ 16)),
      State.get_wr_ne _ _ _ (slvReg_ne c (by decide))]
  group := by
    unfold State.slvClear
    rw [State.get_set_disjoint _ _ _ _ (by decide : 16 + 16 ≤ 32) (by decide : 6 ≤ 32) (.inr (by decide : 0 + 6 ≤ 16)),
      State.get_wr_ne _ _ _ (slvReg_ne c (by decide)), State.get_set_ne _ _ _ _ (slvReg_ne c (by decide)),
      State.get_wr_ne _ _ _ (slvReg_ne c (by decide))]

/-- Registers of the class that read the same in another pair of states. -/
theorem State.Cleared.congr {s t s' t' : State} {c : Nat} (h : s.Cleared t c)
    (hs : ∀ m, 0xD0100 ≤ m ∧ m < 0xD0120 → s'.rd (m + 0x20 * c) = s.rd (m + 0x20 * c))
    (ht : ∀ m, 0xD0100 ≤ m ∧ m < 0xD0120 → t'.rd (m + 0x20 * c) = t.rd (m + 0x20 * c)) : s'.Cleared t' c where
  fact := (ht _ (by decide)).trans h.fact
  cnt := (ht _ (by decide)).trans h.cnt
  solves := (State.get_of_rd _ (ht _ (by decide))).trans h.solves
  restarts := (State.get_of_rd _ (ht _ (by decide))).trans h.restarts
  pivots := (State.get_of_rd _ (ht _ (by decide))).trans (h.pivots.trans (State.get_of_rd _ (hs _ (by decide))).symm)
  group := (State.get_of_rd _ (ht _ (by decide))).trans (h.group.trans (State.get_of_rd _ (hs _ (by decide))).symm)

theorem State.rd_each_slvClear_ne {l : List Nat} {c m : Nat} (hc : c ∉ l) (hm : 0xD0100 ≤ m ∧ m < 0xD0120) (s : State) :
    (s.each l fun c s => s.slvClear c).rd (m + 0x20 * c) = s.rd (m + 0x20 * c) := by
  induction l generalizing s with
  | nil => rfl
  | cons d l ih =>
    exact (ih (List.not_mem_of_not_mem_cons hc) _).trans (s.rd_slvClear_ne (Ne.symm (List.ne_of_not_mem_cons hc)) hm)

/-- Classes cleared one after another, each once. -/
theorem State.cleared_each {l : List Nat} (hl : l.Nodup) {c : Nat} (hc : c ∈ l) (s : State) :
    s.Cleared (s.each l fun c s => s.slvClear c) c := by
  induction l generalizing s with
  | nil => exact absurd hc List.not_mem_nil
  | cons d l ih =>
    obtain ⟨hd, hl⟩ := List.nodup_cons.1 hl
    rw [State.each_cons]
    by_cases hcd : c = d
    · subst hcd
      exact (s.cleared_slvClear c).congr (fun _ _ => rfl) fun m hm => State.rd_each_slvClear_ne hd hm _
    · exact (ih hl ((List.mem_cons.1 hc).resolve_left hcd) _).congr (fun m hm => (s.rd_slvClear_ne (Ne.symm hcd) hm).symm) fun _ _ => rfl

theorem State.keeps_each_slvClear (l : List Nat) (s : State) : s.keeps (s.each l fun c s => s.slvClear c) (l.flatMap slvCntRegs) := by
  induction l generalizing s with
  | nil => exact s.keeps_refl _
  | cons d l ih =>
    rw [State.each_cons, List.flatMap_cons]
    exact ((s.slvClear_keeps d).mono fun _ => List.mem_append_left _).trans ((ih _).mono fun _ => List.mem_append_right _)

theorem State.rest_each_slvClear (l : List Nat) (s : State) : (s.each l fun c s => s.slvClear c).rest = s.rest := by
  induction l generalizing s with
  | nil => rfl
  | cons d l ih => exact (ih _).trans rfl

/-- R176: the counts of the four classes are cleared, and nothing but registers changes. -/
theorem slvCntClr_clears {s : State} (h : s.Live) : ∃ t, exec .slvCntClr s = .next t ∧ (∀ c < 4, s.Cleared t c) ∧
    s.keeps t ((List.range 4).flatMap slvCntRegs) ∧ t.rest = s.rest := by
  have hT : State.Touch [] s (s.each (List.range 4) fun c s => s.slvClear c) := (State.Touch.refl _ s).slvCntClr (by decide)
  obtain ⟨he, hk', -⟩ := h.ends (c := .slvCntClr) rfl s.slvCntClr_eq (State.keeps_each_slvClear _ s) hT (by decide) (by decide)
  refine ⟨_, he, fun c hc => ?_, hk',
    (State.mirror_rest _).trans (State.rest_each_slvClear _ s)⟩
  exact (s.cleared_each List.nodup_range (List.mem_range.2 hc)).congr (fun _ _ => rfl)
    fun m hm => State.rd_mirror_of_ge _ (by omega)

/-! The statement. -/

/-- Settles O47: an iteration moves one instance and judges its iterate (`State.Moves`, `Inst.take`); the other commands change one
thing each, and a publication is followed through its stages. -/
theorem solvesIterateRestartAndStop : Obligations.SolvesIterateRestartAndStop := by
  unfold Obligations.SolvesIterateRestartAndStop
  refine ⟨fun s c g o p f h hs hp hb hf hr hi hm hl => ?_, fun s c g o p f h hs hp hb hf hr hi hl => ?_,
    fun s c g o p h hs hp hb hf hr hi hm hl hn => ?_, fun s c g h hs hb hn => ?_, fun s c g n m p h hm hp hf => ?_,
    fun s c g n z m p h hm hp hf => ?_, fun s c h hc hr hs => ?_, fun s h hs hr hb hn => ?_, fun s i g h hs hr hb hi hp hg => ?_,
    fun s g a gc h ha hg _ hs hr hb hn => ?_, fun s m h => slvRefresh_asks h m, fun s h => ?_⟩
  · exact iterationEnd_eligible h rfl hs hp hr hb hf rfl rfl hi hm hl
  · obtain ⟨t, ht, hM, hcnt⟩ := iterationEnd_ineligible h rfl hs hp hr hb hf rfl rfl hi hl
    exact ⟨t, ht, hM.inst, hM.others, hcnt, hM.keeps, hM.touch⟩
  · exact iterationEnd_barrier h rfl hs hp hr hb rfl hf rfl rfl hi hm hl hn
  · obtain ⟨t, ht, hM, hcnt⟩ := solverRestart_effect h rfl hs hb hn
    exact ⟨t, ht, hM.inst, Inst.restart_y _, hM.others, hcnt, hM.keeps, hM.touch⟩
  · exact refreshComplete_accepted h rfl hm hp rfl hf n rfl
  · obtain ⟨t, ht, hM, hcnt⟩ := refreshComplete_rejected h rfl hm hp n hf
    exact ⟨t, ht, hM.inst, hM.others, hcnt, hM.keeps, hM.touch⟩
  · obtain ⟨t, ht, hM, hcnt⟩ := solveStopTime_abandons h hc rfl hr hs
    exact ⟨t, ht, hM.inst, hM.others, hcnt, hM.keeps, hM.touch⟩
  · obtain ⟨t, ht, hM, hstop, hcnt⟩ := solveStopTime_mpc_stale hr hb hs h hn
    exact ⟨t, ht, hM.inst, hstop, hcnt, hM.keeps, hM.touch⟩
  · obtain ⟨t, w, ht, hsol, hctl, hstop, hmerit, hT⟩ := solveStopTime_mpc_plans h hs hr hb hi hp hg
    exact ⟨t, s.planOf i w, ht, hsol, hctl, rfl, rfl, rfl, rfl, rfl, by simp [State.planOf, planSteps], hstop, hmerit, hT⟩
  · exact conseqGroupTime_stale h ha hg hs hr hb hn
  · obtain ⟨t, ht, hC, hk, hrest⟩ := slvCntClr_clears h
    exact ⟨t, ht, fun c hc => ⟨(hC c hc).fact, (hC c hc).cnt, (hC c hc).solves, (hC c hc).restarts, (hC c hc).pivots,
      (hC c hc).group⟩, hk, hrest⟩

end Sys2Proof.Machine
end

section
/-!
Thrusters and failure groups (R191, R201, R202, R204, R330, R452): what a drive's report and its silence do to a thruster, what
ALC_ENABLE sets, and how a group's solve starts and its result grows old.  Settles O48.
-/
namespace Sys2Proof.Machine

/-! One thruster that changes. -/

/-- From `s` to `t` thruster `i` has become `x`; the other thrusters, the rest of the allocation and the registers are as they were. -/
structure State.MovesThr (s t : State) (i : Nat) (x : ThrSt) : Prop where
  thr : t.thr i = x
  others : ∀ j, j ≠ i → t.thr j = s.thr j
  alc : t.alc = { s.alc with thr := t.alc.thr }
  regs : t.regs = s.regs

theorem State.thr_of_alc {s t : State} (h : t.alc = s.alc) (j : Nat) : t.thr j = s.thr j := by
  unfold State.thr
  rw [h]

theorem State.movesThr_modThr (s : State) (i : Nat) (f : ThrSt → ThrSt) : s.MovesThr (s.modThr i f) i (f (s.thr i)) where
  thr := (s.thr_modThr i i f).trans (if_pos rfl)
  others j hj := (s.thr_modThr i j f).trans (if_neg hj)
  alc := rfl
  regs := rfl

theorem State.MovesThr.trans {s t u : State} {i : Nat} {x y : ThrSt} (h : s.MovesThr t i x) (h' : t.MovesThr u i y) :
    s.MovesThr u i y where
  thr := h'.thr
  others j hj := (h'.others j hj).trans (h.others j hj)
  alc := by rw [h'.alc, h.alc]
  regs := h'.regs.trans h.regs

/-- R38: the zero command that replaces a waiting one changes no thruster. -/
theorem State.MovesThr.zeroStaged {s t : State} {i : Nat} {x : ThrSt} (h : s.MovesThr t i x) (k : Nat) :
    s.MovesThr (t.zeroStaged k) i x := by
  obtain ⟨hregs, -, -, halc⟩ := t.zeroStaged_rest k
  have e := State.thr_of_alc halc
  exact ⟨(e i).trans h.thr, fun j hj => (e j).trans (h.others j hj), by rw [halc]; exact h.alc, hregs.trans h.regs⟩

/-- R191: a thruster that is removed for a reason of Table 7-3. -/
def ThrSt.removeFor (t : ThrSt) (reason : Nat) (en : Bool) : ThrSt :=
  { t with reasons := t.reasons ||| BitVec.ofNat 8 (2 ^ reason), cleared := t.cleared &&& ~~~(BitVec.ofNat 8 (2 ^ reason)), enabled := en }

theorem State.movesThr_thrRemove {s : State} {i : Nat} (hi : i < s.thrCount) (reason : Nat) (start : Bool) :
    ∃ en, s.MovesThr (s.thrRemove i reason start) i ((s.thr i).removeFor reason en) := by
  unfold State.thrRemove
  rw [if_neg (Nat.not_le.2 hi)]
  exact ⟨_, (s.movesThr_modThr i fun t => t.removeFor reason _).zeroStaged i⟩

/-! Drives (R191, R330). -/

theorem length_dropFirstOf {i : Nat} {l : List (Nat × List Byte)} {x : Nat × List Byte}
    (h : l.find? (fun x => decide (x.1 = i)) = some x) : (State.driveFeedback.dropFirstOf i l).length + 1 = l.length := by
  induction l with
  | nil => exact nomatch h
  | cons y l ih =>
    unfold State.driveFeedback.dropFirstOf
    by_cases hy : y.1 = i
    · rw [if_pos hy, List.length_cons]
    · rw [List.find?_cons_of_neg (by simpa using hy)] at h
      rw [if_neg hy, List.length_cons, List.length_cons, ih h]

/-- R330: a feedback as its payload reports it: the thrust where STATUS says that it is measured, the azimuth, and STATUS. -/
def ThrSt.reported (t : ThrSt) (b : List Byte) : Int × Nat × Byte :=
  (if (b.getD 16 0).getLsbD 4 then toSigned 32 (leNat ((b.drop 8).take 4)) else t.thrust, leNat ((b.drop 12).take 2), b.getD 16 0)

/-- R330: a thruster whose drive has reported. -/
def ThrSt.hear (t : ThrSt) (b : List Byte) (now : Nat) : ThrSt := { t with fb := some (t.reported b), fbAt := some now }

/-- R328: the oldest feedback of a drive leaves the inbox. -/
def State.takeFeedback (s : State) (i : Nat) : State :=
  { s with alc := { s.alc with inbox := State.driveFeedback.dropFirstOf i s.alc.inbox } }

/-- Table 7-3: STATUS reports FAULT or LOCAL. -/
def driveOut (b : List Byte) : Bool := (b.getD 16 0).getLsbD 0 || (b.getD 16 0).getLsbD 2

/-- R330: a report either leaves the thruster's reasons alone, or removes it for FAULT or LOCAL where it is not removed for that yet. -/
theorem State.driveFeedback_eq {s : State} {i : Nat} {x : Nat × List Byte}
    (hx : s.alc.inbox.find? (fun x => decide (x.1 = i)) = some x) : s.driveFeedback i =
    let u := (s.takeFeedback i).modThr i (fun t => t.hear x.2 s.now)
    if driveOut x.2 && !((u.thr i).reasons.getLsbD 2 && !(u.thr i).cleared.getLsbD 2) then u.thrRemove i 2 false else u := by
  unfold State.driveFeedback
  rw [hx]
  rfl

/-- What a report leaves of the thruster. -/
structure ThrSt.Hears (t u : ThrSt) (b : List Byte) : Prop where
  fb : u.fb = some (t.reported b)
  out : driveOut b = true → u.reasons.getLsbD 2 = true
  fine : driveOut b = false → u.reasons = t.reasons

theorem State.driveFeedback_hears {s : State} {i : Nat} (hi : i < s.thrCount) {x : Nat × List Byte}
    (hx : s.alc.inbox.find? (fun x => decide (x.1 = i)) = some x) :
    ∃ y, (s.takeFeedback i).MovesThr (s.driveFeedback i) i y ∧ (s.thr i).Hears y x.2 := by
  have hM := (s.takeFeedback i).movesThr_modThr i fun t => t.hear x.2 s.now
  have hcount : i < ((s.takeFeedback i).modThr i fun t => t.hear x.2 s.now).thrCount := hi
  rw [State.driveFeedback_eq hx]
  generalize (s.takeFeedback i).modThr i (fun t => t.hear x.2 s.now) = u at hM hcount
  obtain ⟨en, hR⟩ := State.movesThr_thrRemove hcount 2 false
  have hthr : u.thr i = (s.thr i).hear x.2 s.now := hM.thr
  dsimp only
  split_ifs with hnew
  · rw [Bool.and_eq_true] at hnew
    refine ⟨_, hM.trans hR, ⟨congrArg ThrSt.fb hthr, fun _ => ?_, fun hf => absurd (hnew.1.symm.trans hf) (by decide)⟩⟩
    rw [ThrSt.removeFor, BitVec.getLsbD_or]
    exact Bool.or_true _
  · refine ⟨_, hM, ⟨rfl, fun ho => ?_, fun _ => rfl⟩⟩
    rw [ho, Bool.true_and, Bool.not_eq_true', Bool.not_eq_false, Bool.and_eq_true, hthr] at hnew
    exact hnew.1

theorem driveFeedback_effect {s : State} (h : s.Live) {i : Fin 32} (hi : i.val < s.thrCount) {x : Nat × List Byte}
    (hx : s.alc.inbox.find? (fun x => decide (x.1 = i.val)) = some x) : ∃ t, exec (.driveFeedback i) s = .next t ∧
    t.alc.inbox.length + 1 = s.alc.inbox.length ∧ (s.thr i).Hears (t.thr i) x.2 ∧ (∀ j, j ≠ i.val → t.thr j = s.thr j) ∧
    s.keeps t [] ∧ State.Touch [.chans, .alc] s t := by
  obtain ⟨y, hM, hy⟩ := State.driveFeedback_hears hi hx
  obtain ⟨he, hk, hT⟩ := h.ends (c := .driveFeedback i) (p := [.chans, .alc]) rfl rfl (State.keeps_of_regs [] hM.regs)
    ((State.Touch.refl _ s).driveFeedback i (by decide)) (by decide) (by decide)
  refine ⟨_, he, ?_, hM.thr ▸ hy, hM.others, hk, hT⟩
  have hinbox := congrArg AlcSt.inbox hM.alc
  exact (congrArg (fun l : List (Nat × List Byte) => l.length + 1) hinbox).trans (length_dropFirstOf hx)

theorem driveTimeout_effect {s : State} (h : s.Live) {i : Fin 32} (hi : i.val < s.thrCount) : ∃ t,
    exec (.driveTimeout i) s = .next t ∧ (t.thr i).fb = none ∧ (t.thr i).reasons = (s.thr i).reasons ||| 8 ∧
    (∀ j, j ≠ i.val → t.thr j = s.thr j) ∧ s.keeps t [] ∧ State.Touch [.chans, .alc] s t := by
  have hS := s.movesThr_modThr i fun t => { t with fb := none }
  obtain ⟨en, hR⟩ := State.movesThr_thrRemove (s := s.modThr i fun t => { t with fb := none }) hi 3 false
  have hM := hS.trans hR
  rw [hS.thr] at hM
  obtain ⟨he, hk, hT⟩ := h.ends (c := .driveTimeout i) (p := [.chans, .alc]) rfl (if_pos hi) (State.keeps_of_regs [] hM.regs)
    (.thrRemove (.modThr (.refl _ s) i _ (by decide)) i 3 false (by decide)) (by decide) (by decide)
  exact ⟨_, he, congrArg ThrSt.fb hM.thr, congrArg ThrSt.reasons hM.thr, hM.others, hk, hT⟩

/-! Causes that have gone (Table 7-3). -/

/-- Table 7-3: the own condition of a timed reason has cleared: the drive reports neither FAULT nor LOCAL, it reports at all, or the
thruster is deployed. -/
def State.causeGone (s : State) (i : Nat) (k : Fin 8) : Prop :=
  (k = 2 ∧ ∃ x y z, (s.thr i).fb = some (x, y, z) ∧ z.getLsbD 0 = false ∧ z.getLsbD 2 = false) ∨
    (k = 3 ∧ (s.thr i).fb.isSome = true) ∨ (k = 5 ∧ ∃ c, s.thrCfg i = some c ∧ ∀ d, c.deployed = some d → s.dinLevel d = true)

theorem State.readmitMet_eq {s : State} {i : Nat} {k : Fin 8} (hg : s.causeGone i k) : s.readmitMet i k = s.thrClear i k := by
  unfold State.readmitMet
  obtain ⟨rfl, x, y, z, hfb, h0, h2⟩ | ⟨rfl, hfb⟩ | ⟨rfl, c, hc, hd⟩ := hg
  · simp [hfb, h0, h2, -BitVec.getLsbD_eq_getElem]
  · obtain ⟨f, hf⟩ := Option.isSome_iff_exists.1 hfb
    simp [hf]
  · cases hdep : c.deployed with
    | none => simp [hc, hdep]
    | some d => simp [hc, hdep, hd d hdep]

theorem readmitConditionMet_effect {s : State} (h : s.Live) {i : Fin 32} {k : Fin 8} (hr : (s.thr i).reasons.getLsbD k = true)
    (hg : s.causeGone i k) : ∃ t, exec (.readmitConditionMet i k) s = .next t ∧
    t.thr i = { s.thr i with cleared := (s.thr i).cleared ||| BitVec.ofNat 8 (2 ^ k.val) } ∧
    (∀ j, j ≠ i.val → t.thr j = s.thr j) ∧ s.keeps t [] ∧ State.Touch [.alc] s t := by
  have hM := s.movesThr_modThr i fun t => { t with cleared := t.cleared ||| BitVec.ofNat 8 (2 ^ k.val) }
  obtain ⟨he, hk, hT⟩ := h.ends (c := .readmitConditionMet i k) (p := [.alc]) rfl ((State.readmitMet_eq hg).trans (if_pos hr))
    (State.keeps_of_regs [] hM.regs) ((State.Touch.refl _ s).modThr i _ (by decide)) (by decide) (by decide)
  exact ⟨_, he, hM.thr, hM.others, hk, hT⟩

/-! ALC_ENABLE (R191, R204, R452). -/

/-- R191: a set bit counts for every reason that asks for one. -/
def State.enableBy (s : State) (v : Word) (i : Nat) : State :=
  if v.getLsbD i then s.modThr i (fun t => { t with enabled := true }) else s

theorem State.alcEnableSet_eq (s : State) (v : Word) :
    s.alcEnableSet v = (s.wr Reg.ALC_ENABLE v).each (List.range s.thrCount) fun i s => s.enableBy v i := rfl

theorem State.enableBy_regs (s : State) (v : Word) (i : Nat) : (s.enableBy v i).regs = s.regs := by
  unfold State.enableBy
  split <;> rfl

theorem State.enableBy_enabled (s : State) (v : Word) (i j : Nat) :
    ((s.enableBy v i).thr j).enabled = ((s.thr j).enabled || (decide (j = i) && v.getLsbD j)) := by
  unfold State.enableBy
  by_cases hj : j = i
  · subst hj
    cases hv : v.getLsbD j with
    | true => simp [State.thr_modThr]
    | false => simp
  · split
    · rw [State.thr_modThr, if_neg hj, decide_eq_false hj, Bool.false_and, Bool.or_false]
    · rw [decide_eq_false hj, Bool.false_and, Bool.or_false]

theorem State.each_enableBy_enabled (v : Word) (j : Nat) (l : List Nat) (s : State) :
    ((s.each l fun i s => s.enableBy v i).thr j).enabled = ((s.thr j).enabled || (decide (j ∈ l) && v.getLsbD j)) := by
  induction l generalizing s with
  | nil => simp [State.each_nil]
  | cons i l ih =>
    rw [State.each_cons, ih, State.enableBy_enabled, Bool.or_assoc, ← Bool.and_or_distrib_right, ← Bool.decide_or]
    simp only [List.mem_cons]

theorem State.alcEnableSet_enabled (s : State) (v : Word) {i : Nat} (hi : i < s.thrCount) :
    ((s.alcEnableSet v).thr i).enabled = ((s.thr i).enabled || v.getLsbD i) := by
  rw [State.alcEnableSet_eq, State.each_enableBy_enabled, decide_eq_true (List.mem_range.2 hi), Bool.true_and]
  rfl

/-- Of the registers ALC_ENABLE alone changes. -/
theorem State.alcEnableSet_keeps (s : State) (v : Word) : (s.wr Reg.ALC_ENABLE v).keeps (s.alcEnableSet v) [] :=
  (State.keeps_refl _ []).each _ _ fun i u hu => hu.of_regs (u.enableBy_regs v i)

theorem alcEnableWrite_effect {s : State} (h : s.Live) (hc : s.commanding = true) (v : Word) : ∃ t,
    exec (.alcEnableWrite v) s = .next t ∧ t.rd Reg.ALC_ENABLE = v ∧
    (∀ i < s.thrCount, (t.thr i).enabled = ((s.thr i).enabled || v.getLsbD i)) ∧ s.keeps t [Reg.ALC_ENABLE] ∧
    State.Touch [.alc, .grp] s t := by
  have hF : s.alcEnableWrite v = (s.alcEnableSet v).forwardWrite Reg.ALC_ENABLE v := if_pos hc
  have hfwd : State.Touch [.grp] (s.alcEnableSet v) ((s.alcEnableSet v).forwardWrite Reg.ALC_ENABLE v) :=
    (State.Touch.refl _ _).forwardWrite _ _ (by decide)
  have hk : (s.wr Reg.ALC_ENABLE v).keeps ((s.alcEnableSet v).forwardWrite Reg.ALC_ENABLE v) [] :=
    (s.alcEnableSet_keeps v).of_regs (State.forward_regs _ _ _)
  obtain ⟨he, hk', hT⟩ := h.ends (c := .alcEnableWrite v) (l := [Reg.ALC_ENABLE]) (p := [.alc, .grp]) rfl hF
    (((s.keeps_refl _).wr _ v (by simp)).trans (hk.mono (by simp)))
    (hF ▸ (State.Touch.refl _ s).alcEnableWrite v (by decide)) (by decide) (by decide)
  refine ⟨_, he, ?_, fun i hi => ?_, hk', hT⟩
  · rw [State.rd_mirror_of_ge _ (by decide), hk _ List.not_mem_nil, State.rd_wr_self]
  · have halc : ((s.alcEnableSet v).forwardWrite Reg.ALC_ENABLE v).alc = (s.alcEnableSet v).alc := hfwd .alc (by decide)
    exact (congrArg ThrSt.enabled (State.thr_of_alc halc i)).trans (s.alcEnableSet_enabled v hi)

/-- R452, R489: off the commanding part the write is refused, with code 1 of block 14. -/
theorem alcEnableWrite_refused {s : State} (h : s.Live) (hc : s.commanding = false) (v : Word) : ∃ t,
    exec (.alcEnableWrite v) s = .next t ∧ t.get Fld.SYS_REFINFO_BLOCK = 14 ∧ t.get Fld.SYS_REFINFO_CODE = 1 ∧
    s.keeps t [Reg.SYS_REFADDR, Reg.SYS_REFINFO] ∧ t.rest = s.rest := by
  have hF : s.alcEnableWrite v = s.refuse 14 1 Reg.ALC_ENABLE := if_neg (by simp [hc])
  obtain ⟨he, hk, -⟩ := h.ends (c := .alcEnableWrite v) (l := [Reg.SYS_REFADDR, Reg.SYS_REFINFO]) (p := []) rfl hF
    ((s.keeps_refl _).refuse _ _ _ (by decide) (by decide)) ((State.Touch.refl _ s).refuse _ _ _ (by decide)) (by decide) (by decide)
  refine ⟨_, he, ?_, ?_, hk, rfl⟩
  · rw [State.get_mirror _ _ (by decide) (by decide) (by decide), State.get_refuse_block]
    rfl
  · exact (State.get_mirror _ _ (by decide) (by decide) (by decide)).trans (s.get_refuse_code 14 1 _)

/-! A solve that starts (R172). -/

/-- R172: an instance whose solve has just started. -/
structure Inst.Starts (x : Inst) : Prop where
  solving : x.solving = true
  iter : x.iter = 0
  best : x.best = none

theorem State.moves_slvActivate (s : State) (k : Nat) : ∃ x, s.Moves (s.slvActivate k) k x [Reg.SLV_FACTc (clsOf k)] := by
  unfold State.slvActivate
  split
  · exact ⟨_, ((s.moves_refl k _).modInst _).count _ (by simp)⟩
  · exact ⟨_, s.moves_refl k _⟩

/-- R158: a refresh that starts, or follows a running one, leaves the solve as it is. -/
theorem State.Moves.slvTrigger {s t : State} {k : Nat} {x : Inst} {l : List Nat} (h : s.Moves t k x l) (hx : x.Starts) (m : List Vec) :
    ∃ y, s.Moves (t.slvTrigger k m) k y l ∧ y.Starts := by
  unfold State.slvTrigger
  split
  · exact ⟨x, h, hx⟩
  · refine ⟨_, h.modInst _, ?_⟩
    split
    · exact ⟨hx.solving, hx.iter, hx.best⟩
    · exact ⟨hx.solving, hx.iter, hx.best⟩

theorem State.moves_slvStart {s : State} {k : Nat} {p : SlvCfg} (hp : s.slvCfg (clsOf k) = some p) (pr : Problem) :
    ∃ x, s.Moves (s.slvStart k pr) k x [Reg.SLV_FACTc (clsOf k)] ∧ x.Starts := by
  obtain ⟨x, hA⟩ := s.moves_slvActivate k
  unfold State.slvStart
  rw [hp]
  dsimp -zeta only
  extract_lets u y q kind start v m
  have hv : ∃ z, s.Moves v k z [Reg.SLV_FACTc (clsOf k)] ∧ z.Starts := by
    refine ⟨_, hA.modInst _, ?_⟩
    split
    · exact ⟨rfl, rfl, rfl⟩
    · exact ⟨rfl, rfl, rfl⟩
  obtain ⟨z, hM, hz⟩ := hv
  split
  · exact hM.slvTrigger hz m
  · exact ⟨z, hM, hz⟩

/-! Failure groups (R201, R202). -/

/-- R202: group `g` of `n` has its turn, at the force and moment of the moment. -/
def State.cqTurn (s : State) (g n : Nat) : State :=
  { s with alc := { s.alc with nextGroup := (g + 1) % n, running := s.alc.running.filter (· ≠ g) ++ [g], tau := s.tauC } }

theorem State.cqRelease_eq {s : State} {a : AlcCfg} (ha : s.alcCfg = some a) (ho : s.ownFrame = true) (hv : s.epochValid = true)
    (hn : 0 < a.groups.length) {g : Nat} (hg : g = s.alc.nextGroup % a.groups.length) (hs : (s.inst (2 + g)).solving = false) :
    ∃ pr, s.cqRelease = (s.cqTurn g a.groups.length).slvStart (2 + g) pr := by
  subst hg
  have hlt : s.alc.nextGroup % a.groups.length < a.groups.length := Nat.mod_lt _ hn
  unfold State.cqRelease
  simp only [ha]
  rw [if_neg (by simp [ho, hv, List.ne_nil_of_length_pos hn]), if_neg (by simp [hs]), List.getElem?_eq_getElem hlt]
  exact ⟨_, rfl⟩

theorem conseqGroupRelease_effect {s : State} (h : s.Live) {a : AlcCfg} (ha : s.alcCfg = some a) (ho : s.ownFrame = true)
    (hv : s.epochValid = true) (hn : 0 < a.groups.length) {g : Nat} (hg : g = s.alc.nextGroup % a.groups.length)
    (hs : (s.inst (2 + g)).solving = false) : ∃ t, exec .conseqGroupRelease s = .next t ∧ (t.inst (2 + g)).Starts ∧
    t.alc = (s.cqTurn g a.groups.length).alc ∧ (∀ j, j ≠ 2 + g → t.inst j = s.inst j) ∧ s.keeps t [Reg.SLV_FACTc 2] ∧
    State.Touch [.slv, .alc] s t := by
  obtain ⟨pr, hF⟩ := State.cqRelease_eq ha ho hv hn hg hs
  have hcls : clsOf (2 + g) = 2 := Nat.min_eq_right (Nat.le_add_right 2 g)
  obtain ⟨c, hc, -⟩ := Option.map_eq_some_iff.1 ha
  have hp : (s.cqTurn g a.groups.length).slvCfg (clsOf (2 + g)) = some c.alc.slvConseq := by
    rw [hcls]
    exact congrArg (Option.map _) hc
  obtain ⟨x, hM, hx⟩ := State.moves_slvStart hp pr
  rw [hcls] at hM
  obtain ⟨he, hk, hT⟩ := h.ends (c := .conseqGroupRelease) (p := [.slv, .alc]) rfl hF
    (State.keeps.trans (State.keeps_of_regs _ rfl) hM.keeps)
    (hF ▸ (State.Touch.refl _ s).cqRelease (by decide)) (by decide) (by decide)
  exact ⟨_, he, hM.inst.symm ▸ hx, hM.touch .alc (by decide), hM.others, hk, hT⟩

theorem cqShareMiss_raises {s : State} (h : s.Live) (hc : s.commanding = true) (hv : s.epochValid = true) (g : Fin 48) : ∃ t,
    exec (.cqShareMiss g) s = .next t ∧ (∃ e, t.recd.port = s.recd.port ++ [e] ∧ e.code = 0x400B) ∧ s.keeps t [] ∧
    State.Touch [.port] s t := by
  obtain ⟨he, hk, hT⟩ := h.ends (c := .cqShareMiss g) (p := [.port]) rfl (if_pos ⟨hc, hv⟩) ((s.keeps_refl []).raise _ _ _)
    ((State.Touch.refl _ s).raise _ _ _) (by decide) (by decide)
  exact ⟨_, he, ⟨_, rfl, rfl⟩, hk, hT⟩

/-- A largest status of Table 7-19 is a status: it fits the field. -/
theorem foldl_max_lt {b : Nat} {f : Nat → Nat} (hf : ∀ g, f g < b) (l : List Nat) {m : Nat} (hm : m < b) :
    l.foldl (fun m g => max m (f g)) m < b := by
  induction l generalizing m with
  | nil => exact hm
  | cons g l ih => exact ih (max_lt hm (hf g))

/-- R201: a consequence status that is incomplete is DEGRADED at best. -/
theorem State.cqOverall_incomplete_le_status (s : State) :
    s.cqOverall.get Fld.CQA_STAT_INCOMPLETE ≤ s.cqOverall.get Fld.CQA_STAT_STATUS := by
  unfold State.cqOverall
  extract_lets n gap worst first
  have hworst : worst < 4 := foldl_max_lt (fun g => s.get_lt (Fld.CQA_GRPg_STATUS g)) _ (by decide)
  rw [State.get_setBit_self _ _ _ (by decide) rfl, State.get_setBit_disjoint _ _ _ _ (by decide) (by decide) (by decide),
    State.get_set_disjoint _ _ _ _ (by decide) (by decide) (by decide), State.get_set_self _ _ _ (by decide)]
  exact (Nat.le_max_right _ _).trans_eq (Nat.mod_eq_of_lt (max_lt hworst (Bool.toNat_le gap |>.trans_lt (by decide)))).symm

theorem cqStale_effect {s : State} (h : s.Live) {g : Fin 48} {a : AlcCfg} (ha : s.alcCfg = some a) (hg : g.val < a.groups.length)
    (hn : s.get (Fld.CQA_GRPg_NEVER g) = 0) (ht : cellsGet 0 s.alc.cqAt g + a.cqStaleNs ≤ s.now + 1) : ∃ t,
    exec (.cqStale g) s = .next t ∧ t.get (Fld.CQA_GRPg_STALE g) = 1 ∧ t.get Fld.CQA_STAT_INCOMPLETE = 1 ∧
    1 ≤ t.get Fld.CQA_STAT_STATUS ∧ s.keeps t [Reg.CQA_GRPg g, Reg.CQA_STAT] ∧ t.rest = s.rest := by
  have hF : s.cqStale g = s.cqMarkStale g := by
    unfold State.cqStale
    rw [ha]
    exact if_pos ⟨hn, ht⟩
  have hgrp : 0xD0000 ≤ Reg.CQA_GRPg g := Nat.le_add_right_of_le (by decide)
  obtain ⟨he, hk, -⟩ := h.ends (c := .cqStale g) rfl hF
    ((s.cqMarkStale_keeps g).mono (l' := [Reg.CQA_GRPg g, Reg.CQA_STAT]) (by simp)) (s.touch_cqMarkStale g) (by decide)
    (unmirrored_of_ge (List.forall_mem_cons.2 ⟨hgrp, by decide⟩))
  have hinc := State.cqMarkStale_incomplete ha hg
  refine ⟨_, he, ?_, ?_, ?_, hk, rfl⟩
  · rw [State.get_mirror_of_ge _ hgrp, s.cqMarkStale_stale g]
  · rw [State.get_mirror_of_ge _ (by decide), hinc]
  · rw [State.get_mirror_of_ge _ (by decide)]
    exact hinc.symm.trans_le (State.cqOverall_incomplete_le_status _)

/-! A restart of the round (R202). -/

/-- R202: the groups of a list are marked FLEET_OLD. -/
def State.markOld (s : State) (l : List Nat) : State := s.each l fun g s => s.set (Fld.CQA_GRPg_FLEET_OLD g) 1

theorem cqaGrp_ne {g k : Nat} (h : g ≠ k) : Reg.CQA_GRPg g ≠ Reg.CQA_GRPg k := by
  simp only [Reg.CQA_GRPg]
  omega

theorem State.markOld_fleetOld {s : State} {l : List Nat} {g : Nat} (h : g ∈ l ∨ s.get (Fld.CQA_GRPg_FLEET_OLD g) = 1) :
    (s.markOld l).get (Fld.CQA_GRPg_FLEET_OLD g) = 1 := by
  unfold State.markOld
  induction l generalizing s with
  | nil => exact h.resolve_left List.not_mem_nil
  | cons k l ih =>
    rw [State.each_cons]
    refine ih ?_
    by_cases hk : g = k
    · exact .inr (hk ▸ State.get_set_self _ _ _ (by decide : 15 + 1 ≤ 32))
    · rw [State.get_set_ne _ _ _ _ (cqaGrp_ne hk)]
      exact h.imp_left fun hm => (List.mem_cons.1 hm).resolve_left hk

theorem State.markOld_keeps (s : State) (l : List Nat) : s.keeps (s.markOld l) (l.map Reg.CQA_GRPg) := by
  unfold State.markOld
  induction l generalizing s with
  | nil => exact s.keeps_refl _
  | cons g l ih =>
    rw [State.each_cons, List.map_cons]
    exact ((s.keeps_refl _).set _ _ (by simp)).trans ((ih _).mono fun _ => List.mem_cons_of_mem _)

/-- R202: the round begins again, and no group runs. -/
def AlcSt.restartRound (a : AlcSt) : AlcSt := { a with nextGroup := 0, running := [] }

theorem State.cqMarkOld_eq {s : State} {a : AlcCfg} (ha : s.alcCfg = some a) : s.cqMarkOld =
    { s.markOld (List.range a.groups.length) with alc := (s.markOld (List.range a.groups.length)).alc.restartRound } := by
  unfold State.cqMarkOld
  rw [ha]
  rfl

theorem State.markOld_alc (s : State) (l : List Nat) : (s.markOld l).alc = s.alc := by
  have hT : State.Touch [] s (s.markOld l) := (State.Touch.refl _ s).each _ _ fun _ _ hu => hu.set _ _
  exact hT .alc (by decide)

theorem cqaRestart_effect {s : State} (h : s.Live) {a : AlcCfg} (ha : s.alcCfg = some a) (hn : a.groups.length ≤ 48) : ∃ t,
    exec .cqaRestart s = .next t ∧ (∀ g < a.groups.length, t.get (Fld.CQA_GRPg_FLEET_OLD g) = 1) ∧ t.alc = s.alc.restartRound ∧
    s.keeps t (Reg.CQA_STAT :: (List.range 48).map Reg.CQA_GRPg) ∧ State.Touch [.alc] s t := by
  have hregs : s.cqMarkOld.regs = (s.markOld (List.range a.groups.length)).regs := by rw [State.cqMarkOld_eq ha]
  have halc : s.cqMarkOld.alc = s.alc.restartRound := by rw [State.cqMarkOld_eq ha, State.markOld_alc]
  have hmark : s.keeps s.cqMarkOld (Reg.CQA_STAT :: (List.range 48).map Reg.CQA_GRPg) :=
    ((s.markOld_keeps _).of_regs hregs).mono fun b hb => List.mem_cons_of_mem _ <|
      List.map_subset _ (List.range_subset.2 hn) hb
  have hover := s.cqMarkOld.cqOverall_keeps
  have hge : ∀ b ∈ Reg.CQA_STAT :: (List.range 48).map Reg.CQA_GRPg, 0xD0000 ≤ b := by decide
  obtain ⟨he, hk, hT⟩ := h.ends (c := .cqaRestart) (p := [.alc]) rfl rfl (hmark.trans (hover.mono (by simp)))
    (((State.Touch.refl _ s).cqMarkOld (by decide)).cqOverall (by decide)) (by decide) (unmirrored_of_ge hge)
  refine ⟨_, he, fun g hg => ?_, halc, hk, hT⟩
  have hgrp : 0xD0000 ≤ Reg.CQA_GRPg g := Nat.le_add_right_of_le (by decide)
  have hne : Reg.CQA_GRPg g ∉ [Reg.CQA_STAT] := by simp only [List.mem_singleton, Reg.CQA_GRPg, Reg.CQA_STAT]; omega
  rw [State.get_mirror_of_ge _ hgrp, State.get_of_rd _ (hover _ hne), State.get_of_regs hregs]
  exact State.markOld_fleetOld (.inl (List.mem_range.2 hg))

/-! The counters (R204). -/

theorem alcCntClr_effect {s : State} (h : s.Live) : ∃ t, exec .alcCntClr s = .next t ∧ t.rd Reg.ALC_CNT = 0 ∧
    s.keeps t [Reg.ALC_CNT] ∧ t.rest = s.rest := by
  obtain ⟨he, hk, -⟩ := h.ends (c := .alcCntClr) (l := [Reg.ALC_CNT]) (p := []) rfl rfl ((s.keeps_refl _).wr _ 0 (by simp))
    ((State.Touch.refl _ s).wr _ _) (by decide) (by decide)
  exact ⟨_, he, (State.rd_mirror_of_ge _ (by decide)).trans (State.rd_wr_self _ _ _), hk, rfl⟩

theorem cqaCntClr_effect {s : State} (h : s.Live) : ∃ t, exec .cqaCntClr s = .next t ∧ t.get Fld.CQA_STAT_ROUNDS = 0 ∧
    t.get Fld.CQA_FLEET_GEN = 0 ∧ t.get Fld.CQA_STAT_STATUS = s.get Fld.CQA_STAT_STATUS ∧
    s.keeps t [Reg.CQA_STAT, Reg.CQA_FLEET] ∧ t.rest = s.rest := by
  obtain ⟨he, hk, -⟩ := h.ends (c := .cqaCntClr) (l := [Reg.CQA_STAT, Reg.CQA_FLEET]) (p := []) rfl rfl
    (((s.keeps_refl _).set _ 0 (by simp)).set _ 0 (by simp)) (((State.Touch.refl _ s).set _ _).set _ _) (by decide) (by decide)
  refine ⟨_, he, ?_, ?_, ?_, hk, rfl⟩
  · rw [State.get_mirror_of_ge _ (by decide), State.get_set_ne _ _ _ _ (by decide), State.get_set_self _ _ _ (by decide), Nat.zero_mod]
  · rw [State.get_mirror_of_ge _ (by decide), State.get_set_self _ _ _ (by decide), Nat.zero_mod]
  · rw [State.get_mirror_of_ge _ (by decide), State.get_set_ne _ _ _ _ (by decide),
      State.get_set_disjoint _ _ _ _ (by decide) (by decide) (by decide)]

/-! The statement. -/

/-- Settles O48: the drives' commands move one thruster (`State.MovesThr`), a release starts one instance (`State.moves_slvStart`), and
the groups' commands write the registers of consequence analysis. -/
theorem thrustersAndConsequences : Obligations.ThrustersAndConsequences := by
  unfold Obligations.ThrustersAndConsequences
  refine ⟨fun s i x h hi hx => ?_, fun s i h hi => driveTimeout_effect h hi, fun s i k h hr hg => readmitConditionMet_effect h hr hg,
    fun s v h hc => alcEnableWrite_effect h hc v, fun s v h hc => alcEnableWrite_refused h hc v, fun s a h ha ho hv hn hs => ?_,
    fun s g h hc hv => cqShareMiss_raises h hc hv g, fun s g a h ha hg _ hn ht => cqStale_effect h ha hg hn ht,
    fun s a h ha hn => cqaRestart_effect h ha hn, fun s h => alcCntClr_effect h, fun s h => cqaCntClr_effect h⟩
  · obtain ⟨t, ht, hl, hy, hothers, hk, hT⟩ := driveFeedback_effect h hi hx
    exact ⟨t, ht, hl, hy.fb, fun ho => hy.out ((Bool.or_eq_true _ _).mpr ho), fun h0 h2 => hy.fine (Bool.or_eq_false_iff.2 ⟨h0, h2⟩),
      hothers, hk, hT⟩
  · obtain ⟨t, ht, hx, halc, hothers, hk, hT⟩ := conseqGroupRelease_effect h ha ho hv hn rfl hs
    exact ⟨t, ht, hx.solving, hx.iter, hx.best, congrArg AlcSt.nextGroup halc, by rw [halc]; simp [State.cqTurn],
      congrArg AlcSt.tau halc, hothers, hk, hT⟩

end Sys2Proof.Machine
end

section
/-!
The servo loops (R206 to R214, R216, R217, R219, R220, R223, R226, R227): what each stage of a boundary and each command of a loop
leaves in the loop and in the fields of its registers.  Settles O55 and O56.
-/
namespace Sys2Proof.Machine

/-! Fields that stay. -/

/-- Two fields without a bit in common. -/
def fieldsApart (f g : Field) : Prop := f.addr ≠ g.addr ∨ f.lo + f.width ≤ g.lo ∨ g.lo + g.width ≤ f.lo

/-- Every field apart from those of the list reads in `t` as in `s`. -/
def State.keepsFields (s t : State) (l : List Field) : Prop :=
  ∀ f : Field, f.width ≤ 32 → (∀ g ∈ l, fieldsApart f g) → t.get f = s.get f

theorem State.keepsFields_refl (s : State) (l : List Field) : s.keepsFields s l := fun _ _ _ => rfl

theorem State.keepsFields.trans {s t u : State} {l : List Field} (h : s.keepsFields t l) (h' : t.keepsFields u l) :
    s.keepsFields u l := fun f hw hf => (h' f hw hf).trans (h f hw hf)

theorem State.keepsFields.mono {s t : State} {l l' : List Field} (h : s.keepsFields t l) (hl : ∀ g ∈ l, g ∈ l') :
    s.keepsFields t l' := fun f hw hf => h f hw fun g hg => hf g (hl g hg)

theorem State.keepsFields_set (s : State) {f : Field} (v : Nat) {l : List Field} (hf : f ∈ l) (hw : f.lo + f.width ≤ 32) :
    s.keepsFields (s.set f v) l := fun g hg hl => by
  obtain ha | hd | hd := hl f hf
  · exact State.get_set_ne _ _ _ _ ha
  · exact State.get_set_disjoint _ _ _ _ hw hg (.inr hd)
  · exact State.get_set_disjoint _ _ _ _ hw hg (.inl hd)

/-- A whole register reads as the field of all its bits. -/
theorem State.rd_toNat (s : State) (a : Nat) : (s.rd a).toNat = s.get ⟨a, 0, 32⟩ := by
  change _ = ((s.rd a >>> 0) &&& BitVec.allOnes 32).toNat
  rw [BitVec.and_allOnes, BitVec.ushiftRight_zero]

/-- A write of a register sets the field of all its bits. -/
theorem State.wr_eq_set (s : State) (a : Nat) (v : Word) : s.wr a v = s.set ⟨a, 0, 32⟩ v.toNat := by
  refine congrArg (s.wr a) (BitVec.eq_of_getLsbD_eq fun i hi => ?_)
  rw [bitsSet_getLsbD _ _ _ _ _ (by simp), if_pos (by simpa using hi)]
  exact congrArg v.toNat.testBit (Nat.sub_zero i)

/-- A register none of whose fields is in the list reads as before. -/
theorem State.keepsFields.rd {s t : State} {l : List Field} (h : s.keepsFields t l) {a : Nat} (ha : ∀ g ∈ l, a ≠ g.addr) :
    t.rd a = s.rd a :=
  BitVec.eq_of_toNat_eq (by
    rw [State.rd_toNat, State.rd_toNat]
    exact h ⟨a, 0, 32⟩ (Nat.le_refl 32) fun g hg => .inl (ha g hg))

theorem State.keepsFields.keeps {s t : State} {l : List Field} (h : s.keepsFields t l) : s.keeps t (l.map Field.addr) :=
  fun _ ha => h.rd fun _ hg e => ha (e ▸ List.mem_map_of_mem hg)

/-! One loop that moves. -/

/-- From `s` to `t` loop `n` has become `x`; of the registers only the fields `l` have changed, beside them only the parts `p`. -/
structure State.MovesLoop (p : List Part) (s t : State) (n : Nat) (x : LoopSt) (l : List Field) : Prop where
  loop : t.loop n = x
  fields : s.keepsFields t l
  touch : State.Touch p s t

section
variable {p : List Part} {s t u : State} {n : Nat} {x y : LoopSt} {l : List Field}

theorem State.loop_of_srv (h : t.srv = s.srv) (n : Nat) : t.loop n = s.loop n := by
  unfold State.loop
  rw [h]

theorem State.movesLoop_refl (p : List Part) (s : State) (n : Nat) (l : List Field) : s.MovesLoop p s n (s.loop n) l :=
  ⟨rfl, s.keepsFields_refl l, .refl p s⟩

theorem State.MovesLoop.trans (h : s.MovesLoop p t n x l) (h' : t.MovesLoop p u n y l) : s.MovesLoop p u n y l :=
  ⟨h'.loop, h.fields.trans h'.fields, h.touch.trans h'.touch⟩

theorem State.MovesLoop.mono (h : s.MovesLoop p t n x l) {p' : List Part} {l' : List Field} (hp : ∀ q ∈ p, q ∈ p')
    (hl : ∀ g ∈ l, g ∈ l') : s.MovesLoop p' t n x l' := ⟨h.loop, h.fields.mono hl, h.touch.mono hp⟩

theorem State.MovesLoop.modLoop (h : s.MovesLoop p t n x l) (f : LoopSt → LoopSt) (hp : Part.srv ∈ p) :
    s.MovesLoop p (t.modLoop n f) n (f x) l where
  loop := (cellsGet_set_self _ _ _ _).trans (congrArg f h.loop)
  fields := h.fields
  touch := h.touch.modLoop n f (by simpa using hp)

theorem State.MovesLoop.set (h : s.MovesLoop p t n x l) {f : Field} (v : Nat) (hf : f ∈ l) (hw : f.lo + f.width ≤ 32) :
    s.MovesLoop p (t.set f v) n x l := ⟨h.loop, h.fields.trans (t.keepsFields_set v hf hw), h.touch.set f v⟩

theorem State.MovesLoop.setBit (h : s.MovesLoop p t n x l) {f : Field} (b : Bool) (hf : f ∈ l) (hw : f.lo + f.width ≤ 32) :
    s.MovesLoop p (t.setBit f b) n x l := h.set _ hf hw

theorem State.MovesLoop.count (h : s.MovesLoop p t n x l) {f : Field} (hf : f ∈ l) (hw : f.lo + f.width ≤ 32) :
    s.MovesLoop p (t.count f) n x l := h.set _ hf hw

theorem State.MovesLoop.wr (h : s.MovesLoop p t n x l) {a : Nat} (v : Word) (ha : ⟨a, 0, 32⟩ ∈ l) :
    s.MovesLoop p (t.wr a v) n x l := t.wr_eq_set a v ▸ h.set v.toNat ha (by simp)

theorem State.MovesLoop.raise (h : s.MovesLoop p t n x l) (c : Nat) (src : Word) (d : List Byte) :
    s.MovesLoop p (t.raise c src d) n x l := ⟨h.loop, h.fields, h.touch.raise c src d⟩

theorem State.MovesLoop.when {f : State → State} (h : s.MovesLoop p t n x l) (c : Bool)
    (hf : c = true → s.MovesLoop p (f t) n x l) : s.MovesLoop p (t.when c f) n x l := by
  unfold State.when
  split
  · next hc => exact hf hc
  · exact h

/-- One stage after another: the second starts from the loop that the first leaves. -/
theorem State.MovesLoop.next (h : s.MovesLoop p t n x l) {l' : List Field} (h' : t.MovesLoop p u n y l') (hl : ∀ g ∈ l', g ∈ l) :
    s.MovesLoop p u n y l := h.trans (h'.mono (fun _ => id) hl)

/-! Addresses. -/

/-- The registers of the loops stand below those of the switch outputs. -/
theorem srvReg_lt_swo (n : Fin 64) {a : Nat} (h : a < 0x101080) : a + 0x80 * n.val < Reg.SWO_STATw 0 := by
  have : Reg.SWO_STATw 0 = 0x11A100 := rfl
  omega

/-- The registers of the loops stand below those of ANA. -/
theorem srvReg_lt_ana (n : Fin 64) {a : Nat} (h : a < 0x101080) : a + 0x80 * n.val < 0x110000 := by omega

/-- The masks of the loops stand below the registers of each. -/
theorem loopBit_addr_lt {r0 r1 : Nat} (h0 : r0 < Reg.SRVn_CFG 0) (h1 : r1 < Reg.SRVn_CFG 0) (n : Nat) :
    (loopBit r0 r1 n).addr < Reg.SRVn_CFG 0 := by
  unfold loopBit
  split
  · exact h0
  · exact h1

theorem srvReg_ne_loopBit {r0 r1 a : Nat} (h0 : r0 < Reg.SRVn_CFG 0) (h1 : r1 < Reg.SRVn_CFG 0) (h : Reg.SRVn_CFG 0 ≤ a) (n : Nat) :
    a + 0x80 * n ≠ (loopBit r0 r1 n).addr :=
  Nat.ne_of_gt (Nat.lt_of_lt_of_le (loopBit_addr_lt h0 h1 n) (Nat.le_trans h (Nat.le_add_right _ _)))

/-! Outputs (R205, R212). -/

/-- The field of a switch output. -/
abbrev swoField (k : Nat) : Field := ⟨Reg.SWO_STATw (k / 32), k % 32, 1⟩

/-- What a change of its output state changes of a loop's registers. -/
abbrev outFields (n : Nat) : List Field := [Fld.SRVn_STAT_OUT n, swoField (2 * n), swoField (2 * n + 1)]

theorem State.get_setSwo_self (s : State) (k : Nat) (on : Bool) : (s.setSwo k on).get (swoField k) = on.toNat :=
  State.get_setBit_self s (swoField k) on (Nat.mod_lt k (by decide : 0 < 32)) rfl

theorem State.get_setSwo_ne (s : State) {j k : Nat} (h : j ≠ k) (on : Bool) : (s.setSwo k on).get (swoField j) = s.get (swoField j) := by
  refine s.keepsFields_set (f := swoField k) on.toNat (List.mem_singleton_self _) (Nat.mod_lt k (by decide : 0 < 32)) _ (by simp) ?_
  simp only [List.forall_mem_singleton, fieldsApart, Reg.SWO_STATw]
  omega

theorem State.MovesLoop.setSwo (h : s.MovesLoop p t n x l) (k : Nat) (on : Bool) (hk : swoField k ∈ l) :
    s.MovesLoop p (t.setSwo k on) n x l := h.setBit on hk (Nat.mod_lt k (by decide : 0 < 32))

theorem State.loopOut_eq (s : State) (n o : Nat) : s.loopOut n o =
    if (s.loopCfg n).isNone then s.set (Fld.SRVn_STAT_OUT n) o
    else ((s.set (Fld.SRVn_STAT_OUT n) o).when (drivesPos (s.get (Fld.SRVn_CFG_LAW n))) (·.setSwo (2 * n) (decide (o = 1)))).when
      (drivesNeg (s.get (Fld.SRVn_CFG_LAW n))) (·.setSwo (2 * n + 1) (decide (o = 2))) := by
  have hlaw : (s.set (Fld.SRVn_STAT_OUT n) o).get (Fld.SRVn_CFG_LAW n) = s.get (Fld.SRVn_CFG_LAW n) :=
    State.get_set_ne _ _ _ _ (by simp)
  rw [← hlaw]
  rfl

theorem State.movesLoop_loopOut (s : State) (n o : Nat) : s.MovesLoop [.srv] (s.loopOut n o) n (s.loop n) (outFields n) := by
  have h := (s.movesLoop_refl [.srv] n (outFields n)).set (f := Fld.SRVn_STAT_OUT n) o (by simp) (by simp)
  have hpos := h.when (f := (·.setSwo (2 * n) (decide (o = 1)))) (drivesPos (s.get (Fld.SRVn_CFG_LAW n))) fun _ => h.setSwo _ _ (by simp)
  rw [State.loopOut_eq]
  split
  · exact h
  · exact hpos.when _ fun _ => hpos.setSwo _ _ (by simp)

/-- The switch outputs stand in registers above those of the loops. -/
theorem State.get_when_setSwo (s : State) (c : Bool) (k : Nat) (on : Bool) {f : Field} (h : f.addr < Reg.SWO_STATw 0) :
    (s.when c (·.setSwo k on)).get f = s.get f := by
  unfold State.when
  split
  · exact State.get_setBit_ne _ _ _ _ (Nat.ne_of_lt (Nat.lt_of_lt_of_le h (Nat.le_add_right _ _)))
  · rfl

theorem State.get_loopOut_out (s : State) (n : Fin 64) {o : Nat} (ho : o < 4) :
    (s.loopOut n o).get (Fld.SRVn_STAT_OUT n) = o := by
  have h := (s.get_set_self (Fld.SRVn_STAT_OUT n) o (by simp)).trans (Nat.mod_eq_of_lt ho)
  have hlt : (Fld.SRVn_STAT_OUT n).addr < Reg.SWO_STATw 0 := srvReg_lt_swo n (by decide)
  rw [State.loopOut_eq]
  split
  · exact h
  · rw [State.get_when_setSwo _ _ _ _ hlt, State.get_when_setSwo _ _ _ _ hlt, h]

/-- R205: the outputs that a declared loop drives follow its output state. -/
theorem State.get_loopOut_swo (s : State) (n o : Nat) (hc : (s.loopCfg n).isSome = true) :
    (drivesPos (s.get (Fld.SRVn_CFG_LAW n)) = true → (s.loopOut n o).get (swoField (2 * n)) = (decide (o = 1)).toNat) ∧
    (drivesNeg (s.get (Fld.SRVn_CFG_LAW n)) = true → (s.loopOut n o).get (swoField (2 * n + 1)) = (decide (o = 2)).toNat) := by
  rw [State.loopOut_eq, if_neg (by simp [Option.isSome_iff_ne_none.1 hc])]
  refine ⟨fun h => ?_, fun h => ?_⟩
  · rw [h, State.when_true]
    unfold State.when
    split
    · rw [State.get_setSwo_ne _ (by omega), State.get_setSwo_self]
    · exact State.get_setSwo_self _ _ _
  · rw [h, State.when_true]
    exact State.get_setSwo_self _ _ _

theorem State.movesLoop_loopOff (s : State) (n : Nat) : s.MovesLoop [.srv] (s.loopOff n) n
    (if s.get (Fld.SRVn_STAT_OUT n) ≠ 0 then { s.loop n with off := 0 } else s.loop n) (outFields n) := by
  unfold State.loopOff
  dsimp only
  split
  · exact (s.movesLoop_loopOut n 0).modLoop _ (by simp)
  · exact s.movesLoop_loopOut n 0

theorem State.get_loopOff_out (s : State) (n : Fin 64) : (s.loopOff n).get (Fld.SRVn_STAT_OUT n) = 0 := by
  unfold State.loopOff
  dsimp only
  split
  · exact s.get_loopOut_out n (by decide : 0 < 4)
  · exact s.get_loopOut_out n (by decide : 0 < 4)

/-! The state of a loop (R191, R223). -/

theorem State.thrRemove_regs (s : State) (i reason : Nat) (start : Bool) : (s.thrRemove i reason start).regs = s.regs := by
  by_cases hi : i < s.thrCount
  · obtain ⟨_, hM⟩ := State.movesThr_thrRemove hi reason start
    exact hM.regs
  · unfold State.thrRemove
    rw [if_pos (Nat.le_of_not_lt hi)]

theorem State.thrClear_regs (s : State) (i reason : Nat) : (s.thrClear i reason).regs = s.regs := by
  unfold State.thrClear
  dsimp only
  split
  · rfl
  · rfl

/-- R191: the thrusters that a loop serves follow it; no register does. -/
theorem State.keeps_loopServes (s : State) (n : Nat) : s.keeps (s.loopServes n) [] := by
  unfold State.loopServes
  refine (s.keeps_refl []).each _ _ fun i u h => ?_
  split
  · exact h
  · dsimp only
    split
    · exact h.of_regs (u.thrClear_regs i 4)
    · split
      · exact h
      · exact h.of_regs (u.thrRemove_regs i 4 false)

theorem State.keeps.toFields (h : s.keeps t []) (l : List Field) : s.keepsFields t l := fun f _ _ => h.get f List.not_mem_nil

theorem State.MovesLoop.loopServes (h : s.MovesLoop p t n x l) (m : Nat) (hp : Part.chans ∈ p ∧ Part.alc ∈ p) :
    s.MovesLoop p (t.loopServes m) n x l where
  loop := (State.loop_of_srv ((State.Touch.refl [.chans, .alc] t).loopServes m (fun _ => id) .srv (by decide)) n).trans h.loop
  fields := h.fields.trans ((t.keeps_loopServes m).toFields l)
  touch := h.touch.loopServes m (by simpa using hp)

/-- What a change of its state changes of a loop's registers. -/
abbrev stateFields (n : Nat) : List Field :=
  [Fld.SRVn_STAT_STATE n, loopBit Reg.SRV_CLOSED0 Reg.SRV_CLOSED1 n, loopBit Reg.SRV_FAULT0 Reg.SRV_FAULT1 n]

theorem loopBit_fits (r0 r1 n : Nat) : (loopBit r0 r1 n).lo + (loopBit r0 r1 n).width ≤ 32 := Nat.mod_lt n (by decide : 0 < 32)

theorem State.movesLoop_loopTo (s : State) (n st : Nat) :
    s.MovesLoop [.chans, .alc] (s.loopTo n st) n (s.loop n) (stateFields n) :=
  ((((s.movesLoop_refl _ n _).set st (by simp) (by simp)).setBit _ (by simp) (loopBit_fits _ _ n)).setBit _ (by simp)
    (loopBit_fits _ _ n)).loopServes n (by decide)

theorem State.loopState_loopTo (s : State) (n : Nat) {st : Nat} (h : st < 4) : (s.loopTo n st).loopState n = st := by
  unfold State.loopState State.loopTo
  rw [(State.keeps_loopServes _ n).get _ List.not_mem_nil, State.get_setBit_ne _ _ _ _ (srvReg_ne_loopBit (by decide) (by decide) (by decide) n),
    State.get_setBit_ne _ _ _ _ (srvReg_ne_loopBit (by decide) (by decide) (by decide) n), State.get_set_self _ _ _ (by simp)]
  exact Nat.mod_eq_of_lt h

theorem State.closedBit_loopTo (s : State) (n st : Nat) :
    (s.loopTo n st).get (loopBit Reg.SRV_CLOSED0 Reg.SRV_CLOSED1 n) = (decide (st = 1)).toNat := by
  have hne : (loopBit Reg.SRV_CLOSED0 Reg.SRV_CLOSED1 n).addr ≠ (loopBit Reg.SRV_FAULT0 Reg.SRV_FAULT1 n).addr := by
    unfold loopBit
    dsimp only
    split
    · decide
    · decide
  unfold State.loopTo
  rw [(State.keeps_loopServes _ n).get _ List.not_mem_nil, State.get_setBit_ne _ _ _ _ hne,
    State.get_setBit_self _ _ _ (loopBit_fits _ _ n) rfl]

/-! Feedback (R207, R208). -/

/-- The registers of the two feedbacks. -/
abbrev fbFields (n : Nat) : List Field := [Fld.SRVn_FB_FB n, Fld.SRVn_OFB_OFB n]

/-- A source reads registers of ANA and that block's part of the state. -/
theorem State.source_congr (hrd : ∀ a, 0x110000 ≤ a → t.rd a = s.rd a) (ha : t.ana = s.ana) (kind idx : Nat) :
    t.source kind idx = s.source kind idx := by
  have hchain : t.chain idx = s.chain idx := by unfold State.chain; rw [ha]
  have hpin : t.pin idx = s.pin idx := by unfold State.pin; rw [ha]
  have hstat : t.get (Fld.CHn_STAT_STATE idx) = s.get (Fld.CHn_STAT_STATE idx) :=
    State.get_of_rd _ (hrd _ (Nat.le_trans (by decide) (Nat.le_add_right _ _)))
  have hruns : t.pinRuns idx = s.pinRuns idx :=
    congrArg (decide <| · = 1) (State.get_of_rd _ (hrd _ (Nat.le_trans (by decide) (Nat.le_add_right _ _))))
  have hout := hrd (Reg.CHn_OUT idx) (Nat.le_trans (by decide) (Nat.le_add_right _ _))
  have hcount := hrd (Reg.PINi_COUNT idx) (Nat.le_trans (by decide) (Nat.le_add_right _ _))
  have hfreq := hrd (Reg.PINi_FREQ idx) (Nat.le_trans (by decide) (Nat.le_add_right _ _))
  unfold State.source
  rw [hchain, hpin, hstat, hruns, hout, hcount, hfreq]

/-- The latched feedbacks are no source of feedback. -/
theorem State.keepsFields.sources (n : Fin 64) (h : s.keepsFields t (fbFields n)) (ha : t.ana = s.ana) :
    t.loopFb n = s.loopFb n ∧ t.loopOfb n = s.loopOfb n := by
  have hlt : ∀ g ∈ fbFields n, g.addr < 0x110000 := by
    simpa only [List.forall_mem_cons] using
      ⟨srvReg_lt_ana n (by decide), srvReg_lt_ana n (by decide), fun _ h => absurd h List.not_mem_nil⟩
  have hsrc := State.source_congr (fun a hle => h.rd fun g hg => Nat.ne_of_gt (Nat.lt_of_lt_of_le (hlt g hg) hle)) ha
  have hcfg := h.rd (a := Reg.SRVn_CFG n) (by simp)
  have hscl := h.rd (a := Reg.SRVn_FBSCL n) (by simp)
  have hofs := h.rd (a := Reg.SRVn_FBOFS n) (by simp)
  have hoscl := h.rd (a := Reg.SRVn_OFBSCL n) (by simp)
  have hoofs := h.rd (a := Reg.SRVn_OFBOFS n) (by simp)
  unfold State.loopFb State.loopOfb State.sget State.loopAngle State.get
  simp only [hsrc, hcfg, hscl, hofs, hoscl, hoofs, and_self]

/-- The inner feedback is latched (R207). -/
def State.latchInner (s : State) (n : Nat) : State := match s.loopFb n with
  | some (v, _, _) => s.wr (Reg.SRVn_FB n) (ofInt32 v)
  | none => s

/-- R208: a loop after a boundary at which its source of kind `kind` gave `fb`. -/
def LoopSt.seesFb (x : LoopSt) (kind now : Nat) : Option (Int × Bool × Nat) → LoopSt
  | some (_, _, q) => { x with
      fbAge := sourceAge kind x.fbSeen x.fbAge q, fbSeen := q, fbAt := if kind = 1 ∨ q ≠ x.fbSeen then some now else x.fbAt }
  | none => { x with fbAge := x.fbAge + 1 }

/-- R208: a loop after a boundary at which its outer source gave `fb`. -/
def LoopSt.seesOfb (x : LoopSt) (kind : Nat) : Option (Int × Bool × Nat) → LoopSt
  | some (_, _, q) => { x with ofbAge := sourceAge kind x.ofbSeen x.ofbAge q, ofbSeen := q }
  | none => { x with ofbAge := x.ofbAge + 1 }

/-- The loop after the latch of Table 8-4, step 1. -/
def State.latchedLoop (s : State) (n : Nat) : LoopSt :=
  ((s.loop n).seesFb (s.get (Fld.SRVn_CFG_FB_KIND n)) s.now (s.loopFb n)).seesOfb (s.get (Fld.SRVn_CFG_OFB_KIND n)) (s.loopOfb n)

/-- The age of a source that gave `fb`. -/
def feedAge (kind seen age : Nat) : Option (Int × Bool × Nat) → Nat
  | some (_, _, q) => sourceAge kind seen age q
  | none => age + 1

/-- A latch changes what the loop has seen of its sources, and nothing else of it. -/
theorem State.latchedLoop_eq (s : State) (n : Nat) : ∃ a b c, s.latchedLoop n = { s.loop n with
    fbSeen := a, fbAt := b, ofbSeen := c
    fbAge := feedAge (s.get (Fld.SRVn_CFG_FB_KIND n)) (s.loop n).fbSeen (s.loop n).fbAge (s.loopFb n)
    ofbAge := feedAge (s.get (Fld.SRVn_CFG_OFB_KIND n)) (s.loop n).ofbSeen (s.loop n).ofbAge (s.loopOfb n) } := by
  unfold State.latchedLoop
  cases s.loopFb n with
  | none =>
    cases s.loopOfb n with
    | none => exact ⟨_, _, _, rfl⟩
    | some _ => exact ⟨_, _, _, rfl⟩
  | some _ =>
    cases s.loopOfb n with
    | none => exact ⟨_, _, _, rfl⟩
    | some _ => exact ⟨_, _, _, rfl⟩

/-- The latch, stage by stage. -/
theorem State.latchFb_eq (s : State) (n : Nat) (outer : Bool) {u : State}
    (hu : u = ((s.latchInner n).modLoop n fun x => x.seesFb (s.get (Fld.SRVn_CFG_FB_KIND n)) s.now (s.loopFb n)).when outer
      (·.latchOfb n)) :
    s.latchFb n outer = u.modLoop n fun x => x.seesOfb (s.get (Fld.SRVn_CFG_OFB_KIND n)) (u.loopOfb n) := by
  unfold State.latchFb
  extract_lets k ok v w
  have hv : v = (s.latchInner n).modLoop n fun x => x.seesFb k s.now (s.loopFb n) := by
    unfold v State.latchInner
    cases s.loopFb n with
    | none => rfl
    | some _ => rfl
  have hw : w = u := by
    rw [hu, ← hv]
    rfl
  rw [← hw]
  cases w.loopOfb n with
  | none => rfl
  | some _ => rfl

/-- The registers that a latch writes. -/
abbrev latchFields (n : Nat) (outer : Bool) : List Field := Fld.SRVn_FB_FB n :: if outer then [Fld.SRVn_OFB_OFB n] else []

theorem State.movesLoop_latchInner (s : State) (n : Nat) :
    s.MovesLoop [.srv] (s.latchInner n) n (s.loop n) [Fld.SRVn_FB_FB n] := by
  unfold State.latchInner
  split
  · exact (s.movesLoop_refl _ n _).wr _ (by simp)
  · exact s.movesLoop_refl _ n _

theorem State.movesLoop_latchOfb (s : State) (n : Nat) :
    s.MovesLoop [.srv] (s.latchOfb n) n (s.loop n) [Fld.SRVn_OFB_OFB n] := by
  unfold State.latchOfb
  split
  · exact (s.movesLoop_refl _ n _).wr _ (by simp)
  · exact s.movesLoop_refl _ n _

theorem State.movesLoop_latchFb (s : State) (n : Fin 64) (outer : Bool) :
    s.MovesLoop [.srv] (s.latchFb n outer) n (s.latchedLoop n) (latchFields n outer) := by
  have hv := ((s.movesLoop_latchInner n).mono (l' := latchFields n outer) (fun _ => id) (by simp)).modLoop
    (fun x => x.seesFb (s.get (Fld.SRVn_CFG_FB_KIND n)) s.now (s.loopFb n)) (by simp)
  have hw := hv.when (f := (·.latchOfb n)) outer fun ho => hv.next (hv.loop ▸ State.movesLoop_latchOfb _ n) (by simp [ho])
  have hofb := (State.keepsFields.sources n (hw.fields.mono (by cases outer <;> simp)) (hw.touch .ana (by decide))).2
  rw [s.latchFb_eq n outer rfl, hofb]
  exact hw.modLoop _ (by simp)

theorem State.rd_latchFb_fb {v : Int} {r : Bool} {q : Nat} (s : State) (n : Nat) (outer : Bool) (h : s.loopFb n = some (v, r, q)) :
    (s.latchFb n outer).rd (Reg.SRVn_FB n) = ofInt32 v := by
  have hin : (s.latchInner n).rd (Reg.SRVn_FB n) = ofInt32 v := by
    unfold State.latchInner
    rw [h]
    exact State.rd_wr_self _ _ _
  rw [s.latchFb_eq n outer rfl]
  unfold State.when
  split
  · exact ((State.movesLoop_latchOfb _ n).fields.rd (by simp)).trans hin
  · exact hin

theorem State.rd_latchFb_ofb {w : Int} {r : Bool} {q : Nat} (s : State) (n : Fin 64) (h : s.loopOfb n = some (w, r, q)) :
    (s.latchFb n true).rd (Reg.SRVn_OFB n) = ofInt32 w := by
  have hv := (s.movesLoop_latchInner n).modLoop
    (fun x => x.seesFb (s.get (Fld.SRVn_CFG_FB_KIND n)) s.now (s.loopFb n)) (by simp)
  have hofb := (State.keepsFields.sources n (hv.fields.mono (by simp)) (hv.touch .ana (by decide))).2
  rw [s.latchFb_eq n true rfl, State.when_true]
  unfold State.latchOfb
  rw [hofb, h]
  exact State.rd_wr_self _ _ _

/-! Faults of the feedback (R207, R208). -/

/-- A feedback that delivers, in range and of no more than the age allowed, is no fault. -/
theorem State.fbFault_none {n age q : Nat} {v : Int} (s : State) (h : age ≤ s.get (Fld.SRVn_SAMPLE_FB_AGE n)) :
    s.fbFault n (some (v, true, q)) age = 0 := by
  unfold State.fbFault
  exact (if_neg (Nat.not_lt.2 h)).trans (if_pos rfl)

theorem State.feedbackFault_inner {s : State} {n q : Nat} {v : Int} (h : s.loopFb n = some (v, true, q))
    (hage : (s.loop n).fbAge ≤ s.get (Fld.SRVn_SAMPLE_FB_AGE n)) : s.feedbackFault n false = 0 := by
  unfold State.feedbackFault
  rw [h, s.fbFault_none hage]
  rfl

theorem State.feedbackFault_outer {s : State} {n q r : Nat} {v w : Int} (h : s.loopFb n = some (v, true, q))
    (hage : (s.loop n).fbAge ≤ s.get (Fld.SRVn_SAMPLE_FB_AGE n)) (h' : s.loopOfb n = some (w, true, r))
    (hage' : (s.loop n).ofbAge ≤ s.get (Fld.SRVn_SAMPLE_FB_AGE n)) : s.feedbackFault n true = 0 := by
  unfold State.feedbackFault
  rw [h, s.fbFault_none hage, h', s.fbFault_none hage']
  rfl

theorem State.feedbackFault_lost {s : State} {n : Nat} (h : s.loopFb n = none) (outer : Bool) : s.feedbackFault n outer = 2 := by
  unfold State.feedbackFault
  rw [h]
  rfl

/-! Events of a boundary (Table 8-4, step 3). -/

/-- The set-point's source is taken over (R216). -/
def State.takeSource (s : State) (n : Nat) : State := s.modLoop n fun x => { x with src := s.rd (Reg.SRVn_SPSRC n) }

theorem State.MovesLoop.takeSource (h : s.MovesLoop p t n x l) (hp : Part.srv ∈ p) :
    s.MovesLoop p (t.takeSource n) n { x with src := t.rd (Reg.SRVn_SPSRC n) } l := h.modLoop _ hp

theorem State.loopState_takeSource (s : State) (n : Nat) : (s.takeSource n).loopState n = s.loopState n := rfl

/-- Nothing happens to a CLOSED loop without a fault, a command or an overlay. -/
theorem State.loopEvents_quiet {s : State} {n : Nat} {outer : Bool} (hst : s.loopState n = 1) (hf : s.feedbackFault n outer = 0)
    (ho : (s.loop n).openReq = false) (hv : (s.loop n).overlay = none) : s.loopEvents n outer = (s.takeSource n, false) := by
  simp [State.loopEvents, State.openStep, State.overlayStep, State.closeStep, State.takeSource, hst, hf, ho, hv]

theorem State.loopEvents_fault {s : State} {n f : Nat} {outer : Bool} (hst : s.loopState n = 1) (hf : s.feedbackFault n outer = f)
    (h0 : f ≠ 0) (ht : (s.loopFault n f).loopState n = 2) (ho : ((s.loopFault n f).loop n).openReq = false)
    (hv : ((s.loopFault n f).loop n).overlay = none) (hc : ((s.loopFault n f).loop n).cmdClose = false)
    (ha : ((s.loopFault n f).loop n).auto = false) : s.loopEvents n outer = ((s.loopFault n f).takeSource n, false) := by
  simp [State.loopEvents, State.openStep, State.overlayStep, State.closeStep, State.takeSource, hst, hf, h0, ht, ho, hv, hc, ha]

theorem State.loopEvents_close {s : State} {n : Nat} {outer : Bool} (hst : s.loopState n = 0 ∨ s.loopState n = 2)
    (ho : (s.loop n).openReq = false) (hv : (s.loop n).overlay = none) (hc : (s.loop n).cmdClose = true)
    (hk : s.closeCheck n = 0) : s.loopEvents n outer = ((s.loopClose n).takeSource n, true) := by
  have h1 : s.loopState n ≠ 1 := by omega
  have h3 : s.loopState n ≠ 3 := by omega
  simp [State.loopEvents, State.openStep, State.overlayStep, State.closeStep, State.takeSource, h1, h3, ho, hv, hst, hc, hk]

/-! Set-points (R214, R216, R217). -/

/-- The register of the set-point in use: the outer one of a loop that has an outer loop. -/
abbrev spField (n : Nat) (outer : Bool) : Field := if outer then Fld.SRVn_OSP_OSP n else Fld.SRVn_SP_SP n

theorem State.movesLoop_setpointStep (s : State) (n : Nat) :
    s.MovesLoop [.srv] (s.setpointStep n).1 n (s.loop n) [Fld.SRVn_STAT_SP_LOST n, spField n (s.loopOuter n)] := by
  have hreg : (⟨if s.loopOuter n then Reg.SRVn_OSP n else Reg.SRVn_SP n, 0, 32⟩ : Field) = spField n (s.loopOuter n) := by
    cases s.loopOuter n <;> rfl
  unfold State.setpointStep
  cases s.candidate n with
  | none => exact ((s.movesLoop_refl _ n _).setBit _ (by simp) (by simp)).wr _ (by rw [hreg]; simp)
  | some c => exact ((s.movesLoop_refl _ n _).set 0 (by simp) (by simp)).wr _ (by rw [hreg]; simp)

/-- R217: a host set-point that no rate limits, within the limits. -/
theorem State.rd_setpointStep_host {s : State} {n : Nat} (ho : s.loopOuter n = false) (ha : s.loopAngle n = false)
    (hsrc : bitsGet (s.loop n).src 0 3 = 5) (hr : s.rd (Reg.SRVn_SPRATE n) = 0) :
    (s.setpointStep n).1.rd (Reg.SRVn_SP n) = ofInt32 (clampInt (s.rd (Reg.SRVn_SPMIN n)).toInt (s.rd (Reg.SRVn_SPMAX n)).toInt
      (s.rd (Reg.SRVn_HOSTSP n)).toInt) := by
  have hcand : s.candidate n = some ((s.rd (Reg.SRVn_HOSTSP n)).toInt, false) := by
    unfold State.candidate
    simp [hsrc]
  have hang : (s.set (Fld.SRVn_STAT_SP_LOST n) 0).loopAngle n = false :=
    (congrArg (decide <| · = 1) (State.get_set_ne _ _ _ _ (by simp))).trans ha
  unfold State.setpointStep
  simp [hcand, ho, hr, rateStep, State.rd_set_ne, hang]

theorem hysteresis_lt (pos neg : Bool) (o : Nat) (e : Int) (on off : Nat) (a b : Bool) : hysteresis pos neg o e on off a b < 4 := by
  unfold hysteresis
  split_ifs <;> decide

/-- R214: the state that the outer loop takes at its boundary. -/
def State.outerState (s : State) (n : Nat) : Nat :=
  let st := s.get (Fld.SRVn_STAT_OSTATE n)
  let d := (s.rd (Reg.SRVn_OSP n)).toInt - (s.rd (Reg.SRVn_OFB n)).toInt
  hysteresis true true st (if s.get (Fld.SRVn_CFG_O_INV n) = 1 then -d else d) (s.rd (Reg.SRVn_OBON n)).toNat
    (s.rd (Reg.SRVn_OBOFF n)).toNat (decide (s.get (Fld.SRVn_OTIMER_O_TON n) ≤ (s.loop n).oOn + (if st = 0 then 0 else 1)))
    (decide (s.get (Fld.SRVn_OTIMER_O_TOFF n) ≤ min 255 ((s.loop n).oOff + (if st = 0 then 1 else 0))))

theorem State.outerStep_eq (s : State) (n : Nat) : ∃ f : LoopSt → LoopSt, (∀ x, ∃ a b, f x = { x with oOn := a, oOff := b }) ∧
    s.outerStep n = (s.set (Fld.SRVn_STAT_OSTATE n) (s.outerState n)).modLoop n f := ⟨_, fun _ => ⟨_, _, rfl⟩, rfl⟩

theorem State.movesLoop_outerStep (s : State) (n : Nat) : ∃ a b,
    s.MovesLoop [.srv] (s.outerStep n) n { s.loop n with oOn := a, oOff := b } [Fld.SRVn_STAT_OSTATE n] := by
  obtain ⟨f, hf, he⟩ := s.outerStep_eq n
  obtain ⟨a, b, hx⟩ := hf (s.loop n)
  exact ⟨a, b, he ▸ hx ▸ ((s.movesLoop_refl [.srv] n _).set _ (by simp) (by simp)).modLoop f (by simp)⟩

theorem State.get_outerStep_ostate (s : State) (n : Nat) : (s.outerStep n).get (Fld.SRVn_STAT_OSTATE n) = s.outerState n :=
  (State.get_set_self s (Fld.SRVn_STAT_OSTATE n) (s.outerState n) (by simp)).trans (Nat.mod_eq_of_lt (hysteresis_lt _ _ _ _ _ _ _ _))

/-- R214: the set-point that a ramp by the outer state gives. -/
def State.rampedSp (s : State) (n : Nat) : Word :=
  let st := s.get (Fld.SRVn_STAT_OSTATE n)
  ofInt32 (clampInt (s.rd (Reg.SRVn_SPMIN n)).toInt (s.rd (Reg.SRVn_SPMAX n)).toInt ((s.rd (Reg.SRVn_SP n)).toInt +
    (if st = 1 then ((s.rd (Reg.SRVn_ORAMP n)).toNat : Int) else if st = 2 then -((s.rd (Reg.SRVn_ORAMP n)).toNat : Int) else 0)))

/-- What Table 8-4, step 4 changes of a loop's registers. -/
abbrev setpointFields (n : Nat) (outer : Bool) : List Field :=
  Fld.SRVn_STAT_SP_LOST n :: Fld.SRVn_STAT_SP_CLAMPED n :: Fld.SRVn_SP_SP n ::
    if outer then [Fld.SRVn_OSP_OSP n, Fld.SRVn_STAT_OSTATE n] else []

theorem State.loopOuter_setpointStep (s : State) (n : Nat) : (s.setpointStep n).1.loopOuter n = s.loopOuter n := by
  refine congrArg (decide <| · = 1) ((s.movesLoop_setpointStep n).fields _ (by simp) ?_)
  cases s.loopOuter n <;> simp [fieldsApart, spField]

theorem State.loopSetpoint_inner {s : State} {n : Nat} (h : s.loopOuter n = false) (outer : Bool) :
    s.loopSetpoint n outer = (s.setpointStep n).1.setBit (Fld.SRVn_STAT_SP_CLAMPED n) (s.setpointStep n).2 := by
  have hn : ¬ (s.setpointStep n).1.loopOuter n = true := by
    rw [State.loopOuter_setpointStep, h]
    decide
  exact if_neg hn

theorem State.loopSetpoint_outer {s : State} {n : Nat} (h : s.loopOuter n = true) (outer : Bool) {u : State}
    (hu : u = (s.setpointStep n).1.when outer (·.outerStep n)) : s.loopSetpoint n outer =
      (u.wr (Reg.SRVn_SP n) (u.rampedSp n)).setBit (Fld.SRVn_STAT_SP_CLAMPED n) ((s.setpointStep n).2 || (u.rampStep n).2) := by
  subst hu
  exact if_pos ((State.loopOuter_setpointStep s n).trans h)

theorem State.movesLoop_loopSetpoint (s : State) (n : Nat) (outer : Bool) : ∃ a b,
    s.MovesLoop [.srv] (s.loopSetpoint n outer) n { s.loop n with oOn := a, oOff := b } (setpointFields n (s.loopOuter n)) := by
  have hs := (s.movesLoop_setpointStep n).mono (l' := setpointFields n (s.loopOuter n)) (fun _ => id)
    (by cases s.loopOuter n <;> simp)
  cases h : s.loopOuter n with
  | false =>
    rw [State.loopSetpoint_inner h]
    exact ⟨_, _, h ▸ hs.setBit _ (by simp) (by simp)⟩
  | true =>
    have hu : ∃ a b, s.MovesLoop [.srv] ((s.setpointStep n).1.when outer (·.outerStep n)) n { s.loop n with oOn := a, oOff := b }
        (setpointFields n true) := by
      rw [h] at hs
      obtain ⟨a, b, ho⟩ := (s.setpointStep n).1.movesLoop_outerStep n
      unfold State.when
      split
      · exact ⟨a, b, hs.loop ▸ hs.next ho (by simp)⟩
      · exact ⟨_, _, hs⟩
    obtain ⟨a, b, hu⟩ := hu
    rw [State.loopSetpoint_outer h _ rfl]
    exact ⟨a, b, (hu.wr _ (by simp)).setBit _ (by simp) (by simp)⟩

/-! The inner law (R205, R209 to R212). -/

/-- Table 8-1: the output state that the inner law gives. -/
def State.lawOut (s : State) (n : Nat) : Nat :=
  hysteresis (drivesPos (s.get (Fld.SRVn_CFG_LAW n))) (drivesNeg (s.get (Fld.SRVn_CFG_LAW n))) (s.get (Fld.SRVn_STAT_OUT n))
    (s.loopError n) (s.rd (Reg.SRVn_BON n)).toNat (s.rd (Reg.SRVn_BOFF n)).toNat
    (decide (s.get (Fld.SRVn_DWELL_T_ON n) ≤ (s.loop n).on)) (decide (s.get (Fld.SRVn_DWELL_T_OFF n) ≤ (s.loop n).off))

/-- R211: whether the law turns an output on that was off. -/
def State.switchesOn (s : State) (n : Nat) : Bool := decide (s.get (Fld.SRVn_STAT_OUT n) = 0 ∧ s.lawOut n ≠ 0)

/-- The law, stage by stage: its dwells, its count and its outputs. -/
theorem State.loopLaw_eq (s : State) (n : Nat) : ∃ f : LoopSt → LoopSt, (∀ x, ∃ a b, f x = { x with on := a, off := b }) ∧
    s.loopLaw n = ((s.modLoop n f).when (s.switchesOn n) (·.count (Fld.SRVn_CNT_SWITCHES n))).loopOut n (s.lawOut n) := by
  refine ⟨fun x => { x with
    on := if s.get (Fld.SRVn_STAT_OUT n) = 0 ∧ s.lawOut n ≠ 0 then 0 else x.on,
    off := if s.get (Fld.SRVn_STAT_OUT n) ≠ 0 ∧ s.lawOut n = 0 then 0 else x.off }, fun x => ⟨_, _, rfl⟩, ?_⟩
  unfold State.when State.switchesOn
  simp only [decide_eq_true_eq]
  rfl

theorem State.movesLoop_loopLaw (s : State) (n : Nat) : ∃ a b,
    s.MovesLoop [.srv] (s.loopLaw n) n { s.loop n with on := a, off := b } (Fld.SRVn_CNT_SWITCHES n :: outFields n) := by
  obtain ⟨f, hf, he⟩ := s.loopLaw_eq n
  obtain ⟨a, b, hx⟩ := hf (s.loop n)
  have hm := (s.movesLoop_refl [.srv] n (Fld.SRVn_CNT_SWITCHES n :: outFields n)).modLoop f (by simp)
  have hw := hm.when (f := (·.count (Fld.SRVn_CNT_SWITCHES n))) (s.switchesOn n) fun _ => hm.count (by simp) (by simp)
  rw [he]
  exact ⟨a, b, hx ▸ hw.next (hw.loop ▸ State.movesLoop_loopOut _ n (s.lawOut n)) (by simp)⟩

theorem State.get_loopLaw_out (s : State) (n : Fin 64) : (s.loopLaw n).get (Fld.SRVn_STAT_OUT n) = s.lawOut n := by
  obtain ⟨_, -, he⟩ := s.loopLaw_eq n
  rw [he]
  exact State.get_loopOut_out _ n (hysteresis_lt _ _ _ _ _ _ _ _)

/-- A field below the switch outputs is none of theirs. -/
theorem fieldsApart_swo {f : Field} (h : f.addr < Reg.SWO_STATw 0) (k : Nat) : fieldsApart f (swoField k) :=
  .inl (Nat.ne_of_lt (Nat.lt_of_lt_of_le h (Nat.le_add_right _ _)))

theorem fieldsApart_outFields {f : Field} (h : f.addr < Reg.SWO_STATw 0) (h' : fieldsApart f (Fld.SRVn_STAT_OUT n)) :
    ∀ g ∈ outFields n, fieldsApart f g := by
  simpa only [List.forall_mem_cons] using ⟨h', fieldsApart_swo h _, fieldsApart_swo h _, fun _ h => absurd h List.not_mem_nil⟩

theorem State.get_loopLaw_switches (s : State) (n : Fin 64) : (s.loopLaw n).get (Fld.SRVn_CNT_SWITCHES n) =
    min (s.get (Fld.SRVn_CNT_SWITCHES n) + (if s.get (Fld.SRVn_STAT_OUT n) = 0 ∧ s.lawOut n ≠ 0 then 1 else 0))
      (2 ^ (Fld.SRVn_CNT_SWITCHES n).width - 1) := by
  obtain ⟨f, -, he⟩ := s.loopLaw_eq n
  have hlt : (Fld.SRVn_CNT_SWITCHES n).addr < Reg.SWO_STATw 0 := srvReg_lt_swo n (by decide)
  rw [he, (State.movesLoop_loopOut _ n _).fields _ (by simp)
    (fieldsApart_outFields hlt (.inl (by simp)))]
  have hle := s.get_lt (Fld.SRVn_CNT_SWITCHES n)
  unfold State.switchesOn
  split
  · next h =>
    rw [decide_eq_true h]
    exact State.get_count_self _ _ (by simp)
  · next h =>
    rw [decide_eq_false h]
    exact (Nat.min_eq_left (Nat.le_sub_one_of_lt hle)).symm

/-- R205: the outputs of a declared loop after the law. -/
theorem State.get_loopLaw_swo (s : State) (n : Nat) (hc : (s.loopCfg n).isSome = true) :
    (drivesPos (s.get (Fld.SRVn_CFG_LAW n)) = true → (s.loopLaw n).get (swoField (2 * n)) = (decide (s.lawOut n = 1)).toNat) ∧
    (drivesNeg (s.get (Fld.SRVn_CFG_LAW n)) = true → (s.loopLaw n).get (swoField (2 * n + 1)) = (decide (s.lawOut n = 2)).toNat) := by
  obtain ⟨f, -, he⟩ := s.loopLaw_eq n
  have hw : ∀ c, ((s.modLoop n f).when c (·.count (Fld.SRVn_CNT_SWITCHES n))).get (Fld.SRVn_CFG_LAW n) = s.get (Fld.SRVn_CFG_LAW n) ∧
      ((s.modLoop n f).when c (·.count (Fld.SRVn_CNT_SWITCHES n))).cfg = s.cfg := fun c => by
    cases c with
    | false => exact ⟨rfl, rfl⟩
    | true => exact ⟨State.get_count_ne _ _ _ (by simp), rfl⟩
  obtain ⟨hlaw, hcfg⟩ := hw (s.switchesOn n)
  rw [he, ← hlaw]
  exact State.get_loopOut_swo _ n _ (by unfold State.loopCfg at hc ⊢; rwa [hcfg])

theorem State.loopError_congr (hk : s.keepsFields t l) (hl : ∀ g ∈ l, Reg.SRVn_CFG n ≠ g.addr ∧ Reg.SRVn_SP n ≠ g.addr ∧
    Reg.SRVn_FB n ≠ g.addr) : t.loopError n = s.loopError n := by
  have hcfg := hk.rd fun g hg => (hl g hg).1
  have hsp := hk.rd fun g hg => (hl g hg).2.1
  have hfb := hk.rd fun g hg => (hl g hg).2.2
  unfold State.loopError State.loopAngle State.get
  rw [hcfg, hsp, hfb]

/-! The end of a command that moves one loop. -/

/-- What the command left, the registers included, is what the status fields' turn leaves. -/
theorem State.Live.movesLoop (h : s.Live) {c : Instr} {F : State → State} (hc : exec c s = .next (s.running F)) (hF : F s = u)
    (hM : s.MovesLoop p u n x l) (hp : Part.mgt ∉ p ∧ Part.img ∉ p) (hl : ∀ g ∈ l, 0xD0000 ≤ g.addr) :
    ∃ t, exec c s = .next t ∧ s.MovesLoop p t n x l ∧ t.recd = u.recd ∧ ∀ a, t.rd a = u.rd a := by
  have hlow : ∀ a, a < 0xD0000 → u.rd a = s.rd a := fun a ha => hM.fields.rd fun g hg => Nat.ne_of_lt (Nat.lt_of_lt_of_le ha (hl g hg))
  have hi : u.Inv := h.inv.of_same (hM.touch .mgt hp.1) (hM.touch .img hp.2) (hlow _ (by decide)) (hlow _ (by decide))
    (hlow _ (by decide)) (hlow _ (by decide)) (hlow _ (by decide))
  have hrd : ∀ a, u.mirror.rd a = u.rd a := hi.rd_mirror
  exact ⟨_, h.next hc hF, ⟨hM.loop, hM.fields.trans fun f _ _ => State.get_of_rd f (hrd _), hM.touch.mirror fun _ h => nomatch h⟩,
    rfl, hrd⟩

/-! A boundary, stage by stage (R206, R212, R226). -/

/-- R212, R206: the loop after the counters of a boundary. -/
def State.countedLoop (s : State) (n : Nat) : LoopSt :=
  let o := s.get (Fld.SRVn_STAT_OUT n)
  { s.loop n with
    on := if o = 0 then (s.loop n).on else (s.loop n).on + 1
    off := if o = 0 then min 65535 ((s.loop n).off + 1) else (s.loop n).off
    bnd := if s.loopState n = 1 then (s.loop n).bnd + 1 else (s.loop n).bnd }

theorem State.loop_loopCounts (s : State) (n : Nat) : (s.loopCounts n).loop n = s.countedLoop n := cellsGet_set_self _ _ _ _

theorem State.movesLoop_loopCounts (s : State) (n : Nat) (l : List Field) :
    s.MovesLoop [.srv] (s.loopCounts n) n (s.countedLoop n) l :=
  ⟨s.loop_loopCounts n, fun _ _ _ => rfl, (State.Touch.refl _ s).loopCounts n (by decide)⟩

/-- A boundary whose counters and latches are done. -/
def State.latched (s : State) (n : Nat) (outer : Bool) : State := (s.loopCounts n).latchFb n outer

theorem State.movesLoop_latched (s : State) (n : Fin 64) (outer : Bool) :
    s.MovesLoop [.srv] (s.latched n outer) n ((s.loopCounts n).latchedLoop n) (latchFields n outer) :=
  (s.movesLoop_loopCounts n _).next ((s.loopCounts n).movesLoop_latchFb n outer) fun _ => id

/-- Of the loop, a latch leaves its commands, its dwells and its outer dwells as they were counted. -/
theorem State.loop_latched (s : State) (n : Fin 64) (outer : Bool) : ∃ a b c, (s.latched n outer).loop n = { s.countedLoop n with
    fbSeen := a, fbAt := b, ofbSeen := c
    fbAge := feedAge (s.get (Fld.SRVn_CFG_FB_KIND n)) (s.loop n).fbSeen (s.loop n).fbAge (s.loopFb n)
    ofbAge := feedAge (s.get (Fld.SRVn_CFG_OFB_KIND n)) (s.loop n).ofbSeen (s.loop n).ofbAge (s.loopOfb n) } := by
  obtain ⟨a, b, c, h⟩ := (s.loopCounts n).latchedLoop_eq n
  rw [(s.movesLoop_latched n outer).loop, h, s.loop_loopCounts]
  exact ⟨a, b, c, rfl⟩

/-- A latch changes no field of a register other than those of the feedbacks. -/
theorem State.get_latched (s : State) (n : Fin 64) (outer : Bool) {m : Nat} (lo : Nat) {w : Nat} (hw : w ≤ 32)
    (h : m ≠ 0x101054 ∧ m ≠ 0x10105C) : (s.latched n outer).get ⟨m + 0x80 * n, lo, w⟩ = s.get ⟨m + 0x80 * n, lo, w⟩ :=
  (s.movesLoop_latched n outer).fields _ hw (by cases outer <;> simp [fieldsApart, h])

theorem State.loopFb_latched (s : State) (n : Fin 64) (outer : Bool) :
    (s.latched n outer).loopFb n = s.loopFb n ∧ (s.latched n outer).loopOfb n = s.loopOfb n :=
  State.keepsFields.sources n ((s.movesLoop_latched n outer).fields.mono (by cases outer <;> simp))
    ((s.movesLoop_latched n outer).touch .ana (by decide))

theorem State.servoBoundary_eq {outer closed : Bool} {w : State} (hb : (s.loopCounts n).atOuter n = outer)
    (he : (s.latched n outer).loopEvents n outer = (w, closed)) :
    s.servoBoundary n = if w.loopState n = 1 then (w.loopSetpoint n (outer && !closed)).loopLaw n else w := by
  unfold State.servoBoundary
  dsimp only
  rw [hb]
  unfold State.latched at he
  rw [he]

theorem State.atOuter_eq (s : State) (n : Nat) : (s.loopCounts n).atOuter n =
    (s.loopOuter n && decide (s.loopState n = 1 ∧ (s.countedLoop n).bnd % (s.get (Fld.SRVn_CFG_OUTER_DIV n) + 1) = 0)) := by
  rw [← s.loop_loopCounts]
  rfl

/-! A boundary of a CLOSED loop without a fault, a command or an overlay. -/

/-- Loop `n` is CLOSED, nothing but its law acts at this boundary, and the boundary is one of its outer loop if it has one. -/
structure State.RunsLoop (s : State) (n : Fin 64) (outer : Bool) : Prop where
  closed : s.loopState n = 1
  loopOuter : s.loopOuter n = outer
  boundary : (s.loopCounts n).atOuter n = outer
  fault : (s.latched n outer).feedbackFault n outer = 0
  openReq : (s.loop n).openReq = false
  overlay : (s.loop n).overlay = none

/-- The state in which the law of a CLOSED loop acts. -/
def State.atLaw (s : State) (n : Nat) (outer : Bool) : State := ((s.latched n outer).takeSource n).loopSetpoint n outer

theorem State.RunsLoop.servoBoundary_eq {n : Fin 64} {outer : Bool} (h : s.RunsLoop n outer) :
    s.servoBoundary n = (s.atLaw n outer).loopLaw n := by
  obtain ⟨a, b, c, hx⟩ := s.loop_latched n outer
  have hst : (s.latched n outer).loopState n = 1 := (s.get_latched n outer 0 (by decide) (by decide)).trans h.closed
  have he := State.loopEvents_quiet hst h.fault (by rw [hx]; exact h.openReq) (by rw [hx]; exact h.overlay)
  rw [State.servoBoundary_eq h.boundary he, State.loopState_takeSource, if_pos hst, Bool.not_false, Bool.and_true]
  rfl

/-- The loop takes over the source of its set-point. -/
theorem State.movesLoop_takeSource (s : State) (n : Fin 64) (outer : Bool) : ∃ a b c, s.MovesLoop [.srv] ((s.latched n outer).takeSource n) n
    { s.countedLoop n with
      fbSeen := a, fbAt := b, ofbSeen := c, src := s.rd (Reg.SRVn_SPSRC n)
      fbAge := feedAge (s.get (Fld.SRVn_CFG_FB_KIND n)) (s.loop n).fbSeen (s.loop n).fbAge (s.loopFb n)
      ofbAge := feedAge (s.get (Fld.SRVn_CFG_OFB_KIND n)) (s.loop n).ofbSeen (s.loop n).ofbAge (s.loopOfb n) } (latchFields n outer) := by
  obtain ⟨a, b, c, hx⟩ := s.loop_latched n outer
  have hM := s.movesLoop_latched n outer
  have hsrc : (s.latched n outer).rd (Reg.SRVn_SPSRC n) = s.rd (Reg.SRVn_SPSRC n) := hM.fields.rd (by cases outer <;> simp)
  rw [← hM.loop, hx] at hM
  exact ⟨a, b, c, hsrc ▸ hM.takeSource (by simp)⟩

/-- What changes of a loop's registers before its law. -/
abbrev boundaryFields (n : Nat) (outer : Bool) : List Field := latchFields n outer ++ setpointFields n outer

theorem State.loopOuter_takeSource (s : State) (n : Fin 64) (outer : Bool) :
    ((s.latched n outer).takeSource n).loopOuter n = s.loopOuter n :=
  congrArg (decide <| · = 1) (s.get_latched n outer 3 (by decide) (by decide))

theorem State.RunsLoop.movesLoop_atLaw {n : Fin 64} {outer : Bool} (h : s.RunsLoop n outer) : ∃ x,
    s.MovesLoop [.srv] (s.atLaw n outer) n x (boundaryFields n outer) ∧ x.on = (s.countedLoop n).on ∧
      x.off = (s.countedLoop n).off := by
  obtain ⟨a, b, c, hM⟩ := s.movesLoop_takeSource n outer
  obtain ⟨d, e, hS⟩ := ((s.latched n outer).takeSource n).movesLoop_loopSetpoint n outer
  rw [State.loopOuter_takeSource, h.loopOuter, hM.loop] at hS
  exact ⟨_, (hM.mono (fun _ => id) (List.subset_append_left _ _)).next hS (List.subset_append_right _ _), rfl, rfl⟩

theorem State.RunsLoop.fields {n : Fin 64} {outer : Bool} (h : s.RunsLoop n outer) :
    s.keepsFields (s.atLaw n outer) (boundaryFields n outer) := by
  obtain ⟨_, hM, -, -⟩ := h.movesLoop_atLaw
  exact hM.fields

/-- The configuration of a loop and the source of its set-point stand in registers that no boundary writes. -/
theorem ne_boundaryFields (n : Nat) (outer : Bool) {m : Nat} (h : m < 0x101050) : ∀ g ∈ boundaryFields n outer, m + 0x80 * n ≠ g.addr := by
  have hne : ∀ k, 0x101050 ≤ k → m ≠ k := fun k hk => by omega
  have hstat := hne 0x101050 (by decide)
  have hfb := hne 0x101054 (by decide)
  have hsp := hne 0x101058 (by decide)
  have hofb := hne 0x10105C (by decide)
  have hosp := hne 0x101060 (by decide)
  cases outer with
  | false => simp [hstat, hfb, hsp]
  | true => simp [hstat, hfb, hsp, hofb, hosp]

theorem State.RunsLoop.rd_config {n : Fin 64} {outer : Bool} (h : s.RunsLoop n outer) {m : Nat} (hm : m < 0x101050) :
    (s.atLaw n outer).rd (m + 0x80 * n) = s.rd (m + 0x80 * n) := h.fields.rd (ne_boundaryFields n outer hm)

/-- Neither the outputs nor their count is set before the law. -/
theorem State.RunsLoop.get_before {n : Fin 64} {outer : Bool} (h : s.RunsLoop n outer) :
    (s.atLaw n outer).get (Fld.SRVn_STAT_OUT n) = s.get (Fld.SRVn_STAT_OUT n) ∧
    (s.atLaw n outer).get (Fld.SRVn_CNT_SWITCHES n) = s.get (Fld.SRVn_CNT_SWITCHES n) :=
  ⟨h.fields _ (by simp) (by cases outer <;> simp [fieldsApart]), h.fields _ (by simp) (by cases outer <;> simp [fieldsApart])⟩

/-- R210 to R212: the output state of a boundary, by the error as it then stands. -/
theorem State.RunsLoop.lawOut {n : Fin 64} {outer : Bool} (h : s.RunsLoop n outer) : (s.atLaw n outer).lawOut n =
    hysteresis (drivesPos (s.get (Fld.SRVn_CFG_LAW n))) (drivesNeg (s.get (Fld.SRVn_CFG_LAW n))) (s.get (Fld.SRVn_STAT_OUT n))
      ((s.atLaw n outer).loopError n) (s.rd (Reg.SRVn_BON n)).toNat (s.rd (Reg.SRVn_BOFF n)).toNat
      (decide (s.get (Fld.SRVn_DWELL_T_ON n) ≤ (s.loop n).on + (if s.get (Fld.SRVn_STAT_OUT n) = 0 then 0 else 1)))
      (decide (s.get (Fld.SRVn_DWELL_T_OFF n) ≤
        (if s.get (Fld.SRVn_STAT_OUT n) = 0 then min 65535 ((s.loop n).off + 1) else (s.loop n).off))) := by
  obtain ⟨x, hM, hon, hoff⟩ := h.movesLoop_atLaw
  have hcfg := h.rd_config (m := 0x101000) (by decide)
  have hdwell := h.rd_config (m := 0x101018) (by decide)
  have hbon := h.rd_config (m := 0x101010) (by decide)
  have hboff := h.rd_config (m := 0x101014) (by decide)
  have hon' : (s.countedLoop n).on = (s.loop n).on + (if s.get (Fld.SRVn_STAT_OUT n) = 0 then 0 else 1) := by
    change (if s.get (Fld.SRVn_STAT_OUT n) = 0 then (s.loop n).on else (s.loop n).on + 1) = _
    split
    · rfl
    · rfl
  unfold State.lawOut
  rw [State.get_of_rd (Fld.SRVn_CFG_LAW n) hcfg, State.get_of_rd (Fld.SRVn_DWELL_T_ON n) hdwell,
    State.get_of_rd (Fld.SRVn_DWELL_T_OFF n) hdwell, hbon, hboff, h.get_before.1, hM.loop, hon, hoff, hon']
  rfl

/-- What changes of a loop's registers at a boundary. -/
abbrev lawFields (n : Nat) : List Field := Fld.SRVn_CNT_SWITCHES n :: outFields n

theorem State.RunsLoop.movesLoop {n : Fin 64} {outer : Bool} (h : s.RunsLoop n outer) : ∃ x,
    s.MovesLoop [.srv] (s.servoBoundary n) n x (boundaryFields n outer ++ lawFields n) := by
  obtain ⟨_, hM, -, -⟩ := h.movesLoop_atLaw
  obtain ⟨a, b, hL⟩ := (s.atLaw n outer).movesLoop_loopLaw n
  rw [h.servoBoundary_eq]
  exact ⟨_, (hM.mono (fun _ => id) (List.subset_append_left _ _)).next hL (List.subset_append_right _ _)⟩

/-- The law changes none of the fields that the stages before it have set. -/
theorem State.RunsLoop.law_keeps {n : Fin 64} {outer : Bool} (h : s.RunsLoop n outer) :
    (s.atLaw n outer).keepsFields (s.servoBoundary n) (lawFields n) := by
  obtain ⟨_, _, hL⟩ := (s.atLaw n outer).movesLoop_loopLaw n
  rw [h.servoBoundary_eq]
  exact hL.fields

/-- A register of a loop, its state and its counters apart, is none of those that the law writes. -/
theorem ne_lawFields (n : Fin 64) {m : Nat} (h : m < 0x101050 ∨ 0x101050 < m ∧ m < 0x101064) :
    ∀ g ∈ lawFields n, m + 0x80 * n ≠ g.addr := by
  have hlt : ∀ k, m + 0x80 * n ≠ (swoField k).addr := fun k =>
    Nat.ne_of_lt (Nat.lt_of_lt_of_le (srvReg_lt_swo n (by omega)) (Nat.le_add_right _ _))
  have h1 : m ≠ 0x101064 := by omega
  have h2 : m ≠ 0x101050 := by omega
  simpa [h1, h2] using ⟨hlt (2 * n), hlt (2 * n + 1)⟩

theorem State.RunsLoop.loopError {n : Fin 64} {outer : Bool} (h : s.RunsLoop n outer) :
    (s.servoBoundary n).loopError n = (s.atLaw n outer).loopError n :=
  State.loopError_congr h.law_keeps fun g hg =>
    ⟨ne_lawFields n (by decide) g hg, ne_lawFields n (by decide) g hg, ne_lawFields n (by decide) g hg⟩

/-- The registers that a boundary without a fault, a command or an overlay may change. -/
abbrev boundaryRegs (n : Nat) (outer : Bool) : List Nat :=
  [Reg.SRVn_FB n, Reg.SRVn_SP n, Reg.SRVn_STAT n, Reg.SRVn_CNT n, Reg.SWO_STATw (2 * n / 32)] ++
    if outer then [Reg.SRVn_OFB n, Reg.SRVn_OSP n] else []

theorem addr_of_boundaryFields (n : Nat) (outer : Bool) :
    ∀ a ∈ (boundaryFields n outer ++ lawFields n).map Field.addr, a ∈ boundaryRegs n outer := by
  have hpair : (2 * n + 1) / 32 = 2 * n / 32 := by omega
  cases outer with
  | false => simp [hpair]
  | true => simp [hpair]

theorem boundaryRegs_ge (n : Nat) (outer : Bool) : ∀ a ∈ boundaryRegs n outer, Reg.SRVn_CFG 0 ≤ a := by
  have hle : ∀ {m k : Nat}, Reg.SRVn_CFG 0 ≤ m → Reg.SRVn_CFG 0 ≤ m + k := fun h => Nat.le_trans h (Nat.le_add_right _ _)
  have hinner : ∀ a ∈ [Reg.SRVn_FB n, Reg.SRVn_SP n, Reg.SRVn_STAT n, Reg.SRVn_CNT n, Reg.SWO_STATw (2 * n / 32)], Reg.SRVn_CFG 0 ≤ a := by
    simpa only [List.forall_mem_cons] using ⟨hle (by decide), hle (by decide), hle (by decide), hle (by decide), hle (by decide),
      fun _ h => absurd h List.not_mem_nil⟩
  have houter : ∀ a ∈ [Reg.SRVn_OFB n, Reg.SRVn_OSP n], Reg.SRVn_CFG 0 ≤ a := by
    simpa only [List.forall_mem_cons] using ⟨hle (by decide), hle (by decide), fun _ h => absurd h List.not_mem_nil⟩
  cases outer with
  | false => exact List.forall_mem_append.2 ⟨hinner, fun _ h => absurd h List.not_mem_nil⟩
  | true => exact List.forall_mem_append.2 ⟨hinner, houter⟩

theorem boundaryFields_ge (n : Nat) (outer : Bool) : ∀ g ∈ boundaryFields n outer ++ lawFields n, Reg.SRVn_CFG 0 ≤ g.addr :=
  fun _ hg => boundaryRegs_ge n outer _ (addr_of_boundaryFields n outer _ (List.mem_map_of_mem hg))

/-- Neither the state of a loop nor a pending close is set by its set-points and its law. -/
theorem statField_apart (n : Fin 64) (outer : Bool) {lo w : Nat} (h : lo + w ≤ 2 ∨ 12 ≤ lo) :
    ∀ g ∈ boundaryFields n outer ++ lawFields n, fieldsApart ⟨Reg.SRVn_STAT n, lo, w⟩ g := by
  have hb : ∀ g ∈ boundaryFields n outer, fieldsApart ⟨Reg.SRVn_STAT n, lo, w⟩ g := by
    have hlost : lo + w ≤ 10 ∨ 11 ≤ lo := by omega
    have hclamped : lo + w ≤ 11 ∨ 12 ≤ lo := by omega
    have hostate : lo + w ≤ 4 ∨ 6 ≤ lo := by omega
    cases outer with
    | false => simp [fieldsApart, hlost, hclamped]
    | true => simp [fieldsApart, hlost, hclamped, hostate]
  have ho : ∀ g ∈ outFields n, fieldsApart ⟨Reg.SRVn_STAT n, lo, w⟩ g :=
    fieldsApart_outFields (srvReg_lt_swo n (by decide)) (.inr (show lo + w ≤ 2 ∨ 2 + 2 ≤ lo by omega))
  exact List.forall_mem_append.2 ⟨hb, List.forall_mem_cons.2 ⟨.inl (by simp), ho⟩⟩

/-- The end of such a boundary. -/
theorem State.RunsLoop.ends {n : Fin 64} {outer : Bool} (h : s.RunsLoop n outer) (hs : s.Live) {c : Instr} {F : State → State}
    (hc : exec c s = .next (s.running F)) (hF : F s = s.servoBoundary n) : ∃ t, exec c s = .next t ∧
    s.keepsFields t (boundaryFields n outer ++ lawFields n) ∧ State.Touch [.srv] s t ∧ ∀ a, t.rd a = (s.servoBoundary n).rd a := by
  obtain ⟨_, hM⟩ := h.movesLoop
  obtain ⟨t, ht, hM', -, hrd⟩ := hs.movesLoop hc hF hM (by decide) fun g hg =>
    Nat.le_trans (by decide) (boundaryFields_ge n outer g hg)
  exact ⟨t, ht, hM'.fields, hM'.touch, hrd⟩

/-- The feedbacks that a boundary latches stay. -/
theorem State.RunsLoop.rd_fb {n : Fin 64} {outer : Bool} (h : s.RunsLoop n outer) {m : Nat} (hm : m = 0x101054 ∨ m = 0x10105C) :
    (s.servoBoundary n).rd (m + 0x80 * n) = (s.latched n outer).rd (m + 0x80 * n) := by
  obtain ⟨_, _, hS⟩ := ((s.latched n outer).takeSource n).movesLoop_loopSetpoint n outer
  have hset : (s.atLaw n outer).rd (m + 0x80 * n) = (s.latched n outer).rd (m + 0x80 * n) :=
    hS.fields.rd (by
      rw [State.loopOuter_takeSource, h.loopOuter]
      obtain rfl | rfl := hm
      · cases outer <;> simp
      · cases outer <;> simp)
  exact (h.law_keeps.rd (ne_lawFields n (by omega))).trans hset

theorem State.RunsLoop.rd_latched_fb {n : Fin 64} {outer : Bool} {v : Int} {r : Bool} {q : Nat} (h : s.RunsLoop n outer)
    (hfb : s.loopFb n = some (v, r, q)) : (s.servoBoundary n).rd (Reg.SRVn_FB n) = ofInt32 v :=
  (h.rd_fb (.inl rfl)).trans ((s.loopCounts n).rd_latchFb_fb n outer hfb)

theorem State.RunsLoop.get_out {n : Fin 64} {outer : Bool} (h : s.RunsLoop n outer) :
    (s.servoBoundary n).get (Fld.SRVn_STAT_OUT n) = (s.atLaw n outer).lawOut n := by
  rw [h.servoBoundary_eq]
  exact State.get_loopLaw_out _ n

/-- R205: the outputs of a declared loop after a boundary. -/
theorem State.RunsLoop.get_swo {n : Fin 64} {outer : Bool} (h : s.RunsLoop n outer) (hc : (s.loopCfg n).isSome = true) :
    (drivesPos (s.get (Fld.SRVn_CFG_LAW n)) = true → (s.servoBoundary n).get (swoField (2 * n)) =
      (decide ((s.atLaw n outer).lawOut n = 1)).toNat) ∧
    (drivesNeg (s.get (Fld.SRVn_CFG_LAW n)) = true → (s.servoBoundary n).get (swoField (2 * n + 1)) =
      (decide ((s.atLaw n outer).lawOut n = 2)).toNat) := by
  obtain ⟨_, hM, -, -⟩ := h.movesLoop_atLaw
  have hcfg : (s.atLaw n outer).loopCfg n = s.loopCfg n := by
    unfold State.loopCfg
    rw [(hM.touch .cfg (by decide)).1]
  have hlaw : (s.atLaw n outer).get (Fld.SRVn_CFG_LAW n) = s.get (Fld.SRVn_CFG_LAW n) :=
    State.get_of_rd _ (h.rd_config (by decide))
  rw [h.servoBoundary_eq, ← hlaw]
  exact State.get_loopLaw_swo _ n (hcfg ▸ hc)

theorem State.RunsLoop.get_switches {n : Fin 64} {outer : Bool} (h : s.RunsLoop n outer) :
    (s.servoBoundary n).get (Fld.SRVn_CNT_SWITCHES n) = min (s.get (Fld.SRVn_CNT_SWITCHES n) +
      (if s.get (Fld.SRVn_STAT_OUT n) = 0 ∧ (s.atLaw n outer).lawOut n ≠ 0 then 1 else 0))
      (2 ^ (Fld.SRVn_CNT_SWITCHES n).width - 1) := by
  rw [h.servoBoundary_eq, State.get_loopLaw_switches, h.get_before.1, h.get_before.2]

theorem State.RunsLoop.loopState {n : Fin 64} {outer : Bool} (h : s.RunsLoop n outer) : (s.servoBoundary n).loopState n = 1 := by
  obtain ⟨_, hM⟩ := h.movesLoop
  exact (hM.fields (Fld.SRVn_STAT_STATE n) (by simp) (statField_apart n outer (.inl (by decide)))).trans h.closed

/-- R217: the set-point that a loop without an outer one takes from the host. -/
theorem State.RunsLoop.rd_sp_host {n : Fin 64} (h : s.RunsLoop n false) (hsrc : bitsGet (s.rd (Reg.SRVn_SPSRC n)) 0 3 = 5)
    (hr : s.rd (Reg.SRVn_SPRATE n) = 0) (ha : s.loopAngle n = false) : (s.servoBoundary n).rd (Reg.SRVn_SP n) =
      ofInt32 (clampInt (s.rd (Reg.SRVn_SPMIN n)).toInt (s.rd (Reg.SRVn_SPMAX n)).toInt (s.rd (Reg.SRVn_HOSTSP n)).toInt) := by
  obtain ⟨_, _, _, hM⟩ := s.movesLoop_takeSource n false
  have hin : ((s.latched n false).takeSource n).loopOuter n = false := (s.loopOuter_takeSource n false).trans h.loopOuter
  have hang : ((s.latched n false).takeSource n).loopAngle n = false :=
    (congrArg (decide <| · = 1) (s.get_latched n false 2 (by decide) (by decide))).trans ha
  have hsp := State.rd_setpointStep_host hin hang (by rw [hM.loop]; exact hsrc) ((hM.fields.rd (by simp)).trans hr)
  rw [hM.fields.rd (by simp), hM.fields.rd (by simp), hM.fields.rd (by simp)] at hsp
  rw [h.law_keeps.rd (ne_lawFields n (by decide)), ← hsp]
  unfold State.atLaw
  rw [State.loopSetpoint_inner hin]
  exact State.rd_setBit_ne _ _ _ (by simp)

/-- R207, R208: a loop without an outer one whose feedback delivers. -/
theorem State.runsLoop_inner {n : Fin 64} {v : Int} {q : Nat} (hst : s.loopState n = 1) (hin : s.loopOuter n = false)
    (hfb : s.loopFb n = some (v, true, q))
    (hage : sourceAge (s.get (Fld.SRVn_CFG_FB_KIND n)) (s.loop n).fbSeen (s.loop n).fbAge q ≤ s.get (Fld.SRVn_SAMPLE_FB_AGE n))
    (ho : (s.loop n).openReq = false) (hv : (s.loop n).overlay = none) : s.RunsLoop n false := by
  have hb : (s.loopCounts n).atOuter n = false := by rw [State.atOuter_eq, hin]; rfl
  obtain ⟨a, b, c, hx⟩ := s.loop_latched n false
  refine ⟨hst, hin, hb, State.feedbackFault_inner ((s.loopFb_latched n false).1.trans hfb) ?_, ho, hv⟩
  rw [hx, hfb, s.get_latched n false 24 (by decide) (by decide)]
  exact hage

/-- R206, R214, R220: a loop at a boundary of its outer loop, both of whose feedbacks deliver. -/
theorem State.runsLoop_outer {n : Fin 64} {v w : Int} {q r : Nat} (hst : s.loopState n = 1) (hout : s.loopOuter n = true)
    (hb : ((s.loop n).bnd + 1) % (s.get (Fld.SRVn_CFG_OUTER_DIV n) + 1) = 0)
    (hfb : s.loopFb n = some (v, true, q)) (hofb : s.loopOfb n = some (w, true, r))
    (hage : sourceAge (s.get (Fld.SRVn_CFG_FB_KIND n)) (s.loop n).fbSeen (s.loop n).fbAge q ≤ s.get (Fld.SRVn_SAMPLE_FB_AGE n))
    (hage' : sourceAge (s.get (Fld.SRVn_CFG_OFB_KIND n)) (s.loop n).ofbSeen (s.loop n).ofbAge r ≤ s.get (Fld.SRVn_SAMPLE_FB_AGE n))
    (ho : (s.loop n).openReq = false) (hv : (s.loop n).overlay = none) : s.RunsLoop n true := by
  have hbnd : (s.countedLoop n).bnd = (s.loop n).bnd + 1 := if_pos hst
  have hat : (s.loopCounts n).atOuter n = true := by rw [State.atOuter_eq, hout, hbnd, decide_eq_true ⟨hst, hb⟩]; rfl
  obtain ⟨a, b, c, hx⟩ := s.loop_latched n true
  have hmax := s.get_latched n true (m := 0x101004) 24 (by decide : 8 ≤ 32) (by decide)
  refine ⟨hst, hout, hat, State.feedbackFault_outer ((s.loopFb_latched n true).1.trans hfb) ?_
    ((s.loopFb_latched n true).2.trans hofb) ?_, ho, hv⟩
  · rw [hx, hfb, hmax]
    exact hage
  · rw [hx, hofb, hmax]
    exact hage'

/-! The outer law (R214, R220). -/

/-- The state in which the outer law of a loop acts. -/
def State.atOuterLaw (s : State) (n : Nat) : State := (((s.latched n true).takeSource n).setpointStep n).1

theorem State.movesLoop_atOuterLaw {n : Fin 64} (h : s.RunsLoop n true) : ∃ x,
    s.MovesLoop [.srv] (s.atOuterLaw n) n x [Fld.SRVn_FB_FB n, Fld.SRVn_OFB_OFB n, Fld.SRVn_STAT_SP_LOST n, Fld.SRVn_OSP_OSP n] ∧
      x.oOn = (s.loop n).oOn ∧ x.oOff = (s.loop n).oOff := by
  obtain ⟨a, b, c, hM⟩ := s.movesLoop_takeSource n true
  have hS := ((s.latched n true).takeSource n).movesLoop_setpointStep n
  rw [State.loopOuter_takeSource, h.loopOuter, hM.loop] at hS
  exact ⟨_, (hM.mono (fun _ => id) (by simp)).next hS (by simp), rfl, rfl⟩

theorem State.RunsLoop.atLaw_outer {n : Fin 64} (h : s.RunsLoop n true) : ∃ b, s.atLaw n true =
    (((s.atOuterLaw n).outerStep n).wr (Reg.SRVn_SP n) (((s.atOuterLaw n).outerStep n).rampedSp n)).setBit
      (Fld.SRVn_STAT_SP_CLAMPED n) b :=
  ⟨_, State.loopSetpoint_outer ((s.loopOuter_takeSource n true).trans h.loopOuter) true rfl⟩

/-- What the stages from the outer law on change. -/
theorem State.RunsLoop.outer_keeps {n : Fin 64} (h : s.RunsLoop n true) : (s.atOuterLaw n).keepsFields (s.servoBoundary n)
    (Fld.SRVn_STAT_OSTATE n :: Fld.SRVn_SP_SP n :: Fld.SRVn_STAT_SP_CLAMPED n :: lawFields n) := by
  obtain ⟨_, _, hO⟩ := (s.atOuterLaw n).movesLoop_outerStep n
  obtain ⟨b, hb⟩ := h.atLaw_outer
  have hL := h.law_keeps
  rw [hb] at hL
  exact (((hO.mono (l' := Fld.SRVn_STAT_OSTATE n :: Fld.SRVn_SP_SP n :: Fld.SRVn_STAT_SP_CLAMPED n :: lawFields n) (fun _ => id)
    (by simp)).wr _ (by simp)).setBit _ (by simp) (by simp)).fields.trans (hL.mono (by simp +contextual))

theorem State.RunsLoop.get_ostate {n : Fin 64} (h : s.RunsLoop n true) :
    (s.servoBoundary n).get (Fld.SRVn_STAT_OSTATE n) = (s.atOuterLaw n).outerState n := by
  obtain ⟨b, hb⟩ := h.atLaw_outer
  have hswo := fun k => fieldsApart_swo (f := Fld.SRVn_STAT_OSTATE n) (srvReg_lt_swo n (by decide)) k
  rw [h.law_keeps _ (by simp) (by simpa using ⟨.inl (by simp), .inr (.inr (by simp)), hswo (2 * n), hswo (2 * n + 1)⟩), hb,
    State.get_setBit_disjoint _ _ _ _ (by simp) (by simp) (by simp), State.get_wr_ne _ _ _ (by simp), State.get_outerStep_ostate]

/-- R214: the outer state of a boundary, by the outer error as it then stands. -/
theorem State.RunsLoop.outerState {n : Fin 64} (h : s.RunsLoop n true) {d : Int}
    (hd : d = ((s.servoBoundary n).rd (Reg.SRVn_OSP n)).toInt - ((s.servoBoundary n).rd (Reg.SRVn_OFB n)).toInt) :
    (s.servoBoundary n).get (Fld.SRVn_STAT_OSTATE n) = hysteresis true true (s.get (Fld.SRVn_STAT_OSTATE n))
      (if s.get (Fld.SRVn_CFG_O_INV n) = 1 then -d else d) (s.rd (Reg.SRVn_OBON n)).toNat (s.rd (Reg.SRVn_OBOFF n)).toNat
      (decide (s.get (Fld.SRVn_OTIMER_O_TON n) ≤ (s.loop n).oOn + (if s.get (Fld.SRVn_STAT_OSTATE n) = 0 then 0 else 1)))
      (decide (s.get (Fld.SRVn_OTIMER_O_TOFF n) ≤
        min 255 ((s.loop n).oOff + (if s.get (Fld.SRVn_STAT_OSTATE n) = 0 then 1 else 0)))) := by
  obtain ⟨x, hM, hon, hoff⟩ := State.movesLoop_atOuterLaw h
  have hosp := h.outer_keeps.rd (a := Reg.SRVn_OSP n) (by simpa using ne_lawFields n (m := 0x101060) (by decide))
  have hofb := h.outer_keeps.rd (a := Reg.SRVn_OFB n) (by simpa using ne_lawFields n (m := 0x10105C) (by decide))
  have hcfg := hM.fields.rd (a := Reg.SRVn_CFG n) (by simp)
  have htimer := hM.fields.rd (a := Reg.SRVn_OTIMER n) (by simp)
  have hobon := hM.fields.rd (a := Reg.SRVn_OBON n) (by simp)
  have hoboff := hM.fields.rd (a := Reg.SRVn_OBOFF n) (by simp)
  have hst := hM.fields (Fld.SRVn_STAT_OSTATE n) (by simp) (by simp [fieldsApart])
  rw [h.get_ostate, hd, hosp, hofb]
  unfold State.outerState
  rw [State.get_of_rd (Fld.SRVn_CFG_O_INV n) hcfg, State.get_of_rd (Fld.SRVn_OTIMER_O_TON n) htimer,
    State.get_of_rd (Fld.SRVn_OTIMER_O_TOFF n) htimer, hobon, hoboff, hst, hM.loop, hon, hoff]

/-- R214: the set-point of the inner loop, ramped by the outer state as it then stands. -/
theorem State.RunsLoop.rd_sp_outer {n : Fin 64} (h : s.RunsLoop n true) {st : Nat}
    (hst : st = (s.servoBoundary n).get (Fld.SRVn_STAT_OSTATE n)) : (s.servoBoundary n).rd (Reg.SRVn_SP n) =
      ofInt32 (clampInt (s.rd (Reg.SRVn_SPMIN n)).toInt (s.rd (Reg.SRVn_SPMAX n)).toInt ((s.rd (Reg.SRVn_SP n)).toInt +
        (if st = 1 then ((s.rd (Reg.SRVn_ORAMP n)).toNat : Int)
          else if st = 2 then -((s.rd (Reg.SRVn_ORAMP n)).toNat : Int) else 0))) := by
  obtain ⟨_, hM, -, -⟩ := State.movesLoop_atOuterLaw h
  obtain ⟨_, _, hO⟩ := (s.atOuterLaw n).movesLoop_outerStep n
  obtain ⟨b, hb⟩ := h.atLaw_outer
  have hmin := (hO.fields.rd (a := Reg.SRVn_SPMIN n) (by simp)).trans (hM.fields.rd (by simp))
  have hmax := (hO.fields.rd (a := Reg.SRVn_SPMAX n) (by simp)).trans (hM.fields.rd (by simp))
  have hramp := (hO.fields.rd (a := Reg.SRVn_ORAMP n) (by simp)).trans (hM.fields.rd (by simp))
  have hsp := (hO.fields.rd (a := Reg.SRVn_SP n) (by simp)).trans (hM.fields.rd (by simp))
  have hst' : ((s.atOuterLaw n).outerStep n).get (Fld.SRVn_STAT_OSTATE n) = st := by
    rw [hst, h.get_ostate, State.get_outerStep_ostate]
  rw [h.law_keeps.rd (ne_lawFields n (by decide)), hb, State.rd_setBit_ne _ _ _ (by simp), State.rd_wr_self]
  unfold State.rampedSp
  rw [hst', hmin, hmax, hramp, hsp]

/-! A pending close shown (Table 8-16). -/

theorem State.movesLoop_closePend (s : State) (n : Nat) :
    s.MovesLoop [.srv] (s.closePend n) n (s.loop n) [Fld.SRVn_STAT_CLOSE_PEND n] :=
  (s.movesLoop_refl _ n _).setBit _ (by simp) (by simp)

theorem State.get_closePend (s : State) (n : Nat) : (s.closePend n).get (Fld.SRVn_STAT_CLOSE_PEND n) =
    ((s.loop n).cmdClose || (s.loop n).auto).toNat := State.get_setBit_self _ _ _ (by simp) rfl

theorem fieldsApart_stateFields {m : Nat} (lo w : Nat) (hm : Reg.SRVn_CFG 0 ≤ m)
    (h : fieldsApart ⟨m + 0x80 * n, lo, w⟩ (Fld.SRVn_STAT_STATE n)) : ∀ g ∈ stateFields n, fieldsApart ⟨m + 0x80 * n, lo, w⟩ g := by
  simpa only [List.forall_mem_cons] using ⟨h, .inl (srvReg_ne_loopBit (by decide) (by decide) hm n),
    .inl (srvReg_ne_loopBit (by decide) (by decide) hm n), fun _ h => absurd h List.not_mem_nil⟩

/-! A fault (R223). -/

/-- What a fault changes of a loop's registers. -/
abbrev faultFields (n : Nat) : List Field :=
  Fld.SRVn_STAT_CAUSE n :: Fld.SRVn_CNT_FAULTS n :: (outFields n ++ stateFields n)

/-- A loop in which a fault has latched. -/
def LoopSt.faulted (x : LoopSt) (cause : Nat) : LoopSt := { x with latched := cause, cmdClose := false, openReq := false, overlay := none }

/-- The loop at its fault, before the fault is counted and raised. -/
def State.faultShown (s : State) (n cause : Nat) : State :=
  (((s.loopOff n).modLoop n (·.faulted cause)).loopTo n 2).set (Fld.SRVn_STAT_CAUSE n) cause

theorem State.loopFault_eq (s : State) (n cause : Nat) : ∃ src d, s.loopFault n cause =
    ((s.faultShown n cause).count (Fld.SRVn_CNT_FAULTS n)).raise 0x5001 src d := ⟨_, _, rfl⟩

theorem State.movesLoop_faultShown (s : State) (n cause : Nat) : s.MovesLoop [.chans, .alc, .srv, .port] (s.faultShown n cause) n
    ((if s.get (Fld.SRVn_STAT_OUT n) ≠ 0 then { s.loop n with off := 0 } else s.loop n).faulted cause) (faultFields n) := by
  have hoff := ((s.movesLoop_loopOff n).mono (p' := [.chans, .alc, .srv, .port]) (l' := faultFields n) (by simp)
    (by simp +contextual)).modLoop (·.faulted cause) (by simp)
  have hto := (((s.loopOff n).modLoop n (·.faulted cause)).movesLoop_loopTo n 2).mono (p' := [.chans, .alc, .srv, .port])
    (l' := faultFields n) (by simp) (by simp +contextual)
  rw [hoff.loop] at hto
  exact (hoff.trans hto).set _ (by simp) (by simp)

theorem State.movesLoop_loopFault (s : State) (n cause : Nat) : s.MovesLoop [.chans, .alc, .srv, .port] (s.loopFault n cause) n
    ((if s.get (Fld.SRVn_STAT_OUT n) ≠ 0 then { s.loop n with off := 0 } else s.loop n).faulted cause) (faultFields n) := by
  have hM := (s.movesLoop_faultShown n cause).count (f := Fld.SRVn_CNT_FAULTS n) (by simp) (by simp)
  obtain ⟨src, d, he⟩ := s.loopFault_eq n cause
  rw [he]
  exact hM.raise _ _ _

/-- R223: what a fault shows. -/
structure State.ShowsFault (s t : State) (n cause : Nat) : Prop where
  state : t.loopState n = 2
  cause : t.get (Fld.SRVn_STAT_CAUSE n) = cause
  out : t.get (Fld.SRVn_STAT_OUT n) = 0
  faults : t.get (Fld.SRVn_CNT_FAULTS n) = min (s.get (Fld.SRVn_CNT_FAULTS n) + 1) (2 ^ (Fld.SRVn_CNT_FAULTS n).width - 1)
  event : ∃ e ∈ t.recd.port, e.code = 0x5001

theorem State.showsFault_loopFault (s : State) (n : Fin 64) {cause : Nat} (hc : cause < 16) : s.ShowsFault (s.loopFault n cause) n cause := by
  obtain ⟨src, d, he⟩ := s.loopFault_eq n cause
  have hto := (((s.loopOff n).modLoop n (·.faulted cause)).movesLoop_loopTo n 2).fields
  rw [he]
  refine ⟨?_, ?_, ?_, ?_, ⟨_, List.mem_append_right _ (List.mem_singleton_self _), rfl⟩⟩
  · unfold State.loopState State.faultShown
    rw [State.get_raise, State.get_count_ne _ _ _ (by simp), State.get_set_disjoint _ _ _ _ (by simp) (by simp) (by simp)]
    exact State.loopState_loopTo _ _ (by decide)
  · unfold State.faultShown
    rw [State.get_raise, State.get_count_ne _ _ _ (by simp), State.get_set_self _ _ _ (by simp)]
    exact Nat.mod_eq_of_lt hc
  · unfold State.faultShown
    rw [State.get_raise, State.get_count_ne _ _ _ (by simp), State.get_set_disjoint _ _ _ _ (by simp) (by simp) (by simp),
      hto (Fld.SRVn_STAT_OUT n) (by simp) (fieldsApart_stateFields 2 2 (by decide) (by simp [fieldsApart]))]
    exact s.get_loopOff_out n
  · have hoff := (s.movesLoop_loopOff n).fields (Fld.SRVn_CNT_FAULTS n) (by simp)
      (fieldsApart_outFields (srvReg_lt_swo n (by decide)) (by simp [fieldsApart]))
    rw [State.get_raise, State.get_count_self _ _ (by simp), ← hoff]
    unfold State.faultShown
    rw [State.get_set_ne _ _ _ _ (by simp),
      hto (Fld.SRVn_CNT_FAULTS n) (by simp) (fieldsApart_stateFields 16 8 (by decide) (by simp [fieldsApart]))]
    rfl

/-- The registers that a fault may change. -/
theorem addr_of_faultFields (n : Fin 64) : ∀ a ∈ (faultFields n).map Field.addr, a ∈ [Reg.SRVn_STAT n, Reg.SRVn_CNT n,
    Reg.SRV_CLOSED0, Reg.SRV_CLOSED1, Reg.SRV_FAULT0, Reg.SRV_FAULT1, Reg.SWO_STATw (2 * n / 32)] := by
  have hpair : (2 * n.val + 1) / 32 = 2 * n.val / 32 := by omega
  by_cases h : n.val < 32
  · simp [loopBit, h, hpair]
  · simp [loopBit, h, hpair]

theorem State.ShowsFault.congr {cause : Nat} (h : s.ShowsFault t n cause) (hrd : ∀ a, u.rd a = t.rd a) (hrec : u.recd = t.recd) :
    s.ShowsFault u n cause where
  state := (State.get_of_rd _ (hrd _)).trans h.state
  cause := (State.get_of_rd _ (hrd _)).trans h.cause
  out := (State.get_of_rd _ (hrd _)).trans h.out
  faults := (State.get_of_rd _ (hrd _)).trans h.faults
  event := hrec ▸ h.event

theorem State.showsFault_takeSource {cause : Nat} (h : s.ShowsFault t n cause) : s.ShowsFault (t.takeSource n) n cause :=
  h.congr (fun _ => rfl) rfl

theorem faultFields_ge (n : Fin 64) : ∀ g ∈ faultFields n, 0xD0000 ≤ g.addr := by
  intro g hg
  have ha := addr_of_faultFields n g.addr (List.mem_map_of_mem hg)
  simp only [List.mem_cons, List.not_mem_nil, or_false, Reg.SRVn_STAT, Reg.SRVn_CNT, Reg.SRV_CLOSED0,
    Reg.SRV_CLOSED1, Reg.SRV_FAULT0, Reg.SRV_FAULT1, Reg.SWO_STATw] at ha
  omega

/-- R208, R223: at a boundary at which its feedback has stopped, a CLOSED loop latches a fault. -/
theorem State.servoBoundary_lost {n : Fin 64} (hst : s.loopState n = 1) (hfb : s.loopFb n = none) (ha : (s.loop n).auto = false)
    {outer : Bool} (hb : (s.loopCounts n).atOuter n = outer) :
    s.servoBoundary n = ((s.latched n outer).loopFault n 2).takeSource n := by
  obtain ⟨a, b, c, hx⟩ := s.loop_latched n outer
  have hst' : (s.latched n outer).loopState n = 1 := (s.get_latched n outer 0 (by decide) (by decide)).trans hst
  have hauto : ((s.latched n outer).loop n).auto = false := by rw [hx]; exact ha
  have hshow := (s.latched n outer).showsFault_loopFault n (cause := 2) (by decide)
  have hM := ((s.latched n outer).movesLoop_loopFault n 2).loop
  have he := State.loopEvents_fault hst' (State.feedbackFault_lost ((s.loopFb_latched n outer).1.trans hfb) outer) (by decide)
    hshow.state (by rw [hM]; rfl) (by rw [hM]; rfl) (by rw [hM]; rfl) (by rw [hM]; split <;> exact hauto)
  rw [State.servoBoundary_eq hb he, State.loopState_takeSource, hshow.state]
  exact if_neg (by decide)

/-- R208, R223: a feedback that has stopped. -/
theorem servoBoundary_fbLost {n : Fin 64} (h : s.Live) (hst : s.loopState n = 1) (hfb : s.loopFb n = none)
    (ha : (s.loop n).auto = false) : ∃ t, exec (.servoBoundary n) s = .next t ∧ t.loopState n = 2 ∧
      t.get (Fld.SRVn_STAT_CAUSE n) = 2 ∧ t.get (Fld.SRVn_STAT_OUT n) = 0 ∧ (t.loop n).latched = 2 ∧
      (∃ e ∈ t.recd.port, e.code = 0x5001) ∧ State.Touch [.chans, .alc, .srv, .port] s t := by
  obtain ⟨outer, hb⟩ : ∃ outer, (s.loopCounts n).atOuter n = outer := ⟨_, rfl⟩
  have hM := (((s.movesLoop_latched n outer).mono (p' := [.chans, .alc, .srv, .port]) (by simp) (List.subset_append_left _ _)).next
    ((s.latched n outer).movesLoop_loopFault n 2) (List.subset_append_right _ (faultFields n))).takeSource (by simp)
  have hl : ∀ g ∈ latchFields n outer ++ faultFields n, 0xD0000 ≤ g.addr := fun g hg => by
    obtain hg | hg := List.mem_append.1 hg
    · exact Nat.le_trans (by decide) (boundaryFields_ge n outer g (List.mem_append_left _ (List.mem_append_left _ hg)))
    · exact faultFields_ge n g hg
  have hshow := State.showsFault_takeSource ((s.latched n outer).showsFault_loopFault n (cause := 2) (by decide))
  obtain ⟨t, ht, hM', hrec, hrd⟩ := h.movesLoop (c := .servoBoundary n) rfl (State.servoBoundary_lost hst hfb ha hb) hM (by decide) hl
  obtain ⟨hstate, hcause, hout, -, hevent⟩ := hshow.congr hrd hrec
  exact ⟨t, ht, hstate, hcause, hout, by rw [hM'.loop]; rfl, hevent, hM'.touch⟩

/-- R213: a loop whose output has been on for the stall time latches the fault STALL. -/
theorem stallFault_effect {n : Fin 64} (h : s.Live) (hst : s.loopState n = 1) (hk : s.get (Fld.SRVn_OTIMER_STALL n) ≠ 0)
    (hout : s.get (Fld.SRVn_STAT_OUT n) ≠ 0) (hon : 16 * s.get (Fld.SRVn_OTIMER_STALL n) ≤ (s.loop n).on) :
    ∃ t, exec (.stallFault n) s = .next t ∧ s.ShowsFault t n 4 ∧ (t.loop n).latched = 4 ∧ (t.loop n).off = 0 ∧
      s.keeps t [Reg.SRVn_STAT n, Reg.SRVn_CNT n, Reg.SRV_CLOSED0, Reg.SRV_CLOSED1, Reg.SRV_FAULT0, Reg.SRV_FAULT1,
        Reg.SWO_STATw (2 * n / 32)] ∧ State.Touch [.chans, .alc, .srv, .port] s t := by
  have hF : s.stallFault n = s.loopFault n 4 := if_pos ⟨hst, hk, hout, hon⟩
  have hM := s.movesLoop_loopFault n 4
  rw [if_pos hout] at hM
  obtain ⟨t, ht, hM', hrec, hrd⟩ := h.movesLoop (c := .stallFault n) rfl hF hM (by decide) (faultFields_ge n)
  exact ⟨t, ht, (s.showsFault_loopFault n (by decide)).congr hrd hrec, by rw [hM'.loop]; rfl, by rw [hM'.loop]; rfl,
    hM'.fields.keeps.mono (addr_of_faultFields n), hM'.touch⟩

/-! A close (R220). -/

/-- What a close changes of a loop's registers. -/
abbrev closeFields (n : Nat) : List Field :=
  Fld.SRVn_OFB_OFB n :: Fld.SRVn_SP_SP n :: Fld.SRVn_OSP_OSP n :: Fld.SRVn_STAT_OSTATE n :: Fld.SRVn_STAT_CLOSE_PEND n :: stateFields n

/-- The loop after a close. -/
def LoopSt.closed (x : LoopSt) : LoopSt := { x with auto := false, cmdClose := false, bnd := 0, on := 0, oOn := 0, oOff := 255 }

/-- A close before it is shown: the feedbacks become set-points, and the counters start. -/
theorem State.loopClose_eq (s : State) (n : Nat) : ∃ u, s.loopClose n = (u.loopTo n 1).closePend n ∧
    s.MovesLoop [.chans, .alc, .srv] u n (s.loop n).closed (closeFields n) := by
  have hO := (s.movesLoop_latchOfb n).mono (p' := [.chans, .alc, .srv]) (l' := closeFields n) (by simp) (by simp)
  exact ⟨_, rfl, (((hO.wr _ (by simp)).wr _ (by simp)).set 0 (by simp) (by simp)).modLoop _ (by simp)⟩

/-- R220: what a close shows. -/
structure State.ShowsClosed (t : State) (n : Nat) : Prop where
  state : t.loopState n = 1
  pending : t.get (Fld.SRVn_STAT_CLOSE_PEND n) = 0
  bit : t.get (loopBit Reg.SRV_CLOSED0 Reg.SRV_CLOSED1 n) = 1

theorem State.ShowsClosed.congr (h : t.ShowsClosed n) (hrd : ∀ a, u.rd a = t.rd a) : u.ShowsClosed n where
  state := (State.get_of_rd _ (hrd _)).trans h.state
  pending := (State.get_of_rd _ (hrd _)).trans h.pending
  bit := (State.get_of_rd _ (hrd _)).trans h.bit

theorem State.ShowsClosed.takeSource (h : t.ShowsClosed n) : (t.takeSource n).ShowsClosed n := h.congr fun _ => rfl

theorem State.movesLoop_loopClose (s : State) (n : Nat) : s.MovesLoop [.chans, .alc, .srv] (s.loopClose n) n (s.loop n).closed
    (closeFields n) := by
  obtain ⟨u, he, hM⟩ := s.loopClose_eq n
  have hto := hM.next (hM.loop ▸ (u.movesLoop_loopTo n 1).mono (p' := [.chans, .alc, .srv]) (by simp) (fun _ => id)) (by simp +contextual)
  rw [he]
  exact hto.next (hto.loop ▸ ((u.loopTo n 1).movesLoop_closePend n).mono (by simp) (fun _ => id)) (by simp)

theorem State.showsClosed_loopClose (s : State) (n : Nat) : (s.loopClose n).ShowsClosed n := by
  obtain ⟨u, he, hM⟩ := s.loopClose_eq n
  have hto : (u.loopTo n 1).loop n = (s.loop n).closed := (u.movesLoop_loopTo n 1).loop.trans hM.loop
  have hP := ((u.loopTo n 1).movesLoop_closePend n).fields
  rw [he]
  refine ⟨?_, ?_, ?_⟩
  · exact (hP (Fld.SRVn_STAT_STATE n) (by simp) (by simp [fieldsApart])).trans (u.loopState_loopTo n (by decide))
  · rw [State.get_closePend, hto]
    rfl
  · refine (hP (loopBit Reg.SRV_CLOSED0 Reg.SRV_CLOSED1 n) (by decide : 1 ≤ 32) ?_).trans (u.closedBit_loopTo n 1)
    simpa only [List.forall_mem_singleton] using .inl (Ne.symm (srvReg_ne_loopBit (by decide) (by decide) (by decide) n))

/-- The set-points and the law of a boundary change nothing that a close shows. -/
theorem State.ShowsClosed.law {n : Fin 64} (h : t.ShowsClosed n) {outer : Bool} (hk : t.keepsFields u (boundaryFields n outer ++ lawFields n)) :
    u.ShowsClosed n where
  state := (hk _ (by simp) (statField_apart n outer (.inl (by decide)))).trans h.state
  pending := (hk _ (by simp) (statField_apart n outer (.inr (by decide)))).trans h.pending
  bit := (hk (loopBit Reg.SRV_CLOSED0 Reg.SRV_CLOSED1 n) (by decide : 1 ≤ 32) fun g hg =>
    .inl (Nat.ne_of_lt (Nat.lt_of_lt_of_le (loopBit_addr_lt (by decide) (by decide) n) (boundaryFields_ge n outer g hg)))).trans h.bit

theorem closeFields_ge (n : Fin 64) : ∀ g ∈ closeFields n, 0xD0000 ≤ g.addr := by
  have hb := faultFields_ge n
  simp only [List.forall_mem_cons, List.forall_mem_append] at hb ⊢
  obtain ⟨hstat, -, -, hs⟩ := hb
  exact ⟨Nat.le_trans (by decide) (Nat.le_add_right _ _), Nat.le_trans (by decide) (Nat.le_add_right _ _),
    Nat.le_trans (by decide) (Nat.le_add_right _ _), hstat, hstat, hs⟩

/-- R220: at a boundary at which a pending close finds nothing that forbids it, the loop closes, and its law acts. -/
theorem State.servoBoundary_close {n : Fin 64} (hst : s.loopState n = 0 ∨ s.loopState n = 2) (hc : (s.loop n).cmdClose = true)
    (ho : (s.loop n).openReq = false) (hv : (s.loop n).overlay = none) (hk : (s.latched n false).closeCheck n = 0) :
    s.servoBoundary n = ((((s.latched n false).loopClose n).takeSource n).loopSetpoint n false).loopLaw n := by
  obtain ⟨a, b, c, hx⟩ := s.loop_latched n false
  have hst1 : s.loopState n ≠ 1 := by omega
  have hb : (s.loopCounts n).atOuter n = false := by
    rw [State.atOuter_eq, decide_eq_false fun h => hst1 h.1, Bool.and_false]
  have hst' : (s.latched n false).loopState n = s.loopState n := s.get_latched n false 0 (by decide) (by decide)
  have he := State.loopEvents_close (outer := false) (hst' ▸ hst) (by rw [hx]; exact ho) (by rw [hx]; exact hv)
    (by rw [hx]; exact hc) hk
  rw [State.servoBoundary_eq hb he, State.loopState_takeSource, ((s.latched n false).showsClosed_loopClose n).state]
  rfl

/-- The fields of the earlier stages are among those of a boundary. -/
theorem latchFields_subset (n : Nat) (outer : Bool) : ∀ g ∈ latchFields n outer, g ∈ boundaryFields n true ++ lawFields n := by
  cases outer <;> simp +contextual

/-- The set-points and the law of a boundary, whatever the stages before them did: no command of the loop ends by them. -/
theorem State.movesLoop_setpointLaw (s : State) (n : Nat) (outer : Bool) : ∃ x,
    s.MovesLoop [.srv] ((s.loopSetpoint n outer).loopLaw n) n x (boundaryFields n true ++ lawFields n) ∧
      x.cmdClose = (s.loop n).cmdClose := by
  obtain ⟨a, b, hS⟩ := s.movesLoop_loopSetpoint n outer
  obtain ⟨c, d, hL⟩ := (s.loopSetpoint n outer).movesLoop_loopLaw n
  rw [hS.loop] at hL
  have hsub : ∀ g ∈ setpointFields n (s.loopOuter n), g ∈ boundaryFields n true ++ lawFields n := by
    cases s.loopOuter n <;> simp +contextual
  exact ⟨_, (hS.mono (fun _ => id) hsub).next hL (List.subset_append_right _ _), rfl⟩

/-- R220: a pending close. -/
theorem servoBoundary_closes {n : Fin 64} (h : s.Live) (hst : s.loopState n = 0 ∨ s.loopState n = 2) (hc : (s.loop n).cmdClose = true)
    (ho : (s.loop n).openReq = false) (hv : (s.loop n).overlay = none) (hk : (s.latched n false).closeCheck n = 0) :
    ∃ t, exec (.servoBoundary n) s = .next t ∧ t.loopState n = 1 ∧ (t.loop n).cmdClose = false ∧
      t.get (Fld.SRVn_STAT_CLOSE_PEND n) = 0 ∧ t.get (loopBit Reg.SRV_CLOSED0 Reg.SRV_CLOSED1 n) = 1 ∧
      State.Touch [.chans, .alc, .srv] s t := by
  have hlatch := (s.movesLoop_latched n false).mono (p' := [.chans, .alc, .srv]) (by simp)
    (List.subset_append_of_subset_right (closeFields n) (latchFields_subset n false))
  have hclose := (hlatch.next ((s.latched n false).movesLoop_loopClose n) (List.subset_append_left _ _)).takeSource (by simp)
  obtain ⟨_, hlaw, hpend⟩ := (((s.latched n false).loopClose n).takeSource n).movesLoop_setpointLaw n false
  have hM := hclose.next (hlaw.mono (by simp) (fun _ => id)) (List.subset_append_right _ _)
  have hl : ∀ g ∈ closeFields n ++ (boundaryFields n true ++ lawFields n), 0xD0000 ≤ g.addr :=
    List.forall_mem_append.2 ⟨closeFields_ge n, fun g hg => Nat.le_trans (by decide) (boundaryFields_ge n true g hg)⟩
  have hshow := ((s.latched n false).showsClosed_loopClose n).takeSource.law hlaw.fields
  obtain ⟨t, ht, hM', -, hrd⟩ := h.movesLoop (c := .servoBoundary n) rfl (State.servoBoundary_close hst hc ho hv hk) hM (by decide) hl
  obtain ⟨hstate, hpending, hbit⟩ := hshow.congr hrd
  exact ⟨t, ht, hstate, by rw [hM'.loop, hpend, hclose.loop]; rfl, hpending, hbit, hM'.touch⟩

/-! Commands (R216, R219, R220, R223, R227). -/

/-- R220: a CLOSE waits for the next boundary, unless the loop is CLOSED or in OVERLAY. -/
theorem srvCmdClose_effect {n : Fin 64} (h : s.Live) (hg : s.gateCause (Reg.SRVn_CMD n) = 0) :
    ∃ t, exec (.srvCmdClose n) s = .next t ∧ (if s.loopState n = 1 ∨ s.loopState n = 3 then s.keeps t [] ∧ t.rest = s.rest
      else t.loop n = { s.loop n with cmdClose := true } ∧ t.get (Fld.SRVn_STAT_CLOSE_PEND n) = 1 ∧
        t.loopState n = s.loopState n ∧ s.keeps t [Reg.SRVn_STAT n] ∧ State.Touch [.srv] s t) := by
  by_cases hst : s.loopState n = 1 ∨ s.loopState n = 3
  · obtain ⟨he, hk, -⟩ := h.ends (c := .srvCmdClose n) (l := []) (p := []) rfl ((if_pos hg).trans (if_pos hst))
      (s.keeps_refl []) (State.Touch.refl _ s) (by decide) (by decide)
    refine ⟨_, he, ?_⟩
    rw [if_pos hst]
    exact ⟨hk, rfl⟩
  · have hm := (s.movesLoop_refl [.srv] n [Fld.SRVn_STAT_CLOSE_PEND n]).modLoop (fun x => { x with cmdClose := true }) (by simp)
    have hp := (s.modLoop n fun x => { x with cmdClose := true }).movesLoop_closePend n
    rw [hm.loop] at hp
    have hM := hm.trans hp
    obtain ⟨t, ht, hM', -, hrd⟩ := h.movesLoop (c := .srvCmdClose n) rfl ((if_pos hg).trans (if_neg hst)) hM (by decide)
      (by simpa using Nat.le_trans (by decide) (Nat.le_add_right _ _))
    refine ⟨t, ht, ?_⟩
    rw [if_neg hst]
    refine ⟨hM'.loop, ?_, hM'.fields (Fld.SRVn_STAT_STATE n) (by simp) (by simp [fieldsApart]), hM'.fields.keeps, hM'.touch⟩
    rw [State.get_of_rd _ (hrd _), State.get_closePend, hm.loop]
    rfl

/-- A command that changes one loop and no register. -/
theorem State.Live.changesLoop (h : s.Live) {c : Instr} {F : State → State} (hc : exec c s = .next (s.running F)) (f : LoopSt → LoopSt)
    (hF : F s = s.modLoop n f) : ∃ t, exec c s = .next t ∧ t.loop n = f (s.loop n) ∧ s.keeps t [] ∧ State.Touch [.srv] s t := by
  obtain ⟨t, ht, hM, -, -⟩ := h.movesLoop hc hF ((s.movesLoop_refl [.srv] n []).modLoop f (by simp)) (by decide) (by simp)
  exact ⟨t, ht, hM.loop, hM.fields.keeps, hM.touch⟩

/-- What a refused write or command shows, with code `k` (R221, R227). -/
def State.showsRefusal (s t : State) (n k : Nat) : Prop := t.get (Fld.SRVn_STAT_REFUSED n) = 1 ∧
  t.get (Fld.SRVn_STAT_REF_CODE n) = k ∧ t.get (Fld.SRVn_CNT_REFUSALS n) = min (s.get (Fld.SRVn_CNT_REFUSALS n) + 1)
    (2 ^ (Fld.SRVn_CNT_REFUSALS n).width - 1) ∧ t.rest = s.rest ∧
  s.keeps t [Reg.SRVn_STAT n, Reg.SRVn_CNT n, Reg.SYS_REFADDR, Reg.SYS_REFINFO]

theorem State.keeps_loopRefuse (s : State) (n k a : Nat) :
    s.keeps (s.loopRefuse n k a) [Reg.SRVn_STAT n, Reg.SRVn_CNT n, Reg.SYS_REFADDR, Reg.SYS_REFINFO] :=
  ((((s.keeps_refl _).set _ 1 (by simp)).set _ k (by simp)).count _ (by simp)).refuse _ _ _ (by simp) (by simp)

/-- The registers of a loop are none of those below the loops. -/
theorem srvReg_ne_low {a b : Nat} (hb : b < Reg.SRVn_CFG 0) (ha : Reg.SRVn_CFG 0 ≤ a) (n : Nat) : a + 0x80 * n ≠ b :=
  Nat.ne_of_gt (Nat.lt_of_lt_of_le hb (Nat.le_trans ha (Nat.le_add_right _ _)))

theorem State.showsRefusal_loopRefuse (s : State) (n : Nat) {k : Nat} (hk : k < 8) (a : Nat) :
    s.showsRefusal (s.loopRefuse n k a) n k := by
  have href : ∀ {u : State} {m lo w : Nat}, Reg.SRVn_CFG 0 ≤ m → (u.refuse 16 k a).get ⟨m + 0x80 * n, lo, w⟩ = u.get ⟨m + 0x80 * n, lo, w⟩ :=
    fun hm => State.get_refuse_ne _ _ _ _ _ (srvReg_ne_low (by decide) hm n) (srvReg_ne_low (by decide) hm n)
  unfold State.showsRefusal
  refine ⟨?_, ?_, ?_, rfl, s.keeps_loopRefuse n k a⟩
  · unfold State.loopRefuse
    rw [href (by decide), State.get_count_ne _ _ _ (by simp), State.get_set_disjoint _ _ _ _ (by simp) (by simp) (by simp),
      State.get_set_self _ _ _ (by simp)]
    rfl
  · unfold State.loopRefuse
    rw [href (by decide), State.get_count_ne _ _ _ (by simp), State.get_set_self _ _ _ (by simp)]
    exact Nat.mod_eq_of_lt hk
  · unfold State.loopRefuse
    rw [href (by decide), State.get_count_self _ _ (by simp), State.get_set_ne _ _ _ _ (by simp), State.get_set_ne _ _ _ _ (by simp)]

/-- The end of a refused write or command. -/
theorem State.Live.refusesLoop (h : s.Live) {c : Instr} {F : State → State} (hc : exec c s = .next (s.running F)) {k a : Nat}
    (hk : k < 8) (hF : F s = s.loopRefuse n k a) : ∃ t, exec c s = .next t ∧ s.showsRefusal t n k := by
  have hT : State.Touch [] s (s.loopRefuse n k a) := (State.Touch.refl _ s).loopRefuse _ _ _ (by decide)
  have hlow : ∀ b ∈ [Reg.MGT_STAT, Reg.SAF_STAT, Reg.IMG_STAT, Reg.SAF_SO, Reg.SAF_SORB],
      b < Reg.SRVn_CFG 0 ∧ b ≠ Reg.SYS_REFADDR ∧ b ≠ Reg.SYS_REFINFO := by decide
  obtain ⟨he, hk', -⟩ := h.ends hc hF (s.keeps_loopRefuse n k a) hT (by decide) fun b hb hm => by
    obtain ⟨hlt, h1, h2⟩ := hlow b hb
    simp only [List.mem_cons, List.not_mem_nil, or_false] at hm
    obtain hm | hm | hm | hm := hm
    · exact srvReg_ne_low hlt (by decide) n hm.symm
    · exact srvReg_ne_low hlt (by decide) n hm.symm
    · exact h1 hm
    · exact h2 hm
  obtain ⟨h1, h2, h3, -, -⟩ := s.showsRefusal_loopRefuse n hk a
  have hge : ∀ {m : Nat}, 0xD0000 ≤ m → 0xD0000 ≤ m + 0x80 * n := fun h => Nat.le_trans h (Nat.le_add_right _ _)
  refine ⟨_, he, ?_, ?_, ?_, rfl, hk'⟩
  · rwa [State.get_mirror_of_ge _ (hge (by decide))]
  · rwa [State.get_mirror_of_ge _ (hge (by decide))]
  · rwa [State.get_mirror_of_ge _ (hge (by decide))]

/-- R262: an operation that the commanding part forwards waits behind those that do. -/
theorem State.forward_ops {s : State} (hc : s.commanding = true) (hg : s.get Fld.SYS_STRAP_GROUP_ID ≠ 3) (code : Nat) (b : List Byte) :
    ∃ o, (s.forward code b).grp.ops = s.grp.ops ++ [o] := by
  unfold State.forward
  rw [if_pos ⟨hc, hg⟩]
  exact ⟨_, rfl⟩

/-- R216, R262, R452: the end of an accepted write of a loop's register. -/
theorem State.Live.writesLoop (h : s.Live) {c : Instr} {F : State → State} (hc : exec c s = .next (s.running F)) {a : Nat} {v w : Word}
    (ha : 0xD0000 ≤ a) (hcmd : s.commanding = true) (hF : F s = (s.wr a w).forwardWrite a v) : ∃ t, exec c s = .next t ∧
    t.rd a = w ∧ (s.get Fld.SYS_STRAP_GROUP_ID ≠ 3 → ∃ o, t.grp.ops = s.grp.ops ++ [o]) ∧ s.keeps t [a] ∧ State.Touch [.grp] s t := by
  have hne : ∀ {b : Nat}, b < 0xD0000 → b ≠ a := fun hb => Nat.ne_of_lt (Nat.lt_of_lt_of_le hb ha)
  have hregs : ((s.wr a w).forwardWrite a v).regs = (s.wr a w).regs := State.forward_regs _ _ _
  obtain ⟨he, hk, hT⟩ := h.ends hc hF (((s.keeps_refl [a]).wr a w (by simp)).of_regs hregs)
    (((State.Touch.refl [.grp] s).wr a w).forwardWrite a v (by decide)) (by decide) (unmirrored_of_ge (by simpa using ha))
  refine ⟨_, he, ?_, fun hg => ?_, hk, hT⟩
  · rw [State.rd_mirror_of_ge _ ha, State.rd_of_regs hregs, State.rd_wr_self]
  · refine State.forward_ops (s := s.wr a w) ?_ ?_ _ _
    · exact (congrArg (decide <| · = 1) (State.get_wr_ne s Fld.SLH_STAT_ROLE w (hne (by decide)))).trans hcmd
    · rwa [State.get_wr_ne s _ w (hne (by decide))]

/-- The registers of the loops stand above those that the status fields' turn may change. -/
theorem srvReg_ge {a : Nat} (h : 0xD0000 ≤ a) (n : Nat) : 0xD0000 ≤ a + 0x80 * n := Nat.le_trans h (Nat.le_add_right _ _)

/-- R223: CLR_FAULT, while a linked safety stop is in force and else. -/
theorem srvCmdClrFault_effect {n : Fin 64} (h : s.Live) (hg : s.gateCause (Reg.SRVn_CMD n) = 0) :
    ∃ t, exec (.srvCmdClrFault n) s = .next t ∧ (if s.loopStopped n = true then s.showsRefusal t n 5
      else t.loop n = { s.loop n with latched := 0 } ∧ t.loopState n = s.loopState n ∧ s.keeps t [] ∧ State.Touch [.srv] s t) := by
  by_cases hs : s.loopStopped n = true
  · obtain ⟨t, ht, href⟩ := h.refusesLoop (c := .srvCmdClrFault n) rfl (by decide : 5 < 8) ((if_pos hg).trans (if_pos hs))
    exact ⟨t, ht, by rw [if_pos hs]; exact href⟩
  · obtain ⟨t, ht, hl, hk, hT⟩ := h.changesLoop (c := .srvCmdClrFault n) rfl (fun x => { x with latched := 0 })
      ((if_pos hg).trans (if_neg hs))
    exact ⟨t, ht, by rw [if_neg hs]; exact ⟨hl, hk.get _ List.not_mem_nil, hk, hT⟩⟩

/-- R216, R452: a set-point source, off the commanding part, reserved, and else. -/
theorem srvSpsrcWrite_effect {n : Fin 64} (h : s.Live) (v : Word) (hg : s.gateCause (Reg.SRVn_SPSRC n) = 0) :
    ∃ t, exec (.srvSpsrcWrite n v) s = .next t ∧ (if s.commanding = false then s.showsRefusal t n 6
      else if 6 ≤ bitsGet v 0 3 then s.showsRefusal t n 7
      else t.rd (Reg.SRVn_SPSRC n) = v &&& 0x7FFFFFFF ∧ (s.get Fld.SYS_STRAP_GROUP_ID ≠ 3 → ∃ o, t.grp.ops = s.grp.ops ++ [o]) ∧
        s.keeps t [Reg.SRVn_SPSRC n] ∧ State.Touch [.grp] s t) := by
  by_cases hc : s.commanding = false
  · obtain ⟨t, ht, href⟩ := h.refusesLoop (c := .srvSpsrcWrite n v) rfl (by decide : 6 < 8) ((if_pos hg).trans (if_pos (by simp [hc])))
    exact ⟨t, ht, by rw [if_pos hc]; exact href⟩
  · by_cases hv : 6 ≤ bitsGet v 0 3
    · obtain ⟨t, ht, href⟩ := h.refusesLoop (c := .srvSpsrcWrite n v) rfl (by decide : 7 < 8)
        ((if_pos hg).trans ((if_neg (by simpa using hc)).trans (if_pos hv)))
      exact ⟨t, ht, by rw [if_neg hc, if_pos hv]; exact href⟩
    · obtain ⟨t, ht, hw⟩ := h.writesLoop (c := .srvSpsrcWrite n v) rfl (srvReg_ge (by decide) n) (by simpa using hc)
        ((if_pos hg).trans ((if_neg (by simpa using hc)).trans (if_neg hv)))
      exact ⟨t, ht, by rw [if_neg hc, if_neg hv]; exact hw⟩

/-- R216, R452: a host set-point. -/
theorem srvHostspWrite_effect {n : Fin 64} (h : s.Live) (v : Word) (hg : s.gateCause (Reg.SRVn_HOSTSP n) = 0) :
    ∃ t, exec (.srvHostspWrite n v) s = .next t ∧ (if s.commanding = false then s.showsRefusal t n 6
      else t.rd (Reg.SRVn_HOSTSP n) = v ∧ (s.get Fld.SYS_STRAP_GROUP_ID ≠ 3 → ∃ o, t.grp.ops = s.grp.ops ++ [o]) ∧
        s.keeps t [Reg.SRVn_HOSTSP n] ∧ State.Touch [.grp] s t) := by
  by_cases hc : s.commanding = false
  · obtain ⟨t, ht, href⟩ := h.refusesLoop (c := .srvHostspWrite n v) rfl (by decide : 6 < 8) ((if_pos hg).trans (if_pos (by simp [hc])))
    exact ⟨t, ht, by rw [if_pos hc]; exact href⟩
  · obtain ⟨t, ht, hw⟩ := h.writesLoop (c := .srvHostspWrite n v) rfl (srvReg_ge (by decide) n) (by simpa using hc)
      ((if_pos hg).trans (if_neg (by simpa using hc)))
    exact ⟨t, ht, by rw [if_neg hc]; exact hw⟩

/-! The counters (R227). -/

/-- Registers that are cleared one after another read 0. -/
theorem State.rd_each_wr_zero (r : Nat → Nat) {m : Nat} (l : List Nat) (s : State) (h : m ∈ l ∨ s.rd (r m) = 0) :
    (s.each l fun n s => s.wr (r n) 0).rd (r m) = 0 := by
  induction l generalizing s with
  | nil => exact h.resolve_left List.not_mem_nil
  | cons k l ih =>
    rw [State.each_cons]
    refine ih _ ?_
    by_cases hk : r m = r k
    · exact .inr (by rw [hk, State.rd_wr_self])
    · rw [State.rd_wr_ne _ _ hk]
      exact h.imp_left fun hm => (List.mem_cons.1 hm).resolve_left fun e => hk (congrArg r e)

theorem State.keeps_each_wr (r : Nat → Nat) (v : Word) (l : List Nat) (s : State) :
    s.keeps (s.each l fun n s => s.wr (r n) v) (l.map r) := by
  induction l generalizing s with
  | nil => exact s.keeps_refl _
  | cons k l ih =>
    rw [State.each_cons, List.map_cons]
    exact ((s.keeps_refl _).wr (r k) v (by simp)).trans ((ih _).mono fun _ => List.mem_cons_of_mem _)

theorem State.rest_each_wr (r : Nat → Nat) (v : Word) (l : List Nat) (s : State) : (s.each l fun n s => s.wr (r n) v).rest = s.rest := by
  induction l generalizing s with
  | nil => rfl
  | cons _ _ ih => exact ih _

theorem srvCntClr_effect (h : s.Live) (hg : s.gateCause Reg.SRV_CTRL = 0) : ∃ t, exec .srvCntClr s = .next t ∧
    (∀ n < 64, t.rd (Reg.SRVn_CNT n) = 0) ∧ s.keeps t ((List.range 64).map Reg.SRVn_CNT) ∧ t.rest = s.rest := by
  have hT : State.Touch [] s s.srvCntClr := (State.Touch.refl _ s).srvCntClr (by decide)
  have hge : ∀ a ∈ (List.range 64).map Reg.SRVn_CNT, 0xD0000 ≤ a := by
    simp only [List.forall_mem_map]
    exact fun n _ => srvReg_ge (by decide) n
  obtain ⟨he, hk, -⟩ := h.ends (c := .srvCntClr) rfl (if_pos hg) (s.keeps_each_wr Reg.SRVn_CNT 0 _) hT (by decide) (unmirrored_of_ge hge)
  refine ⟨_, he, fun n hn => ?_, hk, (State.mirror_rest _).trans (s.rest_each_wr _ _ _)⟩
  rw [State.rd_mirror_of_ge _ (srvReg_ge (by decide) n)]
  exact State.rd_each_wr_zero Reg.SRVn_CNT _ s (.inl (List.mem_range.2 hn))

/-! Boundaries of the outer loop (R214, R220). -/

/-- R214, R220: a boundary of both the loops of a CLOSED loop. -/
theorem servoBoundary_outer {n : Fin 64} {v w : Int} {q r : Nat} (h : s.Live) (hR : s.RunsLoop n true)
    (hfb : s.loopFb n = some (v, true, q)) (hofb : s.loopOfb n = some (w, true, r)) :
    ∃ t, exec (.outerBoundary n) s = .next t ∧ exec (.servoBoundary n) s = .next t ∧ t.rd (Reg.SRVn_FB n) = ofInt32 v ∧
    t.rd (Reg.SRVn_OFB n) = ofInt32 w ∧ (∀ a, t.rd a = (s.servoBoundary n).rd a) ∧
    s.keeps t [Reg.SRVn_FB n, Reg.SRVn_OFB n, Reg.SRVn_SP n, Reg.SRVn_OSP n, Reg.SRVn_STAT n, Reg.SRVn_CNT n,
      Reg.SWO_STATw (2 * n / 32)] ∧ State.Touch [.srv] s t := by
  have hF : s.outerBoundary n = s.servoBoundary n := if_pos hR.boundary
  obtain ⟨t, ht, hf, hT, hrd⟩ := hR.ends h (c := .outerBoundary n) rfl hF
  have hs : exec (.servoBoundary n) s = exec (.outerBoundary n) s := by
    rw [h.next (c := .servoBoundary n) rfl rfl, h.next (c := .outerBoundary n) rfl hF]
  have hregs : ∀ a ∈ boundaryRegs n true, a ∈ [Reg.SRVn_FB n, Reg.SRVn_OFB n, Reg.SRVn_SP n, Reg.SRVn_OSP n, Reg.SRVn_STAT n,
      Reg.SRVn_CNT n, Reg.SWO_STATw (2 * n / 32)] := by simp
  exact ⟨t, ht, hs.trans ht, (hrd _).trans (hR.rd_latched_fb hfb),
    (hrd _).trans ((hR.rd_fb (.inr rfl)).trans ((s.loopCounts n).rd_latchFb_ofb n hofb)), hrd,
    hf.keeps.mono fun a ha => hregs a (addr_of_boundaryFields n true a ha), hT⟩

/-- R214: at a boundary that is none of its outer loop's, the outer loop does nothing. -/
theorem outerBoundary_idle {n : Fin 64} (h : s.Live) (hn : s.loopOuter n = false ∨ s.loopState n ≠ 1) :
    ∃ t, exec (.outerBoundary n) s = .next t ∧ t.rest = s.rest ∧ s.keeps t [] := by
  have hb : ¬ (s.loopCounts n).atOuter n = true := by
    rw [State.atOuter_eq]
    obtain hn | hn := hn
    · simp [hn]
    · simp [hn]
  obtain ⟨he, hk, -⟩ := h.ends (c := .outerBoundary n) (l := []) (p := []) rfl (if_neg hb) (s.keeps_refl []) (State.Touch.refl _ s)
    (by decide) (by decide)
  exact ⟨_, he, rfl, hk⟩

end

/-! The statements. -/

/-- Settles O55: a boundary of a CLOSED loop is followed through its stages (`State.RunsLoop`); a lost feedback is a fault, and a
pending close a close. -/
theorem loopsSwitchAtTheirBoundaries : Obligations.LoopsSwitchAtTheirBoundaries := by
  unfold Obligations.LoopsSwitchAtTheirBoundaries
  refine ⟨fun s n v q h hst hin hfb hage ho hv => ?_,
    fun s n h hst hfb ha => servoBoundary_fbLost h hst hfb ha,
    fun s n h hst hc ho hv hk => servoBoundary_closes h hst hc ho hv hk,
    fun s n v q w r h hst hout hb hfb hofb hage hage' ho hv => ?_, fun s n h hn => outerBoundary_idle h hn⟩
  · have hR := State.runsLoop_inner hst hin hfb hage ho hv
    obtain ⟨t, ht, hf, hT, hrd⟩ := hR.ends h (c := .servoBoundary n) rfl rfl
    have hget : ∀ f, t.get f = (s.servoBoundary n).get f := fun f => State.get_of_rd f (hrd _)
    have herr : t.loopError n = (s.atLaw n false).loopError n :=
      (State.loopError_congr (l := []) (fun f _ _ => hget f) (by simp)).trans hR.loopError
    have hout : t.get (Fld.SRVn_STAT_OUT n) = (s.atLaw n false).lawOut n := (hget _).trans hR.get_out
    refine ⟨t, ht, ?_⟩
    rw [herr, hout]
    exact ⟨(hrd _).trans (hR.rd_latched_fb hfb), (hget _).trans hR.loopState, hR.lawOut,
      fun hsrc hr ha => (hrd _).trans (hR.rd_sp_host hsrc hr ha), fun hc => (hR.get_swo hc).imp (fun hp hd => (hget _).trans (hp hd)) (fun hn hd => (hget _).trans (hn hd)), (hget _).trans hR.get_switches,
      hf.keeps.mono (addr_of_boundaryFields n false), hT⟩
  · have hR := State.runsLoop_outer hst hout hb hfb hofb hage hage' ho hv
    obtain ⟨t, ht, ht', hf, hof, hrd, hk, hT⟩ := servoBoundary_outer h hR hfb hofb
    have hget : t.get (Fld.SRVn_STAT_OSTATE n) = (s.servoBoundary n).get (Fld.SRVn_STAT_OSTATE n) := State.get_of_rd _ (hrd _)
    exact ⟨t, ht, ht', hf, hof, ⟨hget.trans (hR.outerState (by rw [hrd, hrd])), (hrd _).trans (hR.rd_sp_outer hget)⟩, hk, hT⟩

/-- Settles O56: a stall is a fault (`State.showsFault_loopFault`), and each command changes its loop, writes a register and forwards
it, or is refused. -/
theorem loopCommandsAndStall : Obligations.LoopCommandsAndStall := by
  unfold Obligations.LoopCommandsAndStall
  refine ⟨fun s n h hst hk hout hon => ?_, fun s n h hg => srvCmdClose_effect h hg,
    fun s n h hg => h.changesLoop (c := .srvCmdOpen n) rfl (fun x => { x with openReq := true }) (if_pos hg),
    fun s n h hg => srvCmdClrFault_effect h hg, fun s n v h hg => srvSpsrcWrite_effect h v hg,
    fun s n v h hg => srvHostspWrite_effect h v hg, fun s h hg => srvCntClr_effect h hg⟩
  obtain ⟨t, ht, hF, hl, hoff, hkeeps, hT⟩ := stallFault_effect h hst hk hout hon
  exact ⟨t, ht, hF.state, hF.cause, hF.out, hl, hoff, hF.faults, hF.event, hkeeps, hT⟩

end Sys2Proof.Machine
end

section
/-!
The event port (R253): the operations only add events behind those that wait.  The laws of `State.Touch` name the event port among
the parts that an operation which raises an event may change; what it does there is said here, for each of those operations.
-/
namespace Sys2Proof.Machine

/-- Every part but the event port. -/
def offPort : List Part :=
  [.nvm0, .nvm1, .omem, .keyStore, .cfg, .aon, .rst, .clk, .tb, .img, .mgt, .frame, .chans, .fab, .fus, .ctl, .slv, .alc, .can,
    .eth, .ana, .srv, .saf, .grp, .freeCtr, .pending, .recd]

/-- From `s` to `t` events have only been added at the event port, behind those that wait. -/
abbrev State.Adds (s t : State) : Prop := State.Touch offPort s t

theorem State.Adds.port {s t : State} (h : s.Adds t) : s.recd.port <+: t.recd.port := h .port (by decide)

theorem State.adds_refl (s : State) : s.Adds s := State.Touch.refl _ s

/-- The state half of a result that has been taken apart. -/
theorem State.Touch.of_eq_mk {α : Type} {l : List Part} {s u : State} {p : State × α} {x : α} (e : p = (u, x))
    (h : State.Touch l s p.1) : State.Touch l s u := by
  subst e; exact h

variable {s0 s : State}

/-! The ports of the channels, the recorder. -/

theorem State.Touch.adds_portOutput (h : s0.Adds s) (c : Chan) (frame crc : Nat) (payload : List Byte) :
    s0.Adds (s.portOutput c frame crc payload) := by
  unfold State.portOutput
  refine .ite (h.canQueue _ _ _ _ (by decide)) (.ite (h.fillSlot _ _ _ _ (by decide)) ?_)
  split
  · exact .ite (.ite (h.modChan _ _ _ (by decide)) (h.modChan _ _ _ (by decide) |>.raise _ _ _)) (h.modChan _ _ _ (by decide))
  · exact h.modChan _ _ _ (by decide)

theorem State.Touch.adds_conflictEvent (h : s0.Adds s) (kept broken markers frame : Nat) :
    s0.Adds (s.conflictEvent kept broken markers frame) :=
  h.raise _ _ _

theorem State.Touch.adds_bankSingle (h : s0.Adds s) (bank : Nat) : s0.Adds (s.bankSingle bank) :=
  have h1 := h.set _ _ |>.ite (h.set _ _)
  (h1.upd_recd _ (by decide) (by rfl) |>.ite (h1.upd_recd _ (by decide) (by rfl))).raise _ _ _

theorem State.Touch.adds_recordProgramDone (h : s0.Adds s) (bank : Nat) (ok : Bool) :
    s0.Adds (s.recordProgramDone bank ok) := by
  unfold State.recordProgramDone
  dsimp only
  split
  · exact h
  · refine .ite h (.ite (h.adds_bankSingle _) (.ite (h.nvmProgram _ _ _ (by decide) |>.recordWritten _ (by decide)) ?_))
    exact
      have h1 := h.nvmProgram _ _ _ (by decide)
      h1.upd_recd _ (by decide) (by rfl) |>.ite (h1.upd_recd _ (by decide) (by rfl))

theorem State.Touch.adds_sectorEraseDone (h : s0.Adds s) (bank : Nat) (ok : Bool) :
    s0.Adds (s.sectorEraseDone bank ok) := by
  unfold State.sectorEraseDone
  split
  · exact h
  · exact
      have h1 := h.nvmEraseSector _ _ (by decide)
      .ite (h.adds_bankSingle _) (h1.upd_recd _ (by decide) (by rfl) |>.ite (h1.upd_recd _ (by decide) (by rfl)))

/-! The time base. -/

theorem State.Touch.adds_nativeMaster (h : s0.Adds s) (t : TimeCfg) (gm : Dword) (o : Int) :
    s0.Adds (s.nativeMaster t gm o) :=
  have h1 := h.upd_tb _ (by decide) |>.set _ _
  have h2 := h.upd_tb _ (by decide) |>.set _ _ |>.count _
  have h3 := h.upd_tb _ (by decide) |>.set _ _ |>.count _
  .ite (h1.servo _ _ (by decide)) (.ite (h2.servo _ _ (by decide)) (.ite h (h3.tbHoldover (by decide) |>.raise _ _ _)))

theorem State.Touch.adds_measure (h : s0.Adds s) (t : TimeCfg) (p : Nat) : s0.Adds (s.measure t p) := by
  unfold State.measure
  split
  · exact
      have h1 := h.wr _ _ |>.wr _ _ |>.wr _ _ |>.wr _ _
      .ite h (.ite (h1.askStep _ _ (by decide)) (.ite (h1.compatMaster _ _ _ (by decide)) (h1.adds_nativeMaster _ _ _)))
  · exact h

theorem State.Touch.adds_ptpSync (h : s0.Adds s) (t : TimeCfg) (p : Nat) (gm : Dword) (t1 t2 : Int) :
    s0.Adds (s.ptpSync t p gm t1 t2) :=
  h.modPtp _ _ (by decide) |>.reselect (by decide) |>.adds_measure _ _

theorem State.Touch.adds_ptpRx (h : s0.Adds s) (p : Nat) (m : PtpMsg) : s0.Adds (s.ptpRx p m) := by
  unfold State.ptpRx
  split
  · exact h
  · refine .ite h ?_
    split
    · exact h
    · exact h.ptpAnnounce _ _ _ (by decide)
    · exact .ite (.ite (h.countWrap _ |>.modPtp _ _ (by decide)) (h.countWrap _ |>.adds_ptpSync _ _ _ _ _)) h
    · split
      · exact .ite (h.adds_ptpSync _ _ _ _ _) h
      · exact h
    · exact .ite (h.upd_tb _ (by decide)) h
    · split
      · exact
          have h1 := h.modPtp _ _ (by decide)
          .ite (.ite (h1.adds_measure _ _) (.ite (h1.wr _ _) h1)) h
      · exact h

theorem State.Touch.adds_tbStep (h : s0.Adds s) : s0.Adds s.tbStep := by
  unfold State.tbStep
  split
  · exact
      have h1 := h.upd_tb _ (by decide) |>.setNow _ (by decide) |>.shiftHeld _ (by decide)
      have h2 := h1.each _ _ fun _ _ h => h.absComparator _ (by decide)
      h2.wr _ _ |>.wr _ _ |>.wr _ _ |>.set _ _ |>.countWrap _ |>.tbState _ (by decide) |>.raise _ _ _
  · exact h

theorem State.Touch.adds_tbFault (h : s0.Adds s) : s0.Adds s.tbFault := .ite h (h.set _ _ |>.raise _ _ _ |>.slhSync (by decide))

/-! Fusion. -/

theorem State.Touch.adds_raiseEdge (h : s0.Adds s) (code : Nat) (old new : Bool) (slots : List Nat) :
    s0.Adds (s.raiseEdge code old new slots) :=
  .ite (h.raise _ _ _) h

theorem State.Touch.adds_applyVotes (h : s0.Adds s) (c : FusCfg) (cs : List Contrib) (v : Votes) :
    s0.Adds (s.applyVotes c cs v) :=
  have h1 := h.adds_raiseEdge _ _ _ _ |>.adds_raiseEdge _ _ _ _ |>.adds_raiseEdge _ _ _ _
  have h2 := h1.voteOk _ _ _ _ (by decide) |>.voteOk _ _ _ _ (by decide) |>.voteOk _ _ _ _ (by decide)
      |>.markOutliers _ _ (by decide) |>.markOutliers _ _ (by decide) |>.markOutliers _ _ (by decide)
  have h3 := (h2.each _ _ fun _ _ h => h.modSrc _ _ (by decide)).voteWeights _ (by decide)
  have h4 := h3.each _ _ fun _ _ h => h.voteWeights _ (by decide)
  h4.voteWeights _ (by decide) |>.upd_fus _ (by decide) |>.upd_fus _ (by decide)

theorem State.Touch.adds_publishOn (h : s0.Adds s) (task frame : Nat) (data : List Byte) :
    s0.Adds (s.publishOn task frame data) := by
  unfold State.publishOn
  split
  · exact h
  · exact .ite (h.adds_portOutput _ _ _ _) h

theorem State.Touch.adds_publishEpoch (h : s0.Adds s) (c : FusCfg) (e : Epoch) (own : Bool × Bool × Bool) :
    s0.Adds (s.publishEpoch c e own) :=
  have h1 := h.each _ _ fun _ _ h => h.publishSrc _ (by decide)
  have h2 := h1.wr _ _ |>.countWrap _ |>.wr _ _
  h2.count _ |>.ite h2 |>.upd_fus _ (by decide) |>.adds_publishOn _ _ _

/-! Analogue chains, inputs and loops. -/

theorem State.Touch.adds_modStuck (h : s0.Adds s) (n : Nat) : s0.Adds (s.modStuck n) :=
  .ite (h.set _ _ |>.set _ _ |>.set _ _ |>.raise _ _ _) h

theorem State.Touch.adds_dinSet (h : s0.Adds s) (i : Nat) (level : Bool) : s0.Adds (s.dinSet i level) :=
  have h1 := h.setBit _ _ |>.setBit _ _
  .ite (h1.raise _ _ _) h1

theorem State.Touch.adds_loopFault (h : s0.Adds s) (n cause : Nat) : s0.Adds (s.loopFault n cause) :=
  h.loopOff _ (by decide) |>.modLoop _ _ (by decide) |>.loopTo _ _ (by decide) |>.set _ _ |>.count _ |>.raise _ _ _

theorem State.Touch.adds_servoStop (h : s0.Adds s) (p : Nat) : s0.Adds (s.servoStop p) :=
  h.each _ _ fun _ _ h => .ite (.ite (h.adds_loopFault _ _ |>.closePend _ (by decide)) (h.loopOff _ (by decide))) h

theorem State.Touch.adds_overlayStep (h : s0.Adds s) (n : Nat) : s0.Adds (s.overlayStep n) := by
  unfold State.overlayStep
  split
  · exact .ite (h.loopOff _ (by decide) |>.overlayWrite _ _ (by decide) |>.loopTo _ _ (by decide))
        (h.overlayWrite _ _ (by decide))
  · exact .ite (.ite (h.loopTo _ _ (by decide)) (h.loopOpen _ _ (by decide) |>.set _ _ |>.raise _ _ _)) h

theorem State.Touch.adds_loopEvents (h : s0.Adds s) (n : Nat) (outer : Bool) : s0.Adds (s.loopEvents n outer).1 :=
  have h1 := State.Touch.ite (h.adds_loopFault _ _) h
  h1.openStep _ (by decide) |>.adds_overlayStep _ |>.closeStep _ (by decide) |>.modLoop _ _ (by decide)

theorem State.Touch.adds_servoBoundary (h : s0.Adds s) (n : Nat) : s0.Adds (s.servoBoundary n) :=
  have h1 := h.loopCounts _ (by decide) |>.latchFb _ _ (by decide) |>.adds_loopEvents _ _
  .ite (h1.loopSetpoint _ _ (by decide) |>.loopLaw _ (by decide)) h1

theorem State.Touch.adds_outerBoundary (h : s0.Adds s) (n : Nat) : s0.Adds (s.outerBoundary n) := .ite (h.adds_servoBoundary _) h

theorem State.Touch.adds_stallFault (h : s0.Adds s) (n : Nat) : s0.Adds (s.stallFault n) := .ite (h.adds_loopFault _ _) h

/-! The safety functions. -/

theorem State.Touch.adds_fnReport (h : s0.Adds s) (old : State) (f : Nat) : s0.Adds (State.fnReport old s f) :=
  have h1 := h.upd_saf _ (by decide)
  have h2 := h1.upd_saf _ (by decide) |>.ite h1 |>.umberOut _ _ _ (by decide) |>.safLast _ _ (by decide)
  have h3 := h2.raise _ _ _ |>.count _ |>.ite h2
  have h4 := h3.raise _ _ _ |>.count _ |>.ite h3
  have h5 := h4.raise _ _ _ |>.count _ |>.ite h4
  .ite h (.ite (h5.raise _ _ _) h5)

theorem State.Touch.adds_pairStop (h : s0.Adds s) (p : Nat) (start : Bool) : s0.Adds (s.pairStop p start) :=
  (h.each _ _ fun _ _ h => h.thrRemove _ _ _ (by decide)).adds_servoStop _

theorem State.Touch.adds_safetyCost (h : s0.Adds s) (is : List Nat) : s0.Adds (s.safetyCost is) :=
  .ite (h.adds_conflictEvent _ _ _ _) h

theorem State.Touch.adds_safAct (h : s0.Adds s) (before again : BitVec 16) : s0.Adds (s.safAct before again) :=
  (h.adds_safetyCost _).each _ _ fun _ _ h => .ite (h.adds_pairStop _ _) (.ite (h.pairFree _ (by decide)) h)

theorem State.Touch.adds_safOp (h : s0.Adds s) (again : BitVec 16) (f : State → State) (hf : ∀ u, s0.Adds u → s0.Adds (f u)) :
    s0.Adds (s.safOp again f) :=
  have h1 := ((hf s h).safSettle (by decide)).safOutputs (by decide)
  (h1.each _ _ fun _ _ h => h.adds_fnReport _ _ |>.fnSync _ (by decide)).adds_safAct _ _

theorem State.Touch.adds_channelRecognised (h : s0.Adds s) (t : Tech) (i : Nat) (chB level : Bool) (held : Nat) :
    s0.Adds (s.channelRecognised t i chB level held) :=
  .ite h (h.adds_safOp _ _ fun _ h =>
    have h1 := h.modTech _ _ (by decide)
    have h2 := h1.setBit _ _ |>.ite h1
    .ite h2 (h2.each _ _ fun _ _ h => h.resetChannel _ _ _ _ (by decide)))

theorem State.Touch.adds_c1Timer (h : s0.Adds s) (t : Tech) (f : Nat) : s0.Adds (s.c1Timer t f) :=
  h.adds_safOp _ _ fun _ h => h.modView _ _ _ (by decide)

theorem State.Touch.adds_discLatch (h : s0.Adds s) (t : Tech) (f : Nat) : s0.Adds (s.discLatch t f) := by
  unfold State.discLatch
  split
  · exact h
  · exact .ite (h.adds_safOp _ _ fun _ h => h.modTech _ _ (by decide)) h

theorem State.Touch.adds_syncTimeout (h : s0.Adds s) (t : Tech) (f : Nat) : s0.Adds (s.syncTimeout t f) := by
  unfold State.syncTimeout
  split
  · exact h
  · exact
      have h1 := h.adds_safOp _ _ fun _ h => h.modView _ _ _ (by decide)
      .ite (.ite (h1.raise _ _ _ |>.safLast _ _ (by decide)) h1) h

theorem State.Touch.adds_tpSample (h : s0.Adds s) (k : Nat) (a b : Word) : s0.Adds (s.tpSample k a b) :=
  .ite h (h.upd_saf _ (by decide) |>.adds_safOp _ _ fun _ h => h.modTech _ _ (by decide) |>.modTech _ _ (by decide))

theorem State.Touch.adds_offPulse (h : s0.Adds s) (t : Tech) (p : Nat) : s0.Adds (s.offPulse t p) :=
  .ite (h.adds_safOp _ _ fun _ h => h.modTech _ _ (by decide)) h

theorem State.Touch.adds_offPulseEnd (h : s0.Adds s) (t : Tech) (p : Nat) (off : Bool) :
    s0.Adds (s.offPulseEnd t p off) :=
  .ite (h.adds_safOp _ _ fun _ h => .ite (h.modTech _ _ (by decide)) (h.modTech _ _ (by decide) |>.outputFault _ (by decide))) h

theorem State.Touch.adds_cobaltCycle (h : s0.Adds s) : s0.Adds s.cobaltCycle :=
  .ite h (h.adds_safOp _ _ fun _ h =>
    h.exchangeFaults _ (by decide) |>.exchangeFaults _ (by decide) |>.modTech _ _ (by decide) |>.modTech _ _ (by decide)
        |>.modTech _ _ (by decide) |>.modTech _ _ (by decide))

theorem State.Touch.adds_safClockFault (h : s0.Adds s) : s0.Adds s.safClockFault :=
  .ite (h.adds_safOp _ _ fun _ h => h.faultBoth _ (by decide) |>.set _ _) (h.set _ _)

theorem State.Touch.adds_tickCheck (h : s0.Adds s) (deviates : Bool) : s0.Adds (s.tickCheck deviates) :=
  .ite h.adds_safClockFault h

theorem State.Touch.adds_xcheck (h : s0.Adds s) (missing : Bool) : s0.Adds (s.xcheck missing) :=
  .ite (h.adds_safOp _ _ fun _ h => h.faultBoth _ (by decide)) h

theorem State.Touch.adds_readbackFault (h : s0.Adds s) (t : Tech) (p : Nat) (level : Bool) :
    s0.Adds (s.readbackFault t p level) :=
  have h1 := h.adds_safOp _ _ fun _ h => h.outputFault _ (by decide)
  .ite h (h1.setBit _ _ |>.mirrorSafe (by decide))

theorem State.Touch.adds_selftestFail (h : s0.Adds s) (t : Tech) : s0.Adds (s.selftestFail t) := by
  refine .ite h (h.adds_safOp _ _ fun _ h => ?_)
  cases t
  · exact h.modTech _ _ (by decide) |>.modTech _ _ (by decide) |>.set _ _
  · exact h.modTech _ _ (by decide) |>.modTech _ _ (by decide) |>.set _ _ |>.set _ _

theorem State.Touch.adds_holdEvent (h : s0.Adds s) : s0.Adds s.holdEvent := h.raise _ _ _ |>.safLast _ _ (by decide)

theorem State.Touch.adds_holdStart (h : s0.Adds s) : s0.Adds s.holdStart :=
  .ite h (h.adds_safOp _ _ fun _ h => h.modTech _ _ (by decide) |>.modTech _ _ (by decide) |>.set _ _).adds_holdEvent

theorem State.Touch.adds_holdEnd (h : s0.Adds s) : s0.Adds s.holdEnd :=
  .ite h (h.adds_safOp _ _ fun _ h => h.modTech _ _ (by decide) |>.modTech _ _ (by decide) |>.set _ _).adds_holdEvent

theorem State.Touch.adds_slateLoad (h : s0.Adds s) (c : SafetyCfg) : s0.Adds (s.slateLoad c) :=
  (h.modTech _ _ (by decide) |>.set _ _ |>.reportedSync (by decide)).each _ _ fun _ _ h => .ite (h.adds_pairStop _ _) h

theorem State.Touch.adds_tableCheck (h : s0.Adds s) : s0.Adds s.tableCheck := by
  unfold State.tableCheck
  refine h.setBit _ _ |>.setBit _ _ |>.adds_safOp _ _ fun _ h => ?_
  exact .ite (h.modTech _ _ (by decide) |>.modTech _ _ (by decide)) (h.faultBoth _ (by decide))

theorem State.Touch.adds_cobaltBoot (h : s0.Adds s) (ok : Bool) (c : SafetyCfg) (maj min_ : Nat) :
    s0.Adds (s.cobaltBoot ok c maj min_) :=
  have h1 := h.modTech _ _ (by decide) |>.set _ _ |>.setBit _ _ |>.setBit _ _ |>.set _ _ |>.set _ _ |>.set _ _
      |>.reportedSync (by decide) |>.adds_tableCheck
  .ite h (.ite h (.ite (h1.startStep _ (by decide) |>.reloadResult _ _ (by decide)) (h1.reloadResult _ _ (by decide))))

theorem State.Touch.adds_coverSync (h : s0.Adds s) (before : BitVec 16) : s0.Adds (s.coverSync before) :=
  have h1 := h.each _ _ fun _ _ h => .ite (.ite h (h.thrRemove _ _ _ (by decide))) (h.thrClear _ _ (by decide))
  h1.each _ _ fun _ _ h => .ite (h.adds_servoStop _) h

theorem State.Touch.adds_slateReloaded (h : s0.Adds s) (c : SafetyCfg) : s0.Adds (s.slateReloaded c) := by
  unfold State.slateReloaded
  split
  · exact h.modTech _ _ (by decide) |>.reportedSync (by decide) |>.adds_coverSync _ |>.mirrorSafe (by decide)
  · exact h

/-! CAN and Ethernet. -/

theorem State.Touch.adds_canEvent (h : s0.Adds s) (n code : Nat) : s0.Adds (s.canEvent n code) := h.raise _ _ _

theorem State.Touch.adds_canBusoff (h : s0.Adds s) (n : Nat) : s0.Adds (s.canBusoff n) :=
  h.set _ _ |>.set _ _ |>.count _ |>.set _ _ |>.canDiscard _ (by decide) |>.adds_canEvent _ _ |>.pairSync _ (by decide)

theorem State.Touch.adds_canTecUp (h : s0.Adds s) (n : Nat) : s0.Adds (s.canTecUp n) :=
  .ite (h.adds_canBusoff _) (h.set _ _ |>.canErrState _ (by decide))

theorem State.Touch.adds_canLimp (h : s0.Adds s) : s0.Adds s.canLimp :=
  h.each _ _ fun _ _ h => .ite (h.canApplyMode _ _ (by decide) |>.set _ _ |>.adds_canEvent _ _) h

theorem State.Touch.adds_canDetect (h : s0.Adds s) (n : Nat) : s0.Adds (s.canDetect n) := by
  unfold State.canDetect
  extract_lets s1 c
  have h1 : s0.Adds s1 := h.modCan _ _ (by decide)
  split
  · exact .ite h1 (h1.wr _ _ |>.set _ _ |>.set _ _ |>.adds_canEvent _ _ |>.canApplyMode _ _ (by decide))
  · exact h1

theorem State.Touch.adds_canNoRate (h : s0.Adds s) (n : Nat) : s0.Adds (s.canNoRate n) :=
  .ite (h.set _ _ |>.set _ _ |>.adds_canEvent _ _) h

theorem State.Touch.adds_canNoAck (h : s0.Adds s) (n : Nat) : s0.Adds (s.canNoAck n) :=
  have h1 := h.set _ _
  have h2 := (h1.ite (h1.adds_canTecUp _)).count _
  .ite (h2.set _ _ |>.set _ _ |>.adds_canEvent _ _) h2

theorem State.Touch.adds_canTxEnd (h : s0.Adds s) (n : Nat) (how : CanTxEnd) (loopDelay : Nat) :
    s0.Adds (s.canTxEnd n how loopDelay) := by
  unfold State.canTxEnd
  split
  · exact h
  next w _ =>
    extract_lets +onlyGivenNames window s1 fd s2
    have h1 : s0.Adds s1 := h.modCan _ _ (by decide)
    have h2 : s0.Adds s2 := h1.set _ _ |>.ite h1
    refine .canFrameEnd ?_ _ (by decide)
    cases how with
    | acked => cases w with
      | object o => exact
          have h3 := h2.canAcked _ (by decide)
          (State.Touch.ite (h3.cancDone _ _ (by decide)) h3).canLeft _ _ (by decide)
      | reference => exact h2.canAcked _ (by decide)
    | noAck => cases w with
      | object o => exact h2.adds_canNoAck _ |>.canUnsent _ _ _ _ (by decide)
      | reference => exact h2.adds_canNoAck _
    | error code fast => cases w with
      | object o => exact h2.canErr _ _ _ (by decide) |>.adds_canTecUp _ |>.canUnsent _ _ _ _ (by decide)
      | reference => exact h2.canErr _ _ _ (by decide) |>.adds_canTecUp _
    | lostArbitration => cases w with
      | object o => exact h2.canUnsent _ _ _ _ (by decide)
      | reference => exact h2

theorem State.Touch.adds_canDupFrame (h : s0.Adds s) (n o stamp : Nat) (f : CanFrame) (r : Option Reading) :
    s0.Adds (s.canDupFrame n o stamp f r) := by
  unfold State.canDupFrame
  dsimp only
  split
  · exact
      have h1 := h.modCan _ _ (by decide)
      .ite h1 (h1.count _ |>.set _ _ |>.adds_canEvent _ _)
  · exact h.modCan _ _ (by decide) |>.canDeliver _ _ _ _ _ _ (by decide)

theorem State.Touch.adds_canAccept (h : s0.Adds s) (n o stamp : Nat) (f : CanFrame) (r : Option Reading) :
    s0.Adds (s.canAccept n o stamp f r) :=
  have h1 := h.canHeard _ _ (by decide)
  .ite (h.count _) <| .ite (h1.adds_canDupFrame _ _ _ _ _) <| .ite h1 <| .ite (h1.n2kFast _ _ _ _ _ (by decide)) <|
    .ite (h1.j1939Bam _ _ _ _ _ (by decide)) (h1.canDeliver _ _ _ _ _ _ (by decide))

theorem State.Touch.adds_canFiltered (h : s0.Adds s) (n stamp : Nat) (f : CanFrame) (r : Option Reading) :
    s0.Adds (s.canFiltered n stamp f r) := by
  unfold State.canFiltered
  split
  · exact .ite h (h.adds_canAccept _ _ _ _ _)
  · exact .ite (h.adds_canAccept _ _ _ _ _) h

theorem State.Touch.adds_canSlotStore (h : s0.Adds s) (n k stamp : Nat) (f : CanFrame) :
    s0.Adds (s.canSlotStore n k stamp f) :=
  have h1 := h.set _ _ |>.set _ _ |>.ite h
  have h2 := (h1.each _ _ fun _ _ h => h.wr _ _).set _ _
  .ite (h2.raise _ _ _) h2

theorem State.Touch.adds_canFrameRx (h : s0.Adds s) (n : Nat) (f : CanFrame) (ageNs : Nat) (r : Option Reading) :
    s0.Adds (s.canFrameRx n f ageNs r) := by
  unfold State.canFrameRx
  have h1 := h.canValid n (by decide)
  refine .ite h (.ite (h1.adds_canDetect _) (.ite (h1.count _) ?_))
  extract_lets s2
  have h2 : s0.Adds s2 := h1.ttReference _ _ _ (by decide) |>.ite h1
  split
  · exact
      have h3 := h2.adds_canSlotStore _ _ _ _
      .ite (h3.adds_canFiltered _ _ _ _) h3
  · exact h2.adds_canFiltered _ _ _ _

theorem State.Touch.adds_prpMismatch (h : s0.Adds s) (src : BitVec 48) : s0.Adds (s.prpMismatch src) := h.count _ |>.raise _ _ _

theorem State.Touch.adds_prpFrame (h : s0.Adds s) (lan : Nat) (src : BitVec 48) (seq : BitVec 16) (crc : Word) :
    s0.Adds (s.prpFrame lan src seq crc) := by
  unfold State.prpFrame
  split
  · exact
      have h1 := h.prpUnhold _ _ (by decide)
      .ite (h1.count _) (h1.adds_prpMismatch _)
  · split
    · split
      · exact .ite (h.count _) (h.adds_prpMismatch _)
      · exact h.prpHold _ _ _ _ (by decide)
    · exact .ite (h.upd_eth _ (by decide) |>.prpHold _ _ _ _ (by decide)) (h.set _ _ |>.count _)

theorem State.Touch.adds_ethFrameRx (h : s0.Adds s) (p : Nat) (f : EthRx) : s0.Adds (s.ethFrameRx p f) := by
  unfold State.ethFrameRx
  have h1 := h.count (Fld.ETHp_CNT0_RX_OK p)
  refine .ite h (.ite (h.count _) (.ite (h.count _) (.ite h1 (.ite (h1.prpSupervision _ (by decide)) ?_))))
  split
  · exact h1
  · exact h1.adds_prpFrame _ _ _ _

/-! The allocation, the solver and the control block. -/

theorem State.Touch.adds_sendElements (h : s0.Adds s) (stale : Bool) : s0.Adds (s.sendElements stale) := by
  refine h.each _ _ fun (_, i) u hu => ?_
  dsimp only
  split
  · exact .ite (hu.adds_portOutput _ _ _ _) hu
  · exact hu

theorem State.Touch.adds_alcRecord (h : s0.Adds s) (word resid : Nat) (stale : Bool) (slack dem : Int × Int × Int)
    (mags : List Rat) :
    s0.Adds (s.alcRecord word resid stale slack dem mags) := by
  unfold State.alcRecord
  refine State.Touch.adds_sendElements ?_ _
  split
  · exact h.upd_alc _ (by decide) |>.alcRegs _ (by decide) |>.upd_alc _ (by decide) |>.adds_publishOn _ _ _
  · exact h.upd_alc _ (by decide) |>.alcRegs _ (by decide) |>.upd_alc _ (by decide)

theorem State.Touch.adds_slackEvent (h : s0.Adds s) (bit code task : Nat) (slack : Int) :
    s0.Adds (s.slackEvent bit code task slack) :=
  have h1 := h.set _ _
  .ite h1 (h1.upd_fab _ (by decide) |>.raise _ _ _)

theorem State.Touch.adds_deadlineMiss (h : s0.Adds s) (task deadline : Nat) : s0.Adds (s.deadlineMiss task deadline) :=
  .ite h (h.adds_slackEvent _ _ _ _)

theorem State.Touch.adds_alcPublish (h : s0.Adds s) (stop : Nat) : s0.Adds (s.alcPublish stop) := by
  unfold State.alcPublish
  split
  · extract_lets +onlyGivenNames x put
    have hput : ∀ u v stop stale fig, s0.Adds u → s0.Adds (put u v stop stale fig) := fun _ _ _ _ _ hu =>
      hu.convertAll _ (by decide) |>.slvPublish _ _ _ (by decide) |>.forceShort _ (by decide) |>.adds_alcRecord _ _ _ _ _ _
    split
    · exact hput _ _ _ _ _ h
    · exact hput _ _ _ _ _ (h.adds_deadlineMiss _ _)
  · exact h

theorem State.Touch.adds_cqShareMiss (h : s0.Adds s) : s0.Adds s.cqShareMiss := .ite (h.raise _ _ _) h

theorem State.Touch.adds_dinEdge (h : s0.Adds s) (i : Nat) (level : Bool) : s0.Adds (s.dinEdge i level) := by
  unfold State.dinEdge
  have h1 := h.adds_dinSet i level
  refine .each (h1.compRamp (by decide) |>.ite h1) _ _ fun _ _ h => ?_
  split
  · exact .ite (h.thrRemove _ _ _ (by decide)) h
  · exact h

theorem State.Touch.adds_mpcPublish (h : s0.Adds s) (stop : Nat) : s0.Adds (s.mpcPublish stop) := by
  unfold State.mpcPublish
  extract_lets +onlyGivenNames x
  split
  · exact h.slvPublish _ _ _ (by decide)
  · extract_lets +onlyGivenNames w s1
    have h1 : s0.Adds s1 := h.slvPublish _ _ _ (by decide)
    refine .ite h1 ?_
    split
    · exact h1.modCtl _ (by decide) |>.adds_publishOn _ _ _
    · exact h1

theorem State.Touch.adds_epochPublish (h : s0.Adds s) (own : Bool × Bool × Bool) : s0.Adds (s.epochPublish own) := by
  unfold State.epochPublish
  split
  · exact
      have h1 := h.adds_publishEpoch _ _ _
      (h1.ite (h1.demandForm _ (by decide))).mpcStart _ (by decide)
  · exact h

theorem State.Touch.adds_fusionDeadline (h : s0.Adds s) : s0.Adds s.fusionDeadline := by
  unfold State.fusionDeadline
  refine .ite h (.demandForm ?_ _ (by decide))
  split
  · exact
      have h1 := h.upd_fus _ (by decide) |>.modCtl _ (by decide)
      .ite (h1.adds_deadlineMiss _ _) h1
  · exact h.upd_fus _ (by decide) |>.modCtl _ (by decide)

theorem State.Touch.adds_directElements (h : s0.Adds s) : s0.Adds s.directElements := by
  unfold State.directElements
  refine .ite h (State.Touch.adds_sendElements (.upd_alc (.modCtl (h.each _ _ fun _ _ h => ?_) _ (by decide)) _ (by decide)) _)
  split
  · exact .ite (h.safeThr _ _ (by decide)) (h.leverThr _ _ (by decide))
  · exact h

theorem State.Touch.adds_ctlTell (h : s0.Adds s) (w : Nat) : s0.Adds (s.ctlTell w) := by
  unfold State.ctlTell
  split
  · exact h.adds_publishOn _ _ _
  · exact h

theorem State.Touch.adds_ctlEmit (h : s0.Adds s) : s0.Adds s.ctlEmit := by
  unfold State.ctlEmit
  extract_lets +onlyGivenNames old w s1 s2
  have h1 : s0.Adds s1 := h.wr _ _
  have h2 : s0.Adds s2 := by
    unfold s2
    split
    · exact h1.set _ _
    · exact h1
  exact ((h2.set _ _).each _ _ fun _ _ h => .ite (.ite (h.set _ _) (h.set _ _ |>.raise _ _ _)) h).adds_ctlTell _

theorem State.Touch.adds_solveStop (h : s0.Adds s) (k stop : Nat) : s0.Adds (s.solveStop k stop) :=
  .ite h (.ite (h.adds_mpcPublish _) (.ite (h.adds_alcPublish _) (h.cqPublish _ _ (by decide))))

theorem State.Touch.adds_iterationEnd (h : s0.Adds s) (k : Nat) (own : OwnFlags) : s0.Adds (s.iterationEnd k own) := by
  unfold State.iterationEnd
  split
  next e => exact (State.Touch.of_eq_mk e (h.iterate _ _ (by decide))).adds_solveStop _ _
  next e => exact .of_eq_mk e (h.iterate _ _ (by decide))

theorem State.Touch.adds_stopTime (h : s0.Adds s) (k : Nat) : s0.Adds (s.stopTime k) :=
  h.slvAbandon _ (by decide) |>.adds_solveStop _ _

/-! The epoch that the intake forms. -/

theorem State.Touch.adds_formEpoch (h : s0.Adds s) (c : FusCfg) (start : List Rat) (fresh : List (Nat × List Sample))
    (ovf : Bool) :
    s0.Adds (s.formEpoch c start fresh ovf).1 :=
  have h1 := (h.each _ _ fun _ _ h => h.modSrc _ _ (by decide)).calRequests _ (by decide)
  have h2 := State.Touch.foldlFst _ _ (_, []) h1 fun x a ha => .bring _ a x ha (by decide)
  have h3 := (h2.adds_applyVotes _ _ _ |>.testRefs _ _ _ _ _ (by decide)).each _ _ fun _ _ h => h.pubState _ _ (by decide)
  h3.estimator _ _ (by decide) |>.upd_fus _ (by decide) |>.set _ _

theorem State.Touch.adds_intakeClose (h : s0.Adds s) (start : List Rat) : s0.Adds (s.intakeClose start) := by
  unfold State.intakeClose
  split
  · exact h
  · refine .ite h ?_
    dsimp only
    have h1 := State.Touch.foldlFst (List.range 32) (State.intakeSlot s.frame.start) (s, [], []) h fun x a ha =>
      .intakeSlot _ a x ha (by decide)
    exact h1.lateSamples _ _ _ (by decide) |>.adds_formEpoch _ _ _ _ |>.targetFresh _ (by decide)

/-! Tasks and their placement. -/

theorem State.Touch.adds_noPlacement (h : s0.Adds s) (d : TaskDef) : s0.Adds (s.noPlacement d) :=
  have h1 := h.setPlace _ _ (by decide)
  have h2 := (h1.ite (h1.modFab _ (by decide) |>.raise _ _ _)).each _ _ fun _ _ h => h.dropInst _ (by decide)
  h2.slotReason _ _ _ (by decide)

theorem State.Touch.adds_relocate (h : s0.Adds s) (d : TaskDef) : s0.Adds (s.relocate d) := by
  unfold State.relocate
  split
  · exact h.moveTask _ _ (by decide)
  · exact h.adds_noPlacement _

theorem State.Touch.adds_redispatch (h : s0.Adds s) (d : TaskDef) (x : TaskInst) : s0.Adds (s.redispatch d x) := by
  unfold State.redispatch
  dsimp only
  split
  · split
    · exact h.startRerun _ _ _ _ (by decide)
    · exact h.callSpare _ _ _ _ (by decide)
    · exact h
  · split
    · exact .ite (h.modTask _ _ _ (by decide)) (h.modTask _ _ _ (by decide) |>.adds_relocate _)
    · exact h.modTask _ _ _ (by decide) |>.adds_noPlacement _

theorem State.Touch.adds_egressAccept (h : s0.Adds s) (d : TaskDef) (x : TaskInst) (e : BitVec 128) :
    s0.Adds (s.egressAccept d x e) := by
  unfold State.egressAccept
  dsimp only
  split
  · exact .ite (h.count _) (h.count _ |>.modChan _ _ _ (by decide) |>.raise _ _ _)
  · exact h.modFab _ (by decide)

theorem State.Touch.adds_channelPortOutput (h : s0.Adds s) (w : Word) : s0.Adds (s.channelPortOutput w) := by
  unfold State.channelPortOutput
  split
  · exact h
  · extract_lets +onlyGivenNames s1
    have h1 : s0.Adds s1 := h.modFab _ (by decide)
    split
    · exact .ite (h1.adds_portOutput _ _ _ _) h1
    · exact h1

theorem State.Touch.adds_slackToken (h : s0.Adds s) (t : Nat) : s0.Adds (s.slackToken t) := by
  unfold State.slackToken
  split
  · exact
      have h1 := h.modFab _ (by decide)
      have h2 := h1.wr _ _ |>.ite h1
      have h3 := h2.count _ |>.adds_slackEvent _ _ _ _ |>.ite h2
      .ite h1 (.ite (h3.adds_slackEvent _ _ _ _) h3)
  · exact h

theorem State.Touch.adds_evict (h : s0.Adds s) (reason : Nat) : s0.Adds (s.evict reason) := by
  unfold State.evict
  dsimp only
  refine .each (.each (h.each _ _ fun _ _ h => h.freeOf _ (by decide) |>.modTask _ _ _ (by decide)
      |>.slotReason _ _ _ (by decide)) _ _ fun _ _ h => ?_) _ _ fun _ _ h => ?_
  · exact h.adds_relocate _
  split
  · exact .ite (h.adds_redispatch _ _) h
  · exact h

theorem State.Touch.adds_lostRun (h : s0.Adds s) (x : TaskInst) : s0.Adds (s.lostRun x) := by
  unfold State.lostRun
  split
  · exact h
  · exact
      have h1 := h.modTask _ _ _ (by decide) |>.count _ |>.slotReason _ _ _ (by decide)
      .ite (h.dropInst _ (by decide)) (.ite (h.raise _ _ _ |>.abandonInst _ _ _ (by decide)) (h1.adds_redispatch _ _))

theorem State.Touch.adds_guaranteeConflict (h : s0.Adds s) (k : Nat) : s0.Adds (s.guaranteeConflict k) :=
  have h1 := h.modFab _ (by decide)
  .ite h1 (h1.count _ |>.adds_conflictEvent _ _ _ _)

theorem State.Touch.adds_waitAbort (h : s0.Adds s) (given : List WaitLink) : s0.Adds (s.waitAbort given) := by
  unfold State.waitAbort
  dsimp only
  split
  · exact h
  · split
    · exact h
    · exact
        have h1 := h.discardPartial _ (by decide) |>.releaseAll _ (by decide) |>.count _ |>.set _ _
            |>.faultRecord _ _ _ _ (by decide) |>.raise _ _ _
        have h2 := h1.modTask _ _ _ (by decide) |>.modFab _ (by decide)
        .ite (h2.abandonInst _ _ _ (by decide)) (h2.count _ |>.slotReason _ _ _ (by decide))

/-! The group. -/

theorem State.Touch.adds_demote (h : s0.Adds s) (new : Word) (resync : Bool) : s0.Adds (s.demote new resync) :=
  have h1 := h.upd_chans _ (by decide) |>.roleOutputs _ (by decide) |>.standbyLoops (by decide) |>.aoutSafe (by decide)
      |>.canRole _ (by decide) |>.set _ _ |>.set _ _ |>.set _ _ |>.count _ |>.ctlFlush (by decide) |>.dropTasks (by decide)
  h1.upd_slv _ (by decide) |>.modGrp _ (by decide) |>.raise _ _ _ |>.slhSync (by decide)

theorem State.Touch.adds_seeEpoch (h : s0.Adds s) (g : Word) : s0.Adds (s.seeEpoch g) :=
  (State.Touch.ite (h.adds_demote _ _) h).noteEpoch _ (by decide)

theorem State.Touch.adds_seamFill (hs : s0.Adds s) (h : HbInfo) (f kp : Nat) (data : List Byte) :
    s0.Adds (s.seamFill h f kp data) := by
  refine .raise (hs.each _ _ fun _ _ h => ?_) _ _ _
  exact
    have h1 := h.modChan _ _ _ (by decide)
    .ite (h1.seamTimed _ _ _ _ (by decide)) (.ite (h1.seamFrame _ _ _ _ (by decide)) (h1.seamPeriod _ _ _ _ (by decide)))

theorem State.Touch.adds_takeOver (h : s0.Adds s) : s0.Adds s.takeOver := by
  unfold State.takeOver
  split
  · exact h
  · extract_lets +onlyGivenNames s1 s2
    have h1 : s0.Adds s1 := h.claim _ (by decide)
    have h2 : s0.Adds s2 := by
      unfold s2
      split
      · exact (h1.adoptState _ (by decide) |>.slvPrimal (by decide)).adds_seamFill _ _ _ _
      · exact h1
    exact h2.loopEmit (by decide) |>.ite h2 |>.modGrp _ (by decide)

theorem State.Touch.adds_groupStart (h : s0.Adds s) : s0.Adds s.groupStart :=
  have h1 := h.modGrp _ (by decide)
  .ite (.ite (h1.set _ _) (h1.claimForm (by decide))) (.ite (h1.raise _ _ _) h1)

theorem State.Touch.adds_takeoverTimeout (h : s0.Adds s) : s0.Adds s.takeoverTimeout := by
  unfold State.takeoverTimeout
  split
  · exact h
  · exact
      have h1 := h.raise _ _ _ |>.modGrp _ (by decide)
      .ite h (.ite h1.adds_takeOver h1)

theorem State.Touch.adds_rankWaitExpired (h : s0.Adds s) : s0.Adds s.rankWaitExpired := by
  unfold State.rankWaitExpired
  split
  · exact h
  · exact .ite h.adds_takeOver h

theorem State.Touch.adds_groupIsolated (h : s0.Adds s) : s0.Adds s.groupIsolated := .ite (h.set _ _ |>.raise _ _ _) h

theorem State.Touch.adds_heartbeatRx (h : s0.Adds s) (b : List Byte) : s0.Adds (s.heartbeatRx b) :=
  h.slhRx _ _ _ _ fun _ h =>
    have h1 := h.modMember _ _ (by decide) |>.set _ _ |>.adds_seeEpoch _
    have h2 := h1.set _ _ |>.modGrp _ (by decide) |>.ite h1
    .ite h1 (.ite (.ite (h1.count _ |>.claimSend _ _ _ (by decide)) h1) (.ite h2 (h2.followBeat _ _ _ (by decide))))

theorem State.Touch.adds_claimRx (h : s0.Adds s) (b : List Byte) : s0.Adds (s.claimRx b) :=
  h.slhRx _ _ _ _ fun _ h =>
    have h1 := h.adds_seeEpoch _
    .ite (h.count _) (.ite (h1.wr _ _ |>.modGrp _ (by decide)) h1)

theorem State.Touch.adds_fragmentRx (h : s0.Adds s) (b : List Byte) : s0.Adds (s.fragmentRx b) := by
  refine h.slhRx _ _ _ _ fun u h => .ite (h.count _) ?_
  extract_lets +onlyGivenNames g u1
  have h1 : s0.Adds u1 := h.adds_seeEpoch _
  refine .ite h1 ?_
  dsimp only
  split
  · refine .stateComplete ?_ _ _ (by decide)
    split
    · exact .iteFst h1 (h1.count _)
    · exact h1
  · refine .modGrp ?_ _ (by decide)
    split
    · exact .iteFst h1 (h1.count _)
    · exact h1

theorem State.Touch.adds_handoverStart (h : s0.Adds s) : s0.Adds s.handoverStart := by
  unfold State.handoverStart
  extract_lets +onlyGivenNames e s1 s2
  have h2 : s0.Adds s2 := by
    unfold s2
    split
    · exact .ite (h.adds_demote _ _ |>.modGrp _ (by decide)) h
    · exact h
  split
  · exact .ite (h2.handoverClaim (by decide)) h2
  · exact h2

theorem State.Touch.adds_partLost (h : s0.Adds s) : s0.Adds s.partLost := by
  unfold State.partLost
  have h1 := (h.set Fld.FLT_STAT_PART_LOST 1).raise 0x2808 0 ((s.set Fld.FLT_STAT_PART_LOST 1).faultData 0)
  refine .ite (h1.dropTasks (by decide)) (.giveUpRole (.releaseTimed ?_ (by decide)) (by decide))
  refine .each (.each (h1.each _ _ fun _ _ h => ?_) _ _ fun _ _ h => h.safeOut _ _ (by decide)) _ _ fun _ _ h => ?_
  · split
    · exact h.safeThr _ _ (by decide)
    · exact h
  · split
    · exact .ite (h.modLoop _ _ (by decide)) h
    · exact h

/-! Faults and the operations. -/

theorem State.Touch.adds_unitFault (h : s0.Adds s) (q u cause : Nat) : s0.Adds (s.unitFault q u cause) := by
  unfold State.unitFault
  refine .ite h ?_
  extract_lets +onlyGivenNames x s1 s2 s3
  clear_value x
  have h2 : s0.Adds s2 := h.fence _ _ (by decide) |>.faultRecord _ _ _ _ (by decide) |>.raise _ _ _
  have h3 : s0.Adds s3 := by
    unfold s3
    split
    · exact h2.discardPartial _ (by decide) |>.adds_lostRun _
    · exact h2
  exact .ite (h3.adds_evict _) h3

theorem State.Touch.adds_spareWakeDone (h : s0.Adds s) (q u : Nat) (pass : Bool) : s0.Adds (s.spareWakeDone q u pass) := by
  unfold State.spareWakeDone
  split
  · exact h
  · refine .ite h (.ite ?_ ?_)
    · dsimp only
      split
      · exact h.unmaskBanks _ _ (by decide) |>.startRerun _ _ _ _ (by decide)
      · exact h.unmaskBanks _ _ (by decide) |>.setUnit _ _ _ (by decide)
    · extract_lets +onlyGivenNames s1 s2 s3 s4
      have h3 : s0.Adds s3 := h.fence _ _ (by decide) |>.count _ |>.count _ |>.faultRecord _ _ _ _ (by decide) |>.raise _ _ _
      have h4 : s0.Adds s4 := by
        unfold s4
        split
        · exact h3.adds_redispatch _ _
        · exact h3
      exact .ite (h4.adds_evict _) h4

theorem State.Touch.adds_retireBank (h : s0.Adds s) (q b cause : Nat) : s0.Adds (s.retireBank q b cause) :=
  .ite h (h.set _ _ |>.count _ |>.faultRecord _ _ _ _ (by decide) |>.raise _ _ _ |>.adds_evict _)

theorem State.Touch.adds_moveRegion (h : s0.Adds s) (g : Nat) : s0.Adds (s.moveRegion g) :=
  (h.altIn _ _ (by decide) |>.adds_evict _).each _ _ fun _ _ h => h.slvCold _ (by decide)

theorem State.Touch.adds_dieLoss (h : s0.Adds s) (d cause : Nat) : s0.Adds (s.dieLoss d cause) :=
  have h1 := h.set _ _ |>.faultRecord _ _ _ _ (by decide)
  have h2 := (h1.raise _ _ _).each _ _ fun _ _ h => h.isolate _ (by decide)
  have h3 := h1.each _ _ fun _ _ h => h.isolate _ (by decide)
  .ite h (.ite (h2.each _ _ fun _ _ h => h.adds_moveRegion _) h3.adds_partLost)

theorem State.Touch.adds_regionFault (h : s0.Adds s) (g cause : Nat) : s0.Adds (s.regionFault g cause) :=
  have h1 := h.faultRecord _ _ _ _ (by decide) |>.raise _ _ _ |>.isolate _ (by decide) |>.adds_moveRegion _
  .ite h (.ite (h1.adds_dieLoss _ _) h1)

theorem State.Touch.adds_clusterFault (h : s0.Adds s) (q cause : Nat) : s0.Adds (s.clusterFault q cause) :=
  have h1 := h.maskBanks _ _ (by decide) |>.set _ _ |>.set _ _ |>.faultRecord _ _ _ _ (by decide) |>.raise _ _ _
  .ite h (.ite (h1.adds_regionFault _ _) (h1.adds_evict _))

theorem State.Touch.adds_bridgeFault (h : s0.Adds s) : s0.Adds s.bridgeFault :=
  .ite h (h.set _ _ |>.faultRecord _ _ _ _ (by decide) |>.raise _ _ _)

theorem State.Touch.adds_siteFault (h : s0.Adds s) (site : FaultSite) (cause : Nat) :
    s0.Adds (s.siteFault site cause) := by
  cases site with
  | unit q u => exact h.adds_unitFault _ _ _
  | pipMover q => exact h.adds_clusterFault _ _
  | bankOutput q b => exact h.adds_retireBank _ _ _
  | regionBridge g => exact h.adds_regionFault _ _
  | umberBridge d => exact h.adds_dieLoss _ _
  | ochreBridge => exact h.adds_bridgeFault

theorem State.Touch.adds_opNext (h : s0.Adds s) (d : TaskDef) (x : TaskInst) (f : OpFlags) (testWrong : Bool) :
    s0.Adds (s.opNext d x f testWrong) :=
  have h1 := h.modTask _ _ _ (by decide)
  .ite h1 (.ite (h1.adds_unitFault _ _ _) (h1.taskComplete _ _ (by decide)))

theorem State.Touch.adds_eccAct (h : s0.Adds s) (q : Nat) (e : EccResult) : s0.Adds (s.eccAct q e) := by
  cases e with
  | clean => exact h
  | corrected => exact h.count _
  | badBank b => exact h.count _ |>.adds_retireBank _ _ _
  | badPipOrTable => exact h.count _ |>.adds_clusterFault _ _
  | badRegionMemory => exact h.count _ |>.adds_regionFault _ _

theorem State.Touch.adds_opCommit (h : s0.Adds s) (q : Nat) (d : TaskDef) (x : TaskInst) (testWrong : Bool) :
    s0.Adds (s.opCommit q d x testWrong) := by
  unfold State.opCommit
  split
  · exact h.adds_opNext _ _ _ _
  · exact .ite (h.adds_egressAccept _ _ _ |>.adds_opNext _ _ _ _) (h.opRun _ _ _ _ _ (by decide) |>.adds_opNext _ _ _ _)

theorem State.Touch.adds_operationComplete (h : s0.Adds s) (q u : Nat) (ecc : List EccResult) (testWrong : Bool) :
    s0.Adds (s.operationComplete q u ecc testWrong) := by
  unfold State.operationComplete
  split
  · exact h
  · split
    · exact h
    · exact
        have h1 := h.each _ _ fun _ _ h => h.adds_eccAct _ _
        .ite (h1.adds_opCommit _ _ _ _) h1

/-! Reset and clocks. -/

theorem State.Touch.adds_logReset (h : s0.Adds s) (long : Bool) : s0.Adds (s.logReset long) :=
  have h1 := h.seedRecorder (by decide) |>.upd_aon _ (by decide) |>.raise _ _ _
  .ite (h1.raise _ _ _) h1

theorem State.Touch.adds_resetRelease (h : s0.Adds s) (gid lowMs : Nat) : s0.Adds (s.resetRelease gid lowMs) :=
  .ite (h.resetLength _ (by decide) |>.readStraps _ (by decide) |>.adds_logReset _ |>.startSources (by decide)) h

theorem State.Touch.adds_pwrcycNotDone (h : s0.Adds s) : s0.Adds s.pwrcycNotDone :=
  .ite h ((h.upd_aon _ (by decide)).running _ fun _ h => h.raise _ _ _)

theorem State.Touch.adds_noOsc (h : s0.Adds s) : s0.Adds s.noOsc := .ite h (h.set _ _ |>.raise _ _ _)

theorem State.Touch.adds_limpEntry (h : s0.Adds s) (cause : Nat) : s0.Adds (s.limpEntry cause) :=
  have h1 := h.domains _ (by decide) |>.set _ _ |>.count _ |>.raise _ _ _ |>.set _ _ |>.tbHoldover (by decide) |>.raise _ _ _
      |>.set _ _
  .ite h (((h1.each _ _ fun _ _ h => .ite h (h.set _ _)).adds_canLimp).ethStop (by decide))

theorem State.Touch.adds_sourceTrip (h : s0.Adds s) (x : ExtSource) : s0.Adds (s.sourceTrip x) :=
  have h1 := h.count _ |>.upd_clk _ (by decide) |>.set _ _
  have h2 := h1.set _ _
  have h3 := h1.set _ _ |>.count _ |>.upd_clk _ (by decide) |>.set _ _
  .ite h (.ite h1 (.ite (.ite (h2.raise _ _ _) h2) (h3.adds_safClockFault |>.adds_limpEntry _)))

theorem State.Touch.adds_pllLockLost (h : s0.Adds s) : s0.Adds s.pllLockLost := .ite h (h.set _ _ |>.adds_limpEntry _)

theorem State.Touch.adds_clkReturn (h : s0.Adds s) : s0.Adds s.clkReturn :=
  .ite h (h.domains _ (by decide) |>.set _ _ |>.set _ _ |>.set _ _ |>.raise _ _ _)

theorem State.Touch.adds_gateForced (h : s0.Adds s) (reg bit : Nat) (addr : Word) :
    s0.Adds (s.gateForced reg bit addr) :=
  .ite (h.gateClose _ _ (by decide) |>.busError _ _ (by decide) |>.raise _ _ _) h

/-! Images, their sections and their adoption. -/

theorem State.Touch.adds_imgEvent (h : s0.Adds s) (code : Nat) : s0.Adds (s.imgEvent code) := h.raise _ _ _

theorem State.Touch.adds_chooseBank (h : s0.Adds s) : s0.Adds s.chooseBank := by
  unfold State.chooseBank
  split
  · exact h.set _ _ |>.set _ _ |>.bankRelation _ (by decide) |>.bankRelation _ (by decide) |>.adds_imgEvent _
  · exact
      have h1 := h.set _ _ |>.runBank _ (by decide) |>.setBit _ _ |>.setBit _ _
      have h2 := h1.adds_imgEvent _ |>.ite h1
      .ite (h2.adds_imgEvent _) h2

theorem State.Touch.adds_imageCheckDone (h : s0.Adds s) : s0.Adds s.imageCheckDone :=
  .ite h (h.bankChecked _ (by decide) |>.bankChecked _ (by decide) |>.adds_chooseBank |>.startStep _ (by decide))

theorem State.Touch.adds_conflictRepeat (h : s0.Adds s) : s0.Adds s.conflictRepeat := .ite (h.adds_imgEvent _) h

theorem State.Touch.adds_loadRegions (h : s0.Adds s) (c : RegionCfg) : s0.Adds (s.loadRegions c) :=
  have h1 := h.each _ _ fun _ _ h => h.loadRegion _ _ (by decide)
  h1.each _ _ fun _ _ h => .ite (h.setPlace _ _ (by decide)) (h.adds_relocate _)

theorem State.Touch.adds_loadSections (h : s0.Adds s) (c : ImageCfg) : s0.Adds (s.loadSections c) :=
  have h0 := (h.upd_cfg _ _ (by decide)).each _ _ fun _ _ h => h.wr _ _
  have h1 := h0.openGates _ (by decide) |>.loadClock _ (by decide) |>.loadTime _ (by decide)
  have h2 := h1.adds_loadRegions _ |>.set _ _ |>.set _ _ |>.loadChannels _ (by decide) |>.ownSync (by decide)
      |>.loadAnalogue _ (by decide) |>.loadCan _ (by decide)
  h2.thrInit (by decide) |>.adds_slateLoad _ |>.overlayAgain (by decide) |>.startStep _ (by decide) |>.adds_groupStart

theorem State.Touch.adds_sectionsLoaded (h : s0.Adds s) (loadFail : Bool) (c : ImageCfg) :
    s0.Adds (s.sectionsLoaded loadFail c) :=
  .ite h (.ite (h.set _ _ |>.adds_chooseBank) (h.loadMemory _ _ _ (by decide) |>.adds_loadSections _))

theorem State.Touch.adds_regionBack (h : s0.Adds s) (g : Nat) : s0.Adds (s.regionBack g) :=
  have h1 := h.set _ _ |>.set _ _ |>.altIn _ _ (by decide) |>.altInSync _ (by decide)
  have h2 := h1.each _ _ fun _ _ h => h.each _ _ fun _ _ h => .ite (h.setUnit _ _ _ (by decide)) h
  have h3 := h2.each _ _ fun _ _ h => .ite (.ite (h.moveTask _ _ (by decide)) (h.adds_relocate _)) (.ite
      (h.setPlace _ _ (by decide)) h)
  h3.modFab _ (by decide)

theorem State.Touch.adds_reloadDone (h : s0.Adds s) (g : Nat) : s0.Adds (s.reloadDone g) :=
  h.adds_regionBack _ |>.reloadOver (by decide) |>.count _ |>.adds_imgEvent _

theorem State.Touch.adds_reloadFrame (h : s0.Adds s) : s0.Adds s.reloadFrame := by
  unfold State.reloadFrame
  split
  · exact h.copyBlocks _ _ _ (by decide) |>.reloadStep _ _ (by decide)
  · exact h.set _ _ |>.reloadStep _ _ (by decide) |>.altIn _ _ (by decide) |>.adds_evict _
  · exact h.copyBlocks _ _ _ (by decide) |>.reloadStep _ _ (by decide)
  · exact h.adds_reloadDone _
  · exact h

theorem State.Touch.adds_reloadFailed (h : s0.Adds s) : s0.Adds s.reloadFailed :=
  have h1 := h.reloadOver (by decide) |>.count _ |>.adds_imgEvent _
  .ite (h1.adoptHalt _ (by decide)) h1

theorem State.Touch.adds_regionSectionLoaded (h : s0.Adds s) (ok : Bool) (c : RegionCfg) :
    s0.Adds (s.regionSectionLoaded ok c) := by
  unfold State.regionSectionLoaded
  split
  · exact
      have h1 := h.regionLoad _ _ (by decide)
      .ite h.adds_reloadFailed (.ite (h1.reloadStep _ _ (by decide)) (h1.adds_reloadDone _))
  · exact h

theorem State.Touch.adds_imageAdopted (h : s0.Adds s) (k : Nat) : s0.Adds (s.imageAdopted k) :=
  h.adoptSet _ (by decide) |>.runBank _ (by decide) |>.set _ _ |>.set _ _ |>.count _ |>.adds_imgEvent _ |>.slhSync (by decide)

theorem State.Touch.adds_adoptNext (h : s0.Adds s) : s0.Adds s.adoptNext := by
  unfold State.adoptNext
  split
  · exact h
  · exact h.adds_imageAdopted _
  · exact
      have h1 := h.set _ _
      .ite (.ite (h1.adoptHalt _ (by decide)) (h1.reloadBegin _ _ (by decide))) <| .ite (h1.canReinitStart _ (by decide)) (.ite
          (h1.ethReinitStart _ (by decide)) h1)

theorem State.Touch.adds_imgAdopt (h : s0.Adds s) (k : Nat) : s0.Adds (s.imgAdopt k) := by
  unfold State.imgAdopt
  refine .ite (h.imgRefuse _ _ (by decide)) (.ite (h.imgRefuse _ _ (by decide)) ?_)
  split
  · exact .ite (h.imgRefuse _ _ (by decide)) (h.set _ _ |>.set _ _ |>.adds_adoptNext)
  · exact .ite (h.imgRefuse _ _ (by decide)) (h.adoptSet _ (by decide) |>.set _ _ |>.adds_adoptNext)

theorem State.Touch.adds_adoptStepDone (h : s0.Adds s) (out : AdoptOutcome) (given : ImageCfg) :
    s0.Adds (s.adoptStepDone out given) := by
  unfold State.adoptStepDone
  split
  · refine .ite h ?_
    split
    · exact h.adoptHalt _ (by decide)
    · exact h.adoptHalt _ (by decide)
    · exact h.adoptHalt _ (by decide)
    · exact .ite (h.adoptHalt _ (by decide)) (h.adoptApply _ _ _ (by decide) |>.set _ _ |>.adoptSet _ (by decide)
          |>.adds_adoptNext)
  · exact h

/-! The frame. -/

theorem State.Touch.adds_frameStart (h : s0.Adds s) : s0.Adds s.frameStart :=
  have h1 := h.compFire _ (by decide) |>.anaFrame (by decide) |>.upd_tb _ (by decide) |>.closeSlots _ (by decide)
  have h2 := h1.adds_guaranteeConflict _ |>.ite h1 |>.nextFrame (by decide) |>.anaLatch (by decide) |>.frameClear (by decide)
  have h3 := h2.adds_handoverStart |>.standbyMode (by decide) |>.triggerAlign (by decide) |>.chanFrame (by decide)
      |>.ethSwapApply (by decide) |>.frameControl (by decide)
  have h4 := h3.adds_reloadFrame |>.ite h3 |>.frameWork (by decide)
  .ite h (.ite h4 (h4.healthTx (by decide)))

theorem State.Touch.adds_emissionTime (h : s0.Adds s) : s0.Adds s.emissionTime :=
  have h1 := h.adds_directElements |>.adds_ctlEmit |>.ite h |>.releaseTimed (by decide) |>.closeSlots _ (by decide)
  have h2 := h1.loopEmit (by decide) |>.aoutEmit (by decide) |>.ite h1
  have h3 := h2.sentShift (by decide) |>.ite h2 |>.upd_frame _ (by decide)
  .ite h (.ite (h3.stateTx (by decide)) h3)

/-! Registers and the management port. -/

theorem State.Touch.adds_imgCmd (h : s0.Adds s) (v : Word) : s0.Adds (s.imgCmd v) := by
  unfold State.imgCmd
  exact h.unlessRefused _ _
    (fun _ h => .ite h <| .ite (h.imgVerify _ (by decide)) <| .ite (h.adds_imgAdopt _) <| .ite (h.imgReload _ (by decide))
        (h.imgRefuse _ _ (by decide)))
    fun _ h => h.when _ _ fun _ h => h.wr _ _

theorem State.Touch.adds_writeCore (h : s0.Adds s) (a : Nat) (r : RegRow) (v : Word) : s0.Adds (s.writeCore a r v) := by
  unfold State.writeCore
  exact
    .ite ((h.put _ _ _ (by decide)).when _ _ fun _ h => h.wr _ _ |>.wr _ _) <|
    .ite (h.when _ _ fun _ h => h.fltCntClr (by decide)) <|
    .ite (h.adds_imgCmd _) <|
    .ite (h.when _ _ fun _ h => h.mgtCntClr (by decide)) <|
    .ite (h.unlessRefused _ _ (fun _ h => h.when _ _ fun _ h => h.recCtrlFreeze (by decide))
      fun _ h => (h.when _ _ fun _ h => h.endFreeze _ (by decide)).when _ _ fun _ h => h.wr _ _) <|
    .ite (h.unlessRefused _ _ (fun _ h => h.when _ _ fun _ h => h.handover _ (by decide))
      fun _ h => h.when _ _ fun _ h => h.wr _ _ |>.wr _ _) <|
    .ite ((State.Touch.ite h.adds_holdStart (h.when _ _ fun _ h => h.adds_holdEnd)).when _ _ fun _ h => h.wr _ _) <|
    .ite (h.unlessRefused _ _ (fun _ h => h.fusCalFreeze _ (by decide)) fun _ h => h.when _ _ fun _ h =>
        h.fusCntClr (by decide)) <|
    .ite (h.modecmdWrite _ (by decide)) <|
    .ite ((h.each _ _ fun _ _ h => h.slvRefreshClass _ (by decide)).when _ _ fun _ h => h.slvCntClr (by decide)) <|
    .ite (h.when _ _ fun _ h => h.wr _ _) <|
    .ite (h.alcEnableWrite _ (by decide)) <|
    .ite ((h.when _ _ fun _ h => h.cqMarkOld (by decide) |>.cqOverall (by decide)).when _ _ fun _ h => h.set _ _ |>.set _ _)
      (h.put _ _ _ (by decide))

theorem State.Touch.adds_regWrite (h : s0.Adds s) (session : Word) (a : Nat) (v : Word) :
    s0.Adds (s.regWrite session a v) := by
  unfold State.regWrite
  refine .ite h (.ite (h.memWrite _ (by decide)) ?_)
  split
  · exact h
  · exact
      .ite (h.writeSys _ _ _ _ (by decide)) <| .ite (h.writeClk _ _ _ (by decide)) <| .ite (h.writeTb _ _ _ (by decide)) <|
      .ite (h.adds_writeCore _ _ _) <| .ite (h.writeSrv _ _ _ (by decide)) <|
      .ite (h.writeAna _ _ _ (by decide)) <| .ite (h.writeEth _ _ _ (by decide)) <|
      .ite (h.writeCan _ _ _ (by decide)) (h.writeOchre _ _ _ _ (by decide))

theorem State.Touch.adds_readEcc (h : s0.Adds s) (a : Nat) : s0.Adds (s.readEcc a) :=
  have h1 := h.count _
  .ite (h1.adds_regionFault _ _) (.ite (h1.adds_retireBank _ _ _) (h1.adds_clusterFault _ _))

theorem State.Touch.adds_readWord (h : s0.Adds s) (session : Word) (a : Nat) (ecc : ReadEcc) :
    s0.Adds (s.readWord session a ecc).1 := by
  unfold State.readWord
  refine .iteFst ?_ (h.busRead _ _ (by decide))
  have h1 := h.fetchWord a (by decide)
  cases ecc with
  | clean => exact h1.busRead _ _ (by decide)
  | corrected => exact h1.count _
  | uncorrectable => exact h1.adds_readEcc _ |>.fresh (by decide)

theorem State.Touch.adds_readWords (h : s0.Adds s) (session : Word) (ecc : Nat → ReadEcc) (xs : List (Nat × Nat)) :
    s0.Adds (s.readWords session ecc xs).1 := by
  induction xs generalizing s with
  | nil => exact h
  | cons x xs ih => exact ih (h.adds_readWord _ _ _)

theorem State.Touch.adds_mgmtRead (h : s0.Adds s) (r : Req) (addr : Word) (count : BitVec 16) (ecc : Nat → ReadEcc) :
    s0.Adds (s.mgmtRead r addr count ecc).1 := by
  unfold State.mgmtRead
  refine .iteFst h ?_
  split
  next e =>
    have h1 := State.Touch.of_eq_mk e (h.adds_readWords _ _ _)
    dsimp only
    split
    · exact h1
    · exact h1

theorem State.Touch.adds_writeWord (h : s0.Adds s) (session : Word) (a : Nat) (v : Word) :
    s0.Adds (s.writeWord session a v).1 :=
  have h1 := h.refusedBy _ fun _ h => h.adds_regWrite _ _ _
  .iteFst (h.when _ _ fun _ h => h.adds_regWrite _ _ _) <| .iteFst (h.busError _ _ (by decide)) <| .iteFst (h.adds_regWrite _ _ _)
      (.iteFst h1 h1)

theorem State.Touch.adds_writeWords (h : s0.Adds s) (session : Word) (i a : Nat) (xs : List Word) :
    s0.Adds (s.writeWords session i a xs).1 := by
  induction xs generalizing s i a with
  | nil => exact h
  | cons v vs ih => exact .iteFst (ih (h.adds_writeWord _ _ _) _ _) (h.adds_writeWord _ _ _)

theorem State.Touch.adds_mgmtWrite (h : s0.Adds s) (r : Req) (addr : Word) (count : BitVec 16) (data : List Word) :
    s0.Adds (s.mgmtWrite r addr count data).1 :=
  .iteFst h (.iteFst h (h.adds_writeWords _ _ _ _))

theorem State.Touch.adds_devResetConfirm (h : s0.Adds s) (session token : Word) :
    s0.Adds (s.devResetConfirm session token).1 :=
  .iteFst (h.setArm _ (by decide) |>.raise _ _ _ |>.upd_mgt _ (by decide)) (h.setArm _ (by decide))

theorem State.Touch.adds_pwrcycConfirm (h : s0.Adds s) (session token : Word) :
    s0.Adds (s.pwrcycConfirm session token).1 :=
  .iteFst (h.newArm _ _ (by decide)) (.iteFst (h.setArm _ (by decide) |>.set _ _ |>.count _ |>.raise _ _ _)
      (h.setArm _ (by decide)))


end Sys2Proof.Machine
end

section
/-!
The event port (R253): every command but EVENT_COMMIT only adds events behind those that wait, on a part that runs after it, and
EVENT_COMMIT takes the first.  Settles O6.
-/
namespace Sys2Proof.Machine

/-- A command of the control block that waits for the frame start, and is forwarded to the group (R262). -/
theorem State.Touch.queued {s0 s : State} (h : s0.Adds s) (f : CtlSt → CtlSt) (code : Nat) (body : List Byte) :
    s0.Adds ((s.modCtl f).forward code body) :=
  (h.modCtl f (by decide)).forward code body (by decide)

/-- A command other than EVENT_COMMIT that only adds events at the port of a part that is not held in reset after it. -/
def AddsEvents (c : Instr) : Prop :=
  c ≠ .eventCommit → ∀ s t, exec c s = .next t → t.rst.inReset = false → s.Adds t

/-! The forms that a command has. -/

theorem AddsEvents.of_adds {c : Instr} {f : State → State} (e : ∀ s, exec c s = .next (f s))
    (hf : ∀ s : State, s.Adds (f s)) : AddsEvents c := by
  intro _ s t ht _
  cases (e s).symm.trans ht
  exact hf s

/-- A command that leaves the part held in reset (R412, R467). -/
theorem AddsEvents.of_reset {c : Instr} {f : State → State} (e : ∀ s, exec c s = .next (f s))
    (hf : ∀ s, (f s).rst.inReset = true) : AddsEvents c := by
  intro _ s t ht hr
  cases (e s).symm.trans ht
  exact nomatch (hf s).symm.trans hr

theorem AddsEvents.running {c : Instr} {f : State → State} (e : ∀ s, exec c s = .next (s.running f))
    (hf : ∀ u : State, u.Adds (f u)) : AddsEvents c :=
  .of_adds e fun s => s.adds_refl.running f fun u h => h.trans (hf u)

theorem AddsEvents.access {c : Instr} {a : Nat} {f : State → State} (e : ∀ s, exec c s = .next (s.access a f))
    (hf : ∀ u : State, u.Adds (f u)) : AddsEvents c :=
  .of_adds e fun s => s.adds_refl.access a f fun u h => h.trans (hf u)

theorem AddsEvents.request {c : Instr} {r : Req} {ttype : Nat} {body : List Byte} {g : Gate} {f : State → State × Resp}
    (e : ∀ s, exec c s = .next (s.running fun s => s.request r ttype body g f)) (hf : ∀ u : State, u.Adds (f u).1) :
    AddsEvents c :=
  .running e fun u => u.adds_refl.request r ttype body g f (fun v h => h.trans (hf v)) (by decide)

theorem AddsEvents.command {c : Instr} {r : Req} {op : Nat} {args : List Byte} {g : Gate} {f : State → State × Resp}
    (e : ∀ s, exec c s = .next (s.command r op args g f)) (hf : ∀ u : State, u.Adds (f u).1) : AddsEvents c :=
  .request e hf

theorem AddsEvents.commanding {c : Instr} {r : Req} {op : Nat} {args : List Byte} {g : Gate} {f : State → State × Resp}
    (e : ∀ s, exec c s = .next (s.command r op args g (onlyCommanding f))) (hf : ∀ u : State, u.Adds (f u).1) : AddsEvents c :=
  .command e fun u => u.adds_refl.onlyCommanding f hf

/-- A device reset that is due holds the part in reset; one that is not due leaves the port alone. -/
theorem devResetEntry_addsEvents : AddsEvents .devResetEntry := by
  intro _ s t ht hr
  cases ht
  cases hs : s.rst.inReset with
  | true => rw [State.running_reset hs]; exact s.adds_refl
  | false =>
    rw [State.running_released hs] at hr ⊢
    split at hr
    · exact nomatch hr
    next hd => rw [if_neg hd]; exact s.adds_refl.mirror (by decide)

/-- Every command but EVENT_COMMIT only adds events: the operation that each one calls does. -/
theorem addsEvents : ∀ c : Instr, AddsEvents c
  | .powerOn => .of_reset (fun _ => rfl) fun _ => rfl
  | .supplyBelowDetector .aon => .of_reset (fun _ => rfl) fun _ => rfl
  | .supplyBelowDetector .um => .of_reset (fun _ => rfl) fun u => u.supplyBelow_um.2
  | .resetNAssert => .of_reset (fun _ => rfl) fun _ => rfl
  | .resetRelease _ _ => .of_adds (fun _ => rfl) fun u => u.adds_refl.adds_resetRelease _ _
  | .oscStartSatisfied _ => .running (fun _ => rfl) fun u => .ite (u.adds_refl.upd_clk _ (by decide)) u.adds_refl
  | .sourceReady _ => .running (fun _ => rfl) fun u => u.adds_refl.sourceReady _ (by decide)
  | .sourceRecovered _ => .running (fun _ => rfl) fun u => u.adds_refl.sourceRecovered _ (by decide)
  | .clkNoOsc => .running (fun _ => rfl) fun u => u.adds_refl.adds_noOsc
  | .pllLock => .running (fun _ => rfl) fun u => u.adds_refl.pllLock (by decide)
  | .sourceTrip _ => .running (fun _ => rfl) fun u => u.adds_refl.adds_sourceTrip _
  | .pllLockLost => .running (fun _ => rfl) fun u => u.adds_refl.adds_pllLockLost
  | .clkReturn => .running (fun _ => rfl) fun u => u.adds_refl.adds_clkReturn
  | .clkCtrlRefsel _ => .running (fun _ => rfl) fun u => u.adds_refl.refsel _ (by decide)
  | .clkGateWrite _ _ _ => .running (fun _ => rfl) fun u => u.adds_refl.gateWrite _ _ _ (by decide)
  | .gateCloseDeferred _ _ => .running (fun _ => rfl) fun u => u.adds_refl.gateClose _ _ (by decide)
  | .clkGateForced _ _ _ => .running (fun _ => rfl) fun u => u.adds_refl.adds_gateForced _ _ _
  | .clkCntClr => .running (fun _ => rfl) fun u => u.adds_refl.clkCntClr (by decide)
  | .pwrcycAssertEnd => .of_adds (fun _ => rfl) fun u => u.adds_refl.pwrcycEnd (by decide)
  | .pwrcycNotDone => .of_adds (fun _ => rfl) fun u => u.adds_refl.adds_pwrcycNotDone
  | .ochreSupplyAbsent _ => .running (fun _ => rfl) fun u => u.adds_refl.adds_dieLoss _ _
  | .imageCheckDone => .running (fun _ => rfl) fun u => u.adds_refl.adds_imageCheckDone
  | .sectionsLoaded _ _ => .running (fun _ => rfl) fun u => u.adds_refl.adds_sectionsLoaded _ _
  | .cobaltBootDone _ _ _ _ => .running (fun _ => rfl) fun u => u.adds_refl.adds_cobaltBoot _ _ _ _
  | .comparatorFire _ => .running (fun _ => rfl) fun u => u.adds_refl.comparatorFire _ (by decide)
  | .trigPulseEnd _ => .running (fun _ => rfl) fun u => u.adds_refl.trigPulseEnd _ (by decide)
  | .invalidCodeword _ => .running (fun _ => rfl) fun u => u.adds_refl.adds_siteFault _ _
  | .handshakeWatchdog _ => .running (fun _ => rfl) fun u => u.adds_refl.adds_siteFault _ _
  | .bridgeAckTimeout _ => .running (fun _ => rfl) fun u => u.adds_refl.adds_dieLoss _ _
  | .taskDispatch _ _ => .running (fun _ => rfl) fun u => u.adds_refl.taskDispatch _ _ (by decide)
  | .pipCopyValid _ _ => .running (fun _ => rfl) fun u => u.adds_refl.pipCopyValid _ _ (by decide)
  | .spareWakeDone _ _ _ => .running (fun _ => rfl) fun u => u.adds_refl.adds_spareWakeDone _ _ _
  | .pipLoadDone _ _ => .running (fun _ => rfl) fun u => u.adds_refl.pipLoadDone _ _ (by decide)
  | .operationComplete _ _ _ _ => .running (fun _ => rfl) fun u => u.adds_refl.adds_operationComplete _ _ _ _
  | .completionToken _ _ => .running (fun _ => rfl) fun u => u.adds_refl.completionToken _ _ (by decide)
  | .slackToken _ => .running (fun _ => rfl) fun u => u.adds_refl.adds_slackToken _
  | .slkClr => .running (fun _ => rfl) fun u => (u.adds_refl.wr _ _).wr _ _
  | .arbRequest _ _ => .running (fun _ => rfl) fun u => u.adds_refl.arbRequest _ _ (by decide)
  | .arbOwnerRelease _ => .running (fun _ => rfl) fun u => u.adds_refl.arbEnd _ _ (by decide)
  | .arbBurstLimit _ _ => .running (fun _ => rfl) fun u => u.adds_refl.arbEnd _ _ (by decide)
  | .bankarbCtrlWrite _ _ _ => .access (fun _ => rfl) fun u => u.adds_refl.arbCtrl _ _ _ _ _ (by decide)
  | .egrarbCtrlWrite _ _ => .access (fun _ => rfl) fun u => u.adds_refl.arbCtrl _ _ _ _ _ (by decide)
  | .waitAbort _ => .running (fun _ => rfl) fun u => u.adds_refl.adds_waitAbort _
  | .channelPortOutput _ => .running (fun _ => rfl) fun u => u.adds_refl.adds_channelPortOutput _
  | .fltCntClr => .running (fun _ => rfl) fun u => u.adds_refl.fltCntClr (by decide)
  | .frameStart => .running (fun _ => rfl) fun u => u.adds_refl.adds_frameStart
  | .emissionTime => .running (fun _ => rfl) fun u => u.adds_refl.adds_emissionTime
  | .fusionDeadline => .running (fun _ => rfl) fun u => u.adds_refl.adds_fusionDeadline
  | .planDeadline => .running (fun _ => rfl) fun u => u.adds_refl.planDeadline (by decide)
  | .uartSentence _ _ _ _ _ => .running (fun _ => rfl) fun u => u.adds_refl.uartSentence _ _ _ _ _ (by decide)
  | .e450Datagram _ _ _ _ _ => .running (fun _ => rfl) fun u => u.adds_refl.e450Datagram _ _ _ _ (by decide)
  | .sensorFrame _ _ _ _ _ _ _ _ => .running (fun _ => rfl) fun u => u.adds_refl.sensorFrame _ _ _ _ _ _ _ _ (by decide)
  | .captureEdge _ _ _ => .running (fun _ => rfl) fun u => .ite (u.adds_refl.capture _ (by decide)) u.adds_refl
  | .intakeClose _ => .running (fun _ => rfl) fun u => u.adds_refl.adds_intakeClose _
  | .outlierReject _ => .running (fun _ => rfl) fun u => u.adds_refl.outlierReject _ (by decide)
  | .innovReject _ => .running (fun _ => rfl) fun u => u.adds_refl.innovReject _ (by decide)
  | .timeReadmit _ => .running (fun _ => rfl) fun u => u.adds_refl.timeReadmit _ (by decide)
  | .sourceReadmit _ => .running (fun _ => rfl) fun u => u.adds_refl.sourceReadmit _ (by decide)
  | .frozenReject _ => .running (fun _ => rfl) fun u => u.adds_refl.frozenReject _ (by decide)
  | .estimatorSettled => .running (fun _ => rfl) fun u => u.adds_refl.estimatorSettled (by decide)
  | .holdoverExpired => .running (fun _ => rfl) fun u => u.adds_refl.holdoverExpired (by decide)
  | .windAgree => .running (fun _ => rfl) fun u => u.adds_refl.windAgree (by decide)
  | .lateSampleExpired => .running (fun _ => rfl) fun u => u.adds_refl.lateExpired (by decide)
  | .epochPublish _ _ _ => .running (fun _ => rfl) fun u => u.adds_refl.adds_epochPublish _
  | .fusCalFreeze _ => .running (fun _ => rfl) fun u => u.adds_refl.fusCalFreeze _ (by decide)
  | .fusCntClr => .running (fun _ => rfl) fun u => u.adds_refl.fusCntClr (by decide)
  | .ctlModecmdWrite _ => .running (fun _ => rfl) fun u => u.adds_refl.modecmdWrite _ (by decide)
  | .mode _ _ => .commanding (fun _ => rfl) fun u => .iteFst (u.adds_refl.modeCmd _ _ (by decide)) (u.adds_refl.modeCmd _ _ (by decide))
  | .setpoint _ _ _ _ _ _ _ => .commanding (fun _ => rfl) fun u => .iteFst u.adds_refl (u.adds_refl.queued _ _ _)
  | .targetOffset _ _ _ _ => .commanding (fun _ => rfl) fun u => u.adds_refl.queued _ _ _
  | .trackWrite _ _ _ => .commanding (fun _ => rfl) fun u =>
    .iteFst u.adds_refl (u.adds_refl.trackWrite _ _ (by decide) |>.forward _ _ (by decide))
  | .trackSwap _ => .commanding (fun _ => rfl) fun u => u.adds_refl.queued _ _ _
  | .originMove _ _ _ => .commanding (fun _ => rfl) fun u => .iteFst u.adds_refl (u.adds_refl.queued _ _ _)
  | .calFreeze _ _ => .commanding (fun _ => rfl) fun u => u.adds_refl.queued _ _ _
  | .calWrite _ _ _ _ _ => .commanding (fun _ => rfl) fun u => .iteFst u.adds_refl (u.adds_refl.queued _ _ _)
  | .calRead _ _ _ _ => .command (fun _ => rfl) fun u => by split <;> exact u.adds_refl
  | .compEngaged _ _ => .commanding (fun _ => rfl) fun u => u.adds_refl.queued _ _ _
  | .pmsTimeout => .running (fun _ => rfl) fun u => u.adds_refl.pmsTimeout (by decide)
  | .targetLost => .running (fun _ => rfl) fun u => u.adds_refl.targetLost (by decide)
  | .srcLost => .running (fun _ => rfl) fun u => u.adds_refl.srcTimeout (by decide)
  | .srcHoldExpired => .running (fun _ => rfl) fun u => u.adds_refl.srcHoldExpired (by decide)
  | .compExitEnd => .running (fun _ => rfl) fun u => u.adds_refl.compExitEnd (by decide)
  | .iterationEnd _ _ _ => .running (fun _ => rfl) fun u => u.adds_refl.adds_iterationEnd _ _
  | .solverRestart _ _ => .running (fun _ => rfl) fun u => u.adds_refl.slvRestart _ (by decide)
  | .refreshComplete _ _ _ _ => .running (fun _ => rfl) fun u => u.adds_refl.refreshComplete _ _ _ (by decide)
  | .solveStopTime _ => .running (fun _ => rfl) fun u => u.adds_refl.each _ _ fun _ _ h => h.adds_stopTime _
  | .conseqGroupTime _ => .running (fun _ => rfl) fun u => u.adds_refl.adds_stopTime _
  | .slvRefresh _ => .running (fun _ => rfl) fun u => u.adds_refl.each _ _ fun _ _ h => h.slvRefreshClass _ (by decide)
  | .slvCntClr => .running (fun _ => rfl) fun u => u.adds_refl.slvCntClr (by decide)
  | .alcEnableWrite _ => .running (fun _ => rfl) fun u => u.adds_refl.alcEnableWrite _ (by decide)
  | .alcCntClr => .running (fun _ => rfl) fun u => u.adds_refl.wr _ _
  | .driveFeedback _ => .running (fun _ => rfl) fun u => u.adds_refl.driveFeedback _ (by decide)
  | .driveTimeout _ => .running (fun _ => rfl) fun u => u.adds_refl.driveTimeout _ (by decide)
  | .readmitConditionMet _ _ => .running (fun _ => rfl) fun u => u.adds_refl.readmitMet _ _ (by decide)
  | .conseqGroupRelease => .running (fun _ => rfl) fun u => u.adds_refl.cqRelease (by decide)
  | .cqShareMiss _ => .running (fun _ => rfl) fun u => u.adds_refl.adds_cqShareMiss
  | .cqStale _ => .running (fun _ => rfl) fun u => u.adds_refl.cqStale _ (by decide)
  | .cqaRestart => .running (fun _ => rfl) fun u => (u.adds_refl.cqMarkOld (by decide)).cqOverall (by decide)
  | .cqaCntClr => .running (fun _ => rfl) fun u => (u.adds_refl.set _ _).set _ _
  | .servoBoundary _ => .running (fun _ => rfl) fun u => u.adds_refl.adds_servoBoundary _
  | .outerBoundary _ => .running (fun _ => rfl) fun u => u.adds_refl.adds_outerBoundary _
  | .stallFault _ => .running (fun _ => rfl) fun u => u.adds_refl.adds_stallFault _
  | .srvCmdClose _ => .access (fun _ => rfl) fun u => u.adds_refl.cmdClose _ (by decide)
  | .srvCmdOpen _ => .access (fun _ => rfl) fun u => u.adds_refl.cmdOpen _ (by decide)
  | .srvCmdClrFault _ => .access (fun _ => rfl) fun u => u.adds_refl.cmdClrFault _ (by decide)
  | .srvSpsrcWrite _ _ => .access (fun _ => rfl) fun u => u.adds_refl.spsrcWrite _ _ (by decide)
  | .srvHostspWrite _ _ => .access (fun _ => rfl) fun u => u.adds_refl.hostspWrite _ _ (by decide)
  | .srvCntClr => .access (fun _ => rfl) fun u => u.adds_refl.srvCntClr (by decide)
  | .heartbeatDue => .running (fun _ => rfl) fun u => u.adds_refl.heartbeatDue (by decide)
  | .heartbeatRx _ => .running (fun _ => rfl) fun u => u.adds_refl.adds_heartbeatRx _
  | .stateFragmentRx _ => .running (fun _ => rfl) fun u => u.adds_refl.adds_fragmentRx _
  | .healthRx _ => .running (fun _ => rfl) fun u => u.adds_refl.healthRx _ (by decide)
  | .claimRx _ => .running (fun _ => rfl) fun u => u.adds_refl.adds_claimRx _
  | .offerRx _ => .running (fun _ => rfl) fun u => u.adds_refl.offerRx _ (by decide)
  | .takeoverTimeout => .running (fun _ => rfl) fun u => u.adds_refl.adds_takeoverTimeout
  | .rankWaitExpired => .running (fun _ => rfl) fun u => u.adds_refl.adds_rankWaitExpired
  | .formWaitExpired => .running (fun _ => rfl) fun u => u.adds_refl.formWaitExpired (by decide)
  | .groupIsolated => .running (fun _ => rfl) fun u => u.adds_refl.adds_groupIsolated
  | .slhHandover _ => .running (fun _ => rfl) fun u => u.adds_refl.handover _ (by decide)
  | .slhCntClr => .running (fun _ => rfl) fun u => (u.adds_refl.wr _ _).wr _ _
  | .formingHealthDue => .running (fun _ => rfl) fun u => .ite (u.adds_refl.healthTx (by decide)) u.adds_refl
  | .safetyChannelRecognised _ _ _ _ _ => .running (fun _ => rfl) fun u => u.adds_refl.adds_channelRecognised _ _ _ _ _
  | .c1StopTimer _ _ => .running (fun _ => rfl) fun u => u.adds_refl.adds_c1Timer _ _
  | .discrepancyLatch _ _ => .running (fun _ => rfl) fun u => u.adds_refl.adds_discLatch _ _
  | .twoHandSyncTimeout _ _ => .running (fun _ => rfl) fun u => u.adds_refl.adds_syncTimeout _ _
  | .tpPulseSample _ _ _ => .running (fun _ => rfl) fun u => u.adds_refl.adds_tpSample _ _ _
  | .offPulseTest _ _ => .running (fun _ => rfl) fun u => u.adds_refl.adds_offPulse _ _
  | .cobaltCycle => .running (fun _ => rfl) fun u => u.adds_refl.adds_cobaltCycle
  | .tickCrossCheck _ => .running (fun _ => rfl) fun u => u.adds_refl.adds_tickCheck _
  | .xcheckFault _ => .running (fun _ => rfl) fun u => u.adds_refl.adds_xcheck _
  | .outputReadbackFault _ _ _ => .running (fun _ => rfl) fun u => u.adds_refl.adds_readbackFault _ _ _
  | .selftestFail _ => .running (fun _ => rfl) fun u => u.adds_refl.adds_selftestFail _
  | .chargePumpDeenergise _ _ => .running (fun _ => rfl) fun u => u.adds_refl.chargePump _ _ (by decide)
  | .safCtrlHold => .running (fun _ => rfl) fun u => u.adds_refl.adds_holdStart
  | .safCtrlRelease => .running (fun _ => rfl) fun u => u.adds_refl.adds_holdEnd
  | .safCntClr => .running (fun _ => rfl) fun u => u.adds_refl.wr _ _
  | .safeHold _ => .command (fun _ => rfl) fun u => u.adds_refl.adds_holdStart
  | .safeRelease _ => .command (fun _ => rfl) fun u => u.adds_refl.adds_holdEnd
  | .safetyReload _ _ _ => .command (fun _ => rfl) fun u => u.adds_refl.safetyReload _ _ _ (by decide)
  | .slateReloadDone _ => .running (fun _ => rfl) fun u => u.adds_refl.adds_slateReloaded _
  | .safetyReloadTimeout => .running (fun _ => rfl) fun u => u.adds_refl.reloadTimeout (by decide)
  | .tpPulseStart _ => .running (fun _ => rfl) fun u => u.adds_refl.tpStart _ (by decide)
  | .offPulseEnd _ _ _ => .running (fun _ => rfl) fun u => u.adds_refl.adds_offPulseEnd _ _ _
  | .canFrameRx _ _ _ _ => .running (fun _ => rfl) fun u => u.adds_refl.adds_canFrameRx _ _ _ _
  | .canTxEnd _ _ _ => .running (fun _ => rfl) fun u => u.adds_refl.adds_canTxEnd _ _ _
  | .canBusIdleDetect _ => .running (fun _ => rfl) fun u => u.adds_refl.canBusIdle _ (by decide)
  | .busoffRecovered _ => .running (fun _ => rfl) fun u => u.adds_refl.busoffRecovered _ (by decide)
  | .canCtrlMode _ _ => .access (fun _ => rfl) fun u => u.adds_refl.canCtrlMode _ _ (by decide)
  | .canBoRecover _ => .access (fun _ => rfl) fun u => u.adds_refl.canBoRecover _ (by decide)
  | .canCntClr _ => .access (fun _ => rfl) fun u => u.adds_refl.canCntClr _ (by decide)
  | .canTxcancel _ _ => .access (fun _ => rfl) fun u => u.adds_refl.canTxcancel _ _ (by decide)
  | .canTtswap _ => .access (fun _ => rfl) fun u => u.adds_refl.canTtswap _ (by decide)
  | .canObjenWrite _ _ _ => .access (fun _ => rfl) fun u => u.adds_refl.canObjen _ _ _ (by decide)
  | .detDwellExpired _ => .running (fun _ => rfl) fun u => u.adds_refl.detDwell _ (by decide)
  | .canNoRate _ => .running (fun _ => rfl) fun u => u.adds_refl.adds_canNoRate _
  | .basicCycleStart _ => .running (fun _ => rfl) fun u => u.adds_refl.basicCycle _ (by decide)
  | .ttBackupTimeout _ => .running (fun _ => rfl) fun u => u.adds_refl.ttBackup _ (by decide)
  | .ttWindowStart _ _ _ => .running (fun _ => rfl) fun u => u.adds_refl.ttWindowStart _ _ _ (by decide)
  | .reasmTimeout _ _ => .running (fun _ => rfl) fun u => u.adds_refl.reasmTimeout _ _ (by decide)
  | .pairRxTimeout _ _ => .running (fun _ => rfl) fun u => u.adds_refl.pairRxTimeout _ _ (by decide)
  | .canRxError _ _ _ _ => .running (fun _ => rfl) fun u => u.adds_refl.canRxError _ _ _ _ (by decide)
  | .canTxStart _ _ => .running (fun _ => rfl) fun u => u.adds_refl.canTxStart _ _ (by decide)
  | .ethFrameRx _ _ => .running (fun _ => rfl) fun u => u.adds_refl.adds_ethFrameRx _ _
  | .prpHoldExpired _ _ => .running (fun _ => rfl) fun u => u.adds_refl.prpHoldExpired _ _ (by decide)
  | .prpNodeForget _ => .running (fun _ => rfl) fun u => u.adds_refl.prpForget _ (by decide)
  | .prpSupervisionTx => .running (fun _ => rfl) fun u => u.adds_refl.prpSupervisionTx (by decide)
  | .egressFrameStart _ => .running (fun _ => rfl) fun u => u.adds_refl.egressStart _ (by decide)
  | .linkChange _ _ _ => .running (fun _ => rfl) fun u => u.adds_refl.linkChange _ _ _ (by decide)
  | .ethCfgEn _ _ => .access (fun _ => rfl) fun u => u.adds_refl.ethCfgEn _ _ (by decide)
  | .ethSwapPair => .access (fun _ => rfl) fun u => u.adds_refl.ethSwap _ (by decide)
  | .ethSwapMgmt => .access (fun _ => rfl) fun u => u.adds_refl.ethSwap _ (by decide)
  | .ethCntClr => .access (fun _ => rfl) fun u => u.adds_refl.ethCntClr (by decide)
  | .mdioGo _ => .access (fun _ => rfl) fun u => u.adds_refl.mdioWrite _ (by decide)
  | .mdioDone _ => .running (fun _ => rfl) fun u => u.adds_refl.mdioDone _ (by decide)
  | .e450Tx => .running (fun _ => rfl) fun u => u.adds_refl.e450Tx (by decide)
  | .ptpMessageRx _ _ => .running (fun _ => rfl) fun u => u.adds_refl.adds_ptpRx _ _
  | .tbStep => .running (fun _ => rfl) fun u => u.adds_refl.adds_tbStep
  | .ptpMessageDue _ _ => .running (fun _ => rfl) fun u => u.adds_refl.ptpDue _ _ (by decide)
  | .announceTimeout _ => .running (fun _ => rfl) fun u => u.adds_refl.announceTimeout _ (by decide)
  | .syncLoss _ => .running (fun _ => rfl) fun u => u.adds_refl.syncLoss _ (by decide)
  | .tbRearm => .running (fun _ => rfl) fun u => u.adds_refl.tbRearm (by decide)
  | .tbIncWrite _ => .running (fun _ => rfl) fun u => u.adds_refl.tbIncWrite _ (by decide)
  | .tbJumpLimWrite _ => .running (fun _ => rfl) fun u => u.adds_refl.tbJumpLimWrite _ (by decide)
  | .tbCntClr => .running (fun _ => rfl) fun u => u.adds_refl.tbCntClr (by decide)
  | .comparatorEnable _ => .running (fun _ => rfl) fun u => u.adds_refl.compEnable _ (by decide)
  | .tbNsRead => .running (fun _ => rfl) fun u => u.adds_refl.nsRead (by decide)
  | .tbCapValRead _ => .running (fun _ => rfl) fun u => u.adds_refl.capRead _ (by decide)
  | .tbFault => .running (fun _ => rfl) fun u => u.adds_refl.adds_tbFault
  | .chainOutput _ _ => .running (fun _ => rfl) fun u => u.adds_refl.chainOutput _ _ (by decide)
  | .chainStart _ => .access (fun _ => rfl) fun u => u.adds_refl.chainStart _ (by decide)
  | .chainStop _ => .access (fun _ => rfl) fun u => u.adds_refl.chainStop _ (by decide)
  | .modStuck _ => .running (fun _ => rfl) fun u => u.adds_refl.adds_modStuck _
  | .chainDcbWrite _ _ => .access (fun _ => rfl) fun u => u.adds_refl.chainDcbWrite _ _ (by decide)
  | .anaCntClr => .running (fun _ => rfl) fun u => u.adds_refl.anaCntClr (by decide)
  | .aoutDataWrite _ _ => .access (fun _ => rfl) fun u => u.adds_refl.aoutDataWrite _ _ (by decide)
  | .pinEdge _ _ _ => .running (fun _ => rfl) fun u => u.adds_refl.pinEdge _ _ _ (by decide)
  | .pinGateEnd _ => .running (fun _ => rfl) fun u => u.adds_refl.pinGateEnd _ (by decide)
  | .pinZeroTimeout _ => .running (fun _ => rfl) fun u => u.adds_refl.pinZero _ (by decide)
  | .pinStart _ => .access (fun _ => rfl) fun u => u.adds_refl.pinStart _ (by decide)
  | .pinStop _ => .access (fun _ => rfl) fun u => u.adds_refl.pinStop _ (by decide)
  | .pinLoad _ => .access (fun _ => rfl) fun u => u.adds_refl.pinLoad _ (by decide)
  | .swoSet _ _ => .running (fun _ => rfl) fun u => u.adds_refl.swoWrite _ _ _ _ (by decide)
  | .swoClr _ _ => .running (fun _ => rfl) fun u => u.adds_refl.swoWrite _ _ _ _ (by decide)
  | .dinEdge _ _ => .running (fun _ => rfl) fun u => u.adds_refl.adds_dinEdge _ _
  | .imgVerify _ => .running (fun _ => rfl) fun u => u.adds_refl.imgVerify _ (by decide)
  | .bankVerifyDone _ => .running (fun _ => rfl) fun u => u.adds_refl.bankVerifyDone _ (by decide)
  | .imgAdopt _ => .running (fun _ => rfl) fun u => u.adds_refl.adds_imgAdopt _
  | .imgReloadRegion _ => .running (fun _ => rfl) fun u => u.adds_refl.imgReload _ (by decide)
  | .imgCntClr => .running (fun _ => rfl) fun u => u.adds_refl.wr _ _
  | .regionSectionLoaded _ _ => .running (fun _ => rfl) fun u => u.adds_refl.adds_regionSectionLoaded _ _
  | .regionCopybackDone => .running (fun _ => rfl) fun u => u.adds_refl.regionCopyback (by decide)
  | .adoptStepDone _ _ => .running (fun _ => rfl) fun u => u.adds_refl.adds_adoptStepDone _ _
  | .imageConflictRepeat => .running (fun _ => rfl) fun u => u.adds_refl.adds_conflictRepeat
  | .nvmRead _ _ _ _ => .command (fun _ => rfl) fun u => u.adds_refl.nvmRead _ _ _ (by decide)
  | .nvmWrite _ _ _ _ _ => .command (fun _ => rfl) fun u => u.adds_refl.nvmWrite _ _ _ _ _ (by decide)
  | .nvmErase _ _ _ => .command (fun _ => rfl) fun u => u.adds_refl.nvmErase _ _ _ (by decide)
  | .nvmOpDone _ _ => .running (fun _ => rfl) fun u => u.adds_refl.nvmOpDone _ _ (by decide)
  | .keyProgram _ _ => .command (fun _ => rfl) fun u => u.adds_refl.keyProgram _ (by decide)
  | .mgmtRead _ _ _ _ _ => .request (fun _ => rfl) fun u => u.adds_refl.adds_mgmtRead _ _ _ _
  | .mgmtWrite _ _ _ _ => .request (fun _ => rfl) fun u => u.adds_refl.adds_mgmtWrite _ _ _ _
  | .registerWrite _ _ => .access (fun _ => rfl) fun u => u.adds_refl.adds_regWrite _ _ _
  | .subscribe _ _ _ _ _ _ _ _ => .request (fun _ => rfl) fun u => u.adds_refl.subscribe _ _ _ _ _ _ _ _ (by decide)
  | .openSession _ => .command (fun _ => rfl) fun u => u.adds_refl.openSession (by decide)
  | .closeSession _ => .command (fun _ => rfl) fun u => u.adds_refl.endSession _ (by decide)
  | .sessionFinalTimeout _ => .running (fun _ => rfl) fun u => u.adds_refl.finalTimeout _ (by decide)
  | .chCreate _ _ _ _ => .command (fun _ => rfl) fun u => u.adds_refl.chCreate _ _ _ _ _ (by decide)
  | .chDestroy _ _ => .command (fun _ => rfl) fun u => u.adds_refl.chDestroy _ _ (by decide)
  | .chQuery _ _ _ => .command (fun _ => rfl) fun u => u.adds_refl.chQuery _ _ (by decide)
  | .funcReinit _ _ _ => .command (fun _ => rfl) fun u => u.adds_refl.funcReinit _ _ _ _ (by decide)
  | .funcReinitDone _ _ _ _ => .running (fun _ => rfl) fun u => u.adds_refl.reinitEnd _ _ _ _ (by decide)
  | .funcReinitTimeout _ _ => .running (fun _ => rfl) fun u => u.adds_refl.reinitEnd _ _ _ _ (by decide)
  | .devResetArm _ => .command (fun _ => rfl) fun u => u.adds_refl.newArm _ _ (by decide)
  | .devResetConfirm _ _ => .command (fun _ => rfl) fun u => u.adds_refl.adds_devResetConfirm _ _
  | .pwrcycArm _ => .command (fun _ => rfl) fun u => u.adds_refl.pwrcycArm _ (by decide)
  | .pwrcycConfirm _ _ => .command (fun _ => rfl) fun u => u.adds_refl.adds_pwrcycConfirm _ _
  | .armExpired => .running (fun _ => rfl) fun u => u.adds_refl.setArm _ (by decide)
  | .spiReadTransfer _ => .running (fun _ => rfl) fun u => u.adds_refl.spiRead _ (by decide)
  | .eventMessageSend _ => .running (fun _ => rfl) fun u => u.adds_refl.eventSend _ (by decide)
  | .sysExpertKey _ _ => .running (fun _ => rfl) fun u => u.adds_refl.expertKey _ _ (by decide)
  | .expertUnlockExpired _ => .running (fun _ => rfl) fun u => u.adds_refl.expertKey _ _ (by decide)
  | .recordProgramDone _ _ => .running (fun _ => rfl) fun u => u.adds_refl.adds_recordProgramDone _ _
  | .sectorEraseDone _ _ => .running (fun _ => rfl) fun u => u.adds_refl.adds_sectorEraseDone _ _
  | .recFreeze _ => .command (fun _ => rfl) fun u => .iteFst (u.adds_refl.startFreeze _ (by decide)) (u.adds_refl.recRefuse (by decide))
  | .recRelease _ => .command (fun _ => rfl) fun u => u.adds_refl.endFreeze _ (by decide)
  | .eventCommit => fun h => absurd rfl h
  | .recorderReady => .running (fun _ => rfl) fun u => u.adds_refl.recorderReady (by decide)
  | .freezeDrained => .running (fun _ => rfl) fun u => u.adds_refl.freezeDrained (by decide)
  | .freezeTimeout => .running (fun _ => rfl) fun u => u.adds_refl.endFreeze _ (by decide)
  | .recCtrlFreeze => .running (fun _ => rfl) fun u => u.adds_refl.recCtrlFreeze (by decide)
  | .recCtrlRelease => .running (fun _ => rfl) fun u => u.adds_refl.endFreeze _ (by decide)
  | .recCntClr => .running (fun _ => rfl) fun u => u.adds_refl.wr _ _
  | .timeMark => .running (fun _ => rfl) fun u => u.adds_refl.raise _ _ _
  | .devResetEntry => devResetEntry_addsEvents
  | .sysCntClr => .running (fun _ => rfl) fun u => u.adds_refl.sysCntClr (by decide)
  | .mgtCntClr => .running (fun _ => rfl) fun u => u.adds_refl.mgtCntClr (by decide)

/-- EVENT_COMMIT takes the first event that waits; its commit drops none of the others. -/
theorem State.eventCommit_takes_first {s : State} {e : Event} {es : List Event} (h : s.recd.port = e :: es) :
    es <+: s.eventCommit.recd.port := by
  unfold State.eventCommit
  rw [h]
  exact State.Adds.port ((State.adds_refl { s with recd := { s.recd with port := es } }).commit e (by decide))

/-- Settles O6: case by case, by the operation that the command calls; EVENT_COMMIT commits behind the event that it took. -/
theorem eventsWaitInOrder : Obligations.EventsWaitInOrder := by
  unfold Obligations.EventsWaitInOrder
  refine ⟨fun c s t ht hc hr => (addsEvents c hc s t ht hr).port, fun s e es hs hp => ⟨_, rfl, ?_⟩⟩
  rw [State.running_released hs.released]
  exact (State.eventCommit_takes_first hp).trans (State.Adds.port ((State.adds_refl _).mirror (by decide)))

end Sys2Proof.Machine
end

section
/-!
Silhar frames (R257, R258, R260, R261, R264, R267, R274, R277): what is sent on the pair, what is counted and dropped,
and each payload as it is taken. Settles O43.
-/
namespace Sys2Proof.Machine
variable {s t : State} {b : List Byte}

/-! Fields of a frame. -/

theorem leNat_lt (l : List Byte) : leNat l < 256 ^ l.length := by
  induction l with
  | nil => exact Nat.one_pos
  | cons x xs ih =>
    have hx : x.toNat < 256 := x.isLt
    rw [leNat, List.length_cons, Nat.pow_succ]
    omega

theorem fld_lt (b : List Byte) (a n : Nat) : fld b a n < 256 ^ n :=
  (leNat_lt _).trans_le (Nat.pow_le_pow_right (by decide) (List.length_take_le n _))

/-- Table 10-1: the group epoch that a frame shows. -/
abbrev frameEpoch (b : List Byte) : Word := BitVec.ofNat 32 (fld b 4 4)

theorem toNat_frameEpoch (b : List Byte) : (frameEpoch b).toNat = fld b 4 4 :=
  (BitVec.toNat_ofNat _ _).trans (Nat.mod_eq_of_lt (fld_lt b 4 4))

/-! What a frame leaves: the role, the time and the members. -/

theorem State.commanding_of_role (h : s.role = 0) : s.commanding = false := by
  have h' : s.get Fld.SLH_STAT_ROLE = 0 := h
  unfold State.commanding
  rw [h']
  rfl

theorem State.now_of_keeps {l : List Nat} (h : s.keeps t l) (hw : Reg.TB_WRAPS ∉ l) (hn : Reg.TB_NS ∉ l) : t.now = s.now := by
  unfold State.now
  rw [h _ hw, h _ hn]

theorem State.memberSt_of_members (h : t.grp.members = s.grp.members) (m : Nat) : t.memberSt m = s.memberSt m := by
  unfold State.memberSt
  rw [h]

theorem State.memberSt_modMember_self {m : Nat} (h : m < s.grp.members.length) (f : MemberSt → MemberSt) :
    (s.modMember m f).memberSt m = f (s.memberSt m) := by
  show (s.grp.members.modify m f).getD m {} = f (s.grp.members.getD m {})
  rw [List.getD_eq_getElem?_getD, List.getD_eq_getElem?_getD, List.getElem?_modify_eq, List.getElem?_eq_getElem h]
  rfl

theorem State.memberSt_modMember_ne {k m : Nat} (h : k ≠ m) (f : MemberSt → MemberSt) :
    (s.modMember m f).memberSt k = s.memberSt k := by
  show (s.grp.members.modify m f).getD k {} = s.grp.members.getD k {}
  rw [List.getD_eq_getElem?_getD, List.getD_eq_getElem?_getD, List.getElem?_modify_ne f _ h.symm]

theorem State.grp_of_rest (h : t.rest = s.rest) : t.grp = s.grp := show t.rest.grp = s.rest.grp from congrArg State.grp h

theorem State.frame_of_rest (h : t.rest = s.rest) : t.frame = s.frame :=
  show t.rest.frame = s.rest.frame from congrArg State.frame h

theorem State.set_members (s : State) (f : Field) (v : Nat) : (s.set f v).grp.members = s.grp.members := rfl

/-- The frame being put together and the latest complete one are the same in two states. -/
def State.SameFrames (s t : State) : Prop := t.grp.frags = s.grp.frags ∧ t.grp.kept = s.grp.kept

/-! What SLH_STAT shows of the part (R260). -/

theorem State.keeps_slhSync (s : State) : s.keeps s.slhSync [Reg.SLH_STAT] :=
  ((((s.keeps_refl _).setBit _ _ (by decide)).setBit _ _ (by decide)).setBit _ _ (by decide)).setBit _ _ (by decide)

theorem State.role_slhSync (s : State) : s.slhSync.role = s.role := by
  unfold State.slhSync State.role
  repeat rw [State.get_setBit_disjoint _ _ _ _ (by decide) (by decide) (by decide)]

/-! The group epoch of a frame (R265). -/

theorem State.raiseH_shown (s : State) (g : Word) : s.keeps (s.raiseH g) [Reg.SLH_AEPOCH] ∧
    ((s.raiseH g).rd Reg.SLH_AEPOCH).toNat = max (s.rd Reg.SLH_AEPOCH).toNat g.toNat ∧ (s.raiseH g).rest = s.rest := by
  unfold State.raiseH
  split
  next h => exact ⟨(s.keeps_refl _).wr _ _ (by decide), by rw [State.rd_wr_self]; omega, rfl⟩
  next h => exact ⟨s.keeps_refl _, by omega, rfl⟩

/-- R265, R269: a frame that shows an epoch raises H to it, and may end the wait after a loss. -/
structure State.Notes (s t : State) (g : Word) : Prop where
  keeps : s.keeps t [Reg.SLH_AEPOCH]
  held : (t.rd Reg.SLH_AEPOCH).toNat = max (s.rd Reg.SLH_AEPOCH).toNat g.toNat
  grp : ∃ l, t.grp = { s.grp with lost := l }
  touch : State.Touch [.grp] s t

theorem State.notes_noteEpoch (s : State) (g : Word) : s.Notes (s.noteEpoch g) g := by
  obtain ⟨l, hl⟩ : ∃ l, s.noteEpoch g = (s.modGrp fun x => { x with lost := l }).raiseH g := by
    unfold State.noteEpoch
    split
    next h =>
      split
      · exact ⟨none, rfl⟩
      · exact ⟨s.grp.lost, rfl⟩
    next h => exact ⟨s.grp.lost, rfl⟩
  obtain ⟨hk, hH, hr⟩ := State.raiseH_shown (s.modGrp fun x => { x with lost := l }) g
  rw [hl]
  exact ⟨hk, hH, ⟨l, congrArg State.grp hr⟩, ((State.Touch.refl _ s).modGrp _ (by decide)).raiseH _ (by decide)⟩

theorem State.seeEpoch_of_not_commanding (h : s.commanding = false) (g : Word) : s.seeEpoch g = s.noteEpoch g := by
  unfold State.seeEpoch
  rw [if_neg (by rw [h]; exact fun e => Bool.false_ne_true e.1)]

theorem State.Notes.role {g : Word} (h : s.Notes t g) : t.role = s.role := h.keeps.get Fld.SLH_STAT_ROLE (by decide)

theorem State.Notes.members {g : Word} (h : s.Notes t g) : t.grp.members = s.grp.members := by
  obtain ⟨l, e⟩ := h.grp
  rw [e]

theorem State.Notes.sameFrames {g : Word} (h : s.Notes t g) : s.SameFrames t := by
  obtain ⟨l, e⟩ := h.grp
  unfold State.SameFrames
  rw [e]
  exact ⟨rfl, rfl⟩

/-! Frames that are sent (R257, R258, R260). -/

theorem State.slhHeader_length (s : State) (typ frame : Nat) : (s.slhHeader typ frame).length = 16 := by
  simp only [State.slhHeader, List.length_append, List.length_cons, List.length_nil, le32_length, leBytes_length]

/-- R257: a Silhar payload as it joins the queue of the pair. -/
def State.onPair (s : State) (g : GrpCfg) (p : List Byte) : State :=
  { s with eth := { s.eth with
    pairQ := s.eth.pairQ ++ [{ pcp := 7, dest := g.mac, len := frameLen false p.length, payload := p }] } }

theorem State.slhSend_linked {g : GrpCfg} (hg : s.grpCfg = some g) (hl : s.linkUp 0 = true ∨ s.linkUp 1 = true) (p : List Byte) :
    s.slhSend p = s.onPair g p := by
  unfold State.slhSend State.ethQueue
  rw [hg]
  exact (if_neg Bool.false_ne_true).trans (if_pos hl)

/-- Table 10-3: the part of a heartbeat that only the commanding part fills. -/
def State.beatTail (s : State) : List Byte :=
  if s.commanding then
    leBytes 4 s.emitFrame ++ [2, BitVec.ofNat 8 (s.get Fld.SLH_STAT_ISOLATED + 2 * s.get Fld.SLH_STAT_HANDOVER_PEND), 0, 0] ++
      leBytes 4 s.fillFrame ++ leBytes 4 s.planPeriod
  else List.replicate 16 0

/-- Table 10-3: a heartbeat. -/
def State.beat (s : State) : List Byte :=
  s.slhHeader 1 s.frame.count ++ le32 s.grp.hbSeq ++ leBytes 4 (s.frame.start % 2 ^ 32) ++ s.beatTail

theorem State.heartbeatDue_eq (h : s.silhar = true) :
    s.heartbeatDue = (s.slhSend s.beat).modGrp fun g => { g with hbSeq := g.hbSeq + 1 } := by
  unfold State.heartbeatDue
  rw [if_neg (by simp [h])]
  rfl

theorem State.beatTail_length (s : State) : s.beatTail.length = 16 := by
  unfold State.beatTail
  split
  · simp only [List.length_append, List.length_cons, List.length_nil, leBytes_length]
  · exact List.length_replicate

theorem State.beat_length (s : State) : s.beat.length = 40 := by
  simp only [State.beat, List.length_append, State.slhHeader_length, State.beatTail_length, le32_length, leBytes_length]

theorem State.slhHeader_take (s : State) (typ frame : Nat) (x : List Byte) : (s.slhHeader typ frame ++ x).take 8 =
    [1, BitVec.ofNat 8 typ, BitVec.ofNat 8 s.member, BitVec.ofNat 8 s.role] ++ le32 (s.rd Reg.SLH_EPOCH) := by
  unfold State.slhHeader
  rw [List.append_assoc, List.append_assoc]
  exact List.take_left' (by simp only [List.length_append, List.length_cons, List.length_nil, le32_length])

theorem State.beat_head (s : State) : s.beat.take 8 =
    [1, 1, BitVec.ofNat 8 s.member, BitVec.ofNat 8 s.role] ++ le32 (s.rd Reg.SLH_EPOCH) := by
  unfold State.beat
  rw [List.append_assoc, List.append_assoc]
  exact s.slhHeader_take 1 _ _

theorem State.beat_seq (s : State) : (s.beat.drop 16).take 4 = le32 s.grp.hbSeq := by
  unfold State.beat
  rw [List.append_assoc, List.append_assoc, List.drop_left' (s.slhHeader_length _ _)]
  exact List.take_left' (le32_length _)

theorem heartbeatDue_sends (h : s.Live) {g : GrpCfg} (hs : s.silhar = true) (hg : s.grpCfg = some g)
    (hl : s.linkUp 0 = true ∨ s.linkUp 1 = true) : ∃ t f,
    exec .heartbeatDue s = .next t ∧ t.eth.pairQ = s.eth.pairQ ++ [f] ∧ f.pcp = 7 ∧ f.dest = g.mac ∧ f.payload.length = 40 ∧
    f.payload.take 8 = [1, 1, BitVec.ofNat 8 s.member, BitVec.ofNat 8 s.role] ++ le32 (s.rd Reg.SLH_EPOCH) ∧
    (f.payload.drop 16).take 4 = le32 s.grp.hbSeq ∧ t.grp = { s.grp with hbSeq := s.grp.hbSeq + 1 } ∧ s.keeps t [] ∧
    State.Touch [.eth, .grp] s t := by
  have hu := State.heartbeatDue_eq hs
  rw [State.slhSend_linked hg hl] at hu
  obtain ⟨he, hk, hT⟩ := h.ends (c := .heartbeatDue) rfl hu (State.keeps_of_regs [] rfl)
    (((State.Touch.refl [.eth, .grp] s).upd_eth _ (by decide)).modGrp _ (by decide)) (by decide) (by decide)
  exact ⟨_, _, he, rfl, rfl, rfl, s.beat_length, s.beat_head, s.beat_seq, rfl, hk, hT⟩

/-- Table 10-4: a health report, of a part whose SLH_STAT shows its eligibility. -/
def State.report (s : State) : List Byte :=
  s.slhHeader 3 s.frame.count ++ s.runSha ++ le32 (s.rd Reg.IMG_RUNGEN) ++ leBytes 2 s.testsWord ++
    leBytes 2 (s.get Fld.FLT_SPARE_SPARES_LEFT) ++ leBytes 2 (s.get Fld.FLT_STAT_FENCED) ++
    [BitVec.ofNat 8 (flagBit (s.get Fld.FLT_STAT_COVER = 1) 0 + flagBit (s.get Fld.FLT_STAT_REGION_BOUND = 1) 1), 0] ++
    i32 s.grp.alignOfs ++ leBytes 4 (match s.grp.kept with | some (f, _) => f | none => 0) ++ le32 s.grp.testRounds

theorem State.healthTx_eq (h : s.silhar = true) : s.healthTx = s.slhSync.slhSend s.slhSync.report := by
  unfold State.healthTx
  rw [if_neg (by simp [h])]
  rfl

theorem State.runSha_length (s : State) : s.runSha.length = 32 := by
  have hw : s.runSha = (((List.range 8).map fun w => s.rd (Reg.IMG_RUNSHAw w)).map le32).flatten := by
    rw [List.map_map]
    rfl
  rw [hw, length_flatten_le32, List.length_map, List.length_range]

theorem State.report_length (s : State) : s.report.length = 72 := by
  simp only [State.report, i32, List.length_append, State.slhHeader_length, State.runSha_length, le32_length, leBytes_length, List.length_cons, List.length_nil]

theorem State.report_head (s : State) : s.report.take 4 = [1, 3, BitVec.ofNat 8 s.member, BitVec.ofNat 8 s.role] := by
  simp only [State.report, State.slhHeader, List.append_assoc]
  exact List.take_left' rfl

theorem formingHealthDue_sends (h : s.Live) {g : GrpCfg} (hr : s.role = 2) (hs : s.silhar = true) (hg : s.grpCfg = some g)
    (hl : s.linkUp 0 = true ∨ s.linkUp 1 = true) : ∃ t f,
    exec .formingHealthDue s = .next t ∧ t.eth.pairQ = s.eth.pairQ ++ [f] ∧ f.pcp = 7 ∧ f.dest = g.mac ∧ f.payload.length = 72 ∧
    f.payload.take 4 = [1, 3, BitVec.ofNat 8 s.member, 2] ∧ s.keeps t [Reg.SLH_STAT] ∧ State.Touch [.eth] s t := by
  have hk := s.keeps_slhSync
  have hlink : ∀ p ∈ [0, 1], s.slhSync.linkUp p = s.linkUp p := fun p hp => by
    unfold State.linkUp
    rw [hk.get _ (by revert p; decide), hk.get _ (by revert p; decide)]
  have hu : (if s.role = 2 then s.healthTx else s) = _ := (if_pos hr).trans ((State.healthTx_eq hs).trans
    (State.slhSend_linked (s := s.slhSync) hg (by rwa [hlink 0 (by decide), hlink 1 (by decide)]) _))
  obtain ⟨he, hK, hT⟩ := h.ends (c := .formingHealthDue) rfl hu (hk.of_regs rfl)
    (((State.Touch.refl [.eth] s).slhSync (by decide)).upd_eth _ (by decide)) (by decide) (by decide)
  have hhead : s.slhSync.report.take 4 = [1, 3, BitVec.ofNat 8 s.member, 2] := by
    rw [State.report_head, s.role_slhSync, hr, show s.slhSync.member = s.member from hk.get _ (by decide)]
    rfl
  exact ⟨_, _, he, rfl, rfl, rfl, State.report_length _, hhead, hK, hT⟩

/-! Frames that are received (R257). -/

/-- R257: a frame of a type and least length that the part takes. -/
def State.Good (s : State) (typ len : Nat) (b : List Byte) : Prop :=
  s.silhar = true ∧ len ≤ b.length ∧ fld b 0 1 = 1 ∧ fld b 1 1 = typ ∧ fld b 2 1 < s.groupSize ∧ fld b 2 1 < 3 ∧
    fld b 2 1 ≠ s.member ∧ fld b 3 1 ≤ 2

theorem State.Good.sender_lt {typ len : Nat} (h : s.Good typ len b) (h3 : s.grp.members.length = 3) :
    fld b 2 1 < s.grp.members.length := by
  obtain ⟨-, -, -, -, -, hlt, -⟩ := h
  exact h3 ▸ hlt

theorem State.slhRx_good {typ len : Nat} (h : s.Good typ len b) (f : State → State) : s.slhRx typ len b f = f s := by
  obtain ⟨hs, hlen, hver, htyp, hsize, h3, hme, hrole⟩ := h
  unfold State.slhRx
  rw [if_neg (by simp [hs]), if_neg (by omega)]

theorem State.slhRx_short {typ len : Nat} (hs : s.silhar = true) (hb : b.length < len) (f : State → State) :
    s.slhRx typ len b f = s.count Fld.SLH_CNT1_BAD_FRAME := by
  unfold State.slhRx
  rw [if_neg (by simp [hs]), if_pos (.inl hb)]

theorem shortFrame_counted (h : s.Live) {c : Instr} {n : Nat}
    (hc : (c = .heartbeatRx b ∧ n = 40) ∨ (c = .healthRx b ∧ n = 72) ∨ (c = .claimRx b ∧ n = 44) ∨ (c = .offerRx b ∧ n = 44))
    (hs : s.silhar = true) (hb : b.length < n) : ∃ t, exec c s = .next t ∧
    t.get Fld.SLH_CNT1_BAD_FRAME = min (s.get Fld.SLH_CNT1_BAD_FRAME + 1) (2 ^ Fld.SLH_CNT1_BAD_FRAME.width - 1) ∧
    s.keeps t [Reg.SLH_CNT1] ∧ t.rest = s.rest := by
  rcases hc with ⟨rfl, rfl⟩ | ⟨rfl, rfl⟩ | ⟨rfl, rfl⟩ | ⟨rfl, rfl⟩
  · exact h.counts (F := fun s => s.heartbeatRx b) _ rfl (State.slhRx_short hs hb _) (by decide) (by decide)
  · exact h.counts (F := fun s => s.healthRx b) _ rfl (State.slhRx_short hs hb _) (by decide) (by decide)
  · exact h.counts (F := fun s => s.claimRx b) _ rfl (State.slhRx_short hs hb _) (by decide) (by decide)
  · exact h.counts (F := fun s => s.offerRx b) _ rfl (State.slhRx_short hs hb _) (by decide) (by decide)

theorem State.slhAuth_iff : s.slhAuth b = true ↔ (b.drop 28).take 16 = (hmac s.groupKey (b.take 28)).take 16 := decide_eq_true_iff

theorem unsignedFrame_counted (h : s.Live) {c : Instr}
    (hc : (c = .claimRx b ∧ s.Good 4 44 b) ∨ (c = .offerRx b ∧ s.Good 5 44 b)) (hm : s.slhAuth b = false) : ∃ t, exec c s = .next t ∧
    t.get Fld.SLH_CNT0_AUTH_FAIL = min (s.get Fld.SLH_CNT0_AUTH_FAIL + 1) (2 ^ Fld.SLH_CNT0_AUTH_FAIL.width - 1) ∧
    s.keeps t [Reg.SLH_CNT0] ∧ t.rest = s.rest := by
  have hneg : (!s.slhAuth b) = true := by rw [hm]; rfl
  rcases hc with ⟨rfl, hg⟩ | ⟨rfl, hg⟩
  · exact h.counts (F := fun s => s.claimRx b) _ rfl ((State.slhRx_good hg _).trans (if_pos hneg)) (by decide) (by decide)
  · exact h.counts (F := fun s => s.offerRx b) _ rfl ((State.slhRx_good hg _).trans (if_pos hneg)) (by decide) (by decide)

/-! Health reports (R260, R263). -/

/-- R260: what a health report tells of its sender. -/
def MemberSt.told (x : MemberSt) (b : List Byte) (now : Nat) : MemberSt :=
  { x with healthAt := some now, tests := fld b 52 2, sha := (b.drop 16).take 32, gen := fld b 48 4 }

/-- R260: a health report heard, but for the snapshot that it may ask for. -/
def State.heardReport (s : State) (b : List Byte) : State :=
  (s.noteEpoch (frameEpoch b)).modMember (fld b 2 1)
    fun x => x.told b (s.noteEpoch (frameEpoch b)).now

theorem State.snapshotStart_shown (s : State) : s.snapshotStart.regs = s.regs ∧ s.snapshotStart.grp.members = s.grp.members := by
  unfold State.snapshotStart
  split <;> exact ⟨rfl, rfl⟩

theorem State.healthRx_eq (hg : s.Good 3 72 b) :
    s.healthRx b = (s.heardReport b).slhSync ∨ s.healthRx b = (s.heardReport b).snapshotStart.slhSync := by
  have e : s.healthRx b = _ := State.slhRx_good hg _
  rw [e]
  dsimp only
  split
  · exact .inr rfl
  · exact .inl rfl

theorem State.heardReport_shown (hm : fld b 2 1 < s.grp.members.length) :
    s.keeps (s.heardReport b) [Reg.SLH_AEPOCH] ∧
    ((s.heardReport b).rd Reg.SLH_AEPOCH).toNat = max (s.rd Reg.SLH_AEPOCH).toNat (fld b 4 4) ∧
    (s.heardReport b).memberSt (fld b 2 1) = (s.memberSt (fld b 2 1)).told b s.now ∧
    ∀ m, m ≠ fld b 2 1 → (s.heardReport b).memberSt m = s.memberSt m := by
  have hN := s.notes_noteEpoch (frameEpoch b)
  refine ⟨hN.keeps, hN.held.trans (by rw [toNat_frameEpoch]), ?_, fun m hne => ?_⟩
  · unfold State.heardReport
    rw [State.memberSt_modMember_self (by rwa [hN.members]), State.memberSt_of_members hN.members,
      State.now_of_keeps hN.keeps (by decide) (by decide)]
  · unfold State.heardReport
    rw [State.memberSt_modMember_ne hne, State.memberSt_of_members hN.members]

theorem healthRx_effect (h : s.Live) (hg : s.Good 3 72 b) (hm : fld b 2 1 < s.grp.members.length) : ∃ t, exec (.healthRx b) s = .next t ∧
    t.memberSt (fld b 2 1) = (s.memberSt (fld b 2 1)).told b s.now ∧ (∀ m, m ≠ fld b 2 1 → t.memberSt m = s.memberSt m) ∧
    (t.rd Reg.SLH_AEPOCH).toNat = max (s.rd Reg.SLH_AEPOCH).toNat (fld b 4 4) ∧ s.keeps t [Reg.SLH_AEPOCH, Reg.SLH_STAT] ∧
    State.Touch [.grp] s t := by
  obtain ⟨hk, hH, hself, hother⟩ := State.heardReport_shown hm
  obtain ⟨v, hv, hregs, hmem⟩ : ∃ v : State, s.healthRx b = v.slhSync ∧ v.regs = (s.heardReport b).regs ∧
      v.grp.members = (s.heardReport b).grp.members := by
    rcases State.healthRx_eq hg with e | e
    · exact ⟨_, e, rfl, rfl⟩
    · exact ⟨_, e, (State.snapshotStart_shown _).1, (State.snapshotStart_shown _).2⟩
  have hK : s.keeps v.slhSync [Reg.SLH_AEPOCH, Reg.SLH_STAT] :=
    ((hk.of_regs hregs).mono (by decide)).trans (v.keeps_slhSync.mono (by decide))
  obtain ⟨he, hKm, hT⟩ := h.ends (c := .healthRx b) (f := fun s => s.healthRx b) rfl hv hK
    (hv ▸ (State.Touch.refl [.grp] s).healthRx b (by decide)) (by decide) (by decide)
  have hst : ∀ m, v.slhSync.mirror.memberSt m = (s.heardReport b).memberSt m := State.memberSt_of_members hmem
  refine ⟨_, he, (hst _).trans hself, fun m hne => (hst m).trans (hother m hne), ?_, hKm, hT⟩
  rw [State.rd_mirror _ (by decide) (by decide) (by decide), v.keeps_slhSync _ (by decide), State.rd_of_regs hregs, hH]

/-! Claims and offers (R267, R269, R274). -/

theorem claimRx_effect (h : s.Live) (hg : s.Good 4 44 b) (hc : s.commanding = false) (ha : s.slhAuth b = true) : ∃ t,
    exec (.claimRx b) s = .next t ∧ (t.rd Reg.SLH_EPOCH).toNat = max (s.rd Reg.SLH_EPOCH).toNat (fld b 4 4) ∧
    (t.rd Reg.SLH_AEPOCH).toNat = max (s.rd Reg.SLH_AEPOCH).toNat (fld b 4 4) ∧ s.keeps t [Reg.SLH_AEPOCH, Reg.SLH_EPOCH] ∧
    State.Touch [.grp] s t := by
  have hN := s.notes_noteEpoch (frameEpoch b)
  have hE : (s.noteEpoch (frameEpoch b)).rd Reg.SLH_EPOCH = s.rd Reg.SLH_EPOCH := hN.keeps _ (by decide)
  have hcn : (s.noteEpoch (frameEpoch b)).commanding = false := by
    rw [← hc]
    unfold State.commanding
    rw [hN.keeps.get Fld.SLH_STAT_ROLE (by decide)]
  have e : s.claimRx b = _ := State.slhRx_good hg _
  dsimp only at e
  rw [if_neg (by simp [ha]), State.seeEpoch_of_not_commanding hc, hcn, hE, toNat_frameEpoch] at e
  obtain ⟨u, hu, hK, hEu, hAu, hT⟩ : ∃ u, s.claimRx b = u ∧ s.keeps u [Reg.SLH_AEPOCH, Reg.SLH_EPOCH] ∧
      (u.rd Reg.SLH_EPOCH).toNat = max (s.rd Reg.SLH_EPOCH).toNat (fld b 4 4) ∧
      u.rd Reg.SLH_AEPOCH = (s.noteEpoch (frameEpoch b)).rd Reg.SLH_AEPOCH ∧ State.Touch [.grp] s u := by
    refine ⟨_, e, ?_⟩
    split
    next hlt =>
      refine ⟨((hN.keeps.mono (by decide)).wr _ _ (by decide)).of_regs rfl, ?_, State.rd_wr_ne _ _ (by decide),
        (hN.touch.wr _ _).modGrp _ (by decide)⟩
      show (((s.noteEpoch _).wr Reg.SLH_EPOCH _).rd Reg.SLH_EPOCH).toNat = _
      rw [State.rd_wr_self, toNat_frameEpoch]
      omega
    next hge =>
      have hle : fld b 4 4 ≤ (s.rd Reg.SLH_EPOCH).toNat := Nat.le_of_not_lt fun hlt => hge ⟨Bool.false_ne_true, hlt⟩
      exact ⟨hN.keeps.mono (by decide), by rw [hE]; omega, rfl, hN.touch⟩
  obtain ⟨he, hKm, hTm⟩ := h.ends (c := .claimRx b) (f := fun s => s.claimRx b) rfl hu hK hT (by decide) (by decide)
  refine ⟨_, he, ?_, ?_, hKm, hTm⟩
  · rw [State.rd_mirror _ (by decide) (by decide) (by decide), hEu]
  · rw [State.rd_mirror _ (by decide) (by decide) (by decide), hAu, hN.held, toNat_frameEpoch]

theorem offerRx_effect (h : s.Live) (hg : s.Good 5 44 b) (ha : s.slhAuth b = true) (hr : s.role = 0) (hme : fld b 16 1 = s.member)
    (he : fld b 4 4 = (s.rd Reg.SLH_EPOCH).toNat) : ∃ t, exec (.offerRx b) s = .next t ∧
    t.grp = { s.grp with called := some (fld b 24 4) } ∧ s.keeps t [] ∧ State.Touch [.grp] s t := by
  have hu : s.offerRx b = s.modGrp fun x => { x with called := some (fld b 24 4) } :=
    (State.slhRx_good hg _).trans ((if_neg (by simp [ha])).trans (if_pos ⟨hr, hme, BitVec.eq_of_toNat_eq ((toNat_frameEpoch b).trans he)⟩))
  obtain ⟨hx, hk, hT⟩ := h.ends (c := .offerRx b) (f := fun s => s.offerRx b) rfl hu (State.keeps_of_regs [] rfl)
    ((State.Touch.refl [.grp] s).modGrp _ (by decide)) (by decide) (by decide)
  exact ⟨_, hx, rfl, hk, hT⟩

/-! State frames (R261, R262). -/

/-- R261: a set of fragments with one more: the frame is complete, or more is awaited. -/
def State.takeFragment (s : State) (r : StateRx) : State := match joinParts r.parts r.cnt with
  | some d => s.stateComplete r d
  | none => s.modGrp fun x => { x with frags := some r }

/-- R261: fragment 0 of a state frame, alone. -/
def firstFragment (b : List Byte) : StateRx where
  frame := fld b 8 4
  cnt := fld b 17 1
  parts := [(0, (b.drop 24).take (fld b 18 2))]
  mac := if fld b 17 1 = 1 then (b.drop (24 + fld b 18 2)).take 16 else []

theorem State.takeFragment_joined {r : StateRx} {d : List Byte} (h : joinParts r.parts r.cnt = some d) (s : State) :
    s.takeFragment r = s.stateComplete r d := by
  unfold State.takeFragment
  rw [h]

theorem State.fragmentRx_first {n : Nat} (hg : s.Good 2 n b) (hr : s.role = 0) (he : fld b 4 4 = (s.rd Reg.SLH_EPOCH).toNat)
    (hf : s.grp.frags = none) (h0 : fld b 16 1 = 0) (hc : 0 < fld b 17 1 ∧ fld b 17 1 ≤ 64) (hl : 0 < fld b 18 2 ∧ fld b 18 2 ≤ 448)
    (hn : n = 24 + fld b 18 2 + if fld b 17 1 = 1 then 16 else 0) :
    s.fragmentRx b = (s.noteEpoch (frameEpoch b)).takeFragment (firstFragment b) := by
  have hN := s.notes_noteEpoch (frameEpoch b)
  have hfr := hN.sameFrames.1.trans hf
  have hE : BitVec.ofNat 32 (fld b 4 4) = (s.noteEpoch (frameEpoch b)).rd Reg.SLH_EPOCH := by
    rw [hN.keeps _ (by decide)]
    exact BitVec.eq_of_toNat_eq ((toNat_frameEpoch b).trans he)
  have hlast : decide (0 + 1 = fld b 17 1) = decide (fld b 17 1 = 1) := decide_eq_decide.2 eq_comm
  unfold State.fragmentRx
  dsimp only
  rw [h0, hlast]
  simp only [decide_eq_true_eq]
  rw [← hn, State.slhRx_good hg, if_neg (by omega), State.seeEpoch_of_not_commanding (State.commanding_of_role hr),
    if_neg (by rw [hN.role, hr]; exact fun e => e.elim (fun e => e rfl) (fun e => e hE)), hfr]
  rfl

theorem stateFragmentRx_waits (h : s.Live) (hg : s.Good 2 (24 + fld b 18 2) b) (hr : s.role = 0)
    (he : fld b 4 4 = (s.rd Reg.SLH_EPOCH).toNat) (hf : s.grp.frags = none) (h0 : fld b 16 1 = 0) (h2 : fld b 17 1 = 2)
    (hl : 0 < fld b 18 2 ∧ fld b 18 2 ≤ 448) : ∃ t, exec (.stateFragmentRx b) s = .next t ∧
    t.grp.frags = some { frame := fld b 8 4, cnt := 2, parts := [(0, (b.drop 24).take (fld b 18 2))], mac := [] } ∧
    t.grp.kept = s.grp.kept ∧ s.keeps t [Reg.SLH_AEPOCH] ∧ State.Touch [.grp] s t := by
  have hN := s.notes_noteEpoch (frameEpoch b)
  have hfirst : firstFragment b = { frame := fld b 8 4, cnt := 2, parts := [(0, (b.drop 24).take (fld b 18 2))], mac := [] } := by
    unfold firstFragment
    rw [h2]
    rfl
  have hu := State.fragmentRx_first hg hr he hf h0 (by omega) hl (by rw [h2]; rfl)
  rw [hfirst] at hu
  obtain ⟨hx, hk, hT⟩ := h.ends (c := .stateFragmentRx b) (f := fun s => s.fragmentRx b) rfl hu (hN.keeps.of_regs rfl)
    (hN.touch.modGrp _ (by decide)) (by decide) (by decide)
  exact ⟨_, hx, rfl, hN.sameFrames.2, hk, hT⟩

theorem State.sameFrames_opTake (s : State) (o : GrpOp) : s.SameFrames (s.opTake o) := by
  have happly : (s.opApply o.code o.body).grp = s.grp :=
    (State.Touch.refl [.mgt, .chans, .fab, .fus, .ctl, .alc, .can, .eth, .ana, .srv] s).opApply o.code o.body (fun _ => id) .grp (by decide)
  unfold State.opTake
  split
  · exact ⟨rfl, rfl⟩
  · split
    · exact ⟨rfl, rfl⟩
    · have hframes : (s.opApply o.code o.body).grp.frags = s.grp.frags ∧ (s.opApply o.code o.body).grp.kept = s.grp.kept := by
        rw [happly]
        exact ⟨rfl, rfl⟩
      exact hframes

theorem State.sameFrames_opsApply (s : State) (x : List Byte) : s.SameFrames (s.opsApply x) := by
  have heach : ∀ (l : List GrpOp) (s : State), s.SameFrames (s.each l fun o s => s.opTake o) := fun l => by
    induction l with
    | nil => exact fun s => ⟨rfl, rfl⟩
    | cons o l ih => exact fun s => ⟨(ih _).1.trans (s.sameFrames_opTake o).1, (ih _).2.trans (s.sameFrames_opTake o).2⟩
  unfold State.opsApply
  dsimp only
  split_ifs <;> exact heach _ s

theorem State.opsApply_nil_regs (s : State) : (s.opsApply []).regs = s.regs := by
  unfold State.opsApply
  dsimp only
  split_ifs <;> rfl

/-- R261: a complete state frame as it is kept, before its operations are applied. -/
def State.keepFrame (s : State) (r : StateRx) (d : List Byte) (p : Nat) : State :=
  (s.modGrp fun x => { x with frags := none, kept := some (r.frame, d, p) }).wr Reg.SLH_STATEF (BitVec.ofNat 32 r.frame)

theorem State.stateComplete_signed {r : StateRx} {d : List Byte} (h : r.mac = (hmac s.groupKey d).take 16) : ∃ p,
    s.stateComplete r d = ((s.keepFrame r d p).opsApply ((blockData (blocksOf 16 d) 8).getD [])).slhSync :=
  ⟨_, if_pos h⟩

theorem stateFragmentRx_completes (h : s.Live) (hg : s.Good 2 (40 + fld b 18 2) b) (hr : s.role = 0)
    (he : fld b 4 4 = (s.rd Reg.SLH_EPOCH).toNat) (hf : s.grp.frags = none) (h0 : fld b 16 1 = 0) (h1 : fld b 17 1 = 1)
    (hl : 0 < fld b 18 2 ∧ fld b 18 2 ≤ 448) {d : List Byte} (hd : (b.drop 24).take (fld b 18 2) = d)
    (hmac : (b.drop (24 + fld b 18 2)).take 16 = (hmac s.groupKey d).take 16) : ∃ t p, exec (.stateFragmentRx b) s = .next t ∧
    t.grp.frags = none ∧ t.grp.kept = some (fld b 8 4, d, p) ∧
    ((blockData (blocksOf 16 d) 8).getD [] = [] → t.rd Reg.SLH_STATEF = BitVec.ofNat 32 (fld b 8 4)) ∧
    State.Touch [.mgt, .chans, .fab, .fus, .ctl, .slv, .alc, .can, .eth, .ana, .srv, .grp, .port] s t := by
  have hN := s.notes_noteEpoch (frameEpoch b)
  have hkey : (s.noteEpoch (frameEpoch b)).groupKey = s.groupKey := by
    unfold State.groupKey
    rw [(hN.touch .cfg (by decide)).1]
  have hjoin : joinParts (firstFragment b).parts (firstFragment b).cnt = some d := by
    simp [firstFragment, h1, hd, joinParts]
  have hsigned : (firstFragment b).mac = (Machine.hmac (s.noteEpoch (frameEpoch b)).groupKey d).take 16 := by
    rw [hkey, ← hmac]
    exact if_pos h1
  obtain ⟨p, hp⟩ := State.stateComplete_signed hsigned
  have hu := ((State.fragmentRx_first hg hr he hf h0 (by omega) hl (by rw [h1, if_pos rfl]; omega)).trans
    (State.takeFragment_joined hjoin _)).trans hp
  have hsame := State.sameFrames_opsApply ((s.noteEpoch (frameEpoch b)).keepFrame (firstFragment b) d p)
    ((blockData (blocksOf 16 d) 8).getD [])
  have hT := (State.Touch.refl [.mgt, .chans, .fab, .fus, .ctl, .slv, .alc, .can, .eth, .ana, .srv, .grp, .port] s).fragmentRx b (fun _ => id)
  refine ⟨_, p, h.next (c := .stateFragmentRx b) (f := fun s => s.fragmentRx b) rfl hu, hsame.1, hsame.2, fun hops => ?_,
    (hu ▸ hT).mirror (fun _ h => nomatch h)⟩
  rw [State.rd_mirror _ (by decide) (by decide) (by decide), State.keeps_slhSync _ _ (by decide), hops,
    State.rd_of_regs (State.opsApply_nil_regs _)]
  exact State.rd_wr_self _ _ _

/-! Heartbeats of the commanding part (R264, R269). -/

/-- R269: a heartbeat has come from a member, and the part is not isolated. -/
def State.heardBeat (s : State) (b : List Byte) : State :=
  (s.modMember (fld b 2 1) fun x => { x with hbAt := some s.now, role := fld b 3 1 }).set Fld.SLH_STAT_ISOLATED 0

theorem State.keeps_heardBeat (s : State) (b : List Byte) : s.keeps (s.heardBeat b) [Reg.SLH_STAT] :=
  (State.keeps_of_regs (t := s.modMember _ _) _ rfl).set _ _ (by decide)

theorem State.role_heardBeat (s : State) (b : List Byte) : (s.heardBeat b).role = s.role :=
  State.get_set_disjoint _ _ _ _ (by decide) (by decide) (by decide)

theorem State.hbAt_heardBeat (hm : fld b 2 1 < s.grp.members.length) : ((s.heardBeat b).memberSt (fld b 2 1)).hbAt = some s.now := by
  unfold State.heardBeat
  rw [State.memberSt_of_members (State.set_members _ _ _), State.memberSt_modMember_self hm]

/-- R269: a heartbeat of the present epoch comes late. -/
def State.beatLate (s : State) (g : Word) : Bool := match s.grp.hb with
  | some h => decide (h.epoch = g ∧ h.at_ + 10000 < s.now)
  | none => false

/-- R269: HB_LATE counts a late heartbeat. -/
def State.countLate (s : State) (g : Word) : State := if s.beatLate g then s.count Fld.SLH_CNT1_HB_LATE else s

/-- Table 10-3: what the heartbeat of a commanding part tells, as it is kept. -/
def State.beatInfo (s : State) (b : List Byte) (m : Nat) (g : Word) : HbInfo where
  member := m
  epoch := g
  at_ := s.now
  frame := fld b 8 4
  frameT := BitVec.ofNat 32 (fld b 20 4)
  emitFrame := fld b 24 4
  emitState := fld b 28 1
  fillFrame := fld b 32 4
  planPeriod := fld b 36 4
  handover := fld b 29 1 / 2 % 2 = 1

/-- R264: the group as a heartbeat leaves it, with its offset of the frame start. -/
def State.takeBeat (s : State) (b : List Byte) (m : Nat) (g : Word) (fresh : Bool) : State :=
  let s' := s.modGrp fun x => { x with
    hb := some (s.beatInfo b m g), lost := none, applied := if fresh then 0 else x.applied
    alignOfs := alignDiff s.frame.start (BitVec.ofNat 32 (fld b 20 4)) s.frameNs }
  { s' with frame := { s'.frame with count := fld b 8 4 } }

/-- R264: an offset beyond the limit becomes the pending correction. -/
def State.askAlign (s : State) : State := if s.aligned then s else s.wr Reg.TB_ALIGN (ofInt32 (-s.grp.alignOfs))

theorem State.followBeat_eq (s : State) (b : List Byte) (m : Nat) (g : Word) : s.followBeat b m g =
    ((((s.countLate g).wr Reg.SLH_EPOCH g).takeBeat b m g (decide ((s.countLate g).rd Reg.SLH_EPOCH ≠ g))).askAlign).slhSync := rfl

theorem State.countLate_shown (s : State) (g : Word) : s.keeps (s.countLate g) [Reg.SLH_CNT1] ∧ (s.countLate g).rest = s.rest := by
  unfold State.countLate
  split
  · exact ⟨(s.keeps_refl _).count _ (by decide), rfl⟩
  · exact ⟨s.keeps_refl _, rfl⟩

theorem State.askAlign_shown (s : State) : s.keeps s.askAlign [Reg.TB_ALIGN] ∧ s.askAlign.rest = s.rest := by
  unfold State.askAlign
  split
  · exact ⟨s.keeps_refl _, rfl⟩
  · exact ⟨(s.keeps_refl _).wr _ _ (by decide), rfl⟩

theorem State.beatInfo_of_now (h : t.now = s.now) (b : List Byte) (m : Nat) (g : Word) : t.beatInfo b m g = s.beatInfo b m g := by
  unfold State.beatInfo
  rw [h]

/-- R264, R269: what a heartbeat of the commanding part leaves on a standby part. -/
structure State.Follows (s t : State) (b : List Byte) (m : Nat) (g : Word) : Prop where
  hb : t.grp.hb = some (s.beatInfo b m g)
  lost : t.grp.lost = none
  members : t.grp.members = s.grp.members
  frame : t.frame = { s.frame with count := fld b 8 4 }
  epoch : t.rd Reg.SLH_EPOCH = g
  keeps : s.keeps t [Reg.SLH_STAT, Reg.SLH_CNT1, Reg.SLH_EPOCH, Reg.TB_ALIGN]

theorem State.follows_takeBeat (s : State) (b : List Byte) (m : Nat) (g : Word) (fresh : Bool) :
    s.Follows (((s.countLate g).wr Reg.SLH_EPOCH g).takeBeat b m g fresh) b m g := by
  obtain ⟨hk, hr⟩ := s.countLate_shown g
  have hK : s.keeps ((s.countLate g).wr Reg.SLH_EPOCH g) [Reg.SLH_STAT, Reg.SLH_CNT1, Reg.SLH_EPOCH, Reg.TB_ALIGN] :=
    (hk.mono (by decide)).wr _ _ (by decide)
  have hgrp : ((s.countLate g).wr Reg.SLH_EPOCH g).grp = s.grp := State.grp_of_rest hr
  have hframe : ((s.countLate g).wr Reg.SLH_EPOCH g).frame = s.frame := State.frame_of_rest hr
  unfold State.takeBeat
  rw [State.beatInfo_of_now (State.now_of_keeps hK (by decide) (by decide))]
  exact {
    hb := rfl
    lost := rfl
    members := by rw [← hgrp]; rfl
    frame := by rw [← hframe]; rfl
    epoch := State.rd_wr_self _ _ _
    keeps := hK.of_regs rfl }

/-- A later step that writes only SLH_STAT and TB_ALIGN leaves what the heartbeat left. -/
theorem State.Follows.then {u : State} {m : Nat} {g : Word} (h : s.Follows t b m g) (hk : t.keeps u [Reg.SLH_STAT, Reg.TB_ALIGN])
    (hr : u.rest = t.rest) : s.Follows u b m g where
  hb := (congrArg GrpSt.hb (State.grp_of_rest hr)).trans h.hb
  lost := (congrArg GrpSt.lost (State.grp_of_rest hr)).trans h.lost
  members := (congrArg GrpSt.members (State.grp_of_rest hr)).trans h.members
  frame := (State.frame_of_rest hr).trans h.frame
  epoch := (hk _ (by decide)).trans h.epoch
  keeps := h.keeps.trans (hk.mono (by decide))

theorem State.follows_followBeat (s : State) (b : List Byte) (m : Nat) (g : Word) : s.Follows (s.followBeat b m g) b m g := by
  rw [State.followBeat_eq]
  have h := s.follows_takeBeat b m g (decide ((s.countLate g).rd Reg.SLH_EPOCH ≠ g))
  obtain ⟨hk, hr⟩ := State.askAlign_shown (((s.countLate g).wr Reg.SLH_EPOCH g).takeBeat b m g _)
  exact (h.then (hk.mono (by decide)) hr).then ((State.keeps_slhSync _).mono (by decide)) rfl

theorem State.heartbeatRx_follows (hg : s.Good 1 40 b) (hcmd : fld b 3 1 = 1) (hr : s.role = 0)
    (he : (s.rd Reg.SLH_EPOCH).toNat ≤ fld b 4 4) : s.heartbeatRx b =
    ((s.heardBeat b).noteEpoch (frameEpoch b)).followBeat b (fld b 2 1) (frameEpoch b) := by
  have hN := (s.heardBeat b).notes_noteEpoch (frameEpoch b)
  have hrole : ((s.heardBeat b).noteEpoch (frameEpoch b)).role = 0 := hN.role.trans ((s.role_heardBeat b).trans hr)
  have hE : ((s.heardBeat b).noteEpoch (frameEpoch b)).rd Reg.SLH_EPOCH = s.rd Reg.SLH_EPOCH :=
    (hN.keeps _ (by decide)).trans (s.keeps_heardBeat b _ (by decide))
  have hsee : (s.heardBeat b).seeEpoch (frameEpoch b) = _ :=
    State.seeEpoch_of_not_commanding (State.commanding_of_role ((s.role_heardBeat b).trans hr)) _
  have e : s.heartbeatRx b = _ := State.slhRx_good hg _
  rw [e]
  unfold State.heardBeat at hsee hrole hE ⊢
  dsimp only
  rw [hsee, if_neg (not_not.2 hcmd), State.commanding_of_role hrole, if_neg Bool.false_ne_true, hrole,
    if_neg (by decide : ¬ (0 : Nat) = 2), toNat_frameEpoch, hE, if_neg (Nat.not_lt.2 he)]

theorem heartbeatRx_effect (h : s.Live) (hg : s.Good 1 40 b) (hcmd : fld b 3 1 = 1) (hr : s.role = 0)
    (he : (s.rd Reg.SLH_EPOCH).toNat ≤ fld b 4 4) (hm : fld b 2 1 < s.grp.members.length) : ∃ t i, exec (.heartbeatRx b) s = .next t ∧
    t.grp.hb = some i ∧ i.member = fld b 2 1 ∧ i.epoch = BitVec.ofNat 32 (fld b 4 4) ∧ i.at_ = s.now ∧ i.frame = fld b 8 4 ∧
    i.fillFrame = fld b 32 4 ∧ t.frame = { s.frame with count := fld b 8 4 } ∧ (t.rd Reg.SLH_EPOCH).toNat = fld b 4 4 ∧
    t.grp.lost = none ∧ (t.memberSt (fld b 2 1)).hbAt = some s.now ∧
    s.keeps t [Reg.SLH_STAT, Reg.SLH_CNT1, Reg.SLH_AEPOCH, Reg.SLH_EPOCH, Reg.TB_ALIGN] ∧ State.Touch [.grp, .frame] s t := by
  have hu := State.heartbeatRx_follows hg hcmd hr he
  have hN := (s.heardBeat b).notes_noteEpoch (frameEpoch b)
  have hF := ((s.heardBeat b).noteEpoch (frameEpoch b)).follows_followBeat b (fld b 2 1) (frameEpoch b)
  have hkn : s.keeps ((s.heardBeat b).noteEpoch (frameEpoch b)) [Reg.SLH_STAT, Reg.SLH_AEPOCH] :=
    ((s.keeps_heardBeat b).mono (by decide)).trans (hN.keeps.mono (by decide))
  have hTb : State.Touch [.grp] s (s.heardBeat b) := ((State.Touch.refl _ s).modMember _ _ (by decide)).set _ _
  have hT := ((hTb.trans hN.touch).mono (l' := [.grp, .frame]) (by decide)).followBeat b (fld b 2 1) (frameEpoch b) (by decide)
  generalize ((s.heardBeat b).noteEpoch (frameEpoch b)).followBeat b (fld b 2 1) (frameEpoch b) = u at hu hF hT
  obtain ⟨hx, hK, hTm⟩ := h.ends (c := .heartbeatRx b) (f := fun s => s.heartbeatRx b) rfl hu
    (l := [Reg.SLH_STAT, Reg.SLH_CNT1, Reg.SLH_AEPOCH, Reg.SLH_EPOCH, Reg.TB_ALIGN])
    ((hkn.mono (by decide)).trans (hF.keeps.mono (by decide))) hT (by decide) (by decide)
  have hnow : ((s.heardBeat b).noteEpoch (frameEpoch b)).now = s.now := State.now_of_keeps hkn (by decide) (by decide)
  have hframe : ((s.heardBeat b).noteEpoch (frameEpoch b)).frame = s.frame := (hTb.trans hN.touch) .frame (by decide)
  have hmem : u.mirror.memberSt (fld b 2 1) = (s.heardBeat b).memberSt (fld b 2 1) :=
    State.memberSt_of_members ((congrArg GrpSt.members u.mirror_grp).trans (hF.members.trans hN.members)) _
  refine ⟨_, _, hx, (congrArg GrpSt.hb u.mirror_grp).trans hF.hb, rfl, rfl, hnow, rfl, rfl,
    u.mirror_frame.trans (hF.frame.trans (by rw [hframe])), ?_, (congrArg GrpSt.lost u.mirror_grp).trans hF.lost, ?_, hK, hTm⟩
  · rw [State.rd_mirror _ (by decide) (by decide) (by decide), hF.epoch, toNat_frameEpoch]
  · rw [hmem, State.hbAt_heardBeat hm]

/-! The counters (R277). -/

theorem slhCntClr_clears (h : s.Live) : ∃ t, exec .slhCntClr s = .next t ∧ t.rd Reg.SLH_CNT0 = 0 ∧ t.rd Reg.SLH_CNT1 = 0 ∧
    s.keeps t [Reg.SLH_CNT0, Reg.SLH_CNT1] ∧ t.rest = s.rest := by
  obtain ⟨he, hK, -⟩ := h.ends (c := .slhCntClr) (p := []) rfl rfl
    (((s.keeps_refl [Reg.SLH_CNT0, Reg.SLH_CNT1]).wr Reg.SLH_CNT0 0 (by decide)).wr Reg.SLH_CNT1 0 (by decide))
    (((State.Touch.refl _ s).wr _ _).wr _ _) (by decide) (by decide)
  refine ⟨_, he, ?_, ?_, hK, rfl⟩
  · rw [State.rd_mirror _ (by decide) (by decide) (by decide), State.rd_wr_ne _ _ (by decide), State.rd_wr_self]
  · rw [State.rd_mirror _ (by decide) (by decide) (by decide), State.rd_wr_self]

/-- Settles O43: the frames that are sent, those that are counted and dropped, and each payload as it is taken. -/
theorem silharFramesAreSentAndHeard : Obligations.SilharFramesAreSentAndHeard := by
  unfold Obligations.SilharFramesAreSentAndHeard
  refine ⟨fun s g h hs hg hl => heartbeatDue_sends h hs hg hl, fun s g h hr hs hg hl => formingHealthDue_sends h hr hs hg hl,
    fun s c n b hc h hs hb => shortFrame_counted h hc hs hb, fun s b h hg h3 => ?_,
    fun s b h hg hc ha => claimRx_effect h hg hc (State.slhAuth_iff.2 ha),
    fun s c b hc h ha => unsignedFrame_counted h hc (Bool.eq_false_iff.2 fun e => ha (State.slhAuth_iff.1 e)),
    fun s b h hg ha hr hme he => offerRx_effect h hg (State.slhAuth_iff.2 ha) hr hme he,
    fun s b h hg hr he hf h0 h2 hl hl' => stateFragmentRx_waits h hg hr he hf h0 h2 ⟨hl, hl'⟩,
    fun s b h hg hr he hf h0 h1 hl hl' ha => stateFragmentRx_completes h hg hr he hf h0 h1 ⟨hl, hl'⟩ rfl ha,
    fun s b h hg hcmd hr he h3 => heartbeatRx_effect h hg hcmd hr he (State.Good.sender_lt hg h3), fun s h => slhCntClr_clears h⟩
  · obtain ⟨t, ht, hself, hother, hA, hK, hT⟩ := healthRx_effect h hg (State.Good.sender_lt hg h3)
    exact ⟨t, ht, by rw [hself]; rfl, by rw [hself]; rfl, by rw [hself]; rfl, by rw [hself]; rfl, hother, hA, hK, hT⟩

end Sys2Proof.Machine
end

section
/-!
The claim at formation (R265, R266, R432): every function starts in STANDBY before the claim takes its epoch, and an overlay that ends
there writes back the registers that it names, whichever they are.  Refutes O44.
-/
namespace Sys2Proof.Machine

/-- An image whose overlay of TRIALS names SLH_AEPOCH among its registers. -/
def epochOverlayImage : ImageCfg :=
  { trialsImage with ctl := { trialsImage.ctl with overlays := [{ trialsOverlay with regs := [(Reg.SLH_AEPOCH, 8)] }] } }

/-- A part that runs that image while FORMING, healthy and in TRIALS, and that holds the epoch 8 of SLH_AEPOCH. -/
def trialsForming : State :=
  ((((({ rst := { inReset := false, resetN := false }, base := some epochOverlayImage, cfg := some epochOverlayImage
         saf := { slate := { ok := true }, cobalt := { ok := true } }, grp := { started := true, testAt := some 0 } } : State).set
    Fld.SLH_STAT_ROLE 2).set Fld.TB_STAT_PTP_OK 1).set Fld.CTL_MODESTAT_MODE 11).wr Reg.SLH_AEPOCH 8).mirror

theorem trialsForming_live : trialsForming.Live := ⟨rfl, State.mirror_inv _⟩

theorem trialsForming_claims : trialsForming.silhar = true ∧ trialsForming.commanding = false ∧
    trialsForming.member < trialsForming.groupSize ∧ trialsForming.formEligible = true ∧ trialsForming.lowerForming = false := by
  decide +kernel

/-- R266, R432: the functions start in STANDBY before the claim, so the overlay gives SLH_AEPOCH back its base value 0, and the claim
takes epoch 4 where 12 is the part's next above 8. -/
theorem formWaitExpired_claims_below : (trialsForming.running State.formWaitExpired).rd Reg.SLH_EPOCH = 4 ∧
    trialsForming.rd Reg.SLH_AEPOCH = 8 ∧ trialsForming.member = 0 := by
  decide +kernel

/-- Refutes O44 by its first clause: a part that claims at formation in a mode whose overlay names SLH_AEPOCH takes an epoch that does
not follow the one it held. -/
theorem not_theRoleIsClaimedAndGivenUp : ¬ Obligations.TheRoleIsClaimedAndGivenUp := by
  unfold Obligations.TheRoleIsClaimedAndGivenUp
  rintro ⟨hform, -⟩
  obtain ⟨hs, hc, hm, he, hl⟩ := trialsForming_claims
  obtain ⟨hepoch, hheld, hmember⟩ := formWaitExpired_claims_below
  obtain ⟨t, ht, -, hnext, -⟩ := hform trialsForming trialsForming_live hs hc hm he hl
  obtain rfl : trialsForming.running State.formWaitExpired = t := Host.Outcome.next.inj ht
  beta_reduce at hnext
  rw [hheld, hmember, hepoch] at hnext
  exact absurd hnext (by decide)

end Sys2Proof.Machine
end
